-- ==== Sys2Proof/Word.lean ====
section
/-! DEFINITION. The register word, the place of a field in the register window, and the rows of the register map (R5, R6, R7, R479). -/

namespace Sys2Proof

/-- A register is 32 bits wide (R5). -/
abbrev Word := BitVec 32

namespace Machine

/-- The place of one register field: byte offset of its register in the window, lowest bit, width. -/
structure Fld where
  off : Nat
  lo : Nat
  w : Nat
deriving DecidableEq, Repr

/-- The access types of R7. -/
inductive AccType where
  | rw | ro | wo | w1c | w1s | rc | rwl
deriving DecidableEq, Repr

/-- Which written values a field takes (R479): any; only those of a range or list; or a value outside
the range is written as the nearer limit. -/
inductive Validity where
  | any
  | range (lo hi : Nat)
  | oneOf (l : List Nat)
  | nearer (lo hi : Nat)
deriving DecidableEq, Repr

/-- One row of a register table: lowest bit, width, access, reset value, valid values, and whether the
Effect column names the OPERATOR role (R55), and whether it is loaded from the cellar at start (P, R6). -/
structure FldRow where
  lo : Nat
  w : Nat
  acc : AccType
  reset : Nat
  valid : Validity
  oper : Bool
  pers : Bool
deriving DecidableEq, Repr

/-- A register of a page, repeated `count` times every `stride` bytes from `base`. -/
structure RegRow where
  base : Nat
  stride : Nat
  count : Nat
  fields : List FldRow
deriving DecidableEq, Repr

/-- The low `w` bits of a number. -/
def low (w n : Nat) : Nat := n % 2 ^ w

/-- Bit `i` of a number. -/
def bit (n i : Nat) : Bool := n / 2 ^ i % 2 == 1

/-- Bits `lo + w - 1` down to `lo` of a number. -/
def bits (n lo w : Nat) : Nat := n / 2 ^ lo % 2 ^ w

end Machine
end Sys2Proof
end

