-- ==== Sys2Proof/Syntax.lean ====
section
/-! DEFINITION. The commands of the block: one constructor of `Instr` per row of the opcode table, and the types of their operands. -/

namespace Sys2Proof.Machine

/-- A requester instance (R8): the supervisor, a context, an SSP session by number, or SX (false) / SY (true). -/
inductive Requester where
  | sup
  | prg (ctx : Nat)
  | net (session : Nat)
  | saf (sy : Bool)
deriving DecidableEq, Repr

/-- The roles of an SSP session (R8). -/
inductive Role where
  | viewer | operator | engineer
deriving DecidableEq, Repr

end Sys2Proof.Machine

namespace Sys2Proof.Machine

/-- The ports through which the module sends. -/
inductive Port where
  | lnkA | lnkB | netA | netB | net | can (p : Fin 4) | pair | claimWire | hart (ch : Nat) | firmwareLog
  | label | panel
deriving DecidableEq, Repr

/-- Something the module puts on a port or answers to a requester. Log: 13 (DESIGN CHOICE). -/
inductive Out where
  /-- Answer of a register access: requester, offset, access code, value read. -/
  | access (r : Requester) (off code : Nat) (data : Word)
  /-- A frame or message on a port: its kind, as the spec names it, and its content in order. -/
  | frame (port : Port) (kind : String) (words : List Nat)
deriving DecidableEq, Repr

end Sys2Proof.Machine

namespace Sys2Proof.Machine

/-- The discipline sources of the TSU (R81). -/
inductive TimeSource where
  | ptp | pps | pair
deriving DecidableEq, Repr

end Sys2Proof.Machine

namespace Sys2Proof.Machine

/-- Integer and floating operations of opcodes 0x10 to 0x1A (R101). -/
inductive Arith where
  | add | sub | mul | div | rem | min | max | neg | abs | sqrt | fma
deriving DecidableEq, Repr

/-- Bitwise, shift and rotate operations of opcodes 0x20 to 0x27. -/
inductive Logic where
  | and | or | xor | not | shl | shr | rol | ror
deriving DecidableEq, Repr

/-- Comparisons of opcodes 0x30 to 0x35. -/
inductive Cmp where
  | eq | ne | lt | le | gt | ge
deriving DecidableEq, Repr

/-- An LVC instruction with its operands (R100, R101). Slots, indices and word offsets are numbers. -/
inductive Insn where
  | nop
  | endCycle
  | trap (s1 : Nat)
  | mov (d s1 : Nat)
  | mov64 (d s1 : Nat)
  | ldi (d : Nat) (imm : Nat)
  | ldk (d idx : Nat)
  | ldx (d s1 base n : Nat)
  | stx (d s1 base n : Nat)
  | arith (op : Arith) (t d s1 s2 : Nat)
  | logic (op : Logic) (t d s1 s2 : Nat)
  | cmp (op : Cmp) (t d s1 s2 : Nat)
  | cvt (trunc : Bool) (dst src d s1 : Nat)
  | cmov (t d s1 s2 : Nat)
  | br (off : Int)
  | brt (s1 : Nat) (off : Int)
  | brf (s1 : Nat) (off : Int)
  | call (off : Int)
  | ret
  | loop (d : Nat) (off : Int)
  | gld (d idx : Nat)
  | gst (s1 idx : Nat)
  | ird (d idx : Nat)
  | iq (d idx : Nat)
  | iage (d idx : Nat)
  | owr (s1 idx : Nat)
  | tlatch (d : Nat)
  | tpos (d base : Nat)
  | cstat (d : Nat)
  | xflags (d : Nat)
  | rrd (d s1 off : Nat)
  | rwr (d s1 off : Nat)
  | rrd64 (d s1 off : Nat)
  | rwr64 (d s1 off : Nat)
  | rrdx (d s1 addr : Nat)
  | rwrx (d s1 addr : Nat)
  | ssub (d base job : Nat)
  | scan (d base job : Nat)
  | recApp (d s1 sev typ len : Nat)
deriving DecidableEq, Repr

end Sys2Proof.Machine

namespace Sys2Proof.Machine

/-- How far a running solver job has come when something cuts it (R222): inside its start pass, with some row blocks of a
factorisation completed, with some steps completed, or inside the true residual that follows them. -/
inductive SolAt where
  | startPass
  | factoring (blocks : Nat)
  | steps (n : Nat)
  | residual (n : Nat)
deriving DecidableEq, Repr

end Sys2Proof.Machine

namespace Sys2Proof.Machine

/-- What a sampling instant of a channel gives (R40, R232): the converter code, the window's length, whether instants
merged, whether SP is in its 25 mA limit, the voltage the load takes in mV and the junction temperature in 1/16 °C. -/
structure Sample where
  code : Int
  windowNs : Nat
  merged : Bool
  spLimit : Bool
  loadMv : Nat
  tj : Int
deriving DecidableEq, Repr

/-- A HART response as received (R265): parity and check byte in order, frame format, address and command it carries, its
two status bytes, data bytes, and the variables of commands 1 and 3 in binary32. -/
structure HartRsp where
  sound : Bool
  long : Bool
  addr : Nat
  devType : Nat
  devId : Nat
  cmd : Nat
  respCode : BitVec 8
  devStatus : BitVec 8
  data : List (BitVec 8)
  vars : List Word
deriving DecidableEq, Repr

/-- A safety-side element as the island reads it at a cycle start: KIND 1 or 3, its channel, the state, and the cause
of level BAD, 0 for GOOD (R280). -/
structure SafIn where
  kind : Nat
  ch : Nat
  on : Bool
  cause : Nat
deriving DecidableEq, Repr

end Sys2Proof.Machine

namespace Sys2Proof.Machine

/-- An IN frame as received (R301, R303). Times in ns, TURN and RES in 2^-8 ns; DATA as one little-endian number. -/
structure LinkIn where
  portB : Bool
  version : Nat
  src : Nat
  mac : Nat
  len : Nat
  seq : Nat
  claim : Nat
  res : Nat
  sample : Nat
  turn : Nat
  status : Nat
  appliedSeq : Nat
  data : Nat
  arrival : Nat
deriving DecidableEq, Repr

/-- A HELLO frame (R304). -/
structure LinkHello where
  portB : Bool
  addr : Nat
  mac : Nat
  verMax : Nat
  only100 : Bool
  typ : Nat
  inCap : Nat
  outCap : Nat
  resMax : Nat
deriving DecidableEq, Repr

end Sys2Proof.Machine

namespace Sys2Proof.Machine

/-- A frame received on a plant port (R322 to R324): source MAC, sequence number and LAN of its RCT, VLAN identifier of
its tag, and whether it is an IPv4 fragment or carries options. -/
structure PrpRx where
  portB : Bool
  src : Nat
  rct : Option (Nat × Bool)
  vlan : Option Nat
  frag : Bool
deriving DecidableEq, Repr

/-- The data set of a master as its Announce gives it, in the order of the comparison (R325, R326). -/
structure PtpSet where
  prio1 : Nat
  cls : Nat
  accuracy : Nat
  variance : Nat
  prio2 : Nat
  gm : Nat
  steps : Nat
  sender : Nat
deriving DecidableEq, Repr

/-- A Sync or Follow_Up as received (R327): times and corrections in 2^-16 ns, the rate the servo derives in 2^-16 ppb.
In a Sync `time` is the receipt t2, in a Follow_Up the origin t1. Log: 105 (DESIGN CHOICE). -/
structure PtpSync where
  portB : Bool
  domain : Nat
  sender : Nat
  seq : Nat
  twoStep : Bool
  time : Int
  correction : Int
  rate : Int
deriving DecidableEq, Repr

end Sys2Proof.Machine

namespace Sys2Proof.Machine

/-- A CAN frame on the bus: identifier, format bits, data as one little-endian number, and the TSU time of its start of frame. -/
structure CanFrame where
  id : Nat
  ide : Bool
  rtr : Bool
  dlc : Nat
  fdf : Bool
  brs : Bool
  esi : Bool
  len : Nat
  data : Nat
  sofNs : Nat
  sofSec : Nat
deriving DecidableEq, Repr

/-- How a transmission attempt ends (R351). -/
inductive CanEnd where
  | sent | lost | error
deriving DecidableEq, Repr

end Sys2Proof.Machine

namespace Sys2Proof.Machine

/-- A PAIR heartbeat (R361, R381, R476): claim, computed health, module state, role, SYNC, departure, whether the
sender's first cycle is complete, FLOAT_READY, offered versions, identities, the application vintage its cask holds
MARKED (0 none), and its angle bases: extended position,
frequency in µHz and whether the base is LOCKED, for ABS0 and ABS1. Log: 85 (DEDUCED). -/
structure PairBeat where
  claim : Nat
  health : Nat
  state : Nat
  role : Nat
  sync : Nat
  departing : Bool
  cycled : Bool
  floatReady : Bool
  verLo : Nat
  verHi : Nat
  unitA : Bool
  vintage : Nat
  imageCrc : Nat
  safCrc : Nat
  cfg : Nat
  timing : Nat
  marked : Nat
  pos0 : Nat
  freq0 : Nat
  locked0 : Bool
  pos1 : Nat
  speed1 : Nat
  /-- The message's check holds. -/
  sound : Bool := true
deriving DecidableEq, Repr

/-- A heartbeat frame on CAN3 (R385). -/
structure CanBeat where
  claim : Nat
  role : Nat
  departing : Bool
  synced : Bool
  seq : Nat
  health : Nat
deriving DecidableEq, Repr

/-- A factor: entries in factor order and reciprocal pivots by row, as 32-bit words, binary32 in float mode and fixed point
in certified mode, and the rows whose pivot was replaced (R215, R217, R218). -/
structure SolFact where
  ents : List Nat := []
  recip : List Nat := []
  replaced : List Nat := []
deriving DecidableEq, Repr

/-- A pattern as carried: values, right-hand side, current solution, SOL_FACT word, the factor in use with its SOL_TAU
exponent, and the checkpoint with its mode. -/
structure JoinPat where
  vals : List Nat
  rhs : List Nat
  sol : List Nat
  fact : Word
  tau : Nat := 20
  factor : SolFact := {}
  pend : SolFact := {}
  pendCert : Bool := false
deriving DecidableEq, Repr

/-- One item of the bulk transfer (R381): a context with slots, sticky flags, own globals, STATE and STOP_WHY; a pattern;
the force table; a channel's HART item. -/
inductive JoinItem where
  | context (c : Fin 256) (slots : List Word) (flags : Nat) (own : List (Nat × Nat)) (stopped : Bool) (why : Nat)
  | pattern (logical : Fin 8) (p : JoinPat)
  | forces (table : List (Nat × Nat × Nat × Nat × Nat))
  | hart (ch : Fin 64) (vars : List Nat) (status time : Nat)
deriving DecidableEq, Repr

/-- What the standby takes from the primary (R370): a latch set with latch instant, positions, and elements as index,
value, quality byte and age; the answer of a waiting instruction, with SSUB's whether the job runs in float mode; the
published result of a job slot; the receipt bitmap, which each unit sends. `lag` in 10 ns. -/
inductive PairSet where
  | latch (c : Fin 256) (latchT pos0 pos1 : Nat) (els : List (Nat × Nat × Nat × Int)) (lag : Nat)
  | answer (c : Fin 256) (code data : Nat) (mode : Option Bool)
  | result (slot : Fin 16) (status iters bound : Nat) (x : List Nat)
  | receipt (bitmap : Nat)
deriving DecidableEq, Repr

/-- A pair command (R161, R174, R374): a force command with the TSU instant `at_` in ns at which it acts; a change
package, its ARM, its commit with the TSU instant, and its end on the partner, by a refusal or by a command; the round at
which EPOCH falls from `old` to 1 (R365). -/
inductive PairCmd where
  | force (cmd : Fin 4) (vid tag value level time at_ : Nat)
  | package (words : List Word)
  | arm
  | commit (at_ : Nat)
  | ended (refused : Bool)
  | epoch (old : Nat)
deriving DecidableEq, Repr

end Sys2Proof.Machine

namespace Sys2Proof.Machine

/-- What an uncorrectable DRAM line held (R394): for recorder buffers the first record of the queue and how many are
hit; for a HART ring the channel; for a CAN ring the port and entry number. -/
inductive DramRegion where
  | program
  | recorder (first count : Nat)
  | hart (ch : Fin 64)
  | can (port : Fin 4) (num : Nat)
  | display
  | supervisor
  | unused
deriving DecidableEq, Repr

/-- What an uncorrectable SRAM word held (R396): an engine's resident places, an input or output image element of a
context, a job slot's buffer, the mirror buffer, the staged package, or the store of a logical pattern slot. -/
inductive SramRegion where
  | engine (n : Fin 16) (places : List Nat)
  | input (c : Fin 256) (el : Nat)
  | output (c : Fin 256) (el : Nat)
  | job (slot : Fin 16)
  | mirror
  | package
  | store (logical : Fin 8)
deriving DecidableEq, Repr

end Sys2Proof.Machine

namespace Sys2Proof.Machine

/-- The persistent-state records of cellar area 5 (R397, R399). -/
inductive CelRec where
  | config (page : Nat)
  | trims (ch : Nat)
  | forceTable
  | lockout
  /-- UPDATE and SHOWN of a region of the label (R442). -/
  | label (region : Nat)
  | shown (region : Nat)
  | tsuTrim
  | optime
  | pcc
  | cask
  | racking
deriving DecidableEq, Repr

/-- What a start finds (R427): whether the active and the fallback firmware read back whole, racking that has to be
abandoned as (phase, segment), the service code of each engine's self-test (0 a pass) and of the solver's, failed lane
groups, failed modems and channels, a DRAM device to mark, the cause of a failed island self-test (0 none), records of
area 5 without a valid copy, spare blocks of the cellar and its rated endurance used in percent. -/
structure StartIn where
  fwOk : Bool
  fbOk : Bool
  rackStop : Option (Fin 4 × Nat)
  engines : List Nat
  solFail : Nat
  groups : Fin 16
  divOk : Bool
  modems : List (Fin 16)
  channels : List (Fin 64)
  dram : Option (Fin 10)
  island : Fin 15
  lost : List CelRec
  spare : Nat
  used : Nat
  /-- Phase and next segment at which a loss of power will find racking: the start goes no further (R424, R434). -/
  rackCut : Option (Fin 4 × Nat) := none
deriving DecidableEq, Repr

end Sys2Proof.Machine

namespace Sys2Proof.Machine

/-- Width of an access to the register window (R51). -/
inductive AccSize where
  | byte
  | half
  | word
deriving DecidableEq, Repr

/-- What a register write of any kind may find: how far a running solver job has come when the write cancels it, and
what a RESTART that it commands finds. Log: 20 (DESIGN CHOICE). -/
structure AccIn where
  made : SolAt
  start : StartIn
deriving DecidableEq, Repr

end Sys2Proof.Machine

namespace Sys2Proof.Machine

/-- What every SSP request carries (R331, R333): its session and SEQ, whether four requests of the session are still
unanswered as it arrives, and whether its payload does not fit the service. Log: 116 (DEDUCED). -/
structure SspHdr where
  session : Nat
  seq : Nat
  busy : Bool
  malformed : Bool
deriving DecidableEq, Repr

/-- An OPEN request (R331, R332, R462): client address, the header's 20 bytes, then the payload's fields; keys, nonce and
signature as bytes. -/
structure SspOpen where
  peer : Nat
  seq : Nat
  header : List Nat
  verMin : Nat
  verMax : Nat
  role : Nat
  reserved : Nat
  clientKey : List Nat
  nonce : List Nat
  cred : List Nat
  sig : List Nat
deriving DecidableEq, Repr

end Sys2Proof.Machine

namespace Sys2Proof

open Machine

/-- The commands and events of the module, one per row of the opcode table. -/
inductive Instr where
  /-- REGISTER_WRITE (R7): A write to a register that has no row of its own; it is judged under R55 to R60 and R479 and performed whole or refused whole. -/
  | registerWrite (r : Requester) (off : Nat) (size : AccSize) (v : Word) (found : AccIn)
  /-- ACC_REFUSED_RECORD (R65): At most once per second per requester instance, an ACC_REFUSED record is written carrying the count of refusals since its last record. -/
  | accRefusedRecord (r : Requester)
  /-- RC_READ (R7): A read of an RC field returns the field and clears it; a read of SYS_ACC_ERR_CNT also re-arms the refusal capture. -/
  | rcRead (r : Requester) (off : Nat) (size : AccSize)
  /-- REG64_LO_READ (R61): A read of a _LO register returns the low word and latches the high word in the requester's latch. -/
  | reg64LoRead (r : Requester) (off : Nat)
  /-- REG64_LO_WRITE (R61): A write to a writable _LO register is held in the requester's latch. -/
  | reg64LoWrite (r : Requester) (off : Nat) (v : Word)
  /-- REG64_HI_WRITE (R61): A write to _HI writes both words in one fabric clock, or the high word alone when no _LO write preceded it. -/
  | reg64HiWrite (r : Requester) (off : Nat) (v : Word)
  /-- EVT_TEST (R7): Writing 1 to BLK_CTL.EVT_TEST sets BLK_EVT_RAW.TEST. -/
  | evtTest (r : Requester) (page : Nat) (gate : Bool)
  /-- EVT_PEND_CLEAR (R67): A W1C write to BLK_EVT_PEND clears pending and raw bits, which may let the event line fall. -/
  | evtPendClear (r : Requester) (page : Nat) (v : Word)
  /-- EVENT_LINE_EDGE (R66): A rising edge of an event line sets SYS_EVL_EDGE and triggers the EVENT contexts on that line. -/
  | eventLineEdge (line : Fin 256)
  /-- PAGE_UNLOCK (R60): Writing the unlock key to BLK_LOCK unlocks the page and records the writer as HOLDER. -/
  | pageUnlock (r : Requester) (page : Nat)
  /-- PAGE_LOCK (R60): Writing any other value to BLK_LOCK by the holder or SUP locks the page. -/
  | pageLock (r : Requester) (page : Nat) (v : Word)
  /-- PAGE_LOCK_TIMEOUT (R60): 100 ms after the unlock or the last accepted RWL write, the page locks again. -/
  | pageLockTimeout (page : Nat)
  /-- MODULE_START (R427): Power good begins the start sequence of steps 1 to 8, ending in the state set by SYS_START_CFG.TARGET. -/
  | moduleStart (unitSel : Fin 4) (found : StartIn)
  /-- CORE_INPUT_RISE (R46): A first core input rises above 18.0 V and input qualification begins while the hardware holds every output de-energised. -/
  | coreInputRise (cp : Fin 2) (mv : Nat)
  /-- INPUT_QUALIFICATION_END (R46): After 100 ms of qualification the internal rails ramp toward power good. -/
  | inputQualificationEnd
  /-- JOIN_WAIT_EXPIRY (R380): On a pair base, JOIN_WAIT ends without an answer and the unit becomes PRIMARY with the partner reported absent. -/
  | joinWaitExpiry
  /-- CORE_INPUT_LOST (R37): One core input falls out of range; the loss is reported and recorded without change of behaviour. -/
  | coreInputLost (cp : Fin 2) (mv : Nat)
  /-- CORE_INPUT_RETURN (R37): A lost core input returns to range and the return is recorded. -/
  | coreInputReturn (cp : Fin 2) (mv : Nat)
  /-- CORE_OVERVOLTAGE_DISCONNECT (R36): An input above 34 V for 1 ms is disconnected and treated as lost. -/
  | coreOvervoltageDisconnect (cp : Fin 2) (mv : Nat)
  /-- CORE_OVERVOLTAGE_RECONNECT (R36): An input below 33 V for 100 ms is reconnected. -/
  | coreOvervoltageReconnect (cp : Fin 2) (mv : Nat)
  /-- CORE_BUS_UNDERVOLTAGE (R48): The ORed core bus falls below 17.0 V and ride-through begins. -/
  | coreBusUndervoltage
  /-- CORE_INTERRUPTION_END (R48): The core bus recovers before 10 ms and a core interruption is recorded with its duration. -/
  | coreInterruptionEnd
  /-- POWER_FAIL_COMMIT (R48): After 10 ms of ride-through power fail is committed, the power-loss record is started and departure is declared. -/
  | powerFailCommit
  /-- POWER_DOWN_OUTPUTS_OFF (R48): At t0 + 15 ms outputs are de-energised, transmission stops, the claim wire is released, MOD_OK opens and the island enters SAFE-OFF. -/
  | powerDownOutputsOff
  /-- SUPERVISOR_WATCHDOG_EXPIRY (R16): The supervisor watchdog expires and the module enters HALT. -/
  | supervisorWatchdogExpiry
  /-- REFERENCE_FAULT (R17): The module reference is absent or off by more than 1% for 10 µs; the island reports it and the module enters HALT. -/
  | referenceFault
  /-- FIELD_BUS_UNDERVOLTAGE (R39): The field bus stays below 17.0 V for 5 ms; the field supply fault acts on all channels. -/
  | fieldBusUndervoltage
  /-- FIELD_LIMIT_TRIP (R39): The field bus above 20 A for 1 ms is switched off as a field supply fault. -/
  | fieldLimitTrip
  /-- FIELD_BUS_RETURN (R39): After an undervoltage the field bus returns when it has stayed at or above 18.0 V for 100 ms. -/
  | fieldBusReturn
  /-- FIELD_INPUT_CHANGE (R259): FP1 or FP2 is lost or returns and CHG reports it. -/
  | fieldInputChange (fp : Fin 2) (ok : Bool) (mv : Nat)
  /-- RESTORE (R39): CHG_CMD.RESTORE returns the field bus after a limit trip. -/
  | restore (r : Requester)
  /-- SFP_STATUS_CHANGE (R35): A change of SFP_ABS, SFP_LOS or SFP_TXFLT is reported, and with SFP_ABS high the module runs as a single unit. -/
  | sfpStatusChange (abs los txFlt : Bool)
  /-- COIN_CELL_LOW (R45): The coin cell falls below 2.5 V or 1.0 V and is reported low or absent. -/
  | coinCellLow (coinMv capMv : Nat)
  /-- RTC_BACKUP_EXHAUSTED (R86): The calendar clock supply falls below its minimum, the oscillator stops and RTC_STAT.VALID becomes 0. -/
  | rtcBackupExhausted
  /-- VS_ZERO_CROSSING (R70): A qualified positive zero crossing of VS1 or VS2 updates validity, measurements and the loop of ABS0. -/
  | vsZeroCrossing (vs : Fin 2) (rmsMv : Nat) (periodNs : Nat) (otherAngle : Word)
  /-- VS_INPUT_LOST (R71): A mains-sense input is lost; ABS0 changes input or enters HOLDOVER. -/
  | vsInputLost (vs : Fin 2) (other : Option Word)
  /-- ABS0_QUAL_COMPLETE (R72): The input has been valid for QUAL; ABS0 is realigned under R69 and enters LOCKED. -/
  | abs0QualComplete (angle : Word)
  /-- ABS_HOLD_END (R69): The reference reaches the held position and the base follows it again. -/
  | absHoldEnd (base : Fin 2)
  /-- ABS0_HOLDOVER_RAMP (R73): 2 s after entry to HOLDOVER, ABS0 starts changing its frequency toward NOM at 0.5 Hz/s. -/
  | abs0HoldoverRamp
  /-- ABS0_HOLDOVER_AT_NOM (R73): The HOLDOVER frequency reaches NOM and stays there. -/
  | abs0HoldoverAtNom
  /-- ABS1_COUNT_EDGE (R77): An encoder or tooth edge advances ABS1, detecting reverse rotation, gaps and missing indices. -/
  | abs1CountEdge (backward : Bool) (intervalNs : Nat)
  /-- ABS1_INDEX (R78): An index sets ABS1 to SYNCED at the first index and realigns it at later ones. -/
  | abs1Index
  /-- ABS1_STOPPED (R79): No edge for STOP_TIME; interpolation stops and ABS1 reports STOPPED. -/
  | abs1Stopped
  /-- ABS1_OVERSPEED (R79): The edge rate exceeds 8 MHz and ABS1 enters SYNC_LOST. -/
  | abs1Overspeed
  /-- TSU_SECOND (R80): The nanosecond count wraps and the TSU seconds advance. -/
  | tsuSecond
  /-- HOURLY_TIME_MARK (R86): At every whole hour a TIME_MARK is written and, while LOCKED, the calendar clock and TSU_TRIM are corrected. -/
  | hourlyTimeMark
  /-- PPS_EDGE (R81): A PPS rising edge is captured and, with PPS as source, gives a source update or applies a pending SET. -/
  | ppsEdge (rate : Int)
  /-- TSU_SOURCE_UPDATE (R82): A source update measures the offset and the TSU slews or steps and advances its state. -/
  | tsuSourceUpdate (src : TimeSource) (offsetNs : Int) (rate : Int)
  /-- TSU_SOURCE_LOST (R81): The source in use is lost; the TSU changes source or enters HOLDOVER. -/
  | tsuSourceLost (src : TimeSource)
  /-- TSU_SLEW_COMPLETE (R82): A slew has removed its offset. -/
  | tsuSlewComplete
  /-- TSU_SET (R88): TSU_CMD SET steps the TSU to TSU_SET, or is refused by the codes of R88. -/
  | tsuSet (r : Requester)
  /-- TSU_ADJ (R88): TSU_CMD ADJ applies TSU_ADJ under R82, or is refused by the codes of R88. -/
  | tsuAdj (r : Requester)
  /-- RTC_SET (R86): RTC_CMD SET sets the calendar clock and VALID and writes a TIME_MARK. -/
  | rtcSet (r : Requester)
  /-- TSU_CAPTURE (R84): A capture unit stamps its event with TSU time and sets NEW, or OVR on an unread capture. -/
  | tsuCapture (k : Fin 4)
  /-- COMPARE_FIRE (R85): An ABS or TSU compare unit fires, raises its event and clears EN or adds its period. -/
  | compareFire (k : Fin 6)
  /-- CONTEXT_TRIGGER (R132): A trigger of a context fires; the cycle is made ready, or the trigger is an overrun or budget skip. -/
  | contextTrigger (c : Fin 256)
  /-- CONTEXT_DISPATCH (R128): A ready cycle is dispatched to its home engine, pre-empting lower classes, and its input image is latched. -/
  | contextDispatch (c : Fin 256)
  /-- WAIT_ANSWER (R108): The answer to a waiting instruction arrives, is written to its slots and the cycle becomes ready again. -/
  | waitAnswer (c : Fin 256)
  /-- NOP (R101): No operation. -/
  | nop (c : Fin 256)
  /-- END (R113): Ends the execute phase of the cycle. -/
  | endCycle (c : Fin 256)
  /-- TRAP (R117): Raises hard exception USER_TRAP, abandoning the cycle and stopping the context. -/
  | trap (c : Fin 256) (s1 : Fin 4096)
  /-- MOV (R101): Copies a 1-slot value. -/
  | mov (c : Fin 256) (d s1 : Fin 4096)
  /-- MOV64 (R101): Copies a 2-slot value. -/
  | mov64 (c : Fin 256) (d s1 : Fin 4096)
  /-- LDI (R101): Loads an immediate into a 1-slot value. -/
  | ldi (c : Fin 256) (d : Fin 4096) (imm : Word)
  /-- LDK (R101): Loads a CONST entry into a 2-slot value. -/
  | ldk (c : Fin 256) (d : Fin 4096) (idx : Nat)
  /-- LDX (R105): Loads an indexed array element, raising IDX_RANGE out of range. -/
  | ldx (c : Fin 256) (d s1 base n : Fin 4096)
  /-- STX (R105): Stores an indexed array element, raising IDX_RANGE out of range. -/
  | stx (c : Fin 256) (d s1 base n : Fin 4096)
  /-- ADD (R103): Adds two values of type T. -/
  | add (c : Fin 256) (t : Fin 16) (d s1 s2 : Fin 4096)
  /-- SUB (R103): Subtracts two values of type T. -/
  | sub (c : Fin 256) (t : Fin 16) (d s1 s2 : Fin 4096)
  /-- MUL (R103): Multiplies two values of type T. -/
  | mul (c : Fin 256) (t : Fin 16) (d s1 s2 : Fin 4096)
  /-- DIV (R103): Divides, truncating integers and writing 0 with DIV_ZERO on zero divisors. -/
  | div (c : Fin 256) (t : Fin 16) (d s1 s2 : Fin 4096)
  /-- REM (R103): Forms the integer remainder, with DIV_ZERO on zero divisors. -/
  | rem (c : Fin 256) (t : Fin 16) (d s1 s2 : Fin 4096)
  /-- MIN (R104): Takes the minimum, with the fixed NaN and signed-zero rules. -/
  | min (c : Fin 256) (t : Fin 16) (d s1 s2 : Fin 4096)
  /-- MAX (R104): Takes the maximum, with the fixed NaN and signed-zero rules. -/
  | max (c : Fin 256) (t : Fin 16) (d s1 s2 : Fin 4096)
  /-- NEG (R103): Negates a value. -/
  | neg (c : Fin 256) (t : Fin 16) (d s1 : Fin 4096)
  /-- ABS (R103): Takes the absolute value. -/
  | abs (c : Fin 256) (t : Fin 16) (d s1 : Fin 4096)
  /-- SQRT (R104): Takes the floating square root. -/
  | sqrt (c : Fin 256) (t : Fin 16) (d s1 : Fin 4096)
  /-- FMA (R104): Adds S1 × S2 to D with one rounding. -/
  | fma (c : Fin 256) (t : Fin 16) (d s1 s2 : Fin 4096)
  /-- AND (R101): Bitwise AND. -/
  | and (c : Fin 256) (t : Fin 16) (d s1 s2 : Fin 4096)
  /-- OR (R101): Bitwise OR. -/
  | or (c : Fin 256) (t : Fin 16) (d s1 s2 : Fin 4096)
  /-- XOR (R101): Bitwise XOR. -/
  | xor (c : Fin 256) (t : Fin 16) (d s1 s2 : Fin 4096)
  /-- NOT (R103): Bitwise NOT, or 1 − S1 for BOOL. -/
  | not (c : Fin 256) (t : Fin 16) (d s1 : Fin 4096)
  /-- SHL (R101): Shift left by S2 modulo the width. -/
  | shl (c : Fin 256) (t : Fin 16) (d s1 s2 : Fin 4096)
  /-- SHR (R103): Shift right, arithmetic for signed and logical for unsigned types. -/
  | shr (c : Fin 256) (t : Fin 16) (d s1 s2 : Fin 4096)
  /-- ROL (R101): Rotate left. -/
  | rol (c : Fin 256) (t : Fin 16) (d s1 s2 : Fin 4096)
  /-- ROR (R101): Rotate right. -/
  | ror (c : Fin 256) (t : Fin 16) (d s1 s2 : Fin 4096)
  /-- EQ (R104): Compares for equality into a BOOL. -/
  | eq (c : Fin 256) (t : Fin 16) (d s1 s2 : Fin 4096)
  /-- NE (R104): Compares for inequality into a BOOL. -/
  | ne (c : Fin 256) (t : Fin 16) (d s1 s2 : Fin 4096)
  /-- LT (R104): Compares less-than into a BOOL. -/
  | lt (c : Fin 256) (t : Fin 16) (d s1 s2 : Fin 4096)
  /-- LE (R104): Compares less-or-equal into a BOOL. -/
  | le (c : Fin 256) (t : Fin 16) (d s1 s2 : Fin 4096)
  /-- GT (R104): Compares greater-than into a BOOL. -/
  | gt (c : Fin 256) (t : Fin 16) (d s1 s2 : Fin 4096)
  /-- GE (R104): Compares greater-or-equal into a BOOL. -/
  | ge (c : Fin 256) (t : Fin 16) (d s1 s2 : Fin 4096)
  /-- CVT (R104): Converts between types with saturation and CVT_RANGE. -/
  | cvt (c : Fin 256) (trunc : Bool) (dst src : Fin 16) (d s1 : Fin 4096)
  /-- CMOV (R101): Copies S1 to D if S2 is 1. -/
  | cmov (c : Fin 256) (t : Fin 16) (d s1 s2 : Fin 4096)
  /-- BR (R101): Unconditional branch. -/
  | br (c : Fin 256) (ofs : Int)
  /-- BRT (R101): Branch if true. -/
  | brt (c : Fin 256) (s1 : Fin 4096) (ofs : Int)
  /-- BRF (R101): Branch if false. -/
  | brf (c : Fin 256) (s1 : Fin 4096) (ofs : Int)
  /-- CALL (R105): Pushes the return address and branches. -/
  | call (c : Fin 256) (ofs : Int)
  /-- RET (R105): Pops the return address. -/
  | ret (c : Fin 256)
  /-- LOOP (R101): Decrements D and branches while it is nonzero. -/
  | loop (c : Fin 256) (d : Fin 4096) (ofs : Int)
  /-- GLD (R97): Loads a global, own or latched foreign, or its forced value. -/
  | gld (c : Fin 256) (d : Fin 4096) (idx : Nat)
  /-- GST (R97): Stores an own global, or sets W_FORCED when the VID is forced. -/
  | gst (c : Fin 256) (s1 : Fin 4096) (idx : Nat)
  /-- IRD (R106): Reads the value of an input element. -/
  | ird (c : Fin 256) (d : Fin 4096) (idx : Nat)
  /-- IQ (R106): Reads the quality byte of an input element. -/
  | iq (c : Fin 256) (d : Fin 4096) (idx : Nat)
  /-- IAGE (R106): Reads the saturated age of an input element. -/
  | iage (c : Fin 256) (d : Fin 4096) (idx : Nat)
  /-- OWR (R98): Writes an output element, or sets W_FORCED when the VID is forced. -/
  | owr (c : Fin 256) (s1 : Fin 4096) (idx : Nat)
  /-- TLATCH (R101): Returns the TSU time of the cycle's latch instant. -/
  | tlatch (c : Fin 256) (d : Fin 4096)
  /-- TPOS (R101): Returns the extended position of an angle base at the latch. -/
  | tpos (c : Fin 256) (d : Fin 4096) (base : Fin 2)
  /-- CSTAT (R131): Returns the cycle status word. -/
  | cstat (c : Fin 256) (d : Fin 4096)
  /-- XFLAGS (R116): Returns the sticky flags and clears them. -/
  | xflags (c : Fin 256) (d : Fin 4096)
  /-- RRD (R108): Issues a register read and waits for its answer. -/
  | rrd (c : Fin 256) (d s1 : Fin 4096) (off : Nat)
  /-- RWR (R108): Issues a register write and waits for its answer. -/
  | rwr (c : Fin 256) (d s1 : Fin 4096) (off : Nat)
  /-- RRD64 (R108): Reads a _LO/_HI pair as one access. -/
  | rrd64 (c : Fin 256) (d s1 : Fin 4096) (off : Nat)
  /-- RWR64 (R108): Writes a _LO/_HI pair as one access. -/
  | rwr64 (c : Fin 256) (d s1 : Fin 4096) (off : Nat)
  /-- RRDX (R108): Register read with the offset in a slot, checked at run time. -/
  | rrdx (c : Fin 256) (d s1 addr : Fin 4096)
  /-- RWRX (R108): Register write with the offset in a slot, checked at run time. -/
  | rwrx (c : Fin 256) (d s1 addr : Fin 4096)
  /-- SSUB (R193): Submits a solver job and writes its acceptance code. -/
  | ssub (c : Fin 256) (d base : Fin 4096) (job : Fin 16)
  /-- SCAN (R196): Cancels a waiting or running solver job. -/
  | scan (c : Fin 256) (d base : Fin 4096) (job : Fin 16) (made : SolAt)
  /-- REC (R412): Submits an APPLICATION record and writes its acceptance code. -/
  | recApp (c : Fin 256) (d s1 : Fin 4096) (sev typ len : Nat)
  /-- IMAGE_LOAD (R111): A whole application image is verified and, if accepted, loaded in COMMISSION. -/
  | imageLoad (session : Nat) (image : List Word)
  /-- ENG_TEST_START (R118): ENG_TEST.START runs the self-test of a parked or failed engine. -/
  | engTestStart (r : Requester) (n : Fin 16)
  /-- ENG_TEST_COMPLETE (R119): An engine self-test ends; a pass returns the engine to PARKED, a fail keeps it in FAULT. -/
  | engTestComplete (n : Fin 16) (fail : Nat)
  /-- ENGINE_FAULT (R145): An engine enters FAULT at run time; its current cycle is abandoned and its contexts migrate or stop. -/
  | engineFault (n : Fin 16) (decode : Bool) (badPlaces : List Nat)
  /-- FAULT_SELF_TEST_DUE (R143): 1 to 2 s after the last context left a faulted engine, the supervisor starts its self-test. -/
  | faultSelfTestDue (n : Fin 16)
  /-- RESTART (R134): SCH_CMD RESTART reloads a stopped context from INIT and resumes it at its next trigger. -/
  | restart (r : Requester) (c : Fin 256)
  /-- SCH_STOP (R134): SCH_CMD STOP stops a context at its next completion with STOP_WHY 4. -/
  | schStop (r : Requester) (c : Fin 256)
  /-- SCH_START (R134): SCH_CMD START resumes a stopped context with unchanged slots. -/
  | schStart (r : Requester) (c : Fin 256)
  /-- REPLACE (R134): SCH_CMD REPLACE recomputes placement and migrates moved contexts. -/
  | replace (r : Requester)
  /-- MIGRATION_COPY_COMPLETE (R144): A context's footprint copy to its new home engine completes. -/
  | migrationCopyComplete (c : Fin 256)
  /-- ENGINE_PARK_BEGIN (R142): On CRITICAL and every 100 ms after, the highest-numbered available engine begins parking. -/
  | engineParkBegin
  /-- ENGINE_PARKED (R144): The last context leaves a parking engine and the engine is PARKED. -/
  | engineParked (n : Fin 16)
  /-- ENGINE_RETURN (R142): In WARM or NORMAL a parked engine returns, one per 100 ms, and placement is recomputed. -/
  | engineReturn
  /-- ENERGY_WINDOW_END (R136): A 100 ms window ends; ledgers move to PWR_LEDGER, occupancy is computed and deferred class-C work is admitted again. -/
  | energyWindowEnd (coreMw fieldMa fieldMw : Nat)
  /-- THERMAL_EVALUATION (R137): Every 10 ms the sensors are evaluated and the thermal state is derived. -/
  | thermalEvaluation (die rail : Int)
  /-- THERMAL_TRIP (R141): The die reaches 125 °C; the module enters HALT and records a thermal trip. -/
  | thermalTrip
  /-- SET (R156): FRC_CMD SET creates or overwrites a force entry. -/
  | set (r : Requester)
  /-- RELEASE (R156): FRC_CMD RELEASE removes the entry for FRC_VID. -/
  | release (r : Requester)
  /-- RELEASE_ALL (R156): FRC_CMD RELEASE_ALL removes every force entry. -/
  | releaseAll (r : Requester)
  /-- READ (R156): FRC_CMD READ copies a force entry into the FRC_ENTRY registers. -/
  | readForce (r : Requester) (index : Fin 512)
  /-- FORCE_ACKNOWLEDGE (R157): A force change is durable in the cellar, is acknowledged and acts from the next latch and commit. -/
  | forceAcknowledge (partnerOk : Bool)
  /-- PACKAGE_RECEIVED (R168): The last chunk of a change package arrives and verification begins. -/
  | packageReceived
  /-- VERIFY (R168): OLC_CMD VERIFY checks the package under R164 and R169. -/
  | verify (r : Requester)
  /-- PACKAGE_VERIFY_COMPLETE (R164): Verification ends in STAGED or in a refusal. -/
  | packageVerifyComplete (partnerOk : Bool)
  /-- COMMIT (R171): OLC_CMD COMMIT arms the package once no force command waits. -/
  | commit (r : Requester)
  /-- OLC_ARM (R171): The package enters ARMED, the force table is frozen and dispositions decided again. -/
  | olcArm
  /-- ABORT (R168): OLC_CMD ABORT ends an ARMED package with OLC_ABORTED. -/
  | abort (r : Requester)
  /-- DISCARD (R168): OLC_CMD DISCARD drops a received or staged package. -/
  | discard (r : Requester)
  /-- OLC_COMMIT_INSTANT (R171): Every affected context is between cycles; the switch is made across all engines in one operation. -/
  | olcCommitInstant
  /-- OLC_NO_BOUNDARY (R171): No commit instant occurs within 2 s of ARM and the package is refused. -/
  | olcNoBoundary
  /-- OLC_MARKER_DURABLE (R173): The commit marker is durable in the cellar. -/
  | olcMarkerDurable
  /-- PATTERN_LOAD (R185): A pattern image is checked and copied into free solver store. -/
  | patternLoad (staged : Bool) (image : List Word)
  /-- CANCEL (R196): SOL_JOB_CTL.CANCEL acts as SCAN on the job slot. -/
  | cancel (r : Requester) (job : Fin 16) (v : Word) (made : SolAt)
  /-- SOLVER_JOB_START (R195): The solver takes the next job, checks the pattern and applies its deltas. -/
  | solverJobStart
  /-- SOLVER_JOB_END (R221): A job ends at the tolerance, MAX_IT, a fault or breakdown, and its result is published. -/
  | solverJobEnd
  /-- SOLVER_DEADLINE (R222): A job's deadline target fires and the unit cuts the job, delivering the best iterate. -/
  | solverDeadline (made : SolAt)
  /-- FLOAT_SELFTEST_CHUNK (R208): An idle chunk of the float self-test runs; completion sets FLOAT_READY, failures remove lane groups. -/
  | floatSelftestChunk (ns : Nat) (groups : Fin 16) (divOk : Bool) (fail : Nat)
  /-- LANE_GROUP_FAULT (R225): A lane group fails; a running job ends ABORTED and FLOAT_READY becomes 0. -/
  | laneGroupFault (g : Fin 4)
  /-- SOLVER_FAULT (R202): The solver enters FAULT; running and waiting jobs end ABORTED. -/
  | solverFault (divide : Bool)
  /-- AI_SAMPLE (R232): An AI sampling instant closes the integration window and the value is classified. -/
  | aiSample (ch : Fin 64) (i : Sample)
  /-- DI_STATE_ACCEPTED (R241): A new input state has held for the filter time and is accepted. -/
  | diStateAccepted (ch : Fin 64) (on : Bool) (sinceNs : Nat)
  /-- NAMUR_LINE_FAULT (R240): A NAMUR open or short circuit has persisted 5 ms. -/
  | namurLineFault (ch : Fin 64) (short : Bool)
  /-- TP_CHIP_EVAL (R246): A dark chip of the expected slot is evaluated for anomaly and cross-short matching. -/
  | tpChipEval (ch : Fin 64) (chip : Fin 8) (on : Bool) (found : Option (Fin 64))
  /-- COMPLIANCE_SET (R236): The supply is at its limit with the current short of target; COMPLIANCE is set. -/
  | complianceSet (ch : Fin 64) (loadMv : Nat) (code : Int)
  /-- COMPLIANCE_CLEAR (R236): The current has stayed within 50 µA of target for 10 ms and COMPLIANCE clears. -/
  | complianceClear (ch : Fin 64) (code : Int)
  /-- CHANNEL_FAULT_DECLARE (R236): COMPLIANCE persists for COMP_TIME and CHANNEL_FAULT is latched. -/
  | channelFaultDeclare (ch : Fin 64)
  /-- STAGE_THERMAL_SET (R238): An output stage reaches 125 °C and folds back its current. -/
  | stageThermalSet (ch : Fin 64) (tj code : Int)
  /-- STAGE_THERMAL_CLEAR (R238): The stage falls below 115 °C and THERMAL clears. -/
  | stageThermalClear (ch : Fin 64) (tj : Int)
  /-- DO_OVERLOAD (R242): A DO stage in limit for 1 ms or above 0.6 A for 20 ms opens and sets OVERLOAD. -/
  | doOverload (ch : Fin 64)
  /-- DO_RETRY (R242): With RETRY 1, 1 s after an overload the stage closes again. -/
  | doRetry (ch : Fin 64)
  /-- DO_OPEN_LOAD (R242): An ON output below 2 mA for 100 ms sets OPEN. -/
  | doOpenLoad (ch : Fin 64)
  /-- DO_RATE_HOLD_END (R243): The trailing clamp energy falls to 20 mJ and a postponed switch-on proceeds. -/
  | doRateHoldEnd (ch : Fin 64)
  /-- CH_MODE_WRITE (R228): A CH_MODE write sets the mode in COMMISSION, or is refused with CH_STATE, CH_ISLAND or CFG_CONFLICT. -/
  | chModeWrite (r : Requester) (ch : Fin 64) (v : Word)
  /-- CLR_FAULT (R239): CH_CMD CLR_FAULT clears latched channel faults. -/
  | clrFault (r : Requester) (ch : Fin 64)
  /-- CAL_OPEN (R253): Opens a calibration session on the channel. -/
  | calOpen (r : Requester) (ch : Fin 64)
  /-- CAL_ZERO (R253): Records the zero point against CH_CAL_REF. -/
  | calZero (r : Requester) (ch : Fin 64)
  /-- CAL_SPAN (R253): Records the span point against CH_CAL_REF. -/
  | calSpan (r : Requester) (ch : Fin 64)
  /-- CAL_COMMIT (R253): Computes and stores the trims from the recorded points. -/
  | calCommit (r : Requester) (ch : Fin 64)
  /-- CAL_CANCEL (R253): Ends the session without change. -/
  | calCancel (r : Requester) (ch : Fin 64)
  /-- CAL_FACTORY (R253): Sets the factory trims and ends the session. -/
  | calFactory (r : Requester) (ch : Fin 64)
  /-- CAL_POINT_AVERAGED (R253): The 1 s average of an AI calibration point completes. -/
  | calPointAveraged (ch : Fin 64) (avg : Word)
  /-- CAL_TRIMS_DURABLE (R255): Trims are durable and acknowledged, acting from the next sample or drive update. -/
  | calTrimsDurable (ch : Fin 64)
  /-- CAL_SESSION_TIMEOUT (R253): 600 s without a command ends the session as cancelled. -/
  | calSessionTimeout (ch : Fin 64)
  /-- HART_BIND_WRITE (R262): An HRT_CHk_CFG write binds the channel, or is refused with CFG_CONFLICT. -/
  | hartBindWrite (r : Requester) (ch : Fin 64) (v : Word)
  /-- SUBMIT (R264): HRT_Tt_CTL.SUBMIT queues a HART transaction, or sets REJECT on a busy slot. -/
  | submit (r : Requester) (t : Fin 16) (v : Word)
  /-- HART_CANCEL (R269): HRT_Tt_CTL.CANCEL ends a waiting or active transaction with HRT_CANCELLED. -/
  | hartCancel (r : Requester) (t : Fin 16) (v : Word)
  /-- HART_TRANSACTION_START (R265): A pool modem is free and the transaction becomes ACTIVE and sends its request. -/
  | hartTransactionStart (ch : Fin 64) (foreign : Bool)
  /-- HART_RESPONSE (R265): A HART response is received and checked; an accepted one ends the transaction HRT_DONE. -/
  | hartResponse (ch : Fin 64) (rsp : HartRsp)
  /-- HART_RESPONSE_TIMEOUT (R265): TIMEOUT passes without a response; the request is repeated or the transaction ends HRT_NO_RESPONSE. -/
  | hartResponseTimeout (ch : Fin 64) (foreign : Bool)
  /-- HART_WAIT_EXPIRY (R264): A transaction still WAITING after HRT_WAIT ends with HRT_NO_MODEM. -/
  | hartWaitExpiry (ch : Fin 64) (slot : Option (Fin 16))
  /-- HART_BURST_FRAME (R266): A burst frame on a held channel is counted and updates the image items. -/
  | hartBurstFrame (ch : Fin 64) (addr : Fin 16) (cmd respCode devStatus : BitVec 8) (vars : List Word)
  /-- HART_POLL (R260): The POLL interval of a channel elapses and a command-3 poll of its image device is queued. -/
  | hartPoll (ch : Fin 64)
  /-- HART_MODEM_FAULT (R270): A HART modem fails; held channels rebind and an active transaction ends HRT_MODEM_FAULT. -/
  | hartModemFault (m : Fin 16)
  /-- SAFETY_CYCLE_START (R281): A safety cycle starts, runs the programs, compares SX and SY and applies switch commands. -/
  | safetyCycleStart (ins : List SafIn) (cleared : Nat) (c2us : Nat)
  /-- ISLAND_HOLD_OFF (R283): The island opens and holds the switches of one channel on overload or compliance. -/
  | islandHoldOff (ch : Fin 64)
  /-- LOCKOUT_CAUSE (R284): A lock-out cause is detected; every island switch opens and the island enters LOCKOUT. -/
  | lockoutCause (cause : Fin 15) (ch : Option (Fin 64))
  /-- ISLAND_RECORD_REPEAT (R287): Every 100 ms the lock-out record is passed again until the supervisor confirms it durable. -/
  | islandRecordRepeat
  /-- SAFE_RST_PULSE (R288): A SAFE_RST pulse falls and acts as reset request, start command or KIND 5 input, or is refused. -/
  | safeRstPulse (ms : Nat)
  /-- SIGNED_RESET (R289): A signed command with action 1 is verified by both cores and acts as a reset request. -/
  | signedReset (session : Nat) (serial : Nat) (nonce : Word) (sig : List Word)
  /-- SIGNED_START (R289): A signed command with action 2 is verified and acts as a start command. -/
  | signedStart (session : Nat) (serial : Nat) (nonce : Word) (sig : List Word)
  /-- RESET_SELFTEST_COMPLETE (R290): The reset self-test ends; a pass proceeds to the reset record, a fail refuses with SAF_SELFTEST. -/
  | resetSelftestComplete (fail : Nat)
  /-- RESET_RECORD_DURABLE (R290): The reset record is durable; latches and causes are cleared and the island enters SAFE-OFF. -/
  | resetRecordDurable
  /-- LINK_CYCLE (R306): A trigger instant of a segment's cycle context opens a link cycle with its SEQ. -/
  | linkCycle (seg : Fin 2)
  /-- LINK_SEND_DEADLINE (R308): The commit has not completed by the send deadline and frames leave HELD. -/
  | linkSendDeadline (seg : Fin 2)
  /-- LINK_IN_FRAME (R305): An IN frame is received, checked and used or refused, updating line delay. -/
  | linkInFrame (f : LinkIn)
  /-- LINK_WINDOW_END (R316): The input window ends; stations without a valid frame go DOWN and ring state is judged. -/
  | linkWindowEnd (seg : Fin 2)
  /-- HELLO (R313): A HELLO frame is checked against LNKCFG and answered. -/
  | hello (h : LinkHello)
  /-- READY (R313): A READY frame gives the delay, R311 is checked and the station's block is added. -/
  | ready (portB : Bool) (addr mac turn res arrival : Nat)
  /-- LINK_PORT_LOST (R320): A link port loses its link. -/
  | linkPortLost (portB : Bool)
  /-- DROP (R315): LNK_CMD DROP sets the station DROPPED and omits its block. -/
  | linkDrop (r : Requester) (addr : Nat)
  /-- ADMIT (R315): LNK_CMD ADMIT lets a DROPPED station join again. -/
  | linkAdmit (r : Requester) (addr : Nat)
  /-- PRP_FRAME_RX (R322): A frame is received on NETA or NETB; duplicates are discarded. -/
  | prpFrameRx (f : PrpRx)
  /-- PRP_SUPERVISION_TX (R322): A supervision frame is sent every SUP_INTV on both ports. -/
  | prpSupervisionTx
  /-- PRP_NODE_FORGET (R322): A node table entry is forgotten after FORGET without frames. -/
  | prpNodeForget (mac : Nat)
  /-- NET_PORT_LINK (R323): A plant port loses or regains its link. -/
  | netPortLink (portB up : Bool)
  /-- ICMP_ECHO (R324): An ICMP echo request is answered while PING_EN is 1. -/
  | icmpEcho (dst src data : Nat)
  /-- ARP_REQUEST (R324): An ARP request is answered. -/
  | arpRequest (target sender : Nat)
  /-- PTP_SYNC_RX (R327): A Sync is received and an offset computed; on the active port it is a source update. -/
  | ptpSyncRx (m : PtpSync) (t1 : Int)
  /-- PTP_FOLLOW_UP_RX (R327): A Follow_Up completes a two-step offset. -/
  | ptpFollowUpRx (m : PtpSync)
  /-- PTP_ANNOUNCE_RX (R326): An Announce enters the BMCA and may change master, active port and PTP_UTC. -/
  | ptpAnnounceRx (portB : Bool) (domain : Nat) (set : PtpSet) (utc : Nat) (utcValid : Bool)
  /-- PTP_ANNOUNCE_TIMEOUT (R326): A port's announce receipt timeout expires; the other port becomes active or PTP is lost. -/
  | ptpAnnounceTimeout (portB : Bool)
  /-- PTP_DELAY_REQ_TX (R328): A Delay_Req or Pdelay_Req is sent at its interval. -/
  | ptpDelayReqTx (portB : Bool)
  /-- PTP_DELAY_RESP_RX (R325): A Delay_Resp or Pdelay_Resp updates meanPathDelay. -/
  | ptpDelayRespRx (portB : Bool) (domain : Nat) (t1 t2 t3 t4 correction : Int)
  /-- PTP_PDELAY_REQ_RX (R328): A Pdelay_Req is answered with a Pdelay_Resp carrying the residence time. -/
  | ptpPdelayReqRx (portB : Bool) (domain seq : Nat) (correction : Int) (residence : Nat)
  /-- PTP_MASTER_TX (R329): As master, Sync and Announce messages are sent at their intervals. -/
  | ptpMasterTx (portB announce : Bool)
  /-- SSP_BAD_DATAGRAM (R331): A datagram with bad MAGIC, LEN or TAG is discarded and counted. -/
  | sspBadDatagram (d : List (BitVec 8))
  /-- OPEN (R462): An SSP OPEN authenticates the credential and opens a session. -/
  | sspOpen (o : SspOpen)
  /-- CLOSE (R332): An SSP CLOSE ends the session. -/
  | sspClose (h : SspHdr)
  /-- KEEPALIVE (R332): An SSP KEEPALIVE keeps the session open. -/
  | sspKeepalive (h : SspHdr)
  /-- REG_READ (R334): Reads up to 64 registers with the session's role. -/
  | sspRegRead (h : SspHdr) (offs : List Nat)
  /-- REG_WRITE (R334): Writes up to 64 registers with the session's role. -/
  | sspRegWrite (h : SspHdr) (pairs : List (Nat × Word)) (found : AccIn)
  /-- SUBSCRIBE (R335): Subscribes VIDs for periodic publication. -/
  | sspSubscribe (h : SspHdr) (vids : List Nat) (period : Nat)
  /-- UNSUBSCRIBE (R334): Removes VIDs from the session's subscriptions. -/
  | sspUnsubscribe (h : SspHdr) (vids : List Nat)
  /-- PUBLISH (R335): At each whole multiple of a subscription period, the subscribed VIDs are published. -/
  | sspPublish (session period : Nat)
  /-- FILE_BEGIN (R334): Opens or resumes a file transfer to the cask, a package or a whole image. -/
  | fileBegin (h : SspHdr) (target size ident version : Nat)
  /-- FILE_PIECE (R420): Delivers a piece of a chunk; a completed chunk is verified and stored. -/
  | filePiece (h : SspHdr) (chunk off : Nat) (data : List (BitVec 8))
  /-- FILE_STATUS (R334): Returns the chunk bitmap of the transfer. -/
  | fileStatus (h : SspHdr)
  /-- FILE_ABORT (R334): Ends the transfer. -/
  | fileAbort (h : SspHdr)
  /-- REC_READ (R414): Returns durable recorder bytes from a position in an area. -/
  | recRead (h : SspHdr) (area pos count : Nat)
  /-- SIGNED_CMD (R289): Passes a signed island command unchanged to the island. -/
  | signedCmd (h : SspHdr) (action serial : Nat) (nonce : Word) (sig : List Word)
  /-- SSP_SESSION_TIMEOUT (R332): 30 s without a valid datagram ends the session. -/
  | sspSessionTimeout (session : Nat)
  /-- FILE_TRANSFER_ORPHAN_TIMEOUT (R337): A transfer left by its ended session is ended after 60 s. -/
  | fileTransferOrphanTimeout
  /-- CAN_FRAME_RX (R345): A frame completes without error on the bus and is stored in the receive ring. -/
  | canFrameRx (p : Fin 4) (f : CanFrame)
  /-- CAN_ERROR_FRAME (R353): An error occurs on the bus and the error counters move, possibly to error-passive or bus-off. -/
  | canErrorFrame (p : Fin 4) (kind : Fin 7) (tecInc recInc : Nat)
  /-- CAN_TX_INSTANT (R351): A slot's transmit instant makes its frame pending, replacing a frame still pending. -/
  | canTxInstant (p : Fin 4) (slot : Fin 32) (idle : Bool)
  /-- CAN_TX_ATTEMPT_END (R351): A transmission attempt succeeds, loses arbitration or meets an error. -/
  | canTxAttemptEnd (p : Fin 4) (e : CanEnd) (sofNs sofSec meas : Nat)
  /-- RECOVER (R353): CAN_CMD RECOVER starts the bus-off recovery count. -/
  | recover (r : Requester) (p : Fin 4)
  /-- CAN_RECOVERY_COMPLETE (R353): 128 occurrences of 11 recessive bits are counted and the port is error-active. -/
  | canRecoveryComplete (p : Fin 4)
  /-- CAN_MODE_CHANGE (R342): A written MODE takes effect at the next bus idle or after 1 ms. -/
  | canModeChange (p : Fin 4)
  /-- PAIR_LINK_UP (R383): The PAIR link comes up and the pair-interface version is negotiated. -/
  | pairLinkUp (verLo verHi : Nat)
  /-- PAIR_LINK_LOST (R387): The PAIR link is lost. -/
  | pairLinkLost
  /-- PAIR_HEARTBEAT_TX (R361): A PAIR heartbeat is sent every 100 µs. -/
  | pairHeartbeatTx
  /-- PAIR_HEARTBEAT_RX (R361): A partner heartbeat is received, carrying claim, health, state and departure flag. -/
  | pairHeartbeatRx (h : PairBeat)
  /-- PAIR_TIMEOUT (R361): No valid PAIR message for PAIR_TO; the partner is silent on PAIR. -/
  | pairTimeout
  /-- CLAIM_ROUND (R367): A claim-wire round is run at the round context's trigger instant. -/
  | claimRound
  /-- CLAIM_ROUND_ALONE (R367): 100 µs after its instant with no round begun, a standby starts a round alone. -/
  | claimRoundAlone
  /-- CLAIM_ROUND_END (R368): The round ends; local stages drive or go high impedance, and demotion or wire faults are judged. -/
  | claimRoundEnd (read : Word) (ack : Bool) (partnerWord : Option Word)
  /-- HEALTH_HANDOVER (R375): Own health lower than the standby's by HDIFF for 1 s makes the primary declare departure. -/
  | healthHandover
  /-- TAKEOVER (R376): A synced or unmirrored standby becomes PRIMARY with a raised epoch. -/
  | takeover
  /-- MIRROR_DATA_RX (R373): Mirror data of a context is written into the standby's slots and globals. -/
  | mirrorDataRx (c : Fin 256) (slots own : List (Nat × Nat))
  /-- JOIN_CONTEXT_COPY (R381): A context or pattern is copied to the joining standby; the last copy makes it SYNCED. -/
  | joinContextCopy (item : JoinItem)
  /-- SWITCH (R375): RED_CMD SWITCH makes the primary declare departure. -/
  | switch (r : Requester)
  /-- TAKEOVER_COLD (R379): RED_CMD TAKEOVER_COLD makes an unsynced standby PRIMARY with contexts restarted. -/
  | takeoverCold (r : Requester)
  /-- RESYNC (R382): RED_CMD RESYNC makes the standby resynchronise its contexts. -/
  | resync (r : Requester)
  /-- PAIR_TIME_MESSAGE (R384): Every 125 ms a time message is exchanged over PAIR and may update the standby's TSU. -/
  | pairTimeMessage (offset rate : Int) (delayNs : Nat)
  /-- CAN3_HEARTBEAT_TX (R385): The unit sends its CAN3 heartbeat frame every 1 ms. -/
  | can3HeartbeatTx
  /-- CAN3_HEARTBEAT_RX (R385): A partner heartbeat is received on CAN3. -/
  | can3HeartbeatRx (h : CanBeat)
  /-- CAN3_HEARTBEAT_TIMEOUT (R361): No valid CAN3 heartbeat for 5 ms; the partner is silent on CAN3. -/
  | can3HeartbeatTimeout
  /-- CAN3_AUTO_RECOVER (R385): 100 ms after a CAN3 bus-off, RED issues RECOVER. -/
  | can3AutoRecover
  /-- DRAM_CORRECTED_ERROR (R391): The rind corrects a burst, writes it back, counts it and may mark the device. -/
  | dramCorrectedError (dev : Fin 10) (errs : List (BitVec 8)) (addr : Word) (region : DramRegion) (retire : Bool)
  /-- DRAM_UNCORRECTABLE_ERROR (R394): An uncorrectable DRAM error is handled by region and the line rewritten or retired. -/
  | dramUncorrectableError (burst : List (List (BitVec 8))) (addr : Word) (region : DramRegion) (retire : Bool)
  /-- PATROL_SCRUB (R392): The patrol reads and corrects the next DRAM line. -/
  | patrolScrub
  /-- INNER_COUNTER_READ (R392): Once an hour the devices' own error counters are read into MEM_INNER_CNT. -/
  | innerCounterRead (n : Nat)
  /-- SRAM_SCRUB (R395): An on-die SRAM scrub pass corrects and counts single errors. -/
  | sramScrub (engine : Option (Fin 16)) (corrected : Nat)
  /-- SRAM_UNCORRECTABLE_ERROR (R396): An uncorrectable SRAM error is handled by region. -/
  | sramUncorrectableError (addr : Word) (region : SramRegion)
  /-- CELLAR_RECORD_DURABLE (R398): A persistent-state record copy is programmed and read back. -/
  | cellarRecordDurable (ok : Bool) (us : Nat)
  /-- CELLAR_READ_ONLY (R400): No spare block remains and the cellar becomes read-only. -/
  | cellarReadOnly
  /-- OPTIME_STORE (R406): Every 60 s operating time is stored in the cellar. -/
  | optimeStore
  /-- RECORD_ACCEPT (R411): A record is accepted into the commit queue or refused and counted. -/
  | recordAccept (island : Bool) (sev : Fin 8) (typ src : Nat) (words : List Word)
  /-- RECORD_DURABLE (R410): A queued record is durable in the first area or the ring. -/
  | recordDurable (us : Nat)
  /-- MARK (R422): UPD_CMD MARK marks the cask vintage for racking after the checks of R422. -/
  | mark (r : Requester) (downgrade : Bool)
  /-- UNMARK (R421): UPD_CMD UNMARK returns the cask to COMPLETE. -/
  | unmark (r : Requester)
  /-- UPD_DISCARD (R421): UPD_CMD DISCARD empties the cask and clears its bitmap. -/
  | updDiscard (r : Requester)
  /-- REVERT (R421): UPD_CMD REVERT copies the fallback into the cask and marks it. -/
  | revert (r : Requester) (app : Bool)
  /-- STOP (R430): SYS_CMD STOP takes the module to STOP. -/
  | stop (r : Requester) (force : Bool)
  /-- RUN (R430): SYS_CMD RUN takes the module from STOP to RUN or RUN-DEGRADED. -/
  | run (r : Requester)
  /-- COMMISSION (R430): SYS_CMD COMMISSION takes the module from STOP to COMMISSION. -/
  | commission (r : Requester)
  /-- SYS_RESTART (R430): SYS_CMD RESTART puts outputs safe and starts the module again from step 2. -/
  | sysRestart (r : Requester) (force : Bool) (found : StartIn)
  /-- LABEL_UPDATE_REQUEST (R441): A region of the bistable label is requested with new target levels, its UPDATE record made durable. -/
  | labelUpdateRequest (region : Fin 6) (levels : List (Fin 4))
  /-- LABEL_INTERVAL_EXPIRY (R438): MIN_INTV ends for a region and a held change is drawn. -/
  | labelIntervalExpiry (region : Fin 6)
  /-- LABEL_FRAME (R439): A 20 ms drive frame advances the waveforms, starts deferred pixels and completes updates. -/
  | labelFrame (temp : Int) (tableBad : Bool)
  /-- REFRESH (R444): DSB_CMD REFRESH redraws every region. -/
  | refresh (r : Requester)
  /-- CLEAN (R444): DSB_CMD CLEAN runs a full-panel clean cycle and redraw. -/
  | clean (r : Requester)
  /-- PANEL_RENDER (R447): Every 100 ms the emissive panel is rendered and changed lines are written. -/
  | panelRender (body : List (List Nat)) (attrs : List Nat) (ok mapOk : Bool)
  /-- SWAP (R450): DSE_PCTL.SWAP makes the program back buffer shown at the next render. -/
  | swap (r : Requester)
  /-- PANEL_DIM (R449): DIM_TIME without a press dims the panel. -/
  | panelDim
  /-- BUTTON_PRESS (R452): A short press of UP, DOWN or SET browses pages or steps the CAL menu. -/
  | buttonPress (button : Fin 3) (held : Fin 8)
  /-- BUTTON_LONG_PRESS (R452): SET held 2 s goes back one level. -/
  | buttonLongPress (held : Fin 8)
  /-- BUTTON_REPEAT (R452): UP or DOWN held in value entry repeats steps. -/
  | buttonRepeat (down : Bool) (held : Fin 8)
  /-- LAMP_TEST (R452): UP and DOWN held 3 s run the lamp test. -/
  | lampTest (held : Fin 8)
  /-- LOCAL_CAL_CHANGE (R254): LOCAL_CAL closes or opens; opening ends every local session. -/
  | localCalChange (closed : Bool)
  /-- UNLOCK (R465): SEC_CMD UNLOCK checks the token, erases the keys and enables SVC. -/
  | unlock (r : Requester)
  /-- HOLD_UP_STORE_CHARGED (R47): Within 1 s of power good the hold-up store is charged, PWR_CP_STAT.HOLDUP is set and the full 20 ms hold-up is available. -/
  | holdUpStoreCharged
  /-- LINK_OUT_FRAME_RETURN (R296): In a ring, an OUT or SYNC frame sent on one link port returns on the other and is noted for the ring state. -/
  | linkOutFrameReturn (portB : Bool)
  /-- LINK_STRAY_FRAME (R300): A tagged frame, a frame of another EtherType or a frame with a bad FCS arrives on LNKA or LNKB and is counted as stray or as an FCS error. -/
  | linkStrayFrame (portB fcsBad : Bool)
  /-- LINK_PORT_LINK_UP (R320): LNKA or LNKB regains its link and LNK_STAT.LINK_A or LINK_B is set again. -/
  | linkPortLinkUp (portB : Bool)
  /-- PTP_DELAY_REQ_RX (R325): As master with delay request-response, a Delay_Req from a slave is received and answered with a Delay_Resp. -/
  | ptpDelayReqRx (portB : Bool) (domain seq sender receipt : Nat)
  /-- SSP_UNKNOWN_SERVICE (R336): An SSP request names a service unknown in the negotiated version and is answered SSP_SERVICE. -/
  | sspUnknownService (h : SspHdr) (service : Nat)
  /-- PAIR_LATCH_SET_RX (R370): The standby receives the primary's latch set, waiting-instruction answers and solver results over PAIR and begins the execute phase of its cycle. -/
  | pairLatchSetRx (p : PairSet)
  /-- PAIR_COMMAND_RX (R374): The standby receives a force command or change package from the primary over PAIR and applies it at the named latch or commit instant. -/
  | pairCommandRx (c : PairCmd)
  /-- RESET_RECORD_TIMEOUT (R290): The reset record is not durable within 1 s and the reset request is refused with SAF_RECORD. -/
  | resetRecordTimeout
  /-- IP_SETTINGS_TAKE_EFFECT (R338): 1 s after the NET page locks, the written IPv4 address, mask and gateway take effect. -/
  | ipSettingsTakeEffect
  /-- HART_CARRIER_SILENCE (R266): On a held or multidrop channel, 500 ms without carrier opens a transmission opportunity for a waiting transaction. -/
  | hartCarrierSilence (ch : Fin 64)
deriving DecidableEq, Repr

end Sys2Proof
end

