-- ==== Sys2Proof/WellFormed.lean ====
section
/-! DEFINITION. Which commands are well formed: operands that their encodings and address spaces can hold (R51, R91, R100, R101, R331 to R335). -/

namespace Sys2Proof

open Machine

/-- A slot number of 12 bits. -/
def slotOk (n : Nat) : Bool := decide (n < 4096)

/-- A type tag of 4 bits. -/
def tagOk (n : Nat) : Bool := decide (n < 16)

/-- A signed offset of `w` bits. -/
def offOk (w : Nat) (v : Int) : Bool := decide (-(2 : Int) ^ (w - 1) ≤ v ∧ v < (2 : Int) ^ (w - 1))

/-- A byte offset of the register window, a multiple of 4. -/
def winOk (n : Nat) : Bool := decide (n < 2 ^ 20) && n % 4 == 0

/-- An operation with one source. -/
def Machine.Arith.oneSource : Arith → Bool
  | .neg | .abs | .sqrt => true
  | .add | .sub | .mul | .div | .rem | .min | .max | .fma => false

/-- The instruction's words can hold its operands (R100, R101). -/
def Machine.Insn.wellFormed : Insn → Bool
  | .nop | .endCycle | .ret => true
  | .trap s1 => slotOk s1
  | .mov d s1 | .mov64 d s1 => slotOk d && slotOk s1
  | .ldi d imm => slotOk d && decide (imm < 2 ^ 32)
  | .ldk d idx => slotOk d && decide (idx < 2 ^ 32)
  | .ldx d s1 base n | .stx d s1 base n => slotOk d && slotOk s1 && slotOk base && decide (n < 4096)
  | .arith op t d s1 s2 => tagOk t && slotOk d && slotOk s1 && slotOk s2 && (!op.oneSource || s2 == 0)
  | .logic op t d s1 s2 => tagOk t && slotOk d && slotOk s1 && slotOk s2 && (!(op == .not) || s2 == 0)
  | .cmp _ t d s1 s2 | .cmov t d s1 s2 => tagOk t && slotOk d && slotOk s1 && slotOk s2
  | .cvt _ dst src d s1 => tagOk dst && tagOk src && slotOk d && slotOk s1
  | .br off | .call off => offOk 24 off
  | .brt s1 off | .brf s1 off => slotOk s1 && offOk 32 off
  | .loop d off => slotOk d && offOk 32 off
  | .gld d idx | .ird d idx | .iq d idx | .iage d idx => slotOk d && decide (idx < 2 ^ 16)
  | .gst s1 idx | .owr s1 idx => slotOk s1 && decide (idx < 2 ^ 16)
  | .tlatch d | .cstat d | .xflags d => slotOk d
  | .tpos d base => slotOk d && decide (base ≤ 1)
  | .rrd d s1 off | .rwr d s1 off | .rrd64 d s1 off | .rwr64 d s1 off => slotOk d && slotOk s1 && winOk off
  | .rrdx d s1 addr | .rwrx d s1 addr => slotOk d && slotOk s1 && slotOk addr
  | .ssub d base job | .scan d base job => slotOk d && slotOk base && decide (job < 16)
  | .recApp d s1 sev typ len => slotOk d && slotOk s1 && decide (sev < 256) && decide (typ < 256) && slotOk len

/-- The LVC instruction that a command runs, and its context; none for every other command. -/
def Instr.insn : Instr → Option (Nat × Insn)
  | .nop c => some (c.val, .nop)
  | .endCycle c => some (c.val, .endCycle)
  | .trap c s1 => some (c.val, .trap s1.val)
  | .mov c d s1 => some (c.val, .mov d.val s1.val)
  | .mov64 c d s1 => some (c.val, .mov64 d.val s1.val)
  | .ldi c d imm => some (c.val, .ldi d.val imm.toNat)
  | .ldk c d idx => some (c.val, .ldk d.val idx)
  | .ldx c d s1 base n => some (c.val, .ldx d.val s1.val base.val n.val)
  | .stx c d s1 base n => some (c.val, .stx d.val s1.val base.val n.val)
  | .add c t d s1 s2 => some (c.val, .arith .add t.val d.val s1.val s2.val)
  | .sub c t d s1 s2 => some (c.val, .arith .sub t.val d.val s1.val s2.val)
  | .mul c t d s1 s2 => some (c.val, .arith .mul t.val d.val s1.val s2.val)
  | .div c t d s1 s2 => some (c.val, .arith .div t.val d.val s1.val s2.val)
  | .rem c t d s1 s2 => some (c.val, .arith .rem t.val d.val s1.val s2.val)
  | .min c t d s1 s2 => some (c.val, .arith .min t.val d.val s1.val s2.val)
  | .max c t d s1 s2 => some (c.val, .arith .max t.val d.val s1.val s2.val)
  | .neg c t d s1 => some (c.val, .arith .neg t.val d.val s1.val 0)
  | .abs c t d s1 => some (c.val, .arith .abs t.val d.val s1.val 0)
  | .sqrt c t d s1 => some (c.val, .arith .sqrt t.val d.val s1.val 0)
  | .fma c t d s1 s2 => some (c.val, .arith .fma t.val d.val s1.val s2.val)
  | .and c t d s1 s2 => some (c.val, .logic .and t.val d.val s1.val s2.val)
  | .or c t d s1 s2 => some (c.val, .logic .or t.val d.val s1.val s2.val)
  | .xor c t d s1 s2 => some (c.val, .logic .xor t.val d.val s1.val s2.val)
  | .not c t d s1 => some (c.val, .logic .not t.val d.val s1.val 0)
  | .shl c t d s1 s2 => some (c.val, .logic .shl t.val d.val s1.val s2.val)
  | .shr c t d s1 s2 => some (c.val, .logic .shr t.val d.val s1.val s2.val)
  | .rol c t d s1 s2 => some (c.val, .logic .rol t.val d.val s1.val s2.val)
  | .ror c t d s1 s2 => some (c.val, .logic .ror t.val d.val s1.val s2.val)
  | .eq c t d s1 s2 => some (c.val, .cmp .eq t.val d.val s1.val s2.val)
  | .ne c t d s1 s2 => some (c.val, .cmp .ne t.val d.val s1.val s2.val)
  | .lt c t d s1 s2 => some (c.val, .cmp .lt t.val d.val s1.val s2.val)
  | .le c t d s1 s2 => some (c.val, .cmp .le t.val d.val s1.val s2.val)
  | .gt c t d s1 s2 => some (c.val, .cmp .gt t.val d.val s1.val s2.val)
  | .ge c t d s1 s2 => some (c.val, .cmp .ge t.val d.val s1.val s2.val)
  | .cvt c trunc dst src d s1 => some (c.val, .cvt trunc dst.val src.val d.val s1.val)
  | .cmov c t d s1 s2 => some (c.val, .cmov t.val d.val s1.val s2.val)
  | .br c ofs => some (c.val, .br ofs)
  | .brt c s1 ofs => some (c.val, .brt s1.val ofs)
  | .brf c s1 ofs => some (c.val, .brf s1.val ofs)
  | .call c ofs => some (c.val, .call ofs)
  | .ret c => some (c.val, .ret)
  | .loop c d ofs => some (c.val, .loop d.val ofs)
  | .gld c d idx => some (c.val, .gld d.val idx)
  | .gst c s1 idx => some (c.val, .gst s1.val idx)
  | .ird c d idx => some (c.val, .ird d.val idx)
  | .iq c d idx => some (c.val, .iq d.val idx)
  | .iage c d idx => some (c.val, .iage d.val idx)
  | .owr c s1 idx => some (c.val, .owr s1.val idx)
  | .tlatch c d => some (c.val, .tlatch d.val)
  | .tpos c d base => some (c.val, .tpos d.val base.val)
  | .cstat c d => some (c.val, .cstat d.val)
  | .xflags c d => some (c.val, .xflags d.val)
  | .rrd c d s1 off => some (c.val, .rrd d.val s1.val off)
  | .rwr c d s1 off => some (c.val, .rwr d.val s1.val off)
  | .rrd64 c d s1 off => some (c.val, .rrd64 d.val s1.val off)
  | .rwr64 c d s1 off => some (c.val, .rwr64 d.val s1.val off)
  | .rrdx c d s1 addr => some (c.val, .rrdx d.val s1.val addr.val)
  | .rwrx c d s1 addr => some (c.val, .rwrx d.val s1.val addr.val)
  | .ssub c d base job => some (c.val, .ssub d.val base.val job.val)
  | .scan c d base job _ => some (c.val, .scan d.val base.val job.val)
  | .recApp c d s1 sev typ len => some (c.val, .recApp d.val s1.val sev typ len)
  | .registerWrite .. | .accRefusedRecord .. | .rcRead .. | .reg64LoRead .. | .reg64LoWrite .. | .reg64HiWrite ..
  | .evtTest .. | .evtPendClear .. | .eventLineEdge .. | .pageUnlock .. | .pageLock .. | .pageLockTimeout ..
  | .moduleStart .. | .coreInputRise .. | .inputQualificationEnd .. | .joinWaitExpiry .. | .coreInputLost ..
  | .coreInputReturn .. | .coreOvervoltageDisconnect .. | .coreOvervoltageReconnect .. | .coreBusUndervoltage ..
  | .coreInterruptionEnd .. | .powerFailCommit .. | .powerDownOutputsOff .. | .supervisorWatchdogExpiry ..
  | .referenceFault .. | .fieldBusUndervoltage .. | .fieldLimitTrip .. | .fieldBusReturn .. | .fieldInputChange ..
  | .restore .. | .sfpStatusChange .. | .coinCellLow .. | .rtcBackupExhausted .. | .vsZeroCrossing ..
  | .vsInputLost .. | .abs0QualComplete .. | .absHoldEnd .. | .abs0HoldoverRamp .. | .abs0HoldoverAtNom ..
  | .abs1CountEdge .. | .abs1Index .. | .abs1Stopped .. | .abs1Overspeed .. | .tsuSecond .. | .hourlyTimeMark ..
  | .ppsEdge .. | .tsuSourceUpdate .. | .tsuSourceLost .. | .tsuSlewComplete .. | .tsuSet .. | .tsuAdj ..
  | .rtcSet .. | .tsuCapture .. | .compareFire .. | .contextTrigger .. | .contextDispatch .. | .waitAnswer ..
  | .imageLoad .. | .engTestStart .. | .engTestComplete .. | .engineFault .. | .faultSelfTestDue .. | .restart ..
  | .schStop .. | .schStart .. | .replace .. | .migrationCopyComplete .. | .engineParkBegin .. | .engineParked ..
  | .engineReturn .. | .energyWindowEnd .. | .thermalEvaluation .. | .thermalTrip .. | .set .. | .release ..
  | .releaseAll .. | .readForce .. | .forceAcknowledge .. | .packageReceived .. | .verify ..
  | .packageVerifyComplete .. | .commit .. | .olcArm .. | .abort .. | .discard .. | .olcCommitInstant ..
  | .olcNoBoundary .. | .olcMarkerDurable .. | .patternLoad .. | .cancel .. | .solverJobStart .. | .solverJobEnd ..
  | .solverDeadline .. | .floatSelftestChunk .. | .laneGroupFault .. | .solverFault .. | .aiSample ..
  | .diStateAccepted .. | .namurLineFault .. | .tpChipEval .. | .complianceSet .. | .complianceClear ..
  | .channelFaultDeclare .. | .stageThermalSet .. | .stageThermalClear .. | .doOverload .. | .doRetry ..
  | .doOpenLoad .. | .doRateHoldEnd .. | .chModeWrite .. | .clrFault .. | .calOpen .. | .calZero .. | .calSpan ..
  | .calCommit .. | .calCancel .. | .calFactory .. | .calPointAveraged .. | .calTrimsDurable ..
  | .calSessionTimeout .. | .hartBindWrite .. | .submit .. | .hartCancel .. | .hartTransactionStart ..
  | .hartResponse .. | .hartResponseTimeout .. | .hartWaitExpiry .. | .hartBurstFrame .. | .hartPoll ..
  | .hartModemFault .. | .safetyCycleStart .. | .islandHoldOff .. | .lockoutCause .. | .islandRecordRepeat ..
  | .safeRstPulse .. | .signedReset .. | .signedStart .. | .resetSelftestComplete .. | .resetRecordDurable ..
  | .linkCycle .. | .linkSendDeadline .. | .linkInFrame .. | .linkWindowEnd .. | .hello .. | .ready ..
  | .linkPortLost .. | .linkDrop .. | .linkAdmit .. | .prpFrameRx .. | .prpSupervisionTx .. | .prpNodeForget ..
  | .netPortLink .. | .icmpEcho .. | .arpRequest .. | .ptpSyncRx .. | .ptpFollowUpRx .. | .ptpAnnounceRx ..
  | .ptpAnnounceTimeout .. | .ptpDelayReqTx .. | .ptpDelayRespRx .. | .ptpPdelayReqRx .. | .ptpMasterTx ..
  | .sspBadDatagram .. | .sspOpen .. | .sspClose .. | .sspKeepalive .. | .sspRegRead .. | .sspRegWrite ..
  | .sspSubscribe .. | .sspUnsubscribe .. | .sspPublish .. | .fileBegin .. | .filePiece .. | .fileStatus ..
  | .fileAbort .. | .recRead .. | .signedCmd .. | .sspSessionTimeout .. | .fileTransferOrphanTimeout ..
  | .canFrameRx .. | .canErrorFrame .. | .canTxInstant .. | .canTxAttemptEnd .. | .recover ..
  | .canRecoveryComplete .. | .canModeChange .. | .pairLinkUp .. | .pairLinkLost .. | .pairHeartbeatTx ..
  | .pairHeartbeatRx .. | .pairTimeout .. | .claimRound .. | .claimRoundAlone .. | .claimRoundEnd ..
  | .healthHandover .. | .takeover .. | .mirrorDataRx .. | .joinContextCopy .. | .switch .. | .takeoverCold ..
  | .resync .. | .pairTimeMessage .. | .can3HeartbeatTx .. | .can3HeartbeatRx .. | .can3HeartbeatTimeout ..
  | .can3AutoRecover .. | .dramCorrectedError .. | .dramUncorrectableError .. | .patrolScrub ..
  | .innerCounterRead .. | .sramScrub .. | .sramUncorrectableError .. | .cellarRecordDurable ..
  | .cellarReadOnly .. | .optimeStore .. | .recordAccept .. | .recordDurable .. | .mark .. | .unmark ..
  | .updDiscard .. | .revert .. | .stop .. | .run .. | .commission .. | .sysRestart .. | .labelUpdateRequest ..
  | .labelIntervalExpiry .. | .labelFrame .. | .refresh .. | .clean .. | .panelRender .. | .swap .. | .panelDim ..
  | .buttonPress .. | .buttonLongPress .. | .buttonRepeat .. | .lampTest .. | .localCalChange .. | .unlock ..
  | .holdUpStoreCharged .. | .linkOutFrameReturn .. | .linkStrayFrame .. | .linkPortLinkUp .. | .ptpDelayReqRx ..
  | .sspUnknownService .. | .pairLatchSetRx .. | .pairCommandRx .. | .resetRecordTimeout ..
  | .ipSettingsTakeEffect .. | .hartCarrierSilence .. => none

/-- A command's operands fit what carries them. -/
def Instr.wellFormed (i : Instr) : Bool :=
  match i.insn with
  | some (_, x) => x.wellFormed
  | none => match i with
    | .registerWrite _ off _ _ _ => winOk off
    | .rcRead _ off _ => winOk off
    | .reg64LoRead _ off => winOk off
    | .reg64LoWrite _ off _ => winOk off
    | .reg64HiWrite _ off _ => winOk off
    | .evtTest _ page _ => decide (page < 256)
    | .evtPendClear _ page _ => decide (page < 256)
    | .pageUnlock _ page => decide (page < 256)
    | .pageLock _ page _ => decide (page < 256)
    | .pageLockTimeout page => decide (page < 256)
    | .imageLoad _ image => decide (16 ≤ image.length)
    | .engineFault _ _ l => l.all fun k => decide (k < 16)
    | .patternLoad _ image => decide (16 ≤ image.length)
    | .hartResponse _ rsp => decide (rsp.data.length ≤ 255)
    | .signedReset _ serial _ sig => decide (serial < 2 ^ 64) && sig.length == 16
    | .signedStart _ serial _ sig => decide (serial < 2 ^ 64) && sig.length == 16
    | .prpNodeForget mac => decide (mac < 2 ^ 48)
    | .sspOpen o => o.header.length == 20 && o.clientKey.length == 32 && o.nonce.length == 16 && o.cred.length == 32 && o.sig.length == 64
    | .sspRegRead _ offs => decide (offs.length * 4 ≤ 1400)
    | .sspRegWrite _ pairs _ => decide (pairs.length * 8 ≤ 1400)
    | .fileBegin _ target size ident _ => decide (target < 256 ∧ size < 2 ^ 32 ∧ ident < 2 ^ 64)
    | .filePiece _ chunk off data => decide (chunk < 2 ^ 32 ∧ off < 2 ^ 16 ∧ data.length ≤ 1400)
    | .recRead _ area pos count => decide (area < 256 ∧ pos < 2 ^ 64 ∧ count < 2 ^ 32)
    | .signedCmd _ _ serial _ sig => decide (serial < 2 ^ 64) && sig.length == 16
    | .recordAccept _ _ typ src words => decide (typ < 2 ^ 16 ∧ src < 2 ^ 12 ∧ words.length ≤ 252)
    | .accRefusedRecord .. | .eventLineEdge .. | .moduleStart .. | .coreInputRise .. | .inputQualificationEnd ..
    | .joinWaitExpiry .. | .coreInputLost .. | .coreInputReturn .. | .coreOvervoltageDisconnect ..
    | .coreOvervoltageReconnect .. | .coreBusUndervoltage .. | .coreInterruptionEnd .. | .powerFailCommit ..
    | .powerDownOutputsOff .. | .supervisorWatchdogExpiry .. | .referenceFault .. | .fieldBusUndervoltage ..
    | .fieldLimitTrip .. | .fieldBusReturn .. | .fieldInputChange .. | .restore .. | .sfpStatusChange ..
    | .coinCellLow .. | .rtcBackupExhausted .. | .vsZeroCrossing .. | .vsInputLost .. | .abs0QualComplete ..
    | .absHoldEnd .. | .abs0HoldoverRamp .. | .abs0HoldoverAtNom .. | .abs1CountEdge .. | .abs1Index ..
    | .abs1Stopped .. | .abs1Overspeed .. | .tsuSecond .. | .hourlyTimeMark .. | .ppsEdge .. | .tsuSourceUpdate ..
    | .tsuSourceLost .. | .tsuSlewComplete .. | .tsuSet .. | .tsuAdj .. | .rtcSet .. | .tsuCapture ..
    | .compareFire .. | .contextTrigger .. | .contextDispatch .. | .waitAnswer .. | .nop .. | .endCycle ..
    | .trap .. | .mov .. | .mov64 .. | .ldi .. | .ldk .. | .ldx .. | .stx .. | .add .. | .sub .. | .mul ..
    | .div .. | .rem .. | .min .. | .max .. | .neg .. | .abs .. | .sqrt .. | .fma .. | .and .. | .or .. | .xor ..
    | .not .. | .shl .. | .shr .. | .rol .. | .ror .. | .eq .. | .ne .. | .lt .. | .le .. | .gt .. | .ge ..
    | .cvt .. | .cmov .. | .br .. | .brt .. | .brf .. | .call .. | .ret .. | .loop .. | .gld .. | .gst .. | .ird ..
    | .iq .. | .iage .. | .owr .. | .tlatch .. | .tpos .. | .cstat .. | .xflags .. | .rrd .. | .rwr .. | .rrd64 ..
    | .rwr64 .. | .rrdx .. | .rwrx .. | .ssub .. | .scan .. | .recApp .. | .engTestStart .. | .engTestComplete ..
    | .faultSelfTestDue .. | .restart .. | .schStop .. | .schStart .. | .replace .. | .migrationCopyComplete ..
    | .engineParkBegin .. | .engineParked .. | .engineReturn .. | .energyWindowEnd .. | .thermalEvaluation ..
    | .thermalTrip .. | .set .. | .release .. | .releaseAll .. | .readForce .. | .forceAcknowledge ..
    | .packageReceived .. | .verify .. | .packageVerifyComplete .. | .commit .. | .olcArm .. | .abort ..
    | .discard .. | .olcCommitInstant .. | .olcNoBoundary .. | .olcMarkerDurable .. | .cancel ..
    | .solverJobStart .. | .solverJobEnd .. | .solverDeadline .. | .floatSelftestChunk .. | .laneGroupFault ..
    | .solverFault .. | .aiSample .. | .diStateAccepted .. | .namurLineFault .. | .tpChipEval ..
    | .complianceSet .. | .complianceClear .. | .channelFaultDeclare .. | .stageThermalSet ..
    | .stageThermalClear .. | .doOverload .. | .doRetry .. | .doOpenLoad .. | .doRateHoldEnd .. | .chModeWrite ..
    | .clrFault .. | .calOpen .. | .calZero .. | .calSpan .. | .calCommit .. | .calCancel .. | .calFactory ..
    | .calPointAveraged .. | .calTrimsDurable .. | .calSessionTimeout .. | .hartBindWrite .. | .submit ..
    | .hartCancel .. | .hartTransactionStart .. | .hartResponseTimeout .. | .hartWaitExpiry .. | .hartBurstFrame ..
    | .hartPoll .. | .hartModemFault .. | .safetyCycleStart .. | .islandHoldOff .. | .lockoutCause ..
    | .islandRecordRepeat .. | .safeRstPulse .. | .resetSelftestComplete .. | .resetRecordDurable ..
    | .linkCycle .. | .linkSendDeadline .. | .linkInFrame .. | .linkWindowEnd .. | .hello .. | .ready ..
    | .linkPortLost .. | .linkDrop .. | .linkAdmit .. | .prpFrameRx .. | .prpSupervisionTx .. | .netPortLink ..
    | .icmpEcho .. | .arpRequest .. | .ptpSyncRx .. | .ptpFollowUpRx .. | .ptpAnnounceRx ..
    | .ptpAnnounceTimeout .. | .ptpDelayReqTx .. | .ptpDelayRespRx .. | .ptpPdelayReqRx .. | .ptpMasterTx ..
    | .sspBadDatagram .. | .sspClose .. | .sspKeepalive .. | .sspSubscribe .. | .sspUnsubscribe .. | .sspPublish ..
    | .fileStatus .. | .fileAbort .. | .sspSessionTimeout .. | .fileTransferOrphanTimeout .. | .canFrameRx ..
    | .canErrorFrame .. | .canTxInstant .. | .canTxAttemptEnd .. | .recover .. | .canRecoveryComplete ..
    | .canModeChange .. | .pairLinkUp .. | .pairLinkLost .. | .pairHeartbeatTx .. | .pairHeartbeatRx ..
    | .pairTimeout .. | .claimRound .. | .claimRoundAlone .. | .claimRoundEnd .. | .healthHandover ..
    | .takeover .. | .mirrorDataRx .. | .joinContextCopy .. | .switch .. | .takeoverCold .. | .resync ..
    | .pairTimeMessage .. | .can3HeartbeatTx .. | .can3HeartbeatRx .. | .can3HeartbeatTimeout ..
    | .can3AutoRecover .. | .dramCorrectedError .. | .dramUncorrectableError .. | .patrolScrub ..
    | .innerCounterRead .. | .sramScrub .. | .sramUncorrectableError .. | .cellarRecordDurable ..
    | .cellarReadOnly .. | .optimeStore .. | .recordDurable .. | .mark .. | .unmark .. | .updDiscard ..
    | .revert .. | .stop .. | .run .. | .commission .. | .sysRestart .. | .labelUpdateRequest ..
    | .labelIntervalExpiry .. | .labelFrame .. | .refresh .. | .clean .. | .panelRender .. | .swap ..
    | .panelDim .. | .buttonPress .. | .buttonLongPress .. | .buttonRepeat .. | .lampTest .. | .localCalChange ..
    | .unlock .. | .holdUpStoreCharged .. | .linkOutFrameReturn .. | .linkStrayFrame .. | .linkPortLinkUp ..
    | .ptpDelayReqRx .. | .sspUnknownService .. | .pairLatchSetRx .. | .pairCommandRx .. | .resetRecordTimeout ..
    | .ipSettingsTakeEffect .. | .hartCarrierSilence .. => true

end Sys2Proof
end

