-- ==== Sys2Proof/Decode.lean ====
section
/-! DEFINITION. The command that a word of the opcode table spells. The module takes commands and not instruction words: no row of the table gives bits. The instruction words of Lamvile Code are decoded in Machine/Lvc.lean. -/

namespace Sys2Proof

/-- The command that a word spells: none, since no row of the table has bits. Log: 4 (DESIGN CHOICE). -/
def decodeTableWord (_nbits _w : Nat) : Option Instr := none

end Sys2Proof
end

