-- ==== Sys2Proof/Machine/State.lean ====
section
/-! DEFINITION. The state of the module as plain data: every register (in one sparse store), every hidden piece of state the spec gives, and the queue of waiting commands. -/

namespace Sys2Proof.Machine

/-- A requester instance's 64-bit latch (R61): the _LO read last with the two words above it as they were then, high word
and epoch, and a _LO write that waits for its _HI. -/
structure Latch64 where
  readLo : Option (Nat × Word × Word) := none
  writeLo : Option (Nat × Word) := none
deriving DecidableEq, Repr

/-- Refusals of one requester instance since its last ACC_REFUSED record, and when that was written (R65). -/
structure Refusals where
  since : Nat := 0
  lastRecord : Option Nat := none
deriving DecidableEq, Repr

/-- State of the register fabric outside the window. -/
structure Fabric where
  /-- The 64-bit latches, by requester instance. -/
  latches : List (Requester × Latch64) := []
  /-- Refusals not yet recorded, by requester instance. -/
  refusals : List (Requester × Refusals) := []
  /-- HOLDER of each unlocked page, by page number. -/
  holders : List (Nat × Requester) := []
deriving DecidableEq, Repr

/-- A record of the event recorder (R404). `words` is the payload in 4-byte words. -/
structure EvRec where
  sev : Nat
  cls : Nat
  typ : Nat
  src : Nat
  optime : Nat
  pcc : Nat
  words : List Nat
deriving DecidableEq, Repr

/-- A 4 KiB block of a recorder area (R408). -/
structure RecBlk where
  bseq : Nat
  pcc : Nat
  closed : Bool
  recs : List EvRec
deriving DecidableEq, Repr

/-- The event recorder outside the window. -/
structure Recorder where
  /-- The commit queue, in order of acceptance (R411). -/
  queue : List EvRec := []
  /-- Island records in their held space (R411). -/
  island : List EvRec := []
  /-- Blocks of the first area, oldest first (R408, R409). -/
  first : List RecBlk := []
  /-- Blocks of the ring, oldest first. -/
  ring : List RecBlk := []
  /-- Records refused for the queue's fill since the last LOST record of reason 2. -/
  refusedFill : Nat := 0
  /-- REC records accepted per context in the current 100 ms window, and those refused with REC_RATE (R412). -/
  accepted : List (Nat × Nat) := []
  rateRefused : List (Nat × Nat) := []
  /-- Power-cycle counts whose POWER_LOSS record is durable, newest first (R413). -/
  powerLossPcc : List Nat := []
deriving DecidableEq, Repr

/-- The cellar's own state: durable configuration words, requested writes, and copy bookkeeping (R398). -/
structure Cellar where
  /-- Durable value of every register that holds a P field written by configuration (R6, R399). -/
  cfg : List (Nat × Word) := []
  /-- Record writes requested and not yet durable, oldest first. -/
  requests : List CelRec := []
  /-- Sequence number of the newest durable copy, by record (R398). -/
  seqs : List (CelRec × Nat) := []
  /-- Operating time in ms as last stored, and as carried by the store on its way (R406). -/
  optime : Nat := 0
  optimeReq : Nat := 0
  /-- The copy of the change package held, its PATTERN sections included (R167). -/
  package : List Nat := []
deriving DecidableEq, Repr

/-- Where the core supply stands in the power-up and power-down sequences (R46, R48). -/
inductive CorePhase where
  /-- Unpowered, or past the end of a power-down. -/
  | off
  /-- Input qualification, 100 ms. -/
  | qualify
  /-- Internal rails ramp toward power good. -/
  | rails
  /-- Power good. -/
  | good
  /-- The ORed bus is below 17.0 V for less than 10 ms. -/
  | ride
  /-- Power fail committed; outputs still driven. -/
  | failing
  /-- Past t0 + 15 ms: outputs de-energised, transmission stopped. -/
  | down
deriving DecidableEq, Repr

/-- Base coding read from UNIT_SEL (R32). -/
inductive BaseKind where
  | single | unitA | unitB | invalid
deriving DecidableEq, Repr

/-- The power side of the module outside the window. -/
structure Power where
  phase : CorePhase := .off
  /-- CP1 and CP2 in range; an input disconnected for overvoltage counts as lost (R36). -/
  cpIn : List Bool := [false, false]
  cpDisconnected : List Bool := [false, false]
  /-- Fabric time at which the core bus fell below 17.0 V. -/
  t0 : Nat := 0
  /-- Fabric time of power good (R429). -/
  tg : Nat := 0
  /-- Base coding sampled at power good. -/
  base : BaseKind := .single
  /-- UNIT_SEL1 and UNIT_SEL0 as sampled, 1 meaning open. -/
  unitSel : Nat := 0
  /-- The start sequence of this run is complete (R12). -/
  completed : Bool := false
  /-- The channel front ends are loaded (R46). -/
  frontEnds : Bool := false
  /-- The first complete cycle has released the outputs (R30). -/
  released : Bool := false
  /-- In HALT the supervisor watchdog path has de-energised the outputs (R11). -/
  haltOff : Bool := false
  /-- The hold-up store is charged (R47). -/
  holdup : Bool := false
  /-- The field bus is on (R39). Before anything is known of the field supply it is off, as the Reset column of
  CHG_FP_STAT.BUS_OK says. Log: 145 (DESIGN CHOICE). -/
  fieldOn : Bool := false
  /-- The SFP status pins ABS, LOS and TXFLT (R35); high before the first change is seen, as with no SFP in the cage.
  Log: 146 (DESIGN CHOICE). -/
  sfpAbs : Bool := true
  sfpLos : Bool := true
  sfpTxFlt : Bool := false
deriving DecidableEq, Repr

/-- State of ABS0, ABS1, TSU and RTC that no register shows. -/
structure TimeState where
  /-- The input that ABS0 is qualifying, 0 VS1 or 1 VS2, and whether ACQUIRE was entered from HOLDOVER (R72). -/
  acqInput : Nat := 0
  acqFromHoldover : Bool := false
  /-- Frequencies in µHz of the last four qualified cycles of VS1 and VS2, newest first (R73). -/
  cycles : List (List Nat) := [[], []]
  /-- Fabric time since which VS1 and VS2 have been valid without break (R71). -/
  validSince : List (Option Nat) := [none, none]
  /-- Fraction of a turn below ABS0_POS_LO, in 10^-14 of 2^-32 turn, and of the holdover frequency ramp. -/
  abs0Frac : Nat := 0
  rampFrac : Nat := 0
  /-- How far the position is ahead of its reference while LOCKED, in turn units: it waits that long (R69, R72). -/
  abs0Ahead : Nat := 0
  /-- Fabric time of the last entry to HOLDOVER (R73). -/
  hoSince : Nat := 0
  /-- ABS1 counts since its angle was last set, and the extended position at that point (R77). -/
  count : Int := 0
  countBase : Int := 0
  /-- The last edge interval and the time since that edge, in ns; the highest position reached (R77, R79). -/
  lastInterval : Nat := 0
  sinceEdge : Nat := 0
  highest : Int := 0
  /-- Consecutive indices within 2 counts while SYNC_LOST; the last tooth came after a gap (R77). -/
  goodIndices : Nat := 0
  gapSeen : Bool := false
  /-- Offset still to be slewed, in 2^-16 ns times 10^-9 (R82). -/
  slewLeft : Int := 0
  /-- PTP, PPS and PAIR are available (R481). -/
  ptpAvail : Bool := false
  ppsAvail : Bool := false
  pairAvail : Bool := false
  /-- Consecutive updates within ±1 µs and beyond ±10 µs (R81). -/
  within : Nat := 0
  beyond : Nat := 0
  /-- Rates of the last 16 updates of the source, newest first; sum of the rate over the seconds LOCKED in this hour,
  and their number (R81, R86). -/
  rates : List Int := []
  lockedSum : Int := 0
  lockedSecs : Nat := 0
  /-- A SET waits for the next PPS edge (R88). -/
  setPending : Bool := false
  /-- TSU time at which the last TIME_MARK was written (R86). -/
  lastMark : Option Nat := none
  /-- Rate correction is applied, from start step 5 (R83). -/
  corrected : Bool := false
  /-- Time not yet shown by the TSU, in 2^-16 ns times 10^-9, and by the calendar clock, in 2^-15 ns. -/
  tsuFrac : Int := 0
  rtcFrac : Nat := 0
  /-- The calendar clock's oscillator runs (R86). -/
  rtcRuns : Bool := true
deriving DecidableEq, Repr

/-- One image element of a context (IOMAP, R92): VID, source word and flags word. -/
structure IoEl where
  vid : Nat
  source : Nat
  flags : Nat
deriving DecidableEq, Repr

/-- A global variable (VIDDEF, R92). -/
structure VidDef where
  vid : Nat
  typ : Nat
  flags : Nat
  writer : Nat
  init : Nat
deriving DecidableEq, Repr

/-- The static part of a context: its descriptor words 0x00 to 0x2F and its sections (R92, R120). -/
structure CtxProg where
  desc : List Nat := []
  code : List Nat := []
  tags : List Nat := []
  init : List Nat := []
  consts : List Nat := []
  imports : List Nat := []
  iomap : List IoEl := []
  /-- Mirrored slot ranges: first slot, count (R373). -/
  mirror : List (Nat × Nat) := []
deriving DecidableEq, Repr

/-- A latched input element: value, quality byte, and age in ns at the latch (R106). -/
structure InEl where
  value : Nat := 0
  quality : Nat := 2
  age : Int := 2147483647
deriving DecidableEq, Repr

/-- What a context's cycle is doing. -/
inductive Act where
  /-- Between cycles (R130). -/
  | idle
  | running
  /-- Answered and waiting to be resumed (R128). -/
  | ready
  /-- Pre-empted by a higher class: it resumes before any other cycle of its class (R128). -/
  | preempted
  /-- In a waiting instruction (R108). -/
  | waiting
deriving DecidableEq, Repr

/-- The answer a waiting instruction will write: its status slot and code, and a data slot, width and value. -/
structure Answer where
  dst : Nat
  code : Nat
  data : Option (Nat × Bool × Nat)
deriving DecidableEq, Repr

/-- A force as latched or in force: VID, tag, value, quality level (R152). -/
structure ForcedVal where
  vid : Nat
  tag : Nat
  value : Nat
  level : Nat
deriving DecidableEq, Repr

/-- Execution state of one context. -/
structure Cx where
  /-- Slot frame, program counter, call stack, sticky flags (R90, R95, R116). -/
  slots : List Word := []
  pc : Nat := 0
  stack : List Nat := []
  flags : Nat := 0
  act : Act := .idle
  /-- The pending waiting instruction's answer, and when it was issued. -/
  wait : Option Answer := none
  waitSince : Nat := 0
  /-- Latched input elements by element index; latched foreign globals by import index (R97, R106). -/
  inputs : List InEl := []
  latched : List Nat := []
  /-- Image-area copies of the own globals, by VID. -/
  own : List (Nat × Nat) := []
  /-- Program value of each output element last committed, and values written in this cycle, by element index (R107). -/
  committed : List (Nat × Nat) := []
  /-- TSU time of the last commit (R335). -/
  commitT : Option Nat := none
  written : List (Nat × Nat) := []
  /-- Output elements lost to a memory error, which take their substitutes at the next commit (R396). -/
  lostOut : List Nat := []
  /-- Mirror data that waits for the next dispatch: slot values, own globals (R373). -/
  mirrorSlots : List (Nat × Nat) := []
  mirrorOwn : List (Nat × Nat) := []
  /-- Forces active at the latch (R98, R154). -/
  forced : List ForcedVal := []
  /-- Latch instant, extended base positions at the latch, cycle status word (R20, R131). -/
  latchT : Nat := 0
  pos0 : Nat := 0
  pos1 : Nat := 0
  cstat : Nat := 0
  /-- A trigger waits for its dispatch, delayed or not (R129, R132). -/
  trig : Bool := false
  late : Bool := false
  /-- TIME_VALID was 0 at the latch; overrun skips since the last trigger that was taken (R131). -/
  noTime : Bool := false
  skipRun : Nat := 0
  /-- Deferred by the budget until the next window begins (R140). -/
  budgetDeferred : Bool := false
  /-- Marks for the next cycle's status word (R131). -/
  first : Bool := true
  tbShort : Bool := false
  tbStretch : Bool := false
  migrated : Bool := false
  budgetSkipped : Bool := false
  /-- The trigger before this one was dispatched (R139); the policy event was raised in this run of skips (R133). -/
  prevDispatched : Bool := false
  policyRaised : Bool := false
  /-- STOP waits for the cycle's completion (R134). -/
  stopAtEnd : Bool := false
  /-- Resident place on the home engine, 0 to 15 (R90). -/
  place : Nat := 0
  /-- The engine and the place the context is to move to; whether it has been handed over, at a completion or at once, and
  whether its copy is running (R144). -/
  moveTo : Option Nat := none
  movePlace : Nat := 0
  handed : Bool := false
  copying : Bool := false
  /-- Engine clocks of the cycle so far (R110, R136). -/
  clocks : Nat := 0
  /-- The next trigger's target: TSU ns, or extended position (R68). -/
  target : Nat := 0
  /-- The target of the trigger that began the current cycle. -/
  trigTarget : Nat := 0
  /-- TSU time until which an on-line change switch delays its dispatches (R172). -/
  heldUntil : Nat := 0
  /-- Time ACTIVE since ARM, and since when it is ACTIVE (R171). -/
  activeNs : Nat := 0
  activeFrom : Nat := 0
  /-- The context has lost its place to a higher-ranked one and stops at its next boundary (R27). -/
  dropAtEnd : Bool := false
deriving DecidableEq, Repr

/-- Self-test and fault bookkeeping of one engine (R119, R143). -/
structure EngState where
  parking : Bool := false
  /-- Parked for heat (R142), or returned from FAULT to PARKED (R143). -/
  thermal : Bool := false
  fromFault : Bool := false
  /-- FAULT entries at run time since start; a failed self-test keeps the engine in FAULT. -/
  faults : Nat := 0
  failed : Bool := false
  /-- Places withdrawn from use until the next start, by number. -/
  withdrawn : List Nat := []
  /-- Clocks and energy of the current window (R136, R146). -/
  winClocks : Nat := 0
  winEnergy : Nat := 0
  /-- Time available in the current window before `availFrom`, and since when it is available (R146). -/
  availNs : Nat := 0
  availFrom : Option Nat := none
  /-- The self-test that runs began in FAULT. -/
  testFault : Bool := false
deriving DecidableEq, Repr

/-- The scheduler outside the window. -/
structure Sched where
  engines : List (Nat × EngState) := []
  /-- Energy charged per budget class in the current window, in 2^-16 pJ, and of the solver (R136). -/
  ledger : List (Nat × Nat) := []
  solverEnergy : Nat := 0
  /-- TSU time at which the current window began. -/
  windowStart : Nat := 0
  /-- Budget skipping has begun since entry to HOT; a class-C deferral by budget was reported in this window. -/
  skipping : Bool := false
  deferReported : Bool := false
  /-- RESTART, START or REPLACE with migrations still running (R150). -/
  replacing : Bool := false
deriving DecidableEq, Repr

/-- An entry of the force table (R152, R158, R170): `orphan` is the SOURCE an orphan keeps. -/
structure FrcEntry where
  vid : Nat
  tag : Nat
  value : Nat
  level : Nat
  time : Nat
  output : Bool
  orphan : Option Nat
deriving DecidableEq, Repr

/-- A force command taken up and not yet acknowledged (R157): 1 SET, 2 RELEASE, 3 RELEASE_ALL, with SET's entry. -/
structure FrcCmd where
  cmd : Nat
  entry : FrcEntry
  req : Requester
deriving DecidableEq, Repr

/-- The force table in force by entry number, the table as durable in the cellar, and a waiting command. -/
structure Forces where
  table : List (Nat × FrcEntry) := []
  stored : List (Nat × FrcEntry) := []
  /-- The application image was refused at start: no force acts, the stored table stays (R160). -/
  idle : Bool := false
  pending : Option FrcCmd := none
  /-- On a pair base, the command agreed with the partner and the TSU instant at which both units apply it (R161). -/
  agreed : Option (FrcCmd × Nat) := none
deriving DecidableEq, Repr

/-- Range certificate of one row (R214): AMAX, MFRAC, KACC, BMAX. -/
structure SolCert where
  amax : Nat := 0
  mfrac : Nat := 0
  kacc : Nat := 0
  bmax : Nat := 0
deriving DecidableEq, Repr

/-- A pattern image (R181, R182). -/
structure PatImg where
  id : Nat
  n : Nat
  nnz : Nat
  nnzF : Nat
  store : Nat
  method : Nat
  precond : Nat
  target : Nat
  writer : Nat
  /-- First entry, entry count, row block of each row; column indices; VALUES; RHS. -/
  rows : List (Nat × Nat × Nat)
  cols : List Nat
  values : List Nat
  rhs : List Nat
  /-- First row, row count, logical lane of each block; direction, block count, first position of each level. -/
  blocks : List (Nat × Nat × Nat)
  levels : List (Nat × Nat × Nat)
  lvlIdx : List Nat
  fill : List Nat
  reduce : List Nat
  qfmt : List Nat
  cert : List SolCert
deriving DecidableEq, Repr

/-- A pattern in the store: its image, matrix values (binary32), right-hand side and current solution (binary64),
the mode of a pending checkpoint, and the SOL_TAU exponent of the factor in use (R188, R209, R217). -/
structure Pat where
  img : PatImg
  vals : List Nat
  rhs : List Nat
  sol : List Nat
  pendCert : Bool := false
  factTau : Nat := 20
  /-- The float factor in use, and what the checkpoint of a cut factorisation holds: the two factor buffers. -/
  fact : SolFact := {}
  pend : SolFact := {}
deriving DecidableEq, Repr

/-- A job's deadline (R192). -/
inductive SolDl where
  | afterStart
  | tsu (t : Nat)
  | angle (abs1 : Bool) (pos : Nat)
deriving DecidableEq, Repr

/-- A job as copied at issue (R190, R191). -/
structure SolJob where
  slot : Nat
  ctx : Nat
  /-- CLASS and BUDGET of the submitting context. -/
  cls : Nat
  budget : Nat
  kind : Nat
  cert : Bool
  refactor : Bool
  warm : Bool
  logical : Nat
  id : Nat
  dl : SolDl
  tol : Nat
  maxIt : Nat
  mat : List (Nat × Nat)
  rhs : List (Nat × Nat)
  seq : Nat
  /-- Fabric time of acceptance; float mode not excluded by the pair at acceptance (R372). -/
  ta : Nat
  pairFloat : Bool
deriving DecidableEq, Repr

/-- A job that runs (R195, R204, R207). -/
structure SolRun where
  job : SolJob
  phys : Nat
  ts : Nat
  lanes : Nat
  certified : Bool
  kres : Nat
  tau : Nat
  /-- The start iterate; a factorisation is due; row blocks of the checkpoint it resumes from. -/
  start : List Nat
  factor : Bool
  resume : Nat
deriving DecidableEq, Repr

/-- The current result of a job slot that its registers do not show (R197): unknown values, end time, solver FAULT since. -/
structure SolResult where
  x : List Nat
  te : Nat
  faulted : Bool := false
deriving DecidableEq, Repr

/-- The solver. -/
structure Solver where
  /-- Patterns by physical slot; jobs; results by job slot. -/
  pats : List (Nat × Pat) := []
  waiting : Option SolJob := none
  running : Option SolRun := none
  results : List (Nat × SolResult) := []
  /-- The unit is in FAULT; idle self-test time done, in ns (R208). -/
  down : Bool := false
  tested : Nat := 0
  /-- Granules retired by the memory (R389). -/
  retired : Nat := 0
deriving DecidableEq, Repr

/-- One recorded calibration point: the reference current and the untrimmed value, binary32 mA (R253). -/
structure CalPoint where
  ref : Nat
  raw : Nat
deriving DecidableEq, Repr

/-- What a calibration command waits for (R253, R255). -/
inductive CalWait where
  | none
  /-- The 1 s average of the zero (false) or span (true) point. -/
  | average (span : Bool)
  /-- Durability of new trims: zero, gain, source. -/
  | durable (z gain source : Nat)
deriving DecidableEq, Repr

/-- A calibration session (R253, R254). -/
structure CalSession where
  /-- Opened at the front buttons. -/
  isLocal : Bool := false
  /-- SSP session number of the opener; 0 for SUP and local sessions. -/
  num : Nat := 0
  zero : Option CalPoint := none
  span : Option CalPoint := none
  /-- The AO stage drives 20.000 mA in place of 4.000 mA. -/
  atSpan : Bool := false
  wait : CalWait := .none
deriving DecidableEq, Repr

/-- State of one field channel that its page does not show. -/
structure Chan where
  /-- A value exists since start or since the mode was set; a sample or filter time is awaited after a field return (R230, R250). -/
  valued : Bool := false
  fieldWait : Bool := false
  /-- Cause of the measurement's own classification: 0, or 2 to 7 (R233, R240, R242). -/
  mcause : Nat := 0
  /-- Last committed output value, and whether it is in force: a writer runs and has committed (R249). -/
  last : Option Nat := none
  active : Bool := false
  /-- Force in force on the output element: value, or substitute by level (R155). -/
  forced : Option Nat := none
  /-- The DO output as switched, and clamp energies of switch-offs: time and µJ (R243). -/
  onNow : Bool := false
  clamps : List (Nat × Nat) := []
  /-- Chips of the expected slot anomalous at their last evaluation, as a bitmap (R246). -/
  anom : Nat := 0
  /-- The front end failed its self-check (cause 18). -/
  selfFail : Bool := false
  /-- The island owns the channel (R227). -/
  island : Bool := false
  /-- Calibration session. -/
  cal : Option CalSession := none
  /-- The adaptive supply: voltage the load takes, in mV, and SP in its 25 mA limit; the last known current lies more than
  50 µA below the target (R40, R236, R238). -/
  loadMv : Nat := 0
  spLimit : Bool := false
  short : Bool := false
deriving DecidableEq, Repr

/-- A HART transaction as submitted; `slot` is none for the module's own poll (R264). -/
structure HartReq where
  slot : Option Nat
  ch : Nat
  addr : Nat
  cmd : Nat
  long : Bool
  devId : Nat
  devType : Nat
  data : List Nat
deriving DecidableEq, Repr

/-- A transaction on a modem: requests sent, whether the modem came from the pool, and whether a repeat waits for an
opportunity to transmit (R266). -/
structure HartRun where
  req : HartReq
  modem : Nat
  tries : Nat
  pool : Bool
  retry : Bool := false
deriving DecidableEq, Repr

/-- Image items of one channel (R267). -/
structure HartItem where
  vars : List Nat := [0, 0, 0, 0]
  status : Nat := 0
  updated : Bool := false
  time : Nat := 0
  noResponse : Bool := false
deriving DecidableEq, Repr

/-- HART outside the window. -/
structure Hart where
  /-- The modems are loaded (R427); waiting transactions in the order of submission, and those on a modem. -/
  ready : Bool := false
  queue : List HartReq := []
  runs : List HartRun := []
  items : List (Nat × HartItem) := []
  /-- Held or multidrop channels that may transmit: 500 ms of silence seen; end of the last burst frame (R266). -/
  silent : List Nat := []
  burstEnd : List (Nat × Nat) := []
deriving DecidableEq, Repr

/-- How far a reset request has come (R290). -/
inductive ResetPhase where
  | none
  /-- The reset self-test runs; then the reset record is to be made durable. -/
  | selfTest
  | recording
deriving DecidableEq, Repr

/-- The safety island outside the window. SY holds every data word as its one's complement (R272). -/
structure Island where
  /-- Lock-out latches of SX and SY (R287); the latest island record in the cellar is a lock-out record. -/
  latchSX : Bool := false
  latchSY : Bool := false
  cellarLocked : Bool := false
  /-- The lock-out record is not confirmed as durable; a reset record is on its way. -/
  unconfirmed : Bool := false
  /-- Instruction stores of SX and SY, by context (R272). -/
  storeX : List (Nat × CtxProg) := []
  storeY : List (Nat × CtxProg) := []
  /-- Memories of SX and SY, by context: slots, sticky flags, KIND 2 and KIND 4 values by element index. -/
  progs : List (Nat × Cx) := []
  progsY : List (Nat × Cx) := []
  /-- Compare words of the last cycle, as each core holds its own (R282). -/
  wordX : List Nat := []
  wordY : List Nat := []
  /-- Channels whose island switch SX closes, and SY (R273). -/
  closedX : List Nat := []
  closedY : List Nat := []
  /-- Channels named by the causes seen since entry to LOCKOUT (R295). -/
  causeChs : List Nat := []
  /-- The next cycle is the first after entry to RUN; the next cycle passes a reset request to the programs (KIND 5). -/
  first : Bool := false
  request : Bool := false
  /-- A start command has been accepted since the island was last in RUN (R275). -/
  started : Bool := false
  /-- Commanded KIND 2 values by channel. -/
  command : List (Nat × Nat) := []
  /-- Hold-offs by channel: its condition has cleared, a 0 of a full cycle has followed (R283). -/
  holds : List (Nat × (Bool × Bool)) := []
  /-- A reset request in progress and its SOURCE. -/
  phase : ResetPhase := .none
  source : Nat := 0
  /-- Module clock at the last cycle start and the multiple of T_S the TSU then stood in (R281). -/
  lastStart : Option (Nat × Nat) := none
  /-- Module clock at entry to LOCKOUT, until the next cycle start: a cause then detected with it is seen together (R284). -/
  lockedAt : Option Nat := none
deriving DecidableEq, Repr

/-- An output element outside the channels: its tag, last committed value, whether that value is in force, and a force. -/
structure OutEl where
  tag : Nat := 0
  last : Option Nat := none
  active : Bool := false
  forced : Option Nat := none
deriving DecidableEq, Repr

/-- A station of LNKCFG (R298). -/
structure LnkEntry where
  addr : Nat
  seg : Nat
  ver : Nat
  group : Nat
  typ : Nat
  inBytes : Nat
  outBytes : Nat
  slot : Nat
  miss : Nat
  subst : Nat
deriving DecidableEq, Repr

/-- LNKCFG (R298): topology, speed bits, cycle context and APPLY_OFS of both segments, stations. -/
structure LnkCfg where
  topo : Nat
  speed : Nat
  segs : List (Nat × Nat)
  stations : List LnkEntry
deriving DecidableEq, Repr

/-- A station as the module sees it. -/
structure LnkSt where
  /-- Source address it joined from, and whether its block is in the group frames. -/
  src : Option Nat := none
  sending : Bool := false
  /-- Group frames sent with its block; consecutive valid IN frames; a valid frame for the due SEQ. -/
  fed : Nat := 0
  good : Nat := 0
  got : Bool := false
  /-- A valid frame since start or since it joined; the frame of this latch landed after it. -/
  valued : Bool := false
  late : Bool := false
  /-- The last valid frame: data, STATUS, applied claim, SAMPLE. -/
  data : Nat := 0
  status : Nat := 0
  claim : Nat := 0
  sample : Nat := 0
  /-- READY was taken: its block is added from the next cycle (R313). -/
  ready : Bool := false
  /-- SEQ and DEPART of the last two frames with its block, newest first (R303). -/
  departs : List (Nat × Nat) := []
  /-- Last 16 delays on LNKA and LNKB, in 2^-8 ns, newest first (R303). -/
  delayA : List Int := []
  delayB : List Int := []
  /-- When CONFIG left, in TSU ns (R304). -/
  cfgSent : Nat := 0
deriving DecidableEq, Repr

/-- A CONFIG frame owed after the next window end: address, code, version, destination, port B. -/
structure LnkAnswer where
  seg : Nat
  addr : Nat
  code : Nat
  ver : Nat
  src : Nat
  portB : Bool
deriving DecidableEq, Repr

/-- A segment's cycle. -/
structure LnkSeg where
  /-- A cycle is open and its frames have not left; its SEQ, trigger and next trigger in TSU ns. -/
  isOpen : Bool := false
  seq : Nat := 0
  t0 : Nat := 0
  nextT : Nat := 0
  /-- SEQ due in the input window, whether that window has ended, and the TSU time of its end (R309, R310). -/
  due : Nat := 0
  ended : Bool := true
  endT : Nat := 0
  /-- The TSU stepped since the previous frame; a step fell into this cycle (R302, R320). -/
  step : Bool := false
  stepCycle : Bool := false
  /-- Frames of this cycle seen back on LNKA and LNKB; cycles without and with return (R296). -/
  backA : Bool := false
  backB : Bool := false
  missing : Nat := 0
  returned : Nat := 0
  /-- Frames left in this cycle: only these can return. -/
  sent : Bool := false
deriving DecidableEq, Repr

/-- The station link outside the window. -/
structure Link where
  cfg : Option LnkCfg := none
  stations : List (Nat × LnkSt) := []
  segs : List (Nat × LnkSeg) := []
  answers : List LnkAnswer := []
deriving DecidableEq, Repr

/-- One open SSP session (R332, R333, R335): entry, version, client, credential, the last 4 answers by SEQ, subscribed
VIDs with their periods in ms, publications sent. -/
structure Session where
  num : Nat
  role : Role
  entry : Nat := 0
  ver : Nat := 2
  peer : Nat := 0
  cred : List Nat := []
  answers : List (Nat × List Nat) := []
  subs : List (Nat × Nat) := []
  /-- TSU instant of the next publication by period (R335); the session key (R462); clock of the client's last datagram (R332). -/
  pubs : List (Nat × Nat) := []
  pubSeq : Nat := 0
  key : List Nat := []
  heard : Nat := 0
deriving DecidableEq, Repr

/-- The file transfer that is open: target 1 to 3, size, identity, session (none after it ended), and the bytes of each
chunk that is not yet complete or, for targets 2 and 3, of every chunk received so far (R334, R337). -/
structure Transfer where
  target : Nat
  size : Nat
  ident : Nat
  session : Option Nat
  parts : List (Nat × List (Option Nat)) := []
  /-- Clock at which its session ended (R337). -/
  since : Nat := 0
deriving DecidableEq, Repr

/-- A request that waits for the supervisor (R333, R334, R337). -/
inductive SspReq where
  | open_ (o : SspOpen)
  | close (h : SspHdr)
  | keepalive (h : SspHdr)
  | regRead (h : SspHdr) (offs : List Nat)
  | regWrite (h : SspHdr) (pairs : List (Nat × Word)) (found : AccIn)
  | subscribe (h : SspHdr) (vids : List Nat) (period : Nat)
  | unsubscribe (h : SspHdr) (vids : List Nat)
  | fileBegin (h : SspHdr) (target size ident version : Nat)
  | filePiece (h : SspHdr) (chunk off : Nat) (data : List (BitVec 8))
  | fileStatus (h : SspHdr)
  | fileAbort (h : SspHdr)
  | recRead (h : SspHdr) (area pos count : Nat)
  | signedCmd (h : SspHdr) (action serial : Nat) (nonce : Word) (sig : List Word)
  | unknown (h : SspHdr) (service : Nat)
deriving DecidableEq, Repr

/-- The SSP stack. A supervisor stall holds requests, with session and SEQ, until the supervisor returns (R333, R337). -/
structure Ssp where
  sessions : List Session := []
  lastNum : Nat := 0
  transfer : Option Transfer := none
  stall : Bool := false
  waiting : List (Nat × Nat × SspReq) := []
deriving DecidableEq, Repr

/-- A node of the PRP node table: MAC and fabric time of its last frame; received frames of the last 400 ms, by source
and sequence number, with the port that brought the first and whether the second came (R322). -/
structure PrpFrame where
  mac : Nat
  seq : Nat
  portB : Bool
  at_ : Nat
  twice : Bool
deriving DecidableEq, Repr

/-- A PTP port instance: best master heard, UTC offset and its valid flag, a Sync that waits for its Follow_Up as
sequence number and receipt time less correction in 2^-16 ns, mean path delay in 2^-16 ns. -/
structure PtpPort where
  master : Option PtpSet := none
  /-- The delay request that awaits its response, and whether it asks a peer (R325). -/
  asked : Option Bool := none
  utc : Nat := 0
  utcValid : Bool := false
  waiting : Option (Nat × Int) := none
  delay : Int := 0
deriving DecidableEq, Repr

/-- The plant ports. -/
structure Plant where
  nodes : List (Nat × Nat) := []
  seen : List PrpFrame := []
  prpSeq : Nat := 0
  /-- Frames of nodes for which the table had no room (R322). -/
  untracked : Nat := 0
  /-- Clock of the last frame by port, and LANs whose loss of all frames is recorded (R323). -/
  lastA : Nat := 0
  lastB : Nat := 0
  silentA : Bool := false
  silentB : Bool := false
  /-- Next hops that ARP has resolved (R324). -/
  arp : List Nat := []
  portA : PtpPort := {}
  portB : PtpPort := {}
  /-- The node is PTP master (R329); UTC offset last received from a master. -/
  master : Bool := false
  lastUtc : Option Nat := none
  ptpSeq : Nat := 0
  /-- Clock at which the active port last came to a master after both had none (R337). -/
  masterAt : Option Nat := none
  /-- IPv4 address, mask and gateway in force; new values wait for their second after the lock (R338). -/
  ip : List Nat := [0, 0, 0]
  ipWritten : Bool := false
deriving DecidableEq, Repr

/-- A transmit slot of CANCFG (R348). -/
structure CanSlotCfg where
  port : Nat
  slot : Nat
  kind : Nat
  fmt : Nat
  id : Nat
  len : Nat
  subst : Nat
  writer : Nat
  period : Nat
  phase : Nat
deriving DecidableEq, Repr

/-- A stored entry of the receive ring (R346). -/
structure CanEntry where
  num : Nat
  frame : CanFrame
  tx : Bool
  ref : Bool
  /-- Its line was lost: it reads VALID 0 with NUM unchanged (R394). -/
  lost : Bool := false
deriving DecidableEq, Repr

/-- A CAN port. -/
structure CanPort where
  /-- MODE in force (R342). -/
  mode : Nat := 0
  /-- Transmit error counter in full. -/
  tec : Nat := 0
  /-- Frames stored since start, and the ring by position. -/
  stored : Nat := 0
  ring : List (Nat × CanEntry) := []
  /-- Pending slot frames with their data; the slot on the bus; frames that replace it at the end of the attempt. -/
  pending : List (Nat × Nat) := []
  attempt : Option Nat := none
  replacing : List (Nat × Nat) := []
  /-- The attempt on the bus is not retried: the claim passed meanwhile (R355). -/
  noRetry : Bool := false
  /-- Another node's frame is on the bus (R351); the port waits for bus integration (R341). -/
  busy : Bool := false
  integrates : Bool := false
  /-- Next TSU target, in ns, of each slot of KIND 1 and 2 (R351). -/
  aims : List (Nat × Nat) := []
deriving DecidableEq, Repr

/-- What a unit knows of its partner beyond the registers (R361, R381). -/
structure Partner where
  state : Nat := 0
  role : Nat := 0
  sync : Nat := 0
  departing : Bool := false
  verLo : Nat := 0
  verHi : Nat := 0
  unitA : Bool := false
  vintage : Nat := 0
  imageCrc : Nat := 0
  safCrc : Nat := 0
  cfg : Nat := 0
  timing : Nat := 0
  /-- Application vintage its cask holds MARKED, 0 none (R422). -/
  marked : Nat := 0
deriving DecidableEq, Repr

/-- The pair's state outside the window. -/
structure Pair where
  /-- The unit drives the local outputs of the pair base (R355, R368). -/
  won : Bool := false
  /-- FLOAT_READY of the partner at the last heartbeat (R372). -/
  partnerFloat : Bool := false
  partner : Partner := {}
  /-- Own departure is declared (R375); a declared departure of the partner has been received. -/
  departed : Bool := false
  received : Bool := false
  /-- The partner is silent on the wire since the latest round; rounds without a fault since the last (R369). -/
  wireSilent : Bool := false
  /-- The partner took part in the latest round. -/
  wireSeen : Bool := false
  clean : Nat := 0
  /-- A round is running. -/
  round : Bool := false
  /-- The start waits for the join (R380). -/
  joining : Bool := false
  /-- PARTNER_LOST_UNSYNCED holds (R379). -/
  cold : Bool := false
  /-- Contexts and logical pattern slots copied so far (R381). -/
  copied : List Nat := []
  patterns : List Nat := []
  /-- Per segment: SEQ of the last cycle whose frames showed a higher claim of the other unit, and any claim of it (R378). -/
  higher : List (Nat × Nat) := []
  foreign : List (Nat × Nat) := []
  demoted : Bool := false
  /-- Highest EPOCH echoed during the join wait; per segment the consecutive cycles in which every UP station echoed the
  claim (R365). -/
  echoed : Nat := 0
  /-- EPOCH whose echoes are disregarded since it was lowered; 0 none (R365). -/
  oldEpoch : Nat := 0
  echoCycles : List (Nat × Nat) := []
  /-- Clock of the round context's last trigger instant without a round (R367). -/
  roundAt : Option Nat := none
  /-- Stations whose IN frame reached this unit, and the partner, in the last cycle, as bitmaps from address 1 (R370). -/
  receipt : Nat := 0
  partnerReceipt : Nat := 0
  /-- Sequence count of the CAN3 heartbeat (R385). -/
  hbSeq : Nat := 0
  /-- Clocks of the last valid message on PAIR and of the last valid heartbeat on CAN3 (R361). -/
  pairAt : Nat := 0
  hbAt : Nat := 0
  /-- Clock from which the next heartbeat on PAIR is due, and TSU time of the next one on CAN3 (R361, R385). -/
  beatAt : Nat := 0
  canBeatAt : Nat := 0
  /-- Clock at which the join wait began (R380). -/
  joinAt : Nat := 0
  /-- Clock since which the health has been below the partner's by HDIFF without a break (R375). -/
  lowAt : Option Nat := none
  /-- Clock of the last bus-off of CAN3 (R385). -/
  offAt : Nat := 0
deriving DecidableEq, Repr

/-- Bookkeeping of the memory protection. -/
structure Memories where
  /-- Next line of the patrol, and ns into the second of its age (R392). -/
  patrol : Nat := 0
  ageNs : Nat := 0
  /-- Corrections of each device in the trailing 24 h, by device and fabric time (R391). -/
  window : List (Nat × Nat) := []
  /-- Fabric time of the last uncorrectable error in supervisor memory (R394). -/
  supAt : Option Nat := none
  /-- Granules of the solver store that failed, by pattern slot and fabric time (R396). -/
  granules : List (Nat × Nat) := []
deriving DecidableEq, Repr

/-- A manifest (R418). -/
structure Manifest where
  kind : Nat
  key : Nat
  pivMin : Nat
  pivMax : Nat
  vintage : Nat
  payload : Nat
  chunks : Nat
  build : Nat
  fwMin : Nat
  hashes : List (List Nat)
deriving DecidableEq, Repr

/-- A stored vintage: its number, its payload as bytes, and its manifest; none for an image loaded in COMMISSION. -/
structure Vintage where
  number : Nat
  payload : List Nat
  man : Option Manifest := none
deriving DecidableEq, Repr

/-- The cask: file size and identity, manifest chunks stored, the manifest once verified, payload chunks verified. -/
structure Cask where
  size : Nat
  ident : Nat
  head : List (Nat × List Nat) := []
  man : Option Manifest := none
  chunks : List (Nat × List Nat) := []
deriving DecidableEq, Repr

/-- The cellar's vintage areas. -/
structure Update where
  cask : Option Cask := none
  fwAct : Option Vintage := none
  fwFb : Option Vintage := none
  appAct : Option Vintage := none
  appFb : Option Vintage := none
  /-- Committed change packages with a durable marker, oldest first (R173). -/
  packages : List (List Nat) := []
  /-- The firmware in the active place is on probation (R426). -/
  probation : Bool := false
deriving DecidableEq, Repr

/-- The buttons' state outside the window. -/
structure Buttons where
  /-- LOCAL_CAL is closed (R254). -/
  localCal : Bool := false
  /-- Channel selected in the CAL menu; reference in µA. -/
  sel : Nat := 0
  ref : Nat := 4000
  /-- The page browsed to (R452). -/
  page : Nat := 0
deriving DecidableEq, Repr

/-- A pixel: its level, 4 for unknown; the waveform that runs, as target and frames left; a target that waits (R441). -/
structure Px where
  level : Nat := 0
  wave : Option (Nat × Nat) := none
  want : Option Nat := none
deriving DecidableEq, Repr

/-- The SHOWN and UPDATE records of a region as the cellar holds them: levels as last completely driven; phase, target
levels and band of an update (R442). -/
structure LabelRec where
  shown : List Nat := []
  phase : Nat := 0
  target : List Nat := []
  band : Nat := 0
deriving DecidableEq, Repr

/-- A region of the label: its pixels; its durable records; what SHOWN and UPDATE are to hold next (phase, target, band), phase 0 keeping the last target as
the current content; fabric time of its last update's start; a change held by MIN_INTV (R438, R442). -/
structure Region where
  px : List Px := []
  durable : LabelRec := {}
  shown : List Nat := []
  phase : Nat := 0
  target : List Nat := []
  band : Nat := 0
  started : Option Nat := none
  held : Option (List Nat) := none
deriving DecidableEq, Repr

/-- The label: regions 0 to 5; a command that waits for idle pixels, and the one whose redraw runs: 1 REFRESH, 2 CLEAN
(R444). -/
structure Label where
  regions : List (Nat × Region) := []
  wait : Nat := 0
  redraw : Nat := 0
deriving DecidableEq, Repr

/-- The emissive panel: the program page shown (R450); lines, blink attributes and brightness last written, empty lines
and attributes standing for none written since start or since a lost frame (R447, R449); the uniformity map has been
read for (R448); renders left of a lamp test (R452); when a press was last accepted (R449). -/
structure Panel where
  text : List Word := []
  blink : List Word := []
  lines : List (List Nat) := []
  attrs : List Nat := []
  bright : Nat := 0
  mapRead : Bool := false
  lamp : Nat := 0
  pressed : Nat := 0
deriving DecidableEq, Repr

/-- The safety configuration SAFCFG (R276): cycle in µs, start mode, keys as bytes, programs as (context, WCET_SX,
WCET_SY), channels as (mode, filter, SP_USE), CFG_CRC as stored. -/
structure SafCfg where
  cycle : Nat
  startMode : Nat
  keys : List (List Nat)
  progs : List (Nat × Nat × Nat)
  chans : List (Nat × Nat × Nat)
  crc : Nat
deriving DecidableEq, Repr

/-- The parsed application image. -/
structure Prog where
  version : Nat
  vintage : Nat
  buildId : Nat
  ctxs : List (Nat × CtxProg)
  vids : List VidDef
  saf : Option SafCfg := none
  lnk : Option LnkCfg := none
  can : List CanSlotCfg := []
  /-- CREDS (R461): key, highest role, credential identity; none while the commissioning key is the only credential. -/
  creds : Option (List (List Nat × Nat × Nat)) := none
  /-- The image's CRC word (R381). -/
  crc : Nat := 0
deriving DecidableEq, Repr

/-- The nonces of the last 1 024 accepted OPENs, newest first. -/
structure Secure where
  nonces : List (List Nat) := []
deriving DecidableEq, Repr

/-- The change package held (R167, R168). -/
structure Olc where
  /-- Words received so far; the program the package leads to, once it is verified. -/
  pkg : List Nat := []
  staged : Option Prog := none
  /-- CTXACT, SLOTMAP per context as (old, new), DISP as VIDs with RELEASE. -/
  acts : List (Nat × Nat) := []
  maps : List (Nat × List (Nat × Nat)) := []
  released : List Nat := []
  /-- PATTERN sections and how many of them are loaded (R187). -/
  pats : List (List Nat) := []
  loaded : Nat := 0
  /-- Contexts pre-loaded into free places (R168). -/
  preloaded : List Nat := []
  /-- COMMIT waits for a force acknowledgment or for patterns. -/
  commitWait : Bool := false
  /-- A committed package whose marker is not durable (R173). -/
  marker : Option (List Nat) := none
  /-- Fabric time at which the switch ends, while SWITCHING (R171, R172). -/
  switchEnd : Nat := 0
  /-- On a pair base, the TSU commit instant that the primary has named (R174). -/
  switchAt : Option Nat := none
deriving DecidableEq, Repr

/-- What the module times on its own clock, each with the rule that gives the time. Log: 6 (DESIGN CHOICE). -/
inductive Timer where
  /-- R60: the unlock of a page, or its last accepted RWL write. -/
  | pageLock (page : Nat)
  /-- R143: the last context left an engine. R142: an engine began to park; an engine returned. -/
  | engEmpty (n : Nat)
  | park
  | engReturn
  /-- R137: the last evaluation of the sensors. -/
  | thermal
  /-- R171: a package entered ARMED. -/
  | armed
  /-- R236, R239: the COMPLIANCE timer of a channel. R242: a DO stage opened on overload. -/
  | comp (ch : Nat)
  | overload (ch : Nat)
  /-- R253: an AI calibration point began; the last command of a session. -/
  | calPoint (ch : Nat)
  | calCommand (ch : Nat)
  /-- R264 to R266, R260: a HART request left; a transaction was queued; the last poll; the last frame on a loop. -/
  | hartSent (ch : Nat)
  | hartQueued (ch : Nat) (slot : Option Nat)
  | hartPoll (ch : Nat)
  | hartFrame (ch : Nat)
  /-- R287, R290: the last island record; the reset record was passed on. -/
  | islRecord
  | resetRecord
  /-- R322, R325, R326, R329: the last supervision frame; the last request, Sync and Announce of a port; the last Announce received. -/
  | supervision
  | delayReq (portB : Bool)
  | syncTx (portB : Bool)
  | announceTx (portB : Bool)
  | announceRx (portB : Bool)
  /-- R338: the NET page locked. -/
  | netLocked
  /-- R342: a MODE was written. -/
  | canMode (p : Nat)
  /-- R406: operating time was stored. -/
  | optime
  /-- R439, R447: the last frame of the label; the last rendering of the panel. -/
  | labelFrame
  | panel
  /-- R392, R395: the inner counters were read; a scrub of an engine's SRAM, or of the shared and solver SRAM. -/
  | inner
  | scrub (engine : Option Nat)
  /-- R79: the last edge of ABS1. -/
  | edge
deriving DecidableEq, Repr

/-- All of the module's state but the command queue. -/
structure Block where
  /-- The registers of the window: byte offset and value, offsets rising, no entry equal to the reset value. -/
  regs : List (Nat × Word) := []
  /-- The register fabric's own state (R60, R61, R65). -/
  fab : Fabric := {}
  /-- Fabric time since manufacture in nanoseconds, advanced by the idle step (R62). -/
  clk : Nat := 0
  /-- The model's own counter of free values drawn; no hardware state. -/
  freeCount : Nat := 0
  /-- What the module has put on its ports and answered, oldest first; the model's own record. -/
  outs : List Out := []
  /-- The event recorder (R404 to R416). -/
  evr : Recorder := {}
  /-- The cellar's persistent records (R397 to R400). -/
  cel : Cellar := {}
  /-- Supplies, power sequence and outputs as seen from the pins (R31 to R50). -/
  pwr : Power := {}
  /-- Angle bases, TSU and calendar clock outside the window (R68 to R88, R481). -/
  tm : TimeState := {}
  /-- Execution state of each context, by number; an unlisted context is as loaded without slots. -/
  ctxs : List (Nat × Cx) := []
  /-- Published values of the global variables, by VID (R97). -/
  globals : List (Nat × Nat) := []
  /-- The scheduler, engines and energy ledger outside the window (R127 to R146). -/
  sched : Sched := {}
  /-- The force table (R152 to R162). -/
  frc : Forces := {}
  /-- The sparse solver outside the window (R179 to R226). -/
  sol : Solver := {}
  /-- Field channels outside the window, by channel number (R227 to R255). -/
  chans : List (Nat × Chan) := []
  /-- Factory trims by channel: zero and gain in binary32 (R252); unlisted 0.0 and 1.0. -/
  chFactory : List (Nat × (Nat × Nat)) := []
  /-- The HART modem pool, queue and image items (R260 to R270). -/
  hart : Hart := {}
  /-- The safety island (R272 to R295). -/
  isl : Island := {}
  /-- Output elements of the station link and CAN, by SOURCE word (R107, R249, R308, R352). -/
  outEls : List (Nat × OutEl) := []
  /-- The station link (R296 to R320). -/
  lnk : Link := {}
  /-- SSP sessions and the file transfer (R331 to R337). -/
  ssp : Ssp := {}
  /-- PRP, IPv4 and PTP outside the window (R322 to R330, R338). -/
  net : Plant := {}
  /-- CANCFG in force (R348). -/
  canCfg : List CanSlotCfg := []
  /-- The four CAN ports outside the window, by number (R341 to R358). -/
  can : List (Nat × CanPort) := []
  /-- The redundant pair outside the window (R360 to R387). -/
  red : Pair := {}
  /-- DRAM, SRAM and their protection outside the window (R390 to R396). -/
  mem : Memories := {}
  /-- Vintages, the cask and racking (R417 to R426). -/
  upd : Update := {}
  /-- Buttons and the local calibration menu (R452 to R454). -/
  btn : Buttons := {}
  /-- The bistable label (R437 to R445). -/
  dsb : Label := {}
  /-- The emissive panel (R446 to R451). -/
  dse : Panel := {}
  /-- The application image in force; none before the first load (R90). -/
  prog : Option Prog := none
  /-- What OPEN remembers of its clients (R463). -/
  sec : Secure := {}
  /-- On-line change (R163 to R178). -/
  olc : Olc := {}
  /-- Clock at which each timed happening last began. -/
  since : List (Timer × Nat) := []
deriving DecidableEq, Repr

/-- The machine: the module's state and the commands waiting, first in, first out. -/
structure State extends Block where
  pending : List Instr := []
deriving DecidableEq, Repr

/-- Why a step stops. No command of this model stops: the type has no value. -/
inductive Fault where
deriving DecidableEq, Repr

/-- Why a command is refused. -/
inductive Refusal where
  /-- Raised by the dispatch for a command that has no meaning yet; safe, since nothing is claimed of it. -/
  | notModelled (mnemonic : String)
deriving DecidableEq, Repr

/-- The module before its first power-up: unpowered, every register at its Reset column, nothing waiting.
Log: 1 (DESIGN CHOICE), 4 (DESIGN CHOICE), 145 (DESIGN CHOICE), 146 (DESIGN CHOICE). -/
def State.reset : State := {}

end Sys2Proof.Machine
end

