-- ==== Sys2Proof/Config.lean ====
section
/-! DEFINITION. What an implementation fixes and the spec leaves open: opaque constants with no body that a proof could use. -/

namespace Sys2Proof

/-- A value the spec leaves open, fresh for each number drawn. Log: 139 (DESIGN CHOICE). -/
opaque Config.freeValue : Nat → Word

/-- What CH_OUT reads while the stage of channel `ch` is de-energised, tripped or high impedance: R249 names no number.
Log: 23 (DESIGN CHOICE). -/
opaque Config.undrivenTarget : Nat → Word

/-- Ed25519 verification (R289, R418, R458, R462): public key, message, signature, as bytes. Log: 11 (DESIGN CHOICE). -/
opaque Config.ed25519 : List Nat → List Nat → List Nat → Bool

/-- SHA-256 of bytes (R418). Log: 11 (DESIGN CHOICE). -/
opaque Config.sha256 : List Nat → List Nat

/-- Vendor key `k` of the secure element, as bytes (R458). Log: 11 (DESIGN CHOICE). -/
opaque Config.vendorKey : Nat → List Nat

/-- The commissioning key, and the public half of the identity key. Log: 11 (DESIGN CHOICE). -/
opaque Config.commissioningKey : List Nat

opaque Config.identityKey : List Nat

/-- The identity key's signature of a message, and the module's ephemeral X25519 public key of a session (R462, R463):
the secure element and its random numbers are not described further. Log: 11 (DESIGN CHOICE). -/
opaque Config.identitySign : List Nat → List Nat

opaque Config.ephemeralKey : Nat → List Nat

/-- The X25519 shared secret of that key and a client's (R462). -/
opaque Config.x25519 : Nat → List Nat → List Nat

/-- The content key, and AES-256 in XTS mode: key, block number as tweak, data unit, all as bytes (R458, R460). -/
opaque Config.contentKey : List Nat

opaque Config.aesXts : List Nat → Nat → List Nat → List Nat

/-- The source address burned in at manufacture for LNKA (false) and LNKB (true) (R300). Log: 190 (DESIGN CHOICE). -/
opaque Config.linkMac : Bool → Nat

/-- The clockIdentity of the node by its MAC address, and its clockAccuracy and offsetScaledLogVariance: R325 and R329
name no values. Log: 107 (DESIGN CHOICE). -/
opaque Config.clockIdentity : Nat → Nat

opaque Config.clockQuality : Nat × Nat

/-- The byte of the factory uniformity map for a pixel, and the current of a grey level (R448): factory data that the
spec does not give. Log: 111 (DESIGN CHOICE). -/
opaque Config.uniformity : Nat → Nat

opaque Config.levelCurrent : Nat → Nat

/-- Vendor keys that a firmware payload revokes, as a bitmap (R459): the manifest of R418 has no field for it.
Log: 96 (DESIGN CHOICE). -/
opaque Config.revokes : List Nat → Nat

namespace Machine

/-- What the status bar of the panel shows (R446). -/
inductive BarItem where
  | state (n : Nat)
  | recovery
  | role (n : Nat)
  | thermal (n : Nat)
  | forced
  | lockout
deriving DecidableEq, Repr

end Machine

/-- The level of a pixel of the status bar under an item's text, 0 beside it; the level of a pixel of an 8 × 8 cell, by
character code, row and column; and the black pixels of the force marker for an entry count: the spec gives the texts and
no fonts (R437, R446, R450). Log: 86 (DESIGN CHOICE). -/
opaque Config.barLevel : Machine.BarItem → Nat → Nat

opaque Config.glyph : Nat → Nat → Nat → Nat

opaque Config.markerPixel : Nat → Nat → Bool

/-- Fraction bits of the reciprocal pivot of a row in certified mode: R206 and R215 give the division and the formats of the
other entries, and none of the reciprocal. Log: 41 (DEDUCED), 168 (DESIGN CHOICE). -/
opaque Config.recipFrac : Machine.PatImg → Nat → Nat

end Sys2Proof
end

