-- ==== Sys2Proof/Machine/Fields.lean ====
section
/-! DEFINITION. Window offsets of the registers (namespace Reg) and places of their fields (namespace F), written from the register tables of the spec's chapters.
An offset counts bytes from the start of the register window, 0x4000_0000 (R51). Where a register repeats, its page, slot or index is an argument, counted as the spec counts it. -/

namespace Sys2Proof.Machine

namespace Reg
/-- BLK_ID: block identity. -/
def BLK_ID (p : Nat) : Nat := p * 0x1000 + 0x0
/-- BLK_CAP: block capabilities. -/
def BLK_CAP (p : Nat) : Nat := p * 0x1000 + 0x4
/-- BLK_CTL: block control. -/
def BLK_CTL (p : Nat) : Nat := p * 0x1000 + 0x8
/-- BLK_STAT: block status. -/
def BLK_STAT (p : Nat) : Nat := p * 0x1000 + 0xC
/-- BLK_EVT_RAW: raw events. -/
def BLK_EVT_RAW (p : Nat) : Nat := p * 0x1000 + 0x10
/-- BLK_EVT_EN: event enables. -/
def BLK_EVT_EN (p : Nat) : Nat := p * 0x1000 + 0x14
/-- BLK_EVT_PEND: pending events. -/
def BLK_EVT_PEND (p : Nat) : Nat := p * 0x1000 + 0x18
/-- BLK_EVT_ROUTE: event routing. -/
def BLK_EVT_ROUTE (p : Nat) : Nat := p * 0x1000 + 0x1C
/-- BLK_LOCK: page lock. -/
def BLK_LOCK (p : Nat) : Nat := p * 0x1000 + 0x20
/-- BLK_OWNER: page owner. -/
def BLK_OWNER (p : Nat) : Nat := p * 0x1000 + 0x24

/-! 03_register_fabric.md -/
/-- SYS_ACC_ERR_ADDR: first refused address. -/
def SYS_ACC_ERR_ADDR : Nat := 0x240
/-- SYS_ACC_ERR_INFO: first refusal details. -/
def SYS_ACC_ERR_INFO : Nat := 0x244
/-- SYS_ACC_ERR_CNT: refusal count. -/
def SYS_ACC_ERR_CNT : Nat := 0x248
/-- SYS_EVL_STAT: event line levels. -/
def SYS_EVL_STAT (k : Nat) : Nat := 0x200 + 0x4 * k
/-- SYS_EVL_EDGE: event line edges. -/
def SYS_EVL_EDGE (k : Nat) : Nat := 0x220 + 0x4 * k

/-! 04_time_and_angle_bases.md -/
/-- ABS0_CFG: mains angle configuration. -/
def ABS0_CFG : Nat := 0x2040
/-- ABS0_RELOCK: realignment limits. -/
def ABS0_RELOCK : Nat := 0x2044
/-- ABS0_OFS: input angle offset. -/
def ABS0_OFS (k : Nat) : Nat := 0x2048 + 0x4 * (k - 1)
/-- ABS0_STAT: mains angle status. -/
def ABS0_STAT : Nat := 0x2050
/-- ABS0_FREQ: mains angle frequency. -/
def ABS0_FREQ : Nat := 0x2054
/-- ABS0_POS_LO: mains angle. -/
def ABS0_POS_LO : Nat := 0x2058
/-- ABS0_POS_HI: mains cycle count. -/
def ABS0_POS_HI : Nat := 0x205C
/-- ABS0_LAST_STEP: last realignment. -/
def ABS0_LAST_STEP : Nat := 0x2060
/-- ABS_VS_RMS: input voltage. -/
def ABS_VS_RMS (k : Nat) : Nat := 0x2064 + 0x4 * (k - 1)
/-- ABS_VS_DPHASE: input phase difference. -/
def ABS_VS_DPHASE : Nat := 0x206C
/-- ABS_VS_DFREQ: input frequency difference. -/
def ABS_VS_DFREQ : Nat := 0x2070
/-- ABS1_CFG: shaft angle configuration. -/
def ABS1_CFG : Nat := 0x2080
/-- ABS1_CPR: counts per revolution. -/
def ABS1_CPR : Nat := 0x2084
/-- ABS1_IDX_OFS: index angle. -/
def ABS1_IDX_OFS : Nat := 0x2088
/-- ABS1_STAT: shaft angle status. -/
def ABS1_STAT : Nat := 0x208C
/-- ABS1_SPEED: shaft speed. -/
def ABS1_SPEED : Nat := 0x2090
/-- ABS1_POS_LO: shaft angle. -/
def ABS1_POS_LO : Nat := 0x2094
/-- ABS1_POS_HI: revolution count. -/
def ABS1_POS_HI : Nat := 0x2098
/-- ABS1_IDX_ERR_CNT: index errors. -/
def ABS1_IDX_ERR_CNT : Nat := 0x209C
/-- ABS_CMP_CTL: angle compare control. -/
def ABS_CMP_CTL (k : Nat) : Nat := 0x20A0 + 0x10 * k
/-- ABS_CMP_LO: angle compare target. -/
def ABS_CMP_LO (k : Nat) : Nat := 0x20A4 + 0x10 * k
/-- ABS_CMP_HI: angle compare target. -/
def ABS_CMP_HI (k : Nat) : Nat := 0x20A8 + 0x10 * k
/-- TSU_CFG: TSU configuration. -/
def TSU_CFG : Nat := 0x3040
/-- TSU_STAT: TSU status. -/
def TSU_STAT : Nat := 0x3044
/-- TSU_TIME_LO: TSU nanoseconds. -/
def TSU_TIME_LO : Nat := 0x3048
/-- TSU_TIME_HI: TSU seconds. -/
def TSU_TIME_HI : Nat := 0x304C
/-- TSU_EPOCH: TSU upper seconds. -/
def TSU_EPOCH : Nat := 0x3050
/-- TSU_RATE: applied rate. -/
def TSU_RATE : Nat := 0x3054
/-- TSU_OFFSET: source offset. -/
def TSU_OFFSET : Nat := 0x3058
/-- TSU_TRIM: free-running rate. -/
def TSU_TRIM : Nat := 0x305C
/-- TSU_SET_LO: time to set. -/
def TSU_SET_LO : Nat := 0x3060
/-- TSU_SET_HI: time to set. -/
def TSU_SET_HI : Nat := 0x3064
/-- TSU_ADJ: offset to apply. -/
def TSU_ADJ : Nat := 0x3068
/-- TSU_CMD: TSU command. -/
def TSU_CMD : Nat := 0x306C
/-- TSU_CAP_CFG: capture configuration. -/
def TSU_CAP_CFG (k : Nat) : Nat := 0x3080 + 0x10 * k
/-- TSU_CAP_LO: captured time. -/
def TSU_CAP_LO (k : Nat) : Nat := 0x3084 + 0x10 * k
/-- TSU_CAP_HI: captured time. -/
def TSU_CAP_HI (k : Nat) : Nat := 0x3088 + 0x10 * k
/-- TSU_CAP_FRAC: captured fraction. -/
def TSU_CAP_FRAC (k : Nat) : Nat := 0x308C + 0x10 * k
/-- TSU_CMP_CTL: time compare control. -/
def TSU_CMP_CTL (k : Nat) : Nat := 0x30C0 + 0x10 * k
/-- TSU_CMP_LO: time compare target. -/
def TSU_CMP_LO (k : Nat) : Nat := 0x30C4 + 0x10 * k
/-- TSU_CMP_HI: time compare target. -/
def TSU_CMP_HI (k : Nat) : Nat := 0x30C8 + 0x10 * k
/-- TSU_CMP_PERIOD: compare period. -/
def TSU_CMP_PERIOD (k : Nat) : Nat := 0x30CC + 0x10 * k
/-- RTC_TIME_LO: calendar subseconds. -/
def RTC_TIME_LO : Nat := 0x4040
/-- RTC_TIME_HI: calendar seconds. -/
def RTC_TIME_HI : Nat := 0x4044
/-- RTC_EPOCH: calendar upper seconds. -/
def RTC_EPOCH : Nat := 0x4048
/-- RTC_STAT: calendar clock status. -/
def RTC_STAT : Nat := 0x404C
/-- RTC_DRIFT: last correction. -/
def RTC_DRIFT : Nat := 0x4050
/-- RTC_SET_LO: calendar time to set. -/
def RTC_SET_LO : Nat := 0x4060
/-- RTC_SET_HI: calendar time to set. -/
def RTC_SET_HI : Nat := 0x4064
/-- RTC_CMD: calendar command. -/
def RTC_CMD : Nat := 0x406C

/-! 05_engines_and_lamvile_code.md -/
/-- ENG_STATE: engine state. -/
def ENG_STATE (n : Nat) : Nat := 0x10040 + 0x1000 * n
/-- ENG_RES: resident places. -/
def ENG_RES (n k : Nat) : Nat := 0x10044 + 0x1000 * n + 0x4 * k
/-- ENG_INSN_LO: instructions retired. -/
def ENG_INSN_LO (n : Nat) : Nat := 0x10064 + 0x1000 * n
/-- ENG_INSN_HI: instructions retired. -/
def ENG_INSN_HI (n : Nat) : Nat := 0x10068 + 0x1000 * n
/-- ENG_BUSY_LO: busy clocks. -/
def ENG_BUSY_LO (n : Nat) : Nat := 0x1006C + 0x1000 * n
/-- ENG_BUSY_HI: busy clocks. -/
def ENG_BUSY_HI (n : Nat) : Nat := 0x10070 + 0x1000 * n
/-- ENG_SWITCH_CNT: context switches. -/
def ENG_SWITCH_CNT (n : Nat) : Nat := 0x10074 + 0x1000 * n
/-- ENG_WAIT_MAX: longest wait. -/
def ENG_WAIT_MAX (n : Nat) : Nat := 0x10078 + 0x1000 * n
/-- ENG_SOFT_CNT: soft exceptions. -/
def ENG_SOFT_CNT (n : Nat) : Nat := 0x1007C + 0x1000 * n
/-- ENG_EXC_INFO: last hard exception. -/
def ENG_EXC_INFO (n : Nat) : Nat := 0x10080 + 0x1000 * n
/-- ENG_EXC_PC: faulting instruction. -/
def ENG_EXC_PC (n : Nat) : Nat := 0x10084 + 0x1000 * n
/-- ENG_EXC_TIME_LO: exception time. -/
def ENG_EXC_TIME_LO (n : Nat) : Nat := 0x10088 + 0x1000 * n
/-- ENG_EXC_TIME_HI: exception time. -/
def ENG_EXC_TIME_HI (n : Nat) : Nat := 0x1008C + 0x1000 * n
/-- ENG_EXC_CNT: hard exceptions. -/
def ENG_EXC_CNT (n : Nat) : Nat := 0x10090 + 0x1000 * n
/-- ENG_MEM_CNT: corrected SRAM errors. -/
def ENG_MEM_CNT (n : Nat) : Nat := 0x10094 + 0x1000 * n
/-- ENG_TEST: engine self-test. -/
def ENG_TEST (n : Nat) : Nat := 0x10098 + 0x1000 * n

/-! 06_scheduling_and_energy_budget.md -/
/-- CTX_CFG: context configuration. -/
def CTX_CFG (c : Nat) : Nat := 0x21000 + 0x40 * c
/-- CTX_PERIOD: trigger period or angle step. -/
def CTX_PERIOD (c : Nat) : Nat := 0x21004 + 0x40 * c
/-- CTX_PHASE: trigger phase. -/
def CTX_PHASE (c : Nat) : Nat := 0x21008 + 0x40 * c
/-- CTX_AFFINITY: engine affinity. -/
def CTX_AFFINITY (c : Nat) : Nat := 0x2100C + 0x40 * c
/-- CTX_WCET: declared execution time. -/
def CTX_WCET (c : Nat) : Nat := 0x21010 + 0x40 * c
/-- CTX_GRANT: page grants. -/
def CTX_GRANT (c k : Nat) : Nat := 0x21020 + 0x40 * c + 0x4 * k
/-- CTX_STATE: context state. -/
def CTX_STATE (c : Nat) : Nat := 0x21030 + 0x40 * c
/-- CTX_CSTAT: last cycle status. -/
def CTX_CSTAT (c : Nat) : Nat := 0x21034 + 0x40 * c
/-- CTX_SKIPS: skip totals. -/
def CTX_SKIPS (c : Nat) : Nat := 0x21038 + 0x40 * c
/-- CTX_CYCLES: completed cycles. -/
def CTX_CYCLES (c : Nat) : Nat := 0x2103C + 0x40 * c
/-- SCH_CMD: context command. -/
def SCH_CMD : Nat := 0x20040
/-- SCH_CMD_RES: command result. -/
def SCH_CMD_RES : Nat := 0x20044
/-- SCH_ENG_AVAIL: engine availability. -/
def SCH_ENG_AVAIL : Nat := 0x20048
/-- SCH_ENG_FAULT: engine faults. -/
def SCH_ENG_FAULT : Nat := 0x2004C
/-- SCH_OCC: occupancy. -/
def SCH_OCC : Nat := 0x20050
/-- SCH_OCC_MAX: peak occupancy. -/
def SCH_OCC_MAX : Nat := 0x20054
/-- SCH_DECL_A: declared load. -/
def SCH_DECL_A : Nat := 0x20058
/-- SCH_DECL_B: declared load. -/
def SCH_DECL_B : Nat := 0x2005C
/-- SCH_OVR_CNT: module skip counts. -/
def SCH_OVR_CNT : Nat := 0x20060
/-- SCH_BUDGET_SKIP_CNT: module skip counts. -/
def SCH_BUDGET_SKIP_CNT : Nat := 0x20064
/-- SCH_LATE_CNT: module skip counts. -/
def SCH_LATE_CNT : Nat := 0x20068
/-- SCH_LAST_OVR: last overrun. -/
def SCH_LAST_OVR : Nat := 0x2006C
/-- SCH_MIG_CNT: migrations. -/
def SCH_MIG_CNT : Nat := 0x20070
/-- SCH_STOPPED: stopped contexts. -/
def SCH_STOPPED (k : Nat) : Nat := 0x20080 + 0x4 * k
/-- PWR_THERM: thermal state. -/
def PWR_THERM : Nat := 0x1040
/-- PWR_DIE_T: temperatures. -/
def PWR_DIE_T : Nat := 0x1044
/-- PWR_RAIL_T: temperatures. -/
def PWR_RAIL_T : Nat := 0x1048
/-- PWR_DIE_THR: die thresholds. -/
def PWR_DIE_THR : Nat := 0x104C
/-- PWR_RAIL_THR: rail thresholds. -/
def PWR_RAIL_THR : Nat := 0x1050
/-- PWR_CP_STAT: core supply status. -/
def PWR_CP_STAT : Nat := 0x1054
/-- PWR_CP_V: core input voltages. -/
def PWR_CP_V : Nat := 0x1058
/-- PWR_CORE_P: core power. -/
def PWR_CORE_P : Nat := 0x105C
/-- PWR_COEF_ENG: energy coefficients. -/
def PWR_COEF_ENG : Nat := 0x1060
/-- PWR_COEF_LANE: energy coefficients. -/
def PWR_COEF_LANE : Nat := 0x1064
/-- PWR_WIN_CNT: windows. -/
def PWR_WIN_CNT : Nat := 0x1068
/-- PWR_BUDGET: window budget. -/
def PWR_BUDGET (k : Nat) : Nat := 0x1080 + 0x4 * k
/-- PWR_LEDGER: window energy. -/
def PWR_LEDGER (k : Nat) : Nat := 0x10C0 + 0x4 * k
/-- PWR_ENG_E: engine energy. -/
def PWR_ENG_E (k : Nat) : Nat := 0x1100 + 0x4 * k
/-- PWR_SOL_E: solver energy. -/
def PWR_SOL_E : Nat := 0x1140

/-! 07_forcing_and_online_change.md -/
/-- FRC_CFG: force configuration. -/
def FRC_CFG : Nat := 0x28040
/-- FRC_STAT: force status. -/
def FRC_STAT : Nat := 0x28044
/-- FRC_VID: VID to force. -/
def FRC_VID : Nat := 0x28048
/-- FRC_VAL_LO: force value. -/
def FRC_VAL_LO : Nat := 0x2804C
/-- FRC_VAL_HI: force value. -/
def FRC_VAL_HI : Nat := 0x28050
/-- FRC_QUAL: force type and quality. -/
def FRC_QUAL : Nat := 0x28054
/-- FRC_CMD: force command. -/
def FRC_CMD : Nat := 0x28058
/-- FRC_RES: force result. -/
def FRC_RES : Nat := 0x2805C
/-- FRC_ENTRY_VID: read-back VID. -/
def FRC_ENTRY_VID : Nat := 0x28060
/-- FRC_ENTRY_LO: read-back value. -/
def FRC_ENTRY_LO : Nat := 0x28064
/-- FRC_ENTRY_HI: read-back value. -/
def FRC_ENTRY_HI : Nat := 0x28068
/-- FRC_ENTRY_INFO: read-back details. -/
def FRC_ENTRY_INFO : Nat := 0x2806C
/-- FRC_ENTRY_TIME_LO: read-back set time. -/
def FRC_ENTRY_TIME_LO : Nat := 0x28070
/-- FRC_ENTRY_TIME_HI: read-back set time. -/
def FRC_ENTRY_TIME_HI : Nat := 0x28074
/-- OLC_CMD: change command. -/
def OLC_CMD : Nat := 0x29040
/-- OLC_STAT: change status. -/
def OLC_STAT : Nat := 0x29044
/-- OLC_PKG_SIZE: transfer progress. -/
def OLC_PKG_SIZE : Nat := 0x29048
/-- OLC_RCVD: transfer progress. -/
def OLC_RCVD : Nat := 0x2904C
/-- OLC_BASE_VIN: package vintages. -/
def OLC_BASE_VIN : Nat := 0x29050
/-- OLC_NEW_VIN: package vintages. -/
def OLC_NEW_VIN : Nat := 0x29054
/-- OLC_ARM_TIME_LO: arm time. -/
def OLC_ARM_TIME_LO : Nat := 0x29058
/-- OLC_ARM_TIME_HI: arm time. -/
def OLC_ARM_TIME_HI : Nat := 0x2905C
/-- OLC_COMMIT_TIME_LO: commit time. -/
def OLC_COMMIT_TIME_LO : Nat := 0x29060
/-- OLC_COMMIT_TIME_HI: commit time. -/
def OLC_COMMIT_TIME_HI : Nat := 0x29064
/-- OLC_FAIL_VID: conflicting VID. -/
def OLC_FAIL_VID : Nat := 0x29068
/-- OLC_FAIL_CTX: refused context. -/
def OLC_FAIL_CTX : Nat := 0x2906C
/-- OLC_BLOCKER: boundary blocker. -/
def OLC_BLOCKER : Nat := 0x29070
/-- OLC_COMMIT_CNT: commits. -/
def OLC_COMMIT_CNT : Nat := 0x29074
/-- OLC_SWITCH_TIME: switch duration. -/
def OLC_SWITCH_TIME : Nat := 0x29078

/-! 08_solver_patterns_and_jobs.md -/
/-- SOL_CFG: solver configuration. -/
def SOL_CFG : Nat := 0x30040
/-- SOL_TAU: pivot threshold. -/
def SOL_TAU : Nat := 0x30044
/-- SOL_GUARD: deadline guard. -/
def SOL_GUARD : Nat := 0x30048
/-- SOL_DL_MAX: implicit deadline. -/
def SOL_DL_MAX : Nat := 0x3004C
/-- SOL_MAXIT: default iteration limit. -/
def SOL_MAXIT : Nat := 0x30050
/-- SOL_STAT: solver status. -/
def SOL_STAT : Nat := 0x30054
/-- SOL_STORE: store use. -/
def SOL_STORE : Nat := 0x30058
/-- SOL_LOAD_INFO: last pattern refusal. -/
def SOL_LOAD_INFO : Nat := 0x3005C
/-- SOL_JOB_CNT: jobs ended. -/
def SOL_JOB_CNT : Nat := 0x30060
/-- SOL_REFUSE_CNT: refusals and displacements. -/
def SOL_REFUSE_CNT : Nat := 0x30064
/-- SOL_DISPLACE_CNT: refusals and displacements. -/
def SOL_DISPLACE_CNT : Nat := 0x30068
/-- SOL_LAST: last ended job. -/
def SOL_LAST : Nat := 0x3006C
/-- SOL_LANE_CLK_LO: lane clocks. -/
def SOL_LANE_CLK_LO : Nat := 0x30070
/-- SOL_LANE_CLK_HI: lane clocks. -/
def SOL_LANE_CLK_HI : Nat := 0x30074
/-- SOL_PS_STATE: pattern slot state. -/
def SOL_PS_STATE (k : Nat) : Nat := 0x30080 + 0x10 * k
/-- SOL_PS_ID: pattern identity. -/
def SOL_PS_ID (k : Nat) : Nat := 0x30084 + 0x10 * k
/-- SOL_PS_DIM: pattern size. -/
def SOL_PS_DIM (k : Nat) : Nat := 0x30088 + 0x10 * k
/-- SOL_PS_NNZ: pattern entries. -/
def SOL_PS_NNZ (k : Nat) : Nat := 0x3008C + 0x10 * k
/-- SOL_JOB_CTL: job control. -/
def SOL_JOB_CTL (j : Nat) : Nat := 0x31000 + 0x400 * j
/-- SOL_JOB_STATE: job slot state. -/
def SOL_JOB_STATE (j : Nat) : Nat := 0x31004 + 0x400 * j
/-- SOL_JOB_SEQ: accepted sequence. -/
def SOL_JOB_SEQ (j : Nat) : Nat := 0x31008 + 0x400 * j
/-- SOL_JOB_RESULT: published status. -/
def SOL_JOB_RESULT (j : Nat) : Nat := 0x3100C + 0x400 * j
/-- SOL_JOB_ITER: published iterations. -/
def SOL_JOB_ITER (j : Nat) : Nat := 0x31010 + 0x400 * j
/-- SOL_JOB_BOUND_LO: published bound. -/
def SOL_JOB_BOUND_LO (j : Nat) : Nat := 0x31014 + 0x400 * j
/-- SOL_JOB_BOUND_HI: published bound. -/
def SOL_JOB_BOUND_HI (j : Nat) : Nat := 0x31018 + 0x400 * j
/-- SOL_JOB_END_LO: end time. -/
def SOL_JOB_END_LO (j : Nat) : Nat := 0x3101C + 0x400 * j
/-- SOL_JOB_END_HI: end time. -/
def SOL_JOB_END_HI (j : Nat) : Nat := 0x31020 + 0x400 * j
/-- SOL_JOB_RSEQ: published sequence. -/
def SOL_JOB_RSEQ (j : Nat) : Nat := 0x31024 + 0x400 * j
/-- SOL_JOB_WAIT: job times. -/
def SOL_JOB_WAIT (j : Nat) : Nat := 0x31028 + 0x400 * j
/-- SOL_JOB_RUN: job times. -/
def SOL_JOB_RUN (j : Nat) : Nat := 0x3102C + 0x400 * j
/-- SOL_JOB_MAP: mapped unknowns. -/
def SOL_JOB_MAP (j : Nat) : Nat := 0x31030 + 0x400 * j

/-! 09_solver_numerics_and_deadlines.md -/
/-- SOL_TEST: float-path self-test. -/
def SOL_TEST : Nat := 0x30100
/-- SOL_OVF_INFO: last overflow or range fault. -/
def SOL_OVF_INFO : Nat := 0x30104
/-- SOL_FAULT_CNT: fallbacks and range faults. -/
def SOL_FAULT_CNT : Nat := 0x30108
/-- SOL_PIV: replaced pivots. -/
def SOL_PIV (k : Nat) : Nat := 0x30120 + 0x4 * k
/-- SOL_FACT: factor state. -/
def SOL_FACT (k : Nat) : Nat := 0x30140 + 0x4 * k

/-! 10_field_channels.md -/
/-- CH_MODE: channel mode. -/
def CH_MODE (n : Nat) : Nat := 0x40040 + 0x1000 * n
/-- CH_AI_CFG: sampling. -/
def CH_AI_CFG (n : Nat) : Nat := 0x40044 + 0x1000 * n
/-- CH_AO_CFG: analog output. -/
def CH_AO_CFG (n : Nat) : Nat := 0x40048 + 0x1000 * n
/-- CH_DI_CFG: digital input. -/
def CH_DI_CFG (n : Nat) : Nat := 0x4004C + 0x1000 * n
/-- CH_DO_CFG: digital output. -/
def CH_DO_CFG (n : Nat) : Nat := 0x40050 + 0x1000 * n
/-- CH_SUBST: substitute kind. -/
def CH_SUBST (n : Nat) : Nat := 0x40054 + 0x1000 * n
/-- CH_SUBST_VAL: substitute value. -/
def CH_SUBST_VAL (n : Nat) : Nat := 0x40058 + 0x1000 * n
/-- CH_STAT: channel status. -/
def CH_STAT (n : Nat) : Nat := 0x4005C + 0x1000 * n
/-- CH_VALUE: standard-side value. -/
def CH_VALUE (n : Nat) : Nat := 0x40060 + 0x1000 * n
/-- CH_RAW: converter code. -/
def CH_RAW (n : Nat) : Nat := 0x40064 + 0x1000 * n
/-- CH_TIME_LO: value timestamp. -/
def CH_TIME_LO (n : Nat) : Nat := 0x40068 + 0x1000 * n
/-- CH_TIME_HI: value timestamp. -/
def CH_TIME_HI (n : Nat) : Nat := 0x4006C + 0x1000 * n
/-- CH_OUT: driven target. -/
def CH_OUT (n : Nat) : Nat := 0x40070 + 0x1000 * n
/-- CH_SUPPLY: stage supply. -/
def CH_SUPPLY (n : Nat) : Nat := 0x40074 + 0x1000 * n
/-- CH_FAULT: fault detail. -/
def CH_FAULT (n : Nat) : Nat := 0x40078 + 0x1000 * n
/-- CH_CMD: channel command. -/
def CH_CMD (n : Nat) : Nat := 0x4007C + 0x1000 * n
/-- CH_RES: channel result. -/
def CH_RES (n : Nat) : Nat := 0x40080 + 0x1000 * n
/-- CH_CAL_REF: calibration reference. -/
def CH_CAL_REF (n : Nat) : Nat := 0x40084 + 0x1000 * n
/-- CH_TRIM_ZERO: trims in force. -/
def CH_TRIM_ZERO (n : Nat) : Nat := 0x40088 + 0x1000 * n
/-- CH_TRIM_GAIN: trims in force. -/
def CH_TRIM_GAIN (n : Nat) : Nat := 0x4008C + 0x1000 * n
/-- CH_CAL_DATE: calibration date. -/
def CH_CAL_DATE (n : Nat) : Nat := 0x40090 + 0x1000 * n
/-- CH_CAL_INFO: calibration record. -/
def CH_CAL_INFO (n : Nat) : Nat := 0x40094 + 0x1000 * n
/-- CH_TP_STAT: test-pulse detail. -/
def CH_TP_STAT (n : Nat) : Nat := 0x40098 + 0x1000 * n
/-- CHG_FP_STAT: field supply status. -/
def CHG_FP_STAT : Nat := 0x80040
/-- CHG_FP_V: field inputs. -/
def CHG_FP_V : Nat := 0x80044
/-- CHG_FP_LOAD: field load. -/
def CHG_FP_LOAD : Nat := 0x80048
/-- CHG_CMD: field command. -/
def CHG_CMD : Nat := 0x8004C
/-- CHG_TP: test-pulse frame. -/
def CHG_TP : Nat := 0x80050
/-- CHG_CFG_REF: last refused configuration. -/
def CHG_CFG_REF : Nat := 0x80054
/-- CHG_FAULT_LO: channel maps. -/
def CHG_FAULT_LO : Nat := 0x80060
/-- CHG_FAULT_HI: channel maps. -/
def CHG_FAULT_HI : Nat := 0x80064
/-- CHG_COMP_LO: channel maps. -/
def CHG_COMP_LO : Nat := 0x80068
/-- CHG_COMP_HI: channel maps. -/
def CHG_COMP_HI : Nat := 0x8006C
/-- CHG_TPF_LO: channel maps. -/
def CHG_TPF_LO : Nat := 0x80070
/-- CHG_TPF_HI: channel maps. -/
def CHG_TPF_HI : Nat := 0x80074
/-- CHG_ISL_LO: channel maps. -/
def CHG_ISL_LO : Nat := 0x80078
/-- CHG_ISL_HI: channel maps. -/
def CHG_ISL_HI : Nat := 0x8007C

/-! 11_hart.md -/
/-- HRT_POOL: modem pool. -/
def HRT_POOL : Nat := 0x81040
/-- HRT_MODEM_MAP: modem states. -/
def HRT_MODEM_MAP : Nat := 0x81044
/-- HRT_CFG: link timing. -/
def HRT_CFG : Nat := 0x81048
/-- HRT_WAIT: modem wait limit. -/
def HRT_WAIT : Nat := 0x8104C
/-- HRT_CFG_RES: last binding result. -/
def HRT_CFG_RES : Nat := 0x81050
/-- HRT_CH_CFG: channel HART configuration. -/
def HRT_CH_CFG (k : Nat) : Nat := 0x81080 + 0x8 * k
/-- HRT_CH_STAT: channel HART status. -/
def HRT_CH_STAT (k : Nat) : Nat := 0x81084 + 0x8 * k
/-- HRT_T_CTL: transaction request. -/
def HRT_T_CTL (t : Nat) : Nat := 0x81400 + 0x90 * t
/-- HRT_T_DEVID: long-frame address. -/
def HRT_T_DEVID (t : Nat) : Nat := 0x81404 + 0x90 * t
/-- HRT_T_DEVTYPE: long-frame address. -/
def HRT_T_DEVTYPE (t : Nat) : Nat := 0x81408 + 0x90 * t
/-- HRT_T_STAT: transaction status. -/
def HRT_T_STAT (t : Nat) : Nat := 0x8140C + 0x90 * t
/-- HRT_T_RSTAT: device status. -/
def HRT_T_RSTAT (t : Nat) : Nat := 0x81410 + 0x90 * t
/-- HRT_T_END_LO: end time. -/
def HRT_T_END_LO (t : Nat) : Nat := 0x81414 + 0x90 * t
/-- HRT_T_END_HI: end time. -/
def HRT_T_END_HI (t : Nat) : Nat := 0x81418 + 0x90 * t
/-- HRT_T_DATA: data. -/
def HRT_T_DATA (t k : Nat) : Nat := 0x81420 + 0x90 * t + 0x4 * k

/-! 12_safety_island.md -/
/-- SAF_STATE: island state. -/
def SAF_STATE : Nat := 0xC0040
/-- SAF_CAUSES: causes. -/
def SAF_CAUSES : Nat := 0xC0044
/-- SAF_CLEARED: causes. -/
def SAF_CLEARED : Nat := 0xC0048
/-- SAF_LOCK_TIME_LO: lock-out time. -/
def SAF_LOCK_TIME_LO : Nat := 0xC004C
/-- SAF_LOCK_TIME_HI: lock-out time. -/
def SAF_LOCK_TIME_HI : Nat := 0xC0050
/-- SAF_LOCK_CNT: lock-outs. -/
def SAF_LOCK_CNT : Nat := 0xC0054
/-- SAF_CYCLE: safety cycle. -/
def SAF_CYCLE : Nat := 0xC0058
/-- SAF_CYC_CNT: cycles. -/
def SAF_CYC_CNT : Nat := 0xC005C
/-- SAF_CFG_CRC: configuration check. -/
def SAF_CFG_CRC : Nat := 0xC0060
/-- SAF_NONCE: command nonce. -/
def SAF_NONCE : Nat := 0xC0064
/-- SAF_RESET_RES: last reset or start. -/
def SAF_RESET_RES : Nat := 0xC0068
/-- SAF_CLOCK: clocks. -/
def SAF_CLOCK : Nat := 0xC006C
/-- SAF_TEST: island self-test. -/
def SAF_TEST : Nat := 0xC0070
/-- SAF_TEST_AGE: periodic test coverage. -/
def SAF_TEST_AGE : Nat := 0xC0074
/-- SAF_OWN_LO: channel maps. -/
def SAF_OWN_LO : Nat := 0xC0078
/-- SAF_OWN_HI: channel maps. -/
def SAF_OWN_HI : Nat := 0xC007C
/-- SAF_IN_LO: channel maps. -/
def SAF_IN_LO : Nat := 0xC0080
/-- SAF_IN_HI: channel maps. -/
def SAF_IN_HI : Nat := 0xC0084
/-- SAF_OUT_LO: channel maps. -/
def SAF_OUT_LO : Nat := 0xC0088
/-- SAF_OUT_HI: channel maps. -/
def SAF_OUT_HI : Nat := 0xC008C
/-- SAF_HOLD_LO: channel maps. -/
def SAF_HOLD_LO : Nat := 0xC0090
/-- SAF_HOLD_HI: channel maps. -/
def SAF_HOLD_HI : Nat := 0xC0094
/-- SAF_CHFLT_LO: channel maps. -/
def SAF_CHFLT_LO : Nat := 0xC0098
/-- SAF_CHFLT_HI: channel maps. -/
def SAF_CHFLT_HI : Nat := 0xC009C
/-- SAF_STATUS: published status. -/
def SAF_STATUS (k : Nat) : Nat := 0xC0100 + 0x4 * k

/-! 13_station_link.md -/
/-- LNK_CFG: link configuration. -/
def LNK_CFG : Nat := 0xA8040
/-- LNK_STAT: link status. -/
def LNK_STAT : Nat := 0xA8044
/-- LNK_CMD: station command. -/
def LNK_CMD : Nat := 0xA8048
/-- LNK_CMD_RES: command result. -/
def LNK_CMD_RES : Nat := 0xA804C
/-- LNK_HELD_CNT: link counts. -/
def LNK_HELD_CNT : Nat := 0xA8050
/-- LNK_DOWN_CNT: link counts. -/
def LNK_DOWN_CNT : Nat := 0xA8054
/-- LNK_FCS_A: link counts. -/
def LNK_FCS_A : Nat := 0xA8058
/-- LNK_FCS_B: link counts. -/
def LNK_FCS_B : Nat := 0xA805C
/-- LNK_STRAY_CNT: link counts. -/
def LNK_STRAY_CNT : Nat := 0xA8060
/-- LNK_RING_CNT: link counts. -/
def LNK_RING_CNT : Nat := 0xA8064
/-- LNK_LATE_CNT: link counts. -/
def LNK_LATE_CNT : Nat := 0xA8068
/-- LNK_SEG_CFG: segment cycle context. -/
def LNK_SEG_CFG (k : Nat) : Nat := 0xA8080 + 0x20 * k
/-- LNK_SEG_APPLY: segment timing. -/
def LNK_SEG_APPLY (k : Nat) : Nat := 0xA8084 + 0x20 * k
/-- LNK_SEG_TOUT: segment timing. -/
def LNK_SEG_TOUT (k : Nat) : Nat := 0xA8088 + 0x20 * k
/-- LNK_SEG_TIN: segment timing. -/
def LNK_SEG_TIN (k : Nat) : Nat := 0xA808C + 0x20 * k
/-- LNK_SEG_D: segment timing. -/
def LNK_SEG_D (k : Nat) : Nat := 0xA8090 + 0x20 * k
/-- LNK_SEG_MIN: segment timing. -/
def LNK_SEG_MIN (k : Nat) : Nat := 0xA8094 + 0x20 * k
/-- LNK_SEG_SEQ: last sequence. -/
def LNK_SEG_SEQ (k : Nat) : Nat := 0xA8098 + 0x20 * k
/-- LNK_ST_STATE: station state. -/
def LNK_ST_STATE (k : Nat) : Nat := 0xA8400 + 0x8 * (k - 1)
/-- LNK_ST_DELAY: station line delay. -/
def LNK_ST_DELAY (k : Nat) : Nat := 0xA8404 + 0x8 * (k - 1)
/-- LNK_ST_CNT: station counts. -/
def LNK_ST_CNT (k : Nat) : Nat := 0xA8800 + 0x4 * (k - 1)

/-! 14_plant_network.md -/
/-- NET_CFG: plant configuration. -/
def NET_CFG : Nat := 0xA0040
/-- NET_IP_ADDR: IPv4 settings. -/
def NET_IP_ADDR : Nat := 0xA0044
/-- NET_IP_MASK: IPv4 settings. -/
def NET_IP_MASK : Nat := 0xA0048
/-- NET_IP_GW: IPv4 settings. -/
def NET_IP_GW : Nat := 0xA004C
/-- NET_MAC_LO: node MAC address. -/
def NET_MAC_LO : Nat := 0xA0050
/-- NET_MAC_HI: node MAC address. -/
def NET_MAC_HI : Nat := 0xA0054
/-- NET_SESS_MAP: open sessions. -/
def NET_SESS_MAP : Nat := 0xA0058
/-- NET_DROP_CNT: SSP and IP counts. -/
def NET_DROP_CNT : Nat := 0xA005C
/-- NET_REFUSE_CNT: SSP and IP counts. -/
def NET_REFUSE_CNT : Nat := 0xA0060
/-- NET_FRAG_CNT: SSP and IP counts. -/
def NET_FRAG_CNT : Nat := 0xA0064
/-- NET_SESS_INFO: session entry. -/
def NET_SESS_INFO (k : Nat) : Nat := 0xA0080 + 0x8 * k
/-- NET_SESS_PEER: session peer. -/
def NET_SESS_PEER (k : Nat) : Nat := 0xA0084 + 0x8 * k
/-- PRP_CFG: PRP configuration. -/
def PRP_CFG : Nat := 0xA1040
/-- PRP_STAT: PRP status. -/
def PRP_STAT : Nat := 0xA1044
/-- PRP_RX_A: PRP counts. -/
def PRP_RX_A : Nat := 0xA1048
/-- PRP_RX_B: PRP counts. -/
def PRP_RX_B : Nat := 0xA104C
/-- PRP_DUP_CNT: PRP counts. -/
def PRP_DUP_CNT : Nat := 0xA1050
/-- PRP_WRONG_A: PRP counts. -/
def PRP_WRONG_A : Nat := 0xA1054
/-- PRP_WRONG_B: PRP counts. -/
def PRP_WRONG_B : Nat := 0xA1058
/-- PRP_MISS_A: PRP counts. -/
def PRP_MISS_A : Nat := 0xA105C
/-- PRP_MISS_B: PRP counts. -/
def PRP_MISS_B : Nat := 0xA1060
/-- PTP_CFG: PTP configuration. -/
def PTP_CFG : Nat := 0xA2040
/-- PTP_INTV: message intervals. -/
def PTP_INTV : Nat := 0xA2044
/-- PTP_PRIO: master attributes. -/
def PTP_PRIO : Nat := 0xA2048
/-- PTP_STAT: PTP status. -/
def PTP_STAT : Nat := 0xA204C
/-- PTP_GM_LO: grandmaster identity. -/
def PTP_GM_LO : Nat := 0xA2050
/-- PTP_GM_HI: grandmaster identity. -/
def PTP_GM_HI : Nat := 0xA2054
/-- PTP_MPD: path delay. -/
def PTP_MPD : Nat := 0xA2058
/-- PTP_OFS_A: port offsets. -/
def PTP_OFS_A : Nat := 0xA205C
/-- PTP_OFS_B: port offsets. -/
def PTP_OFS_B : Nat := 0xA2060
/-- PTP_UTC: UTC offset. -/
def PTP_UTC : Nat := 0xA2064
/-- PTP_SYNC_CNT: PTP counts. -/
def PTP_SYNC_CNT : Nat := 0xA2068
/-- PTP_ANN_TO_CNT: PTP counts. -/
def PTP_ANN_TO_CNT : Nat := 0xA206C

/-! 15_can.md -/
/-- CAN_MODE: port mode. -/
def CAN_MODE (p : Nat) : Nat := 0x90040 + 0x1000 * p
/-- CAN_NBT: nominal bit timing. -/
def CAN_NBT (p : Nat) : Nat := 0x90044 + 0x1000 * p
/-- CAN_DBT: data bit timing. -/
def CAN_DBT (p : Nat) : Nat := 0x90048 + 0x1000 * p
/-- CAN_TDC: delay compensation. -/
def CAN_TDC (p : Nat) : Nat := 0x9004C + 0x1000 * p
/-- CAN_WARN: warning thresholds. -/
def CAN_WARN (p : Nat) : Nat := 0x90050 + 0x1000 * p
/-- CAN_ERR: error state. -/
def CAN_ERR (p : Nat) : Nat := 0x90054 + 0x1000 * p
/-- CAN_CMD: port command. -/
def CAN_CMD (p : Nat) : Nat := 0x90058 + 0x1000 * p
/-- CAN_RES: port result. -/
def CAN_RES (p : Nat) : Nat := 0x9005C + 0x1000 * p
/-- CAN_RX_NUM: newest entry. -/
def CAN_RX_NUM (p : Nat) : Nat := 0x90060 + 0x1000 * p
/-- CAN_RX_BASE: window base. -/
def CAN_RX_BASE (p : Nat) : Nat := 0x90064 + 0x1000 * p
/-- CAN_BUSOFF_CNT: port counts. -/
def CAN_BUSOFF_CNT (p : Nat) : Nat := 0x90068 + 0x1000 * p
/-- CAN_ERRFRM_CNT: port counts. -/
def CAN_ERRFRM_CNT (p : Nat) : Nat := 0x9006C + 0x1000 * p
/-- CAN_PEX_CNT: port counts. -/
def CAN_PEX_CNT (p : Nat) : Nat := 0x90070 + 0x1000 * p
/-- CAN_TX_LATE_CNT: port counts. -/
def CAN_TX_LATE_CNT (p : Nat) : Nat := 0x90074 + 0x1000 * p
/-- CAN_TX_DROP_CNT: port counts. -/
def CAN_TX_DROP_CNT (p : Nat) : Nat := 0x90078 + 0x1000 * p
/-- CAN_TX_STAT: slot status. -/
def CAN_TX_STAT (p k : Nat) : Nat := 0x90100 + 0x1000 * p + 0x4 * k

/-! 16_redundancy.md -/
/-- RED_CFG: pair configuration. -/
def RED_CFG : Nat := 0xB0040
/-- RED_TIMING: pair timing. -/
def RED_TIMING : Nat := 0xB0044
/-- RED_STAT: pair status. -/
def RED_STAT : Nat := 0xB0048
/-- RED_CLAIM: claims. -/
def RED_CLAIM : Nat := 0xB004C
/-- RED_PCLAIM: claims. -/
def RED_PCLAIM : Nat := 0xB0050
/-- RED_APPLIED: claims. -/
def RED_APPLIED : Nat := 0xB0054
/-- RED_ROUND: claims. -/
def RED_ROUND : Nat := 0xB0058
/-- RED_ROUND_INFO: last round. -/
def RED_ROUND_INFO : Nat := 0xB005C
/-- RED_HEALTH: health. -/
def RED_HEALTH : Nat := 0xB0060
/-- RED_CMD: pair command. -/
def RED_CMD : Nat := 0xB0064
/-- RED_RES: pair result. -/
def RED_RES : Nat := 0xB0068
/-- RED_TAKEOVER_CNT: pair counts. -/
def RED_TAKEOVER_CNT : Nat := 0xB006C
/-- RED_DEMOTE_CNT: pair counts. -/
def RED_DEMOTE_CNT : Nat := 0xB0070
/-- RED_DIVERGE_CNT: pair counts. -/
def RED_DIVERGE_CNT : Nat := 0xB0074
/-- RED_WIRE_ERR_CNT: pair counts. -/
def RED_WIRE_ERR_CNT : Nat := 0xB0078
/-- RED_LAST_TO_LO: last takeover. -/
def RED_LAST_TO_LO : Nat := 0xB007C
/-- RED_LAST_TO_HI: last takeover. -/
def RED_LAST_TO_HI : Nat := 0xB0080
/-- RED_SYNC_PROG: join progress. -/
def RED_SYNC_PROG : Nat := 0xB0084
/-- PAIR_STAT: port status. -/
def PAIR_STAT : Nat := 0xB1040
/-- PAIR_RATE: payload rate. -/
def PAIR_RATE : Nat := 0xB1044
/-- PAIR_LAG_MAX: standby lag. -/
def PAIR_LAG_MAX : Nat := 0xB1048
/-- PAIR_DELAY: pair time. -/
def PAIR_DELAY : Nat := 0xB104C
/-- PAIR_TIME_OFS: pair time. -/
def PAIR_TIME_OFS : Nat := 0xB1050
/-- PAIR_ERR_CNT: port counts. -/
def PAIR_ERR_CNT : Nat := 0xB1054
/-- PAIR_TO_CNT: port counts. -/
def PAIR_TO_CNT : Nat := 0xB1058

/-! 17_memory_and_cellar.md -/
/-- MEM_CFG: marking threshold. -/
def MEM_CFG : Nat := 0xF0040
/-- MEM_STAT: DRAM status. -/
def MEM_STAT : Nat := 0xF0044
/-- MEM_PATROL: patrol age. -/
def MEM_PATROL : Nat := 0xF0048
/-- MEM_UE_ADDR: last uncorrectable address. -/
def MEM_UE_ADDR : Nat := 0xF004C
/-- MEM_UE_INFO: last uncorrectable detail. -/
def MEM_UE_INFO : Nat := 0xF0050
/-- MEM_CE_CNT: error counts. -/
def MEM_CE_CNT : Nat := 0xF0054
/-- MEM_UE_CNT: error counts. -/
def MEM_UE_CNT : Nat := 0xF0058
/-- MEM_SRAM_CE_CNT: error counts. -/
def MEM_SRAM_CE_CNT : Nat := 0xF005C
/-- MEM_SRAM_UE_CNT: error counts. -/
def MEM_SRAM_UE_CNT : Nat := 0xF0060
/-- MEM_INNER_CNT: error counts. -/
def MEM_INNER_CNT : Nat := 0xF0064
/-- MEM_RETIRED: retired memory. -/
def MEM_RETIRED : Nat := 0xF0068
/-- MEM_DEV_CNT: device corrections. -/
def MEM_DEV_CNT (k : Nat) : Nat := 0xF0080 + 0x4 * k
/-- CEL_STAT: cellar status. -/
def CEL_STAT : Nat := 0xF1040
/-- CEL_LIFE: wear. -/
def CEL_LIFE : Nat := 0xF1044
/-- CEL_WR_MAX: write latency and errors. -/
def CEL_WR_MAX : Nat := 0xF1048
/-- CEL_ERR_CNT: write latency and errors. -/
def CEL_ERR_CNT : Nat := 0xF104C
/-- CEL_AREA: area state. -/
def CEL_AREA (k : Nat) : Nat := 0xF1080 + 0x4 * k

/-! 18_event_recorder.md -/
/-- EVR_CFG: recorder configuration. -/
def EVR_CFG : Nat := 0xD0040
/-- EVR_STAT: recorder status. -/
def EVR_STAT : Nat := 0xD0044
/-- EVR_OPTIME_LO: operating time. -/
def EVR_OPTIME_LO : Nat := 0xD0048
/-- EVR_OPTIME_HI: operating time. -/
def EVR_OPTIME_HI : Nat := 0xD004C
/-- EVR_PCC: power-cycle count. -/
def EVR_PCC : Nat := 0xD0050
/-- EVR_RING_OLD_LO: positions. -/
def EVR_RING_OLD_LO : Nat := 0xD0054
/-- EVR_RING_OLD_HI: positions. -/
def EVR_RING_OLD_HI : Nat := 0xD0058
/-- EVR_RING_NEXT_LO: positions. -/
def EVR_RING_NEXT_LO : Nat := 0xD005C
/-- EVR_RING_NEXT_HI: positions. -/
def EVR_RING_NEXT_HI : Nat := 0xD0060
/-- EVR_FIRST_NEXT_LO: positions. -/
def EVR_FIRST_NEXT_LO : Nat := 0xD0064
/-- EVR_FIRST_NEXT_HI: positions. -/
def EVR_FIRST_NEXT_HI : Nat := 0xD0068
/-- EVR_REC_CNT: recorder counts. -/
def EVR_REC_CNT : Nat := 0xD006C
/-- EVR_DROP_CNT: recorder counts. -/
def EVR_DROP_CNT : Nat := 0xD0070
/-- EVR_COMMIT_MAX: recorder counts. -/
def EVR_COMMIT_MAX : Nat := 0xD0074

/-! 19_start_and_update.md -/
/-- SYS_STATE: module state. -/
def SYS_STATE : Nat := 0x40
/-- SYS_CMD: module command. -/
def SYS_CMD : Nat := 0x44
/-- SYS_RES: command result. -/
def SYS_RES : Nat := 0x48
/-- SYS_START_CFG: start target. -/
def SYS_START_CFG : Nat := 0x4C
/-- SYS_START_T: start durations. -/
def SYS_START_T : Nat := 0x50
/-- SYS_SERIAL_LO: module serial number. -/
def SYS_SERIAL_LO : Nat := 0x54
/-- SYS_SERIAL_HI: module serial number. -/
def SYS_SERIAL_HI : Nat := 0x58
/-- UPD_CASK: cask state. -/
def UPD_CASK : Nat := 0xD8040
/-- UPD_CASK_VIN: cask content. -/
def UPD_CASK_VIN : Nat := 0xD8044
/-- UPD_CASK_TOTAL: cask content. -/
def UPD_CASK_TOTAL : Nat := 0xD8048
/-- UPD_CASK_DONE: cask content. -/
def UPD_CASK_DONE : Nat := 0xD804C
/-- UPD_CMD: update command. -/
def UPD_CMD : Nat := 0xD8050
/-- UPD_RES: update result. -/
def UPD_RES : Nat := 0xD8054
/-- UPD_RACK: racking progress. -/
def UPD_RACK : Nat := 0xD8058
/-- UPD_FW_ACT: stored vintages. -/
def UPD_FW_ACT : Nat := 0xD805C
/-- UPD_FW_FB: stored vintages. -/
def UPD_FW_FB : Nat := 0xD8060
/-- UPD_APP_ACT: stored vintages. -/
def UPD_APP_ACT : Nat := 0xD8064
/-- UPD_APP_FB: stored vintages. -/
def UPD_APP_FB : Nat := 0xD8068
/-- UPD_PROBE: probation. -/
def UPD_PROBE : Nat := 0xD806C
/-- UPD_CHUNK_ERR_CNT: chunk refusals. -/
def UPD_CHUNK_ERR_CNT : Nat := 0xD8070

/-! 20_front_panel.md -/
/-- DSB_STAT: label status. -/
def DSB_STAT : Nat := 0xE0040
/-- DSB_TEMP: label temperature. -/
def DSB_TEMP : Nat := 0xE0044
/-- DSB_VDRV: drive voltage. -/
def DSB_VDRV : Nat := 0xE0048
/-- DSB_CFG: label configuration. -/
def DSB_CFG : Nat := 0xE004C
/-- DSB_CMD: label command. -/
def DSB_CMD : Nat := 0xE0050
/-- DSB_RES: label result. -/
def DSB_RES : Nat := 0xE0054
/-- DSB_UPD_CNT: updates. -/
def DSB_UPD_CNT : Nat := 0xE0058
/-- DSB_TAG: station tag. -/
def DSB_TAG (k : Nat) : Nat := 0xE0060 + 0x4 * k
/-- DSB_BAND: band table. -/
def DSB_BAND (k : Nat) : Nat := 0xE0080 + 0x4 * k
/-- DSE_CFG: panel configuration. -/
def DSE_CFG : Nat := 0xE1040
/-- DSE_STAT: panel status. -/
def DSE_STAT : Nat := 0xE1044
/-- DSE_LINE_CNT: lines written. -/
def DSE_LINE_CNT : Nat := 0xE1048
/-- DSE_RES: configuration result. -/
def DSE_RES : Nat := 0xE104C
/-- DSE_PCTL: program page control. -/
def DSE_PCTL : Nat := 0xE1050
/-- DSE_PTEXT: program text. -/
def DSE_PTEXT (k : Nat) : Nat := 0xE1100 + 0x4 * k
/-- DSE_PBLINK: program blink. -/
def DSE_PBLINK (k : Nat) : Nat := 0xE12C0 + 0x4 * k
/-- BTN_STAT: button status. -/
def BTN_STAT : Nat := 0xE2040
/-- BTN_LAST: last press. -/
def BTN_LAST : Nat := 0xE2044
/-- BTN_PRESS_CNT: presses. -/
def BTN_PRESS_CNT : Nat := 0xE2048

/-! 21_security.md -/
/-- SEC_STAT: security status. -/
def SEC_STAT : Nat := 0xF800C
/-- SEC_CMD: security command. -/
def SEC_CMD : Nat := 0xF8040
/-- SEC_TOKEN: unlock token. -/
def SEC_TOKEN (k : Nat) : Nat := 0xF8044 + 0x4 * k
/-- SEC_CRED: credentials in force. -/
def SEC_CRED : Nat := 0xF8090

end Reg

namespace F
def BLK_ID_TYPE (p : Nat) : Fld := ⟨Reg.BLK_ID p, 16, 16⟩
def BLK_ID_VER_MAJ (p : Nat) : Fld := ⟨Reg.BLK_ID p, 8, 8⟩
def BLK_ID_VER_MIN (p : Nat) : Fld := ⟨Reg.BLK_ID p, 0, 8⟩
def BLK_CAP_INST (p : Nat) : Fld := ⟨Reg.BLK_CAP p, 24, 8⟩
def BLK_CAP_CAPS (p : Nat) : Fld := ⟨Reg.BLK_CAP p, 0, 24⟩
def BLK_CTL_EVT_TEST (p : Nat) : Fld := ⟨Reg.BLK_CTL p, 1, 1⟩
def BLK_CTL_EVT_GATE (p : Nat) : Fld := ⟨Reg.BLK_CTL p, 0, 1⟩
def BLK_STAT_ACC_ERR (p : Nat) : Fld := ⟨Reg.BLK_STAT p, 3, 1⟩
def BLK_STAT_PARKED (p : Nat) : Fld := ⟨Reg.BLK_STAT p, 2, 1⟩
def BLK_STAT_FAULT (p : Nat) : Fld := ⟨Reg.BLK_STAT p, 1, 1⟩
def BLK_STAT_READY (p : Nat) : Fld := ⟨Reg.BLK_STAT p, 0, 1⟩
def BLK_EVT_RAW_TEST (p : Nat) : Fld := ⟨Reg.BLK_EVT_RAW p, 31, 1⟩
def BLK_EVT_RAW_EVT (p : Nat) : Fld := ⟨Reg.BLK_EVT_RAW p, 0, 31⟩
def BLK_EVT_EN_EN (p : Nat) : Fld := ⟨Reg.BLK_EVT_EN p, 0, 32⟩
def BLK_EVT_PEND_PEND (p : Nat) : Fld := ⟨Reg.BLK_EVT_PEND p, 0, 32⟩
def BLK_EVT_ROUTE_ROUTE_EN (p : Nat) : Fld := ⟨Reg.BLK_EVT_ROUTE p, 31, 1⟩
def BLK_EVT_ROUTE_LINE (p : Nat) : Fld := ⟨Reg.BLK_EVT_ROUTE p, 0, 8⟩
def BLK_LOCK_KEY (p : Nat) : Fld := ⟨Reg.BLK_LOCK p, 0, 32⟩
def BLK_LOCK_HOLDER (p : Nat) : Fld := ⟨Reg.BLK_LOCK p, 1, 2⟩
def BLK_LOCK_LOCKED (p : Nat) : Fld := ⟨Reg.BLK_LOCK p, 0, 1⟩
def BLK_OWNER_CLASS (p : Nat) : Fld := ⟨Reg.BLK_OWNER p, 30, 2⟩
def BLK_OWNER_ID (p : Nat) : Fld := ⟨Reg.BLK_OWNER p, 0, 16⟩

/-! 03_register_fabric.md -/
def SYS_ACC_ERR_ADDR_ADDR : Fld := ⟨Reg.SYS_ACC_ERR_ADDR, 0, 32⟩
def SYS_ACC_ERR_INFO_CODE : Fld := ⟨Reg.SYS_ACC_ERR_INFO, 24, 8⟩
def SYS_ACC_ERR_INFO_CLASS : Fld := ⟨Reg.SYS_ACC_ERR_INFO, 22, 2⟩
def SYS_ACC_ERR_INFO_WRITE : Fld := ⟨Reg.SYS_ACC_ERR_INFO, 21, 1⟩
def SYS_ACC_ERR_INFO_ID : Fld := ⟨Reg.SYS_ACC_ERR_INFO, 0, 16⟩
def SYS_ACC_ERR_CNT_COUNT : Fld := ⟨Reg.SYS_ACC_ERR_CNT, 0, 32⟩
def SYS_EVL_STAT_LEVEL (k : Nat) : Fld := ⟨Reg.SYS_EVL_STAT k, 0, 32⟩
def SYS_EVL_EDGE_EDGE (k : Nat) : Fld := ⟨Reg.SYS_EVL_EDGE k, 0, 32⟩

/-! 04_time_and_angle_bases.md -/
def ABS0_CFG_RELOCK_MODE : Fld := ⟨Reg.ABS0_CFG, 8, 1⟩
def ABS0_CFG_NOM : Fld := ⟨Reg.ABS0_CFG, 4, 1⟩
def ABS0_CFG_SRC : Fld := ⟨Reg.ABS0_CFG, 0, 2⟩
def ABS0_RELOCK_STEP_MAX : Fld := ⟨Reg.ABS0_RELOCK, 16, 16⟩
def ABS0_RELOCK_QUAL : Fld := ⟨Reg.ABS0_RELOCK, 0, 16⟩
def ABS0_OFS_OFS (k : Nat) : Fld := ⟨Reg.ABS0_OFS k, 0, 32⟩
def ABS0_STAT_RELOCK_CNT : Fld := ⟨Reg.ABS0_STAT, 16, 16⟩
def ABS0_STAT_VS2_OK : Fld := ⟨Reg.ABS0_STAT, 10, 1⟩
def ABS0_STAT_VS1_OK : Fld := ⟨Reg.ABS0_STAT, 9, 1⟩
def ABS0_STAT_IN_USE : Fld := ⟨Reg.ABS0_STAT, 8, 1⟩
def ABS0_STAT_HO_PHASE : Fld := ⟨Reg.ABS0_STAT, 4, 2⟩
def ABS0_STAT_HOLDING : Fld := ⟨Reg.ABS0_STAT, 3, 1⟩
def ABS0_STAT_STATE : Fld := ⟨Reg.ABS0_STAT, 0, 3⟩
def ABS0_FREQ_FREQ : Fld := ⟨Reg.ABS0_FREQ, 0, 32⟩
def ABS0_POS_LO_ANGLE : Fld := ⟨Reg.ABS0_POS_LO, 0, 32⟩
def ABS0_POS_HI_CYCLES : Fld := ⟨Reg.ABS0_POS_HI, 0, 32⟩
def ABS0_LAST_STEP_E : Fld := ⟨Reg.ABS0_LAST_STEP, 0, 32⟩
def ABS_VS_RMS_RMS (k : Nat) : Fld := ⟨Reg.ABS_VS_RMS k, 0, 32⟩
def ABS_VS_DPHASE_DPHASE : Fld := ⟨Reg.ABS_VS_DPHASE, 0, 32⟩
def ABS_VS_DFREQ_DFREQ : Fld := ⟨Reg.ABS_VS_DFREQ, 0, 32⟩
def ABS1_CFG_STOP_TIME : Fld := ⟨Reg.ABS1_CFG, 16, 16⟩
def ABS1_CFG_GAP_RATIO : Fld := ⟨Reg.ABS1_CFG, 8, 8⟩
def ABS1_CFG_MISSING : Fld := ⟨Reg.ABS1_CFG, 4, 4⟩
def ABS1_CFG_DIR_INV : Fld := ⟨Reg.ABS1_CFG, 3, 1⟩
def ABS1_CFG_LEVEL : Fld := ⟨Reg.ABS1_CFG, 2, 1⟩
def ABS1_CFG_MODE : Fld := ⟨Reg.ABS1_CFG, 0, 2⟩
def ABS1_CPR_CPR : Fld := ⟨Reg.ABS1_CPR, 0, 20⟩
def ABS1_IDX_OFS_OFS : Fld := ⟨Reg.ABS1_IDX_OFS, 0, 32⟩
def ABS1_STAT_HOLDING : Fld := ⟨Reg.ABS1_STAT, 7, 1⟩
def ABS1_STAT_OVERSPEED : Fld := ⟨Reg.ABS1_STAT, 6, 1⟩
def ABS1_STAT_STOPPED : Fld := ⟨Reg.ABS1_STAT, 5, 1⟩
def ABS1_STAT_REVERSE : Fld := ⟨Reg.ABS1_STAT, 4, 1⟩
def ABS1_STAT_STATE : Fld := ⟨Reg.ABS1_STAT, 0, 3⟩
def ABS1_SPEED_SPEED : Fld := ⟨Reg.ABS1_SPEED, 0, 32⟩
def ABS1_POS_LO_ANGLE : Fld := ⟨Reg.ABS1_POS_LO, 0, 32⟩
def ABS1_POS_HI_REVS : Fld := ⟨Reg.ABS1_POS_HI, 0, 32⟩
def ABS1_IDX_ERR_CNT_COUNT : Fld := ⟨Reg.ABS1_IDX_ERR_CNT, 0, 32⟩
def ABS_CMP_CTL_BASE (k : Nat) : Fld := ⟨Reg.ABS_CMP_CTL k, 1, 1⟩
def ABS_CMP_CTL_EN (k : Nat) : Fld := ⟨Reg.ABS_CMP_CTL k, 0, 1⟩
def ABS_CMP_LO_TARGET (k : Nat) : Fld := ⟨Reg.ABS_CMP_LO k, 0, 32⟩
def ABS_CMP_HI_TARGET (k : Nat) : Fld := ⟨Reg.ABS_CMP_HI k, 0, 32⟩
def TSU_CFG_STEP_LIM : Fld := ⟨Reg.TSU_CFG, 16, 16⟩
def TSU_CFG_STEP_RUN : Fld := ⟨Reg.TSU_CFG, 4, 1⟩
def TSU_CFG_SRC : Fld := ⟨Reg.TSU_CFG, 0, 3⟩
def TSU_STAT_CMD_BUSY : Fld := ⟨Reg.TSU_STAT, 16, 1⟩
def TSU_STAT_CMD_RES : Fld := ⟨Reg.TSU_STAT, 12, 4⟩
def TSU_STAT_SLEWING : Fld := ⟨Reg.TSU_STAT, 9, 1⟩
def TSU_STAT_TIME_VALID : Fld := ⟨Reg.TSU_STAT, 8, 1⟩
def TSU_STAT_SRC_ACT : Fld := ⟨Reg.TSU_STAT, 4, 3⟩
def TSU_STAT_STATE : Fld := ⟨Reg.TSU_STAT, 0, 3⟩
def TSU_TIME_LO_NS : Fld := ⟨Reg.TSU_TIME_LO, 0, 32⟩
def TSU_TIME_HI_SEC : Fld := ⟨Reg.TSU_TIME_HI, 0, 32⟩
def TSU_EPOCH_SEC_HI : Fld := ⟨Reg.TSU_EPOCH, 0, 32⟩
def TSU_RATE_RATE : Fld := ⟨Reg.TSU_RATE, 0, 32⟩
def TSU_OFFSET_OFFSET : Fld := ⟨Reg.TSU_OFFSET, 0, 32⟩
def TSU_TRIM_TRIM : Fld := ⟨Reg.TSU_TRIM, 0, 32⟩
def TSU_SET_LO_VALUE : Fld := ⟨Reg.TSU_SET_LO, 0, 32⟩
def TSU_SET_HI_VALUE : Fld := ⟨Reg.TSU_SET_HI, 0, 32⟩
def TSU_ADJ_ADJ : Fld := ⟨Reg.TSU_ADJ, 0, 32⟩
def TSU_CMD_CMD : Fld := ⟨Reg.TSU_CMD, 0, 2⟩
def TSU_CAP_CFG_OVR (k : Nat) : Fld := ⟨Reg.TSU_CAP_CFG k, 17, 1⟩
def TSU_CAP_CFG_NEW (k : Nat) : Fld := ⟨Reg.TSU_CAP_CFG k, 16, 1⟩
def TSU_CAP_CFG_LINE (k : Nat) : Fld := ⟨Reg.TSU_CAP_CFG k, 8, 8⟩
def TSU_CAP_CFG_SRC (k : Nat) : Fld := ⟨Reg.TSU_CAP_CFG k, 0, 3⟩
def TSU_CAP_LO_TIME (k : Nat) : Fld := ⟨Reg.TSU_CAP_LO k, 0, 32⟩
def TSU_CAP_HI_TIME (k : Nat) : Fld := ⟨Reg.TSU_CAP_HI k, 0, 32⟩
def TSU_CAP_FRAC_FRAC (k : Nat) : Fld := ⟨Reg.TSU_CAP_FRAC k, 0, 16⟩
def TSU_CMP_CTL_EN (k : Nat) : Fld := ⟨Reg.TSU_CMP_CTL k, 0, 1⟩
def TSU_CMP_LO_TARGET (k : Nat) : Fld := ⟨Reg.TSU_CMP_LO k, 0, 32⟩
def TSU_CMP_HI_TARGET (k : Nat) : Fld := ⟨Reg.TSU_CMP_HI k, 0, 32⟩
def TSU_CMP_PERIOD_PERIOD (k : Nat) : Fld := ⟨Reg.TSU_CMP_PERIOD k, 0, 32⟩
def RTC_TIME_LO_SUBSEC : Fld := ⟨Reg.RTC_TIME_LO, 0, 15⟩
def RTC_TIME_HI_SEC : Fld := ⟨Reg.RTC_TIME_HI, 0, 32⟩
def RTC_EPOCH_SEC_HI : Fld := ⟨Reg.RTC_EPOCH, 0, 32⟩
def RTC_STAT_CMD_RES : Fld := ⟨Reg.RTC_STAT, 28, 4⟩
def RTC_STAT_SUPCAP : Fld := ⟨Reg.RTC_STAT, 16, 12⟩
def RTC_STAT_COIN_ABSENT : Fld := ⟨Reg.RTC_STAT, 3, 1⟩
def RTC_STAT_COIN_LOW : Fld := ⟨Reg.RTC_STAT, 2, 1⟩
def RTC_STAT_ON_COIN : Fld := ⟨Reg.RTC_STAT, 1, 1⟩
def RTC_STAT_VALID : Fld := ⟨Reg.RTC_STAT, 0, 1⟩
def RTC_DRIFT_DRIFT : Fld := ⟨Reg.RTC_DRIFT, 0, 32⟩
def RTC_SET_LO_VALUE : Fld := ⟨Reg.RTC_SET_LO, 0, 15⟩
def RTC_SET_HI_VALUE : Fld := ⟨Reg.RTC_SET_HI, 0, 32⟩
def RTC_CMD_SET : Fld := ⟨Reg.RTC_CMD, 0, 1⟩

/-! 05_engines_and_lamvile_code.md -/
def ENG_STATE_RESIDENT (n : Nat) : Fld := ⟨Reg.ENG_STATE n, 16, 5⟩
def ENG_STATE_CUR_CTX (n : Nat) : Fld := ⟨Reg.ENG_STATE n, 8, 8⟩
def ENG_STATE_STATE (n : Nat) : Fld := ⟨Reg.ENG_STATE n, 0, 3⟩
def ENG_RES_VALID_HI (n k : Nat) : Fld := ⟨Reg.ENG_RES n k, 31, 1⟩
def ENG_RES_CTX_HI (n k : Nat) : Fld := ⟨Reg.ENG_RES n k, 16, 8⟩
def ENG_RES_VALID_LO (n k : Nat) : Fld := ⟨Reg.ENG_RES n k, 15, 1⟩
def ENG_RES_CTX_LO (n k : Nat) : Fld := ⟨Reg.ENG_RES n k, 0, 8⟩
def ENG_INSN_LO_COUNT (n : Nat) : Fld := ⟨Reg.ENG_INSN_LO n, 0, 32⟩
def ENG_INSN_HI_COUNT (n : Nat) : Fld := ⟨Reg.ENG_INSN_HI n, 0, 32⟩
def ENG_BUSY_LO_CLOCKS (n : Nat) : Fld := ⟨Reg.ENG_BUSY_LO n, 0, 32⟩
def ENG_BUSY_HI_CLOCKS (n : Nat) : Fld := ⟨Reg.ENG_BUSY_HI n, 0, 32⟩
def ENG_SWITCH_CNT_COUNT (n : Nat) : Fld := ⟨Reg.ENG_SWITCH_CNT n, 0, 32⟩
def ENG_WAIT_MAX_WAIT (n : Nat) : Fld := ⟨Reg.ENG_WAIT_MAX n, 0, 32⟩
def ENG_SOFT_CNT_COUNT (n : Nat) : Fld := ⟨Reg.ENG_SOFT_CNT n, 0, 32⟩
def ENG_EXC_INFO_CODE (n : Nat) : Fld := ⟨Reg.ENG_EXC_INFO n, 24, 8⟩
def ENG_EXC_INFO_VALID (n : Nat) : Fld := ⟨Reg.ENG_EXC_INFO n, 16, 1⟩
def ENG_EXC_INFO_CTX (n : Nat) : Fld := ⟨Reg.ENG_EXC_INFO n, 0, 8⟩
def ENG_EXC_PC_TRAP_VAL (n : Nat) : Fld := ⟨Reg.ENG_EXC_PC n, 14, 18⟩
def ENG_EXC_PC_PC (n : Nat) : Fld := ⟨Reg.ENG_EXC_PC n, 0, 14⟩
def ENG_EXC_TIME_LO_TIME (n : Nat) : Fld := ⟨Reg.ENG_EXC_TIME_LO n, 0, 32⟩
def ENG_EXC_TIME_HI_TIME (n : Nat) : Fld := ⟨Reg.ENG_EXC_TIME_HI n, 0, 32⟩
def ENG_EXC_CNT_COUNT (n : Nat) : Fld := ⟨Reg.ENG_EXC_CNT n, 0, 32⟩
def ENG_MEM_CNT_COUNT (n : Nat) : Fld := ⟨Reg.ENG_MEM_CNT n, 0, 32⟩
def ENG_TEST_FAIL_CODE (n : Nat) : Fld := ⟨Reg.ENG_TEST n, 16, 16⟩
def ENG_TEST_RESULT (n : Nat) : Fld := ⟨Reg.ENG_TEST n, 8, 2⟩
def ENG_TEST_START (n : Nat) : Fld := ⟨Reg.ENG_TEST n, 0, 1⟩

/-! 06_scheduling_and_energy_budget.md -/
def CTX_CFG_VALID (c : Nat) : Fld := ⟨Reg.CTX_CFG c, 31, 1⟩
def CTX_CFG_LINE (c : Nat) : Fld := ⟨Reg.CTX_CFG c, 16, 8⟩
def CTX_CFG_BUDGET (c : Nat) : Fld := ⟨Reg.CTX_CFG c, 12, 4⟩
def CTX_CFG_SKIP_LIMIT (c : Nat) : Fld := ⟨Reg.CTX_CFG c, 8, 4⟩
def CTX_CFG_POLICY (c : Nat) : Fld := ⟨Reg.CTX_CFG c, 6, 1⟩
def CTX_CFG_STRETCH (c : Nat) : Fld := ⟨Reg.CTX_CFG c, 5, 1⟩
def CTX_CFG_TRIG (c : Nat) : Fld := ⟨Reg.CTX_CFG c, 2, 3⟩
def CTX_CFG_CLASS (c : Nat) : Fld := ⟨Reg.CTX_CFG c, 0, 2⟩
def CTX_PERIOD_PERIOD (c : Nat) : Fld := ⟨Reg.CTX_PERIOD c, 0, 32⟩
def CTX_PHASE_PHASE (c : Nat) : Fld := ⟨Reg.CTX_PHASE c, 0, 32⟩
def CTX_AFFINITY_MASK (c : Nat) : Fld := ⟨Reg.CTX_AFFINITY c, 0, 16⟩
def CTX_WCET_WCET (c : Nat) : Fld := ⟨Reg.CTX_WCET c, 0, 32⟩
def CTX_GRANT_ENTRY_HI (c k : Nat) : Fld := ⟨Reg.CTX_GRANT c k, 16, 16⟩
def CTX_GRANT_ENTRY_LO (c k : Nat) : Fld := ⟨Reg.CTX_GRANT c k, 0, 16⟩
def CTX_STATE_CONSEC (c : Nat) : Fld := ⟨Reg.CTX_STATE c, 24, 8⟩
def CTX_STATE_PLACED (c : Nat) : Fld := ⟨Reg.CTX_STATE c, 20, 1⟩
def CTX_STATE_ENGINE (c : Nat) : Fld := ⟨Reg.CTX_STATE c, 16, 4⟩
def CTX_STATE_STOP_WHY (c : Nat) : Fld := ⟨Reg.CTX_STATE c, 8, 4⟩
def CTX_STATE_STATE (c : Nat) : Fld := ⟨Reg.CTX_STATE c, 0, 3⟩
def CTX_CSTAT_CSTAT (c : Nat) : Fld := ⟨Reg.CTX_CSTAT c, 0, 32⟩
def CTX_SKIPS_BUDGET (c : Nat) : Fld := ⟨Reg.CTX_SKIPS c, 16, 16⟩
def CTX_SKIPS_OVERRUN (c : Nat) : Fld := ⟨Reg.CTX_SKIPS c, 0, 16⟩
def CTX_CYCLES_COUNT (c : Nat) : Fld := ⟨Reg.CTX_CYCLES c, 0, 32⟩
def SCH_CMD_CMD : Fld := ⟨Reg.SCH_CMD, 8, 4⟩
def SCH_CMD_CTX : Fld := ⟨Reg.SCH_CMD, 0, 8⟩
def SCH_CMD_RES_CODE : Fld := ⟨Reg.SCH_CMD_RES, 0, 8⟩
def SCH_ENG_AVAIL_THERM_PARK : Fld := ⟨Reg.SCH_ENG_AVAIL, 16, 16⟩
def SCH_ENG_AVAIL_AVAIL : Fld := ⟨Reg.SCH_ENG_AVAIL, 0, 16⟩
def SCH_ENG_FAULT_COUNT : Fld := ⟨Reg.SCH_ENG_FAULT, 16, 5⟩
def SCH_ENG_FAULT_FAULT : Fld := ⟨Reg.SCH_ENG_FAULT, 0, 16⟩
def SCH_OCC_OCC : Fld := ⟨Reg.SCH_OCC, 0, 14⟩
def SCH_OCC_MAX_OCC : Fld := ⟨Reg.SCH_OCC_MAX, 0, 32⟩
def SCH_DECL_A_DECL : Fld := ⟨Reg.SCH_DECL_A, 0, 32⟩
def SCH_DECL_B_DECL : Fld := ⟨Reg.SCH_DECL_B, 0, 32⟩
def SCH_OVR_CNT_COUNT : Fld := ⟨Reg.SCH_OVR_CNT, 0, 32⟩
def SCH_BUDGET_SKIP_CNT_COUNT : Fld := ⟨Reg.SCH_BUDGET_SKIP_CNT, 0, 32⟩
def SCH_LATE_CNT_COUNT : Fld := ⟨Reg.SCH_LATE_CNT, 0, 32⟩
def SCH_LAST_OVR_CONSEC : Fld := ⟨Reg.SCH_LAST_OVR, 16, 16⟩
def SCH_LAST_OVR_CTX : Fld := ⟨Reg.SCH_LAST_OVR, 0, 8⟩
def SCH_MIG_CNT_COUNT : Fld := ⟨Reg.SCH_MIG_CNT, 0, 32⟩
def SCH_STOPPED_STOPPED (k : Nat) : Fld := ⟨Reg.SCH_STOPPED k, 0, 32⟩
def PWR_THERM_TRIPPED : Fld := ⟨Reg.PWR_THERM, 16, 1⟩
def PWR_THERM_RAIL_LEVEL : Fld := ⟨Reg.PWR_THERM, 8, 2⟩
def PWR_THERM_DIE_LEVEL : Fld := ⟨Reg.PWR_THERM, 4, 2⟩
def PWR_THERM_STATE : Fld := ⟨Reg.PWR_THERM, 0, 2⟩
def PWR_DIE_T_TEMP : Fld := ⟨Reg.PWR_DIE_T, 0, 16⟩
def PWR_RAIL_T_TEMP : Fld := ⟨Reg.PWR_RAIL_T, 0, 16⟩
def PWR_DIE_THR_CRITICAL : Fld := ⟨Reg.PWR_DIE_THR, 16, 8⟩
def PWR_DIE_THR_HOT : Fld := ⟨Reg.PWR_DIE_THR, 8, 8⟩
def PWR_DIE_THR_WARM : Fld := ⟨Reg.PWR_DIE_THR, 0, 8⟩
def PWR_RAIL_THR_CRITICAL : Fld := ⟨Reg.PWR_RAIL_THR, 16, 8⟩
def PWR_RAIL_THR_HOT : Fld := ⟨Reg.PWR_RAIL_THR, 8, 8⟩
def PWR_RAIL_THR_WARM : Fld := ⟨Reg.PWR_RAIL_THR, 0, 8⟩
def PWR_CP_STAT_HOLDUP : Fld := ⟨Reg.PWR_CP_STAT, 8, 1⟩
def PWR_CP_STAT_CP2_OV : Fld := ⟨Reg.PWR_CP_STAT, 3, 1⟩
def PWR_CP_STAT_CP1_OV : Fld := ⟨Reg.PWR_CP_STAT, 2, 1⟩
def PWR_CP_STAT_CP2_OK : Fld := ⟨Reg.PWR_CP_STAT, 1, 1⟩
def PWR_CP_STAT_CP1_OK : Fld := ⟨Reg.PWR_CP_STAT, 0, 1⟩
def PWR_CP_V_CP2 : Fld := ⟨Reg.PWR_CP_V, 16, 16⟩
def PWR_CP_V_CP1 : Fld := ⟨Reg.PWR_CP_V, 0, 16⟩
def PWR_CORE_P_POWER : Fld := ⟨Reg.PWR_CORE_P, 0, 16⟩
def PWR_COEF_ENG_COEF : Fld := ⟨Reg.PWR_COEF_ENG, 0, 32⟩
def PWR_COEF_LANE_COEF : Fld := ⟨Reg.PWR_COEF_LANE, 0, 32⟩
def PWR_WIN_CNT_COUNT : Fld := ⟨Reg.PWR_WIN_CNT, 0, 32⟩
def PWR_BUDGET_BUDGET (k : Nat) : Fld := ⟨Reg.PWR_BUDGET k, 0, 16⟩
def PWR_LEDGER_ENERGY (k : Nat) : Fld := ⟨Reg.PWR_LEDGER k, 0, 32⟩
def PWR_ENG_E_ENERGY (k : Nat) : Fld := ⟨Reg.PWR_ENG_E k, 0, 32⟩
def PWR_SOL_E_ENERGY : Fld := ⟨Reg.PWR_SOL_E, 0, 32⟩

/-! 07_forcing_and_online_change.md -/
def FRC_CFG_CLEAR_AT_START : Fld := ⟨Reg.FRC_CFG, 0, 1⟩
def FRC_STAT_CMD_BUSY : Fld := ⟨Reg.FRC_STAT, 31, 1⟩
def FRC_STAT_ORPHANS : Fld := ⟨Reg.FRC_STAT, 16, 10⟩
def FRC_STAT_COUNT : Fld := ⟨Reg.FRC_STAT, 0, 10⟩
def FRC_VID_VID : Fld := ⟨Reg.FRC_VID, 0, 32⟩
def FRC_VAL_LO_VALUE : Fld := ⟨Reg.FRC_VAL_LO, 0, 32⟩
def FRC_VAL_HI_VALUE : Fld := ⟨Reg.FRC_VAL_HI, 0, 32⟩
def FRC_QUAL_TAG : Fld := ⟨Reg.FRC_QUAL, 8, 4⟩
def FRC_QUAL_LEVEL : Fld := ⟨Reg.FRC_QUAL, 0, 2⟩
def FRC_CMD_INDEX : Fld := ⟨Reg.FRC_CMD, 16, 9⟩
def FRC_CMD_CMD : Fld := ⟨Reg.FRC_CMD, 0, 3⟩
def FRC_RES_CODE : Fld := ⟨Reg.FRC_RES, 0, 8⟩
def FRC_ENTRY_VID_VID : Fld := ⟨Reg.FRC_ENTRY_VID, 0, 32⟩
def FRC_ENTRY_LO_VALUE : Fld := ⟨Reg.FRC_ENTRY_LO, 0, 32⟩
def FRC_ENTRY_HI_VALUE : Fld := ⟨Reg.FRC_ENTRY_HI, 0, 32⟩
def FRC_ENTRY_INFO_ORPHAN : Fld := ⟨Reg.FRC_ENTRY_INFO, 17, 1⟩
def FRC_ENTRY_INFO_OUTPUT : Fld := ⟨Reg.FRC_ENTRY_INFO, 16, 1⟩
def FRC_ENTRY_INFO_TAG : Fld := ⟨Reg.FRC_ENTRY_INFO, 8, 4⟩
def FRC_ENTRY_INFO_LEVEL : Fld := ⟨Reg.FRC_ENTRY_INFO, 0, 2⟩
def FRC_ENTRY_TIME_LO_TIME : Fld := ⟨Reg.FRC_ENTRY_TIME_LO, 0, 32⟩
def FRC_ENTRY_TIME_HI_TIME : Fld := ⟨Reg.FRC_ENTRY_TIME_HI, 0, 32⟩
def OLC_CMD_CMD : Fld := ⟨Reg.OLC_CMD, 0, 3⟩
def OLC_STAT_CODE : Fld := ⟨Reg.OLC_STAT, 8, 8⟩
def OLC_STAT_STATE : Fld := ⟨Reg.OLC_STAT, 0, 3⟩
def OLC_PKG_SIZE_BYTES : Fld := ⟨Reg.OLC_PKG_SIZE, 0, 32⟩
def OLC_RCVD_BYTES : Fld := ⟨Reg.OLC_RCVD, 0, 32⟩
def OLC_BASE_VIN_VINTAGE : Fld := ⟨Reg.OLC_BASE_VIN, 0, 32⟩
def OLC_NEW_VIN_VINTAGE : Fld := ⟨Reg.OLC_NEW_VIN, 0, 32⟩
def OLC_ARM_TIME_LO_TIME : Fld := ⟨Reg.OLC_ARM_TIME_LO, 0, 32⟩
def OLC_ARM_TIME_HI_TIME : Fld := ⟨Reg.OLC_ARM_TIME_HI, 0, 32⟩
def OLC_COMMIT_TIME_LO_TIME : Fld := ⟨Reg.OLC_COMMIT_TIME_LO, 0, 32⟩
def OLC_COMMIT_TIME_HI_TIME : Fld := ⟨Reg.OLC_COMMIT_TIME_HI, 0, 32⟩
def OLC_FAIL_VID_VID : Fld := ⟨Reg.OLC_FAIL_VID, 0, 32⟩
def OLC_FAIL_CTX_VALID : Fld := ⟨Reg.OLC_FAIL_CTX, 8, 1⟩
def OLC_FAIL_CTX_CTX : Fld := ⟨Reg.OLC_FAIL_CTX, 0, 8⟩
def OLC_BLOCKER_SHARE : Fld := ⟨Reg.OLC_BLOCKER, 8, 16⟩
def OLC_BLOCKER_CTX : Fld := ⟨Reg.OLC_BLOCKER, 0, 8⟩
def OLC_COMMIT_CNT_COUNT : Fld := ⟨Reg.OLC_COMMIT_CNT, 0, 32⟩
def OLC_SWITCH_TIME_TIME : Fld := ⟨Reg.OLC_SWITCH_TIME, 0, 32⟩

/-! 08_solver_patterns_and_jobs.md -/
def SOL_CFG_CERT_ONLY : Fld := ⟨Reg.SOL_CFG, 8, 1⟩
def SOL_CFG_KRES : Fld := ⟨Reg.SOL_CFG, 0, 8⟩
def SOL_TAU_E : Fld := ⟨Reg.SOL_TAU, 0, 6⟩
def SOL_GUARD_GUARD : Fld := ⟨Reg.SOL_GUARD, 0, 16⟩
def SOL_DL_MAX_DL_MAX : Fld := ⟨Reg.SOL_DL_MAX, 0, 16⟩
def SOL_MAXIT_MAXIT : Fld := ⟨Reg.SOL_MAXIT, 0, 16⟩
def SOL_STAT_WAIT_VALID : Fld := ⟨Reg.SOL_STAT, 24, 1⟩
def SOL_STAT_WAIT_SLOT : Fld := ⟨Reg.SOL_STAT, 20, 4⟩
def SOL_STAT_RUN_VALID : Fld := ⟨Reg.SOL_STAT, 16, 1⟩
def SOL_STAT_RUN_SLOT : Fld := ⟨Reg.SOL_STAT, 12, 4⟩
def SOL_STAT_BUSY : Fld := ⟨Reg.SOL_STAT, 9, 1⟩
def SOL_STAT_FLOAT_READY : Fld := ⟨Reg.SOL_STAT, 8, 1⟩
def SOL_STAT_LANES : Fld := ⟨Reg.SOL_STAT, 0, 6⟩
def SOL_STORE_USED : Fld := ⟨Reg.SOL_STORE, 16, 10⟩
def SOL_STORE_FREE : Fld := ⟨Reg.SOL_STORE, 0, 10⟩
def SOL_LOAD_INFO_TARGET : Fld := ⟨Reg.SOL_LOAD_INFO, 16, 8⟩
def SOL_LOAD_INFO_CODE : Fld := ⟨Reg.SOL_LOAD_INFO, 8, 8⟩
def SOL_LOAD_INFO_REASON : Fld := ⟨Reg.SOL_LOAD_INFO, 0, 8⟩
def SOL_JOB_CNT_COUNT : Fld := ⟨Reg.SOL_JOB_CNT, 0, 32⟩
def SOL_REFUSE_CNT_COUNT : Fld := ⟨Reg.SOL_REFUSE_CNT, 0, 32⟩
def SOL_DISPLACE_CNT_COUNT : Fld := ⟨Reg.SOL_DISPLACE_CNT, 0, 32⟩
def SOL_LAST_SLOT : Fld := ⟨Reg.SOL_LAST, 8, 4⟩
def SOL_LAST_CODE : Fld := ⟨Reg.SOL_LAST, 0, 8⟩
def SOL_LANE_CLK_LO_CLOCKS : Fld := ⟨Reg.SOL_LANE_CLK_LO, 0, 32⟩
def SOL_LANE_CLK_HI_CLOCKS : Fld := ⟨Reg.SOL_LANE_CLK_HI, 0, 32⟩
def SOL_PS_STATE_GRANULES (k : Nat) : Fld := ⟨Reg.SOL_PS_STATE k, 16, 10⟩
def SOL_PS_STATE_WRITER (k : Nat) : Fld := ⟨Reg.SOL_PS_STATE k, 8, 8⟩
def SOL_PS_STATE_TARGET (k : Nat) : Fld := ⟨Reg.SOL_PS_STATE k, 4, 3⟩
def SOL_PS_STATE_STATE (k : Nat) : Fld := ⟨Reg.SOL_PS_STATE k, 0, 3⟩
def SOL_PS_ID_ID (k : Nat) : Fld := ⟨Reg.SOL_PS_ID k, 0, 32⟩
def SOL_PS_DIM_PRECOND (k : Nat) : Fld := ⟨Reg.SOL_PS_DIM k, 18, 2⟩
def SOL_PS_DIM_METHOD (k : Nat) : Fld := ⟨Reg.SOL_PS_DIM k, 16, 2⟩
def SOL_PS_DIM_N_M1 (k : Nat) : Fld := ⟨Reg.SOL_PS_DIM k, 0, 16⟩
def SOL_PS_NNZ_NNZ (k : Nat) : Fld := ⟨Reg.SOL_PS_NNZ k, 0, 32⟩
def SOL_JOB_CTL_CANCEL (j : Nat) : Fld := ⟨Reg.SOL_JOB_CTL j, 31, 1⟩
def SOL_JOB_CTL_CTL (j : Nat) : Fld := ⟨Reg.SOL_JOB_CTL j, 0, 18⟩
def SOL_JOB_STATE_BOUND (j : Nat) : Fld := ⟨Reg.SOL_JOB_STATE j, 16, 1⟩
def SOL_JOB_STATE_OWNER (j : Nat) : Fld := ⟨Reg.SOL_JOB_STATE j, 8, 8⟩
def SOL_JOB_STATE_LAST_KIND (j : Nat) : Fld := ⟨Reg.SOL_JOB_STATE j, 4, 4⟩
def SOL_JOB_STATE_STATE (j : Nat) : Fld := ⟨Reg.SOL_JOB_STATE j, 0, 2⟩
def SOL_JOB_SEQ_SEQ (j : Nat) : Fld := ⟨Reg.SOL_JOB_SEQ j, 0, 32⟩
def SOL_JOB_RESULT_STATUS (j : Nat) : Fld := ⟨Reg.SOL_JOB_RESULT j, 0, 32⟩
def SOL_JOB_ITER_ITER (j : Nat) : Fld := ⟨Reg.SOL_JOB_ITER j, 0, 32⟩
def SOL_JOB_BOUND_LO_BOUND (j : Nat) : Fld := ⟨Reg.SOL_JOB_BOUND_LO j, 0, 32⟩
def SOL_JOB_BOUND_HI_BOUND (j : Nat) : Fld := ⟨Reg.SOL_JOB_BOUND_HI j, 0, 32⟩
def SOL_JOB_END_LO_TIME (j : Nat) : Fld := ⟨Reg.SOL_JOB_END_LO j, 0, 32⟩
def SOL_JOB_END_HI_TIME (j : Nat) : Fld := ⟨Reg.SOL_JOB_END_HI j, 0, 32⟩
def SOL_JOB_RSEQ_SEQ (j : Nat) : Fld := ⟨Reg.SOL_JOB_RSEQ j, 0, 32⟩
def SOL_JOB_WAIT_TIME (j : Nat) : Fld := ⟨Reg.SOL_JOB_WAIT j, 0, 32⟩
def SOL_JOB_RUN_TIME (j : Nat) : Fld := ⟨Reg.SOL_JOB_RUN j, 0, 32⟩
def SOL_JOB_MAP_COUNT (j : Nat) : Fld := ⟨Reg.SOL_JOB_MAP j, 0, 13⟩

/-! 09_solver_numerics_and_deadlines.md -/
def SOL_TEST_FAIL_CODE : Fld := ⟨Reg.SOL_TEST, 16, 16⟩
def SOL_TEST_GROUP_OK : Fld := ⟨Reg.SOL_TEST, 8, 4⟩
def SOL_TEST_DIV_OK : Fld := ⟨Reg.SOL_TEST, 4, 1⟩
def SOL_TEST_RESULT : Fld := ⟨Reg.SOL_TEST, 0, 2⟩
def SOL_OVF_INFO_VALID : Fld := ⟨Reg.SOL_OVF_INFO, 31, 1⟩
def SOL_OVF_INFO_KIND : Fld := ⟨Reg.SOL_OVF_INFO, 30, 1⟩
def SOL_OVF_INFO_JOB : Fld := ⟨Reg.SOL_OVF_INFO, 24, 4⟩
def SOL_OVF_INFO_PSLOT : Fld := ⟨Reg.SOL_OVF_INFO, 16, 3⟩
def SOL_OVF_INFO_ROW : Fld := ⟨Reg.SOL_OVF_INFO, 0, 16⟩
def SOL_FAULT_CNT_RANGE : Fld := ⟨Reg.SOL_FAULT_CNT, 16, 16⟩
def SOL_FAULT_CNT_FALLBACK : Fld := ⟨Reg.SOL_FAULT_CNT, 0, 16⟩
def SOL_PIV_FIRST_ROW (k : Nat) : Fld := ⟨Reg.SOL_PIV k, 16, 16⟩
def SOL_PIV_COUNT (k : Nat) : Fld := ⟨Reg.SOL_PIV k, 0, 16⟩
def SOL_FACT_PENDING (k : Nat) : Fld := ⟨Reg.SOL_FACT k, 31, 1⟩
def SOL_FACT_MODE (k : Nat) : Fld := ⟨Reg.SOL_FACT k, 30, 1⟩
def SOL_FACT_VALID (k : Nat) : Fld := ⟨Reg.SOL_FACT k, 29, 1⟩
def SOL_FACT_STALE (k : Nat) : Fld := ⟨Reg.SOL_FACT k, 28, 1⟩
def SOL_FACT_DONE (k : Nat) : Fld := ⟨Reg.SOL_FACT k, 0, 17⟩

/-! 10_field_channels.md -/
def CH_MODE_SP_USE (n : Nat) : Fld := ⟨Reg.CH_MODE n, 10, 2⟩
def CH_MODE_LCAL_GRANT (n : Nat) : Fld := ⟨Reg.CH_MODE n, 9, 1⟩
def CH_MODE_HART (n : Nat) : Fld := ⟨Reg.CH_MODE n, 8, 1⟩
def CH_MODE_MODE (n : Nat) : Fld := ⟨Reg.CH_MODE n, 0, 4⟩
def CH_AI_CFG_M (n : Nat) : Fld := ⟨Reg.CH_AI_CFG n, 16, 6⟩
def CH_AI_CFG_CTX (n : Nat) : Fld := ⟨Reg.CH_AI_CFG n, 8, 8⟩
def CH_AI_CFG_SYNC (n : Nat) : Fld := ⟨Reg.CH_AI_CFG n, 4, 2⟩
def CH_AI_CFG_RATE (n : Nat) : Fld := ⟨Reg.CH_AI_CFG n, 0, 3⟩
def CH_AO_CFG_COMP_TIME (n : Nat) : Fld := ⟨Reg.CH_AO_CFG n, 16, 16⟩
def CH_AO_CFG_FAIL (n : Nat) : Fld := ⟨Reg.CH_AO_CFG n, 0, 1⟩
def CH_DI_CFG_INVERT (n : Nat) : Fld := ⟨Reg.CH_DI_CFG n, 16, 1⟩
def CH_DI_CFG_TP_SLOT (n : Nat) : Fld := ⟨Reg.CH_DI_CFG n, 8, 6⟩
def CH_DI_CFG_FILT (n : Nat) : Fld := ⟨Reg.CH_DI_CFG n, 0, 3⟩
def CH_DO_CFG_OPEN_DET (n : Nat) : Fld := ⟨Reg.CH_DO_CFG n, 2, 1⟩
def CH_DO_CFG_RETRY (n : Nat) : Fld := ⟨Reg.CH_DO_CFG n, 0, 2⟩
def CH_SUBST_KIND (n : Nat) : Fld := ⟨Reg.CH_SUBST n, 0, 2⟩
def CH_SUBST_VAL_VALUE (n : Nat) : Fld := ⟨Reg.CH_SUBST_VAL n, 0, 32⟩
def CH_STAT_CAUSE (n : Nat) : Fld := ⟨Reg.CH_STAT n, 22, 5⟩
def CH_STAT_LEVEL (n : Nat) : Fld := ⟨Reg.CH_STAT n, 20, 2⟩
def CH_STAT_TRIPPED (n : Nat) : Fld := ⟨Reg.CH_STAT n, 19, 1⟩
def CH_STAT_HIZ (n : Nat) : Fld := ⟨Reg.CH_STAT n, 18, 1⟩
def CH_STAT_FIELD (n : Nat) : Fld := ⟨Reg.CH_STAT n, 17, 1⟩
def CH_STAT_TP_FAULT (n : Nat) : Fld := ⟨Reg.CH_STAT n, 16, 1⟩
def CH_STAT_TP_ANOM (n : Nat) : Fld := ⟨Reg.CH_STAT n, 15, 1⟩
def CH_STAT_OPEN (n : Nat) : Fld := ⟨Reg.CH_STAT n, 14, 1⟩
def CH_STAT_SHORT (n : Nat) : Fld := ⟨Reg.CH_STAT n, 13, 1⟩
def CH_STAT_OVERLOAD (n : Nat) : Fld := ⟨Reg.CH_STAT n, 12, 1⟩
def CH_STAT_RATE_HOLD (n : Nat) : Fld := ⟨Reg.CH_STAT n, 11, 1⟩
def CH_STAT_THERMAL (n : Nat) : Fld := ⟨Reg.CH_STAT n, 10, 1⟩
def CH_STAT_COMPLIANCE (n : Nat) : Fld := ⟨Reg.CH_STAT n, 9, 1⟩
def CH_STAT_CLAMP (n : Nat) : Fld := ⟨Reg.CH_STAT n, 8, 1⟩
def CH_STAT_CHANNEL_FAULT (n : Nat) : Fld := ⟨Reg.CH_STAT n, 7, 1⟩
def CH_STAT_STATE (n : Nat) : Fld := ⟨Reg.CH_STAT n, 0, 4⟩
def CH_VALUE_VALUE (n : Nat) : Fld := ⟨Reg.CH_VALUE n, 0, 32⟩
def CH_RAW_CODE (n : Nat) : Fld := ⟨Reg.CH_RAW n, 0, 32⟩
def CH_TIME_LO_TIME (n : Nat) : Fld := ⟨Reg.CH_TIME_LO n, 0, 32⟩
def CH_TIME_HI_TIME (n : Nat) : Fld := ⟨Reg.CH_TIME_HI n, 0, 32⟩
def CH_OUT_TARGET (n : Nat) : Fld := ⟨Reg.CH_OUT n, 0, 32⟩
def CH_SUPPLY_TJ (n : Nat) : Fld := ⟨Reg.CH_SUPPLY n, 16, 16⟩
def CH_SUPPLY_SUPPLY (n : Nat) : Fld := ⟨Reg.CH_SUPPLY n, 0, 16⟩
def CH_FAULT_MERGE (n : Nat) : Fld := ⟨Reg.CH_FAULT n, 24, 8⟩
def CH_FAULT_COMP_CNT (n : Nat) : Fld := ⟨Reg.CH_FAULT n, 16, 8⟩
def CH_FAULT_OVL_CNT (n : Nat) : Fld := ⟨Reg.CH_FAULT n, 8, 8⟩
def CH_FAULT_CAUSE (n : Nat) : Fld := ⟨Reg.CH_FAULT n, 0, 5⟩
def CH_CMD_CMD (n : Nat) : Fld := ⟨Reg.CH_CMD n, 0, 3⟩
def CH_RES_CODE (n : Nat) : Fld := ⟨Reg.CH_RES n, 0, 8⟩
def CH_CAL_REF_REF (n : Nat) : Fld := ⟨Reg.CH_CAL_REF n, 0, 32⟩
def CH_TRIM_ZERO_TRIM (n : Nat) : Fld := ⟨Reg.CH_TRIM_ZERO n, 0, 32⟩
def CH_TRIM_GAIN_TRIM (n : Nat) : Fld := ⟨Reg.CH_TRIM_GAIN n, 0, 32⟩
def CH_CAL_DATE_SEC (n : Nat) : Fld := ⟨Reg.CH_CAL_DATE n, 0, 32⟩
def CH_CAL_INFO_SOURCE (n : Nat) : Fld := ⟨Reg.CH_CAL_INFO n, 30, 2⟩
def CH_CAL_INFO_COUNT (n : Nat) : Fld := ⟨Reg.CH_CAL_INFO n, 22, 8⟩
def CH_CAL_INFO_HOURS (n : Nat) : Fld := ⟨Reg.CH_CAL_INFO n, 0, 22⟩
def CH_TP_STAT_ANOM_CNT (n : Nat) : Fld := ⟨Reg.CH_TP_STAT n, 24, 8⟩
def CH_TP_STAT_FROM_VALID (n : Nat) : Fld := ⟨Reg.CH_TP_STAT n, 15, 1⟩
def CH_TP_STAT_FROM (n : Nat) : Fld := ⟨Reg.CH_TP_STAT n, 8, 6⟩
def CH_TP_STAT_CHIPS (n : Nat) : Fld := ⟨Reg.CH_TP_STAT n, 0, 8⟩
def CHG_FP_STAT_TRIPPED : Fld := ⟨Reg.CHG_FP_STAT, 4, 1⟩
def CHG_FP_STAT_UNDERVOLT : Fld := ⟨Reg.CHG_FP_STAT, 3, 1⟩
def CHG_FP_STAT_BUS_OK : Fld := ⟨Reg.CHG_FP_STAT, 2, 1⟩
def CHG_FP_STAT_FP2_OK : Fld := ⟨Reg.CHG_FP_STAT, 1, 1⟩
def CHG_FP_STAT_FP1_OK : Fld := ⟨Reg.CHG_FP_STAT, 0, 1⟩
def CHG_FP_V_FP2 : Fld := ⟨Reg.CHG_FP_V, 16, 16⟩
def CHG_FP_V_FP1 : Fld := ⟨Reg.CHG_FP_V, 0, 16⟩
def CHG_FP_LOAD_DISS : Fld := ⟨Reg.CHG_FP_LOAD, 16, 16⟩
def CHG_FP_LOAD_CURRENT : Fld := ⟨Reg.CHG_FP_LOAD, 0, 16⟩
def CHG_CMD_RESTORE : Fld := ⟨Reg.CHG_CMD, 0, 1⟩
def CHG_TP_FRAMES : Fld := ⟨Reg.CHG_TP, 8, 24⟩
def CHG_TP_SLOT : Fld := ⟨Reg.CHG_TP, 0, 6⟩
def CHG_CFG_REF_VALID : Fld := ⟨Reg.CHG_CFG_REF, 16, 1⟩
def CHG_CFG_REF_CODE : Fld := ⟨Reg.CHG_CFG_REF, 8, 8⟩
def CHG_CFG_REF_CH : Fld := ⟨Reg.CHG_CFG_REF, 0, 6⟩
def CHG_FAULT_LO_MAP : Fld := ⟨Reg.CHG_FAULT_LO, 0, 32⟩
def CHG_FAULT_HI_MAP : Fld := ⟨Reg.CHG_FAULT_HI, 0, 32⟩
def CHG_COMP_LO_MAP : Fld := ⟨Reg.CHG_COMP_LO, 0, 32⟩
def CHG_COMP_HI_MAP : Fld := ⟨Reg.CHG_COMP_HI, 0, 32⟩
def CHG_TPF_LO_MAP : Fld := ⟨Reg.CHG_TPF_LO, 0, 32⟩
def CHG_TPF_HI_MAP : Fld := ⟨Reg.CHG_TPF_HI, 0, 32⟩
def CHG_ISL_LO_MAP : Fld := ⟨Reg.CHG_ISL_LO, 0, 32⟩
def CHG_ISL_HI_MAP : Fld := ⟨Reg.CHG_ISL_HI, 0, 32⟩

/-! 11_hart.md -/
def HRT_POOL_HEALTHY : Fld := ⟨Reg.HRT_POOL, 24, 5⟩
def HRT_POOL_BUSY : Fld := ⟨Reg.HRT_POOL, 16, 5⟩
def HRT_POOL_HELD : Fld := ⟨Reg.HRT_POOL, 8, 5⟩
def HRT_POOL_FREE : Fld := ⟨Reg.HRT_POOL, 0, 5⟩
def HRT_MODEM_MAP_HELD : Fld := ⟨Reg.HRT_MODEM_MAP, 16, 16⟩
def HRT_MODEM_MAP_FAULT : Fld := ⟨Reg.HRT_MODEM_MAP, 0, 16⟩
def HRT_CFG_PREAMBLE : Fld := ⟨Reg.HRT_CFG, 24, 5⟩
def HRT_CFG_RETRIES : Fld := ⟨Reg.HRT_CFG, 16, 4⟩
def HRT_CFG_TIMEOUT : Fld := ⟨Reg.HRT_CFG, 0, 16⟩
def HRT_WAIT_WAIT : Fld := ⟨Reg.HRT_WAIT, 0, 16⟩
def HRT_CFG_RES_CH : Fld := ⟨Reg.HRT_CFG_RES, 8, 6⟩
def HRT_CFG_RES_CODE : Fld := ⟨Reg.HRT_CFG_RES, 0, 8⟩
def HRT_CH_CFG_PARK (k : Nat) : Fld := ⟨Reg.HRT_CH_CFG k, 16, 16⟩
def HRT_CH_CFG_POLL (k : Nat) : Fld := ⟨Reg.HRT_CH_CFG k, 8, 8⟩
def HRT_CH_CFG_IMG_ADDR (k : Nat) : Fld := ⟨Reg.HRT_CH_CFG k, 4, 4⟩
def HRT_CH_CFG_BIND (k : Nat) : Fld := ⟨Reg.HRT_CH_CFG k, 0, 2⟩
def HRT_CH_STAT_BURSTS (k : Nat) : Fld := ⟨Reg.HRT_CH_STAT k, 24, 8⟩
def HRT_CH_STAT_FAILS (k : Nat) : Fld := ⟨Reg.HRT_CH_STAT k, 16, 8⟩
def HRT_CH_STAT_HELD (k : Nat) : Fld := ⟨Reg.HRT_CH_STAT k, 5, 1⟩
def HRT_CH_STAT_BOUND (k : Nat) : Fld := ⟨Reg.HRT_CH_STAT k, 4, 1⟩
def HRT_CH_STAT_MODEM (k : Nat) : Fld := ⟨Reg.HRT_CH_STAT k, 0, 4⟩
def HRT_T_CTL_LEN (t : Nat) : Fld := ⟨Reg.HRT_T_CTL t, 24, 8⟩
def HRT_T_CTL_CMD (t : Nat) : Fld := ⟨Reg.HRT_T_CTL t, 16, 8⟩
def HRT_T_CTL_CH (t : Nat) : Fld := ⟨Reg.HRT_T_CTL t, 8, 6⟩
def HRT_T_CTL_ADDR (t : Nat) : Fld := ⟨Reg.HRT_T_CTL t, 4, 4⟩
def HRT_T_CTL_FRAME (t : Nat) : Fld := ⟨Reg.HRT_T_CTL t, 2, 1⟩
def HRT_T_CTL_CANCEL (t : Nat) : Fld := ⟨Reg.HRT_T_CTL t, 1, 1⟩
def HRT_T_CTL_SUBMIT (t : Nat) : Fld := ⟨Reg.HRT_T_CTL t, 0, 1⟩
def HRT_T_DEVID_ID (t : Nat) : Fld := ⟨Reg.HRT_T_DEVID t, 0, 24⟩
def HRT_T_DEVTYPE_ID (t : Nat) : Fld := ⟨Reg.HRT_T_DEVTYPE t, 0, 16⟩
def HRT_T_STAT_RLEN (t : Nat) : Fld := ⟨Reg.HRT_T_STAT t, 16, 8⟩
def HRT_T_STAT_CODE (t : Nat) : Fld := ⟨Reg.HRT_T_STAT t, 8, 8⟩
def HRT_T_STAT_TRIES (t : Nat) : Fld := ⟨Reg.HRT_T_STAT t, 4, 4⟩
def HRT_T_STAT_REJECT (t : Nat) : Fld := ⟨Reg.HRT_T_STAT t, 3, 1⟩
def HRT_T_STAT_STATE (t : Nat) : Fld := ⟨Reg.HRT_T_STAT t, 0, 2⟩
def HRT_T_RSTAT_MODEM (t : Nat) : Fld := ⟨Reg.HRT_T_RSTAT t, 16, 4⟩
def HRT_T_RSTAT_DEV_STATUS (t : Nat) : Fld := ⟨Reg.HRT_T_RSTAT t, 8, 8⟩
def HRT_T_RSTAT_RESP_CODE (t : Nat) : Fld := ⟨Reg.HRT_T_RSTAT t, 0, 8⟩
def HRT_T_END_LO_TIME (t : Nat) : Fld := ⟨Reg.HRT_T_END_LO t, 0, 32⟩
def HRT_T_END_HI_TIME (t : Nat) : Fld := ⟨Reg.HRT_T_END_HI t, 0, 32⟩
def HRT_T_DATA_BYTES (t k : Nat) : Fld := ⟨Reg.HRT_T_DATA t k, 0, 32⟩

/-! 12_safety_island.md -/
def SAF_STATE_CAUSE : Fld := ⟨Reg.SAF_STATE, 24, 8⟩
def SAF_STATE_CH_VALID : Fld := ⟨Reg.SAF_STATE, 23, 1⟩
def SAF_STATE_CAUSE_CH : Fld := ⟨Reg.SAF_STATE, 16, 6⟩
def SAF_STATE_CFG_VALID : Fld := ⟨Reg.SAF_STATE, 9, 1⟩
def SAF_STATE_START_MODE : Fld := ⟨Reg.SAF_STATE, 8, 1⟩
def SAF_STATE_SY_OK : Fld := ⟨Reg.SAF_STATE, 5, 1⟩
def SAF_STATE_SX_OK : Fld := ⟨Reg.SAF_STATE, 4, 1⟩
def SAF_STATE_STATE : Fld := ⟨Reg.SAF_STATE, 0, 2⟩
def SAF_CAUSES_MAP : Fld := ⟨Reg.SAF_CAUSES, 1, 14⟩
def SAF_CLEARED_MAP : Fld := ⟨Reg.SAF_CLEARED, 1, 14⟩
def SAF_LOCK_TIME_LO_TIME : Fld := ⟨Reg.SAF_LOCK_TIME_LO, 0, 32⟩
def SAF_LOCK_TIME_HI_TIME : Fld := ⟨Reg.SAF_LOCK_TIME_HI, 0, 32⟩
def SAF_LOCK_CNT_COUNT : Fld := ⟨Reg.SAF_LOCK_CNT, 0, 32⟩
def SAF_CYCLE_CYC_MAX : Fld := ⟨Reg.SAF_CYCLE, 16, 16⟩
def SAF_CYCLE_TS : Fld := ⟨Reg.SAF_CYCLE, 0, 16⟩
def SAF_CYC_CNT_COUNT : Fld := ⟨Reg.SAF_CYC_CNT, 0, 32⟩
def SAF_CFG_CRC_CRC : Fld := ⟨Reg.SAF_CFG_CRC, 0, 32⟩
def SAF_NONCE_NONCE : Fld := ⟨Reg.SAF_NONCE, 0, 32⟩
def SAF_RESET_RES_SOURCE : Fld := ⟨Reg.SAF_RESET_RES, 8, 2⟩
def SAF_RESET_RES_CODE : Fld := ⟨Reg.SAF_RESET_RES, 0, 8⟩
def SAF_CLOCK_OSC_OK : Fld := ⟨Reg.SAF_CLOCK, 1, 1⟩
def SAF_CLOCK_REF_FAULT : Fld := ⟨Reg.SAF_CLOCK, 0, 1⟩
def SAF_TEST_FAIL_CODE : Fld := ⟨Reg.SAF_TEST, 16, 16⟩
def SAF_TEST_RESULT : Fld := ⟨Reg.SAF_TEST, 8, 2⟩
def SAF_TEST_AGE_AGE : Fld := ⟨Reg.SAF_TEST_AGE, 0, 32⟩
def SAF_OWN_LO_MAP : Fld := ⟨Reg.SAF_OWN_LO, 0, 32⟩
def SAF_OWN_HI_MAP : Fld := ⟨Reg.SAF_OWN_HI, 0, 32⟩
def SAF_IN_LO_MAP : Fld := ⟨Reg.SAF_IN_LO, 0, 32⟩
def SAF_IN_HI_MAP : Fld := ⟨Reg.SAF_IN_HI, 0, 32⟩
def SAF_OUT_LO_MAP : Fld := ⟨Reg.SAF_OUT_LO, 0, 32⟩
def SAF_OUT_HI_MAP : Fld := ⟨Reg.SAF_OUT_HI, 0, 32⟩
def SAF_HOLD_LO_MAP : Fld := ⟨Reg.SAF_HOLD_LO, 0, 32⟩
def SAF_HOLD_HI_MAP : Fld := ⟨Reg.SAF_HOLD_HI, 0, 32⟩
def SAF_CHFLT_LO_MAP : Fld := ⟨Reg.SAF_CHFLT_LO, 0, 32⟩
def SAF_CHFLT_HI_MAP : Fld := ⟨Reg.SAF_CHFLT_HI, 0, 32⟩
def SAF_STATUS_WORD (k : Nat) : Fld := ⟨Reg.SAF_STATUS k, 0, 32⟩

/-! 13_station_link.md -/
def LNK_CFG_STATIONS : Fld := ⟨Reg.LNK_CFG, 16, 8⟩
def LNK_CFG_SPEED_B : Fld := ⟨Reg.LNK_CFG, 9, 1⟩
def LNK_CFG_SPEED_A : Fld := ⟨Reg.LNK_CFG, 8, 1⟩
def LNK_CFG_TOPO : Fld := ⟨Reg.LNK_CFG, 0, 2⟩
def LNK_STAT_BREAK_AFTER : Fld := ⟨Reg.LNK_STAT, 24, 8⟩
def LNK_STAT_DOWN : Fld := ⟨Reg.LNK_STAT, 16, 8⟩
def LNK_STAT_UP : Fld := ⟨Reg.LNK_STAT, 8, 8⟩
def LNK_STAT_RING : Fld := ⟨Reg.LNK_STAT, 4, 2⟩
def LNK_STAT_LINK_B : Fld := ⟨Reg.LNK_STAT, 1, 1⟩
def LNK_STAT_LINK_A : Fld := ⟨Reg.LNK_STAT, 0, 1⟩
def LNK_CMD_ADDR : Fld := ⟨Reg.LNK_CMD, 8, 8⟩
def LNK_CMD_CMD : Fld := ⟨Reg.LNK_CMD, 0, 2⟩
def LNK_CMD_RES_CODE : Fld := ⟨Reg.LNK_CMD_RES, 0, 8⟩
def LNK_HELD_CNT_COUNT : Fld := ⟨Reg.LNK_HELD_CNT, 0, 32⟩
def LNK_DOWN_CNT_COUNT : Fld := ⟨Reg.LNK_DOWN_CNT, 0, 32⟩
def LNK_FCS_A_COUNT : Fld := ⟨Reg.LNK_FCS_A, 0, 32⟩
def LNK_FCS_B_COUNT : Fld := ⟨Reg.LNK_FCS_B, 0, 32⟩
def LNK_STRAY_CNT_COUNT : Fld := ⟨Reg.LNK_STRAY_CNT, 0, 32⟩
def LNK_RING_CNT_COUNT : Fld := ⟨Reg.LNK_RING_CNT, 0, 32⟩
def LNK_LATE_CNT_COUNT : Fld := ⟨Reg.LNK_LATE_CNT, 0, 32⟩
def LNK_SEG_CFG_VALID (k : Nat) : Fld := ⟨Reg.LNK_SEG_CFG k, 8, 1⟩
def LNK_SEG_CFG_CTX (k : Nat) : Fld := ⟨Reg.LNK_SEG_CFG k, 0, 8⟩
def LNK_SEG_APPLY_NS (k : Nat) : Fld := ⟨Reg.LNK_SEG_APPLY k, 0, 32⟩
def LNK_SEG_TOUT_NS (k : Nat) : Fld := ⟨Reg.LNK_SEG_TOUT k, 0, 32⟩
def LNK_SEG_TIN_NS (k : Nat) : Fld := ⟨Reg.LNK_SEG_TIN k, 0, 32⟩
def LNK_SEG_D_NS (k : Nat) : Fld := ⟨Reg.LNK_SEG_D k, 0, 32⟩
def LNK_SEG_MIN_NS (k : Nat) : Fld := ⟨Reg.LNK_SEG_MIN k, 0, 32⟩
def LNK_SEG_SEQ_SEQ (k : Nat) : Fld := ⟨Reg.LNK_SEG_SEQ k, 0, 32⟩
def LNK_ST_STATE_FLAGS (k : Nat) : Fld := ⟨Reg.LNK_ST_STATE k, 24, 8⟩
def LNK_ST_STATE_MISSED (k : Nat) : Fld := ⟨Reg.LNK_ST_STATE k, 20, 4⟩
def LNK_ST_STATE_CODE (k : Nat) : Fld := ⟨Reg.LNK_ST_STATE k, 16, 4⟩
def LNK_ST_STATE_VER (k : Nat) : Fld := ⟨Reg.LNK_ST_STATE k, 12, 4⟩
def LNK_ST_STATE_PATH_B (k : Nat) : Fld := ⟨Reg.LNK_ST_STATE k, 9, 1⟩
def LNK_ST_STATE_PATH_A (k : Nat) : Fld := ⟨Reg.LNK_ST_STATE k, 8, 1⟩
def LNK_ST_STATE_STATE (k : Nat) : Fld := ⟨Reg.LNK_ST_STATE k, 0, 3⟩
def LNK_ST_DELAY_DELAY_B (k : Nat) : Fld := ⟨Reg.LNK_ST_DELAY k, 16, 16⟩
def LNK_ST_DELAY_DELAY_A (k : Nat) : Fld := ⟨Reg.LNK_ST_DELAY k, 0, 16⟩
def LNK_ST_CNT_DOWN (k : Nat) : Fld := ⟨Reg.LNK_ST_CNT k, 16, 16⟩
def LNK_ST_CNT_REFUSED (k : Nat) : Fld := ⟨Reg.LNK_ST_CNT k, 0, 16⟩

/-! 14_plant_network.md -/
def NET_CFG_SSP_PORT : Fld := ⟨Reg.NET_CFG, 16, 16⟩
def NET_CFG_PING_EN : Fld := ⟨Reg.NET_CFG, 0, 1⟩
def NET_IP_ADDR_ADDR : Fld := ⟨Reg.NET_IP_ADDR, 0, 32⟩
def NET_IP_MASK_ADDR : Fld := ⟨Reg.NET_IP_MASK, 0, 32⟩
def NET_IP_GW_ADDR : Fld := ⟨Reg.NET_IP_GW, 0, 32⟩
def NET_MAC_LO_MAC : Fld := ⟨Reg.NET_MAC_LO, 0, 32⟩
def NET_MAC_HI_MAC : Fld := ⟨Reg.NET_MAC_HI, 0, 32⟩
def NET_SESS_MAP_OPEN : Fld := ⟨Reg.NET_SESS_MAP, 0, 16⟩
def NET_DROP_CNT_COUNT : Fld := ⟨Reg.NET_DROP_CNT, 0, 32⟩
def NET_REFUSE_CNT_COUNT : Fld := ⟨Reg.NET_REFUSE_CNT, 0, 32⟩
def NET_FRAG_CNT_COUNT : Fld := ⟨Reg.NET_FRAG_CNT, 0, 32⟩
def NET_SESS_INFO_VER (k : Nat) : Fld := ⟨Reg.NET_SESS_INFO k, 24, 4⟩
def NET_SESS_INFO_ROLE (k : Nat) : Fld := ⟨Reg.NET_SESS_INFO k, 16, 2⟩
def NET_SESS_INFO_SESSION (k : Nat) : Fld := ⟨Reg.NET_SESS_INFO k, 0, 16⟩
def NET_SESS_PEER_ADDR (k : Nat) : Fld := ⟨Reg.NET_SESS_PEER k, 0, 32⟩
def PRP_CFG_FORGET : Fld := ⟨Reg.PRP_CFG, 16, 8⟩
def PRP_CFG_SUP_INTV : Fld := ⟨Reg.PRP_CFG, 0, 16⟩
def PRP_STAT_NODES : Fld := ⟨Reg.PRP_STAT, 16, 10⟩
def PRP_STAT_LINK_B : Fld := ⟨Reg.PRP_STAT, 1, 1⟩
def PRP_STAT_LINK_A : Fld := ⟨Reg.PRP_STAT, 0, 1⟩
def PRP_RX_A_COUNT : Fld := ⟨Reg.PRP_RX_A, 0, 32⟩
def PRP_RX_B_COUNT : Fld := ⟨Reg.PRP_RX_B, 0, 32⟩
def PRP_DUP_CNT_COUNT : Fld := ⟨Reg.PRP_DUP_CNT, 0, 32⟩
def PRP_WRONG_A_COUNT : Fld := ⟨Reg.PRP_WRONG_A, 0, 32⟩
def PRP_WRONG_B_COUNT : Fld := ⟨Reg.PRP_WRONG_B, 0, 32⟩
def PRP_MISS_A_COUNT : Fld := ⟨Reg.PRP_MISS_A, 0, 32⟩
def PRP_MISS_B_COUNT : Fld := ⟨Reg.PRP_MISS_B, 0, 32⟩
def PTP_CFG_DOMAIN : Fld := ⟨Reg.PTP_CFG, 24, 8⟩
def PTP_CFG_ANN_TO : Fld := ⟨Reg.PTP_CFG, 20, 4⟩
def PTP_CFG_SLAVE_ONLY : Fld := ⟨Reg.PTP_CFG, 17, 1⟩
def PTP_CFG_TRANSPORT : Fld := ⟨Reg.PTP_CFG, 8, 2⟩
def PTP_CFG_DELAY : Fld := ⟨Reg.PTP_CFG, 4, 1⟩
def PTP_CFG_EN : Fld := ⟨Reg.PTP_CFG, 0, 1⟩
def PTP_INTV_LOG_ANN : Fld := ⟨Reg.PTP_INTV, 24, 8⟩
def PTP_INTV_LOG_SYNC : Fld := ⟨Reg.PTP_INTV, 16, 8⟩
def PTP_INTV_LOG_DREQ : Fld := ⟨Reg.PTP_INTV, 8, 8⟩
def PTP_INTV_LOG_PDREQ : Fld := ⟨Reg.PTP_INTV, 0, 8⟩
def PTP_PRIO_CLASS_LOCKED : Fld := ⟨Reg.PTP_PRIO, 24, 8⟩
def PTP_PRIO_CLASS_FREE : Fld := ⟨Reg.PTP_PRIO, 16, 8⟩
def PTP_PRIO_PRIORITY1 : Fld := ⟨Reg.PTP_PRIO, 8, 8⟩
def PTP_PRIO_PRIORITY2 : Fld := ⟨Reg.PTP_PRIO, 0, 8⟩
def PTP_STAT_GM_CLASS : Fld := ⟨Reg.PTP_STAT, 16, 8⟩
def PTP_STAT_SOURCE_OK : Fld := ⟨Reg.PTP_STAT, 9, 1⟩
def PTP_STAT_ACTIVE_B : Fld := ⟨Reg.PTP_STAT, 8, 1⟩
def PTP_STAT_STATE_B : Fld := ⟨Reg.PTP_STAT, 4, 4⟩
def PTP_STAT_STATE_A : Fld := ⟨Reg.PTP_STAT, 0, 4⟩
def PTP_GM_LO_ID : Fld := ⟨Reg.PTP_GM_LO, 0, 32⟩
def PTP_GM_HI_ID : Fld := ⟨Reg.PTP_GM_HI, 0, 32⟩
def PTP_MPD_DELAY : Fld := ⟨Reg.PTP_MPD, 0, 32⟩
def PTP_OFS_A_OFFSET : Fld := ⟨Reg.PTP_OFS_A, 0, 32⟩
def PTP_OFS_B_OFFSET : Fld := ⟨Reg.PTP_OFS_B, 0, 32⟩
def PTP_UTC_VALID : Fld := ⟨Reg.PTP_UTC, 16, 1⟩
def PTP_UTC_OFFSET : Fld := ⟨Reg.PTP_UTC, 0, 16⟩
def PTP_SYNC_CNT_COUNT : Fld := ⟨Reg.PTP_SYNC_CNT, 0, 32⟩
def PTP_ANN_TO_CNT_COUNT : Fld := ⟨Reg.PTP_ANN_TO_CNT, 0, 32⟩

/-! 15_can.md -/
def CAN_MODE_AUX (p : Nat) : Fld := ⟨Reg.CAN_MODE p, 8, 1⟩
def CAN_MODE_TERM (p : Nat) : Fld := ⟨Reg.CAN_MODE p, 5, 1⟩
def CAN_MODE_FAULT_MODE (p : Nat) : Fld := ⟨Reg.CAN_MODE p, 4, 1⟩
def CAN_MODE_PEX (p : Nat) : Fld := ⟨Reg.CAN_MODE p, 3, 1⟩
def CAN_MODE_FD_EN (p : Nat) : Fld := ⟨Reg.CAN_MODE p, 2, 1⟩
def CAN_MODE_MODE (p : Nat) : Fld := ⟨Reg.CAN_MODE p, 0, 2⟩
def CAN_NBT_NBRP (p : Nat) : Fld := ⟨Reg.CAN_NBT p, 27, 5⟩
def CAN_NBT_NPROP (p : Nat) : Fld := ⟨Reg.CAN_NBT p, 21, 6⟩
def CAN_NBT_NPH1 (p : Nat) : Fld := ⟨Reg.CAN_NBT p, 16, 5⟩
def CAN_NBT_NPH2 (p : Nat) : Fld := ⟨Reg.CAN_NBT p, 11, 5⟩
def CAN_NBT_NSJW (p : Nat) : Fld := ⟨Reg.CAN_NBT p, 6, 5⟩
def CAN_DBT_DBRP (p : Nat) : Fld := ⟨Reg.CAN_DBT p, 29, 3⟩
def CAN_DBT_DPROP (p : Nat) : Fld := ⟨Reg.CAN_DBT p, 24, 5⟩
def CAN_DBT_DPH1 (p : Nat) : Fld := ⟨Reg.CAN_DBT p, 20, 4⟩
def CAN_DBT_DPH2 (p : Nat) : Fld := ⟨Reg.CAN_DBT p, 16, 4⟩
def CAN_DBT_DSJW (p : Nat) : Fld := ⟨Reg.CAN_DBT p, 12, 4⟩
def CAN_TDC_EN (p : Nat) : Fld := ⟨Reg.CAN_TDC p, 31, 1⟩
def CAN_TDC_SSP_OFS (p : Nat) : Fld := ⟨Reg.CAN_TDC p, 16, 8⟩
def CAN_TDC_MEAS (p : Nat) : Fld := ⟨Reg.CAN_TDC p, 0, 8⟩
def CAN_WARN_REC_WARN (p : Nat) : Fld := ⟨Reg.CAN_WARN p, 8, 8⟩
def CAN_WARN_TEC_WARN (p : Nat) : Fld := ⟨Reg.CAN_WARN p, 0, 8⟩
def CAN_ERR_LAST_ERR (p : Nat) : Fld := ⟨Reg.CAN_ERR p, 24, 4⟩
def CAN_ERR_REC (p : Nat) : Fld := ⟨Reg.CAN_ERR p, 16, 8⟩
def CAN_ERR_TEC (p : Nat) : Fld := ⟨Reg.CAN_ERR p, 8, 8⟩
def CAN_ERR_WARN (p : Nat) : Fld := ⟨Reg.CAN_ERR p, 3, 1⟩
def CAN_ERR_STATE (p : Nat) : Fld := ⟨Reg.CAN_ERR p, 0, 3⟩
def CAN_CMD_RECOVER (p : Nat) : Fld := ⟨Reg.CAN_CMD p, 0, 1⟩
def CAN_RES_CODE (p : Nat) : Fld := ⟨Reg.CAN_RES p, 0, 8⟩
def CAN_RX_NUM_NUM (p : Nat) : Fld := ⟨Reg.CAN_RX_NUM p, 0, 32⟩
def CAN_RX_BASE_BASE (p : Nat) : Fld := ⟨Reg.CAN_RX_BASE p, 0, 32⟩
def CAN_BUSOFF_CNT_COUNT (p : Nat) : Fld := ⟨Reg.CAN_BUSOFF_CNT p, 0, 32⟩
def CAN_ERRFRM_CNT_COUNT (p : Nat) : Fld := ⟨Reg.CAN_ERRFRM_CNT p, 0, 32⟩
def CAN_PEX_CNT_COUNT (p : Nat) : Fld := ⟨Reg.CAN_PEX_CNT p, 0, 32⟩
def CAN_TX_LATE_CNT_COUNT (p : Nat) : Fld := ⟨Reg.CAN_TX_LATE_CNT p, 0, 32⟩
def CAN_TX_DROP_CNT_COUNT (p : Nat) : Fld := ⟨Reg.CAN_TX_DROP_CNT p, 0, 32⟩
def CAN_TX_STAT_SENT (p k : Nat) : Fld := ⟨Reg.CAN_TX_STAT p k, 16, 16⟩
def CAN_TX_STAT_LATE (p k : Nat) : Fld := ⟨Reg.CAN_TX_STAT p k, 8, 8⟩
def CAN_TX_STAT_DEFINED (p k : Nat) : Fld := ⟨Reg.CAN_TX_STAT p k, 4, 1⟩
def CAN_TX_STAT_PENDING (p k : Nat) : Fld := ⟨Reg.CAN_TX_STAT p k, 3, 1⟩
def CAN_TX_STAT_ATTEMPT (p k : Nat) : Fld := ⟨Reg.CAN_TX_STAT p k, 2, 1⟩
def CAN_TX_STAT_LAST (p k : Nat) : Fld := ⟨Reg.CAN_TX_STAT p k, 0, 2⟩

/-! 16_redundancy.md -/
def RED_CFG_CTX : Fld := ⟨Reg.RED_CFG, 16, 8⟩
def RED_CFG_HDIFF : Fld := ⟨Reg.RED_CFG, 8, 8⟩
def RED_CFG_HB_EN : Fld := ⟨Reg.RED_CFG, 0, 1⟩
def RED_TIMING_PAIR_TO : Fld := ⟨Reg.RED_TIMING, 16, 16⟩
def RED_TIMING_JOIN_WAIT : Fld := ⟨Reg.RED_TIMING, 0, 16⟩
def RED_STAT_PIV : Fld := ⟨Reg.RED_STAT, 20, 4⟩
def RED_STAT_PIV_LIMIT : Fld := ⟨Reg.RED_STAT, 19, 1⟩
def RED_STAT_WIRE_FAULT : Fld := ⟨Reg.RED_STAT, 18, 1⟩
def RED_STAT_HB_OK : Fld := ⟨Reg.RED_STAT, 17, 1⟩
def RED_STAT_PAIR_OK : Fld := ⟨Reg.RED_STAT, 16, 1⟩
def RED_STAT_PARTNER : Fld := ⟨Reg.RED_STAT, 8, 1⟩
def RED_STAT_SYNC : Fld := ⟨Reg.RED_STAT, 4, 3⟩
def RED_STAT_UNIT_A : Fld := ⟨Reg.RED_STAT, 3, 1⟩
def RED_STAT_ROLE : Fld := ⟨Reg.RED_STAT, 0, 2⟩
def RED_CLAIM_CLAIM : Fld := ⟨Reg.RED_CLAIM, 0, 32⟩
def RED_PCLAIM_CLAIM : Fld := ⟨Reg.RED_PCLAIM, 0, 32⟩
def RED_APPLIED_CLAIM : Fld := ⟨Reg.RED_APPLIED, 0, 32⟩
def RED_ROUND_CLAIM : Fld := ⟨Reg.RED_ROUND, 0, 32⟩
def RED_ROUND_INFO_ALONE : Fld := ⟨Reg.RED_ROUND_INFO, 2, 1⟩
def RED_ROUND_INFO_ACK : Fld := ⟨Reg.RED_ROUND_INFO, 1, 1⟩
def RED_ROUND_INFO_WON : Fld := ⟨Reg.RED_ROUND_INFO, 0, 1⟩
def RED_HEALTH_PARTNER : Fld := ⟨Reg.RED_HEALTH, 8, 8⟩
def RED_HEALTH_OWN : Fld := ⟨Reg.RED_HEALTH, 0, 8⟩
def RED_CMD_CMD : Fld := ⟨Reg.RED_CMD, 0, 2⟩
def RED_RES_CODE : Fld := ⟨Reg.RED_RES, 0, 8⟩
def RED_TAKEOVER_CNT_COUNT : Fld := ⟨Reg.RED_TAKEOVER_CNT, 0, 32⟩
def RED_DEMOTE_CNT_COUNT : Fld := ⟨Reg.RED_DEMOTE_CNT, 0, 32⟩
def RED_DIVERGE_CNT_COUNT : Fld := ⟨Reg.RED_DIVERGE_CNT, 0, 32⟩
def RED_WIRE_ERR_CNT_COUNT : Fld := ⟨Reg.RED_WIRE_ERR_CNT, 0, 32⟩
def RED_LAST_TO_LO_TIME : Fld := ⟨Reg.RED_LAST_TO_LO, 0, 32⟩
def RED_LAST_TO_HI_TIME : Fld := ⟨Reg.RED_LAST_TO_HI, 0, 32⟩
def RED_SYNC_PROG_PATTERNS : Fld := ⟨Reg.RED_SYNC_PROG, 8, 4⟩
def RED_SYNC_PROG_CONTEXTS : Fld := ⟨Reg.RED_SYNC_PROG, 0, 8⟩
def PAIR_STAT_TXFLT : Fld := ⟨Reg.PAIR_STAT, 4, 1⟩
def PAIR_STAT_LOS : Fld := ⟨Reg.PAIR_STAT, 3, 1⟩
def PAIR_STAT_ABSENT : Fld := ⟨Reg.PAIR_STAT, 2, 1⟩
def PAIR_STAT_LINK : Fld := ⟨Reg.PAIR_STAT, 0, 1⟩
def PAIR_RATE_MIRROR : Fld := ⟨Reg.PAIR_RATE, 16, 16⟩
def PAIR_RATE_RATE : Fld := ⟨Reg.PAIR_RATE, 0, 16⟩
def PAIR_LAG_MAX_LAG : Fld := ⟨Reg.PAIR_LAG_MAX, 0, 32⟩
def PAIR_DELAY_NS : Fld := ⟨Reg.PAIR_DELAY, 0, 32⟩
def PAIR_TIME_OFS_NS : Fld := ⟨Reg.PAIR_TIME_OFS, 0, 32⟩
def PAIR_ERR_CNT_COUNT : Fld := ⟨Reg.PAIR_ERR_CNT, 0, 32⟩
def PAIR_TO_CNT_COUNT : Fld := ⟨Reg.PAIR_TO_CNT, 0, 32⟩

/-! 17_memory_and_cellar.md -/
def MEM_CFG_THR : Fld := ⟨Reg.MEM_CFG, 0, 16⟩
def MEM_STAT_SECOND : Fld := ⟨Reg.MEM_STAT, 5, 1⟩
def MEM_STAT_MARKED : Fld := ⟨Reg.MEM_STAT, 4, 1⟩
def MEM_STAT_DEVICE : Fld := ⟨Reg.MEM_STAT, 0, 4⟩
def MEM_PATROL_AGE : Fld := ⟨Reg.MEM_PATROL, 0, 32⟩
def MEM_UE_ADDR_ADDR : Fld := ⟨Reg.MEM_UE_ADDR, 0, 32⟩
def MEM_UE_INFO_VALID : Fld := ⟨Reg.MEM_UE_INFO, 31, 1⟩
def MEM_UE_INFO_MEMORY : Fld := ⟨Reg.MEM_UE_INFO, 8, 2⟩
def MEM_UE_INFO_REGION : Fld := ⟨Reg.MEM_UE_INFO, 4, 4⟩
def MEM_UE_INFO_DEVICE : Fld := ⟨Reg.MEM_UE_INFO, 0, 4⟩
def MEM_CE_CNT_COUNT : Fld := ⟨Reg.MEM_CE_CNT, 0, 32⟩
def MEM_UE_CNT_COUNT : Fld := ⟨Reg.MEM_UE_CNT, 0, 32⟩
def MEM_SRAM_CE_CNT_COUNT : Fld := ⟨Reg.MEM_SRAM_CE_CNT, 0, 32⟩
def MEM_SRAM_UE_CNT_COUNT : Fld := ⟨Reg.MEM_SRAM_UE_CNT, 0, 32⟩
def MEM_INNER_CNT_COUNT : Fld := ⟨Reg.MEM_INNER_CNT, 0, 32⟩
def MEM_RETIRED_LINES : Fld := ⟨Reg.MEM_RETIRED, 16, 16⟩
def MEM_RETIRED_GRANULES : Fld := ⟨Reg.MEM_RETIRED, 0, 10⟩
def MEM_DEV_CNT_TOTAL (k : Nat) : Fld := ⟨Reg.MEM_DEV_CNT k, 16, 16⟩
def MEM_DEV_CNT_WINDOW (k : Nat) : Fld := ⟨Reg.MEM_DEV_CNT k, 0, 16⟩
def CEL_STAT_READONLY : Fld := ⟨Reg.CEL_STAT, 2, 1⟩
def CEL_STAT_LIFE_WARN : Fld := ⟨Reg.CEL_STAT, 1, 1⟩
def CEL_STAT_READY : Fld := ⟨Reg.CEL_STAT, 0, 1⟩
def CEL_LIFE_SPARE : Fld := ⟨Reg.CEL_LIFE, 16, 16⟩
def CEL_LIFE_USED : Fld := ⟨Reg.CEL_LIFE, 0, 8⟩
def CEL_WR_MAX_VALUE : Fld := ⟨Reg.CEL_WR_MAX, 0, 32⟩
def CEL_ERR_CNT_VALUE : Fld := ⟨Reg.CEL_ERR_CNT, 0, 32⟩
def CEL_AREA_STATE (k : Nat) : Fld := ⟨Reg.CEL_AREA k, 30, 2⟩
def CEL_AREA_USED (k : Nat) : Fld := ⟨Reg.CEL_AREA k, 0, 16⟩

/-! 18_event_recorder.md -/
def EVR_CFG_CTX_RATE : Fld := ⟨Reg.EVR_CFG, 0, 16⟩
def EVR_STAT_FIRST_FULL : Fld := ⟨Reg.EVR_STAT, 16, 1⟩
def EVR_STAT_QUEUE : Fld := ⟨Reg.EVR_STAT, 0, 8⟩
def EVR_OPTIME_LO_MS : Fld := ⟨Reg.EVR_OPTIME_LO, 0, 32⟩
def EVR_OPTIME_HI_MS : Fld := ⟨Reg.EVR_OPTIME_HI, 0, 32⟩
def EVR_PCC_COUNT : Fld := ⟨Reg.EVR_PCC, 0, 32⟩
def EVR_RING_OLD_LO_POS : Fld := ⟨Reg.EVR_RING_OLD_LO, 0, 32⟩
def EVR_RING_OLD_HI_POS : Fld := ⟨Reg.EVR_RING_OLD_HI, 0, 32⟩
def EVR_RING_NEXT_LO_POS : Fld := ⟨Reg.EVR_RING_NEXT_LO, 0, 32⟩
def EVR_RING_NEXT_HI_POS : Fld := ⟨Reg.EVR_RING_NEXT_HI, 0, 32⟩
def EVR_FIRST_NEXT_LO_POS : Fld := ⟨Reg.EVR_FIRST_NEXT_LO, 0, 32⟩
def EVR_FIRST_NEXT_HI_POS : Fld := ⟨Reg.EVR_FIRST_NEXT_HI, 0, 32⟩
def EVR_REC_CNT_VALUE : Fld := ⟨Reg.EVR_REC_CNT, 0, 32⟩
def EVR_DROP_CNT_VALUE : Fld := ⟨Reg.EVR_DROP_CNT, 0, 32⟩
def EVR_COMMIT_MAX_VALUE : Fld := ⟨Reg.EVR_COMMIT_MAX, 0, 32⟩

/-! 19_start_and_update.md -/
def SYS_STATE_CAUSE : Fld := ⟨Reg.SYS_STATE, 12, 4⟩
def SYS_STATE_PROBATION : Fld := ⟨Reg.SYS_STATE, 9, 1⟩
def SYS_STATE_ON_FALLBACK : Fld := ⟨Reg.SYS_STATE, 8, 1⟩
def SYS_STATE_STEP : Fld := ⟨Reg.SYS_STATE, 4, 4⟩
def SYS_STATE_STATE : Fld := ⟨Reg.SYS_STATE, 0, 3⟩
def SYS_CMD_FORCE : Fld := ⟨Reg.SYS_CMD, 31, 1⟩
def SYS_CMD_CMD : Fld := ⟨Reg.SYS_CMD, 0, 3⟩
def SYS_RES_CODE : Fld := ⟨Reg.SYS_RES, 0, 8⟩
def SYS_START_CFG_TARGET : Fld := ⟨Reg.SYS_START_CFG, 0, 2⟩
def SYS_START_T_FIRST : Fld := ⟨Reg.SYS_START_T, 16, 16⟩
def SYS_START_T_END : Fld := ⟨Reg.SYS_START_T, 0, 16⟩
def SYS_SERIAL_LO_SERIAL : Fld := ⟨Reg.SYS_SERIAL_LO, 0, 32⟩
def SYS_SERIAL_HI_SERIAL : Fld := ⟨Reg.SYS_SERIAL_HI, 0, 32⟩
def UPD_CASK_DOWNGRADE : Fld := ⟨Reg.UPD_CASK, 8, 1⟩
def UPD_CASK_KIND : Fld := ⟨Reg.UPD_CASK, 4, 2⟩
def UPD_CASK_STATE : Fld := ⟨Reg.UPD_CASK, 0, 3⟩
def UPD_CASK_VIN_VALUE : Fld := ⟨Reg.UPD_CASK_VIN, 0, 32⟩
def UPD_CASK_TOTAL_VALUE : Fld := ⟨Reg.UPD_CASK_TOTAL, 0, 32⟩
def UPD_CASK_DONE_VALUE : Fld := ⟨Reg.UPD_CASK_DONE, 0, 32⟩
def UPD_CMD_KIND : Fld := ⟨Reg.UPD_CMD, 9, 1⟩
def UPD_CMD_DOWNGRADE : Fld := ⟨Reg.UPD_CMD, 8, 1⟩
def UPD_CMD_CMD : Fld := ⟨Reg.UPD_CMD, 0, 3⟩
def UPD_RES_CODE : Fld := ⟨Reg.UPD_RES, 0, 8⟩
def UPD_RACK_SEGMENT : Fld := ⟨Reg.UPD_RACK, 16, 16⟩
def UPD_RACK_KIND : Fld := ⟨Reg.UPD_RACK, 4, 1⟩
def UPD_RACK_PHASE : Fld := ⟨Reg.UPD_RACK, 0, 3⟩
def UPD_FW_ACT_VINTAGE : Fld := ⟨Reg.UPD_FW_ACT, 0, 32⟩
def UPD_FW_FB_VINTAGE : Fld := ⟨Reg.UPD_FW_FB, 0, 32⟩
def UPD_APP_ACT_VINTAGE : Fld := ⟨Reg.UPD_APP_ACT, 0, 32⟩
def UPD_APP_FB_VINTAGE : Fld := ⟨Reg.UPD_APP_FB, 0, 32⟩
def UPD_PROBE_FAILS : Fld := ⟨Reg.UPD_PROBE, 0, 2⟩
def UPD_CHUNK_ERR_CNT_COUNT : Fld := ⟨Reg.UPD_CHUNK_ERR_CNT, 0, 32⟩

/-! 20_front_panel.md -/
def DSB_STAT_PANEL_FAULT : Fld := ⟨Reg.DSB_STAT, 21, 1⟩
def DSB_STAT_CLEAN : Fld := ⟨Reg.DSB_STAT, 20, 1⟩
def DSB_STAT_BAND : Fld := ⟨Reg.DSB_STAT, 16, 3⟩
def DSB_STAT_PENDING : Fld := ⟨Reg.DSB_STAT, 8, 6⟩
def DSB_STAT_BUSY : Fld := ⟨Reg.DSB_STAT, 0, 6⟩
def DSB_TEMP_TEMP : Fld := ⟨Reg.DSB_TEMP, 0, 16⟩
def DSB_VDRV_VDRV : Fld := ⟨Reg.DSB_VDRV, 0, 16⟩
def DSB_CFG_TAG_EN : Fld := ⟨Reg.DSB_CFG, 8, 1⟩
def DSB_CFG_MIN_INTV : Fld := ⟨Reg.DSB_CFG, 0, 8⟩
def DSB_CMD_CMD : Fld := ⟨Reg.DSB_CMD, 0, 2⟩
def DSB_RES_CODE : Fld := ⟨Reg.DSB_RES, 0, 8⟩
def DSB_UPD_CNT_COUNT : Fld := ⟨Reg.DSB_UPD_CNT, 0, 32⟩
def DSB_TAG_CHARS (k : Nat) : Fld := ⟨Reg.DSB_TAG k, 0, 32⟩
def DSB_BAND_VDRV (k : Nat) : Fld := ⟨Reg.DSB_BAND k, 16, 16⟩
def DSB_BAND_FRAMES (k : Nat) : Fld := ⟨Reg.DSB_BAND k, 8, 8⟩
def DSB_BAND_LOWER (k : Nat) : Fld := ⟨Reg.DSB_BAND k, 0, 8⟩
def DSE_CFG_HOLD_PROG : Fld := ⟨Reg.DSE_CFG, 17, 1⟩
def DSE_CFG_PROG_EN : Fld := ⟨Reg.DSE_CFG, 16, 1⟩
def DSE_CFG_DIM_TIME : Fld := ⟨Reg.DSE_CFG, 8, 8⟩
def DSE_CFG_BRIGHT : Fld := ⟨Reg.DSE_CFG, 0, 4⟩
def DSE_STAT_LAMP_TEST : Fld := ⟨Reg.DSE_STAT, 11, 1⟩
def DSE_STAT_DIMMED : Fld := ⟨Reg.DSE_STAT, 10, 1⟩
def DSE_STAT_PANEL_OK : Fld := ⟨Reg.DSE_STAT, 9, 1⟩
def DSE_STAT_UNIF_OK : Fld := ⟨Reg.DSE_STAT, 8, 1⟩
def DSE_STAT_PAGE : Fld := ⟨Reg.DSE_STAT, 0, 4⟩
def DSE_LINE_CNT_COUNT : Fld := ⟨Reg.DSE_LINE_CNT, 0, 32⟩
def DSE_RES_CODE : Fld := ⟨Reg.DSE_RES, 0, 8⟩
def DSE_PCTL_SWAP : Fld := ⟨Reg.DSE_PCTL, 0, 1⟩
def DSE_PTEXT_CHARS (k : Nat) : Fld := ⟨Reg.DSE_PTEXT k, 0, 32⟩
def DSE_PBLINK_BLINK (k : Nat) : Fld := ⟨Reg.DSE_PBLINK k, 0, 32⟩
def BTN_STAT_CAL_STEP : Fld := ⟨Reg.BTN_STAT, 16, 3⟩
def BTN_STAT_CAL_OPEN : Fld := ⟨Reg.BTN_STAT, 14, 1⟩
def BTN_STAT_CAL_CH : Fld := ⟨Reg.BTN_STAT, 8, 6⟩
def BTN_STAT_LOCAL_CAL : Fld := ⟨Reg.BTN_STAT, 3, 1⟩
def BTN_STAT_SET : Fld := ⟨Reg.BTN_STAT, 2, 1⟩
def BTN_STAT_DOWN : Fld := ⟨Reg.BTN_STAT, 1, 1⟩
def BTN_STAT_UP : Fld := ⟨Reg.BTN_STAT, 0, 1⟩
def BTN_LAST_KIND : Fld := ⟨Reg.BTN_LAST, 2, 2⟩
def BTN_LAST_BUTTON : Fld := ⟨Reg.BTN_LAST, 0, 2⟩
def BTN_PRESS_CNT_COUNT : Fld := ⟨Reg.BTN_PRESS_CNT, 0, 32⟩

/-! 21_security.md -/
def SEC_STAT_UNLOCKS : Fld := ⟨Reg.SEC_STAT, 24, 8⟩
def SEC_STAT_RESULT : Fld := ⟨Reg.SEC_STAT, 16, 8⟩
def SEC_STAT_REVOKED : Fld := ⟨Reg.SEC_STAT, 12, 4⟩
def SEC_STAT_COMMISSIONING : Fld := ⟨Reg.SEC_STAT, 10, 1⟩
def SEC_STAT_SVC_EN : Fld := ⟨Reg.SEC_STAT, 9, 1⟩
def SEC_STAT_KEYS_ERASED : Fld := ⟨Reg.SEC_STAT, 8, 1⟩
def SEC_CMD_CMD : Fld := ⟨Reg.SEC_CMD, 0, 1⟩
def SEC_TOKEN_BYTES (k : Nat) : Fld := ⟨Reg.SEC_TOKEN k, 0, 32⟩
def SEC_CRED_COUNT : Fld := ⟨Reg.SEC_CRED, 0, 7⟩

end F

end Sys2Proof.Machine
end

