-- ==== Sys2Proof/Machine/RegMap.lean ====
section
/-! DEFINITION. The register map: for every page the registers it defines, with the access type, reset value and valid values of each field (R6, R7, R52 to R54, R479), written from the register tables of the spec's chapters. -/

namespace Sys2Proof.Machine

/-- Block-specific registers of page SYS. -/
def sysRows : List RegRow := [
  -- SYS_ACC_ERR_ADDR
  ⟨0x240, 0x0, 1, [⟨0, 32, .ro, 0, .any, false, false⟩]⟩,
  -- SYS_ACC_ERR_INFO
  ⟨0x244, 0x0, 1, [⟨24, 8, .ro, 0, .any, false, false⟩, ⟨22, 2, .ro, 0, .any, false, false⟩, ⟨21, 1, .ro, 0, .any, false, false⟩, ⟨0, 16, .ro, 0, .any, false, false⟩]⟩,
  -- SYS_ACC_ERR_CNT
  ⟨0x248, 0x0, 1, [⟨0, 32, .rc, 0, .any, false, false⟩]⟩,
  -- SYS_EVL_STAT
  ⟨0x200, 0x4, 8, [⟨0, 32, .ro, 0, .any, false, false⟩]⟩,
  -- SYS_EVL_EDGE
  ⟨0x220, 0x4, 8, [⟨0, 32, .w1c, 0, .any, false, false⟩]⟩,
  -- SYS_STATE
  ⟨0x40, 0x0, 1, [⟨12, 4, .ro, 0, .any, false, false⟩, ⟨9, 1, .ro, 0, .any, false, false⟩, ⟨8, 1, .ro, 0, .any, false, false⟩, ⟨4, 4, .ro, 0, .any, false, false⟩, ⟨0, 3, .ro, 1, .any, false, false⟩]⟩,
  -- SYS_CMD
  ⟨0x44, 0x0, 1, [⟨31, 1, .rwl, 0, .any, false, false⟩, ⟨0, 3, .rwl, 0, .range 0 4, false, false⟩]⟩,
  -- SYS_RES
  ⟨0x48, 0x0, 1, [⟨0, 8, .ro, 0, .any, false, false⟩]⟩,
  -- SYS_START_CFG
  ⟨0x4C, 0x0, 1, [⟨0, 2, .rwl, 0, .range 0 2, false, true⟩]⟩,
  -- SYS_START_T
  ⟨0x50, 0x0, 1, [⟨16, 16, .ro, 0, .any, false, false⟩, ⟨0, 16, .ro, 0, .any, false, false⟩]⟩,
  -- SYS_SERIAL_LO
  ⟨0x54, 0x0, 1, [⟨0, 32, .ro, 0, .any, false, true⟩]⟩,
  -- SYS_SERIAL_HI
  ⟨0x58, 0x0, 1, [⟨0, 32, .ro, 0, .any, false, true⟩]⟩]

/-- Block-specific registers of page ABS. -/
def absRows : List RegRow := [
  -- ABS0_CFG
  ⟨0x40, 0x0, 1, [⟨8, 1, .rwl, 0, .any, false, true⟩, ⟨4, 1, .rwl, 0, .any, false, true⟩, ⟨0, 2, .rwl, 0, .any, false, true⟩]⟩,
  -- ABS0_RELOCK
  ⟨0x44, 0x0, 1, [⟨16, 16, .rwl, 0, .any, false, true⟩, ⟨0, 16, .rwl, 20, .nearer 20 2000, false, true⟩]⟩,
  -- ABS0_OFS
  ⟨0x48, 0x4, 2, [⟨0, 32, .rwl, 0, .any, false, true⟩]⟩,
  -- ABS0_STAT
  ⟨0x50, 0x0, 1, [⟨16, 16, .ro, 0, .any, false, false⟩, ⟨10, 1, .ro, 0, .any, false, false⟩, ⟨9, 1, .ro, 0, .any, false, false⟩, ⟨8, 1, .ro, 0, .any, false, false⟩, ⟨4, 2, .ro, 0, .any, false, false⟩, ⟨3, 1, .ro, 0, .any, false, false⟩, ⟨0, 3, .ro, 0, .any, false, false⟩]⟩,
  -- ABS0_FREQ
  ⟨0x54, 0x0, 1, [⟨0, 32, .ro, 0, .any, false, false⟩]⟩,
  -- ABS0_POS_LO
  ⟨0x58, 0x0, 1, [⟨0, 32, .ro, 0, .any, false, false⟩]⟩,
  -- ABS0_POS_HI
  ⟨0x5C, 0x0, 1, [⟨0, 32, .ro, 0, .any, false, false⟩]⟩,
  -- ABS0_LAST_STEP
  ⟨0x60, 0x0, 1, [⟨0, 32, .ro, 0, .any, false, false⟩]⟩,
  -- ABS_VS_RMS
  ⟨0x64, 0x4, 2, [⟨0, 32, .ro, 0, .any, false, false⟩]⟩,
  -- ABS_VS_DPHASE
  ⟨0x6C, 0x0, 1, [⟨0, 32, .ro, 0, .any, false, false⟩]⟩,
  -- ABS_VS_DFREQ
  ⟨0x70, 0x0, 1, [⟨0, 32, .ro, 0, .any, false, false⟩]⟩,
  -- ABS1_CFG
  ⟨0x80, 0x0, 1, [⟨16, 16, .rwl, 1, .range 1 65535, false, true⟩, ⟨8, 8, .rwl, 0, .any, false, true⟩, ⟨4, 4, .rwl, 0, .any, false, true⟩, ⟨3, 1, .rwl, 0, .any, false, true⟩, ⟨2, 1, .rwl, 0, .any, false, true⟩, ⟨0, 2, .rwl, 0, .range 0 2, false, true⟩]⟩,
  -- ABS1_CPR
  ⟨0x84, 0x0, 1, [⟨0, 20, .rwl, 0, .any, false, true⟩]⟩,
  -- ABS1_IDX_OFS
  ⟨0x88, 0x0, 1, [⟨0, 32, .rwl, 0, .any, false, true⟩]⟩,
  -- ABS1_STAT
  ⟨0x8C, 0x0, 1, [⟨7, 1, .ro, 0, .any, false, false⟩, ⟨6, 1, .ro, 0, .any, false, false⟩, ⟨5, 1, .ro, 0, .any, false, false⟩, ⟨4, 1, .ro, 0, .any, false, false⟩, ⟨0, 3, .ro, 0, .any, false, false⟩]⟩,
  -- ABS1_SPEED
  ⟨0x90, 0x0, 1, [⟨0, 32, .ro, 0, .any, false, false⟩]⟩,
  -- ABS1_POS_LO
  ⟨0x94, 0x0, 1, [⟨0, 32, .ro, 0, .any, false, false⟩]⟩,
  -- ABS1_POS_HI
  ⟨0x98, 0x0, 1, [⟨0, 32, .ro, 0, .any, false, false⟩]⟩,
  -- ABS1_IDX_ERR_CNT
  ⟨0x9C, 0x0, 1, [⟨0, 32, .rc, 0, .any, false, false⟩]⟩,
  -- ABS_CMP_CTL
  ⟨0xA0, 0x10, 2, [⟨1, 1, .rw, 0, .any, false, false⟩, ⟨0, 1, .rw, 0, .any, false, false⟩]⟩,
  -- ABS_CMP_LO
  ⟨0xA4, 0x10, 2, [⟨0, 32, .rw, 0, .any, false, false⟩]⟩,
  -- ABS_CMP_HI
  ⟨0xA8, 0x10, 2, [⟨0, 32, .rw, 0, .any, false, false⟩]⟩]

/-- Block-specific registers of page TSU. -/
def tsuRows : List RegRow := [
  -- TSU_CFG
  ⟨0x40, 0x0, 1, [⟨16, 16, .rwl, 0, .any, false, true⟩, ⟨4, 1, .rwl, 0, .any, false, true⟩, ⟨0, 3, .rwl, 0, .range 0 4, false, true⟩]⟩,
  -- TSU_STAT
  ⟨0x44, 0x0, 1, [⟨16, 1, .ro, 0, .any, false, false⟩, ⟨12, 4, .ro, 0, .any, false, false⟩, ⟨9, 1, .ro, 0, .any, false, false⟩, ⟨8, 1, .ro, 0, .any, false, false⟩, ⟨4, 3, .ro, 0, .any, false, false⟩, ⟨0, 3, .ro, 0, .any, false, false⟩]⟩,
  -- TSU_TIME_LO
  ⟨0x48, 0x0, 1, [⟨0, 32, .ro, 0, .any, false, false⟩]⟩,
  -- TSU_TIME_HI
  ⟨0x4C, 0x0, 1, [⟨0, 32, .ro, 0, .any, false, false⟩]⟩,
  -- TSU_EPOCH
  ⟨0x50, 0x0, 1, [⟨0, 32, .ro, 0, .any, false, false⟩]⟩,
  -- TSU_RATE
  ⟨0x54, 0x0, 1, [⟨0, 32, .ro, 0, .any, false, false⟩]⟩,
  -- TSU_OFFSET
  ⟨0x58, 0x0, 1, [⟨0, 32, .ro, 0, .any, false, false⟩]⟩,
  -- TSU_TRIM
  ⟨0x5C, 0x0, 1, [⟨0, 32, .rwl, 0, .any, false, true⟩]⟩,
  -- TSU_SET_LO
  ⟨0x60, 0x0, 1, [⟨0, 32, .rwl, 0, .any, false, false⟩]⟩,
  -- TSU_SET_HI
  ⟨0x64, 0x0, 1, [⟨0, 32, .rwl, 0, .any, false, false⟩]⟩,
  -- TSU_ADJ
  ⟨0x68, 0x0, 1, [⟨0, 32, .rwl, 0, .any, false, false⟩]⟩,
  -- TSU_CMD
  ⟨0x6C, 0x0, 1, [⟨0, 2, .rwl, 0, .range 0 2, false, false⟩]⟩,
  -- TSU_CAP_CFG
  ⟨0x80, 0x10, 4, [⟨17, 1, .w1c, 0, .any, false, false⟩, ⟨16, 1, .w1c, 0, .any, false, false⟩, ⟨8, 8, .rw, 0, .any, false, false⟩, ⟨0, 3, .rw, 0, .range 0 6, false, false⟩]⟩,
  -- TSU_CAP_LO
  ⟨0x84, 0x10, 4, [⟨0, 32, .ro, 0, .any, false, false⟩]⟩,
  -- TSU_CAP_HI
  ⟨0x88, 0x10, 4, [⟨0, 32, .ro, 0, .any, false, false⟩]⟩,
  -- TSU_CAP_FRAC
  ⟨0x8C, 0x10, 4, [⟨0, 16, .ro, 0, .any, false, false⟩]⟩,
  -- TSU_CMP_CTL
  ⟨0xC0, 0x10, 4, [⟨0, 1, .rw, 0, .any, false, false⟩]⟩,
  -- TSU_CMP_LO
  ⟨0xC4, 0x10, 4, [⟨0, 32, .rw, 0, .any, false, false⟩]⟩,
  -- TSU_CMP_HI
  ⟨0xC8, 0x10, 4, [⟨0, 32, .rw, 0, .any, false, false⟩]⟩,
  -- TSU_CMP_PERIOD
  ⟨0xCC, 0x10, 4, [⟨0, 32, .rw, 0, .any, false, false⟩]⟩]

/-- Block-specific registers of page RTC. -/
def rtcRows : List RegRow := [
  -- RTC_TIME_LO
  ⟨0x40, 0x0, 1, [⟨0, 15, .ro, 0, .any, false, false⟩]⟩,
  -- RTC_TIME_HI
  ⟨0x44, 0x0, 1, [⟨0, 32, .ro, 0, .any, false, false⟩]⟩,
  -- RTC_EPOCH
  ⟨0x48, 0x0, 1, [⟨0, 32, .ro, 0, .any, false, false⟩]⟩,
  -- RTC_STAT
  ⟨0x4C, 0x0, 1, [⟨28, 4, .ro, 0, .any, false, false⟩, ⟨16, 12, .ro, 0, .any, false, false⟩, ⟨3, 1, .ro, 0, .any, false, false⟩, ⟨2, 1, .ro, 0, .any, false, false⟩, ⟨1, 1, .ro, 0, .any, false, false⟩, ⟨0, 1, .ro, 0, .any, false, false⟩]⟩,
  -- RTC_DRIFT
  ⟨0x50, 0x0, 1, [⟨0, 32, .ro, 0, .any, false, false⟩]⟩,
  -- RTC_SET_LO
  ⟨0x60, 0x0, 1, [⟨0, 15, .rwl, 0, .any, false, false⟩]⟩,
  -- RTC_SET_HI
  ⟨0x64, 0x0, 1, [⟨0, 32, .rwl, 0, .any, false, false⟩]⟩,
  -- RTC_CMD
  ⟨0x6C, 0x0, 1, [⟨0, 1, .rwl, 0, .any, false, false⟩]⟩]

/-- Block-specific registers of page ENG. -/
def engRows : List RegRow := [
  -- ENG_STATE
  ⟨0x40, 0x0, 1, [⟨16, 5, .ro, 0, .any, false, false⟩, ⟨8, 8, .ro, 0, .any, false, false⟩, ⟨0, 3, .ro, 0, .any, false, false⟩]⟩,
  -- ENG_RES
  ⟨0x44, 0x4, 8, [⟨31, 1, .ro, 0, .any, false, false⟩, ⟨16, 8, .ro, 0, .any, false, false⟩, ⟨15, 1, .ro, 0, .any, false, false⟩, ⟨0, 8, .ro, 0, .any, false, false⟩]⟩,
  -- ENG_INSN_LO
  ⟨0x64, 0x0, 1, [⟨0, 32, .ro, 0, .any, false, false⟩]⟩,
  -- ENG_INSN_HI
  ⟨0x68, 0x0, 1, [⟨0, 32, .ro, 0, .any, false, false⟩]⟩,
  -- ENG_BUSY_LO
  ⟨0x6C, 0x0, 1, [⟨0, 32, .ro, 0, .any, false, false⟩]⟩,
  -- ENG_BUSY_HI
  ⟨0x70, 0x0, 1, [⟨0, 32, .ro, 0, .any, false, false⟩]⟩,
  -- ENG_SWITCH_CNT
  ⟨0x74, 0x0, 1, [⟨0, 32, .ro, 0, .any, false, false⟩]⟩,
  -- ENG_WAIT_MAX
  ⟨0x78, 0x0, 1, [⟨0, 32, .rc, 0, .any, false, false⟩]⟩,
  -- ENG_SOFT_CNT
  ⟨0x7C, 0x0, 1, [⟨0, 32, .rc, 0, .any, false, false⟩]⟩,
  -- ENG_EXC_INFO
  ⟨0x80, 0x0, 1, [⟨24, 8, .ro, 0, .any, false, false⟩, ⟨16, 1, .ro, 0, .any, false, false⟩, ⟨0, 8, .ro, 0, .any, false, false⟩]⟩,
  -- ENG_EXC_PC
  ⟨0x84, 0x0, 1, [⟨14, 18, .ro, 0, .any, false, false⟩, ⟨0, 14, .ro, 0, .any, false, false⟩]⟩,
  -- ENG_EXC_TIME_LO
  ⟨0x88, 0x0, 1, [⟨0, 32, .ro, 0, .any, false, false⟩]⟩,
  -- ENG_EXC_TIME_HI
  ⟨0x8C, 0x0, 1, [⟨0, 32, .ro, 0, .any, false, false⟩]⟩,
  -- ENG_EXC_CNT
  ⟨0x90, 0x0, 1, [⟨0, 32, .rc, 0, .any, false, false⟩]⟩,
  -- ENG_MEM_CNT
  ⟨0x94, 0x0, 1, [⟨0, 32, .rc, 0, .any, false, false⟩]⟩,
  -- ENG_TEST
  ⟨0x98, 0x0, 1, [⟨16, 16, .ro, 0, .any, false, false⟩, ⟨8, 2, .ro, 0, .any, false, false⟩, ⟨0, 1, .wo, 0, .any, false, false⟩]⟩]

/-- Block-specific registers of the table pages ctxTable. -/
def ctxTableRows : List RegRow := [
  -- CTX_CFG
  ⟨0x0, 0x40, 64, [⟨31, 1, .ro, 0, .any, false, true⟩, ⟨16, 8, .ro, 0, .any, false, true⟩, ⟨12, 4, .ro, 0, .any, false, true⟩, ⟨8, 4, .ro, 0, .any, false, true⟩, ⟨6, 1, .ro, 0, .any, false, true⟩, ⟨5, 1, .ro, 0, .any, false, true⟩, ⟨2, 3, .ro, 0, .any, false, true⟩, ⟨0, 2, .ro, 0, .any, false, true⟩]⟩,
  -- CTX_PERIOD
  ⟨0x4, 0x40, 64, [⟨0, 32, .ro, 0, .any, false, true⟩]⟩,
  -- CTX_PHASE
  ⟨0x8, 0x40, 64, [⟨0, 32, .ro, 0, .any, false, true⟩]⟩,
  -- CTX_AFFINITY
  ⟨0xC, 0x40, 64, [⟨0, 16, .ro, 0, .any, false, true⟩]⟩,
  -- CTX_WCET
  ⟨0x10, 0x40, 64, [⟨0, 32, .ro, 0, .any, false, true⟩]⟩,
  -- CTX_GRANT
  ⟨0x20, 0x40, 64, [⟨16, 16, .ro, 0, .any, false, true⟩, ⟨0, 16, .ro, 0, .any, false, true⟩]⟩,
  -- CTX_GRANT
  ⟨0x24, 0x40, 64, [⟨16, 16, .ro, 0, .any, false, true⟩, ⟨0, 16, .ro, 0, .any, false, true⟩]⟩,
  -- CTX_GRANT
  ⟨0x28, 0x40, 64, [⟨16, 16, .ro, 0, .any, false, true⟩, ⟨0, 16, .ro, 0, .any, false, true⟩]⟩,
  -- CTX_GRANT
  ⟨0x2C, 0x40, 64, [⟨16, 16, .ro, 0, .any, false, true⟩, ⟨0, 16, .ro, 0, .any, false, true⟩]⟩,
  -- CTX_STATE
  ⟨0x30, 0x40, 64, [⟨24, 8, .ro, 0, .any, false, false⟩, ⟨20, 1, .ro, 0, .any, false, false⟩, ⟨16, 4, .ro, 0, .any, false, false⟩, ⟨8, 4, .ro, 0, .any, false, false⟩, ⟨0, 3, .ro, 0, .any, false, false⟩]⟩,
  -- CTX_CSTAT
  ⟨0x34, 0x40, 64, [⟨0, 32, .ro, 0, .any, false, false⟩]⟩,
  -- CTX_SKIPS
  ⟨0x38, 0x40, 64, [⟨16, 16, .ro, 0, .any, false, false⟩, ⟨0, 16, .ro, 0, .any, false, false⟩]⟩,
  -- CTX_CYCLES
  ⟨0x3C, 0x40, 64, [⟨0, 32, .ro, 0, .any, false, false⟩]⟩]

/-- Block-specific registers of page SCH. -/
def schRows : List RegRow := [
  -- SCH_CMD
  ⟨0x40, 0x0, 1, [⟨8, 4, .rwl, 0, .range 0 4, false, false⟩, ⟨0, 8, .rwl, 0, .any, false, false⟩]⟩,
  -- SCH_CMD_RES
  ⟨0x44, 0x0, 1, [⟨0, 8, .ro, 0, .any, false, false⟩]⟩,
  -- SCH_ENG_AVAIL
  ⟨0x48, 0x0, 1, [⟨16, 16, .ro, 0, .any, false, false⟩, ⟨0, 16, .ro, 0, .any, false, false⟩]⟩,
  -- SCH_ENG_FAULT
  ⟨0x4C, 0x0, 1, [⟨16, 5, .ro, 0, .any, false, false⟩, ⟨0, 16, .ro, 0, .any, false, false⟩]⟩,
  -- SCH_OCC
  ⟨0x50, 0x0, 1, [⟨0, 14, .ro, 0, .any, false, false⟩]⟩,
  -- SCH_OCC_MAX
  ⟨0x54, 0x0, 1, [⟨0, 32, .rc, 0, .any, false, false⟩]⟩,
  -- SCH_DECL_A
  ⟨0x58, 0x0, 1, [⟨0, 32, .ro, 0, .any, false, false⟩]⟩,
  -- SCH_DECL_B
  ⟨0x5C, 0x0, 1, [⟨0, 32, .ro, 0, .any, false, false⟩]⟩,
  -- SCH_OVR_CNT
  ⟨0x60, 0x0, 1, [⟨0, 32, .rc, 0, .any, false, false⟩]⟩,
  -- SCH_BUDGET_SKIP_CNT
  ⟨0x64, 0x0, 1, [⟨0, 32, .rc, 0, .any, false, false⟩]⟩,
  -- SCH_LATE_CNT
  ⟨0x68, 0x0, 1, [⟨0, 32, .rc, 0, .any, false, false⟩]⟩,
  -- SCH_LAST_OVR
  ⟨0x6C, 0x0, 1, [⟨16, 16, .ro, 0, .any, false, false⟩, ⟨0, 8, .ro, 0, .any, false, false⟩]⟩,
  -- SCH_MIG_CNT
  ⟨0x70, 0x0, 1, [⟨0, 32, .ro, 0, .any, false, false⟩]⟩,
  -- SCH_STOPPED
  ⟨0x80, 0x4, 8, [⟨0, 32, .ro, 0, .any, false, false⟩]⟩]

/-- Block-specific registers of page PWR. -/
def pwrRows : List RegRow := [
  -- PWR_THERM
  ⟨0x40, 0x0, 1, [⟨16, 1, .ro, 0, .any, false, true⟩, ⟨8, 2, .ro, 0, .any, false, false⟩, ⟨4, 2, .ro, 0, .any, false, false⟩, ⟨0, 2, .ro, 0, .any, false, false⟩]⟩,
  -- PWR_DIE_T
  ⟨0x44, 0x0, 1, [⟨0, 16, .ro, 0, .any, false, false⟩]⟩,
  -- PWR_RAIL_T
  ⟨0x48, 0x0, 1, [⟨0, 16, .ro, 0, .any, false, false⟩]⟩,
  -- PWR_DIE_THR
  ⟨0x4C, 0x0, 1, [⟨16, 8, .rwl, 118, .any, false, true⟩, ⟨8, 8, .rwl, 110, .any, false, true⟩, ⟨0, 8, .rwl, 100, .any, false, true⟩]⟩,
  -- PWR_RAIL_THR
  ⟨0x50, 0x0, 1, [⟨16, 8, .rwl, 76, .any, false, true⟩, ⟨8, 8, .rwl, 72, .any, false, true⟩, ⟨0, 8, .rwl, 68, .any, false, true⟩]⟩,
  -- PWR_CP_STAT
  ⟨0x54, 0x0, 1, [⟨8, 1, .ro, 0, .any, false, false⟩, ⟨3, 1, .ro, 0, .any, false, false⟩, ⟨2, 1, .ro, 0, .any, false, false⟩, ⟨1, 1, .ro, 0, .any, false, false⟩, ⟨0, 1, .ro, 0, .any, false, false⟩]⟩,
  -- PWR_CP_V
  ⟨0x58, 0x0, 1, [⟨16, 16, .ro, 0, .any, false, false⟩, ⟨0, 16, .ro, 0, .any, false, false⟩]⟩,
  -- PWR_CORE_P
  ⟨0x5C, 0x0, 1, [⟨0, 16, .ro, 0, .any, false, false⟩]⟩,
  -- PWR_COEF_ENG
  ⟨0x60, 0x0, 1, [⟨0, 32, .ro, 0, .any, false, true⟩]⟩,
  -- PWR_COEF_LANE
  ⟨0x64, 0x0, 1, [⟨0, 32, .ro, 0, .any, false, true⟩]⟩,
  -- PWR_WIN_CNT
  ⟨0x68, 0x0, 1, [⟨0, 32, .ro, 0, .any, false, false⟩]⟩,
  -- PWR_BUDGET
  ⟨0x80, 0x4, 16, [⟨0, 16, .rwl, 0, .any, false, true⟩]⟩,
  -- PWR_LEDGER
  ⟨0xC0, 0x4, 16, [⟨0, 32, .ro, 0, .any, false, false⟩]⟩,
  -- PWR_ENG_E
  ⟨0x100, 0x4, 16, [⟨0, 32, .ro, 0, .any, false, false⟩]⟩,
  -- PWR_SOL_E
  ⟨0x140, 0x0, 1, [⟨0, 32, .ro, 0, .any, false, false⟩]⟩]

/-- Block-specific registers of page FRC. -/
def frcRows : List RegRow := [
  -- FRC_CFG
  ⟨0x40, 0x0, 1, [⟨0, 1, .rwl, 0, .any, false, true⟩]⟩,
  -- FRC_STAT
  ⟨0x44, 0x0, 1, [⟨31, 1, .ro, 0, .any, false, false⟩, ⟨16, 10, .ro, 0, .any, false, false⟩, ⟨0, 10, .ro, 0, .any, false, false⟩]⟩,
  -- FRC_VID
  ⟨0x48, 0x0, 1, [⟨0, 32, .rwl, 0, .any, false, false⟩]⟩,
  -- FRC_VAL_LO
  ⟨0x4C, 0x0, 1, [⟨0, 32, .rwl, 0, .any, false, false⟩]⟩,
  -- FRC_VAL_HI
  ⟨0x50, 0x0, 1, [⟨0, 32, .rwl, 0, .any, false, false⟩]⟩,
  -- FRC_QUAL
  ⟨0x54, 0x0, 1, [⟨8, 4, .rwl, 0, .oneOf [0, 1, 2, 3, 4, 5, 6, 7, 8, 9, 10, 11, 12, 15], false, false⟩, ⟨0, 2, .rwl, 0, .range 0 2, false, false⟩]⟩,
  -- FRC_CMD
  ⟨0x58, 0x0, 1, [⟨16, 9, .rwl, 0, .range 0 511, false, false⟩, ⟨0, 3, .rwl, 0, .range 0 4, false, false⟩]⟩,
  -- FRC_RES
  ⟨0x5C, 0x0, 1, [⟨0, 8, .ro, 0, .any, false, false⟩]⟩,
  -- FRC_ENTRY_VID
  ⟨0x60, 0x0, 1, [⟨0, 32, .ro, 0, .any, false, false⟩]⟩,
  -- FRC_ENTRY_LO
  ⟨0x64, 0x0, 1, [⟨0, 32, .ro, 0, .any, false, false⟩]⟩,
  -- FRC_ENTRY_HI
  ⟨0x68, 0x0, 1, [⟨0, 32, .ro, 0, .any, false, false⟩]⟩,
  -- FRC_ENTRY_INFO
  ⟨0x6C, 0x0, 1, [⟨17, 1, .ro, 0, .any, false, false⟩, ⟨16, 1, .ro, 0, .any, false, false⟩, ⟨8, 4, .ro, 0, .any, false, false⟩, ⟨0, 2, .ro, 0, .any, false, false⟩]⟩,
  -- FRC_ENTRY_TIME_LO
  ⟨0x70, 0x0, 1, [⟨0, 32, .ro, 0, .any, false, false⟩]⟩,
  -- FRC_ENTRY_TIME_HI
  ⟨0x74, 0x0, 1, [⟨0, 32, .ro, 0, .any, false, false⟩]⟩]

/-- Block-specific registers of page OLC. -/
def olcRows : List RegRow := [
  -- OLC_CMD
  ⟨0x40, 0x0, 1, [⟨0, 3, .rwl, 0, .range 0 4, false, false⟩]⟩,
  -- OLC_STAT
  ⟨0x44, 0x0, 1, [⟨8, 8, .ro, 0, .any, false, false⟩, ⟨0, 3, .ro, 0, .any, false, false⟩]⟩,
  -- OLC_PKG_SIZE
  ⟨0x48, 0x0, 1, [⟨0, 32, .ro, 0, .any, false, false⟩]⟩,
  -- OLC_RCVD
  ⟨0x4C, 0x0, 1, [⟨0, 32, .ro, 0, .any, false, false⟩]⟩,
  -- OLC_BASE_VIN
  ⟨0x50, 0x0, 1, [⟨0, 32, .ro, 0, .any, false, false⟩]⟩,
  -- OLC_NEW_VIN
  ⟨0x54, 0x0, 1, [⟨0, 32, .ro, 0, .any, false, false⟩]⟩,
  -- OLC_ARM_TIME_LO
  ⟨0x58, 0x0, 1, [⟨0, 32, .ro, 0, .any, false, false⟩]⟩,
  -- OLC_ARM_TIME_HI
  ⟨0x5C, 0x0, 1, [⟨0, 32, .ro, 0, .any, false, false⟩]⟩,
  -- OLC_COMMIT_TIME_LO
  ⟨0x60, 0x0, 1, [⟨0, 32, .ro, 0, .any, false, false⟩]⟩,
  -- OLC_COMMIT_TIME_HI
  ⟨0x64, 0x0, 1, [⟨0, 32, .ro, 0, .any, false, false⟩]⟩,
  -- OLC_FAIL_VID
  ⟨0x68, 0x0, 1, [⟨0, 32, .ro, 0, .any, false, false⟩]⟩,
  -- OLC_FAIL_CTX
  ⟨0x6C, 0x0, 1, [⟨8, 1, .ro, 0, .any, false, false⟩, ⟨0, 8, .ro, 0, .any, false, false⟩]⟩,
  -- OLC_BLOCKER
  ⟨0x70, 0x0, 1, [⟨8, 16, .ro, 0, .any, false, false⟩, ⟨0, 8, .ro, 0, .any, false, false⟩]⟩,
  -- OLC_COMMIT_CNT
  ⟨0x74, 0x0, 1, [⟨0, 32, .ro, 0, .any, false, false⟩]⟩,
  -- OLC_SWITCH_TIME
  ⟨0x78, 0x0, 1, [⟨0, 32, .ro, 0, .any, false, false⟩]⟩]

/-- Block-specific registers of page SOL. -/
def solRows : List RegRow := [
  -- SOL_CFG
  ⟨0x40, 0x0, 1, [⟨8, 1, .rwl, 0, .any, false, true⟩, ⟨0, 8, .rwl, 8, .range 1 64, false, true⟩]⟩,
  -- SOL_TAU
  ⟨0x44, 0x0, 1, [⟨0, 6, .rwl, 20, .nearer 8 40, false, true⟩]⟩,
  -- SOL_GUARD
  ⟨0x48, 0x0, 1, [⟨0, 16, .rwl, 20, .range 10 1000, false, true⟩]⟩,
  -- SOL_DL_MAX
  ⟨0x4C, 0x0, 1, [⟨0, 16, .rwl, 100, .range 1 10000, false, true⟩]⟩,
  -- SOL_MAXIT
  ⟨0x50, 0x0, 1, [⟨0, 16, .rwl, 1000, .range 1 65535, false, true⟩]⟩,
  -- SOL_STAT
  ⟨0x54, 0x0, 1, [⟨24, 1, .ro, 0, .any, false, false⟩, ⟨20, 4, .ro, 0, .any, false, false⟩, ⟨16, 1, .ro, 0, .any, false, false⟩, ⟨12, 4, .ro, 0, .any, false, false⟩, ⟨9, 1, .ro, 0, .any, false, false⟩, ⟨8, 1, .ro, 0, .any, false, false⟩, ⟨0, 6, .ro, 0, .any, false, false⟩]⟩,
  -- SOL_STORE
  ⟨0x58, 0x0, 1, [⟨16, 10, .ro, 0, .any, false, false⟩, ⟨0, 10, .ro, 0, .any, false, false⟩]⟩,
  -- SOL_LOAD_INFO
  ⟨0x5C, 0x0, 1, [⟨16, 8, .ro, 0, .any, false, false⟩, ⟨8, 8, .ro, 0, .any, false, false⟩, ⟨0, 8, .ro, 0, .any, false, false⟩]⟩,
  -- SOL_JOB_CNT
  ⟨0x60, 0x0, 1, [⟨0, 32, .ro, 0, .any, false, false⟩]⟩,
  -- SOL_REFUSE_CNT
  ⟨0x64, 0x0, 1, [⟨0, 32, .rc, 0, .any, false, false⟩]⟩,
  -- SOL_DISPLACE_CNT
  ⟨0x68, 0x0, 1, [⟨0, 32, .rc, 0, .any, false, false⟩]⟩,
  -- SOL_LAST
  ⟨0x6C, 0x0, 1, [⟨8, 4, .ro, 0, .any, false, false⟩, ⟨0, 8, .ro, 0, .any, false, false⟩]⟩,
  -- SOL_LANE_CLK_LO
  ⟨0x70, 0x0, 1, [⟨0, 32, .ro, 0, .any, false, false⟩]⟩,
  -- SOL_LANE_CLK_HI
  ⟨0x74, 0x0, 1, [⟨0, 32, .ro, 0, .any, false, false⟩]⟩,
  -- SOL_PS_STATE
  ⟨0x80, 0x10, 8, [⟨16, 10, .ro, 0, .any, false, false⟩, ⟨8, 8, .ro, 0, .any, false, false⟩, ⟨4, 3, .ro, 0, .any, false, false⟩, ⟨0, 3, .ro, 0, .any, false, false⟩]⟩,
  -- SOL_PS_ID
  ⟨0x84, 0x10, 8, [⟨0, 32, .ro, 0, .any, false, false⟩]⟩,
  -- SOL_PS_DIM
  ⟨0x88, 0x10, 8, [⟨18, 2, .ro, 0, .any, false, false⟩, ⟨16, 2, .ro, 0, .any, false, false⟩, ⟨0, 16, .ro, 0, .any, false, false⟩]⟩,
  -- SOL_PS_NNZ
  ⟨0x8C, 0x10, 8, [⟨0, 32, .ro, 0, .any, false, false⟩]⟩,
  -- SOL_TEST
  ⟨0x100, 0x0, 1, [⟨16, 16, .ro, 0, .any, false, false⟩, ⟨8, 4, .ro, 0, .any, false, false⟩, ⟨4, 1, .ro, 0, .any, false, false⟩, ⟨0, 2, .ro, 0, .any, false, false⟩]⟩,
  -- SOL_OVF_INFO
  ⟨0x104, 0x0, 1, [⟨31, 1, .w1c, 0, .any, false, false⟩, ⟨30, 1, .ro, 0, .any, false, false⟩, ⟨24, 4, .ro, 0, .any, false, false⟩, ⟨16, 3, .ro, 0, .any, false, false⟩, ⟨0, 16, .ro, 0, .any, false, false⟩]⟩,
  -- SOL_FAULT_CNT
  ⟨0x108, 0x0, 1, [⟨16, 16, .rc, 0, .any, false, false⟩, ⟨0, 16, .rc, 0, .any, false, false⟩]⟩,
  -- SOL_PIV
  ⟨0x120, 0x4, 8, [⟨16, 16, .ro, 0, .any, false, false⟩, ⟨0, 16, .ro, 0, .any, false, false⟩]⟩,
  -- SOL_FACT
  ⟨0x140, 0x4, 8, [⟨31, 1, .ro, 0, .any, false, false⟩, ⟨30, 1, .ro, 0, .any, false, false⟩, ⟨29, 1, .ro, 0, .any, false, false⟩, ⟨28, 1, .ro, 0, .any, false, false⟩, ⟨0, 17, .ro, 0, .any, false, false⟩]⟩]

/-- Block-specific registers of the table pages jobTable. -/
def jobTableRows : List RegRow := [
  -- SOL_JOB_CTL
  ⟨0x0, 0x400, 4, [⟨31, 1, .w1s, 0, .any, false, false⟩, ⟨0, 18, .ro, 0, .any, false, false⟩]⟩,
  -- SOL_JOB_STATE
  ⟨0x4, 0x400, 4, [⟨16, 1, .ro, 0, .any, false, true⟩, ⟨8, 8, .ro, 0, .any, false, true⟩, ⟨4, 4, .ro, 0, .any, false, false⟩, ⟨0, 2, .ro, 0, .any, false, false⟩]⟩,
  -- SOL_JOB_SEQ
  ⟨0x8, 0x400, 4, [⟨0, 32, .ro, 0, .any, false, false⟩]⟩,
  -- SOL_JOB_RESULT
  ⟨0xC, 0x400, 4, [⟨0, 32, .ro, 0, .any, false, false⟩]⟩,
  -- SOL_JOB_ITER
  ⟨0x10, 0x400, 4, [⟨0, 32, .ro, 0, .any, false, false⟩]⟩,
  -- SOL_JOB_BOUND_LO
  ⟨0x14, 0x400, 4, [⟨0, 32, .ro, 0, .any, false, false⟩]⟩,
  -- SOL_JOB_BOUND_HI
  ⟨0x18, 0x400, 4, [⟨0, 32, .ro, 0, .any, false, false⟩]⟩,
  -- SOL_JOB_END_LO
  ⟨0x1C, 0x400, 4, [⟨0, 32, .ro, 0, .any, false, false⟩]⟩,
  -- SOL_JOB_END_HI
  ⟨0x20, 0x400, 4, [⟨0, 32, .ro, 0, .any, false, false⟩]⟩,
  -- SOL_JOB_RSEQ
  ⟨0x24, 0x400, 4, [⟨0, 32, .ro, 0, .any, false, false⟩]⟩,
  -- SOL_JOB_WAIT
  ⟨0x28, 0x400, 4, [⟨0, 32, .ro, 0, .any, false, false⟩]⟩,
  -- SOL_JOB_RUN
  ⟨0x2C, 0x400, 4, [⟨0, 32, .ro, 0, .any, false, false⟩]⟩,
  -- SOL_JOB_MAP
  ⟨0x30, 0x400, 4, [⟨0, 13, .ro, 0, .any, false, true⟩]⟩]

/-- Block-specific registers of page CH. -/
def chRows : List RegRow := [
  -- CH_MODE
  ⟨0x40, 0x0, 1, [⟨10, 2, .rwl, 0, .range 0 2, false, true⟩, ⟨9, 1, .rwl, 0, .any, false, true⟩, ⟨8, 1, .rwl, 0, .any, false, true⟩, ⟨0, 4, .rwl, 0, .range 0 10, false, true⟩]⟩,
  -- CH_AI_CFG
  ⟨0x44, 0x0, 1, [⟨16, 6, .rwl, 0, .any, false, true⟩, ⟨8, 8, .rwl, 0, .any, false, true⟩, ⟨4, 2, .rwl, 0, .any, false, true⟩, ⟨0, 3, .rwl, 0, .any, false, true⟩]⟩,
  -- CH_AO_CFG
  ⟨0x48, 0x0, 1, [⟨16, 16, .rwl, 100, .range 10 10000, false, true⟩, ⟨0, 1, .rwl, 0, .any, false, true⟩]⟩,
  -- CH_DI_CFG
  ⟨0x4C, 0x0, 1, [⟨16, 1, .rwl, 0, .any, false, true⟩, ⟨8, 6, .rwl, 0, .range 0 63, false, true⟩, ⟨0, 3, .rwl, 0, .any, false, true⟩]⟩,
  -- CH_DO_CFG
  ⟨0x50, 0x0, 1, [⟨2, 1, .rwl, 0, .any, false, true⟩, ⟨0, 2, .rwl, 0, .range 0 1, false, true⟩]⟩,
  -- CH_SUBST
  ⟨0x54, 0x0, 1, [⟨0, 2, .rwl, 0, .range 0 2, false, true⟩]⟩,
  -- CH_SUBST_VAL
  ⟨0x58, 0x0, 1, [⟨0, 32, .rwl, 0, .any, false, true⟩]⟩,
  -- CH_STAT
  ⟨0x5C, 0x0, 1, [⟨22, 5, .ro, 0, .any, false, false⟩, ⟨20, 2, .ro, 2, .any, false, false⟩, ⟨19, 1, .ro, 0, .any, false, false⟩, ⟨18, 1, .ro, 0, .any, false, false⟩, ⟨17, 1, .ro, 0, .any, false, false⟩, ⟨16, 1, .ro, 0, .any, false, false⟩, ⟨15, 1, .w1c, 0, .any, false, false⟩, ⟨14, 1, .ro, 0, .any, false, false⟩, ⟨13, 1, .ro, 0, .any, false, false⟩, ⟨12, 1, .ro, 0, .any, false, false⟩, ⟨11, 1, .ro, 0, .any, false, false⟩, ⟨10, 1, .ro, 0, .any, false, false⟩, ⟨9, 1, .ro, 0, .any, false, false⟩, ⟨8, 1, .w1c, 0, .any, false, false⟩, ⟨7, 1, .ro, 0, .any, false, false⟩, ⟨0, 4, .ro, 0, .any, false, false⟩]⟩,
  -- CH_VALUE
  ⟨0x60, 0x0, 1, [⟨0, 32, .ro, 0, .any, false, false⟩]⟩,
  -- CH_RAW
  ⟨0x64, 0x0, 1, [⟨0, 32, .ro, 0, .any, false, false⟩]⟩,
  -- CH_TIME_LO
  ⟨0x68, 0x0, 1, [⟨0, 32, .ro, 0, .any, false, false⟩]⟩,
  -- CH_TIME_HI
  ⟨0x6C, 0x0, 1, [⟨0, 32, .ro, 0, .any, false, false⟩]⟩,
  -- CH_OUT
  ⟨0x70, 0x0, 1, [⟨0, 32, .ro, 0, .any, false, false⟩]⟩,
  -- CH_SUPPLY
  ⟨0x74, 0x0, 1, [⟨16, 16, .ro, 0, .any, false, false⟩, ⟨0, 16, .ro, 0, .any, false, false⟩]⟩,
  -- CH_FAULT
  ⟨0x78, 0x0, 1, [⟨24, 8, .rc, 0, .any, false, false⟩, ⟨16, 8, .rc, 0, .any, false, false⟩, ⟨8, 8, .rc, 0, .any, false, false⟩, ⟨0, 5, .ro, 0, .any, false, false⟩]⟩,
  -- CH_CMD
  ⟨0x7C, 0x0, 1, [⟨0, 3, .wo, 0, .range 0 7, true, false⟩]⟩,
  -- CH_RES
  ⟨0x80, 0x0, 1, [⟨0, 8, .ro, 0, .any, false, false⟩]⟩,
  -- CH_CAL_REF
  ⟨0x84, 0x0, 1, [⟨0, 32, .rw, 0, .any, false, false⟩]⟩,
  -- CH_TRIM_ZERO
  ⟨0x88, 0x0, 1, [⟨0, 32, .ro, 0, .any, false, true⟩]⟩,
  -- CH_TRIM_GAIN
  ⟨0x8C, 0x0, 1, [⟨0, 32, .ro, 1065353216, .any, false, true⟩]⟩,
  -- CH_CAL_DATE
  ⟨0x90, 0x0, 1, [⟨0, 32, .ro, 0, .any, false, true⟩]⟩,
  -- CH_CAL_INFO
  ⟨0x94, 0x0, 1, [⟨30, 2, .ro, 0, .any, false, true⟩, ⟨22, 8, .ro, 0, .any, false, true⟩, ⟨0, 22, .ro, 0, .any, false, true⟩]⟩,
  -- CH_TP_STAT
  ⟨0x98, 0x0, 1, [⟨24, 8, .rc, 0, .any, false, false⟩, ⟨15, 1, .ro, 0, .any, false, false⟩, ⟨8, 6, .ro, 0, .any, false, false⟩, ⟨0, 8, .ro, 0, .any, false, false⟩]⟩]

/-- Block-specific registers of page CHG. -/
def chgRows : List RegRow := [
  -- CHG_FP_STAT
  ⟨0x40, 0x0, 1, [⟨4, 1, .ro, 0, .any, false, false⟩, ⟨3, 1, .ro, 0, .any, false, false⟩, ⟨2, 1, .ro, 0, .any, false, false⟩, ⟨1, 1, .ro, 0, .any, false, false⟩, ⟨0, 1, .ro, 0, .any, false, false⟩]⟩,
  -- CHG_FP_V
  ⟨0x44, 0x0, 1, [⟨16, 16, .ro, 0, .any, false, false⟩, ⟨0, 16, .ro, 0, .any, false, false⟩]⟩,
  -- CHG_FP_LOAD
  ⟨0x48, 0x0, 1, [⟨16, 16, .ro, 0, .any, false, false⟩, ⟨0, 16, .ro, 0, .any, false, false⟩]⟩,
  -- CHG_CMD
  ⟨0x4C, 0x0, 1, [⟨0, 1, .rwl, 0, .any, false, false⟩]⟩,
  -- CHG_TP
  ⟨0x50, 0x0, 1, [⟨8, 24, .ro, 0, .any, false, false⟩, ⟨0, 6, .ro, 0, .any, false, false⟩]⟩,
  -- CHG_CFG_REF
  ⟨0x54, 0x0, 1, [⟨16, 1, .ro, 0, .any, false, false⟩, ⟨8, 8, .ro, 0, .any, false, false⟩, ⟨0, 6, .ro, 0, .any, false, false⟩]⟩,
  -- CHG_FAULT_LO
  ⟨0x60, 0x0, 1, [⟨0, 32, .ro, 0, .any, false, false⟩]⟩,
  -- CHG_FAULT_HI
  ⟨0x64, 0x0, 1, [⟨0, 32, .ro, 0, .any, false, false⟩]⟩,
  -- CHG_COMP_LO
  ⟨0x68, 0x0, 1, [⟨0, 32, .ro, 0, .any, false, false⟩]⟩,
  -- CHG_COMP_HI
  ⟨0x6C, 0x0, 1, [⟨0, 32, .ro, 0, .any, false, false⟩]⟩,
  -- CHG_TPF_LO
  ⟨0x70, 0x0, 1, [⟨0, 32, .ro, 0, .any, false, false⟩]⟩,
  -- CHG_TPF_HI
  ⟨0x74, 0x0, 1, [⟨0, 32, .ro, 0, .any, false, false⟩]⟩,
  -- CHG_ISL_LO
  ⟨0x78, 0x0, 1, [⟨0, 32, .ro, 0, .any, false, false⟩]⟩,
  -- CHG_ISL_HI
  ⟨0x7C, 0x0, 1, [⟨0, 32, .ro, 0, .any, false, false⟩]⟩]

/-- Block-specific registers of page HRT. -/
def hrtRows : List RegRow := [
  -- HRT_POOL
  ⟨0x40, 0x0, 1, [⟨24, 5, .ro, 0, .any, false, false⟩, ⟨16, 5, .ro, 0, .any, false, false⟩, ⟨8, 5, .ro, 0, .any, false, false⟩, ⟨0, 5, .ro, 0, .any, false, false⟩]⟩,
  -- HRT_MODEM_MAP
  ⟨0x44, 0x0, 1, [⟨16, 16, .ro, 0, .any, false, false⟩, ⟨0, 16, .ro, 0, .any, false, false⟩]⟩,
  -- HRT_CFG
  ⟨0x48, 0x0, 1, [⟨24, 5, .rwl, 5, .range 5 20, false, true⟩, ⟨16, 4, .rwl, 2, .range 0 5, false, true⟩, ⟨0, 16, .rwl, 300, .range 100 1000, false, true⟩]⟩,
  -- HRT_WAIT
  ⟨0x4C, 0x0, 1, [⟨0, 16, .rwl, 10000, .range 100 60000, false, true⟩]⟩,
  -- HRT_CFG_RES
  ⟨0x50, 0x0, 1, [⟨8, 6, .ro, 0, .any, false, false⟩, ⟨0, 8, .ro, 0, .any, false, false⟩]⟩,
  -- HRT_CH_CFG
  ⟨0x80, 0x8, 64, [⟨16, 16, .rwl, 4000, .range 3800 23000, false, true⟩, ⟨8, 8, .rwl, 0, .any, false, true⟩, ⟨4, 4, .rwl, 0, .any, false, true⟩, ⟨0, 2, .rwl, 0, .range 0 2, false, true⟩]⟩,
  -- HRT_CH_STAT
  ⟨0x84, 0x8, 64, [⟨24, 8, .rc, 0, .any, false, false⟩, ⟨16, 8, .rc, 0, .any, false, false⟩, ⟨5, 1, .ro, 0, .any, false, false⟩, ⟨4, 1, .ro, 0, .any, false, false⟩, ⟨0, 4, .ro, 0, .any, false, false⟩]⟩,
  -- HRT_T_CTL
  ⟨0x400, 0x90, 16, [⟨24, 8, .rw, 0, .range 0 112, false, false⟩, ⟨16, 8, .rw, 0, .any, false, false⟩, ⟨8, 6, .rw, 0, .any, false, false⟩, ⟨4, 4, .rw, 0, .any, false, false⟩, ⟨2, 1, .rw, 0, .any, false, false⟩, ⟨1, 1, .wo, 0, .any, false, false⟩, ⟨0, 1, .wo, 0, .any, false, false⟩]⟩,
  -- HRT_T_DEVID
  ⟨0x404, 0x90, 16, [⟨0, 24, .rw, 0, .any, false, false⟩]⟩,
  -- HRT_T_DEVTYPE
  ⟨0x408, 0x90, 16, [⟨0, 16, .rw, 0, .any, false, false⟩]⟩,
  -- HRT_T_STAT
  ⟨0x40C, 0x90, 16, [⟨16, 8, .ro, 0, .any, false, false⟩, ⟨8, 8, .ro, 0, .any, false, false⟩, ⟨4, 4, .ro, 0, .any, false, false⟩, ⟨3, 1, .w1c, 0, .any, false, false⟩, ⟨0, 2, .ro, 0, .any, false, false⟩]⟩,
  -- HRT_T_RSTAT
  ⟨0x410, 0x90, 16, [⟨16, 4, .ro, 0, .any, false, false⟩, ⟨8, 8, .ro, 0, .any, false, false⟩, ⟨0, 8, .ro, 0, .any, false, false⟩]⟩,
  -- HRT_T_END_LO
  ⟨0x414, 0x90, 16, [⟨0, 32, .ro, 0, .any, false, false⟩]⟩,
  -- HRT_T_END_HI
  ⟨0x418, 0x90, 16, [⟨0, 32, .ro, 0, .any, false, false⟩]⟩,
  -- HRT_T_DATA
  ⟨0x420, 0x4, 28, [⟨0, 32, .rw, 0, .any, false, false⟩]⟩,
  -- HRT_T_DATA
  ⟨0x4B0, 0x4, 28, [⟨0, 32, .rw, 0, .any, false, false⟩]⟩,
  -- HRT_T_DATA
  ⟨0x540, 0x4, 28, [⟨0, 32, .rw, 0, .any, false, false⟩]⟩,
  -- HRT_T_DATA
  ⟨0x5D0, 0x4, 28, [⟨0, 32, .rw, 0, .any, false, false⟩]⟩,
  -- HRT_T_DATA
  ⟨0x660, 0x4, 28, [⟨0, 32, .rw, 0, .any, false, false⟩]⟩,
  -- HRT_T_DATA
  ⟨0x6F0, 0x4, 28, [⟨0, 32, .rw, 0, .any, false, false⟩]⟩,
  -- HRT_T_DATA
  ⟨0x780, 0x4, 28, [⟨0, 32, .rw, 0, .any, false, false⟩]⟩,
  -- HRT_T_DATA
  ⟨0x810, 0x4, 28, [⟨0, 32, .rw, 0, .any, false, false⟩]⟩,
  -- HRT_T_DATA
  ⟨0x8A0, 0x4, 28, [⟨0, 32, .rw, 0, .any, false, false⟩]⟩,
  -- HRT_T_DATA
  ⟨0x930, 0x4, 28, [⟨0, 32, .rw, 0, .any, false, false⟩]⟩,
  -- HRT_T_DATA
  ⟨0x9C0, 0x4, 28, [⟨0, 32, .rw, 0, .any, false, false⟩]⟩,
  -- HRT_T_DATA
  ⟨0xA50, 0x4, 28, [⟨0, 32, .rw, 0, .any, false, false⟩]⟩,
  -- HRT_T_DATA
  ⟨0xAE0, 0x4, 28, [⟨0, 32, .rw, 0, .any, false, false⟩]⟩,
  -- HRT_T_DATA
  ⟨0xB70, 0x4, 28, [⟨0, 32, .rw, 0, .any, false, false⟩]⟩,
  -- HRT_T_DATA
  ⟨0xC00, 0x4, 28, [⟨0, 32, .rw, 0, .any, false, false⟩]⟩,
  -- HRT_T_DATA
  ⟨0xC90, 0x4, 28, [⟨0, 32, .rw, 0, .any, false, false⟩]⟩]

/-- Block-specific registers of page SAF. -/
def safRows : List RegRow := [
  -- SAF_STATE
  ⟨0x40, 0x0, 1, [⟨24, 8, .ro, 0, .any, false, true⟩, ⟨23, 1, .ro, 0, .any, false, true⟩, ⟨16, 6, .ro, 0, .any, false, true⟩, ⟨9, 1, .ro, 0, .any, false, false⟩, ⟨8, 1, .ro, 0, .any, false, false⟩, ⟨5, 1, .ro, 0, .any, false, false⟩, ⟨4, 1, .ro, 0, .any, false, false⟩, ⟨0, 2, .ro, 0, .any, false, true⟩]⟩,
  -- SAF_CAUSES
  ⟨0x44, 0x0, 1, [⟨1, 14, .ro, 0, .any, false, true⟩]⟩,
  -- SAF_CLEARED
  ⟨0x48, 0x0, 1, [⟨1, 14, .ro, 0, .any, false, false⟩]⟩,
  -- SAF_LOCK_TIME_LO
  ⟨0x4C, 0x0, 1, [⟨0, 32, .ro, 0, .any, false, true⟩]⟩,
  -- SAF_LOCK_TIME_HI
  ⟨0x50, 0x0, 1, [⟨0, 32, .ro, 0, .any, false, true⟩]⟩,
  -- SAF_LOCK_CNT
  ⟨0x54, 0x0, 1, [⟨0, 32, .ro, 0, .any, false, true⟩]⟩,
  -- SAF_CYCLE
  ⟨0x58, 0x0, 1, [⟨16, 16, .ro, 0, .any, false, false⟩, ⟨0, 16, .ro, 0, .any, false, false⟩]⟩,
  -- SAF_CYC_CNT
  ⟨0x5C, 0x0, 1, [⟨0, 32, .ro, 0, .any, false, false⟩]⟩,
  -- SAF_CFG_CRC
  ⟨0x60, 0x0, 1, [⟨0, 32, .ro, 0, .any, false, false⟩]⟩,
  -- SAF_NONCE
  ⟨0x64, 0x0, 1, [⟨0, 32, .ro, 0, .any, false, true⟩]⟩,
  -- SAF_RESET_RES
  ⟨0x68, 0x0, 1, [⟨8, 2, .ro, 0, .any, false, false⟩, ⟨0, 8, .ro, 0, .any, false, false⟩]⟩,
  -- SAF_CLOCK
  ⟨0x6C, 0x0, 1, [⟨1, 1, .ro, 0, .any, false, false⟩, ⟨0, 1, .ro, 0, .any, false, false⟩]⟩,
  -- SAF_TEST
  ⟨0x70, 0x0, 1, [⟨16, 16, .ro, 0, .any, false, false⟩, ⟨8, 2, .ro, 0, .any, false, false⟩]⟩,
  -- SAF_TEST_AGE
  ⟨0x74, 0x0, 1, [⟨0, 32, .ro, 0, .any, false, false⟩]⟩,
  -- SAF_OWN_LO
  ⟨0x78, 0x0, 1, [⟨0, 32, .ro, 0, .any, false, false⟩]⟩,
  -- SAF_OWN_HI
  ⟨0x7C, 0x0, 1, [⟨0, 32, .ro, 0, .any, false, false⟩]⟩,
  -- SAF_IN_LO
  ⟨0x80, 0x0, 1, [⟨0, 32, .ro, 0, .any, false, false⟩]⟩,
  -- SAF_IN_HI
  ⟨0x84, 0x0, 1, [⟨0, 32, .ro, 0, .any, false, false⟩]⟩,
  -- SAF_OUT_LO
  ⟨0x88, 0x0, 1, [⟨0, 32, .ro, 0, .any, false, false⟩]⟩,
  -- SAF_OUT_HI
  ⟨0x8C, 0x0, 1, [⟨0, 32, .ro, 0, .any, false, false⟩]⟩,
  -- SAF_HOLD_LO
  ⟨0x90, 0x0, 1, [⟨0, 32, .ro, 0, .any, false, false⟩]⟩,
  -- SAF_HOLD_HI
  ⟨0x94, 0x0, 1, [⟨0, 32, .ro, 0, .any, false, false⟩]⟩,
  -- SAF_CHFLT_LO
  ⟨0x98, 0x0, 1, [⟨0, 32, .ro, 0, .any, false, false⟩]⟩,
  -- SAF_CHFLT_HI
  ⟨0x9C, 0x0, 1, [⟨0, 32, .ro, 0, .any, false, false⟩]⟩,
  -- SAF_STATUS
  ⟨0x100, 0x4, 32, [⟨0, 32, .ro, 0, .any, false, false⟩]⟩]

/-- Block-specific registers of page LNK. -/
def lnkRows : List RegRow := [
  -- LNK_CFG
  ⟨0x40, 0x0, 1, [⟨16, 8, .ro, 0, .any, false, true⟩, ⟨9, 1, .ro, 0, .any, false, true⟩, ⟨8, 1, .ro, 0, .any, false, true⟩, ⟨0, 2, .ro, 0, .any, false, true⟩]⟩,
  -- LNK_STAT
  ⟨0x44, 0x0, 1, [⟨24, 8, .ro, 0, .any, false, false⟩, ⟨16, 8, .ro, 0, .any, false, false⟩, ⟨8, 8, .ro, 0, .any, false, false⟩, ⟨4, 2, .ro, 0, .any, false, false⟩, ⟨1, 1, .ro, 0, .any, false, false⟩, ⟨0, 1, .ro, 0, .any, false, false⟩]⟩,
  -- LNK_CMD
  ⟨0x48, 0x0, 1, [⟨8, 8, .rwl, 0, .any, false, false⟩, ⟨0, 2, .rwl, 0, .range 0 2, false, false⟩]⟩,
  -- LNK_CMD_RES
  ⟨0x4C, 0x0, 1, [⟨0, 8, .ro, 0, .any, false, false⟩]⟩,
  -- LNK_HELD_CNT
  ⟨0x50, 0x0, 1, [⟨0, 32, .rc, 0, .any, false, false⟩]⟩,
  -- LNK_DOWN_CNT
  ⟨0x54, 0x0, 1, [⟨0, 32, .rc, 0, .any, false, false⟩]⟩,
  -- LNK_FCS_A
  ⟨0x58, 0x0, 1, [⟨0, 32, .rc, 0, .any, false, false⟩]⟩,
  -- LNK_FCS_B
  ⟨0x5C, 0x0, 1, [⟨0, 32, .rc, 0, .any, false, false⟩]⟩,
  -- LNK_STRAY_CNT
  ⟨0x60, 0x0, 1, [⟨0, 32, .rc, 0, .any, false, false⟩]⟩,
  -- LNK_RING_CNT
  ⟨0x64, 0x0, 1, [⟨0, 32, .rc, 0, .any, false, false⟩]⟩,
  -- LNK_LATE_CNT
  ⟨0x68, 0x0, 1, [⟨0, 32, .rc, 0, .any, false, false⟩]⟩,
  -- LNK_SEG_CFG
  ⟨0x80, 0x20, 2, [⟨8, 1, .ro, 0, .any, false, true⟩, ⟨0, 8, .ro, 0, .any, false, true⟩]⟩,
  -- LNK_SEG_APPLY
  ⟨0x84, 0x20, 2, [⟨0, 32, .ro, 0, .any, false, true⟩]⟩,
  -- LNK_SEG_TOUT
  ⟨0x88, 0x20, 2, [⟨0, 32, .ro, 0, .any, false, false⟩]⟩,
  -- LNK_SEG_TIN
  ⟨0x8C, 0x20, 2, [⟨0, 32, .ro, 0, .any, false, false⟩]⟩,
  -- LNK_SEG_D
  ⟨0x90, 0x20, 2, [⟨0, 32, .ro, 0, .any, false, false⟩]⟩,
  -- LNK_SEG_MIN
  ⟨0x94, 0x20, 2, [⟨0, 32, .ro, 0, .any, false, false⟩]⟩,
  -- LNK_SEG_SEQ
  ⟨0x98, 0x20, 2, [⟨0, 32, .ro, 0, .any, false, false⟩]⟩,
  -- LNK_ST_STATE
  ⟨0x400, 0x8, 128, [⟨24, 8, .ro, 0, .any, false, false⟩, ⟨20, 4, .ro, 0, .any, false, false⟩, ⟨16, 4, .ro, 0, .any, false, false⟩, ⟨12, 4, .ro, 0, .any, false, false⟩, ⟨9, 1, .ro, 0, .any, false, false⟩, ⟨8, 1, .ro, 0, .any, false, false⟩, ⟨0, 3, .ro, 0, .any, false, false⟩]⟩,
  -- LNK_ST_DELAY
  ⟨0x404, 0x8, 128, [⟨16, 16, .ro, 0, .any, false, false⟩, ⟨0, 16, .ro, 0, .any, false, false⟩]⟩,
  -- LNK_ST_CNT
  ⟨0x800, 0x4, 128, [⟨16, 16, .rc, 0, .any, false, false⟩, ⟨0, 16, .rc, 0, .any, false, false⟩]⟩]

/-- Block-specific registers of page NET. -/
def netRows : List RegRow := [
  -- NET_CFG
  ⟨0x40, 0x0, 1, [⟨16, 16, .rwl, 49613, .any, false, true⟩, ⟨0, 1, .rwl, 0, .any, false, true⟩]⟩,
  -- NET_IP_ADDR
  ⟨0x44, 0x0, 1, [⟨0, 32, .rwl, 0, .any, false, true⟩]⟩,
  -- NET_IP_MASK
  ⟨0x48, 0x0, 1, [⟨0, 32, .rwl, 0, .any, false, true⟩]⟩,
  -- NET_IP_GW
  ⟨0x4C, 0x0, 1, [⟨0, 32, .rwl, 0, .any, false, true⟩]⟩,
  -- NET_MAC_LO
  ⟨0x50, 0x0, 1, [⟨0, 32, .ro, 0, .any, false, true⟩]⟩,
  -- NET_MAC_HI
  ⟨0x54, 0x0, 1, [⟨0, 32, .ro, 0, .any, false, true⟩]⟩,
  -- NET_SESS_MAP
  ⟨0x58, 0x0, 1, [⟨0, 16, .ro, 0, .any, false, false⟩]⟩,
  -- NET_DROP_CNT
  ⟨0x5C, 0x0, 1, [⟨0, 32, .rc, 0, .any, false, false⟩]⟩,
  -- NET_REFUSE_CNT
  ⟨0x60, 0x0, 1, [⟨0, 32, .rc, 0, .any, false, false⟩]⟩,
  -- NET_FRAG_CNT
  ⟨0x64, 0x0, 1, [⟨0, 32, .rc, 0, .any, false, false⟩]⟩,
  -- NET_SESS_INFO
  ⟨0x80, 0x8, 16, [⟨24, 4, .ro, 0, .any, false, false⟩, ⟨16, 2, .ro, 0, .any, false, false⟩, ⟨0, 16, .ro, 0, .any, false, false⟩]⟩,
  -- NET_SESS_PEER
  ⟨0x84, 0x8, 16, [⟨0, 32, .ro, 0, .any, false, false⟩]⟩]

/-- Block-specific registers of page PRP. -/
def prpRows : List RegRow := [
  -- PRP_CFG
  ⟨0x40, 0x0, 1, [⟨16, 8, .rwl, 60, .range 10 255, false, true⟩, ⟨0, 16, .rwl, 2000, .range 500 10000, false, true⟩]⟩,
  -- PRP_STAT
  ⟨0x44, 0x0, 1, [⟨16, 10, .ro, 0, .any, false, false⟩, ⟨1, 1, .ro, 0, .any, false, false⟩, ⟨0, 1, .ro, 0, .any, false, false⟩]⟩,
  -- PRP_RX_A
  ⟨0x48, 0x0, 1, [⟨0, 32, .rc, 0, .any, false, false⟩]⟩,
  -- PRP_RX_B
  ⟨0x4C, 0x0, 1, [⟨0, 32, .rc, 0, .any, false, false⟩]⟩,
  -- PRP_DUP_CNT
  ⟨0x50, 0x0, 1, [⟨0, 32, .rc, 0, .any, false, false⟩]⟩,
  -- PRP_WRONG_A
  ⟨0x54, 0x0, 1, [⟨0, 32, .rc, 0, .any, false, false⟩]⟩,
  -- PRP_WRONG_B
  ⟨0x58, 0x0, 1, [⟨0, 32, .rc, 0, .any, false, false⟩]⟩,
  -- PRP_MISS_A
  ⟨0x5C, 0x0, 1, [⟨0, 32, .rc, 0, .any, false, false⟩]⟩,
  -- PRP_MISS_B
  ⟨0x60, 0x0, 1, [⟨0, 32, .rc, 0, .any, false, false⟩]⟩]

/-- Block-specific registers of page PTP. -/
def ptpRows : List RegRow := [
  -- PTP_CFG
  ⟨0x40, 0x0, 1, [⟨24, 8, .rwl, 0, .range 0 127, false, true⟩, ⟨20, 4, .rwl, 3, .range 2 10, false, true⟩, ⟨17, 1, .rwl, 1, .any, false, true⟩, ⟨8, 2, .rwl, 0, .range 0 1, false, true⟩, ⟨4, 1, .rwl, 0, .any, false, true⟩, ⟨0, 1, .rwl, 0, .any, false, true⟩]⟩,
  -- PTP_INTV
  ⟨0x44, 0x0, 1, [⟨24, 8, .rwl, 1, .range 0 4, false, true⟩, ⟨16, 8, .rwl, 0, .oneOf [255, 0, 1], false, true⟩, ⟨8, 8, .rwl, 0, .range 0 5, false, true⟩, ⟨0, 8, .rwl, 0, .range 0 5, false, true⟩]⟩,
  -- PTP_PRIO
  ⟨0x48, 0x0, 1, [⟨24, 8, .rwl, 248, .any, false, true⟩, ⟨16, 8, .rwl, 248, .any, false, true⟩, ⟨8, 8, .rwl, 128, .any, false, true⟩, ⟨0, 8, .rwl, 128, .any, false, true⟩]⟩,
  -- PTP_STAT
  ⟨0x4C, 0x0, 1, [⟨16, 8, .ro, 0, .any, false, false⟩, ⟨9, 1, .ro, 0, .any, false, false⟩, ⟨8, 1, .ro, 0, .any, false, false⟩, ⟨4, 4, .ro, 0, .any, false, false⟩, ⟨0, 4, .ro, 0, .any, false, false⟩]⟩,
  -- PTP_GM_LO
  ⟨0x50, 0x0, 1, [⟨0, 32, .ro, 0, .any, false, false⟩]⟩,
  -- PTP_GM_HI
  ⟨0x54, 0x0, 1, [⟨0, 32, .ro, 0, .any, false, false⟩]⟩,
  -- PTP_MPD
  ⟨0x58, 0x0, 1, [⟨0, 32, .ro, 0, .any, false, false⟩]⟩,
  -- PTP_OFS_A
  ⟨0x5C, 0x0, 1, [⟨0, 32, .ro, 0, .any, false, false⟩]⟩,
  -- PTP_OFS_B
  ⟨0x60, 0x0, 1, [⟨0, 32, .ro, 0, .any, false, false⟩]⟩,
  -- PTP_UTC
  ⟨0x64, 0x0, 1, [⟨16, 1, .ro, 0, .any, false, false⟩, ⟨0, 16, .ro, 0, .any, false, false⟩]⟩,
  -- PTP_SYNC_CNT
  ⟨0x68, 0x0, 1, [⟨0, 32, .rc, 0, .any, false, false⟩]⟩,
  -- PTP_ANN_TO_CNT
  ⟨0x6C, 0x0, 1, [⟨0, 32, .rc, 0, .any, false, false⟩]⟩]

/-- Block-specific registers of page CAN. -/
def canRows : List RegRow := [
  -- CAN_MODE
  ⟨0x40, 0x0, 1, [⟨8, 1, .ro, 0, .any, false, true⟩, ⟨5, 1, .rwl, 0, .any, false, true⟩, ⟨4, 1, .rwl, 0, .any, false, true⟩, ⟨3, 1, .rwl, 1, .any, false, true⟩, ⟨2, 1, .rwl, 0, .any, false, true⟩, ⟨0, 2, .rwl, 0, .range 0 2, false, true⟩]⟩,
  -- CAN_NBT
  ⟨0x44, 0x0, 1, [⟨27, 5, .rwl, 1, .any, false, true⟩, ⟨21, 6, .rwl, 46, .any, false, true⟩, ⟨16, 5, .rwl, 15, .any, false, true⟩, ⟨11, 5, .rwl, 15, .range 1 31, false, true⟩, ⟨6, 5, .rwl, 15, .any, false, true⟩]⟩,
  -- CAN_DBT
  ⟨0x48, 0x0, 1, [⟨29, 3, .rwl, 0, .any, false, true⟩, ⟨24, 5, .rwl, 15, .range 0 16, false, true⟩, ⟨20, 4, .rwl, 15, .any, false, true⟩, ⟨16, 4, .rwl, 7, .any, false, true⟩, ⟨12, 4, .rwl, 7, .any, false, true⟩]⟩,
  -- CAN_TDC
  ⟨0x4C, 0x0, 1, [⟨31, 1, .rwl, 0, .any, false, true⟩, ⟨16, 8, .rwl, 0, .any, false, true⟩, ⟨0, 8, .ro, 0, .any, false, false⟩]⟩,
  -- CAN_WARN
  ⟨0x50, 0x0, 1, [⟨8, 8, .rwl, 96, .range 1 255, false, true⟩, ⟨0, 8, .rwl, 96, .range 1 255, false, true⟩]⟩,
  -- CAN_ERR
  ⟨0x54, 0x0, 1, [⟨24, 4, .ro, 0, .any, false, false⟩, ⟨16, 8, .ro, 0, .any, false, false⟩, ⟨8, 8, .ro, 0, .any, false, false⟩, ⟨3, 1, .ro, 0, .any, false, false⟩, ⟨0, 3, .ro, 0, .any, false, false⟩]⟩,
  -- CAN_CMD
  ⟨0x58, 0x0, 1, [⟨0, 1, .wo, 0, .any, true, false⟩]⟩,
  -- CAN_RES
  ⟨0x5C, 0x0, 1, [⟨0, 8, .ro, 0, .any, false, false⟩]⟩,
  -- CAN_RX_NUM
  ⟨0x60, 0x0, 1, [⟨0, 32, .ro, 0, .any, false, false⟩]⟩,
  -- CAN_RX_BASE
  ⟨0x64, 0x0, 1, [⟨0, 32, .rw, 0, .any, false, false⟩]⟩,
  -- CAN_BUSOFF_CNT
  ⟨0x68, 0x0, 1, [⟨0, 32, .rc, 0, .any, false, false⟩]⟩,
  -- CAN_ERRFRM_CNT
  ⟨0x6C, 0x0, 1, [⟨0, 32, .rc, 0, .any, false, false⟩]⟩,
  -- CAN_PEX_CNT
  ⟨0x70, 0x0, 1, [⟨0, 32, .rc, 0, .any, false, false⟩]⟩,
  -- CAN_TX_LATE_CNT
  ⟨0x74, 0x0, 1, [⟨0, 32, .rc, 0, .any, false, false⟩]⟩,
  -- CAN_TX_DROP_CNT
  ⟨0x78, 0x0, 1, [⟨0, 32, .rc, 0, .any, false, false⟩]⟩,
  -- CAN_TX_STAT
  ⟨0x100, 0x4, 32, [⟨16, 16, .ro, 0, .any, false, false⟩, ⟨8, 8, .ro, 0, .any, false, false⟩, ⟨4, 1, .ro, 0, .any, false, false⟩, ⟨3, 1, .ro, 0, .any, false, false⟩, ⟨2, 1, .ro, 0, .any, false, false⟩, ⟨0, 2, .ro, 0, .any, false, false⟩]⟩,
  -- window entry NUM (R346)
  ⟨0x800, 0x80, 16, [⟨0, 32, .ro, 0, .any, false, false⟩]⟩,
  -- window entry ID (R346)
  ⟨0x804, 0x80, 16, [⟨0, 32, .ro, 0, .any, false, false⟩]⟩,
  -- window entry CTL (R346)
  ⟨0x808, 0x80, 16, [⟨0, 32, .ro, 0, .any, false, false⟩]⟩,
  -- window entry SOF_NS (R346)
  ⟨0x810, 0x80, 16, [⟨0, 32, .ro, 0, .any, false, false⟩]⟩,
  -- window entry SOF_SEC (R346)
  ⟨0x814, 0x80, 16, [⟨0, 32, .ro, 0, .any, false, false⟩]⟩,
  -- window entry DATA word 0 (R346)
  ⟨0x820, 0x80, 16, [⟨0, 32, .ro, 0, .any, false, false⟩]⟩,
  -- window entry DATA word 1 (R346)
  ⟨0x824, 0x80, 16, [⟨0, 32, .ro, 0, .any, false, false⟩]⟩,
  -- window entry DATA word 2 (R346)
  ⟨0x828, 0x80, 16, [⟨0, 32, .ro, 0, .any, false, false⟩]⟩,
  -- window entry DATA word 3 (R346)
  ⟨0x82C, 0x80, 16, [⟨0, 32, .ro, 0, .any, false, false⟩]⟩,
  -- window entry DATA word 4 (R346)
  ⟨0x830, 0x80, 16, [⟨0, 32, .ro, 0, .any, false, false⟩]⟩,
  -- window entry DATA word 5 (R346)
  ⟨0x834, 0x80, 16, [⟨0, 32, .ro, 0, .any, false, false⟩]⟩,
  -- window entry DATA word 6 (R346)
  ⟨0x838, 0x80, 16, [⟨0, 32, .ro, 0, .any, false, false⟩]⟩,
  -- window entry DATA word 7 (R346)
  ⟨0x83C, 0x80, 16, [⟨0, 32, .ro, 0, .any, false, false⟩]⟩,
  -- window entry DATA word 8 (R346)
  ⟨0x840, 0x80, 16, [⟨0, 32, .ro, 0, .any, false, false⟩]⟩,
  -- window entry DATA word 9 (R346)
  ⟨0x844, 0x80, 16, [⟨0, 32, .ro, 0, .any, false, false⟩]⟩,
  -- window entry DATA word 10 (R346)
  ⟨0x848, 0x80, 16, [⟨0, 32, .ro, 0, .any, false, false⟩]⟩,
  -- window entry DATA word 11 (R346)
  ⟨0x84C, 0x80, 16, [⟨0, 32, .ro, 0, .any, false, false⟩]⟩,
  -- window entry DATA word 12 (R346)
  ⟨0x850, 0x80, 16, [⟨0, 32, .ro, 0, .any, false, false⟩]⟩,
  -- window entry DATA word 13 (R346)
  ⟨0x854, 0x80, 16, [⟨0, 32, .ro, 0, .any, false, false⟩]⟩,
  -- window entry DATA word 14 (R346)
  ⟨0x858, 0x80, 16, [⟨0, 32, .ro, 0, .any, false, false⟩]⟩,
  -- window entry DATA word 15 (R346)
  ⟨0x85C, 0x80, 16, [⟨0, 32, .ro, 0, .any, false, false⟩]⟩]

/-- Block-specific registers of page RED. -/
def redRows : List RegRow := [
  -- RED_CFG
  ⟨0x40, 0x0, 1, [⟨16, 8, .rwl, 0, .any, false, true⟩, ⟨8, 8, .rwl, 0, .any, false, true⟩, ⟨0, 1, .rwl, 0, .any, false, true⟩]⟩,
  -- RED_TIMING
  ⟨0x44, 0x0, 1, [⟨16, 16, .rwl, 50, .range 20 1000, false, true⟩, ⟨0, 16, .rwl, 2000, .range 100 60000, false, true⟩]⟩,
  -- RED_STAT
  ⟨0x48, 0x0, 1, [⟨20, 4, .ro, 0, .any, false, false⟩, ⟨19, 1, .ro, 0, .any, false, false⟩, ⟨18, 1, .ro, 0, .any, false, false⟩, ⟨17, 1, .ro, 0, .any, false, false⟩, ⟨16, 1, .ro, 0, .any, false, false⟩, ⟨8, 1, .ro, 0, .any, false, false⟩, ⟨4, 3, .ro, 0, .any, false, false⟩, ⟨3, 1, .ro, 0, .any, false, true⟩, ⟨0, 2, .ro, 0, .any, false, false⟩]⟩,
  -- RED_CLAIM
  ⟨0x4C, 0x0, 1, [⟨0, 32, .ro, 0, .any, false, false⟩]⟩,
  -- RED_PCLAIM
  ⟨0x50, 0x0, 1, [⟨0, 32, .ro, 0, .any, false, false⟩]⟩,
  -- RED_APPLIED
  ⟨0x54, 0x0, 1, [⟨0, 32, .ro, 0, .any, false, false⟩]⟩,
  -- RED_ROUND
  ⟨0x58, 0x0, 1, [⟨0, 32, .ro, 0, .any, false, false⟩]⟩,
  -- RED_ROUND_INFO
  ⟨0x5C, 0x0, 1, [⟨2, 1, .ro, 0, .any, false, false⟩, ⟨1, 1, .ro, 0, .any, false, false⟩, ⟨0, 1, .ro, 0, .any, false, false⟩]⟩,
  -- RED_HEALTH
  ⟨0x60, 0x0, 1, [⟨8, 8, .ro, 0, .any, false, false⟩, ⟨0, 8, .ro, 0, .any, false, false⟩]⟩,
  -- RED_CMD
  ⟨0x64, 0x0, 1, [⟨0, 2, .rwl, 0, .range 0 3, false, false⟩]⟩,
  -- RED_RES
  ⟨0x68, 0x0, 1, [⟨0, 8, .ro, 0, .any, false, false⟩]⟩,
  -- RED_TAKEOVER_CNT
  ⟨0x6C, 0x0, 1, [⟨0, 32, .rc, 0, .any, false, false⟩]⟩,
  -- RED_DEMOTE_CNT
  ⟨0x70, 0x0, 1, [⟨0, 32, .rc, 0, .any, false, false⟩]⟩,
  -- RED_DIVERGE_CNT
  ⟨0x74, 0x0, 1, [⟨0, 32, .rc, 0, .any, false, false⟩]⟩,
  -- RED_WIRE_ERR_CNT
  ⟨0x78, 0x0, 1, [⟨0, 32, .rc, 0, .any, false, false⟩]⟩,
  -- RED_LAST_TO_LO
  ⟨0x7C, 0x0, 1, [⟨0, 32, .ro, 0, .any, false, false⟩]⟩,
  -- RED_LAST_TO_HI
  ⟨0x80, 0x0, 1, [⟨0, 32, .ro, 0, .any, false, false⟩]⟩,
  -- RED_SYNC_PROG
  ⟨0x84, 0x0, 1, [⟨8, 4, .ro, 0, .any, false, false⟩, ⟨0, 8, .ro, 0, .any, false, false⟩]⟩]

/-- Block-specific registers of page PAIR. -/
def pairRows : List RegRow := [
  -- PAIR_STAT
  ⟨0x40, 0x0, 1, [⟨4, 1, .ro, 0, .any, false, false⟩, ⟨3, 1, .ro, 0, .any, false, false⟩, ⟨2, 1, .ro, 0, .any, false, false⟩, ⟨0, 1, .ro, 0, .any, false, false⟩]⟩,
  -- PAIR_RATE
  ⟨0x44, 0x0, 1, [⟨16, 16, .ro, 0, .any, false, false⟩, ⟨0, 16, .ro, 0, .any, false, false⟩]⟩,
  -- PAIR_LAG_MAX
  ⟨0x48, 0x0, 1, [⟨0, 32, .rc, 0, .any, false, false⟩]⟩,
  -- PAIR_DELAY
  ⟨0x4C, 0x0, 1, [⟨0, 32, .ro, 0, .any, false, false⟩]⟩,
  -- PAIR_TIME_OFS
  ⟨0x50, 0x0, 1, [⟨0, 32, .ro, 0, .any, false, false⟩]⟩,
  -- PAIR_ERR_CNT
  ⟨0x54, 0x0, 1, [⟨0, 32, .rc, 0, .any, false, false⟩]⟩,
  -- PAIR_TO_CNT
  ⟨0x58, 0x0, 1, [⟨0, 32, .rc, 0, .any, false, false⟩]⟩]

/-- Block-specific registers of page MEM. -/
def memRows : List RegRow := [
  -- MEM_CFG
  ⟨0x40, 0x0, 1, [⟨0, 16, .rwl, 64, .range 1 65535, false, true⟩]⟩,
  -- MEM_STAT
  ⟨0x44, 0x0, 1, [⟨5, 1, .ro, 0, .any, false, false⟩, ⟨4, 1, .ro, 0, .any, false, false⟩, ⟨0, 4, .ro, 0, .any, false, false⟩]⟩,
  -- MEM_PATROL
  ⟨0x48, 0x0, 1, [⟨0, 32, .ro, 0, .any, false, false⟩]⟩,
  -- MEM_UE_ADDR
  ⟨0x4C, 0x0, 1, [⟨0, 32, .ro, 0, .any, false, false⟩]⟩,
  -- MEM_UE_INFO
  ⟨0x50, 0x0, 1, [⟨31, 1, .w1c, 0, .any, false, false⟩, ⟨8, 2, .ro, 0, .any, false, false⟩, ⟨4, 4, .ro, 0, .any, false, false⟩, ⟨0, 4, .ro, 0, .any, false, false⟩]⟩,
  -- MEM_CE_CNT
  ⟨0x54, 0x0, 1, [⟨0, 32, .rc, 0, .any, false, false⟩]⟩,
  -- MEM_UE_CNT
  ⟨0x58, 0x0, 1, [⟨0, 32, .rc, 0, .any, false, false⟩]⟩,
  -- MEM_SRAM_CE_CNT
  ⟨0x5C, 0x0, 1, [⟨0, 32, .rc, 0, .any, false, false⟩]⟩,
  -- MEM_SRAM_UE_CNT
  ⟨0x60, 0x0, 1, [⟨0, 32, .rc, 0, .any, false, false⟩]⟩,
  -- MEM_INNER_CNT
  ⟨0x64, 0x0, 1, [⟨0, 32, .rc, 0, .any, false, false⟩]⟩,
  -- MEM_RETIRED
  ⟨0x68, 0x0, 1, [⟨16, 16, .ro, 0, .any, false, false⟩, ⟨0, 10, .ro, 0, .any, false, false⟩]⟩,
  -- MEM_DEV_CNT
  ⟨0x80, 0x4, 10, [⟨16, 16, .ro, 0, .any, false, false⟩, ⟨0, 16, .ro, 0, .any, false, false⟩]⟩]

/-- Block-specific registers of page CEL. -/
def celRows : List RegRow := [
  -- CEL_STAT
  ⟨0x40, 0x0, 1, [⟨2, 1, .ro, 0, .any, false, false⟩, ⟨1, 1, .ro, 0, .any, false, false⟩, ⟨0, 1, .ro, 0, .any, false, false⟩]⟩,
  -- CEL_LIFE
  ⟨0x44, 0x0, 1, [⟨16, 16, .ro, 0, .any, false, false⟩, ⟨0, 8, .ro, 0, .any, false, false⟩]⟩,
  -- CEL_WR_MAX
  ⟨0x48, 0x0, 1, [⟨0, 32, .rc, 0, .any, false, false⟩]⟩,
  -- CEL_ERR_CNT
  ⟨0x4C, 0x0, 1, [⟨0, 32, .rc, 0, .any, false, false⟩]⟩,
  -- CEL_AREA
  ⟨0x80, 0x4, 8, [⟨30, 2, .ro, 0, .any, false, false⟩, ⟨0, 16, .ro, 0, .any, false, false⟩]⟩]

/-- Block-specific registers of page EVR. -/
def evrRows : List RegRow := [
  -- EVR_CFG
  ⟨0x40, 0x0, 1, [⟨0, 16, .rwl, 16, .range 1 1000, false, true⟩]⟩,
  -- EVR_STAT
  ⟨0x44, 0x0, 1, [⟨16, 1, .ro, 0, .any, false, true⟩, ⟨0, 8, .ro, 0, .any, false, false⟩]⟩,
  -- EVR_OPTIME_LO
  ⟨0x48, 0x0, 1, [⟨0, 32, .ro, 0, .any, false, true⟩]⟩,
  -- EVR_OPTIME_HI
  ⟨0x4C, 0x0, 1, [⟨0, 32, .ro, 0, .any, false, true⟩]⟩,
  -- EVR_PCC
  ⟨0x50, 0x0, 1, [⟨0, 32, .ro, 0, .any, false, true⟩]⟩,
  -- EVR_RING_OLD_LO
  ⟨0x54, 0x0, 1, [⟨0, 32, .ro, 0, .any, false, true⟩]⟩,
  -- EVR_RING_OLD_HI
  ⟨0x58, 0x0, 1, [⟨0, 32, .ro, 0, .any, false, true⟩]⟩,
  -- EVR_RING_NEXT_LO
  ⟨0x5C, 0x0, 1, [⟨0, 32, .ro, 0, .any, false, true⟩]⟩,
  -- EVR_RING_NEXT_HI
  ⟨0x60, 0x0, 1, [⟨0, 32, .ro, 0, .any, false, true⟩]⟩,
  -- EVR_FIRST_NEXT_LO
  ⟨0x64, 0x0, 1, [⟨0, 32, .ro, 0, .any, false, true⟩]⟩,
  -- EVR_FIRST_NEXT_HI
  ⟨0x68, 0x0, 1, [⟨0, 32, .ro, 0, .any, false, true⟩]⟩,
  -- EVR_REC_CNT
  ⟨0x6C, 0x0, 1, [⟨0, 32, .ro, 0, .any, false, false⟩]⟩,
  -- EVR_DROP_CNT
  ⟨0x70, 0x0, 1, [⟨0, 32, .rc, 0, .any, false, false⟩]⟩,
  -- EVR_COMMIT_MAX
  ⟨0x74, 0x0, 1, [⟨0, 32, .rc, 0, .any, false, false⟩]⟩]

/-- Block-specific registers of page UPD. -/
def updRows : List RegRow := [
  -- UPD_CASK
  ⟨0x40, 0x0, 1, [⟨8, 1, .ro, 0, .any, false, true⟩, ⟨4, 2, .ro, 0, .any, false, true⟩, ⟨0, 3, .ro, 0, .any, false, true⟩]⟩,
  -- UPD_CASK_VIN
  ⟨0x44, 0x0, 1, [⟨0, 32, .ro, 0, .any, false, true⟩]⟩,
  -- UPD_CASK_TOTAL
  ⟨0x48, 0x0, 1, [⟨0, 32, .ro, 0, .any, false, true⟩]⟩,
  -- UPD_CASK_DONE
  ⟨0x4C, 0x0, 1, [⟨0, 32, .ro, 0, .any, false, true⟩]⟩,
  -- UPD_CMD
  ⟨0x50, 0x0, 1, [⟨9, 1, .rwl, 0, .any, false, false⟩, ⟨8, 1, .rwl, 0, .any, false, false⟩, ⟨0, 3, .rwl, 0, .range 0 4, false, false⟩]⟩,
  -- UPD_RES
  ⟨0x54, 0x0, 1, [⟨0, 8, .ro, 0, .any, false, true⟩]⟩,
  -- UPD_RACK
  ⟨0x58, 0x0, 1, [⟨16, 16, .ro, 0, .any, false, true⟩, ⟨4, 1, .ro, 0, .any, false, true⟩, ⟨0, 3, .ro, 0, .any, false, true⟩]⟩,
  -- UPD_FW_ACT
  ⟨0x5C, 0x0, 1, [⟨0, 32, .ro, 0, .any, false, true⟩]⟩,
  -- UPD_FW_FB
  ⟨0x60, 0x0, 1, [⟨0, 32, .ro, 0, .any, false, true⟩]⟩,
  -- UPD_APP_ACT
  ⟨0x64, 0x0, 1, [⟨0, 32, .ro, 0, .any, false, true⟩]⟩,
  -- UPD_APP_FB
  ⟨0x68, 0x0, 1, [⟨0, 32, .ro, 0, .any, false, true⟩]⟩,
  -- UPD_PROBE
  ⟨0x6C, 0x0, 1, [⟨0, 2, .ro, 0, .any, false, true⟩]⟩,
  -- UPD_CHUNK_ERR_CNT
  ⟨0x70, 0x0, 1, [⟨0, 32, .rc, 0, .any, false, false⟩]⟩]

/-- Block-specific registers of page DSB. -/
def dsbRows : List RegRow := [
  -- DSB_STAT
  ⟨0x40, 0x0, 1, [⟨21, 1, .ro, 0, .any, false, false⟩, ⟨20, 1, .ro, 0, .any, false, false⟩, ⟨16, 3, .ro, 0, .any, false, false⟩, ⟨8, 6, .ro, 0, .any, false, false⟩, ⟨0, 6, .ro, 0, .any, false, false⟩]⟩,
  -- DSB_TEMP
  ⟨0x44, 0x0, 1, [⟨0, 16, .ro, 0, .any, false, false⟩]⟩,
  -- DSB_VDRV
  ⟨0x48, 0x0, 1, [⟨0, 16, .ro, 0, .any, false, false⟩]⟩,
  -- DSB_CFG
  ⟨0x4C, 0x0, 1, [⟨8, 1, .rwl, 0, .any, false, true⟩, ⟨0, 8, .rwl, 10, .range 1 60, false, true⟩]⟩,
  -- DSB_CMD
  ⟨0x50, 0x0, 1, [⟨0, 2, .rwl, 0, .range 0 2, false, false⟩]⟩,
  -- DSB_RES
  ⟨0x54, 0x0, 1, [⟨0, 8, .ro, 0, .any, false, false⟩]⟩,
  -- DSB_UPD_CNT
  ⟨0x58, 0x0, 1, [⟨0, 32, .ro, 0, .any, false, false⟩]⟩,
  -- DSB_TAG
  ⟨0x60, 0x4, 6, [⟨0, 32, .rwl, 0, .any, false, true⟩]⟩,
  -- DSB_BAND
  ⟨0x80, 0x4, 8, [⟨16, 16, .ro, 0, .any, false, true⟩, ⟨8, 8, .ro, 0, .any, false, true⟩, ⟨0, 8, .ro, 0, .any, false, true⟩]⟩]

/-- Block-specific registers of page DSE. -/
def dseRows : List RegRow := [
  -- DSE_CFG
  ⟨0x40, 0x0, 1, [⟨17, 1, .rwl, 0, .any, false, true⟩, ⟨16, 1, .rwl, 0, .any, false, true⟩, ⟨8, 8, .rwl, 10, .any, false, true⟩, ⟨0, 4, .rwl, 12, .nearer 1 15, false, true⟩]⟩,
  -- DSE_STAT
  ⟨0x44, 0x0, 1, [⟨11, 1, .ro, 0, .any, false, false⟩, ⟨10, 1, .ro, 0, .any, false, false⟩, ⟨9, 1, .ro, 0, .any, false, false⟩, ⟨8, 1, .ro, 0, .any, false, false⟩, ⟨0, 4, .ro, 0, .any, false, false⟩]⟩,
  -- DSE_LINE_CNT
  ⟨0x48, 0x0, 1, [⟨0, 32, .rc, 0, .any, false, false⟩]⟩,
  -- DSE_RES
  ⟨0x4C, 0x0, 1, [⟨0, 8, .ro, 0, .any, false, false⟩]⟩,
  -- DSE_PCTL
  ⟨0x50, 0x0, 1, [⟨0, 1, .w1s, 0, .any, false, false⟩]⟩,
  -- DSE_PTEXT
  ⟨0x100, 0x4, 112, [⟨0, 32, .rw, 0, .any, false, false⟩]⟩,
  -- DSE_PBLINK
  ⟨0x2C0, 0x4, 14, [⟨0, 32, .rw, 0, .any, false, false⟩]⟩]

/-- Block-specific registers of page BTN. -/
def btnRows : List RegRow := [
  -- BTN_STAT
  ⟨0x40, 0x0, 1, [⟨16, 3, .ro, 0, .any, false, false⟩, ⟨14, 1, .ro, 0, .any, false, false⟩, ⟨8, 6, .ro, 0, .any, false, false⟩, ⟨3, 1, .ro, 0, .any, false, false⟩, ⟨2, 1, .ro, 0, .any, false, false⟩, ⟨1, 1, .ro, 0, .any, false, false⟩, ⟨0, 1, .ro, 0, .any, false, false⟩]⟩,
  -- BTN_LAST
  ⟨0x44, 0x0, 1, [⟨2, 2, .ro, 0, .any, false, false⟩, ⟨0, 2, .ro, 0, .any, false, false⟩]⟩,
  -- BTN_PRESS_CNT
  ⟨0x48, 0x0, 1, [⟨0, 32, .rc, 0, .any, false, false⟩]⟩]

/-- Block-specific registers of page SEC. -/
def secRows : List RegRow := [
  -- SEC_CMD
  ⟨0x40, 0x0, 1, [⟨0, 1, .rwl, 0, .any, false, false⟩]⟩,
  -- SEC_TOKEN
  ⟨0x44, 0x4, 19, [⟨0, 32, .rwl, 0, .any, false, false⟩]⟩,
  -- SEC_CRED
  ⟨0x90, 0x0, 1, [⟨0, 7, .ro, 0, .any, false, false⟩]⟩]

/-- The block-specific rows of page `p`; none for a reserved page (R52). -/
def pageRows (p : Nat) : List RegRow :=
  match p with
  | 0x0 => sysRows
  | 0x1 => pwrRows
  | 0x2 => absRows
  | 0x3 => tsuRows
  | 0x4 => rtcRows
  | 0x20 => schRows
  | 0x28 => frcRows
  | 0x29 => olcRows
  | 0x30 => solRows
  | 0x80 => chgRows
  | 0x81 => hrtRows
  | 0xA0 => netRows
  | 0xA1 => prpRows
  | 0xA2 => ptpRows
  | 0xA8 => lnkRows
  | 0xB0 => redRows
  | 0xB1 => pairRows
  | 0xC0 => safRows
  | 0xD0 => evrRows
  | 0xD8 => updRows
  | 0xE0 => dsbRows
  | 0xE1 => dseRows
  | 0xE2 => btnRows
  | 0xF0 => memRows
  | 0xF1 => celRows
  | 0xF8 => secRows
  | _ =>
    if 0x10 ≤ p ∧ p ≤ 0x1F then engRows
    else if 0x21 ≤ p ∧ p ≤ 0x24 then ctxTableRows
    else if 0x31 ≤ p ∧ p ≤ 0x34 then jobTableRows
    else if 0x40 ≤ p ∧ p ≤ 0x7F then chRows
    else if 0x90 ≤ p ∧ p ≤ 0x93 then canRows
    else []

/-- BLK_ID.TYPE of the headed page `p` (R52); none for a page without a header. -/
def pageType (p : Nat) : Option Nat :=
  match p with
  | 0x0 => some 0x100
  | 0x1 => some 0x101
  | 0x2 => some 0x102
  | 0x3 => some 0x103
  | 0x4 => some 0x104
  | 0x20 => some 0x120
  | 0x28 => some 0x128
  | 0x29 => some 0x129
  | 0x30 => some 0x130
  | 0x80 => some 0x180
  | 0x81 => some 0x181
  | 0xA0 => some 0x1A0
  | 0xA1 => some 0x1A1
  | 0xA2 => some 0x1A2
  | 0xA8 => some 0x1A8
  | 0xB0 => some 0x1B0
  | 0xB1 => some 0x1B1
  | 0xC0 => some 0x1C0
  | 0xD0 => some 0x1D0
  | 0xD8 => some 0x1D8
  | 0xE0 => some 0x1E0
  | 0xE1 => some 0x1E1
  | 0xE2 => some 0x1E2
  | 0xF0 => some 0x1F0
  | 0xF1 => some 0x1F1
  | 0xF8 => some 0x1F8
  | _ =>
    if 0x10 ≤ p ∧ p ≤ 0x1F then some 0x110
    else if 0x40 ≤ p ∧ p ≤ 0x7F then some 0x140
    else if 0x90 ≤ p ∧ p ≤ 0x93 then some 0x190
    else none

/-- BLK_CAP.CAPS of the headed page `p`, from the block's chapter. -/
def pageCaps (p : Nat) : Nat :=
  match p with
  | 0x0 => 0x1
  | 0x1 => 0x10
  | 0x2 => 0xE
  | 0x3 => 0x44
  | 0x4 => 0x1
  | 0x20 => 0x100100
  | 0x28 => 0x200
  | 0x29 => 0x4
  | 0x30 => 0x10820
  | 0x80 => 0x1040
  | 0x81 => 0x1010
  | 0xA0 => 0x310
  | 0xA1 => 0x200
  | 0xA2 => 0x1F
  | 0xA8 => 0x30280
  | 0xB0 => 0x7
  | 0xB1 => 0x0
  | 0xC0 => 0x82010
  | 0xD0 => 0x3808
  | 0xD8 => 0x103
  | 0xE0 => 0x406
  | 0xE1 => 0xE10
  | 0xE2 => 0x3
  | 0xF0 => 0x100A
  | 0xF1 => 0x808
  | 0xF8 => 0x4
  | 0x93 => 0x320
  | _ =>
    if 0x10 ≤ p ∧ p ≤ 0x1F then 0x201018
    else if 0x40 ≤ p ∧ p ≤ 0x7F then 0x107FF
    else if 0x90 ≤ p ∧ p ≤ 0x92 then 0x120
    else 0

end Sys2Proof.Machine
end

