-- ==== Sys2Proof/Machine/Store.lean ====
section
/-! DEFINITION. Association lists: the sorted store used for registers and numbered slots, and small maps by key. -/

namespace Sys2Proof.Machine

/-- The value stored under `k`, or `d` where none is listed. -/
def storeGet {α : Type} (d : α) : List (Nat × α) → Nat → α
  | [], _ => d
  | (j, v) :: m, k => if j = k then v else storeGet d m k

/-- Insert or replace, keeping the keys rising. -/
def storePut {α : Type} : List (Nat × α) → Nat → α → List (Nat × α)
  | [], k, v => [(k, v)]
  | (j, w) :: m, k, v =>
    if k < j then (k, v) :: (j, w) :: m
    else if k = j then (k, v) :: m
    else (j, w) :: storePut m k v

/-- Remove a key. -/
def storeErase {α : Type} : List (Nat × α) → Nat → List (Nat × α)
  | [], _ => []
  | (j, w) :: m, k => if j = k then storeErase m k else (j, w) :: storeErase m k

/-- Write `v` under `k` where an unlisted key reads as `d`: the default is never listed. -/
def storeSet {α : Type} [DecidableEq α] (d : α) (m : List (Nat × α)) (k : Nat) (v : α) :
    List (Nat × α) :=
  if v = d then storeErase m k else storePut m k v

/-- Keys strictly rising from `lo` on. -/
def keysRise {α : Type} (lo : Nat) : List (Nat × α) → Bool
  | [] => true
  | (k, _) :: m => decide (lo ≤ k) && keysRise (k + 1) m

/-- Canonical form: keys strictly rising, no entry equal to what its key reads as by default. -/
def storeWf {α : Type} [DecidableEq α] (d : Nat → α) (m : List (Nat × α)) : Bool :=
  keysRise 0 m && m.all fun e => decide (e.2 ≠ d e.1)

/-- Value of a key of any type, or `d`. -/
def mapGet {κ α : Type} [DecidableEq κ] (d : α) : List (κ × α) → κ → α
  | [], _ => d
  | (j, v) :: m, k => if j = k then v else mapGet d m k

/-- Replace the value of a key in place, or add the pair at the end. -/
def mapSet {κ α : Type} [DecidableEq κ] : List (κ × α) → κ → α → List (κ × α)
  | [], k, v => [(k, v)]
  | (j, w) :: m, k, v => if j = k then (k, v) :: m else (j, w) :: mapSet m k v

/-- Remove a key. -/
def mapErase {κ α : Type} [DecidableEq κ] (m : List (κ × α)) (k : κ) : List (κ × α) :=
  m.filter fun e => decide (e.1 ≠ k)

/-- Element `i` of a list, or `d`. -/
def nth {α : Type} (d : α) : List α → Nat → α
  | [], _ => d
  | x :: _, 0 => x
  | _ :: l, i + 1 => nth d l i

/-- Replace element `i` of a list. -/
def setNth {α : Type} : List α → Nat → α → List α
  | [], _, _ => []
  | _ :: l, 0, v => v :: l
  | x :: l, i + 1, v => x :: setNth l i v

/-- The numbers 0 to n − 1. -/
def upto (n : Nat) : List Nat := List.range n

end Sys2Proof.Machine
end

