-- ==== Sys2Proof/Machine/Ops.lean ====
section
/-! DEFINITION. The named operations every block uses: registers and fields, time stamps, block events, the recorder's acceptance, the module state. -/

namespace Sys2Proof.Machine

/-! ### Pages and the register file -/

/-- The page that governs an offset: its own page, or the page that owns a table page (R53). -/
def owningPage (p : Nat) : Nat :=
  if 0x21 ≤ p ∧ p ≤ 0x24 then 0x20
  else if 0x31 ≤ p ∧ p ≤ 0x34 then 0x30
  else p

/-- The instance number of a headed page (R52). -/
def pageInstance (p : Nat) : Nat :=
  if 0x10 ≤ p ∧ p ≤ 0x1F then p - 0x10
  else if 0x40 ≤ p ∧ p ≤ 0x7F then p - 0x40
  else if 0x90 ≤ p ∧ p ≤ 0x93 then p - 0x90
  else 0

/-- The header registers of a headed page (R53). The 32-bit KEY of BLK_LOCK is written; LOCKED and HOLDER are read. -/
def headerRow (p o : Nat) : Option RegRow :=
  let row (l : List FldRow) : Option RegRow := some ⟨o, 0, 1, l⟩
  match o with
  | 0x00 => row [⟨0, 32, .ro, 0, .any, false, false⟩]
  | 0x04 => row [⟨0, 32, .ro, 0, .any, false, false⟩]
  | 0x08 => row [⟨1, 1, .wo, 0, .any, false, false⟩, ⟨0, 1, .rwl, 0, .any, false, false⟩]
  | 0x0C =>
    let common : List FldRow := [⟨3, 1, .w1c, 0, .any, false, false⟩, ⟨0, 3, .ro, 0, .any, false, false⟩]
    if p = 0xF8 then
      row (⟨24, 8, .ro, 0, .any, false, true⟩ :: ⟨16, 8, .ro, 0, .any, false, false⟩
        :: ⟨12, 4, .ro, 0, .any, false, true⟩ :: ⟨10, 1, .ro, 0, .any, false, true⟩
        :: ⟨9, 1, .ro, 0, .any, false, false⟩ :: ⟨8, 1, .ro, 0, .any, false, true⟩ :: common)
    else row (⟨8, 2, .ro, 0, .any, false, false⟩ :: common)
  | 0x10 => row [⟨0, 32, .ro, 0, .any, false, false⟩]
  | 0x14 => row [⟨0, 32, .rwl, 0, .any, false, false⟩]
  | 0x18 => row [⟨0, 32, .w1c, 0, .any, false, false⟩]
  | 0x1C => row [⟨31, 1, .rwl, 0, .any, false, false⟩, ⟨0, 8, .rwl, 0, .any, false, false⟩]
  | 0x20 => row [⟨0, 32, .wo, 0, .any, false, false⟩]
  | 0x24 => row [⟨0, 32, .ro, 0, .any, false, false⟩]
  | _ => none

/-- Whether page offset `o` is one of the row's registers. -/
def RegRow.covers (r : RegRow) (o : Nat) : Bool :=
  if r.stride = 0 then o == r.base
  else decide (r.base ≤ o) && (o - r.base) % r.stride == 0 && decide ((o - r.base) / r.stride < r.count)

/-- The register at a window offset; none where the map defines none (R54). -/
def regRow (off : Nat) : Option RegRow :=
  let p := off / 0x1000
  let o := off % 0x1000
  match pageType p with
  | some _ => if o < 0x40 then headerRow p o else (pageRows p).find? (·.covers o)
  | none => (pageRows p).find? (·.covers o)

/-- The word a row's fields give at reset. Log: 1 (DESIGN CHOICE). -/
def RegRow.resetWord (r : RegRow) : Nat := (r.fields.map fun f => f.reset * 2 ^ f.lo).sum

/-- What a register reads as until something writes it: its Reset column; BLK_ID and BLK_CAP per R52.
Log: 1 (DESIGN CHOICE), 2 (DESIGN CHOICE), 3 (DEDUCED), 202 (DESIGN CHOICE). -/
def regReset (off : Nat) : Word :=
  let p := off / 0x1000
  let o := off % 0x1000
  match pageType p with
  | none => match (pageRows p).find? (·.covers o) with
    | some r => BitVec.ofNat 32 r.resetWord
    | none => 0
  | some t =>
    if o = 0 then BitVec.ofNat 32 (t * 0x10000 + 0x100)
    else if o = 4 then BitVec.ofNat 32 (pageInstance p * 0x1000000 + pageCaps p)
    else if o = 0x20 then 1
    else if o < 0x40 then 0
    else match (pageRows p).find? (·.covers o) with
      | some r => BitVec.ofNat 32 r.resetWord
      | none => 0

/-- The register at a window offset. -/
def Block.reg (b : Block) (off : Nat) : Word := storeGet (regReset off) b.regs off

/-- Write a register. -/
def Block.setReg (b : Block) (off : Nat) (v : Word) : Block :=
  { b with regs := storeSet (regReset off) b.regs off v }

/-- A register as a number. -/
def Block.regN (b : Block) (off : Nat) : Nat := (b.reg off).toNat

/-- Write a register from a number, modulo 2^32. -/
def Block.setRegN (b : Block) (off : Nat) (v : Nat) : Block := b.setReg off (BitVec.ofNat 32 v)

/-- The word with one field replaced. -/
def putField (w lo wd v : Nat) : Nat := w - bits w lo wd * 2 ^ lo + low wd v * 2 ^ lo

/-- Read a field. -/
def Block.fget (b : Block) (f : Fld) : Nat := bits (b.regN f.off) f.lo f.w

/-- Write a field, modulo its width, leaving the register's other bits. -/
def Block.fset (b : Block) (f : Fld) (v : Nat) : Block :=
  b.setRegN f.off (putField (b.regN f.off) f.lo f.w v)

/-- Write a one-bit field. -/
def Block.fsetB (b : Block) (f : Fld) (v : Bool) : Block := b.fset f (if v then 1 else 0)

/-- Read a one-bit field. -/
def Block.fgetB (b : Block) (f : Fld) : Bool := b.fget f == 1

/-- Add one to a field, wrapping at its width. -/
def Block.incWrap (b : Block) (f : Fld) : Block := b.fset f (b.fget f + 1)

/-- Add `n` to a field, saturating at its largest value. -/
def Block.addSat (b : Block) (f : Fld) (n : Nat) : Block :=
  b.fset f (Nat.min (b.fget f + n) (2 ^ f.w - 1))

/-- Add one to a field, saturating. -/
def Block.incSat (b : Block) (f : Fld) : Block := b.addSat f 1

/-- A 64-bit value held in a _LO/_HI pair. Log: 10 (DESIGN CHOICE). -/
def Block.pair (b : Block) (lo : Nat) : Nat := b.regN (lo + 4) * 2 ^ 32 + b.regN lo

/-- Write a _LO/_HI pair. Log: 10 (DESIGN CHOICE). -/
def Block.setPair (b : Block) (lo : Nat) (v : Nat) : Block :=
  (b.setRegN lo (low 32 v)).setRegN (lo + 4) (low 32 (v / 2 ^ 32))

/-- Apply an update when a condition holds. -/
def Block.when (b : Block) (c : Bool) (f : Block → Block) : Block := if c then f b else b

/-- Fold an update over a list. -/
def Block.forAll {α : Type} (b : Block) (l : List α) (f : Block → α → Block) : Block := l.foldl f b

/-- Draw a free value: nothing constrains it. Log: 25 (DESIGN CHOICE), 139 (DESIGN CHOICE). -/
def Block.free (b : Block) : Word × Block :=
  (Config.freeValue b.freeCount, { b with freeCount := b.freeCount + 1 })

/-- Put something on a port, or answer a requester. Log: 13 (DESIGN CHOICE). -/
def Block.out (b : Block) (o : Out) : Block := { b with outs := b.outs ++ [o] }

/-- Send a frame. Log: 13 (DESIGN CHOICE). -/
def Block.send (b : Block) (p : Port) (kind : String) (ws : List Nat) : Block := b.out (.frame p kind ws)

/-! ### What the module times -/

/-- A timed happening begins. -/
def Block.timed (b : Block) (t : Timer) : Block := { b with since := mapSet b.since t b.clk }

/-- It has begun no more. -/
def Block.untimed (b : Block) (t : Timer) : Block := { b with since := mapErase b.since t }

/-- Clock at which it last began. -/
def Block.timedAt (b : Block) (t : Timer) : Option Nat := mapGet none (b.since.map fun (e : Timer × Nat) => (e.1, some e.2)) t

/-- It began, and `ns` have passed since. Log: 6 (DESIGN CHOICE). -/
def Block.passed (b : Block) (t : Timer) (ns : Nat) : Bool := (b.timedAt t).any fun a => decide (a + ns ≤ b.clk)

/-- A period of `ns` has passed since it last began, or it has not begun yet. Log: 6 (DESIGN CHOICE). -/
def Block.periodic (b : Block) (t : Timer) (ns : Nat) : Bool := (b.timedAt t).all fun a => decide (a + ns ≤ b.clk)

/-! ### Time stamps (R10) -/

/-- TSU seconds, 64 bits: the epoch register above the seconds register. -/
def Block.tsuSec (b : Block) : Nat := b.regN Reg.TSU_EPOCH * 2 ^ 32 + b.regN Reg.TSU_TIME_HI

/-- TSU nanoseconds within the second. -/
def Block.tsuNs (b : Block) : Nat := b.regN Reg.TSU_TIME_LO

/-- TSU time in nanoseconds since its epoch. -/
def Block.now (b : Block) : Nat := b.tsuSec * 1000000000 + b.tsuNs

/-- Set TSU time from nanoseconds since the epoch. -/
def Block.setNow (b : Block) (t : Nat) : Block :=
  let s := t / 1000000000
  ((b.setRegN Reg.TSU_TIME_LO (t % 1000000000)).setRegN Reg.TSU_TIME_HI (low 32 s)).setRegN
    Reg.TSU_EPOCH (low 32 (s / 2 ^ 32))

/-- Write a stamp pair: nanoseconds at `lo`, seconds [31:0] at `hi`. -/
def Block.stamp (b : Block) (lo hi : Nat) : Block :=
  (b.setRegN lo b.tsuNs).setRegN hi (low 32 b.tsuSec)

/-- Operating time in ms (R406). -/
def Block.optime (b : Block) : Nat := b.pair Reg.EVR_OPTIME_LO

/-! ### Block events (R7, R66) -/

/-- An event of a page occurs: its raw bit is set whatever the enables hold. Log: 8 (DEDUCED). -/
def Block.raiseEvt (b : Block) (p e : Nat) : Block := b.fset ⟨Reg.BLK_EVT_RAW p, e, 1⟩ 1

/-- BLK_EVT_PEND reads raw AND enabled. -/
def Block.evtPend (b : Block) (p : Nat) : Word := b.reg (Reg.BLK_EVT_RAW p) &&& b.reg (Reg.BLK_EVT_EN p)

/-- Headed pages in order. -/
def headedPages : List Nat := (upto 0x100).filter fun p => (pageType p).isSome

/-- Page `p` drives event line `n` (R66). -/
def Block.drivesLine (b : Block) (n p : Nat) : Bool :=
  b.fgetB (F.BLK_EVT_ROUTE_ROUTE_EN p) && b.fget (F.BLK_EVT_ROUTE_LINE p) == n &&
    b.fgetB (F.BLK_CTL_EVT_GATE p) && b.evtPend p != 0

/-- Event line `n` is asserted (R66). -/
def Block.lineAsserted (b : Block) (n : Nat) : Bool := headedPages.any (b.drivesLine n)

/-- The stored level of event line `n`. Log: 14 (DEDUCED). -/
def lineLevel (n : Nat) : Fld := ⟨Reg.SYS_EVL_STAT (n / 32), n % 32, 1⟩

/-! ### The recorder's acceptance (R404 to R412, R478) -/

/-- Length of a record in bytes (R404). -/
def EvRec.bytes (r : EvRec) : Nat := 16 + 4 * r.words.length

/-- Bytes in a list of records. -/
def recBytes (l : List EvRec) : Nat := (l.map EvRec.bytes).sum

/-- The severity of a BLOCK record by page and event bit (R478). -/
def blockSeverity (p e : Nat) : Nat :=
  let pick (notice warning fault alarm critical : List Nat) : Nat :=
    if e = 0xFF then 2
    else if notice.contains e then 2
    else if warning.contains e then 3
    else if fault.contains e then 4
    else if alarm.contains e then 5
    else if critical.contains e then 6
    else 1
  match p with
  | 0x00 => pick [0, 1, 2] [3] [] [] []
  | 0x01 => pick [1, 4, 5, 6] [0, 2, 3] [] [7] []
  | 0x02 => pick [0, 2, 3, 6, 8, 9] [1, 4, 5, 7] [10] [] []
  | 0x03 => pick [0, 2, 4] [1] [] [] []
  | 0x04 => pick [1] [2, 3] [] [] []
  | 0x20 => pick [0, 2, 4, 5, 6, 8] [1, 3, 7] [] [] []
  | 0x28 => pick [0, 1, 2, 3] [4] [] [] []
  | 0x29 => pick [0, 1, 2, 3, 5] [4] [] [] []
  | 0x30 => pick [2, 4, 5, 6, 9, 10, 13] [1, 3, 7, 11, 12, 14] [8] [] []
  | 0x80 => pick [2, 3, 6] [0, 1, 7] [4, 5] [] []
  | 0x81 => pick [1, 4] [2, 3] [] [] []
  | 0xA0 => pick [0, 1, 4, 5] [2, 3] [] [] []
  | 0xA1 => pick [2, 3, 4] [0, 1, 5] [] [] []
  | 0xA2 => pick [0, 1, 3, 4] [2, 5] [] [] []
  | 0xA8 => pick [0, 4, 7] [1, 2, 3, 5, 6] [] [] []
  | 0xB0 => pick [2, 4, 5] [0, 1, 3, 6, 7, 8] [] [] []
  | 0xB1 => pick [0] [1, 2, 3] [] [] []
  | 0xC0 => pick [0, 2, 3, 5, 8] [4, 7] [] [1] [6]
  | 0xD0 => pick [3] [2, 4] [] [] []
  | 0xD8 => pick [0, 1, 3, 4] [2, 5] [6] [] []
  | 0xE0 => pick [2, 3] [4] [] [] []
  | 0xE1 => pick [4] [1, 2] [] [] []
  | 0xE2 => pick [1, 2, 3] [] [] [] []
  | 0xF0 => pick [0, 3, 5] [1, 6] [2, 4] [] []
  | 0xF1 => pick [4] [0, 2] [1, 3] [] []
  | 0xF8 => pick [2] [1, 3] [] [0] []
  | _ =>
    if 0x10 ≤ p ∧ p ≤ 0x1F then pick [2, 3, 5] [] [0, 6] [] []
    else if 0x40 ≤ p ∧ p ≤ 0x7F then pick [8, 9] [0, 2, 3, 4, 5, 6, 11, 12] [1, 7] [] []
    else if 0x90 ≤ p ∧ p ≤ 0x93 then pick [4] [1, 2, 5, 6, 8] [3] [] []
    else pick [] [] [] [] []

/-- The commit queue's capacity in bytes (R411). -/
def queueBytes : Nat := 512 * 1024

/-- Space held for island records (R411). -/
def islandBytes : Nat := 16 * 1024

/-- A record stamped with operating time and power-cycle count (R404). -/
def Block.mkRec (b : Block) (sev cls typ src : Nat) (ws : List Nat) : EvRec :=
  ⟨sev, cls, typ, src, b.optime, b.regN Reg.EVR_PCC, ws⟩

/-- Power fail is committed or the module is not started: no record but the power-loss record is accepted (R413). -/
def Block.powerFailing (b : Block) : Bool := !(b.pwr.phase == .good || b.pwr.phase == .ride)

/-- EVR_STAT.QUEUE follows the queue's fill; the event marks the fill rising above 75%. -/
def Block.queueFill (b : Block) : Block :=
  let pct := recBytes b.evr.queue * 100 / queueBytes
  let was := b.fget F.EVR_STAT_QUEUE
  (b.fset F.EVR_STAT_QUEUE pct).when (decide (was ≤ 75 ∧ 75 < pct)) (·.raiseEvt 0xD0 4)

/-- A record that is not accepted is counted (R411); those refused for the queue's fill are owed a LOST record. -/
def Block.recDrop (b : Block) (fill : Bool) : Block :=
  let b := (b.incSat F.EVR_DROP_CNT_VALUE).raiseEvt 0xD0 2
  if fill then { b with evr := { b.evr with refusedFill := b.evr.refusedFill + 1 } } else b

/-- Whether the queue takes a record now (R411). -/
def Block.queueTakes (b : Block) (r : EvRec) : Bool :=
  let fill := recBytes b.evr.queue
  decide (fill + r.bytes ≤ queueBytes) &&
    (decide (fill * 4 < queueBytes * 3) || decide (3 ≤ r.sev) || r.typ == 1 || r.typ == 2)

/-- Put a record into the commit queue. -/
def Block.recQueue (b : Block) (r : EvRec) : Block :=
  let b := { b with evr := { b.evr with queue := b.evr.queue ++ [r] } }
  (b.incWrap F.EVR_REC_CNT_VALUE).queueFill

/-- Accept a standard-side record or count it as not accepted (R411, R413, R400). Log: 73 (DEDUCED). -/
def Block.recAccept (b : Block) (r : EvRec) : Block :=
  if b.powerFailing then b
  else if b.fgetB F.CEL_STAT_READONLY then b.recDrop false
  else if b.queueTakes r then b.recQueue r
  else b.recDrop true

/-- Accept an island record into its held space; a full space takes nothing and counts nothing (R411). -/
def Block.recIsland (b : Block) (r : EvRec) : Block :=
  if b.powerFailing then b
  else if recBytes b.evr.island + r.bytes ≤ islandBytes then
    let b := { b with evr := { b.evr with island := b.evr.island ++ [r] } }
    b.incWrap F.EVR_REC_CNT_VALUE
  else b

/-- The payload of a BLOCK record: event bit, pair count, then address and value of each pair (R405). -/
def blockWords (evt : Nat) (pairs : List (Nat × Nat)) : List Nat :=
  (evt + pairs.length * 0x100) :: pairs.flatMap fun q => [0x40000000 + q.1, q.2]

/-- Record a happening of a page as a BLOCK record with the named register pairs (R405, R478). -/
def Block.recBlk (b : Block) (p evt : Nat) (pairs : List (Nat × Nat)) : Block :=
  b.recAccept (b.mkRec (blockSeverity p evt) 0 (0x1000 + p) p (blockWords evt pairs))

/-- A pair that carries a register as it stands. -/
def Block.regPair (b : Block) (off : Nat) : Nat × Nat := (off, b.regN off)

/-- Record with the given registers read in one coherent set, then values held in no register (R405). -/
def Block.recRegs (b : Block) (p evt : Nat) (regs extra : List Nat) : Block :=
  b.recBlk p evt (regs.map b.regPair ++
    (upto extra.length).map fun i => (p * 0x1000 + 0x28 + 4 * i, nth 0 extra i))

/-- Raise an event and record it. Log: 8 (DEDUCED). -/
def Block.event (b : Block) (p evt : Nat) (regs : List Nat := []) (extra : List Nat := []) : Block :=
  (b.raiseEvt p evt).recRegs p evt regs extra

/-- Write a TIME_MARK with its cause: 0 hourly, 1 TSU set, 2 TSU step, 3 RTC set, 4 start (R405, R407). -/
def Block.timeMark (b : Block) (cause : Nat) : Block :=
  let s := b.tsuSec
  b.recAccept (b.mkRec 1 0 1 0 [low 32 s, low 32 (s / 2 ^ 32), b.tsuNs,
    cause + low 8 (b.regN Reg.TSU_STAT) * 0x100])

/-- A LOST record (R405). -/
def Block.recLost (b : Block) (cls src count reason : Nat) : Block := b.recAccept (b.mkRec 3 cls 5 src [count, reason])

/-! ### The cellar (R398) -/

/-- Ask for a persistent-state record to be written; no write begins once power fail is committed (R48).
Log: 77 (DEDUCED). -/
def Block.celRequest (b : Block) (r : CelRec) : Block :=
  if b.cel.requests.contains r || b.powerFailing then b
  else { b with cel := { b.cel with requests := b.cel.requests ++ [r] } }

/-! ### The file transfer (R334, R337) -/

/-- A file transfer to a target ends before it is complete. -/
def Block.endTransfer (b : Block) (target : Nat) : Block :=
  match b.ssp.transfer with
  | some t => if t.target = target then { b with ssp := { b.ssp with transfer := none } }.raiseEvt 0xA0 5 else b
  | none => b

/-! ### The module state (R11) -/

/-- Values of SYS_STATE.STATE. -/
def stStart : Nat := 1
def stCommission : Nat := 2
def stStop : Nat := 3
def stRun : Nat := 4
def stRunDegraded : Nat := 5
def stHalt : Nat := 6

/-- The module state. -/
def Block.modState (b : Block) : Nat := b.fget F.SYS_STATE_STATE

/-- RUN or RUN-DEGRADED. -/
def Block.running (b : Block) : Bool := b.modState == stRun || b.modState == stRunDegraded

/-- Lock a page (R60). -/
def Block.lockPage (b : Block) (p : Nat) : Block :=
  let b := b.setRegN (Reg.BLK_LOCK p) 1
  { b with fab := { b.fab with holders := mapErase b.fab.holders p } }.when (p == 0xA0) fun b => b.timed .netLocked

/-- Every page locks at a change of module state (R60). -/
def Block.lockAll (b : Block) : Block :=
  b.forAll (b.fab.holders.map (·.1)) fun b p => b.lockPage p

/-- Enter a module state with its CAUSE: pages lock, the event rises, the change is recorded; HALT is recorded CRITICAL. -/
def Block.enterState (b : Block) (st cause : Nat) : Block :=
  if b.modState = st then b.fset F.SYS_STATE_CAUSE cause
  else
    let b := ((b.fset F.SYS_STATE_STATE st).fset F.SYS_STATE_CAUSE cause).lockAll
    let b := b.raiseEvt 0 0
    let ws := blockWords 0 [b.regPair Reg.SYS_STATE]
    b.recAccept (b.mkRec (if st = stHalt then 6 else blockSeverity 0 0) 0 0x1000 0 ws)

/-- MOD_OK is closed in RUN or RUN-DEGRADED once the outputs are released, while the module is powered (R33). -/
def Block.modOk (b : Block) : Bool :=
  b.running && b.pwr.released && (b.pwr.phase == .good || b.pwr.phase == .ride || b.pwr.phase == .failing)

/-! ### Roles (R360) -/

def roleSingle : Nat := 0
def rolePrimary : Nat := 1
def roleStandby : Nat := 2
def roleOut : Nat := 3

def Block.role (b : Block) : Nat := b.fget F.RED_STAT_ROLE

/-- The module is on a pair base. -/
def Block.onPair (b : Block) : Bool := b.pwr.base == .unitA || b.pwr.base == .unitB

/-- The primary of a pair sends something over PAIR (R361). -/
def Block.toPartner (b : Block) (kind : String) (ws : List Nat) : Block :=
  b.when (b.onPair && b.role == rolePrimary && b.fgetB F.PAIR_STAT_LINK) fun b => b.send .pair kind ws

/-- On a pair base only the primary sends HART and CAN and drives stages. -/
def Block.acts (b : Block) : Bool := !b.onPair || b.role == rolePrimary

/-- The unit holds the claim for local outputs (R355). -/
def Block.holdsLocal (b : Block) : Bool := !b.onPair || (b.role == rolePrimary && b.red.won)

/-- Lift an update of the module to the outcome of a command; the queue is not touched. Log: 7 (DESIGN CHOICE). -/
def lift (f : Block → Block) (s : State) : Host.Outcome State Fault Refusal :=
  .next { s with toBlock := f s.toBlock }

end Sys2Proof.Machine
end

