-- ==== Sys2Proof/Machine/Access.lean ====
section
/-! DEFINITION. Access to the register window: who is admitted, the order of refusals, their reports, what a write does to each field, and the 64-bit latches (R51 to R65, R479, R480). -/

namespace Sys2Proof.Machine

/-! ### Access status codes (R65; CFG_CONFLICT per R470) -/

def accOk : Nat := 0
def accReserved : Nat := 1
def accAlign : Nat := 2
def accClass : Nat := 3
def accUngranted : Nat := 4
def accLocked : Nat := 5
def accOwner : Nat := 6
def accBlockDown : Nat := 7
def accValue : Nat := 8
def cfgConflict : Nat := 64

/-- The order in which one code is reported for an access that breaks several rules (R480). -/
def accOrder : List Nat :=
  [accAlign, accReserved, accClass, accUngranted, accBlockDown, accOwner, accLocked, accValue, cfgConflict]

/-- The role of an SSP session; none if it is not open. -/
def Block.roleOf (b : Block) (n : Nat) : Option Role :=
  (b.ssp.sessions.find? fun s => s.num == n).map (·.role)

/-! ### Grants (R56) -/

/-- Grant entry `i` of a context's descriptor, 0 to 7. -/
def Block.grantEntry (b : Block) (c i : Nat) : Nat :=
  b.fget (if i % 2 = 0 then F.CTX_GRANT_ENTRY_LO c (i / 2) else F.CTX_GRANT_ENTRY_HI c (i / 2))

/-- The last table page of an owning page, itself where it has none (R52). -/
def lastTable (p : Nat) : Nat := if p = 0x20 ∨ p = 0x30 then p + 4 else p

/-- A grant entry covers a page: it names the page, or one that is granted together with it (R53, R56).
Log: 159 (DEDUCED). -/
def grantCovers (e p : Nat) : Bool :=
  let first := bits e 0 8
  let o := owningPage p
  bit e 15 && decide (first ≤ lastTable o ∧ o ≤ first + bits e 8 5)

/-- Context `c` may read page `p`. -/
def Block.granted (b : Block) (c p : Nat) : Bool :=
  (upto 8).any fun i => grantCovers (b.grantEntry c i) p

/-- Context `c` may write page `p`. -/
def Block.grantedWr (b : Block) (c p : Nat) : Bool :=
  (upto 8).any fun i => grantCovers (b.grantEntry c i) p && bit (b.grantEntry c i) 14

/-! ### Judging an access -/

/-- A field that a write carries: every field but RO and RC ones (R7). -/
def FldRow.carried (f : FldRow) : Bool := !(f.acc == .ro || f.acc == .rc)

/-- The fields a write of the register carries. -/
def RegRow.carried (r : RegRow) : List FldRow := r.fields.filter (·.carried)

/-- A window offset lies in a page's block-specific area; a table page is all block-specific (R53). -/
def blockArea (off : Nat) : Bool := (pageType (off / 0x1000)).isNone || decide (0x40 ≤ off % 0x1000)

/-- A written value is valid for a field, or is written as the nearer limit (R479). -/
def FldRow.takes (f : FldRow) (v : Nat) : Bool :=
  match f.valid with
  | .any => true
  | .range lo hi => decide (lo ≤ v ∧ v ≤ hi) || (f.acc == .wo && v == 0)
  | .oneOf l => l.contains v
  | .nearer _ _ => true

/-- The value a field takes from a written one. -/
def FldRow.stores (f : FldRow) (v : Nat) : Nat :=
  match f.valid with
  | .nearer lo hi => if v < lo then lo else if hi < v then hi else v
  | _ => v

/-- The page of the window offset is locked. -/
def Block.pageLocked (b : Block) (p : Nat) : Bool := b.fgetB (F.BLK_LOCK_LOCKED p)

/-- Who unlocked the page. -/
def Block.holderOf (b : Block) (p : Nat) : Option Requester :=
  mapGet none (b.fab.holders.map fun e => (e.1, some e.2)) p

/-- The requester holds the page's unlock or is SUP while it is unlocked (R60). -/
def Block.mayRwl (b : Block) (r : Requester) (p : Nat) : Bool :=
  !b.pageLocked p && (r == .sup || b.holderOf p == some r)

/-- R55: the class or role is not admitted to write the register. Log: 144 (DEDUCED). -/
def Block.writeClassBad (b : Block) (r : Requester) (off : Nat) (row : RegRow) : Bool :=
  let p := off / 0x1000
  let safArea := p == 0xC0 && (blockArea off || off % 0x1000 == 0xC)
  match r with
  | .sup => safArea
  | .prg _ => safArea || !(off % 0x1000 == 0x18 && !blockArea off ||
      blockArea off && row.carried.all fun f => !(f.acc == .rwl))
  | .net s =>
    match b.roleOf s with
    | some .engineer => safArea
    | some .operator => safArea || !(row.carried.all (·.oper))
    | _ => true
  | .saf _ => !safArea

/-- R55: the class or role is not admitted to read the page. -/
def Block.readClassBad (b : Block) (r : Requester) (off : Nat) : Bool :=
  let p := off / 0x1000
  match r with
  | .sup => false
  | .prg _ => p == 0xF8 && blockArea off
  | .net s => (b.roleOf s).isNone || (p == 0xF8 && blockArea off)
  | .saf _ => p != 0x003

/-- The unit behind the page is parked or failed; ENG pages and headers stay accessible (R59). -/
def Block.blockDown (b : Block) (off : Nat) : Bool :=
  let p := owningPage (off / 0x1000)
  blockArea off && !(decide (0x10 ≤ p ∧ p ≤ 0x1F)) &&
    (b.fgetB (F.BLK_STAT_PARKED p) || b.fgetB (F.BLK_STAT_FAULT p))

/-- A session writes what a context owns (R58). Log: 16 (DEDUCED). -/
def Block.ownerBad (b : Block) (r : Requester) (off : Nat) : Bool :=
  match r with
  | .net _ => (blockArea off || off % 0x1000 == 0x18) && b.fget (F.BLK_OWNER_CLASS (owningPage (off / 0x1000))) == 1
  | _ => false

/-- The lock of R60 refuses the write. -/
def Block.lockBad (b : Block) (r : Requester) (off : Nat) (row : RegRow) : Bool :=
  let p := owningPage (off / 0x1000)
  if off % 0x1000 == 0x20 && !blockArea off then
    !b.pageLocked p && !(r == .sup || b.holderOf p == some r)
  else (row.carried.any fun f => f.acc == .rwl) && !b.mayRwl r p

/-- A carried field is given a value that is not valid for it (R479). -/
def valueBad (row : RegRow) (v : Nat) : Bool := row.carried.any fun f => !f.takes (bits v f.lo f.w)

/-- The first code of R480 among those that apply; 0 when none does. Log: 15 (DEDUCED). -/
def firstCode (broken : List Nat) : Nat := (accOrder.find? fun c => broken.contains c).getD 0

/-- Codes as a list: the code when the condition holds. -/
def codeIf (c : Bool) (n : Nat) : List Nat := if c then [n] else []

/-- The access code of a write, with the codes a block's own rules add. Log: 15 (DEDUCED). -/
def Block.judgeWrite (b : Block) (r : Requester) (off v : Nat) (extra : List Nat := []) : Nat :=
  match regRow off with
  | none => firstCode (codeIf (off % 4 != 0) accAlign ++ [accReserved])
  | some row =>
    let ungranted := match r with
      | .prg c => !b.grantedWr c (off / 0x1000)
      | _ => false
    firstCode (codeIf (off % 4 != 0) accAlign ++ codeIf (b.writeClassBad r off row) accClass ++
      codeIf ungranted accUngranted ++ codeIf (b.blockDown off) accBlockDown ++
      codeIf (b.ownerBad r off) accOwner ++ codeIf (b.lockBad r off row) accLocked ++
      codeIf (valueBad row v) accValue ++ extra)

/-- The access code of a read. Log: 15 (DEDUCED). -/
def Block.judgeRead (b : Block) (r : Requester) (off : Nat) : Nat :=
  match regRow off with
  | none => firstCode (codeIf (off % 4 != 0) accAlign ++ [accReserved])
  | some _ =>
    let ungranted := match r with
      | .prg c => !b.granted c (off / 0x1000)
      | _ => false
    firstCode (codeIf (off % 4 != 0) accAlign ++ codeIf (b.readClassBad r off) accClass ++
      codeIf ungranted accUngranted ++ codeIf (b.blockDown off) accBlockDown)

/-! ### Refusals (R65) -/

/-- CLASS and ID of SYS_ACC_ERR_INFO. -/
def reqClass : Requester → Nat
  | .sup => 0
  | .prg _ => 1
  | .net _ => 2
  | .saf _ => 3

def reqId : Requester → Nat
  | .sup => 0
  | .prg c => c
  | .net s => s
  | .saf sy => if sy then 1 else 0

/-- The page whose BLK_STAT.ACC_ERR a refusal sets: the owning page, or SYS for a reserved page. -/
def errPage (off : Nat) : Nat :=
  let p := owningPage (off / 0x1000)
  if (pageType p).isSome then p else 0

/-- The registers that report a refusal: ACC_ERR, the address and requester of the first since the count was last zero, the count. -/
def Block.refuseRegs (b : Block) (r : Requester) (off code : Nat) (write : Bool) : Block :=
  let b := b.fset (F.BLK_STAT_ACC_ERR (errPage off)) 1
  let b := b.when (b.fget F.SYS_ACC_ERR_CNT_COUNT == 0) fun b =>
    ((((b.setRegN Reg.SYS_ACC_ERR_ADDR (0x40000000 + off)).fset F.SYS_ACC_ERR_INFO_CODE code).fset
      F.SYS_ACC_ERR_INFO_CLASS (reqClass r)).fsetB F.SYS_ACC_ERR_INFO_WRITE write).fset
      F.SYS_ACC_ERR_INFO_ID (reqId r)
  b.incSat F.SYS_ACC_ERR_CNT_COUNT

/-- The refusals not yet recorded, with one more of a requester. -/
def Block.refusalsPlus (b : Block) (r : Requester) : List (Requester × Refusals) :=
  let f := mapGet {} b.fab.refusals r
  mapSet b.fab.refusals r { f with since := f.since + 1 }

/-- A refused access changes no field and is reported on every path of R65. -/
def Block.refuse (b : Block) (r : Requester) (off code : Nat) (write : Bool) : Block :=
  let b' := b.refuseRegs r off code write
  { b' with fab := { b.fab with refusals := b.refusalsPlus r } }.out (.access r off code 0)

/-! ### Performing a write -/

/-- What a write leaves in one field: RW and RWL take the value, W1C clears, W1S sets, WO stores nothing (R7). -/
def writeFld (old v : Nat) (f : FldRow) : Nat :=
  let x := bits v f.lo f.w
  let o := bits old f.lo f.w
  match f.acc with
  | .rw | .rwl => putField old f.lo f.w (f.stores x)
  | .w1c => putField old f.lo f.w (o - (o &&& x))
  | .w1s => putField old f.lo f.w (o ||| x)
  | .ro | .wo | .rc => old

/-- The register's word after a write of `v`. -/
def RegRow.written (row : RegRow) (old v : Nat) : Nat := row.fields.foldl (fun w f => writeFld w v f) old

/-- The register's word after SAF has written `v`: SAF writes every field of what it is admitted to, whatever the standard
side's access is (R55, R295). -/
def RegRow.bySaf (row : RegRow) (old v : Nat) : Nat := row.carried.foldl (fun w f => putField w f.lo f.w (bits v f.lo f.w)) old

/-- Store an accepted write in the register. BLK_EVT_PEND clears in BLK_EVT_RAW; a write of BLK_CTL may set TEST. -/
def Block.storeWrite (b : Block) (off v : Nat) : Block :=
  let p := off / 0x1000
  match regRow off with
  | none => b
  | some row =>
    if !blockArea off && off % 0x1000 == 0x18 then
      b.setReg (Reg.BLK_EVT_RAW p) (b.reg (Reg.BLK_EVT_RAW p) &&& ~~~(BitVec.ofNat 32 v))
    else if !blockArea off && off % 0x1000 == 0x20 then b
    else
      let b := b.setRegN off (row.written (b.regN off) v)
      if !blockArea off && off % 0x1000 == 0x8 && bit v 1 then b.raiseEvt p 31 else b

/-- Store an accepted write of a requester. -/
def Block.storeBy (b : Block) (r : Requester) (off v : Nat) : Block :=
  match r, regRow off with
  | .saf _, some row => if off / 0x1000 = 0xC0 then b.setRegN off (row.bySaf (b.regN off) v) else b.storeWrite off v
  | _, _ => b.storeWrite off v

/-- A P field was written: its page's configuration record is to be made durable (R6, R398). -/
def Block.persistIf (b : Block) (off : Nat) : Block :=
  match regRow off with
  | none => b
  | some row => b.when (row.carried.any (·.pers)) fun b => b.celRequest (.config (off / 0x1000))

/-- An accepted write of RWL fields begins the time after which the page locks anew (R60). -/
def Block.rwlTimed (b : Block) (off : Nat) : Block :=
  b.when ((regRow off).any fun row => row.carried.any fun f => f.acc == .rwl) fun b => b.timed (.pageLock (owningPage (off / 0x1000)))

/-- A register write: refused as a whole with the first code that applies, or performed as a whole; `eff` is
what the block does with it. -/
def Block.regWrite (b : Block) (r : Requester) (off v : Nat) (extra : List Nat)
    (eff : Block → Block) : Block × Nat :=
  let code := b.judgeWrite r off v extra
  if code = 0 then (((eff (b.storeBy r off v)).persistIf off).rwlTimed off, 0)
  else (b.refuse r off code true, code)

/-- A register write of a command row, answered to its requester. Log: 9 (DEDUCED). -/
def Block.cmdWrite (b : Block) (r : Requester) (off v : Nat) (extra : List Nat)
    (eff : Block → Block) : Block :=
  let (b', code) := b.regWrite r off v extra eff
  if code = 0 then b'.out (.access r off 0 0) else b'

/-! ### Reading -/

/-- A read that clears the register's RC fields (R7). -/
def Block.clearRc (b : Block) (off : Nat) : Block :=
  match regRow off with
  | none => b
  | some row =>
    b.setRegN off (row.fields.foldl (fun w f => if f.acc == .rc then putField w f.lo f.w 0 else w) (b.regN off))

/-- SYS_EVL_STATk: the lines 32 k to 32 k + 31 as they are asserted now (R67). -/
def Block.evlLevels (b : Block) (k : Nat) : Word :=
  BitVec.ofNat 32 ((upto 32).map fun j => if b.lineAsserted (32 * k + j) then 2 ^ j else 0).sum

/-- The word a register reads as: WO fields read 0, BLK_EVT_PEND reads raw AND enabled, SYS_EVL_STATk the levels.
Log: 14 (DEDUCED). -/
def Block.readWord (b : Block) (off : Nat) : Word :=
  if !blockArea off && off % 0x1000 == 0x18 then b.evtPend (off / 0x1000)
  else if Reg.SYS_EVL_STAT 0 ≤ off ∧ off ≤ Reg.SYS_EVL_STAT 7 then b.evlLevels ((off - Reg.SYS_EVL_STAT 0) / 4)
  else b.reg off

/-! ### The 64-bit latches (R61) -/

def Block.latch (b : Block) (r : Requester) : Latch64 := mapGet {} b.fab.latches r

def Block.setLatch (b : Block) (r : Requester) (l : Latch64) : Block :=
  { b with fab := { b.fab with latches := mapSet b.fab.latches r l } }

end Sys2Proof.Machine
end

