-- ==== Sys2Proof/Machine/SoftFloat.lean ====
section
/-! DEFINITION. IEEE 754 binary32 and binary64 arithmetic with the fixed settings of R104: round to nearest,
ties to even; subnormals kept; every NaN result canonical. Values are bit patterns as numbers. Log: 138 (PRESUMED). -/

namespace Sys2Proof.Machine

/-- A binary format: precision in bits, exponent field width. -/
structure FFmt where
  p : Nat
  ew : Nat
deriving DecidableEq, Repr

def fmt32 : FFmt := ⟨24, 8⟩
def fmt64 : FFmt := ⟨53, 11⟩

/-- A decoded operand: a NaN (signalling or not), an infinity, or `m × 2^e`. -/
inductive FVal where
  | nan (signalling : Bool)
  | inf (neg : Bool)
  | fin (neg : Bool) (m : Nat) (e : Int)
deriving DecidableEq, Repr

/-- A result and the sticky flags it sets: bit 2 F_INVALID, bit 3 F_DIVZERO, bit 4 F_OVERFLOW (R116). -/
structure FRes where
  bits : Nat
  flags : Nat
deriving DecidableEq, Repr

def fInvalid : Nat := 4
def fDivZero : Nat := 8
def fOverflow : Nat := 16

/-- The exponent of the least bit of the smallest subnormal. -/
def FFmt.qmin (f : FFmt) : Int := 3 - (2 : Int) ^ (f.ew - 1) - f.p

/-- Largest exponent field, used by infinities and NaNs. -/
def FFmt.emax (f : FFmt) : Nat := 2 ^ f.ew - 1

def FFmt.signBit (f : FFmt) : Nat := 2 ^ (f.p - 1 + f.ew)

def FFmt.sgn (f : FFmt) (neg : Bool) : Nat := if neg then f.signBit else 0

def FFmt.infinity (f : FFmt) (neg : Bool) : Nat := f.sgn neg + f.emax * 2 ^ (f.p - 1)

/-- The canonical quiet NaN, 0x7FC0_0000 or 0x7FF8_0000_0000_0000. -/
def FFmt.qnan (f : FFmt) : Nat := f.emax * 2 ^ (f.p - 1) + 2 ^ (f.p - 2)

def FFmt.zero (f : FFmt) (neg : Bool) : Nat := f.sgn neg

/-- Decode a bit pattern. -/
def FFmt.unpack (f : FFmt) (x : Nat) : FVal :=
  let neg := x / f.signBit % 2 == 1
  let ex := x / 2 ^ (f.p - 1) % 2 ^ f.ew
  let fr := x % 2 ^ (f.p - 1)
  if ex = f.emax then
    if fr = 0 then .inf neg else .nan (fr / 2 ^ (f.p - 2) == 0)
  else if ex = 0 then .fin neg fr f.qmin
  else .fin neg (fr + 2 ^ (f.p - 1)) (f.qmin + ex - 1)

/-- `m / 2^k` rounded to nearest, ties to even; `sticky` says the true value lies above `m`. -/
def roundShift (m k : Nat) (sticky : Bool) : Nat :=
  if k = 0 then m
  else
    let r := m / 2 ^ k
    let rem := m % 2 ^ k
    let half := 2 ^ (k - 1)
    if half < rem ∨ (rem = half ∧ (sticky = true ∨ r % 2 = 1)) then r + 1 else r

/-- Exponent of the least bit that a result `m × 2^e` keeps in the format. -/
def FFmt.quantum (f : FFmt) (m : Nat) (e : Int) : Int := max (e + (Nat.log2 m + 1 : Nat) - f.p) f.qmin

/-- A rounded `r × 2^q` in the format. -/
def FFmt.pack (f : FFmt) (neg : Bool) (r : Nat) (q : Int) : FRes :=
  let (r, q) := if 2 ^ f.p ≤ r then (r / 2, q + 1) else (r, q)
  if r < 2 ^ (f.p - 1) then ⟨f.sgn neg + r, 0⟩
  else
    let ex := (q - f.qmin + 1).toNat
    if f.emax ≤ ex then ⟨f.infinity neg, fOverflow⟩
    else ⟨f.sgn neg + ex * 2 ^ (f.p - 1) + (r - 2 ^ (f.p - 1)), 0⟩

/-- Round `m × 2^e` (a little more when `sticky`) into the format. -/
def FFmt.round (f : FFmt) (neg : Bool) (m : Nat) (e : Int) (sticky : Bool := false) : FRes :=
  if m = 0 then ⟨f.zero neg, 0⟩
  else
    let q := f.quantum m e
    f.pack neg (if q ≤ e then m * 2 ^ (e - q).toNat else roundShift m (q - e).toNat sticky) q

/-- `m × 2^e` rounded toward +∞ (R205). -/
def FFmt.roundUp (f : FFmt) (m : Nat) (e : Int) : Nat :=
  if m = 0 then f.zero false
  else
    let q := f.quantum m e
    (f.pack false (if q ≤ e then m * 2 ^ (e - q).toNat else (m + 2 ^ (q - e).toNat - 1) / 2 ^ (q - e).toNat) q).bits

/-- A NaN result; an invalid operation sets F_INVALID. -/
def FFmt.nanRes (f : FFmt) (invalid : Bool) : FRes := ⟨f.qnan, if invalid then fInvalid else 0⟩

def FVal.isNan : FVal → Bool
  | .nan _ => true
  | _ => false

def FVal.isSnan : FVal → Bool
  | .nan s => s
  | _ => false

/-- Sum of two exact values; an exact zero sum is +0 unless both are negative. -/
def FFmt.addFin (f : FFmt) (s1 : Bool) (m1 : Nat) (e1 : Int) (s2 : Bool) (m2 : Nat) (e2 : Int) : FRes :=
  let e := min e1 e2
  let a : Int := (m1 * 2 ^ (e1 - e).toNat : Nat)
  let b : Int := (m2 * 2 ^ (e2 - e).toNat : Nat)
  let v := (if s1 then -a else a) + (if s2 then -b else b)
  if v = 0 then ⟨f.zero (s1 && s2), 0⟩ else f.round (decide (v < 0)) v.natAbs e

def FFmt.addV (f : FFmt) (a b : FVal) : FRes :=
  match a, b with
  | .nan s, y => f.nanRes (s || y.isSnan)
  | x, .nan s => f.nanRes (s || x.isSnan)
  | .inf s, .inf t => if s = t then ⟨f.infinity s, 0⟩ else f.nanRes true
  | .inf s, .fin _ _ _ => ⟨f.infinity s, 0⟩
  | .fin _ _ _, .inf s => ⟨f.infinity s, 0⟩
  | .fin s1 m1 e1, .fin s2 m2 e2 => f.addFin s1 m1 e1 s2 m2 e2

def FVal.negate : FVal → FVal
  | .nan s => .nan s
  | .inf s => .inf (!s)
  | .fin s m e => .fin (!s) m e

def FFmt.add (f : FFmt) (x y : Nat) : FRes := f.addV (f.unpack x) (f.unpack y)

def FFmt.sub (f : FFmt) (x y : Nat) : FRes := f.addV (f.unpack x) (f.unpack y).negate

def FFmt.mul (f : FFmt) (x y : Nat) : FRes :=
  match f.unpack x, f.unpack y with
  | .nan s, y => f.nanRes (s || y.isSnan)
  | x, .nan s => f.nanRes (s || x.isSnan)
  | .inf s, .inf t => ⟨f.infinity (s != t), 0⟩
  | .inf s, .fin t m _ => if m = 0 then f.nanRes true else ⟨f.infinity (s != t), 0⟩
  | .fin t m _, .inf s => if m = 0 then f.nanRes true else ⟨f.infinity (s != t), 0⟩
  | .fin s1 m1 e1, .fin s2 m2 e2 => f.round (s1 != s2) (m1 * m2) (e1 + e2)

def FFmt.div (f : FFmt) (x y : Nat) : FRes :=
  match f.unpack x, f.unpack y with
  | .nan s, y => f.nanRes (s || y.isSnan)
  | x, .nan s => f.nanRes (s || x.isSnan)
  | .inf _, .inf _ => f.nanRes true
  | .inf s, .fin t _ _ => ⟨f.infinity (s != t), 0⟩
  | .fin s _ _, .inf t => ⟨f.zero (s != t), 0⟩
  | .fin s1 m1 e1, .fin s2 m2 e2 =>
    if m2 = 0 then (if m1 = 0 then f.nanRes true else ⟨f.infinity (s1 != s2), fDivZero⟩)
    else
      let k := 2 * f.p + 4
      let n := m1 * 2 ^ k
      f.round (s1 != s2) (n / m2) (e1 - e2 - k) (decide (n % m2 ≠ 0))

/-- Integer square root by one bit of the result at a time. -/
def isqrtGo (n : Nat) : Nat → Nat → Nat
  | 0, r => r
  | k + 1, r =>
    let c := r + 2 ^ k
    isqrtGo n k (if c * c ≤ n then c else r)

def isqrt (n : Nat) : Nat := isqrtGo n (Nat.log2 n / 2 + 1) 0

def FFmt.sqrt (f : FFmt) (x : Nat) : FRes :=
  match f.unpack x with
  | .nan s => f.nanRes s
  | .inf s => if s then f.nanRes true else ⟨f.infinity false, 0⟩
  | .fin s m e =>
    if m = 0 then ⟨f.zero s, 0⟩
    else if s then f.nanRes true
    else
      let k := 2 * f.p + 4
      let odd := (e - k) % 2 ≠ 0
      let n := if odd then m * 2 ^ (k + 1) else m * 2 ^ k
      let e' : Int := if odd then e - k - 1 else e - k
      let r := isqrt n
      f.round false r (e' / 2) (decide (r * r ≠ n))

/-- `d + x × y` rounded once. Zero times infinity is invalid whatever the addend (R104). -/
def FFmt.fma (f : FFmt) (d x y : Nat) : FRes :=
  let c := f.unpack d
  let a := f.unpack x
  let b := f.unpack y
  let zeroInf := match a, b with
    | .inf _, .fin _ m _ => m == 0
    | .fin _ m _, .inf _ => m == 0
    | _, _ => false
  if zeroInf then f.nanRes true
  else if a.isNan || b.isNan || c.isNan then f.nanRes (a.isSnan || b.isSnan || c.isSnan)
  else
    let prod : FVal := match a, b with
      | .inf s, .inf t => .inf (s != t)
      | .inf s, .fin t _ _ => .inf (s != t)
      | .fin s _ _, .inf t => .inf (s != t)
      | .fin s1 m1 e1, .fin s2 m2 e2 => .fin (s1 != s2) (m1 * m2) (e1 + e2)
      | _, _ => .nan false
    f.addV prod c

/-- Exact order of two values that are no NaN: negative, zero or positive difference. -/
def FVal.diff : FVal → FVal → Int
  | .inf s, .inf t => (if s then -1 else 1) - (if t then -1 else 1)
  | .inf s, _ => if s then -1 else 1
  | _, .inf t => if t then 1 else -1
  | .fin s1 m1 e1, .fin s2 m2 e2 =>
    let e := min e1 e2
    let a : Int := (m1 * 2 ^ (e1 - e).toNat : Nat)
    let b : Int := (m2 * 2 ^ (e2 - e).toNat : Nat)
    (if s1 then -a else a) - (if s2 then -b else b)
  | _, _ => 0

/-- MIN (`mx` false) and MAX: a NaN yields the other operand; −0 lies below +0 (R104). -/
def FFmt.minMax (f : FFmt) (mx : Bool) (x y : Nat) : FRes :=
  let a := f.unpack x
  let b := f.unpack y
  let fl := if a.isSnan || b.isSnan then fInvalid else 0
  if a.isNan && b.isNan then ⟨f.qnan, fl⟩
  else if a.isNan then ⟨y, fl⟩
  else if b.isNan then ⟨x, fl⟩
  else
    let d := a.diff b
    let less := decide (d < 0) || (d == 0 && x / f.signBit % 2 == 1)
    ⟨if less != mx then x else y, 0⟩

/-- Unordered when an operand is a NaN; otherwise the exact difference. -/
def FFmt.order (f : FFmt) (x y : Nat) : Option Int :=
  let a := f.unpack x
  let b := f.unpack y
  if a.isNan || b.isNan then none else some (a.diff b)

def FFmt.anySnan (f : FFmt) (x y : Nat) : Bool := (f.unpack x).isSnan || (f.unpack y).isSnan

/-- An exact integer to the format. -/
def FFmt.ofInt (f : FFmt) (v : Int) : Nat := (f.round (decide (v < 0)) v.natAbs 0).bits

/-- One format to another. -/
def FFmt.convert (src dst : FFmt) (x : Nat) : FRes :=
  match src.unpack x with
  | .nan s => dst.nanRes s
  | .inf s => ⟨dst.infinity s, 0⟩
  | .fin s m e => dst.round s m e

/-- Round a value that is no NaN to an integer, to nearest even or toward zero; none for an infinity. -/
def FVal.toInt (trunc : Bool) : FVal → Option Int
  | .fin s m e =>
    let r := if 0 ≤ e then m * 2 ^ e.toNat
      else if trunc then m / 2 ^ (-e).toNat
      else roundShift m (-e).toNat false
    some (if s then -(r : Int) else r)
  | _ => none

end Sys2Proof.Machine
end

