-- ==== Sys2Proof/Machine/Channel.lean ====
section
/-! DEFINITION. The universal field channels and their field supply: modes, samples, faults, the driven target by the first row that applies, test pulses, calibration (R38, R39, R227 to R259). -/

namespace Sys2Proof.Machine

/-! ### Decimal currents and binary32 -/

/-- Sign of a binary32 value minus num/den; none for a NaN. -/
def f32Cmp (v num den : Nat) : Option Int :=
  match fmt32.unpack v with
  | .nan _ => none
  | .inf s => some (if s then -1 else 1)
  | .fin s m e =>
    let a : Int := (if s then -1 else 1) * ((m * den * 2 ^ e.toNat : Nat) : Int)
    some (a - ((num * 2 ^ (-e).toNat : Nat) : Int))

/-- A binary32 value is below num/den; a NaN is not. -/
def f32Lt (v num den : Nat) : Bool := match f32Cmp v num den with
  | some d => decide (d < 0)
  | none => false

/-- A binary32 value is at most num/den. -/
def f32Le (v num den : Nat) : Bool := match f32Cmp v num den with
  | some d => decide (d ≤ 0)
  | none => false

/-- A binary32 value in units of 2^-149, in which every finite one is whole. -/
def f32Exact (v : Nat) : Int :=
  match fmt32.unpack v with
  | .fin s m e => (if s then -1 else 1) * ((m * 2 ^ (e + 149).toNat : Nat) : Int)
  | _ => 0

/-- A current in mA lies more than 50 µA below a target. -/
def shortOf (target current : Nat) : Bool := decide ((2 : Int) ^ 149 < 20 * (f32Exact target - f32Exact current))

/-- A current in mA lies within 50 µA of a target. -/
def nearTo (target current : Nat) : Bool := !shortOf target current && !shortOf current target

/-- A binary32 value lies between two rationals over one denominator. -/
def f32In (v lo hi den : Nat) : Bool := !f32Lt v lo den && f32Le v hi den

def mA3_6 : Nat := 0x40666666
def mA3_8 : Nat := 0x40733333
def mA4 : Nat := 0x40800000
def mA20 : Nat := 0x41A00000
def mA20_5 : Nat := 0x41A40000
def mA21 : Nat := 0x41A80000
def mA24 : Nat := 0x41C00000
def f32One : Nat := 0x3F800000

/-! ### Reading a channel -/

def Block.chan (b : Block) (n : Nat) : Chan := mapGet {} b.chans n

def Block.setChan (b : Block) (n : Nat) (c : Chan) : Block := { b with chans := mapSet b.chans n c }

/-- Change the hidden state of a channel. -/
def Block.modChan (b : Block) (n : Nat) (f : Chan → Chan) : Block := b.setChan n (f (b.chan n))

/-- CH_MODE.MODE. -/
def Block.chMode (b : Block) (n : Nat) : Nat := b.fget (F.CH_MODE_MODE n)

/-- The page of channel `n`. -/
def chPage (n : Nat) : Nat := 0x40 + n

def isAiMode (m : Nat) : Bool := m == 1 || m == 2
def isAoMode (m : Nat) : Bool := m == 3 || m == 10
def isDiMode (m : Nat) : Bool := m == 4 || m == 5 || m == 7 || m == 8
def isDoMode (m : Nat) : Bool := m == 6 || m == 9
/-- Modes whose standard-side path holds trims (R252). -/
def hasTrims (m : Nat) : Bool := isAiMode m || isAoMode m

/-- SP of the channel is pulsed (R244, R248). -/
def pulsedSp (mode spUse : Nat) : Bool := isDiMode mode || (isDoMode mode && spUse == 1)

def Block.chPulsed (b : Block) (n : Nat) : Bool := pulsedSp (b.chMode n) (b.fget (F.CH_MODE_SP_USE n))

/-- Another DI or SDI input expects slot `n`. -/
def Block.slotExpected (b : Block) (n : Nat) : Bool :=
  (upto 64).any fun m => m != n && isDiMode (b.chMode m) && b.fget (F.CH_DI_CFG_TP_SLOT m) == n

/-! ### Quality (R230) -/

/-- Level of a cause: 0 GOOD, 1 UNCERTAIN, 2 BAD. Cause 6 of a DO readback is UNCERTAIN. -/
def causeLevel (mode cause : Nat) : Nat :=
  if cause = 0 then 0
  else if cause = 6 then (if isDoMode mode then 1 else 2)
  else if [2, 3, 9, 11, 12, 15, 19, 25].contains cause then 1
  else 2

/-- The causes that apply to a channel's elements. -/
def Block.chCauses (b : Block) (n : Nat) : List Nat :=
  let c := b.chan n
  let m := b.chMode n
  if m = 0 then [16] else
  codeIf (!c.valued) 1 ++ codeIf (c.mcause != 0) c.mcause ++
  codeIf (b.fgetB (F.CH_STAT_FIELD n) || c.fieldWait) 8 ++
  codeIf (b.fgetB (F.CH_STAT_COMPLIANCE n)) 9 ++ codeIf (b.fgetB (F.CH_STAT_CHANNEL_FAULT n)) 10 ++
  codeIf c.cal.isSome 11 ++ codeIf (b.fgetB (F.CH_STAT_THERMAL n)) 12 ++
  codeIf (b.fgetB (F.CH_STAT_OVERLOAD n)) 13 ++ codeIf (b.fgetB (F.CH_STAT_TP_FAULT n)) 14 ++
  codeIf (b.fgetB (F.CH_STAT_RATE_HOLD n)) 15 ++ codeIf (b.fgetB (F.CH_STAT_TRIPPED n)) 17 ++
  codeIf c.selfFail 18 ++ codeIf (b.fgetB (F.CH_STAT_HIZ n)) 19

/-- The lowest-numbered cause of the highest level. -/
def worstCause (mode : Nat) (l : List Nat) : Nat :=
  ((l.filter fun c => causeLevel mode c == 2).min?).getD (l.min?.getD 0)

/-! ### The driven target (R234, R249) -/

/-- FAIL's current. -/
def Block.failCurrent (b : Block) (n : Nat) : Nat := if b.fgetB (F.CH_AO_CFG_FAIL n) then mA21 else mA3_6

/-- A setpoint as driven: limited to 3.8 to 20.5 mA, a NaN selecting the failure current; and whether the limit acted. -/
def Block.setpoint (b : Block) (n v : Nat) : Nat × Bool :=
  match f32Cmp v 38 10 with
  | none => (b.failCurrent n, false)
  | some _ =>
    if f32Lt v 38 10 && v != mA3_8 then (mA3_8, true)
    else if f32Le v 41 2 then (v, false) else (mA20_5, true)

/-- CH_SUBST's value: target and whether the limit acted. HOLD needs a value committed since start. -/
def Block.substitute (b : Block) (n : Nat) : Nat × Bool :=
  let isAo := isAoMode (b.chMode n)
  let fail : Nat × Bool := if isAo then (b.failCurrent n, false) else (0, false)
  match b.fget (F.CH_SUBST_KIND n) with
  | 1 => if isAo then b.setpoint n (b.fget (F.CH_SUBST_VAL_VALUE n)) else (b.fget (F.CH_SUBST_VAL_VALUE n) % 2, false)
  | 2 => match (b.chan n).last with
    | some v => if isAo then b.setpoint n v else (v % 2, false)
    | none => fail
  | _ => fail

/-- What a stage drives: STATE of CH_STAT, target (none where the stage is undriven), and whether the limit acted. -/
structure Drive where
  state : Nat
  target : Option Nat
  clamp : Bool := false
deriving DecidableEq, Repr

/-- The stage is de-energised: an AO carries at most 0.1 mA, which is no target; a DO is off. -/
def stageOff (isAo : Bool) : Drive := ⟨7, if isAo then none else some 0, false⟩

/-- The rows of R249 below the fault rows: the module state and the element. Until the first complete cycle after start an
output keeps its START safe state in every module state (R30). Log: 141 (DEDUCED). -/
def Block.wanted (b : Block) (n : Nat) : Drive :=
  let isAo := isAoMode (b.chMode n)
  let sub : Drive := let (v, k) := b.substitute n; ⟨3, some v, k⟩
  let safe : Drive :=
    if isAo then
      (if b.fget (F.CH_SUBST_KIND n) = 1 then { sub with state := 1 } else ⟨1, some (b.failCurrent n), false⟩)
    else ⟨1, some 0, false⟩
  let value (st v : Nat) : Drive :=
    if isAo then let (x, k) := b.setpoint n v; ⟨st, some x, k⟩ else ⟨st, some (v % 2), false⟩
  let c := b.chan n
  if b.running && b.pwr.released then
    match c.forced with
    | some v => value 4 v
    | none => match c.last with
      | some v => if c.active then value 2 v else sub
      | none => sub
  else if b.modState = stHalt ∧ b.pwr.haltOff then stageOff isAo
  else if (b.modState = stStop ∨ b.modState = stHalt) ∧ b.pwr.released then sub
  else safe

/-- R249: the first row that applies. -/
def Block.drive (b : Block) (n : Nat) : Drive :=
  let isAo := isAoMode (b.chMode n)
  if !b.pwr.frontEnds || b.fgetB (F.CH_STAT_FIELD n) then stageOff isAo
  else if isAo && b.fgetB (F.CH_STAT_TRIPPED n) then ⟨7, none, false⟩
  else if b.fgetB (F.CH_STAT_HIZ n) then ⟨7, none, false⟩
  else if isAo && b.fgetB (F.CH_STAT_CHANNEL_FAULT n) then ⟨6, some (b.failCurrent n), false⟩
  else if !isAo && (b.fgetB (F.CH_STAT_OVERLOAD n) || b.fgetB (F.CH_STAT_RATE_HOLD n)) then ⟨6, some 0, false⟩
  else match isAo, (b.chan n).cal with
    | true, some s => ⟨5, some (if s.atSpan then mA20 else mA4), false⟩
    | _, _ => b.wanted n

/-- Energy absorbed by the clamp in the trailing second, in µJ. Log: 25 (DESIGN CHOICE). -/
def clampSum (now : Nat) (l : List (Nat × Nat)) : Nat :=
  ((l.filter fun e => decide (now < e.1 + 1000000000)).map (·.2)).sum

/-- A DO or SDO stage follows its target: a switch-off absorbs an energy the model leaves free and ends an open-load
report; a switch-on waits while the trailing energy exceeds 20 mJ (R243).
Log: 25 (DESIGN CHOICE), 155 (DESIGN CHOICE). -/
def Block.switchDo (b : Block) (n : Nat) (on : Bool) : Block :=
  let c := b.chan n
  if c.onNow && !on then
    let (e, b) := (b.fset (F.CH_STAT_OPEN n) 0).free
    b.setChan n { c with onNow := false, mcause := 0, clamps := (b.clk, e.toNat) :: c.clamps.filter fun x => decide (b.clk < x.1 + 1000000000) }
  else if !c.onNow && on then
    if 20000 < clampSum b.clk c.clamps then b.fset (F.CH_STAT_RATE_HOLD n) 1
    else b.setChan n { c with onNow := true }
  else b

/-- Write a bit of a channel map. -/
def Block.chMap (b : Block) (lo n : Nat) (v : Bool) : Block :=
  b.fsetB ⟨lo + 4 * (n / 32), n % 32, 1⟩ v

/-- What an SDO stage drives: it follows the island alone (R249, R283). Log: 156 (DEDUCED). -/
def Block.driveSdo (b : Block) (n : Nat) : Drive :=
  if !b.pwr.frontEnds || b.fgetB (F.CH_STAT_FIELD n) then stageOff false
  else if b.fgetB (F.CH_STAT_OVERLOAD n) || b.fgetB (F.CH_STAT_RATE_HOLD n) then ⟨6, some 0, false⟩
  else if b.fgetB (F.CH_STAT_TRIPPED n) then stageOff false
  else ⟨2, some 1, false⟩

/-- What an output stage drives. -/
def Block.stage (b : Block) (n : Nat) : Drive := if b.chMode n = 9 then b.driveSdo n else b.drive n

/-- A DO or SDO is to be off whatever the trailing clamp energy is. -/
def Block.wantsOff (b : Block) (n : Nat) : Bool :=
  if b.chMode n = 9 then b.fgetB (F.CH_STAT_TRIPPED n) else (b.wanted n).target == some 0

/-- Drive a stage and show it: CH_OUT, CH_STAT.STATE, CLAMP. -/
def Block.chDrive (b : Block) (n : Nat) : Block :=
  let m := b.chMode n
  if isAoMode m || isDoMode m then
    let b := b.when (isDoMode m) fun b =>
      let b := b.when (b.fgetB (F.CH_STAT_RATE_HOLD n) && b.wantsOff n) fun b => b.fset (F.CH_STAT_RATE_HOLD n) 0
      b.switchDo n ((b.stage n).target == some 1)
    let d := b.stage n
    let b := b.fset (F.CH_STAT_STATE n) d.state
    let b := b.setRegN (Reg.CH_OUT n) (d.target.getD (Config.undrivenTarget n).toNat)
    b.when d.clamp fun b => b.fset (F.CH_STAT_CLAMP n) 1
  else
    let c := b.chan n
    b.fset (F.CH_STAT_STATE n)
      (if m = 0 then 0 else if !b.pwr.frontEnds || b.fgetB (F.CH_STAT_FIELD n) then 7
        else if c.cal.isSome then 5 else 2)

/-! ### The adaptive supply (R40, R240, R244) -/

/-- Voltage of the ORed field bus in mV: that of the higher input, without the drop of its diode.
Log: 154 (DESIGN CHOICE). -/
def Block.busMv (b : Block) : Nat :=
  if b.pwr.fieldOn then Nat.max (b.fget F.CHG_FP_V_FP1) (b.fget F.CHG_FP_V_FP2) else 0

/-- The lower of 26 V and the field bus less 1.0 V. -/
def supplyLimit (bus : Nat) : Nat := Nat.min 26000 (bus - 1000)

/-- The output for a load that takes `load`: 2 V headroom; with SP in its limit 2.5 V across the limiter. -/
def adaptiveMv (bus load : Nat) (spLimit : Bool) : Nat :=
  Nat.min (supplyLimit bus) (load + if spLimit then 2500 else 2000)

/-- The adaptive supply of a channel as its mode uses it: SG in AO modes, SP in AI_ACTIVE (of the unit with the claim,
R362) and DI modes, lowered while SP is in its limit, and SP of a DO per SP_USE. Log: 154 (DESIGN CHOICE). -/
def Block.supplyMv (b : Block) (n : Nat) : Nat :=
  let m := b.chMode n
  let c := b.chan n
  if !b.pwr.frontEnds || b.fgetB (F.CH_STAT_FIELD n) then 0
  else if isAoMode m then (if (b.drive n).state = 7 then 0 else adaptiveMv b.busMv c.loadMv false)
  else if m = 1 then (if b.holdsLocal then adaptiveMv b.busMv c.loadMv c.spLimit else 0)
  else
    let sp :=
      if m = 5 ∨ m = 8 then Nat.min 8200 (supplyLimit b.busMv)
      else if isDiMode m || (isDoMode m && b.fget (F.CH_MODE_SP_USE n) != 0) then Nat.min 24000 (b.busMv - 1000)
      else 0
    if isDiMode m && c.spLimit then Nat.min sp (adaptiveMv b.busMv c.loadMv true) else sp

/-- The stage junction temperature in 1/16 °C. -/
def Block.showTj (b : Block) (n : Nat) (tj : Int) : Block := b.fset (F.CH_SUPPLY_TJ n) (tj % 65536).toNat

/-- Recompute everything a channel shows from its state. On a pair base the output stages of the unit without the
claim are high impedance (R362). -/
def Block.chRefresh (b : Block) (n : Nat) : Block :=
  let m := b.chMode n
  let b := b.fsetB (F.CH_STAT_HIZ n) ((m == 3 || m == 6 || m == 10) && !b.holdsLocal)
  let b := b.chDrive n
  let b := b.fset (F.CH_SUPPLY_SUPPLY n) (b.supplyMv n)
  let w := worstCause m (b.chCauses n)
  let b := (b.fset (F.CH_STAT_CAUSE n) w).fset (F.CH_STAT_LEVEL n) (causeLevel m w)
  (((b.chMap Reg.CHG_FAULT_LO n (b.fgetB (F.CH_STAT_CHANNEL_FAULT n))).chMap Reg.CHG_COMP_LO n
    (b.fgetB (F.CH_STAT_COMPLIANCE n))).chMap Reg.CHG_TPF_LO n (b.fgetB (F.CH_STAT_TP_FAULT n))).chMap
    Reg.CHG_ISL_LO n (b.chan n).island

/-- Recompute every channel. -/
def Block.chRefreshAll (b : Block) : Block := b.forAll (upto 64) Block.chRefresh

/-! ### Calibration sessions end (R253) -/

/-- A local session of the channel ends: the menu is back at SELECT (R453, R457). -/
def Block.localEnded (b : Block) (n : Nat) : Block :=
  match (b.chan n).cal with
  | some cs =>
    b.when cs.isLocal fun b => ((b.fset F.BTN_STAT_CAL_STEP 1).fset F.BTN_STAT_CAL_OPEN 0).raiseEvt 0xE2 2
  | none => b

/-- The session of a channel ends without change. -/
def Block.calEnd (b : Block) (n : Nat) : Block :=
  ((b.localEnded n).modChan n fun c => { c with cal := none }).chRefresh n

/-- Every session ends as cancelled. -/
def Block.calEndAll (b : Block) : Block :=
  b.forAll ((upto 64).filter fun n => (b.chan n).cal.isSome) Block.calEnd

/-- A unit without the claim holds no session (R253, R257). -/
def Block.calClaim (b : Block) : Block := if b.holdsLocal then b else b.calEndAll

/-- Sessions of the channels that a forced VID names end as cancelled (R253). -/
def Block.calForced (b : Block) (els : List IoEl) (vid : Nat) : Block :=
  b.forAll ((upto 64).filter fun n => (b.chan n).cal.isSome &&
    els.any fun e => e.vid == vid && bits e.source 24 8 == 0x40 && bits e.source 16 6 == n) Block.calEnd

/-! ### Field supply (R38, R39, R250) -/

/-- The field supply fault of every channel in use: stages and SP supplies are off, a session ends, and what the last sample
was classed as no longer counts: the cause is 8 (R250). -/
def Block.fieldFault (b : Block) : Block :=
  b.forAll ((upto 64).filter fun n => b.chMode n != 0) fun b n =>
    let b := ((b.localEnded n).fset (F.CH_STAT_FIELD n) 1).fset (F.CH_STAT_COMPLIANCE n) 0
    let b := b.modChan n fun c => { c with cal := none, fieldWait := true, mcause := 0, anom := 0, short := false }
    b.chRefresh n

/-- The field bus is back: stages take their targets, inputs wait for a complete sample or filter time. -/
def Block.fieldBack (b : Block) : Block :=
  let b := { b with pwr := { b.pwr with fieldOn := true } }
  let b := ((b.fset F.CHG_FP_STAT_TRIPPED 0).fset F.CHG_FP_STAT_UNDERVOLT 0).fset F.CHG_FP_STAT_BUS_OK 1
  let b := b.forAll (upto 64) fun b n => ((b.fset (F.CH_STAT_FIELD n) 0).modChan n fun c =>
    { c with fieldWait := c.fieldWait && !isDoMode (b.chMode n) }).chRefresh n
  b.raiseEvt 0x80 6

/-! ### Measurements -/

/-- The untrimmed current of a converter code: 1 LSB = 24 mA / 2^23. Log: 24 (DEDUCED). -/
def codeCurrent (code : Int) : Nat := (fmt32.round (decide (code < 0)) (code.natAbs * 24) (-23)).bits

/-- gain × untrimmed + zero (R252). Log: 24 (DEDUCED). -/
def Block.trimmed (b : Block) (n raw : Nat) : Nat :=
  (fmt32.fma (b.regN (Reg.CH_TRIM_ZERO n)) (b.regN (Reg.CH_TRIM_GAIN n)) raw).bits

/-- A measured current is delivered limited to 24 mA (R233). -/
def limit24 (v : Nat) : Nat := if f32Le v 24 1 then v else mA24

/-- NE 43 (R233): the cause of a measured current. Log: 24 (DEDUCED). -/
def ne43 (v : Nat) (spLimit : Bool) : Nat :=
  if spLimit then 7
  else if f32Lt v 5 10 then 6
  else if f32Le v 36 10 || v == mA3_6 then 4
  else if f32Lt v 38 10 && v != mA3_8 then 2
  else if f32Le v 41 2 then 0
  else if f32Lt v 21 1 then 3
  else if f32Le v 23 1 then 5
  else 7

/-- R263: the cause of the current of a multidrop channel with park current `park` in µA. -/
def parkCause (v park : Nat) (spLimit : Bool) : Nat :=
  if f32Lt v 5 10 then 6
  else if spLimit || !f32Le v 24 1 then 7
  else if f32In v (park - 500) (park + 500) 1000 then 0
  else 25

/-- The channel is in multidrop (R261). -/
def Block.multidrop (b : Block) (n : Nat) : Bool :=
  b.fgetB (F.HRT_CH_STAT_HELD n) && b.fget (F.HRT_CH_CFG_BIND n) == 2

/-- Show a measurement's cause: OPEN, SHORT and their events, and the event of leaving the valid span for a value that was
GOOD by its own classification. -/
def Block.measured (b : Block) (n cause : Nat) (span : Bool) : Block :=
  let old := (b.chan n).mcause
  let b := b.modChan n fun c => { c with mcause := cause }
  let b := (b.fsetB (F.CH_STAT_OPEN n) (cause == 6)).fsetB (F.CH_STAT_SHORT n) (cause == 7)
  let b := b.chRefresh n
  let b := b.when (cause == 6 && old != 6) fun b => b.raiseEvt (chPage n) 4
  let b := b.when (cause == 7 && old != 7) fun b => b.raiseEvt (chPage n) 5
  b.when (span && cause != 0 && old == 0) fun b => b.raiseEvt (chPage n) 11

/-- On a DI or SDI a sample shows only its SP: the voltage the load takes, whether SP is in its limit of 25 mA, and the stage
temperature (R40). -/
def Block.spSample (b : Block) (n : Nat) (i : Sample) : Block :=
  ((b.modChan n fun c => { c with loadMv := i.loadMv, spLimit := i.spLimit }).showTj n i.tj).chRefresh n

/-- A foldback now leaves the current short of its target: the COMPLIANCE timer begins (R238). Log: 209 (DEDUCED). -/
def Block.foldsShort (b : Block) (n : Nat) (short : Bool) : Bool :=
  short && b.fgetB (F.CH_STAT_THERMAL n) && !(b.chan n).short && !b.fgetB (F.CH_STAT_COMPLIANCE n)

/-- R232: a sampling instant closes the window; the timestamp is the middle of the actual window.
Log: 30 (DESIGN CHOICE). -/
def Block.sample (b : Block) (n : Nat) (i : Sample) : Block :=
  let m := b.chMode n
  if !b.pwr.frontEnds || b.fgetB (F.CH_STAT_FIELD n) then b
  else if isDiMode m then b.spSample n i
  else if !hasTrims m then b else
  let b := b.when i.merged fun b => b.incSat (F.CH_FAULT_MERGE n)
  let v := b.trimmed n (codeCurrent i.code)
  let mid := b.now - i.windowNs / 2
  let b := (b.setRegN (Reg.CH_RAW n) (i.code % (2 : Int) ^ 32).toNat).setRegN (Reg.CH_VALUE n) (limit24 v)
  let b := (b.setRegN (Reg.CH_TIME_LO n) (mid % 1000000000)).setRegN (Reg.CH_TIME_HI n) (low 32 (mid / 1000000000))
  let wasGood := (b.chan n).valued && !(b.chan n).fieldWait
  let b := b.when (b.foldsShort n (shortOf ((b.drive n).target.getD 0) v)) fun b => b.timed (.comp n)
  let b := (b.modChan n fun c => { c with
    valued := true, fieldWait := false, loadMv := i.loadMv, spLimit := i.spLimit && m == 1
    short := shortOf ((b.drive n).target.getD 0) v }).showTj n i.tj
  if isAiMode m then
    if b.multidrop n then b.measured n (parkCause v (b.fget (F.HRT_CH_CFG_PARK n)) i.spLimit) false
    else b.measured n (ne43 v i.spLimit) wasGood
  else b.chRefresh n

def execAiSample (ch : Fin 64) (i : Sample) (s : State) : Host.Outcome State Fault Refusal :=
  lift (fun b => b.sample ch.val i) s

/-- R241: a state accepted after the filter time; INVERT applies after filtering, and to inputs alone.
Log: 26 (DEDUCED), 27 (DEDUCED). -/
def execDiStateAccepted (ch : Fin 64) (on : Bool) (sinceNs : Nat) (s : State) : Host.Outcome State Fault Refusal := lift (fun b =>
  let n := ch.val
  let m := b.chMode n
  if !(isDiMode m || isDoMode m) || !b.pwr.frontEnds || b.fgetB (F.CH_STAT_FIELD n) then b else
  let v := if isDiMode m then (on != b.fgetB (F.CH_DI_CFG_INVERT n)) else on
  let b := b.setRegN (Reg.CH_VALUE n) (if v then f32One else 0)
  let b := (b.setRegN (Reg.CH_TIME_LO n) (sinceNs % 1000000000)).setRegN (Reg.CH_TIME_HI n) (low 32 (sinceNs / 1000000000))
  let b := b.modChan n fun c => { c with valued := true, fieldWait := false }
  if isDiMode m then b.measured n 0 false else b.chRefresh n) s

/-- R240: a NAMUR open or short circuit has persisted for 5 ms. Log: 26 (DEDUCED). -/
def execNamurLineFault (ch : Fin 64) (short : Bool) (s : State) : Host.Outcome State Fault Refusal := lift (fun b =>
  let n := ch.val
  if (b.chMode n = 5 ∨ b.chMode n = 8) ∧ b.pwr.frontEnds ∧ !b.fgetB (F.CH_STAT_FIELD n) then
    b.measured n (if short then 7 else 6) false
  else b) s

/-! ### Test pulses (R245, R246) -/

/-- Number of set bits of an 8-bit value. -/
def bitCount (n : Nat) : Nat := ((upto 8).filter fun i => bit n i).length

/-- W(s): the s-th 8-bit value with four bits set. -/
def chipCode (s : Nat) : Nat := nth 0 ((upto 256).filter fun v => bitCount v == 4) s

/-- A chip of the expected slot is evaluated; the same dark chip ON in two consecutive frames is a test-pulse fault. -/
def Block.tpChip (b : Block) (n k : Nat) (on : Bool) (found : Option (Fin 64)) : Block :=
  let c := b.chan n
  if !isDiMode (b.chMode n) || !b.pwr.frontEnds || b.fgetB (F.CH_STAT_FIELD n) then b else
  let e := b.fget (F.CH_DI_CFG_TP_SLOT n)
  let b := b.fsetB ⟨Reg.CH_TP_STAT n, k, 1⟩ on
  let b := match found with
    | some f => (b.fset (F.CH_TP_STAT_FROM n) f.val).fset (F.CH_TP_STAT_FROM_VALID n) 1
    | none => b
  if on && bit (chipCode e) k then
    let b := b.incSat (F.CH_TP_STAT_ANOM_CNT n)
    let fresh := !b.fgetB (F.CH_STAT_TP_ANOM n)
    let b := b.fset (F.CH_STAT_TP_ANOM n) 1
    let b := b.when fresh fun b => b.raiseEvt (chPage n) 6
    if bit c.anom k && !b.fgetB (F.CH_STAT_TP_FAULT n) then
      ((b.fset (F.CH_STAT_TP_FAULT n) 1).chRefresh n).raiseEvt (chPage n) 7
    else b.setChan n { c with anom := c.anom ||| 2 ^ k }
  else b.setChan n { c with anom := if bit c.anom k then c.anom - 2 ^ k else c.anom }

/-! ### Output stages -/

/-- The stage of an AO is energised and regulating. -/
def Block.energised (b : Block) (n : Nat) : Bool :=
  isAoMode (b.chMode n) && b.pwr.frontEnds && !b.fgetB (F.CH_STAT_FIELD n) && !b.fgetB (F.CH_STAT_HIZ n) &&
    !b.fgetB (F.CH_STAT_TRIPPED n)

/-- An AO_ST stage short of its target is de-energised by the island through its trip switch (R237). -/
def Block.stageReport (b : Block) (n : Nat) : Block :=
  b.when (b.chMode n == 10) fun b => b.fset (F.CH_STAT_TRIPPED n) 1

/-- The current by a converter code lies more than 50 µA below the target of the stage. -/
def Block.stageShort (b : Block) (n : Nat) (code : Int) : Bool :=
  match (b.drive n).target with
  | some t => shortOf t (b.trimmed n (codeCurrent code))
  | none => false

/-- R236: for a load that takes `loadMv` the supply is at its limit, and the current by `code` is more than 50 µA short.
Log: 209 (DEDUCED). -/
def execComplianceSet (ch : Fin 64) (loadMv : Nat) (code : Int) (s : State) : Host.Outcome State Fault Refusal := lift (fun b =>
  let n := ch.val
  if !b.energised n || b.fgetB (F.CH_STAT_COMPLIANCE n) || !b.stageShort n code ||
      loadMv + 2000 < supplyLimit b.busMv then b else
  let b := (b.timed (.comp n)).modChan n fun c => { c with loadMv := loadMv, short := true }
  let b := ((b.fset (F.CH_STAT_COMPLIANCE n) 1).incSat (F.CH_FAULT_COMP_CNT n)).stageReport n
  (b.chRefresh n).raiseEvt (chPage n) 0) s

/-- R236: the current by `code` has stayed within 50 µA of the target. -/
def execComplianceClear (ch : Fin 64) (code : Int) (s : State) : Host.Outcome State Fault Refusal := lift (fun b =>
  let n := ch.val
  if (b.drive n).target.any fun t => nearTo t (b.trimmed n (codeCurrent code)) then
    ((b.modChan n fun c => { c with short := false }).fset (F.CH_STAT_COMPLIANCE n) 0).chRefresh n
  else b) s

/-- R236, R238: the COMPLIANCE timer has run for COMP_TIME, on COMPLIANCE or on a foldback that leaves the current short of
its target. AO_ST never declares the fault (R237). -/
def execChannelFaultDeclare (ch : Fin 64) (s : State) : Host.Outcome State Fault Refusal := lift (fun b =>
  let n := ch.val
  let comp := b.fgetB (F.CH_STAT_COMPLIANCE n)
  if b.chMode n != 3 || !b.energised n || b.fgetB (F.CH_STAT_CHANNEL_FAULT n) ||
      !(comp || b.fgetB (F.CH_STAT_THERMAL n) && (b.chan n).short) ||
      !b.passed (.comp n) (1000000 * b.fget (F.CH_AO_CFG_COMP_TIME n)) then b else
  let b := (b.fset (F.CH_STAT_CHANNEL_FAULT n) 1).fset (F.CH_FAULT_CAUSE n) (if comp then 9 else 12)
  (b.chRefresh n).raiseEvt (chPage n) 1) s

/-- R238: the junction of an output stage, in 1/16 °C, reaches 125 °C; the current by `code` may lie short of its target. -/
def execStageThermalSet (ch : Fin 64) (tj code : Int) (s : State) : Host.Outcome State Fault Refusal := lift (fun b =>
  let n := ch.val
  if tj < 2000 || !(isAoMode (b.chMode n) || isDoMode (b.chMode n)) then b else
  let fresh := !b.fgetB (F.CH_STAT_THERMAL n)
  let short := b.stageShort n code
  let b := (b.fset (F.CH_STAT_THERMAL n) 1).when short fun b => b.stageReport n
  let b := b.when (b.foldsShort n short || short && fresh && !b.fgetB (F.CH_STAT_COMPLIANCE n)) fun b => b.timed (.comp n)
  let b := (b.modChan n fun c => { c with short := short }).showTj n tj
  (b.chRefresh n).when fresh fun b => b.raiseEvt (chPage n) 2) s

/-- R238: the junction is below 115 °C. -/
def execStageThermalClear (ch : Fin 64) (tj : Int) (s : State) : Host.Outcome State Fault Refusal := lift (fun b =>
  if tj < 1840 then ((b.showTj ch.val tj).fset (F.CH_STAT_THERMAL ch.val) 0).chRefresh ch.val else b) s

/-- R242: the switch opens. -/
def execDoOverload (ch : Fin 64) (s : State) : Host.Outcome State Fault Refusal := lift (fun b =>
  let n := ch.val
  if !isDoMode (b.chMode n) || b.fgetB (F.CH_STAT_OVERLOAD n) then b else
  let b := ((b.fset (F.CH_STAT_OVERLOAD n) 1).incSat (F.CH_FAULT_OVL_CNT n)).fset (F.CH_STAT_OPEN n) 0
  let b := (b.timed (.overload n)).modChan n fun c => { c with mcause := 0 }
  (b.chRefresh n).raiseEvt (chPage n) 3) s

/-- R242: with RETRY 1 a DO closes again after 1 s while its target is ON; on an SDO the end of the hold-off takes this place (R283). -/
def execDoRetry (ch : Fin 64) (s : State) : Host.Outcome State Fault Refusal := lift (fun b =>
  let n := ch.val
  if b.chMode n = 6 ∧ b.fget (F.CH_DO_CFG_RETRY n) = 1 ∧ b.fgetB (F.CH_STAT_OVERLOAD n) ∧ (b.wanted n).target = some 1 ∧
      b.passed (.overload n) 1000000000 then
    (b.fset (F.CH_STAT_OVERLOAD n) 0).chRefresh n
  else b) s

/-- R242: an ON output below 2 mA for 100 ms with OPEN_DET. -/
def execDoOpenLoad (ch : Fin 64) (s : State) : Host.Outcome State Fault Refusal := lift (fun b =>
  let n := ch.val
  if isDoMode (b.chMode n) && b.fgetB (F.CH_DO_CFG_OPEN_DET n) && (b.chan n).onNow then b.measured n 6 false else b) s

/-- R243: the trailing clamp energy is down to 20 mJ and the postponed switch-on proceeds; before that nothing does. -/
def execDoRateHoldEnd (ch : Fin 64) (s : State) : Host.Outcome State Fault Refusal := lift (fun b =>
  let n := ch.val
  if b.fgetB (F.CH_STAT_RATE_HOLD n) && decide (clampSum b.clk (b.chan n).clamps ≤ 20000) then
    (b.fset (F.CH_STAT_RATE_HOLD n) 0).chRefresh n
  else b) s

/-! ### Configuration -/

/-- Report a refused configuration write of a channel (R228). Log: 9 (DEDUCED). -/
def Block.chRefused (b : Block) (n code : Nat) : Block :=
  let b := (b.fset (F.CH_RES_CODE n) code).fset F.CHG_CFG_REF_VALID 1
  let b := (b.fset F.CHG_CFG_REF_CODE code).fset F.CHG_CFG_REF_CH n
  (b.raiseEvt (chPage n) 12).raiseEvt 0x80 7

/-- The result code of a refused write of a CH page: values not valid read CH_RANGE, CFG_CONFLICT its own value. -/
def chCode (code : Nat) : Option Nat :=
  if code = accValue then some 2 else if code = cfgConflict then some cfgConflict else none

/-- HOLD_PROG keeps the panel body while a channel would grant local calibration (R451). -/
def Block.chModeConflict (b : Block) (n v : Nat) : Bool :=
  let mode := bits v 0 4
  let sp := if mode = 6 then bits v 10 2 else 0
  (b.chPulsed n && !pulsedSp mode sp && b.slotExpected n) ||
    (bit v 9 && b.fgetB F.DSE_CFG_HOLD_PROG)

/-- The mode fits every element of the loaded image that names the channel. -/
def itemFits (mode item : Nat) (isOut : Bool) (tag : Nat) (hart : Bool) : Bool :=
  if isOut then (item == 0 && ((tag == 4 && isAoMode mode) || (tag == 1 && mode == 6)))
  else match item with
    | 0 => (tag == 4 && isAiMode mode) || (tag == 1 && isDiMode mode)
    | 1 => (tag == 4 && isAoMode mode) || (tag == 1 && isDoMode mode)
    | 2 => tag == 2 && hasTrims mode
    | 3 => tag == 3 && mode != 0
    | _ => decide (16 ≤ item ∧ item ≤ 31) && hasTrims mode && hart

/-- Elements of the image in force that name a channel. -/
def Block.chElements (b : Block) (n : Nat) : List IoEl :=
  match b.prog with
  | none => []
  | some p => (p.ctxs.flatMap fun c => c.2.iomap).filter fun e =>
      bits e.source 24 8 == 0x40 && bits e.source 16 6 == n

/-- R228, R229, R248: how a CH_MODE write is refused by the block; 0 when it is not. -/
def Block.chModeJudge (b : Block) (n v : Nat) : Nat :=
  let mode := bits v 0 4
  if b.modState ≠ stCommission then 1
  else if 7 ≤ mode ∨ (b.chan n).island then 3
  else if !((b.chElements n).all fun e => itemFits mode (bits e.source 8 8) (bit e.flags 0) (bits e.flags 4 4) (bit v 8)) then 4
  else 0

/-- A DO has one substitute bit: the others of CH_SUBST_VAL are reserved and read 0 (R6, R258). -/
def Block.substMask (b : Block) (n : Nat) : Block :=
  b.when (isDoMode (b.chMode n)) fun b => b.setRegN (Reg.CH_SUBST_VAL n) (b.regN (Reg.CH_SUBST_VAL n) % 2)

/-- The mode is set: a stage that was on switches off, latched faults clear, the expected slot is the channel's own, and no
value has been taken since. -/
def Block.chSetMode (b : Block) (n : Nat) : Block :=
  let m := b.chMode n
  let b := (b.switchDo n false).substMask n
  let b := b.when (!isDoMode m) fun b => b.fset (F.CH_MODE_SP_USE n) 0
  let b := b.fset (F.CH_DI_CFG_TP_SLOT n) n
  let b := b.setRegN (Reg.CH_STAT n) (b.regN (Reg.CH_STAT n) % 2 ^ 20 / 2 ^ 17 * 2 ^ 17)
  let b := (b.localEnded n).fset (F.CH_FAULT_CAUSE n) 0
  let b := b.modChan n fun c =>
    { c with
      valued := false, mcause := 0, last := none, active := false, forced := none, anom := 0, cal := none
      loadMv := 0, spLimit := false, short := false }
  let b := b.fsetB (F.CH_STAT_FIELD n) (m != 0 && !b.pwr.fieldOn)
  b.chRefresh n

/-- A CH_MODE write: judged by the fabric, then by the channel. -/
def Block.chModeWriteBy (b : Block) (r : Requester) (n v : Nat) : Block × Nat :=
  let off := Reg.CH_MODE n
  let extra := codeIf (b.chModeConflict n v && b.chModeJudge n v == 0) cfgConflict ++
    codeIf (bit v 8 && !hasTrims (bits v 0 4)) accValue
  let code := b.judgeWrite r off v extra
  if code ≠ 0 then
    let b := b.refuse r off code true
    ((match chCode code with
      | some c => b.chRefused n c
      | none => b), code)
  else
    let j := b.chModeJudge n v
    if j ≠ 0 then (b.chRefused n j, 0)
    else
      let b := ((b.storeWrite off v).persistIf off).chSetMode n
      (b.fset (F.CH_RES_CODE n) 0, 0)

/-! ### Channel commands (R239, R253 to R255) -/

/-- Set CH_RES and raise the command-done event. -/
def Block.chDone (b : Block) (n code : Nat) : Block := (b.fset (F.CH_RES_CODE n) code).raiseEvt (chPage n) 10

/-- CLR_FAULT: latched faults clear and the stage drives its target at once; refused on a channel of the island (R287).
Log: 209 (DEDUCED). -/
def Block.chClrFault (b : Block) (n : Nat) : Block :=
  if (b.chan n).island then b.chDone n 3 else
  let b := ((b.fset (F.CH_STAT_CHANNEL_FAULT n) 0).fset (F.CH_FAULT_CAUSE n) 0).fset (F.CH_STAT_OVERLOAD n) 0
  let b := b.fset (F.CH_STAT_TP_FAULT n) 0
  let b := (b.timed (.comp n)).modChan n fun c => { c with anom := 0, short := false }
  (b.chRefresh n).chDone n 0

/-- A force lies on a VID of one of the channel's elements. -/
def Block.chForced (b : Block) (n : Nat) : Bool :=
  (b.chElements n).any fun e => b.frc.table.any fun f => f.2.vid == e.vid

/-- R253: whether CAL_OPEN is refused. -/
def Block.calDenied (b : Block) (n : Nat) (isLocal : Bool) : Bool :=
  !hasTrims (b.chMode n) || b.modState == stStart || b.modState == stHalt || b.fgetB (F.CH_STAT_FIELD n) ||
    b.fgetB (F.CH_STAT_CHANNEL_FAULT n) || !b.holdsLocal || b.chForced n || (b.chan n).cal.isSome ||
    (isLocal && !(b.fgetB (F.CH_MODE_LCAL_GRANT n) && b.btn.localCal))

/-- Open a session. -/
def Block.calOpenBy (b : Block) (n : Nat) (isLocal : Bool) (num : Nat) : Block :=
  if b.calDenied n isLocal then b.chDone n 6
  else
    let b := (b.timed (.calCommand n)).modChan n fun c => { c with cal := some { isLocal := isLocal, num := num } }
    ((b.chRefresh n).raiseEvt (chPage n) 8).chDone n 0

/-- Record a point: an AI averages 1 s of samples, an AO takes its nominal drive. -/
def Block.calPoint (b : Block) (n : Nat) (span : Bool) (ref : Nat) : Block :=
  match (b.chan n).cal with
  | none => b.chDone n 1
  | some cs =>
    let isAi := isAiMode (b.chMode n)
    let b := b.timed (.calCommand n)
    if cs.wait ≠ .none then b.fset (F.CH_RES_CODE n) 7
    else if (span && !f32In ref 19 21 1) || (!span && isAi && !f32In ref 3 5 1) then b.chDone n 2
    else
      let raw := (fmt32.div (fmt32.sub (if span then mA20 else mA4) (b.regN (Reg.CH_TRIM_ZERO n))).bits
        (b.regN (Reg.CH_TRIM_GAIN n))).bits
      let cs := { cs with atSpan := span }
      let cs := if span then { cs with span := some ⟨ref, raw⟩ } else { cs with zero := some ⟨ref, raw⟩ }
      if isAi then (b.timed (.calPoint n)).modChan n fun c => { c with cal := some { cs with wait := .average span } }
      else ((b.modChan n fun c => { c with cal := some cs }).chRefresh n).chDone n 0

/-- The trims of the recorded points: zero and gain with two points, zero alone with the zero point only; zero, then gain.
Log: 28 (DESIGN CHOICE). -/
def Block.calTrims (b : Block) (n : Nat) (cs : CalSession) : Option (Nat × Nat) :=
  match cs.zero, cs.span with
  | some z, some s =>
    let g := (fmt32.div (fmt32.sub s.ref z.ref).bits (fmt32.sub s.raw z.raw).bits).bits
    some ((fmt32.sub z.ref (fmt32.mul g z.raw).bits).bits, g)
  | some z, none =>
    let g := b.regN (Reg.CH_TRIM_GAIN n)
    some ((fmt32.sub z.ref (fmt32.mul g z.raw).bits).bits, g)
  | _, _ => none

/-- Limits of R252: |zero| ≤ 0.2 mA and |gain − 1| ≤ 0.02. -/
def trimsFit (z gain : Nat) : Bool :=
  (match fmt32.unpack z with
    | .nan _ => false
    | _ => f32Le (z % 2 ^ 31) 2 10) && f32In gain 98 102 100

/-- Ask for new trims to be made durable. -/
def Block.calStore (b : Block) (n z gain source : Nat) (cs : CalSession) : Block :=
  (b.modChan n fun c => { c with cal := some { cs with wait := .durable z gain source } }).celRequest (.trims n)

def Block.calCommitBy (b : Block) (n : Nat) : Block :=
  match (b.chan n).cal with
  | none => b.chDone n 1
  | some cs =>
    let b := b.timed (.calCommand n)
    if cs.wait ≠ .none then b.fset (F.CH_RES_CODE n) 7
    else match b.calTrims n cs with
      | none => b.chDone n 1
      | some (z, g) =>
        if trimsFit z g then b.calStore n z g (if cs.isLocal then 2 else 1) cs else b.chDone n 2

def Block.calCancelBy (b : Block) (n : Nat) : Block :=
  match (b.chan n).cal with
  | none => b.chDone n 1
  | some _ => (b.calEnd n).chDone n 0

def Block.calFactoryBy (b : Block) (n : Nat) : Block :=
  match (b.chan n).cal with
  | none => b.chDone n 1
  | some cs =>
    let b := b.timed (.calCommand n)
    if cs.wait ≠ .none then b.fset (F.CH_RES_CODE n) 7
    else
      let (z, g) := mapGet (0, f32One) b.chFactory n
      b.calStore n z g 0 cs

/-- A calibration command of the channel is pending (R256). -/
def Block.chPending (b : Block) (n : Nat) : Bool := (b.chan n).cal.any fun cs => cs.wait != .none

/-- A calibration command is admitted from SUP and NET ENGINEER (R254). -/
def Block.calAdmits (b : Block) (r : Requester) : Bool :=
  match r with
  | .sup => true
  | .net s => b.roleOf s == some .engineer
  | _ => false

/-- What a value written to CH_CMD does. Log: 29 (DEDUCED). -/
def Block.chCommand (b : Block) (r : Requester) (n v : Nat) : Block :=
  let cmd := bits v 0 3
  if cmd = 0 then b
  else if cmd ≠ 1 && !b.calAdmits r then b.chDone n 5
  else if b.chPending n then b.fset (F.CH_RES_CODE n) 7
  else match cmd with
    | 1 => b.chClrFault n
    | 2 => b.calOpenBy n false (match r with | .net s => s | _ => 0)
    | 3 => b.calPoint n false (b.regN (Reg.CH_CAL_REF n))
    | 4 => b.calPoint n true (b.regN (Reg.CH_CAL_REF n))
    | 5 => b.calCommitBy n
    | 6 => b.calCancelBy n
    | _ => b.calFactoryBy n

/-- CLR_FAULT is admitted from SUP, ENGINEER and OPERATOR alone. -/
def chCmdExtra (r : Requester) (v : Nat) : List Nat :=
  match r with
  | .prg _ => codeIf (bits v 0 3 == 1) accClass
  | _ => []

def Block.chCmdWrite (b : Block) (r : Requester) (n v : Nat) : Block :=
  b.cmdWrite r (Reg.CH_CMD n) v (chCmdExtra r v) fun b => b.chCommand r n v

def execClrFault (r : Requester) (ch : Fin 64) (s : State) : Host.Outcome State Fault Refusal := lift (fun b => b.chCmdWrite r ch.val 1) s
def execCalOpen (r : Requester) (ch : Fin 64) (s : State) : Host.Outcome State Fault Refusal := lift (fun b => b.chCmdWrite r ch.val 2) s
def execCalZero (r : Requester) (ch : Fin 64) (s : State) : Host.Outcome State Fault Refusal := lift (fun b => b.chCmdWrite r ch.val 3) s
def execCalSpan (r : Requester) (ch : Fin 64) (s : State) : Host.Outcome State Fault Refusal := lift (fun b => b.chCmdWrite r ch.val 4) s
def execCalCommit (r : Requester) (ch : Fin 64) (s : State) : Host.Outcome State Fault Refusal := lift (fun b => b.chCmdWrite r ch.val 5) s
def execCalCancel (r : Requester) (ch : Fin 64) (s : State) : Host.Outcome State Fault Refusal := lift (fun b => b.chCmdWrite r ch.val 6) s
def execCalFactory (r : Requester) (ch : Fin 64) (s : State) : Host.Outcome State Fault Refusal := lift (fun b => b.chCmdWrite r ch.val 7) s

/-- The 1 s average of the untrimmed value completes the point. -/
def execCalPointAveraged (ch : Fin 64) (avg : Word) (s : State) : Host.Outcome State Fault Refusal := lift (fun b =>
  let n := ch.val
  match (b.chan n).cal with
  | none => b
  | some cs =>
    match cs.wait with
    | .average span =>
      if !b.passed (.calPoint n) 1000000000 then b else
      let upd (p : Option CalPoint) : Option CalPoint := p.map fun q => { q with raw := avg.toNat }
      let cs := if span then { cs with span := upd cs.span, wait := .none } else { cs with zero := upd cs.zero, wait := .none }
      let b := b.when cs.isLocal fun b =>
        { b.fset F.BTN_STAT_CAL_STEP (if span then 4 else 3) with btn := { b.btn with ref := 20000 } }
      ((b.modChan n fun c => { c with cal := some cs }).chRefresh n).chDone n 0
    | _ => b) s

/-- R255: the trims are durable, once the supervisor does not stall (R16); they act, the commit is recorded, and the session ends.
Log: 208 (DEDUCED). -/
def execCalTrimsDurable (ch : Fin 64) (s : State) : Host.Outcome State Fault Refusal := lift (fun b =>
  let n := ch.val
  match (b.chan n).cal with
  | none => b
  | some cs =>
    match cs.wait with
    | .durable z g src =>
      if b.ssp.stall then b else
      let old := [b.regN (Reg.CH_TRIM_ZERO n), b.regN (Reg.CH_TRIM_GAIN n)]
      let b := (b.setRegN (Reg.CH_TRIM_ZERO n) z).setRegN (Reg.CH_TRIM_GAIN n) g
      let b := b.setRegN (Reg.CH_CAL_DATE n) (low 32 b.tsuSec)
      let b := (b.fset (F.CH_CAL_INFO_SOURCE n) src).fset (F.CH_CAL_INFO_HOURS n) (b.optime / 3600000)
      let b := b.incSat (F.CH_CAL_INFO_COUNT n)
      let b := { b with cel := { b.cel with requests := b.cel.requests.filter fun r => r != CelRec.trims n } }
      let b := ((b.localEnded n).modChan n fun c => { c with cal := none }).chRefresh n
      (b.event (chPage n) 9 [Reg.CH_TRIM_ZERO n, Reg.CH_TRIM_GAIN n, Reg.CH_CAL_INFO n] (old ++ [cs.num])).chDone n 0
    | _ => b) s

/-- CAL_SESSION_TIMEOUT: 600 s without a command (R253). -/
def execCalSessionTimeout (ch : Fin 64) (s : State) : Host.Outcome State Fault Refusal := lift (fun b =>
  b.when ((b.chan ch.val).cal.isSome && b.passed (.calCommand ch.val) 600000000000) fun b => b.calEnd ch.val) s

end Sys2Proof.Machine
end

