-- ==== Sys2Proof/Machine/Hart.lean ====
section
/-! DEFINITION. HART on field channels: the modem pool, bindings, transactions, burst frames and image items (R260 to R271). -/

namespace Sys2Proof.Machine

/-! ### The pool (R261, R262) -/

/-- Channel `n` carries HART. -/
def Block.hartOn (b : Block) (n : Nat) : Bool := hasTrims (b.chMode n) && b.fgetB (F.CH_MODE_HART n)

def Block.modemFault (b : Block) (m : Nat) : Bool := bit (b.fget F.HRT_MODEM_MAP_FAULT) m
def Block.modemHeld (b : Block) (m : Nat) : Bool := bit (b.fget F.HRT_MODEM_MAP_HELD) m

/-- Healthy modems; none before the modems are loaded at start. -/
def Block.healthyModems (b : Block) : Nat :=
  if b.hart.ready then ((upto 16).filter fun m => !b.modemFault m).length else 0

/-- Channels with a held or multidrop binding in force. -/
def Block.heldChannels (b : Block) : List Nat := (upto 64).filter fun n => b.fgetB (F.HRT_CH_STAT_HELD n)

/-- The channel's held or multidrop binding has its modem. -/
def Block.heldBound (b : Block) (n : Nat) : Bool :=
  b.fgetB (F.HRT_CH_STAT_HELD n) && b.fgetB (F.HRT_CH_STAT_BOUND n) && b.modemHeld (b.fget (F.HRT_CH_STAT_MODEM n))

/-- The lowest-numbered modem that is healthy and free. -/
def Block.freeModem (b : Block) : Option Nat :=
  if b.hart.ready then
    (upto 16).find? fun m => !b.modemFault m && !b.modemHeld m && !b.hart.runs.any fun x => x.modem == m
  else none

/-- HRT_POOL follows the pool. -/
def Block.hartPool (b : Block) : Block :=
  let h := b.healthyModems
  let busy := (b.hart.runs.filter fun x => !b.modemHeld x.modem).length
  let heldM := bitCount (b.fget F.HRT_MODEM_MAP_HELD % 256) + bitCount (b.fget F.HRT_MODEM_MAP_HELD / 256)
  (((b.fset F.HRT_POOL_HEALTHY h).fset F.HRT_POOL_BUSY busy).fset F.HRT_POOL_HELD b.heldChannels.length).fset
    F.HRT_POOL_FREE (h - heldM - busy)

/-- Connect a modem to a held channel. -/
def Block.hartConnect (b : Block) (n m : Nat) : Block :=
  ((b.fset (F.HRT_CH_STAT_BOUND n) 1).fset (F.HRT_CH_STAT_MODEM n) m).fset ⟨Reg.HRT_MODEM_MAP, 16 + m, 1⟩ 1

/-- Give a held channel the lowest free modem, if there is one; a transaction that runs there on a pool modem keeps its own. -/
def Block.hartBind (b : Block) (n : Nat) : Block :=
  if b.heldBound n then b
  else match b.freeModem with
    | some m => b.hartConnect n m
    | none => b

/-- Unbound held channels take a released modem before any waiting transaction (R270). -/
def Block.hartRebind (b : Block) : Block := (b.forAll b.heldChannels Block.hartBind).hartPool

/-- Release the modem of a held channel. A transaction that runs there keeps its modem to its end, and the channel shows
that one. -/
def Block.hartUnbind (b : Block) (n : Nat) : Block :=
  if b.heldBound n then
    let b := b.fset ⟨Reg.HRT_MODEM_MAP, 16 + b.fget (F.HRT_CH_STAT_MODEM n), 1⟩ 0
    let run := b.hart.runs.find? fun x => x.req.ch == n
    (b.fsetB (F.HRT_CH_STAT_BOUND n) run.isSome).fset (F.HRT_CH_STAT_MODEM n) ((run.map (·.modem)).getD 0)
  else b

/-- The configured binding can be in force: HART is on, and MULTIDROP has no place in modes 3 and 10 (R262, R263).
Log: 157 (DEDUCED). -/
def Block.bindStands (b : Block) (n : Nat) : Bool :=
  b.hartOn n && match b.fget (F.HRT_CH_CFG_BIND n) with
    | 0 => false
    | 2 => !isAoMode (b.chMode n)
    | _ => true

/-- Put a channel's binding in force as configured. Log: 157 (DEDUCED). -/
def Block.hartTakeUp (b : Block) (n : Nat) : Block :=
  if b.bindStands n then
    ((b.fset (F.HRT_CH_STAT_HELD n) 1).hartBind n).hartPool
  else (((b.hartUnbind n).fset (F.HRT_CH_STAT_HELD n) 0)).hartRebind

/-! ### The image items (R267) -/

def Block.hartItem (b : Block) (n : Nat) : HartItem := mapGet {} b.hart.items n

def Block.setHartItem (b : Block) (n : Nat) (i : HartItem) : Block :=
  { b with hart := { b.hart with items := mapSet b.hart.items n i } }

/-- Variables the device returned replace the first ones; the others keep their values. -/
def mergeVars : List Nat → List Nat → List Nat
  | [], old => old
  | _, [] => []
  | x :: l, _ :: m => x :: mergeVars l m

/-- An accepted frame of command 1 or 3 from the image device. -/
def Block.hartUpdate (b : Block) (n cmd respCode devStatus : Nat) (vars : List Nat) : Block :=
  if cmd = 1 ∨ cmd = 3 then
    let i := b.hartItem n
    b.setHartItem n { i with
      vars := mergeVars (if cmd = 1 then vars.take 1 else vars.take 4) i.vars, status := devStatus + respCode * 256,
      updated := true, time := b.now }
  else b

/-- Level and cause of the items of a channel: the first row of R267 that applies. -/
def Block.hartQuality (b : Block) (n : Nat) : Nat × Nat :=
  let i := b.hartItem n
  let poll := b.fget (F.HRT_CH_CFG_POLL n)
  if !i.updated then (2, 20)
  else if i.noResponse || (b.fgetB (F.HRT_CH_STAT_HELD n) && !b.heldBound n) then (2, 21)
  else if bit i.status 7 then (2, 22)
  else if (if poll = 0 then 30 else 3 * poll) * 1000000000 < b.now - i.time then (2, 23)
  else if i.status % 8 ≠ 0 then (1, 24)
  else (0, 0)

/-! ### The end of a transaction (R265, R269) -/

/-- Write a slot's outcome and raise the events; a poll has no slot and is a transaction all the same (R264). -/
def Block.hartResult (b : Block) (req : HartReq) (code tries modem : Nat) : Block :=
  let img := b.fget (F.HRT_CH_CFG_IMG_ADDR req.ch) == req.addr || req.long && b.fget (F.HRT_CH_CFG_BIND req.ch) != 2
  let b := b.when (code == 1) fun b => b.incSat (F.HRT_CH_STAT_FAILS req.ch)
  let b := b.when img fun b => b.setHartItem req.ch { b.hartItem req.ch with noResponse := code == 1 }
  let b := match req.slot with
    | none => b
    | some t =>
      let b := ((b.fset (F.HRT_T_STAT_STATE t) 3).fset (F.HRT_T_STAT_CODE t) code).fset (F.HRT_T_STAT_TRIES t) tries
      (b.fset (F.HRT_T_RSTAT_MODEM t) modem).stamp (Reg.HRT_T_END_LO t) (Reg.HRT_T_END_HI t)
  (b.raiseEvt 0x81 0).when (code != 0) fun b => b.raiseEvt 0x81 1

/-- After a transaction ends on a modem that is not its channel's own, the channel is no longer connected. -/
def Block.hartLeave (b : Block) (n : Nat) : Block :=
  b.when (!b.heldBound n) fun b => b.fset (F.HRT_CH_STAT_BOUND n) 0

/-- A running transaction ends and its modem is released. -/
def Block.hartEnd (b : Block) (x : HartRun) (code : Nat) : Block :=
  let b := { b with hart := { b.hart with runs := b.hart.runs.filter fun y => y != x } }
  ((b.hartResult x.req code x.tries x.modem).hartLeave x.req.ch).hartRebind

/-- A waiting transaction ends. -/
def Block.hartDrop (b : Block) (q : HartReq) (code : Nat) : Block :=
  { b with hart := { b.hart with queue := b.hart.queue.erase q } }.hartResult q code 0 0

/-- Every transaction of a channel ends. -/
def Block.hartEndChannel (b : Block) (n code : Nat) : Block :=
  let b := b.forAll (b.hart.queue.filter fun q => q.ch == n) fun b q => b.hartDrop q code
  b.forAll (b.hart.runs.filter fun x => x.req.ch == n) fun b x => b.hartEnd x code

/-- The channel can no longer carry HART: field supply fault, HART off or mode changed (R269, R270). -/
def Block.hartCheck (b : Block) (n : Nat) : Block :=
  if b.hartOn n && !b.fgetB (F.CH_STAT_FIELD n) then b else b.hartEndChannel n 3

/-- A unit that is no longer primary: what is ACTIVE ends HRT_NO_RESPONSE, what waits HRT_STANDBY (R268, R270). -/
def Block.hartDemoted (b : Block) : Block :=
  let b := b.forAll b.hart.runs fun b x => b.hartEnd x 1
  b.forAll b.hart.queue fun b q => b.hartDrop q 5

/-- The claim is lost on the channels whose stages are high impedance (R249, R270). -/
def Block.hartClaimLost (b : Block) : Block :=
  b.forAll ((upto 64).filter fun n => b.fgetB (F.CH_STAT_HIZ n)) fun b n => b.hartEndChannel n 5

/-- HART follows the channel's mode, which was `old`: a change ends its transactions, and the configured binding comes into
or goes out of force (R261, R269). -/
def Block.hartFollow (b : Block) (old n : Nat) : Block :=
  let b := if b.chMode n = old then b.hartCheck n else b.hartEndChannel n 3
  b.when (b.bindStands n != b.fgetB (F.HRT_CH_STAT_HELD n)) fun b => b.hartTakeUp n

/-- After a field supply fault. -/
def Block.hartCheckAll (b : Block) : Block := b.forAll (upto 64) Block.hartCheck

/-! ### Bindings -/

/-- CFG_CONFLICT of a binding (R262, R263): every binding as configured counts. -/
def Block.bindConflict (b : Block) (n v : Nat) : Bool :=
  let bind := bits v 0 2
  let others := ((upto 64).filter fun m => m != n && b.fget (F.HRT_CH_CFG_BIND m) != 0).length
  bind != 0 && (!b.hartOn n || decide (b.healthyModems ≤ others + 1) || (bind == 2 && isAoMode (b.chMode n)))

/-- IMG_ADDR is 0 point-to-point and 1 to 15 in multidrop (R267). -/
def imgAddrBad (v : Nat) : Bool := (bits v 0 2 == 2) == (bits v 4 4 == 0)

/-- An HRT_CHk_CFG write. -/
def Block.hartCfgWrite (b : Block) (r : Requester) (n v : Nat) : Block × Nat :=
  let off := Reg.HRT_CH_CFG n
  let oldAddr := b.fget (F.HRT_CH_CFG_IMG_ADDR n)
  let oldBind := b.fget (F.HRT_CH_CFG_BIND n)
  let (b, code) := b.regWrite r off v (codeIf (imgAddrBad v) accValue ++ codeIf (b.bindConflict n v) cfgConflict) fun b =>
    let b := b.when (b.fget (F.HRT_CH_CFG_IMG_ADDR n) != oldAddr) fun b => b.setHartItem n {}
    let b := b.when (b.fget (F.HRT_CH_CFG_BIND n) != oldBind) fun b => b.hartTakeUp n
    (b.fset F.HRT_CFG_RES_CH n).fset F.HRT_CFG_RES_CODE 0
  if code = cfgConflict then
    (((b.fset F.HRT_CFG_RES_CH n).fset F.HRT_CFG_RES_CODE cfgConflict).raiseEvt 0x81 4, code)
  else (b, code)

def execHartBindWrite (r : Requester) (ch : Fin 64) (v : Word) (s : State) : Host.Outcome State Fault Refusal := lift (fun b =>
  let (b, code) := b.hartCfgWrite r ch.val v.toNat
  if code = 0 then b.out (.access r (Reg.HRT_CH_CFG ch.val) 0 0) else b) s

/-! ### Submission and cancellation (R264) -/

/-- The slot's request data, byte by byte. -/
def Block.hartData (b : Block) (t len : Nat) : List Nat :=
  (upto len).map fun i => bits (b.regN (Reg.HRT_T_DATA t (i / 4))) (8 * (i % 4)) 8

/-- The request a slot holds. -/
def Block.hartReq (b : Block) (t : Nat) : HartReq :=
  { slot := some t, ch := b.fget (F.HRT_T_CTL_CH t), addr := b.fget (F.HRT_T_CTL_ADDR t), cmd := b.fget (F.HRT_T_CTL_CMD t),
    long := b.fgetB (F.HRT_T_CTL_FRAME t), devId := b.regN (Reg.HRT_T_DEVID t) % 2 ^ 24,
    devType := b.regN (Reg.HRT_T_DEVTYPE t) % 2 ^ 16, data := b.hartData t (b.fget (F.HRT_T_CTL_LEN t)) }

/-- Some healthy modem is in the pool. -/
def Block.poolHealthy (b : Block) : Bool := b.hart.ready && (upto 16).any fun m => !b.modemFault m && !b.modemHeld m

/-- The code with which a submission ends at once; none when it may wait. -/
def Block.hartRefused (b : Block) (q : HartReq) : Option Nat :=
  let n := q.ch
  if 112 < q.data.length || (b.fget (F.HRT_CH_CFG_BIND n) == 2 && q.addr == 0) then some 6
  else if !b.acts || b.fgetB (F.CH_STAT_HIZ n) then some 5
  else if !b.hartOn n || b.fgetB (F.CH_STAT_FIELD n) then some 3
  else if !b.fgetB (F.HRT_CH_STAT_HELD n) && !b.poolHealthy then some 2
  else none

/-- HRT_WAIT of a transaction begins; of a second poll that waits on the channel with the first. -/
def Block.hartWaits (b : Block) (q : HartReq) : Block :=
  b.when (!b.hart.queue.any fun x => x.ch == q.ch && x.slot == q.slot) fun b => b.timed (.hartQueued q.ch q.slot)

/-- Queue a transaction or end it at once. -/
def Block.hartQueue (b : Block) (q : HartReq) : Block :=
  match b.hartRefused q with
  | some code => b.hartResult q code 0 0
  | none => { b.hartWaits q with hart := { b.hart with queue := b.hart.queue ++ [q] } }

/-- A slot holds a transaction that is queued or runs. -/
def Block.hartBusy (b : Block) (t : Nat) : Bool := b.fget (F.HRT_T_STAT_STATE t) == 1 || b.fget (F.HRT_T_STAT_STATE t) == 2

/-- SUBMIT of a slot; a busy slot refuses it and keeps its word. -/
def Block.hartSubmit (b : Block) (t old : Nat) : Block :=
  if b.hartBusy t then (b.setRegN (Reg.HRT_T_CTL t) old).fset (F.HRT_T_STAT_REJECT t) 1
  else
    (((b.fset (F.HRT_T_STAT_STATE t) 1).fset (F.HRT_T_STAT_TRIES t) 0).fset (F.HRT_T_STAT_RLEN t) 0).hartQueue (b.hartReq t)

/-- CANCEL of a slot: it leaves the queue, or its transaction ends. -/
def Block.hartCancelSlot (b : Block) (t : Nat) : Block :=
  let b := b.forAll (b.hart.queue.filter fun q => q.slot == some t) fun b q => b.hartDrop q 7
  b.forAll (b.hart.runs.filter fun x => x.req.slot == some t) fun b x => b.hartEnd x 7

/-- What a write of HRT_Tt_CTL does; `old` is the register before it. Log: 34 (DEDUCED). -/
def Block.hartCtl (b : Block) (t v old : Nat) : Block :=
  (b.when (bit v 0) fun b => b.hartSubmit t old).when (bit v 1) fun b => b.hartCancelSlot t

/-- A write of HRT_Tt_CTL: a LEN above 112 is refused by the fabric, and shown as HRT_PARAM in the slot (R269, R479). -/
def Block.hartCtlBy (b : Block) (r : Requester) (t v : Nat) : Block × Nat :=
  let (b', code) := b.regWrite r (Reg.HRT_T_CTL t) v [] fun b' => b'.hartCtl t v (b.regN (Reg.HRT_T_CTL t))
  (b'.when (code == accValue) fun b => b.fset (F.HRT_T_STAT_CODE t) 6, code)

def Block.hartCtlWrite (b : Block) (r : Requester) (t v : Nat) : Block :=
  let (b', code) := b.hartCtlBy r t v
  if code = 0 then b'.out (.access r (Reg.HRT_T_CTL t) 0 0) else b'

def execSubmit (r : Requester) (t : Fin 16) (v : Word) (s : State) : Host.Outcome State Fault Refusal := lift (fun b =>
  b.hartCtlWrite r t.val (v ||| 1).toNat) s

def execHartCancel (r : Requester) (t : Fin 16) (v : Word) (s : State) : Host.Outcome State Fault Refusal := lift (fun b =>
  b.hartCtlWrite r t.val (v ||| 2).toNat) s

/-! ### Transactions on the loop -/

/-- A frame on a loop ends its silence (R266). -/
def Block.hartCarrier (b : Block) (n : Nat) : Block :=
  { b with hart := { b.hart with silent := b.hart.silent.filter fun m => m != n } }.timed (.hartFrame n)

/-- Send the request of a running transaction. -/
def Block.hartSend (b : Block) (x : HartRun) : Block :=
  let q := x.req
  let b := (b.timed (.hartSent q.ch)).hartCarrier q.ch
  b.send (.hart q.ch) "HART_REQUEST" ([b.fget F.HRT_CFG_PREAMBLE, if q.long then 1 else 0, q.addr, q.devType, q.devId,
    q.cmd, q.data.length] ++ q.data)

/-- A held channel may transmit: within 75 ms of a burst frame's end, or after 500 ms of silence, and never while a frame
from another master (`foreign`) is on the loop (R266). -/
def Block.hartMayTalk (b : Block) (n : Nat) (foreign : Bool) : Bool :=
  !b.fgetB (F.HRT_CH_STAT_HELD n) || !foreign && (b.hart.silent.contains n ||
    (match mapGet none (b.hart.burstEnd.map fun e => (e.1, some e.2)) n with
      | some e => decide (b.clk ≤ e + 75000000)
      | none => false))

/-- A frame of another master ends the silence of a loop. -/
def Block.hartForeign (b : Block) (n : Nat) (foreign : Bool) : Block :=
  b.when foreign fun b => b.hartCarrier n

/-- The modem a channel's next transaction would use. -/
def Block.hartModem (b : Block) (n : Nat) : Option Nat :=
  if b.fgetB (F.HRT_CH_STAT_HELD n) then
    (if b.heldBound n then some (b.fget (F.HRT_CH_STAT_MODEM n)) else none)
  else b.freeModem

/-- Waiting on-demand transactions take pool modems in the order of submission: the channel's is the first whose channel
has no transaction running (R264). -/
def Block.hartTurn (b : Block) (n : Nat) : Bool :=
  b.fgetB (F.HRT_CH_STAT_HELD n) ||
    ((b.hart.queue.find? fun q => !b.fgetB (F.HRT_CH_STAT_HELD q.ch) && !b.hart.runs.any fun x => x.req.ch == q.ch).map (·.ch)) == some n

/-- Send the request of a running transaction once more. -/
def Block.hartAgain (b : Block) (x : HartRun) : Block :=
  let y := { x with tries := x.tries + 1, retry := false }
  let b := { b with hart := { b.hart with runs := b.hart.runs.map fun z => if z = x then y else z } }
  let b := match y.req.slot with
    | some t => b.fset (F.HRT_T_STAT_TRIES t) y.tries
    | none => b
  b.hartSend y

/-- An opportunity to transmit: the channel's repeat is sent, or its first waiting transaction becomes ACTIVE. Only a unit
that acts sends HART (R268). -/
def Block.hartStart (b : Block) (n : Nat) : Block :=
  if !b.acts then b else
  match b.hart.runs.find? fun x => x.req.ch == n with
  | some x => if x.retry then b.hartAgain x else b
  | none => if !b.hartTurn n then b else match b.hart.queue.find? (fun q => q.ch == n), b.hartModem n with
    | some q, some m =>
      let x : HartRun := { req := q, modem := m, tries := 1, pool := !b.fgetB (F.HRT_CH_STAT_HELD n) }
      let b := { b with hart := { b.hart with queue := b.hart.queue.erase q, runs := b.hart.runs ++ [x] } }
      let b := match q.slot with
        | some t => (b.fset (F.HRT_T_STAT_STATE t) 2).fset (F.HRT_T_STAT_TRIES t) 1
        | none => b
      let b := b.when x.pool fun b => (b.fset (F.HRT_CH_STAT_BOUND n) 1).fset (F.HRT_CH_STAT_MODEM n) m
      (b.hartSend x).hartPool
    | _, _ => b

/-- HART_TRANSACTION_START; `foreign`: a frame from another master is on the loop. -/
def execHartTransactionStart (ch : Fin 64) (foreign : Bool) (s : State) : Host.Outcome State Fault Refusal := lift (fun b =>
  let b := b.hartForeign ch.val foreign
  if b.hartMayTalk ch.val foreign then b.hartStart ch.val else b) s

/-- The transaction on a channel. -/
def Block.hartRunOn (b : Block) (n : Nat) : Option HartRun := b.hart.runs.find? fun x => x.req.ch == n

/-- Response bytes into the slot's data words. -/
def Block.hartStore (b : Block) (t : Nat) (data : List Nat) : Block :=
  b.forAll (upto data.length) fun b i =>
    b.fset ⟨Reg.HRT_T_DATA t (i / 4), 8 * (i % 4), 8⟩ (nth 0 data i)

/-- A response answers a request: parity, check byte, address and command number match (R265). The long address has
the 38 bits of the device type's low 14 and the device identifier. Log: 35 (DEDUCED). -/
def HartReq.answeredBy (q : HartReq) (r : HartRsp) : Bool :=
  r.sound && r.cmd == q.cmd && r.long == q.long &&
    (if q.long then r.devType % 2 ^ 14 == q.devType % 2 ^ 14 && r.devId % 2 ^ 24 == q.devId % 2 ^ 24 else r.addr == q.addr)

/-- R265: a response; one that does not match changes nothing. Log: 33 (DESIGN CHOICE), 35 (DEDUCED). -/
def execHartResponse (ch : Fin 64) (rsp : HartRsp) (s : State) : Host.Outcome State Fault Refusal := lift (fun b =>
  let n := ch.val
  match b.hartRunOn n with
  | none => b
  | some x =>
    if x.retry || !x.req.answeredBy rsp then b else
    let b := match x.req.slot with
      | some t =>
        let d := (rsp.data.map BitVec.toNat).take 112
        let b := (b.hartStore t d).fset (F.HRT_T_STAT_RLEN t) d.length
        (b.fset (F.HRT_T_RSTAT_DEV_STATUS t) rsp.devStatus.toNat).fset (F.HRT_T_RSTAT_RESP_CODE t) rsp.respCode.toNat
      | none => b
    let image := b.fget (F.HRT_CH_CFG_IMG_ADDR n) == x.req.addr || x.req.long && b.fget (F.HRT_CH_CFG_BIND n) != 2
    let b := b.when image fun b =>
      b.hartUpdate n x.req.cmd rsp.respCode.toNat rsp.devStatus.toNat (rsp.vars.map BitVec.toNat)
    b.hartEnd x 0) s

/-- R265: TIMEOUT has passed; the request is repeated up to RETRIES times, at once or at the next opportunity (R266); then the transaction ends. -/
def execHartResponseTimeout (ch : Fin 64) (foreign : Bool) (s : State) : Host.Outcome State Fault Refusal := lift (fun b =>
  let b := b.hartForeign ch.val foreign
  match b.hartRunOn ch.val with
  | none => b
  | some x =>
    if x.retry || !b.passed (.hartSent ch.val) (1000000 * b.fget F.HRT_CFG_TIMEOUT) then b
    else if x.tries ≤ b.fget F.HRT_CFG_RETRIES then
      if b.acts && b.hartMayTalk ch.val foreign then b.hartAgain x
      else { b with hart := { b.hart with runs := b.hart.runs.map fun z => if z = x then { x with retry := true } else z } }
    else b.hartEnd x 1) s

/-- R264: a transaction still WAITING after HRT_WAIT. -/
def execHartWaitExpiry (ch : Fin 64) (slot : Option (Fin 16)) (s : State) : Host.Outcome State Fault Refusal := lift (fun b =>
  match b.hart.queue.find? fun q => q.ch == ch.val && q.slot == slot.map (·.val) with
  | none => b
  | some q =>
    b.when (b.passed (.hartQueued ch.val (slot.map (·.val))) (1000000 * b.fget F.HRT_WAIT_WAIT)) fun b => b.hartDrop q 2) s

/-- A burst frame of a channel has ended: silence begins. -/
def Block.hartBurstEnd (b : Block) (n : Nat) : Block :=
  { b with hart := { b.hart with burstEnd := mapSet b.hart.burstEnd n b.clk, silent := b.hart.silent.filter fun m => m != n } }

/-- R266: a burst frame on a held channel. Log: 33 (DESIGN CHOICE). -/
def execHartBurstFrame (ch : Fin 64) (addr : Fin 16) (cmd respCode devStatus : BitVec 8) (vars : List Word) (s : State) :
    Host.Outcome State Fault Refusal := lift (fun b =>
  if !b.heldBound ch.val then b
  else ((((b.hartCarrier ch.val).incSat (F.HRT_CH_STAT_BURSTS ch.val)).raiseEvt 0x81 5).hartBurstEnd ch.val).when
    (b.fget (F.HRT_CH_CFG_IMG_ADDR ch.val) == addr.val) fun b =>
      b.hartUpdate ch.val cmd.toNat respCode.toNat devStatus.toNat (vars.map BitVec.toNat)) s

/-- R266: 500 ms without carrier. -/
def execHartCarrierSilence (ch : Fin 64) (s : State) : Host.Outcome State Fault Refusal := lift (fun b =>
  let n := ch.val
  if b.fgetB (F.HRT_CH_STAT_HELD n) && !b.hart.silent.contains n && b.periodic (.hartFrame n) 500000000 then
    { b with hart := { b.hart with silent := n :: b.hart.silent } }
  else b) s

/-- R260: the POLL interval elapses; a command-3 poll of the image device queues. The standby does not poll.
Log: 35 (DEDUCED). -/
def execHartPoll (ch : Fin 64) (s : State) : Host.Outcome State Fault Refusal := lift (fun b =>
  let n := ch.val
  if b.fget (F.HRT_CH_CFG_POLL n) = 0 ∨ !b.acts ∨ !b.periodic (.hartPoll n) (1000000000 * b.fget (F.HRT_CH_CFG_POLL n)) then b
  else (b.timed (.hartPoll n)).hartQueue ⟨none, n, b.fget (F.HRT_CH_CFG_IMG_ADDR n), 3, false, 0, 0, []⟩) s

/-- R270: a modem fails. A held channel rebinds to the lowest free modem; an active transaction ends. -/
def Block.modemFail (b : Block) (m : Nat) : Block :=
  if b.modemFault m then b else
  let b := (b.fset ⟨Reg.HRT_MODEM_MAP, m, 1⟩ 1).raiseEvt 0x81 2
  let b := b.forAll (b.heldChannels.filter fun n =>
      b.heldBound n && b.fget (F.HRT_CH_STAT_MODEM n) == m) fun b n =>
    let b := (b.hartUnbind n).hartBind n
    b.when (!b.heldBound n) fun b => b.raiseEvt 0x81 3
  let b := b.forAll (b.hart.runs.filter fun x => x.modem == m) fun b x => b.hartEnd x 4
  b.hartPool

def execHartModemFault (m : Fin 16) (s : State) : Host.Outcome State Fault Refusal := lift (fun b => b.modemFail m.val) s

end Sys2Proof.Machine
end

