-- ==== Sys2Proof/Machine/Field.lean ====
section
/-! DEFINITION. CH_MODE writes, which act on channels and on HART (R228, R261, R269, R270). -/

namespace Sys2Proof.Machine

/-- A CH_MODE write; transactions of a channel that can no longer carry HART end, and its binding follows (R261, R269). -/
def Block.chModeSet (b : Block) (r : Requester) (n v : Nat) : Block × Nat :=
  let (b', code) := b.chModeWriteBy r n v
  (b'.hartFollow (b.chMode n) n, code)

def execChModeWrite (r : Requester) (ch : Fin 64) (v : Word) (s : State) : Host.Outcome State Fault Refusal := lift (fun b =>
  let (b, code) := b.chModeSet r ch.val v.toNat
  if code = 0 then b.out (.access r (Reg.CH_MODE ch.val) 0 0) else b) s

end Sys2Proof.Machine
end

