-- ==== Sys2Proof/Machine/Lvc.lean ====
section
/-! DEFINITION. Lamvile Code: instruction words, operand types, and what every instruction that does not wait does to a
context's frame (R94 to R107, R110, R116). -/

namespace Sys2Proof.Machine

/-! ### Types (R94) -/

def tBool : Nat := 1
def tI32 : Nat := 2
def tU32 : Nat := 3
def tF32 : Nat := 4
def tI64 : Nat := 5
def tU64 : Nat := 6
def tF64 : Nat := 7
def tTime : Nat := 8
def tHi : Nat := 15

/-- A 2-slot tag. -/
def wideTag (t : Nat) : Bool := t == 5 || t == 6 || t == 7 || t == 8

/-- A tag that a value can have: every tag but VOID, HI and the conversion types. -/
def valueTag (t : Nat) : Bool := decide (1 ≤ t ∧ t ≤ 8)

/-- Width in bits. -/
def tagWidth (t : Nat) : Nat := if wideTag t then 64 else 32

/-- Signed integer tags; TIME counts as I64. -/
def signedTag (t : Nat) : Bool := t == tI32 || t == tI64 || t == tTime

/-- Two's complement reading of a `w`-bit pattern. -/
def toSigned (w v : Nat) : Int := if v < 2 ^ (w - 1) then (v : Int) else (v : Int) - (2 : Int) ^ w

/-- The integer a pattern of a tag stands for. -/
def intOf (t v : Nat) : Int := if signedTag t then toSigned (tagWidth t) v else (v : Int)

/-- The pattern of an integer, modulo 2^w. -/
def ofInt (w : Nat) (v : Int) : Nat := (v % (2 : Int) ^ w).toNat

/-! ### Sticky flags (R116) -/

def sfDivZero : Nat := 1
def sfCvtRange : Nat := 2
def sfWForced : Nat := 32

/-! ### Slots (R95) -/

/-- A slot's word. -/
def Cx.slot (x : Cx) (i : Nat) : Nat := (nth (0 : Word) x.slots i).toNat

/-- Write a slot's word. -/
def Cx.setSlot (x : Cx) (i v : Nat) : Cx := { x with slots := setNth x.slots i (BitVec.ofNat 32 v) }

/-- Read a value of a tag: a 2-slot value lies in an even slot and the next one. -/
def Cx.val (x : Cx) (t i : Nat) : Nat :=
  if wideTag t then x.slot (i + 1) * 2 ^ 32 + x.slot i else x.slot i

/-- Write a value of a tag. -/
def Cx.setVal (x : Cx) (t i v : Nat) : Cx :=
  if wideTag t then (x.setSlot i (low 32 v)).setSlot (i + 1) (low 32 (v / 2 ^ 32)) else x.setSlot i (low 32 v)

/-- Set sticky flags. -/
def Cx.flag (x : Cx) (f : Nat) : Cx := { x with flags := x.flags ||| f }

/-! ### Arithmetic (R103, R104) -/

/-- The format of a floating tag. -/
def floatFmt (t : Nat) : FFmt := if t = tF64 then fmt64 else fmt32

def isFloat (t : Nat) : Bool := t == tF32 || t == tF64

/-- Integer arithmetic of R103: wraps; division truncates toward zero; a zero divisor gives 0 and DIV_ZERO. -/
def intArith (op : Arith) (t d a b : Nat) : FRes :=
  let w := tagWidth t
  let x := intOf t a
  let y := intOf t b
  let r (v : Int) : FRes := ⟨ofInt w v, 0⟩
  match op with
  | .add => r (x + y)
  | .sub => r (x - y)
  | .mul => r (x * y)
  | .div => if y = 0 then ⟨0, sfDivZero⟩ else r (x.tdiv y)
  | .rem => if y = 0 then ⟨0, sfDivZero⟩ else r (x.tmod y)
  | .min => r (if y < x then y else x)
  | .max => r (if x < y then y else x)
  | .neg => r (-x)
  | .abs => r (if x < 0 then -x else x)
  | .sqrt => ⟨d, 0⟩
  | .fma => ⟨d, 0⟩

/-- Floating arithmetic of R104. NEG and ABS act on the sign of every operand but a NaN, which is written canonical. -/
def floatArith (op : Arith) (f : FFmt) (d a b : Nat) : FRes :=
  match op with
  | .add => f.add a b
  | .sub => f.sub a b
  | .mul => f.mul a b
  | .div => f.div a b
  | .rem => ⟨d, 0⟩
  | .min => f.minMax false a b
  | .max => f.minMax true a b
  | .neg => match f.unpack a with
    | .nan s => f.nanRes s
    | _ => ⟨if a / f.signBit % 2 = 1 then a - f.signBit else a + f.signBit, 0⟩
  | .abs => match f.unpack a with
    | .nan s => f.nanRes s
    | _ => ⟨if a / f.signBit % 2 = 1 then a - f.signBit else a, 0⟩
  | .sqrt => f.sqrt a
  | .fma => f.fma d a b

/-- Opcodes 0x10 to 0x1A for a type. -/
def arith (op : Arith) (t d a b : Nat) : FRes :=
  if isFloat t then floatArith op (floatFmt t) d a b else intArith op t d a b

/-! ### Logic and shifts -/

/-- Arithmetic or logical right shift by `n` (R103). -/
def shiftRight (t v n : Nat) : Nat :=
  if signedTag t then ofInt (tagWidth t) (toSigned (tagWidth t) v / (2 : Int) ^ n) else v / 2 ^ n

/-- Rotate left by `n` less than the width. -/
def rotl (w v n : Nat) : Nat := low w (v * 2 ^ n) + v / 2 ^ (w - n)

/-- Opcodes 0x20 to 0x27: shifts and rotations by S2 modulo the width; NOT of BOOL is 1 − S1. -/
def logicOp (op : Logic) (t a b : Nat) : Nat :=
  let w := tagWidth t
  match op with
  | .and => a &&& b
  | .or => a ||| b
  | .xor => a ^^^ b
  | .not => if t = tBool then 1 - a else 2 ^ w - 1 - a
  | .shl => low w (a * 2 ^ (b % w))
  | .shr => shiftRight t a (b % w)
  | .rol => rotl w a (b % w)
  | .ror => rotl w a ((w - b % w) % w)

/-! ### Comparisons (R104) -/

/-- The truth of a comparison given the sign of the difference. -/
def cmpInt (op : Cmp) (d : Int) : Bool :=
  match op with
  | .eq => d == 0
  | .ne => d != 0
  | .lt => decide (d < 0)
  | .le => decide (d ≤ 0)
  | .gt => decide (0 < d)
  | .ge => decide (0 ≤ d)

/-- A comparison of two values of a type, and its flags: unordered operands make all but NE false;
order comparisons flag any NaN, EQ and NE a signalling one. -/
def compare (op : Cmp) (t a b : Nat) : Bool × Nat :=
  if isFloat t then
    let f := floatFmt t
    let quiet := op == .eq || op == .ne
    match f.order a b with
    | none => (op == .ne, if !quiet || f.anySnan a b then fInvalid else 0)
    | some d => (cmpInt op d, 0)
  else (cmpInt op (intOf t a - intOf t b), 0)

/-! ### Conversion (R104) -/

/-- Range of an integer target type. -/
def cvtRange (t : Nat) : Int × Int :=
  match t with
  | 2 => (-2147483648, 2147483647)
  | 3 => (0, 4294967295)
  | 5 | 8 => (-9223372036854775808, 9223372036854775807)
  | 6 => (0, 18446744073709551615)
  | 9 => (-128, 127)
  | 10 => (-32768, 32767)
  | 11 => (0, 255)
  | 12 => (0, 65535)
  | _ => (0, 1)

/-- The width at which a conversion result is held: I8 to U16 are held widened in one slot. -/
def cvtWidth (t : Nat) : Nat := if wideTag t then 64 else 32

/-- Between integer types: the source's signedness extends; narrow targets keep their low bits and extend them. -/
def cvtInt (dst src v : Nat) : Nat :=
  let x := ofInt 64 (intOf src v)
  match dst with
  | 9 => ofInt 32 (toSigned 8 (low 8 x))
  | 10 => ofInt 32 (toSigned 16 (low 16 x))
  | 11 => low 8 x
  | 12 => low 16 x
  | _ => low (cvtWidth dst) x

/-- Float to integer: rounds by mode and saturates; NaN gives 0; either sets CVT_RANGE. Log: 143 (DEDUCED). -/
def cvtFloatInt (trunc : Bool) (dst : Nat) (x : FVal) : FRes :=
  let (lo, hi) := cvtRange dst
  let w := cvtWidth dst
  match x with
  | .nan s => ⟨0, sfCvtRange ||| (if s then fInvalid else 0)⟩
  | .inf s => ⟨ofInt w (if s then lo else hi), sfCvtRange⟩
  | .fin s m e =>
    match (FVal.fin s m e).toInt trunc with
    | none => ⟨0, sfCvtRange⟩
    | some v =>
      if v < lo then ⟨ofInt w lo, sfCvtRange⟩
      else if hi < v then ⟨ofInt w hi, sfCvtRange⟩
      else ⟨ofInt w v, 0⟩

/-- CVT from one type to another. Log: 143 (DEDUCED). -/
def convert (trunc : Bool) (dst src v : Nat) : FRes :=
  if dst = tBool then
    if isFloat src then
      match (floatFmt src).unpack v with
      | .fin _ m _ => ⟨if m = 0 then 0 else 1, 0⟩
      | .nan s => ⟨1, if s then fInvalid else 0⟩
      | .inf _ => ⟨1, 0⟩
    else ⟨if v = 0 then 0 else 1, 0⟩
  else if isFloat src then
    if isFloat dst then (floatFmt src).convert (floatFmt dst) v
    else cvtFloatInt trunc dst ((floatFmt src).unpack v)
  else if isFloat dst then ⟨(floatFmt dst).ofInt (intOf src v), 0⟩
  else ⟨cvtInt dst src v, 0⟩

/-! ### Clocks (R101, R110) -/

/-- Column of R110 for a type: 0 one-slot integers, 1 two-slot integers, 2 F32, 3 F64. -/
def clkCol (t : Nat) : Nat := if t = tF64 then 3 else if t = tF32 then 2 else if wideTag t then 1 else 0

/-- Clocks of ADD, logic, shifts and compares. -/
def clkBase (t : Nat) : Nat := nth 1 [1, 2, 2, 3] (clkCol t)

def clkArith (op : Arith) (t : Nat) : Nat :=
  match op with
  | .mul => nth 1 [2, 4, 2, 3] (clkCol t)
  | .div | .rem => nth 1 [12, 24, 8, 16] (clkCol t)
  | .sqrt => nth 0 [0, 0, 10, 20] (clkCol t)
  | .fma => nth 0 [0, 0, 3, 4] (clkCol t)
  | _ => clkBase t

/-- Words of an instruction (R100, R101). -/
def Insn.words : Insn → Nat
  | .nop | .endCycle | .trap _ | .mov _ _ | .mov64 _ _ | .br _ | .call _ | .ret | .tlatch _ | .cstat _ | .xflags _ => 1
  | _ => 2

/-- Clocks of an instruction; a waiting instruction issues in 4 or 6 clocks (R108). `taken` says a branch was taken. -/
def Insn.clocks (i : Insn) (taken : Bool) : Nat :=
  match i with
  | .nop | .mov _ _ | .mov64 _ _ | .ldi _ _ | .cmov _ _ _ _ => 1
  | .endCycle | .trap _ | .ldk _ _ | .br _ => 2
  | .ldx _ _ _ _ | .stx _ _ _ _ | .call _ | .ret => 3
  | .arith op t _ _ _ => clkArith op t
  | .logic _ t _ _ _ | .cmp _ t _ _ _ => clkBase t
  | .cvt _ dst src _ _ => if wideTag dst || wideTag src then 3 else 2
  | .brt _ _ | .brf _ _ | .loop _ _ => if taken then 2 else 1
  | .rrd _ _ _ | .rwr _ _ _ | .rrd64 _ _ _ | .rwr64 _ _ _ | .rrdx _ _ _ | .rwrx _ _ _ => 4
  | .ssub _ _ _ | .scan _ _ _ | .recApp _ _ _ _ _ => 6
  | _ => 2

/-! ### One instruction -/

/-- How an instruction that does not wait ends. -/
inductive InsnEnd where
  | goOn
  | endCycle
  /-- Hard exception by its code (R117), and the value a TRAP records. -/
  | exception (code value : Nat)
deriving DecidableEq, Repr

/-- The frame after an instruction, how it ends, and whether a branch was taken. -/
structure InsnRes where
  cx : Cx
  fin : InsnEnd := .goOn
  taken : Bool := false

/-- Move to the next instruction. -/
def Cx.next (x : Cx) (i : Insn) : Cx := { x with pc := x.pc + i.words }

/-- Branch by a signed offset in words from the branch's first word. -/
def Cx.branch (x : Cx) (off : Int) : Cx := { x with pc := ((x.pc : Int) + off).toNat }

/-- Write a result and its flags. -/
def Cx.result (x : Cx) (t d : Nat) (r : FRes) : Cx := (x.setVal t d r.bits).flag r.flags

/-- The force on a VID at the latch. -/
def Cx.forceOn (x : Cx) (vid : Nat) : Option ForcedVal := x.forced.find? fun f => f.vid == vid

/-- The tag of a global. -/
def vidTag (vids : List VidDef) (v : Nat) : Nat := ((vids.find? fun d => d.vid == v).map (·.typ)).getD 0

/-- The element of a context's IOMAP. -/
def CtxProg.el (p : CtxProg) (i : Nat) : IoEl := nth ⟨0, 0, 0⟩ p.iomap i

/-- The type tag and direction of an element (R92). -/
def IoEl.tag (e : IoEl) : Nat := bits e.flags 4 4
def IoEl.isOut (e : IoEl) : Bool := bit e.flags 0

/-- GLD: the forced value; else the own copy, or the latched published value of a foreign global (R97, R98). -/
def gldValue (p : CtxProg) (vids : List VidDef) (c : Nat) (x : Cx) (idx : Nat) : Nat :=
  let vid := nth 0 p.imports idx
  match x.forceOn vid with
  | some f => f.value
  | none =>
    match vids.find? fun d => d.vid == vid with
    | some d => if d.writer = c then mapGet d.init x.own vid else nth 0 x.latched idx
    | none => 0

/-- IRD's value: the forced value on the element's VID, else the latched one (R98). -/
def irdValue (p : CtxProg) (x : Cx) (idx : Nat) : Nat :=
  match x.forceOn (p.el idx).vid with
  | some f => f.value
  | none => (nth {} x.inputs idx).value

/-- IQ's byte: a forced element reads the force's level with FORCED set (R106, R154). -/
def iqValue (p : CtxProg) (x : Cx) (idx : Nat) : Nat :=
  match x.forceOn (p.el idx).vid with
  | some f => 128 + f.level
  | none => (nth {} x.inputs idx).quality

/-- IAGE's word: the age at the latch, saturated to I32; 0 for a forced element (R106, R154). -/
def iageValue (p : CtxProg) (x : Cx) (idx : Nat) : Nat :=
  match x.forceOn (p.el idx).vid with
  | some _ => 0
  | none =>
    let a := (nth {} x.inputs idx).age
    ofInt 32 (if a < -2147483648 then -2147483648 else if 2147483647 < a then 2147483647 else a)

/-- What an instruction that does not wait does. -/
def runInsn (p : CtxProg) (vids : List VidDef) (c : Nat) (i : Insn) (x : Cx) : InsnRes :=
  let tagOf (s : Nat) : Nat := nth 0 p.tags s
  match i with
  | .nop => ⟨x.next i, .goOn, false⟩
  | .endCycle => ⟨x.next i, .endCycle, false⟩
  | .trap s1 => ⟨x, .exception 2 (x.slot s1), false⟩
  | .mov d s1 => ⟨(x.setSlot d (x.slot s1)).next i, .goOn, false⟩
  | .mov64 d s1 => ⟨(x.setVal tU64 d (x.val tU64 s1)).next i, .goOn, false⟩
  | .ldi d imm => ⟨(x.setSlot d (if tagOf d = tBool then (if imm = 0 then 0 else 1) else imm)).next i, .goOn, false⟩
  | .ldk d idx => ⟨(x.setVal tU64 d (nth 0 p.consts idx)).next i, .goOn, false⟩
  | .ldx d s1 base n =>
    let k := toSigned 32 (x.slot s1)
    let t := tagOf base
    let w := if wideTag t then 2 else 1
    if k < 0 ∨ (n : Int) ≤ k then ⟨x, .exception 1 0, false⟩
    else ⟨(x.setVal t d (x.val t (base + w * k.toNat))).next i, .goOn, false⟩
  | .stx d s1 base n =>
    let k := toSigned 32 (x.slot s1)
    let t := tagOf base
    let w := if wideTag t then 2 else 1
    if k < 0 ∨ (n : Int) ≤ k then ⟨x, .exception 1 0, false⟩
    else ⟨(x.setVal t (base + w * k.toNat) (x.val t d)).next i, .goOn, false⟩
  | .arith op t d s1 s2 => ⟨(x.result t d (arith op t (x.val t d) (x.val t s1) (x.val t s2))).next i, .goOn, false⟩
  | .logic op t d s1 s2 =>
    let b := match op with
      | .shl | .shr | .rol | .ror => x.slot s2
      | _ => x.val t s2
    ⟨(x.setVal t d (logicOp op t (x.val t s1) b)).next i, .goOn, false⟩
  | .cmp op t d s1 s2 =>
    let (r, f) := compare op t (x.val t s1) (x.val t s2)
    ⟨((x.setSlot d (if r then 1 else 0)).flag f).next i, .goOn, false⟩
  | .cvt trunc dst src d s1 => ⟨(x.result dst d (convert trunc dst src (x.val src s1))).next i, .goOn, false⟩
  | .cmov t d s1 s2 => ⟨(if x.slot s2 = 1 then x.setVal t d (x.val t s1) else x).next i, .goOn, false⟩
  | .br off => ⟨x.branch off, .goOn, true⟩
  | .brt s1 off => if x.slot s1 = 1 then ⟨x.branch off, .goOn, true⟩ else ⟨x.next i, .goOn, false⟩
  | .brf s1 off => if x.slot s1 = 0 then ⟨x.branch off, .goOn, true⟩ else ⟨x.next i, .goOn, false⟩
  | .call off => ⟨{ x.branch off with stack := (x.pc + 1) :: x.stack }, .goOn, true⟩
  | .ret =>
    match x.stack with
    | a :: st => ⟨{ x with pc := a, stack := st }, .goOn, true⟩
    | [] => ⟨x.next i, .goOn, false⟩
  | .loop d off =>
    let v := low 32 (x.slot d + 2 ^ 32 - 1)
    let y := x.setSlot d v
    if v = 0 then ⟨y.next i, .goOn, false⟩ else ⟨y.branch off, .goOn, true⟩
  | .gld d idx =>
    ⟨(x.setVal (vidTag vids (nth 0 p.imports idx)) d (gldValue p vids c x idx)).next i, .goOn, false⟩
  | .gst s1 idx =>
    let vid := nth 0 p.imports idx
    match x.forceOn vid with
    | some _ => ⟨(x.flag sfWForced).next i, .goOn, false⟩
    | none => ⟨{ x.next i with own := mapSet x.own vid (x.val (vidTag vids vid) s1) }, .goOn, false⟩
  | .ird d idx => ⟨(x.setVal (p.el idx).tag d (irdValue p x idx)).next i, .goOn, false⟩
  | .iq d idx => ⟨(x.setSlot d (iqValue p x idx)).next i, .goOn, false⟩
  | .iage d idx => ⟨(x.setSlot d (iageValue p x idx)).next i, .goOn, false⟩
  | .owr s1 idx =>
    let e := p.el idx
    match x.forceOn e.vid with
    | some _ =>
      ⟨{ (x.flag sfWForced).next i with written := mapSet x.written idx (x.val e.tag s1) }, .goOn, false⟩
    | none => ⟨{ x.next i with written := mapSet x.written idx (x.val e.tag s1) }, .goOn, false⟩
  | .tlatch d => ⟨(x.setVal tU64 d x.latchT).next i, .goOn, false⟩
  | .tpos d base => ⟨(x.setVal tU64 d (if base = 0 then x.pos0 else x.pos1)).next i, .goOn, false⟩
  | .cstat d => ⟨(x.setSlot d x.cstat).next i, .goOn, false⟩
  | .xflags d => ⟨{ (x.setSlot d x.flags).next i with flags := 0 }, .goOn, false⟩
  | _ => ⟨x, .goOn, false⟩

/-! ### Decoding an instruction word (R100, R101) -/

/-- Signed 24-bit field of form J. -/
def formJ (w : Nat) : Int := toSigned 24 (bits w 0 24)

def arithOf (n : Nat) : Arith := nth .add [.add, .sub, .mul, .div, .rem, .min, .max, .neg, .abs, .sqrt, .fma] n
def logicOf (n : Nat) : Logic := nth .and [.and, .or, .xor, .not, .shl, .shr, .rol, .ror] n
def cmpOf (n : Nat) : Cmp := nth .eq [.eq, .ne, .lt, .le, .gt, .ge] n

/-- An operation that takes no second source. -/
def Arith.unary : Arith → Bool
  | .neg | .abs | .sqrt => true
  | _ => false

/-- The length of an opcode in words; none for a reserved opcode. -/
def opWords (op : Nat) : Option Nat :=
  if [0x00, 0x01, 0x02, 0x08, 0x09, 0x40, 0x43, 0x44, 0x60, 0x62, 0x63].contains op then some 1
  else if [0x0A, 0x0B, 0x0C, 0x0D, 0x38, 0x39, 0x41, 0x42, 0x45, 0x50, 0x51, 0x58, 0x59, 0x5A, 0x5B, 0x61, 0x68, 0x69,
      0x6A, 0x6B, 0x6C, 0x6D, 0x70, 0x71, 0x78].contains op ∨ (0x10 ≤ op ∧ op ≤ 0x1A) ∨ (0x20 ≤ op ∧ op ≤ 0x27)
      ∨ (0x30 ≤ op ∧ op ≤ 0x35) then some 2
  else none

/-- Decode word 0 and word 1; none where the opcode is reserved or a reserved field is not 0, and for a base of TPOS above 1
and an offset that is no multiple of 4: all LVC_OPCODE. Log: 165 (DESIGN CHOICE). -/
def decodeInsn (w0 w1 : Nat) : Option Insn :=
  let op := bits w0 24 8
  let d := bits w0 12 12
  let s1 := bits w0 0 12
  let t := bits w1 12 4
  let s2 := bits w1 0 12
  let b : Bool := bits w1 16 16 == 0
  let lo16 : Bool := bits w1 16 16 == 0
  let idx := bits w1 0 16
  let keep (c : Bool) (i : Insn) : Option Insn := if c then some i else none
  let cOff := toSigned 32 w1
  match op with
  | 0x00 => keep (d == 0 && s1 == 0) .nop
  | 0x01 => keep (d == 0 && s1 == 0) .endCycle
  | 0x02 => keep (d == 0) (.trap s1)
  | 0x08 => some (.mov d s1)
  | 0x09 => some (.mov64 d s1)
  | 0x0A => keep (s1 == 0) (.ldi d w1)
  | 0x0B => keep (s1 == 0) (.ldk d w1)
  | 0x0C => keep (bits w1 28 4 == 0 && t == 0) (.ldx d s1 (bits w1 16 12) s2)
  | 0x0D => keep (bits w1 28 4 == 0 && t == 0) (.stx d s1 (bits w1 16 12) s2)
  | 0x38 => keep (bits w1 9 23 == 0) (.cvt (bit w1 8) (bits w1 4 4) (bits w1 0 4) d s1)
  | 0x39 => keep b (.cmov t d s1 s2)
  | 0x40 => some (.br (formJ w0))
  | 0x41 => keep (d == 0) (.brt s1 cOff)
  | 0x42 => keep (d == 0) (.brf s1 cOff)
  | 0x43 => some (.call (formJ w0))
  | 0x44 => keep (d == 0 && s1 == 0) .ret
  | 0x45 => keep (s1 == 0) (.loop d cOff)
  | 0x50 => keep (s1 == 0 && lo16) (.gld d idx)
  | 0x51 => keep (d == 0 && lo16) (.gst s1 idx)
  | 0x58 => keep (s1 == 0 && lo16) (.ird d idx)
  | 0x59 => keep (s1 == 0 && lo16) (.iq d idx)
  | 0x5A => keep (s1 == 0 && lo16) (.iage d idx)
  | 0x5B => keep (d == 0 && lo16) (.owr s1 idx)
  | 0x60 => keep (s1 == 0) (.tlatch d)
  | 0x61 => keep (s1 == 0 && decide (w1 ≤ 1)) (.tpos d w1)
  | 0x62 => keep (s1 == 0) (.cstat d)
  | 0x63 => keep (s1 == 0) (.xflags d)
  | 0x68 => keep (bits w1 20 12 == 0 && w1 % 4 == 0) (.rrd d s1 (bits w1 0 20))
  | 0x69 => keep (bits w1 20 12 == 0 && w1 % 4 == 0) (.rwr d s1 (bits w1 0 20))
  | 0x6A => keep (bits w1 20 12 == 0 && w1 % 4 == 0) (.rrd64 d s1 (bits w1 0 20))
  | 0x6B => keep (bits w1 20 12 == 0 && w1 % 4 == 0) (.rwr64 d s1 (bits w1 0 20))
  | 0x6C => keep (bits w1 12 20 == 0) (.rrdx d s1 s2)
  | 0x6D => keep (bits w1 12 20 == 0) (.rwrx d s1 s2)
  | 0x70 => keep (s1 == 0 && bits w1 28 4 == 0 && bits w1 4 12 == 0) (.ssub d (bits w1 16 12) (bits w1 0 4))
  | 0x71 => keep (s1 == 0 && bits w1 28 4 == 0 && bits w1 4 12 == 0) (.scan d (bits w1 16 12) (bits w1 0 4))
  | 0x78 => keep (t == 0) (.recApp d s1 (bits w1 24 8) (bits w1 16 8) s2)
  | _ =>
    if 0x10 ≤ op ∧ op ≤ 0x1A then
      let a := arithOf (op - 0x10)
      keep (b && (!a.unary || s2 == 0)) (.arith a t d s1 s2)
    else if 0x20 ≤ op ∧ op ≤ 0x27 then
      let l := logicOf (op - 0x20)
      keep (b && (!(l == .not) || s2 == 0)) (.logic l t d s1 s2)
    else if 0x30 ≤ op ∧ op ≤ 0x35 then keep b (.cmp (cmpOf (op - 0x30)) t d s1 s2)
    else none

/-! ### Encoding (R100, R101) -/

/-- A field of `w` bits that holds a signed number. -/
def signedField (w : Nat) (v : Int) : Nat := ofInt w v

def Arith.code : Arith → Nat
  | .add => 0 | .sub => 1 | .mul => 2 | .div => 3 | .rem => 4 | .min => 5 | .max => 6 | .neg => 7 | .abs => 8 | .sqrt => 9 | .fma => 10

def Logic.code : Logic → Nat
  | .and => 0 | .or => 1 | .xor => 2 | .not => 3 | .shl => 4 | .shr => 5 | .rol => 6 | .ror => 7

def Cmp.code : Cmp → Nat
  | .eq => 0 | .ne => 1 | .lt => 2 | .le => 3 | .gt => 4 | .ge => 5

/-- Word 0 of form R: opcode, D, S1. -/
def wordR (op d s1 : Nat) : Nat := op * 2 ^ 24 + d * 2 ^ 12 + s1

/-- Word 0 of form J: opcode and a signed 24-bit offset. -/
def wordJ (op : Nat) (off : Int) : Nat := op * 2 ^ 24 + signedField 24 off

/-- Word 1 with T and S2. -/
def wordT (t s2 : Nat) : Nat := t * 2 ^ 12 + s2

/-- Word 0 and word 1 of an instruction; word 1 is 0 where the instruction has one word. -/
def encodeInsn : Insn → Nat × Nat
  | .nop => (wordR 0x00 0 0, 0)
  | .endCycle => (wordR 0x01 0 0, 0)
  | .trap s1 => (wordR 0x02 0 s1, 0)
  | .mov d s1 => (wordR 0x08 d s1, 0)
  | .mov64 d s1 => (wordR 0x09 d s1, 0)
  | .ldi d imm => (wordR 0x0A d 0, imm)
  | .ldk d idx => (wordR 0x0B d 0, idx)
  | .ldx d s1 base n => (wordR 0x0C d s1, base * 2 ^ 16 + n)
  | .stx d s1 base n => (wordR 0x0D d s1, base * 2 ^ 16 + n)
  | .arith op t d s1 s2 => (wordR (0x10 + op.code) d s1, wordT t s2)
  | .logic op t d s1 s2 => (wordR (0x20 + op.code) d s1, wordT t s2)
  | .cmp op t d s1 s2 => (wordR (0x30 + op.code) d s1, wordT t s2)
  | .cvt trunc dst src d s1 => (wordR 0x38 d s1, (if trunc then 0x100 else 0) + dst * 16 + src)
  | .cmov t d s1 s2 => (wordR 0x39 d s1, wordT t s2)
  | .br off => (wordJ 0x40 off, 0)
  | .brt s1 off => (wordR 0x41 0 s1, signedField 32 off)
  | .brf s1 off => (wordR 0x42 0 s1, signedField 32 off)
  | .call off => (wordJ 0x43 off, 0)
  | .ret => (wordR 0x44 0 0, 0)
  | .loop d off => (wordR 0x45 d 0, signedField 32 off)
  | .gld d idx => (wordR 0x50 d 0, idx)
  | .gst s1 idx => (wordR 0x51 0 s1, idx)
  | .ird d idx => (wordR 0x58 d 0, idx)
  | .iq d idx => (wordR 0x59 d 0, idx)
  | .iage d idx => (wordR 0x5A d 0, idx)
  | .owr s1 idx => (wordR 0x5B 0 s1, idx)
  | .tlatch d => (wordR 0x60 d 0, 0)
  | .tpos d base => (wordR 0x61 d 0, base)
  | .cstat d => (wordR 0x62 d 0, 0)
  | .xflags d => (wordR 0x63 d 0, 0)
  | .rrd d s1 off => (wordR 0x68 d s1, off)
  | .rwr d s1 off => (wordR 0x69 d s1, off)
  | .rrd64 d s1 off => (wordR 0x6A d s1, off)
  | .rwr64 d s1 off => (wordR 0x6B d s1, off)
  | .rrdx d s1 addr => (wordR 0x6C d s1, addr)
  | .rwrx d s1 addr => (wordR 0x6D d s1, addr)
  | .ssub d base job => (wordR 0x70 d 0, base * 2 ^ 16 + job)
  | .scan d base job => (wordR 0x71 d 0, base * 2 ^ 16 + job)
  | .recApp d s1 sev typ len => (wordR 0x78 d s1, sev * 2 ^ 24 + typ * 2 ^ 16 + len)

end Sys2Proof.Machine
end

