-- ==== Sys2Proof/Machine/Targets.lean ====
section
/-! DEFINITION. Trigger targets of contexts (R68, R123, R124). -/

namespace Sys2Proof.Machine

/-- Extended position of ABS0 (false) or ABS1 (true): turns above the angle (R68). -/
def Block.absPos (b : Block) (abs1 : Bool) : Nat := b.pair (if abs1 then Reg.ABS1_POS_LO else Reg.ABS0_POS_LO)

/-- Targets on ABS1 fire: synced or counting on, turning forward, past the highest earlier position (R78, R79). -/
def Block.abs1Fires (b : Block) : Bool :=
  let p := b.absPos true
  let pos : Int := if p < 2 ^ 63 then (p : Int) else (p : Int) - 2 ^ 64
  (b.fget F.ABS1_STAT_STATE == 2 || b.fget F.ABS1_STAT_STATE == 3) && !b.fgetB F.ABS1_STAT_STOPPED &&
    !b.fgetB F.ABS1_STAT_REVERSE && decide (b.tm.highest ≤ pos)

/-- First PERIOD target after TSU instant `t` (R123): PERIOD and PHASE in 10 µs steps. After a target that a TSU step has
moved off this grid it is the next instant of the grid. Log: 180 (DESIGN CHOICE). -/
def nextPeriod (period phase t : Nat) : Nat :=
  let p := 10000 * period
  let f := 10000 * phase
  if p = 0 then t + 1
  else if t < f then t + 1 + (f - t - 1) % p
  else f + ((t - f) / p + 1) * p

/-- Number of angle targets in a turn (R124). -/
def angleCount (step : Nat) : Nat := if step = 0 then 1 else Nat.max 1 ((2 ^ 33 + step) / (2 * step))

/-- First ANGLE target after extended position `pos`, both modulo 2^64 (R124). -/
def nextAngle (step phase pos : Nat) : Nat :=
  let q := pos + 2 ^ 32 - phase
  let r := q % 2 ^ 32
  let k := if step = 0 then 1 else r / step + 1
  let nq := if k < angleCount step then q - r + k * step else q - r + 2 ^ 32
  (nq + phase - 2 ^ 32) % 2 ^ 64

/-- An extended position has reached a target of its base, both modulo 2^64 (R68); one armed when its base has already
passed it has been reached. Log: 179 (DESIGN CHOICE). -/
def posReached (pos target : Nat) : Bool := decide ((pos + 2 ^ 64 - target % 2 ^ 64) % 2 ^ 64 < 2 ^ 63)

/-- TRIG of a context. -/
def Block.trigOf (b : Block) (c : Nat) : Nat := b.fget (F.CTX_CFG_TRIG c)

/-- The target after `t` of a context with a periodic trigger. -/
def Block.targetAfter (b : Block) (c t : Nat) : Nat :=
  let step := b.fget (F.CTX_PERIOD_PERIOD c)
  let phase := b.fget (F.CTX_PHASE_PHASE c)
  if b.trigOf c = 1 then nextPeriod step phase t else nextAngle step phase t

/-- The next target of a context with a periodic trigger has been reached (R68). Log: 179 (DESIGN CHOICE). -/
def Block.dueAt (b : Block) (c target : Nat) : Bool :=
  match b.trigOf c with
  | 1 => decide (target ≤ b.now)
  | 2 => posReached (b.absPos false) target
  | 3 => b.abs1Fires && posReached (b.absPos true) target
  | _ => true

/-- The k-th target after `t`. -/
def Block.kthTarget (b : Block) (c : Nat) : Nat → Nat → Nat
  | 0, t => t
  | k + 1, t => b.kthTarget c k (b.targetAfter c t)

/-- The angle a base covers in `us` microseconds at its frequency, in turn units. -/
def Block.angleIn (b : Block) (abs1 : Bool) (us : Nat) : Nat :=
  if abs1 then
    let v := b.regN Reg.ABS1_SPEED
    let m := if v < 2 ^ 31 then v else 2 ^ 32 - v
    m * 2 ^ 16 * us / 1000000
  else b.regN Reg.ABS0_FREQ * 2 ^ 32 * us / 1000000000000

end Sys2Proof.Machine
end

