-- ==== Sys2Proof/Machine/Link.lean ====
section
/-! DEFINITION. The station link: configuration, cycle timing, output frames, input frames, joins, dropouts and ring state (R296 to R321). -/

namespace Sys2Proof.Machine

/-! ### Output elements -/

def Block.outEl (b : Block) (src : Nat) : OutEl := mapGet {} b.outEls src

def Block.modOut (b : Block) (src : Nat) (f : OutEl → OutEl) : Block :=
  { b with outEls := mapSet b.outEls src (f (b.outEl src)) }

/-! ### Configuration (R298, R311) -/

def Block.lnkCfg (b : Block) : LnkCfg := b.lnk.cfg.getD ⟨0, 0, [], []⟩

def LnkCfg.entry (c : LnkCfg) (addr : Nat) : Option LnkEntry := c.stations.find? fun e => e.addr == addr

/-- Stations of a segment, by SLOT. -/
def LnkCfg.seg (c : LnkCfg) (s : Nat) : List LnkEntry :=
  (upto 128).flatMap fun k => c.stations.filter fun e => e.seg == s && e.slot == k

/-- A segment runs at 100 Mbit/s. -/
def LnkCfg.slow (c : LnkCfg) (s : Nat) : Bool := bit c.speed s

/-- β in ns per byte, and the slot guard in ns. -/
def lnkBeta (slow : Bool) : Nat := if slow then 80 else 8
def lnkGuard (slow : Bool) : Nat := if slow then 1000 else 200

/-- The groups of a segment, ascending. -/
def LnkCfg.groups (c : LnkCfg) (s : Nat) : List Nat := (upto 32).filter fun g => c.stations.any fun e => e.seg == s && e.group == g

/-- Stations of a group, by ascending address. -/
def LnkCfg.members (c : LnkCfg) (s g : Nat) : List LnkEntry :=
  (upto 129).flatMap fun a => c.stations.filter fun e => e.addr == a && e.seg == s && e.group == g

/-- Σ(8 + BLEN) of a group. -/
def LnkCfg.payload (c : LnkCfg) (s g : Nat) : Nat := ((c.members s g).map fun e => 8 + e.outBytes).sum

/-- T_OUT (R311). -/
def LnkCfg.tOut (c : LnkCfg) (s : Nat) : Nat :=
  lnkBeta (c.slow s) * ((c.groups s).map fun g => Nat.max 84 (86 + c.payload s g)).sum

/-- Width of one input slot (R311). -/
def LnkCfg.slotWidth (c : LnkCfg) (e : LnkEntry) : Nat :=
  lnkBeta (c.slow e.seg) * Nat.max 84 ((if e.ver = 2 then 66 else 74) + e.inBytes) + lnkGuard (c.slow e.seg)

/-- T_IN (R311). -/
def LnkCfg.tIn (c : LnkCfg) (s : Nat) : Nat := ((c.seg s).map c.slotWidth).sum

/-- SLOT_OFS of a station: the widths of all slots with lower SLOT (R309). -/
def LnkCfg.slotOfs (c : LnkCfg) (e : LnkEntry) : Nat :=
  (((c.seg e.seg).filter fun f => decide (f.slot < e.slot)).map c.slotWidth).sum

def LnkCfg.ctx (c : LnkCfg) (s : Nat) : Nat := (nth (0xFFFF, 0) c.segs s).1
def LnkCfg.applyOfs (c : LnkCfg) (s : Nat) : Nat := (nth (0xFFFF, 0) c.segs s).2

/-- Execution time W of the cycle context in ns, rounded up (R311). -/
def lnkW (cls wcet : Nat) : Nat := (wcet * 5 + 2) / 3 + (if cls = 1 then 2000 else 0)

/-- The shortest cycle T_C in ns; none for ANGLE1, which the module cannot check (R311). -/
def lnkTc (trig period : Nat) : Option Nat :=
  if trig = 1 then some (10000 * period)
  else if trig = 2 then some (period * 1000000000 / (65 * 2 ^ 32))
  else none

/-- The three conditions of R311 for a line delay D. -/
def lnkFits (c : LnkCfg) (s trig period cls wcet d : Nat) : Bool :=
  let a := c.applyOfs s
  let tIn := c.tIn s
  decide (10000 + lnkW cls wcet + c.tOut s + d ≤ a) &&
    (match lnkTc trig period with
      | none => true
      | some tc => decide (a + d + tIn + 5000 ≤ tc) && decide (tIn + 2 * d + 32000 + 84 * lnkBeta (c.slow s) ≤ tc))

/-- The latch term that a pair base adds to W (R371): 4 µs and 64 bytes plus 16 per element from the primary at 200 MB/s. -/
def latchTerm (p : CtxProg) : Nat :=
  let n := (p.iomap.filter fun e => !e.isOut && (bits e.source 24 8 == 0x40 || decide (0x90 ≤ bits e.source 24 8 ∧ bits e.source 24 8 ≤ 0x93))).length
  4000 + 5 * (64 + 16 * n)

/-- Condition 1 of R311 with the latch term (R371). -/
def lnkPairFits (c : LnkCfg) (s cls wcet : Nat) (p : CtxProg) (d : Nat) : Bool :=
  decide (10000 + lnkW cls wcet + latchTerm p + c.tOut s + d ≤ c.applyOfs s)

/-- R311 with the cycle context's descriptor in force, on a pair base with the latch term. -/
def Block.lnkFitsNow (b : Block) (s d : Nat) : Bool :=
  let c := b.lnkCfg
  let x := c.ctx s
  let cls := b.fget (F.CTX_CFG_CLASS x)
  let wcet := b.fget (F.CTX_WCET_WCET x)
  lnkFits c s (b.fget (F.CTX_CFG_TRIG x)) (b.fget (F.CTX_PERIOD_PERIOD x)) cls wcet d &&
    (!b.onPair || lnkPairFits c s cls wcet (mapGet {} ((b.prog.map (·.ctxs)).getD []) x) d)

/-! ### Stations and segments -/

def Block.lnkSt (b : Block) (a : Nat) : LnkSt := mapGet {} b.lnk.stations a
def Block.setLnkSt (b : Block) (a : Nat) (st : LnkSt) : Block :=
  { b with lnk := { b.lnk with stations := mapSet b.lnk.stations a st } }
def Block.lnkSeg (b : Block) (s : Nat) : LnkSeg := mapGet {} b.lnk.segs s
def Block.setLnkSeg (b : Block) (s : Nat) (g : LnkSeg) : Block :=
  { b with lnk := { b.lnk with segs := mapSet b.lnk.segs s g } }

/-- Values of LNK_STk_STATE.STATE. -/
def lsUnconfigured : Nat := 0
def lsAbsent : Nat := 1
def lsJoining : Nat := 2
def lsUp : Nat := 3
def lsDown : Nat := 4
def lsRefused : Nat := 5
def lsDropped : Nat := 6

def Block.lsState (b : Block) (a : Nat) : Nat := b.fget (F.LNK_ST_STATE_STATE a)

/-- LNK_STAT's counts follow the station states. -/
def Block.lnkCounts (b : Block) : Block :=
  let l := b.lnkCfg.stations
  (b.fset F.LNK_STAT_UP (l.filter fun e => b.lsState e.addr == lsUp).length).fset F.LNK_STAT_DOWN
    (l.filter fun e => b.lsState e.addr == lsDown).length

/-- Set a station's state; each change to UP or DOWN is recorded with the address and SEQ (R317). -/
def Block.lnkSet (b : Block) (a st : Nat) : Block :=
  if b.lsState a = st then b else
  let b := (b.fset (F.LNK_ST_STATE_STATE a) st).lnkCounts
  let seq := match b.lnkCfg.entry a with
    | some e => (b.lnkSeg e.seg).seq
    | none => 0
  if st = lsUp then b.event 0xA8 0 [Reg.LNK_ST_STATE a] [a, seq]
  else if st = lsDown then
    (((b.incSat F.LNK_DOWN_CNT_COUNT).incSat (F.LNK_ST_CNT_DOWN a))).event 0xA8 1 [Reg.LNK_ST_STATE a] [a, seq]
  else b

/-- Mean of a list of delays in 2^-8 ns; 0 when there is none. -/
def meanDelay (l : List Int) : Nat := if l.isEmpty then 0 else (l.foldl (· + ·) 0 / (l.length : Int)).toNat

/-- A station whose block is in the group frames, or will be from the next cycle (R313). -/
def LnkSt.joined (st : LnkSt) : Bool := st.sending || st.ready

/-- D and MIN of both segments follow the delays and the cycle contexts in force (R312). -/
def Block.lnkSegShow (b : Block) : Block :=
  b.forAll [0, 1] fun b s =>
    if !b.fgetB (F.LNK_SEG_CFG_VALID s) then b else
    let ds := (b.lnkCfg.seg s).map fun f =>
      let t := b.lnkSt f.addr
      if t.joined then Nat.max (meanDelay t.delayA / 256) (meanDelay t.delayB / 256) else 0
    let d := ds.foldl Nat.max 0
    let x := b.lnkCfg.ctx s
    let w := lnkW (b.fget (F.CTX_CFG_CLASS x)) (b.fget (F.CTX_WCET_WCET x))
    (b.setRegN (Reg.LNK_SEG_D s) d).setRegN (Reg.LNK_SEG_MIN s) (15000 + w + b.lnkCfg.tOut s + b.lnkCfg.tIn s + 2 * d)

/-- LNK_STk_DELAY of a port. -/
def lnkDelayField (portB : Bool) (a : Nat) : Fld := if portB then F.LNK_ST_DELAY_DELAY_B a else F.LNK_ST_DELAY_DELAY_A a

/-- LNK_STk_DELAY on the port just measured, and the segments' D and MIN (R303, R312). -/
def Block.lnkDelays (b : Block) (portB : Bool) (a : Nat) : Block :=
  let st := b.lnkSt a
  (b.fset (lnkDelayField portB a) (meanDelay (if portB then st.delayB else st.delayA) / 256)).lnkSegShow

/-- Take up LNKCFG: configured stations are ABSENT, the others UNCONFIGURED. -/
def Block.lnkTakeUp (b : Block) (cfg : Option LnkCfg) : Block :=
  let c := cfg.getD ⟨0, 0, [], []⟩
  let b := { b with lnk := { cfg := cfg } }
  let b := ((b.fset F.LNK_CFG_STATIONS c.stations.length).fset F.LNK_CFG_SPEED_A (c.speed % 2)).fset F.LNK_CFG_SPEED_B (c.speed / 2)
  let b := (b.fset F.LNK_CFG_TOPO c.topo).fset F.LNK_STAT_RING (if cfg.isSome && c.topo == 1 then 1 else 0)
  let b := b.forAll [0, 1] fun b s =>
    let has := !(c.seg s).isEmpty
    let b := (b.fsetB (F.LNK_SEG_CFG_VALID s) has).fset (F.LNK_SEG_CFG_CTX s) (if has then c.ctx s else 0)
    let b := ((b.setRegN (Reg.LNK_SEG_APPLY s) (if has then c.applyOfs s else 0)).setRegN (Reg.LNK_SEG_TOUT s) (if has then c.tOut s else 0)).setRegN
      (Reg.LNK_SEG_TIN s) (if has then c.tIn s else 0)
    let w := lnkW (b.fget (F.CTX_CFG_CLASS (c.ctx s))) (b.fget (F.CTX_WCET_WCET (c.ctx s)))
    (b.setRegN (Reg.LNK_SEG_D s) 0).setRegN (Reg.LNK_SEG_MIN s) (if has then 15000 + w + c.tOut s + c.tIn s else 0)
  (b.forAll ((upto 128).map (· + 1)) fun b a =>
    (b.setRegN (Reg.LNK_ST_STATE a) (if (c.entry a).isSome then lsAbsent else lsUnconfigured)).setRegN (Reg.LNK_ST_DELAY a) 0).lnkCounts

/-! ### Element layout (R318) -/

def srcStation (src : Nat) : Nat := bits src 16 8
def srcBit (src : Nat) : Nat := bits src 13 3
def srcItem (src : Nat) : Nat := bits src 11 2
def srcOffset (src : Nat) : Nat := bits src 0 11

/-- Width in bits of a data item by its tag (R318). -/
def dataWidth (tag : Nat) : Nat :=
  if tag = 1 then 1 else if tag = 9 ∨ tag = 11 then 8 else if tag = 10 ∨ tag = 12 then 16 else if wideTag tag then 64 else 32

/-- Lowest bit of a data item. -/
def dataLow (src tag : Nat) : Nat := 8 * srcOffset src + (if tag = 1 then srcBit src else 0)

/-- Widen a data item: I8 and I16 are held sign-extended to 32 bits. -/
def widen (tag v : Nat) : Nat :=
  if tag = 9 then ofInt 32 (toSigned 8 v) else if tag = 10 then ofInt 32 (toSigned 16 v) else v

/-! ### Output frames (R302, R308) -/

/-- The value an output element sends, by the rows of R308 and R352; none for its substitute. -/
def OutEl.value (e : OutEl) : Option Nat :=
  match e.forced with
  | some v => some v
  | none => if e.active then e.last else none

/-- Output bytes of a station, and whether its block asks for the station's own fail-safe values. -/
def Block.lnkBytes (b : Block) (e : LnkEntry) : Nat × Bool :=
  let els := b.outEls.filter fun o => bits o.1 24 8 == 0xA8 && srcStation o.1 == e.addr && srcItem o.1 == 0
  els.foldl (fun (acc : Nat × Bool) o =>
    let put (v : Nat) : Nat := putField acc.1 (dataLow o.1 o.2.tag) (dataWidth o.2.tag) v
    match (if b.running && b.pwr.released then o.2.value else none) with
    | some v => (put v, acc.2)
    | none =>
      if e.subst = 1 then (put (o.2.last.getD 0), acc.2)
      else if e.subst = 2 then (acc.1, true)
      else (put 0, acc.2)) (0, false)

/-- Only SYNC frames are sent in START and COMMISSION and before the first complete cycle. Log: 141 (DEDUCED). -/
def Block.lnkSyncOnly (b : Block) : Bool :=
  b.modState == stStart || b.modState == stCommission || !b.pwr.released

/-- In HALT no link cycle begins or ends once the outputs were released; before that SYNC frames go on (R308).
Log: 141 (DEDUCED). -/
def Block.lnkOff (b : Block) : Bool := b.modState == stHalt && b.pwr.released

/-- A frame of a group: its version, its joined stations, and how long after the first frame of the cycle it leaves. -/
structure LnkOut where
  group : Nat
  ver : Nat
  stations : List LnkEntry
  offset : Nat := 0

/-- The frames of a group. A version 2 frame holds one block (R302). A group no station of which has joined is sent a frame
without blocks, which tells its stations the window end (R313). Log: 191 (DEDUCED). -/
def Block.lnkGroupFrames (b : Block) (s g : Nat) : List LnkOut :=
  let mem := (b.lnkCfg.members s g).filter fun e => (b.lnkSt e.addr).sending
  let (old, new) := mem.partition fun e => b.fget (F.LNK_ST_STATE_VER e.addr) == 2
  let first := if mem.isEmpty then [⟨g, if (b.lnkCfg.members s g).any fun e => e.ver == 2 then 2 else 3, [], 0⟩]
    else if new.isEmpty then [] else [⟨g, 3, new, 0⟩]
  first ++ old.map fun e => ⟨g, 2, [e], 0⟩

/-- Bytes of a block's data: none in a SYNC frame. -/
def Block.lnkBlen (b : Block) (e : LnkEntry) : Nat := if b.lnkSyncOnly then 0 else e.outBytes

/-- The frames of a cycle, back to back in group order (R308). -/
def Block.lnkPlan (b : Block) (s : Nat) : List LnkOut :=
  let beta := lnkBeta (b.lnkCfg.slow s)
  (((b.lnkCfg.groups s).flatMap fun g => b.lnkGroupFrames s g).foldl (fun (acc : List LnkOut × Nat) f =>
    (acc.1 ++ [{ f with offset := acc.2 }],
      acc.2 + beta * Nat.max 84 (86 + (f.stations.map fun e => 8 + b.lnkBlen e).sum))) ([], 0)).1

/-- A link frame up to its header (R300, R301): destination, the port's own source address, EtherType, then VT, SRC 0 of a
controller, LEN, SEQ, CLAIM and RES. -/
def lnkHeader (portB : Bool) (dest vt len seq claim : Nat) : List Nat :=
  [dest, Config.linkMac portB, 0x88B5, vt, 0, len, seq, claim, 0]

/-- One frame of a group on one port. -/
def Block.lnkFrame (b : Block) (s : Nat) (f : LnkOut) (portB held : Bool) : Block :=
  let c := b.lnkCfg
  let q := b.lnkSeg s
  let sync := b.lnkSyncOnly
  let blocks := f.stations.flatMap fun e =>
    let (d, sub) := b.lnkBytes e
    let st := b.lnkSt e.addr
    [e.addr, if sub || b.lsState e.addr != lsUp then 1 else 0, b.lnkBlen e,
      meanDelay (if portB then st.delayB else st.delayA) / 16] ++ (if sync then [] else [d])
  let len := 32 + (f.stations.map fun e => 8 + b.lnkBlen e).sum
  b.send (if portB then .lnkB else .lnkA) (if sync then "SYNC" else "OUT")
    (lnkHeader portB (0x035259001000 + f.group) (f.ver * 16 + (if sync then 3 else 1)) len q.seq (b.regN Reg.RED_CLAIM) ++
      [b.now + f.offset, q.t0 + c.applyOfs s, q.nextT - 5000 - c.tIn s, c.tIn s, f.group,
        (if held then 1 else 0) + (if q.step then 2 else 0), f.stations.length, 0] ++ blocks)

/-- Ports of a segment: both in a ring (R296). -/
def LnkCfg.ports (c : LnkCfg) (s : Nat) : List Bool := if c.topo = 1 then [false, true] else [s == 1]

/-- A unit with role OUT sends no OUT frame, nor a standby that is SYNCING or was demoted by a higher claim until it is
SYNCED again (R360, R378, R381). -/
def Block.lnkMute (b : Block) : Bool :=
  b.onPair && (b.role == roleOut || (b.role == roleStandby && (b.fget F.RED_STAT_SYNC == 1 || b.red.demoted)))

/-- The trigger that follows `t`, the trigger or the commit of a cycle: the next target of the context, on an angle base
predicted from its frequency or speed (R310). A base that does not turn gives `t` itself. -/
def Block.lnkNext (b : Block) (ctx t : Nat) : Nat :=
  let trig := b.trigOf ctx
  if trig = 1 then b.targetAfter ctx t
  else
    let abs1 := trig != 2
    let pos := b.absPos abs1
    let dist := (b.targetAfter ctx pos + 2 ^ 64 - pos) % 2 ^ 64
    let speed := b.regN Reg.ABS1_SPEED
    let (num, den) := if abs1 then (10 ^ 9, 2 ^ 16 * (if speed < 2 ^ 31 then speed else 0)) else (10 ^ 15, 2 ^ 32 * b.regN Reg.ABS0_FREQ)
    if den = 0 then t else t + dist * num / den

/-- A frame has left: its stations have been fed, and keep its DEPART under its SEQ. -/
def Block.lnkFed (b : Block) (seq : Nat) (f : LnkOut) : Block :=
  b.forAll f.stations fun b e =>
    let st := b.lnkSt e.addr
    b.setLnkSt e.addr { st with fed := st.fed + 1, departs := ((seq, b.now + f.offset) :: st.departs).take 2 }

/-- The next trigger is predicted; the input window before it ends 5 µs earlier (R309). Where the window of the cycle before
has not ended, its end stays the one awaited (R310). -/
def LnkSeg.predict (q : LnkSeg) (t : Nat) : LnkSeg :=
  { q with nextT := t, endT := if q.due = low 32 (q.seq + 1) then t - 5000 else q.endT }

/-- The frames of a cycle leave; on an angle base the next trigger is predicted now (R310). HELD marks values, which SYNC
frames do not carry. Log: 190 (DESIGN CHOICE). -/
def Block.lnkSend (b : Block) (s : Nat) (held : Bool) : Block :=
  let c := b.lnkCfg
  if b.lnkMute && !b.lnkSyncOnly then b.setLnkSeg s { b.lnkSeg s with isOpen := false }
  else
    let held := held && !b.lnkSyncOnly
    let q := b.lnkSeg s
    let q := if b.trigOf (c.ctx s) = 1 then q else q.predict (b.lnkNext (c.ctx s) b.now)
    let plan := b.lnkPlan s
    let b := b.setLnkSeg s q
    let b := b.forAll plan fun b f => (b.forAll (c.ports s) fun b p => b.lnkFrame s f p held).lnkFed q.seq f
    let b := b.setLnkSeg s { q with isOpen := false, step := false, sent := true }
    (b.setRegN (Reg.LNK_SEG_SEQ s) q.seq).when held fun b => (b.incSat F.LNK_HELD_CNT_COUNT).raiseEvt 0xA8 6

/-- A commit of a context sends the frames of the segments it drives. -/
def Block.lnkCommit (b : Block) (ctx : Nat) : Block :=
  b.forAll [0, 1] fun b s =>
    b.when (b.fgetB (F.LNK_SEG_CFG_VALID s) && b.lnkCfg.ctx s == ctx && (b.lnkSeg s).isOpen) fun b => b.lnkSend s false

/-- In HALT one set of OUT frames with substitutes is sent; then nothing. -/
def Block.lnkHalt (b : Block) : Block :=
  b.forAll [0, 1] fun b s => b.when (b.fgetB (F.LNK_SEG_CFG_VALID s) && b.pwr.released) fun b => b.lnkSend s false

/-! ### The cycle (R306, R309, R310) -/

/-- SEQ of a trigger: from TSU time for PERIOD; for the angle bases turn count × K + k of the last target of R124, the turn
count being the high word of the position at that target (R306). -/
def Block.lnkSeqOf (b : Block) (ctx : Nat) : Nat :=
  let period := b.fget (F.CTX_PERIOD_PERIOD ctx)
  let phase := b.fget (F.CTX_PHASE_PHASE ctx)
  let trig := b.fget (F.CTX_CFG_TRIG ctx)
  if trig = 1 then low 32 ((b.now - 10000 * phase) / (10000 * Nat.max 1 period))
  else
    let pos := b.absPos (trig != 2)
    let q := (pos + 2 ^ 32 - phase) % 2 ^ 32
    let k := Nat.min (angleCount period - 1) (q / Nat.max 1 period)
    let target := (pos + 2 ^ 64 - (q - k * period)) % 2 ^ 64
    low 32 (target / 2 ^ 32 * angleCount period + k)

/-- A trigger instant of the segment's cycle context has come since its last cycle: SEQ has moved on, or the TSU stepped;
on ABS1 only while its targets fire (R68, R306, R320). Log: 173 (DEDUCED). -/
def Block.lnkDue (b : Block) (k : Nat) : Bool :=
  let ctx := b.lnkCfg.ctx k
  let q := b.lnkSeg k
  (q.t0 == 0 || q.step || b.lnkSeqOf ctx != q.seq) && (b.fget (F.CTX_CFG_TRIG ctx) != 3 || b.abs1Fires)

/-- The ring state is judged on the frames sent and returned in a cycle, once. While BROKEN, BREAK_AFTER follows the
stations now heard on LNKA. -/
def Block.lnkRing (b : Block) (s : Nat) : Block :=
  let q := b.lnkSeg s
  if b.fget F.LNK_STAT_RING = 0 ∨ !q.sent then b else
  let q := { q with sent := false }
  let q := if q.backA && q.backB then { q with returned := q.returned + 1, missing := 0 }
    else { q with missing := q.missing + 1, returned := 0 }
  let b := b.setLnkSeg s q
  let ring := b.fget F.LNK_STAT_RING
  let b := if ring = 1 ∧ 3 ≤ q.missing then ((b.fset F.LNK_STAT_RING 2).incSat F.LNK_RING_CNT_COUNT).raiseEvt 0xA8 3
    else if ring = 2 ∧ 3 ≤ q.returned then ((b.fset F.LNK_STAT_RING 1).fset F.LNK_STAT_BREAK_AFTER 0).raiseEvt 0xA8 4
    else b
  let heard (e : LnkEntry) : Bool :=
    b.fgetB (F.LNK_ST_STATE_PATH_A e.addr) && (b.lsState e.addr == lsUp || b.lsState e.addr == lsJoining)
  b.when (b.fget F.LNK_STAT_RING == 2) fun b =>
    b.fset F.LNK_STAT_BREAK_AFTER (((b.lnkCfg.stations.filter heard).map (·.addr)).foldl Nat.max 0)

/-- A trigger instant of the segment's cycle context opens a link cycle. Where the input window before it has not ended
(R310), the ring is judged on the cycle that it cuts off. Stations that answered READY are in the frames from now on (R313). -/
def execLinkCycle (seg : Fin 2) (s : State) : Host.Outcome State Fault Refusal := lift (fun b =>
  let k := seg.val
  if !b.fgetB (F.LNK_SEG_CFG_VALID k) || b.lnkOff || !b.lnkDue k then b else
  let ctx := b.lnkCfg.ctx k
  let early := !(b.lnkSeg k).ended
  let seq := b.lnkSeqOf ctx
  let b := b.when early fun b => b.lnkRing k
  let q := b.lnkSeg k
  let b := b.setLnkSeg k <| LnkSeg.predict (t := b.lnkNext ctx b.now) { q with
    isOpen := true, seq := seq, t0 := b.now,
    due := if early then q.due else low 32 (seq + 1), ended := false, stepCycle := q.step, backA := false, backB := false, sent := false }
  b.forAll (b.lnkCfg.seg k) fun b e =>
    let st := b.lnkSt e.addr
    b.setLnkSt e.addr { st with late := if early then !st.got && st.valued else st.late, sending := st.joined, ready := false }) s

/-- The send deadline t0 + APPLY_OFS − T_OUT − D − 2 µs of a segment's cycle has come (R308). -/
def Block.lnkOverdue (b : Block) (k : Nat) : Bool :=
  decide ((b.lnkSeg k).t0 + b.lnkCfg.applyOfs k ≤ b.now + b.lnkCfg.tOut k + b.regN (Reg.LNK_SEG_D k) + 2000)

/-- R308: the commit has not completed by the send deadline. -/
def execLinkSendDeadline (seg : Fin 2) (s : State) : Host.Outcome State Fault Refusal := lift (fun b =>
  b.when ((b.lnkSeg seg.val).isOpen && !b.lnkOff && b.lnkOverdue seg.val) fun b => b.lnkSend seg.val true) s

/-! ### Input frames (R303, R305) -/

/-- The segment a port serves. -/
def LnkCfg.segOf (c : LnkCfg) (portB : Bool) : Nat := if c.topo = 0 && portB then 1 else 0

/-- In ONE_LINE the port LNKB is unused (R296). -/
def LnkCfg.unused (c : LnkCfg) (portB : Bool) : Bool := c.topo == 2 && portB

/-- A frame meets every condition of R305 for its station. Its window has not ended while its SEQ is the one due. -/
def Block.lnkInOk (b : Block) (f : LinkIn) (e : LnkEntry) : Bool :=
  let st := b.lnkSt e.addr
  let q := b.lnkSeg e.seg
  let ver := b.fget (F.LNK_ST_STATE_VER e.addr)
  f.version == ver && st.sending && st.src == some f.mac && f.len == (if ver = 2 then 12 else 20) + e.inBytes &&
    f.seq == q.due && q.t0 != 0 && !b.lnkCfg.unused f.portB && b.lnkCfg.segOf f.portB == e.seg

/-- Add a measured delay, keeping the last 16. -/
def addDelay (l : List Int) (d : Int) : List Int := (d :: l).take 16

/-- The line delay an IN frame measures, in 2^-8 ns, by the OUT or SYNC frame of the cycle whose window it ends; none where
the station's block was in no such frame (R303). Log: 192 (DEDUCED). -/
def LnkSt.measure (st : LnkSt) (f : LinkIn) : Option Int :=
  (st.departs.find? fun p => low 32 (p.1 + 1) == f.seq).map fun p =>
    (((f.arrival : Int) - (p.2 : Int)) * 256 - (f.turn : Int) - (f.res : Int)) / 2

/-- Use a valid IN frame: delay and path on its port; the first copy gives the data. A DOWN station that applies its
fail-safe values does not return without a join (R317). -/
def Block.lnkUse (b : Block) (f : LinkIn) (e : LnkEntry) : Block :=
  let a := e.addr
  let st := b.lnkSt a
  let q := b.lnkSeg e.seg
  let first := !st.got
  let st := match st.measure f with
    | none => st
    | some d => if f.portB then { st with delayB := addDelay st.delayB d } else { st with delayA := addDelay st.delayA d }
  let failsafe := bit f.status 0 && b.lsState a == lsDown
  let st := if first then
      { st with got := true, good := if failsafe then 0 else st.good + 1, valued := true, data := f.data, status := f.status,
                claim := f.claim,
                sample := if b.fget (F.LNK_ST_STATE_VER a) = 2 then q.nextT - 5000 - b.lnkCfg.tIn e.seg + b.lnkCfg.slotOfs e else f.sample }
    else st
  let b := (b.setLnkSt a st).lnkDelays f.portB a
  let b := if first then
      let b := (b.fsetB (F.LNK_ST_STATE_PATH_A a) (!f.portB)).fsetB (F.LNK_ST_STATE_PATH_B a) f.portB
      (b.fset (F.LNK_ST_STATE_FLAGS a) f.status).fset (F.LNK_ST_STATE_MISSED a) (bits f.status 8 4)
    else b.fset (if f.portB then F.LNK_ST_STATE_PATH_B a else F.LNK_ST_STATE_PATH_A a) 1
  b.when (first && decide (2 ≤ st.good) && (b.lsState a == lsJoining || b.lsState a == lsDown)) fun b => b.lnkSet a lsUp

/-- An address of the station registers. -/
def stationAddr (a : Nat) : Bool := decide (1 ≤ a ∧ a ≤ 128)

/-- An IN frame is used, or refused and counted against the address in SRC (R305); SRC outside 1 to 128 names no station and
counts as stray. Log: 193 (DESIGN CHOICE). -/
def Block.lnkIn (b : Block) (f : LinkIn) : Block :=
  if b.lnkCfg.unused f.portB then b
  else if !stationAddr f.src then (b.incSat F.LNK_STRAY_CNT_COUNT).raiseEvt 0xA8 7
  else match (b.lnkCfg.entry f.src).filter (b.lnkInOk f) with
  | none => b.incSat (F.LNK_ST_CNT_REFUSED f.src)
  | some e => b.lnkUse f e

/-! ### Joins (R312 to R315) -/

/-- An answer to a hello waits for its frame. -/
def Block.lnkAnswered (b : Block) (ans : LnkAnswer) : Block := { b with lnk := { b.lnk with answers := b.lnk.answers ++ [ans] } }

/-- A refused station sends nothing more; it is REFUSED unless it was dropped. -/
def Block.lnkRefused (b : Block) (a : Nat) : Block :=
  ((b.setLnkSt a { b.lnkSt a with sending := false, ready := false }).when (b.lsState a != lsDropped) fun b =>
    b.lnkSet a lsRefused).lnkSegShow

/-- Refuse a join: the station is REFUSED with its code, and CONFIG tells it after the next window end. -/
def Block.lnkRefuse (b : Block) (a code : Nat) (ans : LnkAnswer) : Block :=
  (((b.fset (F.LNK_ST_STATE_CODE a) code).raiseEvt 0xA8 2).when (code != 7) fun b => b.lnkRefused a).lnkAnswered { ans with code := code }

/-- The code of a HELLO for a configured station: the lowest that applies (R315). -/
def Block.helloCode (b : Block) (h : LinkHello) (e : LnkEntry) : Nat :=
  let ver := Nat.min h.verMax e.ver
  let slow := b.lnkCfg.slow e.seg
  let st := b.lnkSt e.addr
  if h.typ ≠ e.typ then 2
  else if ver ≠ 2 ∧ ver ≠ 3 then 3
  else if h.only100 && !slow then 4
  else if h.inCap < e.inBytes ∨ h.outCap < e.outBytes ∨ (if slow then 5000 else 500) < h.resMax then 5
  else if st.joined && st.src != some h.mac && st.src.isSome then 7
  else if b.lsState e.addr = lsDropped then 8
  else 0

/-- A HELLO with code 1 counts as stray (R315). -/
def Block.lnkStray (b : Block) : Block := (b.incSat F.LNK_STRAY_CNT_COUNT).raiseEvt 0xA8 7

/-- A HELLO is checked against LNKCFG; from a station that is UP it sets it DOWN and joins it again (R320). -/
def Block.lnkHello (b : Block) (h : LinkHello) : Block :=
  let s := b.lnkCfg.segOf h.portB
  let ans : LnkAnswer := ⟨s, h.addr, 0, 0, h.mac, h.portB⟩
  if b.lnkCfg.unused h.portB then b else
  match b.lnkCfg.entry h.addr with
  | none =>
    ((b.lnkStray.raiseEvt 0xA8 2).when (stationAddr h.addr) fun b => b.fset (F.LNK_ST_STATE_CODE h.addr) 1).lnkAnswered
      { ans with code := 1 }
  | some e =>
    let code := if e.seg = s then b.helloCode h e else 1
    if code ≠ 0 then (b.when (code == 1) Block.lnkStray).lnkRefuse e.addr code ans
    else
      let b := b.when (b.lsState e.addr == lsUp) fun b => b.lnkSet e.addr lsDown
      let ver := Nat.min h.verMax e.ver
      let b := (b.fset (F.LNK_ST_STATE_VER e.addr) ver).fset (F.LNK_ST_STATE_CODE e.addr) 0
      (b.setLnkSt e.addr { src := some h.mac }).lnkSegShow.lnkAnswered { ans with ver := ver }

def execHello (h : LinkHello) (s : State) : Host.Outcome State Fault Refusal := lift (fun b => b.lnkHello h) s

/-- READY gives the delay; R311 is checked with it and the station's block is added from the next cycle. A station that
was DROPPED since its CONFIG does not join (R315, R321). Log: 36 (DEDUCED), 37 (DEDUCED). -/
def execReady (portB : Bool) (addr mac turn res arrival : Nat) (s : State) : Host.Outcome State Fault Refusal := lift (fun b =>
  match b.lnkCfg.entry addr with
  | none => b
  | some e =>
    let st := b.lnkSt addr
    if b.lnkCfg.unused portB ∨ st.src ≠ some mac ∨ st.cfgSent = 0 ∨ st.joined ∨ b.lsState addr = lsDropped then b else
    let d : Int := (((arrival : Int) - (st.cfgSent : Int)) * 256 - (turn : Int) - (res : Int)) / 2
    let worst := Nat.max (b.regN (Reg.LNK_SEG_D e.seg)) (d.toNat / 256)
    if b.lnkFitsNow e.seg worst then
      let st := { st with ready := true, fed := 0, good := 0, got := false, valued := false }
      let st := if portB then { st with delayB := [d] } else { st with delayA := [d] }
      ((b.setLnkSt addr st).lnkDelays portB addr).lnkSet addr lsJoining
    else b.lnkRefuse addr 6 ⟨e.seg, addr, 6, b.fget (F.LNK_ST_STATE_VER addr), mac, portB⟩) s

/-- CONFIG frames owed for a segment; in a pair only the primary sends them, and the standby times the READY that follows
from the same instant (R313). Log: 194 (DEDUCED). -/
def Block.lnkConfigs (b : Block) (s : Nat) : Block :=
  let l := b.lnk.answers.filter fun a => a.seg == s
  let b := { b with lnk := { b.lnk with answers := b.lnk.answers.filter fun a => a.seg != s } }
  b.forAll l fun b a =>
    let e := (b.lnkCfg.entry a.addr).getD ⟨a.addr, s, 0, 0, 0, 0, 0, 0, 0, 0⟩
    let pos := ((b.lnkCfg.members s e.group).takeWhile fun f => f.addr != a.addr).length
    let b := b.when b.acts fun b => b.send (if a.portB then .lnkB else .lnkA) "CONFIG"
      (lnkHeader a.portB a.src (a.ver * 16 + 5) 24 0 0 ++
        [a.addr, a.code, a.ver, e.miss, e.inBytes, e.outBytes, b.lnkCfg.slotOfs e, e.group, pos, 0, b.now])
    b.when (a.code == 0) fun b => b.setLnkSt a.addr { b.lnkSt a.addr with cfgSent := Nat.max 1 b.now }

/-! ### The end of the window (R296, R316) -/

/-- The claims echoed in the cycle that ends: RED_APPLIED shows the highest; cycles in which every UP station echoed the
own claim are counted (R365). Echoes of a lowered epoch are disregarded. -/
def Block.echoEnd (b : Block) (k : Nat) : Block :=
  let fresh (e : LnkEntry) : Bool := if e.seg = k then (b.lnkSt e.addr).got else b.lsState e.addr == lsUp
  let l := (b.lnkCfg.stations.filter fresh).map fun e => (b.lnkSt e.addr).claim
  let l := l.filter fun (v : Nat) => b.red.oldEpoch == 0 || bits v 16 16 != b.red.oldEpoch
  let b := b.setRegN Reg.RED_APPLIED (l.foldl Nat.max 0)
  let ups := (b.lnkCfg.seg k).filter fun e => b.lsState e.addr == lsUp
  let all := ups.all fun e => (b.lnkSt e.addr).got && (b.lnkSt e.addr).claim == b.regN Reg.RED_CLAIM
  { b with red := { b.red with echoCycles := mapSet b.red.echoCycles k (if all then mapGet 0 b.red.echoCycles k + 1 else 0) } }

/-- Each unit of a pair sends its receipt bitmap of 16 bytes: the stations whose frame it received in this cycle (R370). -/
def Block.lnkReceipt (b : Block) (k : Nat) : Block :=
  let l := b.lnkCfg.stations.filter fun (e : LnkEntry) => if e.seg = k then (b.lnkSt e.addr).got else bit b.red.receipt (e.addr - 1)
  let m := (l.map fun (e : LnkEntry) => 2 ^ (e.addr - 1)).sum
  let b := { b with red := { b.red with receipt := m } }
  b.when (b.onPair && b.fgetB F.PAIR_STAT_LINK) fun b => b.send .pair "receipt" [m]

/-- LNK_STk_DELAY reads 0 on a port on which the station was not heard in this cycle (R321). -/
def Block.lnkReach (b : Block) (e : LnkEntry) (got : Bool) : Block :=
  b.forAll [false, true] fun b p =>
    b.when (!(got && b.fgetB (if p then F.LNK_ST_STATE_PATH_B e.addr else F.LNK_ST_STATE_PATH_A e.addr))) fun b =>
      b.fset (lnkDelayField p e.addr) 0

/-- Stations without a valid frame go DOWN, except in a cycle in which the TSU stepped (R320). The window that ends is that
of the last cycle, of the one before where a trigger came early (R310), or, without a trigger, an extrapolated one: in each
case the next SEQ is due. -/
def execLinkWindowEnd (seg : Fin 2) (s : State) : Host.Outcome State Fault Refusal := lift (fun b =>
  let k := seg.val
  if !b.fgetB (F.LNK_SEG_CFG_VALID k) || decide (b.now < (b.lnkSeg k).endT) then b else
  let q := b.lnkSeg k
  let older := !q.ended && q.due != low 32 (q.seq + 1)
  let b := (b.echoEnd k).lnkReceipt k
  let b := b.forAll (b.lnkCfg.seg k) fun b e =>
    let st := b.lnkSt e.addr
    let due := b.lsState e.addr == lsUp || (b.lsState e.addr == lsJoining && decide (2 ≤ st.fed))
    let lost := due && !st.got
    let b := b.setLnkSt e.addr { st with got := false, good := if st.got then st.good else 0,
                                         late := (older && st.late) || (lost && q.stepCycle) }
    let b := b.when (due || st.got) fun b => b.lnkReach e st.got
    b.when (lost && !q.stepCycle) fun b => b.lnkSet e.addr lsDown
  let b := b.when (!older) fun b => b.lnkRing k
  let q := b.lnkSeg k
  let b := b.setLnkSeg k (if older then { q with due := low 32 (q.seq + 1), endT := q.nextT - 5000 }
    else { q with due := low 32 (q.due + 1), ended := true, endT := q.endT + (q.nextT - q.t0) })
  b.lnkConfigs k) s

/-! ### Ports, commands and stray frames -/

def execLinkPortLost (portB : Bool) (s : State) : Host.Outcome State Fault Refusal := lift (fun b =>
  let f := if portB then F.LNK_STAT_LINK_B else F.LNK_STAT_LINK_A
  if b.fgetB f then
    ((b.fset f 0).raiseEvt 0xA8 5).forAll b.lnkCfg.stations fun b e => b.fset (lnkDelayField portB e.addr) 0
  else b) s

def execLinkPortLinkUp (portB : Bool) (s : State) : Host.Outcome State Fault Refusal := lift (fun b =>
  b.fset (if portB then F.LNK_STAT_LINK_B else F.LNK_STAT_LINK_A) 1) s

/-- A frame sent on one port returns on the other; `portB` is the port it returned on. -/
def execLinkOutFrameReturn (portB : Bool) (s : State) : Host.Outcome State Fault Refusal := lift (fun b =>
  if b.lnkCfg.topo ≠ 1 then b else
  let q := b.lnkSeg 0
  b.setLnkSeg 0 (if portB then { q with backB := true } else { q with backA := true })) s

/-- R300: tagged frames and other EtherTypes count as stray; bad frames count by port. -/
def execLinkStrayFrame (portB fcsBad : Bool) (s : State) : Host.Outcome State Fault Refusal := lift (fun b =>
  if fcsBad then b.incSat (if portB then F.LNK_FCS_B_COUNT else F.LNK_FCS_A_COUNT)
  else (b.incSat F.LNK_STRAY_CNT_COUNT).raiseEvt 0xA8 7) s

/-- LNK_CMD: 1 DROP, 2 ADMIT; CMD clears when taken up. A station that is admitted again starts from nothing (R319). -/
def Block.lnkCommand (b : Block) (v : Nat) : Block :=
  let b := b.fset F.LNK_CMD_CMD 0
  let a := bits v 8 8
  let cmd := bits v 0 2
  let done (b : Block) (code : Nat) : Block := (b.fset F.LNK_CMD_RES_CODE code).raiseEvt 0xA8 8
  if cmd = 0 then b
  else if (b.lnkCfg.entry a).isNone then done b 1
  else if cmd = 1 then
    let b := (b.setLnkSt a { b.lnkSt a with sending := false, ready := false }).lnkSegShow
    done ((b.lnkSet a lsDropped).fset (F.LNK_ST_STATE_CODE a) 8) 0
  else done (b.when (b.lsState a == lsDropped) fun b => (b.setLnkSt a {}).lnkSet a lsAbsent) 0

def execLinkDrop (r : Requester) (addr : Nat) (s : State) : Host.Outcome State Fault Refusal := lift (fun b =>
  let v := bits addr 0 8 * 256 + 1
  b.cmdWrite r Reg.LNK_CMD v [] fun b => b.lnkCommand v) s

def execLinkAdmit (r : Requester) (addr : Nat) (s : State) : Host.Outcome State Fault Refusal := lift (fun b =>
  let v := bits addr 0 8 * 256 + 2
  b.cmdWrite r Reg.LNK_CMD v [] fun b => b.lnkCommand v) s

/-! ### Input elements (R318, R319) -/

/-- The latch of a trigger that came before the window end finds no frame of the station (R310), its link cycle not yet open. -/
def Block.lnkCutOff (b : Block) (a : Nat) : Bool :=
  match b.lnkCfg.entry a with
  | none => false
  | some e =>
    let q := b.lnkSeg e.seg
    q.t0 != 0 && !q.ended && !(b.lnkSt a).got && b.lnkDue e.seg

/-- Quality of a link input element: level and cause. -/
def Block.lnkQuality (b : Block) (a : Nat) : Nat × Nat :=
  let st := b.lnkSt a
  let s := b.lsState a
  if s = lsDown then (2, 2)
  else if s = lsRefused ∨ s = lsDropped then (2, 3)
  else if !st.valued then (2, 1)
  else if bit st.status 1 || bit st.status 2 || bit st.status 4 then (1, 4)
  else if st.late || b.lnkCutOff a then (1, 5)
  else (0, 0)

/-- Value of a link input element of a tag. -/
def Block.lnkValue (b : Block) (src tag : Nat) : Nat :=
  let st := b.lnkSt (srcStation src)
  match srcItem src with
  | 0 => widen tag (bits st.data (dataLow src tag) (dataWidth tag))
  | 1 => low 32 st.status
  | _ => low 32 st.claim

end Sys2Proof.Machine
end

