-- ==== Sys2Proof/Machine/Paths.lean ====
section
/-! DEFINITION. The paths by which the units of a pair know of each other: SYNC, presence and silence, heartbeats that are due (R361, R379, R385). -/

namespace Sys2Proof.Machine

/-- SYNC codes of R388. -/
def syNone : Nat := 0
def sySyncing : Nat := 1
def sySynced : Nat := 2
def syUnmirrored : Nat := 3
def syResyncing : Nat := 4

def Block.sync (b : Block) : Nat := b.fget F.RED_STAT_SYNC

/-- RED sends heartbeats on CAN3. -/
def Block.hbOn (b : Block) : Bool := b.onPair && b.fgetB F.RED_CFG_HB_EN && decide (2 ≤ b.fget F.RED_STAT_PIV)

/-- A path shows the partner. -/
def Block.partnerSeen (b : Block) : Bool := b.fgetB F.RED_STAT_PAIR_OK || b.fgetB F.RED_STAT_HB_OK || b.red.wireSeen

/-- PARTNER follows the paths. -/
def Block.presence (b : Block) : Block :=
  let p := b.partnerSeen
  let was := b.fgetB F.RED_STAT_PARTNER
  let b := b.fsetB F.RED_STAT_PARTNER p
  if p = was then b else b.raiseEvt 0xB0 (if p then 4 else 3)

/-- The partner is silent on every path in use. -/
def Block.partnerSilent (b : Block) : Bool :=
  !b.fgetB F.RED_STAT_PAIR_OK && b.red.wireSilent && (!b.hbOn || !b.fgetB F.RED_STAT_HB_OK)

/-- A SYNCING standby whose partner departs or falls silent records PARTNER_LOST_UNSYNCED (R379). -/
def Block.unsyncedLoss (b : Block) : Block :=
  if b.role = roleStandby ∧ b.sync = sySyncing ∧ (b.red.received ∨ b.partnerSilent) ∧ !b.red.cold then
    { b with red := { b.red with cold := true } }.recRegs 0xB0 3 [Reg.RED_STAT] []
  else b

/-- CAN3 is silent. -/
def Block.hbSilent (b : Block) : Block :=
  if b.fgetB F.RED_STAT_HB_OK then ((b.fset F.RED_STAT_HB_OK 0).presence).unsyncedLoss else b

/-- The first TSU time after `t` that lies `ofs` after a whole millisecond. -/
def nextBeat (t ofs : Nat) : Nat := (t + 1000000 - ofs) / 1000000 * 1000000 + ofs

/-- The next CAN3 heartbeat: unit A at each whole millisecond of the TSU, unit B 500 µs later (R385). -/
def Block.beatArm (b : Block) : Block :=
  { b with red := { b.red with canBeatAt := nextBeat b.now (if b.pwr.base = .unitA then 0 else 500000) } }

/-- A CAN3 heartbeat is due: its instant has come, or a step of the TSU has left it more than a period away. -/
def Block.beatDue (b : Block) : Bool :=
  decide (b.red.canBeatAt ≤ b.now) || decide (b.now + 1000000 < b.red.canBeatAt)

/-- A valid message on PAIR. -/
def Block.pairHeard (b : Block) : Block := { b with red := { b.red with pairAt := b.clk } }

/-- CAN3 of a pair goes off the bus: the path is silent (R385). -/
def Block.hbBusOff (b : Block) : Block :=
  { b with red := { b.red with offAt := b.clk } }.when b.hbOn Block.hbSilent

/-- The computed health stands below the standby's by HDIFF or more (R375). -/
def Block.healthLow (b : Block) : Bool :=
  b.fget F.RED_CFG_HDIFF != 0 && b.role == rolePrimary && decide (b.fget F.RED_HEALTH_OWN + b.fget F.RED_CFG_HDIFF ≤ b.fget F.RED_HEALTH_PARTNER)

/-- How long it has stood there; health is computed at each round and heartbeat (R364). -/
def Block.lowFollow (b : Block) : Block :=
  { b with red := { b.red with lowAt := if b.healthLow then some (b.red.lowAt.getD b.clk) else none } }

end Sys2Proof.Machine
end

