-- ==== Sys2Proof/Machine/Can.lean ====
section
/-! DEFINITION. The CAN FD ports: modes, receive ring and window, transmit slots, fault confinement, reference messages (R341 to R359). -/

namespace Sys2Proof.Machine

def Block.canPort (b : Block) (p : Nat) : CanPort := mapGet {} b.can p
def Block.setCanPort (b : Block) (p : Nat) (x : CanPort) : Block := { b with can := mapSet b.can p x }

/-- Values of CAN_ERR.STATE. -/
def ceOff : Nat := 0
def ceActive : Nat := 1
def cePassive : Nat := 2
def ceBusOff : Nat := 3
def ceRecovering : Nat := 4

def Block.canState (b : Block) (p : Nat) : Nat := b.fget (F.CAN_ERR_STATE p)

/-- The page of port `p`. -/
def canPage (p : Nat) : Nat := 0x90 + p

/-- The configuration of a transmit slot: ports 0 to 3, slots 0 to 31 (R348). -/
def Block.canSlot (b : Block) (p k : Nat) : Option CanSlotCfg :=
  if p < 4 ∧ k < 32 then b.canCfg.find? fun c => c.port == p && c.slot == k else none

/-! ### The ring and its window (R345, R346) -/

/-- The offset of window entry `e` of a port. -/
def canWin (p e : Nat) : Nat := 0x90800 + 0x1000 * p + 0x80 * e

/-- Show an entry in the window: VALID cleared first, then the fields, NUM, and VALID. -/
def Block.canShow (b : Block) (p e : Nat) (x : Option CanEntry) : Block :=
  let o := canWin p e
  match x with
  | none => b.forAll (upto 24) fun b i => b.setReg (o + 4 * i) 0
  | some x =>
    let f := x.frame
    let flag (v : Bool) (i : Nat) : Nat := if v then 2 ^ i else 0
    let ctl := f.dlc % 16 + flag f.fdf 4 + flag f.brs 5 + flag f.esi 6 + flag x.tx 7 + flag x.ref 8 + f.len % 128 * 2 ^ 16
    let b := b.setRegN (o + 8) ctl
    let b := b.setRegN (o + 4) (f.id % 2 ^ 29 + flag f.ide 29 + flag f.rtr 30)
    let b := (b.setRegN (o + 0x10) f.sofNs).setRegN (o + 0x14) f.sofSec
    let b := b.forAll (upto 16) fun b w => b.setRegN (o + 0x20 + 4 * w) (low 32 (low (8 * f.len) f.data / 2 ^ (32 * w)))
    (b.setRegN o x.num).setRegN (o + 8) (ctl + if x.lost then 0 else 2 ^ 9)

/-- The 16 entries from CAN_RX_BASE. -/
def Block.canWindow (b : Block) (p : Nat) : Block :=
  let base := b.regN (Reg.CAN_RX_BASE p)
  let ring := (b.canPort p).ring
  b.forAll (upto 16) fun b e => b.canShow p e (mapGet none (ring.map fun x => (x.1, some x.2)) ((base + e) % 512))

/-- Store a frame as the next entry. -/
def Block.canStore (b : Block) (p : Nat) (f : CanFrame) (tx ref : Bool) : Block :=
  let x := b.canPort p
  let n := low 32 x.stored
  let e : CanEntry := ⟨n, f, tx, ref, false⟩
  let b := b.setCanPort p { x with stored := x.stored + 1, ring := mapSet x.ring (n % 512) e }
  let base := b.regN (Reg.CAN_RX_BASE p)
  let b := b.forAll ((upto 16).filter fun i => (base + i) % 512 == n % 512) fun b i => b.canShow p i (some e)
  (b.setRegN (Reg.CAN_RX_NUM p) n).raiseEvt (canPage p) 0

/-! ### Slot data (R350, R352) -/

/-- Reverse the order of `n` bytes. -/
def swapBytes : Nat → Nat → Nat
  | 0, _ => 0
  | n + 1, v => v % 256 * 2 ^ (8 * n) + swapBytes n (v / 256)

/-- SOURCE fields of a CAN element. -/
def canItem (src : Nat) : Nat := bits src 21 3
def canSlotOf (src : Nat) : Nat := bits src 16 5
def canOfs (src : Nat) : Nat := bits src 0 6

/-- Put a data item into a slot's bytes. -/
def canPut (data src tag v : Nat) : Nat :=
  let w := dataWidth tag
  if tag = 1 then putField data (8 * canOfs src + bits src 13 3) 1 v
  else putField data (8 * canOfs src) w (if canItem src = 1 then swapBytes (w / 8) (low w v) else v)

/-- The slot's WRITER is STOPPED or removed (R352). -/
def Block.canWriterGone (b : Block) (c : CanSlotCfg) : Bool :=
  b.fget (F.CTX_STATE_STATE c.writer) == 3 || b.fget (F.CTX_STATE_STATE c.writer) == 0

/-- Data of a slot's frame by the rows of R352; none where no frame is sent. A forced byte is sent from a SILENT slot too,
with 0 in the bytes that have no value (R358). Log: 141 (DEDUCED), 172 (DESIGN CHOICE). -/
def Block.canData (b : Block) (c : CanSlotCfg) : Option Nat :=
  let run := b.running
  if !b.holdsLocal || !b.pwr.released || !(run || (b.modState == stStop && c.kind == 1)) then none
  else
    let els := b.outEls.filter fun o => bits o.1 24 8 == 0x90 + c.port && canSlotOf o.1 == c.slot && canItem o.1 ≤ 1
    let value (o : Nat × OutEl) : Option Nat := if run then o.2.value else none
    let substituted := (els.any fun o => (value o).isNone) || (els.isEmpty && (!run || b.canWriterGone c))
    if c.subst = 0 && substituted && !(run && els.any fun o => o.2.forced.isSome) then none
    else some (els.foldl (fun d o =>
      canPut d o.1 o.2.tag ((value o).getD (if c.subst = 2 then o.2.last.getD 0 else 0))) 0)

/-! ### Pending frames and attempts (R351) -/

/-- The order of arbitration: base identifier, then base before extended, then the extension. -/
def canOrder (c : CanSlotCfg) : Nat :=
  if bit c.fmt 0 then bits c.id 18 11 * 2 ^ 19 + 2 ^ 18 + c.id % 2 ^ 18 else c.id % 2 ^ 11 * 2 ^ 19

/-- The pending slot that arbitration favours; the lower slot on equal identifiers. -/
def Block.canBest (b : Block) (p : Nat) : Option Nat :=
  let key (k : Nat) : Nat := ((b.canSlot p k).map canOrder).getD 0
  ((upto 32).filter fun k => (b.canPort p).pending.any fun x => x.1 == k).foldl (fun best k => match best with
    | none => some k
    | some j => if key k < key j then some k else some j) none

/-- The port may send slot frames. -/
def Block.canSends (b : Block) (p : Nat) : Bool :=
  (b.canPort p).mode == 1 && (b.canState p == ceActive || b.canState p == cePassive) && !b.fgetB (F.CAN_MODE_AUX p)

/-- The favoured pending frame is attempted. -/
def Block.canAttempt (b : Block) (p : Nat) : Block :=
  let x := b.canPort p
  if x.attempt.isSome || !b.canSends p then b
  else match b.canBest p with
    | none => b
    | some k => (b.setCanPort p { x with attempt := some k }).fset (F.CAN_TX_STAT_ATTEMPT p k) 1

/-- At bus idle the favoured pending frame is attempted; not while the port waits for bus integration (R341, R351). -/
def Block.canStart (b : Block) (p : Nat) : Block :=
  if (b.canPort p).busy || (b.canPort p).integrates then b else b.canAttempt p

/-- What a port knows of its bus: another node's frame on it, and bus integration. Log: 39 (DEDUCED). -/
def Block.canBus (b : Block) (p : Nat) (busy integrates : Bool) : Block :=
  b.setCanPort p { b.canPort p with busy := busy, integrates := integrates }

/-- A slot frame is dropped and counted. -/
def Block.canDrop (b : Block) (p k : Nat) : Block :=
  ((b.incSat (F.CAN_TX_DROP_CNT_COUNT p)).fset (F.CAN_TX_STAT_LAST p k) 3).raiseEvt (canPage p) 6

/-- A frame was replaced by a newer one. -/
def Block.canReplaced (b : Block) (p k : Nat) : Block :=
  (((b.incSat (F.CAN_TX_LATE_CNT_COUNT p)).fset (F.CAN_TX_STAT_LAST p k) 2).incWrap (F.CAN_TX_STAT_LATE p k)).raiseEvt (canPage p) 5

/-- Discard pending frames and the attempt, counting them as dropped or not. -/
def Block.canDiscard (b : Block) (p : Nat) (count : Bool) : Block :=
  let x := b.canPort p
  let b := b.forAll ((upto 32).filter fun k => x.pending.any fun e => e.1 == k) fun b k =>
    let b := (b.fset (F.CAN_TX_STAT_PENDING p k) 0).fset (F.CAN_TX_STAT_ATTEMPT p k) 0
    b.when count fun b => b.canDrop p k
  b.setCanPort p { x with pending := [], attempt := none, replacing := [], noRetry := false }

/-- A transmit instant of a slot. -/
def Block.canInstant (b : Block) (p k : Nat) : Block :=
  match b.canSlot p k with
  | none => b
  | some c =>
    let data : Option Nat := if c.kind = 2 then
        (if b.holdsLocal && (b.running || b.modState == stStop) then some 0 else none)
      else b.canData c
    match data with
    | none => b
    | some d =>
      let st := b.canState p
      if (b.canPort p).mode ≠ 1 ∨ b.fgetB (F.CAN_MODE_AUX p) then b
      else if st = ceBusOff ∨ st = ceRecovering then b.canDrop p k
      else
        let x := b.canPort p
        if x.attempt = some k then b.setCanPort p { x with replacing := mapSet x.replacing k d }
        else
          let b := b.when (x.pending.any fun e => e.1 == k) fun b => b.canReplaced p k
          (b.setCanPort p { x with pending := mapSet x.pending k d }).fset (F.CAN_TX_STAT_PENDING p k) 1

/-- A commit of a context, or the trigger instant of a STOPPED one, makes its KIND 0 slots pending; on an idle bus the
attempt begins. -/
def Block.canCommit (b : Block) (ctx : Nat) : Block :=
  b.forAll (b.canCfg.filter fun c => c.kind == 0 && c.writer == ctx) fun b c => (b.canInstant c.port c.slot).canStart c.port

/-- The first target of a slot of KIND 1 or 2 after TSU instant `t`: PERIOD and PHASE in 100 µs steps. -/
def CanSlotCfg.after (c : CanSlotCfg) (t : Nat) : Nat := nextPeriod (10 * c.period) (10 * c.phase) t

/-- A transmit instant of a slot of KIND 1 or 2 has come: its target on the TSU. Those of KIND 0 come with the commits and
trigger instants of WRITER (R351). -/
def Block.canDue (b : Block) (p k : Nat) : Bool :=
  match b.canSlot p k with
  | none => false
  | some c => c.kind != 0 && decide (mapGet (c.after 0) (b.canPort p).aims k ≤ b.now)

/-- The target that fired places its successor (R68). -/
def Block.canAimed (b : Block) (p k : Nat) : Block :=
  match b.canSlot p k with
  | none => b
  | some c =>
    let x := b.canPort p
    b.setCanPort p { x with aims := mapSet x.aims k (c.after (mapGet (c.after 0) x.aims k)) }

/-- CAN_TX_INSTANT: `idle` says that the bus is idle. Log: 39 (DEDUCED). -/
def execCanTxInstant (p : Fin 4) (slot : Fin 32) (idle : Bool) (s : State) : Host.Outcome State Fault Refusal := lift (fun b =>
  let b := b.canBus p.val (!idle) (!idle && (b.canPort p.val).integrates)
  (b.when (b.canDue p.val slot.val) fun b => (b.canInstant p.val slot.val).canAimed p.val slot.val).when idle fun b =>
    b.canStart p.val) s

/-! ### Error counters (R353) -/

/-- The counters of a port as the registers show them. -/
def Block.canCount (b : Block) (p tec recv : Nat) : Block :=
  ((b.setCanPort p { b.canPort p with tec := tec }).fset (F.CAN_ERR_TEC p) (Nat.min tec 255)).fset (F.CAN_ERR_REC p) (Nat.min recv 255)

/-- The warning flag; it is an event when it rises. -/
def Block.canWarn (b : Block) (p : Nat) (warn : Bool) : Block :=
  (b.fsetB (F.CAN_ERR_WARN p) warn).when (warn && !b.fgetB (F.CAN_ERR_WARN p)) fun b => b.raiseEvt (canPage p) 1

/-- A counter has reached its warning limit. -/
def Block.canWarns (b : Block) (p tec recv : Nat) : Bool :=
  decide (b.fget (F.CAN_WARN_TEC_WARN p) ≤ tec) || decide (b.fget (F.CAN_WARN_REC_WARN p) ≤ recv)

/-- The transmit counter has passed 255: bus off, or a recovery that begins at once. -/
def Block.canOff (b : Block) (p : Nat) : Block :=
  let b := (b.canDiscard p true).fset (F.CAN_ERR_STATE p) (if b.fgetB (F.CAN_MODE_FAULT_MODE p) then ceRecovering else ceBusOff)
  let b := (b.incSat (F.CAN_BUSOFF_CNT_COUNT p)).event (canPage p) 3 [Reg.CAN_ERR p]
  b.when (p == 3) Block.hbBusOff

/-- The error state that the counters of an active or passive port give. -/
def Block.canErrState (b : Block) (p tec recv : Nat) : Block :=
  if 255 < tec then b.canOff p
  else if 127 < tec ∨ 127 < recv then
    (b.fset (F.CAN_ERR_STATE p) cePassive).when (b.canState p == ceActive) fun b => b.raiseEvt (canPage p) 2
  else b.fset (F.CAN_ERR_STATE p) ceActive

/-- State and warning follow the counters; bus-off discards pending frames as dropped and is recorded. -/
def Block.canCounters (b : Block) (p : Nat) (tec recv : Nat) : Block :=
  ((b.canCount p tec recv).canWarn p (b.canWarns p tec recv)).when (b.canState p == ceActive || b.canState p == cePassive) fun b =>
    b.canErrState p tec recv

/-- A valid reception lowers REC; above 127 it takes an open value from 119 to 127 (ISO 11898-1). Log: 38 (PRESUMED). -/
def Block.canReceived (b : Block) (p : Nat) : Block :=
  if (b.canPort p).mode ≠ 1 then b else
  let recv := b.fget (F.CAN_ERR_REC p)
  if recv = 0 then b
  else if recv ≤ 127 then b.canCounters p (b.canPort p).tec (recv - 1)
  else
    let (v, b) := b.free
    b.canCounters p (b.canPort p).tec (119 + v.toNat % 9)

/-- What ISO 11898-1 adds to TEC and REC for an error. A transmitter adds 8, once more for each 8 dominant bits after its
flag; nothing for an ACK error while error-passive, or a stuff error in arbitration, which `more` 0 names. A receiver adds
1, and 8 for each of `more` dominant bits or sequences after its flag. Log: 38 (PRESUMED). -/
def canSteps (transmits passive : Bool) (kind more : Nat) : Nat × Nat :=
  if transmits then (8 * (if kind = 2 ∨ (kind = 4 ∧ passive) then more else Nat.max 1 more), 0)
  else (0, 1 + 8 * more)

/-- An error on the bus, at which this port transmits or receives. -/
def Block.canError (b : Block) (p kind tecMore recMore : Nat) : Block :=
  let x := b.canPort p
  if x.mode = 0 then b else
  let b := (b.incSat (F.CAN_ERRFRM_CNT_COUNT p)).fset (F.CAN_ERR_LAST_ERR p) kind
  if x.mode = 2 then b
  else
    let tx := x.attempt.isSome
    let n := canSteps tx (b.canState p == cePassive) kind (if tx then tecMore else recMore)
    b.canCounters p (x.tec + n.1) (b.fget (F.CAN_ERR_REC p) + n.2)

/-- Kind 6 is a recessive res bit in an FD frame: with FD_EN 1 and PEX 1 a protocol exception, after which the port waits for
bus integration, else a form error (R341). Log: 38 (PRESUMED). -/
def execCanErrorFrame (p : Fin 4) (kind : Fin 7) (tecInc recInc : Nat) (s : State) : Host.Outcome State Fault Refusal := lift (fun b =>
  let n := p.val
  if kind.val = 6 ∧ b.fgetB (F.CAN_MODE_PEX n) ∧ b.fgetB (F.CAN_MODE_FD_EN n) then
    (if (b.canPort n).mode = 0 then b else ((b.incSat (F.CAN_PEX_CNT_COUNT n)).raiseEvt (canPage n) 8).canBus n true true)
  else ((b.canError n (if kind.val = 6 then 3 else kind.val) tecInc recInc).canBus n false false).canStart n) s

/-- R341, R345: with FD_EN 0 an FD frame is a form error; any other complete frame is stored. -/
def execCanFrameRx (p : Fin 4) (f : CanFrame) (s : State) : Host.Outcome State Fault Refusal := lift (fun b =>
  let n := p.val
  if (b.canPort n).mode = 0 then b
  else
    let b := b.canBus n false false
    if f.fdf && !b.fgetB (F.CAN_MODE_FD_EN n) then b.canError n 3 0 0
    else ((b.canStore n f false false).canReceived n).canStart n) s

/-! ### The end of an attempt (R351, R354) -/

/-- The payload of a reference message: the TSU time of its own start of frame. -/
def refPayload (len sofNs sofSec : Nat) : Nat :=
  sofNs % 2 ^ 32 + sofSec % 2 ^ 32 * 2 ^ 32 + (if len = 12 then sofSec / 2 ^ 32 % 2 ^ 32 * 2 ^ 64 else 0)

/-- DLC of a length. -/
def dlcOf (len : Nat) : Nat :=
  if len ≤ 8 then len else 9 + ([12, 16, 20, 24, 32, 48].takeWhile fun l => decide (l < len)).length

/-- The frame a slot sends. -/
def CanSlotCfg.frame (c : CanSlotCfg) (d sofNs sofSec : Nat) : CanFrame :=
  ⟨c.id, bit c.fmt 0, false, dlcOf c.len, bit c.fmt 1, bit c.fmt 2, false, c.len,
    if c.kind = 2 then refPayload c.len sofNs sofSec else low (8 * c.len) d, sofNs, low 32 sofSec⟩

/-- A slot's frame leaves the pending ones; a waiting replacement takes its place. -/
def Block.canNextFrame (b : Block) (p k : Nat) : Block :=
  let x := b.canPort p
  let x' := { x with
    attempt := none, pending := mapErase x.pending k, replacing := mapErase x.replacing k, noRetry := false }
  let b := b.fset (F.CAN_TX_STAT_ATTEMPT p k) 0
  match mapGet none (x.replacing.map fun e => (e.1, some e.2)) k with
  | some d => b.setCanPort p { x' with pending := mapSet x'.pending k d }
  | none => (b.setCanPort p x').fset (F.CAN_TX_STAT_PENDING p k) 0

/-- An attempt of a port ends; one that loses arbitration comes to no data phase and measures no delay (R344). -/
def Block.canAttemptEnd (b : Block) (p : Nat) (e : CanEnd) (sofNs sofSec meas : Nat) : Block :=
  let b := b.canAttempt p
  let b := b.canBus p (e == .lost) false
  let x := b.canPort p
  match x.attempt with
  | none => b
  | some k =>
    match b.canSlot p k with
    | none => b.canDiscard p false
    | some c =>
      let d := mapGet 0 x.pending k
      let b := b.when (bit c.fmt 1 && bit c.fmt 2 && e != .lost) fun b => b.fset (F.CAN_TDC_MEAS p) meas
      match e with
      | .sent =>
        let f := c.frame d sofNs sofSec
        let b := (b.canStore p f true (c.kind == 2)).send (.can ⟨p % 4, Nat.mod_lt _ (by decide)⟩) "FRAME" [f.id, c.fmt, f.len, f.data]
        let b := (b.fset (F.CAN_TX_STAT_LAST p k) 1).incWrap (F.CAN_TX_STAT_SENT p k)
        let b := b.when (c.kind == 2) fun b => b.raiseEvt (canPage p) 7
        let b := b.canNextFrame p k
        (b.canCounters p ((b.canPort p).tec - 1) (b.fget (F.CAN_ERR_REC p))).canStart p
      | _ =>
        let replaced := x.replacing.any fun q => q.1 == k
        let b :=
          if x.noRetry then b.canNextFrame p k
          else if replaced then (b.canNextFrame p k).canReplaced p k
          else if bit c.fmt 3 then (b.canNextFrame p k).canDrop p k
          else (b.setCanPort p { x with attempt := none }).fset (F.CAN_TX_STAT_ATTEMPT p k) 0
        b.when (e == .error) fun b => b.canStart p

def execCanTxAttemptEnd (p : Fin 4) (e : CanEnd) (sofNs sofSec meas : Nat) (s : State) : Host.Outcome State Fault Refusal := lift (fun b =>
  b.canAttemptEnd p.val e sofNs sofSec meas) s

/-! ### Commands and modes (R342, R343, R353, R357) -/

/-- Set CAN_RES. -/
def Block.canRes (b : Block) (p code : Nat) : Block := b.fset (F.CAN_RES_CODE p) code

/-- RECOVER in NATIVE bus-off starts the count; elsewhere CAN_STATE. -/
def Block.canRecover (b : Block) (p v : Nat) : Block :=
  if !bit v 0 then b
  else
    let b := if b.canState p = ceBusOff then (b.fset (F.CAN_ERR_STATE p) ceRecovering).canRes p 0 else b.canRes p 1
    b.raiseEvt (canPage p) 9

def execRecover (r : Requester) (p : Fin 4) (s : State) : Host.Outcome State Fault Refusal := lift (fun b =>
  b.cmdWrite r (Reg.CAN_CMD p.val) 1 [] fun b => b.canRecover p.val 1) s

def execCanRecoveryComplete (p : Fin 4) (s : State) : Host.Outcome State Fault Refusal := lift (fun b =>
  let n := p.val
  if b.canState n = ceRecovering then
    ((b.fset (F.CAN_ERR_STATE n) ceActive).canCounters n 0 0).raiseEvt (canPage n) 4
  else b) s

/-- A written MODE takes effect. -/
def Block.canTakeMode (b : Block) (p : Nat) : Block :=
  let m := b.fget (F.CAN_MODE_MODE p)
  let old := (b.canPort p).mode
  if m = old then b else
  let b := b.when (m != 1) fun b => b.canDiscard p false
  let b := b.setCanPort p { b.canPort p with mode := m, busy := false, integrates := false }
  if m = 0 then (b.setCanPort p { b.canPort p with tec := 0 }).setRegN (Reg.CAN_ERR p) 0
  else if old = 0 then (b.fset (F.CAN_ERR_STATE p) ceActive).canCounters p 0 0
  else b

/-- The port may take a written MODE: at bus idle, at the latest 1 ms after the write (R342). -/
def Block.canModeDue (b : Block) (p : Nat) : Bool :=
  !((b.canPort p).busy || (b.canPort p).attempt.isSome) || b.periodic (.canMode p) 1000000

def execCanModeChange (p : Fin 4) (s : State) : Host.Outcome State Fault Refusal := lift (fun b =>
  b.when (b.canModeDue p.val) fun b => b.canTakeMode p.val) s

/-- R343: a timing after which the rates or jump widths would be out of bounds. -/
def canTimingBad (nbt dbt : Nat) : Bool :=
  let nb := bits nbt 27 5 + 1
  let nph1 := bits nbt 16 5 + 1
  let nph2 := bits nbt 11 5 + 1
  let nq := nb * (1 + (bits nbt 21 6 + 1) + nph1 + nph2)
  let db := bits dbt 29 3 + 1
  let dph1 := bits dbt 20 4 + 1
  let dph2 := bits dbt 16 4 + 1
  let dq := db * (1 + bits dbt 24 5 + dph1 + dph2)
  let nsjw := bits nbt 6 5 + 1
  let dsjw := bits dbt 12 4 + 1
  decide (nq < 80) || decide (dq < 16) || decide (nq < dq) || decide (nph1 < nsjw) || decide (nph2 < nsjw) ||
    decide (dph1 < dsjw) || decide (dph2 < dsjw)

/-- How the port refuses a timing write: CAN_STATE, CAN_TIMING, or not. -/
def Block.canTimingJudge (b : Block) (p off v : Nat) : Nat :=
  if b.fget (F.CAN_MODE_MODE p) ≠ 0 ∨ (b.canPort p).mode ≠ 0 then 1
  else
    let nbt := if off = Reg.CAN_NBT p then v else b.regN (Reg.CAN_NBT p)
    let dbt := if off = Reg.CAN_DBT p then v else b.regN (Reg.CAN_DBT p)
    if canTimingBad nbt dbt then 2 else 0

/-- R355: pending frames are discarded at loss of the claim; an attempt on the bus goes on and is not retried. -/
def Block.canClaimLost (b : Block) : Block :=
  b.forAll (upto 4) fun b p =>
    let x := b.canPort p
    let stays (k : Nat) : Bool := x.attempt == some k
    let b := b.forAll ((upto 32).filter fun k => !stays k && x.pending.any fun e => e.1 == k) fun b k =>
      b.fset (F.CAN_TX_STAT_PENDING p k) 0
    b.setCanPort p { x with
      pending := x.pending.filter fun e => stays e.1
      replacing := [], noRetry := x.attempt.isSome }

/-- All ports fall silent at once. -/
def Block.canSilence (b : Block) : Block := b.forAll (upto 4) fun b p => b.canDiscard p false

/-- Take up CANCFG: defined slots show DEFINED; nothing is pending, and the targets follow the present instant. -/
def Block.canTakeUp (b : Block) (cfg : List CanSlotCfg) : Block :=
  let b := { b with canCfg := cfg }
  b.forAll (upto 4) fun b p =>
    let b := b.canDiscard p false
    let b := b.setCanPort p { b.canPort p with
      aims := (cfg.filter fun c => c.port == p && c.kind != 0).map fun c => (c.slot, c.after b.now) }
    b.forAll (upto 32) fun b k => b.fsetB (F.CAN_TX_STAT_DEFINED p k) (b.canSlot p k).isSome

/-! ### Input elements (R350) -/

/-- Level and cause of ITEM 4 to 6. -/
def Block.canQuality (b : Block) (p : Nat) : Nat × Nat :=
  let st := b.canState p
  if (b.canPort p).mode = 0 ∨ b.fgetB (F.CAN_MODE_AUX p) then (2, 1)
  else if st = ceBusOff ∨ st = ceRecovering then (2, 3)
  else if st = cePassive ∨ b.fgetB (F.CAN_ERR_WARN p) then (1, 2)
  else (0, 0)

/-- Value of ITEM 4 to 6. -/
def Block.canValue (b : Block) (p src : Nat) : Nat :=
  match canItem src with
  | 4 => b.regN (Reg.CAN_RX_NUM p)
  | 5 => b.regN (Reg.CAN_ERR p)
  | _ => b.regN (Reg.CAN_TX_STAT p (canSlotOf src))

end Sys2Proof.Machine
end

