-- ==== Sys2Proof/Machine/Words.lean ====
section
/-! DEFINITION. Files of little-endian 32-bit words (R5): reading fields at byte offsets, the CRC-32 of R91, and the section table of R91 and R92. -/

namespace Sys2Proof.Machine

/-- Byte `i` of a file of words. -/
def fU8 (w : List Nat) (i : Nat) : Nat := bits (nth 0 w (i / 4)) (8 * (i % 4)) 8

/-- Two bytes from an even offset. -/
def fU16 (w : List Nat) (i : Nat) : Nat := fU8 w i + 256 * fU8 w (i + 1)

/-- The word at a word-aligned offset. -/
def fU32 (w : List Nat) (i : Nat) : Nat := nth 0 w (i / 4)

/-- Eight bytes from a word-aligned offset. -/
def fU64 (w : List Nat) (i : Nat) : Nat := fU32 w i + 2 ^ 32 * fU32 w (i + 4)

/-- All bytes of a file, first to last. -/
def fBytes (w : List Nat) : List Nat := w.flatMap fun x => [bits x 0 8, bits x 8 8, bits x 16 8, bits x 24 8]

/-- All half-words of a file, first to last. -/
def fHalves (w : List Nat) : List Nat := w.flatMap fun x => [bits x 0 16, bits x 16 16]

/-- The words of a file in pairs, the low word of each first. -/
def fPairs : List Nat → List (Nat × Nat)
  | a :: b :: l => (a, b) :: fPairs l
  | _ => []

/-- The words of a file in 64-bit values. -/
def fDoubles (w : List Nat) : List Nat := (fPairs w).map fun q => q.1 + 2 ^ 32 * q.2

/-- Cut a list into pieces of `n`, at most `k` of them. -/
def pieces {α : Type} (n : Nat) : Nat → List α → List (List α)
  | 0, _ => []
  | k + 1, l => l.take n :: pieces n k (l.drop n)

/-! ### CRC-32 with the IEEE 802.3 polynomial -/

/-- One bit of the reflected CRC register. -/
def crcShift (c : Nat) : Nat := if c % 2 = 1 then (c / 2) ^^^ 0xEDB88320 else c / 2

/-- One byte. -/
def crcByte (c x : Nat) : Nat :=
  crcShift (crcShift (crcShift (crcShift (crcShift (crcShift (crcShift (crcShift (c ^^^ x))))))))

/-- CRC-32 of bytes: register preset to ones, result complemented. Log: 40 (PRESUMED). -/
def crc32 (l : List Nat) : Nat := (l.foldl crcByte 0xFFFFFFFF) ^^^ 0xFFFFFFFF

/-- The file's CRC with the word at 0x3C taken as 0. -/
def fileCrc (w : List Nat) : Nat := crc32 (fBytes (setNth w 15 0))

/-! ### Sections -/

/-- One section of an image: its table entry (R91) and its body. -/
structure Section where
  typ : Nat
  ctx : Nat
  offset : Nat
  size : Nat
  count : Nat
  words : List Nat
deriving DecidableEq, Repr

/-- The section table of a file: `n` entries of 16 bytes after the 64-byte header. -/
def sections (w : List Nat) (n : Nat) : List Section :=
  (pieces 4 n (w.drop 16)).map fun e =>
    let off := nth 0 e 1
    let size := nth 0 e 2
    ⟨bits (nth 0 e 0) 0 16, bits (nth 0 e 0) 16 16, off, size, nth 0 e 3, (w.drop (off / 4)).take ((size + 3) / 4)⟩

/-- Every section lies wholly inside the file behind the table, starts on a 4-byte boundary, overlaps no other (R92). -/
def sectionsPlaced (l : List Section) (size : Nat) : Bool :=
  let first := 64 + 16 * l.length
  l.all (fun s => decide (first ≤ s.offset ∧ s.offset + s.size ≤ size) && s.offset % 4 == 0 && s.size % 4 == 0) &&
    (upto l.length).all fun i => (upto l.length).all fun j =>
      let a := nth ⟨0, 0, 0, 0, 0, []⟩ l i
      let b := nth ⟨0, 0, 0, 0, 0, []⟩ l j
      i == j || decide (a.offset + a.size ≤ b.offset ∨ b.offset + b.size ≤ a.offset)

/-- A section with entries of `e` bytes: SIZE is COUNT entries rounded up to 4, its padding bytes 0 (R92). -/
def Section.fits (s : Section) (e : Nat) : Bool :=
  s.size == (s.count * e + 3) / 4 * 4 && ((fBytes s.words).drop (s.count * e)).all (· == 0)

/-- The header fields that image, package and pattern share: MAGIC, HDR_SIZE, size in bytes, CRC (R91, R163, R181). -/
def headerOk (w : List Nat) (magic : Nat) : Bool :=
  decide (16 ≤ w.length) && nth 0 w 0 == magic && fU16 w 6 == 64 && fU32 w 8 == 4 * w.length &&
    fU32 w 0x3C == fileCrc w

/-- The first section of a type, or one without content. -/
def sectionOf (l : List Section) (typ : Nat) : Section := (l.find? fun s => s.typ == typ).getD ⟨typ, 0xFFFF, 0, 0, 0, []⟩

/-- Sections of a type. -/
def sectionsOf (l : List Section) (typ : Nat) : List Section := l.filter fun s => s.typ == typ

/-- The first section of a type and context, or one without content. -/
def sectionFor (l : List Section) (typ ctx : Nat) : Section :=
  (l.find? fun s => s.typ == typ && s.ctx == ctx).getD ⟨typ, ctx, 0, 0, 0, []⟩

/-- Sections of a type and context. -/
def sectionsFor (l : List Section) (typ ctx : Nat) : List Section := l.filter fun s => s.typ == typ && s.ctx == ctx

end Sys2Proof.Machine
end

