-- ==== Sys2Proof/Machine/Pattern.lean ====
section
/-! DEFINITION. Solver pattern images: layout, the checks of R185, and their place in the store (R179 to R188, R214). -/

namespace Sys2Proof.Machine

/-! ### Parsing (R181, R182) -/

/-- The certificate rows of section CERT, behind its 16-byte head (R214). -/
def solCerts (n : Nat) (w : List Nat) : List SolCert :=
  (pieces 4 n (w.drop 4)).map fun q => ⟨nth 0 q 0, bits (nth 0 q 1) 0 8, bits (nth 0 q 1) 8 8, nth 0 q 2 + 2 ^ 32 * nth 0 q 3⟩

/-- The pattern image in a file of words; a section that is absent reads as empty, and entries of COLS, VALUES, RHS, FILL,
QFMT beyond the sizes of the header are ignored. Log: 188 (DESIGN CHOICE). -/
def parsePattern (w : List Nat) : PatImg :=
  let ss := sections w (fU16 w 0x26)
  let body (t : Nat) : List Nat := (sectionOf ss t).words
  let n := fU32 w 0x10
  let nnz := fU32 w 0x14
  let nnzF := fU32 w 0x18
  { id := fU32 w 0x0C
    n := n
    nnz := nnz
    nnzF := nnzF
    store := fU32 w 0x1C
    method := fU8 w 0x20
    precond := fU8 w 0x21
    target := fU8 w 0x22
    writer := fU16 w 0x24
    rows := (fPairs (body 1)).map fun q => (q.1, bits q.2 0 16, bits q.2 16 16)
    cols := (fHalves (body 2)).take nnz
    values := (body 3).take nnz
    rhs := (fDoubles (body 4)).take n
    blocks := (fPairs (body 5)).map fun q => (q.1, bits q.2 0 16, bits q.2 16 8)
    levels := (fPairs (body 6)).map fun q => (bits q.1 0 8, bits q.1 16 16, q.2)
    lvlIdx := (fHalves (body 7)).take (sectionOf ss 7).count
    fill := (body 8).take nnzF
    reduce := (fBytes (body 9)).take 62
    qfmt := (fBytes (body 10)).take n
    cert := solCerts n (body 11) }

/-! ### The checks of R185 -/

/-- Entry size of a pattern section; CERT is one structured body. -/
def solEntry (n t : Nat) : Nat := nth 0 [0, 8, 2, 4, 8, 8, 8, 2, 4, 62, 1, 16 + 16 * n] t

/-- Section types a pattern holds: all eleven, but for Jacobi no LEVELS, LVLIDX, FILL (R182). -/
def solTypes (precond : Nat) : List Nat := if precond = 1 then [1, 2, 3, 4, 5, 9, 10, 11] else [1, 2, 3, 4, 5, 6, 7, 8, 9, 10, 11]

/-- Reason 1: header, CRC and placement of the sections; one of each type but QFMT and CERT, which reason 8 judges (R182).
PATTERN_ID 0, a TARGET above 7, a section with a CTX and a missing, doubled or foreign type have no reason of their own in
R185 and are given this one. Log: 187 (DESIGN CHOICE). -/
def patFormOk (w : List Nat) : Bool :=
  let ss := sections w (fU16 w 0x26)
  let precond := fU8 w 0x21
  headerOk w 0x30544150 && fU16 w 4 == 1 && fU32 w 0x0C != 0 && decide (fU8 w 0x22 < 8) &&
    sectionsPlaced ss (4 * w.length) &&
    (if fU32 w 0x10 = 0 then ss.isEmpty
     else ((solTypes precond).all fun t => t == 10 || t == 11 || (sectionsOf ss t).length == 1) &&
       ss.all fun s => s.ctx == 0xFFFF && (solTypes precond).contains s.typ &&
         (s.typ == 10 || s.typ == 11 || s.fits (solEntry (fU32 w 0x10) s.typ)))

/-- Reason 2: sizes and the pairing of METHOD and PRECOND (R179, R180). -/
def patSizesOk (g : PatImg) : Bool :=
  decide (1 ≤ g.n ∧ g.n ≤ 65536 ∧ g.n ≤ g.nnz ∧ g.nnz ≤ 2097152) &&
    [(1, 1), (1, 2), (2, 1), (2, 3)].contains (g.method, g.precond) &&
    (if g.precond = 1 then g.nnzF == 0 else decide (1 ≤ g.nnzF ∧ g.nnzF ≤ g.nnz))

/-- A list rises strictly. -/
def rising : List Nat → Bool
  | a :: b :: l => decide (a < b) && rising (b :: l)
  | _ => true

/-- Rows from row `i` on: each begins where the last ended, its columns rise, lie below N and hold the diagonal. -/
def rowsGo (n : Nat) : Nat → Nat → List Nat → List (Nat × Nat × Nat) → Bool
  | _, _, cols, [] => cols.isEmpty
  | i, at_, cols, (first, cnt, _) :: rest =>
    let c := cols.take cnt
    first == at_ && c.length == cnt && rising c && c.all (fun j => decide (j < n)) && c.contains i &&
      rowsGo n (i + 1) (at_ + cnt) (cols.drop cnt) rest

/-- Reason 3. -/
def patRowsOk (g : PatImg) : Bool :=
  g.rows.length == g.n && g.cols.length == g.nnz && g.values.length == g.nnz && g.rhs.length == g.n &&
    rowsGo g.n 0 0 g.cols g.rows

/-- Row block numbers as BLOCKS assigns them to rows 0 to N − 1; none where a gap or a bad count or lane occurs. -/
def blockRows (k at_ : Nat) : List (Nat × Nat × Nat) → Option (List Nat)
  | [] => some []
  | (first, cnt, lane) :: rest =>
    if first = at_ ∧ 1 ≤ cnt ∧ cnt ≤ 256 ∧ lane < 32 then
      (blockRows (k + 1) (at_ + cnt) rest).map fun l => List.replicate cnt k ++ l
    else none

/-- Reason 4: BLOCKS cover the rows in order, and ROWS names the same blocks. -/
def patBlocksOk (g : PatImg) (count : Nat) : Bool :=
  g.blocks.length == count && decide (1 ≤ count ∧ count ≤ 65536) &&
    blockRows 0 0 g.blocks == some (g.rows.map (·.2.2))

/-- Row of each stored entry, in entry order. -/
def entryRows (rows : List (Nat × Nat × Nat)) : List Nat :=
  (upto rows.length).flatMap fun i => List.replicate (nth (0, 0, 0) rows i).2.1 i

/-- Level of each row block in one direction, as (block, level) pairs. -/
def dirLevels (g : PatImg) (upper : Bool) : List (Nat × Nat) :=
  let ls := g.levels.filter fun l => (l.1 == 1) == upper
  (upto ls.length).flatMap fun v =>
    let l := nth (0, 0, 0) ls v
    ((g.lvlIdx.drop l.2.2).take l.2.1).map fun k => (k, v)

/-- Dependencies of one direction as (block, block it needs), from the factor positions; an IC(0) factor is used
transposed in the upper direction. -/
def dirDeps (g : PatImg) (upper : Bool) : List (Nat × Nat) :=
  let er := entryRows g.rows
  let blk (r : Nat) : Nat := (nth (0, 0, 0) g.rows r).2.2
  g.fill.filterMap fun e =>
    let i := nth 0 er e
    let j := nth 0 g.cols e
    let p : Nat × Nat := if upper ∧ g.precond = 2 then (j, i) else (i, j)
    let dep := if upper then decide (p.1 < p.2) else decide (p.2 < p.1)
    if dep && blk p.1 != blk p.2 then some (blk p.1, blk p.2) else none

/-- Reason 5 in one direction. -/
def patDirOk (g : PatImg) (upper : Bool) : Bool :=
  let lv := dirLevels g upper
  lv.length == g.blocks.length && ((upto g.blocks.length).all fun k => (lv.filter fun e => e.1 == k).length == 1) &&
    (dirDeps g upper).all fun d => decide (mapGet 0 lv d.2 < mapGet 0 lv d.1)

/-- Reason 5. -/
def patLevelsOk (g : PatImg) (count : Nat) : Bool :=
  if g.precond = 1 then count == 0
  else g.levels.length == count && (g.levels.map (·.2.1)).sum == g.lvlIdx.length &&
    g.levels.all (fun l => decide (l.1 ≤ 1 ∧ l.2.2 + l.2.1 ≤ g.lvlIdx.length)) && patDirOk g false && patDirOk g true

/-- Reason 6. -/
def patFillOk (g : PatImg) : Bool :=
  let er := entryRows g.rows
  g.fill.length == g.nnzF && g.fill.all fun e =>
    decide (e < g.nnz) && (g.precond != 2 || decide (nth 0 g.cols e ≤ nth 0 er e))

/-- Reason 7: pair p names two nodes below 32 + p, and no node twice, so the 31 pairs form one binary tree. -/
def patReduceOk (g : PatImg) : Bool :=
  g.reduce.length == 62 && ((upto 62).all fun i => decide (nth 0 g.reduce i < 32 + i / 2)) &&
    (upto 62).all fun i => !(g.reduce.drop (i + 1)).contains (nth 0 g.reduce i)

/-- A value times 2^k is below 2^m. -/
def scaledBelow (v : FVal) (k m : Nat) : Bool :=
  match v with
  | .fin s q e => s || decide ((q : Int) * 2 ^ ((e + 4096).toNat + k) < 2 ^ (m + 4096))
  | .inf s => s
  | .nan _ => false

/-- A 128-bit accumulator holds every partial sum of a row whose operands are anywhere in their formats: `b` bits above
the right-hand side, and of each product; the products reach 2^94 up and down but for the least step (R214). -/
def accFits (b : Nat) (prods : List Nat) : Bool :=
  decide ((2 ^ 63 - 1) * 2 ^ b + (prods.map fun k => (2 ^ 94 - 2 ^ 31) * 2 ^ k).sum < 2 ^ 127) &&
    decide (2 ^ (63 + b) + (prods.map fun k => 2 ^ (94 + k)).sum ≤ 2 ^ 127)

/-- Reason 8 for one row: the certificate against the Q formats of the row and of its columns (R214). -/
def certRowOk (g : PatImg) (i : Nat) : Bool :=
  let c := nth {} g.cert i
  let row := nth (0, 0, 0) g.rows i
  let fi := nth 0 g.qfmt i % 64
  let fs := ((g.cols.drop row.1).take row.2.1).map fun j => nth 0 g.qfmt j % 64
  let fmax := fs.foldl Nat.max 0
  decide (c.mfrac ≤ 62) && scaledBelow (fmt32.unpack c.amax) c.mfrac 31 && scaledBelow (fmt64.unpack c.bmax) fi 63 &&
    c.kacc == c.mfrac + fmax && decide (fi ≤ c.kacc) &&
    accFits (c.kacc - fi) (fs.map fun f => fmax - f)

/-- Reason 8: QFMT and CERT are there once and well formed; F_i stands in bits [5:0] (R214). Log: 45 (DEDUCED). -/
def patCertOk (w : List Nat) (g : PatImg) : Bool :=
  let ss := sections w (fU16 w 0x26)
  let head := (sectionOf ss 11).words
  ([10, 11].all fun t => (sectionsOf ss t).length == 1 && (sectionOf ss t).fits (solEntry g.n t)) &&
    g.qfmt.length == g.n && g.qfmt.all (fun q => decide (q % 64 ≤ 62)) && head.length == 4 + 4 * g.n &&
    fU16 head 0 == 1 && fU32 head 4 == g.n && fU32 head 8 == g.id && (upto g.n).all (certRowOk g)

/-- STORE_BYTES of R184 in granules of 64 KiB. -/
def patGranules (g : PatImg) : Nat := (4096 + 96 * g.n + 6 * g.nnz + 10 * g.nnzF + 65535) / 65536

/-- The reason a pattern image is refused for (R185), 0 when it passes; a removal has N = 0 and no sections (R187).
`writer` says which contexts the application image defines with class A, B or C. Log: 45 (DEDUCED). -/
def patReason (writer : Nat → Bool) (w : List Nat) : Nat :=
  let g := parsePattern w
  if !patFormOk w then 1
  else if g.n = 0 then 0
  else if !patSizesOk g then 2
  else if !patRowsOk g then 3
  else if !patBlocksOk g (fU32 w 0x28) then 4
  else if !patLevelsOk g (fU32 w 0x2C) then 5
  else if !patFillOk g then 6
  else if !patReduceOk g then 7
  else if !patCertOk w g then 8
  else if g.store != 65536 * patGranules g then 9
  else if !writer g.writer then 10
  else 0

/-- A context that may be WRITER of a pattern: defined, of class A, B or C. -/
def Block.ctxAbc (b : Block) (c : Nat) : Bool := decide (c < 256) && b.fgetB (F.CTX_CFG_VALID c) && b.fget (F.CTX_CFG_CLASS c) != 3

/-! ### Pattern slots (R186, R187) -/

def psEmpty : Nat := 0
def psStaged : Nat := 2
def psActive : Nat := 3
def psDraining : Nat := 4

/-- STATE of a physical slot. -/
def Block.psState (b : Block) (k : Nat) : Nat := b.fget (F.SOL_PS_STATE_STATE k)

/-- The pattern in a physical slot. -/
def Block.pat (b : Block) (k : Nat) : Option Pat := mapGet none (b.sol.pats.map fun e => (e.1, some e.2)) k

def Block.setPat (b : Block) (k : Nat) (p : Pat) : Block := { b with sol := { b.sol with pats := storePut b.sol.pats k p } }

/-- The active physical slot of a logical slot. -/
def Block.psOf (b : Block) (logical : Nat) : Option Nat :=
  (upto 8).find? fun k => b.psState k == psActive && b.fget (F.SOL_PS_STATE_TARGET k) == logical

/-- Granules held by all patterns. -/
def Block.solUsed (b : Block) : Nat := ((upto 8).map fun k => b.fget (F.SOL_PS_STATE_GRANULES k)).sum

/-- SOL_STORE shows granules allocated and free. -/
def Block.solStoreShow (b : Block) : Block :=
  (b.fset F.SOL_STORE_USED b.solUsed).fset F.SOL_STORE_FREE (512 - b.sol.retired - b.solUsed)

/-- Empty a physical slot. -/
def Block.psClear (b : Block) (k : Nat) : Block :=
  let b := { b with sol := { b.sol with pats := storeErase b.sol.pats k } }
  ((((((b.setReg (Reg.SOL_PS_STATE k) 0).setReg (Reg.SOL_PS_ID k) 0).setReg (Reg.SOL_PS_DIM k) 0).setReg
    (Reg.SOL_PS_NNZ k) 0).setReg (Reg.SOL_PIV k) 0).setReg (Reg.SOL_FACT k) 0).solStoreShow

/-- Copy a checked image into a physical slot: values from VALUES and RHS, zero solution, no factor (R188). -/
def Block.psFill (b : Block) (k st : Nat) (g : PatImg) : Block :=
  let b := b.setPat k { img := g, vals := g.values, rhs := g.rhs, sol := List.replicate g.n 0 }
  let b := (((b.fset (F.SOL_PS_STATE_GRANULES k) (patGranules g)).fset (F.SOL_PS_STATE_WRITER k) g.writer).fset
    (F.SOL_PS_STATE_TARGET k) g.target).fset (F.SOL_PS_STATE_STATE k) st
  let b := (b.setRegN (Reg.SOL_PS_ID k) g.id).setRegN (Reg.SOL_PS_NNZ k) g.nnz
  let b := ((b.fset (F.SOL_PS_DIM_PRECOND k) g.precond).fset (F.SOL_PS_DIM_METHOD k) g.method).fset
    (F.SOL_PS_DIM_N_M1 k) (g.n - 1)
  ((b.setReg (Reg.SOL_PIV k) 0).setReg (Reg.SOL_FACT k) 0).solStoreShow

/-- Refuse a pattern image: SOL_LOAD_INFO, the event, the recorder (R185, R112). -/
def Block.patRefuse (b : Block) (target code reason : Nat) : Block :=
  let b := ((b.fset F.SOL_LOAD_INFO_TARGET target).fset F.SOL_LOAD_INFO_CODE code).fset F.SOL_LOAD_INFO_REASON reason
  b.event 0x30 3 [Reg.SOL_LOAD_INFO]

/-- Load one pattern image, ACTIVE in the physical slot of its TARGET or STAGED in any empty one; the code is 0,
SOL_PATTERN 12 or SOL_STORE 13. A removal occupies nothing. Log: 45 (DEDUCED). -/
def Block.patLoad (b : Block) (writer : Nat → Bool) (staged : Bool) (w : List Nat) : Block × Nat :=
  let g := parsePattern w
  let reason := patReason writer w
  if reason ≠ 0 then (b.patRefuse g.target 12 reason, 12)
  else if g.n = 0 then (b, 0)
  else
    let slot := if staged then (upto 8).find? fun k => b.psState k == psEmpty
      else if b.psState g.target = psEmpty then some g.target else none
    match slot with
    | none => (b.patRefuse g.target 13 0, 13)
    | some k =>
      if 512 < b.solUsed + b.sol.retired + patGranules g then (b.patRefuse g.target 13 0, 13)
      else if staged then (b.psFill k psStaged g, 0)
      else ((b.psFill k psActive g).raiseEvt 0x30 2, 0)

/-- Results of the pattern in job slots that no context names any more go with it (R202). -/
def Block.solOrphans (b : Block) (logical : Nat) : Block :=
  b.forAll ((upto 16).filter fun j => !b.fgetB (F.SOL_JOB_STATE_BOUND j) && bits (b.regN (Reg.SOL_JOB_RESULT j)) 16 3 == logical)
    fun b j => { b with sol := { b.sol with results := storeErase b.sol.results j } }

/-- The pattern of a logical slot goes at a commit: DRAINING while a job runs on it, else EMPTY (R187). -/
def Block.psRetire (b : Block) (logical : Nat) : Block :=
  let b := b.solOrphans logical
  match b.psOf logical with
  | none => b
  | some k =>
    if (b.sol.running.map (·.phys)) = some k then b.fset (F.SOL_PS_STATE_STATE k) psDraining else b.psClear k

/-- A staged slot becomes ACTIVE for its TARGET at a commit (R187). -/
def Block.psActivate (b : Block) (k : Nat) : Block :=
  let b := b.psRetire (b.fget (F.SOL_PS_STATE_TARGET k))
  (b.fset (F.SOL_PS_STATE_STATE k) psActive).raiseEvt 0x30 2

end Sys2Proof.Machine
end

