-- ==== Sys2Proof/Machine/SolArith.lean ====
section
/-! DEFINITION. The arithmetic of solver jobs: sums in the order of the pattern, products, residuals, bounds, factorisations
and the steps of both methods in float mode; the fixed-point residual and bound of certified mode (R183, R205, R206, R210 to
R219). Log: 41 (DEDUCED). -/

namespace Sys2Proof.Machine

/-! ### Numbers (R205, R210) -/

/-- Magnitude of a binary64 value. -/
def mag64 (v : Nat) : Nat := v % 2 ^ 63

def neg64 (v : Nat) : Nat := (v + 2 ^ 63) % 2 ^ 64

def neg32 (v : Nat) : Nat := (v + 2 ^ 31) % 2 ^ 32

def to64 (v : Nat) : Nat := (FFmt.convert fmt32 fmt64 v).bits

/-- A binary32 result that overflows is saturated (R219). -/
def sat32 (r : FRes) : FRes :=
  if r.bits % 2 ^ 31 = 0x7F800000 then ⟨r.bits / 2 ^ 31 * 2 ^ 31 + 0x7F7FFFFF, fOverflow⟩ else ⟨r.bits, 0⟩

/-- A vector operand rounded to binary32. -/
def narrow (v : Nat) : FRes := sat32 (FFmt.convert fmt64 fmt32 v)

/-- `acc + a × b` in binary32; an overflow of either stays marked. -/
def mac32 (acc : FRes) (a b : Nat) : FRes :=
  let r := sat32 (fmt32.fma acc.bits a b)
  ⟨r.bits, acc.flags ||| r.flags⟩

/-- `acc × a` in binary32. -/
def mul32 (acc : FRes) (a : Nat) : FRes :=
  let r := sat32 (fmt32.mul acc.bits a)
  ⟨r.bits, acc.flags ||| r.flags⟩

/-- The first row whose binary32 result overflowed. -/
def overRow (l : List FRes) : Option Nat := (upto l.length).find? fun i => (nth ⟨0, 0⟩ l i).flags != 0

/-- `c + a × b` of values that are not negative, rounded toward +∞. -/
def FFmt.upFma (f : FFmt) (c a b : Nat) : Nat :=
  match f.unpack c, f.unpack a, f.unpack b with
  | .fin _ m e, .fin _ m1 e1, .fin _ m2 e2 =>
    let q := min e (e1 + e2)
    f.roundUp (m * 2 ^ (e - q).toNat + m1 * m2 * 2 ^ (e1 + e2 - q).toNat) q
  | _, _, _ => f.infinity false

def one64 : Nat := 0x3FF0000000000000

def upAdd (a b : Nat) : Nat := fmt64.upFma a b one64

def upMul (a b : Nat) : Nat := fmt64.upFma 0 a b

/-- `n × 2^e` in binary64, rounded toward +∞. -/
def up64 (n : Nat) (e : Int) : Nat := fmt64.roundUp n e

/-- x ≤ y in binary64; false with a NaN. -/
def le64 (x y : Nat) : Bool :=
  match fmt64.order x y with
  | some d => decide (d ≤ 0)
  | none => false

/-- ‖v‖∞: the largest magnitude. -/
def normB (l : List Nat) : Nat := l.foldl (fun m v => Nat.max m (mag64 v)) 0

/-- u + c v, one binary64 FMA per element. -/
def axpy (u : List Nat) (c : Nat) (v : List Nat) : List Nat := u.zipWith (fun a b => (fmt64.fma a c b).bits) v

/-! ### Sums over the pattern (R183) -/

/-- The stored entries of a row as (entry index, column). -/
def PatImg.rowEnts (g : PatImg) (i : Nat) : List (Nat × Nat) :=
  let row := nth (0, 0, 0) g.rows i
  (upto row.2.1).map fun k => (row.1 + k, nth 0 g.cols (row.1 + k))

/-- Logical lane of a row. -/
def PatImg.laneOf (g : PatImg) (i : Nat) : Nat := (nth (0, 0, 0) g.blocks (nth (0, 0, 0) g.rows i).2.2).2.2

/-- A dot product: within a lane the rows ascend; the partials of the lanes are combined in the order of REDUCE. -/
def PatImg.dot (g : PatImg) (u v : List Nat) : Nat :=
  let part (l : Nat) : Nat :=
    ((upto g.n).filter fun i => g.laneOf i == l).foldl (fun acc i => (fmt64.fma acc (nth 0 u i) (nth 0 v i)).bits) 0
  nth 0 ((upto 31).foldl
    (fun nodes p => nodes ++ [(fmt64.add (nth 0 nodes (nth 0 g.reduce (2 * p))) (nth 0 nodes (nth 0 g.reduce (2 * p + 1)))).bits])
    ((upto 32).map part)) 62

/-- ‖A‖∞, its row sums rounded toward +∞. -/
def PatImg.normA (g : PatImg) (vals : List Nat) : Nat :=
  normB ((upto g.n).map fun i => (g.rowEnts i).foldl (fun acc e => upAdd acc (mag64 (to64 (nth 0 vals e.1)))) 0)

/-- L: the largest entry count of a row. -/
def PatImg.maxRow (g : PatImg) : Nat := (g.rows.map (·.2.1)).foldl Nat.max 0

/-- A v in binary32. -/
def PatImg.mulA (g : PatImg) (vals v : List Nat) : List FRes :=
  let x := v.map narrow
  (upto g.n).map fun i => (g.rowEnts i).foldl (fun acc e => mac32 acc (nth 0 vals e.1) (nth ⟨0, 0⟩ x e.2).bits) ⟨0, (nth ⟨0, 0⟩ x i).flags⟩

/-- The true residual b − A x in binary64. -/
def PatImg.residual (g : PatImg) (vals rhs x : List Nat) : List Nat :=
  (upto g.n).map fun i =>
    (g.rowEnts i).foldl (fun acc e => (fmt64.fma acc (neg64 (to64 (nth 0 vals e.1))) (nth 0 x e.2)).bits) (nth 0 rhs i)

/-- eps(x) of R212; 0 for the zero iterate, whose residual is b. -/
def PatImg.eps (g : PatImg) (vals rhs x : List Nat) : Nat :=
  if normB x = 0 then 0
  else upMul (up64 (g.maxRow + 1) (-52)) (fmt64.upFma (normB rhs) (g.normA vals) (normB x))

/-- delta of R212 for the products of a step, given as scalar and vector. -/
def PatImg.delta (g : PatImg) (vals : List Nat) (prods : List (Nat × List Nat)) (rho d x : List Nat) : Nat :=
  let a := g.normA vals
  let sum := prods.foldl (fun acc q => fmt64.upFma acc (mag64 q.1) (normB q.2)) 0
  let inner := fmt64.upFma (normB rho) a (upAdd (normB d) (normB x))
  fmt64.upFma (upMul (upMul (up64 (g.maxRow + 2) (-23)) a) sum) (up64 1 (-52)) inner

/-! ### Pivots and the float factor (R217, R218) -/

/-- Replace a pivot that is 0 or below τ times its reference: `(pivot, replaced)`. The reference is the diagonal entry, or
where that is 0 the largest magnitude of the row; in a row of zeros the replacement is τ. -/
def pivotFix (tau diag rowMax p : Nat) (positive : Bool) : Nat × Bool :=
  let ref := if diag % 2 ^ 31 = 0 then rowMax else diag % 2 ^ 31
  let neg := decide (diag % 2 ^ 31 ≠ 0 ∧ diag / 2 ^ 31 % 2 = 1) && !positive
  let scaled (v : Nat) : FVal := match fmt32.unpack v with
    | .fin s m e => .fin s m (e - tau)
    | w => w
  let small := p % 2 ^ 31 == 0 || decide ((fmt32.unpack (p % 2 ^ 31)).diff (scaled ref) < 0) || (positive && p / 2 ^ 31 % 2 == 1)
  if !small then (p, false)
  else
    let v := match scaled (if ref = 0 then 0x3F800000 else ref) with
      | .fin _ m e => (fmt32.round neg m e).bits
      | _ => 0
    (v, true)

/-- Positions of a row in the factor, in ascending column order: (factor index, entry index, column). -/
def PatImg.factRow (g : PatImg) (i : Nat) : List (Nat × Nat × Nat) :=
  (g.rowEnts i).filterMap fun e => (g.fill.idxOf? e.1).map fun k => (k, e.1, e.2)

/-- Entries of a factor row as (column, value). -/
def SolFact.row (f : SolFact) (g : PatImg) (i : Nat) : List (Nat × Nat) :=
  (g.factRow i).map fun q => (q.2.2, nth 0 f.ents q.1)

/-- A row's entry at a column, where it has one. -/
def entAt (l : List (Nat × Nat)) (j : Nat) : Option Nat := (l.find? fun e => e.1 == j).map (·.2)

/-- A factor with nothing made. -/
def SolFact.blank (g : PatImg) : SolFact := { ents := List.replicate g.nnzF 0, recip := List.replicate g.n 0 }

/-- Eliminate a row of ILU(0) against the rows before it: the row as (column, value), ascending. -/
def iluRow (f : SolFact) (g : PatImg) (i : Nat) (w : List (Nat × FRes)) : List (Nat × FRes) :=
  (w.filter fun e => decide (e.1 < i)).foldl (fun w e =>
    let k := e.1
    let l := mul32 ((entry w k).getD ⟨0, 0⟩) (nth 0 f.recip k)
    let u := f.row g k
    w.map fun q => if q.1 = k then (k, l)
      else if k < q.1 then (match entAt u q.1 with
        | some v => (q.1, mac32 ⟨q.2.bits, q.2.flags ||| l.flags⟩ (neg32 l.bits) v)
        | none => q)
      else q) w
where
  entry (w : List (Nat × FRes)) (k : Nat) : Option FRes := (w.find? fun e => e.1 == k).map (·.2)

/-- Row of IC(0) up to and with its diagonal, the diagonal not yet rooted. -/
def icRow (f : SolFact) (g : PatImg) (i : Nat) (w : List (Nat × FRes)) : List (Nat × FRes) :=
  w.foldl (fun done e =>
    let other : List (Nat × Nat) := if e.1 = i then done.map fun q => (q.1, q.2.bits) else f.row g e.1
    let s := done.foldl (fun s q => match entAt other q.1 with
      | some v => mac32 ⟨s.bits, s.flags ||| q.2.flags⟩ (neg32 q.2.bits) v
      | none => s) e.2
    done ++ [(e.1, if e.1 = i then s else mul32 s (nth 0 f.recip e.1))]) []

/-- Make one row of the factor; the row is answered where a result of it overflows. -/
def SolFact.makeRow (f : SolFact) (g : PatImg) (vals : List Nat) (tau i : Nat) : SolFact × Option Nat :=
  let ents := (g.rowEnts i).map fun e => (e.2, nth 0 vals e.1)
  let diag := (entAt ents i).getD 0
  let rowMax := (ents.map fun e => e.2 % 2 ^ 31).foldl Nat.max 0
  let pos := g.factRow i
  let w := pos.map fun q => (q.2.2, (⟨nth 0 vals q.2.1, 0⟩ : FRes))
  let w := if g.precond = 1 then [] else if g.precond = 2 then icRow f g i w else iluRow f g i w
  let own : FRes := if g.precond = 1 then ⟨diag, 0⟩ else ((w.find? fun e => e.1 == i).map (·.2)).getD ⟨0, 0⟩
  let fix := pivotFix tau diag rowMax own.bits (g.precond == 2)
  let root := if g.precond = 2 then (fmt32.sqrt fix.1).bits else fix.1
  let recip := sat32 (fmt32.div 0x3F800000 root)
  let w := w.map fun e => if e.1 = i then (i, (⟨root, e.2.flags⟩ : FRes)) else e
  let f' : SolFact :=
    { ents := pos.foldl (fun l q => setNth l q.1 (((w.find? fun e => e.1 == q.2.2).map (·.2.bits)).getD 0)) f.ents
      recip := setNth f.recip i recip.bits
      replaced := if fix.2 then f.replaced ++ [i] else f.replaced }
  (f', if (w.any fun e => e.2.flags != 0) || own.flags != 0 || recip.flags != 0 then some i else none)

/-- Make the rows of row blocks in order, up to the first overflow. -/
def SolFact.make (f : SolFact) (g : PatImg) (vals : List Nat) (tau : Nat) (blocks : List Nat) : SolFact × Option Nat :=
  (blocks.flatMap fun k =>
      let q := nth (0, 0, 0) g.blocks k
      (upto q.2.1).map fun i => q.1 + i).foldl
    (fun acc i => match acc.2 with
      | some _ => acc
      | none => acc.1.makeRow g vals tau i) (f, none)

/-- The diagonal reciprocals of Jacobi, for a Jacobi pattern and for a job that an overflow has switched (R219). -/
def jacobiFact (g : PatImg) (vals : List Nat) (tau : Nat) : SolFact × Option Nat :=
  (SolFact.blank g).make { g with precond := 1 } vals tau (upto g.blocks.length)

/-- z = M⁻¹ r in binary32 (R210). -/
def SolFact.apply (f : SolFact) (g : PatImg) (jac : Bool) (r : List Nat) : List FRes :=
  let x := r.map narrow
  let rec_ (i : Nat) : Nat := nth 0 f.recip i
  if jac || g.precond == 1 then (upto g.n).map fun i => mul32 (nth ⟨0, 0⟩ x i) (rec_ i)
  else
    let fwd := (upto g.n).foldl (fun (y : List FRes) i =>
      let acc := ((f.row g i).filter fun e => decide (e.1 < i)).foldl (fun acc e => mac32 acc (neg32 e.2) (nth ⟨0, 0⟩ y e.1).bits) (nth ⟨0, 0⟩ x i)
      y ++ [if g.precond = 2 then mul32 acc (rec_ i) else acc]) []
    let later (i : Nat) : List (Nat × Nat) :=
      if g.precond = 2 then ((upto g.n).filter fun k => decide (i < k)).filterMap fun k => (entAt (f.row g k) i).map fun v => (k, v)
      else (f.row g i).filter fun e => decide (i < e.1)
    (upto g.n).reverse.foldl (fun (z : List FRes) i =>
      setNth z i (mul32 ((later i).foldl (fun acc e => mac32 acc (neg32 e.2) (nth ⟨0, 0⟩ z e.1).bits) (nth ⟨0, 0⟩ z i)) (rec_ i))) fwd

/-! ### The steps of METHOD (R211 to R213, R219) -/

/-- The Krylov method since its restart: d and ρ, the direction, the last product, the shadow residual, and the scalars that
the next step needs. -/
structure Krylov where
  d : List Nat
  rho : List Nat
  p : List Nat
  v : List Nat
  hat : List Nat
  s : Nat
  alpha : Nat
  omega : Nat
  fresh : Bool

/-- The method restarted on a true residual. -/
def Krylov.start (n : Nat) (rt : List Nat) : Krylov := ⟨List.replicate n 0, rt, [], [], rt, 0, 0, 0, true⟩

/-- What a step comes to: the next state with its products, a breakdown, or the row of a binary32 overflow. -/
inductive KryStep where
  | done (k : Krylov) (prods : List (Nat × List Nat))
  | breakdown
  | overflow (row : Nat)

/-- Not above 0. -/
def le0 (v : Nat) : Bool := le64 v 0

/-- Zero of either sign. -/
def isZero64 (v : Nat) : Bool := mag64 v == 0

def wide (l : List FRes) : List Nat := l.map fun r => to64 r.bits

/-- What a step works with: the image, the matrix as held, the factor in use, and whether Jacobi has replaced it. -/
structure SolMat where
  img : PatImg
  vals : List Nat
  fact : SolFact
  jac : Bool

/-- A PCG step. -/
def SolMat.pcg (m : SolMat) (k : Krylov) : KryStep :=
  let g := m.img
  let z := m.fact.apply g m.jac k.rho
  match overRow z with
  | some row => .overflow row
  | none =>
    let rz := g.dot k.rho (wide z)
    if le0 rz then .breakdown
    else
      let p := if k.fresh then wide z else axpy (wide z) (fmt64.div rz k.s).bits k.p
      let v := g.mulA m.vals p
      match overRow v with
      | some row => .overflow row
      | none =>
        let pap := g.dot p (wide v)
        if le0 pap then .breakdown
        else
          let a := (fmt64.div rz pap).bits
          .done { k with d := axpy k.d a p, rho := axpy k.rho (neg64 a) (wide v), p := p, s := rz, fresh := false } [(a, p)]

/-- The direction of a BiCGSTAB step. -/
def Krylov.dir (k : Krylov) (r1 : Nat) : List Nat :=
  if k.fresh then k.rho
  else
    let beta := (fmt64.mul (fmt64.div r1 k.s).bits (fmt64.div k.alpha k.omega).bits).bits
    axpy k.rho beta (axpy k.p (neg64 k.omega) k.v)

/-- A BiCGSTAB step. -/
def SolMat.bicg (m : SolMat) (k : Krylov) : KryStep :=
  let g := m.img
  let r1 := g.dot k.hat k.rho
  if isZero64 r1 then .breakdown
  else
    let p := k.dir r1
    let y := m.fact.apply g m.jac p
    let v := g.mulA m.vals (wide y)
    match (overRow y).or (overRow v) with
    | some row => .overflow row
    | none =>
      let rv := g.dot k.hat (wide v)
      if isZero64 rv then .breakdown
      else
        let a := (fmt64.div r1 rv).bits
        let s := axpy k.rho (neg64 a) (wide v)
        let z := m.fact.apply g m.jac s
        let t := g.mulA m.vals (wide z)
        match (overRow z).or (overRow t) with
        | some row => .overflow row
        | none =>
          let tt := g.dot (wide t) (wide t)
          if isZero64 tt then .breakdown
          else
            let w := (fmt64.div (g.dot (wide t) s) tt).bits
            if isZero64 w then .breakdown
            else .done { k with d := axpy (axpy k.d a (wide y)) w (wide z), rho := axpy s (neg64 w) (wide t), p := p
                                v := wide v, s := r1, alpha := a, omega := w, fresh := false } [(a, wide y), (w, wide z)]

/-- One step of METHOD. -/
def SolMat.step (m : SolMat) (k : Krylov) : KryStep := if m.img.method = 1 then m.pcg k else m.bicg k

/-! ### Certified mode (R214 to R216) -/

/-- A value rounded to `f` fraction bits, nearest, ties to even. -/
def toFix (v : FVal) (f : Nat) : Option Int :=
  match v with
  | .fin s m e => FVal.toInt false (.fin s m (e + f))
  | _ => none

/-- A 64-bit two's-complement integer. -/
def fitsS64 (i : Int) : Bool := decide (-(2 : Int) ^ 63 ≤ i ∧ i < (2 : Int) ^ 63)

/-- A value converted to `f` fraction bits fits 64 bits (R215). -/
def fits64 (v f : Nat) : Bool := (toFix (fmt64.unpack v) f).any fitsS64

/-- A 32-bit two's-complement integer. -/
def fitsS32 (i : Int) : Bool := decide (-(2 : Int) ^ 31 ≤ i ∧ i < (2 : Int) ^ 31)

/-- F_i of a row (R214). -/
def PatImg.fracOf (g : PatImg) (i : Nat) : Nat := nth 0 g.qfmt i % 64

def PatImg.certOf (g : PatImg) (i : Nat) : SolCert := nth {} g.cert i

/-- A value lies above a limit, or is no number. -/
def FFmt.above (f : FFmt) (v limit : Nat) : Bool := !((f.order v limit).any fun d => decide (d ≤ 0))

/-- The first row whose matrix entries or right-hand side exceed the certificate or their formats (R215). -/
def certBadRow (p : Pat) : Option Nat :=
  (upto p.img.n).find? fun i =>
    let c := p.img.certOf i
    ((p.img.rowEnts i).any fun e =>
      let a := nth 0 p.vals e.1
      fmt32.above (a % 2 ^ 31) c.amax || !((toFix (fmt32.unpack a) c.mfrac).any fitsS32)) ||
      fmt64.above (mag64 (nth 0 p.rhs i)) c.bmax || !fits64 (nth 0 p.rhs i) (p.img.fracOf i)

/-- The first row whose warm start does not fit its format. -/
def warmBadRow (p : Pat) (x : List Nat) : Option Nat :=
  (upto p.img.n).find? fun i => !fits64 (nth 0 x i) (p.img.fracOf i)

/-- An iterate at the formats F_i, and back in binary64. -/
def PatImg.toFixed (g : PatImg) (x : List Nat) : List Int :=
  (upto g.n).map fun i => (toFix (fmt64.unpack (nth 0 x i)) (g.fracOf i)).getD 0

def PatImg.ofFixed (g : PatImg) (x : List Int) : List Nat :=
  (upto g.n).map fun i =>
    let v := nth 0 x i
    (fmt64.round (decide (v < 0)) v.natAbs (-(g.fracOf i : Int))).bits

/-- The exact residual of row i at KACC_i (R215). -/
def Pat.certRes (p : Pat) (x : List Int) (i : Nat) : Int :=
  let g := p.img
  let c := g.certOf i
  let b := (toFix (fmt64.unpack (nth 0 p.rhs i)) (g.fracOf i)).getD 0
  (g.rowEnts i).foldl (fun acc e =>
    acc - (toFix (fmt32.unpack (nth 0 p.vals e.1)) c.mfrac).getD 0 * nth 0 x e.2 * 2 ^ (c.kacc - c.mfrac - g.fracOf e.2))
    (b * 2 ^ (c.kacc - g.fracOf i))

/-- An integer rounded from `k` to `f` fraction bits, nearest, ties to even. -/
def refix (v : Int) (k f : Nat) : Int :=
  let r := if k < f then v.natAbs * 2 ^ (f - k) else roundShift v.natAbs (k - f) false
  if v < 0 then -(r : Int) else r

/-- The residual rounded to F_i for the correction, and the first row that does not fit. -/
def Pat.certRound (p : Pat) (x : List Int) : List Int × Option Nat :=
  let r := (upto p.img.n).map fun i => refix (p.certRes x i) (p.img.certOf i).kacc (p.img.fracOf i)
  (r, (upto r.length).find? fun i => !fitsS64 (nth 0 r i))

/-- Fixed-point division of a 64-bit dividend by a 32-bit divisor that is not 0, nearest, ties to even (R206). -/
def fixDiv (n d : Int) : Int :=
  let q := n.natAbs / d.natAbs
  let r := 2 * (n.natAbs % d.natAbs)
  let q := if d.natAbs < r ∨ (r = d.natAbs ∧ q % 2 = 1) then q + 1 else q
  if decide (n < 0) != decide (d < 0) then -(q : Int) else q

/-- The nearest integer to the square root. -/
def fixRoot (n : Nat) : Nat :=
  let r := isqrt n
  if r * r + r < n then r + 1 else r

/-- Replace a pivot held at `m` fraction bits that is 0 or below τ times its reference (R218): `(pivot, replaced)`. -/
def certPivot (tau m : Nat) (diag p : Int) (rowMax : Nat) (positive : Bool) : Int × Bool :=
  let ref := if diag = 0 then rowMax else diag.natAbs
  if p = 0 ∨ p.natAbs * 2 ^ tau < ref ∨ (positive ∧ p < 0) then
    let v : Int := roundShift (if ref = 0 then 2 ^ m else ref) tau false
    (if diag < 0 ∧ !positive then -v else v, true)
  else (p, false)

/-- Fraction bits at which the sums of certified mode are kept exactly before they are rounded. -/
def fixBits : Nat := 124

/-- Factor entries of a row in certified mode, as (column, integer at MFRAC of the row). -/
def SolFact.fixRow (f : SolFact) (g : PatImg) (i : Nat) : List (Nat × Int) :=
  (f.row g i).map fun e => (e.1, toSigned 32 e.2)

/-- The reciprocal pivot of a row in certified mode. -/
def SolFact.fixRecip (f : SolFact) (i : Nat) : Int := toSigned 32 (nth 0 f.recip i)

/-- A row's entry at a column, 0 where it has none. -/
def fixAt (l : List (Nat × Int)) (j : Nat) : Int := ((l.find? fun e => e.1 == j).map (·.2)).getD 0

/-- Eliminate a row of ILU(0) in certified mode: sums at `fixBits`, each multiplier rounded to MFRAC of the row. -/
def iluFix (f : SolFact) (g : PatImg) (i : Nat) (w : List (Nat × Int)) : List (Nat × Int) :=
  let m := (g.certOf i).mfrac
  (w.filter fun e => decide (e.1 < i)).foldl (fun w e =>
    let k := e.1
    let l := refix (refix (fixAt w k) fixBits m * f.fixRecip k) (m + Config.recipFrac g k) m
    let u := f.fixRow g k
    w.map fun q => if q.1 = k then (k, l * 2 ^ (fixBits - m))
      else if k < q.1 then (q.1, q.2 - l * fixAt u q.1 * 2 ^ (fixBits - m - (g.certOf k).mfrac))
      else q) w

/-- Row of IC(0) in certified mode up to and with its diagonal, the diagonal not yet rooted. -/
def icFix (f : SolFact) (g : PatImg) (i : Nat) (w : List (Nat × Int)) : List (Nat × Int) :=
  let m := (g.certOf i).mfrac
  w.foldl (fun done e =>
    let k := e.1
    let other := if k = i then done.map fun q => (q.1, refix q.2 fixBits m) else f.fixRow g k
    let s := done.foldl (fun s q =>
      s - refix q.2 fixBits m * fixAt other q.1 * 2 ^ (fixBits - m - (g.certOf k).mfrac)) e.2
    done ++ [(k, if k = i then s
      else refix (refix s fixBits m * f.fixRecip k) (m + Config.recipFrac g k) m * 2 ^ (fixBits - m))]) []

/-- Make one row of the factor in certified mode: entries at MFRAC of the row, the reciprocal pivot by the division of
R206; the row is answered where a result does not fit (R215). -/
def SolFact.fixMakeRow (f : SolFact) (g : PatImg) (vals : List Nat) (tau i : Nat) : SolFact × Option Nat :=
  let m := (g.certOf i).mfrac
  let fixed (v : Nat) : Int := (toFix (fmt32.unpack v) m).getD 0
  let ents := (g.rowEnts i).map fun e => (e.2, fixed (nth 0 vals e.1))
  let diag := fixAt ents i
  let pos := g.factRow i
  let w := pos.map fun q => (q.2.2, fixed (nth 0 vals q.2.1) * 2 ^ (fixBits - m))
  let w := (if g.precond = 1 then [] else if g.precond = 2 then icFix f g i w else iluFix f g i w).map fun e =>
    (e.1, refix e.2 fixBits m)
  let fix := certPivot tau m diag (if g.precond = 1 then diag else fixAt w i)
    ((ents.map fun e => e.2.natAbs).foldl Nat.max 0) (g.precond == 2)
  let root : Int := if g.precond = 2 then (fixRoot (fix.1.natAbs * 2 ^ m) : Nat) else fix.1
  let recip := fixDiv (2 ^ (m + Config.recipFrac g i)) root
  let w := w.map fun e => if e.1 = i then (i, root) else e
  ({ ents := pos.foldl (fun l q => setNth l q.1 (ofInt 32 (fixAt w q.2.2))) f.ents
     recip := setNth f.recip i (ofInt 32 recip)
     replaced := if fix.2 then f.replaced ++ [i] else f.replaced },
   if (w.any fun e => !fitsS32 e.2) || !fitsS32 root || root == 0 || !fitsS32 recip then some i else none)

/-- Make the rows of row blocks in order in certified mode, up to the first result that does not fit. -/
def SolFact.fixMake (f : SolFact) (g : PatImg) (vals : List Nat) (tau : Nat) (blocks : List Nat) : SolFact × Option Nat :=
  (blocks.flatMap fun k =>
      let q := nth (0, 0, 0) g.blocks k
      (upto q.2.1).map fun i => q.1 + i).foldl
    (fun acc i => match acc.2 with
      | some _ => acc
      | none => acc.1.fixMakeRow g vals tau i) (f, none)

/-- The correction M⁻¹ r at the formats F_i of a residual held at them (R215, R216), the first row that does not fit. -/
def SolFact.fixApply (f : SolFact) (g : PatImg) (r : List Int) : List Int × Option Nat :=
  let bad (l : List Int) : Option Nat := (upto l.length).find? fun i => !fitsS64 (nth 0 l i)
  let m (i : Nat) : Nat := (g.certOf i).mfrac
  let part (e : Nat × Int) (row : Nat) (x : List Int) : Int := e.2 * nth 0 x e.1 * 2 ^ (fixBits - m row - g.fracOf e.1)
  let scale (v : Int) (i : Nat) : Int := refix (v * f.fixRecip i) (g.fracOf i + Config.recipFrac g i) (g.fracOf i)
  let sum (i : Nat) (v : Int) (parts : List Int) : Int :=
    refix (parts.foldl (· - ·) (v * 2 ^ (fixBits - g.fracOf i))) fixBits (g.fracOf i)
  if g.precond = 1 then
    let z := (upto g.n).map fun i => scale (nth 0 r i) i
    (z, bad z)
  else
    let y := (upto g.n).foldl (fun (y : List Int) i =>
      let v := sum i (nth 0 r i) (((f.fixRow g i).filter fun e => decide (e.1 < i)).map fun e => part e i y)
      y ++ [if g.precond = 2 then scale v i else v]) []
    let later (i : Nat) (z : List Int) : List Int :=
      if g.precond = 2 then ((upto g.n).filter fun k => decide (i < k)).map fun k => part (k, fixAt (f.fixRow g k) i) k z
      else ((f.fixRow g i).filter fun e => decide (i < e.1)).map fun e => part e i z
    let z := (upto g.n).reverse.foldl (fun (z : List Int) i => setNth z i (scale (sum i (nth 0 z i) (later i z)) i)) y
    (z, (bad y).or (bad z))

/-- The bound of an iterate (R216), each term rounded toward +∞. -/
def Pat.certBound (p : Pat) (x : List Int) : Nat :=
  let g := p.img
  let res := normB ((upto g.n).map fun i => up64 (p.certRes x i).natAbs (-((g.certOf i).kacc : Int)))
  let nx := normB ((upto g.n).map fun i => up64 (nth 0 x i).natAbs (-(g.fracOf i : Int)))
  let conv := normB ((upto g.n).map fun i =>
    fmt64.upFma (up64 1 (-(g.fracOf i + 1 : Int))) (up64 (g.rowEnts i).length (-((g.certOf i).mfrac + 1 : Int))) nx)
  upAdd res conv

end Sys2Proof.Machine
end

