-- ==== Sys2Proof/Machine/Solver.lean ====
section
/-! DEFINITION. Solver jobs: submission, start, the iteration control of both modes, deadlines, results, self-test and faults (R189 to R226). -/

namespace Sys2Proof.Machine

/-! ### Codes (R193, R224) -/

def solAccepted : Nat := 0
def solSlotBusy : Nat := 1
def solParam : Nat := 2
def solQueueFull : Nat := 3
def solWriter : Nat := 4
def solDownCode : Nat := 5
def solNone : Nat := 6

def jobConverged : Nat := 0
def jobDeadlineBounded : Nat := 1
def jobDeadlineUnbounded : Nat := 2
def jobIterLimit : Nat := 3
def jobPivotFixed : Nat := 4
def jobFallback : Nat := 5
def jobDiverged : Nat := 6
def jobRangeFault : Nat := 7
def jobMismatch : Nat := 8
def jobAborted : Nat := 9
def jobDone : Nat := 10

/-- +∞, the bound published where none holds (R221). -/
def inf64 : Nat := 0x7FF0000000000000

/-! ### Lanes (R138, R204) -/

/-- Number of healthy lane groups. -/
def Block.solGroups (b : Block) : Nat := ((upto 4).filter fun g => bit (b.fget F.SOL_TEST_GROUP_OK) g).length

/-- Lanes for the next job start; 0 with no healthy group or no divide unit. -/
def Block.solLanes (b : Block) : Nat :=
  let thermal := nth 8 [32, 24, 24] (b.fget F.PWR_THERM_STATE)
  let have_ := 8 * b.solGroups
  if !b.fgetB F.SOL_TEST_DIV_OK then 0
  else ([32, 24, 8].find? fun p => decide (p ≤ thermal ∧ p ≤ have_)).getD 0

/-- Healthy physical lanes in ascending order: lane group g holds lanes 8 g to 8 g + 7. -/
def Block.solHealthy (b : Block) : List Nat := (upto 32).filter fun q => bit (b.fget F.SOL_TEST_GROUP_OK) (q / 8)

/-- Physical lane and pass that run a logical lane on `p` lanes (R204): they change how long a job runs, never its result. -/
def Block.lanePlace (b : Block) (p l : Nat) : Nat × Nat := (nth 0 b.solHealthy (l % p), l / p)

/-- Show SOL_STAT as the jobs and lanes stand; a changed lane count raises its event. -/
def Block.solShow (b : Block) : Block :=
  let lanes := b.solLanes
  let b := b.when (lanes != b.fget F.SOL_STAT_LANES) fun b => (b.fset F.SOL_STAT_LANES lanes).raiseEvt 0x30 4
  let b := match b.sol.waiting with
    | some j => (b.fset F.SOL_STAT_WAIT_VALID 1).fset F.SOL_STAT_WAIT_SLOT j.slot
    | none => (b.fset F.SOL_STAT_WAIT_VALID 0).fset F.SOL_STAT_WAIT_SLOT 0
  let b := match b.sol.running with
    | some r => (b.fset F.SOL_STAT_RUN_VALID 1).fset F.SOL_STAT_RUN_SLOT r.job.slot
    | none => (b.fset F.SOL_STAT_RUN_VALID 0).fset F.SOL_STAT_RUN_SLOT 0
  b.fsetB F.SOL_STAT_BUSY (b.sol.waiting.isSome || b.sol.running.isSome)

/-! ### Ending a job -/

/-- Job-slot registers and totals that every ended job updates (R195, R203): wait and run times in 10 ns steps. -/
def Block.solClose (b : Block) (j : SolJob) (code ts : Nat) : Block :=
  let b := (b.fset (F.SOL_JOB_STATE_STATE j.slot) 0).fset (F.SOL_JOB_STATE_LAST_KIND j.slot) j.kind
  let b := b.stamp (Reg.SOL_JOB_END_LO j.slot) (Reg.SOL_JOB_END_HI j.slot)
  let b := (b.setRegN (Reg.SOL_JOB_WAIT j.slot) (Nat.min ((ts - j.ta) / 10) 0xFFFFFFFF)).setRegN
    (Reg.SOL_JOB_RUN j.slot) (Nat.min ((b.clk - ts) / 10) 0xFFFFFFFF)
  let b := b.incWrap F.SOL_JOB_CNT_COUNT
  (b.fset F.SOL_LAST_SLOT j.slot).fset F.SOL_LAST_CODE code

/-- Events 0 and 1: a SOLVE ended with or without TOL_MET. -/
def Block.solEndEvt (b : Block) (j : SolJob) (met : Bool) : Block :=
  if j.kind = 1 then b.raiseEvt 0x30 (if met then 0 else 1) else b

/-- A waiting job is withdrawn: ABORTED, nothing applied or published (R194, R196). -/
def Block.solWithdraw (b : Block) : Block :=
  match b.sol.waiting with
  | none => b
  | some j =>
    let b := { b with sol := { b.sol with waiting := none } }
    ((b.solClose j jobAborted b.clk).solEndEvt j false).solShow

/-- Publish a result: status word, iterations, bound, SEQ, and the values; the primary of a pair sends it (R196, R197, R199,
R370). -/
def Block.solPublish (b : Block) (j : SolJob) (status iters bound : Nat) (x : List Nat) : Block :=
  let b := (b.setRegN (Reg.SOL_JOB_RESULT j.slot) status).setRegN (Reg.SOL_JOB_ITER j.slot) iters
  let b := (b.setPair (Reg.SOL_JOB_BOUND_LO j.slot) bound).setRegN (Reg.SOL_JOB_RSEQ j.slot) j.seq
  let b := { b with sol := { b.sol with results := storePut b.sol.results j.slot ⟨x, b.now, false⟩ } }
  b.toPartner "result" (j.slot :: status :: iters :: bound :: x)

/-- Busy lane clocks of a job of `ns` nanoseconds, at 600 MHz, and its energy on the ledger (R136). -/
def Block.solCharge (b : Block) (j : SolJob) (lanes ns : Nat) : Block :=
  let clocks := lanes * (ns * 3 / 5)
  let b := b.setPair Reg.SOL_LANE_CLK_LO ((b.pair Reg.SOL_LANE_CLK_LO + clocks) % 2 ^ 64)
  let e := clocks * b.regN Reg.PWR_COEF_LANE
  let s := b.sched
  { b with sched := { s with ledger := storePut s.ledger j.budget (storeGet 0 s.ledger j.budget + e),
                             solverEnergy := s.solverEnergy + e } }

/-- The running job leaves the unit: its lane clocks are charged, a DRAINING slot empties (R186). -/
def Block.solLeave (b : Block) (r : SolRun) : Block :=
  let b := b.solCharge r.job r.lanes (b.clk - r.ts)
  let b := { b with sol := { b.sol with running := none } }
  b.when (decide (r.phys < 8) && b.psState r.phys == psDraining) (·.psClear r.phys)

/-! ### The iteration (R207 to R220) -/

/-- How a SOLVE ended or stands. -/
structure SolOut where
  x : List Nat
  /-- Residual bound; none where no bound holds. -/
  bound : Option Nat
  iters : Nat := 0
  met : Bool := false
  /-- The job was still running when it was cut. -/
  cut : Bool := false
  iterLimit : Bool := false
  diverged : Bool := false
  range : Bool := false
  fallback : Bool := false
  pivoted : Bool := false
  /-- A new factor. -/
  factor : Option SolFact := none
  /-- A factorisation was cut: row blocks and buffer at its checkpoint. -/
  pending : Option (Nat × SolFact) := none
  /-- A factorisation was abandoned with its checkpoint (R219, R220). -/
  abandoned : Bool := false
  /-- Row of an overflow or range fault. -/
  ovf : Option Nat := none
deriving DecidableEq, Repr

/-- The tolerance test: bound ≤ tol × ‖b‖∞, the product rounded toward zero, which compares as the exact product
does; a tolerance of 0 is never met (R211). -/
def tolMet (tol nb bound : Nat) : Bool :=
  mag64 tol != 0 && bound != inf64 &&
    match fmt64.unpack (mag64 tol), fmt64.unpack nb, fmt64.unpack bound with
    | .fin _ m1 e1, .fin _ m2 e2, .fin s m e => decide (FVal.diff (.fin s m e) (.fin false (m1 * m2) (e1 + e2)) ≤ 0)
    | _, _, _ => false

def finite32 (v : Nat) : Bool := decide (v / 2 ^ 23 % 256 < 255)
def finite64 (v : Nat) : Bool := decide (v / 2 ^ 52 % 2048 < 2047)

/-- What a float iteration works with: the pattern, the factor in use, KRES, tolerance and ‖b‖∞, and where it is cut: after
how many steps, and whether inside the true residual that follows them (R222). -/
structure FloatJob where
  pat : Pat
  fact : SolFact
  tau : Nat
  kres : Nat
  tol : Nat
  nb : Nat
  cut : Option (Nat × Bool)

/-- The state of a float iteration (R211): x with the method restarted on its residual, the gap g, steps since, best iterate
and its bound. -/
structure SolIter where
  x : List Nat
  kry : Krylov
  gap : Nat
  steps : Nat := 0
  best : List Nat
  bbest : Nat
  /-- Jacobi has replaced the preconditioner. -/
  jac : Bool := false
  /-- A binary32 overflow has happened; the row recorded last. -/
  ovf : Bool := false
  row : Option Nat := none
  /-- bbest at the last breakdown. -/
  brk : Option Nat := none

/-- Outcome fields common to every end of the float iteration. -/
def SolIter.out (t : SolIter) (it : Nat) : SolOut :=
  { x := t.best, bound := some t.bbest, iters := it, fallback := t.jac, ovf := t.row }

/-- An iterate x with residual rt: its bound, and the method restarted on it. -/
def FloatJob.iter (j : FloatJob) (x rt : List Nat) : SolIter :=
  let e := j.pat.img.eps j.pat.vals j.pat.rhs x
  { x := x, kry := Krylov.start j.pat.img.n rt, gap := e, best := x, bbest := upAdd (normB rt) e }

/-- Restart on the correction equation from the best iterate, with its true residual; none where it overflows. -/
def FloatJob.restart (j : FloatJob) (t : SolIter) : Option SolIter :=
  let rt := j.pat.img.residual j.pat.vals j.pat.rhs t.best
  if rt.all finite64 then some { j.iter t.best rt with jac := t.jac, ovf := t.ovf, row := t.row, brk := t.brk } else none

/-- The matrix and the preconditioner in force. -/
def FloatJob.mat (j : FloatJob) (t : SolIter) : SolMat :=
  ⟨j.pat.img, j.pat.vals, if t.jac then (jacobiFact j.pat.img j.pat.vals j.tau).1 else j.fact, t.jac⟩

/-- A binary32 overflow at a row: Jacobi for the rest of the run; none where it is the second one (R219). -/
def FloatJob.fallBack (j : FloatJob) (t : SolIter) (row : Nat) : SolIter × Bool :=
  match t.ovf, (jacobiFact j.pat.img j.pat.vals j.tau).2 with
  | true, _ => ({ t with row := some row }, false)
  | false, some r => ({ t with row := some r, ovf := true, jac := true }, false)
  | false, none => ({ t with row := some row, ovf := true, jac := true }, true)

/-- A step has been made: the gap, and the best iterate. -/
def FloatJob.stepped (j : FloatJob) (t : SolIter) (k : Krylov) (prods : List (Nat × List Nat)) : SolIter :=
  let g := upAdd t.gap (j.pat.img.delta j.pat.vals prods k.rho k.d t.x)
  let bi := upAdd (normB k.rho) g
  let t := { t with kry := k, gap := g, steps := t.steps + 1 }
  if le64 bi t.bbest then { t with best := t.x.zipWith (fun a b => (fmt64.add a b).bits) k.d, bbest := bi } else t

/-- bbest has not fallen since the last breakdown (R213). -/
def SolIter.stuck (t : SolIter) : Bool :=
  match t.brk with
  | some v => !(le64 t.bbest v && t.bbest != v)
  | none => false

/-- The loop of R211 with `left` steps to MAX_IT and `it` made. Log: 43 (DEDUCED). -/
def floatLoop (j : FloatJob) : Nat → Nat → SolIter → SolOut
  | 0, it, t => { t.out it with iterLimit := true }
  | left + 1, it, t =>
    if (j.cut.map (·.1)) = some it then { t.out it with cut := true }
    else
      let it := it + 1
      let resume (t : SolIter) : SolOut :=
        if j.cut = some (it, true) then { t.out it with cut := true }
        else match j.restart t with
          | none => { t.out it with diverged := true }
          | some u => if tolMet j.tol j.nb u.bbest then { u.out it with met := true } else floatLoop j left it u
      match (j.mat t).step t.kry with
      | .overflow row =>
        let q := j.fallBack t row
        if !q.2 then { q.1.out it with diverged := true }
        else if left = 0 then { q.1.out it with iterLimit := true }
        else resume q.1
      | .breakdown =>
        if left = 0 then { t.out it with iterLimit := true }
        else if t.stuck then { t.out it with diverged := true }
        else resume { t with brk := some t.bbest }
      | .done k prods =>
        let t := j.stepped t k prods
        if tolMet j.tol j.nb t.bbest then { t.out it with met := true }
        else if left = 0 then { t.out it with iterLimit := true }
        else if t.steps = j.kres || !le64 t.gap (normB k.rho) then resume t
        else floatLoop j left it t

/-- A certified iterate delivered. -/
def Pat.certOut (p : Pat) (q : List Int × Nat) (it : Nat) : SolOut := { x := p.img.ofFixed q.1, bound := some q.2, iters := it }

/-- The certified iteration with a factor (R216): current iterate and bound, best iterate and bound, consecutive rises.
Log: 43 (DEDUCED). -/
def certLoop (p : Pat) (f : SolFact) (tol nb : Nat) (cut : Option Nat) :
    Nat → Nat → List Int × Nat → List Int × Nat → Nat → SolOut
  | 0, it, _, best, _ => { p.certOut best it with iterLimit := true }
  | left + 1, it, cur, best, rises =>
    if cut = some it then { p.certOut best it with cut := true }
    else
      let r := p.certRound cur.1
      let s := f.fixApply p.img r.1
      let x := (upto p.img.n).map fun i => nth 0 cur.1 i + nth 0 s.1 i
      match (r.2.or s.2).or ((upto p.img.n).find? fun i => !fitsS64 (nth 0 x i)) with
      | some row => { p.certOut cur (it + 1) with range := true, ovf := some row }
      | none =>
        let bound := p.certBound x
        let best' := if le64 bound best.2 then (x, bound) else best
        let rises' := if le64 bound cur.2 then 0 else rises + 1
        if tolMet tol nb best'.2 then { p.certOut best' (it + 1) with met := true }
        else if 4 ≤ rises' then { p.certOut best' (it + 1) with diverged := true }
        else certLoop p f tol nb cut left (it + 1) (x, bound) best' rises'

/-- Row blocks in the order a factorisation completes them: by lower levels, or in block order for Jacobi. -/
def PatImg.factorOrder (g : PatImg) : List Nat :=
  if g.precond = 1 then upto g.blocks.length else (dirLevels g false).map (·.1)

/-- Numbers of row blocks completed at the ends of levels; Jacobi is one pass (R217). -/
def PatImg.levelEnds (g : PatImg) : List Nat :=
  if g.precond = 1 then [0, g.blocks.length]
  else ((g.levels.filter fun l => l.1 = 0).map (·.2.1)).foldl (fun ends n => ends ++ [ends.getLast?.getD 0 + n]) [0]

/-- The checkpoint of a factorisation with `n` row blocks completed: the end of the last whole level. -/
def PatImg.checkpoint (g : PatImg) (n : Nat) : Nat := ((g.levelEnds.filter fun e => decide (e ≤ n))).foldl Nat.max 0

/-- The factor buffer as the job finds it: the checkpoint's, or nothing made. -/
def SolRun.begun (r : SolRun) (p : Pat) : SolFact := if r.resume = 0 then SolFact.blank p.img else p.pend

/-- The factorisation of a job up to `upTo` row blocks, and the row of an overflow (R215, R217 to R220). -/
def SolRun.factorise (r : SolRun) (p : Pat) (upTo : Nat) : SolFact × Option Nat :=
  let blocks := (p.img.factorOrder.take upTo).drop r.resume
  if r.certified then (r.begun p).fixMake p.img p.vals r.tau blocks else (r.begun p).make p.img p.vals r.tau blocks

/-- What the cut leaves of a factorisation under way: row blocks and buffer at the checkpoint; none where no cut falls in it
or it overflowed before the cut. -/
def SolRun.cutFactor (r : SolRun) (p : Pat) (made : Option SolAt) : Option (Nat × SolFact) :=
  match made, r.factor with
  | some (.factoring n), true =>
    let k := Nat.max (p.img.checkpoint n) r.resume
    if p.img.factorOrder.length ≤ k ∨ (r.factorise p (Nat.max n k)).2.isSome then none else some (k, (r.factorise p k).1)
  | _, _ => none

/-- Where a cut falls in the iteration: after how many steps, and whether in the true residual after them. -/
def SolAt.stepCut : SolAt → Nat × Bool
  | .steps n => (n, false)
  | .residual n => (n, true)
  | _ => (0, false)

/-- The iterations of a certified job from its start iterate. -/
def SolRun.certified_ (r : SolRun) (p : Pat) (made : Option SolAt) : SolOut :=
  let x := p.img.toFixed r.start
  let start := (x, p.certBound x)
  match r.cutFactor p made with
  | some q => { p.certOut start 0 with cut := true, pending := some q }
  | none =>
    let f := if r.factor then r.factorise p p.img.factorOrder.length else (p.fact, none)
    match f.2 with
    | some row => { p.certOut start 0 with range := true, ovf := some row, abandoned := true }
    | none =>
      let o := certLoop p f.1 r.job.tol (normB p.rhs) (made.map fun m => m.stepCut.1) r.job.maxIt 0 start start 0
      { o with factor := if r.factor then some f.1 else none }

/-- The iterations of a float job from its start iterate with residual rt. -/
def SolRun.float_ (r : SolRun) (p : Pat) (rt : List Nat) (made : Option SolAt) : SolOut :=
  let f := if r.factor then r.factorise p p.img.factorOrder.length else (p.fact, none)
  let j : FloatJob := ⟨p, f.1, r.tau, r.kres, r.job.tol, normB p.rhs, made.map SolAt.stepCut⟩
  let t := j.iter r.start rt
  match r.cutFactor p made with
  | some q => { t.out 0 with cut := true, pending := some q }
  | none => match f.2 with
    | some row =>
      let q := j.fallBack t row
      if q.2 then { floatLoop j r.job.maxIt 0 q.1 with abandoned := true }
      else { q.1.out 0 with diverged := true, abandoned := true }
    | none => { floatLoop j r.job.maxIt 0 t with factor := if r.factor then some f.1 else none }

/-- A SOLVE from its start pass to its end, or to the cut `made`. -/
def SolRun.solve (r : SolRun) (p : Pat) (made : Option SolAt) : SolOut :=
  let bad : Option Nat := if !r.certified then none
    else (certBadRow p).or (if r.job.warm then warmBadRow p r.start else none)
  let rt := if r.job.warm then p.img.residual p.vals p.rhs r.start else p.rhs
  if !r.certified && !(p.vals.all finite32 && p.rhs.all finite64) then { x := r.start, bound := none, diverged := true }
  else if made = some .startPass then { x := r.start, bound := none, cut := true }
  else match bad with
  | some i => { x := r.start, bound := none, range := true, ovf := some i, abandoned := r.factor }
  | none =>
    if normB p.rhs = 0 then { x := List.replicate p.img.n 0, bound := some 0, met := true }
    else if r.certified then r.certified_ p made
    else if !rt.all finite64 then { x := r.start, bound := none, diverged := true }
    else r.float_ p rt made

/-- CODE by the order of R223. -/
def SolOut.code (o : SolOut) (aborted : Bool) : Nat :=
  if aborted then jobAborted
  else if o.range then jobRangeFault
  else if o.diverged then jobDiverged
  else if o.fallback then jobFallback
  else if o.pivoted then jobPivotFixed
  else if o.cut then (if o.bound.isNone then jobDeadlineUnbounded else jobDeadlineBounded)
  else if o.iterLimit then jobIterLimit
  else jobConverged

/-- The status word (R199). -/
def solStatus (code pslot : Nat) (met bounded certified refactored pending : Bool) : Nat :=
  let f (c : Bool) (k : Nat) : Nat := if c then 2 ^ k else 0
  code + f met 8 + f bounded 9 + f certified 10 + f refactored 11 + f pending 12 + pslot * 2 ^ 16

/-- What a SOLVE leaves of factor and checkpoint in its physical slot (R217 to R220), with events 9 to 13. -/
def Block.solFactorShow (b : Block) (r : SolRun) (o : SolOut) : Block :=
  let k := r.phys
  let b := match o.factor with
    | some f =>
      let rows := f.replaced
      let b := ((((b.fset (F.SOL_FACT_VALID k) 1).fsetB (F.SOL_FACT_MODE k) r.certified).fset (F.SOL_FACT_STALE k) 0).fset
        (F.SOL_FACT_PENDING k) 0).fset (F.SOL_FACT_DONE k) 0
      let first := rows.foldl Nat.min (nth 0 rows 0)
      let b := (b.fset (F.SOL_PIV_FIRST_ROW k) first).fset (F.SOL_PIV_COUNT k) (Nat.min rows.length 65535)
      let b := match b.pat k with
        | some p => b.setPat k { p with factTau := r.tau, fact := f, pend := {} }
        | none => b
      b.when (!rows.isEmpty) (·.raiseEvt 0x30 9)
    | none => b
  let b := match o.pending with
    | some (n, f) =>
      let b := (b.fset (F.SOL_FACT_PENDING k) 1).fset (F.SOL_FACT_DONE k) n
      let b := match b.pat k with
        | some p => b.setPat k { p with pendCert := r.certified, pend := f }
        | none => b
      b.raiseEvt 0x30 13
    | none => b
  let b := b.when o.abandoned fun b =>
    ((b.fset (F.SOL_FACT_PENDING k) 0).fset (F.SOL_FACT_DONE k) 0).when (!r.certified) fun b =>
      b.fset (F.SOL_FACT_STALE k) 1
  let b := match o.ovf with
    | some row =>
      (((((b.fset F.SOL_OVF_INFO_VALID 1).fsetB F.SOL_OVF_INFO_KIND r.certified).fset F.SOL_OVF_INFO_JOB r.job.slot).fset
        F.SOL_OVF_INFO_PSLOT r.job.logical).fset F.SOL_OVF_INFO_ROW row)
    | none => b
  let b := b.when o.fallback fun b => (b.incSat F.SOL_FAULT_CNT_FALLBACK).raiseEvt 0x30 10
  b.when o.range fun b => (b.incSat F.SOL_FAULT_CNT_RANGE).raiseEvt 0x30 11

/-- End the running job: by its own condition, or cut at `made` by its deadline or by SCAN (`aborted`). APPLY and
RESET end with DONE and publish nothing (R195, R221). Log: 43 (DEDUCED). -/
def Block.solEnd (b : Block) (r : SolRun) (made : Option SolAt) (aborted : Bool) : Block :=
  let j := r.job
  if j.kind ≠ 1 then
    (((b.solLeave r).solClose j (if aborted then jobAborted else jobDone) r.ts)).solShow
  else match b.pat r.phys with
  | none => ((b.solLeave r).solClose j jobAborted r.ts).solShow
  | some p =>
    let o := r.solve p made
    let fixed := decide (0 < o.iters) && match o.factor with
      | some f => !f.replaced.isEmpty
      | none => b.fget (F.SOL_PIV_COUNT r.phys) != 0
    let o := { o with pivoted := fixed }
    let aborted := aborted && o.cut
    let code := o.code aborted
    let b := b.setPat r.phys { p with sol := o.x }
    let b := b.solFactorShow r o
    let b := b.solPublish j (solStatus code j.logical o.met o.bound.isSome r.certified o.factor.isSome o.pending.isSome)
      o.iters (o.bound.getD inf64) o.x
    (((b.solLeave r).solClose j code r.ts).solEndEvt j o.met).solShow

/-- How far a running job has come when something but its deadline or a command cuts it: no state shows it, and it is a
free value. Log: 178 (DESIGN CHOICE). -/
def SolAt.ofFree (w : Word) : SolAt :=
  let n := w.toNat / 4
  match w.toNat % 4 with
  | 0 => .startPass
  | 1 => .factoring n
  | 2 => .steps n
  | _ => .residual n

/-- The checkpoint of a job that ends during a factorisation is kept (R217). Log: 178 (DESIGN CHOICE). -/
def Block.solKeep (b : Block) (r : SolRun) : Block :=
  match b.pat r.phys with
  | some p =>
    if r.job.kind = 1 then
      let (v, b) := b.free
      b.solFactorShow r { x := [], bound := none, pending := (r.solve p (some (SolAt.ofFree v))).pending }
    else b
  | none => b

/-! ### Submission (R190 to R194) -/

/-- Read a job parameter block and its lists from the frame; none where a field or list breaks R190 to R192. A reserved bit
must be 0. The indices are held against the pattern that is active in the logical slot under this PATTERN_ID; with none there
they are not checked, and one out of range is ignored at the start. Log: 186 (DESIGN CHOICE). -/
def Block.solParse (b : Block) (c base slot : Nat) (p : CtxProg) (x : Cx) : Option SolJob :=
  let ctl := x.slot base
  let arg := x.val tU64 (base + 2)
  let tol := x.val tF64 (base + 4)
  let maxIt := x.slot (base + 6)
  let cnt := x.slot (base + 7)
  let nMat := bits cnt 0 16
  let nRhs := bits cnt 16 16
  let bs := x.slot (base + 8)
  let mb := bits bs 0 12
  let rb := bits bs 16 12
  let kind := bits ctl 0 3
  let dk := bits ctl 16 2
  let logical := bits ctl 8 3
  let id := x.slot (base + 1)
  let tag (i : Nat) : Nat := nth 0 p.tags i
  let mat := (upto nMat).map fun i => (x.slot (mb + 2 * i), x.slot (mb + 2 * i + 1))
  let rhs := (upto nRhs).map fun i => (x.slot (rb + 4 * i), x.val tF64 (rb + 4 * i + 2))
  let trig := b.trigOf c
  let dl : Option SolDl := match dk with
    | 0 => if arg = 0 then some .afterStart else none
    | 1 => some (.tsu arg)
    | 2 =>
      if arg = 0 ∨ 255 < arg then none
      else if trig = 1 then
        let t := b.kthTarget c arg x.trigTarget
        some (.tsu (t - 1000 * b.fget F.SOL_GUARD_GUARD))
      else if trig = 2 ∨ trig = 3 then
        let t := b.kthTarget c arg x.trigTarget
        some (.angle (trig == 3) ((t + 2 ^ 64 - b.angleIn (trig == 3) (b.fget F.SOL_GUARD_GUARD)) % 2 ^ 64))
      else none
    | _ => none
  let active := (b.psOf logical).bind b.pat
  let indicesOk := match active with
    | some q => q.img.id != id || (mat.all (fun e => decide (e.1 < q.img.nnz)) && rhs.all fun e => decide (e.1 < q.img.n))
    | none => true
  let ok := decide (1 ≤ kind ∧ kind ≤ 3) && bits ctl 6 2 == 0 && bits ctl 11 5 == 0 && bits ctl 18 14 == 0 &&
    finite64 tol && (!bit tol 63 || mag64 tol == 0) && decide (maxIt ≤ 65535 ∧ nMat ≤ 1024 ∧ nRhs ≤ 256) &&
    bits bs 12 4 == 0 && bits bs 28 4 == 0 && rb % 2 == 0 &&
    decide (nMat = 0 ∨ mb + 2 * nMat ≤ p.tags.length) && decide (nRhs = 0 ∨ rb + 4 * nRhs ≤ p.tags.length) &&
    ((upto nMat).all fun i => tag (mb + 2 * i) == tU32 && tag (mb + 2 * i + 1) == tF32) &&
    ((upto nRhs).all fun i => tag (rb + 4 * i) == tU32 && tag (rb + 4 * i + 1) == tU32 && tag (rb + 4 * i + 2) == tF64) &&
    indicesOk
  match dl, ok with
  | some d, true => some
      { slot := slot, ctx := c, cls := b.fget (F.CTX_CFG_CLASS c), budget := b.fget (F.CTX_CFG_BUDGET c), kind := kind
        cert := bit ctl 3, refactor := bit ctl 4, warm := bit ctl 5, logical := logical, id := id, dl := d, tol := tol
        maxIt := if maxIt = 0 then b.fget F.SOL_MAXIT_MAXIT else maxIt, mat := mat, rhs := rhs, seq := x.slot (base + 9)
        ta := b.clk
        pairFloat := b.pwr.base == .single ||
          (b.fgetB F.SOL_STAT_FLOAT_READY && b.red.partnerFloat && !b.fgetB F.SOL_CFG_CERT_ONLY) }
  | _, _ => none

/-- A job slot holds a waiting or running job. -/
def Block.solHolds (b : Block) (slot : Nat) : Bool :=
  (b.sol.waiting.map (·.slot)) == some slot || (b.sol.running.map (·.job.slot)) == some slot

/-- A refused submission is counted (R194). -/
def Block.solRefuse (b : Block) (code : Nat) : Block × Nat := ((b.incSat F.SOL_REFUSE_CNT_COUNT).raiseEvt 0x30 7, code)

/-- SSUB of context `c`: the acceptance code, and the job waiting when it is accepted (R193, R194).
Log: 42 (DEDUCED). -/
def Block.ssub (b : Block) (c base slot : Nat) (p : CtxProg) (x : Cx) : Block × Nat :=
  let ctl := x.slot base
  let accept (b : Block) (j : SolJob) : Block × Nat :=
    let b := { b with sol := { b.sol with waiting := some j } }
    let b := ((b.fset (F.SOL_JOB_CTL_CTL slot) (low 18 ctl)).fset (F.SOL_JOB_STATE_STATE slot) 1).setRegN
      (Reg.SOL_JOB_SEQ slot) j.seq
    (b.solShow, solAccepted)
  if b.sol.down || b.solLanes == 0 then b.solRefuse solDownCode
  else if b.solHolds slot then b.solRefuse solSlotBusy
  else match b.solParse c base slot p x with
  | none => b.solRefuse solParam
  | some j =>
    if (((b.psOf j.logical).bind b.pat).any fun q => q.img.writer != c) then b.solRefuse solWriter
    else match b.sol.waiting with
    | none => accept b j
    | some w =>
      if j.cls < w.cls then accept ((b.solWithdraw.incSat F.SOL_DISPLACE_CNT_COUNT).raiseEvt 0x30 6) j
      else b.solRefuse solQueueFull

/-- The running job has come to its own end before it is cut (R202). -/
def Block.solEnded (b : Block) (r : SolRun) (made : SolAt) : Bool :=
  r.job.kind == 1 && (b.pat r.phys).any fun p => !(r.solve p (some made)).cut

/-- SCAN or CANCEL on a job slot (R196): a job that ends in the same clock ends with its own status, and the code is SOL_NONE
(R202). -/
def Block.solScan (b : Block) (slot : Nat) (made : SolAt) : Block × Nat :=
  if (b.sol.waiting.map (·.slot)) = some slot then (b.solWithdraw, solAccepted)
  else match b.sol.running with
  | some r => if r.job.slot = slot then (b.solEnd r (some made) true, if b.solEnded r made then solNone else solAccepted) else (b, solNone)
  | none => (b, solNone)

/-! ### Job start (R195) -/

/-- Set list positions from deltas, in order: the last entry for a position wins (R191). -/
def applyDeltas (l : List Nat) (d : List (Nat × Nat)) : List Nat := d.foldl (fun l e => setNth l e.1 e.2) l

/-- A matrix delta names an entry in a row of a completed block (R217). -/
def PatImg.touches (g : PatImg) (done : Nat) (mat : List (Nat × Nat)) : Bool :=
  let er := entryRows g.rows
  let blocks := g.factorOrder.take done
  mat.any fun e => blocks.contains (nth (0, 0, 0) g.rows (nth 0 er e.1)).2.2

/-- A job ends at its start with PATTERN_MISMATCH: a SOLVE publishes the slot's previous values, or none (R221). -/
def Block.solMismatch (b : Block) (j : SolJob) (certified : Bool) : Block :=
  let b := b.when (j.kind == 1) fun b =>
    let old := (mapGet none (b.sol.results.map fun e => (e.1, some e.2)) j.slot).map (·.x)
    b.solPublish j (solStatus jobMismatch j.logical false false certified false false) 0 inf64 (old.getD [])
  ((b.solClose j jobMismatch b.clk).solEndEvt j false).solShow

/-- The deadline passed before the job started. -/
def Block.dlPassed (b : Block) : SolDl → Bool
  | .afterStart => false
  | .tsu t => decide (t ≤ b.now)
  | .angle a pos => posReached (b.absPos a) pos

/-- The deadline fires: the TSU has reached it, or its base has while it runs forward (R68, R79, R222). -/
def Block.dlFires (b : Block) : SolDl → Bool
  | .afterStart => false
  | .tsu t => decide (t ≤ b.now)
  | .angle a pos => (!a || b.abs1Fires) && posReached (b.absPos a) pos

/-- DL_KIND 0 becomes SOL_DL_MAX after the start on the TSU (R192). -/
def Block.dlAtStart (b : Block) : SolDl → SolDl
  | .afterStart => .tsu (b.now + 1000000 * b.fget F.SOL_DL_MAX_DL_MAX)
  | d => d

/-- The deadline of a running job on an angle base fires where a step of that base passes it (R69, R87, R202).
Log: 178 (DESIGN CHOICE). -/
def Block.solCrossed (b : Block) (abs1 : Bool) : Block :=
  match b.sol.running with
  | some r => match r.job.dl with
    | .angle a _ =>
      if a = abs1 ∧ b.dlFires r.job.dl then
        let (v, b) := b.free
        b.solEnd r (some (SolAt.ofFree v)) false
      else b
    | _ => b
  | none => b

/-- A standby cannot run a job in the mode that the primary has fixed: its result comes from the primary (R370, R372). -/
def Block.solForeign (b : Block) (j : SolJob) : Bool :=
  b.onPair && b.role == roleStandby && b.fgetB F.RED_STAT_PAIR_OK && j.pairFloat && !j.cert && !b.fgetB F.SOL_STAT_FLOAT_READY

/-- The waiting job starts: lanes and mode, on a pair base float only where it was fixed so at acceptance (R207, R372),
pattern check, deltas, and for RESET the reset of its values. -/
def Block.solStart (b : Block) (j : SolJob) : Block :=
  if b.solForeign j then b else
  let b := { b with sol := { b.sol with waiting := none } }
  let certified := !b.fgetB F.SOL_STAT_FLOAT_READY || j.cert || !j.pairFloat ||
    (b.pwr.base == .single && b.fgetB F.SOL_CFG_CERT_ONLY)
  let hit := (b.psOf j.logical).bind fun k => (b.pat k).bind fun p => if p.img.id = j.id then some (k, p) else none
  match hit with
  | none => b.solMismatch j certified
  | some (k, p) =>
    let p1 := { p with vals := applyDeltas p.vals j.mat, rhs := applyDeltas p.rhs j.rhs }
    let p2 := if j.kind = 3 then { p1 with vals := p.img.values, rhs := p.img.rhs, sol := List.replicate p.img.n 0 } else p1
    let b := b.setPat k p2
    let b := b.when (!j.mat.isEmpty || j.kind == 3) fun b => b.fset (F.SOL_FACT_STALE k) 1
    let done := b.fget (F.SOL_FACT_DONE k)
    let pend := b.fgetB (F.SOL_FACT_PENDING k)
    let drop := pend && (j.kind == 3 || p.img.touches done j.mat || p.pendCert != certified)
    let b := b.when drop fun b => (b.fset (F.SOL_FACT_PENDING k) 0).fset (F.SOL_FACT_DONE k) 0
    let due := (pend && !drop) || !b.fgetB (F.SOL_FACT_VALID k) || b.fgetB (F.SOL_FACT_STALE k) || j.refactor ||
      b.fgetB (F.SOL_FACT_MODE k) != certified
    let r : SolRun :=
      { job := { j with dl := b.dlAtStart j.dl }, phys := k, ts := b.clk, lanes := b.solLanes, certified := certified
        kres := b.fget F.SOL_CFG_KRES, tau := b.fget F.SOL_TAU_E
        start := if j.warm then p2.sol else List.replicate p.img.n 0
        factor := due, resume := if pend && !drop then done else 0 }
    let b := { b with sol := { b.sol with running := some r } }
    let b := (b.fset (F.SOL_JOB_STATE_STATE j.slot) 2).solShow
    if j.kind = 1 ∧ (!certified && !(p2.vals.all finite32 && p2.rhs.all finite64)) then b.solEnd r none false
    else if j.kind = 1 ∧ b.dlPassed j.dl then b.solEnd r (some .startPass) false
    else b

/-! ### Self-test and faults (R208, R202, R225) -/

/-- FLOAT_READY returns to 0 and the self-test begins again (R208). -/
def Block.solRetest (b : Block) : Block :=
  let b := (b.fset F.SOL_STAT_FLOAT_READY 0).fset F.SOL_TEST_RESULT 1
  { b with sol := { b.sol with tested := 0 } }

/-- Both jobs end ABORTED without a result (R202, R225). -/
def Block.solAbortRun (b : Block) : Block :=
  match b.sol.running with
  | none => b
  | some r => (((((b.solKeep r).solLeave r).solClose r.job jobAborted r.ts)).solEndEvt r.job false).solShow

/-- The solver enters FAULT: current results become BAD, the page goes down (R202, R200, R59). -/
def Block.solFail (b : Block) : Block :=
  let b := (b.solAbortRun.solWithdraw).solRetest
  let b := { b with sol := { b.sol with down := true, results := b.sol.results.map fun (e : Nat × SolResult) => (e.1, { e.2 with faulted := true }) } }
  ((b.fset (F.BLK_STAT_FAULT 0x30) 1).fset (F.BLK_STAT_READY 0x30) 0).raiseEvt 0x30 8

/-- A lane group is removed (R25): with none left the unit is in FAULT (R204). -/
def Block.solDropGroup (b : Block) (g : Nat) : Block :=
  let b := (b.fset F.SOL_TEST_GROUP_OK (b.fget F.SOL_TEST_GROUP_OK &&& (15 - 2 ^ g))).raiseEvt 0x30 12
  let b := b.solShow
  b.when (b.solGroups == 0) (·.solFail)

/-- The whole test needs 40 ms of idle time (R208). -/
def selfTestNs : Nat := 40000000

/-- A chunk of the float self-test: the groups that fail, the divide unit's verdict, the service code of a failure. A group
that fails while a job waits is removed before that job starts (R225); only idle time counts toward the whole test. -/
def Block.solChunk (b : Block) (ns bad : Nat) (divOk : Bool) (fail : Nat) : Block :=
  if b.sol.running.isSome then b
  else
    let ready := b.fgetB F.SOL_STAT_FLOAT_READY
    let b := b.when (!ready) fun b => b.fset F.SOL_TEST_RESULT 1
    let failed := (upto 4).filter fun g => bit bad g && bit (b.fget F.SOL_TEST_GROUP_OK) g
    let b := b.when (!failed.isEmpty || !divOk) fun b =>
      ((b.fset F.SOL_TEST_FAIL_CODE (Nat.max 1 (low 16 fail))).raiseEvt 0x30 14)
    let b := b.when (ready && !failed.isEmpty) (·.solRetest)
    let b := b.forAll failed fun b g => b.solDropGroup g
    if !divOk then
      let b := (b.fset F.SOL_TEST_DIV_OK 0).solShow.solFail
      b.fset F.SOL_TEST_RESULT 3
    else if b.solGroups = 0 then b.fset F.SOL_TEST_RESULT 3
    else if ready || b.sol.waiting.isSome then b
    else
      let done := b.sol.tested + Nat.min ns 2000
      if selfTestNs ≤ done then
        let b := { b with sol := { b.sol with tested := 0, down := false } }
        let b := (b.fset (F.BLK_STAT_FAULT 0x30) 0).fset (F.BLK_STAT_READY 0x30) 1
        let b := (((b.fset F.SOL_TEST_DIV_OK 1).fset F.SOL_TEST_RESULT 2).fset F.SOL_TEST_FAIL_CODE 0).fset F.SOL_STAT_FLOAT_READY 1
        (b.raiseEvt 0x30 5).solShow
      else { b with sol := { b.sol with tested := done } }

/-! ### What the program latches (R198, R200) -/

/-- Quality byte and age of a job slot's elements; `index` is given for an unknown value. -/
def Block.solQuality (b : Block) (slot : Nat) (index : Option Nat) : Nat × Int :=
  match mapGet none (b.sol.results.map fun e => (e.1, some e.2)) slot with
  | none => (2 + 1 * 4, 2147483647)
  | some r =>
    let st := b.regN (Reg.SOL_JOB_RESULT slot)
    let age : Int := (b.now : Int) - r.te
    if r.faulted then (2 + 4 * 4, age)
    else if (index.any fun i => decide (r.x.length ≤ i)) && bits st 0 8 != jobMismatch then (2 + 5 * 4, age)
    else if bit st 8 then (0, age)
    else if bit st 9 then (1 + 2 * 4, age)
    else (2 + 3 * 4, age)

/-- Value of a solver element for an element of tag `t`. -/
def Block.solValue (b : Block) (src t : Nat) : Nat :=
  let slot := bits src 20 4
  let as (v : Nat) : Nat := if t = tF32 then (FFmt.convert fmt64 fmt32 v).bits else v
  match bits src 16 4 with
  | 0 => as (nth 0 ((mapGet none (b.sol.results.map fun e => (e.1, some e.2)) slot).map (·.x) |>.getD []) (bits src 0 16))
  | 1 => b.regN (Reg.SOL_JOB_RESULT slot)
  | 2 => as (b.pair (Reg.SOL_JOB_BOUND_LO slot))
  | 3 => b.regN (Reg.SOL_JOB_ITER slot)
  | 4 => b.regN (Reg.SOL_JOB_RSEQ slot)
  | _ => 0

/-! ### SOURCE words and bindings at load (R189, R198) -/

/-- A solver SOURCE is well formed: a listed item of a fitting tag, INDEX 0 but for ITEM 0. -/
def solSourceOk (e : IoEl) : Bool :=
  let item := bits e.source 16 4
  let t := e.tag
  !e.isOut && (match item with
    | 0 => t == tF64 || t == tF32
    | 2 => (t == tF64 || t == tF32) && bits e.source 0 16 == 0
    | 1 | 3 | 4 => t == tU32 && bits e.source 0 16 == 0
    | _ => false)

/-- Mapped unknowns of a job slot: the distinct indices over all contexts (R197). -/
def solMapped (ctxs : List (Nat × CtxProg)) (slot : Nat) : Nat :=
  ((ctxs.flatMap fun c => c.2.iomap.filterMap fun e =>
    if bits e.source 24 8 = 0x30 ∧ bits e.source 20 4 = slot ∧ bits e.source 16 4 = 0 then some (bits e.source 0 16)
    else none).eraseDups).length

/-- Bind the job slots as the code names them, given as (job slot, context) pairs, and show the mapped unknowns. -/
def Block.solBind (b : Block) (pairs : List (Nat × Nat)) (ctxs : List (Nat × CtxProg)) : Block :=
  b.forAll (upto 16) fun b j =>
    let b := match pairs.find? fun q => q.1 == j with
      | some q => (b.fset (F.SOL_JOB_STATE_BOUND j) 1).fset (F.SOL_JOB_STATE_OWNER j) q.2
      | none => (b.fset (F.SOL_JOB_STATE_BOUND j) 0).fset (F.SOL_JOB_STATE_OWNER j) 0
    b.fset (F.SOL_JOB_MAP_COUNT j) (solMapped ctxs j)

/-- A TSU step of `d` ns moves the TSU deadlines with it (R202, R82). -/
def Block.solStepTime (b : Block) (d : Int) : Block :=
  let move (j : SolJob) : SolJob := match j.dl with
    | .tsu t => { j with dl := .tsu ((t : Int) + d).toNat }
    | _ => j
  { b with sol := { b.sol with waiting := b.sol.waiting.map move,
                               running := b.sol.running.map fun r => { r with job := move r.job } } }

/-! ### Meanings -/

/-- CANCEL (R196): a write of SOL_JOB_CTL; a PRG write is refused with ACC_CLASS. Log: 44 (DEDUCED). -/
def execCancel (r : Requester) (job : Fin 16) (v : Word) (made : SolAt) (s : State) : Host.Outcome State Fault Refusal :=
  lift (fun b =>
    let prg := match r with
      | .prg _ => true
      | _ => false
    b.cmdWrite r (Reg.SOL_JOB_CTL job.val) v.toNat (codeIf prg accClass) fun b =>
      let b := b.fset (F.SOL_JOB_CTL_CANCEL job.val) 0
      if bit v.toNat 31 then (b.solScan job.val made).1 else b) s

/-- SOLVER_JOB_START (R195): the waiting job starts once none runs. Log: 44 (DEDUCED). -/
def execSolverJobStart (s : State) : Host.Outcome State Fault Refusal :=
  lift (fun b =>
    match b.sol.waiting, b.sol.running with
    | some j, none => if b.sol.down || b.modState == stHalt then b else b.solStart j
    | _, _ => b) s

/-- SOLVER_JOB_END (R221): the running job ends by its own condition. -/
def execSolverJobEnd (s : State) : Host.Outcome State Fault Refusal :=
  lift (fun b =>
    match b.sol.running with
    | some r => b.solEnd r none false
    | none => b) s

/-- SOLVER_DEADLINE (R222): the deadline, once reached, cuts a SOLVE; a step or end completed before it counts.
Log: 44 (DEDUCED). -/
def execSolverDeadline (made : SolAt) (s : State) : Host.Outcome State Fault Refusal :=
  lift (fun b =>
    match b.sol.running with
    | some r => if b.dlFires r.job.dl then b.solEnd r (some made) false else b
    | none => b) s

end Sys2Proof.Machine
end

