-- ==== Sys2Proof/Machine/Drive.lean ====
section
/-! DEFINITION. Image elements: their sources, and how commits, stops and forces drive output elements (R98, R107, R154, R155, R158, R166, R249). -/

namespace Sys2Proof.Machine

/-! ### Elements of the image in force -/

/-- Contexts of the image in force. -/
def Block.progCtxs (b : Block) : List (Nat × CtxProg) := (b.prog.map (·.ctxs)).getD []

/-- The program of a context. -/
def Block.ctxProg (b : Block) (c : Nat) : CtxProg := mapGet {} b.progCtxs c

/-- Global variables of the image in force. -/
def Block.progVids (b : Block) : List VidDef := (b.prog.map (·.vids)).getD []

/-- Execution state of a context. -/
def Block.cx (b : Block) (c : Nat) : Cx := mapGet {} b.ctxs c

def Block.setCx (b : Block) (c : Nat) (x : Cx) : Block := { b with ctxs := mapSet b.ctxs c x }

/-- Change the execution state of a context. -/
def Block.modCx (b : Block) (c : Nat) (f : Cx → Cx) : Block := b.setCx c (f (b.cx c))

/-- Output elements of a context, with their element index. -/
def CtxProg.outputs (p : CtxProg) : List (Nat × IoEl) :=
  ((upto p.iomap.length).map fun i => (i, p.el i)).filter fun e => e.2.isOut

/-- The contexts and output elements that carry a VID. -/
def Block.outsOf (b : Block) (vid : Nat) : List (Nat × Nat × IoEl) :=
  b.progCtxs.flatMap fun c => (c.2.outputs.filter fun e => e.2.vid == vid).map fun e => (c.1, e.1, e.2)

/-- STATE of CTX_STATE. -/
def csUndefined : Nat := 0
def csIdle : Nat := 1
def csActive : Nat := 2
def csStopped : Nat := 3
def csDeferred : Nat := 4
def csIsland : Nat := 5

def Block.ctxState (b : Block) (c : Nat) : Nat := b.fget (F.CTX_STATE_STATE c)

/-- The tag of a VID of the image in force: a global's type, or the tag of its image elements. -/
def Block.vidTagOf (b : Block) (vid : Nat) : Option Nat :=
  match b.progVids.find? fun d => d.vid == vid with
  | some d => some d.typ
  | none => ((b.progCtxs.flatMap fun c => c.2.iomap).find? fun e => e.vid == vid).map IoEl.tag

/-! ### Driving output elements -/

/-- The channel of a channel SOURCE. -/
def srcChannel (src : Nat) : Nat := bits src 16 6

/-- A SOURCE names a field channel. -/
def isChanSrc (src : Nat) : Bool := bits src 24 8 == 0x40

/-- An output element as its block holds it. -/
def Block.elOut (b : Block) (src : Nat) : OutEl :=
  if isChanSrc src then
    let c := b.chan (srcChannel src)
    ⟨0, c.last, c.active, c.forced⟩
  else b.outEl src

/-- Change an output element; a channel stage follows at once. -/
def Block.elMod (b : Block) (src : Nat) (f : OutEl → OutEl) : Block :=
  if isChanSrc src then
    let n := srcChannel src
    let e := f (b.elOut src)
    (b.modChan n fun c => { c with last := e.last, active := e.active, forced := e.forced }).chRefresh n
  else b.modOut src f

/-- The force in the table on a VID. -/
def Block.forceFor (b : Block) (vid : Nat) : Option FrcEntry := (b.frc.table.find? fun e => e.2.vid == vid).map (·.2)

/-- A commit drives every output element of the context, written or not, in RUN with its force (R107, R154, R155). Where a
later package has put this element at an orphan's position, the writer's commit drives it.
Log: 75 (DEDUCED), 184 (DESIGN CHOICE). -/
def Block.commitOutputs (b : Block) (c : Nat) : Block :=
  let x := b.cx c
  let vals := x.written.foldl (fun m e => mapSet m e.1 e.2) x.committed
  let b := b.setCx c { x with committed := vals, written := [], lostOut := [], commitT := some b.now }
  b.forAll (b.ctxProg c).outputs fun b e =>
    let force := if b.running then (b.forceFor e.2.vid).map (·.value) else none
    b.elMod e.2.source fun o =>
      { o with tag := e.2.tag, last := mapGet none (vals.map fun (q : Nat × Nat) => (q.1, some q.2)) e.1, active := !x.lostOut.contains e.1, forced := force }

/-- The writer stops: its output elements take their substitutes, forced ones stay forced (R133, R155). -/
def Block.substituteOutputs (b : Block) (c : Nat) : Block :=
  b.forAll (b.ctxProg c).outputs fun b e =>
    let force := (b.forceFor e.2.vid).map (·.value)
    b.elMod e.2.source fun o => { o with tag := e.2.tag, active := false, forced := if b.running then force else none }

/-- From a RESTART the elements are without a committed value (R107). -/
def Block.uncommitOutputs (b : Block) (c : Nat) : Block :=
  let b := b.modCx c fun x => { x with committed := [], written := [] }
  b.forAll (b.ctxProg c).outputs fun b e =>
    b.elMod e.2.source fun o => { o with tag := e.2.tag, last := none, active := false }

/-- A force appears on an output element whose writer does not run (R155). -/
def Block.forceStopped (b : Block) (vid : Nat) : Block :=
  b.forAll (b.outsOf vid) fun b e =>
    b.when (b.running && b.ctxState e.1 == csStopped) fun b =>
      b.elMod e.2.2.source fun o => { o with tag := e.2.2.tag, forced := (b.forceFor vid).map (·.value) }

/-- A force leaves an output element: at once where no writer runs, else at its writer's next commit (R158, R170). -/
def Block.releaseOutput (b : Block) (f : FrcEntry) : Block :=
  match f.orphan with
  | some src => b.elMod src fun o => { o with forced := none, active := false }
  | none => b.forAll (b.outsOf f.vid) fun b e =>
      b.when (b.ctxState e.1 == csStopped) fun b => b.elMod e.2.2.source fun o => { o with forced := none }

/-- A released global keeps the forced value as its own until its writer's next GST (R158). -/
def Block.releaseGlobal (b : Block) (f : FrcEntry) : Block :=
  match b.progVids.find? fun d => d.vid == f.vid with
  | none => b
  | some d =>
    let b := { b with globals := mapSet b.globals f.vid f.value }
    b.modCx d.writer fun x => { x with own := mapSet x.own f.vid f.value }

end Sys2Proof.Machine
end

