-- ==== Sys2Proof/Machine/Force.lean ====
section
/-! DEFINITION. Forces: commands, acknowledgment, release, and the table at start (R152 to R162). Log: 46 (DEDUCED). -/

namespace Sys2Proof.Machine

/-! ### Result codes (R162) -/

def frcOk : Nat := 0
def frcUndef : Nat := 1
def frcType : Nat := 2
def frcFull : Nat := 3
def frcSafety : Nat := 4
def frcOlc : Nat := 5
def frcNotForced : Nat := 6
def frcPair : Nat := 7
def frcBusy : Nat := 8
def frcState : Nat := 9

/-- A VID of an island element, or one that a class-S program reads or writes (R153). -/
def safetyVid (ctxs : List (Nat × CtxProg)) (vid : Nat) : Bool :=
  ctxs.any fun c => bits (nth 0 c.2.desc 0) 0 2 == 3 &&
    (c.2.imports.contains vid || c.2.iomap.any fun e => e.vid == vid && bits e.source 24 8 == 0xC0)

/-- FRC_STAT, BLK_STAT.FORCED and BLK_STAT.ORPHANS follow the table. -/
def Block.frcShow (b : Block) : Block :=
  let orphans := (b.frc.table.filter fun e => e.2.orphan.isSome).length
  let b := ((b.fset F.FRC_STAT_COUNT b.frc.table.length).fset F.FRC_STAT_ORPHANS orphans).fsetB F.FRC_STAT_CMD_BUSY b.frc.pending.isSome
  (b.fsetB ⟨Reg.BLK_STAT 0x28, 8, 1⟩ (!b.frc.table.isEmpty)).fsetB ⟨Reg.BLK_STAT 0x28, 9, 1⟩ (orphans != 0)

/-- The code a force command is refused with at take-up, 0 when it is taken up. -/
def Block.frcJudge (b : Block) (cmd vid tag : Nat) : Nat :=
  let st := b.modState
  let olc := b.fget F.OLC_STAT_STATE
  let forced := b.forceFor vid
  if b.frc.pending.isSome then frcBusy
  else if cmd = 4 then frcOk
  else if st = stStart ∨ st = stHalt then frcState
  else if b.onPair ∧ b.role ≠ rolePrimary then frcPair
  else if olc = 4 ∨ olc = 5 then frcOlc
  else if cmd = 3 then frcOk
  else if (b.frc.idle || (b.vidTagOf vid).isNone) && (cmd = 1 || forced.isNone) then frcUndef
  else if cmd = 2 then (if forced.isNone then frcNotForced else frcOk)
  else if safetyVid b.progCtxs vid then frcSafety
  else if b.vidTagOf vid ≠ some tag then frcType
  else if forced.isNone ∧ 512 ≤ b.frc.table.length then frcFull
  else frcOk

/-- READ copies an entry into the FRC_ENTRY registers; an empty entry reads VID 0. -/
def Block.frcRead (b : Block) (i : Nat) : Block :=
  let e := mapGet none (b.frc.table.map fun e => (e.1, some e.2)) i
  let f := e.getD ⟨0, 0, 0, 0, 0, false, none⟩
  let b := (b.setRegN Reg.FRC_ENTRY_VID f.vid).setPair Reg.FRC_ENTRY_LO f.value
  let b := ((((b.fsetB F.FRC_ENTRY_INFO_ORPHAN f.orphan.isSome).fsetB F.FRC_ENTRY_INFO_OUTPUT f.output).fset F.FRC_ENTRY_INFO_TAG f.tag).fset
    F.FRC_ENTRY_INFO_LEVEL f.level)
  (b.setRegN Reg.FRC_ENTRY_TIME_LO (f.time % 1000000000)).setRegN Reg.FRC_ENTRY_TIME_HI (low 32 (f.time / 1000000000))

/-- The entry a SET writes: HI ignored for 1-slot tags, a nonzero BOOL stored as 1 (R156). -/
def Block.frcEntry (b : Block) : FrcEntry :=
  let vid := b.regN Reg.FRC_VID
  let tag := b.fget F.FRC_QUAL_TAG
  let v := if wideTag tag then b.pair Reg.FRC_VAL_LO else b.regN Reg.FRC_VAL_LO
  ⟨vid, tag, if tag = tBool then (if v = 0 then 0 else 1) else v, b.fget F.FRC_QUAL_LEVEL, b.now, !(b.outsOf vid).isEmpty,
    (b.forceFor vid).bind (·.orphan)⟩

/-- A write of FRC_CMD is taken up: READ is performed, the others wait for durability (R156, R157).
Log: 46 (DEDUCED). -/
def Block.frcCommand (b : Block) (r : Requester) (v : Nat) : Block :=
  let cmd := bits v 0 3
  let b := b.fset F.FRC_CMD_CMD 0
  if cmd = 0 then b
  else
    let e := b.frcEntry
    let code := b.frcJudge cmd e.vid e.tag
    if code ≠ 0 then (b.fset F.FRC_RES_CODE code).raiseEvt 0x28 5
    else if cmd = 4 then ((b.frcRead (bits v 16 9)).fset F.FRC_RES_CODE frcOk).raiseEvt 0x28 5
    else
      let b := ({ b with frc := { b.frc with pending := some ⟨cmd, e, r⟩ } }.frcShow).celRequest .forceTable
      b.when (b.onPair && b.fgetB F.RED_STAT_PAIR_OK) fun b => b.send .pair "force" [cmd, e.vid, e.tag, e.value, e.level, e.time]

/-- The lowest free entry number. -/
def frcFree (t : List (Nat × FrcEntry)) : Nat := ((upto 512).find? fun i => !(t.any fun e => e.1 == i)).getD 511

/-- The table after a command: SET overwrites the VID's entry or takes a free one. -/
def frcNext (c : FrcCmd) (t : List (Nat × FrcEntry)) : List (Nat × FrcEntry) :=
  match c.cmd with
  | 1 => match t.find? fun e => e.2.vid == c.entry.vid with
    | some (i, _) => storePut t i c.entry
    | none => storePut t (frcFree t) c.entry
  | 2 => t.filter fun e => e.2.vid != c.entry.vid
  | _ => []

/-- Number of the SSP session of a requester, 0 for the others. -/
def reqSession : Requester → Nat
  | .net n => n
  | _ => 0

/-- Record a SET or RELEASE: FRC_VID, FRC_QUAL and the value registers as the entry gives them, then the old value and the
session (R158, R405). Log: 161 (DEDUCED). -/
def Block.frcRecord (b : Block) (evt : Nat) (e : FrcEntry) (old session : Nat) : Block :=
  let wide := wideTag e.tag
  let extra := [low 32 old] ++ (if wide then [low 32 (old / 2 ^ 32)] else []) ++ [session]
  b.recBlk 0x28 evt ([(Reg.FRC_VID, e.vid), (Reg.FRC_QUAL, e.tag * 256 + e.level), (Reg.FRC_VAL_LO, low 32 e.value)] ++
    (if wide then [(Reg.FRC_VAL_HI, low 32 (e.value / 2 ^ 32))] else []) ++
    (upto extra.length).map fun i => (0x28028 + 4 * i, nth 0 extra i))

/-- Image elements of the program in force. -/
def Block.allEls (b : Block) : List IoEl := b.progCtxs.flatMap fun c => c.2.iomap

/-- A command takes effect on this unit's table and elements; a SET on a VID of a channel ends its calibration (R253). -/
def Block.frcApply (b : Block) (c : FrcCmd) : Block :=
  let old := if b.frc.idle then [] else b.frc.table
  let gone := match c.cmd with
    | 1 => []
    | 2 => old.filter fun e => e.2.vid == c.entry.vid
    | _ => old
  let before := (b.forceFor c.entry.vid).map (·.value) |>.getD 0
  let b := { b with frc := { b.frc with
    table := if b.frc.idle then [] else frcNext c b.frc.table
    stored := if b.frc.idle && c.cmd != 3 then b.frc.stored else frcNext c b.frc.stored } }
  let b := b.forAll gone fun b e => (b.releaseGlobal e.2).releaseOutput e.2
  let b := b.when (c.cmd == 1) fun b => (b.forceStopped c.entry.vid).calForced b.allEls c.entry.vid
  let s := reqSession c.req
  let b := match c.cmd with
    | 1 => (b.raiseEvt 0x28 0).frcRecord 0 c.entry before s
    | 2 => b.forAll gone fun b e => (b.raiseEvt 0x28 1).frcRecord 1 e.2 e.2.value s
    | _ => (b.forAll gone fun b e => b.frcRecord 1 e.2 e.2.value s).event 0x28 2 [Reg.FRC_STAT] [s]
  b.frcShow

/-- From the acknowledgment to the instant at which both units apply a command: the longest a message over PAIR takes
(R376). Log: 162 (DESIGN CHOICE). -/
def pairLead : Nat := 10000

/-- The waiting command ends: it acts, or is refused with FRC_PAIR. -/
def Block.frcEnd (b : Block) (c : FrcCmd) (ok : Bool) : Block :=
  let b := { b with frc := { b.frc with pending := none } }
  if ok then ((b.frcApply c).fset F.FRC_RES_CODE frcOk).raiseEvt 0x28 5
  else (b.frcShow.fset F.FRC_RES_CODE frcPair).raiseEvt 0x28 5

/-- The waiting command is durable: it is acknowledged, and acts unless the partner could not apply it (R157). With a
partner on PAIR both units apply it from one TSU latch instant, which the primary names (R161).
Log: 162 (DESIGN CHOICE). -/
def Block.frcAck (b : Block) (partnerOk : Bool) : Block :=
  match b.frc.pending with
  | none => b
  | some c =>
    if b.frc.agreed.isSome then b
    else if b.onPair && !partnerOk then b.frcEnd c false
    else if b.onPair && b.fgetB F.RED_STAT_PAIR_OK then
      { b with frc := { b.frc with agreed := some (c, b.now + pairLead) } }.send .pair "force act" [c.entry.vid, b.now + pairLead]
    else b.frcEnd c true

/-- The instant of the agreed command: it acts; on the primary it is the waiting one (R161). -/
def Block.frcDue (b : Block) : Block :=
  match b.frc.agreed with
  | none => b
  | some (c, t) =>
    if b.now < t then b
    else
      let b := { b with frc := { b.frc with agreed := none } }
      if b.frc.pending.isSome then b.frcEnd c true else b.frcApply c

/-- The table at a start with a verified image, or at a whole-image load from step 2 (R160). -/
def Block.frcLoad (b : Block) (atStart : Bool) : Block :=
  let t := if b.frc.idle || atStart then b.frc.stored else b.frc.table
  let b := { b with frc := { b.frc with idle := false, pending := none, agreed := none } }
  if atStart && b.fgetB F.FRC_CFG_CLEAR_AT_START && !t.isEmpty then
    let b := { b with frc := { b.frc with table := [], stored := [] } }
    (b.celRequest .forceTable).frcShow.event 0x28 2 [Reg.FRC_STAT]
  else
    let keeps (f : FrcEntry) : Bool := b.vidTagOf f.vid == some f.tag && !safetyVid b.progCtxs f.vid
    let kept := t.filter fun e => keeps e.2
    let lost := t.filter fun e => !keeps e.2
    let fresh := kept.map fun (e : Nat × FrcEntry) => (e.1, { e.2 with orphan := none, output := !(b.outsOf e.2.vid).isEmpty })
    let b := { b with frc := { b.frc with table := fresh, stored := fresh } }
    let b := b.when (!lost.isEmpty) (·.celRequest .forceTable)
    let b := b.frcShow
    let b := b.forAll lost fun b e =>
      b.event 0x28 4 [Reg.FRC_STAT] [e.2.vid, e.2.tag, low 32 e.2.value, low 32 (e.2.value / 2 ^ 32)]
    b.when (atStart && !kept.isEmpty) (·.raiseEvt 0x28 3)

/-- The image is refused at start: no force acts, the stored table stays (R160). -/
def Block.frcIdle (b : Block) : Block := { b with frc := { b.frc with table := [], idle := true, pending := none, agreed := none } }.frcShow

/-- A write of FRC_CMD. -/
def Block.frcCmdWrite (b : Block) (r : Requester) (v : Nat) : Block := b.cmdWrite r Reg.FRC_CMD v [] fun b => b.frcCommand r v

/-! ### Meanings -/

def execSet (r : Requester) (s : State) : Host.Outcome State Fault Refusal := lift (fun b => b.frcCmdWrite r 1) s
def execRelease (r : Requester) (s : State) : Host.Outcome State Fault Refusal := lift (fun b => b.frcCmdWrite r 2) s
def execReleaseAll (r : Requester) (s : State) : Host.Outcome State Fault Refusal := lift (fun b => b.frcCmdWrite r 3) s
def execReadForce (r : Requester) (index : Fin 512) (s : State) : Host.Outcome State Fault Refusal :=
  lift (fun b => b.frcCmdWrite r (index.val * 0x10000 + 4)) s

/-- FORCE_ACKNOWLEDGE (R157): `partnerOk` is the partner's answer on a pair base (R161).
Log: 46 (DEDUCED), 208 (DEDUCED). -/
def execForceAcknowledge (partnerOk : Bool) (s : State) : Host.Outcome State Fault Refusal := lift (fun b =>
  b.when (!b.ssp.stall) fun b => b.frcAck partnerOk) s

end Sys2Proof.Machine
end

