-- ==== Sys2Proof/Machine/Place.lean ====
section
/-! DEFINITION. Home engines and resident places: declared load, placement and displacement (R27, R90, R127). -/

namespace Sys2Proof.Machine

/-! ### Descriptors (R120) -/

/-- Descriptor word `k` of a context. -/
def CtxProg.word (p : CtxProg) (k : Nat) : Nat := nth 0 p.desc k
def CtxProg.cls (p : CtxProg) : Nat := bits (p.word 0) 0 2
def CtxProg.trig (p : CtxProg) : Nat := bits (p.word 0) 2 3
def CtxProg.period (p : CtxProg) : Nat := p.word 1
def CtxProg.phase (p : CtxProg) : Nat := p.word 2
def CtxProg.mask (p : CtxProg) : Nat := bits (p.word 3) 0 16
def CtxProg.wcet (p : CtxProg) : Nat := p.word 4

/-- WCET over cycle length in engines: 0 for class C, for ANGLE1 and EVENT, and where WCET is 0; ANGLE0 at 65 Hz. -/
def CtxProg.load (p : CtxProg) : Rat :=
  if p.cls = 2 ∨ p.wcet = 0 ∨ p.period = 0 then 0
  else if p.trig = 1 then (p.wcet : Rat) / (6000 * p.period : Nat)
  else if p.trig = 2 then ((p.wcet * 65 * 2 ^ 32 : Nat) : Rat) / (600000000 * p.period : Nat)
  else 0

/-- The order of R27: class, then context number; lower ranks first. -/
def CtxProg.rank (p : CtxProg) (c : Nat) : Nat := p.cls * 256 + c

/-- Contexts of class A, B and C in the order of R27. -/
def placeOrder (ctxs : List (Nat × CtxProg)) : List (Nat × CtxProg) :=
  ([0, 1, 2].flatMap fun k => (upto 256).flatMap fun c => ctxs.filter fun e => e.1 == c && e.2.cls == k)

/-! ### Placement -/

/-- An engine that may take contexts: its number, declared load, residents with place, free places. -/
structure EngUse where
  eng : Nat
  load : Rat
  resident : List (Nat × Nat)
  free : List Nat

/-- The engine of a mask with a free place, the least load, then fewest residents, then the lowest number. -/
def bestEngine (mask : Nat) (l : List EngUse) : Option EngUse :=
  (l.filter fun e => bit mask e.eng && !e.free.isEmpty).foldl (fun best e => match best with
    | none => some e
    | some f =>
      if e.load < f.load then some e
      else if e.load = f.load ∧ e.resident.length < f.resident.length then some e
      else some f) none

/-- Give context `c` a place on an engine: the lowest free one. -/
def EngUse.take (e : EngUse) (c : Nat) (p : CtxProg) : EngUse :=
  { e with load := e.load + p.load, resident := e.resident ++ [(c, nth 0 e.free 0)], free := e.free.drop 1 }

/-- Replace an engine in the list. -/
def putEngine (l : List EngUse) (e : EngUse) : List EngUse := l.map fun f => if f.eng = e.eng then e else f

/-- Place one context; none without a free place in its mask. -/
def placeOne (l : List EngUse) (c : Nat) (p : CtxProg) : Option (List EngUse × Nat × Nat) :=
  (bestEngine p.mask l).map fun e => (putEngine l (e.take c p), e.eng, nth 0 e.free 0)

/-- Sixteen empty engines. -/
def freshEngines : List EngUse := (upto 16).map fun n => ⟨n, 0, [], upto 16⟩

/-- Every context finds a place with all 16 engines available (R121). -/
def allPlaced (ctxs : List (Nat × CtxProg)) : Bool :=
  ((placeOrder ctxs).foldl (fun (acc : Option (List EngUse)) e => acc.bind fun l =>
    (placeOne l e.1 e.2).map (·.1)) (some freshEngines)).isSome

/-! ### The engines as they stand -/

def esIdle : Nat := 0
def esRun : Nat := 1
def esWait : Nat := 2
def esParked : Nat := 3
def esTest : Nat := 4
def esFault : Nat := 5

def Block.engState (b : Block) (n : Nat) : Nat := b.fget (F.ENG_STATE_STATE n)

def Block.eng (b : Block) (n : Nat) : EngState := mapGet {} b.sched.engines n

def Block.modEng (b : Block) (n : Nat) (f : EngState → EngState) : Block :=
  { b with sched := { b.sched with engines := mapSet b.sched.engines n (f (b.eng n)) } }

/-- SCH_ENG_AVAIL bit of an engine. -/
def Block.engAvail (b : Block) (n : Nat) : Bool := bit (b.fget F.SCH_ENG_AVAIL_AVAIL) n

/-- Contexts placed on an engine, by context number. -/
def Block.residents (b : Block) (n : Nat) : List Nat :=
  (upto 256).filter fun c => b.fgetB (F.CTX_STATE_PLACED c) && b.fget (F.CTX_STATE_ENGINE c) == n

/-- Contexts whose home an engine is or is to become: moving ones count where they go. -/
def Block.assigned (b : Block) (n : Nat) : List Nat :=
  (upto 256).filter fun c => match (b.cx c).moveTo with
    | some m => m == n
    | none => b.fgetB (F.CTX_STATE_PLACED c) && b.fget (F.CTX_STATE_ENGINE c) == n

/-- An engine as placement sees it: withdrawn places and places awaited by moving contexts are not free. -/
def Block.engUse (b : Block) (n : Nat) : EngUse :=
  let rs := b.assigned n
  let taken := (b.residents n).map fun c => (b.cx c).place
  let reserved := (rs.filter fun c => (b.cx c).moveTo.isSome).map fun c => (b.cx c).movePlace
  ⟨n, (rs.map fun c => (b.ctxProg c).load).foldl (· + ·) 0, rs.map fun c => (c, (b.cx c).place),
    (upto 16).filter fun k => !taken.contains k && !(b.eng n).withdrawn.contains k && !reserved.contains k⟩

/-- Engines that may take contexts. -/
def Block.engUses (b : Block) : List EngUse := ((upto 16).filter b.engAvail).map b.engUse

/-- ENG_RESk and ENG_STATE.RESIDENT follow the placements; the last context leaving an engine begins the time of R143. -/
def Block.engShow (b : Block) (n : Nat) : Block :=
  let rs := b.residents n
  let b := b.when (rs.isEmpty && b.fget (F.ENG_STATE_RESIDENT n) != 0) fun b => b.timed (.engEmpty n)
  let b := b.fset (F.ENG_STATE_RESIDENT n) rs.length
  b.forAll (upto 8) fun b k =>
    let at_ (p : Nat) : Option Nat := rs.find? fun c => (b.cx c).place == p
    let b := match at_ (2 * k) with
      | some c => (b.fset (F.ENG_RES_VALID_LO n k) 1).fset (F.ENG_RES_CTX_LO n k) c
      | none => (b.fset (F.ENG_RES_VALID_LO n k) 0).fset (F.ENG_RES_CTX_LO n k) 0
    match at_ (2 * k + 1) with
      | some c => (b.fset (F.ENG_RES_VALID_HI n k) 1).fset (F.ENG_RES_CTX_HI n k) c
      | none => (b.fset (F.ENG_RES_VALID_HI n k) 0).fset (F.ENG_RES_CTX_HI n k) 0

def Block.engShowAll (b : Block) : Block := b.forAll (upto 16) Block.engShow

/-- Put a context into a place. -/
def Block.putPlace (b : Block) (c n k : Nat) : Block :=
  let b := (b.fset (F.CTX_STATE_PLACED c) 1).fset (F.CTX_STATE_ENGINE c) n
  b.modCx c fun x => { x with place := k }

/-- Take a context from its place. -/
def Block.dropPlace (b : Block) (c : Nat) : Block := b.fset (F.CTX_STATE_PLACED c) 0

/-- Set CTX_STATE.STATE; SCH_STOPPEDk shows the stopped contexts, and the time ACTIVE is kept (R171). -/
def Block.setCtxState (b : Block) (c st : Nat) : Block :=
  let was := b.ctxState c
  let b := if was = csActive ∧ st ≠ csActive then
      b.modCx c fun x => { x with activeNs := x.activeNs + (b.now - x.activeFrom) }
    else if st = csActive ∧ was ≠ csActive then b.modCx c fun x => { x with activeFrom := b.now }
    else b
  (b.fset (F.CTX_STATE_STATE c) st).fsetB ⟨Reg.SCH_STOPPED (c / 32), c % 32, 1⟩ (st == csStopped)

/-- A scheduler command is done (R150). -/
def Block.schDone (b : Block) (code : Nat) : Block := (b.fset F.SCH_CMD_RES_CODE code).raiseEvt 0x20 9

/-- A context stops with its cause; its outputs take their substitutes (R133, R134). A place it was to leave is free, and
a STOP command that waited for its completion is done (R27, R149). -/
def Block.stopCtx (b : Block) (c why : Nat) : Block :=
  let x := b.cx c
  let b := (b.setCtxState c csStopped).fset (F.CTX_STATE_STOP_WHY c) why
  let b := b.modCx c fun x => { x with act := .idle, wait := none, trig := false, stopAtEnd := false, dropAtEnd := false, written := [] }
  let b := b.when x.dropAtEnd fun b => b.dropPlace c
  let b := b.when x.stopAtEnd fun b => b.schDone 0
  let b := b.substituteOutputs c
  let b := b.raiseEvt 0x20 3
  b.when (why == 3) fun b => b.event 0x20 7 [Reg.CTX_STATE c]

end Sys2Proof.Machine
end

