-- ==== Sys2Proof/Machine/Latch.lean ====
section
/-! DEFINITION. The input latch: values, quality and age of input elements, foreign globals and forces (R20, R22, R97, R98, R106, R154). -/

namespace Sys2Proof.Machine

/-- Largest age (R106). -/
def ageMax : Int := 2147483647

/-- An element that has never received a value. -/
def neverEl (cause : Nat) : InEl := ⟨0, 2 + 4 * cause, ageMax⟩

/-- Age at the latch of a stamp in TSU ns: negative for a stamp after it. Log: 50 (DEDUCED). -/
def Block.ageOf (b : Block) (t : Nat) : Int := (b.now : Int) - t

/-- A channel's input element (R229, R230, R267); the state of a DI or DO is a BOOL. A value is kept from the last sample; CH_STAT is read at the latch.
Log: 50 (DEDUCED). -/
def Block.chEl (b : Block) (src : Nat) : InEl :=
  let n := srcChannel src
  let item := bits src 8 8
  if 16 ≤ item then
    let (lvl, cause) := b.hartQuality n
    let h := b.hartItem n
    if h.updated then
      ⟨if item = 20 then h.status else nth 0 h.vars (item - 16), lvl + 4 * cause, b.ageOf h.time⟩
    else neverEl cause
  else
    let q := b.fget (F.CH_STAT_LEVEL n) + 4 * b.fget (F.CH_STAT_CAUSE n)
    if item = 3 then ⟨b.regN (Reg.CH_STAT n), q, 0⟩
    else if !(b.chan n).valued then ⟨0, q, ageMax⟩
    else
      let t := (b.regN Reg.TSU_EPOCH * 2 ^ 32 + b.regN (Reg.CH_TIME_HI n)) * 1000000000 + b.regN (Reg.CH_TIME_LO n)
      let v := b.regN (if item = 2 then Reg.CH_RAW n else Reg.CH_VALUE n)
      let state := item != 2 && (isDiMode (b.chMode n) || isDoMode (b.chMode n))
      ⟨if state then (if v = 0 then 0 else 1) else v, q, b.ageOf t⟩

/-- A station-link input element (R318, R319). -/
def Block.lnkEl (b : Block) (src tag : Nat) : InEl :=
  let a := srcStation src
  let (lvl, cause) := b.lnkQuality a
  let st := b.lnkSt a
  if st.valued then ⟨b.lnkValue src tag, lvl + 4 * cause, b.ageOf st.sample⟩ else neverEl cause

/-- A CAN input element (R350): ITEM 4 carries the start of frame of the last entry. Log: 50 (DEDUCED). -/
def Block.canEl (b : Block) (src : Nat) : InEl :=
  let p := bits src 24 8 - 0x90
  let (lvl, cause) := b.canQuality p
  let x := b.canPort p
  let age := if canItem src = 4 then
      match x.ring.find? fun e => decide (0 < x.stored) && e.2.num == low 32 (x.stored - 1) with
      | some e => b.ageOf (e.2.frame.sofSec * 1000000000 + e.2.frame.sofNs)
      | none => ageMax
    else 0
  ⟨b.canValue p src, lvl + 4 * cause, age⟩

/-- The input element of a SOURCE word as it stands, for an element of tag `tag`; a class-S element has no value here. -/
def Block.elIn (b : Block) (src tag : Nat) : InEl :=
  let blk := bits src 24 8
  if blk = 0x40 then b.chEl src
  else if blk = 0xA8 then b.lnkEl src tag
  else if blk = 0x30 then
    let slot := bits src 20 4
    let (q, age) := b.solQuality slot (if bits src 16 4 = 0 then some (bits src 0 16) else none)
    ⟨b.solValue src tag, q, age⟩
  else if 0x90 ≤ blk ∧ blk ≤ 0x93 then b.canEl src
  else neverEl 1

/-- A global as its writer last published it, else its INIT (R97). -/
def Block.globalOwn (b : Block) (vid : Nat) : Nat :=
  mapGet (((b.progVids.find? fun d => d.vid == vid).map (·.init)).getD 0) b.globals vid

/-- The published value of a global: the force's where it is forced, else as last published, else its INIT (R97, R98). -/
def Block.globalNow (b : Block) (vid : Nat) : Nat :=
  match b.forceFor vid with
  | some f => f.value
  | none => b.globalOwn vid

/-- Forces in force as a latch takes them; none acts outside RUN and RUN-DEGRADED (R152, R155). -/
def Block.forcesNow (b : Block) : List ForcedVal :=
  if b.running then b.frc.table.map fun e => ⟨e.2.vid, e.2.tag, e.2.value, e.2.level⟩ else []

/-- LNK_LATE_CNT counts a latch in which a link element carries cause 5 (R319, R321). -/
def Block.lateLatch (b : Block) (c : Nat) : Block :=
  let x := b.cx c
  b.when ((x.inputs.zip (b.ctxProg c).iomap).any fun e => bits e.2.source 24 8 == 0xA8 && e.1.quality == 21) fun b =>
    b.incSat F.LNK_LATE_CNT_COUNT

/-- An input element that the standby takes from the primary: of a channel, of CAN, and of a station whose frame reached only
the primary (R370). -/
def Block.mirrored (b : Block) (src : Nat) : Bool :=
  let blk := bits src 24 8
  let a := srcStation src - 1
  blk == 0x40 || decide (0x90 ≤ blk ∧ blk ≤ 0x93) || (blk == 0xA8 && bit b.red.receipt a && !bit b.red.partnerReceipt a)

/-- The latch set of a context: latch instant, positions, and of each element taken its index, value, quality and age. -/
def Block.latchSet (b : Block) (c : Nat) : List Nat :=
  let x := b.cx c
  let io := (b.ctxProg c).iomap
  [c, x.latchT, x.pos0, x.pos1] ++ ((upto io.length).filter fun i => !((b.ctxProg c).el i).isOut && b.mirrored ((b.ctxProg c).el i).source).flatMap fun i =>
    let e := nth {} x.inputs i
    [i, e.value, e.quality, ofInt 32 e.age]

def Block.sendLatch (b : Block) (c : Nat) : Block := b.toPartner "latch" (b.latchSet c)

/-- One coherent snapshot of a context's inputs, foreign globals, forces and base positions (R20); the primary of a pair sends
it to the standby (R361, R370). -/
def Block.latchCx (b : Block) (c : Nat) : Block :=
  let p := b.ctxProg c
  (b.modCx c fun x => { x with
    inputs := p.iomap.map fun e => if e.isOut then {} else b.elIn e.source e.tag
    latched := p.imports.map b.globalNow
    forced := b.forcesNow
    latchT := b.now
    noTime := !b.fgetB F.TSU_STAT_TIME_VALID
    pos0 := b.absPos false
    pos1 := b.absPos true }).lateLatch c |>.sendLatch c

end Sys2Proof.Machine
end

