-- ==== Sys2Proof/Machine/Cycle.lean ====
section
/-! DEFINITION. Cycles: triggers and skips, dispatch and pre-emption, instructions, exceptions, the output commit (R97, R107, R110 to R117, R127 to R136, R139, R140, R483). -/

namespace Sys2Proof.Machine

/-! ### Engines and their cycles -/

def Block.ctxClass (b : Block) (c : Nat) : Nat := b.fget (F.CTX_CFG_CLASS c)
def Block.homeOf (b : Block) (c : Nat) : Nat := b.fget (F.CTX_STATE_ENGINE c)

/-- The order of R128 as a number: class, a pre-empted cycle first in its class, then context number. -/
def Block.rankOf (b : Block) (c : Nat) : Nat :=
  b.ctxClass c * 512 + if (b.cx c).act == .preempted then 0 else 1 + c

/-- A cycle that is begun and neither runs nor waits for an answer. -/
def Cx.resumable (x : Cx) : Bool := x.act == .ready || x.act == .preempted

/-- Engine clocks spent on a context's cycle: executing and switching (R110, R136). Log: 56 (DEDUCED). -/
def Block.spend (b : Block) (c clocks : Nat) : Block :=
  let n := b.homeOf c
  let b := b.setPair (Reg.ENG_BUSY_LO n) ((b.pair (Reg.ENG_BUSY_LO n) + clocks) % 2 ^ 64)
  let b := b.when (b.engAvail n) fun b => b.modEng n fun e => { e with winClocks := e.winClocks + clocks }
  b.modCx c fun x => { x with clocks := x.clocks + clocks }

/-- The cycle's energy goes to its budget class and its engine when it completes or is abandoned (R136). -/
def Block.chargeCycle (b : Block) (c : Nat) : Block :=
  let e := b.regN Reg.PWR_COEF_ENG * (b.cx c).clocks
  let k := b.fget (F.CTX_CFG_BUDGET c)
  let b := b.modEng (b.homeOf c) fun g => { g with winEnergy := g.winEnergy + e }
  let b := { b with sched := { b.sched with ledger := mapSet b.sched.ledger k (mapGet 0 b.sched.ledger k + e) } }
  b.modCx c fun x => { x with clocks := 0 }

/-- The context whose cycle an engine runs. -/
def Block.runningOn (b : Block) (n : Nat) : Option Nat := (b.residents n).find? fun c => (b.cx c).act == .running

/-- Of a list of contexts, the first in the order of R128. -/
def Block.firstOf (b : Block) (l : List Nat) : Option Nat :=
  l.foldl (fun best c => match best with
    | none => some c
    | some d => if b.rankOf c < b.rankOf d then some c else some d) none

/-- ENG_STATE.STATE and CUR_CTX of an engine in service follow its cycles. -/
def Block.engFollow (b : Block) (n : Nat) : Block :=
  if b.engState n = esParked ∨ b.engState n = esTest ∨ b.engState n = esFault then b
  else match b.runningOn n with
    | some c => (b.fset (F.ENG_STATE_STATE n) esRun).fset (F.ENG_STATE_CUR_CTX n) c
    | none =>
      let waits := (b.residents n).any fun c => (b.cx c).act == .waiting
      b.fset (F.ENG_STATE_STATE n) (if waits then esWait else esIdle)

/-- Switch an engine to a context's cycle: 72 clocks (R110), also where no other context ran since its last cycle or its
wait began. Log: 167 (DESIGN CHOICE). -/
def Block.switchTo (b : Block) (c : Nat) : Block :=
  let n := b.homeOf c
  let b := b.modCx c fun x => { x with act := .running }
  let b := (b.incWrap (F.ENG_SWITCH_CNT_COUNT n)).spend c 72
  b.engFollow n

/-- The cycle that runs on an engine is pre-empted at an instruction boundary (R114, R128). -/
def Block.preempt (b : Block) (n : Nat) : Block :=
  match b.runningOn n with
  | some c => b.modCx c fun x => { x with act := .preempted }
  | none => b

/-! ### Admission (R129, R138 to R140, R144, R172) -/

/-- Thermal state: 0 NORMAL, 1 WARM, 2 HOT, 3 CRITICAL. -/
def Block.thermal (b : Block) : Nat := b.fget F.PWR_THERM_STATE

/-- Budget class `k` has spent less than its budget in this window; 2^-16 pJ against mJ (R140). -/
def Block.budgetLeft (b : Block) (k : Nat) : Bool :=
  let lim := b.fget (F.PWR_BUDGET_BUDGET k)
  lim == 0xFFFF || decide (mapGet 0 b.sched.ledger k < lim * 65536 * 1000000000)

/-- Class C is admitted by the thermal state and the window budget; the other classes always are. -/
def Block.admitted (b : Block) (c : Nat) : Bool :=
  b.ctxClass c != 2 || b.thermal == 0 || (b.thermal == 1 && b.budgetLeft (b.fget (F.CTX_CFG_BUDGET c)))

/-- A BACKGROUND context is always ready between cycles (R125). -/
def Block.isBackground (b : Block) (c : Nat) : Bool := b.trigOf c == 5

/-- A dispatch of the context waits, and nothing of R140, R144 or R172 holds it. -/
def Block.awaits (b : Block) (c : Nat) : Bool :=
  let x := b.cx c
  let s := b.ctxState c
  let n := b.homeOf c
  (x.trig || b.isBackground c) && s == csIdle && b.fgetB (F.CTX_STATE_PLACED c) &&
    !x.handed && !decide (b.now < x.heldUntil) && !x.dropAtEnd &&
    (b.engState n == esIdle || b.engState n == esRun || b.engState n == esWait)

/-- Whether a waiting dispatch is due on its engine: no cycle of its own or a higher class runs, no earlier-ordered
cycle is ready or awaits its own dispatch (R128, R129). A BACKGROUND context blocks no other by its number.
Log: 181 (DESIGN CHOICE). -/
def Block.dispatchable (b : Block) (c : Nat) : Bool :=
  b.running && b.awaits c && (b.residents (b.homeOf c)).all fun d =>
    d == c ||
      (!((b.cx d).act == .running && decide (b.ctxClass d ≤ b.ctxClass c)) &&
        !((b.cx d).resumable && decide (b.rankOf d < b.rankOf c)) &&
        !((b.cx d).trig && b.awaits d && b.admitted d && decide (b.rankOf d < b.rankOf c)))

/-- An engine without a running cycle resumes its first ready one, unless a dispatch of an earlier-ordered context
is due (R128). -/
def Block.engNext (b : Block) (n : Nat) : Block :=
  match b.runningOn n with
  | some _ => b.engFollow n
  | none =>
    match b.firstOf ((b.residents n).filter fun c => (b.cx c).resumable) with
    | none => b.engFollow n
    | some c =>
      let due := b.running && (b.residents n).any fun d =>
        (b.cx d).trig && b.awaits d && b.admitted d && decide (b.rankOf d < b.rankOf c)
      if due then b.engFollow n else b.switchTo c

/-- A cycle is abandoned: charged, nothing committed; what it wrote in slots, flags and own globals stays (R483). -/
def Block.abandon (b : Block) (c : Nat) : Block :=
  let b := b.chargeCycle c
  let b := b.modCx c fun x => { x with act := .idle, wait := none, written := [] }
  b.when (b.ctxState c == csActive) fun b => b.setCtxState c csIdle

/-! ### Between cycles -/

/-- What CTX_STATE.STATE reads between cycles: class C is DEFERRED in HOT and CRITICAL (R140). -/
def Block.restState (b : Block) (c : Nat) : Nat :=
  if b.ctxClass c = 2 ∧ 2 ≤ b.thermal then csDeferred else csIdle

/-- Contexts on their way to another engine. -/
def Block.moving (b : Block) : List Nat := (upto 256).filter fun c => (b.cx c).moveTo.isSome

/-- The footprint copy of a context that has been handed over begins once its reserved place is free (R144). -/
def Block.copyStart (b : Block) (c : Nat) : Block :=
  let x := b.cx c
  match x.moveTo with
  | none => b
  | some n =>
    let holder := (b.residents n).any fun d => d != c && (b.cx d).place == x.movePlace
    if !x.handed || x.copying || holder || b.ctxState c == csActive then b
    else b.modCx c fun x => { x with copying := true }

/-- Copies that wait for a place begin where it has fallen free (R144). -/
def Block.copyWaiting (b : Block) : Block := b.forAll b.moving Block.copyStart

/-- A context that is to move is handed over: a trigger that waits then waits for the copy (R144). -/
def Block.handOver (b : Block) (c : Nat) : Block :=
  if (b.cx c).moveTo.isNone then b
  else (b.modCx c fun x => { x with handed := true, late := x.late || x.trig }).copyStart c

/-- A context that stays in service on its engine leaves it at its next completion; one that is STOPPED or DEFERRED, or
whose engine is out of service, at once (R144, R145). -/
def Block.leavesNow (b : Block) (c : Nat) : Bool :=
  let n := b.homeOf c
  b.ctxState c == csStopped || b.ctxState c == csDeferred ||
    !(b.engState n == esIdle || b.engState n == esRun || b.engState n == esWait)

/-- A context comes between cycles: a waiting STOP acts where its cycle completed, a lost place is left and a due migration
begins (R27, R134, R144); with `hold` a change-package commit takes the same boundary and the migration waits for the next
one (R148). -/
def Block.atBoundary (b : Block) (c : Nat) (hold : Bool := false) (done : Bool := true) : Block :=
  let x := b.cx c
  let b := b.setCtxState c (b.restState c)
  let b := if x.dropAtEnd then b.stopCtx c 3
    else if x.stopAtEnd ∧ done then b.stopCtx c 4
    else b
  (if hold && !x.handed then b else b.handOver c).copyWaiting

/-- A context stops out of its cycle's course: it leaves at once where it is to move, as does one that waits for the
place it held (R27, R144). -/
def Block.stopNow (b : Block) (c why : Nat) : Block := ((b.stopCtx c why).handOver c).copyWaiting

/-! ### Triggers (R68, R132, R133, R139) -/

/-- The periodic trigger's successor is placed from its target. -/
def Block.nextTarget (b : Block) (c : Nat) : Block :=
  b.modCx c fun x => { x with trigTarget := x.target, target := b.targetAfter c x.target }

/-- POLICY applies when CONSEC has reached SKIP_LIMIT (R133). -/
def Block.overrunPolicy (b : Block) (c : Nat) : Block :=
  if b.fget (F.CTX_STATE_CONSEC c) < b.fget (F.CTX_CFG_SKIP_LIMIT c) then b
  else if b.fgetB (F.CTX_CFG_POLICY c) then
    let b := (b.raiseEvt 0x20 1).abandon c
    (b.stopNow c 1).engNext (b.homeOf c)
  else if (b.cx c).policyRaised then b
  else (b.modCx c fun x => { x with policyRaised := true }).raiseEvt 0x20 1

/-- A trigger is an overrun skip (R132). -/
def Block.overrunSkip (b : Block) (c : Nat) : Block :=
  let b := (b.incSat (F.CTX_STATE_CONSEC c)).incSat (F.CTX_SKIPS_OVERRUN c)
  let b := b.incSat F.SCH_OVR_CNT_COUNT
  let b := (b.fset F.SCH_LAST_OVR_CONSEC (b.fget (F.CTX_STATE_CONSEC c))).fset F.SCH_LAST_OVR_CTX c
  let b := b.event 0x20 0 [Reg.SCH_LAST_OVR]
  let b := b.modCx c fun x => { x with prevDispatched := false, budgetSkipped := false, skipRun := Nat.min (x.skipRun + 1) 255 }
  b.overrunPolicy c

/-- A trigger is a budget skip (R139). -/
def Block.budgetSkip (b : Block) (c : Nat) : Block :=
  let b := (b.incSat (F.CTX_SKIPS_BUDGET c)).incSat F.SCH_BUDGET_SKIP_CNT_COUNT
  let b := b.when (!b.sched.skipping) fun b => { b with sched := { b.sched with skipping := true } }.raiseEvt 0x20 2
  b.modCx c fun x => { x with prevDispatched := false, budgetSkipped := true, skipRun := 0 }

/-- The base of the context's trigger is not LOCKED or not SYNCED (R131). Log: 52 (DEDUCED). -/
def Block.baseHeld (b : Block) (c : Nat) : Bool :=
  match b.trigOf c with
  | 1 => b.fget F.TSU_STAT_STATE != 2
  | 2 => b.fget F.ABS0_STAT_STATE != 2
  | 3 => b.fget F.ABS1_STAT_STATE != 2
  | _ => false

/-- A number for a mark bit. -/
def mark (v : Bool) (i : Nat) : Nat := if v then 2 ^ i else 0

/-- A trigger is taken: the image is latched at its instant and the marks of its interval are fixed (R20, R131).
Log: 51 (DEDUCED), 52 (DEDUCED). -/
def Block.takeTrigger (b : Block) (c : Nat) : Block :=
  let cls := b.ctxClass c
  let busy := (b.residents (b.homeOf c)).any fun d =>
    d != c && b.ctxState d == csActive && decide (b.ctxClass d ≤ cls)
  let waits := (b.cx c).handed || decide (b.now < (b.cx c).heldUntil)
  let base := b.baseHeld c
  let b := b.modCx c fun x => { x with
    trig := true
    late := busy || waits
    prevDispatched := true
    cstat := mark x.tbShort 1 + mark x.tbStretch 2 + mark x.budgetSkipped 5 + mark base 6 + x.skipRun * 65536
    budgetSkipped := false
    skipRun := 0 }
  b.latchCx c

/-- A trigger instant of the round context is one of a round (R367). -/
def Block.roundDue (b : Block) : Block := { b with red := { b.red with roundAt := some b.clk } }

/-- A trigger of a context fires: one on a time base once its target is reached. -/
def Block.trigger (b : Block) (c : Nat) : Block :=
  let s := b.ctxState c
  let cls := b.ctxClass c
  let t := b.trigOf c
  if s = csUndefined ∨ s = csIsland ∨ t = 0 ∨ t = 5 ∨ !b.running ∨ !b.dueAt c (b.cx c).target then b
  else
    let b := if t = 4 then b else b.nextTarget c
    let b := b.when (c == b.fget F.RED_CFG_CTX) Block.roundDue
    let b := if s = csStopped then b.canCommit c
      else if s = csActive ∨ ((b.cx c).trig ∧ s = csIdle) then b.overrunSkip c
      else if cls = 1 ∧ b.fgetB (F.CTX_CFG_STRETCH c) ∧ 2 ≤ b.thermal ∧ (b.cx c).prevDispatched then b.budgetSkip c
      else b.takeTrigger c
    b.modCx c fun x => { x with tbShort := false, tbStretch := false }

/-- CONTEXT_TRIGGER. -/
def execContextTrigger (c : Fin 256) (s : State) : Host.Outcome State Fault Refusal := lift (fun b => b.trigger c.val) s

/-! ### Dispatch (R113, R128, R129, R131) -/

/-- Contexts whose waiting triggers another dispatch on the engine delays. Log: 52 (DEDUCED). -/
def Block.delayOthers (b : Block) (c : Nat) : Block :=
  b.forAll ((b.residents (b.homeOf c)).filter fun d =>
      d != c && (b.cx d).trig && b.ctxState d == csIdle && decide (b.ctxClass c ≤ b.ctxClass d))
    fun b d => b.modCx d fun x => { x with late := true }

/-- Mirror data that waits is written into the standby's slots and own globals; a value that differs counts (R373).
Log: 82 (DEDUCED). -/
def Block.applyMirror (b : Block) (c : Nat) : Block :=
  let x := b.cx c
  if x.mirrorSlots.isEmpty && x.mirrorOwn.isEmpty then b
  else
    let slots := x.mirrorSlots.filter fun e => x.slot e.1 != e.2
    let own := x.mirrorOwn.filter fun e => mapGet (b.globalOwn e.1) x.own e.1 != e.2
    let y := x.mirrorSlots.foldl (fun (y : Cx) e => y.setSlot e.1 e.2) x
    let y := { y with own := x.mirrorOwn.foldl (fun m e => mapSet m e.1 e.2) x.own, mirrorSlots := [], mirrorOwn := [] }
    let b := { b.setCx c y with globals := x.mirrorOwn.foldl (fun m e => mapSet m e.1 e.2) b.globals }
    let n := slots.length + own.length
    if n = 0 then b else (b.addSat F.RED_DIVERGE_CNT_COUNT n).raiseEvt 0xB0 8

/-- The cycle of a context begins on its home engine. Log: 51 (DEDUCED). -/
def Block.dispatch (b : Block) (c : Nat) : Block :=
  let b := b.applyMirror c
  let n := b.homeOf c
  let x := b.cx c
  let b := if x.late || b.isBackground c then b.latchCx c else b
  let marks := (if b.isBackground c then 0 else (b.cx c).cstat) + mark x.first 0 + mark x.late 3 + mark x.migrated 4 +
    mark (b.cx c).noTime 7 + mark (!(b.cx c).forced.isEmpty) 8 +
    mark (decide (b.fget F.SCH_ENG_FAULT_COUNT < 16)) 9 + b.thermal * 1024
  let b := b.delayOthers c
  let b := b.when x.late fun b => (b.incSat F.SCH_LATE_CNT_COUNT).raiseEvt 0x20 8
  let b := (b.setRegN (Reg.CTX_CSTAT c) marks).fset (F.CTX_STATE_CONSEC c) 0
  let b := (b.setCtxState c csActive).preempt n
  let b := b.modCx c fun x => { x with
    pc := 0, stack := [], written := [], wait := none, clocks := 0, cstat := marks, trig := false, late := false
    first := false, migrated := false, policyRaised := false }
  b.switchTo c

/-- A class-C dispatch that is not admitted defers the context (R140). Log: 51 (DEDUCED). -/
def Block.defer (b : Block) (c : Nat) : Block :=
  let b := (b.setCtxState c csDeferred).modCx c fun x => { x with budgetDeferred := b.thermal == 1 }
  let b := b.handOver c
  b.when (b.thermal == 1 && !b.sched.deferReported) fun b =>
    { b with sched := { b.sched with deferReported := true } }.raiseEvt 1 6

/-- CONTEXT_DISPATCH. -/
def execContextDispatch (c : Fin 256) (s : State) : Host.Outcome State Fault Refusal := lift (fun b =>
  if !b.dispatchable c.val then b
  else if b.admitted c.val then b.dispatch c.val
  else b.defer c.val) s

/-! ### The commit (R97, R98, R107, R130) -/

/-- Own globals are published, forced ones with the forced value. -/
def Block.publish (b : Block) (c : Nat) : Block :=
  b.forAll (b.progVids.filter fun d => d.writer == c) fun b d =>
    let v := match b.forceFor d.vid with
      | some f => f.value
      | none => mapGet d.init (b.cx c).own d.vid
    { b with globals := mapSet b.globals d.vid v }

/-- Mirror data of a context: its mirrored slots, then its mirrored globals, each as key and word (R373). -/
def Block.mirrorData (b : Block) (c : Nat) : List Nat :=
  let x := b.cx c
  (b.ctxProg c).mirror.flatMap (fun r => (upto r.2).flatMap fun i => [r.1 + i, x.slot (r.1 + i)]) ++
    (b.progVids.filter fun d => d.writer == c && d.flags % 2 == 1).flatMap fun d =>
      let v := mapGet d.init x.own d.vid
      [d.vid, low 32 v, v / 2 ^ 32]

/-- The first complete cycle after start, step 9, releases the outputs (R30, R429, R435). -/
def Block.release (b : Block) : Block :=
  if b.running && !b.pwr.released then
    let b := { b with pwr := { b.pwr with released := true } }.fset F.SYS_STATE_STEP 9
    let b := b.fset F.SYS_START_T_FIRST (Nat.min ((b.clk - b.pwr.tg) / 10000000) 65535)
    (b.raiseEvt 0 2).chRefreshAll
  else b

/-- The end of this context's cycle is the boundary at which an ARMED package commits: it is affected, and no other
affected context is ACTIVE (R148, R171). -/
def Block.commitDue (b : Block) (c : Nat) : Bool :=
  b.fget F.OLC_STAT_STATE == 4 && b.olc.acts.any (fun e => e.1 == c && decide (2 ≤ e.2)) &&
    b.olc.acts.all fun e => e.1 == c || decide (e.2 < 2) || b.ctxState e.1 != csActive

/-- END: the output commit completes the cycle. The primary of a SYNCED pair sends the context's mirror data. -/
def Block.endCycle (b : Block) (c : Nat) : Block :=
  let n := b.homeOf c
  let b := ((b.commitOutputs c).publish c).release
  let b := (b.lnkCommit c).canCommit c
  let b := b.when (b.onPair && b.role == rolePrimary && !(b.mirrorData c).isEmpty) fun b =>
    b.send .pair "mirror" (c :: b.mirrorData c)
  let b := (b.chargeCycle c).incWrap (F.CTX_CYCLES_COUNT c)
  let b := b.modCx c fun x => { x with act := .idle }
  (b.atBoundary c (b.commitDue c)).engNext n

/-! ### Exceptions (R116, R117) -/

/-- A hard exception of a context's cycle at its current instruction, or of its place. Log: 53 (DEDUCED). -/
def Block.hardException (b : Block) (c code value : Nat) : Block :=
  let n := b.homeOf c
  let b := ((b.fset (F.ENG_EXC_INFO_CODE n) code).fset (F.ENG_EXC_INFO_VALID n) 1).fset (F.ENG_EXC_INFO_CTX n) c
  let b := (b.fset (F.ENG_EXC_PC_PC n) (b.cx c).pc).fset (F.ENG_EXC_PC_TRAP_VAL n) (if code = 2 then value else 0)
  let b := (b.stamp (Reg.ENG_EXC_TIME_LO n) (Reg.ENG_EXC_TIME_HI n)).incSat (F.ENG_EXC_CNT_COUNT n)
  let b := b.event (0x10 + n) 0 [Reg.ENG_EXC_INFO n, Reg.ENG_EXC_PC n]
  ((b.abandon c).stopNow c 2).engNext n

/-! ### Instructions -/

/-- The instruction a context's cycle runs next: the one its CODE holds at the program counter. -/
def Block.atPc (b : Block) (c : Nat) (i : Insn) : Bool :=
  let p := b.ctxProg c
  let pc := (b.cx c).pc
  decodeInsn (nth 0 p.code pc) (nth 0 p.code (pc + 1)) == some i

/-- The context's cycle runs and its next instruction is `i`. Log: 54 (DESIGN CHOICE). -/
def Block.runs (b : Block) (c : Nat) (i : Insn) : Bool :=
  b.ctxState c == csActive && (b.cx c).act == .running && b.atPc c i

/-- An instruction retires: ENG_INSN and its clocks. -/
def Block.retire (b : Block) (c clocks : Nat) : Block :=
  let n := b.homeOf c
  (b.setPair (Reg.ENG_INSN_LO n) ((b.pair (Reg.ENG_INSN_LO n) + 1) % 2 ^ 64)).spend c clocks

/-- A soft exception of one instruction (R116). -/
def Block.softException (b : Block) (c : Nat) : Block :=
  let n := b.homeOf c
  (b.when (b.fget (F.ENG_SOFT_CNT_COUNT n) == 0) fun b => b.raiseEvt (0x10 + n) 1).incSat (F.ENG_SOFT_CNT_COUNT n)

/-- Run one instruction that does not wait. Log: 54 (DESIGN CHOICE). -/
def Block.lvc (b : Block) (c : Nat) (i : Insn) : Block :=
  if !b.runs c i then b
  else
    let x := b.cx c
    let keeps := match i with
      | .xflags _ => true
      | _ => false
    let r := runInsn (b.ctxProg c) b.progVids c i (if keeps then x else { x with flags := 0 })
    let soft := !keeps && r.cx.flags != 0
    let b := b.setCx c (if keeps then r.cx else { r.cx with flags := x.flags ||| r.cx.flags })
    let b := (b.when soft fun b => b.softException c).retire c (i.clocks r.taken)
    match r.fin with
    | .goOn => b
    | .endCycle => b.endCycle c
    | .exception code value => b.hardException c code value

/-! ### The instructions one by one: each runs where the context's code holds it (R101) -/

def execNop (c : Fin 256) (s : State) : Host.Outcome State Fault Refusal := lift (fun b => b.lvc c.val (.nop)) s
def execEndCycle (c : Fin 256) (s : State) : Host.Outcome State Fault Refusal := lift (fun b => b.lvc c.val (.endCycle)) s
def execTrap (c : Fin 256) (s1 : Fin 4096) (s : State) : Host.Outcome State Fault Refusal := lift (fun b => b.lvc c.val (.trap s1.val)) s
def execMov (c : Fin 256) (d s1 : Fin 4096) (s : State) : Host.Outcome State Fault Refusal := lift (fun b => b.lvc c.val (.mov d.val s1.val)) s
def execMov64 (c : Fin 256) (d s1 : Fin 4096) (s : State) : Host.Outcome State Fault Refusal := lift (fun b => b.lvc c.val (.mov64 d.val s1.val)) s
def execLdi (c : Fin 256) (d : Fin 4096) (imm : Word) (s : State) : Host.Outcome State Fault Refusal := lift (fun b => b.lvc c.val (.ldi d.val imm.toNat)) s
def execLdk (c : Fin 256) (d : Fin 4096) (idx : Nat) (s : State) : Host.Outcome State Fault Refusal := lift (fun b => b.lvc c.val (.ldk d.val idx)) s
def execLdx (c : Fin 256) (d s1 base n : Fin 4096) (s : State) : Host.Outcome State Fault Refusal := lift (fun b => b.lvc c.val (.ldx d.val s1.val base.val n.val)) s
def execStx (c : Fin 256) (d s1 base n : Fin 4096) (s : State) : Host.Outcome State Fault Refusal := lift (fun b => b.lvc c.val (.stx d.val s1.val base.val n.val)) s
def execAdd (c : Fin 256) (t : Fin 16) (d s1 s2 : Fin 4096) (s : State) : Host.Outcome State Fault Refusal := lift (fun b => b.lvc c.val (.arith .add t.val d.val s1.val s2.val)) s
def execSub (c : Fin 256) (t : Fin 16) (d s1 s2 : Fin 4096) (s : State) : Host.Outcome State Fault Refusal := lift (fun b => b.lvc c.val (.arith .sub t.val d.val s1.val s2.val)) s
def execMul (c : Fin 256) (t : Fin 16) (d s1 s2 : Fin 4096) (s : State) : Host.Outcome State Fault Refusal := lift (fun b => b.lvc c.val (.arith .mul t.val d.val s1.val s2.val)) s
def execDiv (c : Fin 256) (t : Fin 16) (d s1 s2 : Fin 4096) (s : State) : Host.Outcome State Fault Refusal := lift (fun b => b.lvc c.val (.arith .div t.val d.val s1.val s2.val)) s
def execRem (c : Fin 256) (t : Fin 16) (d s1 s2 : Fin 4096) (s : State) : Host.Outcome State Fault Refusal := lift (fun b => b.lvc c.val (.arith .rem t.val d.val s1.val s2.val)) s
def execMin (c : Fin 256) (t : Fin 16) (d s1 s2 : Fin 4096) (s : State) : Host.Outcome State Fault Refusal := lift (fun b => b.lvc c.val (.arith .min t.val d.val s1.val s2.val)) s
def execMax (c : Fin 256) (t : Fin 16) (d s1 s2 : Fin 4096) (s : State) : Host.Outcome State Fault Refusal := lift (fun b => b.lvc c.val (.arith .max t.val d.val s1.val s2.val)) s
def execFma (c : Fin 256) (t : Fin 16) (d s1 s2 : Fin 4096) (s : State) : Host.Outcome State Fault Refusal := lift (fun b => b.lvc c.val (.arith .fma t.val d.val s1.val s2.val)) s
def execNeg (c : Fin 256) (t : Fin 16) (d s1 : Fin 4096) (s : State) : Host.Outcome State Fault Refusal := lift (fun b => b.lvc c.val (.arith .neg t.val d.val s1.val 0)) s
def execAbs (c : Fin 256) (t : Fin 16) (d s1 : Fin 4096) (s : State) : Host.Outcome State Fault Refusal := lift (fun b => b.lvc c.val (.arith .abs t.val d.val s1.val 0)) s
def execSqrt (c : Fin 256) (t : Fin 16) (d s1 : Fin 4096) (s : State) : Host.Outcome State Fault Refusal := lift (fun b => b.lvc c.val (.arith .sqrt t.val d.val s1.val 0)) s
def execAnd (c : Fin 256) (t : Fin 16) (d s1 s2 : Fin 4096) (s : State) : Host.Outcome State Fault Refusal := lift (fun b => b.lvc c.val (.logic .and t.val d.val s1.val s2.val)) s
def execOr (c : Fin 256) (t : Fin 16) (d s1 s2 : Fin 4096) (s : State) : Host.Outcome State Fault Refusal := lift (fun b => b.lvc c.val (.logic .or t.val d.val s1.val s2.val)) s
def execXor (c : Fin 256) (t : Fin 16) (d s1 s2 : Fin 4096) (s : State) : Host.Outcome State Fault Refusal := lift (fun b => b.lvc c.val (.logic .xor t.val d.val s1.val s2.val)) s
def execShl (c : Fin 256) (t : Fin 16) (d s1 s2 : Fin 4096) (s : State) : Host.Outcome State Fault Refusal := lift (fun b => b.lvc c.val (.logic .shl t.val d.val s1.val s2.val)) s
def execShr (c : Fin 256) (t : Fin 16) (d s1 s2 : Fin 4096) (s : State) : Host.Outcome State Fault Refusal := lift (fun b => b.lvc c.val (.logic .shr t.val d.val s1.val s2.val)) s
def execRol (c : Fin 256) (t : Fin 16) (d s1 s2 : Fin 4096) (s : State) : Host.Outcome State Fault Refusal := lift (fun b => b.lvc c.val (.logic .rol t.val d.val s1.val s2.val)) s
def execRor (c : Fin 256) (t : Fin 16) (d s1 s2 : Fin 4096) (s : State) : Host.Outcome State Fault Refusal := lift (fun b => b.lvc c.val (.logic .ror t.val d.val s1.val s2.val)) s
def execNot (c : Fin 256) (t : Fin 16) (d s1 : Fin 4096) (s : State) : Host.Outcome State Fault Refusal := lift (fun b => b.lvc c.val (.logic .not t.val d.val s1.val 0)) s
def execEq (c : Fin 256) (t : Fin 16) (d s1 s2 : Fin 4096) (s : State) : Host.Outcome State Fault Refusal := lift (fun b => b.lvc c.val (.cmp .eq t.val d.val s1.val s2.val)) s
def execNe (c : Fin 256) (t : Fin 16) (d s1 s2 : Fin 4096) (s : State) : Host.Outcome State Fault Refusal := lift (fun b => b.lvc c.val (.cmp .ne t.val d.val s1.val s2.val)) s
def execLt (c : Fin 256) (t : Fin 16) (d s1 s2 : Fin 4096) (s : State) : Host.Outcome State Fault Refusal := lift (fun b => b.lvc c.val (.cmp .lt t.val d.val s1.val s2.val)) s
def execLe (c : Fin 256) (t : Fin 16) (d s1 s2 : Fin 4096) (s : State) : Host.Outcome State Fault Refusal := lift (fun b => b.lvc c.val (.cmp .le t.val d.val s1.val s2.val)) s
def execGt (c : Fin 256) (t : Fin 16) (d s1 s2 : Fin 4096) (s : State) : Host.Outcome State Fault Refusal := lift (fun b => b.lvc c.val (.cmp .gt t.val d.val s1.val s2.val)) s
def execGe (c : Fin 256) (t : Fin 16) (d s1 s2 : Fin 4096) (s : State) : Host.Outcome State Fault Refusal := lift (fun b => b.lvc c.val (.cmp .ge t.val d.val s1.val s2.val)) s
def execCvt (c : Fin 256) (trunc : Bool) (dst src : Fin 16) (d s1 : Fin 4096) (s : State) : Host.Outcome State Fault Refusal := lift (fun b => b.lvc c.val (.cvt trunc dst.val src.val d.val s1.val)) s
def execCmov (c : Fin 256) (t : Fin 16) (d s1 s2 : Fin 4096) (s : State) : Host.Outcome State Fault Refusal := lift (fun b => b.lvc c.val (.cmov t.val d.val s1.val s2.val)) s
def execBr (c : Fin 256) (ofs : Int) (s : State) : Host.Outcome State Fault Refusal := lift (fun b => b.lvc c.val (.br ofs)) s
def execBrt (c : Fin 256) (s1 : Fin 4096) (ofs : Int) (s : State) : Host.Outcome State Fault Refusal := lift (fun b => b.lvc c.val (.brt s1.val ofs)) s
def execBrf (c : Fin 256) (s1 : Fin 4096) (ofs : Int) (s : State) : Host.Outcome State Fault Refusal := lift (fun b => b.lvc c.val (.brf s1.val ofs)) s
def execCall (c : Fin 256) (ofs : Int) (s : State) : Host.Outcome State Fault Refusal := lift (fun b => b.lvc c.val (.call ofs)) s
def execRet (c : Fin 256) (s : State) : Host.Outcome State Fault Refusal := lift (fun b => b.lvc c.val (.ret)) s
def execLoop (c : Fin 256) (d : Fin 4096) (ofs : Int) (s : State) : Host.Outcome State Fault Refusal := lift (fun b => b.lvc c.val (.loop d.val ofs)) s
def execGld (c : Fin 256) (d : Fin 4096) (idx : Nat) (s : State) : Host.Outcome State Fault Refusal := lift (fun b => b.lvc c.val (.gld d.val idx)) s
def execGst (c : Fin 256) (s1 : Fin 4096) (idx : Nat) (s : State) : Host.Outcome State Fault Refusal := lift (fun b => b.lvc c.val (.gst s1.val idx)) s
def execIrd (c : Fin 256) (d : Fin 4096) (idx : Nat) (s : State) : Host.Outcome State Fault Refusal := lift (fun b => b.lvc c.val (.ird d.val idx)) s
def execIq (c : Fin 256) (d : Fin 4096) (idx : Nat) (s : State) : Host.Outcome State Fault Refusal := lift (fun b => b.lvc c.val (.iq d.val idx)) s
def execIage (c : Fin 256) (d : Fin 4096) (idx : Nat) (s : State) : Host.Outcome State Fault Refusal := lift (fun b => b.lvc c.val (.iage d.val idx)) s
def execOwr (c : Fin 256) (s1 : Fin 4096) (idx : Nat) (s : State) : Host.Outcome State Fault Refusal := lift (fun b => b.lvc c.val (.owr s1.val idx)) s
def execTlatch (c : Fin 256) (d : Fin 4096) (s : State) : Host.Outcome State Fault Refusal := lift (fun b => b.lvc c.val (.tlatch d.val)) s
def execTpos (c : Fin 256) (d : Fin 4096) (base : Fin 2) (s : State) : Host.Outcome State Fault Refusal := lift (fun b => b.lvc c.val (.tpos d.val base.val)) s
def execCstat (c : Fin 256) (d : Fin 4096) (s : State) : Host.Outcome State Fault Refusal := lift (fun b => b.lvc c.val (.cstat d.val)) s
def execXflags (c : Fin 256) (d : Fin 4096) (s : State) : Host.Outcome State Fault Refusal := lift (fun b => b.lvc c.val (.xflags d.val)) s

end Sys2Proof.Machine
end

