-- ==== Sys2Proof/Machine/Image.lean ====
section
/-! DEFINITION. The application image: its layout, and the checks of its layout, code and descriptors at load (R91 to R112, R121, R122, R126).
Log: 47 (DEDUCED). -/

namespace Sys2Proof.Machine

/-! ### Load result codes (R112, R121, R65) -/

def ldOk : Nat := 0
def ldVersion : Nat := 1
def ldFormat : Nat := 2
def ldOpcode : Nat := 3
def ldOperand : Nat := 4
def ldBranch : Nat := 5
def ldCall : Nat := 6
def ldImport : Nat := 7
def ldFootprint : Nat := 8
def ldGrant : Nat := 9
def ldDesc : Nat := 10
def ldAffinity : Nat := 11
def ldSolMap : Nat := 14
def ldChMap : Nat := 15
def ldGrantRefused : Nat := 16
def ldSafConfig : Nat := 17
def ldSafLvc : Nat := 18
def ldSafOnline : Nat := 19
def ldLnkConfig : Nat := 29
def ldLnkMap : Nat := 30
def ldLnkTiming : Nat := 31
def ldCanConfig : Nat := 32
def ldCanMap : Nat := 33
def ldRedMirror : Nat := 34

/-- Why an image is refused: the code, the context behind it, the variable behind it. -/
structure Verdict where
  code : Nat
  ctx : Option Nat := none
  vid : Option Nat := none
deriving DecidableEq, Repr

/-- Refuse when the condition holds. -/
def badIf (c : Bool) (code : Nat) : Option Verdict := if c then some ⟨code, none, none⟩ else none

/-- Refuse for the first context that a check finds bad. -/
def badCtx (l : List (Nat × CtxProg)) (code : Nat) (f : Nat → CtxProg → Bool) : Option Verdict :=
  (l.find? fun e => f e.1 e.2).map fun e => ⟨code, some e.1, none⟩

/-! ### Parsing -/

/-- IOMAP entries of 12 bytes. -/
def ioEls : List Nat → List IoEl
  | a :: b :: c :: l => ⟨a, b, c⟩ :: ioEls l
  | _ => []

/-- VIDDEF entries of 16 bytes. -/
def vidDefs : List Nat → List VidDef
  | a :: b :: c :: d :: l => ⟨a, bits b 0 8, bits b 8 8, bits b 16 16, c + 2 ^ 32 * d⟩ :: vidDefs l
  | _ => []

/-- The sections of a context as its program, under a descriptor. -/
def ctxProgOf (ss : List Section) (c : Nat) (desc : List Nat) : CtxProg :=
  let body (t : Nat) : List Nat := (sectionFor ss t c).words
  { desc := desc
    code := body 2
    tags := (fBytes (body 3)).take (sectionFor ss 3 c).count
    init := body 4
    consts := fDoubles (body 5)
    imports := body 7
    iomap := ioEls (body 8)
    mirror := (body 16).map fun w => (bits w 0 12, bits w 12 12) }

/-- SAFCFG (R276). -/
def parseSaf (w : List Nat) : SafCfg :=
  { cycle := fU16 w 4
    startMode := fU8 w 6
    keys := (pieces 8 (Nat.min (fU8 w 7) 8) (w.drop 100)).map fBytes
    progs := (upto (Nat.min (fU8 w 8) 16)).map fun p =>
      (fU16 w (0x110 + 8 * p), fU16 w (0x114 + 8 * p), fU16 w (0x116 + 8 * p))
    chans := (upto 64).map fun n => (fU8 w (0x10 + 4 * n), fU8 w (0x11 + 4 * n), fU8 w (0x12 + 4 * n))
    crc := fU32 w 0x0C }

/-- LNKCFG (R298). -/
def parseLnk (w : List Nat) : LnkCfg :=
  { topo := fU8 w 4
    speed := fU8 w 5 % 4
    segs := [(fU16 w 0x10, fU32 w 0x14), (fU16 w 0x18, fU32 w 0x1C)]
    stations := (upto (fU8 w 6)).map fun i =>
      let o := 0x20 + 16 * i
      { addr := fU8 w o, seg := fU8 w (o + 1), ver := fU8 w (o + 2), group := fU8 w (o + 3), typ := fU32 w (o + 4)
        inBytes := fU16 w (o + 8), outBytes := fU16 w (o + 10), slot := fU8 w (o + 12), miss := fU8 w (o + 13)
        subst := fU8 w (o + 14) } }

/-- CANCFG (R348). -/
def parseCan (w : List Nat) : List CanSlotCfg :=
  (upto (fU16 w 4)).map fun i =>
    let o := 0x10 + 20 * i
    { port := fU8 w o, slot := fU8 w (o + 1), kind := fU8 w (o + 2), fmt := fU8 w (o + 3), id := fU32 w (o + 4)
      len := fU8 w (o + 8), subst := fU8 w (o + 9), writer := fU16 w (o + 10), period := fU32 w (o + 12)
      phase := fU32 w (o + 16) }

/-- CREDS (R461): entries of 40 bytes. -/
def parseCreds (w : List Nat) : List (List Nat × Nat × Nat) :=
  (pieces 10 (w.length / 10) w).map fun e => (fBytes (e.take 8), bits (nth 0 e 8) 0 8, nth 0 e 9)

/-- A CREDS section is well formed. -/
def credsOk (s : Section) : Bool :=
  decide (1 ≤ s.count ∧ s.count ≤ 64) && (pieces 10 (s.words.length / 10) s.words).all fun e =>
    decide (1 ≤ nth 0 e 8 ∧ nth 0 e 8 ≤ 3)

/-- The sections of an image. -/
def imgSections (w : List Nat) : List Section := sections w (fU16 w 0x12)

/-- The image in a file of words. -/
def parseImage (w : List Nat) : Prog :=
  let ss := imgSections w
  let descs := pieces 16 (sectionOf ss 1).count (sectionOf ss 1).words
  let has (t : Nat) : Bool := !(sectionsOf ss t).isEmpty
  { version := fU16 w 4
    vintage := fU32 w 0x0C
    buildId := fU32 w 0x18
    ctxs := (upto descs.length).filterMap fun c =>
      let d := nth [] descs c
      if bit (nth 0 d 0) 31 then some (c, ctxProgOf ss c d) else none
    vids := vidDefs (sectionOf ss 6).words
    saf := if has 13 then some (parseSaf (sectionOf ss 13).words) else none
    lnk := if has 14 then some (parseLnk (sectionOf ss 14).words) else none
    can := parseCan (sectionOf ss 15).words
    creds := if has 17 then some (parseCreds (sectionOf ss 17).words) else none
    crc := nth 0 w 15 }

/-! ### Layout (R91, R92, R482) -/

/-- Entry size of a section type; 0 for a structured body. -/
def secEntry (t : Nat) : Nat := nth 0 [0, 64, 4, 1, 4, 8, 16, 4, 12, 4, 4, 8, 0, 0, 0, 0, 4, 40] t

/-- Body size of a structured section. -/
def secBody (s : Section) : Nat :=
  if s.typ = 13 then 656
  else if s.typ = 14 then 0x20 + 16 * fU8 s.words 6
  else if s.typ = 15 then 0x10 + 20 * fU16 s.words 4
  else fU32 s.words 8

/-- A section has a SIZE that fits its COUNT. -/
def secSizeOk (s : Section) : Bool :=
  if secEntry s.typ = 0 then s.count == 1 && ({ s with count := 1 }.fits (secBody s)) else s.fits (secEntry s.typ)

/-- No section type stands twice in one scope, but for PATTERN. -/
def secsOnce (ss : List Section) : Bool :=
  (upto ss.length).all fun i =>
    let s := nth ⟨0, 0, 0, 0, 0, []⟩ ss i
    s.typ == 12 || !((ss.drop (i + 1)).any fun q => q.typ == s.typ && q.ctx == s.ctx)

/-- Section types of image scope in an application image, and in a change package. -/
def imageScope (pkg : Bool) (t : Nat) : Bool := [6, 9, 11, 12, 13, 14, 15, 17].contains t || (t == 1 && !pkg)

/-- Types, scopes and sizes of the sections. -/
def secsOk (pkg : Bool) (ss : List Section) : Bool :=
  secsOnce ss && ss.all fun s =>
    decide (1 ≤ s.typ ∧ s.typ ≤ 17) && (pkg || !(decide (9 ≤ s.typ ∧ s.typ ≤ 12))) &&
      (if imageScope pkg s.typ then s.ctx == 0xFFFF else decide (s.ctx < 256)) && secSizeOk s && (s.typ != 17 || credsOk s)

/-- A defined context has one CODE, TAGS and INIT section of agreeing sizes. -/
def ctxSecsOk (ss : List Section) (c : Nat) : Bool :=
  let n := (sectionFor ss 3 c).count
  ([2, 3, 4].all fun t => (sectionsFor ss t c).length == 1) && decide (1 ≤ (sectionFor ss 2 c).count) &&
    decide ((sectionFor ss 2 c).count ≤ 16384) && decide (n ≤ 4096) && (sectionFor ss 4 c).count == n

/-- VIDDEF entries are well formed: issued, once each, a value tag, reserved flags 0. -/
def vidsOk (l : List VidDef) : Bool :=
  (l.all fun d => d.vid != 0 && d.vid != 0xFFFFFFFF && valueTag d.typ && decide (d.flags < 2)) &&
    (upto l.length).all fun i => !((l.drop (i + 1)).any fun d => d.vid == (nth ⟨0, 0, 0, 0, 0⟩ l i).vid)

/-- LVC_FORMAT of a whole image. VINTAGE 0 and 0xFFFFFFFF are never issued (R14). -/
def imageFormOk (w : List Nat) : Bool :=
  let ss := imgSections w
  let p := parseImage w
  let descs := pieces 16 (sectionOf ss 1).count (sectionOf ss 1).words
  headerOk w 0x3043564C && fU32 w 0x0C != 0 && fU32 w 0x0C != 0xFFFFFFFF && ((w.drop 8).take 7).all (· == 0) && decide (fU32 w 0x1C < 4) &&
    sectionsPlaced ss (4 * w.length) && secsOk false ss && decide (1 ≤ descs.length ∧ descs.length ≤ 256) &&
    (descs.all fun d => bit (nth 0 d 0) 31 || d.all (· == 0)) && p.ctxs.length == fU16 w 0x10 && decide (1 ≤ p.ctxs.length) &&
    p.vids.length == fU32 w 0x14 && vidsOk p.vids && (p.ctxs.all fun c => ctxSecsOk ss c.1) &&
    ss.all fun s => imageScope false s.typ || p.ctxs.any fun c => c.1 == s.ctx

/-! ### Code (R99 to R102, R111) -/

/-- Decode code words from address `pc`; none at a word that does not decode or lacks its second word. -/
def insnsGo : Nat → Nat → List Nat → Option (List (Nat × Insn))
  | _, _, [] => some []
  | 0, _, _ => none
  | fuel + 1, pc, w0 :: rest =>
    match opWords (bits w0 24 8) with
    | none => none
    | some n =>
      if n = 2 ∧ rest = [] then none
      else match decodeInsn w0 (nth 0 rest 0) with
        | none => none
        | some i => (insnsGo fuel (pc + n) (rest.drop (n - 1))).map fun l => (pc, i) :: l

/-- The instructions of a CODE section with their word addresses. -/
def insnsOf (code : List Nat) : Option (List (Nat × Insn)) := insnsGo code.length 0 code

/-- The instructions, or none of them. -/
def CtxProg.insns (p : CtxProg) : List (Nat × Insn) := (insnsOf p.code).getD []

/-- The tag that holds a conversion or element type: I8 and I16 as I32, U8 and U16 as U32 (R94). -/
def heldTag (t : Nat) : Nat := if t = 9 ∨ t = 10 then tI32 else if t = 11 ∨ t = 12 then tU32 else t

/-- Tags of the frame: known ones, a 2-slot value at an even slot, HI behind each and nowhere else (R94, R95); any other
code is LVC_OPERAND. Log: 164 (DESIGN CHOICE). -/
def tagsOk (l : List Nat) : Bool :=
  (upto l.length).all fun i =>
    let t := nth 0 l i
    if wideTag t then i % 2 == 0 && nth 0 l (i + 1) == tHi
    else if t = tHi then i % 2 == 1 && wideTag (nth 0 l (i - 1))
    else decide (t ≤ 4)

/-- Types an integer or floating operation takes (R102). -/
def arithTypes : Arith → List Nat
  | .add | .sub | .min | .max | .neg | .abs => [2, 3, 5, 6, 4, 7, 8]
  | .mul | .div => [2, 3, 5, 6, 4, 7]
  | .rem => [2, 3, 5, 6]
  | .sqrt | .fma => [4, 7]

def logicTypes : Logic → List Nat
  | .and | .or | .xor | .not => [1, 3, 6]
  | .shl | .shr | .rol | .ror => [2, 3, 5, 6]

def cmpTypes : Cmp → List Nat
  | .eq | .ne => [1, 2, 3, 4, 5, 6, 7, 8]
  | _ => [2, 3, 5, 6, 4, 7, 8]

/-- A shift or rotation. -/
def Logic.shift : Logic → Bool
  | .shl | .shr | .rol | .ror => true
  | _ => false

/-- Every slot an instruction names lies in the frame and has the tag it needs (LVC_OPERAND). Tags of imports and
elements are judged with them (LVC_IMPORT). Log: 164 (DESIGN CHOICE), 165 (DESIGN CHOICE). -/
def operandsOk (p : CtxProg) (i : Insn) : Bool :=
  let tg (s : Nat) : Nat := nth 0 p.tags s
  let is (s t : Nat) : Bool := tg s == t
  let one (s : Nat) : Bool := decide (1 ≤ tg s ∧ tg s ≤ 4)
  let two (s : Nat) : Bool := wideTag (tg s)
  match i with
  | .nop | .endCycle | .br _ | .call _ | .ret => true
  | .trap s => is s tU32
  | .mov d s => one d && tg d == tg s
  | .mov64 d s => two d && tg d == tg s
  | .ldi d _ => one d
  | .ldk d k => two d && decide (k < p.consts.length)
  | .ldx d s bs n | .stx d s bs n =>
    let w := if wideTag (tg bs) then 2 else 1
    is s tI32 && valueTag (tg bs) && tg d == tg bs && decide (1 ≤ n) && (upto n).all fun k => is (bs + w * k) (tg bs)
  | .arith op t d a c => (arithTypes op).contains t && is d t && is a t && (op.unary || is c t)
  | .logic op t d a c =>
    (logicTypes op).contains t && is d t && is a t && (op == .not || is c (if op.shift then tU32 else t))
  | .cmp op t d a c => (cmpTypes op).contains t && is d tBool && is a t && is c t
  | .cvt _ dst src d s => decide (1 ≤ dst ∧ dst ≤ 12) && valueTag src && is d (heldTag dst) && is s src
  | .cmov t d a c => valueTag t && is d t && is a t && is c tBool
  | .brt s _ | .brf s _ => is s tBool
  | .loop d _ => is d tU32
  | .gld d _ => valueTag (tg d)
  | .gst s _ => valueTag (tg s)
  | .ird d _ => valueTag (tg d)
  | .iq d _ => is d tU32
  | .iage d _ => is d tI32
  | .owr s _ => valueTag (tg s)
  | .tlatch d | .tpos d _ => is d tU64
  | .cstat d | .xflags d => is d tU32
  | .rrd d s _ | .rwr d s _ => is d tU32 && is s tU32
  | .rrd64 d s _ | .rwr64 d s _ => is d tU32 && is s tU64
  | .rrdx d s a | .rwrx d s a => is d tU32 && is s tU32 && is a tU32
  | .ssub d bs _ =>
    is d tU32 && bs % 2 == 0 && is bs tU32 && is (bs + 1) tU32 && is (bs + 2) tU64 && is (bs + 4) tF64 &&
      is (bs + 6) tU32 && is (bs + 7) tU32 && is (bs + 8) tU32 && is (bs + 9) tU32
  | .scan d bs _ => is d tU32 && valueTag (tg bs)
  | .recApp d s _ _ n => is d tU32 && decide (1 ≤ n ∧ n ≤ 240) && (upto n).all fun k => tg (s + k) != 0

/-- An opcode or tag of version 4: binary64, FMA, SSUB, SCAN (R93). -/
def version4 : Insn → Bool
  | .arith .fma _ _ _ _ | .ssub .. | .scan .. => true
  | .arith _ t _ _ _ | .cmp _ t _ _ _ | .cmov t _ _ _ => t == tF64
  | .cvt _ dst src _ _ => dst == tF64 || src == tF64
  | _ => false

/-! ### Branches and calls (LVC_BRANCH, LVC_CALL) -/

/-- The word a branch offset leads to from the branch's first word; the code's end where it leaves the code. -/
def target (pc : Nat) (off : Int) (size : Nat) : Nat := if (pc : Int) + off < 0 then size else ((pc : Int) + off).toNat

/-- Branch or call target of an instruction. -/
def Insn.jump (i : Insn) (pc size : Nat) : Option Nat :=
  match i with
  | .br o | .brt _ o | .brf _ o | .call o | .loop _ o => some (target pc o size)
  | _ => none

/-- Whether the next word follows in the same routine; after a CALL where the routine called returns. -/
def Insn.falls : Insn → Bool
  | .br _ | .ret | .endCycle | .trap _ => false
  | _ => true

def Insn.isCall : Insn → Bool
  | .call _ => true
  | _ => false

def Insn.ends : Insn → Bool
  | .endCycle | .trap _ => true
  | _ => false

/-- Successors within the routine; `ret` tells which routines return. -/
def flowNext (size : Nat) (ret : Nat → Bool) (e : Nat × Insn) : List Nat :=
  (if e.2.falls && (!e.2.isCall || ((e.2.jump e.1 size).map ret).getD false) then [e.1 + e.2.words] else []) ++
    (if e.2.isCall then [] else match e.2.jump e.1 size with
      | some t => [t]
      | none => [])

/-- The instruction at an address. -/
def insnAt (l : List (Nat × Insn)) (pc : Nat) : Option (Nat × Insn) := l.find? fun e => e.1 == pc

/-- Close a set of addresses under successors. -/
def reachGo (l : List (Nat × Insn)) (size : Nat) (ret : Nat → Bool) : Nat → List Nat → List Nat → List Nat
  | 0, _, seen => seen
  | _, [], seen => seen
  | fuel + 1, a :: todo, seen =>
    if seen.contains a then reachGo l size ret fuel todo seen
    else match insnAt l a with
      | none => reachGo l size ret fuel todo (a :: seen)
      | some e => reachGo l size ret fuel (flowNext size ret e ++ todo) (a :: seen)

/-- Addresses reachable within the routine that begins at `entry`. -/
def routine (l : List (Nat × Insn)) (size : Nat) (ret : Nat → Bool) (entry : Nat) : List Nat :=
  reachGo l size ret (3 * size + 4) [entry] []

/-- The routines: word 0 and every call target. -/
def entries (l : List (Nat × Insn)) (size : Nat) : List Nat :=
  (0 :: (l.filter fun e => e.2.isCall).map fun e => (e.2.jump e.1 size).getD size).eraseDups

/-- Routines that return: from their entry a RET is reached over calls that return themselves. -/
def returnsGo (l : List (Nat × Insn)) (size : Nat) : Nat → List Nat → List Nat
  | 0, rs => rs
  | n + 1, rs => returnsGo l size n ((entries l size).filter fun e =>
      (routine l size rs.contains e).any fun a => (insnAt l a).any fun q => q.2 == .ret)

def returning (l : List (Nat × Insn)) (size : Nat) : List Nat := returnsGo l size (entries l size).length []

/-- Call targets within a set of addresses. -/
def callees (l : List (Nat × Insn)) (size : Nat) (body : List Nat) : List Nat :=
  body.filterMap fun a => (insnAt l a).bind fun e => if e.2.isCall then e.2.jump e.1 size else none

/-- Call nesting below an entry is at most `depth`; in the call graph every CALL is taken to return.
Log: 47 (DEDUCED). -/
def nestOk (l : List (Nat × Insn)) (size : Nat) : Nat → Nat → Bool
  | 0, entry => (callees l size (routine l size (fun _ => true) entry)).isEmpty
  | depth + 1, entry => (callees l size (routine l size (fun _ => true) entry)).eraseDups.all (nestOk l size depth)

/-- Routines run from word 0. -/
def liveGo (l : List (Nat × Insn)) (size : Nat) (ret : Nat → Bool) : Nat → List Nat → List Nat
  | 0, es => es
  | n + 1, es => liveGo l size ret n ((es ++ es.flatMap fun e => callees l size (routine l size ret e)).eraseDups)

/-- Addresses from which an END or TRAP can be reached: one pass over the reachable code. -/
def endPass (l : List (Nat × Insn)) (size : Nat) (ret : Nat → Bool) (reached : List Nat) (ok : List Nat) : List Nat :=
  reached.filter fun a => ok.contains a || match insnAt l a with
    | none => false
    | some e =>
      e.2.ends || (flowNext size ret e).any ok.contains ||
        (e.2.isCall && ((e.2.jump e.1 size).map ok.contains).getD false) ||
        (e.2 == .ret && reached.any fun k => match insnAt l k with
          | some q => q.2.isCall && ok.contains (k + 1) && (routine l size ret ((q.2.jump k size).getD size)).contains a
          | none => false)

def endGo (l : List (Nat × Insn)) (size : Nat) (ret : Nat → Bool) (reached : List Nat) : Nat → List Nat → List Nat
  | 0, ok => ok
  | n + 1, ok => endGo l size ret reached n (endPass l size ret reached ok)

/-- Every branch target is an instruction, no path leaves the code, word 0's routine holds no RET, and END or TRAP
can be reached from everywhere that is reached. -/
def branchesOk (l : List (Nat × Insn)) (size : Nat) : Bool :=
  let ret := (returning l size).contains
  let live := liveGo l size ret 32 [0]
  let reached := (live.flatMap (routine l size ret)).eraseDups
  let ok := endGo l size ret reached (reached.length + 1) []
  (l.all fun e => match e.2.jump e.1 size with
    | some t => (insnAt l t).isSome
    | none => true) &&
    reached.all (fun a => (insnAt l a).isSome && ok.contains a) &&
    (routine l size ret 0).all fun a => match insnAt l a with
      | some e => e.2 != .ret
      | none => false

/-! ### Imports, footprint, grants -/

/-- BLOCK bytes that name a block with image elements. -/
def elementBlock (k : Nat) : Bool := [0x30, 0x40, 0x90, 0x91, 0x92, 0x93, 0xA8, 0xC0].contains k

/-- LVC_IMPORT of one instruction. -/
def importOk (c : Nat) (p : CtxProg) (vids : List VidDef) (i : Insn) : Bool :=
  let tg (s : Nat) : Nat := nth 0 p.tags s
  let known (k : Nat) : Bool := decide (k < p.imports.length)
  let inEl (k : Nat) : Bool := decide (k < p.iomap.length) && !(p.el k).isOut
  match i with
  | .gld d k => known k && tg d == vidTag vids (nth 0 p.imports k)
  | .gst s k => known k && (vids.any fun d => d.vid == nth 0 p.imports k && d.writer == c) &&
      tg s == vidTag vids (nth 0 p.imports k)
  | .ird d k => inEl k && tg d == heldTag (p.el k).tag
  | .iq _ k | .iage _ k => inEl k
  | .owr s k => decide (k < p.iomap.length) && (p.el k).isOut && tg s == heldTag (p.el k).tag
  | _ => true

/-- An imported VID that VIDDEF does not define. -/
def foreignVid (p : CtxProg) (vids : List VidDef) : Option Nat := p.imports.find? fun v => !(vids.any fun d => d.vid == v)

/-- Footprint in bytes (R90). -/
def footprint (c : Nat) (p : CtxProg) (vids : List VidDef) : Nat :=
  let foreign := (p.imports.filter fun v => !(vids.any fun d => d.vid == v && d.writer == c)).length
  let own := (vids.filter fun d => d.writer == c).length
  4 * p.code.length + 8 * p.consts.length + 4 * p.tags.length + 16 * (p.iomap.filter fun e => !e.isOut).length +
    8 * (p.iomap.filter fun e => e.isOut).length + 8 * own + 8 * foreign + 256

/-- Grant entries of a descriptor. -/
def CtxProg.grants (p : CtxProg) : List Nat :=
  (upto 8).map fun i => bits (p.word (8 + i / 2)) (16 * (i % 2)) 16

/-- Pages a grant entry covers by number. -/
def grantPages (e : Nat) : List Nat :=
  if bit e 15 then (upto (bits e 8 5 + 1)).map fun k => bits e 0 8 + k else []

/-- Pages that no context may write (R57). -/
def steerPage (p : Nat) : Bool :=
  [0x00, 0x04, 0x20, 0x21, 0x22, 0x23, 0x24, 0x28, 0x29, 0xB0, 0xB1, 0xC0, 0xD8, 0xF0, 0xF1, 0xF8].contains p ||
    decide (0x10 ≤ p ∧ p ≤ 0x1F)

/-- A page of the map. -/
def definedPage (p : Nat) : Bool := decide (p < 0x100) && !(pageRows p).isEmpty

/-- GRANT_REFUSED: a reserved page, a read of SEC, a write of a page that steers the module. -/
def grantForbidden (e : Nat) : Bool :=
  (grantPages e).any fun p => !definedPage p || p == 0xF8 || (bit e 14 && steerPage p)

/-- Pages a context holds for writing, tables of a page included. Log: 16 (DEDUCED). -/
def CtxProg.writePages (p : CtxProg) : List Nat :=
  (p.grants.filter fun e => bit e 14).flatMap fun e => (upto 256).filter fun q => definedPage q && grantCovers e q

/-- A register instruction outside the grants (LVC_GRANT). -/
def grantOk (p : CtxProg) (i : Insn) : Bool :=
  let rd (o : Nat) : Bool := p.grants.any fun e => grantCovers e (o / 0x1000)
  let wr (o : Nat) : Bool := p.grants.any fun e => bit e 14 && grantCovers e (o / 0x1000)
  match i with
  | .rrd _ _ o => rd o
  | .rwr _ _ o => wr o
  | .rrd64 _ _ o => rd o && rd (o + 4)
  | .rwr64 _ _ o => wr o && wr (o + 4)
  | _ => true

/-! ### Descriptors (R121, R122, R126) -/

/-- An angle in hundredths of a degree as turns, rounded to the nearest (R9); no such angle is a tie. -/
def turnsOf (h : Nat) : Nat := (h * 2 ^ 33 + 36000) / 72000

/-- An angle step within bounds given in hundredths of a degree. -/
def stepIn (step lo hi : Nat) : Bool := decide (turnsOf lo ≤ step ∧ step ≤ turnsOf hi)

/-- SCH_DESC. -/
def descOk (p : CtxProg) : Bool :=
  let w0 := p.word 0
  let per := p.period
  let angle := p.trig == 2 || p.trig == 3
  let kind := match p.cls with
    | 0 => (p.trig == 1 && decide (25 ≤ per ∧ per ≤ 200)) || (p.trig == 2 && stepIn per 585 3240) || (p.trig == 3 && per != 0)
    | 1 => (p.trig == 1 && decide (200 ≤ per ∧ per ≤ 10000)) || (p.trig == 2 && decide (turnsOf 4680 ≤ per)) ||
        (p.trig == 3 && per != 0) || p.trig == 4
    | 2 => (p.trig == 1 && decide (100 ≤ per ∧ per ≤ 360000000)) || p.trig == 4 || p.trig == 5
    | _ => p.trig == 0
  kind && bit w0 31 && bits w0 24 7 == 0 && !bit w0 7 && bits w0 8 4 != 0 && (p.cls == 1 || !bit w0 5) &&
    (p.trig == 4 || bits w0 16 8 == 0) && (p.trig == 1 || angle || (per == 0 && p.phase == 0)) &&
    (p.trig != 1 || decide (p.phase < per)) && bits (p.word 3) 16 16 == 0 && p.word 5 == 0 && p.word 6 == 0 &&
    p.word 7 == 0 && ((upto 4).all fun k => p.word (12 + k) == 0) && p.grants.all fun e => !bit e 13

/-- SCH_AFFINITY of one context. -/
def maskOk (p : CtxProg) : Bool := if p.cls = 3 then p.mask == 0 else p.mask != 0

end Sys2Proof.Machine
end

