-- ==== Sys2Proof/Machine/Plant.lean ====
section
/-! DEFINITION. The plant network as the other blocks see it: frames sent through PRP and IPv4, the best master clock algorithm, SSP datagrams (R322 to R326, R331, R462). -/

namespace Sys2Proof.Machine

/-! ### Frames sent (R322, R324) -/

/-- A plant port has its link. -/
def Block.netLink (b : Block) (portB : Bool) : Bool := b.fgetB (if portB then F.PRP_STAT_LINK_B else F.PRP_STAT_LINK_A)

/-- The plant port of a LAN. -/
def netPort (portB : Bool) : Port := if portB then .netB else .netA

/-- The node's MAC address. -/
def Block.mac (b : Block) : Nat := b.fget F.NET_MAC_HI_MAC * 2 ^ 32 + b.fget F.NET_MAC_LO_MAC

/-- A frame sent on both LANs with one sequence number in its RCT. -/
def Block.prpSend (b : Block) (kind : String) (ws : List Nat) : Block :=
  let seq := b.net.prpSeq
  let b := { b with net := { b.net with prpSeq := low 16 (seq + 1) } }
  let b := b.when (b.netLink false) fun b => b.send .netA kind (seq :: ws)
  b.when (b.netLink true) fun b => b.send .netB kind (seq :: ws)

/-- Frames of the last 400 ms; those that leave without their second copy are missing on the other LAN. -/
def Block.prpLone (b : Block) : List PrpFrame :=
  b.net.seen.filter fun (e : PrpFrame) => decide (e.at_ + 400000000 < b.clk) && !e.twice

/-- A linked port that has received nothing for 400 ms while frames arrived on the other: the loss of all frames on its LAN
is recorded once (R323). Log: 198 (DESIGN CHOICE). -/
def Block.lanSilent (b : Block) (portB : Bool) : Block :=
  let last := if portB then b.net.lastB else b.net.lastA
  let lost := if portB then b.net.silentB else b.net.silentA
  if lost || !b.netLink portB || decide (b.clk ≤ last + 400000000) then b
  else
    { b with net := if portB then { b.net with silentB := true } else { b.net with silentA := true } }.recRegs 0xA1 0xFF
      [Reg.PRP_STAT, if portB then Reg.PRP_MISS_B else Reg.PRP_MISS_A] []

/-- 400 ms after a frame its second copy counts as missing on the other LAN. Log: 104 (DEDUCED). -/
def Block.prpExpire (b : Block) : Block :=
  let lone := b.prpLone
  let onB := lone.filter (·.portB)
  let onA := lone.filter fun (e : PrpFrame) => !e.portB
  let b := { b with net := { b.net with seen := b.net.seen.filter fun (e : PrpFrame) => decide (b.clk ≤ e.at_ + 400000000) } }
  let b := (b.addSat F.PRP_MISS_A_COUNT onB.length).addSat F.PRP_MISS_B_COUNT onA.length
  (b.when (!onB.isEmpty) fun b => b.lanSilent false).when (!onA.isEmpty) fun b => b.lanSilent true

/-- Address, mask and gateway as the registers hold them are in force. -/
def Block.ipTake (b : Block) : Block :=
  { b with net := { b.net with ip := [b.regN Reg.NET_IP_ADDR, b.regN Reg.NET_IP_MASK, b.regN Reg.NET_IP_GW] } }

/-- The address a datagram is sent to on the LAN: its destination inside the subnet, else the gateway (R324). -/
def Block.nextHop (b : Block) (dst : Nat) : Nat :=
  let mask := nth 0 b.net.ip 1
  if dst &&& mask = nth 0 b.net.ip 0 &&& mask then dst else nth 0 b.net.ip 2

/-- An IPv4 datagram: the next hop is asked for by ARP before the first one (R324). Log: 196 (DESIGN CHOICE). -/
def Block.ipSend (b : Block) (kind : String) (dst : Nat) (ws : List Nat) : Block :=
  let hop := b.nextHop dst
  let b := if b.net.arp.contains hop then b
    else { b with net := { b.net with arp := hop :: b.net.arp } }.prpSend "ARP request" [hop, nth 0 b.net.ip 0, b.mac]
  b.prpSend kind (hop :: dst :: ws)

/-! ### Best master clock algorithm (R325, R326, R329) -/

/-- The TSU is LOCKED to a source other than PTP and holds valid time. -/
def Block.ptpLocked (b : Block) : Bool :=
  b.fget F.TSU_STAT_STATE == 2 && (b.fget F.TSU_STAT_SRC_ACT == 2 || b.fget F.TSU_STAT_SRC_ACT == 3) && b.fgetB F.TSU_STAT_TIME_VALID

/-- The clockClass the node announces. -/
def Block.ptpClass (b : Block) : Nat := b.fget (if b.ptpLocked then F.PTP_PRIO_CLASS_LOCKED else F.PTP_PRIO_CLASS_FREE)

/-- The node's own data set. -/
def Block.ptpOwn (b : Block) : PtpSet :=
  let me := Config.clockIdentity b.mac
  { prio1 := b.fget F.PTP_PRIO_PRIORITY1, cls := b.ptpClass, accuracy := Config.clockQuality.1
    variance := Config.clockQuality.2, prio2 := b.fget F.PTP_PRIO_PRIORITY2, gm := me, steps := 0, sender := me }

/-- The first list is lexicographically smaller. -/
def lexLess : List Nat → List Nat → Bool
  | x :: l, y :: m => if x = y then lexLess l m else decide (x < y)
  | _, _ => false

/-- The default data set comparison: the first wins. Paths to one grandmaster are told apart by steps and sender.
Log: 106 (DEDUCED). -/
def PtpSet.beats (x y : PtpSet) : Bool :=
  if x.gm = y.gm then lexLess [x.steps, x.sender] [y.steps, y.sender]
  else lexLess [x.prio1, x.cls, x.accuracy, x.variance, x.prio2, x.gm] [y.prio1, y.cls, y.accuracy, y.variance, y.prio2, y.gm]

/-- The node is a master: it may be one, and its own data set beats every master heard; with none heard, an announce receipt
timeout made it one. -/
def Block.ptpLeads (b : Block) : Bool :=
  let heard := [b.net.portA.master, b.net.portB.master].filterMap id
  !b.fgetB F.PTP_CFG_SLAVE_ONLY && b.fgetB F.PTP_CFG_EN && (b.net.master || !heard.isEmpty) && heard.all b.ptpOwn.beats

/-! ### SSP datagrams (R331, R462) -/

/-- A number in `n` bytes, little-endian. -/
def leBytes : Nat → Nat → List Nat
  | 0, _ => []
  | n + 1, v => v % 256 :: leBytes n (v / 256)

/-- Little-endian number of `n` bytes at an offset. -/
def leAt (l : List Nat) (off n : Nat) : Nat := ((l.drop off).take n).foldr (fun x v => x + 256 * v) 0

/-- HMAC-SHA-256. -/
def hmac256 (key msg : List Nat) : List Nat :=
  let k := if 64 < key.length then Config.sha256 key else key
  let k := k ++ List.replicate (64 - k.length) 0
  Config.sha256 (k.map (· ^^^ 0x5C) ++ Config.sha256 (k.map (· ^^^ 0x36) ++ msg))

/-- HKDF-SHA-256: 32 bytes. -/
def hkdf256 (salt secret info : List Nat) : List Nat := hmac256 (hmac256 salt secret) (info ++ [1])

/-- The TAG over the bytes before it. -/
def sspTag (key l : List Nat) : List Nat := (hmac256 key l).take 16

/-- "0SSP". -/
def sspMagic : Nat := 0x30505353

/-- Payload bytes of a datagram at most. -/
def sspMax : Nat := 1400

/-- Header and payload of a datagram. -/
def sspHead (ver typ sv result session seq : Nat) (payload : List Nat) : List Nat :=
  leBytes 4 sspMagic ++ [ver, typ, sv, result] ++ leBytes 2 session ++ [0, 0] ++ leBytes 4 seq ++ leBytes 4 payload.length ++ payload

/-- A datagram of a session. -/
def Session.datagram (s : Session) (typ sv result seq : Nat) (payload : List Nat) : List Nat :=
  let l := sspHead s.ver typ sv result s.num seq payload
  l ++ sspTag s.key l

/-- A datagram leaves from NET_CFG.SSP_PORT to a client. -/
def Block.sspSend (b : Block) (peer : Nat) (l : List Nat) : Block := b.ipSend "SSP" peer (b.fget F.NET_CFG_SSP_PORT :: l)

/-- The first whole multiple of a period of `ms` after TSU time `t` (R335). Log: 180 (DESIGN CHOICE). -/
def pubNext (ms t : Nat) : Nat := (t / (ms * 1000000) + 1) * (ms * 1000000)

end Sys2Proof.Machine
end

