-- ==== Sys2Proof/Machine/Session.lean ====
section
/-! DEFINITION. SSP sessions as the other blocks see them: entries, their end, credentials in force (R332, R337, R461, R468). -/

namespace Sys2Proof.Machine

/-! ### The SEC header (R469) -/

def secUnlocks : Fld := ⟨Reg.BLK_STAT 0xF8, 24, 8⟩
def secResult : Fld := ⟨Reg.BLK_STAT 0xF8, 16, 8⟩
def secRevoked : Fld := ⟨Reg.BLK_STAT 0xF8, 12, 4⟩
def secCommissioning : Fld := ⟨Reg.BLK_STAT 0xF8, 10, 1⟩
def secSvc : Fld := ⟨Reg.BLK_STAT 0xF8, 9, 1⟩
def secErased : Fld := ⟨Reg.BLK_STAT 0xF8, 8, 1⟩

/-- The public half of the identity key and the content key: the secure element holds them until an unlock erases them
(R458, R465). -/
def Block.identity (b : Block) : Option (List Nat) := if b.fgetB secErased then none else some Config.identityKey

def Block.contentKey (b : Block) : Option (List Nat) := if b.fgetB secErased then none else some Config.contentKey

/-- Block `n` of cellar area 4 as the device holds it for an image stored there: 4 KiB of it under the content key, never in
clear (R460). -/
def Block.atRest (b : Block) (image : List Nat) (n : Nat) : Option (List Nat) :=
  b.contentKey.map fun k => Config.aesXts k n ((image.drop (4096 * n)).take 4096)

/-- What area 4 gives on reading: the image decrypted, nothing once the content key is erased (R460, R465). -/
def Block.fromRest {α : Type} (b : Block) (image : Option α) : Option α := b.contentKey.bind fun _ => image

/-- Code of a role (R332). -/
def roleCode : Role → Nat
  | .viewer => 1
  | .operator => 2
  | .engineer => 3

/-- The session of a number. -/
def Block.session (b : Block) (n : Nat) : Option Session := b.ssp.sessions.find? fun s => s.num == n

/-- Replace a session. -/
def Block.putSession (b : Block) (s : Session) : Block :=
  { b with ssp := { b.ssp with sessions := b.ssp.sessions.map fun t => if t.num = s.num then s else t } }

/-- The NET page shows the entries in use. -/
def Block.sessShow (b : Block) : Block :=
  let b := b.setRegN Reg.NET_SESS_MAP ((b.ssp.sessions.map fun s => 2 ^ s.entry).sum)
  b.forAll (upto 16) fun b k =>
    match b.ssp.sessions.find? fun s => s.entry == k with
    | some s => (b.setRegN (Reg.NET_SESS_INFO k) (s.ver * 2 ^ 24 + roleCode s.role * 2 ^ 16 + s.num)).setRegN (Reg.NET_SESS_PEER k) s.peer
    | none => (b.setRegN (Reg.NET_SESS_INFO k) 0).setRegN (Reg.NET_SESS_PEER k) 0

/-- A session ends: its page unlocks end, its latch is gone, a transfer is left open (R60, R337). -/
def Block.closeSession (b : Block) (n : Nat) : Block :=
  match b.session n with
  | none => b
  | some _ =>
    let held := (b.fab.holders.filter fun h => h.2 == .net n).map (·.1)
    let b := b.forAll held Block.lockPage
    let b := { b with
      fab := { b.fab with latches := mapErase b.fab.latches (Requester.net n) }
      ssp := { b.ssp with
        sessions := b.ssp.sessions.filter fun (s : Session) => s.num != n
        transfer := b.ssp.transfer.map fun (t : Transfer) => if t.session = some n then { t with session := none, since := b.clk } else t
        waiting := b.ssp.waiting.filter fun (w : Nat × Nat × SspReq) => w.1 != n } }
    (b.sessShow).raiseEvt 0xA0 1

/-- The highest role of a credential in force; none for any other key (R461). -/
def Block.credRole (b : Block) (key : List Nat) : Option Nat :=
  match b.prog.bind (·.creds) with
  | some l => (l.find? fun e => e.1 == key).map fun e => e.2.1
  | none => if key == Config.commissioningKey then some 3 else none

/-- A publication of a session: TYPE 3, SERVICE 34, with the session's publication counter (R331, R334). -/
def Block.pubSend (b : Block) (n : Nat) (payload : List Nat) : Block :=
  match b.session n with
  | none => b
  | some s => (b.putSession { s with pubSeq := low 32 (s.pubSeq + 1) }).sspSend s.peer (s.datagram 3 34 0 s.pubSeq payload)

/-- VID (4), value (8), quality byte (1), TSU seconds (6) and nanoseconds (4) of one variable.
Log: 199 (DESIGN CHOICE). -/
def pubBytes (vid v quality t : Nat) : List Nat :=
  leBytes 4 vid ++ leBytes 8 v ++ [quality] ++ leBytes 6 (t / 1000000000) ++ leBytes 4 (t % 1000000000)

/-- Variables that one datagram of 1 400 payload bytes carries. -/
def pubMost : Nat := 60

/-- Subscribed VIDs that the image does not define are dropped and reported once with level BAD (R335).
Log: 123 (DESIGN CHOICE). -/
def Block.subsFollow (b : Block) : Block :=
  b.forAll b.ssp.sessions fun b s =>
    let gone := s.subs.filter fun e => (b.vidTagOf e.1).isNone
    if gone.isEmpty then b
    else
      let b := b.putSession { s with subs := s.subs.filter fun e => (b.vidTagOf e.1).isSome }
      let (v, b) := b.free
      b.forAll (pieces pubMost ((gone.length + pubMost - 1) / pubMost) gone) fun b l =>
        b.pubSend s.num (l.flatMap fun e => pubBytes e.1 v.toNat 2 b.now)

/-- The credential table changes: SEC_CRED and the header follow, and a session whose credential is gone or lowered
closes (R468, R469). -/
def Block.credFollow (b : Block) : Block :=
  let n := ((b.prog.bind (·.creds)).map (·.length)).getD 0
  let b := (b.fset F.SEC_CRED_COUNT n).fsetB secCommissioning ((b.prog.bind (·.creds)).isNone)
  let bad := b.ssp.sessions.filter fun s => match b.credRole s.cred with
    | some r => decide (r < roleCode s.role) || (b.prog.bind (·.creds)).isNone
    | none => true
  b.forAll (bad.map (·.num)) Block.closeSession

end Sys2Proof.Machine
end

