-- ==== Sys2Proof/Machine/Saf.lean ====
section
/-! DEFINITION. The safety island: its cycle and programs, hold-offs, lock-out and the ways out of it, its configuration (R272 to R295).
Log: 59 (DEDUCED). -/

namespace Sys2Proof.Machine

def isSafeOff : Nat := 0
def isRun : Nat := 1
def isLockout : Nat := 2

/-- SAF_STATE.STATE. -/
def Block.islState (b : Block) : Nat := b.fget F.SAF_STATE_STATE

/-- The safety configuration in force. -/
def Block.safCfg (b : Block) : Option SafCfg := b.prog.bind (·.saf)

/-- Channels the island owns. -/
def Block.owned (b : Block) : List Nat := (upto 64).filter fun n => (b.chan n).island

/-- A 64-bit channel map, bit n for channel n, from a predicate. -/
def Block.islMap (b : Block) (lo : Nat) (f : Nat → Bool) : Block :=
  b.setPair lo (((upto 64).map fun n => mark (f n) n).sum)

/-- The KIND 2 value of a channel. -/
def Block.commanded (b : Block) (n : Nat) : Nat := mapGet 0 b.isl.command n

/-- An island record into its held space (R287, R405). -/
def Block.islRecord (b : Block) (evt : Nat) : Block :=
  let pairs := [Reg.SAF_STATE, Reg.SAF_CAUSES, Reg.SAF_LOCK_TIME_LO, Reg.SAF_LOCK_TIME_HI].map b.regPair
  (b.timed .islRecord).recIsland (b.mkRec (blockSeverity 0xC0 evt) 3 0x10C0 0 (blockWords evt pairs))

/-- SAF_OUT and SAF_HOLD, and the switches of owned outputs: each core closes its own on what it has commanded, but for a
hold-off, and an output is energised only while both are closed (R273). CH_STAT.TRIPPED shows the pair. -/
def Block.islShow (b : Block) : Block :=
  let run := b.islState == isRun
  let held (n : Nat) : Bool := b.isl.holds.any fun e => e.1 == n
  let closed := b.owned.filter fun n => run && b.commanded n == 1 && !held n
  let b := { b with isl := { b.isl with closedX := closed, closedY := closed } }
  let b := b.islMap Reg.SAF_OWN_LO fun n => (b.chan n).island
  let b := b.islMap Reg.SAF_OUT_LO fun n => run && b.commanded n == 1
  let b := b.islMap Reg.SAF_HOLD_LO held
  b.forAll (b.owned.filter fun n => b.chMode n == 9 || b.chMode n == 10) fun b n =>
    (b.fsetB (F.CH_STAT_TRIPPED n) (!(b.isl.closedX.contains n && b.isl.closedY.contains n))).chRefresh n

/-- Enter a state: its event rises, and the switches follow. -/
def Block.islEnter (b : Block) (st evt : Nat) : Block := ((b.fset F.SAF_STATE_STATE st).raiseEvt 0xC0 evt).islShow

/-! ### Lock-out (R284, R285, R287) -/

/-- Outcome of a reset request or start command (R291). -/
def Block.islResult (b : Block) (source code : Nat) : Block :=
  ((b.fset F.SAF_RESET_RES_SOURCE source).fset F.SAF_RESET_RES_CODE code).raiseEvt 0xC0 (if code = 0 then 3 else 4)

/-- A refused request ends; all else stays. -/
def Block.resetRefused (b : Block) (code : Nat) : Block :=
  { b with isl := { b.isl with phase := .none } }.islResult b.isl.source code

/-- A further cause is seen together with the one that locked: at the same instant, or a discrepancy in the cycle of a TRAP
(R284, R294). -/
def Block.together (b : Block) (cause : Nat) : Bool :=
  b.isl.lockedAt == some b.clk || (b.isl.lockedAt.isSome && cause == 1 && b.fget F.SAF_STATE_CAUSE == 14)

/-- The cause and channel that SAF_STATE shows. -/
def Block.showCause (b : Block) (cause : Nat) (ch : Option Nat) : Block :=
  ((b.fset F.SAF_STATE_CAUSE cause).fsetB F.SAF_STATE_CH_VALID ch.isSome).fset F.SAF_STATE_CAUSE_CH (ch.getD 0)

/-- What a cause takes from a core or its oscillator until a later test or comparison passes.
Log: 169 (DESIGN CHOICE). -/
def Block.coreDown (b : Block) (cause : Nat) : Block :=
  let b := b.when (cause == 5) fun b => b.fset F.SAF_CLOCK_OSC_OK 0
  b.when (cause == 1 || cause == 2 || cause == 3) fun b => (b.fset F.SAF_STATE_SX_OK 0).fset F.SAF_STATE_SY_OK 0

/-- A cause joins SAF_CAUSES, and its channel SAF_CHFLT. USER_TRAP counts as cleared at once (R286). -/
def Block.causeSeen (b : Block) (cause : Nat) (ch : Option Nat) : Block :=
  let b := (b.fset ⟨Reg.SAF_CAUSES, cause, 1⟩ 1).fsetB ⟨Reg.SAF_CLEARED, cause, 1⟩ (cause == 14)
  match ch with
  | some n => { b.chMap Reg.SAF_CHFLT_LO n true with isl := { b.isl with causeChs := n :: b.isl.causeChs } }
  | none => b

/-- A lock-out cause is detected. After power fail is committed the island detects none (R286). Of causes detected together
the lower shows (R284). A reset test that it meets is abandoned without a result (R290), and a pulse that waited for the
programs is gone (R288). Log: 195 (DESIGN CHOICE). -/
def Block.lockout (b : Block) (cause : Nat) (ch : Option Nat) : Block :=
  if cause = 0 ∨ 14 < cause ∨ b.powerFailing then b
  else
    let entered := b.islState == isLockout
    let b := (b.causeSeen cause ch).coreDown cause
    if entered then
      let b := b.when (b.together cause && decide (cause < b.fget F.SAF_STATE_CAUSE)) fun b => b.showCause cause ch
      if b.isl.phase = .selfTest then (b.fset F.SAF_TEST_RESULT 0).resetRefused 2 else b
    else
      let b := b.showCause cause ch
      let b := (b.stamp Reg.SAF_LOCK_TIME_LO Reg.SAF_LOCK_TIME_HI).incSat F.SAF_LOCK_CNT_COUNT
      let b := b.incWrap F.SAF_NONCE_NONCE
      let b := { b with isl := { b.isl with
        latchSX := true, latchSY := true, unconfirmed := true, started := false, request := false, lockedAt := some b.clk } }
      let b := b.islEnter isLockout 1
      let b := b.celRequest .lockout
      b.islRecord 1

/-- LOCKOUT_CAUSE. FIELD_SUPPLY is a cause only while the field bus is off and the island owns a channel. -/
def execLockoutCause (cause : Fin 15) (ch : Option (Fin 64)) (s : State) : Host.Outcome State Fault Refusal := lift (fun b =>
  if cause.val = 12 ∧ (b.owned.isEmpty ∨ b.pwr.fieldOn) then b else b.lockout cause.val (ch.map (·.val))) s

/-- ISLAND_RECORD_REPEAT: every 100 ms until the supervisor confirms the record as durable (R287). -/
def execIslandRecordRepeat (s : State) : Host.Outcome State Fault Refusal := lift (fun b =>
  if b.isl.unconfirmed && b.islState == isLockout && b.passed .islRecord 100000000 then b.islRecord 1 else b) s

/-! ### Safety programs (R278 to R282) -/

/-- How a safety program's cycle ends. -/
inductive SafEnd where
  | done | trapped | overdue

/-- Run a safety program from its program counter until END or TRAP, at most `fuel` instructions. -/
def safRun (p : CtxProg) (c : Nat) : Nat → Cx → Cx × SafEnd
  | 0, x => (x, .overdue)
  | fuel + 1, x =>
    match decodeInsn (nth 0 p.code x.pc) (nth 0 p.code (x.pc + 1)) with
    | none => (x, .overdue)
    | some i =>
      let r := runInsn p [] c i x
      match r.fin with
      | .goOn => safRun p c fuel r.cx
      | .endCycle => (r.cx, .done)
      | .exception _ _ => (r.cx, .trapped)

/-- Instructions a core can run in the longest T_S / 2 at 200 MHz: no program that fits its WCET reaches it. -/
def safFuel : Nat := 2000000

/-- KIND and INDEX of an island SOURCE. -/
def islKind (src : Nat) : Nat := bits src 16 8
def islIndex (src : Nat) : Nat := bits src 0 16

/-- The causes that make an island input element BAD (R280). -/
def islCauses : List Nat := [6, 7, 8, 14, 18]

/-- The cause of an element of KIND `k` on a channel: the lowest that the channel's fault state or the safety-side path gives,
0 for GOOD; 18 where the path gives no value. Log: 57 (DESIGN CHOICE). -/
def Block.islCause (b : Block) (k n : Nat) (found : Option SafIn) : Nat :=
  let own := (b.chCauses n).filter fun c => if k == 1 then islCauses.contains c else c == 8 || c == 18
  let path := match found with
    | some i => if islCauses.contains i.cause then [i.cause] else []
    | none => [18]
  ((own ++ path).min?).getD 0

/-- The element of a KIND on a channel as the path gave it. -/
def safInOf (ins : List SafIn) (k n : Nat) : Option SafIn := ins.find? fun i => i.kind == k && i.ch == n

/-- An island input element: a BAD one reads 0 (R280). -/
def Block.islEl (b : Block) (ins : List SafIn) (e : IoEl) : InEl :=
  let k := islKind e.source
  let n := islIndex e.source
  if k = 5 then ⟨if b.isl.request then 1 else 0, 0, 0⟩
  else
    let cause := b.islCause k n (safInOf ins k n)
    if cause = 0 then ⟨if (safInOf ins k n).any (·.on) then 1 else 0, 0, 0⟩ else ⟨0, 2 + 4 * cause, 0⟩

/-- A safety program as loaded: INIT slots, no flags, no outputs. -/
def safFresh (p : CtxProg) : Cx := { slots := p.init.map (BitVec.ofNat 32) }

/-- The one's complement of a data word. -/
def inverted32 (v : Nat) : Nat := 2 ^ 32 - 1 - low 32 v

/-- A program's data as a core holds it: SY holds slots, inputs and results inverted (R272). -/
def Cx.heldBy (x : Cx) (sy : Bool) : Cx :=
  if sy then
    { x with
      slots := x.slots.map (~~~ ·), inputs := x.inputs.map fun e => { e with value := inverted32 e.value }
      written := x.written.map fun w => (w.1, inverted32 w.2) }
  else x

/-- Results of a cycle's programs: contexts with their execution state as the core holds it, and whether one trapped or ran
over. -/
structure SafSet where
  progs : List (Nat × Cx)
  trap : Bool
  late : Bool

/-- Run the programs of SX, or of SY, in the order of PROG from the core's own store and memory, on one coherent set of
inputs. Log: 57 (DESIGN CHOICE). -/
def Block.safPrograms (b : Block) (sy : Bool) (ins : List SafIn) : SafSet :=
  let cs := ((b.safCfg.map (·.progs)).getD []).map (·.1)
  cs.foldl (fun (r : SafSet) c =>
    let p := mapGet {} (if sy then b.isl.storeY else b.isl.storeX) c
    let x := (mapGet ((safFresh p).heldBy sy) (if sy then b.isl.progsY else b.isl.progs) c).heldBy sy
    let y := { x with
      pc := 0, stack := [], cstat := mark b.isl.first 0
      inputs := p.iomap.map fun e => if e.isOut then {} else b.islEl ins e }
    let (z, fin) := safRun p c safFuel y
    let z := z.heldBy sy
    let trap := match fin with
      | .trapped => true
      | _ => false
    let late := match fin with
      | .overdue => true
      | _ => false
    ⟨mapSet r.progs c z, r.trap || trap, r.late || late⟩) ⟨[], false, false⟩

/-- KIND 2 or KIND 4 values the programs have written, as (INDEX, value). -/
def Block.safOuts (b : Block) (kind : Nat) (progs : List (Nat × Cx)) : List (Nat × Nat) :=
  progs.flatMap fun e => e.2.written.filterMap fun w =>
    let el := (b.ctxProg e.1).el w.1
    if el.isOut && islKind el.source == kind then some (islIndex el.source, w.2) else none

/-- The compare word of a core, from its programs with no word inverted (R282): the KIND 2 and KIND 4 values, the sticky flags,
and a CRC-32 over all slots. -/
def Block.compareWord (b : Block) (progs : List (Nat × Cx)) : List Nat :=
  let pairs (k : Nat) : List Nat := (b.safOuts k progs).flatMap fun e => [e.1, e.2]
  pairs 2 ++ pairs 4 ++ progs.map (·.2.flags) ++ [crc32 (fBytes (progs.flatMap fun e => e.2.slots.map (·.toNat)))]

/-! ### Hold-off (R283) -/

/-- The condition of a hold-off has not cleared on the channel. -/
def Block.holdCondition (b : Block) (n : Nat) : Bool :=
  if b.chMode n = 10 then b.fgetB (F.CH_STAT_COMPLIANCE n) || b.fgetB (F.CH_STAT_THERMAL n) else false

/-- A hold-off begins: an AO_ST held off does not regulate, so that COMPLIANCE clears at once. -/
def Block.holdBegin (b : Block) (n : Nat) : Block :=
  let overload := b.chMode n == 9
  let b := b.fset (if overload then F.CH_STAT_OVERLOAD n else F.CH_STAT_COMPLIANCE n) (if overload then 1 else 0)
  let b := { b with isl := { b.isl with holds := b.isl.holds ++ [(n, (!overload && !b.holdCondition n, false))] } }
  b.islShow.raiseEvt 0xC0 7

/-- ISLAND_HOLD_OFF: an SDO in overload, or an AO_ST with COMPLIANCE, or with THERMAL short of its target. -/
def execIslandHoldOff (ch : Fin 64) (s : State) : Host.Outcome State Fault Refusal := lift (fun b =>
  let n := ch.val
  let overload := b.chMode n == 9
  let arises := overload || (b.chMode n == 10 &&
    (b.fgetB (F.CH_STAT_COMPLIANCE n) || (b.fgetB (F.CH_STAT_THERMAL n) && (b.chan n).short)))
  if !(b.chan n).island || b.islState != isRun || (b.isl.holds.any fun e => e.1 == n) ||
      !arises then b
  else b.holdBegin n) s

/-- One cycle of a hold-off: a 0 counts from the cycle after its condition has cleared, and a following 1 ends it while the
condition is still clear. On an SDO the first full cycle of 0 clears the condition and OVERLOAD. -/
def Block.holdStep (b : Block) (e : Nat × (Bool × Bool)) : Block :=
  let n := e.1
  let v := b.commanded n
  let sdo := b.chMode n == 9
  let b := b.when (sdo && e.2.2) fun b => b.fset (F.CH_STAT_OVERLOAD n) 0
  if e.2.2 && v == 1 && (sdo || !b.holdCondition n) then { b with isl := { b.isl with holds := mapErase b.isl.holds n } }
  else
    let cleared := sdo || !b.holdCondition n
    let seen := if v == 1 then false else sdo || e.2.1 || e.2.2
    { b with isl := { b.isl with holds := mapSet b.isl.holds n (cleared, seen) } }

/-! ### The safety cycle (R275, R281) -/

/-- T_S in ns; 0 without a configuration. -/
def Block.safPeriod (b : Block) : Nat := ((b.safCfg.map (·.cycle)).getD 0) * 1000

/-- A cycle is due: at a TSU target from 0.99 T_S after the previous start, and without one at 1.01 T_S. A target that fired
earlier is held to 0.99 T_S (R281). Without a previous start or a configuration no interval binds.
Log: 170 (DEDUCED). -/
def Block.cycleDue (b : Block) : Bool :=
  match b.isl.lastStart with
  | none => true
  | some (at_, grid) =>
    let p := b.safPeriod
    let gone := b.clk - at_
    p == 0 || (decide (99 * p ≤ 100 * gone) && (decide (grid < b.now / p) || decide (101 * p ≤ 100 * gone)))

/-- A cycle starts now. -/
def Block.cycleBegun (b : Block) : Block :=
  { b with isl := { b.isl with lastStart := some (b.clk, b.now / b.safPeriod), lockedAt := none } }

/-- The start conditions of R275. -/
def Block.islMayRun (b : Block) : Bool :=
  b.islState == isSafeOff && b.pwr.completed && b.safCfg.isSome && b.fget F.SAF_TEST_RESULT == 2 &&
    (b.owned.isEmpty || b.fgetB F.CHG_FP_STAT_BUS_OK) &&
    ((b.safCfg.map (·.startMode)).getD 0 == 0 || b.isl.started)

/-- Enter RUN: slots take INIT in both cores, the first cycle carries FIRST. -/
def Block.islStart (b : Block) : Block :=
  let b := { b with isl := { b.isl with
    progs := b.isl.storeX.map fun (e : Nat × CtxProg) => (e.1, safFresh e.2)
    progsY := b.isl.storeY.map fun (e : Nat × CtxProg) => (e.1, (safFresh e.2).heldBy true)
    first := true, request := false, started := false, command := [], holds := [] } }
  ((b.fset F.SAF_CYC_CNT_COUNT 0).fset F.SAF_CYCLE_CYC_MAX 0).islEnter isRun 0

/-- Causes whose clearing the island sees on its own: measured ones by `cleared`, FIELD_SUPPLY by the field bus,
USER_TRAP at once (R286). -/
def Block.islCleared (b : Block) (cleared : Nat) : Nat :=
  ([5, 6, 8, 9, 10, 11, 13].map fun c => mark (bit cleared c) c).sum + mark (b.fgetB F.CHG_FP_STAT_BUS_OK) 12 + 2 ^ 14

/-- The KIND of the input element of an owned channel: a state or a readback (R279). -/
def Block.inKind (b : Block) (n : Nat) : Nat := if isDiMode (b.chMode n) then 1 else 3

/-- SAF_IN, SAF_CHFLT and SAF_CLEARED keep running in every state (R274). What a passed reset test has cleared stays so. -/
def Block.islDiagnose (b : Block) (ins : List SafIn) (cleared : Nat) : Block :=
  let causeOf (n : Nat) : Nat := b.islCause (b.inKind n) n (safInOf ins (b.inKind n) n)
  let b := b.islMap Reg.SAF_IN_LO fun n => b.owned.contains n && (safInOf ins 1 n).any (·.on) && causeOf n == 0
  let b := b.islMap Reg.SAF_CHFLT_LO fun n => (b.owned.contains n && causeOf n != 0) || b.isl.causeChs.contains n
  let b := b.when (bit cleared 5) fun b => b.fset F.SAF_CLOCK_OSC_OK 1
  let tested := b.regN Reg.SAF_CLEARED &&& ([1, 2, 3, 4, 7].map fun c => 2 ^ c).sum
  b.setRegN Reg.SAF_CLEARED ((b.islCleared cleared ||| tested) &&& b.regN Reg.SAF_CAUSES)

/-- Both cores have passed a comparison or their test. -/
def Block.coresUp (b : Block) : Block := (b.fset F.SAF_STATE_SX_OK 1).fset F.SAF_STATE_SY_OK 1

/-- How the two cores end a cycle (R281, R282): their programs, their compare words as each holds its own, and whether a core
was late, trapped, or differs from the other. The slower core's word is there `c2us` after c0, by 0.85 T_S or too late. -/
structure SafCycle where
  x : SafSet
  y : SafSet
  wordX : List Nat
  wordY : List Nat
  late : Bool
  trap : Bool
  differ : Bool

/-- Phases c0 to c1 of a cycle: both cores run, and their words are compared, SY's inverted back. -/
def Block.safCompare (b : Block) (ins : List SafIn) (c2us : Nat) : SafCycle :=
  let x := b.safPrograms false ins
  let y := b.safPrograms true ins
  let wx := b.compareWord x.progs
  let wy := (b.compareWord (y.progs.map fun (e : Nat × Cx) => (e.1, e.2.heldBy true))).map inverted32
  let late := x.late || y.late || decide (85 * b.safPeriod < 100000 * c2us)
  ⟨x, y, wx, wy, late, x.trap || y.trap, !late && wx != wy.map inverted32⟩

/-- The programs of one cycle run and their results are applied, unless the island locks out: it sees every cause of the
cycle (R284, R294). -/
def Block.islCycle (b : Block) (ins : List SafIn) (c2us : Nat) : Block :=
  let r := b.safCompare ins c2us
  let b := b.when b.isl.request fun b => b.raiseEvt 0xC0 8
  let b := { b with isl := { b.isl with
    progs := r.x.progs, progsY := r.y.progs, wordX := r.wordX, wordY := r.wordY, first := false, request := false } }
  if r.late || r.trap || r.differ then
    ((b.when r.differ fun b => b.lockout 1 none).when r.late fun b => b.lockout 2 none).when r.trap fun b => b.lockout 14 none
  else
    let r := r.x
    let b := (b.incWrap F.SAF_CYC_CNT_COUNT).coresUp
    let b := b.fset F.SAF_CYCLE_CYC_MAX (Nat.max (b.fget F.SAF_CYCLE_CYC_MAX) (Nat.min c2us 65535))
    let b := b.forAll (b.safOuts 4 r.progs) fun b e => b.setRegN (Reg.SAF_STATUS e.1) e.2
    let cmd := (b.safOuts 2 r.progs).foldl (fun m e => mapSet m e.1 e.2) b.isl.command
    let b := { b with isl := { b.isl with command := cmd } }
    let overloaded := b.owned.filter fun n => b.chMode n == 9 && b.fgetB (F.CH_STAT_OVERLOAD n) && !(b.isl.holds.any fun e => e.1 == n)
    ((b.forAll b.isl.holds Block.holdStep).islShow).forAll overloaded Block.holdBegin

/-- SAFETY_CYCLE_START: nothing starts before a cycle is due. `ins` are the safety-side elements as read at c0, `cleared` the causes whose measured condition
has cleared, `c2us` the interval c0 to c2 of the slower core. Log: 57 (DESIGN CHOICE), 170 (DEDUCED). -/
def execSafetyCycleStart (ins : List SafIn) (cleared c2us : Nat) (s : State) : Host.Outcome State Fault Refusal := lift (fun b =>
  b.when b.cycleDue fun b =>
    let b := (b.cycleBegun.when b.islMayRun Block.islStart).islDiagnose ins cleared
    b.when (b.islState == isRun) fun b => b.islCycle ins c2us) s

/-! ### Leaving LOCKOUT (R288 to R291) -/

/-- Causes that only the reset self-test can clear. -/
def testCauses : List Nat := [1, 2, 3, 4, 7]

/-- A reset request: every cause in SAF_CAUSES must be cleared, but for those that the self-test itself clears. -/
def Block.resetRequest (b : Block) (source : Nat) : Block :=
  if b.isl.phase ≠ .none then b.islResult source 2
  else
    let open_ := (upto 15).any fun c =>
      bit (b.regN Reg.SAF_CAUSES) c && !testCauses.contains c && !bit (b.regN Reg.SAF_CLEARED) c
    if open_ then b.islResult source 2
    else { b with isl := { b.isl with phase := .selfTest, source := source } }.fset F.SAF_TEST_RESULT 1

/-- A start command (R275, R289). -/
def Block.startCommand (b : Block) (source : Nat) : Block :=
  match b.safCfg with
  | none => b.islResult source 8
  | some cfg =>
    if cfg.startMode = 0 ∨ b.islState ≠ isSafeOff ∨ !b.pwr.completed then b.islResult source 9
    else { b with isl := { b.isl with started := true } }.islResult source 0

/-- SAFE_RST_PULSE: a pulse of `ms` acts at its fall. -/
def execSafeRstPulse (ms : Nat) (s : State) : Host.Outcome State Fault Refusal := lift (fun b =>
  if ms < 500 ∨ 5000 < ms then b.islResult 1 6
  else if b.islState = isLockout then b.resetRequest 1
  else if b.islState = isRun then { b with isl := { b.isl with request := true } }
  else if (b.safCfg.map (·.startMode)).getD 0 = 1 then b.startCommand 1
  else b) s

/-- A signed command is good when its signature is valid for one of the KEYs and its serial is the module's. -/
def Block.signedOk (b : Block) (action serial nonce : Nat) (sig : List Word) : Bool :=
  let keys := (b.safCfg.map (·.keys)).getD []
  serial == b.pair Reg.SYS_SERIAL_LO &&
    keys.any fun k => Config.ed25519 k (fBytes [low 32 serial, serial / 2 ^ 32, nonce, action]) (fBytes (sig.map (·.toNat)))

/-- SAF_NONCE increments at every signed command, accepted or refused. Log: 58 (DEDUCED). -/
def Block.signedCommand (b : Block) (action serial nonce : Nat) (sig : List Word) : Block :=
  let good := b.signedOk action serial nonce sig
  let fresh := nonce == b.fget F.SAF_NONCE_NONCE
  let b := b.incWrap F.SAF_NONCE_NONCE
  if action = 2 ∧ b.safCfg.isNone then b.islResult 2 8
  else if !good then b.islResult 2 4
  else if !fresh then b.islResult 2 5
  else if action = 2 then b.startCommand 2
  else if b.islState ≠ isLockout then b.islResult 2 1
  else b.resetRequest 2

/-- The session may send signed commands. -/
def Block.signedFrom (b : Block) (session : Nat) : Bool :=
  b.roleOf session == some .operator || b.roleOf session == some .engineer

def execSignedReset (session serial : Nat) (nonce : Word) (sig : List Word) (s : State) : Host.Outcome State Fault Refusal := lift (fun b =>
  if b.signedFrom session then b.signedCommand 1 serial nonce.toNat sig else b) s

def execSignedStart (session serial : Nat) (nonce : Word) (sig : List Word) (s : State) : Host.Outcome State Fault Refusal := lift (fun b =>
  if b.signedFrom session then b.signedCommand 2 serial nonce.toNat sig else b) s

/-- RESET_SELFTEST_COMPLETE: `fail` is 0 after a pass. -/
def execResetSelftestComplete (fail : Nat) (s : State) : Host.Outcome State Fault Refusal := lift (fun b =>
  if b.isl.phase ≠ .selfTest then b
  else
    let b := (b.fset F.SAF_TEST_FAIL_CODE (low 16 fail)).raiseEvt 0xC0 5
    if low 16 fail = 0 then
      let b := (b.fset F.SAF_TEST_RESULT 2).coresUp.setRegN Reg.SAF_CLEARED
        (b.regN Reg.SAF_CLEARED ||| ((testCauses.map fun c => 2 ^ c).sum &&& b.regN Reg.SAF_CAUSES))
      ({ b with isl := { b.isl with phase := .recording } }.timed .resetRecord).islRecord 3
    else (b.fset F.SAF_TEST_RESULT 3).resetRefused 3) s

/-- RESET_RECORD_DURABLE: latches and causes clear, hold-offs end with their overloads (R294), the island enters SAFE-OFF, and
the reset counts as a start command. Log: 208 (DEDUCED). -/
def execResetRecordDurable (s : State) : Host.Outcome State Fault Refusal := lift (fun b =>
  if b.isl.phase ≠ .recording ∨ b.ssp.stall then b
  else
    let b := (b.setRegN Reg.SAF_CAUSES 0).setRegN Reg.SAF_CLEARED 0
    let b := ((b.fset F.SAF_STATE_CAUSE 0).fset F.SAF_STATE_CH_VALID 0).fset F.SAF_STATE_CAUSE_CH 0
    let b := { b with isl := { b.isl with
      latchSX := false, latchSY := false, cellarLocked := false, unconfirmed := false, started := true
      phase := .none, holds := [], command := [], lockedAt := none, causeChs := [] } }
    let b := b.forAll b.owned fun b n => (b.fset (F.CH_STAT_TP_FAULT n) 0).when (b.chMode n == 9) fun b => b.fset (F.CH_STAT_OVERLOAD n) 0
    (b.islEnter isSafeOff 2).islResult b.isl.source 0) s

/-- RESET_RECORD_TIMEOUT: 1 s has passed (R290). -/
def execResetRecordTimeout (s : State) : Host.Outcome State Fault Refusal := lift (fun b =>
  if b.isl.phase = .recording ∧ b.passed .resetRecord 1000000000 then b.resetRefused 7 else b) s

/-! ### The safety configuration (R276 to R279) -/

/-- Instructions of LVC-S. -/
def lvcsInsn : Insn → Bool
  | .arith .sqrt .. | .arith .fma .. => false
  | .arith _ t _ _ _ | .cmp _ t _ _ _ | .cmov t _ _ _ => t != tF32 && t != tF64
  | .cvt _ dst src _ _ => dst != tF32 && dst != tF64 && src != tF32 && src != tF64
  | .br o => decide (0 < o)
  | .brt _ o | .brf _ o => decide (0 < o)
  | .nop | .endCycle | .trap _ | .mov .. | .mov64 .. | .ldi .. | .ldk .. | .logic .. | .call _ | .ret | .ird .. | .iq ..
  | .owr .. | .cstat _ | .xflags _ => true
  | _ => false

/-- An island element is well formed: its KIND, direction, tag and INDEX, on a channel of a fitting mode. -/
def islElOk (cfg : SafCfg) (e : IoEl) : Bool :=
  let i := islIndex e.source
  let mode := if i < 64 then (nth (0, 0, 0) cfg.chans i).1 else 0
  bits e.source 24 8 == 0xC0 && match islKind e.source with
    | 1 => !e.isOut && e.tag == tBool && (mode == 7 || mode == 8)
    | 2 => e.isOut && e.tag == tBool && (mode == 9 || mode == 10)
    | 3 => !e.isOut && e.tag == tBool && (mode == 9 || mode == 10)
    | 4 => e.isOut && e.tag == tU32 && decide (i < 32)
    | 5 => !e.isOut && e.tag == tBool && i == 0
    | _ => false

/-- SAF_LVC of one class-S context. -/
def lvcsOk (cfg : SafCfg) (p : CtxProg) : Bool :=
  (p.insns.all fun e => lvcsInsn e.2) &&
    (p.tags.all fun t => t == 0 || t == tHi || (valueTag t && t != tF32 && t != tF64)) &&
    (entries p.insns p.code.length).all (nestOk p.insns p.code.length 8) &&
    p.iomap.all (islElOk cfg)

/-- SAFCFG is well formed in itself: `w` is its section. -/
def safFormOk (w : List Nat) (cfg : SafCfg) : Bool :=
  let progs := fU8 w 8
  let keys := fU8 w 7
  nth 0 w 0 == 0x47464353 && cfg.cycle % 500 == 0 && decide (1000 ≤ cfg.cycle ∧ cfg.cycle ≤ 20000) &&
    decide (cfg.startMode ≤ 1) && decide (keys ≤ 8) && decide (1 ≤ progs ∧ progs ≤ 16) &&
    fU8 w 9 == 0 && fU8 w 10 == 0 && fU8 w 11 == 0 &&
    ((upto 64).all fun n =>
      let (m, f, u) := nth (0, 0, 0) cfg.chans n
      (m == 0 || decide (7 ≤ m ∧ m ≤ 10)) && decide (f ≤ 7) && decide (u ≤ 2) && fU8 w (0x13 + 4 * n) == 0 &&
        (m == 7 || m == 8 || f == 0) && (m == 9 || u == 0)) &&
    ((upto 16).all fun p => if p < progs then fU16 w (0x112 + 8 * p) == 0 else fU32 w (0x110 + 8 * p) == 0 && fU32 w (0x114 + 8 * p) == 0) &&
    ((upto 8).all fun k => decide (k < keys) || (((w.drop (100 + 8 * k)).take 8).all (· == 0)))

/-- CFG_CRC over SAFCFG and the class-S sections (R276). -/
def safCrc (w : List Nat) (ss : List Section) (ctxs : List Nat) : Nat :=
  crc32 (fBytes (setNth w 3 0) ++ ctxs.flatMap fun c => [2, 3, 4, 5, 8].flatMap fun t => fBytes (sectionFor ss t c).words)

/-- SAF_CONFIG of a whole image (R277). -/
def safConfigOk (w : List Nat) (p : Prog) : Bool :=
  let ss := imgSections w
  let classS := (p.ctxs.filter fun c => c.2.cls == 3).map (·.1)
  let stray := p.ctxs.any fun c => c.2.cls != 3 && c.2.iomap.any fun e => bits e.source 24 8 == 0xC0
  !stray && match p.saf with
    | none => classS.isEmpty
    | some cfg =>
      let sw := (sectionOf ss 13).words
      let cs := cfg.progs.map (·.1)
      !classS.isEmpty && safFormOk sw cfg && cs.eraseDups.length == cs.length && cs.all classS.contains &&
        classS.all cs.contains && decide (2 * (cfg.progs.map (·.2.1)).sum ≤ cfg.cycle) &&
        decide (2 * (cfg.progs.map (·.2.2)).sum ≤ cfg.cycle) &&
        cfg.crc == safCrc sw ss classS

/-- Take up the safety configuration of the image in force: SAFE-OFF first unless locked, then the owned channels'
configuration (R274, R276, R294). A test-pulse fault of a channel that the island keeps stands (R287). -/
def Block.islTakeUp (b : Block) : Block :=
  let b := if b.islState = isRun then b.islEnter isSafeOff 2 else b
  let cfg := b.safCfg
  let before := b.owned
  let modes := (upto 64).map b.chMode
  let store := ((cfg.map (·.progs)).getD []).map fun (e : Nat × Nat × Nat) => (e.1, b.ctxProg e.1)
  let b := { b with isl := { b.isl with
    storeX := store, storeY := store, progs := [], progsY := [], command := [], holds := [], first := false, request := false
    started := false, lastStart := none } }
  let b := b.forAll (upto 64) fun b n =>
    let (m, _, u) := nth (0, 0, 0) ((cfg.map (·.chans)).getD []) n
    if m = 0 then
      if before.contains n then
        let b := (b.modChan n fun c => { c with island := false }).fset (F.CH_MODE_MODE n) 0
        ((b.fset (F.CH_STAT_TRIPPED n) 0).chSetMode n)
      else b
    else
      let b := (b.modChan n fun c => { c with island := true }).fset (F.CH_MODE_MODE n) m
      let b := b.when (m == 9) fun b => b.fset (F.CH_MODE_SP_USE n) u
      let b := b.when (m == 7 || m == 8) fun b => b.fset (F.CH_DI_CFG_TP_SLOT n) n
      let fault := before.contains n && b.fgetB (F.CH_STAT_TP_FAULT n)
      ((b.chSetMode n).fsetB (F.CH_STAT_TP_FAULT n) fault).chRefresh n
  let b := (b.fset F.SAF_STATE_START_MODE ((cfg.map (·.startMode)).getD 0)).fsetB F.SAF_STATE_CFG_VALID cfg.isSome
  let b := (b.fset F.SAF_CYCLE_TS ((cfg.map (·.cycle)).getD 0)).setRegN Reg.SAF_CFG_CRC ((cfg.map (·.crc)).getD 0)
  (b.forAll (upto 64) fun b n => b.hartFollow (nth 0 modes n) n).islShow

end Sys2Proof.Machine
end

