-- ==== Sys2Proof/Machine/Verify.lean ====
section
/-! DEFINITION. Verification of an application image or of the program a package leads to: code checks in the order of R111, then the maps and block configurations (R57, R74, R189, R229, R277, R299, R349, R356, R374).
Log: 47 (DEDUCED). -/

namespace Sys2Proof.Machine

/-! ### Contested elements (R21, R57, R189) -/

/-- Width in bytes of a data item. -/
def itemBytes (tag : Nat) : Nat := (dataWidth tag + 7) / 8

/-- What an output element drives, as numbers no two contexts may share: a channel, the link bytes, a CAN slot, an
island output. -/
def outKeys (e : IoEl) : List Nat :=
  let s := e.source
  let blk := bits s 24 8
  if !e.isOut then []
  else if blk = 0xA8 then (upto (itemBytes e.tag)).map fun k => blk * 2 ^ 24 + srcStation s * 65536 + srcOffset s + k
  else if 0x90 ≤ blk ∧ blk ≤ 0x93 then [blk * 2 ^ 24 + canSlotOf s * 65536]
  else if blk = 0x40 then [blk * 2 ^ 24 + srcChannel s * 65536]
  else [s]

/-- Two contexts of the list share a number that `f` gives them. -/
def shared (l : List (Nat × CtxProg)) (f : Nat → CtxProg → List Nat) : Bool :=
  let keys := l.map fun c => (c.1, (f c.1 c.2).eraseDups)
  (upto keys.length).any fun i =>
    let a := (nth (0, []) keys i).2
    (keys.drop (i + 1)).any fun q => q.2.any a.contains

/-- Job slots that a context's code names. -/
def CtxProg.jobs (p : CtxProg) : List Nat :=
  (p.insns.filterMap fun e => match e.2 with
    | .ssub _ _ j | .scan _ _ j => some j
    | _ => none).eraseDups

/-- The (job slot, context) pairs of a program. -/
def jobPairs (ctxs : List (Nat × CtxProg)) : List (Nat × Nat) := ctxs.flatMap fun c => c.2.jobs.map fun j => (j, c.1)

/-! ### Maps -/

/-- The mode a channel has once the program is in force: the island's, OFF where the island gives it up, else its own. -/
def Block.modeWith (b : Block) (saf : Option SafCfg) (n : Nat) : Nat :=
  let m := (nth (0, 0, 0) ((saf.map (·.chans)).getD []) n).1
  if m ≠ 0 then m else if (b.chan n).island then 0 else b.chMode n

/-- A channel SOURCE is well formed and fits the mode (R229, R267). -/
def Block.chElOk (b : Block) (saf : Option SafCfg) (e : IoEl) : Bool :=
  let s := e.source
  let n := srcChannel s
  let item := bits s 8 8
  let mode := b.modeWith saf n
  bits s 22 2 == 0 && bits s 0 8 == 0 && decide (item ≤ 20) &&
    itemFits mode item e.isOut e.tag (b.fgetB (F.CH_MODE_HART n)) &&
    (decide (item < 16) || e.tag == (if item = 20 then tU32 else tF32)) &&
    !(item == 0 && hasTrims mode && b.fget (F.HRT_CH_CFG_BIND n) == 2)

/-- A tag that an element of link or CAN data may have. -/
def dataTag (t : Nat) : Bool := valueTag t || decide (9 ≤ t ∧ t ≤ 12)

/-- A link SOURCE is well formed and within its station's bytes (R318). -/
def lnkElOk (cfg : Option LnkCfg) (e : IoEl) : Bool :=
  let s := e.source
  match cfg.bind fun c => c.entry (srcStation s) with
  | none => false
  | some st =>
    if srcItem s = 0 then
      dataTag e.tag && (e.tag == tBool || srcBit s == 0) &&
        decide (srcOffset s + itemBytes e.tag ≤ (if e.isOut then st.outBytes else st.inBytes))
    else srcItem s != 3 && !e.isOut && e.tag == tU32 && srcOffset s == 0 && srcBit s == 0

/-- A CAN SOURCE is well formed, on a defined slot, within LEN, and written by the slot's WRITER (R349, R350). -/
def canElOk (cfg : List CanSlotCfg) (c : Nat) (e : IoEl) : Bool :=
  let s := e.source
  let slot := cfg.find? fun q => q.port == bits s 24 8 - 0x90 && q.slot == canSlotOf s
  bits s 6 7 == 0 && match canItem s with
    | 0 | 1 =>
      e.isOut && dataTag e.tag && (e.tag == tBool || bits s 13 3 == 0) && match slot with
        | some q => q.kind != 2 && q.writer == c && decide (canOfs s + itemBytes e.tag ≤ q.len)
        | none => false
    | 4 | 5 => !e.isOut && e.tag == tU32 && bits s 0 21 == 0
    | 6 => !e.isOut && e.tag == tU32 && bits s 0 16 == 0 && slot.isSome
    | _ => false

/-- SOL_MAP of a program: SOURCE words and at most 4096 mapped unknowns per job slot (R198). -/
def solMapOk (ctxs : List (Nat × CtxProg)) : Bool :=
  (ctxs.all fun c => c.2.iomap.all fun e => bits e.source 24 8 != 0x30 || solSourceOk e) &&
    (upto 16).all fun j => decide (solMapped ctxs j ≤ 4096)

/-! ### LNKCFG (R298, R299, R311) -/

/-- Contexts with an output element on a station. -/
def stationWriters (ctxs : List (Nat × CtxProg)) (addr : Nat) : List Nat :=
  (ctxs.filter fun c => c.2.iomap.any fun e => e.isOut && bits e.source 24 8 == 0xA8 && srcStation e.source == addr).map (·.1)

/-- One station of LNKCFG against the others. -/
def stationOk (c : LnkCfg) (ctxs : List (Nat × CtxProg)) (e : LnkEntry) : Bool :=
  let lim := if e.ver = 2 then 256 else 1024
  decide (1 ≤ e.addr ∧ e.addr ≤ 128) && decide (e.seg ≤ (if c.topo = 0 then 1 else 0)) && (e.ver == 2 || e.ver == 3) &&
    decide (e.group < 32) && decide (e.slot < 128) && decide (1 ≤ e.miss ∧ e.miss ≤ 15) && decide (e.subst ≤ 2) &&
    e.inBytes % 4 == 0 && e.outBytes % 4 == 0 && decide (e.inBytes ≤ lim ∧ e.outBytes ≤ lim) &&
    (e.ver != 2 || (c.slow e.seg && (c.members e.seg e.group).length == 1)) &&
    ((c.stations.filter fun f => f.addr == e.addr).length == 1) &&
    ((c.stations.filter fun f => f.seg == e.seg && f.slot == e.slot).length == 1) &&
    !(e.subst == 2 && decide (1 < (stationWriters ctxs e.addr).length))

/-- A segment: groups of at most 32 blocks and 1 500 bytes (R302), and a cycle context of class A or B with a periodic or angle
trigger and a declared WCET. -/
def segmentOk (c : LnkCfg) (ctxs : List (Nat × CtxProg)) (s : Nat) : Bool :=
  if (c.seg s).isEmpty then c.ctx s == 0xFFFF && c.applyOfs s == 0
  else
    ((c.groups s).all fun g => decide (48 + c.payload s g ≤ 1500 ∧ (c.members s g).length ≤ 32)) &&
      match ctxs.find? fun q => q.1 == c.ctx s with
      | none => false
      | some q => decide (q.2.cls ≤ 1) && decide (1 ≤ q.2.trig ∧ q.2.trig ≤ 3) && q.2.wcet != 0

/-- LNK_CONFIG; `w` is the section. -/
def lnkConfigOk (w : List Nat) (c : LnkCfg) (ctxs : List (Nat × CtxProg)) : Bool :=
  nth 0 w 0 == 0x304B4E4C && decide (c.topo ≤ 2) && decide (fU8 w 5 < 4) && decide (1 ≤ c.stations.length ∧ c.stations.length ≤ 128) &&
    ((upto 9).all fun k => fU8 w (7 + k) == 0) && fU16 w 0x12 == 0 && fU16 w 0x1A == 0 &&
    ((upto c.stations.length).all fun i => fU8 w (0x2F + 16 * i) == 0) &&
    c.stations.all (stationOk c ctxs) && segmentOk c ctxs 0 && segmentOk c ctxs 1

/-- R311 of both segments with line delays D given per segment. -/
def Block.lnkTimingOk (b : Block) (c : LnkCfg) (ctxs : List (Nat × CtxProg)) (d : Nat → Nat) : Bool :=
  [0, 1].all fun s => (c.seg s).isEmpty || match ctxs.find? fun q => q.1 == c.ctx s with
    | none => false
    | some q =>
      lnkFits c s q.2.trig q.2.period q.2.cls q.2.wcet (d s) &&
        (!b.onPair || lnkPairFits c s q.2.cls q.2.wcet q.2 (d s))

/-! ### CANCFG (R348, R349) -/

/-- LEN fits FMT. -/
def canLenOk (fdf : Bool) (len : Nat) : Bool := decide (len ≤ 8) || (fdf && [12, 16, 20, 24, 32, 48, 64].contains len)

/-- One slot of CANCFG. -/
def Block.canSlotOk (b : Block) (cfg : List CanSlotCfg) (ctxs : List (Nat × CtxProg)) (q : CanSlotCfg) : Bool :=
  let fdf := bit q.fmt 1
  decide (q.port < 4) && decide (q.slot < 32) && decide (q.kind ≤ 2) && decide (q.fmt < 16) && decide (q.subst ≤ 2) &&
    decide (q.id < (if bit q.fmt 0 then 2 ^ 29 else 2 ^ 11)) && canLenOk fdf q.len &&
    (!fdf || b.fgetB (F.CAN_MODE_FD_EN q.port)) && (!bit q.fmt 2 || fdf) &&
    (q.kind != 2 || ((q.len == 8 || (q.len == 12 && fdf)) && q.writer == 0xFFFF)) &&
    (q.kind == 2 || ctxs.any fun c => c.1 == q.writer) &&
    (if q.kind = 0 then q.period == 0 && q.phase == 0
     else decide (10 ≤ q.period ∧ q.period ≤ 100000) && decide (q.phase < q.period)) &&
    (cfg.filter fun o => o.port == q.port && o.slot == q.slot).length == 1

/-- CAN_CONFIG; `w` is the section. -/
def Block.canConfigOk (b : Block) (w : List Nat) (cfg : List CanSlotCfg) (ctxs : List (Nat × CtxProg)) : Bool :=
  nth 0 w 0 == 0x304E4143 && decide (1 ≤ cfg.length ∧ cfg.length ≤ 128) && ((upto 10).all fun k => fU8 w (6 + k) == 0) &&
    cfg.all (b.canSlotOk cfg ctxs)

/-! ### Mirror data (R373, R374) -/

/-- Mirrored bytes of one commit of a context. -/
def mirrorBytes (vids : List VidDef) (c : Nat) (p : CtxProg) : Nat :=
  4 * (p.mirror.map (·.2)).sum +
    ((vids.filter fun d => d.writer == c && d.flags % 2 == 1).map fun d => if wideTag d.typ then 8 else 4).sum

/-- The interval of R374 in ns: the shortest class-B period, or 100 ms without class B. -/
def mirrorInterval (ctxs : List (Nat × CtxProg)) : Nat :=
  (((ctxs.filter fun c => c.2.cls == 1).filterMap fun c => lnkTc c.2.trig c.2.period).min?).getD 100000000

/-- Mirror data of all contexts in an interval, at their shortest cycles; a context without a known cycle counts once. -/
def mirrorLoad (vids : List VidDef) (ctxs : List (Nat × CtxProg)) : Nat :=
  let t := mirrorInterval ctxs
  (ctxs.map fun c => mirrorBytes vids c.1 c.2 * match lnkTc c.2.trig c.2.period with
    | some tc => if tc = 0 then 1 else (t + tc - 1) / tc
    | none => 1).sum

/-- RED_MIRROR. -/
def mirrorOk (vids : List VidDef) (ctxs : List (Nat × CtxProg)) : Bool :=
  (ctxs.all fun c => c.2.mirror.all fun r => decide (1 ≤ r.2 ∧ r.1 + r.2 ≤ c.2.tags.length)) &&
    decide (mirrorLoad vids ctxs ≤ Nat.min 1048576 (mirrorInterval ctxs / 5))

/-! ### The register configuration in force (R74, R356, R471) -/

/-- A context on ABS0 has an angle step within STEP_MAX (R74). -/
def Block.stepConflict (b : Block) (ctxs : List (Nat × CtxProg)) : Bool :=
  let lim := b.fget F.ABS0_RELOCK_STEP_MAX * 65536
  ctxs.any fun c => c.2.trig == 2 && decide (c.2.period ≤ lim)

/-- CANCFG or IOMAP names CAN3. -/
def namesCan3 (ctxs : List (Nat × CtxProg)) (can : List CanSlotCfg) : Bool :=
  (can.any fun q => q.port == 3) || ctxs.any fun c => c.2.iomap.any fun e => bits e.source 24 8 == 0x93

/-! ### The checks of R111 -/

/-- The first verdict of a list. -/
def firstBad (l : List (Option Verdict)) : Option Verdict := (l.find? (·.isSome)).bind id

/-- Version and opcodes. -/
def verifyOpcodes (p : Prog) : Option Verdict :=
  let v4 (c : CtxProg) : Bool := (c.insns.any fun e => version4 e.2) || (c.tags.any (· == tF64)) || c.iomap.any fun e => e.tag == tF64
  firstBad [
    badIf (p.version != 3 && p.version != 4) ldVersion,
    badCtx p.ctxs ldOpcode fun _ c => (insnsOf c.code).isNone,
    if p.version = 3 then badCtx p.ctxs ldOpcode fun _ c => v4 c else none,
    badIf (p.version == 3 && p.vids.any fun d => d.typ == tF64) ldOpcode]

/-- Operands, branches, calls, imports, footprint. -/
def verifyCode (p : Prog) : Option Verdict :=
  firstBad [
    badCtx p.ctxs ldOperand fun _ c => !(tagsOk c.tags && c.insns.all fun e => operandsOk c e.2),
    badCtx p.ctxs ldBranch fun _ c => !branchesOk c.insns c.code.length,
    badCtx p.ctxs ldCall fun _ c => !((entries c.insns c.code.length).all (nestOk c.insns c.code.length 32)),
    (p.ctxs.find? fun c => (foreignVid c.2 p.vids).isSome).map fun c => ⟨ldImport, some c.1, foreignVid c.2 p.vids⟩,
    badCtx p.ctxs ldImport fun n c =>
      !((c.insns.all fun e => importOk n c p.vids e.2) && c.iomap.all fun e => elementBlock (bits e.source 24 8)),
    badCtx p.ctxs ldFootprint fun n c => decide (65536 < footprint n c p.vids)]

/-- Element writers, grants and job slots. -/
def verifyGrants (p : Prog) : Option Verdict :=
  firstBad [
    badIf (shared p.ctxs fun _ c => c.iomap.flatMap outKeys) cfgConflict,
    badCtx p.ctxs ldGrantRefused fun _ c => c.grants.any grantForbidden,
    badIf (shared p.ctxs fun _ c => c.writePages) cfgConflict,
    badIf (shared p.ctxs fun _ c => c.jobs) cfgConflict,
    badCtx p.ctxs ldGrant fun _ c => !(c.insns.all fun e => grantOk c e.2)]

/-- Descriptors and places. -/
def verifyDesc (p : Prog) : Option Verdict :=
  firstBad [
    badCtx p.ctxs ldDesc fun _ c => !descOk c,
    badCtx p.ctxs ldAffinity fun _ c => !maskOk c,
    badIf (!allPlaced p.ctxs) ldAffinity]

/-- Elements of a block against its map. -/
def badEl (p : Prog) (code lo hi : Nat) (f : Nat → IoEl → Bool) : Option Verdict :=
  badCtx p.ctxs code fun n c => c.iomap.any fun e => decide (lo ≤ bits e.source 24 8 ∧ bits e.source 24 8 ≤ hi) && !f n e

/-- Maps and limits that a package is judged by as well as an image. -/
def Block.verifyMaps (b : Block) (p : Prog) : Option Verdict :=
  firstBad [
    badIf (!solMapOk p.ctxs) ldSolMap,
    badEl p ldChMap 0x40 0x40 fun _ e => b.chElOk p.saf e,
    badEl p ldLnkMap 0xA8 0xA8 fun _ e => lnkElOk p.lnk e,
    badEl p ldCanMap 0x90 0x93 fun n e => canElOk p.can n e,
    badIf (!mirrorOk p.vids p.ctxs) ldRedMirror,
    badIf (b.stepConflict p.ctxs) cfgConflict,
    badIf (b.fgetB F.RED_CFG_HB_EN && namesCan3 p.ctxs p.can) cfgConflict]

/-- A whole image: layout, code, descriptors, safety, link, CAN and maps. Log: 48 (DEDUCED). -/
def Block.verifyImage (b : Block) (w : List Nat) : Option Verdict :=
  let p := parseImage w
  let ss := imgSections w
  let lw := (sectionOf ss 14).words
  if !imageFormOk w then badIf true ldFormat
  else firstBad [
    verifyOpcodes p, verifyCode p, verifyGrants p, verifyDesc p,
    badIf (!safConfigOk w p) ldSafConfig,
    match p.saf with
    | some cfg => badCtx (p.ctxs.filter fun c => c.2.cls == 3) ldSafLvc fun _ c => !lvcsOk cfg c
    | none => none,
    match p.lnk with
    | some c => firstBad [badIf (!lnkConfigOk lw c p.ctxs) ldLnkConfig, badIf (!b.lnkTimingOk c p.ctxs fun _ => 0) ldLnkTiming]
    | none => none,
    badIf (!(sectionsOf ss 15).isEmpty && !b.canConfigOk (sectionOf ss 15).words p.can p.ctxs) ldCanConfig,
    badIf ((sectionsOf ss 16).any fun s => s.words.any fun v => decide (2 ^ 24 ≤ v)) ldRedMirror,
    b.verifyMaps p]

end Sys2Proof.Machine
end

