-- ==== Sys2Proof/Machine/Load.lean ====
section
/-! DEFINITION. Putting a verified program in force: descriptors, page owners, places, slots, forces, and the blocks it configures (R58, R90, R95, R107, R112, R120, R127, R160, R187, R274, R472). -/

namespace Sys2Proof.Machine

/-! ### Descriptors and owners -/

/-- Write the static descriptor words of a context, or clear them. -/
def Block.putDesc (b : Block) (c : Nat) (p : Option CtxProg) : Block :=
  b.forAll (upto 12) fun b k =>
    b.setRegN (Reg.CTX_CFG c + 4 * k) ((p.map fun q => q.word k).getD 0)

/-- BLK_OWNER follows the write grants of the program in force (R58). Log: 16 (DEDUCED). -/
def Block.showOwners (b : Block) : Block :=
  let owners := b.progCtxs.map fun c => (c.1, c.2.writePages)
  b.forAll headedPages fun b p =>
    match owners.find? fun o => o.2.contains p with
    | some o => (b.fset (F.BLK_OWNER_CLASS p) 1).fset (F.BLK_OWNER_ID p) o.1
    | none => b.when (b.fget (F.BLK_OWNER_CLASS p) == 1) fun b => (b.fset (F.BLK_OWNER_CLASS p) 0).fset (F.BLK_OWNER_ID p) 0

/-- SCH_DECL_A and SCH_DECL_B: declared load in 1/1000 engine, to the nearest (R127). Log: 189 (DEDUCED). -/
def Block.showDecl (b : Block) : Block :=
  let sum (k : Nat) : Nat :=
    let t : Rat := ((b.progCtxs.filter fun c => c.2.cls == k).map fun c => c.2.load).foldl (· + ·) 0
    (t * 1000 + 1 / 2).floor.toNat
  (b.setRegN Reg.SCH_DECL_A (sum 0)).setRegN Reg.SCH_DECL_B (sum 1)

/-- Execution state of a context as loaded: INIT slots, INIT globals, nothing committed (R95, R107). -/
def freshCx (p : CtxProg) : Cx := { slots := p.init.map (BitVec.ofNat 32) }

/-- A context is loaded: its descriptor, fresh state, and its state between cycles. -/
def Block.loadCtx (b : Block) (c : Nat) (p : CtxProg) : Block :=
  let b := (b.putDesc c (some p)).forAll (upto 4) fun b k => b.setRegN (Reg.CTX_STATE c + 4 * k) 0
  let b := b.setCx c (freshCx p)
  b.setCtxState c (if p.cls = 3 then csIsland else csIdle)

/-- A context is gone. -/
def Block.unloadCtx (b : Block) (c : Nat) : Block :=
  let b := (b.putDesc c none).forAll (upto 4) fun b k => b.setRegN (Reg.CTX_STATE c + 4 * k) 0
  let b := { b with ctxs := mapErase b.ctxs c }
  b.setCtxState c csUndefined

/-! ### Places -/

/-- Place a context on the engines available; without a place it stops with STOP_WHY 3 (R27). -/
def Block.placeCtx (b : Block) (c : Nat) : Block :=
  match placeOne b.engUses c (b.ctxProg c) with
  | some (_, n, k) => b.putPlace c n k
  | none => b.stopCtx c 3

/-- Place every context of class A, B and C in the order of R27. -/
def Block.placeAll (b : Block) : Block :=
  let b := b.forAll (upto 256) Block.dropPlace
  (b.forAll ((placeOrder b.progCtxs).map (·.1)) Block.placeCtx).engShowAll

/-- Every periodic context's next target lies after the present instant (R123, R124). -/
def Block.aimCtx (b : Block) (c : Nat) : Block :=
  let t := match b.trigOf c with
    | 2 => b.absPos false
    | 3 => b.absPos true
    | _ => b.now
  b.modCx c fun x => { x with target := b.targetAfter c t, trig := false, prevDispatched := false, budgetSkipped := false }

/-! ### Putting a whole image in force -/

/-- TP_SLOT of a standard-side input that names a slot left without pulsed SP becomes its own channel; recorded (R472). -/
def Block.slotFix (b : Block) : Block :=
  b.forAll (upto 64) fun b n =>
    let slot := b.fget (F.CH_DI_CFG_TP_SLOT n)
    if isDiMode (b.chMode n) && !(b.chan n).island && slot != n && !b.chPulsed slot then
      let b := b.fset (F.CH_DI_CFG_TP_SLOT n) n
      (b.celRequest (.config (chPage n))).recRegs (chPage n) 0xFF [Reg.CH_DI_CFG n] [slot]
    else b

/-- Output elements of the program outside the channels and the island, with their tags. -/
def Block.blockOuts (b : Block) : List (Nat × Nat) :=
  (b.progCtxs.filter fun c => c.2.cls != 3).flatMap fun c =>
    (c.2.outputs.filter fun e => !isChanSrc e.2.source).map fun e => (e.2.source, e.2.tag)

/-- Output elements start without a committed value and without a force. -/
def Block.clearOutputs (b : Block) : Block :=
  let b := { b with outEls := [] }
  let b := b.forAll b.blockOuts fun b e => b.modOut e.1 fun _ => { tag := e.2 }
  (b.forAll (upto 64) fun b n => b.modChan n fun c => { c with last := none, active := false, forced := none }).chRefreshAll

/-- All physical pattern slots are emptied (R187). -/
def Block.dropPatterns (b : Block) : Block := (b.forAll (upto 8) Block.psClear).solStoreShow

/-- PAIR_RATE.MIRROR in KiB per interval of R374. -/
def Block.showMirror (b : Block) : Block :=
  b.fset F.PAIR_RATE_MIRROR ((mirrorLoad b.progVids b.progCtxs + 1023) / 1024)

/-- The program takes force: everything but forces, patterns and places. -/
def Block.installProg (b : Block) (p : Prog) : Block :=
  let b := { b with prog := some p, ctxs := [], globals := [] }
  let b := b.forAll (upto 256) Block.unloadCtx
  let b := b.forAll p.ctxs fun b c => b.loadCtx c.1 c.2
  let b := (b.showOwners.showDecl).showMirror
  let b := (b.solBind (jobPairs p.ctxs) p.ctxs).clearOutputs
  let b := (b.islTakeUp).slotFix
  ((b.lnkTakeUp p.lnk).canTakeUp p.can).credFollow.subsFollow

/-- A load result is recorded with the image's identity (R112, R91). Log: 134 (DEDUCED). -/
def Block.loadResult (b : Block) (vintage buildId : Nat) (v : Verdict) : Block :=
  b.recRegs 0 0xFF [] [v.code, vintage, buildId, v.ctx.getD 0xFFFFFFFF, v.vid.getD 0]

def Block.loadRecord (b : Block) (p : Prog) (v : Verdict) : Block := b.loadResult p.vintage p.buildId v

/-- A pattern image loaded with the whole image joins it in the cellar (R187). -/
def Block.storePattern (b : Block) (w : List Nat) : Block :=
  { b with upd := { b.upd with appAct := b.upd.appAct.map fun (v : Vintage) => { v with payload := v.payload ++ fBytes w } } }

/-- The whole image takes the active application place of the cellar; a committed package goes with the image it
changed (R434). Log: 97 (DEDUCED). -/
def Block.storeApp (b : Block) (vintage : Nat) (w : List Nat) : Block :=
  { b with upd := { b.upd with appAct := some { number := vintage, payload := fBytes w }, packages := [] }
           olc := { b.olc with marker := none } }.setRegN Reg.UPD_APP_ACT vintage

/-- A whole image in COMMISSION: verified, then in force with its contexts placed; its result (R111, R112). The
forces in the table are judged against it, the previous patterns are removed. -/
def Block.loadImage (b : Block) (w : List Nat) : Block × Nat :=
  let p := parseImage w
  match b.verifyImage w with
  | some v => (b.loadRecord p v, v.code)
  | none =>
    let b := (b.installProg p).dropPatterns
    let b := (b.placeAll.frcLoad false).forAll (p.ctxs.map (·.1)) Block.aimCtx
    ((b.loadRecord p ⟨0, none, none⟩).storeApp p.vintage w, ldOk)

/-- IMAGE_LOAD: answered to the session with the load result, as FILE_PIECE answers the last piece; outside COMMISSION nothing is loaded.
Log: 124 (DEDUCED). -/
def execImageLoad (session : Nat) (image : List Word) (s : State) : Host.Outcome State Fault Refusal := lift (fun b =>
  if b.modState != stCommission || b.roleOf session != some .engineer then b
  else
    let (b, code) := b.loadImage (image.map BitVec.toNat)
    match b.session session with
    | some s => b.sspSend s.peer (s.datagram 2 49 0 0 [code])
    | none => b) s

end Sys2Proof.Machine
end

