-- ==== Sys2Proof/Machine/Olc.lean ====
section
/-! DEFINITION. On-line change: the package, its verification, staging, ARM and the switch (R163 to R178, R187, R473, R477).
Log: 132 (DEDUCED). -/

namespace Sys2Proof.Machine

def olcIdle : Nat := 0
def olcReceiving : Nat := 1
def olcVerifying : Nat := 2
def olcStaged : Nat := 3
def olcArmed : Nat := 4
def olcSwitching : Nat := 5

def olcBase : Nat := 20
def olcState : Nat := 21
def olcSpace : Nat := 22
def olcNoBoundary : Nat := 23
def forceConflict : Nat := 24
def olcAborted : Nat := 25
def olcPair : Nat := 26
def olcSolver : Nat := 27
def olcSequence : Nat := 28

/-- OLC_STAT.STATE. -/
def Block.olcAt (b : Block) : Nat := b.fget F.OLC_STAT_STATE

/-! ### The package file (R163, R164) -/

def pkgSections (w : List Nat) : List Section := sections w (fU16 w 0x14)

/-- CTXACT as (context, ACTION). -/
def pkgActs (ss : List Section) : List (Nat × Nat) := (sectionOf ss 9).words.map fun v => (bits v 0 16, bits v 16 8)

/-- SLOTMAP of a context as (old, new). -/
def pkgMap (ss : List Section) (c : Nat) : List (Nat × Nat) :=
  (sectionFor ss 10 c).words.map fun v => (bits v 0 12, bits v 12 12)

/-- DISP as (VID, ACTION). -/
def pkgDisp (ss : List Section) : List (Nat × Nat) := (fPairs (sectionOf ss 11).words).map fun q => (q.1, bits q.2 0 8)

/-- Contexts with an action. -/
def actsOf (l : List (Nat × Nat)) (a : Nat) : List Nat := (l.filter fun e => e.2 == a).map (·.1)

/-- The program in force with the package applied (R164). Log: 49 (DEDUCED). -/
def pkgApply (base : Prog) (w : List Nat) : Prog :=
  let ss := pkgSections w
  let acts := pkgActs ss
  let made (c : Nat) : Option (Nat × CtxProg) :=
    if (actsOf acts 1).contains c || (actsOf acts 2).contains c then some (c, ctxProgOf ss c (sectionFor ss 1 c).words)
    else if (actsOf acts 3).contains c then none
    else (base.ctxs.find? fun e => e.1 == c)
  { base with
    vintage := fU32 w 0x10
    buildId := fU32 w 0x1C
    ctxs := (upto 256).filterMap made
    vids := vidDefs (sectionOf ss 6).words
    creds := if (sectionsOf ss 17).isEmpty then base.creds else some (parseCreds (sectionOf ss 17).words)
    crc := nth 0 w 15 }

/-- LVC_FORMAT of a package. -/
def pkgFormOk (w : List Nat) : Bool :=
  let ss := pkgSections w
  let acts := pkgActs ss
  let new_ := actsOf acts 1 ++ actsOf acts 2
  headerOk w 0x30434C4F && fU32 w 0x10 != 0xFFFFFFFF && ((w.drop 9).take 6).all (· == 0) && decide (fU32 w 0x20 < 2) &&
    sectionsPlaced ss (4 * w.length) && secsOk true ss && acts.length == fU16 w 0x16 &&
    (pkgDisp ss).length == fU32 w 0x18 && ((sectionOf ss 9).words.all fun v => decide (v < 2 ^ 24)) &&
    (acts.all fun e => decide (e.1 < 256) && decide (1 ≤ e.2 ∧ e.2 ≤ 3)) &&
    (acts.map (·.1)).eraseDups.length == acts.length &&
    ((fPairs (sectionOf ss 11).words).all fun q => decide (q.2 ≤ 1)) &&
    (sectionsOf ss 6).length == 1 && vidsOk (vidDefs (sectionOf ss 6).words) &&
    (new_.all fun c => ctxSecsOk ss c && (sectionsFor ss 1 c).length == 1 && (sectionFor ss 1 c).count == 1) &&
    ((ss.filter fun s => s.typ == 10).all fun s => s.words.all fun v => decide (v < 2 ^ 24)) &&
    (fU32 w 0x20 % 2 == 1) == !(sectionsOf ss 12).isEmpty &&
    ss.all fun s => imageScope true s.typ || new_.contains s.ctx

/-- A SLOTMAP pairs slots of equal tag inside both frames and names no HI slot. -/
def slotMapOk (old new_ : CtxProg) (m : List (Nat × Nat)) : Bool :=
  m.all fun e =>
    decide (e.1 < old.tags.length ∧ e.2 < new_.tags.length) && nth 0 old.tags e.1 == nth 0 new_.tags e.2 &&
      nth 0 new_.tags e.2 != tHi

/-- Context verdicts of CTXACT and SLOTMAP. -/
def verifyActs (base p : Prog) (ss : List Section) : Option Verdict :=
  let acts := pkgActs ss
  let known (c : Nat) : Bool := base.ctxs.any fun e => e.1 == c
  let prog (q : Prog) (c : Nat) : CtxProg := mapGet {} q.ctxs c
  firstBad [
    (acts.find? fun e => if e.2 = 1 then known e.1 else !known e.1).map fun e => ⟨ldDesc, some e.1, none⟩,
    ((actsOf acts 1 ++ actsOf acts 2).find? fun c => !bit ((prog p c).word 0) 31).map fun c => ⟨ldDesc, some c, none⟩,
    ((actsOf acts 2).find? fun c => !slotMapOk (prog base c) (prog p c) (pkgMap ss c)).map fun c => ⟨ldOperand, some c, none⟩,
    ((actsOf acts 1).find? fun c => !(pkgMap ss c).isEmpty).map fun c => ⟨ldOperand, some c, none⟩]

/-- A package touches the safety side: SAFCFG, or a class-S context by name (R277). -/
def touchesSafety (base p : Prog) (ss : List Section) : Bool :=
  let s (q : Prog) (c : Nat) : Bool := q.ctxs.any fun e => e.1 == c && e.2.cls == 3
  !(sectionsOf ss 13).isEmpty || (pkgActs ss).any fun e => s base e.1 || s p e.1

/-! ### Forces against the new program (R169, R170) -/

/-- The tag of a VID in a program. -/
def Prog.tagOf (p : Prog) (vid : Nat) : Option Nat :=
  match p.vids.find? fun d => d.vid == vid with
  | some d => some d.typ
  | none => ((p.ctxs.flatMap fun c => c.2.iomap).find? fun e => e.vid == vid).map IoEl.tag

/-- Output elements of a program that carry a VID. -/
def Prog.outsOf (p : Prog) (vid : Nat) : List IoEl :=
  (p.ctxs.flatMap fun c => c.2.iomap).filter fun e => e.vid == vid && e.isOut

/-- What becomes of a force entry. -/
inductive Fate where
  | stays
  /-- Stays forced on an element without writer, at the SOURCE given. -/
  | orphaned (src : Nat)
  | released
  | conflict
deriving DecidableEq, Repr

/-- A CAN slot or station that carries an orphan is still sent (R170). -/
def orphanSent (p : Prog) (src : Nat) : Bool :=
  let blk := bits src 24 8
  if 0x90 ≤ blk ∧ blk ≤ 0x93 then
    p.can.any fun q => q.port == blk - 0x90 && q.slot == canSlotOf src && (q.kind == 1 || (q.kind == 0 && p.ctxs.any fun c => c.1 == q.writer))
  else if blk = 0xA8 then (p.lnk.bind fun c => c.entry (srcStation src)).isSome
  else true

/-- The SOURCE of an output element with the VID whose writing context the new program no longer has (R169).
Log: 160 (DEDUCED). -/
def leftBehind (base p : Prog) (vid : Nat) : Option Nat :=
  ((base.ctxs.filter fun c => !(p.ctxs.any fun d => d.1 == c.1)).flatMap fun c => c.2.iomap).find?
    (fun e => e.vid == vid && e.isOut) |>.map (·.source)

/-- Decide one entry: the first row of R169 that matches. An orphan stays one unless an output element carries its VID
with the same tag and position (R170). Log: 160 (DEDUCED). -/
def fateOf (base p : Prog) (released : List Nat) (e : FrcEntry) : Fate :=
  if released.contains e.vid then .released
  else if (p.tagOf e.vid).any (· != e.tag) then .conflict
  else
    let alone := match e.orphan with
      | some s => if (p.outsOf e.vid).any fun o => o.source == s then none else some s
      | none => if (p.tagOf e.vid).isNone then leftBehind base p e.vid else none
    match alone with
    | some s => if orphanSent p s then .orphaned s else .conflict
    | none => if (p.tagOf e.vid).isSome then .stays else .conflict

/-- Forced VIDs that conflict, in the order of the table. -/
def Block.frcConflicts (b : Block) (p : Prog) (released : List Nat) : List Nat :=
  match b.prog with
  | none => []
  | some base => (b.frc.table.filter fun e => fateOf base p released e.2 == .conflict).map (·.2.vid)

/-! ### Verification (R164, R176) -/

/-- The verdict on a package against the program in force. Log: 133 (DEDUCED). -/
def Block.verifyPackage (b : Block) (w : List Nat) : Option Verdict :=
  match b.prog with
  | none => some ⟨olcBase, none, none⟩
  | some base =>
    let ss := pkgSections w
    let p := pkgApply base w
    let patBytes := ((sectionsOf ss 12).map (·.size)).sum
    let removed := actsOf (pkgActs ss) 3
    let dels (s : Nat) : Nat := b.regN (Reg.LNK_SEG_D s)
    if !pkgFormOk w then some ⟨ldFormat, none, none⟩
    else firstBad [
      badIf (fU16 w 4 != base.version) ldVersion,
      badIf (fU32 w 0x0C != base.vintage || decide (fU32 w 0x10 ≤ fU32 w 0x0C)) olcBase,
      badIf (decide (4194304 < 4 * w.length - patBytes)) olcSpace,
      badIf (touchesSafety base p ss) ldSafOnline,
      badIf (!(sectionsOf ss 14).isEmpty) ldLnkConfig,
      badIf (!(sectionsOf ss 15).isEmpty) ldCanConfig,
      verifyActs base p ss,
      verifyOpcodes p, verifyCode p, verifyGrants p, verifyDesc p,
      badIf (p.ctxs.any fun c => c.2.cls != 3 && c.2.iomap.any fun e => bits e.source 24 8 == 0xC0) ldSafConfig,
      match p.lnk with
      | some c => firstBad [
          badIf (!(c.stations.all (stationOk c p.ctxs))) ldLnkConfig,
          badIf (!(segmentOk c p.ctxs 0 && segmentOk c p.ctxs 1 && b.lnkTimingOk c p.ctxs dels)) ldLnkTiming]
      | none => none,
      badIf ((ss.filter fun s => s.typ == 16).any fun s => s.words.any fun v => decide (2 ^ 24 ≤ v)) ldRedMirror,
      b.verifyMaps p,
      badIf (b.onPair && removed.contains (b.fget F.RED_CFG_CTX)) cfgConflict,
      (b.frcConflicts p ((pkgDisp ss).filter (·.2 == 1) |>.map (·.1))).head?.map fun v => ⟨forceConflict, none, some v⟩]

/-! ### The end of a package -/

/-- Staged patterns leave the solver store (R473). -/
def Block.dropStaged (b : Block) : Block :=
  (b.forAll ((upto 8).filter fun k => b.psState k == psStaged) Block.psClear).solStoreShow

/-- The package ends on this unit without effect: STATE is IDLE, CODE its outcome, event 4 for a refusal and 5 for an
abort. -/
def Block.olcDrop (b : Block) (code evt : Nat) : Block :=
  let b := b.dropStaged.endTransfer 2
  let b := { b with olc := { marker := b.olc.marker }, cel := { b.cel with package := [] } }
  ((b.fset F.OLC_STAT_STATE olcIdle).fset F.OLC_STAT_CODE code).raiseEvt 0x29 evt

/-- A pair command goes to the partner over PAIR (R374). -/
def Block.olcTell (b : Block) (what : String) (ws : List Nat) : Block :=
  b.when (b.onPair && b.fgetB F.RED_STAT_PAIR_OK) fun b => b.send .pair what ws

/-- The package ends, on the partner as well (R174). -/
def Block.olcEnd (b : Block) (code evt : Nat) : Block :=
  (b.when (b.olcAt != olcIdle) fun b => b.olcTell "olc end" [code]).olcDrop code evt

/-- A refusal: OLC_FAIL_VID and OLC_FAIL_CTX name its grounds, every conflicting VID is recorded, and so is the result. -/
def Block.olcRefuse (b : Block) (v : Verdict) (conflicts : List Nat) : Block :=
  let b := b.setRegN Reg.OLC_FAIL_VID (v.vid.getD 0)
  let b := (b.fsetB F.OLC_FAIL_CTX_VALID v.ctx.isSome).fset F.OLC_FAIL_CTX_CTX (v.ctx.getD 0)
  let b := b.olcEnd v.code 4
  let b := b.forAll conflicts fun b vid => b.recRegs 0x29 4 [Reg.OLC_STAT] [vid]
  b.recRegs 0x29 4 [Reg.OLC_STAT, Reg.OLC_FAIL_VID, Reg.OLC_FAIL_CTX] []

/-- A change of module state ends a package that is RECEIVING to ARMED (R168); one between RUN and RUN-DEGRADED, which an
engine's fault or parking brings, has no effect on an ARMED package (R175). Log: 142 (DEDUCED). -/
def Block.olcModState (b : Block) (engines : Bool) : Block :=
  if 1 ≤ b.olcAt ∧ b.olcAt ≤ olcArmed ∧ ¬(engines ∧ b.olcAt = olcArmed) then b.olcEnd olcAborted 5 else b

/-- A loss of PAIR, or the partner's refusal, ends a package (R174). -/
def Block.olcPairLost (b : Block) : Block :=
  if b.olcAt = olcArmed ∧ b.olc.switchAt.isNone then b.olcEnd olcPair 4 else b

/-- A fault of the solver ends a STAGED or ARMED package with PATTERN sections (R477). -/
def Block.olcSolverDown (b : Block) : Block :=
  if (b.olcAt = olcStaged ∨ b.olcAt = olcArmed) ∧ !b.olc.pats.isEmpty then b.olcEnd olcSolver 4 else b

/-- A command that does not fit the state. -/
def Block.olcMisplaced (b : Block) : Block := (b.fset F.OLC_STAT_CODE olcSequence).raiseEvt 0x29 4

/-! ### From the transfer to STAGED -/

/-- PACKAGE_RECEIVED: every byte announced is there, and the whole package is copied to the cellar (R167). -/
def execPackageReceived (s : State) : Host.Outcome State Fault Refusal := lift (fun b =>
  if b.olcAt = olcReceiving ∧ b.regN Reg.OLC_RCVD = b.regN Reg.OLC_PKG_SIZE ∧ b.regN Reg.OLC_PKG_SIZE ≠ 0 then
    let w := b.olc.pkg
    let b := ({ b with cel := { b.cel with package := w } }.setRegN Reg.OLC_BASE_VIN (fU32 w 0x0C)).setRegN Reg.OLC_NEW_VIN (fU32 w 0x10)
    ((b.fset F.OLC_STAT_STATE olcVerifying).raiseEvt 0x29 0).olcTell "olc package" w
  else b) s

/-- Contexts that find a free place for pre-loading: changed ones on their home engine where their new mask keeps it, the
others under R127. -/
def Block.preload (b : Block) (p : Prog) (acts : List (Nat × Nat)) : List Nat :=
  let go (acc : List EngUse × List Nat) (c : Nat) : List EngUse × List Nat :=
    let q := mapGet {} p.ctxs c
    let mask := if (actsOf acts 2).contains c ∧ bit q.mask (b.homeOf c) then 2 ^ b.homeOf c else q.mask
    match placeOne acc.1 c { q with desc := setNth q.desc 3 mask } with
    | some (l, _, _) => (l, acc.2 ++ [c])
    | none => acc
  ((actsOf acts 2 ++ actsOf acts 1).foldl go (b.engUses, [])).2

/-- The package is verified: STAGED, or refused. On a pair base both units must accept it. -/
def Block.olcVerified (b : Block) (partnerOk : Bool) : Block :=
  let w := b.olc.pkg
  let ss := pkgSections w
  let released := ((pkgDisp ss).filter fun e => e.2 == 1).map (·.1)
  match b.verifyPackage w, b.prog with
  | some v, _ => b.olcRefuse v (if v.code = forceConflict then b.frcConflicts (pkgApply (b.prog.getD ({ version := 0, vintage := 0, buildId := 0, ctxs := [], vids := [] } : Prog)) w) released else [])
  | none, none => b
  | none, some base =>
    if b.onPair && !partnerOk then b.olcRefuse ⟨olcPair, none, none⟩ []
    else
      let p := pkgApply base w
      let acts := pkgActs ss
      let b := { b with olc := { b.olc with
        staged := some p, acts := acts, maps := (actsOf acts 2).map fun c => (c, pkgMap ss c), released := released
        pats := (sectionsOf (pkgSections b.cel.package) 12).map (fun (q : Section) => q.words), loaded := 0, preloaded := b.preload p acts, commitWait := false } }
      (((b.loadRecord p ⟨ldOk, none, none⟩).fset F.OLC_STAT_CODE ldOk).fset F.OLC_STAT_STATE olcStaged).raiseEvt 0x29 1

/-- PACKAGE_VERIFY_COMPLETE. -/
def execPackageVerifyComplete (partnerOk : Bool) (s : State) : Host.Outcome State Fault Refusal := lift (fun b =>
  if b.olcAt = olcVerifying then b.olcVerified partnerOk else b) s

/-- PATTERN_LOAD (R185, R187): not staged, with a whole image in COMMISSION, into the slot of its TARGET; staged, a PATTERN section of the package into a
free slot. A package whose pattern is refused ends with OLC_SOLVER. -/
def execPatternLoad (staged : Bool) (image : List Word) (s : State) : Host.Outcome State Fault Refusal := lift (fun b =>
  let w := image.map BitVec.toNat
  if !staged then
    b.when (b.modState == stCommission) fun b =>
    let (b, code) := b.patLoad b.ctxAbc false w
    b.when (code == 0) fun b => b.storePattern w
  else if b.olcAt = olcStaged ∧ b.olc.pats.contains w then
    let writer (c : Nat) : Bool := ((b.olc.staged.map (·.ctxs)).getD []).any fun e => e.1 == c && e.2.cls != 3
    let (b, code) := b.patLoad writer true w
    if code = 0 then { b with olc := { b.olc with loaded := b.olc.loaded + 1 } }
    else b.olcRefuse ⟨olcSolver, none, none⟩ []
  else b) s

/-! ### ARM (R169, R171) -/

/-- COMMIT may arm: no force command waits, and every pattern is loaded. -/
def Block.armReady (b : Block) : Bool := b.frc.pending.isNone && decide (b.olc.pats.length ≤ b.olc.loaded)

/-- Enter ARMED; the forces are decided again. -/
def Block.olcArm (b : Block) : Block :=
  match b.olc.staged with
  | none => b
  | some p =>
    let bad := b.frcConflicts p b.olc.released
    match bad with
    | v :: _ => b.olcRefuse ⟨forceConflict, none, some v⟩ bad
    | [] =>
      let b := { b with olc := { b.olc with commitWait := false } }.timed .armed
      let b := b.forAll (b.olc.acts.map (·.1)) fun b c => b.modCx c fun x => { x with activeNs := 0, activeFrom := b.now }
      let b := ((b.stamp Reg.OLC_ARM_TIME_LO Reg.OLC_ARM_TIME_HI).fset F.OLC_STAT_STATE olcArmed).raiseEvt 0x29 2
      b.when (b.role == rolePrimary) fun b => b.olcTell "olc arm" []

/-- OLC_ARM: a COMMIT that waited. -/
def execOlcArm (s : State) : Host.Outcome State Fault Refusal := lift (fun b =>
  if b.olcAt = olcStaged ∧ b.olc.commitWait ∧ b.armReady then b.olcArm else b) s

/-- What a value written to OLC_CMD does. -/
def Block.olcCommand (b : Block) (v : Nat) : Block :=
  let b := b.fset F.OLC_CMD_CMD 0
  let st := b.olcAt
  match v % 8 with
  | 0 => b
  | 1 => if st = olcStaged then (b.dropStaged.fset F.OLC_STAT_STATE olcVerifying).olcTell "olc package" b.olc.pkg else b.olcMisplaced
  | 2 =>
    if st ≠ olcStaged then b.olcMisplaced
    else if b.armReady then b.olcArm
    else { b with olc := { b.olc with commitWait := true } }
  | 3 => if st = olcArmed then b.olcEnd olcAborted 5 else b.olcMisplaced
  | 4 => if st = olcReceiving ∨ st = olcStaged then b.olcEnd (b.fget F.OLC_STAT_CODE) 5 else b.olcMisplaced
  | _ => b.olcMisplaced

/-- A write of OLC_CMD. -/
def Block.olcCmdWrite (b : Block) (r : Requester) (v : Nat) : Block := b.cmdWrite r Reg.OLC_CMD v [] fun b => b.olcCommand v

def execVerify (r : Requester) (s : State) : Host.Outcome State Fault Refusal := lift (fun b => b.olcCmdWrite r 1) s
def execCommit (r : Requester) (s : State) : Host.Outcome State Fault Refusal := lift (fun b => b.olcCmdWrite r 2) s
def execAbort (r : Requester) (s : State) : Host.Outcome State Fault Refusal := lift (fun b => b.olcCmdWrite r 3) s
def execDiscard (r : Requester) (s : State) : Host.Outcome State Fault Refusal := lift (fun b => b.olcCmdWrite r 4) s

/-! ### The switch (R165, R166, R170 to R172) -/

/-- Slots of a changed context: listed ones carried, the others INIT. -/
def carrySlots (old : Cx) (p : CtxProg) (m : List (Nat × Nat)) : List Word :=
  let pairs := m.flatMap fun e => if wideTag (nth 0 p.tags e.2) then [e, (e.1 + 1, e.2 + 1)] else [e]
  pairs.foldl (fun l e => setNth l e.2 (nth 0 old.slots e.1)) (p.init.map (BitVec.ofNat 32))

/-- A global keeps its value when it keeps VID and tag (R165). -/
def keepsVid (base p : Prog) (vid : Nat) : Bool :=
  match base.vids.find? fun d => d.vid == vid, p.vids.find? fun d => d.vid == vid with
  | some a, some c => a.typ == c.typ
  | _, _ => false

/-- A global that keeps VID and tag keeps its value as its own and as published, also where it had none but its INIT and
where another context writes it from now on (R165). -/
def Block.carryGlobals (b : Block) (base p : Prog) : Block :=
  b.forAll (base.vids.filter fun d => keepsVid base p d.vid) fun b d =>
    match p.vids.find? fun e => e.vid == d.vid with
    | none => b
    | some e =>
      if e.writer = d.writer ∧ e.init = d.init then b
      else
        let own := mapGet d.init (b.cx d.writer).own d.vid
        let shown := mapGet d.init b.globals d.vid
        { b with globals := mapSet b.globals d.vid shown }.modCx e.writer fun x => { x with own := mapSet x.own d.vid own }

/-- Committed values of the new elements: those of an element of the same SOURCE and tag before. Log: 133 (DEDUCED). -/
def carryOutputs (old new_ : CtxProg) (vals : List (Nat × Nat)) : List (Nat × Nat) :=
  new_.outputs.filterMap fun e => (old.outputs.find? fun o => o.2.source == e.2.source && o.2.tag == e.2.tag).bind fun o =>
    (vals.find? fun v => v.1 == o.1).map fun v => (e.1, v.2)

/-- Switch one changed context; a trigger that waits is dispatched after the switch, LATE (R165, R172). -/
def Block.switchCtx (b : Block) (base p : Prog) (c : Nat) (m : List (Nat × Nat)) : Block :=
  let old := b.cx c
  let po := mapGet {} base.ctxs c
  let pn := mapGet {} p.ctxs c
  let b := b.putDesc c (some pn)
  b.setCx c { old with
    slots := carrySlots old pn m, pc := 0, stack := [], wait := none, written := [], first := true, inputs := [], latched := []
    own := old.own.filter fun e => keepsVid base p e.1, committed := carryOutputs po pn old.committed
    late := old.late || old.trig }

/-- The largest number of bytes copied onto one engine (R172). -/
def Block.switchBytes (b : Block) (p : Prog) : Nat :=
  let bytes (c : Nat) : Nat :=
    let q := mapGet {} p.ctxs c
    if b.olc.preloaded.contains c then
      4 * ((mapGet [] b.olc.maps c).map fun e => if wideTag (nth 0 q.tags e.2) then 2 else 1).sum
    else footprint c q p.vids
  let moved := ((actsOf b.olc.acts 2 ++ actsOf b.olc.acts 1).filter fun c => b.fgetB (F.CTX_STATE_PLACED c)).map fun c =>
    (b.homeOf c, bytes c)
  (upto 16).foldl (fun m n => Nat.max m ((moved.filter fun e => e.1 == n).map (·.2)).sum) 0

/-- Outputs that no context writes any more take their substitutes; new ones have no committed value (R107, R166). -/
def Block.switchOutputs (b : Block) (base p : Prog) : Block :=
  let outs (q : Prog) : List IoEl := (q.ctxs.flatMap fun c => c.2.iomap).filter fun e => e.isOut && q.ctxs.any fun c => c.2.cls != 3 && c.2.iomap.contains e
  let gone := (outs base).filter fun e => !((outs p).any fun f => f.source == e.source)
  let fresh := (outs p).filter fun e => !((outs base).any fun f => f.source == e.source && f.tag == e.tag)
  let b := b.forAll gone fun b e => b.elMod e.source fun o => { o with active := false, forced := none }
  b.forAll fresh fun b e => b.elMod e.source fun o => { o with tag := e.tag, last := none, active := false, forced := none }

/-- A force that stays acts on an element that was an orphan's without a break, and where no writer runs (R155, R170). -/
def Block.keepForced (b : Block) (p : Prog) (e : FrcEntry) : Block :=
  let b := match e.orphan with
    | some src => b.when (b.running && (p.outsOf e.vid).any fun o => o.source == src) fun b =>
        b.elMod src fun o => { o with tag := e.tag, forced := some e.value }
    | none => b
  b.forceStopped e.vid

/-- Forces after the switch (R169, R170): released ones go, orphans hold their element, the others stay. The stored table
follows with the commit marker (R173). Log: 160 (DEDUCED). -/
def Block.switchForces (b : Block) (base p : Prog) (released : List Nat) : Block :=
  let fates := b.frc.table.map fun e => (e, fateOf base p released e.2)
  let gone := (fates.filter fun e => e.2 == .released).map (·.1)
  let table := fates.filterMap fun e => match e.2 with
    | .stays => some (e.1.1, { e.1.2 with orphan := none, output := !(p.outsOf e.1.2.vid).isEmpty })
    | .orphaned src => some (e.1.1, { e.1.2 with orphan := some src, output := true })
    | _ => none
  let b := { b with frc := { b.frc with table := table } }
  let b := b.forAll gone fun b e =>
    let b := if p.tagOf e.2.vid = some e.2.tag then b.releaseGlobal e.2
      else b.forAll (base.outsOf e.2.vid) fun b o => b.elMod o.source fun el => { el with forced := none }
    ((b.releaseOutput e.2).raiseEvt 0x28 1).frcRecord 1 e.2 e.2.value 0
  let b := b.forAll (fates.filter fun e => e.2 == .stays) fun b e => b.keepForced p e.1.2
  let b := b.forAll table fun b e => match e.2.orphan with
    | some src => b.elMod src fun o => { o with forced := if b.running then some e.2.value else none }
    | none => b
  b.frcShow

/-- Pattern images take force: a PATTERN section with N = 0 empties its slot (R187). -/
def Block.switchPatterns (b : Block) : Block :=
  let b := b.forAll ((upto 8).filter fun k => b.psState k == psStaged) Block.psActivate
  (b.forAll (b.olc.pats.filter fun w => (parsePattern w).n == 0) fun b w => b.psRetire (parsePattern w).target).solStoreShow

/-- A changed context's home, or the engine it moves to, is outside its mask. -/
def Block.strayed (b : Block) (c : Nat) : Bool :=
  let m := (b.ctxProg c).mask
  b.fgetB (F.CTX_STATE_PLACED c) && (!bit m (b.homeOf c) || (b.cx c).moveTo.any fun n => !bit m n)

/-- A migration of a changed context that was due begins at its next completion, at once where it has none to come (R148). -/
def Block.switchMove (b : Block) (c : Nat) : Block :=
  let b := b.modCx c fun x => { x with handed := false, copying := false }
  if b.leavesNow c then b.handOver c else b

/-- Places after the switch: removed contexts leave theirs, changed ones keep a home within their mask, the rest is placed;
the first cycle on a new home carries MIGRATED (R131). -/
def Block.switchPlaces (b : Block) : Block :=
  let acts := b.olc.acts
  let moved := ((actsOf acts 2).filter b.strayed).map fun c => (c, b.homeOf c)
  let b := b.forAll moved fun b e => (b.dropPlace e.1).modCx e.1 fun x => { x with moveTo := none }
  let new_ := moved.map (·.1) ++ actsOf acts 1
  let order := (placeOrder (b.progCtxs.filter fun e => new_.contains e.1)).map (·.1)
  let b := (b.forAll order Block.placeCtx).forAll moved fun b e =>
    b.modCx e.1 fun x => { x with migrated := x.migrated || b.homeOf e.1 != e.2 }
  (b.forAll (actsOf acts 2) Block.switchMove).copyWaiting.engShowAll

/-- The switch lasts 2 µs and the copy of its bytes at 9.6 GB/s; triggers of affected and added contexts wait for its end
(R172). -/
def Block.switchTime (b : Block) (p : Prog) : Block :=
  let time := 2000 + b.switchBytes p * 10 / 96
  let b := b.forAll (actsOf b.olc.acts 1 ++ actsOf b.olc.acts 2) fun b c =>
    b.modCx c fun x => { x with heldUntil := b.now + time }
  { b with olc := { b.olc with switchEnd := b.clk + time } }.setRegN Reg.OLC_SWITCH_TIME ((time + 9) / 10)

/-- The switch of R171, in one operation; STATE is SWITCHING until it ends. -/
def Block.olcSwitch (b : Block) : Block :=
  match b.olc.staged, b.prog with
  | some p, some base =>
    let acts := b.olc.acts
    let b := b.carryGlobals base p
    let b := b.forAll (actsOf acts 2) fun b c => b.switchCtx base p c (mapGet [] b.olc.maps c)
    let b := b.when ((b.sol.waiting.map fun j => (actsOf acts 3).contains j.ctx) == some true) Block.solWithdraw
    let b := b.forAll (actsOf acts 3) fun b c => (b.unloadCtx c).fset (F.CTX_STATE_STOP_WHY c) 5
    let b := { b with prog := some p, globals := b.globals.filter fun e => keepsVid base p e.1 }
    let b := b.forAll (actsOf acts 1) fun b c =>
      let kept := (b.cx c).own
      (b.loadCtx c (mapGet {} p.ctxs c)).modCx c fun x => { x with own := kept }
    let b := b.switchOutputs base p
    let b := b.switchForces base p b.olc.released
    let b := (b.showOwners.showDecl).showMirror
    let b := (b.solBind (jobPairs p.ctxs) p.ctxs).switchPatterns
    let b := b.switchPlaces.switchTime p
    let b := b.forAll (actsOf acts 1 ++ actsOf acts 2) fun b c =>
      let t := (b.cx c).trig
      (b.aimCtx c).modCx c fun x => { x with trig := t }
    let b := b.forAll (actsOf acts 1 ++ actsOf acts 2) fun b c =>
      b.when (b.ctxState c == csIdle) fun b => b.setCtxState c (b.restState c)
    let b := (b.stamp Reg.OLC_COMMIT_TIME_LO Reg.OLC_COMMIT_TIME_HI).incWrap F.OLC_COMMIT_CNT_COUNT
    let b := b.credFollow.subsFollow.lnkSegShow
    { b with olc := { marker := some b.olc.pkg, switchEnd := b.olc.switchEnd } }.fset F.OLC_STAT_STATE olcSwitching
  | _, _ => b

/-- The switch completes: IDLE with OLC_OK; the commit is recorded (R168, R173). -/
def Block.olcSwitched (b : Block) : Block :=
  ((b.fset F.OLC_STAT_STATE olcIdle).fset F.OLC_STAT_CODE ldOk).event 0x29 3
    [Reg.OLC_BASE_VIN, Reg.OLC_NEW_VIN, Reg.OLC_COMMIT_TIME_LO, Reg.OLC_COMMIT_TIME_HI]

/-- Every affected context is between cycles or STOPPED. -/
def Block.olcBoundary (b : Block) : Bool :=
  (actsOf b.olc.acts 2 ++ actsOf b.olc.acts 3).all fun c => b.ctxState c != csActive

/-- OLC_COMMIT_INSTANT: after power fail is committed no commit instant is taken (R477). A primary with a partner on PAIR
picks the instant, and both units switch at it (R174). -/
def execOlcCommitInstant (s : State) : Host.Outcome State Fault Refusal := lift (fun b =>
  if b.olcAt = olcArmed ∧ b.olcBoundary ∧ !b.powerFailing ∧ b.olc.switchAt.isNone ∧
      (!b.onPair ∨ b.role = rolePrimary ∨ b.role = roleOut) then
    if b.onPair ∧ b.role = rolePrimary ∧ b.fgetB F.RED_STAT_PAIR_OK then
      { b with olc := { b.olc with switchAt := some (b.now + pairLead) } }.olcTell "olc commit" [b.now + pairLead]
    else b.olcSwitch
  else b) s

/-- Each unit of a pair switches at the commit instant the primary named, once its own affected contexts are between cycles
(R174, R371). Log: 163 (DEDUCED). -/
def Block.olcFollow (b : Block) : Block :=
  b.when (b.olcAt == olcArmed && (b.olc.switchAt.any fun t => decide (t ≤ b.now)) && b.olcBoundary) Block.olcSwitch

/-- The time ACTIVE of a context since ARM, in ns. -/
def Block.olcShare (b : Block) (c : Nat) : Nat :=
  (b.cx c).activeNs + (if b.ctxState c = csActive then b.now - (b.cx c).activeFrom else 0)

/-- The affected context that was ACTIVE longest, with its time. -/
def Block.olcWorst (b : Block) : Nat × Nat :=
  (actsOf b.olc.acts 2 ++ actsOf b.olc.acts 3).foldl (fun (m : Nat × Nat) c => if m.2 < b.olcShare c then (c, b.olcShare c) else m) (0, 0)

/-- OLC_BLOCKER names it, with its share of the 2 s. -/
def Block.olcBlocker (b : Block) (worst : Nat × Nat) : Block :=
  (b.fset F.OLC_BLOCKER_CTX worst.1).fset F.OLC_BLOCKER_SHARE (Nat.min (worst.2 * 65536 / 2000000000) 65535)

/-- OLC_NO_BOUNDARY: 2 s have passed since ARM. -/
def execOlcNoBoundary (s : State) : Host.Outcome State Fault Refusal := lift (fun b =>
  if b.olcAt ≠ olcArmed ∨ b.olc.switchAt.isSome ∨ !b.passed .armed 2000000000 then b else (b.olcBlocker b.olcWorst).olcRefuse ⟨olcNoBoundary, none, none⟩ []) s

end Sys2Proof.Machine
end

