-- ==== Sys2Proof/Machine/Source.lean ====
section
/-! DEFINITION. The states of the TSU and its sources: which is available, which is followed, and what the loss of one does (R81, R481). -/

namespace Sys2Proof.Machine

/-- A 32-bit register as a signed number. -/
def Block.regI (b : Block) (off : Nat) : Int := toSigned 32 (b.regN off)

/-- Write a signed number, modulo 2^32. -/
def Block.setRegI (b : Block) (off : Nat) (v : Int) : Block := b.setRegN off (ofInt 32 v)

def tsuFree : Nat := 0
def tsuLocking : Nat := 1
def tsuLocked : Nat := 2
def tsuHoldover : Nat := 3

def Block.tsuState (b : Block) : Nat := b.fget F.TSU_STAT_STATE

/-- SRC_ACT of a source. -/
def srcCode : TimeSource → Nat
  | .ptp => 1
  | .pps => 2
  | .pair => 3

/-- A source is available (R481); PTP never to a PTP master (R329), PAIR only to a STANDBY. -/
def Block.srcAvail (b : Block) : TimeSource → Bool
  | .ptp => b.tm.ptpAvail && !b.ptpLeads
  | .pps => b.tm.ppsAvail
  | .pair => b.tm.pairAvail && b.role == roleStandby

/-- Mark a source available or lost. -/
def Block.setAvailSrc (b : Block) (src : TimeSource) (v : Bool) : Block :=
  match src with
  | .ptp => { b with tm := { b.tm with ptpAvail := v } }
  | .pps => { b with tm := { b.tm with ppsAvail := v } }
  | .pair => { b with tm := { b.tm with pairAvail := v } }

/-- The source that TSU_CFG.SRC lets the TSU follow now. -/
def Block.srcChosen (b : Block) : Option TimeSource :=
  let pick (l : List TimeSource) := l.find? b.srcAvail
  match b.fget F.TSU_CFG_SRC with
  | 1 => pick [.ptp]
  | 2 => pick [.pps]
  | 3 => pick [.pair]
  | 4 => pick [.ptp, .pps, .pair]
  | _ => none

/-- A change of state of the TSU with its event and record. -/
def Block.tsuEnter (b : Block) (st : Nat) : Block :=
  if b.tsuState = st then b
  else
    let b := b.fset F.TSU_STAT_STATE st
    let b := { b with tm := { b.tm with within := 0, beyond := 0 } }
    let b := b.when (st == tsuLocked) fun b => (b.fset F.TSU_STAT_TIME_VALID 1).raiseEvt 0x03 0
    let b := b.when (st == tsuHoldover) fun b => b.raiseEvt 0x03 1
    b.recRegs 0x03 (if st = tsuLocked then 0 else if st = tsuHoldover then 1 else 0xFF)
      [Reg.TSU_STAT, Reg.TSU_OFFSET, Reg.TSU_RATE] []

/-- A change of the active source (R481). -/
def Block.setSrc (b : Block) (code : Nat) : Block :=
  if b.fget F.TSU_STAT_SRC_ACT = code then b
  else
    let b := (b.fset F.TSU_STAT_SRC_ACT code).event 0x03 4 [Reg.TSU_STAT]
    let b := { b with tm := { b.tm with rates := if code = 0 then b.tm.rates else [] } }
    b.when (b.tsuState == tsuLocked && code != 0) fun b => b.tsuEnter tsuLocking

/-- The TSU loses what it follows: HOLDOVER at the mean rate of the last updates of the source (R81). -/
def Block.tsuHold (b : Block) : Block :=
  let l := b.tm.rates
  let b := b.setSrc 0
  let b := b.when (!l.isEmpty) fun b => b.setRegI Reg.TSU_RATE (l.foldl (· + ·) 0 / (l.length : Int))
  b.tsuEnter tsuHoldover

/-- A source is lost: another available one is taken up at its first update, else HOLDOVER (R81, R481).
Log: 69 (DEDUCED). -/
def Block.tsuLost (b : Block) (src : TimeSource) : Block :=
  let b := b.setAvailSrc src false
  if b.srcChosen.isSome ∨ !(b.tsuState = tsuLocking ∨ b.tsuState = tsuLocked) then b else b.tsuHold

end Sys2Proof.Machine
end

