-- ==== Sys2Proof/Machine/Claim.lean ====
section
/-! DEFINITION. What a unit of a pair is and shows: role, SYNC, computed health, its claim, pair-interface versions, departure (R360, R363 to R365, R375, R383).
Log: 78 (DEDUCED). -/

namespace Sys2Proof.Machine

/-! ### Health (R364) -/

/-- A penalty. -/
def penalty (c : Bool) (n : Nat) : Nat := if c then n else 0

/-- The channel counts in the health: CHANNEL_FAULT, OVERLOAD, TP_FAULT or cause 18. -/
def Block.chUnfit (b : Block) (n : Nat) : Bool :=
  b.fgetB (F.CH_STAT_CHANNEL_FAULT n) || b.fgetB (F.CH_STAT_OVERLOAD n) || b.fgetB (F.CH_STAT_TP_FAULT n) || (b.chCauses n).contains 18

/-- Station-link ports without link that TOPO uses: both on a ring, those with a segment on lines. -/
def Block.lnkPortsDown (b : Block) : Nat :=
  match b.lnk.cfg with
  | none => 0
  | some c =>
    let uses (s : Nat) : Bool := c.topo == 1 || !(c.seg s).isEmpty
    penalty (uses 0 && !b.fgetB F.LNK_STAT_LINK_A) 1 + penalty (uses 1 && !b.fgetB F.LNK_STAT_LINK_B) 1

/-- Computed health. -/
def Block.computedHealth (b : Block) : Nat :=
  let engines := ((upto 16).filter fun n => !b.engAvail n).length
  let solver := if b.fgetB (F.BLK_STAT_FAULT 0x30) then 32 else 4 * (4 - b.solGroups)
  let field := penalty (b.fgetB F.CHG_FP_STAT_UNDERVOLT || b.fgetB F.CHG_FP_STAT_TRIPPED) 64
  let stations := (b.lnkCfg.stations.filter fun (e : LnkEntry) => [lsDown, lsRefused, lsAbsent].contains (b.lsState e.addr)).length
  let chans := ((upto 64).filter b.chUnfit).length
  let heat := if b.thermal = 3 then 24 else if b.thermal = 2 then 8 else 0
  let plant := penalty (!b.fgetB F.PRP_STAT_LINK_A) 4 + penalty (!b.fgetB F.PRP_STAT_LINK_B) 4
  255 - (8 * engines + solver + field + 32 * b.lnkPortsDown + Nat.min stations 32 + Nat.min chans 32 + heat + plant)

/-! ### The claim (R363, R365) -/

/-- EPOCH of a claim. -/
def epochOf (claim : Nat) : Nat := bits claim 16 16

/-- The largest EPOCH a unit sends. -/
def topEpoch : Nat := 0xFFFE

/-- Write the own claim with an epoch: HEALTH by the role, UNIT by the coding. -/
def Block.setClaim (b : Block) (epoch : Nat) : Block :=
  let h := b.fget F.RED_HEALTH_OWN
  let h := if b.role = rolePrimary then Nat.max 1 h else if b.role = roleSingle then h else 0
  b.setRegN Reg.RED_CLAIM (epoch * 65536 + h * 256 + b.fget F.RED_STAT_UNIT_A)

/-- Health is computed anew and the claim follows; its EPOCH stays. Log: 78 (DEDUCED). -/
def Block.redRefresh (b : Block) : Block :=
  (b.fset F.RED_HEALTH_OWN b.computedHealth).setClaim (epochOf (b.regN Reg.RED_CLAIM))

/-- Set SYNC; a change raises its event. -/
def Block.setSync (b : Block) (v : Nat) : Block :=
  if b.sync = v then b else (b.fset F.RED_STAT_SYNC v).raiseEvt 0xB0 5

/-- The unit stops driving or begins to drive the local outputs; at loss of the claim CAN discards its frames, HART ends on
the channels lost, and calibration sessions end (R253, R270, R355, R368). -/
def Block.setWon (b : Block) (v : Bool) : Block :=
  let had := b.holdsLocal
  let b := { b with red := { b.red with won := v } }
  let b := b.when (had && !b.holdsLocal) Block.canClaimLost
  b.chRefreshAll.calClaim.when had Block.hartClaimLost

/-- Take a role. A unit that is no longer STANDBY loses PAIR as a time source (R481); one that is no longer primary ends its
HART transactions (R268). -/
def Block.setRole (b : Block) (r : Nat) : Block :=
  let had := b.holdsLocal
  let acted := b.acts
  let was := b.role == roleStandby
  let b := (b.fset F.RED_STAT_ROLE r).redRefresh
  let b := b.when (was && r != roleStandby) fun b => b.tsuLost .pair
  let b := b.when (acted && !b.acts) Block.hartDemoted
  let b := b.when (had && !b.holdsLocal) Block.canClaimLost
  b.chRefreshAll.calClaim

/-- Every context and pattern is to be copied (again). -/
def Block.resyncFrom (b : Block) (v : Nat) : Block :=
  ({ b with red := { b.red with copied := [], patterns := [] } }.setRegN Reg.RED_SYNC_PROG 0).setSync v

/-- A change of state on either unit ends a join, which begins again (R381). -/
def Block.joinAborted (b : Block) : Block :=
  if b.role = roleStandby ∧ (b.sync = sySyncing ∨ b.sync = syResyncing) then
    ((b.fset F.RED_RES_CODE 21).raiseEvt 0xB0 6).resyncFrom b.sync
  else b

/-- The standby resynchronises (R382). -/
def Block.resyncStart (b : Block) : Block := b.resyncFrom syResyncing

/-- The role OUT: no part in rounds, no OUT frames, no SYNC. -/
def Block.pairOut (b : Block) : Block := ((b.setRole roleOut).setSync syNone).setWon false

/-! ### Pair-interface versions (R383) -/

/-- The firmware that runs: the active vintage, or the fallback while ON_FALLBACK. -/
def Block.runningFw (b : Block) : Option Vintage := if b.fgetB F.SYS_STATE_ON_FALLBACK then b.upd.fwFb else b.upd.fwAct

/-- Versions offered, lowest and highest; none without a firmware vintage. -/
def Block.pivOffer (b : Block) : Nat × Nat := (((b.runningFw).bind (·.man)).map fun m => (m.pivMin, m.pivMax)).getD (0, 0)

/-- The highest version in both ranges. -/
def commonPiv (a p : Nat × Nat) : Option Nat :=
  let hi := Nat.min a.2 p.2
  if Nat.max a.1 p.1 ≤ hi ∧ 0 < hi then some hi else none

/-- PIV_LIMIT: HB_EN needs version 2 on a pair base, HDIFF version 3 (R383, R474). -/
def Block.pivLimit (b : Block) : Block :=
  let v := b.fget F.RED_STAT_PIV
  let hb := b.fgetB F.RED_CFG_HB_EN && (!b.onPair || decide (v < 2))
  let hd := b.fget F.RED_CFG_HDIFF != 0 && b.onPair && decide (v < 3)
  b.fsetB F.RED_STAT_PIV_LIMIT (hb || hd)

/-! ### CAN3 as heartbeat channel (R356, R385, R474) -/

/-- CAN_NBT at 1 Mbit/s: 80 quanta of 12.5 ns, sampled at 80%. Log: 203 (DESIGN CHOICE). -/
def hbTiming : Nat := 0x05CF7BC0

/-- HB_EN holds CAN3: NORMAL, classical frames at 1 Mbit/s, TERM 1 while heartbeats are sent, MODE OFF otherwise.
Log: 84 (DEDUCED). -/
def Block.hbFollow (b : Block) : Block :=
  let b := b.pivLimit
  if !b.fgetB F.RED_CFG_HB_EN then b.fset (F.CAN_MODE_AUX 3) 0
  else
    let b := b.fset (F.CAN_MODE_AUX 3) 1
    let b := if b.hbOn then
        ((((b.fset (F.CAN_MODE_MODE 3) 1).fset (F.CAN_MODE_TERM 3) 1).fset (F.CAN_MODE_FD_EN 3) 0).setRegN (Reg.CAN_NBT 3) hbTiming).beatArm
      else b.fset (F.CAN_MODE_MODE 3) 0
    b.canTakeMode 3

/-- The flag byte of a heartbeat: role, departure, SYNCED. -/
def Block.hbFlags (b : Block) : Nat :=
  b.role + penalty b.red.departed 4 + penalty (b.sync == sySynced) 8

/-- A heartbeat frame: claim (4), flags, sequence count, health, one reserved byte; its start of frame is now. -/
def Block.hbFrame (b : Block) (id claim flags seq health : Nat) : CanFrame :=
  ⟨id, false, false, 8, false, false, false, 8, claim + flags * 2 ^ 32 + seq * 2 ^ 40 + health * 2 ^ 48, b.tsuNs, low 32 b.tsuSec⟩

/-- Send a CAN3 heartbeat frame; the ring stores it (R345). -/
def Block.hbSend (b : Block) : Block :=
  let id := if b.pwr.base = .unitA then 0x7E1 else 0x7E0
  let b := b.canStore 3 (b.hbFrame id (b.regN Reg.RED_CLAIM) b.hbFlags b.red.hbSeq (b.fget F.RED_HEALTH_OWN)) true false
  let b := b.send (.can 3) "pair heartbeat" [id, b.regN Reg.RED_CLAIM, b.hbFlags, b.red.hbSeq, b.fget F.RED_HEALTH_OWN, 0]
  { b with red := { b.red with hbSeq := low 8 (b.red.hbSeq + 1) } }

/-! ### Departure (R375) -/

/-- A PRIMARY declares its departure, on PAIR and with HB_EN on CAN3; declared once. Log: 79 (DEDUCED). -/
def Block.depart (b : Block) : Block :=
  if b.onPair && b.role == rolePrimary && !b.red.departed then
    let b := { b with red := { b.red with departed := true } }
    let b := b.send .pair "departure" [b.regN Reg.RED_CLAIM]
    b.when b.hbOn Block.hbSend
  else b

/-- The module leaves RUN and RUN-DEGRADED: a PRIMARY departs, and stays in the arbitration while a partner is there
to take over; every other unit is OUT at once (R360, R375). -/
def Block.pairLeaves (b : Block) : Block :=
  if !b.onPair then b
  else if b.role = rolePrimary && b.fgetB F.RED_STAT_PARTNER then b.depart
  else b.depart.pairOut

end Sys2Proof.Machine
end

