-- ==== Sys2Proof/Machine/Mode.lean ====
section
/-! DEFINITION. Changes of module state and what they do to contexts, outputs, packages and jobs (R11, R135, R155, R168, R483). -/

namespace Sys2Proof.Machine

/-- Contexts with a given state. -/
def Block.ctxsIn (b : Block) (st : Nat) : List Nat := (upto 256).filter fun c => b.ctxState c == st

/-- Defined contexts of class A, B and C. -/
def Block.abcCtxs (b : Block) : List Nat := (b.progCtxs.filter fun c => c.2.cls != 3).map (·.1)

/-- No force acts on an output (R155). -/
def Block.unforceOutputs (b : Block) : Block :=
  let b := { b with outEls := b.outEls.map fun (e : Nat × OutEl) => (e.1, { e.2 with forced := none }) }
  b.forAll (upto 64) fun b n => b.modChan n fun c => { c with forced := none }

/-- On return to RUN, forces act at once where no writer runs; elsewhere at the writer's first commit (R155, R170). -/
def Block.reforceOutputs (b : Block) : Block :=
  b.forAll (b.frc.table.map (·.2)) fun b e => match e.orphan with
    | some src => b.elMod src fun o => { o with forced := some e.value }
    | none => b.forceStopped e.vid

/-- Every ACTIVE cycle is abandoned without commit (R135, R483). -/
def Block.abandonAll (b : Block) : Block :=
  let b := b.forAll (b.ctxsIn csActive) fun b c => (b.abandon c).atBoundary c false false
  b.forAll (upto 16) Block.engFollow

/-- Waiting dispatches are dropped. -/
def Block.dropDispatches (b : Block) : Block :=
  { b with ctxs := b.ctxs.map fun (e : Nat × Cx) => (e.1, { e.2 with trig := false, late := false }) }

/-- Contexts are triggered from here: first cycles carry FIRST, targets lie after the present instant. -/
def Block.startTriggers (b : Block) : Block :=
  b.forAll b.abcCtxs fun b c =>
    (b.aimCtx c).modCx c fun x => { x with first := true, tbShort := false, tbStretch := false }

/-- RUN or RUN-DEGRADED, as a state to enter. -/
def stRuns (st : Nat) : Bool := st == stRun || st == stRunDegraded

/-- Leaving RUN: waiting dispatches go, no force acts on an output, a unit of a pair is no longer paired. -/
def Block.leaveRun (b : Block) (c : Bool) : Block := b.when c fun b => b.dropDispatches.unforceOutputs.pairLeaves

/-- Entering RUN: contexts are triggered from here, and forces act again. -/
def Block.enterRun (b : Block) (c : Bool) : Block := b.when c fun b => b.startTriggers.reforceOutputs

/-- Entering HALT: cycles and solver jobs are abandoned, and a unit no longer waits to join. -/
def Block.enterHalt (b : Block) (c : Bool) : Block :=
  b.when c fun b =>
    let b := b.abandonAll.solAbortRun.solWithdraw
    { b with red := { b.red with joining := false } }

/-- A change of module state. Log: 135 (DEDUCED). -/
def Block.changeState (b : Block) (st cause : Nat) : Block :=
  if b.modState = st then b.fset F.SYS_STATE_CAUSE cause
  else
    (((((((b.calEndAll.fset F.BTN_STAT_CAL_STEP 0).olcModState (b.running && stRuns st)).when (b.running && stRuns st)
      Block.joinAborted).enterState st cause).leaveRun (b.running && !stRuns st)).enterRun
      (!b.running && stRuns st)).enterHalt (st == stHalt)).chRefreshAll.when (st == stHalt) Block.lnkHalt

/-- RUN with 16 engines available, RUN-DEGRADED with 8 to 15 (R135). -/
def Block.runState (b : Block) : Nat := if b.fget F.SCH_ENG_FAULT_COUNT = 16 then stRun else stRunDegraded

/-- SCH_ENG_FAULT and the module state follow the engines available: below 8 the module enters HALT, also out of the join
wait; before its end the start sequence judges them itself. -/
def Block.engCount (b : Block) : Block :=
  let n := ((upto 16).filter b.engAvail).length
  let b := b.fset F.SCH_ENG_FAULT_COUNT n
  let b := b.fset F.SCH_ENG_FAULT_FAULT (((upto 16).map fun k => mark (b.engState k == esFault) k).sum)
  if n < 8 then
    (if (b.modState = stStart ∧ !b.red.joining) ∨ b.modState = stHalt then b else b.changeState stHalt 3)
  else if b.running then b.changeState b.runState 0
  else b

end Sys2Proof.Machine
end

