-- ==== Sys2Proof/Machine/Sched.lean ====
section
/-! DEFINITION. Scheduler commands, migration, engine parking, faults and self-tests, the energy window and the thermal states (R27, R118, R119, R127, R134 to R146, R150).
Log: 53 (DEDUCED), 56 (DEDUCED). -/

namespace Sys2Proof.Machine

/-! ### Migration (R27, R144) -/

/-- A context is to move to a place on another engine. -/
def Block.moveCtx (b : Block) (c n k : Nat) : Block :=
  let b := b.modCx c fun x => { x with moveTo := some n, movePlace := k, handed := false, copying := false }
  if b.leavesNow c then b.handOver c else b

/-- A context loses its place: it stops at its next boundary, at once when it is between cycles. -/
def Block.loseCtx (b : Block) (c : Nat) : Block :=
  let b := b.modCx c fun x => { x with dropAtEnd := true, moveTo := none, handed := false, copying := false }
  if b.ctxState c = csActive then b
  else if b.ctxState c = csStopped then ((b.modCx c fun x => { x with dropAtEnd := false }).dropPlace c).copyWaiting
  else b.atBoundary c

/-- Resident contexts of a mask's available engines that rank below `c`, the lowest last in R27's order. -/
def Block.displaceable (b : Block) (c : Nat) : Option Nat :=
  let p := b.ctxProg c
  let cand := (upto 16).filter (fun n => bit p.mask n && b.engAvail n) |>.flatMap fun n =>
    (b.residents n).filter fun d => (b.cx d).moveTo.isNone && !(b.cx d).dropAtEnd && decide (p.rank c < (b.ctxProg d).rank d)
  cand.foldl (fun (worst : Option Nat) d => match worst with
    | none => some d
    | some w => if (b.ctxProg w).rank w < (b.ctxProg d).rank d then some d else some w) none

/-- Find a new home for a context that must leave its engine: a free place in its mask, else the place of the
lowest-ranking context below it, else none (R27). -/
def Block.rehome (b : Block) (c : Nat) : Block :=
  match placeOne b.engUses c (b.ctxProg c) with
  | some (_, n, k) => b.moveCtx c n k
  | none => match b.displaceable c with
    | some d =>
      let n := b.homeOf d
      let k := (b.cx d).place
      ((b.loseCtx d).moveCtx c n k).copyWaiting
    | none => b.loseCtx c

/-- Contexts of a list in the order of R27. -/
def Block.r27 (b : Block) (l : List Nat) : List Nat :=
  (placeOrder (b.progCtxs.filter fun e => l.contains e.1)).map (·.1)

/-- Every context leaves an engine that is no longer available: those already on their way from it keep the place reserved
for them, those on their way to it turn back or elsewhere. -/
def Block.leaveEngine (b : Block) (n : Nat) : Block :=
  let bound := (upto 256).filter fun c => (b.cx c).moveTo == some n
  let b := b.forAll bound fun b c => b.modCx c fun x => { x with moveTo := none, handed := false, copying := false }
  let turned := bound.filter fun c => !b.engAvail (b.homeOf c)
  let leaving := (b.residents n).filter fun c => (b.cx c).moveTo.isSome
  let b := b.forAll leaving fun b c => b.when (b.leavesNow c) fun b => b.handOver c
  (b.forAll (b.r27 ((b.residents n).filter (fun c => (b.cx c).moveTo.isNone) ++ turned)) Block.rehome).engShowAll

/-- A context stopped for lack of a place has one again and resumes at its next trigger. -/
def Block.revive (b : Block) (c : Nat) : Block :=
  if b.ctxState c = csStopped ∧ b.fget (F.CTX_STATE_STOP_WHY c) = 3 then
    (b.fset (F.CTX_STATE_STOP_WHY c) 0).setCtxState c (b.restState c)
  else b

/-- A context without a place takes one; on another engine than before its first cycle carries MIGRATED (R131). -/
def Block.rePlace (b : Block) (c n k : Nat) : Block :=
  let old := b.homeOf c
  (b.putPlace c n k).modCx c fun x => { x with migrated := x.migrated || old != n }

/-- Contexts stopped for lack of a place are placed again, in R27's order. -/
def Block.reviveAll (b : Block) : Block :=
  let lost := (b.ctxsIn csStopped).filter fun c => b.fget (F.CTX_STATE_STOP_WHY c) == 3 && !b.fgetB (F.CTX_STATE_PLACED c)
  (b.forAll (b.r27 lost) fun b c => match placeOne b.engUses c (b.ctxProg c) with
    | some (_, n, k) => (b.rePlace c n k).revive c
    | none => b).engShowAll

/-- Placement of R127 over the engines available, from none placed: the engine of each context. -/
def Block.replan (b : Block) : List (Nat × Option Nat) :=
  let start : List EngUse := ((upto 16).filter b.engAvail).map fun n =>
    ⟨n, 0, [], (upto 16).filter fun k => !(b.eng n).withdrawn.contains k⟩
  ((placeOrder b.progCtxs).foldl (fun (acc : List EngUse × List (Nat × Option Nat)) e =>
    match placeOne acc.1 e.1 e.2 with
    | some (l, n, _) => (l, acc.2 ++ [(e.1, some n)])
    | none => (acc.1, acc.2 ++ [(e.1, none)])) (start, [])).2

/-- A place on engine `n` for a context that moves there: a free one, else one that a leaving context holds. -/
def Block.placeOn (b : Block) (n : Nat) (plan : List (Nat × Option Nat)) : Nat :=
  let stays := (b.residents n).filter fun c => mapGet none plan c == some n
  let taken := (stays.map fun c => (b.cx c).place) ++
    ((upto 256).filter fun c => (b.cx c).moveTo == some n).map fun c => (b.cx c).movePlace
  let held := (b.residents n).map fun c => (b.cx c).place
  let ok := (upto 16).filter fun k => !taken.contains k && !(b.eng n).withdrawn.contains k
  ((ok.find? fun k => !held.contains k).orElse fun _ => ok.head?).getD 0

/-- REPLACE: recompute placement; moved contexts migrate, and one that was displaced and is placed again goes on (R134,
R142). -/
def Block.replaceAll (b : Block) : Block :=
  let plan := b.replan
  let b := b.forAll plan fun b e => b.modCx e.1 fun x => { x with moveTo := none, handed := false, copying := false, dropAtEnd := false }
  (b.forAll plan fun b e => match e.2 with
    | none => if b.fgetB (F.CTX_STATE_PLACED e.1) then b.loseCtx e.1 else b
    | some n =>
      let c := e.1
      if b.fgetB (F.CTX_STATE_PLACED c) then
        if b.homeOf c = n then b else b.moveCtx c n (b.placeOn n plan)
      else
        let k := b.placeOn n plan
        if (b.residents n).any fun d => (b.cx d).place == k then b.moveCtx c n k
        else (b.rePlace c n k).revive c).copyWaiting.engShowAll

/-- A REPLACE is done when no context moves any more. -/
def Block.replaceDone (b : Block) : Block :=
  if b.sched.replacing && b.moving.isEmpty then { b with sched := { b.sched with replacing := false } }.schDone 0 else b

/-- MIGRATION_COPY_COMPLETE: the context lives on its new engine; places that fall free start waiting copies. -/
def execMigrationCopyComplete (c : Fin 256) (s : State) : Host.Outcome State Fault Refusal := lift (fun b =>
  let c := c.val
  let x := b.cx c
  match x.moveTo with
  | none => b
  | some n =>
    if !x.copying then b
    else
      let old := b.homeOf c
      let b := b.putPlace c n x.movePlace
      let b := b.modCx c fun x => { x with moveTo := none, handed := false, copying := false, migrated := true }
      let b := (b.revive c).incWrap F.SCH_MIG_CNT_COUNT
      let b := (b.raiseEvt 0x20 4).copyWaiting
      let b := (b.engShow old).engShow n
      ((b.engNext old).engNext n).replaceDone) s

/-! ### Scheduler commands (R134, R150) -/

/-- A command or REPLACE is still running. -/
def Block.schBusy (b : Block) : Bool := b.sched.replacing || b.ctxs.any fun e => e.2.stopAtEnd

/-- Slots and own globals reloaded, sticky flags cleared; the elements are without a committed value (R117, R483). -/
def Block.reloadCtx (b : Block) (c : Nat) : Block :=
  let p := b.ctxProg c
  let b := b.modCx c fun x => { x with slots := p.init.map (BitVec.ofNat 32), own := [], flags := 0 }
  (b.uncommitOutputs c).setRegN (Reg.CTX_CYCLES c) 0

/-- A stopped context resumes at its next trigger; without a place it takes a free one in its mask. Overrun skips counted
before a STOP stay for SKIPS of its first cycle. Log: 183 (DESIGN CHOICE). -/
def Block.resume (b : Block) (c : Nat) (reload : Bool) : Block :=
  let go (b : Block) : Block :=
    let b := if reload then b.reloadCtx c else b
    let b := b.modCx c fun x => { x with first := true, trig := false, late := false, act := .idle }
    ((b.fset (F.CTX_STATE_STOP_WHY c) 0).setCtxState c (b.restState c)).schDone 0
  if b.fgetB (F.CTX_STATE_PLACED c) || (b.cx c).moveTo.isSome then go b
  else match placeOne b.engUses c (b.ctxProg c) with
    | some (_, n, k) => go ((b.rePlace c n k).engShow n)
    | none => b.schDone 4

/-- STOP: the context stops at its next completion, that of the running cycle or of the next one. Log: 55 (DEDUCED). -/
def Block.schStopCtx (b : Block) (c : Nat) : Block := b.modCx c fun x => { x with stopAtEnd := true }

/-- What a value written to SCH_CMD does; the field clears when it is taken up. Log: 55 (DEDUCED). -/
def Block.schCommand (b : Block) (v : Nat) : Block :=
  let cmd := bits v 8 4
  let c := bits v 0 8
  let b := b.fset F.SCH_CMD_CMD 0
  let st := b.ctxState c
  let why := b.fget (F.CTX_STATE_STOP_WHY c)
  if cmd = 0 ∨ 4 < cmd then b
  else if b.schBusy then b.schDone 1
  else if cmd = 4 then ({ b with sched := { b.sched with replacing := true } }.replaceAll).replaceDone
  else if !b.fgetB (F.CTX_CFG_VALID c) then b.schDone 3
  else match cmd with
    | 1 => if st = csStopped then b.resume c true else b.schDone 2
    | 2 => if st = csIdle ∨ st = csActive ∨ st = csDeferred then b.schStopCtx c else b.schDone 2
    | _ => if st = csStopped ∧ (why = 1 ∨ why = 3 ∨ why = 4) then b.resume c false else b.schDone 2

/-- A write of SCH_CMD. -/
def Block.schCmdWrite (b : Block) (r : Requester) (v : Nat) : Block := b.cmdWrite r Reg.SCH_CMD v [] fun b => b.schCommand v

def execRestart (r : Requester) (c : Fin 256) (s : State) : Host.Outcome State Fault Refusal := lift (fun b => b.schCmdWrite r (0x100 + c.val)) s
def execSchStop (r : Requester) (c : Fin 256) (s : State) : Host.Outcome State Fault Refusal := lift (fun b => b.schCmdWrite r (0x200 + c.val)) s
def execSchStart (r : Requester) (c : Fin 256) (s : State) : Host.Outcome State Fault Refusal := lift (fun b => b.schCmdWrite r (0x300 + c.val)) s
def execReplace (r : Requester) (s : State) : Host.Outcome State Fault Refusal := lift (fun b => b.schCmdWrite r 0x400) s

/-! ### Availability, parking and return (R142 to R144) -/

/-- An engine becomes available or not; its time in the window is kept (R146). -/
def Block.setAvail (b : Block) (n : Nat) (v : Bool) : Block :=
  if b.engAvail n = v then b
  else
    let b := b.fsetB ⟨Reg.SCH_ENG_AVAIL, n, 1⟩ v
    b.modEng n fun e =>
      if v then { e with availFrom := some b.now }
      else { e with availNs := e.availNs + (b.now - Nat.max (e.availFrom.getD b.now) b.sched.windowStart), availFrom := none }

/-- ENGINE_PARK_BEGIN: in CRITICAL, down to 8 engines, the highest-numbered available engine, 100 ms after the one before. -/
def execEngineParkBegin (s : State) : Host.Outcome State Fault Refusal := lift (fun b =>
  let av := (upto 16).filter b.engAvail
  match av.getLast? with
  | none => b
  | some n =>
    if b.thermal = 3 ∧ 8 < av.length ∧ b.periodic .park 100000000 then
      let b := ((b.timed .park).setAvail n false).modEng n fun e => { e with parking := true, thermal := true }
      (b.leaveEngine n).engCount
    else b) s

/-- ENGINE_PARKED: the last context has left. -/
def execEngineParked (n : Fin 16) (s : State) : Host.Outcome State Fault Refusal := lift (fun b =>
  let n := n.val
  if (b.eng n).parking && (b.residents n).isEmpty && b.engState n != esFault then
    let b := b.modEng n fun e => { e with parking := false }
    let b := (b.fset (F.ENG_STATE_STATE n) esParked).fset (F.BLK_STAT_PARKED (0x10 + n)) 1
    let b := b.fset ⟨Reg.SCH_ENG_AVAIL, 16 + n, 1⟩ 1
    (b.raiseEvt (0x10 + n) 2).raiseEvt 0x20 5
  else b) s

/-- The engine that may return next: thermally parked ones first, lowest number first, then those back from FAULT. -/
def Block.returning (b : Block) : Option Nat :=
  let parked := (upto 16).filter fun n => b.engState n == esParked && !(b.eng n).failed
  (parked.find? fun n => (b.eng n).thermal && !(b.eng n).fromFault).orElse fun _ => parked.find? fun n => (b.eng n).fromFault

/-- ENGINE_RETURN, one per 100 ms: contexts without a place are placed first, then placement is recomputed. -/
def execEngineReturn (s : State) : Host.Outcome State Fault Refusal := lift (fun b =>
  match b.returning with
  | none => b
  | some n =>
    if b.thermal ≤ 1 ∧ b.periodic .engReturn 100000000 then
      let b := (b.timed .engReturn).modEng n fun e => { e with thermal := false, fromFault := false }
      let b := (b.fset (F.ENG_STATE_STATE n) esIdle).fset (F.BLK_STAT_PARKED (0x10 + n)) 0
      let b := (b.fset ⟨Reg.SCH_ENG_AVAIL, 16 + n, 1⟩ 0).setAvail n true
      let b := (b.raiseEvt (0x10 + n) 3).raiseEvt 0x20 6
      b.reviveAll.replaceAll.engCount
    else b) s

/-! ### Faults and self-tests (R119, R143, R145) -/

/-- Places of an engine are lost: its contexts there stop with the exception given and the places are withdrawn; an
uncorrectable error is an event of the engine (R117, R118, R143). -/
def Block.placesLost (b : Block) (n code : Nat) (bad : List Nat) : Block :=
  let b := b.when (code == 3 && !bad.isEmpty) fun b => b.event (0x10 + n) 6 [Reg.ENG_STATE n]
  let b := b.forAll ((b.residents n).filter fun c => bad.contains (b.cx c).place) fun b c =>
    (((b.hardException c code 0).modCx c fun x => { x with moveTo := none, handed := false, copying := false }).dropPlace c).copyWaiting
  b.modEng n fun e => { e with withdrawn := (e.withdrawn ++ bad).eraseDups }

/-- An engine enters FAULT: its cycles are abandoned, contexts on bad places stop with the exception given, the others
migrate; the bad places are withdrawn. On an engine in FAULT an uncorrectable error takes the places alone. -/
def Block.engineFault (b : Block) (n code : Nat) (bad : List Nat) : Block :=
  if b.engState n = esFault then (if code = 3 then (b.placesLost n code bad).engShow n else b)
  else
    let rs := b.residents n
    let b := b.forAll (rs.filter fun c => b.ctxState c == csActive && !bad.contains (b.cx c).place) fun b c =>
      (b.abandon c).atBoundary c false false
    let b := (b.fset (F.ENG_STATE_STATE n) esFault).fset (F.BLK_STAT_FAULT (0x10 + n)) 1
    let b := (b.fset ⟨Reg.SCH_ENG_AVAIL, 16 + n, 1⟩ 0).fset (F.BLK_STAT_PARKED (0x10 + n)) 0
    let b := (b.placesLost n code bad).modEng n fun e => { e with
      faults := e.faults + 1, failed := e.failed || decide (1 ≤ e.faults), parking := false, fromFault := false }
    ((b.setAvail n false).leaveEngine n).engCount

/-- ENGINE_FAULT: `badPlaces` hold an uncorrectable error, or with `decode` a word that did not decode (R117). -/
def execEngineFault (n : Fin 16) (decode : Bool) (badPlaces : List Nat) (s : State) : Host.Outcome State Fault Refusal :=
  lift (fun b => b.engineFault n.val (if decode then 4 else 3) badPlaces) s

/-- The self-test of an engine starts. -/
def Block.engTest (b : Block) (n : Nat) : Block :=
  let b := b.modEng n fun e => { e with testFault := b.engState n == esFault }
  (b.fset (F.ENG_TEST_RESULT n) 1).fset (F.ENG_STATE_STATE n) esTest

/-- ENG_TEST.START is taken from SUP alone, of an engine PARKED or in FAULT. -/
def Block.engTestExtra (b : Block) (r : Requester) (n v : Nat) : List Nat :=
  codeIf (bit v 0 && !(r == .sup && (b.engState n == esParked || b.engState n == esFault))) accClass

/-- A write of ENG_TEST. -/
def Block.engTestWrite (b : Block) (r : Requester) (n v : Nat) : Block :=
  b.cmdWrite r (Reg.ENG_TEST n) v (b.engTestExtra r n v) fun b => if bit v 0 then b.engTest n else b

def execEngTestStart (r : Requester) (n : Fin 16) (s : State) : Host.Outcome State Fault Refusal := lift (fun b => b.engTestWrite r n.val 1) s

/-- FAULT_SELF_TEST_DUE: the supervisor tests an engine 1 s after its last context has left, once since start; not while it
stalls (R16, R143). Log: 208 (DEDUCED). -/
def execFaultSelfTestDue (n : Fin 16) (s : State) : Host.Outcome State Fault Refusal := lift (fun b =>
  if b.engState n.val = esFault ∧ !(b.eng n.val).failed ∧ (b.residents n.val).isEmpty ∧
      !b.ssp.stall ∧ b.periodic (.engEmpty n.val) 1000000000 then b.engTest n.val else b) s

/-- A passed self-test parks the engine, which for one in FAULT is a change (R118, R119); one that had failed a test before stays in FAULT. -/
def Block.engPassed (b : Block) (n : Nat) : Block :=
  let b := b.fset (F.ENG_TEST_RESULT n) 2
  if (b.eng n).testFault ∧ (b.eng n).failed then b.fset (F.ENG_STATE_STATE n) esFault
  else
    let back := (b.eng n).testFault
    let b := (((b.modEng n fun e => { e with fromFault := e.fromFault || back }).fset (F.ENG_STATE_STATE n) esParked).fset
      (F.BLK_STAT_PARKED (0x10 + n)) 1).fset (F.BLK_STAT_FAULT (0x10 + n)) 0
    b.when back fun b => (b.raiseEvt (0x10 + n) 2).raiseEvt 0x20 5

/-- A failed self-test leaves the engine in FAULT, no longer parked. -/
def Block.engFailed (b : Block) (n : Nat) : Block :=
  let b := b.modEng n fun e => { e with failed := true, thermal := false, fromFault := false }
  let b := (b.fset (F.BLK_STAT_PARKED (0x10 + n)) 0).fset ⟨Reg.SCH_ENG_AVAIL, 16 + n, 1⟩ 0
  ((b.fset (F.ENG_TEST_RESULT n) 3).fset (F.ENG_STATE_STATE n) esFault).fset (F.BLK_STAT_FAULT (0x10 + n)) 1

/-- The result of an engine's self-test. -/
def Block.engTested (b : Block) (n code : Nat) : Block :=
  let b := (b.fset (F.ENG_TEST_FAIL_CODE n) code).raiseEvt (0x10 + n) 4
  if code = 0 then b.engPassed n else b.engFailed n

/-- ENG_TEST_COMPLETE: `fail` is 0 after a pass. An engine in FAULT for the second time stays there. -/
def execEngTestComplete (n : Fin 16) (fail : Nat) (s : State) : Host.Outcome State Fault Refusal := lift (fun b =>
  if b.engState n.val ≠ esTest then b else (b.engTested n.val (low 16 fail)).engCount) s

/-! ### The energy window (R136, R140, R146) -/

/-- Energy in µJ, rounded down, saturating at a register. Log: 182 (DESIGN CHOICE). -/
def microJ (e : Nat) : Nat := Nat.min (e / 65536000000) (2 ^ 32 - 1)

/-- Clocks available in the window, and busy ones of the engines that were available. -/
def Block.windowClocks (b : Block) : Nat × Nat :=
  (upto 16).foldl (fun (acc : Nat × Nat) n =>
    let e := b.eng n
    let ns := e.availNs + match e.availFrom with
      | some t => b.now - Nat.max t b.sched.windowStart
      | none => 0
    (acc.1 + ns * 6 / 10, acc.2 + e.winClocks)) (0, 0)

/-- The 100 ms window of REC ends: one LOST record of reason 3 for each context with refusals (R412). -/
def Block.recWindow (b : Block) : Block :=
  let l := b.evr.rateRefused
  let b := { b with evr := { b.evr with accepted := [], rateRefused := [] } }
  b.forAll l fun b e => b.recLost 1 e.1 e.2 3

/-- Deferred contexts are admitted again. -/
def Block.admitDeferred (b : Block) (l : List Nat) : Block :=
  b.forAll l fun b c => (b.setCtxState c csIdle).modCx c fun x => { x with budgetDeferred := false }

/-- The window ends: sums move to the registers and restart at 0; deferred class-C work is admitted again, in HOT and
CRITICAL once they end (R140). The occupancy is rounded down. Log: 182 (DESIGN CHOICE). -/
def Block.windowEnd (b : Block) : Block :=
  let (clocks, busy) := b.windowClocks
  let occ := if clocks = 0 then 0 else Nat.min (busy * 10000 / clocks) 10000
  let b := b.forAll (upto 16) fun b k => b.setRegN (Reg.PWR_LEDGER k) (microJ (mapGet 0 b.sched.ledger k))
  let b := b.forAll (upto 16) fun b n => b.setRegN (Reg.PWR_ENG_E n) (microJ (b.eng n).winEnergy)
  let b := (b.setRegN Reg.PWR_SOL_E (microJ b.sched.solverEnergy)).incWrap F.PWR_WIN_CNT_COUNT
  let b := (b.fset F.SCH_OCC_OCC occ).setRegN Reg.SCH_OCC_MAX (Nat.max occ (b.regN Reg.SCH_OCC_MAX))
  let b := { b with sched := { b.sched with
    ledger := [], solverEnergy := 0, windowStart := b.now, deferReported := false
    engines := b.sched.engines.map fun (e : Nat × EngState) =>
      (e.1, { e.2 with winClocks := 0, winEnergy := 0, availNs := 0, availFrom := e.2.availFrom.map fun _ => b.now }) } }
  let b := b.recWindow.redRefresh
  if b.thermal ≤ 1 then b.admitDeferred (b.ctxsIn csDeferred)
  else b.forAll (b.ctxsIn csDeferred) fun b c => b.modCx c fun x => { x with budgetDeferred := false }

/-- ENERGY_WINDOW_END, with what is measured of the supplies: the average core input power of these 100 ms, the field
current, and the dissipation from the field supply averaged over 1 s (R151, R259). -/
def execEnergyWindowEnd (coreMw fieldMa fieldMw : Nat) (s : State) : Host.Outcome State Fault Refusal := lift (fun b =>
  if b.now < b.sched.windowStart + 100000000 then b
  else
    let b := b.windowEnd.fset F.PWR_CORE_P_POWER (Nat.min coreMw 65535)
    (b.fset F.CHG_FP_LOAD_CURRENT (Nat.min fieldMa 65535)).fset F.CHG_FP_LOAD_DISS (Nat.min fieldMw 65535)) s

/-! ### Thermal states (R137, R138, R141) -/

/-- The level a reading in 1/16 °C reaches against thresholds in °C. -/
def reached (t : Int) (warm hot crit : Nat) : Nat :=
  if 16 * (crit : Int) ≤ t then 3 else if 16 * (hot : Int) ≤ t then 2 else if 16 * (warm : Int) ≤ t then 1 else 0

/-- The next level: up at once; down one step while more than 2 °C below the threshold of the current level. -/
def nextLevel (cur : Nat) (t : Int) (warm hot crit : Nat) : Nat :=
  let r := reached t warm hot crit
  let thr := nth 0 [0, warm, hot, crit] cur
  if cur ≤ r then r
  else if t < 16 * (thr : Int) - 32 then cur - 1
  else cur

/-- Class-C contexts between cycles read DEFERRED in HOT and CRITICAL, and no longer when the state leaves them, but
for those that in WARM await the next window (R140). -/
def Block.thermalCtxs (b : Block) : Block :=
  if 2 ≤ b.thermal then
    (b.forAll ((b.ctxsIn csIdle).filter fun c => b.ctxClass c == 2) fun b c => (b.setCtxState c csDeferred).handOver c).copyWaiting
  else b.admitDeferred ((b.ctxsIn csDeferred).filter fun c => b.thermal == 0 || !(b.cx c).budgetDeferred)

/-- THERMAL_EVALUATION of the 10 ms averages, in 1/16 °C. -/
def execThermalEvaluation (die rail : Int) (s : State) : Host.Outcome State Fault Refusal := lift (fun b =>
  if !b.periodic .thermal 10000000 then b else
  let b := ((b.timed .thermal).fset F.PWR_DIE_T_TEMP (ofInt 16 die)).fset F.PWR_RAIL_T_TEMP (ofInt 16 rail)
  let d := nextLevel (b.fget F.PWR_THERM_DIE_LEVEL) die (b.fget F.PWR_DIE_THR_WARM) (b.fget F.PWR_DIE_THR_HOT) (b.fget F.PWR_DIE_THR_CRITICAL)
  let r := nextLevel (b.fget F.PWR_THERM_RAIL_LEVEL) rail (b.fget F.PWR_RAIL_THR_WARM) (b.fget F.PWR_RAIL_THR_HOT) (b.fget F.PWR_RAIL_THR_CRITICAL)
  let was := b.thermal
  let now_ := Nat.max d r
  let b := ((b.fset F.PWR_THERM_DIE_LEVEL d).fset F.PWR_THERM_RAIL_LEVEL r).fset F.PWR_THERM_STATE now_
  if now_ = was then b
  else
    let b := b.when (now_ == 3) fun b => b.untimed .park
    let b := b.when (decide (was < 2 ∧ 2 ≤ now_)) fun b => { b with sched := { b.sched with skipping := false } }
    let b := b.event 1 (if was < now_ then 0 else 1) [Reg.PWR_THERM, Reg.PWR_DIE_T, Reg.PWR_RAIL_T]
    b.thermalCtxs.solShow) s

/-- THERMAL_TRIP: HALT at 125 °C; the next start shows TRIPPED. Log: 134 (DEDUCED). -/
def execThermalTrip (s : State) : Host.Outcome State Fault Refusal := lift (fun b =>
  let b := { b with cel := { b.cel with cfg := mapSet b.cel.cfg Reg.PWR_THERM 0x10000 } }
  let b := b.recAccept (b.mkRec 6 0 0x1001 1 (blockWords 0xFF [b.regPair Reg.PWR_THERM, b.regPair Reg.PWR_DIE_T]))
  b.changeState stHalt 5) s

end Sys2Proof.Machine
end

