-- ==== Sys2Proof/Machine/Time.lean ====
section
/-! DEFINITION. The time bases: ABS0, ABS1, the TSU and the calendar clock, captures and compares, and the fabric clock (R68 to R89, R481). -/

namespace Sys2Proof.Machine

/-! ### Angles -/

/-- A signed number clamped to ±lim. -/
def clampI (lim v : Int) : Int := if v < -lim then -lim else if lim < v then lim else v

/-- The error of a base at angle `pos` against a reference angle, in (−0.5, +0.5] turn (R69). -/
def angleErr (reference pos : Nat) : Int :=
  let d : Nat := (reference + 2 ^ 32 - pos % 2 ^ 32) % 2 ^ 32
  if d ≤ 2 ^ 31 then (d : Int) else (d : Int) - 2 ^ 32

/-- The extended position register pair of a base. -/
def posReg (abs1 : Bool) : Nat := if abs1 then Reg.ABS1_POS_LO else Reg.ABS0_POS_LO

/-- Move an extended position. -/
def Block.setPos (b : Block) (abs1 : Bool) (p : Int) : Block := b.setPair (posReg abs1) (ofInt 64 p)

def Block.shaftCpr (b : Block) : Nat := Nat.max 1 (b.fget F.ABS1_CPR_CPR)

/-- The position of the last count. -/
def Block.counted (b : Block) : Int := b.tm.countBase + b.tm.count * 2 ^ 32 / (b.shaftCpr : Int)

/-- Flag the cycle interval of every context on an angle trigger of the base (R74). -/
def Block.flagCycles (b : Block) (abs1 step : Bool) : Block :=
  b.forAll (b.abcCtxs.filter fun c => b.trigOf c == if abs1 then 3 else 2) fun b c =>
    b.modCx c fun x => if step then { x with tbShort := true } else { x with tbStretch := true }

/-- The highest position ABS1 has reached moves with a step (R79). -/
def Block.raiseHighest (b : Block) : Block :=
  let p := toSigned 64 (b.absPos true)
  { b with tm := { b.tm with highest := if b.tm.highest < p then p else b.tm.highest } }

/-- An ABS compare unit fires (R85). -/
def Block.absCompare (b : Block) (n : Nat) : Block := (b.fset (F.ABS_CMP_CTL_EN n) 0).raiseEvt 0x02 (11 + n)

/-- The target of an ABS compare unit on this base has been reached (R68). -/
def Block.absCmpDue (b : Block) (n : Nat) : Bool :=
  let abs1 := b.fgetB (F.ABS_CMP_CTL_BASE n)
  b.fgetB (F.ABS_CMP_CTL_EN n) && (!abs1 || b.abs1Fires) && posReached (b.absPos abs1) (b.pair (Reg.ABS_CMP_LO n))

/-- The targets of a context that a step has passed fire one after the other, each placing its successor: at most `n`. -/
def Block.triggerPassed (b : Block) (c n : Nat) : Block :=
  match n with
  | 0 => b
  | n + 1 => if b.dueAt c (b.cx c).target then (b.trigger c).triggerPassed c n else b

/-- Every target inside a jumped interval of a base fires at the step (R69, R87): compare units, context triggers, of which
a step below half a turn passes no more than a turn holds, and the deadline of a running job. Log: 147 (DEDUCED). -/
def Block.fireCrossed (b : Block) (abs1 : Bool) : Block :=
  let units := (upto 2).filter fun n => b.fgetB (F.ABS_CMP_CTL_BASE n) == abs1 && b.absCmpDue n
  let ctxs := b.abcCtxs.filter fun c => b.trigOf c == (if abs1 then 3 else 2)
  let b := b.forAll units Block.absCompare
  (b.when b.running fun b => b.forAll ctxs fun b c =>
    b.triggerPassed c (angleCount (b.fget (F.CTX_PERIOD_PERIOD c)))).solCrossed abs1

/-- ABS0 is ahead of its reference by `n` turn units: its position waits that long. -/
def Block.aheadBy (b : Block) (n : Nat) : Block := { b with tm := { b.tm with abs0Ahead := n } }

/-- Apply a realignment of `e` turn units with step limit `lim` (R69): a step, at which the targets it crosses fire, or a
hold until the reference arrives; without an error the base is on its reference. -/
def Block.realign (b : Block) (abs1 : Bool) (e lim : Int) : Block :=
  let hold := if abs1 then F.ABS1_STAT_HOLDING else F.ABS0_STAT_HOLDING
  let b := if abs1 then b else b.aheadBy 0
  if e = 0 then b.fset hold 0
  else
    let step := decide (0 < e ∧ e ≤ lim)
    let b := if step then (b.setPos abs1 ((b.absPos abs1 : Int) + e)).fset hold 0
      else (b.when (!abs1) fun b => b.aheadBy (if e < 0 then -e else 2 ^ 32 - e).toNat).fset hold 1
    let b := b.flagCycles abs1 step
    let b := b.when step fun b => (b.when abs1 Block.raiseHighest).fireCrossed abs1
    if abs1 then b.recRegs 0x02 0xFF [Reg.ABS1_STAT, Reg.ABS1_POS_LO, Reg.ABS1_POS_HI] []
    else
      ((b.incSat F.ABS0_STAT_RELOCK_CNT).setRegI Reg.ABS0_LAST_STEP e).event 0x02 2
        [Reg.ABS0_STAT, Reg.ABS0_LAST_STEP, Reg.ABS0_FREQ]

/-- STEP_MAX as L of ABS0 (R69). -/
def Block.absLimit (b : Block) : Int :=
  if b.fgetB F.ABS0_CFG_RELOCK_MODE then (b.fget F.ABS0_RELOCK_STEP_MAX * 2 ^ 16 : Nat) else 0

/-! ### ABS0 (R70 to R76) -/

def absFree : Nat := 0
def absAcquire : Nat := 1
def absLocked : Nat := 2
def absHoldover : Nat := 3

def Block.absState (b : Block) : Nat := b.fget F.ABS0_STAT_STATE

/-- Nominal frequency in µHz. -/
def Block.absNom (b : Block) : Nat := if b.fgetB F.ABS0_CFG_NOM then 60000000 else 50000000

/-- VSk_OK of input 0 (VS1) or 1 (VS2). -/
def vsOk (vs : Nat) : Fld := if vs = 0 then F.ABS0_STAT_VS1_OK else F.ABS0_STAT_VS2_OK

/-- SRC lets ABS0 follow the input (R71). -/
def Block.vsEligible (b : Block) (vs : Nat) : Bool :=
  let src := b.fget F.ABS0_CFG_SRC
  src == 2 || src == vs

/-- A change of state of ABS0, with its event and record. -/
def Block.absEnter (b : Block) (st : Nat) : Block :=
  if b.absState = st then b
  else
    let b := b.fset F.ABS0_STAT_STATE st
    let evt := if st = absLocked then 0 else if st = absHoldover then 1 else 0xFF
    let b := b.when (evt != 0xFF) fun b => b.raiseEvt 0x02 evt
    b.recRegs 0x02 evt [Reg.ABS0_STAT, Reg.ABS0_FREQ] []

/-- FREE and HOLDOVER give way to ACQUIRE when an eligible input is valid, VS1 before VS2. After start AUTO follows VS1:
where VS1 becomes valid while VS2 qualifies for the first lock, VS1 is qualified (R71). Log: 148 (DEDUCED). -/
def Block.absSeek (b : Block) : Block :=
  let st := b.absState
  if st = absAcquire ∧ !b.tm.acqFromHoldover ∧ b.tm.acqInput = 1 ∧ b.vsEligible 0 ∧ b.fgetB (vsOk 0) then
    { b with tm := { b.tm with acqInput := 0 } }
  else if st = absFree ∨ st = absHoldover then
    match [0, 1].find? fun vs => b.vsEligible vs && b.fgetB (vsOk vs) with
    | some vs =>
      let b := { b with tm := { b.tm with acqInput := vs, acqFromHoldover := st == absHoldover } }
      b.absEnter absAcquire
    | none => b
  else b

/-- HOLDOVER at the mean frequency of the last four qualified cycles of the input; a hold ends (R73, R87). -/
def Block.absHold (b : Block) (vs : Nat) : Block :=
  let l := nth [] b.tm.cycles vs
  let b := b.when (!l.isEmpty) fun b => b.setRegN Reg.ABS0_FREQ (l.sum / l.length)
  let b := { b with tm := { b.tm with hoSince := b.clk, abs0Ahead := 0 } }
  ((b.fset F.ABS0_STAT_HO_PHASE 0).fset F.ABS0_STAT_HOLDING 0).absEnter absHoldover

/-- DPHASE and DFREQ; `other` is the angle of the other input at the zero crossing of `vs` (R76). Which input is the later
one the rule does not say: the differences follow every crossing of either. Log: 149 (DESIGN CHOICE). -/
def Block.vsCompare (b : Block) (vs other : Nat) : Block :=
  if b.fgetB F.ABS0_STAT_VS1_OK && b.fgetB F.ABS0_STAT_VS2_OK then
    let here := b.regN (Reg.ABS0_OFS (vs + 1))
    let there := other + b.regN (Reg.ABS0_OFS (2 - vs))
    let d : Int := if vs = 1 then (here : Int) - there else (there : Int) - here
    let f (k : Nat) : Int := ((nth 0 (nth [] b.tm.cycles k) 0 : Nat) : Int)
    (b.setRegI Reg.ABS_VS_DPHASE d).setRegI Reg.ABS_VS_DFREQ (f 1 - f 0)
  else (b.setRegN Reg.ABS_VS_DPHASE 0).setRegN Reg.ABS_VS_DFREQ 0

/-- VS_ZERO_CROSSING: rms over the last cycle, the interval of the last two crossings, and the other input's angle.
Log: 60 (DEDUCED), 61 (DEDUCED), 149 (DESIGN CHOICE). -/
def execVsZeroCrossing (vs : Fin 2) (rmsMv : Nat) (periodNs : Nat) (otherAngle : Word) (s : State) :
    Host.Outcome State Fault Refusal := lift (fun b =>
  let v := vs.val
  let b := b.setRegN (Reg.ABS_VS_RMS (v + 1)) rmsMv
  let good := decide (70000 ≤ rmsMv ∧ rmsMv ≤ 140000 ∧ 15380000 ≤ periodNs ∧ periodNs ≤ 22220000)
  let since := nth none b.tm.validSince v
  let b := b.fsetB (vsOk v) good
  if !good then
    { b with tm := { b.tm with validSince := setNth b.tm.validSince v none } }.vsCompare v otherAngle.toNat
  else
    let freq := (10 ^ 15 + periodNs / 2) / periodNs
    let b := { b with tm := { b.tm with
      validSince := setNth b.tm.validSince v (some (since.getD b.clk))
      cycles := setNth b.tm.cycles v ((freq :: nth [] b.tm.cycles v).take 4) } }
    let b := b.vsCompare v otherAngle.toNat
    let b := b.absSeek
    if b.absState = absLocked ∧ b.fget F.ABS0_STAT_IN_USE = v then
      let b := b.setRegN Reg.ABS0_FREQ freq
      let e := angleErr (b.regN (Reg.ABS0_OFS (v + 1))) (b.absPos false)
      if b.fgetB F.ABS0_STAT_HOLDING then b
      else if e ≤ 0 then b.aheadBy e.natAbs
      else (b.setPos false ((b.absPos false : Int) + e)).aheadBy 0
    else b) s

/-- VS_INPUT_LOST: `other` is the angle of the other input, none where it too is lost within these 30 ms.
Log: 62 (DEDUCED). -/
def execVsInputLost (vs : Fin 2) (other : Option Word) (s : State) : Host.Outcome State Fault Refusal := lift (fun b =>
  let v := vs.val
  let o := 1 - v
  let st := b.absState
  let used := (st == absLocked && b.fget F.ABS0_STAT_IN_USE == v) || (st == absAcquire && b.tm.acqInput == v)
  let b := (b.fset (vsOk v) 0).raiseEvt 0x02 (4 + v)
  if nth none b.tm.validSince v = none ∧ !used then b
  else
    let b := { b with tm := { b.tm with validSince := setNth b.tm.validSince v none } }
    let b := (b.setRegN Reg.ABS_VS_DPHASE 0).setRegN Reg.ABS_VS_DFREQ 0
    if st = absAcquire ∧ b.tm.acqInput = v then
      (b.absEnter (if b.tm.acqFromHoldover then absHoldover else absFree)).absSeek
    else if st = absLocked ∧ b.fget F.ABS0_STAT_IN_USE = v then
      let ready := b.fget F.ABS0_CFG_SRC == 2 && b.fgetB (vsOk o) && match nth none b.tm.validSince o with
        | some t => decide (t + 1000000 * b.fget F.ABS0_RELOCK_QUAL ≤ b.clk)
        | none => false
      match ready, other with
      | true, some a =>
        let b := (b.fset F.ABS0_STAT_IN_USE o).event 0x02 3 [Reg.ABS0_STAT]
        let b := b.setRegN Reg.ABS0_FREQ (nth 0 (nth [] b.tm.cycles o) 0)
        b.realign false (angleErr (a.toNat + b.regN (Reg.ABS0_OFS (o + 1))) (b.absPos false)) b.absLimit
      | _, _ => (b.absHold v).absSeek
    else b) s

/-- ABS0 takes input `v` into use: its frequency, and the angle error to be worked off. -/
def Block.absLock (b : Block) (v angle : Nat) : Block :=
  let b := ((b.fset F.ABS0_STAT_IN_USE v).fset F.ABS0_STAT_HO_PHASE 0).setRegN Reg.ABS0_FREQ (nth 0 (nth [] b.tm.cycles v) 0)
  b.realign false (angleErr (angle + b.regN (Reg.ABS0_OFS (v + 1))) (b.absPos false)) b.absLimit

/-- The qualifying input has been valid without break for QUAL (R72). -/
def Block.qualified (b : Block) : Bool :=
  b.fgetB (vsOk b.tm.acqInput) && match nth none b.tm.validSince b.tm.acqInput with
    | some t => decide (t + 1000000 * b.fget F.ABS0_RELOCK_QUAL ≤ b.clk)
    | none => false

/-- ABS0_QUAL_COMPLETE: `angle` is the fundamental angle of the qualifying input at this instant. -/
def execAbs0QualComplete (angle : Word) (s : State) : Host.Outcome State Fault Refusal := lift (fun b =>
  if b.absState = absAcquire ∧ b.qualified then (b.absLock b.tm.acqInput angle.toNat).absEnter absLocked else b) s

/-- The reference of a held base has reached its position: ABS0 has waited out what it was ahead, the counts of ABS1 have
come up to the angle shown (R69). -/
def Block.holdOver (b : Block) (abs1 : Bool) : Bool :=
  if abs1 then decide (toSigned 64 (b.absPos true) ≤ b.counted) else b.tm.abs0Ahead == 0

/-- ABS_HOLD_END: base 0 is ABS0, 1 ABS1. -/
def execAbsHoldEnd (base : Fin 2) (s : State) : Host.Outcome State Fault Refusal := lift (fun b =>
  b.when (b.holdOver (base.val == 1)) fun b =>
    b.fset (if base.val = 0 then F.ABS0_STAT_HOLDING else F.ABS1_STAT_HOLDING) 0) s

/-- ABS0 runs free from a lost lock: in HOLDOVER, or in ACQUIRE as before it. -/
def Block.absDrifts (b : Block) : Bool :=
  b.absState == absHoldover || (b.absState == absAcquire && b.tm.acqFromHoldover)

/-- ABS0_HOLDOVER_RAMP: 2 s after entry to HOLDOVER the frequency begins to change (R73). -/
def execAbs0HoldoverRamp (s : State) : Host.Outcome State Fault Refusal := lift (fun b =>
  if b.absDrifts ∧ b.fget F.ABS0_STAT_HO_PHASE = 0 ∧ b.tm.hoSince + 2000000000 ≤ b.clk then
    b.fset F.ABS0_STAT_HO_PHASE 1
  else b) s

/-- ABS0_HOLDOVER_AT_NOM: the frequency has come to NOM and stays there (R73). -/
def execAbs0HoldoverAtNom (s : State) : Host.Outcome State Fault Refusal := lift (fun b =>
  if b.absDrifts ∧ b.fget F.ABS0_STAT_HO_PHASE = 1 ∧ b.regN Reg.ABS0_FREQ = b.absNom then
    b.fset F.ABS0_STAT_HO_PHASE 2
  else b) s

/-- A changed ABS0_CFG takes effect: NONE runs at NOM; a lock on an input that SRC no longer names is lost.
Log: 64 (DEDUCED). -/
def Block.absCfgWritten (b : Block) : Block :=
  if b.fget F.ABS0_CFG_SRC = 3 then
    (((b.aheadBy 0).fset F.ABS0_STAT_HOLDING 0).setRegN Reg.ABS0_FREQ b.absNom).absEnter absFree
  else
    let b := b.when (b.absState == absFree) fun b => b.setRegN Reg.ABS0_FREQ b.absNom
    let b := if b.absState = absLocked ∧ !b.vsEligible (b.fget F.ABS0_STAT_IN_USE) then
        b.absHold (b.fget F.ABS0_STAT_IN_USE)
      else if b.absState = absAcquire ∧ !b.vsEligible b.tm.acqInput then
        b.absEnter (if b.tm.acqFromHoldover then absHoldover else absFree)
      else b
    b.absSeek

/-! ### ABS1 (R77 to R79) -/

def shaftOff : Nat := 0
def shaftSearch : Nat := 1
def shaftSynced : Nat := 2
def shaftLost : Nat := 3

def Block.shaftState (b : Block) : Nat := b.fget F.ABS1_STAT_STATE
def Block.shaftMode (b : Block) : Nat := b.fget F.ABS1_CFG_MODE

/-- The position follows the counts, unless a hold keeps it. -/
def Block.shaftFollow (b : Block) (p : Int) : Block :=
  if b.fgetB F.ABS1_STAT_HOLDING then b
  else { b.setPos true p with tm := { b.tm with highest := if b.tm.highest < p then p else b.tm.highest } }

/-- ABS1 enters SYNCED or SYNC_LOST. -/
def Block.shaftEnter (b : Block) (st : Nat) : Block :=
  if b.shaftState = st then b
  else (b.fset F.ABS1_STAT_STATE st).event 0x02 (if st = shaftSynced then 6 else 7) [Reg.ABS1_STAT, Reg.ABS1_SPEED]

/-- A fault of the counting while SYNCED (R78). -/
def Block.syncLost (b : Block) : Block :=
  if b.shaftState = shaftSynced then
    { b with tm := { b.tm with goodIndices := 0 } }.shaftEnter shaftLost
  else b

/-- ABS1_COUNT_EDGE: the direction of the signals' phase and the time since the last edge. Log: 63 (DEDUCED). -/
def execAbs1CountEdge (backward : Bool) (intervalNs : Nat) (s : State) : Host.Outcome State Fault Refusal := lift (fun b =>
  let mode := b.shaftMode
  if mode = 0 ∨ b.shaftState = shaftOff then b
  else
    let wheel := mode == 2
    let back := !wheel && (backward != b.fgetB F.ABS1_CFG_DIR_INV)
    let missing := b.fget F.ABS1_CFG_MISSING
    let gap := wheel && decide (0 < b.tm.lastInterval ∧
      b.fget F.ABS1_CFG_GAP_RATIO * b.tm.lastInterval < 8 * intervalNs)
    let placed := b.shaftState == shaftSearch || b.tm.count + missing + 1 == (b.shaftCpr : Int)
    let n : Nat := if gap && placed then missing + 1 else 1
    let count := b.tm.count + (if back then -1 else (n : Int))
    let b := b.when (back && !b.fgetB F.ABS1_STAT_REVERSE) fun b => b.raiseEvt 0x02 9
    let b := ((b.fsetB F.ABS1_STAT_REVERSE back).fset F.ABS1_STAT_STOPPED 0).when (decide (125 ≤ intervalNs))
      fun b => b.fset F.ABS1_STAT_OVERSPEED 0
    let speed : Int := (65536 * 1000000000 * n : Nat) / (Nat.max 1 (intervalNs * b.shaftCpr) : Nat)
    let b := b.setRegI Reg.ABS1_SPEED (clampI (2 ^ 31 - 1) (if back then -speed else speed))
    let b := { b with tm := { b.tm with count := count, lastInterval := intervalNs / n, sinceEdge := 0, gapSeen := gap } }.timed .edge
    let b := b.shaftFollow b.counted
    if (gap && !placed) || decide (3 * b.shaftCpr < 2 * count.natAbs) then b.syncLost else b) s

/-- The next targets of the contexts on ABS1 lie after its position (R124). -/
def Block.aimShaft (b : Block) : Block :=
  b.forAll (b.abcCtxs.filter fun c => b.trigOf c == 3) fun b c =>
    b.modCx c fun x => { x with target := b.targetAfter c (b.absPos true) }

/-- The first index sets the angle: targets set from the relative counts of SEARCH are set anew. -/
def Block.indexFirst (b : Block) (ofs : Nat) : Block :=
  let b := (b.fset F.ABS1_STAT_HOLDING 0).setPos true ofs
  { b with tm := { b.tm with count := 0, countBase := ofs, highest := ofs, sinceEdge := 0 } }.aimShaft

/-- The error of the counted position at an index. -/
def Block.indexErr (b : Block) (here : Int) : Int := angleErr (b.regN Reg.ABS1_IDX_OFS) (ofInt 32 here)

/-- An error at an index is counted and worked off; `e` is what the shown position lacks. -/
def Block.indexAlign (b : Block) (e : Int) : Block :=
  ((b.incSat F.ABS1_IDX_ERR_CNT_COUNT).realign true e (2 ^ 31)).when (e == 0) fun b => b.fset F.ABS1_STAT_HOLDING 0

/-- Consecutive indices within 2 counts. -/
def Block.goodIndices (b : Block) (n : Nat) : Block := { b with tm := { b.tm with goodIndices := n } }

/-- What the error of an index, in counts, does to SYNCED and SYNC_LOST. -/
def Block.indexJudge (b : Block) (counts good : Nat) : Block :=
  if 2 < counts then (if b.shaftState = shaftSynced then b.syncLost else b.goodIndices 0)
  else if b.shaftState = shaftLost then
    (b.goodIndices good).when (decide (2 ≤ good)) fun b => b.shaftEnter shaftSynced
  else b

/-- An index after the first: the count begins again at the angle of the index. -/
def Block.indexNext (b : Block) (here err : Int) : Block :=
  let b := { b with tm := { b.tm with count := 0, countBase := here + err } }
  (b.when (err != 0) fun b => b.indexAlign (here + err - toSigned 64 (b.absPos true))).indexJudge
    ((2 * err.natAbs * b.shaftCpr + 2 ^ 32) / 2 ^ 33) (b.tm.goodIndices + 1)

/-- ABS1_INDEX: on a tooth wheel the first tooth after a gap (R77). Log: 63 (DEDUCED). -/
def execAbs1Index (s : State) : Host.Outcome State Fault Refusal := lift (fun b =>
  if b.shaftMode = 0 ∨ b.shaftState = shaftOff ∨ (b.shaftMode = 2 ∧ !b.tm.gapSeen) then b
  else if b.shaftState = shaftSearch then (b.indexFirst (b.regN Reg.ABS1_IDX_OFS)).shaftEnter shaftSynced
  else b.indexNext b.counted (b.indexErr b.counted)) s

/-- ABS1_STOPPED: no edge for STOP_TIME. -/
def execAbs1Stopped (s : State) : Host.Outcome State Fault Refusal := lift (fun b =>
  if b.shaftMode = 0 ∨ b.fgetB F.ABS1_STAT_STOPPED ∨ !b.periodic .edge (1000000 * b.fget F.ABS1_CFG_STOP_TIME) then b
  else ((b.fset F.ABS1_STAT_STOPPED 1).setRegN Reg.ABS1_SPEED 0).raiseEvt 0x02 8) s

/-- ABS1_OVERSPEED. -/
def execAbs1Overspeed (s : State) : Host.Outcome State Fault Refusal := lift (fun b =>
  if b.shaftMode = 0 ∨ b.fgetB F.ABS1_STAT_OVERSPEED then b
  else ((b.fset F.ABS1_STAT_OVERSPEED 1).raiseEvt 0x02 10).syncLost) s

/-- MODE of ABS1 was written: off ends the counting, any other starts in SEARCH. Log: 64 (DEDUCED). -/
def Block.shaftCfgWritten (b : Block) (old : Nat) : Block :=
  let m := b.shaftMode
  if m = old then b
  else
    let b := { b with tm := { b.tm with count := 0, lastInterval := 0, sinceEdge := 0, goodIndices := 0 } }
    let b := ((b.setRegN Reg.ABS1_SPEED 0).setRegN Reg.ABS1_STAT 0).fset F.ABS1_STAT_STATE
      (if m = 0 then shaftOff else shaftSearch)
    b.recRegs 0x02 0xFF [Reg.ABS1_STAT] []

/-! ### The TSU (R80 to R83, R481) -/

/-- Parts of a nanosecond in which the model keeps the TSU's fraction: 2^-16 ns times 10^-9. -/
def nsParts : Int := 65536000000000

/-- A TIME_MARK; the hour that a SET or a step has just marked gets none of its own (R86). -/
def Block.tsuMark (b : Block) (cause : Nat) : Block :=
  if cause = 0 ∧ b.tm.lastMark = some b.now then b
  else { b.timeMark cause with tm := { b.tm with lastMark := some b.now } }

/-- A TSU target after a step of `d` ns. -/
def moved (t : Nat) (d : Int) : Nat := ((t : Int) + d).toNat

/-- The TSU steps by `d` ns: every pending target moves with it, the energy window ends (R82, R146).
Log: 70 (DEDUCED). -/
def Block.tsuStep (b : Block) (d : Int) (cause : Nat) : Block :=
  let b := b.windowEnd
  let b := (b.setNow (moved b.now d)).fset F.TSU_STAT_SLEWING 0
  let b := { b with
    tm := { b.tm with slewLeft := 0 }
    sched := { b.sched with windowStart := b.now, engines := b.sched.engines.map fun (e : Nat × EngState) =>
      (e.1, { e.2 with availFrom := e.2.availFrom.map fun t => moved t d }) }
    frc := { b.frc with agreed := b.frc.agreed.map fun (a : FrcCmd × Nat) => (a.1, moved a.2 d) }
    olc := { b.olc with switchAt := b.olc.switchAt.map fun t => moved t d }
    ssp := { b.ssp with sessions := b.ssp.sessions.map fun (s : Session) =>
      { s with pubs := s.pubs.map fun (p : Nat × Nat) => (p.1, moved p.2 d) } }
    lnk := { b.lnk with
      segs := b.lnk.segs.map fun (e : Nat × LnkSeg) =>
        (e.1, { e.2 with step := true, stepCycle := true, nextT := moved e.2.nextT d, endT := moved e.2.endT d, t0 := if e.2.t0 = 0 then 0 else moved e.2.t0 d })
      stations := b.lnk.stations.map fun (e : Nat × LnkSt) =>
        (e.1, { e.2 with departs := e.2.departs.map fun (p : Nat × Nat) => (p.1, moved p.2 d),
                         cfgSent := if e.2.cfgSent = 0 then 0 else Nat.max 1 (moved e.2.cfgSent d) }) } }
  let b := { b with ctxs := b.ctxs.map fun (e : Nat × Cx) => (e.1, { e.2 with
    target := if b.trigOf e.1 = 1 then moved e.2.target d else e.2.target
    trigTarget := if b.trigOf e.1 = 1 then moved e.2.trigTarget d else e.2.trigTarget
    heldUntil := if e.2.heldUntil = 0 then 0 else moved e.2.heldUntil d
    activeFrom := moved e.2.activeFrom d }) }
  let b := b.forAll ((upto 4).filter fun k => b.fgetB (F.TSU_CMP_CTL_EN k)) fun b k =>
    let t := moved (b.regN (Reg.TSU_CMP_HI k) * 1000000000 + b.regN (Reg.TSU_CMP_LO k)) d
    (b.setRegN (Reg.TSU_CMP_LO k) (t % 1000000000)).setRegN (Reg.TSU_CMP_HI k) (low 32 (t / 1000000000))
  let b := { b with can := b.can.map fun (e : Nat × CanPort) =>
    (e.1, { e.2 with aims := e.2.aims.map fun (a : Nat × Nat) => (a.1, moved a.2 d) }) }
  let b := b.solStepTime d
  let b := b.raiseEvt 0x03 2
  let b := b.when (b.tsuState == tsuLocked) fun b => b.tsuEnter tsuLocking
  (b.recRegs 0x03 2 [Reg.TSU_STAT, Reg.TSU_OFFSET] [ofInt 32 d]).tsuMark cause

/-- What a step leaves below a nanosecond joins the fraction of the TSU, in 2^-16 ns (R80). -/
def Block.subStep (b : Block) (part : Int) : Block :=
  { b with tm := { b.tm with tsuFrac := b.tm.tsuFrac + part * 1000000000 } }

/-- Correct an offset in 2^-16 ns: a step beyond STEP_LIM where it is allowed, else a slew that replaces any other (R82). -/
def Block.tsuCorrect (b : Block) (offset : Int) (cause : Nat) : Block :=
  let lim := 65536000 * b.fget F.TSU_CFG_STEP_LIM
  if lim ≠ 0 ∧ lim < offset.natAbs ∧ (!b.running ∨ b.fgetB F.TSU_CFG_STEP_RUN) then
    (b.tsuStep (offset / 65536) cause).subStep (offset % 65536)
  else { b with tm := { b.tm with slewLeft := offset * 1000000000 } }.fsetB F.TSU_STAT_SLEWING (offset != 0)

/-- An update of a source: its offset (source minus TSU) in 2^-16 ns and the servo's rate in 2^-16 ppb. While a SET waits
for the PPS edge no other source is taken up (R87). Log: 150 (DEDUCED). -/
def Block.tsuUpdate (b : Block) (src : TimeSource) (offset rate : Int) : Block :=
  let b := b.setAvailSrc src true
  if b.srcChosen ≠ some src ∨ (b.tm.setPending ∧ b.tm.ppsAvail ∧ src ≠ .pps) then b
  else
    let b := b.setSrc (srcCode src)
    let b := b.when (b.tsuState == tsuFree || b.tsuState == tsuHoldover) fun b => b.tsuEnter tsuLocking
    let b := b.setRegI Reg.TSU_OFFSET (clampI (2 ^ 31 - 1) (offset / 65536))
    let r := clampI (32000 * 65536) rate
    let b := (b.setRegI Reg.TSU_RATE r).when true fun b => { b with tm := { b.tm with rates := (r :: b.tm.rates).take 16 } }
    let b := b.tsuCorrect offset 2
    let w := if offset.natAbs ≤ 65536000 then b.tm.within + 1 else 0
    let y := if 655360000 < offset.natAbs then b.tm.beyond + 1 else 0
    let b := { b with tm := { b.tm with within := w, beyond := y } }
    if b.tsuState = tsuLocking ∧ 8 ≤ w then b.tsuEnter tsuLocked
    else if b.tsuState = tsuLocked ∧ 4 ≤ y then b.tsuEnter tsuLocking
    else b

/-- TSU_CFG was written: NONE runs free at TSU_TRIM; a source no longer selected is lost. Log: 64 (DEDUCED). -/
def Block.tsuCfgWritten (b : Block) : Block :=
  let act := b.fget F.TSU_STAT_SRC_ACT
  let src := b.fget F.TSU_CFG_SRC
  if src = 0 then
    let b := { b with tm := { b.tm with slewLeft := 0, rates := [] } }.fset F.TSU_STAT_SLEWING 0
    ((b.setRegN Reg.TSU_RATE (b.regN Reg.TSU_TRIM)).setSrc 0).tsuEnter tsuFree
  else if act = 0 ∨ src = 4 ∨ src = act then b
  else b.tsuHold

/-- A second LOCKED counts into the hour's mean rate. -/
def Block.lockedSecond (b : Block) : Block :=
  { b with tm := { b.tm with lockedSum := b.tm.lockedSum + b.regI Reg.TSU_RATE, lockedSecs := b.tm.lockedSecs + 1 } }

/-- The carry takes its nanosecond from the fraction. -/
def Block.fracCarry (b : Block) : Block := { b with tm := { b.tm with tsuFrac := b.tm.tsuFrac - nsParts } }

/-- The test-pulse frame: it begins at TSU instants that are whole multiples of 32 ms, and each of its 64 slots lasts
500 µs (R245); `before` is the TSU time at the clock before. Log: 32 (DEDUCED). -/
def Block.frameTick (b : Block) (before : Nat) : Block :=
  let b := b.when (decide (before / 32000000 < b.now / 32000000)) fun b => b.incWrap F.CHG_TP_FRAMES
  b.fset F.CHG_TP_SLOT (b.now % 32000000 / 500000)

/-- TSU_SECOND: the count after 999 999 999 ns is 0, and the seconds advance with their carry. Log: 67 (DEDUCED). -/
def execTsuSecond (s : State) : Host.Outcome State Fault Refusal := lift (fun b =>
  if b.tsuNs ≠ 999999999 then b
  else
    let b := ((b.setNow ((b.tsuSec + 1) * 1000000000)).frameTick b.now).fracCarry.raiseEvt 0x03 6
    if b.tsuState = tsuLocked then b.lockedSecond else b) s

/-! ### Captures (R84) -/

/-- The TSU's fraction in 2^-16 ns (R80). -/
def Block.tsuSub (b : Block) : Nat := low 16 (b.tm.tsuFrac / 1000000000 % 65536).toNat

/-- A capture unit stamps an event; with `sub` it keeps the fraction too. -/
def Block.capture (b : Block) (k : Nat) (sub : Bool) : Block :=
  let b := b.fsetB (F.TSU_CAP_CFG_OVR k) (b.fgetB (F.TSU_CAP_CFG_NEW k) || b.fgetB (F.TSU_CAP_CFG_OVR k))
  let b := (b.fset (F.TSU_CAP_CFG_NEW k) 1).stamp (Reg.TSU_CAP_LO k) (Reg.TSU_CAP_HI k)
  (b.fset (F.TSU_CAP_FRAC_FRAC k) (if k = 0 ∧ sub then b.tsuSub else 0)).raiseEvt 0x03 (8 + k)

/-- TSU_CAPTURE: the event of unit k's SRC occurs; a PPS edge or an ABS1 index leaves the fraction too. -/
def execTsuCapture (k : Fin 4) (s : State) : Host.Outcome State Fault Refusal := lift (fun b =>
  let src := b.fget (F.TSU_CAP_CFG_SRC k.val)
  if src = 0 ∨ src = 7 ∨ ((src = 1 ∨ src = 2) ∧ k.val ≠ 0) then b
  else b.capture k.val (src == 1 || src == 2)) s

/-- CMD_DONE with its code (R88, R89). -/
def Block.tsuDone (b : Block) (code : Nat) : Block :=
  ((b.fset F.TSU_STAT_CMD_RES code).fset F.TSU_STAT_CMD_BUSY 0).raiseEvt 0x03 5

/-- A SET that waits for the PPS edge sets the seconds only. -/
def Block.ppsSet (b : Block) : Block :=
  if !b.tm.setPending then b
  else
    let sec : Nat := (b.now + 500000000) / 1000000000
    let want : Nat := sec / 2 ^ 32 * 2 ^ 32 + b.regN Reg.TSU_SET_HI
    let b := { b with tm := { b.tm with setPending := false } }
    let b := if want = sec then b.tsuMark 1 else b.tsuStep (((want : Int) - sec) * 1000000000) 1
    (b.fset F.TSU_STAT_TIME_VALID 1).tsuDone 0

/-- The offset at a PPS edge in 2^-16 ns: the edge marks the nearest second. -/
def Block.ppsOffset (b : Block) : Int :=
  let at_ : Int := 65536 * b.tsuNs + b.tsuSub
  if b.tsuNs < 500000000 then -at_ else 65536000000000 - at_

/-- PPS_EDGE: `rate` is the servo's. Below 500 000 000 ns the offset is negative, else positive. A SET that waits for the
edge is performed at it; the capture carries the time after a step at the edge (R87).
Log: 150 (DEDUCED), 151 (DESIGN CHOICE). -/
def execPpsEdge (rate : Int) (s : State) : Host.Outcome State Fault Refusal := lift (fun b =>
  let used := b.fget F.TSU_STAT_SRC_ACT == 2
  let b := b.ppsSet
  (b.tsuUpdate .pps b.ppsOffset rate).when (used || b.fget (F.TSU_CAP_CFG_SRC 0) == 1) fun b => b.capture 0 true) s

/-- TSU_SOURCE_UPDATE. Log: 68 (DEDUCED). -/
def execTsuSourceUpdate (src : TimeSource) (offsetNs rate : Int) (s : State) : Host.Outcome State Fault Refusal := lift (fun b =>
  b.tsuUpdate src (65536 * offsetNs) rate) s

/-- TSU_SOURCE_LOST. -/
def execTsuSourceLost (src : TimeSource) (s : State) : Host.Outcome State Fault Refusal := lift (fun b => b.tsuLost src) s

/-- TSU_SLEW_COMPLETE: the clock has removed the whole offset. Log: 66 (DEDUCED). -/
def execTsuSlewComplete (s : State) : Host.Outcome State Fault Refusal := lift (fun b =>
  if b.fgetB F.TSU_STAT_SLEWING ∧ b.tm.slewLeft = 0 then (b.fset F.TSU_STAT_SLEWING 0).raiseEvt 0x03 3 else b) s

/-! ### Commands (R88) -/

/-- PPS is the source: the one in use, or the one that TSU_CFG.SRC names (R88). -/
def Block.ppsSource (b : Block) : Bool := b.fget F.TSU_STAT_SRC_ACT == 2 || b.fget F.TSU_CFG_SRC == 2

/-- The code of SET; 0 where it is performed. -/
def Block.setCode (b : Block) : Nat :=
  let act := b.fget F.TSU_STAT_SRC_ACT
  let follows := b.tsuState == tsuLocking || b.tsuState == tsuLocked
  let ns := b.regN Reg.TSU_SET_LO
  if follows && (act == 1 || act == 3) then 2
  else if b.running && !b.fgetB F.TSU_CFG_STEP_RUN then 3
  else if 1000000000 ≤ ns ∨ (b.ppsSource ∧ ns ≠ 0) then 4
  else 0

/-- The code of ADJ. -/
def Block.adjCode (b : Block) : Nat :=
  let follows := b.tsuState == tsuLocking || b.tsuState == tsuLocked
  if follows && b.fget F.TSU_STAT_SRC_ACT != 0 then 2 else 0

/-- A command written to TSU_CMD. Log: 65 (DEDUCED). -/
def Block.tsuCommand (b : Block) (cmd : Nat) : Block :=
  let b := b.fset F.TSU_CMD_CMD 0
  if cmd = 0 then b
  else if b.fgetB F.TSU_STAT_CMD_BUSY || b.fgetB F.TSU_STAT_SLEWING then b.fset F.TSU_STAT_CMD_RES 1
  else if cmd = 1 then
    if b.setCode ≠ 0 then b.tsuDone b.setCode
    else if b.ppsSource then
      { b with tm := { b.tm with setPending := true } }.fset F.TSU_STAT_CMD_BUSY 1
    else
      let want : Nat := (b.regN Reg.TSU_EPOCH * 2 ^ 32 + b.regN Reg.TSU_SET_HI) * 1000000000 + b.regN Reg.TSU_SET_LO
      ((b.tsuStep ((want : Int) - b.now) 1).fset F.TSU_STAT_TIME_VALID 1).tsuDone 0
  else if b.adjCode ≠ 0 then b.tsuDone b.adjCode
  else (b.tsuCorrect (65536 * b.regI Reg.TSU_ADJ) 2).tsuDone 0

/-- A write of TSU_CMD. -/
def Block.tsuCmdWrite (b : Block) (r : Requester) (v : Nat) : Block :=
  b.cmdWrite r Reg.TSU_CMD v [] fun b => b.tsuCommand (bits v 0 2)

/-- TSU_SET. -/
def execTsuSet (r : Requester) (s : State) : Host.Outcome State Fault Refusal := lift (fun b => b.tsuCmdWrite r 1) s

/-- TSU_ADJ. -/
def execTsuAdj (r : Requester) (s : State) : Host.Outcome State Fault Refusal := lift (fun b => b.tsuCmdWrite r 2) s

/-! ### The calendar clock (R45, R86) -/

/-- Calendar time in ns since its epoch. -/
def Block.rtcNow (b : Block) : Nat :=
  (b.regN Reg.RTC_EPOCH * 2 ^ 32 + b.regN Reg.RTC_TIME_HI) * 1000000000 + b.regN Reg.RTC_TIME_LO * 1000000000 / 32768

/-- Set the calendar clock. -/
def Block.setRtc (b : Block) (sec subsec : Nat) : Block :=
  let b := ((b.setRegN Reg.RTC_TIME_LO subsec).setRegN Reg.RTC_TIME_HI (low 32 sec)).setRegN Reg.RTC_EPOCH (low 32 (sec / 2 ^ 32))
  { b with tm := { b.tm with rtcFrac := 0 } }

/-- The calendar clock, which runs from then on, and the trim from a LOCKED hour. -/
def Block.hourLocked (b : Block) : Block :=
  let b := { b with tm := { b.tm with rtcRuns := true } }
  let b := b.setRegI Reg.RTC_DRIFT (clampI (2 ^ 31 - 1) (((b.rtcNow : Int) - b.now) / 1000))
  (((b.setRtc b.tsuSec (b.tsuNs * 32768 / 1000000000)).fset F.RTC_STAT_VALID 1).when (b.tm.lockedSecs != 0) fun b =>
    (b.setRegI Reg.TSU_TRIM (b.tm.lockedSum / (b.tm.lockedSecs : Int))).celRequest .tsuTrim).raiseEvt 0x04 0

/-- The hour's mean begins anew. -/
def Block.hourAnew (b : Block) : Block := { b with tm := { b.tm with lockedSum := 0, lockedSecs := 0 } }

/-- The hour ends. -/
def Block.hourMark (b : Block) : Block := ((b.tsuMark 0).when (b.tsuState == tsuLocked) Block.hourLocked).hourAnew

/-- HOURLY_TIME_MARK. Log: 68 (DEDUCED). -/
def execHourlyTimeMark (s : State) : Host.Outcome State Fault Refusal := lift (fun b =>
  b.when (b.tsuSec % 3600 == 0) Block.hourMark) s

/-- A value written to RTC_CMD. RTC_SET_LO holds only its defined bits (R6), so no write of it leads to code 4.
Log: 152 (DEDUCED). -/
def Block.rtcCommand (b : Block) (v : Nat) : Block :=
  let b := b.fset F.RTC_CMD_SET 0
  if v % 2 = 0 then b
  else
    let sub := b.regN Reg.RTC_SET_LO
    if 32768 ≤ sub then b.fset F.RTC_STAT_CMD_RES 4
    else
      let b := b.setRtc (b.regN Reg.RTC_EPOCH * 2 ^ 32 + b.regN Reg.RTC_SET_HI) sub
      let b := { b with tm := { b.tm with rtcRuns := true } }
      (((b.fset F.RTC_STAT_VALID 1).fset F.RTC_STAT_CMD_RES 0).raiseEvt 0x04 1).tsuMark 3

/-- A write of RTC_CMD. -/
def Block.rtcCmdWrite (b : Block) (r : Requester) (v : Nat) : Block := b.cmdWrite r Reg.RTC_CMD v [] fun b => b.rtcCommand v

/-- RTC_SET. -/
def execRtcSet (r : Requester) (s : State) : Host.Outcome State Fault Refusal := lift (fun b => b.rtcCmdWrite r 1) s

/-- COIN_CELL_LOW: the cell's voltage as it crosses 2.5 V or 1.0 V, and that of the supercapacitor; below 2.0 V of the
latter the calendar clock draws from the cell, where there is one (R45). Log: 153 (DEDUCED). -/
def execCoinCellLow (coinMv capMv : Nat) (s : State) : Host.Outcome State Fault Refusal := lift (fun b =>
  let was := b.fgetB F.RTC_STAT_COIN_LOW
  let b := (b.fsetB F.RTC_STAT_COIN_LOW (decide (coinMv < 2500))).fsetB F.RTC_STAT_COIN_ABSENT (decide (coinMv < 1000))
  let b := (b.fset F.RTC_STAT_SUPCAP (Nat.min capMv 4095)).fsetB F.RTC_STAT_ON_COIN (decide (capMv < 2000 ∧ 1000 ≤ coinMv))
  b.when (decide (coinMv < 2500) && !was) fun b => b.raiseEvt 0x04 2) s

/-- RTC_BACKUP_EXHAUSTED: the oscillator stops. -/
def execRtcBackupExhausted (s : State) : Host.Outcome State Fault Refusal := lift (fun b =>
  { b with tm := { b.tm with rtcRuns := false } }.fset F.RTC_STAT_VALID 0) s

/-! ### Compare units (R85) -/

/-- A TSU time of seconds [31:0] and nanoseconds has been reached (R68). Log: 179 (DESIGN CHOICE). -/
def Block.timeReached (b : Block) (sec ns : Nat) : Bool :=
  let d := (low 32 b.tsuSec + 2 ^ 32 - sec) % 2 ^ 32
  decide (d < 2 ^ 31) && (d != 0 || decide (ns ≤ b.tsuNs))

/-- The target of a TSU compare unit has been reached. -/
def Block.tsuCmpDue (b : Block) (j : Nat) : Bool :=
  b.fgetB (F.TSU_CMP_CTL_EN j) && b.timeReached (b.regN (Reg.TSU_CMP_HI j)) (b.regN (Reg.TSU_CMP_LO j))

/-- COMPARE_FIRE: an armed unit whose target is reached. Units 0 and 1 are ABS_CMP0 and 1, units 2 to 5 TSU_CMP0 to 3. -/
def execCompareFire (k : Fin 6) (s : State) : Host.Outcome State Fault Refusal := lift (fun b =>
  let n := k.val
  if n < 2 then
    b.when (b.absCmpDue n) fun b => b.absCompare n
  else
    let j := n - 2
    if !b.tsuCmpDue j then b
    else
      let b := b.raiseEvt 0x03 (12 + j)
      let period := b.regN (Reg.TSU_CMP_PERIOD j)
      if period = 0 then b.fset (F.TSU_CMP_CTL_EN j) 0
      else
        let t := b.regN (Reg.TSU_CMP_LO j) + period
        (b.setRegN (Reg.TSU_CMP_LO j) (t % 1000000000)).setRegN (Reg.TSU_CMP_HI j)
          (b.regN (Reg.TSU_CMP_HI j) + t / 1000000000)) s

/-! ### The fabric clock (R62) -/

/-- The module is powered: its reference and supervisor run. -/
def Block.powered (b : Block) : Bool :=
  b.pwr.phase == .good || b.pwr.phase == .ride || b.pwr.phase == .failing

/-- The TSU over 10 ns with rate and slew; it stops short of the second, which TSU_SECOND completes.
Log: 66 (DEDUCED), 67 (DEDUCED). -/
def Block.tsuTick (b : Block) : Block :=
  let rate := if b.tm.corrected then 10 * b.regI Reg.TSU_RATE else 0
  let slew := clampI (nsParts / 1000) b.tm.slewLeft
  let total := b.tm.tsuFrac + 10 * nsParts + rate + slew
  let ns := Nat.min (total / nsParts).toNat (999999999 - b.tsuNs)
  let b := { b with tm := { b.tm with tsuFrac := total - ns * nsParts, slewLeft := b.tm.slewLeft - slew } }
  b.setRegN Reg.TSU_TIME_LO (b.tsuNs + ns)

/-- One count of the calendar clock, 1/32 768 s. -/
def Block.rtcCount (b : Block) (sub : Nat) : Block :=
  b.setRtc (b.regN Reg.RTC_EPOCH * 2 ^ 32 + b.regN Reg.RTC_TIME_HI + sub / 32768) (sub % 32768)

/-- The calendar clock with `f` of its fraction passed. -/
def Block.rtcAdvance (b : Block) (f : Nat) : Block :=
  if f < 1000000000 then { b with tm := { b.tm with rtcFrac := f } }
  else { b.rtcCount (b.regN Reg.RTC_TIME_LO + 1) with tm := { b.tm with rtcFrac := f - 1000000000 } }

/-- The calendar clock over 10 ns. -/
def Block.rtcTick (b : Block) : Block :=
  if !b.tm.rtcRuns then b else b.rtcAdvance (b.tm.rtcFrac + 327680)

/-- The position with `f` of its fraction passed; what it is ahead of its reference it waits for (R72). -/
def Block.absAdvance (b : Block) (f : Nat) : Block :=
  let n := f / 10 ^ 14
  { b.setPos false ((b.absPos false : Int) + (n - b.tm.abs0Ahead : Nat)) with
    tm := { b.tm with abs0Frac := f % 10 ^ 14, abs0Ahead := b.tm.abs0Ahead - n } }

/-- The frequency one step nearer to the nominal. -/
def Block.freqStep (b : Block) (f : Nat) : Block :=
  b.setRegN Reg.ABS0_FREQ (if f < b.absNom then f + 1 else if b.absNom < f then f - 1 else f)

/-- The holdover ramp with `r` of its fraction passed. -/
def Block.rampAdvance (b : Block) (r : Nat) : Block :=
  if r < 200 then { b with tm := { b.tm with rampFrac := r } }
  else { b.freqStep (b.regN Reg.ABS0_FREQ) with tm := { b.tm with rampFrac := 0 } }

/-- The holdover ramp, while the base drifts in the phase that ramps. -/
def Block.absRamp (b : Block) : Block :=
  if b.absDrifts ∧ b.fget F.ABS0_STAT_HO_PHASE = 1 then b.rampAdvance (b.tm.rampFrac + 1) else b

/-- ABS0 over 10 ns: the position runs, in a hold once its reference has reached it; the HOLDOVER frequency moves to NOM
at 0.5 Hz/s. Log: 61 (DEDUCED). -/
def Block.absTick (b : Block) : Block := (b.absAdvance (b.tm.abs0Frac + b.regN Reg.ABS0_FREQ * 2 ^ 32)).absRamp

/-- ABS1 over 10 ns: the angle is interpolated short of the next count in the direction of rotation (R77). -/
def Block.shaftTick (b : Block) : Block :=
  let t := b.tm.lastInterval
  if t = 0 ∨ b.fgetB F.ABS1_STAT_STOPPED ∨ b.shaftState = shaftOff then b
  else
    let since := Nat.min (b.tm.sinceEdge + 10) (t - 1)
    let b := { b with tm := { b.tm with sinceEdge := since } }
    let d : Nat := 2 ^ 32 * since / (b.shaftCpr * t)
    let here := toSigned 64 (b.absPos true)
    if b.fgetB F.ABS1_STAT_REVERSE then
      if b.counted - d < here then b.shaftFollow (b.counted - d) else b
    else if here < b.counted + d then b.shaftFollow (b.counted + d) else b

/-- The patrol's age in seconds (R392). -/
def Block.patrolTick (b : Block) : Block :=
  let n := b.mem.ageNs + 10
  if n < 1000000000 then { b with mem := { b.mem with ageNs := n } }
  else ({ b with mem := { b.mem with ageNs := 0 } }.incSat F.MEM_PATROL_AGE)

/-- Seconds since the periodic tests last covered both island cores in full: when a coverage completes is open, but an hour
does not pass without one (R286, R295). Log: 171 (DESIGN CHOICE). -/
def Block.coverTick (b : Block) : Block :=
  if b.clk % 1000000000 ≠ 0 then b
  else
    let (v, b) := b.free
    let age := b.regN Reg.SAF_TEST_AGE + 1
    b.setRegN Reg.SAF_TEST_AGE (if v.getLsbD 0 || decide (3600 ≤ age) then 0 else age)

/-- Corrections of a DRAM device within the trailing 24 h (R391). -/
def Block.devWindow (b : Block) (d : Nat) : List (Nat × Nat) :=
  b.mem.window.filter fun (e : Nat × Nat) => e.1 == d && decide (b.clk < e.2 + 86400000000000)

/-- The windows of MEM_DEVk_CNT move on every second. -/
def Block.devTick (b : Block) : Block :=
  if b.clk % 1000000000 ≠ 0 then b
  else b.forAll (upto 10) fun b d => b.fset (F.MEM_DEV_CNT_WINDOW d) (Nat.min (b.devWindow d).length 65535)

/-- PAIR_RATE.RATE every 100 ms: the bytes that the messages of PAIR take are open. Log: 175 (DESIGN CHOICE). -/
def Block.rateTick (b : Block) : Block :=
  if b.clk % 100000000 ≠ 0 ∨ !b.fgetB F.PAIR_STAT_LINK then b
  else
    let (v, b) := b.free
    b.fset F.PAIR_RATE_RATE (low 16 v.toNat)

/-- Each unit sends a time message every 125 ms (R384). -/
def Block.pairTimeTick (b : Block) : Block :=
  if b.clk % 125000000 ≠ 0 ∨ !b.fgetB F.PAIR_STAT_LINK then b else b.send .pair "time" [b.tsuSec, b.tsuNs]

/-- 10 ns pass. -/
def Block.clkOn (b : Block) : Block := { b with clk := b.clk + 10 }

/-- OPTIME counts milliseconds. -/
def Block.milliTick (b : Block) : Block :=
  if b.clk % 1000000 == 0 then b.setPair Reg.EVR_OPTIME_LO ((b.optime + 1) % 2 ^ 48) else b

/-- A switch whose interval has ended is complete. -/
def Block.switchTick (b : Block) : Block :=
  if b.olcAt == olcSwitching && decide (b.olc.switchEnd ≤ b.clk) then b.olcSwitched else b

/-- The stages go off at the end of the interval that HALT leaves them. -/
def Block.haltTick (b : Block) : Block :=
  if b.modState == stHalt && !b.pwr.haltOff then { b with pwr := { b.pwr with haltOff := true } }.chRefreshAll else b

/-- One 10 ns clock of the register fabric. Log: 5 (DESIGN CHOICE), 31 (DEDUCED). -/
def Block.tick (b : Block) : Block :=
  let b := b.clkOn.rtcTick
  if !b.powered then b
  else
    (b.tsuTick.frameTick b.now).absTick.shaftTick.patrolTick.coverTick.rateTick.devTick
      |>.milliTick.switchTick.frcDue.olcFollow.haltTick.prpExpire.pairTimeTick

end Sys2Proof.Machine
end

