-- ==== Sys2Proof/Machine/Record.lean ====
section
/-! DEFINITION. The event recorder's areas and the cellar's records: durability, loss, read-only (R397 to R400, R404 to R415). -/

namespace Sys2Proof.Machine

/-! ### Blocks of an area (R408) -/

/-- Bytes of a block in use. -/
def RecBlk.fill (k : RecBlk) : Nat := 16 + recBytes k.recs

/-- Close the last block. -/
def closeLast : List RecBlk → List RecBlk
  | [] => []
  | [k] => [{ k with closed := true }]
  | k :: l => k :: closeLast l

/-- Append to the last block. -/
def addLast (r : EvRec) : List RecBlk → List RecBlk
  | [] => []
  | [k] => [{ k with recs := k.recs ++ [r] }]
  | k :: l => k :: addLast r l

/-- The last block is open and has room for the record. -/
def lastTakes (l : List RecBlk) (r : EvRec) : Bool :=
  match l.getLast? with
  | some k => !k.closed && decide (k.fill + r.bytes ≤ 4096)
  | none => false

/-- Number of the next block. -/
def nextBseq (l : List RecBlk) : Nat := (l.getLast?.map fun k => k.bseq + 1).getD 0

/-- Write a record to an area: into its open block, else into a new one. Log: 71 (DEDUCED). -/
def areaPut (l : List RecBlk) (pcc : Nat) (r : EvRec) : List RecBlk :=
  if lastTakes l r then addLast r l else closeLast l ++ [⟨nextBseq l, pcc, false, [r]⟩]

/-- One past the last durable byte (R408). -/
def areaNext (l : List RecBlk) : Nat := (l.getLast?.map fun k => k.bseq * 4096 + k.fill).getD 0

/-- The lowest readable position. -/
def areaOld (l : List RecBlk) : Nat := ((l.head?).map fun k => k.bseq * 4096).getD 0

/-- Blocks of the first area, 8 MiB, and of the ring, 56 MiB. -/
def firstBlocks : Nat := 2048
def ringBlocks : Nat := 14336

/-- The position registers. -/
def Block.recShow (b : Block) : Block :=
  ((b.setPair Reg.EVR_RING_OLD_LO (areaOld b.evr.ring)).setPair Reg.EVR_RING_NEXT_LO (areaNext b.evr.ring)).setPair
    Reg.EVR_FIRST_NEXT_LO (areaNext b.evr.first)

/-- Keep the newest blocks of the ring. -/
def ringTrim (l : List RecBlk) : List RecBlk := l.drop (l.length - ringBlocks)

/-- The first area has room for the record (R409). -/
def Block.firstTakes (b : Block) (r : EvRec) : Bool :=
  !b.fgetB F.EVR_STAT_FIRST_FULL && (lastTakes b.evr.first r || decide (b.evr.first.length < firstBlocks))

/-- A record goes to the cellar: the first area while it has room, and the ring after that (R409). -/
def Block.recStore (b : Block) (r : EvRec) : Block :=
  let pcc := b.regN Reg.EVR_PCC
  let b := if b.firstTakes r then { b with evr := { b.evr with first := areaPut b.evr.first pcc r } }
    else
      let b := b.when (!b.fgetB F.EVR_STAT_FIRST_FULL) fun b =>
        { (b.fset F.EVR_STAT_FIRST_FULL 1).raiseEvt 0xD0 3 with evr := { b.evr with first := closeLast b.evr.first } }
      { b with evr := { b.evr with ring := ringTrim (areaPut b.evr.ring pcc r) } }
  let b := (b.when (decide (3 ≤ r.sev)) fun b => b.raiseEvt 0xD0 0).when (decide (5 ≤ r.sev)) fun b => b.raiseEvt 0xD0 1
  b.recShow

/-- Once the queue is below half after refusals for its fill, one LOST record counts them (R411). -/
def Block.recRefusals (b : Block) : Block :=
  if b.evr.refusedFill = 0 ∨ queueBytes ≤ 2 * recBytes b.evr.queue then b
  else
    let n := b.evr.refusedFill
    { b with evr := { b.evr with refusedFill := 0 } }.recLost 0 0 n 2

/-- The POWER_LOSS record is durable: it carries OPTIME (R406, R413). -/
def Block.lossDurable (b : Block) (r : EvRec) : Block :=
  { b with
    evr := { b.evr with powerLossPcc := r.pcc :: b.evr.powerLossPcc }
    cel := { b.cel with optime := Nat.max b.cel.optime r.optime } }.raiseEvt 0xF1 4

/-- An island lock-out record is durable (R287). -/
def Block.lockDurable (b : Block) (r : EvRec) : Block :=
  if r.cls = 3 ∧ nth 0 r.words 0 % 256 = 1 then
    { b with isl := { b.isl with unconfirmed := false, cellarLocked := true } }
  else b

/-- RECORD_DURABLE: the island record or queued record that was accepted first; `us` is its time to durability. While
the cellar is read-only only power-loss records are written, over the oldest ring blocks (R400).
Log: 71 (DEDUCED), 73 (DEDUCED), 208 (DEDUCED). -/
def execRecordDurable (us : Nat) (s : State) : Host.Outcome State Fault Refusal := lift (fun b =>
  let show_ (b : Block) : Block := b.setRegN Reg.EVR_COMMIT_MAX (Nat.max (b.regN Reg.EVR_COMMIT_MAX) (Nat.min us (2 ^ 32 - 1)))
  let ro := b.fgetB F.CEL_STAT_READONLY
  if b.ssp.stall then b else
  match b.evr.island, b.evr.queue with
  | r :: l, _ =>
    if ro then b
    else (show_ ({ b with evr := { b.evr with island := l } }.recStore r)).lockDurable r
  | [], r :: l =>
    if ro ∧ r.typ ≠ 3 then b
    else
      let b := { b with evr := { b.evr with queue := l } }.queueFill
      let b := b.when ro fun b => { b with evr := { b.evr with ring := (closeLast b.evr.ring).drop 1 } }
      let b := show_ (b.recStore r)
      (if r.typ = 3 then b.lossDurable r else b).recRefusals
  | [], [] => b) s

/-- RECORD_ACCEPT: a record of the standard side, or of SX or SY, is offered to the queue. Log: 72 (DESIGN CHOICE). -/
def execRecordAccept (island : Bool) (sev : Fin 8) (typ src : Nat) (words : List Word) (s : State) :
    Host.Outcome State Fault Refusal := lift (fun b =>
  let ws := (words.take 252).map BitVec.toNat
  if island then b.recIsland (b.mkRec sev.val 3 (low 16 typ) (low 12 src) ws)
  else b.recAccept (b.mkRec sev.val 0 (low 16 typ) (low 12 src) ws)) s

/-- OPTIME_STORE: every 60 s the operating time goes to the cellar (R406). Log: 76 (DEDUCED), 208 (DEDUCED). -/
def execOptimeStore (s : State) : Host.Outcome State Fault Refusal := lift (fun b =>
  if !b.periodic .optime 60000000000 || b.ssp.stall then b
  else ({ b with cel := { b.cel with optimeReq := b.optime } }.timed .optime).celRequest .optime) s

/-! ### The cellar (R398, R400) -/

/-- Registers of a page that hold a configured P field, as page offsets (R6). -/
def persistRegs (p : Nat) : List Nat :=
  let own := pageRows p
  own.flatMap fun r =>
    if r.fields.any (fun f => f.pers && f.carried) then (upto (Nat.max 1 r.count)).map fun i => r.base + r.stride * i else []

/-- A region of the label. -/
def Block.region (b : Block) (r : Nat) : Region := storeGet {} b.dsb.regions r

def Block.setRegion (b : Block) (r : Nat) (g : Region) : Block :=
  { b with dsb := { b.dsb with regions := storeSet {} b.dsb.regions r g } }

/-- UPDATE of a region is durable as it stands (R442). -/
def Block.labelStored (b : Block) (r : Nat) : Block :=
  let g := b.region r
  b.setRegion r { g with durable := ⟨g.durable.shown, g.phase, g.target, g.band⟩ }

/-- SHOWN of a region is durable as it stands (R442). -/
def Block.shownStored (b : Block) (r : Nat) : Block :=
  let g := b.region r
  b.setRegion r { g with durable := { g.durable with shown := g.shown } }

/-- What a record holds becomes its durable value. Log: 76 (DEDUCED). -/
def Block.celCommit (b : Block) (r : CelRec) : Block :=
  match r with
  | .config p =>
    let cfg := (persistRegs p).foldl (fun m o => mapSet m (p * 0x1000 + o) (b.reg (p * 0x1000 + o))) b.cel.cfg
    { b with cel := { b.cel with cfg := cfg } }
  | .forceTable => if b.frc.idle || b.olc.marker.isSome then b else { b with frc := { b.frc with stored := b.frc.table } }
  | .tsuTrim => { b with cel := { b.cel with cfg := mapSet b.cel.cfg Reg.TSU_TRIM (b.reg Reg.TSU_TRIM) } }
  | .optime => { b with cel := { b.cel with optime := Nat.max b.cel.optime b.cel.optimeReq } }
  | .label r => b.labelStored r
  | .shown r => b.shownStored r
  | .trims _ | .lockout | .pcc | .cask | .racking => b

/-- CELLAR_RECORD_DURABLE: the copy of the oldest requested record is programmed and reads back, or fails.
Log: 208 (DEDUCED). -/
def execCellarRecordDurable (ok : Bool) (us : Nat) (s : State) : Host.Outcome State Fault Refusal := lift (fun b =>
  match b.cel.requests with
  | [] => b
  | r :: l =>
    if !b.powered ∨ b.fgetB F.CEL_STAT_READONLY ∨ b.ssp.stall then b
    else if !ok then (b.incSat F.CEL_ERR_CNT_VALUE).raiseEvt 0xF1 0
    else
      let b := { b with cel := { b.cel with requests := l, seqs := mapSet b.cel.seqs r (low 32 (mapGet 0 b.cel.seqs r + 1)) } }
      let b := b.setRegN Reg.CEL_WR_MAX (Nat.max (b.regN Reg.CEL_WR_MAX) (Nat.min us (2 ^ 32 - 1)))
      b.celCommit r) s

end Sys2Proof.Machine
end

