-- ==== Sys2Proof/Machine/Mem.lean ====
section
/-! DEFINITION. Memory protection: corrected and uncorrectable errors of DRAM and SRAM, marking, retirement; faults of the solver unit (R202, R208, R225, R390 to R401).
Log: 74 (DEDUCED). -/

namespace Sys2Proof.Machine

/-! ### The rind (R390) -/

/-- α times an element of GF(2^8) with the polynomial x^8 + x^4 + x^3 + x^2 + 1. -/
def gfAlpha (v : BitVec 8) : BitVec 8 := (v <<< 1) ^^^ (if v.msb then 0x1D else 0)

/-- α^n times an element. -/
def gfTimes : Nat → BitVec 8 → BitVec 8
  | 0, v => v
  | n + 1, v => gfAlpha (gfTimes n v)

/-- The exponent of a device's symbol in the code word: the check symbols of devices 8 and 9 are the lowest.
Log: 206 (DESIGN CHOICE). -/
def rindPos (d : Nat) : Nat := 9 - d

/-- The syndrome of a beat at root α^k; only the errors of the ten devices count, the code word itself gives 0. -/
def rindSyndrome (k : Nat) (beat : List (BitVec 8)) : BitVec 8 :=
  (upto 10).foldl (fun s d => s ^^^ gfTimes (k * rindPos d) (nth 0 beat d)) 0

/-- What the rind makes of a beat. -/
inductive RindBeat where
  | clean
  /-- An error that the code gives to this device. -/
  | device (d : Nat)
  | bad
deriving DecidableEq, Repr

/-- Decode a beat; with a device marked, with that device as an erasure alone. Log: 207 (DEDUCED). -/
def rindBeat (mark : Option Nat) (beat : List (BitVec 8)) : RindBeat :=
  let s0 := rindSyndrome 0 beat
  let s1 := rindSyndrome 1 beat
  let fits (d : Nat) : Bool := s1 == gfTimes (rindPos d) s0
  if s0 = 0 ∧ s1 = 0 then .clean
  else match mark with
    | some m => if fits m then .device m else .bad
    | none => match (upto 10).find? fits with
      | some d => if s0 = 0 then .bad else .device d
      | none => .bad

/-- The eight beats of a burst. -/
def rindBurst (mark : Option Nat) (burst : List (List (BitVec 8))) : List RindBeat :=
  (upto 8).map fun i => rindBeat mark (nth [] burst i)

/-- The first device that a beat names, and in how many beats it stands. -/
def rindNamed (l : List RindBeat) : Option (Nat × Nat) :=
  match l.findSome? fun r => match r with | .device d => some d | _ => none with
  | some d => some (d, (l.filter fun r => r == .device d).length)
  | none => none

/-- The burst is accepted: without errors, or with one and the same device in every beat that has one. -/
def rindAccepts (l : List RindBeat) : Bool :=
  l.all fun r => r == .clean || some r == (rindNamed l).map fun e => .device e.1

/-- Devices with an error in a burst, in the order of the beats. -/
def errorDevices (burst : List (List (BitVec 8))) : List Nat :=
  ((upto 8).flatMap fun i => (upto 10).filter fun d => nth 0 (nth [] burst i) d != 0).eraseDups

/-- A burst whose errors lie in one device: `errs` is the error of each beat. -/
def oneDevice (d : Nat) (errs : List (BitVec 8)) : List (List (BitVec 8)) := errs.map fun e => List.replicate d 0 ++ [e]

/-! ### DRAM (R391 to R394) -/

/-- REGION of MEM_UE_INFO. -/
def DramRegion.code : DramRegion → Nat
  | .program => 1
  | .recorder _ _ => 2
  | .hart _ => 3
  | .can _ _ => 4
  | .display => 5
  | .supervisor => 6
  | .unused => 0

/-- Records of the queue are lost; a LOST record of reason 1 stands in their place. -/
def Block.queueLoss (b : Block) (first count : Nat) : Block :=
  let q := b.evr.queue
  let n := (q.drop first).length - (q.drop (first + count)).length
  if n = 0 then b
  else { b with evr := { b.evr with queue := q.take first ++ [b.mkRec 3 0 5 0 [n, 1]] ++ q.drop (first + count) } }.queueFill

/-- What an uncorrectable line does by region (R394). Log: 74 (DEDUCED). -/
def Block.dramRegion (b : Block) (r : DramRegion) : Block :=
  match r with
  | .recorder first count => b.queueLoss first count
  | .hart ch =>
    let b := b.hartEndChannel ch.val 4
    b.setHartItem ch.val { b.hartItem ch.val with noResponse := true }
  | .can p num =>
    let x := b.canPort p.val
    (b.setCanPort p.val { x with ring := x.ring.map fun (e : Nat × CanEntry) =>
      if e.2.num = num then (e.1, { e.2 with lost := true }) else e }).canWindow p.val
  | .supervisor =>
    let again := match b.mem.supAt with
      | some t => decide (b.clk < t + 600000000000)
      | none => false
    let b := { b with mem := { b.mem with supAt := some b.clk }, ssp := { b.ssp with stall := true } }
    if again then b.changeState stHalt 4 else b
  | .display => { b with dse := { b.dse with lines := [], attrs := [] } }
  | .program | .unused => b

/-- An uncorrectable DRAM error: reported, recorded, handled by region; a line that fails its read-back is retired. -/
def Block.dramLost (b : Block) (dev addr : Nat) (r : DramRegion) (retire : Bool) : Block :=
  let b := (b.setRegN Reg.MEM_UE_ADDR addr).setRegN Reg.MEM_UE_INFO (2 ^ 31 + r.code * 16 + dev)
  let b := b.when (b.fgetB F.MEM_STAT_MARKED && b.fget F.MEM_STAT_DEVICE != dev) fun b => b.fset F.MEM_STAT_SECOND 1
  let b := (b.incSat F.MEM_UE_CNT_COUNT).event 0xF0 2 [Reg.MEM_UE_ADDR, Reg.MEM_UE_INFO]
  let b := b.dramRegion r
  b.when retire fun b => (b.incSat F.MEM_RETIRED_LINES).raiseEvt 0xF0 6

/-- The device that is marked. -/
def Block.markedDevice (b : Block) : Option Nat := if b.fgetB F.MEM_STAT_MARKED then some (b.fget F.MEM_STAT_DEVICE) else none

/-- A device with `n` beats in error in one burst is to be marked, this correction counted (R391). -/
def Block.rindMarks (b : Block) (d n : Nat) : Bool :=
  decide (2 ≤ n) || decide (b.fget F.MEM_CFG_THR ≤ (b.devWindow d).length + 1)

/-- Mark a device; one alone is marked. -/
def Block.markDevice (b : Block) (d : Nat) : Block :=
  if b.fgetB F.MEM_STAT_MARKED then b
  else ((b.fset F.MEM_STAT_DEVICE d).fset F.MEM_STAT_MARKED 1).raiseEvt 0xF0 1

/-- A burst corrected in one device is counted, and may mark it. -/
def Block.dramFixed (b : Block) (d n : Nat) : Block :=
  let w := (d, b.clk) :: b.devWindow d
  let marks := b.rindMarks d n
  let b := { b with mem := { b.mem with window := w ++ b.mem.window.filter fun (e : Nat × Nat) => e.1 != d } }
  let b := ((b.incSat F.MEM_CE_CNT_COUNT).incSat (F.MEM_DEV_CNT_TOTAL d)).fset (F.MEM_DEV_CNT_WINDOW d) (Nat.min w.length 65535)
  (b.raiseEvt 0xF0 0).when marks fun b => b.markDevice d

/-- The second device in error: beside the marked one, or beside the one found first. Log: 74 (DEDUCED). -/
def Block.secondDevice (b : Block) (burst : List (List (BitVec 8))) : Nat :=
  let l := errorDevices burst
  let first := (b.markedDevice.orElse fun _ => (rindNamed (rindBurst none burst)).map (·.1)).orElse fun _ => l.head?
  (l.find? fun d => some d != first).getD (first.getD 0)

/-- A burst as the rind decodes it: clean, corrected, or uncorrectable, which marks the first device where its threshold is
reached in it (R390, R391, R394, R401). Log: 207 (DEDUCED). -/
def Block.dramBurst (b : Block) (burst : List (List (BitVec 8))) (addr : Nat) (r : DramRegion) (retire : Bool) : Block :=
  let l := rindBurst b.markedDevice burst
  let second := b.secondDevice burst
  match rindAccepts l, rindNamed l with
  | true, none => b
  | true, some (d, n) => b.dramFixed d n
  | false, none => b.dramLost second addr r retire
  | false, some (d, n) => (b.when (b.rindMarks d n) fun b => b.markDevice d).dramLost second addr r retire

/-- DRAM_CORRECTED_ERROR: a burst with errors confined to one device, `errs` the error of each beat. -/
def execDramCorrectedError (dev : Fin 10) (errs : List (BitVec 8)) (addr : Word) (region : DramRegion) (retire : Bool) (s : State) :
    Host.Outcome State Fault Refusal := lift (fun b => b.dramBurst (oneDevice dev.val errs) addr.toNat region retire) s

/-- DRAM_UNCORRECTABLE_ERROR: a burst with errors in any devices, by beat and device. -/
def execDramUncorrectableError (burst : List (List (BitVec 8))) (addr : Word) (region : DramRegion) (retire : Bool) (s : State) :
    Host.Outcome State Fault Refusal := lift (fun b => b.dramBurst burst addr.toNat region retire) s

/-- Lines of the DRAM. -/
def dramLines : Nat := 67108864

/-- PATROL_SCRUB: the next line, not while the supervisor stalls (R393); the last one completes the pass.
Log: 208 (DEDUCED). -/
def execPatrolScrub (s : State) : Host.Outcome State Fault Refusal := lift (fun b =>
  let n := b.mem.patrol + 1
  if b.ssp.stall then b
  else if n < dramLines then { b with mem := { b.mem with patrol := n } }
  else ({ b with mem := { b.mem with patrol := 0, ageNs := 0 } }.setRegN Reg.MEM_PATROL 0).raiseEvt 0xF0 5) s

/-- INNER_COUNTER_READ, once an hour: `n` inner-code corrections since the last reading. -/
def execInnerCounterRead (n : Nat) (s : State) : Host.Outcome State Fault Refusal := lift (fun b =>
  b.when (b.periodic .inner 3600000000000) fun b => (b.timed .inner).addSat F.MEM_INNER_CNT_COUNT n) s

/-! ### SRAM (R395, R396) -/

/-- SRAM_SCRUB: a pass over an engine's SRAM, or over shared SRAM and the solver store, corrects single errors. -/
def execSramScrub (engine : Option (Fin 16)) (corrected : Nat) (s : State) : Host.Outcome State Fault Refusal := lift (fun b =>
  let e := engine.map (·.val)
  if !b.periodic (.scrub e) (if e.isSome then 1000000000 else 10000000000) then b
  else
  let b := b.timed (.scrub e)
  if corrected = 0 then b
  else
    let b := (b.addSat F.MEM_SRAM_CE_CNT_COUNT corrected).raiseEvt 0xF0 3
    match engine with
    | some n => (b.addSat (F.ENG_MEM_CNT_COUNT n.val) corrected).raiseEvt (0x10 + n.val) 5
    | none => b) s

/-- A fault of the solver ends a package with patterns (R477). -/
def Block.solDownCheck (b : Block) : Block := if b.fgetB (F.BLK_STAT_FAULT 0x30) then b.olcSolverDown else b

/-- A physical pattern slot loses its values: the image's own stand in their place, and its factors are gone. -/
def Block.patLost (b : Block) (k : Nat) : Block :=
  let b := match b.pat k with
    | some p => b.setPat k { img := p.img, vals := p.img.values, rhs := p.img.rhs, sol := List.replicate p.img.n 0 }
    | none => b
  (b.setReg (Reg.SOL_PIV k) 0).setReg (Reg.SOL_FACT k) 0

/-- A granule of the store is retired; where the store no longer holds the patterns, the package in force goes. -/
def Block.granuleRetire (b : Block) : Block :=
  let b := ((({ b with sol := { b.sol with retired := b.sol.retired + 1 } }.incSat F.MEM_RETIRED_GRANULES).solStoreShow).raiseEvt 0xF0 6)
  b.when (decide (512 < b.solUsed + b.sol.retired)) Block.olcSolverDown

/-- The granule of a slot failed within the last 24 h as well. -/
def Block.granuleAgain (b : Block) (k : Nat) : Bool :=
  b.mem.granules.any fun e => e.1 == k && decide (b.clk < e.2 + 86400000000000)

/-- The granule of a physical slot fails. -/
def Block.granuleLost (b : Block) (k : Nat) : Block :=
  ({ b with mem := { b.mem with granules := mapSet b.mem.granules k b.clk } }.patLost k).when (b.granuleAgain k) Block.granuleRetire

/-- The solver store under a logical pattern slot (R396, R473). -/
def Block.storeLost (b : Block) (logical : Nat) : Block :=
  let b := b.solAbortRun.solRetest
  match b.psOf logical with
  | none => b
  | some k => b.granuleLost k

/-- What an uncorrectable SRAM word does by region. A package that R396 ends while it is SWITCHING leaves the new program in
force, its commit marker pending. Log: 185 (DESIGN CHOICE). -/
def Block.sramRegion (b : Block) (r : SramRegion) : Block :=
  match r with
  | .engine n places => b.engineFault n.val 3 places
  | .input c el =>
    b.modCx c.val fun x => { x with inputs := setNth x.inputs el { (nth {} x.inputs el) with quality := 2 + 4 * 18 } }
  | .output c el => b.modCx c.val fun x => { x with lostOut := el :: x.lostOut }
  | .job slot =>
    match b.sol.waiting, b.sol.running with
    | some j, _ => if j.slot = slot.val then b.solWithdraw else if (b.sol.running.map fun r => r.job.slot) = some slot.val then b.solAbortRun else b
    | none, some run => if run.job.slot = slot.val then b.solAbortRun else b
    | none, none => b
  | .mirror =>
    if b.role = 2 ∧ (b.fget F.RED_STAT_SYNC = 2 ∨ b.fget F.RED_STAT_SYNC = 3) then b.resyncStart
    else b
  | .package => if b.olcAt = olcArmed ∨ b.olcAt = olcSwitching then b.olcEnd olcAborted 5 else b
  | .store logical => b.storeLost logical.val

/-- MEMORY of MEM_UE_INFO. -/
def SramRegion.memory : SramRegion → Nat
  | .engine _ _ => 1
  | .store _ => 3
  | _ => 2

/-- SRAM_UNCORRECTABLE_ERROR. Log: 75 (DEDUCED). -/
def execSramUncorrectableError (addr : Word) (region : SramRegion) (s : State) : Host.Outcome State Fault Refusal := lift (fun b =>
  let b := (b.setRegN Reg.MEM_UE_ADDR addr.toNat).setRegN Reg.MEM_UE_INFO (2 ^ 31 + region.memory * 256)
  let b := (b.incSat F.MEM_SRAM_UE_CNT_COUNT).raiseEvt 0xF0 4
  b.sramRegion region) s

/-! ### The solver unit (R202, R208, R225, R477) -/

/-- FLOAT_SELFTEST_CHUNK (R208). -/
def execFloatSelftestChunk (ns : Nat) (groups : Fin 16) (divOk : Bool) (fail : Nat) (s : State) :
    Host.Outcome State Fault Refusal :=
  lift (fun b => (b.solChunk ns groups.val divOk fail).solDownCheck) s

/-- LANE_GROUP_FAULT (R225): a running job ends ABORTED unpublished, FLOAT_READY 0, the group is removed. -/
def execLaneGroupFault (g : Fin 4) (s : State) : Host.Outcome State Fault Refusal :=
  lift (fun b => if bit (b.fget F.SOL_TEST_GROUP_OK) g.val then ((b.solAbortRun.solRetest).solDropGroup g.val).solDownCheck else b) s

/-- SOLVER_FAULT (R202); `divide`: the divide unit failed (R204). Log: 43 (DEDUCED). -/
def execSolverFault (divide : Bool) (s : State) : Host.Outcome State Fault Refusal :=
  lift (fun b => (((b.when divide fun b => b.fset F.SOL_TEST_DIV_OK 0).solFail).solShow).solDownCheck) s

/-! ### The cellar becomes read-only (R400, R401, R434) -/

/-- CELLAR_READ_ONLY. Log: 136 (DEDUCED). -/
def execCellarReadOnly (s : State) : Host.Outcome State Fault Refusal := lift (fun b =>
  if b.fgetB F.CEL_STAT_READONLY then b
  else
    let b := b.when (!b.fgetB F.CEL_STAT_LIFE_WARN) fun b => (b.fset F.CEL_STAT_LIFE_WARN 1).raiseEvt 0xF1 2
    let b := ((b.fset F.CEL_STAT_READONLY 1).fset F.CEL_LIFE_SPARE 0).raiseEvt 0xF1 3
    let b := b.when (b.olcAt == olcReceiving) fun b => b.olcEnd olcSpace 4
    b.when (b.fget F.UPD_CASK_STATE == 1) fun b => (b.endTransfer 1).fset F.UPD_RES_CODE 9) s

end Sys2Proof.Machine
end

