-- ==== Sys2Proof/Machine/Pair.lean ====
section
/-! DEFINITION. The redundant pair: heartbeats, rounds, takeover, join and resynchronisation, what the standby takes from the primary; the end of START (R360 to R389, R429, R474, R476).
Log: 79 (DEDUCED), 82 (DEDUCED), 83 (DEDUCED). -/

namespace Sys2Proof.Machine

/-! ### The end of START (R429) -/

/-- The module leaves START: SYS_START_T, the event, the state; a firmware on probation has proved itself (R426). -/
def Block.finishStart (b : Block) (st cause : Nat) : Block :=
  let b := b.fset F.SYS_START_T_END (Nat.min ((b.clk - b.pwr.tg) / 10000000) 65535)
  let b := { b with red := { b.red with joining := false }, pwr := { b.pwr with completed := true } }
  let b := b.when (!b.fgetB F.SYS_STATE_ON_FALLBACK) fun b =>
    ({ b with upd := { b.upd with probation := false } }.setRegN Reg.UPD_PROBE 0).fset F.SYS_STATE_PROBATION 0
  let b := b.raiseEvt 0 1
  let b := b.changeState st cause
  (b.redRefresh).chRefreshAll

/-! ### Roles taken (R365, R376, R380) -/

/-- Become PRIMARY with an epoch; one above 0xFFFE is sent as 0xFFFE and recorded. PAIR is lost as a time source. -/
def Block.bePrimary (b : Block) (epoch : Nat) : Block :=
  let b := b.fset F.RED_STAT_ROLE rolePrimary
  let b := (b.fset F.RED_HEALTH_OWN b.computedHealth).setClaim (Nat.min epoch topEpoch)
  let b := b.when (decide (topEpoch < epoch)) fun b => b.recRegs 0xB0 0xFF [Reg.RED_CLAIM] []
  let b := { b with red := { b.red with received := false, departed := false, cold := false, demoted := false, oldEpoch := 0, echoCycles := [] } }
  ((b.setSync syNone).tsuLost .pair).chRefreshAll

/-- PRIMARY without a partner: the epoch follows the highest echo of the join wait.
Log: 158 (DEDUCED), 174 (DEDUCED). -/
def Block.primaryAlone (b : Block) : Block :=
  let b := (b.bePrimary (b.red.echoed + 1)).fset F.RED_STAT_PARTNER 0
  b.raiseEvt 0xB0 3

/-- PRIMARY beside a partner that answers but neither leads nor starts. Log: 174 (DEDUCED). -/
def Block.primaryBeside (b : Block) : Block := if b.partnerSeen then b.bePrimary (b.red.echoed + 1) else b.primaryAlone

/-- A join is refused: RED_RES, the event, and the role OUT (R360, R381). -/
def Block.joinRefused (b : Block) (code : Nat) : Block := ((b.fset F.RED_RES_CODE code).raiseEvt 0xB0 6).pairOut

/-- Steps 1 and 2 of a join: the first check that fails (R381). -/
def Block.joinJudge (b : Block) (p : Partner) : Nat :=
  if (commonPiv b.pivOffer (p.verLo, p.verHi)).isNone then 16
  else if p.unitA = b.fgetB F.RED_STAT_UNIT_A then 17
  else if p.vintage ≠ ((b.prog.map (·.vintage)).getD 0) ∨ p.imageCrc ≠ ((b.prog.map (·.crc)).getD 0) then 18
  else if p.safCrc ≠ b.regN Reg.SAF_CFG_CRC then 19
  else if p.cfg ≠ b.regN Reg.RED_CFG ∨ p.timing ≠ b.regN Reg.RED_TIMING then 20
  else if p.role ≠ rolePrimary ∨ (p.state ≠ stRun ∧ p.state ≠ stRunDegraded) then 22
  else 0

/-- What a unit that joins takes: the standby role with the claim of the partner's epoch, and no claim won. -/
def Block.joinRole (b : Block) : Block :=
  let b := ({ b with red := { b.red with cold := false } }.setWon false).setRole roleStandby
  b.setClaim (epochOf (b.regN Reg.RED_PCLAIM))

/-- Join the partner as STANDBY with its epoch, SYNCING or RESYNCING; or be refused. -/
def Block.joinAs (b : Block) (sync : Nat) : Block :=
  let code := b.joinJudge b.red.partner
  if code ≠ 0 then b.joinRefused code else b.joinRole.resyncFrom sync

/-! ### Silence on PAIR (R361, R381, R387) -/

/-- A standby whose partner falls silent is no longer mirrored; copying ends, and a join begins anew when PAIR returns. -/
def Block.standbySilent (b : Block) : Block :=
  let b := b.joinAborted
  if b.sync = sySynced ∨ b.sync = syResyncing then b.setSync syUnmirrored else b

/-- A force command that waits for the partner does not wait for a silent one. -/
def Block.frcAlone (b : Block) : Block := b.when b.onPair fun b => b.frcAck false

/-- PAIR is silent or its link lost: UNMIRRORED, or the join is aborted and begins again (R381, R387); pair commands end. -/
def Block.pairSilent (b : Block) : Block :=
  let b := (b.fset F.RED_STAT_PAIR_OK 0).olcPairLost.frcAlone
  (b.when (b.role == roleStandby) Block.standbySilent).presence.unsyncedLoss

/-! ### The PAIR port (R383, R389) -/

/-- PAIR_LINK_UP: with SFP_ABS high there is no port. Log: 85 (DEDUCED), 158 (DEDUCED). -/
def execPairLinkUp (verLo verHi : Nat) (s : State) : Host.Outcome State Fault Refusal := lift (fun b =>
  if b.pwr.sfpAbs ∨ b.fgetB F.PAIR_STAT_LINK then b
  else
    let b := (b.fset F.PAIR_STAT_LINK 1).raiseEvt 0xB1 0
    match commonPiv b.pivOffer (verLo, verHi) with
    | some v => (b.fset F.RED_STAT_PIV v).hbFollow
    | none =>
      let b := (b.fset F.RED_STAT_PIV 0).hbFollow
      if b.onPair && (b.red.joining || b.role == roleStandby) then (b.fset F.RED_RES_CODE 16).raiseEvt 0xB0 6 else b) s

def Block.pairLinkDown (b : Block) : Block :=
  if b.fgetB F.PAIR_STAT_LINK then ((b.fset F.PAIR_STAT_LINK 0).raiseEvt 0xB1 1).pairSilent else b

def execPairLinkLost (s : State) : Host.Outcome State Fault Refusal := lift (fun b => b.pairLinkDown) s

/-- No valid message has come for PAIR_TO. -/
def Block.pairOverdue (b : Block) : Bool := decide (b.red.pairAt + 10000 * b.fget F.RED_TIMING_PAIR_TO ≤ b.clk)

/-- PAIR_TIMEOUT: no valid message for PAIR_TO. -/
def execPairTimeout (s : State) : Host.Outcome State Fault Refusal := lift (fun b =>
  if b.fgetB F.RED_STAT_PAIR_OK && b.pairOverdue then ((b.incSat F.PAIR_TO_CNT_COUNT).raiseEvt 0xB1 3).pairSilent else b) s

/-! ### Heartbeats (R361, R364, R385, R476) -/

/-- PAIR_HEARTBEAT_TX, every 100 µs: health is computed anew. -/
def execPairHeartbeatTx (s : State) : Host.Outcome State Fault Refusal := lift (fun b =>
  if b.powered && b.onPair && b.fgetB F.PAIR_STAT_LINK && decide (b.red.beatAt ≤ b.clk) then
    let b := { b.redRefresh.lowFollow with red := { b.redRefresh.lowFollow.red with beatAt := b.clk + 100000 } }
    b.send .pair "heartbeat" [b.regN Reg.RED_CLAIM, b.fget F.RED_HEALTH_OWN, b.modState, b.hbFlags,
      b.fget F.SOL_STAT_FLOAT_READY, b.absPos false, b.regN Reg.ABS0_FREQ, b.absPos true, b.regN Reg.ABS1_SPEED]
  else b) s

/-- A declared departure of the partner arrives. -/
def Block.departureRx (b : Block) : Block :=
  if b.red.received then b
  else ({ b with red := { b.red with received := true } }.raiseEvt 0xB0 2).unsyncedLoss

/-- Follow the primary's ABS0: its frequency corrected so that the positions meet in 1 s, within 1% (R476). -/
def Block.steer0 (b : Block) (h : PairBeat) : Block :=
  if (b.absState = absHoldover ∨ b.absState = absFree) ∧ !h.locked0 then
    let err : Int := (h.pos0 : Int) - (b.absPos false : Int)
    let f : Int := h.freq0
    b.setRegN Reg.ABS0_FREQ (f + clampI (f / 100) (err * 1000000 / 2 ^ 32)).toNat
  else b

/-- Follow the primary's ABS1: over the 100 µs of a heartbeat by at most 1% of its motion, never backward (R476). -/
def Block.steer1 (b : Block) (h : PairBeat) : Block :=
  if b.shaftState = shaftSearch ∨ b.shaftState = shaftLost then
    let err : Int := (h.pos1 : Int) - (b.absPos true : Int)
    let motion : Int := (h.speed1 * 2 ^ 32 / 10 ^ 10 : Nat)
    { b with tm := { b.tm with countBase := b.tm.countBase + clampI (motion / 100) err } }
  else b

/-- What a heartbeat tells of the partner. -/
def PairBeat.partner (h : PairBeat) : Partner :=
  { state := h.state, role := h.role, sync := h.sync, departing := h.departing, verLo := h.verLo, verHi := h.verHi
    unitA := h.unitA, vintage := h.vintage, imageCrc := h.imageCrc, safCrc := h.safCrc, cfg := h.cfg, timing := h.timing, marked := h.marked }

/-- The partner answers during the join wait (R380). -/
def Block.joinAnswer (b : Block) (h : PairBeat) : Block :=
  if h.role = rolePrimary ∧ (h.state = stRun ∨ h.state = stRunDegraded) ∧ h.cycled then
    (b.joinAs sySyncing).finishStart b.runState 0
  else if h.state = stStart ∧ b.pwr.base = .unitA then (b.bePrimary (b.red.echoed + 1)).finishStart b.runState 0
  else b

/-- The partner leads and declares no departure: one declared before is over (R375, R379). -/
def Block.partnerLeads (b : Block) (role : Nat) (departing : Bool) : Block :=
  b.when (role == rolePrimary && !departing) fun b => { b with red := { b.red with received := false, cold := false } }

/-- The partner is PRIMARY in RUN or RUN-DEGRADED. -/
def Block.partnerRuns (b : Block) : Bool :=
  b.red.partner.role == rolePrimary && (b.red.partner.state == stRun || b.red.partner.state == stRunDegraded)

/-- A join that was ended starts again at step 1, a standby that was UNMIRRORED at step 2, beside a PRIMARY that runs (R381).
Log: 204 (DEDUCED). -/
def Block.rejoin (b : Block) : Block :=
  b.when (b.partnerRuns && !b.red.received && b.sync != sySynced) fun b => b.joinAs (if b.sync = sySyncing then sySyncing else syResyncing)

/-- What a standby does at a heartbeat: a change of the partner's state ends a join, PAIR that returns begins one.
Log: 204 (DEDUCED). -/
def Block.standbyBeat (b : Block) (was changed : Bool) : Block :=
  let again := !was || (changed && (b.sync == sySyncing || b.sync == syResyncing))
  (b.when changed Block.joinAborted).when again Block.rejoin

/-- PAIR_HEARTBEAT_RX: a message whose check fails is no valid one and is counted (R361, R389). -/
def execPairHeartbeatRx (h : PairBeat) (s : State) : Host.Outcome State Fault Refusal := lift (fun b =>
  if !b.powered || !b.onPair || !b.fgetB F.PAIR_STAT_LINK then b
  else if !h.sound then b.incSat F.PAIR_ERR_CNT_COUNT
  else
    let was := b.fgetB F.RED_STAT_PAIR_OK
    let changed := was && b.red.partner.state != h.state
    let b := { b with red := { b.red with partner := h.partner, partnerFloat := h.floatReady } }
    let b := (((b.fset F.RED_STAT_PAIR_OK 1).setRegN Reg.RED_PCLAIM h.claim).fset F.RED_HEALTH_PARTNER (Nat.min h.health 255)).presence
    let b := (b.pairHeard.lowFollow.partnerLeads h.role h.departing).when h.departing Block.departureRx
    if b.red.joining then b.joinAnswer h
    else if b.role = roleStandby then ((b.standbyBeat was changed).steer0 h).steer1 h
    else b) s

/-- CAN3_HEARTBEAT_TX: at its instant of the TSU. -/
def execCan3HeartbeatTx (s : State) : Host.Outcome State Fault Refusal := lift (fun b =>
  if b.powered && b.pwr.phase != .down && b.hbOn && b.canState 3 != ceBusOff && b.canState 3 != ceRecovering && b.beatDue then
    b.redRefresh.lowFollow.hbSend.beatArm
  else b) s

/-- The flag byte of a heartbeat frame. -/
def CanBeat.flags (h : CanBeat) : Nat := h.role + penalty h.departing 4 + penalty h.synced 8

/-- CAN3_HEARTBEAT_RX: stored as every frame (R345). -/
def execCan3HeartbeatRx (h : CanBeat) (s : State) : Host.Outcome State Fault Refusal := lift (fun b =>
  if !b.powered || !b.hbOn then b
  else
    let b := b.canStore 3 (b.hbFrame (if b.pwr.base = .unitA then 0x7E0 else 0x7E1) h.claim h.flags h.seq h.health) false false
    let b := (b.fset F.RED_STAT_HB_OK 1).setRegN Reg.RED_PCLAIM h.claim
    let b := (b.fset F.RED_HEALTH_PARTNER (Nat.min h.health 255)).presence
    let b := { b with red := { b.red with
      hbAt := b.clk
      partner := { b.red.partner with role := h.role, departing := h.departing } } }
    (b.lowFollow.partnerLeads h.role h.departing).when h.departing Block.departureRx) s

/-- No valid heartbeat has come for 5 ms. -/
def Block.hbOverdue (b : Block) : Bool := decide (b.red.hbAt + 5000000 ≤ b.clk)


def execCan3HeartbeatTimeout (s : State) : Host.Outcome State Fault Refusal := lift (fun b => b.when b.hbOverdue Block.hbSilent) s

/-- CAN3_AUTO_RECOVER: 100 ms after the bus-off. -/
def execCan3AutoRecover (s : State) : Host.Outcome State Fault Refusal := lift (fun b =>
  if b.hbOn ∧ b.canState 3 = ceBusOff ∧ b.red.offAt + 100000000 ≤ b.clk then b.canRecover 3 1 else b) s

/-! ### Rounds (R365, R367 to R369) -/

/-- The unit takes part in rounds. -/
def Block.inRounds (b : Block) : Bool :=
  b.onPair && (b.role == rolePrimary || b.role == roleStandby) && b.powered && b.pwr.phase != .down

/-- Every UP station has echoed the claim in two consecutive cycles of its segment. -/
def Block.echoedTwice (b : Block) : Bool :=
  (upto 2).all fun k => (b.lnkCfg.seg k).isEmpty || decide (2 ≤ mapGet 0 b.red.echoCycles k)

/-- EPOCH falls to 1, and echoes of the old one are disregarded. -/
def Block.epochDown (b : Block) : Block :=
  { b with red := { b.red with oldEpoch := epochOf (b.regN Reg.RED_CLAIM) } }.setClaim 1

/-- A PRIMARY lowers EPOCH at a round where R365 allows it; beside a STANDBY it names the round over PAIR. -/
def Block.lowerEpoch (b : Block) : Block :=
  let e := epochOf (b.regN Reg.RED_CLAIM)
  if b.role ≠ rolePrimary ∨ e < 0xF000 then b
  else if b.fgetB F.RED_STAT_PAIR_OK && b.red.partner.role == roleStandby then (b.toPartner "epoch" [e]).epochDown
  else b.when (!b.fgetB F.RED_STAT_PARTNER && b.echoedTwice) Block.epochDown

/-- A round runs. -/
def Block.roundOpen (b : Block) : Block := { b with red := { b.red with round := true, roundAt := none } }

/-- The bits of a claim on CLM_DT, from the highest: from the first that is read otherwise the unit releases the wire (R367).
Log: 200 (DEDUCED). -/
def wireBits (mine read : Nat) : Nat → Nat
  | 0 => 0
  | n + 1 =>
    if bit mine n == bit read n then (if bit mine n then 2 ^ n else 0) + wireBits mine read n
    else (if bit mine n then 2 ^ n else 0) + (2 ^ n - 1)

/-- The claim goes out on the claim wire. -/
def Block.sendClaim (b : Block) : Block := b.send .claimWire "claim" [b.regN Reg.RED_CLAIM]

/-- A round begins with the unit's claim. -/
def Block.roundBegin (b : Block) (alone : Bool) : Block :=
  (b.redRefresh.lowFollow.lowerEpoch.roundOpen.fsetB F.RED_ROUND_INFO_ALONE alone).sendClaim

/-- CLAIM_ROUND: a PRIMARY starts it at a trigger instant of the round context; a STANDBY, and a unit that has declared its
departure, joins one that it sees. Log: 201 (DEDUCED). -/
def execClaimRound (s : State) : Host.Outcome State Fault Refusal := lift (fun b =>
  if b.inRounds && (b.role == roleStandby || b.red.departed || b.red.roundAt.isSome) then b.roundBegin false else b) s

/-- CLAIM_ROUND_ALONE: 100 µs after its instant without a round a STANDBY starts one alone. -/
def execClaimRoundAlone (s : State) : Host.Outcome State Fault Refusal := lift (fun b =>
  if b.inRounds && b.role == roleStandby && !b.red.round && b.red.roundAt.any (fun t => decide (t + 100000 ≤ b.clk)) then b.roundBegin true
  else b) s

/-- Demote to STANDBY. -/
def Block.demote (b : Block) (sync : Nat) : Block :=
  let b := { b with red := { b.red with departed := false, received := false } }
  let b := ((b.incSat F.RED_DEMOTE_CNT_COUNT).raiseEvt 0xB0 1).setWon false
  (b.setRole roleStandby).resyncFrom sync

/-- A wire fault, or one more round without. -/
def Block.wireJudge (b : Block) (fault : Bool) : Block :=
  if fault then
    let b := { b with red := { b.red with clean := 0 } }.fset F.RED_STAT_WIRE_FAULT 1
    (b.incSat F.RED_WIRE_ERR_CNT_COUNT).event 0xB0 7 [Reg.RED_STAT, Reg.RED_CLAIM, Reg.RED_ROUND]
  else
    let n := b.red.clean + 1
    let b := { b with red := { b.red with clean := n } }
    b.when (decide (100 ≤ n)) fun b => b.fset F.RED_STAT_WIRE_FAULT 0

/-- CLAIM_ROUND_END: the word read, ACK, and the word the partner reports over PAIR. What the unit drove were its claim up to the
bit it lost, and ACK low where it lost (R367); it reports the word it read (R369), and a higher one is the partner's claim. -/
def execClaimRoundEnd (read : Word) (ack : Bool) (partnerWord : Option Word) (s : State) : Host.Outcome State Fault Refusal := lift (fun b =>
  if !b.red.round || !b.inRounds then b
  else
    let r := read.toNat
    let mine := b.regN Reg.RED_CLAIM
    let won := r == mine
    let primary := b.role == rolePrimary
    let b := { b with red := { b.red with round := false, wireSeen := ack || !won, wireSilent := won && !ack } }
    let b := ((b.setRegN Reg.RED_ROUND r).fsetB F.RED_ROUND_INFO_WON won).fsetB F.RED_ROUND_INFO_ACK ack
    let b := b.when (decide (mine < r)) fun b => b.setRegN Reg.RED_PCLAIM r
    let b := b.send .claimWire "bits" [wireBits mine r 32, if won then 1 else 0]
    let b := b.when (b.fgetB F.PAIR_STAT_LINK) fun b => b.send .pair "round word" [r]
    let p := b.red.partner
    let present := b.fgetB F.RED_STAT_PAIR_OK && (p.state == stRun || p.state == stRunDegraded) &&
      (p.role == rolePrimary || p.role == roleStandby)
    let differs := match partnerWord with
      | some w => b.fgetB F.RED_STAT_PAIR_OK && w.toNat != r
      | none => false
    let b := b.wireJudge ((!won && decide (r < mine)) || differs || (primary && won && !ack && present))
    let b := b.presence
    if !b.running then b.pairOut
    else if primary then
      if won then b.setWon true
      else if mine < r then b.demote syResyncing
      else b.setWon false
    else (b.setWon false).unsyncedLoss) s

/-! ### Takeover (R375, R376, R379) -/

/-- The health has stood below the standby's for 1 s without a break. -/
def Block.lowLong (b : Block) : Bool := b.healthLow && b.red.lowAt.any fun t => decide (t + 1000000000 ≤ b.clk)

/-- HEALTH_HANDOVER: needs version 3 (R383) and a SYNCED standby (R387). -/
def execHealthHandover (s : State) : Host.Outcome State Fault Refusal := lift (fun b =>
  b.when (b.lowLong && decide (3 ≤ b.fget F.RED_STAT_PIV) && b.red.partner.sync == sySynced) Block.depart) s

/-- R378: a demoted unit is barred while IN frames of the last two cycles show the other unit's claim. -/
def Block.takeoverBarred (b : Block) : Bool :=
  b.red.demoted && b.red.foreign.any fun e => decide (low 32 ((b.lnkSeg e.1).seq + 2 ^ 32 - e.2) ≤ 2)

/-- The takeover: PRIMARY with the partner's epoch plus 1; `atOnce` where the partner fell silent. -/
def Block.takeOver (b : Block) (atOnce : Bool) : Block :=
  let b := b.olcPairLost
  let b := b.frcAlone
  let b := b.bePrimary (epochOf (b.regN Reg.RED_PCLAIM) + 1)
  let b := (b.stamp Reg.RED_LAST_TO_LO Reg.RED_LAST_TO_HI).incSat F.RED_TAKEOVER_CNT_COUNT
  let b := b.raiseEvt 0xB0 0
  let b := b.when atOnce fun b => b.setWon true
  b.roundBegin false

/-- TAKEOVER: after a declared departure at the unit's next round instant, at once where the partner is silent. -/
def execTakeover (s : State) : Host.Outcome State Fault Refusal := lift (fun b =>
  let may := b.inRounds && b.role == roleStandby && (b.sync == sySynced || b.sync == syUnmirrored || b.sync == syResyncing) && !b.takeoverBarred
  if may && b.red.received && b.red.roundAt.isSome then b.takeOver false
  else if may && b.partnerSilent then b.takeOver true
  else b) s

/-! ### RED commands (R382, R386) -/

/-- A command's result, and its event. -/
def Block.redDone (b : Block) (code : Nat) : Block := (b.fset F.RED_RES_CODE code).raiseEvt 0xB0 9

/-- A takeover, join or command runs, or a change package is ARMED. -/
def Block.redBusy (b : Block) : Bool :=
  b.red.joining || b.red.departed || b.red.partner.sync == sySyncing || b.olcAt == olcArmed

/-- The code of a command. -/
def Block.redJudge (b : Block) (cmd : Nat) : Nat :=
  match cmd with
  | 1 =>
    if !b.onPair ∨ b.role ≠ rolePrimary then 1
    else if b.redBusy then 4
    else if b.red.partner.sync ≠ sySynced ∨ !b.fgetB F.RED_STAT_PAIR_OK then 2
    else 0
  | 2 =>
    if !b.onPair ∨ b.role ≠ roleStandby ∨ b.sync ≠ sySyncing then 1
    else if b.red.cold then 0
    else if b.fgetB F.RED_STAT_PARTNER then 3
    else 1
  | _ =>
    if !b.onPair ∨ b.role ≠ roleStandby ∨ (b.sync ≠ sySynced ∧ b.sync ≠ syUnmirrored) then 1
    else if b.olcAt = olcArmed then 4
    else 0

/-- Every context begins again from INIT and VIDDEF; first cycles carry FIRST (R379). -/
def Block.restartAll (b : Block) : Block :=
  let b := b.forAll (b.ctxsIn csActive) fun b c => (b.abandon c).atBoundary c
  let b := b.forAll b.abcCtxs fun b c => b.reloadCtx c
  ({ b with globals := [] }.startTriggers)

/-- A value written to RED_CMD. Log: 81 (DEDUCED). -/
def Block.redCommand (b : Block) (v : Nat) : Block :=
  let b := b.fset F.RED_CMD_CMD 0
  let cmd := bits v 0 2
  if cmd = 0 then b
  else
    let code := b.redJudge cmd
    let b := b.redDone code
    if code ≠ 0 then b
    else match cmd with
      | 1 => b.depart
      | 2 => (b.restartAll).takeOver true
      | _ => b.resyncStart

def Block.redCmdWrite (b : Block) (r : Requester) (v : Nat) : Block := b.cmdWrite r Reg.RED_CMD v [] fun b => b.redCommand v

def execSwitch (r : Requester) (s : State) : Host.Outcome State Fault Refusal := lift (fun b => b.redCmdWrite r 1) s
def execTakeoverCold (r : Requester) (s : State) : Host.Outcome State Fault Refusal := lift (fun b => b.redCmdWrite r 2) s
def execResync (r : Requester) (s : State) : Host.Outcome State Fault Refusal := lift (fun b => b.redCmdWrite r 3) s

/-! ### Start and join (R380, R381) -/

/-- A unit on a pair base enters RUN or RUN-DEGRADED by command: it joins a running PRIMARY, or is PRIMARY.
Log: 80 (DEDUCED). -/
def Block.pairEnterRun (b : Block) : Block :=
  if !b.onPair then b
  else
    let p := b.red.partner
    let b := { b with red := { b.red with departed := false, received := false } }
    if b.fgetB F.RED_STAT_PAIR_OK ∧ p.role = rolePrimary ∧ (p.state = stRun ∨ p.state = stRunDegraded) then b.joinAs sySyncing
    else b.bePrimary (b.red.echoed + 1)

/-- The unit has waited for JOIN_WAIT. -/
def Block.joinWaited (b : Block) : Bool := decide (b.red.joinAt + 1000000 * b.fget F.RED_TIMING_JOIN_WAIT ≤ b.clk)

/-- JOIN_WAIT_EXPIRY: a partner that answered and is itself starting is waited for (R380). Log: 158 (DEDUCED). -/
def execJoinWaitExpiry (s : State) : Host.Outcome State Fault Refusal := lift (fun b =>
  if !b.red.joining || !b.joinWaited then b
  else if b.fgetB F.RED_STAT_PAIR_OK ∧ (b.red.partner.state = stStart ∨ b.red.partner.role = rolePrimary) ∧ b.pwr.base = .unitB then b
  else b.primaryBeside.finishStart b.runState 0) s

/-- A force entry as carried. -/
def joinForce (b : Block) (e : Nat × Nat × Nat × Nat × Nat) : FrcEntry :=
  { vid := e.1, tag := e.2.1, value := e.2.2.1, level := e.2.2.2.1, time := e.2.2.2.2,
    output := !(b.outsOf e.1).isEmpty, orphan := none }

/-- A number is added to a list of those copied, once. -/
def addOnce (l : List Nat) (n : Nat) : List Nat := if l.contains n then l else l ++ [n]

/-- The context, or the pattern of the logical slot, has been copied. -/
def Block.joinCopied (b : Block) (c : Nat) : Block := { b with red := { b.red with copied := addOnce b.red.copied c } }

def Block.joinPatCopied (b : Block) (l : Nat) : Block := { b with red := { b.red with patterns := addOnce b.red.patterns l } }

/-- A context that runs on the partner and is STOPPED here runs again, where it has a place. -/
def Block.joinRevive (b : Block) (c : Nat) : Block :=
  if b.ctxState c = csStopped ∧ b.fgetB (F.CTX_STATE_PLACED c) then
    ((b.fset (F.CTX_STATE_STOP_WHY c) 0).setCtxState c (b.restState c)).aimCtx c
  else b

/-- A context of the partner: its slots, flags, own globals and published values, and whether it is stopped. -/
def Block.joinContext (b : Block) (c : Nat) (slots : List Word) (flags : Nat) (own : List (Nat × Nat)) (stopped : Bool) (why : Nat) : Block :=
  let b := b.modCx c fun x => { x with slots := slots, flags := flags, own := own }
  let b := { b with globals := own.foldl (fun m (e : Nat × Nat) => mapSet m e.1 e.2) b.globals }
  (if stopped then b.stopCtx c why else b.joinRevive c).joinCopied c

/-- What a physical slot's pattern holds. -/
def Block.joinValues (b : Block) (k : Nat) (q : JoinPat) : Block :=
  match b.pat k with
  | some p => b.setPat k { p with
      vals := q.vals, rhs := q.rhs, sol := q.sol, factTau := q.tau, fact := q.factor, pend := q.pend, pendCert := q.pendCert }
  | none => b

/-- A pattern of the partner. -/
def Block.joinPattern (b : Block) (l : Nat) (q : JoinPat) : Block :=
  match b.psOf l with
  | none => b
  | some k => ((b.joinValues k q).setReg (Reg.SOL_FACT k) q.fact).joinPatCopied l

/-- The force table of the partner. -/
def Block.joinForces (b : Block) (table : List (Nat × FrcEntry)) : Block :=
  { b with frc := { b.frc with table := table, stored := table } }.frcShow.celRequest .forceTable

/-- An item arrives at the joining standby. -/
def Block.joinTake (b : Block) (i : JoinItem) : Block :=
  match i with
  | .context c slots flags own stopped why => b.joinContext c.val slots flags own stopped why
  | .pattern l p => b.joinPattern l.val p
  | .forces t => b.joinForces ((upto t.length).map fun i => (i, joinForce b (nth (0, 0, 0, 0, 0) t i)))
  | .hart ch vars status time => b.setHartItem ch.val { vars := vars, status := status, updated := true, time := time }

/-- Everything is copied: contexts and the patterns of the logical slots. -/
def Block.allCopied (b : Block) : Bool :=
  b.abcCtxs.all b.red.copied.contains && ((upto 8).filter fun l => (b.psOf l).isSome).all b.red.patterns.contains

/-- JOIN_CONTEXT_COPY: the primary sends the item, the joining standby takes it; the last one makes it SYNCED. A context
is taken between its cycles or STOPPED, a pattern while no job runs on it. Log: 208 (DEDUCED). -/
def execJoinContextCopy (item : JoinItem) (s : State) : Host.Outcome State Fault Refusal := lift (fun b =>
  let between := match item with
    | .context c _ _ _ _ _ => b.ctxState c.val != csActive
    | .pattern l _ => !b.sol.running.any fun r => r.job.logical == l.val
    | _ => true
  if !b.onPair || !b.fgetB F.RED_STAT_PAIR_OK || !between || b.ssp.stall then b
  else if b.role = rolePrimary then match item with
    | .context c _ _ _ _ _ =>
      let x := b.cx c.val
      b.send .pair "join context" ([c.val, x.flags, b.ctxState c.val, b.fget (F.CTX_STATE_STOP_WHY c.val)] ++
        x.slots.map BitVec.toNat ++ x.own.flatMap fun (e : Nat × Nat) => [e.1, e.2])
    | .pattern l _ => match (b.psOf l.val).bind b.pat with
      | some p => b.send .pair "join pattern" (l.val :: (p.vals ++ p.rhs ++ p.sol ++ p.fact.ents ++ p.fact.recip ++
          p.pend.ents ++ p.pend.recip))
      | none => b
    | .forces _ => b.send .pair "join forces" (b.frc.table.flatMap fun (e : Nat × FrcEntry) => [e.2.vid, e.2.tag, e.2.value, e.2.level, e.2.time])
    | .hart ch _ _ _ => b.send .pair "join hart" (ch.val :: (b.hartItem ch.val).vars)
  else if b.role = roleStandby ∧ (b.sync = sySyncing ∨ b.sync = syResyncing) then
    let b := b.pairHeard.joinTake item
    let b := (b.fset F.RED_SYNC_PROG_CONTEXTS (Nat.min b.red.copied.length 255)).fset F.RED_SYNC_PROG_PATTERNS b.red.patterns.length
    b.when b.allCopied fun b => { b with red := { b.red with demoted := false } }.setSync sySynced
  else b) s

/-! ### Running in step (R370 to R374) -/

/-- The standby takes items from the primary over PAIR. -/
def Block.takesMirror (b : Block) : Bool :=
  b.onPair && b.role == roleStandby && b.fgetB F.RED_STAT_PAIR_OK

/-- MIRROR_DATA_RX: written between cycles at once, else before the next dispatch. -/
def execMirrorDataRx (c : Fin 256) (slots own : List (Nat × Nat)) (s : State) : Host.Outcome State Fault Refusal := lift (fun b =>
  if !b.takesMirror then b
  else
    let b := b.pairHeard.modCx c.val fun x => { x with mirrorSlots := slots, mirrorOwn := own }
    if (b.cx c.val).act = .idle then b.applyMirror c.val else b) s

/-- The published result of a job slot, taken from the primary; a job that this unit runs in the slot ends with it. -/
def Block.pairResult (b : Block) (slot status iters bound : Nat) (x : List Nat) : Block :=
  let run := b.sol.running.filter fun (r : SolRun) => r.job.slot == slot
  let wait := b.sol.waiting.filter fun (j : SolJob) => j.slot == slot
  match run, wait with
  | some r, _ => (((b.solPublish r.job status iters bound x).solLeave r).solClose r.job (bits status 0 8) r.ts).solShow
  | none, some j =>
    let b := b.solPublish j status iters bound x
    ({ b with sol := { b.sol with waiting := none } }.solClose j (bits status 0 8) b.clk).solShow
  | none, none => b

/-- The standby's job of a context takes the mode that the primary has fixed (R372). -/
def Block.jobModeSet (b : Block) (c : Nat) (mode : Option Bool) : Block :=
  match mode with
  | none => b
  | some m => { b with sol := { b.sol with waiting := b.sol.waiting.map fun (j : SolJob) => if j.ctx = c then { j with pairFloat := m } else j } }

/-- PAIR_LATCH_SET_RX. -/
def execPairLatchSetRx (p : PairSet) (s : State) : Host.Outcome State Fault Refusal := lift (fun b =>
  match p with
  | .receipt m => b.when (b.onPair && b.fgetB F.RED_STAT_PAIR_OK) fun b =>
    { b with red := { b.red with pairAt := b.clk, partnerReceipt := low 128 m } }
  | p =>
  if !b.takesMirror then b
  else match p with
  | .receipt _ => b
  | .latch c t p0 p1 els lag =>
    let b := b.setRegN Reg.PAIR_LAG_MAX (Nat.max (b.regN Reg.PAIR_LAG_MAX) (Nat.min lag (2 ^ 32 - 1)))
    b.pairHeard.modCx c.val fun x => { x with
      latchT := t
      pos0 := p0
      pos1 := p1
      inputs := els.foldl (fun l e => setNth l e.1 (⟨e.2.1, e.2.2.1, e.2.2.2⟩ : InEl)) x.inputs }
  | .answer c code data mode =>
    (b.pairHeard.modCx c.val fun x => { x with wait := x.wait.map fun (a : Answer) =>
      { a with code := code, data := a.data.map fun (d : Nat × Bool × Nat) => (d.1, d.2.1, data) } }).jobModeSet c.val mode
  | .result slot status iters bound x => b.pairHeard.pairResult slot.val status iters bound x) s

/-- A force command of the primary waits for its instant (R161). -/
def Block.pairForce (b : Block) (cmd vid tag value level time at_ : Nat) : Block :=
  let e : FrcEntry := { vid := vid, tag := tag, value := value, level := level, time := time
                        output := !(b.outsOf vid).isEmpty, orphan := (b.forceFor vid).bind (·.orphan) }
  ({ b with frc := { b.frc with agreed := some ({ cmd := cmd, entry := e, req := .sup }, at_) } }.celRequest .forceTable).frcDue

/-- The primary's package is verified on this unit too (R174). -/
def Block.pairPackage (b : Block) (w : List Nat) : Block :=
  let b := b.dropStaged
  let b := { b with olc := { marker := b.olc.marker, pkg := w }, cel := { b.cel with package := w } }
  let b := ((b.setRegN Reg.OLC_BASE_VIN (fU32 w 0x0C)).setRegN Reg.OLC_NEW_VIN (fU32 w 0x10)).fset F.OLC_STAT_STATE olcVerifying
  b.olcVerified true

/-- The partner has ended the package: one it refused ends with OLC_PAIR (R174). Log: 163 (DEDUCED). -/
def Block.pairEnded (b : Block) (refused : Bool) : Block :=
  b.when (1 ≤ b.olcAt && decide (b.olcAt ≤ olcArmed)) fun b => if refused then b.olcDrop olcPair 4 else b.olcDrop olcAborted 5

/-- PAIR_COMMAND_RX: the standby takes pair commands and acts at the latch or commit instant that the primary names; the
end of a package passes either way. Log: 84 (DEDUCED). -/
def execPairCommandRx (c : PairCmd) (s : State) : Host.Outcome State Fault Refusal := lift (fun b =>
  if !b.takesMirror then
    match c with
    | .ended refused => b.when (b.onPair && b.role == rolePrimary && b.fgetB F.RED_STAT_PAIR_OK) fun b => b.pairHeard.pairEnded refused
    | _ => b
  else
  let b := b.pairHeard
  match c with
  | .force cmd vid tag value level time at_ => b.when (cmd.val != 0) fun b => b.pairForce cmd.val vid tag value level time at_
  | .package words => b.when (b.olcAt != olcArmed && b.olcAt != olcSwitching) fun b => b.pairPackage (words.map BitVec.toNat)
  | .arm => b.when (b.olcAt == olcStaged) fun b => if b.armReady then b.olcArm else b.olcEnd olcPair 4
  | .commit at_ => b.when (b.olcAt == olcArmed) fun b => { b with olc := { b.olc with switchAt := some at_ } }.olcFollow
  | .ended refused => b.pairEnded refused
  | .epoch _ => b.epochDown) s

/-- PAIR_TIME_MESSAGE: only a STANDBY uses it as a source (R384). -/
def execPairTimeMessage (offset rate : Int) (delayNs : Nat) (s : State) : Host.Outcome State Fault Refusal := lift (fun b =>
  if !b.powered || !b.fgetB F.PAIR_STAT_LINK then b
  else
    let b := b.pairHeard.send .pair "time" [b.tsuSec, b.tsuNs]
    let b := b.setRegN Reg.PAIR_DELAY (Nat.min delayNs (2 ^ 32 - 1))
    let b := b.setRegI Reg.PAIR_TIME_OFS (clampI (2 ^ 31 - 1) offset)
    if b.onPair && b.role == roleStandby then (b.raiseEvt 0xB1 4).tsuUpdate .pair (65536 * offset) rate else b) s

/-! ### The applied claim in IN frames (R365, R378) -/

/-- The unit was demoted by a station's echo. -/
def Block.markDemoted (b : Block) : Block := { b with red := { b.red with demoted := true } }

/-- A primary that a station's echo demotes. -/
def Block.echoDemote (b : Block) : Block :=
  (b.demote syUnmirrored).markDemoted.recRegs 0xB0 1 [Reg.RED_STAT, Reg.RED_CLAIM, Reg.RED_APPLIED] []

/-- The frame before this one of the segment showed a higher claim as well. -/
def Block.higherTwice (b : Block) (seg seq : Nat) : Bool :=
  mapGet none (b.red.higher.map fun e => (e.1, some e.2)) seg == some (low 32 (seq + 2 ^ 32 - 1))

/-- A claim of the other unit echoed in a frame; a primary is demoted by a higher one in two frames that follow each other. -/
def Block.echoForeign (b : Block) (seg seq claim : Nat) : Block :=
  let b := { b with red := { b.red with foreign := mapSet b.red.foreign seg seq } }
  if b.role ≠ rolePrimary ∨ claim ≤ b.regN Reg.RED_CLAIM then b
  else { b with red := { b.red with higher := mapSet b.red.higher seg seq } }.when (b.higherTwice seg seq) Block.echoDemote

/-- The claim of a valid IN frame: of the join wait, or of the other unit. -/
def Block.pairEcho (b : Block) (seg seq claim : Nat) : Block :=
  let e := epochOf claim
  if !b.onPair ∨ (b.red.oldEpoch ≠ 0 ∧ e = b.red.oldEpoch) then b
  else
    let b := b.when b.red.joining fun b => { b with red := { b.red with echoed := Nat.max b.red.echoed e } }
    if claim % 2 = b.fget F.RED_STAT_UNIT_A then b else b.echoForeign seg seq claim

/-- LINK_IN_FRAME. Log: 36 (DEDUCED). -/
def execLinkInFrame (f : LinkIn) (s : State) : Host.Outcome State Fault Refusal := lift (fun b =>
  match b.lnkCfg.entry f.src with
  | some e =>
    let ok := b.lnkInOk f e
    let b := b.lnkIn f
    if ok then b.pairEcho e.seg f.seq f.claim else b
  | none => b.lnkIn f) s

end Sys2Proof.Machine
end

