-- ==== Sys2Proof/Machine/Label.lean ====
section
/-! DEFINITION. The bistable label: bands, waveforms, updates, recovery records and its commands (R437 to R445, R455).
Log: 89 (DEDUCED). -/

namespace Sys2Proof.Machine

/-- Lengthen or cut a list to `n` elements. -/
def fillTo {α : Type} (d : α) (n : Nat) (l : List α) : List α := l.take n ++ List.replicate (n - l.length) d

/-- Pixels of a region (R437). -/
def regionSize (r : Nat) : Nat := if r = 0 ∨ r = 4 then 9472 else 4736

/-- The six regions. -/
def regions : List Nat := upto 6

/-! ### Bands (R440) -/

/-- Boundary between bands k and k + 1, in 1/16 °C. -/
def bandBound (k : Nat) : Int := ((12 * k : Nat) - 13) * 16

/-- Frames of grey transitions in a band. -/
def bandFrames (k : Nat) : Nat := nth 24 [48, 44, 40, 36, 30, 28, 26, 24] k

/-- Drive voltage of a band, in mV. -/
def bandVdrv (k : Nat) : Nat := nth 13000 [18000, 17000, 16000, 15000, 15000, 14000, 13500, 13000] k

/-- One move to a neighbour, 1 °C or more beyond the common boundary. -/
def bandMove (t : Int) (k : Nat) : Nat :=
  if k < 7 ∧ bandBound k + 16 ≤ t then k + 1
  else if 0 < k ∧ t ≤ bandBound (k - 1) - 16 then k - 1
  else k

/-- The band that a temperature leads to from band `k`. -/
def bandFor (t : Int) (k : Nat) : Nat := (upto 7).foldl (fun k _ => bandMove t k) k

/-! ### Pixels (R439, R441) -/

/-- Frames of a normal transition. -/
def waveFrames (band old new : Nat) : Nat :=
  if old = new then 0
  else if (old = 0 ∧ new = 3) ∨ (old = 3 ∧ new = 0) then 24
  else bandFrames band

/-- A request asks a pixel for a level; a busy pixel is deferred, the latest target standing. -/
def Px.ask (p : Px) (t : Nat) : Px :=
  match p.wave with
  | some _ => { p with want := some t }
  | none => { p with want := if p.level = t then none else some t }

/-- One frame of a running waveform; the last one leaves the pixel at the waveform's new level. -/
def Px.drive (p : Px) : Px :=
  match p.wave with
  | some (t, n) => if n ≤ 1 then { p with level := t, wave := none } else { p with wave := some (t, n - 1) }
  | none => p

/-- An idle pixel starts toward its target. -/
def Px.start (band : Nat) (p : Px) : Px :=
  match p.wave, p.want with
  | none, some t =>
    if p.level = t then { p with want := none } else { p with want := none, wave := some (t, waveFrames band p.level t) }
  | _, _ => p

/-! ### Regions (R441, R442) -/

/-- Its pixels. -/
def Block.pixels (b : Block) (r : Nat) : List Px := fillTo {} (regionSize r) (b.region r).px

/-- A pixel of the region is busy. -/
def Region.busy (g : Region) : Bool := g.px.any fun p => p.wave.isSome

/-- A pixel of the region waits for its turn. -/
def Region.waits (g : Region) : Bool := g.px.any fun p => p.want.isSome

/-- A busy pixel has a deferred target. -/
def Region.defers (g : Region) : Bool := g.px.any fun p => p.wave.isSome && p.want.isSome

/-- Some pixel of the label is busy. -/
def Block.labelBusy (b : Block) : Bool := regions.any fun r => (b.region r).busy

/-- BUSY and PENDING. -/
def Block.labelShow (b : Block) : Block :=
  let mask (f : Region → Bool) : Nat := (regions.map fun r => if f (b.region r) then 2 ^ r else 0).sum
  (b.fset F.DSB_STAT_BUSY (mask Region.busy)).fset F.DSB_STAT_PENDING (mask Region.defers)

/-- The force marker: blank while FRC_STAT.COUNT is 0, else "FORCED" and the count in black (R159, R437). -/
def Block.forceMarker (b : Block) : List Nat :=
  let n := b.fget F.FRC_STAT_COUNT
  (upto (regionSize 5)).map fun px => if n ≠ 0 ∧ Config.markerPixel n px then 3 else 0

/-- The content of a region as it stands: the force marker, a held change, else what was last requested. -/
def Block.labelContent (b : Block) (r : Nat) : List Nat :=
  if r = 5 then b.forceMarker else (b.region r).held.getD (b.region r).target

/-- An update of a region begins: its UPDATE record is requested, and its pixels start once that is durable. -/
def Block.labelUpdate (b : Block) (r : Nat) (levels : List Nat) : Block :=
  let g := b.region r
  let t := fillTo 0 (regionSize r) levels
  let px := (b.pixels r).zipWith Px.ask t
  let phase := if g.busy || g.phase == 2 then 2 else 1
  let g' := { g with px := px, phase := phase, target := t, band := b.fget F.DSB_STAT_BAND, started := some b.clk, held := none }
  let b := ((b.setRegion r g').celRequest (.label r)).labelShow
  b.when g.busy fun b => b.raiseEvt 0xE0 1

/-- MIN_INTV holds a change of the region (R438). -/
def Block.labelHeld (b : Block) (r : Nat) : Bool :=
  match (b.region r).started with
  | some t => (r == 0 || r == 2 || r == 4) && decide (b.clk < t + b.fget F.DSB_CFG_MIN_INTV * 1000000000)
  | none => false

/-- LABEL_UPDATE_REQUEST: the force marker follows the table whatever levels are given.
Log: 86 (DESIGN CHOICE), 88 (DEDUCED). -/
def execLabelUpdateRequest (region : Fin 6) (levels : List (Fin 4)) (s : State) : Host.Outcome State Fault Refusal := lift (fun b =>
  let r := region.val
  let l := if r = 5 then b.forceMarker else fillTo 0 (regionSize r) (levels.map Fin.val)
  if !b.powered || b.fgetB F.DSB_STAT_PANEL_FAULT then b
  else if b.labelHeld r then b.setRegion r { b.region r with held := some l }
  else b.labelUpdate r l) s

/-- LABEL_INTERVAL_EXPIRY: before MIN_INTV has passed nothing is drawn (R438). -/
def execLabelIntervalExpiry (region : Fin 6) (s : State) : Host.Outcome State Fault Refusal := lift (fun b =>
  match (b.region region.val).held with
  | some l =>
    if !b.powered || b.fgetB F.DSB_STAT_PANEL_FAULT || b.labelHeld region.val then b else b.labelUpdate region.val l
  | none => b) s

/-! ### Frames (R439 to R444) -/

/-- SHOWN and then UPDATE of a region are to be written (R442). -/
def Block.labelRecords (b : Block) (r : Nat) : Block := (b.celRequest (.shown r)).celRequest (.label r)

/-- Drive one region for a frame: settle, start what its durable record lets start, complete. -/
def Block.regionFrame (b : Block) (r : Nat) : Block :=
  let g := b.region r
  let go := !b.fgetB F.DSB_STAT_CLEAN && !b.cel.requests.contains (.label r)
  let settled := (b.pixels r).map Px.drive
  let px := if go then settled.map (Px.start (b.fget F.DSB_STAT_BAND)) else settled
  let begun := (upto px.length).zip (settled.zip px) |>.filter fun (e : Nat × Px × Px) => e.2.1.wave.isNone && e.2.2.wave.isSome
  let g := { g with px := px }
  let b := b.when (!begun.isEmpty) fun b => b.send .label "drive"
    (r :: begun.flatMap fun (e : Nat × Px × Px) => [e.1, e.2.1.level, ((e.2.2.wave.map fun w => w.1).getD 0)])
  if g.phase ≠ 0 && !g.busy && !g.waits && !b.fgetB F.DSB_STAT_CLEAN then
    (((b.setRegion r { g with shown := g.target, phase := 0 }).labelRecords r).incWrap F.DSB_UPD_CNT_COUNT).raiseEvt 0xE0 0
  else b.setRegion r g

/-- The full-panel clean cycle starts: every pixel from unknown to level 0 with the clean table. -/
def Block.cleanBegin (b : Block) : Block :=
  let b := b.forAll regions fun b r =>
    b.setRegion r { b.region r with px := (b.pixels r).map fun (p : Px) => { p with level := 4, wave := some (0, 48) } }
  ((b.fset F.DSB_STAT_CLEAN 1).send .label "clean" []).raiseEvt 0xE0 3

/-- Every region is redrawn toward its content. -/
def Block.redrawAll (b : Block) : Block := b.forAll regions fun b r => b.labelUpdate r (b.labelContent r)

/-- The clean cycle has ended: SHOWN of every region is all 0, and the content is drawn. -/
def Block.cleanEnd (b : Block) : Block :=
  let b := b.fset F.DSB_STAT_CLEAN 0
  let b := b.forAll regions fun b r => (b.setRegion r { b.region r with shown := List.replicate (regionSize r) 0 }).celRequest (.shown r)
  b.redrawAll

/-- A waiting command starts at a frame in which no pixel is busy; a redraw that is complete ends its command. -/
def Block.labelCommand (b : Block) : Block :=
  let b := if b.dsb.redraw ≠ 0 && !b.fgetB F.DSB_STAT_CLEAN && regions.all fun r => (b.region r).phase == 0 then
      { b with dsb := { b.dsb with redraw := 0 } }.raiseEvt 0xE0 5
    else b
  let w := b.dsb.wait
  if w = 0 || b.labelBusy then b
  else
    let b := { b with dsb := { b.dsb with wait := 0, redraw := w } }
    if w = 2 then b.cleanBegin else b.redrawAll

/-- LABEL_FRAME: the label's temperature in 1/16 °C; `tableBad`: the waveform table has an uncorrectable error.
Log: 87 (DESIGN CHOICE), 88 (DEDUCED). -/
def execLabelFrame (temp : Int) (tableBad : Bool) (s : State) : Host.Outcome State Fault Refusal := lift (fun b =>
  if !b.powered || b.fgetB F.DSB_STAT_PANEL_FAULT || !b.periodic .labelFrame 20000000 then b
  else
  let b := b.timed .labelFrame
  if tableBad then (b.fset F.DSB_STAT_PANEL_FAULT 1).raiseEvt 0xE0 4
  else
    let b := b.setRegN Reg.DSB_TEMP (temp % 65536).toNat
    let idle := !(regions.any fun r => (b.pixels r).any fun p => p.drive.wave.isSome)
    let b := b.when idle fun b => b.fset F.DSB_STAT_BAND (bandFor temp (b.fget F.DSB_STAT_BAND))
    let b := b.setRegN Reg.DSB_VDRV (bandVdrv (b.fget F.DSB_STAT_BAND))
    let b := b.forAll regions Block.regionFrame
    let b := b.when (b.fgetB F.DSB_STAT_CLEAN && !b.labelBusy) Block.cleanEnd
    b.labelCommand.labelShow) s

/-! ### Commands (R444, R455) -/

/-- A value written to DSB_CMD. -/
def Block.dsbCommand (b : Block) (v : Nat) : Block :=
  let b := b.fset F.DSB_CMD_CMD 0
  let cmd := bits v 0 2
  if cmd = 0 ∨ cmd = 3 then b
  else if b.fgetB F.DSB_STAT_PANEL_FAULT then (b.fset F.DSB_RES_CODE 2).raiseEvt 0xE0 5
  else if b.fgetB F.DSB_STAT_CLEAN then b.fset F.DSB_RES_CODE 1
  else { b with dsb := { b.dsb with wait := Nat.max b.dsb.wait cmd } }.fset F.DSB_RES_CODE 0

def Block.dsbCmdWrite (b : Block) (r : Requester) (v : Nat) : Block := b.cmdWrite r Reg.DSB_CMD v [] fun b => b.dsbCommand v

def execRefresh (r : Requester) (s : State) : Host.Outcome State Fault Refusal := lift (fun b => b.dsbCmdWrite r 1) s
def execClean (r : Requester) (s : State) : Host.Outcome State Fault Refusal := lift (fun b => b.dsbCmdWrite r 2) s

/-! ### Recovery at start (R443) -/

/-- The clean table drives a region at a start: in phase 1 from SHOWN, in phase 2 and where a record is lost from unknown, each
pixel's level before and after it. -/
def Block.recoverDrive (b : Block) (lost : Bool) (r : Nat) (levels : List Nat) : Block :=
  let g := (b.region r).durable
  let old := if lost || g.phase == 2 then List.replicate (regionSize r) 4 else fillTo 0 (regionSize r) g.shown
  b.when (lost || g.phase != 0) fun b => b.send .label "clean drive" (r :: (old.zip levels).flatMap fun (e : Nat × Nat) => [e.1, e.2])

/-- The label is recovered from its durable records: an update that was under way is driven to its target; a lost record clears
the whole panel. -/
def Block.labelRecover (b : Block) (lost : Bool) : Block :=
  let was := regions.any fun r => (b.region r).durable.phase != 0
  let b := b.forAll regions fun b r =>
    let g := b.region r
    let levels := if lost then List.replicate (regionSize r) 0 else if g.durable.phase = 0 then g.durable.shown else g.durable.target
    let levels := fillTo 0 (regionSize r) levels
    (b.recoverDrive lost r levels).setRegion r { g with
      px := levels.map fun l => { level := l }
      shown := levels, target := levels, phase := 0, started := none, held := none }
  let b := { b with dsb := { b.dsb with wait := 0, redraw := 0 } }
  let b := b.when (was || lost) fun b => b.forAll regions Block.labelRecords
  (b.when lost fun b => b.raiseEvt 0xE0 3).when (was && !lost) fun b => b.raiseEvt 0xE0 2

/-- Once the label is recovered its force marker is drawn by an ordinary update, where there is one to draw or to clear; the
other regions stand until content is requested for them (R443). Log: 89 (DEDUCED). -/
def Block.markerDraw (b : Block) : Block :=
  let d := (b.region 5).durable
  let stale := d.shown.any (· != 0) || d.target.any (· != 0)
  if (b.fget F.FRC_STAT_COUNT = 0 && !stale) || b.fgetB F.DSB_STAT_PANEL_FAULT then b else b.labelUpdate 5 b.forceMarker

end Sys2Proof.Machine
end

