-- ==== Sys2Proof/Machine/Power.lean ====
section
/-! DEFINITION. The core supply: qualification, loss and return of inputs, ride-through, power fail, power-down; faults of the supervisor and of the module reference; the SFP pins (R16, R17, R35 to R37, R46 to R50, R413).
Log: 90 (DEDUCED). -/

namespace Sys2Proof.Machine

/-! ### Inputs (R36, R37) -/

/-- The status and voltage of a core input. -/
def Block.cpShow (b : Block) (cp mv : Nat) : Block :=
  let b := b.fsetB ⟨Reg.PWR_CP_STAT, cp, 1⟩ (nth false b.pwr.cpIn cp)
  let b := b.fsetB ⟨Reg.PWR_CP_STAT, 2 + cp, 1⟩ (nth false b.pwr.cpDisconnected cp)
  b.fset ⟨Reg.PWR_CP_V, 16 * cp, 16⟩ (Nat.min mv 65535)

/-- An input is in range, or lost. -/
def Block.cpSet (b : Block) (cp mv : Nat) (ok : Bool) : Block :=
  { b with pwr := { b.pwr with cpIn := setNth b.pwr.cpIn cp ok } }.cpShow cp mv

/-- A change of an input in a powered module is reported and recorded. -/
def Block.cpReport (b : Block) (evt : Nat) : Block :=
  b.when b.powered fun b => b.event 0x01 evt [Reg.PWR_CP_STAT, Reg.PWR_CP_V]

/-- An input is lost. -/
def Block.cpLost (b : Block) (cp mv : Nat) : Block :=
  let was := nth false b.pwr.cpIn cp
  let b := b.cpSet cp mv false
  b.when was fun b => b.cpReport (2 + cp)

/-- An input is in range again. -/
def Block.cpReturn (b : Block) (cp mv : Nat) : Block :=
  let was := nth false b.pwr.cpIn cp
  let b := b.cpSet cp mv true
  b.when (!was) fun b => b.cpReport (4 + cp)

/-- An unpowered module begins input qualification (R46, R48). -/
def Block.qualify (b : Block) : Block :=
  if b.pwr.phase = .off ∨ b.pwr.phase = .down then { b with pwr := { b.pwr with phase := .qualify, t0 := b.clk } } else b

/-- CORE_INPUT_RISE: an input above 18.0 V; a disconnected input counts as lost. -/
def execCoreInputRise (cp : Fin 2) (mv : Nat) (s : State) : Host.Outcome State Fault Refusal := lift (fun b =>
  if nth false b.pwr.cpDisconnected cp.val then b else (b.cpReturn cp.val mv).qualify) s

/-- INPUT_QUALIFICATION_END: 100 ms of qualification have passed (R46). -/
def execInputQualificationEnd (s : State) : Host.Outcome State Fault Refusal := lift (fun b =>
  if b.pwr.phase = .qualify ∧ b.pwr.t0 + 100000000 ≤ b.clk then { b with pwr := { b.pwr with phase := .rails } } else b) s

def execCoreInputLost (cp : Fin 2) (mv : Nat) (s : State) : Host.Outcome State Fault Refusal := lift (fun b => b.cpLost cp.val mv) s

def execCoreInputReturn (cp : Fin 2) (mv : Nat) (s : State) : Host.Outcome State Fault Refusal := lift (fun b =>
  if nth false b.pwr.cpDisconnected cp.val then b else (b.cpReturn cp.val mv).when (decide (18000 ≤ mv)) Block.qualify) s

/-- CORE_OVERVOLTAGE_DISCONNECT: the input is treated as lost. -/
def execCoreOvervoltageDisconnect (cp : Fin 2) (mv : Nat) (s : State) : Host.Outcome State Fault Refusal := lift (fun b =>
  { b with pwr := { b.pwr with cpDisconnected := setNth b.pwr.cpDisconnected cp.val true } }.cpLost cp.val mv) s

/-- CORE_OVERVOLTAGE_RECONNECT: the input returns; an unpowered module begins to qualify it from 18.0 V. -/
def execCoreOvervoltageReconnect (cp : Fin 2) (mv : Nat) (s : State) : Host.Outcome State Fault Refusal := lift (fun b =>
  if !nth false b.pwr.cpDisconnected cp.val then b
  else
    let b := { b with pwr := { b.pwr with cpDisconnected := setNth b.pwr.cpDisconnected cp.val false } }
    if mv < 18000 then b.cpShow cp.val mv else (b.cpReturn cp.val mv).qualify) s

/-! ### Interruptions and power-down (R46, R48 to R50, R413) -/

/-- CORE_BUS_UNDERVOLTAGE: t0 of the power-down table; before power good the power-up begins again. -/
def execCoreBusUndervoltage (s : State) : Host.Outcome State Fault Refusal := lift (fun b =>
  match b.pwr.phase with
  | .good => { b with pwr := { b.pwr with phase := .ride, t0 := b.clk } }
  | .qualify | .rails => { b with pwr := { b.pwr with phase := .off } }
  | .off | .ride | .failing | .down => b) s

/-- CORE_INTERRUPTION_END: nothing has changed; the duration is recorded in µs. -/
def execCoreInterruptionEnd (s : State) : Host.Outcome State Fault Refusal := lift (fun b =>
  if b.pwr.phase = .ride then
    let b := { b with pwr := { b.pwr with phase := .good } }
    b.recRegs 0x01 0xFF [Reg.PWR_CP_STAT, Reg.PWR_CP_V] [(b.clk - b.pwr.t0) / 1000]
  else b) s

/-- The POWER_LOSS record (R405). -/
def Block.powerLossRec (b : Block) : EvRec :=
  b.mkRec 3 0 3 0 [low 32 b.tsuSec, low 32 (b.tsuSec / 2 ^ 32), b.tsuNs, b.regN Reg.PWR_CP_V, b.modState]

/-- POWER_FAIL_COMMIT: queued records are lost, the POWER_LOSS record alone is started, a running cellar write
completes, and a PRIMARY declares its departure; 10 ms after t0 (R48). Log: 77 (DEDUCED). -/
def execPowerFailCommit (s : State) : Host.Outcome State Fault Refusal := lift (fun b =>
  if b.pwr.phase = .ride ∧ b.pwr.t0 + 10000000 ≤ b.clk then
    let b := b.depart
    let r := b.powerLossRec
    let b := { b with
      pwr := { b.pwr with phase := .failing }
      evr := { b.evr with queue := [], island := [], refusedFill := 0 }
      cel := { b.cel with requests := b.cel.requests.take 1 } }
    b.recQueue r
  else b) s

/-- The island at power-down: its switches open and it enters SAFE-OFF, or keeps LOCKOUT (R49, R50). -/
def Block.islPowerDown (b : Block) : Block :=
  let b := { b with isl := { b.isl with phase := .none, started := false, first := false, request := false } }
  if b.islState = isLockout then b.islShow else b.islEnter isSafeOff 2

/-- What an unpowered module no longer holds. -/
def Block.unpower (b : Block) : Block :=
  { b with
    pwr := { b.pwr with phase := .down, completed := false, frontEnds := false, released := false, holdup := false }
    evr := { b.evr with queue := [], island := [] }
    cel := { b.cel with requests := [] }
    red := { b.red with won := false, round := false } }

/-- POWER_DOWN_OUTPUTS_OFF: cycles, transmission and outputs end; records not yet durable and the sessions are gone. An
input that has returned meanwhile is qualified for a fresh start; 15 ms after t0 (R48). Log: 91 (DEDUCED). -/
def execPowerDownOutputsOff (s : State) : Host.Outcome State Fault Refusal := lift (fun b =>
  if b.pwr.phase = .failing ∧ b.pwr.t0 + 15000000 ≤ b.clk then
    let b := b.abandonAll.solAbortRun.solWithdraw
    let b := b.forAll (b.ssp.sessions.map (·.num)) Block.closeSession
    let b := b.canSilence.islPowerDown.unpower
    let b := ((b.lockAll.fset F.SYS_STATE_STATE stStart).fset F.PWR_CP_STAT_HOLDUP 0).chRefreshAll
    if b.pwr.cpIn.any id then b.qualify else b
  else b) s

/-- HOLD_UP_STORE_CHARGED (R47). -/
def execHoldUpStoreCharged (s : State) : Host.Outcome State Fault Refusal := lift (fun b =>
  if b.powered then { b with pwr := { b.pwr with holdup := true } }.fset F.PWR_CP_STAT_HOLDUP 1 else b) s

/-! ### Faults that end in HALT (R11, R16, R17) -/

/-- SUPERVISOR_WATCHDOG_EXPIRY. -/
def execSupervisorWatchdogExpiry (s : State) : Host.Outcome State Fault Refusal := lift (fun b =>
  if b.powered then b.changeState stHalt 4 else b) s

/-- REFERENCE_FAULT: reported on the SAF page; the island's own state stays. -/
def execReferenceFault (s : State) : Host.Outcome State Fault Refusal := lift (fun b =>
  if b.powered then ((b.fset F.SAF_CLOCK_REF_FAULT 1).raiseEvt 0xC0 6).changeState stHalt 4 else b) s

/-! ### The SFP pins (R35) -/

/-- PAIR_STAT shows the pins. -/
def Block.sfpShow (b : Block) : Block :=
  ((b.fsetB F.PAIR_STAT_ABSENT b.pwr.sfpAbs).fsetB F.PAIR_STAT_LOS b.pwr.sfpLos).fsetB F.PAIR_STAT_TXFLT b.pwr.sfpTxFlt

/-- SFP_STATUS_CHANGE: with SFP_ABS high there is no PAIR port. -/
def execSfpStatusChange (abs los txFlt : Bool) (s : State) : Host.Outcome State Fault Refusal := lift (fun b =>
  let old := b.pwr
  if old.sfpAbs = abs ∧ old.sfpLos = los ∧ old.sfpTxFlt = txFlt then b
  else
    let b := { b with pwr := { b.pwr with sfpAbs := abs, sfpLos := los, sfpTxFlt := txFlt } }
    let b := b.sfpShow
    let b := b.when ((abs && !old.sfpAbs) || (los && !old.sfpLos) || (txFlt && !old.sfpTxFlt)) fun b => b.raiseEvt 0xB1 2
    b.when abs Block.pairLinkDown) s

end Sys2Proof.Machine
end

