-- ==== Sys2Proof/Machine/Update.lean ====
section
/-! DEFINITION. Stored vintages, the cask and its commands, racking (R417, R419, R421 to R426, R459). -/

namespace Sys2Proof.Machine

/-! ### Codes (R423) and cask states (R419) -/

def updOk : Nat := 0
def updState : Nat := 1
def updManifest : Nat := 2
def updHardware : Nat := 3
def updSize : Nat := 4
def updVersion : Nat := 5
def updFirmware : Nat := 6
def updPairVersion : Nat := 7
def updPairApp : Nat := 8
def updReadonly : Nat := 9
def updNoFallback : Nat := 10
def updRackFail : Nat := 11

def ckEmpty : Nat := 0
def ckReceiving : Nat := 1
def ckComplete : Nat := 2
def ckMarked : Nat := 3
def ckInvalid : Nat := 4

/-- UPD_CASK.STATE. -/
def Block.cask (b : Block) : Nat := b.fget F.UPD_CASK_STATE

/-! ### Vintages in force (R417, R425) -/

/-- The application vintage that is loaded at start: the active place, else the fallback. -/
def Block.storedApp (b : Block) : Option Vintage := b.upd.appAct.orElse fun _ => b.upd.appFb

/-- Number of an optional vintage; 0: none. -/
def vinNumber (v : Option Vintage) : Nat := (v.map (·.number)).getD 0

/-- The vintage of a kind in force; for an application with its committed packages. -/
def Block.inForce (b : Block) (kind : Nat) : Nat :=
  if kind = 1 then vinNumber b.runningFw else (b.prog.map (·.vintage)).getD 0

/-- UPD_FW_ACT to UPD_APP_FB. Log: 95 (DEDUCED). -/
def Block.vinShow (b : Block) : Block :=
  (((b.setRegN Reg.UPD_FW_ACT (vinNumber b.runningFw)).setRegN Reg.UPD_FW_FB (vinNumber b.upd.fwFb)).setRegN
    Reg.UPD_APP_ACT (vinNumber b.storedApp)).setRegN Reg.UPD_APP_FB (vinNumber b.upd.appFb)

/-- The cask's content registers. -/
def Block.caskShow (b : Block) : Block :=
  let man := b.upd.cask.bind (·.man)
  let b := b.fset F.UPD_CASK_KIND ((man.map (·.kind)).getD 0)
  let b := (b.setRegN Reg.UPD_CASK_VIN ((man.map (·.vintage)).getD 0)).setRegN Reg.UPD_CASK_TOTAL ((man.map (·.chunks)).getD 0)
  b.setRegN Reg.UPD_CASK_DONE ((b.upd.cask.map fun c => c.chunks.length).getD 0)

/-- Put the cask in a state. -/
def Block.caskIn (b : Block) (st : Nat) : Block := ((b.fset F.UPD_CASK_STATE st).caskShow).celRequest .cask

/-- Empty the cask. -/
def Block.caskEmpty (b : Block) : Block :=
  ({ b with upd := { b.upd with cask := none } }.fset F.UPD_CASK_DOWNGRADE 0).caskIn ckEmpty

/-- The cask is refused. -/
def Block.caskInvalid (b : Block) (code : Nat) : Block := (b.caskIn ckInvalid).fset F.UPD_RES_CODE code

/-! ### Commands (R421 to R423) -/

/-- A command is done. -/
def Block.updDone (b : Block) (code : Nat) : Block := (b.fset F.UPD_RES_CODE code).raiseEvt 0xD8 7

/-- A partner is present on a pair base. -/
def Block.withPartner (b : Block) : Bool := b.onPair && b.fgetB F.RED_STAT_PARTNER

/-- The checks of MARK. Log: 94 (DEDUCED). -/
def Block.markJudge (b : Block) (m : Manifest) (downgrade : Bool) : Nat :=
  if m.vintage ≤ b.inForce m.kind ∧ !downgrade then updVersion
  else if m.kind = 2 ∧ b.inForce 1 < m.fwMin then updFirmware
  else if m.kind = 1 ∧ b.withPartner ∧ (commonPiv (m.pivMin, m.pivMax) (b.red.partner.verLo, b.red.partner.verHi)).isNone then updPairVersion
  else if m.kind = 2 ∧ b.withPartner ∧ b.red.partner.marked ≠ m.vintage then updPairApp
  else if b.fgetB F.CEL_STAT_READONLY then updReadonly
  else 0

/-- The manifest of a stored vintage; one loaded in COMMISSION has its number alone. -/
def Vintage.manifest (v : Vintage) (kind : Nat) : Manifest :=
  v.man.getD ⟨kind, 0, 0, 0, v.number, v.payload.length, (v.payload.length + 4095) / 4096, 0, 0, []⟩

/-- The chunks of a payload. -/
def chunksOf (l : List Nat) : List (Nat × List Nat) :=
  let n := (l.length + 4095) / 4096
  (upto n).zip (pieces 4096 n l)

/-- The fallback copied into the cask and marked. -/
def Block.revertTo (b : Block) (v : Vintage) (kind : Nat) : Block :=
  let m := v.manifest kind
  let c : Cask := { size := m.payload, ident := m.vintage, man := some m, chunks := chunksOf v.payload }
  let older := decide (m.vintage ≤ b.inForce kind)
  let b := { b with upd := { b.upd with cask := some c } }.fsetB F.UPD_CASK_DOWNGRADE older
  (b.caskIn ckMarked).raiseEvt 0xD8 3

/-- A value written to UPD_CMD. Log: 97 (DEDUCED). -/
def Block.updCommand (b : Block) (v : Nat) : Block :=
  let b := b.fset F.UPD_CMD_CMD 0
  match bits v 0 3 with
  | 1 => match b.upd.cask.bind (·.man) with
    | some m =>
      if b.cask ≠ ckComplete then b.updDone updState
      else
        let code := b.markJudge m (bit v 8)
        if code ≠ 0 then b.updDone code
        else
          let b := b.fsetB F.UPD_CASK_DOWNGRADE (decide (m.vintage ≤ b.inForce m.kind))
          ((b.caskIn ckMarked).raiseEvt 0xD8 3).updDone updOk
    | none => b.updDone updState
  | 2 => if b.cask = ckMarked then ((b.fset F.UPD_CASK_DOWNGRADE 0).caskIn ckComplete).updDone updOk else b.updDone updState
  | 3 => if b.cask = ckEmpty then b.updDone updState else (b.endTransfer 1).caskEmpty.updDone updOk
  | 4 =>
    let kind := if bit v 9 then 2 else 1
    match (if kind = 1 then b.upd.fwFb else b.upd.appFb) with
    | none => b.updDone updNoFallback
    | some f =>
      if b.fgetB F.CEL_STAT_READONLY then b.updDone updReadonly
      else ((b.endTransfer 1).revertTo f kind).updDone updOk
  | _ => b

def Block.updCmdWrite (b : Block) (r : Requester) (v : Nat) : Block := b.cmdWrite r Reg.UPD_CMD v [] fun b => b.updCommand v

def execMark (r : Requester) (downgrade : Bool) (s : State) : Host.Outcome State Fault Refusal := lift (fun b =>
  b.updCmdWrite r (1 + if downgrade then 0x100 else 0)) s
def execUnmark (r : Requester) (s : State) : Host.Outcome State Fault Refusal := lift (fun b => b.updCmdWrite r 2) s
def execUpdDiscard (r : Requester) (s : State) : Host.Outcome State Fault Refusal := lift (fun b => b.updCmdWrite r 3) s
def execRevert (r : Requester) (app : Bool) (s : State) : Host.Outcome State Fault Refusal := lift (fun b =>
  b.updCmdWrite r (4 + if app then 0x200 else 0)) s

/-! ### Racking (R424 to R426, R459) -/

/-- Racking is abandoned in a phase at a segment. A partly written active place is never used. Log: 97 (DEDUCED). -/
def Block.rackAbandon (b : Block) (kind phase seg : Nat) : Block :=
  let b := { b with upd :=
    if phase = 1 then b.upd
    else if kind = 1 then { b.upd with fwAct := none, probation := false }
    else { b.upd with appAct := none } }
  let b := ((b.fset F.UPD_RACK_PHASE phase).fset F.UPD_RACK_SEGMENT seg).fset F.UPD_RACK_KIND (kind - 1)
  ((b.caskInvalid updRackFail).celRequest .racking).event 0xD8 5 [Reg.UPD_CASK_VIN, Reg.UPD_RACK]

/-- The fallback place after Save: the vintage in force, unless the fallback holds the same number. -/
def saved (act fb : Option Vintage) : Option Vintage :=
  match act with
  | none => fb
  | some v => if vinNumber fb = v.number then fb else some v

/-- Racking stands at a phase and its next segment: the racking record holds both. A place that is partly written is no
vintage: the fallback place during Save, the active place from Copy on (R424, R425). -/
def Block.rackHalt (b : Block) (kind phase seg : Nat) : Block :=
  let u := b.upd
  let b := { b with upd :=
    if kind = 1 then
      if phase = 1 then { u with fwFb := none } else { u with fwFb := saved u.fwAct u.fwFb, fwAct := none }
    else if phase = 1 then { u with appFb := none }
    else { u with appFb := saved u.appAct u.appFb, appAct := none } }
  (((b.fset F.UPD_RACK_PHASE phase).fset F.UPD_RACK_SEGMENT seg).fset F.UPD_RACK_KIND (kind - 1)).celRequest .racking

/-- A firmware vintage takes its place: on probation, revoking the vendor keys it names but the one that signed it. -/
def Block.rackFirmware (b : Block) (m : Manifest) (payload : List Nat) : Block :=
  let v : Vintage := { number := m.vintage, payload := payload, man := some m }
  let b := { b with upd := { b.upd with fwFb := saved b.upd.fwAct b.upd.fwFb, fwAct := some v, probation := true } }
  let b := (b.setRegN Reg.UPD_PROBE 0).fset F.SYS_STATE_PROBATION 1
  let named := low 4 (Config.revokes payload)
  let gone := if bit named m.key then named - 2 ^ m.key else named
  let old := b.fget secRevoked
  let b := b.fset secRevoked (old ||| gone)
  b.when (gone &&& old != gone) fun b => b.raiseEvt 0xF8 2

/-- An application vintage takes its place; a committed package went with the image it changed (R434). -/
def Block.rackApplication (b : Block) (m : Manifest) (payload : List Nat) : Block :=
  let v : Vintage := { number := m.vintage, payload := payload, man := some m }
  { b with upd := { b.upd with appFb := saved b.upd.appAct b.upd.appFb, appAct := some v, packages := [] } }

/-- The payload of a complete cask. -/
def Cask.payload (c : Cask) (m : Manifest) : List Nat :=
  ((upto m.chunks).flatMap fun j => mapGet [] c.chunks j).take m.payload

/-- Step 3 of the start: a MARKED vintage is racked, or racking is abandoned. -/
def Block.rack (b : Block) (stop : Option (Fin 4 × Nat)) : Block :=
  match b.upd.cask, b.upd.cask.bind (·.man), b.cask == ckMarked with
  | some c, some m, true =>
    match stop, b.fgetB F.CEL_STAT_READONLY with
    | some (p, seg), _ => b.rackAbandon m.kind (Nat.max 1 p.val) seg
    | none, true => b.rackAbandon m.kind 1 0
    | none, false =>
      let payload := c.payload m
      let b := if m.kind = 1 then b.rackFirmware m payload else b.rackApplication m payload
      let b := (b.setRegN Reg.UPD_RACK 0).celRequest .racking
      ((b.event 0xD8 4 [Reg.UPD_CASK_VIN, Reg.UPD_CASK]).caskEmpty).vinShow
  | _, _, _ => b

/-! ### The commit marker (R173) -/

/-- OLC_MARKER_DURABLE: the committed package is applied at every later start, with the forces that it left.
Log: 208 (DEDUCED). -/
def execOlcMarkerDurable (s : State) : Host.Outcome State Fault Refusal := lift (fun b =>
  match b.olc.marker with
  | some w =>
    if b.powerFailing || b.ssp.stall then b
    else { b with
      olc := { b.olc with marker := none }
      upd := { b.upd with packages := b.upd.packages ++ [w] }
      cel := { b.cel with package := [] }
      frc := { b.frc with stored := if b.frc.idle then b.frc.stored else b.frc.table } }
  | none => b) s

end Sys2Proof.Machine
end

