-- ==== Sys2Proof/Machine/Start.lean ====
section
/-! DEFINITION. The start sequence, RECOVERY, and the module commands (R29, R32, R46, R83, R160, R187, R399, R406, R407, R413, R427 to R431, R471).
Log: 99 (DEDUCED), 103 (DEDUCED). -/

namespace Sys2Proof.Machine

/-! ### What survives (R29) -/

/-- Registers that a start leaves as they are: the calendar clock, the pins and supplies, the cellar's wear. -/
def keptRegs : List Nat :=
  [Reg.RTC_TIME_LO, Reg.RTC_TIME_HI, Reg.RTC_EPOCH, Reg.RTC_STAT, Reg.PWR_CP_STAT, Reg.PWR_CP_V, Reg.CHG_FP_STAT,
    Reg.CHG_FP_V, Reg.CEL_STAT, Reg.CEL_LIFE, Reg.PAIR_STAT] ++ (upto 8).map Reg.CEL_AREA

/-- TSU time, which a RESTART carries on. -/
def tsuRegs : List Nat := [Reg.TSU_TIME_LO, Reg.TSU_TIME_HI, Reg.TSU_EPOCH]

/-- The word a register has after a start: persistent read-only fields stay, all else takes its Reset column. -/
def startWord (restart : Bool) (off v : Nat) : Nat :=
  if keptRegs.contains off || (restart && tsuRegs.contains off) then v
  else match regRow off with
    | some row => row.fields.foldl (fun w f => if f.acc == .ro && f.pers then putField w f.lo f.w (bits v f.lo f.w) else w) (regReset off).toNat
    | none => (regReset off).toNat

/-- Load the P fields of a register from the cellar (R6). -/
def Block.loadP (b : Block) (off v : Nat) : Block :=
  match regRow off with
  | some row => b.setRegN off (row.fields.foldl (fun w f =>
      if f.pers && f.carried then putField w f.lo f.w (bits v f.lo f.w) else w) (b.regN off))
  | none => b

/-- A configuration page lost its record (R399). -/
def StartIn.lostPage (i : StartIn) (p : Nat) : Bool := i.lost.contains (.config p)

/-- All registers as a start leaves them. Log: 3 (DEDUCED), 91 (DEDUCED). -/
def Block.startRegs (b : Block) (restart : Bool) (i : StartIn) : Block :=
  let valid := b.fget F.TSU_STAT_TIME_VALID
  let optime := b.optime
  let regs := b.regs.foldl (fun m (e : Nat × Word) =>
    storeSet (regReset e.1) m e.1 (BitVec.ofNat 32 (startWord restart e.1 e.2.toNat))) []
  let b := ({ b with regs := regs }.fset F.PAIR_STAT_LINK 0).setPair Reg.EVR_OPTIME_LO optime
  let b := b.when restart fun b => b.fset F.TSU_STAT_TIME_VALID valid
  let b := b.fsetB F.BTN_STAT_LOCAL_CAL b.btn.localCal
  b.forAll b.cel.cfg fun b e => if i.lostPage (e.1 / 0x1000) then b else b.loadP e.1 e.2.toNat

/-- Everything outside the registers that does not survive begins anew. -/
def Block.freshen (b : Block) (restart : Bool) : Block :=
  { b with
    fab := {}
    evr := { b.evr with
      queue := [], island := [], refusedFill := 0, accepted := [], rateRefused := []
      first := closeLast b.evr.first, ring := closeLast b.evr.ring }
    cel := { b.cel with requests := [], package := [] }
    ctxs := [], globals := [], sched := {}, frc := { stored := b.frc.stored }, sol := {}, chans := [], hart := {}
    isl := { latchSX := b.isl.latchSX, latchSY := b.isl.latchSY, cellarLocked := b.isl.cellarLocked, unconfirmed := b.isl.unconfirmed }
    sec := {}, outEls := [], lnk := {}, ssp := {}, net := {}, canCfg := [], can := [], red := {}, mem := {}
    btn := { localCal := b.btn.localCal }, dse := { pressed := b.clk }, prog := none, olc := { marker := b.olc.marker }
    pwr := { b.pwr with completed := false, frontEnds := false, released := false, haltOff := false, tg := b.clk }
    tm := { rtcRuns := b.tm.rtcRuns, rtcFrac := b.tm.rtcFrac, tsuFrac := if restart then b.tm.tsuFrac else 0 } }

/-! ### Step 1: power good (R32, R83, R406) -/

/-- The base coding of UNIT_SEL, bit 1 UNIT_SEL1, 1 meaning open. -/
def baseOf (unitSel : Nat) : BaseKind :=
  match unitSel with
  | 3 => .single
  | 2 => .unitA
  | 1 => .unitB
  | _ => .invalid

/-- Power good: the coding is sampled, the SFP pins are shown, the TSU loads the calendar clock, OPTIME resumes. -/
def Block.powerGood (b : Block) (unitSel : Nat) : Block :=
  let b := { b with pwr := { b.pwr with phase := .good, base := baseOf unitSel, unitSel := unitSel } }
  let b := (b.sfpShow.setNow b.rtcNow).fset F.TSU_STAT_TIME_VALID (b.fget F.RTC_STAT_VALID)
  b.setPair Reg.EVR_OPTIME_LO ((b.cel.optime + 1) % 2 ^ 48)

/-- A start is counted. -/
def Block.countStart (b : Block) : Block :=
  let b := ((b.incWrap F.EVR_PCC_COUNT).celRequest .pcc).fset F.SYS_STATE_STEP 1
  b.fsetB F.RED_STAT_UNIT_A (b.pwr.base == .unitA)

/-! ### Step 2: boot (R426, R427, R459) -/

/-- A firmware place holds a vintage that reads back whole under a key not revoked. -/
def Block.fwGood (b : Block) (v : Option Vintage) (ok : Bool) : Bool :=
  ok && match v.bind (·.man) with
    | some m => decide (m.key < 4) && !bit (b.fget secRevoked) m.key
    | none => false

/-- Boot the fallback firmware. -/
def Block.bootFallback (b : Block) : Block := (b.fset F.SYS_STATE_ON_FALLBACK 1).raiseEvt 0 3

/-- CEL_AREAk.STATE of a vintage area: 2 where its content does not read back. Log: 177 (DEDUCED). -/
def Block.areaState (b : Block) (k : Nat) (bad : Bool) : Block := b.fset ⟨Reg.CEL_AREA k, 30, 2⟩ (if bad then 2 else 0)

/-- The active firmware is verified; the third start after two failed ones on probation takes the fallback. -/
def Block.boot (b : Block) (i : StartIn) : Block :=
  let b := b.fset F.SYS_STATE_STEP 2
  let fails := b.fget F.UPD_PROBE_FAILS
  if b.upd.probation ∧ 2 ≤ fails then b.bootFallback.event 0xD8 6 [Reg.UPD_PROBE, Reg.UPD_FW_FB]
  else
    let b := b.when b.upd.probation fun b => (b.fset F.UPD_PROBE_FAILS (fails + 1)).fset F.SYS_STATE_PROBATION 1
    let b := (b.areaState 1 (b.upd.fwAct.isSome && !i.fwOk)).areaState 2 (b.upd.fwFb.isSome && !i.fbOk)
    if b.fwGood b.upd.fwAct i.fwOk then b else b.bootFallback

/-- Racking at its step; a firmware racked now takes effect, and its first start counts for R426. -/
def Block.startRack (b : Block) (i : StartIn) : Block :=
  let marked := b.cask == ckMarked
  let firmware := marked && b.fget F.UPD_CASK_KIND == 1
  let b := (b.when marked fun b => b.fset F.SYS_STATE_STEP 3).rack i.rackStop
  if !firmware then b
  else if b.cask = ckEmpty then ((b.fset F.SYS_STATE_ON_FALLBACK 0).fset F.UPD_PROBE_FAILS 1).vinShow
  else if b.upd.fwAct.isNone && !b.fgetB F.SYS_STATE_ON_FALLBACK then b.bootFallback
  else b

/-- A firmware runs after racking. -/
def Block.booted (b : Block) (i : StartIn) (racked : Bool) : Bool :=
  if b.fgetB F.SYS_STATE_ON_FALLBACK then b.fwGood b.upd.fwFb i.fbOk else racked || b.fwGood b.upd.fwAct i.fwOk

/-! ### Step 4: self-tests (R25, R391, R427) -/

/-- An engine after its test. -/
def Block.startEngine (b : Block) (n fail : Nat) : Block :=
  let b := (b.fset (F.ENG_TEST_FAIL_CODE n) fail).raiseEvt (0x10 + n) 4
  if low 16 fail = 0 then (((b.fset (F.ENG_TEST_RESULT n) 2).fset (F.ENG_STATE_STATE n) esIdle).fset (F.BLK_STAT_READY (0x10 + n)) 1).setAvail n true
  else
    let b := b.modEng n fun e => { e with failed := true }
    (((b.fset (F.ENG_TEST_RESULT n) 3).fset (F.ENG_STATE_STATE n) esFault).fset (F.BLK_STAT_FAULT (0x10 + n)) 1).fset (F.BLK_STAT_READY (0x10 + n)) 0

/-- The solver after its short test: failed groups are removed, without a divide unit it is in FAULT. -/
def Block.startSolver (b : Block) (i : StartIn) : Block :=
  let bad := i.groups.val
  let b := ((b.fset F.SOL_TEST_GROUP_OK (15 - bad)).fsetB F.SOL_TEST_DIV_OK i.divOk).fset F.SOL_TEST_FAIL_CODE
    (if bad = 0 && i.divOk then 0 else Nat.max 1 (low 16 i.solFail))
  let b := b.when (bad != 0) fun b => b.raiseEvt 0x30 12
  let b := b.solShow.solStoreShow
  b.when (bad == 15 || !i.divOk) Block.solFail

/-- MiB in use in an area: how a part of a MiB and the cellar's own data count is open. Log: 176 (DESIGN CHOICE). -/
def Block.areaUsed (b : Block) (k : Nat) : Block :=
  let (v, b) := b.free
  b.fset ⟨Reg.CEL_AREA k, 0, 16⟩ v.toNat

/-- The cellar as mounted (R400). -/
def Block.startCellar (b : Block) (i : StartIn) : Block :=
  let warn := decide (90 ≤ i.used) || decide (i.spare < 64)
  let b := ((b.fset F.CEL_STAT_READY 1).fset F.CEL_LIFE_SPARE (Nat.min i.spare 65535)).fset F.CEL_LIFE_USED (Nat.min i.used 100)
  let b := b.when (warn && !b.fgetB F.CEL_STAT_LIFE_WARN) fun b => b.raiseEvt 0xF1 2
  let b := (b.fsetB F.CEL_STAT_LIFE_WARN warn).fsetB F.CEL_STAT_READONLY (i.spare == 0)
  (b.forAll (upto 8) Block.areaUsed).fsetB ⟨Reg.CEL_AREA 5, 30, 1⟩ (!i.lost.isEmpty)

/-- Step 4. -/
def Block.startTests (b : Block) (i : StartIn) : Block :=
  let b := b.fset F.SYS_STATE_STEP 4
  let b := b.forAll headedPages fun b p => b.fset (F.BLK_STAT_READY p) 1
  let b := b.forAll (upto 16) fun b n => b.startEngine n (nth 0 i.engines n)
  let b := (b.engCount.startSolver i).startCellar i
  let b := b.forAll i.modems fun b m => b.modemFail m.val
  let b := b.forAll i.channels fun b n => (b.modChan n.val fun c => { c with selfFail := true }).raiseEvt (chPage n.val) 1
  match i.dram with
  | some d => ((b.fset F.MEM_STAT_DEVICE d.val).fset F.MEM_STAT_MARKED 1).raiseEvt 0xF0 1
  | none => b

/-! ### Step 5: load (R83, R112, R160, R173, R287, R399, R407, R413, R471) -/

/-- Records of area 5 without a valid copy: the loss is recorded, and each acts as R399 says. Log: 100 (DEDUCED). -/
def Block.startLost (b : Block) (i : StartIn) : Block :=
  b.forAll i.lost fun b r =>
    match r with
    | .trims ch =>
      let (z, g) := mapGet (0, f32One) b.chFactory ch
      let b := ((b.setRegN (Reg.CH_TRIM_ZERO ch) z).setRegN (Reg.CH_TRIM_GAIN ch) g).fset (F.CH_CAL_INFO_SOURCE ch) 0
      b.recRegs (chPage ch) 0xFF [Reg.CH_TRIM_ZERO ch, Reg.CH_TRIM_GAIN ch, Reg.CH_CAL_INFO ch] []
    | .forceTable => { b with frc := { b.frc with stored := [] } }.recRegs 0xF1 0xFF [Reg.CEL_AREA 5] [0x46]
    | .lockout => { b with isl := { b.isl with cellarLocked := true } }.recRegs 0xF1 0xFF [Reg.CEL_AREA 5] [0x4C]
    | .tsuTrim => (b.setRegN Reg.TSU_TRIM 0).recRegs 0xF1 0xFF [Reg.CEL_AREA 5] [0x54]
    | .config p => b.recRegs 0xF1 0xFF [Reg.CEL_AREA 5] [p]
    | .label _ | .shown _ | .optime | .pcc | .cask | .racking => b.recRegs 0xF1 0xFF [Reg.CEL_AREA 5] []

/-- The power-on self-test of the island ends: passed, or failed with a code that is kept by service alone (R295). -/
def Block.islTested (b : Block) (passed : Bool) : Block :=
  if passed then ((b.fset F.SAF_TEST_RESULT 2).fset F.SAF_TEST_FAIL_CODE 0).raiseEvt 0xC0 5
  else
    let (v, b) := b.free
    ((b.fset F.SAF_TEST_RESULT 3).fset F.SAF_TEST_FAIL_CODE (Nat.max 1 (low 16 v.toNat))).raiseEvt 0xC0 5

/-- The island at power-on: LOCKOUT where a latch or the cellar says so, else SAFE-OFF; then its self-test (R275, R287).
Log: 100 (DEDUCED). -/
def Block.startIsland (b : Block) (cause : Nat) : Block :=
  let locked := b.isl.latchSX || b.isl.latchSY || b.isl.cellarLocked
  let b := (b.fset F.SAF_STATE_STATE (if locked then isLockout else isSafeOff)).fsetB F.SAF_CLOCK_OSC_OK (cause != 5)
  let b := (b.fsetB F.SAF_STATE_SX_OK (cause == 0)).fsetB F.SAF_STATE_SY_OK (cause == 0)
  (b.islTested (cause == 0)).lockout cause none

/-- Bytes of a file as words. -/
def fWords : List Nat → List Nat
  | a :: b :: c :: d :: l => (a + 256 * b + 65536 * c + 16777216 * d) :: fWords l
  | _ => []

/-- The files of an application payload: the image, then its patterns, each as long as its header says. -/
def splitFiles : Nat → List Nat → List (List Nat)
  | 0, _ => []
  | k + 1, w =>
    let n := fU32 w 8 / 4
    if w.isEmpty || n == 0 then [] else w.take n :: splitFiles k (w.drop n)

/-- The patterns in force: those of the base image, with each package's PATTERN sections put in place. -/
def startPatterns (base packages : List (List Nat)) : List (List Nat) :=
  let target (w : List Nat) : Nat := (parsePattern w).target
  let put (l : List (List Nat)) (w : List Nat) : List (List Nat) :=
    let l := l.filter fun v => target v != target w
    if (parsePattern w).n = 0 then l else l ++ [w]
  (packages.flatMap fun w => (sectionsOf (pkgSections w) 12).map (fun (q : Section) => q.words)).foldl put base

/-- R471: at a start the image takes precedence over a register field, and the change is recorded.
Log: 102 (DEDUCED). -/
def Block.startConflicts (b : Block) (p : Prog) : Block :=
  let b := b.when (b.fgetB F.RED_CFG_HB_EN && namesCan3 p.ctxs p.can) fun b =>
    ((b.fset F.RED_CFG_HB_EN 0).celRequest (.config 0xB0)).recRegs 0xB0 0xFF [Reg.RED_CFG] [1]
  b.when (b.stepConflict p.ctxs) fun b =>
    let old := b.fget F.ABS0_RELOCK_STEP_MAX
    ((b.fset F.ABS0_RELOCK_STEP_MAX 0).celRequest (.config 2)).recRegs 2 0xFF [Reg.ABS0_RELOCK] [old]

/-- No application: no context, no force, nothing configured (R112, R160). -/
def Block.startRefused (b : Block) : Block :=
  let b := (b.forAll (upto 256) Block.unloadCtx).showOwners.showDecl
  let b := (((b.solBind [] []).clearOutputs.islTakeUp).lnkTakeUp none).canTakeUp []
  b.credFollow.frcIdle.placeAll

/-- The application with its committed packages: verified, then in force with its forces and patterns. -/
def Block.startApp (b : Block) (v : Vintage) : Block :=
  let files := splitFiles (v.payload.length + 1) (fWords v.payload)
  let w := nth [] files 0
  let base := parseImage w
  let p := b.upd.packages.foldl pkgApply base
  let b := b.startConflicts p
  match b.verifyImage w with
  | some bad => (b.loadRecord base bad).startRefused
  | none =>
    let b := (b.installProg p).placeAll.frcLoad true
    let b := b.forAll (p.ctxs.map (·.1)) Block.aimCtx
    b.forAll (startPatterns (files.drop 1) b.upd.packages) fun b q => (b.patLoad b.ctxAbc false q).1

/-- A commit whose marker did not become durable is recorded (R173). -/
def Block.startMarker (b : Block) : Block :=
  match b.olc.marker with
  | some w => { b with olc := {} }.recRegs 0x29 0xFF [] [fU32 w 0x0C, fU32 w 0x10]
  | none => b

/-- The highest TSU time, in ns, of the POWER_LOSS and TIME_MARK records in the cellar (R83). -/
def Block.storedTime (b : Block) : Option Nat :=
  let recs := (b.evr.first ++ b.evr.ring).flatMap (·.recs)
  let times := (recs.filter fun r => r.typ == 1 || r.typ == 3).map fun r =>
    (nth 0 r.words 0 + 2 ^ 32 * nth 0 r.words 1) * 1000000000 + nth 0 r.words 2
  times.max?

/-- The TSU takes TSU_TRIM, and the cellar's time where the calendar clock was found invalid (R83, R89). -/
def Block.startTime (b : Block) (restart : Bool) : Block :=
  let b := { b with tm := { b.tm with corrected := true } }.setRegN Reg.TSU_RATE (b.regN Reg.TSU_TRIM)
  let b := b.when (!b.fgetB F.RTC_STAT_VALID) fun b => b.raiseEvt 0x04 3
  let b := match b.storedTime with
    | some t => b.when (!restart && !b.fgetB F.RTC_STAT_VALID) fun b => b.setNow (t + 1000000000 + (b.clk - b.pwr.tg))
    | none => b
  { b with sched := { b.sched with windowStart := b.now } }

/-- The START record, POWER_LOSS_NO_RECORD where the previous start left none, and the TIME_MARK. -/
def Block.startRecords (b : Block) (restart : Bool) : Block :=
  let pcc := b.regN Reg.EVR_PCC
  let b := b.recAccept (b.mkRec 2 0 2 0 [b.modState + 256 * b.pwr.unitSel, vinNumber b.runningFw, b.inForce 2])
  let b := b.when (!restart && decide (1 < pcc) && !b.evr.powerLossPcc.contains (pcc - 1)) fun b =>
    b.recAccept (b.mkRec 3 0 4 0 [pcc - 1])
  b.timeMark 4

/-- A trip of the previous run is shown once (R141). -/
def Block.startTripped (b : Block) : Block :=
  if mapGet 0 b.cel.cfg Reg.PWR_THERM = 0 then b.fset F.PWR_THERM_TRIPPED 0
  else { b.fset F.PWR_THERM_TRIPPED 1 with cel := { b.cel with cfg := mapErase b.cel.cfg Reg.PWR_THERM } }.event 1 7 [Reg.PWR_THERM]

/-- The band table of the label (R440). -/
def Block.startBands (b : Block) : Block :=
  b.forAll (upto 8) fun b k =>
    ((b.fset (F.DSB_BAND_VDRV k) (bandVdrv k)).fset (F.DSB_BAND_FRAMES k) (bandFrames k)).fset (F.DSB_BAND_LOWER k)
      (if k = 0 then 128 else (bandBound (k - 1) / 16 % 256).toNat)

/-- The versions offered, one bit each. -/
def versionBits (offer : Nat × Nat) : Nat :=
  if offer.2 = 0 then 0
  else (((upto 8).filter fun v => decide (offer.1 ≤ v) && decide (v ≤ offer.2)).map fun v => 2 ^ v).sum

/-- What step 5 sets up before the application: the settings in force, the angle bases, the vintages shown. -/
def Block.startSettings (b : Block) : Block :=
  let b := b.ipTake
  ((b.setRegN Reg.ABS0_FREQ b.absNom).fset F.ABS1_STAT_STATE (if b.shaftMode = 0 then shaftOff else shaftSearch)).vinShow

/-- The stored application, unless the module is erased. -/
def Block.startImage (b : Block) : Block :=
  match b.fromRest b.storedApp with
  | some v => b.startApp v
  | none => b.startRefused

/-- The versions this unit offers on the pair interface. -/
def Block.startVersions (b : Block) : Block := b.setRegN (Reg.BLK_CAP 0xB1) (versionBits b.pivOffer)

/-- Step 5, with the patterns of step 6. -/
def Block.startLoad (b : Block) (restart : Bool) (i : StartIn) : Block :=
  let b := (((b.fset F.SYS_STATE_STEP 5).startTripped.startBands.startLost i).startIsland i.island.val).startMarker
  (((b.startSettings.startImage.hbFollow.forAll (upto 4) Block.canTakeMode).startVersions.startTime restart).startRecords restart)

/-! ### Steps 7, 8 and the end -/

/-- The front ends take the START safe state, the modems their channels. -/
def Block.startChannels (b : Block) : Block :=
  let b := { b.fset F.SYS_STATE_STEP 7 with pwr := { b.pwr with frontEnds := true }, hart := { b.hart with ready := true } }
  let b := b.forAll (upto 64) fun b n => b.fsetB (F.CH_STAT_FIELD n) (b.chMode n != 0 && !b.pwr.fieldOn)
  (b.forAll (upto 64) Block.hartTakeUp).hartPool.chRefreshAll

/-- The state to enter, and its cause: the application refused, then P records lost, then SYS_START_CFG.TARGET. -/
def Block.startTarget (b : Block) (i : StartIn) : Nat × Nat :=
  let lostCfg := i.lost.any fun r => match r with
    | .config _ => true
    | _ => false
  if b.prog.isNone then (stCommission, 1)
  else if lostCfg then (stCommission, 2)
  else match b.fget F.SYS_START_CFG_TARGET with
    | 1 => (stStop, 0)
    | 2 => (stCommission, 0)
    | _ => (b.runState, 0)

/-- A unit that stands for a join. -/
def Block.awaitJoin (b : Block) : Block := { b with red := { b.red with joining := true, joinAt := b.clk } }

/-- The start ends in its target: on a pair base a unit bound for RUN first joins. -/
def Block.startAs (b : Block) (st cause : Nat) : Block :=
  if b.onPair then
    if st = stRun ∨ st = stRunDegraded then (b.setRole roleOut).awaitJoin else (b.setRole roleOut).finishStart st cause
  else ((b.setRole roleSingle).setClaim 1).finishStart st cause

/-- A unit of a pair that does not reach RUN is OUT (R360). -/
def Block.baseOut (b : Block) : Block := b.when b.onPair fun b => b.setRole roleOut

/-- The end of the sequence: HALT below 8 engines, the join wait of a unit of a pair, else the state of R429. -/
def Block.startEnd (b : Block) (i : StartIn) : Block :=
  let b := b.fset F.SYS_STATE_STEP 8
  if b.fget F.SCH_ENG_FAULT_COUNT < 8 then b.baseOut.changeState stHalt 3
  else
    b.startAs (b.startTarget i).1 (b.startTarget i).2

/-- RECOVERY: the module stays in START, its outputs held as R46 states, with the stored network settings or the factory's (R428). -/
def Block.recovery (b : Block) : Block := ((b.ipTake.fset F.SYS_STATE_STEP 15).fset F.SYS_STATE_CAUSE 7).baseOut

/-- A lost record of the label. -/
def StartIn.lostLabel (i : StartIn) : Bool := i.lost.any fun r => match r with
  | .label _ | .shown _ => true
  | _ => false

/-- Steps 4 to 8. -/
def Block.startOn (b : Block) (restart : Bool) (i : StartIn) : Block :=
  ((((b.startTests i).startLoad restart i).markerDraw.startChannels).fset F.SYS_STATE_CAUSE 0).startEnd i

/-- Step 3 and what follows: RECOVERY where neither place of the firmware can be booted. -/
def Block.startFrom (b : Block) (restart : Bool) (i : StartIn) (marked : Bool) : Block :=
  if b.booted i (marked && b.cask == ckEmpty) then b.startOn restart i else b.recovery

/-- Where racking is found by a loss of power; only a MARKED vintage is racked. -/
def Block.rackCut (b : Block) (i : StartIn) : Option (Nat × Nat) :=
  if b.cask = ckMarked then i.rackCut.map fun c => (Nat.max 1 c.1.val, c.2) else none

/-- Steps 2 to 8; a start that a loss of power finds in racking stands at step 3, and the next one resumes it (R424, R434).
Log: 4 (DESIGN CHOICE), 98 (DESIGN CHOICE), 101 (DEDUCED). -/
def Block.startSteps (b : Block) (restart : Bool) (i : StartIn) : Block :=
  let b := (b.boot i).labelRecover i.lostLabel
  match b.rackCut i with
  | some (phase, seg) => (b.fset F.SYS_STATE_STEP 3).rackHalt (b.fget F.UPD_CASK_KIND) phase seg
  | none => (b.startRack i).startFrom restart i (b.cask == ckMarked && b.fget F.UPD_CASK_KIND == 1)

/-- MODULE_START: power good after the rails have ramped. An invalid coding stays in START. Log: 98 (DESIGN CHOICE). -/
def execModuleStart (unitSel : Fin 4) (i : StartIn) (s : State) : Host.Outcome State Fault Refusal := lift (fun b =>
  if b.pwr.phase = .rails then
    let b := (((b.startRegs false i).freshen false).powerGood unitSel.val).countStart
    if b.pwr.base = .invalid then b.fset F.SYS_STATE_CAUSE 6 else b.startSteps false i
  else b) s

/-! ### Module commands (R430, R431) -/

def sysOk : Nat := 0
def sysState : Nat := 1
def sysNoImage : Nat := 2
def sysBusy : Nat := 3
def sysPair : Nat := 4

/-- A command is done. -/
def Block.sysDone (b : Block) (code : Nat) : Block := (b.fset F.SYS_RES_CODE code).raiseEvt 0 4

/-- The module is in RECOVERY. -/
def Block.inRecovery (b : Block) : Bool := b.modState == stStart && b.fget F.SYS_STATE_STEP == 15

/-- A departure of a PRIMARY whose standby is not SYNCED. -/
def Block.sysAlone (b : Block) (force : Bool) : Bool :=
  b.onPair && b.role == rolePrimary && b.red.partner.sync != sySynced && !force

/-- The code of a module command. Log: 101 (DEDUCED). -/
def Block.sysJudge (b : Block) (cmd : Nat) (force : Bool) : Nat :=
  let st := b.modState
  if b.olcAt = olcSwitching then sysBusy
  else match cmd with
    | 1 =>
      if b.running then (if b.sysAlone force then sysPair else sysOk)
      else if st = stCommission then (if b.prog.isNone then sysNoImage else sysOk)
      else sysState
    | 2 | 3 => if st = stStop then sysOk else sysState
    | _ =>
      if st = stStart && !b.inRecovery then sysState
      else if b.sysAlone force then sysPair
      else sysOk

/-- RESTART: a start from step 2, with the outputs safe at once; records not yet durable in the queue are gone.
Log: 77 (DEDUCED). -/
def Block.restart (b : Block) (i : StartIn) : Block :=
  let b := b.depart
  let b := b.forAll b.cel.requests Block.celCommit
  let b := b.forAll (b.ssp.sessions.map (·.num)) Block.closeSession
  let b := b.islPowerDown
  let b := ((b.startRegs true i).freshen true).countStart
  if b.pwr.base = .invalid then b.fset F.SYS_STATE_CAUSE 6 else b.startSteps true i

/-- A value written to SYS_CMD; `i` is what a RESTART finds. -/
def Block.sysCommand (b : Block) (v : Nat) (i : Option StartIn) : Block :=
  let b := b.fset F.SYS_CMD_CMD 0
  let cmd := bits v 0 3
  if cmd = 0 ∨ 4 < cmd then b
  else
    let code := b.sysJudge cmd (bit v 31)
    let b := b.sysDone code
    if code ≠ 0 then b
    else match cmd, i with
      | 1, _ => b.changeState stStop 0
      | 2, _ => b.pairEnterRun.changeState b.runState 0
      | 3, _ => b.changeState stCommission 0
      | _, some i => b.restart i
      | _, none => b

def Block.sysCmdWrite (b : Block) (r : Requester) (v : Nat) (i : Option StartIn) : Block :=
  b.cmdWrite r Reg.SYS_CMD v [] fun b => b.sysCommand v i

/-- SYS_CMD with FORCE. -/
def sysForce (force : Bool) : Nat := if force then 2 ^ 31 else 0

def execStop (r : Requester) (force : Bool) (s : State) : Host.Outcome State Fault Refusal := lift (fun b => b.sysCmdWrite r (1 + sysForce force) none) s
def execRun (r : Requester) (s : State) : Host.Outcome State Fault Refusal := lift (fun b => b.sysCmdWrite r 2 none) s
def execCommission (r : Requester) (s : State) : Host.Outcome State Fault Refusal := lift (fun b => b.sysCmdWrite r 3 none) s

/-- SYS_RESTART: `i` is what the start that follows finds. -/
def execSysRestart (r : Requester) (force : Bool) (i : StartIn) (s : State) : Host.Outcome State Fault Refusal :=
  lift (fun b => b.sysCmdWrite r (4 + sysForce force) (some i)) s

end Sys2Proof.Machine
end

