-- ==== Sys2Proof/Machine/Net.lean ====
section
/-! DEFINITION. The plant network below SSP: PRP, IPv4, and the PTP ordinary clock on two ports (R322 to R330, R338 to R340). -/

namespace Sys2Proof.Machine

/-! ### PRP (R322, R323) -/

/-- The node table after a frame from a node: whether the node has an entry; without room it is counted.
Log: 104 (DEDUCED). -/
def Block.prpNode (b : Block) (mac : Nat) : Block × Bool :=
  if b.net.nodes.any (fun e => e.1 == mac) || decide (b.net.nodes.length < 512) then
    let b := { b with net := { b.net with nodes := mapSet b.net.nodes mac b.clk } }
    (b.fset F.PRP_STAT_NODES b.net.nodes.length, true)
  else ({ b with net := { b.net with untracked := b.net.untracked + 1 } }.raiseEvt 0xA1 5, false)

/-- A frame is passed up; fragments and options are discarded and counted (R324). -/
def Block.passUp (b : Block) (f : PrpRx) : Block :=
  if f.frag then b.incSat F.NET_FRAG_CNT_COUNT else b.send .net "received" [f.src]

/-- A LAN brings a frame. -/
def Block.lanHeard (b : Block) (portB : Bool) : Block :=
  { b with net := if portB then { b.net with lastB := b.clk, silentB := false } else { b.net with lastA := b.clk, silentA := false } }

/-- PRP_FRAME_RX. Log: 104 (DEDUCED). -/
def execPrpFrameRx (f : PrpRx) (s : State) : Host.Outcome State Fault Refusal := lift (fun b =>
  if !b.powered || !b.netLink f.portB then b
  else
    let b := (b.incSat (if f.portB then F.PRP_RX_B_COUNT else F.PRP_RX_A_COUNT)).lanHeard f.portB
    let wrong := if f.portB then F.PRP_WRONG_B_COUNT else F.PRP_WRONG_A_COUNT
    if (f.vlan.getD 0) ≠ 0 then b.incSat wrong
    else
      let (b, known) := b.prpNode f.src
      match f.rct, known with
      | some (seq, lanB), true =>
        let b := b.when (lanB != f.portB) fun b => (b.incSat wrong).raiseEvt 0xA1 4
        if b.net.seen.any fun e => e.mac == f.src && e.seq == seq then
          let b := { b with net := { b.net with seen := b.net.seen.map fun (e : PrpFrame) =>
            if e.mac = f.src ∧ e.seq = seq then { e with twice := true } else e } }
          b.incSat F.PRP_DUP_CNT_COUNT
        else
          { b with net := { b.net with seen := b.net.seen ++ [(⟨f.src, seq, f.portB, b.clk, false⟩ : PrpFrame)] } }.passUp f
      | _, _ => b.passUp f) s

/-- PRP_SUPERVISION_TX, every SUP_INTV. -/
def execPrpSupervisionTx (s : State) : Host.Outcome State Fault Refusal := lift (fun b =>
  if b.powered && b.periodic .supervision (1000000 * b.fget F.PRP_CFG_SUP_INTV) then (b.timed .supervision).prpSend "PRP supervision" [b.mac] else b) s

/-- A node has an entry and has sent nothing for PRP_CFG.FORGET (R322). -/
def Block.prpForgotten (b : Block) (mac : Nat) : Bool :=
  b.net.nodes.any fun e => e.1 == mac && decide (e.2 + b.fget F.PRP_CFG_FORGET * 1000000000 ≤ b.clk)

/-- PRP_NODE_FORGET. -/
def execPrpNodeForget (mac : Nat) (s : State) : Host.Outcome State Fault Refusal := lift (fun b =>
  if !b.prpForgotten mac then b
  else
  let b := { b with net := { b.net with nodes := mapErase b.net.nodes mac } }
  b.fset F.PRP_STAT_NODES b.net.nodes.length) s

/-! ### IPv4 (R324, R338) -/

/-- ICMP_ECHO to the module's address. -/
def execIcmpEcho (dst src data : Nat) (s : State) : Host.Outcome State Fault Refusal := lift (fun b =>
  if b.powered && b.fgetB F.NET_CFG_PING_EN && dst == nth 0 b.net.ip 0 then b.ipSend "ICMP echo reply" src [data] else b) s

/-- ARP_REQUEST for the module's address. -/
def execArpRequest (target sender : Nat) (s : State) : Host.Outcome State Fault Refusal := lift (fun b =>
  if b.powered && target == nth 0 b.net.ip 0 then b.prpSend "ARP reply" [sender, target, b.mac] else b) s

/-- IP_SETTINGS_TAKE_EFFECT: 1 s after the page has locked (R338). Log: 109 (DEDUCED). -/
def execIpSettingsTakeEffect (s : State) : Host.Outcome State Fault Refusal := lift (fun b =>
  if b.net.ipWritten && b.pageLocked 0xA0 && b.passed .netLocked 1000000000 then
    { b.ipTake with net := { b.ipTake.net with ipWritten := false, arp := [] } }
  else b) s

/-! ### PTP: ports (R325) -/

/-- A port instance. -/
def Block.ptpPort (b : Block) (portB : Bool) : PtpPort := if portB then b.net.portB else b.net.portA

def Block.setPtpPort (b : Block) (portB : Bool) (p : PtpPort) : Block :=
  { b with net := if portB then { b.net with portB := p } else { b.net with portA := p } }

/-- PTP runs on a port. -/
def Block.ptpOn (b : Block) (portB : Bool) : Bool := b.powered && b.fgetB F.PTP_CFG_EN && b.netLink portB

/-- The active port. -/
def Block.ptpActive (b : Block) : Bool := b.fgetB F.PTP_STAT_ACTIVE_B

/-! ### PTP: selection (R326, R329, R330) -/

/-- The port whose master wins; the current one on a tie or without any master; NETA where both masters return at once
(R337). Log: 197 (DEDUCED). -/
def Block.ptpPick (b : Block) : Bool :=
  match b.net.portA.master, b.net.portB.master with
  | some x, some y =>
    if x.beats y then false else if y.beats x then true
    else if b.fgetB F.PTP_STAT_SOURCE_OK && b.net.masterAt = some b.clk then false else b.ptpActive
  | some _, none => false
  | none, some _ => true
  | none, none => b.ptpActive

/-- State of a port. A node of class 127 or better that does not lead is PASSIVE. -/
def Block.ptpPortState (b : Block) (portB : Bool) : Nat :=
  if !b.fgetB F.PTP_CFG_EN then 3
  else if !b.netLink portB then 2
  else if b.ptpLeads then 6
  else match (b.ptpPort portB).master with
    | some _ =>
      if !b.fgetB F.PTP_CFG_SLAVE_ONLY ∧ b.ptpClass < 128 then 7
      else if b.ptpActive = portB then 9 else 10
    | none => 4

/-- The active port's master as the registers show it. -/
def Block.ptpShow (b : Block) : Block :=
  let p := b.ptpPort b.ptpActive
  let old := b.pair Reg.PTP_GM_LO
  let gm := (p.master.map (·.gm)).getD 0
  let b := (b.setPair Reg.PTP_GM_LO gm).fset F.PTP_STAT_GM_CLASS ((p.master.map (·.cls)).getD 0)
  let b := b.setRegN Reg.PTP_MPD (Nat.min (p.delay / 256).toNat (2 ^ 32 - 1))
  let b := match p.master with
    | some _ =>
      let b := { b with net := { b.net with lastUtc := some p.utc } }
      (b.fset F.PTP_UTC_OFFSET p.utc).fsetB F.PTP_UTC_VALID p.utcValid
    | none => b
  b.when (old != gm) fun b => b.raiseEvt 0xA2 0

/-- Everything that follows from links, masters and configuration. Log: 106 (DEDUCED). -/
def Block.ptpDecide (b : Block) : Block :=
  let live (portB : Bool) (b : Block) : Block :=
    if b.ptpOn portB then b else b.setPtpPort portB { b.ptpPort portB with master := none, waiting := none }
  let b := live true (live false b)
  let pick := b.ptpPick
  let b := b.when (pick != b.ptpActive) fun b => (b.fsetB F.PTP_STAT_ACTIVE_B pick).raiseEvt 0xA2 4
  let was := b.fgetB F.PTP_STAT_SOURCE_OK
  let ok := (b.ptpPort b.ptpActive).master.isSome
  let b := b.fsetB F.PTP_STAT_SOURCE_OK ok
  let b := b.when (was && !ok) fun b => (b.raiseEvt 0xA2 2).tsuLost .ptp
  let b := b.when (!was && ok) fun b => { b with net := { b.net with masterAt := some b.clk } }.raiseEvt 0xA2 3
  let sa := b.ptpPortState false
  let sb := b.ptpPortState true
  let changed := sa != b.fget F.PTP_STAT_STATE_A || sb != b.fget F.PTP_STAT_STATE_B
  let b := (b.fset F.PTP_STAT_STATE_A sa).fset F.PTP_STAT_STATE_B sb
  let b := b.when changed fun b => b.raiseEvt 0xA2 1
  let b := b.when (b.ptpLeads && b.tm.ptpAvail) fun b => b.tsuLost .ptp
  b.ptpShow

/-- NET_PORT_LINK: reported and recorded. -/
def execNetPortLink (portB up : Bool) (s : State) : Host.Outcome State Fault Refusal := lift (fun b =>
  if !b.powered || b.netLink portB == up then b
  else ((b.fsetB (if portB then F.PRP_STAT_LINK_B else F.PRP_STAT_LINK_A) up).event 0xA1
    ((if up then 2 else 0) + if portB then 1 else 0) [Reg.PRP_STAT]).ptpDecide) s

/-- A message of the node's own domain on a port that runs PTP. -/
def Block.ptpHears (b : Block) (portB : Bool) (domain : Nat) : Bool := b.ptpOn portB && domain == b.fget F.PTP_CFG_DOMAIN

/-- PTP_ANNOUNCE_RX: a port keeps its best master; its own messages over the other LAN are not one. -/
def execPtpAnnounceRx (portB : Bool) (domain : Nat) (set : PtpSet) (utc : Nat) (utcValid : Bool) (s : State) :
    Host.Outcome State Fault Refusal := lift (fun b =>
  if !b.ptpHears portB domain || set.sender == Config.clockIdentity b.mac then b
  else
    let p := b.ptpPort portB
    let takes := match p.master with
      | none => true
      | some m => m.sender == set.sender || set.beats m
    let b := b.when (takes || p.master.any fun m => m.sender == set.sender) fun b => b.timed (.announceRx portB)
    if takes then (b.setPtpPort portB { p with master := some set, utc := low 16 utc, utcValid := utcValid }).ptpDecide else b) s

/-- A node that may be master is one when no master is heard. -/
def Block.ptpMaster (b : Block) : Block := { b with net := { b.net with master := !b.fgetB F.PTP_CFG_SLAVE_ONLY } }

/-- 2^LOG seconds of a message interval; LOG_SYNC is signed. -/
def logInterval (v : Nat) : Nat := if v = 255 then 500000000 else 1000000000 * 2 ^ v

/-- PTP_ANNOUNCE_TIMEOUT: ANN_TO intervals without an Announce of its master. The port has no master; without any, a node that may lead becomes master.
Log: 205 (DEDUCED). -/
def execPtpAnnounceTimeout (portB : Bool) (s : State) : Host.Outcome State Fault Refusal := lift (fun b =>
  if !b.ptpOn portB || !b.periodic (.announceRx portB) (b.fget F.PTP_CFG_ANN_TO * logInterval (b.fget F.PTP_INTV_LOG_ANN)) then b
  else ((((b.timed (.announceRx portB)).incSat F.PTP_ANN_TO_CNT_COUNT).raiseEvt 0xA2 5).setPtpPort portB
    { b.ptpPort portB with master := none, waiting := none }).ptpMaster.ptpDecide) s

/-! ### PTP: offsets (R326, R327) -/

/-- An offset in 2^-16 ns has been measured on a port; on the active one it is a source update unless the node leads or the
supervisor stalls (R337). Log: 108 (DEDUCED). -/
def Block.ptpOffset (b : Block) (portB : Bool) (offset rate : Int) : Block :=
  let ns := offset / 65536
  let b := b.setRegI (if portB then Reg.PTP_OFS_B else Reg.PTP_OFS_A) (clampI (2 ^ 31 - 1) ns)
  if b.ptpPortState portB = 9 && !b.ssp.stall then (b.incSat F.PTP_SYNC_CNT_COUNT).tsuUpdate .ptp (-offset) rate else b

/-- A Sync or Follow_Up of the port's master. -/
def Block.ptpFrom (b : Block) (m : PtpSync) : Bool :=
  b.ptpHears m.portB m.domain && (match (b.ptpPort m.portB).master with
    | some x => x.sender == m.sender
    | none => false)

/-- PTP_SYNC_RX: `t1` is the origin of a one-step Sync. -/
def execPtpSyncRx (m : PtpSync) (t1 : Int) (s : State) : Host.Outcome State Fault Refusal := lift (fun b =>
  if !b.ptpFrom m then b
  else
    let p := b.ptpPort m.portB
    if m.twoStep then b.setPtpPort m.portB { p with waiting := some (m.seq, m.time - m.correction) }
    else b.ptpOffset m.portB (m.time - t1 - p.delay - m.correction) m.rate) s

/-- PTP_FOLLOW_UP_RX. -/
def execPtpFollowUpRx (m : PtpSync) (s : State) : Host.Outcome State Fault Refusal := lift (fun b =>
  if !b.ptpFrom m then b
  else
    let p := b.ptpPort m.portB
    match p.waiting with
    | some (seq, t2) =>
      if seq = m.seq then (b.setPtpPort m.portB { p with waiting := none }).ptpOffset m.portB (t2 - m.time - p.delay - m.correction) m.rate
      else b
    | none => b) s

/-! ### PTP: path delay and messages sent (R325, R328, R329) -/

/-- How the transport of PTP_CFG carries a message (R325, R328): over UDP the group, the port and the checksum 0; over IEEE
802.3 the destination, and 1 for an FCS recomputed after insertion. Then the domain. -/
def Block.ptpForm (b : Block) (event peer : Bool) : List Nat :=
  (if b.fget F.PTP_CFG_TRANSPORT = 0 then [0, if peer then 0xE000006B else 0xE0000181, if event then 319 else 320, 0]
   else [1, if peer then 0x0180C200000E else 0x011B19000000, 0x88F7, 1]) ++ [b.fget F.PTP_CFG_DOMAIN]

/-- A PTP message: not duplicated, without RCT (R325). -/
def Block.ptpSend (b : Block) (portB : Bool) (kind : String) (event peer : Bool) (ws : List Nat) : Block :=
  b.send (netPort portB) kind (b.ptpForm event peer ++ ws)

/-- TSU time of departure and its fraction in 2^-16 ns. -/
def Block.ptpNow (b : Block) : List Nat := [b.tsuSec % 2 ^ 48, b.tsuNs, (b.tm.tsuFrac / 1000000000).toNat]

/-- PTP_DELAY_REQ_TX, at LOG_DREQ or LOG_PDREQ. -/
def execPtpDelayReqTx (portB : Bool) (s : State) : Host.Outcome State Fault Refusal := lift (fun b =>
  let peer := b.fgetB F.PTP_CFG_DELAY
  let every := logInterval (b.fget (if peer then F.PTP_INTV_LOG_PDREQ else F.PTP_INTV_LOG_DREQ))
  if b.ptpOn portB && b.periodic (.delayReq portB) every && (peer || (b.ptpPort portB).master.isSome && !b.ptpLeads) then
    let seq := b.net.ptpSeq
    let b := { b with net := { b.net with ptpSeq := low 16 (seq + 1) } }.setPtpPort portB { b.ptpPort portB with asked := some peer }
    let b := b.timed (.delayReq portB)
    b.ptpSend portB (if peer then "Pdelay_Req" else "Delay_Req") true peer (seq :: b.ptpNow)
  else b) s

/-- PTP_DELAY_RESP_RX: t1, t2 of the Sync and t3, t4 of the Delay_Req, or t1 to t4 of a peer exchange; it answers the request
that the port sent with the mechanism of PTP_CFG.DELAY. Log: 105 (DESIGN CHOICE). -/
def execPtpDelayRespRx (portB : Bool) (domain : Nat) (t1 t2 t3 t4 correction : Int) (s : State) :
    Host.Outcome State Fault Refusal := lift (fun b =>
  if b.ptpHears portB domain && (b.ptpPort portB).asked == some (b.fgetB F.PTP_CFG_DELAY) then
    (b.setPtpPort portB { b.ptpPort portB with asked := none, delay := ((t2 - t1) + (t4 - t3) - correction) / 2 }).ptpShow
  else b) s

/-- PTP_PDELAY_REQ_RX: twoStepFlag and requestReceiptTimestamp are 0, the residence time is in correctionField. -/
def execPtpPdelayReqRx (portB : Bool) (domain seq : Nat) (correction : Int) (residence : Nat) (s : State) :
    Host.Outcome State Fault Refusal := lift (fun b =>
  if b.ptpHears portB domain && b.fgetB F.PTP_CFG_DELAY then
    b.ptpSend portB "Pdelay_Resp" true true [seq, 0, 0, 0, ofInt 64 (correction + residence)]
  else b) s

/-- PTP_MASTER_TX, each at its interval: a Sync with twoStepFlag 0, or an Announce with class, priorities, timeSource, currentUtcOffset, its valid flag, timeTraceable.
Log: 108 (DEDUCED). -/
def execPtpMasterTx (portB announce : Bool) (s : State) : Host.Outcome State Fault Refusal := lift (fun b =>
  let timer : Timer := if announce then .announceTx portB else .syncTx portB
  let every := logInterval (b.fget (if announce then F.PTP_INTV_LOG_ANN else F.PTP_INTV_LOG_SYNC))
  if b.ptpOn portB && b.ptpLeads && b.periodic timer every then
    let seq := b.net.ptpSeq
    let b := { b.timed timer with net := { b.net with ptpSeq := low 16 (seq + 1) } }
    if announce then
      b.ptpSend portB "Announce" false false [seq, b.ptpClass, b.fget F.PTP_PRIO_PRIORITY1, b.fget F.PTP_PRIO_PRIORITY2,
        (if b.ptpLocked then 0x20 else 0xA0), b.net.lastUtc.getD 37, 0, b.fget F.TSU_STAT_TIME_VALID]
    else b.ptpSend portB "Sync" true false (seq :: 0 :: b.ptpNow)
  else b) s

/-- PTP_DELAY_REQ_RX: answered with the receipt time, in 2^-16 ns. -/
def execPtpDelayReqRx (portB : Bool) (domain seq sender receipt : Nat) (s : State) : Host.Outcome State Fault Refusal := lift (fun b =>
  if b.ptpHears portB domain && b.ptpLeads && !b.fgetB F.PTP_CFG_DELAY then
    b.ptpSend portB "Delay_Resp" false false [seq, sender, receipt]
  else b) s

end Sys2Proof.Machine
end

