-- ==== Sys2Proof/Machine/Panel.lean ====
section
/-! DEFINITION. The emissive panel, the buttons and the local calibration menu (R446 to R454, R456, R457).
Log: 112 (DEDUCED). -/

namespace Sys2Proof.Machine

/-! ### The panel (R446 to R450) -/

/-- LOCAL_CAL is closed, HOLD_PROG is 0, and a channel grants local calibration (R453). -/
def Block.calListed (b : Block) : Bool :=
  b.btn.localCal && !b.fgetB F.DSE_CFG_HOLD_PROG && (upto 64).any fun n => b.fgetB (F.CH_MODE_LCAL_GRANT n)

/-- Pages that the buttons reach, in order; 8 is CAL. -/
def Block.pages (b : Block) : List Nat :=
  upto 7 ++ codeIf (b.fgetB F.DSE_CFG_PROG_EN) 7 ++ codeIf (b.calListed || b.fget F.BTN_STAT_CAL_STEP != 0) 8

/-- The page the body shows. -/
def Block.pageShown (b : Block) : Nat :=
  if b.fgetB F.DSE_CFG_HOLD_PROG then 7
  else if b.pages.contains b.btn.page then b.btn.page
  else 0

/-- HALT and LOCKOUT keep the panel from dimming (R449). -/
def Block.dimBarred (b : Block) : Bool := b.modState == stHalt || b.islState == isLockout

/-- BRIGHT, a quarter of it and at least 1 while dimmed. -/
def Block.brightness (b : Block) : Nat :=
  let n := b.fget F.DSE_CFG_BRIGHT
  if b.fgetB F.DSE_STAT_DIMMED then Nat.max 1 (n / 4) else n

/-- The gain of a pixel in 1/128 (R448). -/
def Block.pixelGain (b : Block) (px : Nat) : Nat :=
  let g := Config.uniformity px
  if !b.fgetB F.DSE_STAT_UNIF_OK || g < 64 || 255 < g then 128 else g

/-- The level of a pixel with a blink attribute, `t` ms into the panel's time (R449). -/
def blinkLevel (attr level t : Nat) : Nat :=
  match attr with
  | 1 => if t % 1000 < 500 then level else 0
  | 2 => if t % 250 < 125 then level else 0
  | 3 => if t % 1000 < 500 then level else 15 - level
  | _ => level

/-- The drive current of a pixel, in 1/1920 of a level current (R448). -/
def Block.pixelCurrent (b : Block) (px t : Nat) : Nat :=
  let level := nth 0 (nth [] b.dse.lines (px / 256)) (px % 256)
  Config.levelCurrent (blinkLevel (nth 0 b.dse.attrs px) level t) * b.pixelGain px * b.dse.bright

/-- Pixels and blink attributes of a lamp test with `left` renders to go (R452). -/
def lampFrame (left : Nat) : List (List Nat) × List Nat :=
  (List.replicate 128 (List.replicate 256 15), List.replicate 32768 (if 80 < left then 0 else (80 - left) / 20))

/-- Read the uniformity map once after a start. -/
def Block.readMap (b : Block) (mapOk : Bool) : Block :=
  if b.dse.mapRead then b
  else
    let b := { b with dse := { b.dse with mapRead := true } }.fsetB F.DSE_STAT_UNIF_OK mapOk
    b.when (!mapOk) fun b => b.event 0xE1 2 [Reg.DSE_STAT]

/-- Take up a swap: the back buffer is the shown program page, all at once. -/
def Block.takeSwap (b : Block) : Block :=
  if b.fgetB F.DSE_PCTL_SWAP then
    let text := (upto 112).map fun k => b.reg (Reg.DSE_PTEXT k)
    let blink := (upto 14).map fun k => b.reg (Reg.DSE_PBLINK k)
    ({ b with dse := { b.dse with text := text, blink := blink } }.fset F.DSE_PCTL_SWAP 0).raiseEvt 0xE1 3
  else b

/-- Write the lines of a frame that differ from those last written, then attributes and brightness where they change. -/
def Block.writeLines (b : Block) (frame : List (List Nat)) (attrs : List Nat) : Block :=
  let changed := (upto frame.length).filter fun i => b.dse.lines[i]? != frame[i]?
  let b := b.forAll changed fun b i => b.send .panel "line" (i :: nth [] frame i)
  let b := b.addSat F.DSE_LINE_CNT_COUNT changed.length
  let b := b.when (b.dse.attrs != attrs) fun b => b.send .panel "attributes" attrs
  let n := b.brightness
  let b := b.when (b.dse.bright != n) fun b => b.send .panel "brightness" [n]
  { b with dse := { b.dse with lines := frame, attrs := attrs, bright := n } }

/-- What the status bar shows: FORCED while the force table holds an entry (R159), LOCKOUT while the island is locked. -/
def Block.barItems (b : Block) : List BarItem :=
  [.state b.modState] ++ (if b.inRecovery then [.recovery] else []) ++ [.role b.role, .thermal (b.fget F.PWR_THERM_STATE)] ++
    (if b.fgetB ⟨Reg.BLK_STAT 0x28, 8, 1⟩ then [.forced] else []) ++ (if b.islState == isLockout then [.lockout] else [])

/-- Level and blink attribute of a pixel of the status bar: FORCED blinks slow, LOCKOUT fast (R446). -/
def barPixel (items : List BarItem) (px : Nat) : Nat × Nat :=
  let on (i : BarItem) : Bool := items.contains i && Config.barLevel i px % 16 != 0
  (items.foldl (fun m i => Nat.max m (Config.barLevel i px % 16)) 0, if on .lockout then 2 else if on .forced then 1 else 0)

/-- The 16 lines of the status bar with their attributes. -/
def barLines (items : List BarItem) : List (List Nat) × List Nat :=
  ((upto 16).map fun y => (upto 256).map fun x => (barPixel items (256 * y + x)).1, (upto 4096).map fun px => (barPixel items px).2)

/-- Level and attribute of a pixel of the program page: a code outside 0x20 to 0x7E shows blank (R450). -/
def Block.progPixel (b : Block) (y x : Nat) : Nat × Nat :=
  let row := y / 8
  let cell := x / 8
  let code := bits (nth 0 b.dse.text (8 * row + cell / 4)).toNat (8 * (cell % 4)) 8
  (if 0x20 ≤ code ∧ code ≤ 0x7E then Config.glyph code (y % 8) (x % 8) % 16 else 0,
    if bit (nth 0 b.dse.blink row).toNat cell then 1 else 0)

/-- The 112 lines of the program page with their attributes. -/
def Block.progLines (b : Block) : List (List Nat) × List Nat :=
  ((upto 112).map fun y => (upto 256).map fun x => (b.progPixel y x).1,
    (upto 112).flatMap fun y => (upto 256).map fun x => (b.progPixel y x).2)

/-- The frame of the page shown: the status bar, and the program page or the body given. -/
def Block.panelFrame (b : Block) (page : Nat) (body : List (List Nat)) (attrs : List Nat) : List (List Nat) × List Nat :=
  let bar := barLines b.barItems
  let rest := if page = 7 then b.progLines else (fillTo (List.replicate 256 0) 112 body, fillTo 0 28672 attrs)
  (bar.1 ++ rest.1, bar.2 ++ rest.2)

/-- PANEL_RENDER with the body of the page shown.
Log: 86 (DESIGN CHOICE), 110 (DESIGN CHOICE), 111 (DESIGN CHOICE), 114 (DEDUCED). -/
def execPanelRender (body : List (List Nat)) (attrs : List Nat) (ok mapOk : Bool) (s : State) :
    Host.Outcome State Fault Refusal := lift (fun b =>
  if !b.powered || !b.periodic .panel 100000000 then b
  else
    let b := (b.timed .panel).readMap mapOk
    let b := b.when (b.fgetB F.DSE_STAT_PANEL_OK && !ok) fun b => b.raiseEvt 0xE1 1
    let b := (b.fsetB F.DSE_STAT_PANEL_OK ok).takeSwap
    let b := b.when b.dimBarred fun b => b.fset F.DSE_STAT_DIMMED 0
    let page := b.pageShown
    let b := b.when (b.fget F.DSE_STAT_PAGE != page) fun b => (b.fset F.DSE_STAT_PAGE page).raiseEvt 0xE1 0
    let left := b.dse.lamp
    let b := { b with dse := { b.dse with lamp := left - 1 } }.fsetB F.DSE_STAT_LAMP_TEST (decide (0 < left))
    if !ok then { b with dse := { b.dse with lines := [], attrs := [], bright := 0 } }
    else if 0 < left then b.writeLines (lampFrame left).1 (lampFrame left).2
    else b.writeLines (b.panelFrame page body attrs).1 (b.panelFrame page body attrs).2) s

/-- SWAP. -/
def execSwap (r : Requester) (s : State) : Host.Outcome State Fault Refusal := lift (fun b =>
  b.cmdWrite r Reg.DSE_PCTL 1 [] id) s

/-- DIM_TIME minutes have passed without a press; 0 never dims (R449). -/
def Block.dimDue (b : Block) : Bool :=
  let m := b.fget F.DSE_CFG_DIM_TIME
  m != 0 && decide (b.dse.pressed + m * 60000000000 ≤ b.clk)

/-- PANEL_DIM, once the time has passed. -/
def execPanelDim (s : State) : Host.Outcome State Fault Refusal := lift (fun b =>
  if !b.powered || b.dimBarred || !b.dimDue then b else b.fset F.DSE_STAT_DIMMED 1) s

/-! ### Buttons (R452, R453, R457) -/

/-- Values of BTN_LAST.BUTTON. -/
def btnUp : Nat := 0
def btnDown : Nat := 1
def btnSet : Nat := 2

/-- Presses are ignored while unpowered, in START, in HALT and during RECOVERY. Log: 114 (DEDUCED). -/
def Block.pressIgnored (b : Block) : Bool := !b.powered || b.modState == stStart || b.modState == stHalt

/-- The accepted levels of the buttons. -/
def Block.btnLevels (b : Block) (held : Nat) : Block := b.fset ⟨Reg.BTN_STAT, 0, 3⟩ held

/-- A press is accepted: shown, counted, and the panel is at full brightness. -/
def Block.accept (b : Block) (kind button : Nat) : Block :=
  let b := ((b.fset F.BTN_LAST_KIND kind).fset F.BTN_LAST_BUTTON button).incSat F.BTN_PRESS_CNT_COUNT
  { b with dse := { b.dse with pressed := b.clk } }.fset F.DSE_STAT_DIMMED 0 |>.raiseEvt 0xE2 0

/-- The neighbour of `x` in a list, before (`up`) or after it; `x` itself at the ends. -/
def neighbour (l : List Nat) (up : Bool) (x : Nat) : Nat :=
  match l.idxOf? x with
  | some i => if up then nth x l (i - 1) else nth x l (i + 1)
  | none => nth x l 0

/-- Channels that grant local calibration. -/
def Block.lcalChannels (b : Block) : List Nat := (upto 64).filter fun n => b.fgetB (F.CH_MODE_LCAL_GRANT n)

/-- The channel the CAL menu has selected. -/
def Block.calSel (b : Block) : Nat := low 6 b.btn.sel

/-- Enter a step of the CAL menu. -/
def Block.calStep (b : Block) (k : Nat) : Block := (b.fset F.BTN_STAT_CAL_STEP k).fset F.BTN_STAT_CAL_CH b.btn.sel

/-- UP and DOWN: another channel, or the reference by 1 µA within its span. -/
def Block.calMove (b : Block) (up : Bool) : Block :=
  let shift (lo hi : Nat) : Block :=
    let n := if up then b.btn.ref + 1 else b.btn.ref - 1
    if lo ≤ n ∧ n ≤ hi then { b with btn := { b.btn with ref := n } } else b
  match b.fget F.BTN_STAT_CAL_STEP with
  | 1 => { b with btn := { b.btn with sel := neighbour b.lcalChannels up b.btn.sel } }.calStep 1
  | 2 => shift 3000 5000
  | 3 => shift 19000 21000
  | _ => b

/-- The reference as CH_CAL_REF holds it, in binary32 mA. -/
def Block.calRef (b : Block) : Nat := (fmt32.div (fmt32.round false b.btn.ref 0).bits (fmt32.round false 1000 0).bits).bits

/-- SET at ZERO or SPAN: the reference goes to CH_CAL_REF and the point is recorded; an AI waits for its average. -/
def Block.calTake (b : Block) (span : Bool) : Block :=
  let n := b.calSel
  let b := (b.setRegN (Reg.CH_CAL_REF n) b.calRef).calPoint n span b.calRef
  if isAiMode (b.chMode n) || b.fget (F.CH_RES_CODE n) != 0 then b
  else { b with btn := { b.btn with ref := 20000 } }.calStep (if span then 4 else 3)

/-- SET in the CAL menu. -/
def Block.calConfirm (b : Block) : Block :=
  let n := b.calSel
  match b.fget F.BTN_STAT_CAL_STEP with
  | 1 =>
    let b := b.calOpenBy n true 0
    if b.fget (F.CH_RES_CODE n) = 0 then
      ({ b with btn := { b.btn with ref := 4000 } }.calStep 2 |>.fset F.BTN_STAT_CAL_OPEN 1).raiseEvt 0xE2 1
    else b
  | 2 => b.calTake false
  | 3 => b.calTake true
  | 4 => b.calCommitBy n
  | _ => b

/-- A short press. -/
def Block.shortPress (b : Block) (button : Nat) : Block :=
  if b.fgetB F.DSE_CFG_HOLD_PROG then b
  else if b.fget F.BTN_STAT_CAL_STEP ≠ 0 then
    if button = btnSet then b.calConfirm else b.calMove (button == btnUp)
  else if button = btnSet then
    if b.pageShown = 8 then
      { b with btn := { b.btn with sel := neighbour (b.lcalChannels.take 1) true b.btn.sel } }.calStep 1
    else b
  else { b with btn := { b.btn with page := neighbour b.pages (button == btnUp) b.pageShown } }

/-- BUTTON_PRESS. Log: 113 (DESIGN CHOICE). -/
def execButtonPress (button : Fin 3) (held : Fin 8) (s : State) : Host.Outcome State Fault Refusal := lift (fun b =>
  let b := b.btnLevels held.val
  if b.pressIgnored then b else (b.accept 0 button.val).shortPress button.val) s

/-- BUTTON_LONG_PRESS: SET, back one level. -/
def execButtonLongPress (held : Fin 8) (s : State) : Host.Outcome State Fault Refusal := lift (fun b =>
  let b := b.btnLevels held.val
  if b.pressIgnored then b
  else
    let b := b.accept 1 btnSet
    if b.fgetB F.DSE_CFG_HOLD_PROG then b
    else match b.fget F.BTN_STAT_CAL_STEP with
      | 0 => b
      | 1 => b.fset F.BTN_STAT_CAL_STEP 0
      | _ => b.calCancelBy b.calSel) s

/-- BUTTON_REPEAT: UP or DOWN held in value entry. Log: 113 (DESIGN CHOICE). -/
def execButtonRepeat (down : Bool) (held : Fin 8) (s : State) : Host.Outcome State Fault Refusal := lift (fun b =>
  let b := b.btnLevels held.val
  let step := b.fget F.BTN_STAT_CAL_STEP
  if b.pressIgnored || !(step == 2 || step == 3) then b
  else (b.accept 2 (if down then btnDown else btnUp)).calMove (!down)) s

/-- LAMP_TEST: ignored during a local session. Log: 110 (DESIGN CHOICE). -/
def execLampTest (held : Fin 8) (s : State) : Host.Outcome State Fault Refusal := lift (fun b =>
  let b := b.btnLevels held.val
  if b.pressIgnored || b.fgetB F.BTN_STAT_CAL_OPEN then b
  else { b.accept 1 3 with dse := { b.dse with lamp := 100 } }.fset F.DSE_STAT_LAMP_TEST 1) s

/-- LOCAL_CAL_CHANGE: opening ends every local session as cancelled. -/
def execLocalCalChange (closed : Bool) (s : State) : Host.Outcome State Fault Refusal := lift (fun b =>
  let b := { b with btn := { b.btn with localCal := closed } }
  if !b.powered then b
  else
    let b := (b.fsetB F.BTN_STAT_LOCAL_CAL closed).raiseEvt 0xE2 3
    if closed then b
    else b.forAll ((upto 64).filter fun n => match (b.chan n).cal with
      | some c => c.isLocal
      | none => false) Block.calEnd) s

end Sys2Proof.Machine
end

