-- ==== Sys2Proof/Machine/Security.lean ====
section
/-! DEFINITION. The service port: the unlock token and what its acceptance destroys (R458, R459, R464 to R466, R468, R469). -/

namespace Sys2Proof.Machine

def secOk : Nat := 0
def secSignature : Nat := 1
def secSerial : Nat := 2
def secCount : Nat := 3
def secState : Nat := 4

/-- The token's words: serial number, unlock count, signature (R464). -/
def Block.token (b : Block) : List Nat := (upto 19).map fun w => b.regN (Reg.SEC_TOKEN w)

/-- The signature is valid for an unrevoked vendor key. -/
def Block.tokenSigned (b : Block) : Bool :=
  (upto 4).any fun k => !bit (b.fget secRevoked) k &&
    Config.ed25519 (Config.vendorKey k) (fBytes (b.token.take 3)) (fBytes (b.token.drop 3))

/-- The code of an unlock attempt, in the order of R466. Log: 115 (DEDUCED). -/
def Block.tokenJudge (b : Block) : Nat :=
  if !b.tokenSigned then secSignature
  else if nth 0 b.token 0 + 2 ^ 32 * nth 0 b.token 1 ≠ b.pair Reg.SYS_SERIAL_LO then secSerial
  else if nth 0 b.token 2 ≠ b.fget secUnlocks then secCount
  else if b.modState ≠ stCommission ∨ b.fgetB secErased then secState
  else secOk

/-- The steps of R465: every session closes and the keys are erased; the unlock is counted and recorded; SVC is enabled. -/
def Block.unlockAccepted (b : Block) : Block :=
  let b := b.forAll (b.ssp.sessions.map (·.num)) Block.closeSession
  let b := ((b.fset secErased 1).addSat secUnlocks 1).event 0xF8 0 [Reg.BLK_STAT 0xF8]
  b.fset secSvc 1

/-- A value written to SEC_CMD. -/
def Block.secCommand (b : Block) (v : Nat) : Block :=
  let b := b.fset F.SEC_CMD_CMD 0
  if !bit v 0 then b
  else
    let code := b.tokenJudge
    let b := b.forAll (upto 19) fun b w => b.setRegN (Reg.SEC_TOKEN w) 0
    let b := b.fset secResult code
    if code = secOk then b.unlockAccepted else b.raiseEvt 0xF8 1

def Block.secCmdWrite (b : Block) (r : Requester) (v : Nat) : Block := b.cmdWrite r Reg.SEC_CMD v [] fun b => b.secCommand v

/-- UNLOCK. Log: 115 (DEDUCED). -/
def execUnlock (r : Requester) (s : State) : Host.Outcome State Fault Refusal := lift (fun b => b.secCmdWrite r 1) s

end Sys2Proof.Machine
end

