-- ==== Sys2Proof/Machine/Supply.lean ====
section
/-! DEFINITION. The field supply and the test-pulse chips, which act on channels, on HART and on the island (R38, R39, R245, R246, R259). -/

namespace Sys2Proof.Machine

/-- A field supply fault: the bus is off, every channel in use shows it, and an island that owns a channel locks out. -/
def Block.supplyFault (b : Block) (f : Fld) (evt : Nat) : Block :=
  let b := (b.fset f 1).fset F.CHG_FP_STAT_BUS_OK 0
  let b := { b with pwr := { b.pwr with fieldOn := false } }
  let b := b.fieldFault.hartCheckAll.raiseEvt 0x80 evt
  b.when (!b.owned.isEmpty) fun b => b.lockout 12 none

/-- The field bus is restored, and with it FIELD_SUPPLY counts as cleared (R286, R294). -/
def Block.supplyBack (b : Block) : Block :=
  let b := b.fieldBack
  b.when (bit (b.regN Reg.SAF_CAUSES) 12) fun b => b.fset ⟨Reg.SAF_CLEARED, 12, 1⟩ 1

/-- The field bus is below 17.0 V for 5 ms. -/
def execFieldBusUndervoltage (s : State) : Host.Outcome State Fault Refusal := lift (fun b =>
  if b.fgetB F.CHG_FP_STAT_UNDERVOLT then b else b.supplyFault F.CHG_FP_STAT_UNDERVOLT 4) s

/-- Above 20 A for 1 ms the field bus is switched off; it returns only on RESTORE. -/
def execFieldLimitTrip (s : State) : Host.Outcome State Fault Refusal := lift (fun b =>
  if b.fgetB F.CHG_FP_STAT_TRIPPED then b else b.supplyFault F.CHG_FP_STAT_TRIPPED 5) s

/-- The field bus has stayed at 18.0 V for 100 ms: it is on, unless a trip of the limit awaits RESTORE. -/
def execFieldBusReturn (s : State) : Host.Outcome State Fault Refusal := lift (fun b =>
  if b.fgetB F.CHG_FP_STAT_TRIPPED then b.fset F.CHG_FP_STAT_UNDERVOLT 0
  else if b.pwr.fieldOn then b
  else b.supplyBack) s

/-- FP1 or FP2 is lost or returns; the adaptive supplies follow the bus. -/
def execFieldInputChange (fp : Fin 2) (ok : Bool) (mv : Nat) (s : State) : Host.Outcome State Fault Refusal := lift (fun b =>
  let b := (b.fset (if fp.val = 0 then F.CHG_FP_V_FP1 else F.CHG_FP_V_FP2) (Nat.min mv 65535)).chRefreshAll
  let f := if fp.val = 0 then F.CHG_FP_STAT_FP1_OK else F.CHG_FP_STAT_FP2_OK
  if b.fgetB f = ok then b
  else (b.fsetB f ok).raiseEvt 0x80 (fp.val + (if ok then 2 else 0))) s

/-- CHG_CMD.RESTORE: the field bus returns after a limit trip; the bit clears when taken up. -/
def Block.chgRestore (b : Block) (v : Nat) : Block :=
  let b := b.fset F.CHG_CMD_RESTORE 0
  if bit v 0 && b.fgetB F.CHG_FP_STAT_TRIPPED then
    if b.fgetB F.CHG_FP_STAT_UNDERVOLT then
      b.fset F.CHG_FP_STAT_TRIPPED 0
    else b.supplyBack
  else b

def execRestore (r : Requester) (s : State) : Host.Outcome State Fault Refusal := lift (fun b =>
  b.cmdWrite r Reg.CHG_CMD 1 [] fun b => b.chgRestore 1) s

/-- TP_CHIP_EVAL: a fault declared on an input of the island is its lock-out cause 8 (R246, R284). Log: 32 (DEDUCED). -/
def execTpChipEval (ch : Fin 64) (chip : Fin 8) (on : Bool) (found : Option (Fin 64)) (s : State) :
    Host.Outcome State Fault Refusal := lift (fun b =>
  let n := ch.val
  let was := b.fgetB (F.CH_STAT_TP_FAULT n)
  let b := b.tpChip n chip.val on found
  b.when (!was && b.fgetB (F.CH_STAT_TP_FAULT n) && (b.chan n).island) fun b => b.lockout 8 (some n)) s

end Sys2Proof.Machine
end

