-- ==== Sys2Proof/Machine/Fabric.lean ====
section
/-! DEFINITION. The register fabric as a whole: what every register write does beyond storing its fields, reads, the 64-bit latches, page locks, event lines and refusal records (R7, R51 to R67, R228, R256, R343, R346, R356, R357, R386, R451, R472, R479). -/

namespace Sys2Proof.Machine

/-! ### Codes that blocks add to the judgement of a write (R470, R472, R479) -/

/-- A tooth-wheel or quadrature count that R77 does not allow in a mode of ABS1. Log: 17 (DEDUCED). -/
def cprBad (mode n : Nat) : Bool :=
  let quad := n % 4 == 0 && decide (4 ≤ n ∧ n ≤ 1048572)
  let wheel := decide (8 ≤ n ∧ n ≤ 720)
  match mode with
  | 1 => !quad
  | 2 => !wheel
  | _ => !(quad || wheel)

/-- PPS or AUTO, which hold TSU_CAP0 (R84). Log: 18 (DEDUCED). -/
def holdsCap0 (src : Nat) : Bool := src == 2 || src == 4

/-- CH_AI_CFG: M and CTX outside the limits that R232 states for SYNC. Log: 19 (DEDUCED). -/
def Block.aiCfgBad (b : Block) (v : Nat) : Bool :=
  let m := bits v 16 6
  let c := bits v 8 8
  match bits v 4 2 with
  | 1 => !decide (1 ≤ m ∧ m ≤ 60)
  | 2 => m == 0
  | 3 =>
    let t := b.trigOf c
    let ns := b.fget (F.CTX_PERIOD_PERIOD c) * 10000
    m == 0 || !b.fgetB (F.CTX_CFG_VALID c) || !decide (1 ≤ t ∧ t ≤ 3) || (t == 1 && (ns % m != 0 || decide (ns / m < 250000)))
  | _ => false

/-- The codes a block's own rules add, outside the CH, CAN, RED and HRT configuration.
Log: 17 (DEDUCED), 18 (DEDUCED). -/
def Block.fabExtra (b : Block) (r : Requester) (off v : Nat) : List Nat :=
  let p := off / 0x1000
  if 0x10 ≤ p ∧ p ≤ 0x1F ∧ off = Reg.ENG_TEST (p - 0x10) then b.engTestExtra r (p - 0x10) v
  else if off = Reg.ABS0_RELOCK then
    codeIf ((b.fset F.ABS0_RELOCK_STEP_MAX (bits v 16 16)).stepConflict b.progCtxs) cfgConflict
  else if off = Reg.ABS1_CFG then
    codeIf (decide (3 < bits v 4 4) || (bits v 0 2 == 2 && bits v 4 4 == 0)) accValue
  else if off = Reg.ABS1_CPR then codeIf (cprBad (b.fget F.ABS1_CFG_MODE) (low 20 v)) accValue
  else if off = Reg.TSU_CFG then
    codeIf (holdsCap0 (bits v 0 3) && b.fget (F.TSU_CAP_CFG_SRC 0) == 2) cfgConflict
  else if off = Reg.TSU_CAP_CFG 0 then
    codeIf (bits v 0 3 == 2 && holdsCap0 (b.fget F.TSU_CFG_SRC)) cfgConflict
  else if off = Reg.TSU_CAP_CFG 1 ∨ off = Reg.TSU_CAP_CFG 2 ∨ off = Reg.TSU_CAP_CFG 3 then
    codeIf (bits v 0 3 == 1 || bits v 0 3 == 2) accValue
  else if off = Reg.DSE_CFG then codeIf (bit v 17 && !b.lcalChannels.isEmpty) cfgConflict
  else match r with
    | .prg _ => codeIf ((upto 16).any fun j => off == Reg.SOL_JOB_CTL j) accClass
    | _ => []

/-! ### What an accepted write does beyond storing (each block's chapter) -/

/-- Keep WARM below HOT below CRITICAL, and CRITICAL within its limit, of PWR_DIE_THR or PWR_RAIL_THR (R138). -/
def Block.nestThr (b : Block) (off lim : Nat) : Block :=
  let c := Nat.min (b.fget ⟨off, 16, 8⟩) lim
  let h := Nat.min (b.fget ⟨off, 8, 8⟩) (c - 1)
  let w := Nat.min (b.fget ⟨off, 0, 8⟩) (h - 1)
  ((b.fset ⟨off, 16, 8⟩ c).fset ⟨off, 8, 8⟩ h).fset ⟨off, 0, 8⟩ w

/-- BLK_LOCK: the unlock key unlocks and makes the writer HOLDER; any other value locks (R60). -/
def Block.lockWrite (b : Block) (r : Requester) (p v : Nat) : Block :=
  if v = 0xA5C30000 + p then
    let code := match r with
      | .sup => 1
      | _ => 2
    { b.setRegN (Reg.BLK_LOCK p) (2 * code) with fab := { b.fab with holders := mapSet b.fab.holders p r } }.timed (.pageLock p)
  else b.lockPage p

/-- The effect of an accepted write of a header register beyond its fields: BLK_LOCK alone has one (R53, R60). -/
def Block.headEffect (r : Requester) (off v : Nat) (b : Block) : Block :=
  if off % 0x1000 = 0x20 then b.lockWrite r (off / 0x1000) v else b

/-- The effect of an accepted write of a register with a job beyond its fields; `old` is the module before the write. -/
def Block.fabEffect (old : Block) (r : Requester) (off v : Nat) (found : Option AccIn) (b : Block) : Block :=
  let p := off / 0x1000
  if off = Reg.SYS_CMD then b.sysCommand v (found.map (·.start))
  else if off = Reg.PWR_DIE_THR then b.nestThr off 118
  else if off = Reg.PWR_RAIL_THR then b.nestThr off 80
  else if off = Reg.ABS0_CFG then b.absCfgWritten
  else if off = Reg.ABS1_CFG then b.shaftCfgWritten (old.fget F.ABS1_CFG_MODE)
  else if off = Reg.TSU_CFG then b.tsuCfgWritten
  else if off = Reg.TSU_TRIM then b.when (b.tsuState == tsuFree) fun b => b.setRegN Reg.TSU_RATE v
  else if off = Reg.TSU_CMD then b.tsuCommand (bits v 0 2)
  else if (upto 4).any fun k => off == Reg.TSU_CMP_PERIOD k then
    b.when (decide (1 ≤ v ∧ v ≤ 9999)) fun b => b.setRegN off 10000
  else if off = Reg.RTC_CMD then b.rtcCommand v
  else if 0x10 ≤ p ∧ p ≤ 0x1F ∧ off = Reg.ENG_TEST (p - 0x10) then b.when (bit v 0) fun b => b.engTest (p - 0x10)
  else if off = Reg.SCH_CMD then b.schCommand v
  else if off = Reg.FRC_CMD then b.frcCommand r v
  else if off = Reg.OLC_CMD then b.olcCommand v
  else if (upto 16).any fun j => off == Reg.SOL_JOB_CTL j then
    let j := (off - 0x31000) / 0x400
    let b := b.fset (F.SOL_JOB_CTL_CANCEL j) 0
    match found, bit v 31 with
    | some f, true => (b.solScan j f.made).1
    | _, _ => b
  else if off = Reg.CHG_CMD then b.chgRestore v
  else if off = Reg.LNK_CMD then b.lnkCommand v
  else if off = Reg.NET_IP_ADDR ∨ off = Reg.NET_IP_MASK ∨ off = Reg.NET_IP_GW then
    { b with net := { b.net with ipWritten := true } }
  else if off = Reg.PTP_CFG ∨ off = Reg.PTP_PRIO then b.ptpDecide
  else if off = Reg.RED_CMD then b.redCommand v
  else if off = Reg.UPD_CMD then b.updCommand v
  else if off = Reg.DSB_CMD then b.dsbCommand v
  else if off = Reg.DSE_CFG then b.fset F.DSE_RES_CODE 0
  else if off = Reg.SEC_CMD then b.secCommand v
  else b

/-- A refused write of DSE_CFG is reported in DSE_RES (R451). -/
def Block.fabRefused (b : Block) (off code : Nat) : Block :=
  if off = Reg.DSE_CFG ∧ code = cfgConflict then (b.fset F.DSE_RES_CODE cfgConflict).raiseEvt 0xE1 4 else b

/-! ### CH pages (R228, R248, R256) -/

/-- A configuration register of a channel other than CH_MODE. -/
def Block.chCfgWrite (b : Block) (r : Requester) (n off v : Nat) : Block × Nat :=
  let slot := bits v 8 6
  let extra :=
    if off = Reg.CH_AI_CFG n then codeIf (b.aiCfgBad v) accValue
    else if off = Reg.CH_DI_CFG n then codeIf (!b.chPulsed slot) cfgConflict
    else []
  let (b, code) := b.regWrite r off v extra fun b => ((b.substMask n).chRefresh n).fset (F.CH_RES_CODE n) 0
  match chCode code with
  | some c => (b.chRefused n c, code)
  | none => (b, code)

/-- A write of a CH page. -/
def Block.chPageWrite (b : Block) (r : Requester) (n off v : Nat) : Block × Nat :=
  if off = Reg.CH_MODE n then b.chModeSet r n v
  else if off = Reg.CH_CMD n then b.regWrite r off v (chCmdExtra r v) fun b => b.chCommand r n v
  else if Reg.CH_AI_CFG n ≤ off ∧ off ≤ Reg.CH_SUBST_VAL n then b.chCfgWrite r n off v
  else b.regWrite r off v [] id

/-! ### CAN pages (R343, R346, R356, R357) -/

/-- A write of a CAN page. Log: 9 (DEDUCED). -/
def Block.canPageWrite (b : Block) (r : Requester) (k off v : Nat) : Block × Nat :=
  let held := k == 3 && b.fgetB (F.CAN_MODE_AUX 3) &&
    (off == Reg.CAN_MODE 3 || off == Reg.CAN_NBT 3 || off == Reg.CAN_DBT 3 || off == Reg.CAN_TDC 3)
  let extra := codeIf held cfgConflict ++ codeIf (off == Reg.CAN_RX_BASE k && v % 16 != 0) accValue
  let timing := off == Reg.CAN_NBT k || off == Reg.CAN_DBT k
  let code := b.judgeWrite r off v extra
  if code = accValue then ((b.refuse r off code true).canRes k 3, code)
  else if code = cfgConflict then ((b.refuse r off code true).canRes k cfgConflict, code)
  else if code = 0 ∧ timing ∧ b.canTimingJudge k off v ≠ 0 then (b.canRes k (b.canTimingJudge k off v), 0)
  else b.regWrite r off v extra fun b =>
    if off = Reg.CAN_CMD k then b.canRecover k v
    else if off = Reg.CAN_RX_BASE k then (b.canWindow k).canRes k 0
    else if off = Reg.CAN_MODE k then (b.timed (.canMode k)).canRes k 0
    else if off = Reg.CAN_WARN k then (b.canWarn k (b.canWarns k (b.canPort k).tec (b.fget (F.CAN_ERR_REC k)))).canRes k 0
    else b.canRes k 0

/-! ### The RED page (R356, R386, R474) -/

/-- A value of RED_CFG.CTX that is not a class A or B context with TRIG 1, 2 or 3. -/
def Block.roundCtxBad (b : Block) (c : Nat) : Bool :=
  !(b.fgetB (F.CTX_CFG_VALID c) && decide (b.fget (F.CTX_CFG_CLASS c) ≤ 1) && decide (1 ≤ b.trigOf c ∧ b.trigOf c ≤ 3))

/-- HB_EN is being set while CAN3 has another use. -/
def Block.hbConflict (b : Block) (v : Nat) : Bool :=
  bit v 0 && !b.fgetB F.RED_CFG_HB_EN &&
    (b.fget (F.CAN_MODE_MODE 3) != 0 || (b.canPort 3).mode != 0 || namesCan3 b.progCtxs b.canCfg)

/-- RED_CFG and RED_TIMING are written in COMMISSION alone. Log: 9 (DEDUCED). -/
def Block.redCfgWrite (b : Block) (r : Requester) (off v : Nat) : Block × Nat :=
  let cfg := off == Reg.RED_CFG
  let extra := codeIf (cfg && b.roundCtxBad (bits v 16 8)) accValue ++ codeIf (cfg && b.hbConflict v) cfgConflict
  let code := b.judgeWrite r off v extra
  if code = accValue then ((b.refuse r off code true).fset F.RED_RES_CODE 6, code)
  else if code = cfgConflict then ((b.refuse r off code true).fset F.RED_RES_CODE cfgConflict, code)
  else if code = 0 ∧ b.modState ≠ stCommission then (b.fset F.RED_RES_CODE 5, 0)
  else b.regWrite r off v extra fun b => (b.when cfg Block.hbFollow).fset F.RED_RES_CODE 0

/-! ### Any register write -/

/-- A line that no page asserts any more is low. Log: 14 (DEDUCED). -/
def Block.linesFall (b : Block) : Block :=
  b.forAll ((upto 256).filter fun n => b.fgetB (lineLevel n) && !b.lineAsserted n) fun b n => b.fset (lineLevel n) 0

/-- One register write as the fabric performs it. -/
def Block.oneWrite (b : Block) (r : Requester) (off v : Nat) (found : Option AccIn) : Block × Nat :=
  let p := off / 0x1000
  let (b, code) :=
    if !blockArea off then b.regWrite r off v [] (Block.headEffect r off v)
    else if 0x40 ≤ p ∧ p ≤ 0x7F then b.chPageWrite r (p - 0x40) off v
    else if 0x90 ≤ p ∧ p ≤ 0x93 then b.canPageWrite r (p - 0x90) off v
    else if off = Reg.RED_CFG ∨ off = Reg.RED_TIMING then b.redCfgWrite r off v
    else if (upto 64).any fun n => off == Reg.HRT_CH_CFG n then b.hartCfgWrite r ((off - Reg.HRT_CH_CFG 0) / 8) v
    else if (upto 16).any fun t => off == Reg.HRT_T_CTL t then
      b.hartCtlBy r ((off - Reg.HRT_T_CTL 0) / 0x90) v
    else b.regWrite r off v (b.fabExtra r off v) (b.fabEffect r off v found)
  (b.linesFall.fabRefused off code, code)

/-! ### 64-bit values (R61) -/

/-- The _LO of a writable 64-bit pair. -/
def writableLo (off : Nat) : Bool :=
  [Reg.ABS_CMP_LO 0, Reg.ABS_CMP_LO 1, Reg.TSU_SET_LO, Reg.RTC_SET_LO, Reg.FRC_VAL_LO].contains off ||
    (upto 4).any fun k => off == Reg.TSU_CMP_LO k

/-- The _LO of a 64-bit pair. -/
def isLo (off : Nat) : Bool :=
  let p := off / 0x1000
  let o := off % 0x1000
  writableLo off ||
    [Reg.ABS0_POS_LO, Reg.ABS1_POS_LO, Reg.TSU_TIME_LO, Reg.RTC_TIME_LO, Reg.FRC_ENTRY_LO, Reg.FRC_ENTRY_TIME_LO,
      Reg.OLC_ARM_TIME_LO, Reg.OLC_COMMIT_TIME_LO, Reg.SOL_LANE_CLK_LO, Reg.CHG_FAULT_LO, Reg.CHG_COMP_LO, Reg.CHG_TPF_LO,
      Reg.CHG_ISL_LO, Reg.SAF_LOCK_TIME_LO, Reg.SAF_OWN_LO, Reg.SAF_IN_LO, Reg.SAF_OUT_LO, Reg.SAF_HOLD_LO,
      Reg.SAF_CHFLT_LO, Reg.NET_MAC_LO, Reg.PTP_GM_LO, Reg.RED_LAST_TO_LO, Reg.EVR_OPTIME_LO, Reg.EVR_RING_OLD_LO,
      Reg.EVR_RING_NEXT_LO, Reg.EVR_FIRST_NEXT_LO, Reg.SYS_SERIAL_LO].contains off ||
    (upto 4).any (fun k => off == Reg.TSU_CAP_LO k) ||
    (decide (0x10 ≤ p ∧ p ≤ 0x1F) && [0x64, 0x6C, 0x88].contains o) ||
    (decide (0x31 ≤ p ∧ p ≤ 0x34) && [0x14, 0x1C].contains (o % 0x400)) ||
    (decide (0x40 ≤ p ∧ p ≤ 0x7F) && o == 0x68) ||
    (upto 16).any fun t => off == Reg.HRT_T_END_LO t

/-- A _LO of TSU or calendar time, whose read latches the epoch as well. -/
def hasEpoch (lo : Nat) : Bool := lo == Reg.TSU_TIME_LO || lo == Reg.RTC_TIME_LO

/-- A write of a _LO is held in the requester's latch once it is judged. -/
def Block.loWrite (b : Block) (r : Requester) (off v : Nat) : Block × Nat :=
  let code := b.judgeWrite r off v
  if code = 0 then (b.setLatch r { b.latch r with writeLo := some (off, BitVec.ofNat 32 v) }, 0)
  else (b.refuse r off code true, code)

/-- A write of a _HI takes the _LO that the latch holds for it. Log: 22 (DEDUCED). -/
def Block.hiWrite (b : Block) (r : Requester) (off v : Nat) : Block × Nat :=
  match (b.latch r).writeLo with
  | some (lo, w) =>
    if lo + 4 = off then
      let (b, code) := b.oneWrite r off v none
      if code = 0 then ((b.storeWrite lo w.toNat).setLatch r { b.latch r with writeLo := none }, 0) else (b, code)
    else b.oneWrite r off v none
  | none => b.oneWrite r off v none

/-- Any 32-bit write of the window. -/
def Block.fabWrite (b : Block) (r : Requester) (off v : Nat) (found : Option AccIn) : Block × Nat :=
  if writableLo off then b.loWrite r off v
  else if 4 ≤ off && writableLo (off - 4) then b.hiWrite r off v
  else b.oneWrite r off v found

/-- The word that a read of the window returns: for the words above a _LO the latched ones.
Log: 10 (DESIGN CHOICE), 22 (DEDUCED). -/
def Block.latchedWord (b : Block) (r : Requester) (off : Nat) : Word :=
  match (b.latch r).readLo with
  | some (lo, hi, ep) =>
    if off = lo + 4 then hi
    else if off = lo + 8 ∧ hasEpoch lo then ep
    else b.readWord off
  | none => b.readWord off

/-- Any 32-bit read of the window: a refused read returns 0; a _LO latches; RC fields clear. -/
def Block.fabRead (b : Block) (r : Requester) (off : Nat) : Block × Nat × Word :=
  let code := b.judgeRead r off
  if code ≠ 0 then (b.refuse r off code false, code, 0)
  else
    let w := b.latchedWord r off
    let b := b.when (isLo off) fun b =>
      b.setLatch r { b.latch r with readLo := some (off, b.readWord (off + 4), b.readWord (off + 8)) }
    (b.clearRc off, 0, w)

/-! ### Meanings -/

/-- A write answered to its requester; a refusal has answered already. -/
def Block.answered (r : Requester) (off : Nat) (q : Block × Nat) : Block :=
  if q.2 = 0 then q.1.out (.access r off 0 0) else q.1

/-- A read answered to its requester. -/
def Block.readAnswered (b : Block) (r : Requester) (off : Nat) : Block :=
  let q := b.fabRead r off
  if q.2.1 = 0 then q.1.out (.access r off 0 q.2.2) else q.1

/-- REGISTER_WRITE: a byte or half-word access is refused with ACC_ALIGN (R51). Log: 20 (DESIGN CHOICE). -/
def execRegisterWrite (r : Requester) (off : Nat) (size : AccSize) (v : Word) (found : AccIn) (s : State) :
    Host.Outcome State Fault Refusal := lift (fun b =>
  if size = .word then Block.answered r off (b.fabWrite r off v.toNat (some found))
  else b.refuse r off accAlign true) s

/-- RC_READ: a byte or half-word access is refused with ACC_ALIGN and returns 0 (R51). -/
def execRcRead (r : Requester) (off : Nat) (size : AccSize) (s : State) : Host.Outcome State Fault Refusal := lift (fun b =>
  if size = .word then b.readAnswered r off else b.refuse r off accAlign false) s

/-- REG64_LO_READ. -/
def execReg64LoRead (r : Requester) (off : Nat) (s : State) : Host.Outcome State Fault Refusal := lift (fun b =>
  b.readAnswered r off) s

/-- REG64_LO_WRITE: of a writable _LO; any other write is as REGISTER_WRITE. -/
def execReg64LoWrite (r : Requester) (off : Nat) (v : Word) (s : State) : Host.Outcome State Fault Refusal := lift (fun b =>
  Block.answered r off (b.fabWrite r off v.toNat none)) s

/-- REG64_HI_WRITE. -/
def execReg64HiWrite (r : Requester) (off : Nat) (v : Word) (s : State) : Host.Outcome State Fault Refusal := lift (fun b =>
  Block.answered r off (b.fabWrite r off v.toNat none)) s

/-- EVT_TEST: a write of BLK_CTL with EVT_TEST and a value of EVT_GATE. -/
def execEvtTest (r : Requester) (page : Nat) (gate : Bool) (s : State) : Host.Outcome State Fault Refusal := lift (fun b =>
  Block.answered r (Reg.BLK_CTL page) (b.oneWrite r (Reg.BLK_CTL page) (2 + if gate then 1 else 0) none)) s

/-- EVT_PEND_CLEAR. -/
def execEvtPendClear (r : Requester) (page : Nat) (v : Word) (s : State) : Host.Outcome State Fault Refusal := lift (fun b =>
  Block.answered r (Reg.BLK_EVT_PEND page) (b.oneWrite r (Reg.BLK_EVT_PEND page) v.toNat none)) s

/-- PAGE_UNLOCK. -/
def execPageUnlock (r : Requester) (page : Nat) (s : State) : Host.Outcome State Fault Refusal := lift (fun b =>
  Block.answered r (Reg.BLK_LOCK page) (b.oneWrite r (Reg.BLK_LOCK page) (0xA5C30000 + page) none)) s

/-- PAGE_LOCK. -/
def execPageLock (r : Requester) (page : Nat) (v : Word) (s : State) : Host.Outcome State Fault Refusal := lift (fun b =>
  Block.answered r (Reg.BLK_LOCK page) (b.oneWrite r (Reg.BLK_LOCK page) v.toNat none)) s

/-- PAGE_LOCK_TIMEOUT: an unlocked headed page locks 100 ms after the unlock or the last accepted RWL write (R60). -/
def execPageLockTimeout (page : Nat) (s : State) : Host.Outcome State Fault Refusal := lift (fun b =>
  if b.pageLocked page || (pageType page).isNone || !b.passed (.pageLock page) 100000000 then b else b.lockPage page) s

/-- EVENT_LINE_EDGE: the line is asserted and was low (R66, R125). Log: 14 (DEDUCED). -/
def execEventLineEdge (line : Fin 256) (s : State) : Host.Outcome State Fault Refusal := lift (fun b =>
  let n := line.val
  if !b.lineAsserted n || b.fgetB (lineLevel n) then b
  else
    let b := (b.fset (lineLevel n) 1).fset ⟨Reg.SYS_EVL_EDGE (n / 32), n % 32, 1⟩ 1
    b.forAll ((upto 256).filter fun c => b.trigOf c == 4 && b.fget (F.CTX_CFG_LINE c) == n) Block.trigger) s

/-- Source class and identity of a requester in a record (R404). Log: 21 (DEDUCED). -/
def Block.recSource (b : Block) (r : Requester) : Nat × Nat :=
  match r with
  | .sup => (0, 0)
  | .prg c => (1, c)
  | .net n => (2, ((b.session n).map (·.entry)).getD 0)
  | .saf sy => (3, if sy then 1 else 0)

/-- ACC_REFUSED_RECORD: at most one a second for each requester instance. -/
def execAccRefusedRecord (r : Requester) (s : State) : Host.Outcome State Fault Refusal := lift (fun b =>
  let f := mapGet {} b.fab.refusals r
  let soon : Bool := match f.lastRecord with
    | some t => decide (b.clk < t + 1000000000)
    | none => false
  if f.since = 0 || soon then b
  else
    let (cls, src) := b.recSource r
    let b := { b with fab := { b.fab with refusals := mapSet b.fab.refusals r ⟨0, some b.clk⟩ } }
    b.recAccept (b.mkRec 2 cls 6 src [b.regN Reg.SYS_ACC_ERR_ADDR, b.regN Reg.SYS_ACC_ERR_INFO, f.since])) s

end Sys2Proof.Machine
end

