-- ==== Sys2Proof/Machine/Ssp.lean ====
section
/-! DEFINITION. The station service protocol: datagrams, sessions, register access, subscriptions, signed commands, recorder reads (R331 to R337, R289, R404, R408, R414, R428, R462, R463). -/

namespace Sys2Proof.Machine

/-! ### Results (R336) and services (R334) -/

def sspOk : Nat := 0
def sspVersion : Nat := 1
def sspAuth : Nat := 2
def sspRole : Nat := 3
def sspSessions : Nat := 4
def sspMalformed : Nat := 5
def sspService : Nat := 6
def sspBusy : Nat := 7
def sspLimit : Nat := 8
def sspUndef : Nat := 9
def sspSequence : Nat := 10

def svOpen : Nat := 1
def svClose : Nat := 2
def svKeepalive : Nat := 3
def svRegRead : Nat := 16
def svRegWrite : Nat := 17
def svSubscribe : Nat := 32
def svUnsubscribe : Nat := 33
def svPublish : Nat := 34
def svFileBegin : Nat := 48
def svFilePiece : Nat := 49
def svFileStatus : Nat := 50
def svFileAbort : Nat := 51
def svRecRead : Nat := 64
def svSignedCmd : Nat := 80

/-- The services of a version: version 1 lacks SUBSCRIBE, UNSUBSCRIBE and SIGNED_CMD. -/
def offered (ver sv : Nat) : Bool :=
  [svOpen, svClose, svKeepalive, svRegRead, svRegWrite, svFileBegin, svFilePiece, svFileStatus, svFileAbort, svRecRead].contains sv ||
    (ver == 2 && [svSubscribe, svUnsubscribe, svSignedCmd].contains sv)

/-- The services that the boot code offers in RECOVERY (R428). Log: 119 (DESIGN CHOICE). -/
def recoveryOffers (sv : Nat) : Bool :=
  [svOpen, svClose, svKeepalive, svRegRead, svRegWrite, svFileBegin, svFilePiece, svFileStatus, svFileAbort].contains sv

/-- The lowest role of a service. -/
def neededRole (sv : Nat) : Nat :=
  if [svFileBegin, svFilePiece, svFileAbort].contains sv then 3
  else if sv = svSignedCmd then 2
  else 1

/-! ### Answers (R333) -/

/-- The module serves SSP: it is powered and holds an identity key (R465). -/
def Block.sspServes (b : Block) : Bool := b.powered && b.identity.isSome

/-- The last four of a list. -/
def lastFour {α : Type} (l : List α) : List α := l.drop (l.length - 4)

/-- Answer a request of a session (TYPE 2) and keep the response; a session that is gone gets none.
Log: 121 (DEDUCED). -/
def Block.sspAnswer (b : Block) (h : SspHdr) (sv result : Nat) (payload : List Nat := []) : Block :=
  match b.session h.session with
  | none => b
  | some s =>
    let d := s.datagram 2 sv result h.seq payload
    (b.putSession { s with answers := lastFour (s.answers ++ [(h.seq, d)]) }).sspSend s.peer d

/-- A valid datagram of a session's client has been received (R332). -/
def Block.sspHeard (b : Block) (s : Session) : Block := b.putSession { s with heard := b.clk }

/-- Requests of a session that wait for the supervisor. -/
def Block.outstanding (b : Block) (n : Nat) : List (Nat × Nat × SspReq) := b.ssp.waiting.filter fun (w : Nat × Nat × SspReq) => w.1 == n

/-- A request waits while the supervisor stalls (R337): a repeated one once, a fifth is answered SSP_BUSY (R333).
Log: 116 (DEDUCED). -/
def Block.sspHold (b : Block) (h : SspHdr) (sv : Nat) (i : SspReq) : Block :=
  let b := { b with ssp := { b.ssp with stall := true } }
  let l := b.outstanding h.session
  if l.any fun (w : Nat × Nat × SspReq) => w.2.1 == h.seq then b
  else if 4 ≤ l.length then b.sspAnswer h sv sspBusy
  else { b with ssp := { b.ssp with waiting := b.ssp.waiting ++ [(h.session, h.seq, i)] } }

/-- A request of a session: an answered one is answered again, one that finds the supervisor stalled waits, one that may not
be performed is refused. Log: 116 (DEDUCED), 117 (DEDUCED). -/
def Block.sspRequest (b : Block) (h : SspHdr) (sv : Nat) (i : SspHdr → SspReq) (perform : Session → Block → Block) : Block :=
  if !b.sspServes then b
  else match b.session h.session with
    | none => b.incSat F.NET_DROP_CNT_COUNT
    | some s =>
      let b := b.sspHeard s
      let s := { s with heard := b.clk }
      match s.answers.find? fun a => a.1 == h.seq with
      | some a => b.sspSend s.peer a.2
      | none =>
        if b.ssp.stall || h.busy then b.sspHold h sv (i { h with busy := false })
        else if !offered s.ver sv || (b.inRecovery && !recoveryOffers sv) then b.sspAnswer h sv sspService
        else if roleCode s.role < neededRole sv then b.sspAnswer h sv sspRole
        else if h.malformed then b.sspAnswer h sv sspMalformed
        else perform s b

/-! ### Sessions (R331, R332, R462, R463) -/

/-- What the layout of a datagram fails: its MAGIC, a LEN that does not match its size or exceeds the payload limit.
Log: 12 (DEDUCED). -/
def sspUnsound (l : List Nat) : Bool :=
  leAt l 0 4 != sspMagic || l.length != 36 + leAt l 16 4 || decide (sspMax < leAt l 16 4)

/-- The TAG of a datagram verifies under a session's key. Log: 12 (DEDUCED). -/
def Session.tagOk (s : Session) (l : List Nat) : Bool :=
  let n := 20 + leAt l 16 4
  l.drop n == sspTag s.key (l.take n)

/-- SSP_BAD_DATAGRAM, as bytes: discarded and counted; a failed TAG inside a session ends it. The TAG of an OPEN, in no
session, is not checked (R462). Log: 12 (DEDUCED). -/
def execSspBadDatagram (d : List (BitVec 8)) (s : State) : Host.Outcome State Fault Refusal := lift (fun b =>
  let l := d.map BitVec.toNat
  if !b.sspServes then b
  else if sspUnsound l then b.incSat F.NET_DROP_CNT_COUNT
  else match b.session (leAt l 8 2) with
    | some s => if s.tagOk l then b else (b.incSat F.NET_DROP_CNT_COUNT).closeSession s.num
    | none => b.when (leAt l 6 1 != svOpen) fun b => b.incSat F.NET_DROP_CNT_COUNT) s

/-- The next session number: counting up from 1, past 0xFFFF again 1, without the numbers in use. -/
def nextNum (used : List Nat) : Nat → Nat → Nat
  | 0, n => n
  | k + 1, n =>
    let m := if n = 0xFFFF then 1 else n + 1
    if used.contains m then nextNum used k m else m

/-- The lowest free session entry. -/
def Block.freeEntry (b : Block) : Nat := ((upto 16).find? fun k => !b.ssp.sessions.any fun s => s.entry == k).getD 0

/-- An OPEN is refused: it belongs to no session, and its answer carries the TAG 0. Log: 118 (DEDUCED). -/
def Block.openRefused (b : Block) (o : SspOpen) (result : Nat) (payload : List Nat := []) : Block :=
  (b.incSat F.NET_REFUSE_CNT_COUNT).sspSend (low 32 o.peer) (sspHead (Nat.min o.verMax 2) 2 svOpen result 0 o.seq payload ++ List.replicate 16 0)

/-- What the client's signature covers: the header and the payload before the signature. -/
def SspOpen.signed (o : SspOpen) : List Nat :=
  o.header ++ [o.verMin, o.verMax, o.role, o.reserved] ++ o.clientKey ++ o.nonce ++ o.cred

/-- The credential is in force, its signature verifies, and the nonce is fresh. -/
def Block.openTrusted (b : Block) (o : SspOpen) : Bool :=
  (b.credRole o.cred).isSome && Config.ed25519 o.cred o.signed o.sig && !b.sec.nonces.contains o.nonce

/-- The role of a code. -/
def roleOfCode (n : Nat) : Role :=
  match n with
  | 3 => .engineer
  | 2 => .operator
  | _ => .viewer

/-- A session opens in a version; the response carries its number, role, keys and signature. -/
def Block.openSession (b : Block) (o : SspOpen) (ver : Nat) : Block :=
  let granted := Nat.min o.role ((b.credRole o.cred).getD 1)
  let num := nextNum (b.ssp.sessions.map (·.num)) 17 b.ssp.lastNum
  let key := Config.ephemeralKey b.freeCount
  let secret := Config.x25519 b.freeCount o.clientKey
  let b := { b with freeCount := b.freeCount + 1 }
  let sig := Config.identitySign (o.nonce ++ o.clientKey ++ key ++ [num % 256, num / 256, granted])
  let ses : Session := { num := num, role := roleOfCode granted, entry := b.freeEntry, ver := ver, peer := low 32 o.peer, cred := o.cred
                         key := hkdf256 o.nonce secret ([0x53, 0x53, 0x50] ++ leBytes 2 num), heard := b.clk }
  let b := { b with
    ssp := { b.ssp with sessions := b.ssp.sessions ++ [ses], lastNum := num }
    sec := { b.sec with nonces := (o.nonce :: b.sec.nonces).take 1024 } }
  let b := (b.sessShow).raiseEvt 0xA0 0
  b.sspSend ses.peer (ses.datagram 2 svOpen sspOk o.seq ([ver, granted] ++ key ++ Config.identityKey ++ sig))

/-- An OPEN waits too while the supervisor stalls. -/
def Block.openHold (b : Block) (o : SspOpen) : Block :=
  { b with ssp := { b.ssp with waiting := b.ssp.waiting ++ [(0, o.seq, .open_ o)] } }

/-- OPEN. Log: 118 (DEDUCED). -/
def execSspOpen (o : SspOpen) (s : State) : Host.Outcome State Fault Refusal := lift (fun b =>
  let hi := Nat.min o.verMax 2
  if !b.sspServes then b
  else if b.ssp.stall then b.openHold o
  else if o.reserved ≠ 0 ∨ o.role = 0 ∨ 3 < o.role then b.openRefused o sspMalformed
  else if hi < Nat.max o.verMin 1 then b.openRefused o sspVersion [1, 2]
  else if !b.openTrusted o then
    ((b.openRefused o sspAuth).raiseEvt 0xA0 2).event 0xF8 3 [Reg.NET_REFUSE_CNT]
  else if 16 ≤ b.ssp.sessions.length then (b.openRefused o sspSessions).raiseEvt 0xA0 3
  else b.openSession o hi) s

/-- CLOSE: answered, then the session ends. -/
def execSspClose (h : SspHdr) (s : State) : Host.Outcome State Fault Refusal := lift (fun b =>
  b.sspRequest h svClose .close fun s b => (b.sspAnswer h svClose sspOk).closeSession s.num) s

/-- KEEPALIVE. -/
def execSspKeepalive (h : SspHdr) (s : State) : Host.Outcome State Fault Refusal := lift (fun b =>
  b.sspRequest h svKeepalive .keepalive fun _ b => b.sspAnswer h svKeepalive sspOk) s

/-- SSP_SESSION_TIMEOUT: 30 s without a valid datagram of the client (R332); none during a supervisor stall (R337). -/
def execSspSessionTimeout (session : Nat) (s : State) : Host.Outcome State Fault Refusal := lift (fun b =>
  if !b.ssp.stall && (b.session session).any fun (s : Session) => decide (s.heard + 30000000000 ≤ b.clk) then b.closeSession session else b) s

/-- SSP_UNKNOWN_SERVICE: a service that the session's version lacks. -/
def execSspUnknownService (h : SspHdr) (service : Nat) (s : State) : Host.Outcome State Fault Refusal := lift (fun b =>
  if (b.session h.session).any fun s => offered s.ver service then b
  else b.sspRequest h service (.unknown · service) fun _ b => b.sspAnswer h service sspService) s

/-! ### Register access (R334, R428) -/

/-- In RECOVERY the boot code serves reads of the SYS and UPD pages alone. -/
def Block.bootReads (b : Block) (off : Nat) : Bool := !b.inRecovery || off / 0x1000 == 0 || off / 0x1000 == 0xD8

/-- In RECOVERY it serves writes of BLK_LOCK, UPD_CMD and SYS_CMD on those pages. -/
def Block.bootWrites (b : Block) (off : Nat) : Bool :=
  !b.inRecovery || [Reg.BLK_LOCK 0, Reg.BLK_LOCK 0xD8, Reg.UPD_CMD, Reg.SYS_CMD].contains off

/-- The status of an entry that the boot code does not serve is not stated. Log: 119 (DESIGN CHOICE). -/
def Block.bootStatus (b : Block) : Nat × Block := (b.free.1.toNat, b.free.2)

/-- One read of a request, with what is answered so far: a status byte and the value (4). Log: 199 (DESIGN CHOICE). -/
def Block.sspRead1 (r : Requester) (q : Block × List Nat) (off : Nat) : Block × List Nat :=
  if q.1.bootReads off then
    let a := q.1.fabRead r off
    (a.1, q.2 ++ a.2.1 :: leBytes 4 a.2.2.toNat)
  else (q.1.bootStatus.2, q.2 ++ low 8 q.1.bootStatus.1 :: leBytes 4 0)

/-- Read a list of registers; status and value of each. -/
def Block.sspReads (b : Block) (r : Requester) (offs : List Nat) : Block × List Nat := offs.foldl (Block.sspRead1 r) (b, [])

/-- One write of a request, with what is answered so far; none once its session has closed. -/
def Block.sspWrite1 (n : Nat) (found : AccIn) (q : Block × List Nat) (e : Nat × Word) : Block × List Nat :=
  if (q.1.session n).isNone then q
  else if q.1.bootWrites e.1 then
    let a := q.1.fabWrite (.net n) e.1 e.2.toNat (some found)
    (a.1, q.2 ++ [a.2])
  else (q.1.bootStatus.2, q.2 ++ [low 8 q.1.bootStatus.1])

/-- Write a list of registers; status of each. What a RESTART among them ends is not performed. Log: 121 (DEDUCED). -/
def Block.sspWrites (b : Block) (n : Nat) (pairs : List (Nat × Word)) (found : AccIn) : Block × List Nat :=
  pairs.foldl (Block.sspWrite1 n found) (b, [])

/-- REG_READ. Log: 120 (DESIGN CHOICE). -/
def execSspRegRead (h : SspHdr) (offs : List Nat) (s : State) : Host.Outcome State Fault Refusal := lift (fun b =>
  b.sspRequest h svRegRead (.regRead · offs) fun s b =>
    if 64 < offs.length then b.sspAnswer h svRegRead sspLimit
    else
      let q := b.sspReads (.net s.num) offs
      q.1.sspAnswer h svRegRead sspOk q.2) s

/-- REG_WRITE. Log: 20 (DESIGN CHOICE), 120 (DESIGN CHOICE). -/
def execSspRegWrite (h : SspHdr) (pairs : List (Nat × Word)) (found : AccIn) (s : State) : Host.Outcome State Fault Refusal := lift (fun b =>
  b.sspRequest h svRegWrite (.regWrite · pairs found) fun s b =>
    if 64 < pairs.length then b.sspAnswer h svRegWrite sspLimit
    else
      let q := b.sspWrites s.num pairs found
      q.1.sspAnswer h svRegWrite sspOk q.2) s

/-! ### Subscriptions (R335) -/

/-- The instant at which a period of a session is published next. -/
def Session.pubAt (s : Session) (period : Nat) : Option Nat := (s.pubs.find? fun p => p.1 == period).map (·.2)

/-- The publication instants of a session's periods: those that run stay, a new period begins at its next whole multiple. -/
def Session.pubFollow (s : Session) (now : Nat) : Session :=
  { s with pubs := (s.subs.map (·.2)).eraseDups.map fun ms => (ms, (s.pubAt ms).getD (pubNext ms now)) }

/-- SUBSCRIBE: the period in ms. -/
def execSspSubscribe (h : SspHdr) (vids : List Nat) (period : Nat) (s : State) : Host.Outcome State Fault Refusal := lift (fun b =>
  b.sspRequest h svSubscribe (.subscribe · vids period) fun s b =>
    let subs := vids.foldl (fun l v => mapSet l v period) s.subs
    if period < 100 ∨ 60000 < period ∨ period % 10 ≠ 0 then b.sspAnswer h svSubscribe sspMalformed
    else if 64 < vids.length ∨ 256 < subs.length then b.sspAnswer h svSubscribe sspLimit
    else if vids.any fun v => (b.vidTagOf v).isNone then b.sspAnswer h svSubscribe sspUndef
    else (b.putSession (({ s with subs := subs }).pubFollow b.now)).sspAnswer h svSubscribe sspOk) s

/-- UNSUBSCRIBE. -/
def execSspUnsubscribe (h : SspHdr) (vids : List Nat) (s : State) : Host.Outcome State Fault Refusal := lift (fun b =>
  b.sspRequest h svUnsubscribe (.unsubscribe · vids) fun s b =>
    (b.putSession (({ s with subs := s.subs.filter fun e => !vids.contains e.1 }).pubFollow b.now)).sspAnswer h svUnsubscribe sspOk) s

/-- The image element that carries a VID, with its context and element index; an input first. -/
def Block.vidElement (b : Block) (vid : Nat) : Option (Nat × Nat × IoEl) :=
  let all := b.progCtxs.flatMap fun c => ((upto c.2.iomap.length).map fun i => (c.1, i, c.2.el i)).filter fun e => e.2.2.vid == vid
  (all.find? fun e => !e.2.2.isOut).orElse fun _ => all.head?

/-- Value, quality byte and production time of a VID without its force; no time is stated where none was produced.
Log: 122 (DESIGN CHOICE). -/
def Block.vidNow (b : Block) (vid : Nat) : Nat × Nat × Option Nat :=
  match b.progVids.find? fun d => d.vid == vid with
  | some d => (b.globalOwn vid, 0, (b.cx d.writer).commitT)
  | none =>
    match b.vidElement vid with
    | none => (0, 2, none)
    | some (c, i, e) =>
      if e.isOut then (mapGet 0 (b.cx c).committed i, 0, (b.cx c).commitT)
      else
        let x := b.elIn e.source e.tag
        (x.value, x.quality, if x.age = ageMax then none else some ((b.now : Int) - x.age).toNat)

/-- One VID of a publication. Log: 122 (DESIGN CHOICE). -/
def Block.pubEntry (b : Block) (vid : Nat) : Block × List Nat :=
  let q := b.vidNow vid
  let (v, quality) := match b.forcesNow.find? fun f => f.vid == vid with
    | some f => (f.value, 128 + f.level)
    | none => (q.1, q.2.1)
  match q.2.2 with
  | some t => (b, pubBytes vid v quality t)
  | none => (b.free.2, pubBytes vid v quality b.free.1.toNat)

/-- One publication of a session. -/
def Block.publishVids (b : Block) (n : Nat) (vids : List Nat) : Block :=
  let q := vids.foldl (fun (q : Block × List Nat) v => ((q.1.pubEntry v).1, q.2 ++ (q.1.pubEntry v).2)) (b, [])
  q.1.pubSend n q.2

/-- The publication of a period is due (R335): its instant has come, and the supervisor serves. -/
def Block.pubDue (b : Block) (s : Session) (period : Nat) : Bool :=
  !b.ssp.stall && (s.pubAt period).any fun t => decide (t ≤ b.now)

/-- PUBLISH: the VIDs of a period, once at each of its instants, in datagrams of 60.
Log: 122 (DESIGN CHOICE), 180 (DESIGN CHOICE). -/
def execSspPublish (session period : Nat) (s : State) : Host.Outcome State Fault Refusal := lift (fun b =>
  match b.sspServes, b.session session with
  | true, some ses =>
    if !b.pubDue ses period then b
    else
    let vids := (ses.subs.filter fun e => e.2 == period).map (·.1)
    let b := b.putSession { ses with pubs := mapSet ses.pubs period (pubNext period b.now) }
    b.forAll (pieces pubMost ((vids.length + pubMost - 1) / pubMost) vids) fun b l => b.publishVids session l
  | _, _ => b) s

/-! ### Signed commands (R289) -/

/-- SIGNED_CMD: passed on to the island; `action` is 1 reset or 2 start. Log: 128 (DEDUCED). -/
def execSignedCmd (h : SspHdr) (action serial : Nat) (nonce : Word) (sig : List Word) (s : State) :
    Host.Outcome State Fault Refusal := lift (fun b =>
  b.sspRequest h svSignedCmd (.signedCmd · action serial nonce sig) fun _ b =>
    if action = 1 ∨ action = 2 then (b.signedCommand action serial nonce.toNat sig).sspAnswer h svSignedCmd sspOk
    else b.sspAnswer h svSignedCmd sspMalformed) s

/-! ### The recorder's bytes (R404, R408, R414) -/

/-- A record as bytes. -/
def EvRec.toBytes (r : EvRec) : List Nat :=
  leBytes 1 (r.bytes / 4 - 1) ++ leBytes 1 (r.sev + 8 * r.cls) ++ leBytes 2 r.typ ++ leBytes 2 r.src ++ leBytes 6 r.optime ++
    leBytes 4 r.pcc ++ r.words.flatMap fun w => leBytes 4 w

/-- A block as bytes with a given CRC word. -/
def RecBlk.withCrc (k : RecBlk) (crc : Nat) : List Nat :=
  let l := leBytes 4 0x30525645 ++ leBytes 4 k.bseq ++ leBytes 4 k.pcc ++ leBytes 4 crc ++ k.recs.flatMap EvRec.toBytes
  l ++ List.replicate (4096 - l.length) 0xFF

/-- A block as bytes: the CRC is written when it closes. Log: 129 (DEDUCED). -/
def RecBlk.toBytes (k : RecBlk) : List Nat := k.withCrc (if k.closed then crc32 (k.withCrc 0) else 0xFFFFFFFF)

/-- Bytes `first` to `last - 1` of an area, by position. Log: 129 (DEDUCED). -/
def areaBytes (l : List RecBlk) (first last : Nat) : List Nat :=
  (l.filter fun k => decide (first < (k.bseq + 1) * 4096 ∧ k.bseq * 4096 < last)).flatMap fun k =>
    let p := k.bseq * 4096
    (k.toBytes.take (last - p)).drop (first - p)

/-- REC_READ: AREA 0 first area, 1 ring. -/
def execRecRead (h : SspHdr) (area pos count : Nat) (s : State) : Host.Outcome State Fault Refusal := lift (fun b =>
  b.sspRequest h svRecRead (.recRead · area pos count) fun _ b =>
    if 1 < area ∨ 1024 < count then b.sspAnswer h svRecRead sspMalformed
    else
      let l := if area = 0 then b.evr.first else b.evr.ring
      let dpos := Nat.max pos (areaOld l)
      b.sspAnswer h svRecRead sspOk ([area, 0, 0, 0] ++ leBytes 8 (areaOld l) ++ leBytes 8 (areaNext l) ++ leBytes 8 dpos ++ areaBytes l dpos (Nat.min (dpos + count) (areaNext l)))) s

end Sys2Proof.Machine
end

