-- ==== Sys2Proof/Machine/Files.lean ====
section
/-! DEFINITION. File transfer over SSP: into the cask, as a change package, as a whole application image (R93, R167, R168, R334, R337, R417 to R420, R434). -/

namespace Sys2Proof.Machine

/-! ### Chunks of 4 KiB (R334) -/

/-- Chunks of a file. -/
def chunkCount (size : Nat) : Nat := (size + 4095) / 4096

/-- Length of a chunk. -/
def chunkLen (size i : Nat) : Nat := Nat.min 4096 (size - 4096 * i)

/-- The bytes of a chunk that have arrived. -/
def Transfer.chunk (t : Transfer) (i : Nat) : List (Option Nat) := mapGet (List.replicate (chunkLen t.size i) none) t.parts i

/-- A piece arrives. -/
def Transfer.put (t : Transfer) (i off : Nat) (data : List Nat) : Transfer :=
  let l := t.chunk i
  { t with parts := mapSet t.parts i (l.take off ++ data.map some ++ l.drop (off + data.length)) }

/-- Every byte of a chunk has arrived. -/
def Transfer.whole (t : Transfer) (i : Nat) : Bool := (t.chunk i).all Option.isSome

/-- Bytes that have arrived. -/
def Transfer.got (t : Transfer) : Nat := (t.parts.map fun e => (e.2.filter Option.isSome).length).sum

/-- The file's bytes, in order. -/
def Transfer.bytes (t : Transfer) : List Nat := (upto (chunkCount t.size)).flatMap fun i => (t.chunk i).filterMap id

/-- The file as words; a size that is no multiple of 4 is no image and no package. Log: 137 (DEDUCED). -/
def Transfer.words (t : Transfer) : List Nat := if t.size % 4 = 0 then fWords t.bytes else []

/-- A piece lies inside the file and inside one chunk. -/
def Transfer.fits (t : Transfer) (i off n : Nat) : Bool := decide (i < chunkCount t.size ∧ off + n ≤ chunkLen t.size i)

def Block.setTransfer (b : Block) (t : Option Transfer) : Block := { b with ssp := { b.ssp with transfer := t } }

/-- The transfer is complete. -/
def Block.transferDone (b : Block) : Block := (b.setTransfer none).raiseEvt 0xA0 4

/-- The open transfer is ended: a package with it. -/
def Block.dropTransfer (b : Block) (t : Transfer) : Block :=
  if t.target = 2 then b.olcEnd olcAborted 5 else b.endTransfer t.target

/-! ### The manifest (R418, R420) -/

/-- Manifest chunks of a vintage file of a size: the least M with M chunks for the hashes of all the others. -/
def manifestChunks (size : Nat) : Nat := (192 + 32 * chunkCount size + 4127) / 4128

/-- The manifest as a value. -/
def parseManifest (l : List Nat) : Manifest :=
  let n := leAt l 0x1C 4
  { kind := leAt l 8 1, key := leAt l 9 1, pivMin := leAt l 10 1, pivMax := leAt l 11 1, vintage := leAt l 0x0C 4
    payload := leAt l 0x18 4, chunks := n, build := leAt l 0x20 4, fwMin := leAt l 0x24 4, hashes := pieces 32 n (l.drop 0x80) }

/-- ASCII "MZ-6416", padded with 0. -/
def partBytes : List Nat := [0x4D, 0x5A, 0x2D, 0x36, 0x34, 0x31, 0x36, 0]

/-- The place of a kind: 1 GiB, 192 MiB (R417). -/
def placeSize (kind : Nat) : Nat := if kind = 1 then 0x40000000 else 192 * 0x100000

/-- The code of a manifest that belongs to a file of `size` bytes; 0 where it passes.
Log: 92 (DEDUCED), 93 (DEDUCED). -/
def Block.manifestJudge (b : Block) (l : List Nat) (size : Nat) : Nat :=
  let m := parseManifest l
  let n := 0x80 + 32 * m.chunks
  let signed := decide (m.key < 4) && !bit (b.fget secRevoked) m.key &&
    Config.ed25519 (Config.vendorKey m.key) (l.take n) ((l.drop n).take 64)
  if leAt l 0 4 ≠ 0x30544E4D ∨ leAt l 4 2 ≠ 1 ∨ leAt l 6 2 ≠ 128 then updManifest
  else if (l.drop 0x10).take 8 ≠ partBytes then updHardware
  else if m.kind ≠ 1 ∧ m.kind ≠ 2 then updManifest
  else if m.vintage = 0 ∨ m.vintage = 0xFFFFFFFF then updVersion
  else if m.chunks ≠ (m.payload + 4095) / 4096 ∨ size ≠ 4096 * manifestChunks size + m.payload ∨ !signed then updManifest
  else if placeSize m.kind < m.payload then updSize
  else 0

/-! ### Into the cask (R419, R420) -/

def Block.setCask (b : Block) (c : Cask) : Block := { b with upd := { b.upd with cask := some c } }

/-- Chunk `i` of the vintage file is stored. -/
def Cask.holds (c : Cask) (i : Nat) : Bool :=
  let m := manifestChunks c.size
  if i < m then c.man.isSome || c.head.any fun e => e.1 == i
  else c.chunks.any fun e => e.1 + m == i

/-- Every payload chunk is verified. -/
def Block.caskWhole (b : Block) (c : Cask) (m : Manifest) : Block :=
  if c.chunks.length = m.chunks then ((b.caskIn ckComplete).raiseEvt 0xD8 1).transferDone else b

/-- A manifest chunk is complete; with the last one the manifest is verified. -/
def Block.manifestChunk (b : Block) (c : Cask) (i : Nat) (data : List Nat) : Block :=
  let c := { c with head := mapSet c.head i data }
  let n := manifestChunks c.size
  if c.head.length < n then (b.setCask c).celRequest .cask
  else
    let l := (upto n).flatMap fun k => mapGet [] c.head k
    let code := b.manifestJudge l c.size
    if code ≠ 0 then ((b.setCask c).caskInvalid code).endTransfer 1
    else
      let m := parseManifest l
      let c := { c with man := some m, head := [] }
      (((b.setCask c).caskShow.celRequest .cask).raiseEvt 0xD8 0).caskWhole c m

/-- A payload chunk is complete: stored where its hash matches, discarded and counted where it does not. -/
def Block.payloadChunk (b : Block) (c : Cask) (m : Manifest) (j : Nat) (data : List Nat) : Block :=
  if Config.sha256 data = nth [] m.hashes j then
    let c := { c with chunks := mapSet c.chunks j data }
    ((b.setCask c).caskShow.celRequest .cask).caskWhole c m
  else (b.incSat F.UPD_CHUNK_ERR_CNT_COUNT).raiseEvt 0xD8 2

/-- A piece for the cask. -/
def Block.caskPiece (b : Block) (t : Transfer) (i off : Nat) (data : List Nat) : Block :=
  match b.upd.cask with
  | none => b
  | some c =>
    let n := manifestChunks c.size
    if c.man.isNone ∧ n ≤ i then b.incSat F.UPD_CHUNK_ERR_CNT_COUNT
    else if c.holds i then b
    else
      let t := t.put i off data
      if !t.whole i then b.setTransfer (some t)
      else
        let bytes := (t.chunk i).filterMap id
        let b := b.setTransfer (some { t with parts := mapErase t.parts i })
        match c.man with
        | some m => b.payloadChunk c m (i - n) bytes
        | none => b.manifestChunk c i bytes

/-! ### A change package and a whole image (R111, R112, R167, R168) -/

/-- A piece of a change package. -/
def Block.pkgPiece (b : Block) (t : Transfer) (i off : Nat) (data : List Nat) : Block :=
  let t := t.put i off data
  let b := (b.setTransfer (some t)).setRegN Reg.OLC_RCVD t.got
  if t.got < t.size then b
  else { b with olc := { b.olc with pkg := t.words } }.transferDone

/-- A piece of a whole image; with the last one it is loaded in COMMISSION, and the response carries the load result.
Log: 124 (DEDUCED). -/
def Block.imgPiece (b : Block) (t : Transfer) (i off : Nat) (data : List Nat) : Block × List Nat :=
  let t := t.put i off data
  let b := b.setTransfer (some t)
  if t.got < t.size then (b, [])
  else
    let b := b.transferDone
    if b.modState = stCommission then
      let q := b.loadImage t.words
      (q.1, [q.2])
    else (b, [])

/-! ### The services -/

/-- FILE_BEGIN into the cask: what it is answered. Log: 126 (DEDUCED). -/
def Block.caskBegin (b : Block) (n size ident : Nat) : Block × Nat :=
  if b.fgetB F.CEL_STAT_READONLY then (b.fset F.UPD_RES_CODE updReadonly, sspBusy)
  else match b.upd.cask with
    | none => ((b.setCask { size := size, ident := ident }).caskIn ckReceiving |>.setTransfer (some ⟨1, size, ident, some n, [], 0⟩), sspOk)
    | some c =>
      if c.ident ≠ ident then (b, sspBusy)
      else if b.cask = ckReceiving then (b.setTransfer (some ⟨1, c.size, ident, some n, [], 0⟩), sspOk)
      else (b, sspOk)

/-- FILE_BEGIN of a change package: the load code it is refused with. Log: 125 (DEDUCED). -/
def Block.pkgBegin (b : Block) (n size ident : Nat) : Block × Nat × List Nat :=
  if b.olcAt ≠ olcIdle then (b, sspBusy, [])
  else if !b.running ∧ b.modState ≠ stStop then (b.olcRefuse ⟨olcState, none, none⟩ [], sspOk, [olcState])
  else if b.fgetB F.CEL_STAT_READONLY then (b.olcRefuse ⟨olcSpace, none, none⟩ [], sspOk, [olcSpace])
  else
    let b := (b.setRegN Reg.OLC_PKG_SIZE size).setRegN Reg.OLC_RCVD 0
    let b := (b.fset F.OLC_STAT_STATE olcReceiving).fset F.OLC_STAT_CODE 0
    (b.setTransfer (some ⟨2, size, ident, some n, [], 0⟩), sspOk, [])

/-- FILE_BEGIN of a whole image: a version outside the accepted set is answered with LVC_VERSION and the set (R93).
Log: 124 (DEDUCED). -/
def Block.imgBegin (b : Block) (n size ident version : Nat) : Block × Nat × List Nat :=
  if version = 3 ∨ version = 4 then (b.setTransfer (some ⟨3, size, ident, some n, [], 0⟩), sspOk, [ldOk])
  else (b.loadResult ident 0 ⟨ldVersion, none, none⟩, sspOk, [ldVersion, 3, 4])

/-- FILE_BEGIN. One transfer is open at a time; that of the cask's file is resumed by its session or after its end. -/
def execFileBegin (h : SspHdr) (target size ident version : Nat) (s : State) : Host.Outcome State Fault Refusal := lift (fun b =>
  b.sspRequest h svFileBegin (.fileBegin · target size ident version) fun s b =>
    if size = 0 ∨ 2 ^ 32 ≤ size ∨ target = 0 ∨ 3 < target then b.sspAnswer h svFileBegin sspMalformed
    else if b.inRecovery ∧ target ≠ 1 then b.sspAnswer h svFileBegin sspService
    else match b.ssp.transfer with
      | some t =>
        if target = 1 ∧ t.target = 1 ∧ t.ident = ident ∧ (t.session = none ∨ t.session = some s.num) then
          (b.setTransfer (some { t with session := some s.num })).sspAnswer h svFileBegin sspOk
        else b.sspAnswer h svFileBegin sspBusy
      | none =>
        match target with
        | 1 => let q := b.caskBegin s.num size ident
               q.1.sspAnswer h svFileBegin q.2
        | 2 => let q := b.pkgBegin s.num size ident
               q.1.sspAnswer h svFileBegin q.2.1 q.2.2
        | _ => let q := b.imgBegin s.num size ident version
               q.1.sspAnswer h svFileBegin q.2.1 q.2.2) s

/-- FILE_PIECE. Log: 127 (DEDUCED). -/
def execFilePiece (h : SspHdr) (chunk off : Nat) (data : List (BitVec 8)) (s : State) : Host.Outcome State Fault Refusal := lift (fun b =>
  b.sspRequest h svFilePiece (.filePiece · chunk off data) fun s b =>
    let bytes := data.map BitVec.toNat
    if 1024 < bytes.length then b.sspAnswer h svFilePiece sspMalformed
    else match b.ssp.transfer with
      | none => b.sspAnswer h svFilePiece sspSequence
      | some t =>
        if t.session ≠ some s.num || !t.fits chunk off bytes.length then b.sspAnswer h svFilePiece sspSequence
        else match t.target with
          | 1 => (b.caskPiece t chunk off bytes).sspAnswer h svFilePiece sspOk
          | 2 => (b.pkgPiece t chunk off bytes).sspAnswer h svFilePiece sspOk
          | _ => let q := b.imgPiece t chunk off bytes
                 q.1.sspAnswer h svFilePiece sspOk q.2) s

/-- The chunk bitmap of the transfer: chunk i is bit i mod 8 of byte i / 8. Log: 199 (DESIGN CHOICE). -/
def Block.transferMap (b : Block) (t : Transfer) : List Nat :=
  let done (i : Nat) : Bool := if t.target = 1 then b.upd.cask.any fun c => c.holds i else t.whole i
  (upto ((chunkCount t.size + 7) / 8)).map fun k =>
    ((upto 8).map fun j => if 8 * k + j < chunkCount t.size ∧ done (8 * k + j) then 2 ^ j else 0).sum

/-- FILE_STATUS: an ENGINEER session takes over a transfer whose session has ended (R337). Log: 127 (DEDUCED). -/
def execFileStatus (h : SspHdr) (s : State) : Host.Outcome State Fault Refusal := lift (fun b =>
  b.sspRequest h svFileStatus .fileStatus fun s b =>
    match b.ssp.transfer with
    | none => b.sspAnswer h svFileStatus sspOk
    | some t =>
      let b := b.when (t.session.isNone && s.role == .engineer) fun b => b.setTransfer (some { t with session := some s.num })
      b.sspAnswer h svFileStatus sspOk (b.transferMap t)) s

/-- FILE_ABORT. Log: 127 (DEDUCED). -/
def execFileAbort (h : SspHdr) (s : State) : Host.Outcome State Fault Refusal := lift (fun b =>
  b.sspRequest h svFileAbort .fileAbort fun _ b =>
    match b.ssp.transfer with
    | none => b.sspAnswer h svFileAbort sspSequence
    | some t => (b.dropTransfer t).sspAnswer h svFileAbort sspOk) s

/-- FILE_TRANSFER_ORPHAN_TIMEOUT: 60 s after its session ended a transfer that none took over is ended. -/
def execFileTransferOrphanTimeout (s : State) : Host.Outcome State Fault Refusal := lift (fun b =>
  match b.ssp.transfer with
  | some t => if t.session.isNone && decide (t.since + 60000000000 ≤ b.clk) then b.dropTransfer t else b
  | none => b) s

end Sys2Proof.Machine
end

