-- ==== Sys2Proof/Machine/Wait.lean ====
section
/-! DEFINITION. What waits: register access, solver jobs and application records of a context with their answers (R108, R110, R128, R193, R196, R412), and SSP requests through a supervisor stall (R16, R333, R337).
Log: 130 (DEDUCED). -/

namespace Sys2Proof.Machine

/-! ### Issue and answer -/

/-- Clocks in which a request is issued (R108). -/
def accessClocks : Nat := 4
def requestClocks : Nat := 6

/-- A request has been issued and performed; its cycle waits for the answer. -/
def Block.issued (b : Block) (c : Nat) (i : Insn) (clocks : Nat) (a : Answer) : Block :=
  let b := b.modCx c fun x => { x.next i with wait := some a, waitSince := b.clk, act := .waiting }
  (b.retire c clocks).engNext (b.homeOf c)

/-- The answer is written to the instruction's slots, the status first: where both name one slot the data stay.
Log: 166 (DESIGN CHOICE). -/
def Cx.answered (x : Cx) (a : Answer) : Cx :=
  let y := x.setSlot a.dst a.code
  let y := match a.data with
    | some (slot, wide, v) => if wide then y.setVal tU64 slot v else y.setSlot slot v
    | none => y
  { y with wait := none, act := .ready }

/-- The mode of the job that a context has submitted last: 1 float, 0 certified, 2 none (R372). -/
def Block.jobMode (b : Block) (c : Nat) : Nat :=
  match (b.sol.waiting.filter fun (j : SolJob) => j.ctx == c).orElse fun _ => (b.sol.running.map (·.job)).filter fun (j : SolJob) => j.ctx == c with
  | some j => if j.pairFloat then 1 else 0
  | none => 2

/-- WAIT_ANSWER: the cycle is ready again; it pre-empts a cycle of a lower class. The primary of a pair sends status, data and the
mode of the context's job (R370, R372). Log: 130 (DEDUCED). -/
def execWaitAnswer (c : Fin 256) (s : State) : Host.Outcome State Fault Refusal := lift (fun b =>
  let x := b.cx c.val
  match x.wait, x.act with
  | some a, .waiting =>
    let n := b.homeOf c.val
    let b := b.setRegN (Reg.ENG_WAIT_MAX n) (Nat.max (b.regN (Reg.ENG_WAIT_MAX n)) (Nat.min ((b.clk - x.waitSince) / 10) (2 ^ 32 - 1)))
    let b := b.setCx c.val (x.answered a)
    let b := b.toPartner "answer" [c.val, a.code, (a.data.map fun d => d.2.2).getD 0, b.jobMode c.val]
    let b := match b.runningOn n with
      | some d => b.when (decide (b.ctxClass c.val < b.ctxClass d)) fun b => b.preempt n
      | none => b
    b.engNext n
  | _, _ => b) s

/-! ### Register access -/

/-- A waiting instruction that has been performed is issued with the code it will answer. -/
def Block.issuedCode (c : Nat) (i : Insn) (clocks d : Nat) (q : Block × Nat) : Block := q.1.issued c i clocks ⟨d, q.2, none⟩

/-- The same for a read, which answers a word or a 64-bit value as well. -/
def Block.issuedWord (c : Nat) (i : Insn) (d s1 : Nat) (q : Block × Nat × Word) : Block :=
  q.1.issued c i accessClocks ⟨d, q.2.1, some (s1, false, q.2.2.toNat)⟩

def Block.issuedPair (c : Nat) (i : Insn) (d s1 : Nat) (q : Block × Nat × Nat) : Block :=
  q.1.issued c i accessClocks ⟨d, q.2.1, some (s1, true, q.2.2)⟩

/-- A register read of a context. -/
def Block.ctxRead (b : Block) (c : Nat) (i : Insn) (d s1 off : Nat) : Block :=
  if !b.runs c i then b else Block.issuedWord c i d s1 (b.fabRead (.prg c) off)

/-- A register write of a context. -/
def Block.ctxWrite (b : Block) (c : Nat) (i : Insn) (d s1 off : Nat) : Block :=
  if !b.runs c i then b else Block.issuedCode c i accessClocks d (b.fabWrite (.prg c) off ((b.cx c).slot s1) none)

/-- A _LO and then its _HI are read as one access. -/
def Block.readPair (b : Block) (r : Requester) (off : Nat) : Block × Nat × Nat :=
  let p := b.fabRead r off
  if p.2.1 ≠ 0 then (p.1, p.2.1, 0)
  else
    let q := p.1.fabRead r (off + 4)
    if q.2.1 ≠ 0 then (q.1, q.2.1, 0) else (q.1, 0, q.2.2.toNat * 2 ^ 32 + p.2.2.toNat)

/-- A _LO and then its _HI are written as one access. -/
def Block.writePair (b : Block) (r : Requester) (off v : Nat) : Block × Nat :=
  let p := b.fabWrite r off (low 32 v) none
  if p.2 ≠ 0 then p else p.1.fabWrite r (off + 4) (v / 2 ^ 32) none

/-- RRD. -/
def execRrd (c : Fin 256) (d s1 : Fin 4096) (off : Nat) (s : State) : Host.Outcome State Fault Refusal := lift (fun b =>
  b.ctxRead c.val (.rrd d.val s1.val off) d.val s1.val off) s

/-- RWR. -/
def execRwr (c : Fin 256) (d s1 : Fin 4096) (off : Nat) (s : State) : Host.Outcome State Fault Refusal := lift (fun b =>
  b.ctxWrite c.val (.rwr d.val s1.val off) d.val s1.val off) s

/-- RRD64. -/
def execRrd64 (c : Fin 256) (d s1 : Fin 4096) (off : Nat) (s : State) : Host.Outcome State Fault Refusal := lift (fun b =>
  if !b.runs c.val (.rrd64 d.val s1.val off) then b
  else Block.issuedPair c.val (.rrd64 d.val s1.val off) d.val s1.val (b.readPair (.prg c.val) off)) s

/-- RWR64. -/
def execRwr64 (c : Fin 256) (d s1 : Fin 4096) (off : Nat) (s : State) : Host.Outcome State Fault Refusal := lift (fun b =>
  if !b.runs c.val (.rwr64 d.val s1.val off) then b
  else Block.issuedCode c.val (.rwr64 d.val s1.val off) accessClocks d.val (b.writePair (.prg c.val) off ((b.cx c.val).val tU64 s1.val))) s

/-- RRDX: the offset is in a slot. -/
def execRrdx (c : Fin 256) (d s1 addr : Fin 4096) (s : State) : Host.Outcome State Fault Refusal := lift (fun b =>
  b.ctxRead c.val (.rrdx d.val s1.val addr.val) d.val s1.val ((b.cx c.val).slot addr.val)) s

/-- RWRX: the offset is in a slot. -/
def execRwrx (c : Fin 256) (d s1 addr : Fin 4096) (s : State) : Host.Outcome State Fault Refusal := lift (fun b =>
  b.ctxWrite c.val (.rwrx d.val s1.val addr.val) d.val s1.val ((b.cx c.val).slot addr.val)) s

/-! ### Solver jobs -/

/-- SSUB. -/
def execSsub (c : Fin 256) (d base : Fin 4096) (job : Fin 16) (s : State) : Host.Outcome State Fault Refusal := lift (fun b =>
  if !b.runs c.val (.ssub d.val base.val job.val) then b
  else Block.issuedCode c.val (.ssub d.val base.val job.val) requestClocks d.val (b.ssub c.val base.val job.val (b.ctxProg c.val) (b.cx c.val))) s

/-- SCAN: `made` is how far a running job has come. -/
def execScan (c : Fin 256) (d base : Fin 4096) (job : Fin 16) (made : SolAt) (s : State) : Host.Outcome State Fault Refusal := lift (fun b =>
  if !b.runs c.val (.scan d.val base.val job.val) then b
  else Block.issuedCode c.val (.scan d.val base.val job.val) requestClocks d.val (b.solScan job.val made)) s

/-! ### Application records (R404, R405, R412) -/

def recAccepted : Nat := 0
def recParam : Nat := 1
def recRate : Nat := 2
def recFull : Nat := 3
def recReadonly : Nat := 4
def recPower : Nat := 5

/-- Records accepted from a context in this window. -/
def Block.recsOf (b : Block) (c : Nat) : Nat := mapGet 0 b.evr.accepted c

/-- The acceptance code of an application record of a context, in the order of R412. Log: 131 (DEDUCED). -/
def Block.recCode (b : Block) (c : Nat) (r : EvRec) : Nat :=
  if b.powerFailing then recPower
  else if b.fgetB F.CEL_STAT_READONLY then recReadonly
  else if 6 < r.sev then recParam
  else if !b.queueTakes r then recFull
  else if b.fget F.EVR_CFG_CTX_RATE ≤ b.recsOf c then recRate
  else recAccepted

/-- An application record is accepted, or refused and counted. Log: 131 (DEDUCED). -/
def Block.recApply (b : Block) (c : Nat) (r : EvRec) : Block × Nat :=
  let code := b.recCode c r
  let b := if code = recAccepted then
      { b with evr := { b.evr with accepted := mapSet b.evr.accepted c (b.recsOf c + 1) } }.recQueue r
    else if code = recRate then
      { b with evr := { b.evr with rateRefused := mapSet b.evr.rateRefused c (mapGet 0 b.evr.rateRefused c + 1) } }.recDrop false
    else b.recDrop (code == recFull)
  (b, code)

/-- REC. -/
def execRecApp (c : Fin 256) (d s1 : Fin 4096) (sev typ len : Nat) (s : State) : Host.Outcome State Fault Refusal := lift (fun b =>
  if !b.runs c.val (.recApp d.val s1.val sev typ len) then b
  else Block.issuedCode c.val (.recApp d.val s1.val sev typ len) requestClocks d.val
    (b.recApply c.val (b.mkRec sev 1 (0x8000 + typ) c.val ((upto len).map fun k => (b.cx c.val).slot (s1.val + k))))) s

/-! ### A supervisor stall (R16, R333, R337) -/

/-- A state after a command that always has a next one. -/
def after (o : Host.Outcome State Fault Refusal) (s : State) : State :=
  match o with
  | .next t => t
  | _ => s

/-- A request that has waited is performed. -/
def performWaiting (s : State) : SspReq → State
  | .open_ o => after (execSspOpen o s) s
  | .close h => after (execSspClose h s) s
  | .keepalive h => after (execSspKeepalive h s) s
  | .regRead h offs => after (execSspRegRead h offs s) s
  | .regWrite h pairs found => after (execSspRegWrite h pairs found s) s
  | .subscribe h vids period => after (execSspSubscribe h vids period s) s
  | .unsubscribe h vids => after (execSspUnsubscribe h vids s) s
  | .fileBegin h target size ident version => after (execFileBegin h target size ident version s) s
  | .filePiece h chunk off data => after (execFilePiece h chunk off data s) s
  | .fileStatus h => after (execFileStatus h s) s
  | .fileAbort h => after (execFileAbort h s) s
  | .recRead h area pos count => after (execRecRead h area pos count s) s
  | .signedCmd h action serial nonce sig => after (execSignedCmd h action serial nonce sig s) s
  | .unknown h service => after (execSspUnknownService h service s) s

/-- Insert a request by its SEQ. -/
def bySeq (w : Nat × Nat × SspReq) : List (Nat × Nat × SspReq) → List (Nat × Nat × SspReq)
  | [] => [w]
  | v :: l => if w.2.1 < v.2.1 then w :: v :: l else v :: bySeq w l

/-- The stall is over: no session has timed out in it. -/
def Block.stallOver (b : Block) : Block :=
  { b with ssp := { b.ssp with stall := false, waiting := [], sessions := b.ssp.sessions.map fun (s : Session) => { s with heard := b.clk } } }

/-- The supervisor returns: the requests of a session are answered in SEQ order. -/
def supervisorBack (s : State) : State :=
  (s.ssp.waiting.foldl (fun l w => bySeq w l) []).foldl (fun t w => performWaiting t w.2.2) { s with toBlock := s.toBlock.stallOver }

/-- How long a stall lasts is open: each clock draws whether the supervisor is back. Log: 116 (DEDUCED). -/
def stallTick (s : State) : State :=
  if !s.ssp.stall then s
  else if s.free.1.getLsbD 0 then supervisorBack { s with toBlock := s.free.2 }
  else { s with toBlock := s.free.2 }

/-- A fabric clock on which no command waits. -/
def idle (s : State) : State := stallTick { s with toBlock := s.toBlock.tick }

end Sys2Proof.Machine
end

