-- ==== Sys2Proof/Machine/Dispatch.lean ====
section
/-! DEFINITION. The dispatch of every command to its meaning. -/

namespace Sys2Proof.Machine

def exec (i : Instr) (s : State) : Host.Outcome State Fault Refusal :=
  match i with
  | .registerWrite r off size v found => Sys2Proof.Machine.execRegisterWrite r off size v found s
  | .accRefusedRecord r => Sys2Proof.Machine.execAccRefusedRecord r s
  | .rcRead r off size => Sys2Proof.Machine.execRcRead r off size s
  | .reg64LoRead r off => Sys2Proof.Machine.execReg64LoRead r off s
  | .reg64LoWrite r off v => Sys2Proof.Machine.execReg64LoWrite r off v s
  | .reg64HiWrite r off v => Sys2Proof.Machine.execReg64HiWrite r off v s
  | .evtTest r page gate => Sys2Proof.Machine.execEvtTest r page gate s
  | .evtPendClear r page v => Sys2Proof.Machine.execEvtPendClear r page v s
  | .eventLineEdge line => Sys2Proof.Machine.execEventLineEdge line s
  | .pageUnlock r page => Sys2Proof.Machine.execPageUnlock r page s
  | .pageLock r page v => Sys2Proof.Machine.execPageLock r page v s
  | .pageLockTimeout page => Sys2Proof.Machine.execPageLockTimeout page s
  | .moduleStart unitSel found => Sys2Proof.Machine.execModuleStart unitSel found s
  | .coreInputRise cp mv => Sys2Proof.Machine.execCoreInputRise cp mv s
  | .inputQualificationEnd => Sys2Proof.Machine.execInputQualificationEnd s
  | .joinWaitExpiry => Sys2Proof.Machine.execJoinWaitExpiry s
  | .coreInputLost cp mv => Sys2Proof.Machine.execCoreInputLost cp mv s
  | .coreInputReturn cp mv => Sys2Proof.Machine.execCoreInputReturn cp mv s
  | .coreOvervoltageDisconnect cp mv => Sys2Proof.Machine.execCoreOvervoltageDisconnect cp mv s
  | .coreOvervoltageReconnect cp mv => Sys2Proof.Machine.execCoreOvervoltageReconnect cp mv s
  | .coreBusUndervoltage => Sys2Proof.Machine.execCoreBusUndervoltage s
  | .coreInterruptionEnd => Sys2Proof.Machine.execCoreInterruptionEnd s
  | .powerFailCommit => Sys2Proof.Machine.execPowerFailCommit s
  | .powerDownOutputsOff => Sys2Proof.Machine.execPowerDownOutputsOff s
  | .supervisorWatchdogExpiry => Sys2Proof.Machine.execSupervisorWatchdogExpiry s
  | .referenceFault => Sys2Proof.Machine.execReferenceFault s
  | .fieldBusUndervoltage => Sys2Proof.Machine.execFieldBusUndervoltage s
  | .fieldLimitTrip => Sys2Proof.Machine.execFieldLimitTrip s
  | .fieldBusReturn => Sys2Proof.Machine.execFieldBusReturn s
  | .fieldInputChange fp ok mv => Sys2Proof.Machine.execFieldInputChange fp ok mv s
  | .restore r => Sys2Proof.Machine.execRestore r s
  | .sfpStatusChange abs los txFlt => Sys2Proof.Machine.execSfpStatusChange abs los txFlt s
  | .coinCellLow coinMv capMv => Sys2Proof.Machine.execCoinCellLow coinMv capMv s
  | .rtcBackupExhausted => Sys2Proof.Machine.execRtcBackupExhausted s
  | .vsZeroCrossing vs rmsMv periodNs otherAngle => Sys2Proof.Machine.execVsZeroCrossing vs rmsMv periodNs otherAngle s
  | .vsInputLost vs other => Sys2Proof.Machine.execVsInputLost vs other s
  | .abs0QualComplete angle => Sys2Proof.Machine.execAbs0QualComplete angle s
  | .absHoldEnd base => Sys2Proof.Machine.execAbsHoldEnd base s
  | .abs0HoldoverRamp => Sys2Proof.Machine.execAbs0HoldoverRamp s
  | .abs0HoldoverAtNom => Sys2Proof.Machine.execAbs0HoldoverAtNom s
  | .abs1CountEdge backward intervalNs => Sys2Proof.Machine.execAbs1CountEdge backward intervalNs s
  | .abs1Index => Sys2Proof.Machine.execAbs1Index s
  | .abs1Stopped => Sys2Proof.Machine.execAbs1Stopped s
  | .abs1Overspeed => Sys2Proof.Machine.execAbs1Overspeed s
  | .tsuSecond => Sys2Proof.Machine.execTsuSecond s
  | .hourlyTimeMark => Sys2Proof.Machine.execHourlyTimeMark s
  | .ppsEdge rate => Sys2Proof.Machine.execPpsEdge rate s
  | .tsuSourceUpdate src offsetNs rate => Sys2Proof.Machine.execTsuSourceUpdate src offsetNs rate s
  | .tsuSourceLost src => Sys2Proof.Machine.execTsuSourceLost src s
  | .tsuSlewComplete => Sys2Proof.Machine.execTsuSlewComplete s
  | .tsuSet r => Sys2Proof.Machine.execTsuSet r s
  | .tsuAdj r => Sys2Proof.Machine.execTsuAdj r s
  | .rtcSet r => Sys2Proof.Machine.execRtcSet r s
  | .tsuCapture k => Sys2Proof.Machine.execTsuCapture k s
  | .compareFire k => Sys2Proof.Machine.execCompareFire k s
  | .contextTrigger c => Sys2Proof.Machine.execContextTrigger c s
  | .contextDispatch c => Sys2Proof.Machine.execContextDispatch c s
  | .waitAnswer c => Sys2Proof.Machine.execWaitAnswer c s
  | .nop c => Sys2Proof.Machine.execNop c s
  | .endCycle c => Sys2Proof.Machine.execEndCycle c s
  | .trap c s1 => Sys2Proof.Machine.execTrap c s1 s
  | .mov c d s1 => Sys2Proof.Machine.execMov c d s1 s
  | .mov64 c d s1 => Sys2Proof.Machine.execMov64 c d s1 s
  | .ldi c d imm => Sys2Proof.Machine.execLdi c d imm s
  | .ldk c d idx => Sys2Proof.Machine.execLdk c d idx s
  | .ldx c d s1 base n => Sys2Proof.Machine.execLdx c d s1 base n s
  | .stx c d s1 base n => Sys2Proof.Machine.execStx c d s1 base n s
  | .add c t d s1 s2 => Sys2Proof.Machine.execAdd c t d s1 s2 s
  | .sub c t d s1 s2 => Sys2Proof.Machine.execSub c t d s1 s2 s
  | .mul c t d s1 s2 => Sys2Proof.Machine.execMul c t d s1 s2 s
  | .div c t d s1 s2 => Sys2Proof.Machine.execDiv c t d s1 s2 s
  | .rem c t d s1 s2 => Sys2Proof.Machine.execRem c t d s1 s2 s
  | .min c t d s1 s2 => Sys2Proof.Machine.execMin c t d s1 s2 s
  | .max c t d s1 s2 => Sys2Proof.Machine.execMax c t d s1 s2 s
  | .neg c t d s1 => Sys2Proof.Machine.execNeg c t d s1 s
  | .abs c t d s1 => Sys2Proof.Machine.execAbs c t d s1 s
  | .sqrt c t d s1 => Sys2Proof.Machine.execSqrt c t d s1 s
  | .fma c t d s1 s2 => Sys2Proof.Machine.execFma c t d s1 s2 s
  | .and c t d s1 s2 => Sys2Proof.Machine.execAnd c t d s1 s2 s
  | .or c t d s1 s2 => Sys2Proof.Machine.execOr c t d s1 s2 s
  | .xor c t d s1 s2 => Sys2Proof.Machine.execXor c t d s1 s2 s
  | .not c t d s1 => Sys2Proof.Machine.execNot c t d s1 s
  | .shl c t d s1 s2 => Sys2Proof.Machine.execShl c t d s1 s2 s
  | .shr c t d s1 s2 => Sys2Proof.Machine.execShr c t d s1 s2 s
  | .rol c t d s1 s2 => Sys2Proof.Machine.execRol c t d s1 s2 s
  | .ror c t d s1 s2 => Sys2Proof.Machine.execRor c t d s1 s2 s
  | .eq c t d s1 s2 => Sys2Proof.Machine.execEq c t d s1 s2 s
  | .ne c t d s1 s2 => Sys2Proof.Machine.execNe c t d s1 s2 s
  | .lt c t d s1 s2 => Sys2Proof.Machine.execLt c t d s1 s2 s
  | .le c t d s1 s2 => Sys2Proof.Machine.execLe c t d s1 s2 s
  | .gt c t d s1 s2 => Sys2Proof.Machine.execGt c t d s1 s2 s
  | .ge c t d s1 s2 => Sys2Proof.Machine.execGe c t d s1 s2 s
  | .cvt c trunc dst src d s1 => Sys2Proof.Machine.execCvt c trunc dst src d s1 s
  | .cmov c t d s1 s2 => Sys2Proof.Machine.execCmov c t d s1 s2 s
  | .br c ofs => Sys2Proof.Machine.execBr c ofs s
  | .brt c s1 ofs => Sys2Proof.Machine.execBrt c s1 ofs s
  | .brf c s1 ofs => Sys2Proof.Machine.execBrf c s1 ofs s
  | .call c ofs => Sys2Proof.Machine.execCall c ofs s
  | .ret c => Sys2Proof.Machine.execRet c s
  | .loop c d ofs => Sys2Proof.Machine.execLoop c d ofs s
  | .gld c d idx => Sys2Proof.Machine.execGld c d idx s
  | .gst c s1 idx => Sys2Proof.Machine.execGst c s1 idx s
  | .ird c d idx => Sys2Proof.Machine.execIrd c d idx s
  | .iq c d idx => Sys2Proof.Machine.execIq c d idx s
  | .iage c d idx => Sys2Proof.Machine.execIage c d idx s
  | .owr c s1 idx => Sys2Proof.Machine.execOwr c s1 idx s
  | .tlatch c d => Sys2Proof.Machine.execTlatch c d s
  | .tpos c d base => Sys2Proof.Machine.execTpos c d base s
  | .cstat c d => Sys2Proof.Machine.execCstat c d s
  | .xflags c d => Sys2Proof.Machine.execXflags c d s
  | .rrd c d s1 off => Sys2Proof.Machine.execRrd c d s1 off s
  | .rwr c d s1 off => Sys2Proof.Machine.execRwr c d s1 off s
  | .rrd64 c d s1 off => Sys2Proof.Machine.execRrd64 c d s1 off s
  | .rwr64 c d s1 off => Sys2Proof.Machine.execRwr64 c d s1 off s
  | .rrdx c d s1 addr => Sys2Proof.Machine.execRrdx c d s1 addr s
  | .rwrx c d s1 addr => Sys2Proof.Machine.execRwrx c d s1 addr s
  | .ssub c d base job => Sys2Proof.Machine.execSsub c d base job s
  | .scan c d base job made => Sys2Proof.Machine.execScan c d base job made s
  | .recApp c d s1 sev typ len => Sys2Proof.Machine.execRecApp c d s1 sev typ len s
  | .imageLoad session image => Sys2Proof.Machine.execImageLoad session image s
  | .engTestStart r n => Sys2Proof.Machine.execEngTestStart r n s
  | .engTestComplete n fail => Sys2Proof.Machine.execEngTestComplete n fail s
  | .engineFault n decode badPlaces => Sys2Proof.Machine.execEngineFault n decode badPlaces s
  | .faultSelfTestDue n => Sys2Proof.Machine.execFaultSelfTestDue n s
  | .restart r c => Sys2Proof.Machine.execRestart r c s
  | .schStop r c => Sys2Proof.Machine.execSchStop r c s
  | .schStart r c => Sys2Proof.Machine.execSchStart r c s
  | .replace r => Sys2Proof.Machine.execReplace r s
  | .migrationCopyComplete c => Sys2Proof.Machine.execMigrationCopyComplete c s
  | .engineParkBegin => Sys2Proof.Machine.execEngineParkBegin s
  | .engineParked n => Sys2Proof.Machine.execEngineParked n s
  | .engineReturn => Sys2Proof.Machine.execEngineReturn s
  | .energyWindowEnd coreMw fieldMa fieldMw => Sys2Proof.Machine.execEnergyWindowEnd coreMw fieldMa fieldMw s
  | .thermalEvaluation die rail => Sys2Proof.Machine.execThermalEvaluation die rail s
  | .thermalTrip => Sys2Proof.Machine.execThermalTrip s
  | .set r => Sys2Proof.Machine.execSet r s
  | .release r => Sys2Proof.Machine.execRelease r s
  | .releaseAll r => Sys2Proof.Machine.execReleaseAll r s
  | .readForce r index => Sys2Proof.Machine.execReadForce r index s
  | .forceAcknowledge partnerOk => Sys2Proof.Machine.execForceAcknowledge partnerOk s
  | .packageReceived => Sys2Proof.Machine.execPackageReceived s
  | .verify r => Sys2Proof.Machine.execVerify r s
  | .packageVerifyComplete partnerOk => Sys2Proof.Machine.execPackageVerifyComplete partnerOk s
  | .commit r => Sys2Proof.Machine.execCommit r s
  | .olcArm => Sys2Proof.Machine.execOlcArm s
  | .abort r => Sys2Proof.Machine.execAbort r s
  | .discard r => Sys2Proof.Machine.execDiscard r s
  | .olcCommitInstant => Sys2Proof.Machine.execOlcCommitInstant s
  | .olcNoBoundary => Sys2Proof.Machine.execOlcNoBoundary s
  | .olcMarkerDurable => Sys2Proof.Machine.execOlcMarkerDurable s
  | .patternLoad staged image => Sys2Proof.Machine.execPatternLoad staged image s
  | .cancel r job v made => Sys2Proof.Machine.execCancel r job v made s
  | .solverJobStart => Sys2Proof.Machine.execSolverJobStart s
  | .solverJobEnd => Sys2Proof.Machine.execSolverJobEnd s
  | .solverDeadline made => Sys2Proof.Machine.execSolverDeadline made s
  | .floatSelftestChunk ns groups divOk fail => Sys2Proof.Machine.execFloatSelftestChunk ns groups divOk fail s
  | .laneGroupFault g => Sys2Proof.Machine.execLaneGroupFault g s
  | .solverFault divide => Sys2Proof.Machine.execSolverFault divide s
  | .aiSample ch taken => Sys2Proof.Machine.execAiSample ch taken s
  | .diStateAccepted ch on sinceNs => Sys2Proof.Machine.execDiStateAccepted ch on sinceNs s
  | .namurLineFault ch short => Sys2Proof.Machine.execNamurLineFault ch short s
  | .tpChipEval ch chip on found => Sys2Proof.Machine.execTpChipEval ch chip on found s
  | .complianceSet ch loadMv code => Sys2Proof.Machine.execComplianceSet ch loadMv code s
  | .complianceClear ch code => Sys2Proof.Machine.execComplianceClear ch code s
  | .channelFaultDeclare ch => Sys2Proof.Machine.execChannelFaultDeclare ch s
  | .stageThermalSet ch tj code => Sys2Proof.Machine.execStageThermalSet ch tj code s
  | .stageThermalClear ch tj => Sys2Proof.Machine.execStageThermalClear ch tj s
  | .doOverload ch => Sys2Proof.Machine.execDoOverload ch s
  | .doRetry ch => Sys2Proof.Machine.execDoRetry ch s
  | .doOpenLoad ch => Sys2Proof.Machine.execDoOpenLoad ch s
  | .doRateHoldEnd ch => Sys2Proof.Machine.execDoRateHoldEnd ch s
  | .chModeWrite r ch v => Sys2Proof.Machine.execChModeWrite r ch v s
  | .clrFault r ch => Sys2Proof.Machine.execClrFault r ch s
  | .calOpen r ch => Sys2Proof.Machine.execCalOpen r ch s
  | .calZero r ch => Sys2Proof.Machine.execCalZero r ch s
  | .calSpan r ch => Sys2Proof.Machine.execCalSpan r ch s
  | .calCommit r ch => Sys2Proof.Machine.execCalCommit r ch s
  | .calCancel r ch => Sys2Proof.Machine.execCalCancel r ch s
  | .calFactory r ch => Sys2Proof.Machine.execCalFactory r ch s
  | .calPointAveraged ch avg => Sys2Proof.Machine.execCalPointAveraged ch avg s
  | .calTrimsDurable ch => Sys2Proof.Machine.execCalTrimsDurable ch s
  | .calSessionTimeout ch => Sys2Proof.Machine.execCalSessionTimeout ch s
  | .hartBindWrite r ch v => Sys2Proof.Machine.execHartBindWrite r ch v s
  | .submit r t v => Sys2Proof.Machine.execSubmit r t v s
  | .hartCancel r t v => Sys2Proof.Machine.execHartCancel r t v s
  | .hartTransactionStart ch foreign => Sys2Proof.Machine.execHartTransactionStart ch foreign s
  | .hartResponse ch rsp => Sys2Proof.Machine.execHartResponse ch rsp s
  | .hartResponseTimeout ch foreign => Sys2Proof.Machine.execHartResponseTimeout ch foreign s
  | .hartWaitExpiry ch slot => Sys2Proof.Machine.execHartWaitExpiry ch slot s
  | .hartBurstFrame ch addr cmd respCode devStatus vars => Sys2Proof.Machine.execHartBurstFrame ch addr cmd respCode devStatus vars s
  | .hartPoll ch => Sys2Proof.Machine.execHartPoll ch s
  | .hartModemFault m => Sys2Proof.Machine.execHartModemFault m s
  | .safetyCycleStart ins cleared c2us => Sys2Proof.Machine.execSafetyCycleStart ins cleared c2us s
  | .islandHoldOff ch => Sys2Proof.Machine.execIslandHoldOff ch s
  | .lockoutCause cause ch => Sys2Proof.Machine.execLockoutCause cause ch s
  | .islandRecordRepeat => Sys2Proof.Machine.execIslandRecordRepeat s
  | .safeRstPulse ms => Sys2Proof.Machine.execSafeRstPulse ms s
  | .signedReset session serial nonce sig => Sys2Proof.Machine.execSignedReset session serial nonce sig s
  | .signedStart session serial nonce sig => Sys2Proof.Machine.execSignedStart session serial nonce sig s
  | .resetSelftestComplete fail => Sys2Proof.Machine.execResetSelftestComplete fail s
  | .resetRecordDurable => Sys2Proof.Machine.execResetRecordDurable s
  | .linkCycle seg => Sys2Proof.Machine.execLinkCycle seg s
  | .linkSendDeadline seg => Sys2Proof.Machine.execLinkSendDeadline seg s
  | .linkInFrame f => Sys2Proof.Machine.execLinkInFrame f s
  | .linkWindowEnd seg => Sys2Proof.Machine.execLinkWindowEnd seg s
  | .hello h => Sys2Proof.Machine.execHello h s
  | .ready portB addr mac turn res arrival => Sys2Proof.Machine.execReady portB addr mac turn res arrival s
  | .linkPortLost portB => Sys2Proof.Machine.execLinkPortLost portB s
  | .linkDrop r addr => Sys2Proof.Machine.execLinkDrop r addr s
  | .linkAdmit r addr => Sys2Proof.Machine.execLinkAdmit r addr s
  | .prpFrameRx f => Sys2Proof.Machine.execPrpFrameRx f s
  | .prpSupervisionTx => Sys2Proof.Machine.execPrpSupervisionTx s
  | .prpNodeForget mac => Sys2Proof.Machine.execPrpNodeForget mac s
  | .netPortLink portB up => Sys2Proof.Machine.execNetPortLink portB up s
  | .icmpEcho dst src data => Sys2Proof.Machine.execIcmpEcho dst src data s
  | .arpRequest target sender => Sys2Proof.Machine.execArpRequest target sender s
  | .ptpSyncRx m t1 => Sys2Proof.Machine.execPtpSyncRx m t1 s
  | .ptpFollowUpRx m => Sys2Proof.Machine.execPtpFollowUpRx m s
  | .ptpAnnounceRx portB domain set utc utcValid => Sys2Proof.Machine.execPtpAnnounceRx portB domain set utc utcValid s
  | .ptpAnnounceTimeout portB => Sys2Proof.Machine.execPtpAnnounceTimeout portB s
  | .ptpDelayReqTx portB => Sys2Proof.Machine.execPtpDelayReqTx portB s
  | .ptpDelayRespRx portB domain t1 t2 t3 t4 correction => Sys2Proof.Machine.execPtpDelayRespRx portB domain t1 t2 t3 t4 correction s
  | .ptpPdelayReqRx portB domain seq correction residence => Sys2Proof.Machine.execPtpPdelayReqRx portB domain seq correction residence s
  | .ptpMasterTx portB announce => Sys2Proof.Machine.execPtpMasterTx portB announce s
  | .sspBadDatagram tagOf => Sys2Proof.Machine.execSspBadDatagram tagOf s
  | .sspOpen o => Sys2Proof.Machine.execSspOpen o s
  | .sspClose h => Sys2Proof.Machine.execSspClose h s
  | .sspKeepalive h => Sys2Proof.Machine.execSspKeepalive h s
  | .sspRegRead h offs => Sys2Proof.Machine.execSspRegRead h offs s
  | .sspRegWrite h pairs found => Sys2Proof.Machine.execSspRegWrite h pairs found s
  | .sspSubscribe h vids period => Sys2Proof.Machine.execSspSubscribe h vids period s
  | .sspUnsubscribe h vids => Sys2Proof.Machine.execSspUnsubscribe h vids s
  | .sspPublish session period => Sys2Proof.Machine.execSspPublish session period s
  | .fileBegin h target size ident version => Sys2Proof.Machine.execFileBegin h target size ident version s
  | .filePiece h chunk off data => Sys2Proof.Machine.execFilePiece h chunk off data s
  | .fileStatus h => Sys2Proof.Machine.execFileStatus h s
  | .fileAbort h => Sys2Proof.Machine.execFileAbort h s
  | .recRead h area pos count => Sys2Proof.Machine.execRecRead h area pos count s
  | .signedCmd h action serial nonce sig => Sys2Proof.Machine.execSignedCmd h action serial nonce sig s
  | .sspSessionTimeout session => Sys2Proof.Machine.execSspSessionTimeout session s
  | .fileTransferOrphanTimeout => Sys2Proof.Machine.execFileTransferOrphanTimeout s
  | .canFrameRx p f => Sys2Proof.Machine.execCanFrameRx p f s
  | .canErrorFrame p kind tecInc recInc => Sys2Proof.Machine.execCanErrorFrame p kind tecInc recInc s
  | .canTxInstant p slot idle => Sys2Proof.Machine.execCanTxInstant p slot idle s
  | .canTxAttemptEnd p e sofNs sofSec meas => Sys2Proof.Machine.execCanTxAttemptEnd p e sofNs sofSec meas s
  | .recover r p => Sys2Proof.Machine.execRecover r p s
  | .canRecoveryComplete p => Sys2Proof.Machine.execCanRecoveryComplete p s
  | .canModeChange p => Sys2Proof.Machine.execCanModeChange p s
  | .pairLinkUp verLo verHi => Sys2Proof.Machine.execPairLinkUp verLo verHi s
  | .pairLinkLost => Sys2Proof.Machine.execPairLinkLost s
  | .pairHeartbeatTx => Sys2Proof.Machine.execPairHeartbeatTx s
  | .pairHeartbeatRx h => Sys2Proof.Machine.execPairHeartbeatRx h s
  | .pairTimeout => Sys2Proof.Machine.execPairTimeout s
  | .claimRound => Sys2Proof.Machine.execClaimRound s
  | .claimRoundAlone => Sys2Proof.Machine.execClaimRoundAlone s
  | .claimRoundEnd read ack partnerWord => Sys2Proof.Machine.execClaimRoundEnd read ack partnerWord s
  | .healthHandover => Sys2Proof.Machine.execHealthHandover s
  | .takeover => Sys2Proof.Machine.execTakeover s
  | .mirrorDataRx c slots own => Sys2Proof.Machine.execMirrorDataRx c slots own s
  | .joinContextCopy item => Sys2Proof.Machine.execJoinContextCopy item s
  | .switch r => Sys2Proof.Machine.execSwitch r s
  | .takeoverCold r => Sys2Proof.Machine.execTakeoverCold r s
  | .resync r => Sys2Proof.Machine.execResync r s
  | .pairTimeMessage offset rate delayNs => Sys2Proof.Machine.execPairTimeMessage offset rate delayNs s
  | .can3HeartbeatTx => Sys2Proof.Machine.execCan3HeartbeatTx s
  | .can3HeartbeatRx h => Sys2Proof.Machine.execCan3HeartbeatRx h s
  | .can3HeartbeatTimeout => Sys2Proof.Machine.execCan3HeartbeatTimeout s
  | .can3AutoRecover => Sys2Proof.Machine.execCan3AutoRecover s
  | .dramCorrectedError dev beats addr region retire => Sys2Proof.Machine.execDramCorrectedError dev beats addr region retire s
  | .dramUncorrectableError dev addr region retire => Sys2Proof.Machine.execDramUncorrectableError dev addr region retire s
  | .patrolScrub => Sys2Proof.Machine.execPatrolScrub s
  | .innerCounterRead n => Sys2Proof.Machine.execInnerCounterRead n s
  | .sramScrub engine corrected => Sys2Proof.Machine.execSramScrub engine corrected s
  | .sramUncorrectableError addr region => Sys2Proof.Machine.execSramUncorrectableError addr region s
  | .cellarRecordDurable ok us => Sys2Proof.Machine.execCellarRecordDurable ok us s
  | .cellarReadOnly => Sys2Proof.Machine.execCellarReadOnly s
  | .optimeStore => Sys2Proof.Machine.execOptimeStore s
  | .recordAccept island sev typ src words => Sys2Proof.Machine.execRecordAccept island sev typ src words s
  | .recordDurable us => Sys2Proof.Machine.execRecordDurable us s
  | .mark r downgrade => Sys2Proof.Machine.execMark r downgrade s
  | .unmark r => Sys2Proof.Machine.execUnmark r s
  | .updDiscard r => Sys2Proof.Machine.execUpdDiscard r s
  | .revert r app => Sys2Proof.Machine.execRevert r app s
  | .stop r force => Sys2Proof.Machine.execStop r force s
  | .run r => Sys2Proof.Machine.execRun r s
  | .commission r => Sys2Proof.Machine.execCommission r s
  | .sysRestart r force found => Sys2Proof.Machine.execSysRestart r force found s
  | .labelUpdateRequest region levels => Sys2Proof.Machine.execLabelUpdateRequest region levels s
  | .labelIntervalExpiry region => Sys2Proof.Machine.execLabelIntervalExpiry region s
  | .labelFrame temp tableBad => Sys2Proof.Machine.execLabelFrame temp tableBad s
  | .refresh r => Sys2Proof.Machine.execRefresh r s
  | .clean r => Sys2Proof.Machine.execClean r s
  | .panelRender frame attrs ok mapOk => Sys2Proof.Machine.execPanelRender frame attrs ok mapOk s
  | .swap r => Sys2Proof.Machine.execSwap r s
  | .panelDim => Sys2Proof.Machine.execPanelDim s
  | .buttonPress button held => Sys2Proof.Machine.execButtonPress button held s
  | .buttonLongPress held => Sys2Proof.Machine.execButtonLongPress held s
  | .buttonRepeat down held => Sys2Proof.Machine.execButtonRepeat down held s
  | .lampTest held => Sys2Proof.Machine.execLampTest held s
  | .localCalChange closed => Sys2Proof.Machine.execLocalCalChange closed s
  | .unlock r => Sys2Proof.Machine.execUnlock r s
  | .holdUpStoreCharged => Sys2Proof.Machine.execHoldUpStoreCharged s
  | .linkOutFrameReturn portB => Sys2Proof.Machine.execLinkOutFrameReturn portB s
  | .linkStrayFrame portB fcsBad => Sys2Proof.Machine.execLinkStrayFrame portB fcsBad s
  | .linkPortLinkUp portB => Sys2Proof.Machine.execLinkPortLinkUp portB s
  | .ptpDelayReqRx portB domain seq sender receipt => Sys2Proof.Machine.execPtpDelayReqRx portB domain seq sender receipt s
  | .sspUnknownService h service => Sys2Proof.Machine.execSspUnknownService h service s
  | .pairLatchSetRx p => Sys2Proof.Machine.execPairLatchSetRx p s
  | .pairCommandRx c => Sys2Proof.Machine.execPairCommandRx c s
  | .resetRecordTimeout => Sys2Proof.Machine.execResetRecordTimeout s
  | .ipSettingsTakeEffect => Sys2Proof.Machine.execIpSettingsTakeEffect s
  | .hartCarrierSilence ch => Sys2Proof.Machine.execHartCarrierSilence ch s

end Sys2Proof.Machine
end

