-- ==== Sys2Proof/Machine/Step.lean ====
section
/-! DEFINITION. One step of the module: the command at the front of the queue, or one fabric clock of 10 ns while none waits. -/

namespace Sys2Proof.Machine

/-- The first waiting command is taken and performed; with none waiting a fabric clock passes (R10, R70, R80).
Log: 5 (DESIGN CHOICE), 6 (DESIGN CHOICE), 140 (DESIGN CHOICE). -/
def step (s : State) : Host.Outcome State Fault Refusal :=
  match s.pending with
  | [] => .next (idle s)
  | i :: rest => exec i { s with pending := rest }

/-- Put the command that a word spells at the front of the queue. Log: 4 (DESIGN CHOICE). -/
def State.withFetchWord (s : State) (nbits w : Nat) : State :=
  match decodeTableWord nbits w with
  | some i => { s with pending := i :: s.pending }
  | none => s

end Sys2Proof.Machine
end

