-- ==== Sys2Proof/Safety.lean ====
section
/-! DEFINITION. What claims about the module are said in: commands that complete, runs that go on, the canonical register store. -/

namespace Sys2Proof.Machine

/-- A command completes in a state, with a next state that satisfies `P`. -/
def Completes (i : Instr) (s : State) (P : State → Prop) : Prop := ∃ t, exec i s = .next t ∧ P t

/-- The register store is in its canonical form: offsets rising, no word listed that an unlisted offset reads as. -/
def Block.canonical (b : Block) : Bool := storeWf regReset b.regs

/-- `n` steps from a state end in a next state that satisfies `P`: none of them stops. -/
def RunsTo (n : Nat) (s : State) (P : State → Prop) : Prop := ∃ t, core.run n s = .next t ∧ P t

end Sys2Proof.Machine
end

