-- ==== Sys2Proof/Certificates/Slice0/Obligations.lean ====
section
/-! DEFINITION. The statements about the model, from the rules of the spec. -/

open Sys2Proof Sys2Proof.Machine

/-! ### The queue -/

/-- A step takes the command at the front of the queue and is exec of it with the queue's rest; with none waiting it is one
fabric clock of the module.
The model's choices: log entries 5 and 140. -/
def Obligations.StepRunsFrontCommand : Prop :=
  (∀ (i : Instr) (s : State) (rest : List Instr), s.pending = i :: rest → step s = exec i { s with pending := rest }) ∧
  ∀ s : State, s.pending = [] → s.tick.ssp.stall = false → step s = .next { s with toBlock := s.tick }

/-- No command stops, from any state, and none touches the queue.
The model's choice: log entry 7. -/
def Obligations.NoCommandStops : Prop :=
  ∀ (i : Instr) (s : State), Completes i s fun t => t.pending = s.pending

/-- From every state, as many steps as commands wait perform them all: none stops, and the queue is then empty.
The model's choices: log entries 7 and 140. -/
def Obligations.QueueDrains : Prop :=
  ∀ s : State, RunsTo s.pending.length s fun t => t.pending = []

/-! ### The register fabric -/

/-- The code of a write that no block adds a rule to. -/
def headOk (s : State) (r : Requester) (off v : Nat) : Prop := s.judgeWrite r off v = 0 ∧ blockArea off = false

/-- Registers other than `off` and the stored levels of the event lines are as before. -/
def othersKept (s t : State) (off : Nat) : Prop :=
  ∀ o, o ≠ off → (∀ n, n < 256 → o ≠ (lineLevel n).off) → t.reg o = s.reg o

/-- What a refused access leaves: the answer with its code and no data, ACC_ERR of the page, the count of refusals, the
requester's own count; nothing else changes. -/
def refusedWith (s t : State) (r : Requester) (off code : Nat) : Prop :=
  t.outs = s.outs ++ [.access r off code 0] ∧
  t.fget (F.BLK_STAT_ACC_ERR (errPage off)) = 1 ∧
  t.fget F.SYS_ACC_ERR_CNT_COUNT = Nat.min (s.fget F.SYS_ACC_ERR_CNT_COUNT + 1) 0xFFFFFFFF ∧
  (mapGet {} t.fab.refusals r).since = (mapGet {} s.fab.refusals r).since + 1 ∧
  t = { s with regs := t.regs, fab := { s.fab with refusals := t.fab.refusals }, outs := t.outs } ∧
  ∀ o, o ≠ Reg.BLK_STAT (errPage off) → o ≠ Reg.SYS_ACC_ERR_ADDR → o ≠ Reg.SYS_ACC_ERR_INFO →
    o ≠ Reg.SYS_ACC_ERR_CNT → t.reg o = s.reg o

/-- R54, R65: a refused read answers its code and no data, counts, and changes no register but the error report's. -/
def refusedReadReports : Prop :=
  ∀ (r : Requester) (off : Nat) (s : State), s.judgeRead r off ≠ 0 →
    Completes (.rcRead r off .word) s fun t => refusedWith s t r off (s.judgeRead r off)

/-- R51: a byte or half-word access is refused with ACC_ALIGN wherever it falls: a read answers no data, a write has no effect. -/
def narrowAccess : Prop :=
  ∀ (r : Requester) (off : Nat) (size : AccSize) (v : Word) (found : AccIn) (s : State), size ≠ .word →
    (Completes (.rcRead r off size) s fun t => refusedWith s t r off accAlign) ∧
    (Completes (.registerWrite r off size v found) s fun t => refusedWith s t r off accAlign)

/-- R7: an admitted read answers the word; the register's RC fields then read 0, and no other register changes. -/
def readAnswersAndClearsRc : Prop :=
  ∀ (r : Requester) (off : Nat) (row : RegRow) (s : State), regRow off = some row → s.judgeRead r off = 0 →
    Completes (.rcRead r off .word) s fun t =>
      t.outs = s.outs ++ [.access r off 0 (s.latchedWord r off)] ∧
      t.reg off = BitVec.ofNat 32 (row.fields.foldl (fun w f => if f.acc == .rc then putField w f.lo f.w 0 else w) (s.regN off)) ∧
      ∀ o, o ≠ off → t.reg o = s.reg o

/-- R53, R7: an admitted write of BLK_EVT_EN or BLK_EVT_ROUTE stores the written fields and no other register. -/
def headerWriteStores : Prop :=
  ∀ (r : Requester) (p : Nat) (v : Word) (found : AccIn) (off : Nat) (row : RegRow) (s : State),
    off = Reg.BLK_EVT_EN p ∨ off = Reg.BLK_EVT_ROUTE p → regRow off = some row → headOk s r off v.toNat →
    Completes (.registerWrite r off .word v found) s fun t =>
      t.outs = s.outs ++ [.access r off 0 0] ∧
      t.reg off = BitVec.ofNat 32 (row.written (s.regN off) v.toNat) ∧ othersKept s t off

/-- Admitted accesses: what a read answers and clears, what a header write stores (R7, R53). -/
def Obligations.RegisterAccess : Prop := readAnswersAndClearsRc ∧ headerWriteStores

/-- R66: a write of BLK_CTL.EVT_TEST raises event bit 31 of its page and takes EVT_GATE; a write of BLK_EVT_PEND clears the
raw bits written 1. -/
def eventTestAndClear : Prop :=
  (∀ (r : Requester) (p : Nat) (gate : Bool) (s : State), headOk s r (Reg.BLK_CTL p) (2 + if gate then 1 else 0) →
    Completes (.evtTest r p gate) s fun t =>
      t.fget ⟨Reg.BLK_EVT_RAW p, 31, 1⟩ = 1 ∧ t.fgetB (F.BLK_CTL_EVT_GATE p) = gate ∧
      t.outs = s.outs ++ [.access r (Reg.BLK_CTL p) 0 0]) ∧
  (∀ (r : Requester) (p : Nat) (v : Word) (s : State), headOk s r (Reg.BLK_EVT_PEND p) v.toNat →
    Completes (.evtPendClear r p v) s fun t =>
      t.reg (Reg.BLK_EVT_RAW p) = s.reg (Reg.BLK_EVT_RAW p) &&& ~~~v ∧ othersKept s t (Reg.BLK_EVT_RAW p) ∧
      t.outs = s.outs ++ [.access r (Reg.BLK_EVT_PEND p) 0 0])

/-- R60: the unlock key makes the writer the HOLDER of the page; any other value locks it, and so does the timeout 100 ms after
the unlock or the last accepted write of RWL fields, before which it does nothing. -/
def pageLocks : Prop :=
  (∀ (r : Requester) (p : Nat) (s : State), headOk s r (Reg.BLK_LOCK p) (0xA5C30000 + p) →
    Completes (.pageUnlock r p) s fun t =>
      t.pageLocked p = false ∧ t.holderOf p = some r ∧ t.timedAt (.pageLock p) = some s.clk ∧
      othersKept s t (Reg.BLK_LOCK p)) ∧
  (∀ (r : Requester) (off v : Nat) (extra : List Nat) (row : RegRow) (f : Block → Block) (s : State), regRow off = some row →
    (row.carried.any fun g => g.acc == .rwl) = true → s.judgeWrite r off v extra = 0 →
    (s.regWrite r off v extra f).1.timedAt (.pageLock (owningPage (off / 0x1000))) =
      some ((f (s.storeBy r off v)).persistIf off).clk) ∧
  (∀ (r : Requester) (p : Nat) (v : Word) (s : State), headOk s r (Reg.BLK_LOCK p) v.toNat → v.toNat ≠ 0xA5C30000 + p →
    Completes (.pageLock r p v) s fun t =>
      t.pageLocked p = true ∧ t.holderOf p = none ∧ othersKept s t (Reg.BLK_LOCK p)) ∧
  (∀ (p : Nat) (s : State), s.pageLocked p = false → (pageType p).isSome = true → s.passed (.pageLock p) 100000000 = true →
    Completes (.pageLockTimeout p) s fun t =>
      t.pageLocked p = true ∧ t.holderOf p = none ∧ ∀ o, o ≠ Reg.BLK_LOCK p → t.reg o = s.reg o) ∧
  (∀ (p : Nat) (s : State), s.pageLocked p = true ∨ s.passed (.pageLock p) 100000000 = false →
    Completes (.pageLockTimeout p) s fun t => t = s)

/-- What the header of a page does: its events and its lock (R60, R66).
The model's choice: log entry 6. -/
def Obligations.PageHeader : Prop := eventTestAndClear ∧ pageLocks

/-- R61: a write of the _LO of a writable pair is held and changes no register; a write of the _HI then writes both words at
once, reserved bits of the _LO apart, and releases the latch. -/
def pair64Write : Prop :=
  (∀ (r : Requester) (off : Nat) (v : Word) (s : State), writableLo off = true → s.judgeWrite r off v.toNat = 0 →
    Completes (.reg64LoWrite r off v) s fun t =>
      (t.latch r).writeLo = some (off, v) ∧ (t.latch r).readLo = (s.latch r).readLo ∧ t.regs = s.regs) ∧
  (∀ (r : Requester) (lo : Nat) (w v : Word) (row : RegRow) (s : State), writableLo lo = true →
    (s.latch r).writeLo = some (lo, w) → s.judgeWrite r (lo + 4) v.toNat = 0 → regRow lo = some row →
    Completes (.reg64HiWrite r (lo + 4) v) s fun t =>
      t.reg lo = BitVec.ofNat 32 (row.written (s.regN lo) w.toNat) ∧ (lo ≠ Reg.RTC_SET_LO → t.reg lo = w) ∧
      t.reg (lo + 4) = v ∧ (t.latch r).writeLo = none)

/-- R61: a read of a _LO latches the word above it, and a later read of that word by the same requester returns it as it
then was, whatever the register holds by then. -/
def pair64Read : Prop :=
  (∀ (r : Requester) (off : Nat) (s : State), isLo off = true → s.judgeRead r off = 0 →
    Completes (.reg64LoRead r off) s fun t =>
      (t.latch r).readLo = some (off, s.readWord (off + 4), s.readWord (off + 8)) ∧
      t.outs = s.outs ++ [.access r off 0 (s.latchedWord r off)]) ∧
  (∀ (r : Requester) (lo : Nat) (hi ep : Word) (s : State), (s.latch r).readLo = some (lo, hi, ep) →
    s.judgeRead r (lo + 4) = 0 →
    Completes (.rcRead r (lo + 4) .word) s fun t => t.outs = s.outs ++ [.access r (lo + 4) 0 hi])

/-- Both directions of a 64-bit pair (R61).
The model's choice: log entry 22. -/
def Obligations.Pair64 : Prop := pair64Write ∧ pair64Read

/-- The record of a requester's refusals: the first error's address and requester, and the refusals since the last record. -/
def refusalRec (s : State) (r : Requester) : EvRec :=
  s.mkRec 2 (s.recSource r).1 6 (s.recSource r).2
    [s.regN Reg.SYS_ACC_ERR_ADDR, s.regN Reg.SYS_ACC_ERR_INFO, (mapGet {} s.fab.refusals r).since]

/-- R65: the refusals of a requester that wait for their record are recorded where the recorder takes records and none was
recorded of it within a second: the record queues and counts, the count of refusals since starts again, and nothing else
changes; within that second, or with no refusal waiting, nothing happens. -/
def refusalRecord : Prop :=
  (∀ (r : Requester) (s : State), (mapGet {} s.fab.refusals r).since ≠ 0 →
    (∀ t, (mapGet {} s.fab.refusals r).lastRecord = some t → t + 1000000000 ≤ s.clk) →
    s.powerFailing = false → s.fgetB F.CEL_STAT_READONLY = false → s.queueTakes (refusalRec s r) = true →
    Completes (.accRefusedRecord r) s fun t =>
      t.evr.queue = s.evr.queue ++ [refusalRec s r] ∧
      t.regN Reg.EVR_REC_CNT = (s.regN Reg.EVR_REC_CNT + 1) % 2 ^ 32 ∧
      mapGet {} t.fab.refusals r = ⟨0, some s.clk⟩ ∧ (∀ q, q ≠ r → mapGet {} t.fab.refusals q = mapGet {} s.fab.refusals q) ∧
      t = { s with
        regs := t.regs, fab := { s.fab with refusals := t.fab.refusals }, evr := { s.evr with queue := t.evr.queue } } ∧
      ∀ o, o ≠ Reg.EVR_REC_CNT → o ≠ Reg.EVR_STAT → o ≠ Reg.BLK_EVT_RAW 0xD0 → t.reg o = s.reg o) ∧
  (∀ (r : Requester) (s : State), (mapGet {} s.fab.refusals r).since = 0 ∨
    (∃ t, (mapGet {} s.fab.refusals r).lastRecord = some t ∧ s.clk < t + 1000000000) →
    Completes (.accRefusedRecord r) s fun t => t = s)

/-- Refused accesses: what they report and what is recorded (R51, R54, R65).
The model's choices: log entries 15 and 21. -/
def Obligations.Refusals : Prop := refusedReadReports ∧ narrowAccess ∧ refusalRecord

/-- An offset of a reserved page, of the reserved part of a header, or one that its block's chapter does not define (R53, R54). -/
def undefinedOffset (off : Nat) : Prop := regRow off = none

/-- What a refused access leaves: its report, and no other effect than that lines no page asserts any more are shown low. -/
def onlyReported (s t : State) (r : Requester) (off : Nat) : Prop :=
  t = { s with regs := t.regs, fab := t.fab, outs := s.outs ++ [.access r off accReserved 0] } ∧
  t.fab = { s.fab with refusals := t.fab.refusals } ∧
  ∀ o, o ≠ Reg.BLK_STAT (errPage off) → o ≠ Reg.SYS_ACC_ERR_ADDR → o ≠ Reg.SYS_ACC_ERR_INFO → o ≠ Reg.SYS_ACC_ERR_CNT →
    (∀ n, n < 256 → s.lineAsserted n = false → o ≠ (lineLevel n).off) → t.reg o = s.reg o

/-- R54: reserved pages, offsets 0x028 to 0x03F of a header and the offsets that no chapter defines have no register; an aligned
read or write there is refused with ACC_RESERVED, the read answers 0 and the write has no effect; the reserved fields of a
register that is there refuse nothing and change nothing. -/
def Obligations.ReservedAccesses : Prop :=
  (∀ p o, p < 256 → o < 0x1000 → (pageType p = none ∧ owningPage p = p) ∨ (pageType p ≠ none ∧ 0x28 ≤ o ∧ o < 0x40) →
    undefinedOffset (0x1000 * p + o)) ∧
  (∀ (r : Requester) (off : Nat) (s : State), off % 4 = 0 → undefinedOffset off →
    Completes (.rcRead r off .word) s fun t => onlyReported s t r off) ∧
  (∀ (r : Requester) (off : Nat) (v : Word) (found : AccIn) (s : State), off % 4 = 0 → undefinedOffset off →
    Completes (.registerWrite r off .word v found) s fun t => onlyReported s t r off) ∧
  (∀ (r : Requester) (off old v v' : Nat) (extra : List Nat) (row : RegRow) (s : State), regRow off = some row →
    (∀ f ∈ row.fields, bits v f.lo f.w = bits v' f.lo f.w) →
    s.judgeWrite r off v extra = s.judgeWrite r off v' extra ∧ row.written old v = row.written old v')

/-! ### Supplies and the power sequence -/

/-- R46, R36: an input above 18.0 V at an unpowered module is in range and begins its qualification, at whose end, 100 ms
later, the rails ramp; an input disconnected for overvoltage counts as lost. -/
def inputQualification : Prop :=
  (∀ (cp : Fin 2) (mv : Nat) (s : State), s.pwr.phase = .off → cp.val < s.pwr.cpIn.length →
    nth false s.pwr.cpDisconnected cp.val = false →
    Completes (.coreInputRise cp mv) s fun t =>
      t.pwr.phase = .qualify ∧ t.pwr.t0 = s.clk ∧ nth false t.pwr.cpIn cp.val = true ∧
      t.fget ⟨Reg.PWR_CP_V, 16 * cp.val, 16⟩ = Nat.min mv 65535) ∧
  (∀ (cp : Fin 2) (mv : Nat) (s : State), nth false s.pwr.cpDisconnected cp.val = true →
    Completes (.coreInputRise cp mv) s fun t => t = s) ∧
  (∀ s : State, s.pwr.phase = .qualify → s.pwr.t0 + 100000000 ≤ s.clk →
    Completes .inputQualificationEnd s fun t => t = { s with pwr := { s.pwr with phase := .rails } }) ∧
  (∀ s : State, s.clk < s.pwr.t0 + 100000000 → Completes .inputQualificationEnd s fun t => t = s)

/-- R37, R36: the loss of a core input of a powered module shows in PWR_CP_STAT and raises its event, as its return does,
and neither changes the supply phase or the module state; above 34 V the input counts as lost, and comes back below 33 V. -/
def inputLossAndReturn : Prop :=
  (∀ (cp : Fin 2) (mv : Nat) (s : State), s.powered = true → nth false s.pwr.cpIn cp.val = true →
    Completes (.coreInputLost cp mv) s fun t =>
      nth false t.pwr.cpIn cp.val = false ∧ t.fgetB ⟨Reg.PWR_CP_STAT, cp.val, 1⟩ = false ∧
      t.fget ⟨Reg.BLK_EVT_RAW 1, 2 + cp.val, 1⟩ = 1 ∧ t.pwr.phase = s.pwr.phase ∧ t.modState = s.modState) ∧
  (∀ (cp : Fin 2) (mv : Nat) (s : State), s.powered = true → cp.val < s.pwr.cpIn.length →
    nth false s.pwr.cpDisconnected cp.val = false → nth false s.pwr.cpIn cp.val = false →
    Completes (.coreInputReturn cp mv) s fun t =>
      nth false t.pwr.cpIn cp.val = true ∧ t.fgetB ⟨Reg.PWR_CP_STAT, cp.val, 1⟩ = true ∧
      t.fget ⟨Reg.BLK_EVT_RAW 1, 4 + cp.val, 1⟩ = 1 ∧ t.pwr.phase = s.pwr.phase ∧ t.modState = s.modState) ∧
  (∀ (cp : Fin 2) (mv : Nat) (s : State), cp.val < s.pwr.cpDisconnected.length →
    Completes (.coreOvervoltageDisconnect cp mv) s fun t =>
      nth false t.pwr.cpDisconnected cp.val = true ∧ nth false t.pwr.cpIn cp.val = false ∧ t.modState = s.modState) ∧
  (∀ (cp : Fin 2) (mv : Nat) (s : State), s.powered = true → cp.val < s.pwr.cpIn.length →
    nth false s.pwr.cpDisconnected cp.val = true → 18000 ≤ mv →
    Completes (.coreOvervoltageReconnect cp mv) s fun t =>
      nth false t.pwr.cpDisconnected cp.val = false ∧ nth false t.pwr.cpIn cp.val = true ∧
      t.pwr.phase = s.pwr.phase ∧ t.modState = s.modState)

/-- R48, R413: the bus below 17.0 V starts the ride-through; an end of it before 10 ms leaves the module as it was but for
its record, with the duration in µs; at 10 ms power fail is committed: queued records are lost, the power-loss record
alone is under way, and only a cellar write already running completes; at 15 ms outputs and queues are
gone, and an input that is in range by then is qualified for a fresh start. -/
def rideThroughAndCommit : Prop :=
  (∀ s : State, s.pwr.phase = .good →
    Completes .coreBusUndervoltage s fun t => t = { s with pwr := { s.pwr with phase := .ride, t0 := s.clk } }) ∧
  (∀ s : State, s.pwr.phase = .ride →
    Completes .coreInterruptionEnd s fun t =>
      t.pwr = { s.pwr with phase := .good } ∧ t.modState = s.modState ∧ t.cel = s.cel ∧ t.ctxs = s.ctxs ∧ t.outs = s.outs ∧
      (s.fgetB F.CEL_STAT_READONLY = false → ∀ r : EvRec,
        r = s.mkRec (blockSeverity 1 0xFF) 0 0x1001 1 (blockWords 0xFF [s.regPair Reg.PWR_CP_STAT, s.regPair Reg.PWR_CP_V,
          (0x1028, (s.clk - s.pwr.t0) / 1000)]) →
        s.queueTakes r = true → t.evr.queue = s.evr.queue ++ [r])) ∧
  (∀ s : State, s.pwr.phase = .ride → s.pwr.t0 + 10000000 ≤ s.clk →
    Completes .powerFailCommit s fun t =>
      t.pwr.phase = .failing ∧ t.evr.queue = [s.powerLossRec] ∧ t.evr.island = [] ∧
      t.cel.requests = s.cel.requests.take 1 ∧ t.modState = s.modState) ∧
  (∀ s : State, s.clk < s.pwr.t0 + 10000000 → Completes .powerFailCommit s fun t => t = s) ∧
  (∀ s : State, s.clk < s.pwr.t0 + 15000000 → Completes .powerDownOutputsOff s fun t => t = s) ∧
  (∀ s : State, s.pwr.phase = .failing → s.pwr.t0 + 15000000 ≤ s.clk →
    Completes .powerDownOutputsOff s fun t =>
      t.pwr.phase = (if s.pwr.cpIn.any id then .qualify else .down) ∧ t.pwr.released = false ∧ t.pwr.frontEnds = false ∧ t.red.won = false ∧
      t.evr.queue = [] ∧ t.cel.requests = [] ∧ t.modState = stStart)

/-- The core supply from qualification to power fail (R31 to R36, R41 to R48).
The model's choices: log entries 6 and 90. -/
def Obligations.SupplyInputs : Prop := inputQualification ∧ inputLossAndReturn ∧ rideThroughAndCommit

/-- R11, R16, R17: the supervisor watchdog and a fault of the module reference end in HALT; R47: the charged
hold-up store shows; R35: the SFP pins show.
The model's choices: log entries 6 and 90. -/
def Obligations.FaultsThatHalt : Prop :=
  (∀ s : State, s.powered = true → Completes .supervisorWatchdogExpiry s fun t => t.modState = stHalt) ∧
  (∀ s : State, s.powered = true →
    Completes .referenceFault s fun t => t.modState = stHalt) ∧
  (∀ s : State, s.powered = true →
    Completes .holdUpStoreCharged s fun t =>
      t.pwr.holdup = true ∧ t.fget F.PWR_CP_STAT_HOLDUP = 1 ∧ ∀ o, o ≠ Reg.PWR_CP_STAT → t.reg o = s.reg o) ∧
  (∀ (abs los txFlt : Bool) (s : State), ¬(s.pwr.sfpAbs = abs ∧ s.pwr.sfpLos = los ∧ s.pwr.sfpTxFlt = txFlt) →
    Completes (.sfpStatusChange abs los txFlt) s fun t =>
      t.pwr.sfpAbs = abs ∧ t.pwr.sfpLos = los ∧ t.pwr.sfpTxFlt = txFlt ∧
      (abs = false → t.fgetB F.PAIR_STAT_ABSENT = false ∧ t.fgetB F.PAIR_STAT_LOS = los ∧ t.fgetB F.PAIR_STAT_TXFLT = txFlt))

/-! ### Module commands and the start -/

/-- R430, R431: STOP, RUN and COMMISSION, admitted at the page, change the module state as the table says where their
code is SYS_OK; any other code is reported, event 4 rises, and the module state stays. -/
def moduleCommands : Prop :=
  (∀ (r : Requester) (force : Bool) (s : State), s.judgeWrite r Reg.SYS_CMD (1 + sysForce force) = 0 →
    Completes (.stop r force) s fun t =>
      if s.sysJudge 1 force = 0 then t.modState = stStop
      else t.modState = s.modState ∧ t.fget F.SYS_RES_CODE = s.sysJudge 1 force ∧ t.fget ⟨Reg.BLK_EVT_RAW 0, 4, 1⟩ = 1) ∧
  (∀ (r : Requester) (s : State), s.judgeWrite r Reg.SYS_CMD 2 = 0 →
    Completes (.run r) s fun t =>
      if s.sysJudge 2 false = 0 then t.running = true
      else t.modState = s.modState ∧ t.fget F.SYS_RES_CODE = s.sysJudge 2 false ∧ t.fget ⟨Reg.BLK_EVT_RAW 0, 4, 1⟩ = 1) ∧
  (∀ (r : Requester) (s : State), s.judgeWrite r Reg.SYS_CMD 3 = 0 →
    Completes (.commission r) s fun t =>
      if s.sysJudge 3 false = 0 then t.modState = stCommission
      else t.modState = s.modState ∧ t.fget F.SYS_RES_CODE = s.sysJudge 3 false ∧ t.fget ⟨Reg.BLK_EVT_RAW 0, 4, 1⟩ = 1)

/-- How a start can end: RECOVERY, an invalid base coding, racking that a loss of power found, the join wait of a unit of a
pair, or one of the states of R427 and R429. -/
def startEnded (i : StartIn) (t : State) : Prop :=
  (t.fget F.SYS_STATE_STEP = 15 ∧ t.fget F.SYS_STATE_CAUSE = 7) ∨ (t.pwr.base = .invalid ∧ t.fget F.SYS_STATE_CAUSE = 6) ∨
  (i.rackCut ≠ none ∧ t.fget F.SYS_STATE_STEP = 3) ∨ t.red.joining = true ∨ t.modState = stCommission ∨ t.modState = stStop ∨ t.running = true ∨ t.modState = stHalt

/-- R46, R427 to R430: after the rails have ramped, and at an accepted RESTART, the module starts, to its end. -/
def startEnds : Prop :=
  (∀ (u : Fin 4) (i : StartIn) (s : State), s.pwr.phase = .rails → Completes (.moduleStart u i) s (startEnded i)) ∧
  (∀ (r : Requester) (force : Bool) (i : StartIn) (s : State), s.judgeWrite r Reg.SYS_CMD (4 + sysForce force) = 0 →
    s.sysJudge 4 force = 0 → Completes (.sysRestart r force i) s (startEnded i)) ∧
  (∀ (r : Requester) (force : Bool) (i : StartIn) (s : State), s.judgeWrite r Reg.SYS_CMD (4 + sysForce force) = 0 →
    s.sysJudge 4 force ≠ 0 →
    Completes (.sysRestart r force i) s fun t => t.modState = s.modState ∧ t.fget F.SYS_RES_CODE = s.sysJudge 4 force)

/-- Module commands and how a start ends (R11, R429 to R431).
The model's choices: log entries 6, 98 and 101. -/
def Obligations.ModuleCommandsAndStart : Prop := moduleCommands ∧ startEnds

/-- R421 to R423: MARK marks a complete cask that passes its checks, and is refused with its code and the cask state
unchanged; UNMARK undoes it, DISCARD empties the cask, REVERT marks the fallback of its kind, without one UPD_NO_FALLBACK. -/
def caskCommands : Prop :=
  (∀ (r : Requester) (down : Bool) (m : Manifest) (s : State),
    s.judgeWrite r Reg.UPD_CMD (1 + if down then 0x100 else 0) = 0 → s.upd.cask.bind (·.man) = some m → s.cask = ckComplete →
    Completes (.mark r down) s fun t =>
      t.fget F.UPD_RES_CODE = s.markJudge m down ∧ t.upd = s.upd ∧
      t.cask = if s.markJudge m down = 0 then ckMarked else s.cask) ∧
  (∀ (r : Requester) (s : State), s.judgeWrite r Reg.UPD_CMD 2 = 0 → s.cask = ckMarked →
    Completes (.unmark r) s fun t => t.cask = ckComplete ∧ t.fget F.UPD_RES_CODE = updOk ∧ t.upd = s.upd) ∧
  (∀ (r : Requester) (s : State), s.judgeWrite r Reg.UPD_CMD 3 = 0 → s.cask ≠ ckEmpty →
    Completes (.updDiscard r) s fun t => t.cask = ckEmpty ∧ t.upd.cask = none ∧ t.fget F.UPD_RES_CODE = updOk) ∧
  (∀ (r : Requester) (app : Bool) (v : Vintage) (s : State), s.judgeWrite r Reg.UPD_CMD (4 + if app then 0x200 else 0) = 0 →
    (if app then s.upd.appFb else s.upd.fwFb) = some v → s.fgetB F.CEL_STAT_READONLY = false →
    Completes (.revert r app) s fun t =>
      t.cask = ckMarked ∧ t.fget F.UPD_RES_CODE = updOk ∧
      t.upd.cask.bind (·.man) = some (v.manifest (if app then 2 else 1))) ∧
  (∀ (r : Requester) (app : Bool) (s : State), s.judgeWrite r Reg.UPD_CMD (4 + if app then 0x200 else 0) = 0 →
    (if app then s.upd.appFb else s.upd.fwFb) = none →
    Completes (.revert r app) s fun t => t.cask = s.cask ∧ t.fget F.UPD_RES_CODE = updNoFallback ∧ t.upd = s.upd)

/-- R173: a commit marker that becomes durable puts its package among those applied at every later start; R16: while the
supervisor stalls nothing becomes durable. -/
def markerDurable : Prop :=
  (∀ (w : List Nat) (s : State), s.olc.marker = some w → s.powerFailing = false → s.ssp.stall = false →
    Completes .olcMarkerDurable s fun t =>
      t.olc.marker = none ∧ t.upd.packages = s.upd.packages ++ [w] ∧ t.cel.package = [] ∧ t.regs = s.regs) ∧
  ∀ s : State, s.ssp.stall = true → Completes .olcMarkerDurable s fun t => t = s

/-- The cask, its mark, and the marker of a change (R177, R421 to R425).
The model's choices: log entries 94, 96 and 208. -/
def Obligations.CaskAndMarker : Prop := caskCommands ∧ markerDurable

/-- The last frame sent is the datagram `l` to `peer`: to its next hop, from the service port, on the last linked port. -/
def lastSent (t : State) (peer : Nat) (l : List Nat) : Prop :=
  let ws := t.nextHop peer :: peer :: t.fget F.NET_CFG_SSP_PORT :: l
  (t.netLink true = true → ∃ seq, t.outs.getLast? = some (.frame .netB "SSP" (seq :: ws))) ∧
  (t.netLink true = false → t.netLink false = true → ∃ seq, t.outs.getLast? = some (.frame .netA "SSP" (seq :: ws)))

/-- R111, R112: a whole image is loaded in COMMISSION for an ENGINEER session: a refusal leaves the application in force as
it was, a verified image takes force with its contexts, is kept in the cellar and ends the packages before it; either way the
session is answered with the load result.
The model's choices: log entries 47, 48, 124, 134, 164 and 165. -/
def Obligations.WholeImageLoad : Prop :=
  (∀ (n : Nat) (image : List Word) (v : Verdict) (ses : Session) (s : State), s.modState = stCommission →
    s.session n = some ses → ses.role = .engineer → s.verifyImage (image.map BitVec.toNat) = some v →
    Completes (.imageLoad n image) s fun t =>
      t.prog = s.prog ∧ t.ctxs = s.ctxs ∧ t.globals = s.globals ∧ t.upd = s.upd ∧
      t.outs = (s.sspSend ses.peer (ses.datagram 2 49 0 0 [v.code])).outs) ∧
  (∀ (n : Nat) (image : List Word) (ses : Session) (s : State), s.modState = stCommission →
    s.session n = some ses → ses.role = .engineer → s.verifyImage (image.map BitVec.toNat) = none →
    Completes (.imageLoad n image) s fun t =>
      t.prog = some (parseImage (image.map BitVec.toNat)) ∧ t.modState = stCommission ∧
      t.upd.appAct = some { number := (parseImage (image.map BitVec.toNat)).vintage, payload := fBytes (image.map BitVec.toNat) } ∧
      t.upd.packages = [] ∧ t.regN Reg.UPD_APP_ACT = low 32 (parseImage (image.map BitVec.toNat)).vintage ∧
      ∀ u, t.session n = some u → lastSent t u.peer (u.datagram 2 49 0 0 [ldOk])) ∧
  (∀ (n : Nat) (image : List Word) (s : State), s.modState ≠ stCommission ∨ s.roleOf n ≠ some .engineer →
    Completes (.imageLoad n image) s fun t => t = s)

/-! ### Angle bases, TSU, calendar clock -/

/-- R70 to R73: a zero crossing shows the input's rms value and validity and lets a free base acquire; a base that has
qualified locks to its input; the loss of the input in use ends in HOLDOVER, or under AUTO in a change to the other input
valid for QUAL; in HOLDOVER the frequency begins to move after 2 s and rests once it has come to NOM.
The model's choices: log entries 6, 60, 61, 62, 148 and 149. -/
def Obligations.AngleBase0States : Prop :=
  (∀ (vs : Fin 2) (rms ns : Nat) (a : Word) (s : State),
    Completes (.vsZeroCrossing vs rms ns a) s fun t =>
      t.fgetB (vsOk vs.val) = decide (70000 ≤ rms ∧ rms ≤ 140000 ∧ 15380000 ≤ ns ∧ ns ≤ 22220000) ∧
      t.regN (Reg.ABS_VS_RMS (vs.val + 1)) = low 32 rms ∧
      ((s.absState = absFree ∨ s.absState = absHoldover) → s.vsEligible vs.val = true → t.fgetB (vsOk vs.val) = true →
        t.absState = absAcquire)) ∧
  (∀ (a : Word) (s : State), s.absState = absAcquire → s.qualified = true →
    Completes (.abs0QualComplete a) s fun t =>
      t.absState = absLocked ∧ t.fget F.ABS0_STAT_IN_USE = low 1 s.tm.acqInput) ∧
  (∀ (vs : Fin 2) (other : Option Word) (s : State), s.absState = absLocked → s.fget F.ABS0_STAT_IN_USE = vs.val →
    s.fget F.ABS0_CFG_SRC = vs.val →
    Completes (.vsInputLost vs other) s fun t =>
      t.absState = absHoldover ∧ t.fgetB (vsOk vs.val) = false ∧ t.fget ⟨Reg.BLK_EVT_RAW 2, 4 + vs.val, 1⟩ = 1) ∧
  (∀ (vs : Fin 2) (a : Word) (since : Nat) (s : State), s.absState = absLocked → s.fget F.ABS0_STAT_IN_USE = vs.val →
    s.fget F.ABS0_CFG_SRC = 2 → s.fgetB (vsOk (1 - vs.val)) = true → nth none s.tm.validSince (1 - vs.val) = some since →
    since + 1000000 * s.fget F.ABS0_RELOCK_QUAL ≤ s.clk →
    Completes (.vsInputLost vs (some a)) s fun t =>
      t.absState = absLocked ∧ t.fget F.ABS0_STAT_IN_USE = 1 - vs.val) ∧
  (∀ s : State, s.absDrifts = true → s.fget F.ABS0_STAT_HO_PHASE = 0 → s.tm.hoSince + 2000000000 ≤ s.clk →
    Completes .abs0HoldoverRamp s fun t =>
      t.fget F.ABS0_STAT_HO_PHASE = 1 ∧ t.absState = s.absState ∧ ∀ o, o ≠ Reg.ABS0_STAT → t.reg o = s.reg o) ∧
  (∀ s : State, s.clk < s.tm.hoSince + 2000000000 → Completes .abs0HoldoverRamp s fun t => t = s) ∧
  (∀ s : State, s.absDrifts = true → s.fget F.ABS0_STAT_HO_PHASE = 1 → s.regN Reg.ABS0_FREQ = s.absNom →
    Completes .abs0HoldoverAtNom s fun t =>
      t.fget F.ABS0_STAT_HO_PHASE = 2 ∧ t.absState = s.absState ∧ ∀ o, o ≠ Reg.ABS0_STAT → t.reg o = s.reg o) ∧
  (∀ s : State, s.regN Reg.ABS0_FREQ ≠ s.absNom → Completes .abs0HoldoverAtNom s fun t => t = s)

/-- R77 to R79, R69: a quadrature edge counts one step in its direction and sets the angle exactly; the first index sets the
angle and enters SYNCED; a shaft without an edge for STOP_TIME is stopped and has speed 0; an overspeed loses SYNCED; a hold ends once the counts have come up to
the angle shown, or ABS0 has waited out what it was ahead, and not before.
The model's choices: log entries 6, 63 and 147. -/
def Obligations.ShaftCounts : Prop :=
  (∀ (backward : Bool) (ns : Nat) (s : State), s.shaftMode = 1 → s.shaftState ≠ shaftOff →
    Completes (.abs1CountEdge backward ns) s fun t =>
      t.tm.count = s.tm.count + (if backward != s.fgetB F.ABS1_CFG_DIR_INV then -1 else 1) ∧
      t.fgetB F.ABS1_STAT_REVERSE = (backward != s.fgetB F.ABS1_CFG_DIR_INV) ∧ t.fget F.ABS1_STAT_STOPPED = 0 ∧
      t.timedAt .edge = some s.clk ∧ (s.fgetB F.ABS1_STAT_HOLDING = false → t.absPos true = ofInt 64 t.counted)) ∧
  (∀ s : State, s.shaftMode ≠ 0 → s.shaftState = shaftSearch → (s.shaftMode = 2 → s.tm.gapSeen = true) →
    Completes .abs1Index s fun t =>
      t.shaftState = shaftSynced ∧ t.absPos true = s.regN Reg.ABS1_IDX_OFS ∧ t.tm.count = 0) ∧
  (∀ s : State, s.shaftMode ≠ 0 → s.fgetB F.ABS1_STAT_STOPPED = false →
    s.periodic .edge (1000000 * s.fget F.ABS1_CFG_STOP_TIME) = true →
    Completes .abs1Stopped s fun t =>
      t.fgetB F.ABS1_STAT_STOPPED = true ∧ t.regN Reg.ABS1_SPEED = 0 ∧ t.fget ⟨Reg.BLK_EVT_RAW 2, 8, 1⟩ = 1 ∧
      t.absPos true = s.absPos true) ∧
  (∀ s : State, s.periodic .edge (1000000 * s.fget F.ABS1_CFG_STOP_TIME) = false → Completes .abs1Stopped s fun t => t = s) ∧
  (∀ s : State, s.shaftMode ≠ 0 → s.fgetB F.ABS1_STAT_OVERSPEED = false → s.shaftState = shaftSynced →
    Completes .abs1Overspeed s fun t =>
      t.shaftState = shaftLost ∧ t.fgetB F.ABS1_STAT_OVERSPEED = true ∧ t.absPos true = s.absPos true) ∧
  (∀ (base : Fin 2) (s : State),
    (if base.val = 0 then s.tm.abs0Ahead = 0 else toSigned 64 (s.absPos true) ≤ s.counted) →
    Completes (.absHoldEnd base) s fun t =>
      t.fgetB (if base.val = 0 then F.ABS0_STAT_HOLDING else F.ABS1_STAT_HOLDING) = false ∧
      ∀ o, o ≠ (if base.val = 0 then Reg.ABS0_STAT else Reg.ABS1_STAT) → t.reg o = s.reg o) ∧
  (∀ (base : Fin 2) (s : State),
    (if base.val = 0 then s.tm.abs0Ahead ≠ 0 else s.counted < toSigned 64 (s.absPos true)) →
    Completes (.absHoldEnd base) s fun t => t = s)

/-- R80, R10: after 999 999 999 ns the nanoseconds wrap at the second and the seconds advance with their carry into the epoch.
The model's choice: log entry 67. -/
def Obligations.TsuSecondCarries : Prop :=
  ∀ s : State, s.tsuNs = 999999999 → Completes .tsuSecond s fun t =>
    t.tsuNs = 0 ∧ t.tsuSec = (s.tsuSec + 1) % 2 ^ 64 ∧ t.fget ⟨Reg.BLK_EVT_RAW 3, 6, 1⟩ = 1 ∧ t.tsuState = s.tsuState

/-- R81, R82, R481: the chosen source's update is taken up with its rate and an offset within STEP_LIM is slewed, replacing
any slew before it; another source's update changes no register, nor does one of a source other than PPS while a SET waits
for the PPS edge (R87); a loss that leaves no source to follow ends in HOLDOVER; a slew of which nothing remains is completed
with its event and moves TSU time no more.
The model's choices: log entries 6, 66, 69, 150 and 151. -/
def Obligations.TsuFollowsItsSource : Prop :=
  (∀ (src : TimeSource) (ofs rate : Int) (s : State), (s.setAvailSrc src true).srcChosen = some src →
    (s.tm.setPending = true → s.tm.ppsAvail = true → src = .pps) → ofs.natAbs ≤ 1000 * s.fget F.TSU_CFG_STEP_LIM →
    Completes (.tsuSourceUpdate src ofs rate) s fun t =>
      t.fget F.TSU_STAT_SRC_ACT = srcCode src ∧ t.regI Reg.TSU_RATE = clampI (32000 * 65536) rate ∧
      t.regI Reg.TSU_OFFSET = clampI (2 ^ 31 - 1) ofs ∧ t.tm.slewLeft = ofs * nsParts ∧ t.fgetB F.TSU_STAT_SLEWING = (ofs != 0)) ∧
  (∀ (src : TimeSource) (ofs rate : Int) (s : State), (s.setAvailSrc src true).srcChosen ≠ some src →
    Completes (.tsuSourceUpdate src ofs rate) s fun t => t.regs = s.regs ∧ t.evr = s.evr) ∧
  (∀ (src : TimeSource) (ofs rate : Int) (s : State), s.tm.setPending = true → s.tm.ppsAvail = true → src ≠ .pps →
    Completes (.tsuSourceUpdate src ofs rate) s fun t => t.regs = s.regs ∧ t.evr = s.evr ∧ t.tm.setPending = true) ∧
  (∀ (src : TimeSource) (s : State), (s.setAvailSrc src false).srcChosen = none →
    s.tsuState = tsuLocking ∨ s.tsuState = tsuLocked →
    Completes (.tsuSourceLost src) s fun t => t.tsuState = tsuHoldover ∧ t.fget F.TSU_STAT_SRC_ACT = 0) ∧
  (∀ s : State, s.fgetB F.TSU_STAT_SLEWING = true → s.tm.slewLeft = 0 →
    Completes .tsuSlewComplete s fun t =>
      t.now = s.now ∧ t.fgetB F.TSU_STAT_SLEWING = false ∧ t.fget ⟨Reg.BLK_EVT_RAW 3, 3, 1⟩ = 1 ∧ t.tm = s.tm) ∧
  (∀ s : State, s.tm.slewLeft ≠ 0 → Completes .tsuSlewComplete s fun t => t = s)

/-- R84, R85: a capture stamps TSU time, sets NEW and keeps in OVR that one went unread; PPS edges reach unit 0 where its SRC
names them, with the TSU's fraction, and show the time after a step at the edge; a compare unit that is armed and whose target is reached, and no other, raises its
event, a one-shot unit clears EN, a periodic one adds its period with the carry. -/
def captureAndCompare : Prop :=
  (∀ (k : Fin 4) (s : State), 3 ≤ s.fget (F.TSU_CAP_CFG_SRC k.val) → s.fget (F.TSU_CAP_CFG_SRC k.val) ≤ 6 →
    Completes (.tsuCapture k) s fun t =>
      t.regN (Reg.TSU_CAP_LO k.val) = s.tsuNs ∧ t.regN (Reg.TSU_CAP_HI k.val) = low 32 s.tsuSec ∧
      t.fgetB (F.TSU_CAP_CFG_NEW k.val) = true ∧
      t.fgetB (F.TSU_CAP_CFG_OVR k.val) = (s.fgetB (F.TSU_CAP_CFG_NEW k.val) || s.fgetB (F.TSU_CAP_CFG_OVR k.val)) ∧
      t.fget ⟨Reg.BLK_EVT_RAW 3, 8 + k.val, 1⟩ = 1) ∧
  (∀ (rate : Int) (s : State), s.fget (F.TSU_CAP_CFG_SRC 0) = 1 →
    Completes (.ppsEdge rate) s fun t =>
      t.tm.ppsAvail = true ∧ t.tm.setPending = false ∧ t.regN (Reg.TSU_CAP_LO 0) = t.tsuNs ∧
      t.regN (Reg.TSU_CAP_HI 0) = low 32 t.tsuSec ∧ t.fget (F.TSU_CAP_FRAC_FRAC 0) = t.tsuSub ∧
      t.fget ⟨Reg.BLK_EVT_RAW 3, 8, 1⟩ = 1) ∧
  (∀ (rate : Int) (s : State), s.tm.setPending = false → s.fget F.TSU_STAT_SRC_ACT ≠ 2 → s.fget (F.TSU_CAP_CFG_SRC 0) ≠ 1 →
    (s.setAvailSrc .pps true).srcChosen ≠ some .pps →
    Completes (.ppsEdge rate) s fun t => t.tm.ppsAvail = true ∧ t.regs = s.regs) ∧
  (∀ (k : Fin 2) (s : State), s.absCmpDue k.val = true →
    Completes (.compareFire ⟨k.val, Nat.lt_trans k.isLt (by decide)⟩) s fun t =>
      t.fgetB (F.ABS_CMP_CTL_EN k.val) = false ∧ t.fget ⟨Reg.BLK_EVT_RAW 2, 11 + k.val, 1⟩ = 1) ∧
  (∀ (k : Fin 2) (s : State), s.absCmpDue k.val = false →
    Completes (.compareFire ⟨k.val, Nat.lt_trans k.isLt (by decide)⟩) s fun t => t = s) ∧
  (∀ (k : Fin 4) (s : State), s.tsuCmpDue k.val = false →
    Completes (.compareFire ⟨k.val + 2, Nat.add_lt_add_right k.isLt 2⟩) s fun t => t = s) ∧
  (∀ (k : Fin 4) (s : State), s.tsuCmpDue k.val = true →
    Completes (.compareFire ⟨k.val + 2, Nat.add_lt_add_right k.isLt 2⟩) s fun t =>
      t.fget ⟨Reg.BLK_EVT_RAW 3, 12 + k.val, 1⟩ = 1 ∧
      if s.regN (Reg.TSU_CMP_PERIOD k.val) = 0 then t.fgetB (F.TSU_CMP_CTL_EN k.val) = false
      else
        t.fgetB (F.TSU_CMP_CTL_EN k.val) = true ∧
        t.regN (Reg.TSU_CMP_LO k.val) =
          (s.regN (Reg.TSU_CMP_LO k.val) + s.regN (Reg.TSU_CMP_PERIOD k.val)) % 1000000000 ∧
        t.regN (Reg.TSU_CMP_HI k.val) = low 32 (s.regN (Reg.TSU_CMP_HI k.val) +
          (s.regN (Reg.TSU_CMP_LO k.val) + s.regN (Reg.TSU_CMP_PERIOD k.val)) / 1000000000))

/-- R88, R83: a SET or ADJ while a command or a slew runs is TIME_BUSY and moves nothing; one refused otherwise reports its
code; an accepted SET makes the time valid, with PPS as the source at its next edge; an accepted ADJ within STEP_LIM is slewed. -/
def tsuCommandCodes : Prop :=
  (∀ (r : Requester) (s : State), s.judgeWrite r Reg.TSU_CMD 1 = 0 →
    Completes (.tsuSet r) s fun t =>
      if s.fgetB F.TSU_STAT_CMD_BUSY || s.fgetB F.TSU_STAT_SLEWING then t.fget F.TSU_STAT_CMD_RES = 1 ∧ t.now = s.now
      else if s.setCode ≠ 0 then t.fget F.TSU_STAT_CMD_RES = s.setCode ∧ t.now = s.now
      else if s.ppsSource then t.tm.setPending = true ∧ t.fget F.TSU_STAT_CMD_BUSY = 1 ∧ t.now = s.now
      else t.fget F.TSU_STAT_CMD_RES = 0 ∧ t.fget F.TSU_STAT_TIME_VALID = 1 ∧ t.fget ⟨Reg.BLK_EVT_RAW 3, 5, 1⟩ = 1) ∧
  (∀ (r : Requester) (s : State), s.judgeWrite r Reg.TSU_CMD 2 = 0 →
    (s.regI Reg.TSU_ADJ).natAbs ≤ 1000 * s.fget F.TSU_CFG_STEP_LIM →
    Completes (.tsuAdj r) s fun t =>
      t.now = s.now ∧
      if s.fgetB F.TSU_STAT_CMD_BUSY || s.fgetB F.TSU_STAT_SLEWING then t.fget F.TSU_STAT_CMD_RES = 1
      else if s.adjCode ≠ 0 then t.fget F.TSU_STAT_CMD_RES = s.adjCode
      else t.fget F.TSU_STAT_CMD_RES = 0 ∧ t.tm.slewLeft = s.regI Reg.TSU_ADJ * nsParts)

/-- R86, R88: at the hour a LOCKED TSU sets the calendar clock, starts it and makes it valid; a SET of the calendar clock with
fewer than 32 768 subseconds takes effect, another is TIME_RANGE; R45: COIN_LOW below 2.5 V, COIN_ABSENT below 1.0 V, the
supercapacitor's voltage and the draw on the cell show, and a fall below 2.5 V raises its event; a stopped oscillator is not
valid. -/
def calendarClock : Prop :=
  (∀ s : State, s.tsuSec % 3600 = 0 → s.tsuState = tsuLocked →
    Completes .hourlyTimeMark s fun t =>
      t.regN Reg.RTC_TIME_HI = low 32 s.tsuSec ∧ t.regN Reg.RTC_TIME_LO = low 32 (s.tsuNs * 32768 / 1000000000) ∧
      t.fget F.RTC_STAT_VALID = 1 ∧ t.tm.rtcRuns = true ∧ t.tm.lockedSecs = 0 ∧ t.now = s.now) ∧
  (∀ s : State, s.tsuSec % 3600 ≠ 0 → Completes .hourlyTimeMark s fun t => t = s) ∧
  (∀ (r : Requester) (s : State), s.judgeWrite r Reg.RTC_CMD 1 = 0 →
    Completes (.rtcSet r) s fun t =>
      if 32768 ≤ s.regN Reg.RTC_SET_LO then t.fget F.RTC_STAT_CMD_RES = 4 ∧ t.rtcNow = s.rtcNow
      else t.regN Reg.RTC_TIME_HI = s.regN Reg.RTC_SET_HI ∧ t.regN Reg.RTC_TIME_LO = s.regN Reg.RTC_SET_LO ∧
        t.fget F.RTC_STAT_VALID = 1 ∧ t.fget F.RTC_STAT_CMD_RES = 0 ∧ t.tm.rtcRuns = true ∧ t.now = s.now) ∧
  (∀ (coinMv capMv : Nat) (s : State), Completes (.coinCellLow coinMv capMv) s fun t =>
    t.fgetB F.RTC_STAT_COIN_LOW = decide (coinMv < 2500) ∧ t.fgetB F.RTC_STAT_COIN_ABSENT = decide (coinMv < 1000) ∧
    t.fget F.RTC_STAT_SUPCAP = Nat.min capMv 4095 ∧ t.fgetB F.RTC_STAT_ON_COIN = decide (capMv < 2000 ∧ 1000 ≤ coinMv) ∧
    (coinMv < 2500 → s.fgetB F.RTC_STAT_COIN_LOW = false → t.fget ⟨Reg.BLK_EVT_RAW 4, 2, 1⟩ = 1) ∧
    t.fget F.RTC_STAT_VALID = s.fget F.RTC_STAT_VALID ∧ t.rtcNow = s.rtcNow) ∧
  (∀ s : State, Completes .rtcBackupExhausted s fun t =>
    t.fget F.RTC_STAT_VALID = 0 ∧ t.tm.rtcRuns = false ∧ ∀ o, o ≠ Reg.RTC_STAT → t.reg o = s.reg o)

/-- What commands do with the clocks (R83 to R88).
The model's choices: log entries 6, 65, 68, 150, 152, 153 and 179. -/
def Obligations.ClockCommands : Prop := captureAndCompare ∧ tsuCommandCodes ∧ calendarClock


/-! ### Lamvile Code: one instruction of a running cycle -/

/-- The context's frame is as given after an instruction of `clocks` clocks, and nothing outside it has changed but the
counters of its engine: no other context, no published global, no output. -/
def ranTo (s t : State) (c clocks : Nat) (y : Cx) : Prop :=
  t.cx c = { y with clocks := (s.cx c).clocks + clocks } ∧ (∀ d, d ≠ c → t.cx d = s.cx d) ∧
  t.globals = s.globals ∧ t.outEls = s.outEls ∧ t.chans = s.chans ∧ t.outs = s.outs ∧ t.modState = s.modState

/-- R101, R95: NOP, MOV, MOV64, LDI, LDK and CMOV.
The model's choice: log entry 54. -/
def Obligations.MovesRun : Prop :=
  (∀ (c : Fin 256) (s : State), s.runs c.val .nop = true →
    Completes (.nop c) s fun t => ranTo s t c.val 1 { s.cx c.val with pc := (s.cx c.val).pc + 1 }) ∧
  (∀ (c : Fin 256) (d s1 : Fin 4096) (s : State), s.runs c.val (.mov d.val s1.val) = true →
    Completes (.mov c d s1) s fun t => ranTo s t c.val 1
      { (s.cx c.val).setSlot d.val ((s.cx c.val).slot s1.val) with pc := (s.cx c.val).pc + 1 }) ∧
  (∀ (c : Fin 256) (d s1 : Fin 4096) (s : State), s.runs c.val (.mov64 d.val s1.val) = true →
    Completes (.mov64 c d s1) s fun t => ranTo s t c.val 1
      { ((s.cx c.val).setSlot d.val ((s.cx c.val).slot s1.val)).setSlot (d.val + 1) ((s.cx c.val).slot (s1.val + 1)) with
        pc := (s.cx c.val).pc + 1 }) ∧
  (∀ (c : Fin 256) (d : Fin 4096) (imm : Word) (s : State), s.runs c.val (.ldi d.val imm.toNat) = true →
    Completes (.ldi c d imm) s fun t => ranTo s t c.val 1
      { (s.cx c.val).setSlot d.val (if nth 0 (s.ctxProg c.val).tags d.val = tBool then (if imm = 0 then 0 else 1) else imm.toNat) with
        pc := (s.cx c.val).pc + 2 }) ∧
  (∀ (c : Fin 256) (d : Fin 4096) (idx : Nat) (s : State), s.runs c.val (.ldk d.val idx) = true →
    Completes (.ldk c d idx) s fun t => ranTo s t c.val 2
      { (s.cx c.val).setVal tU64 d.val (nth 0 (s.ctxProg c.val).consts idx) with pc := (s.cx c.val).pc + 2 }) ∧
  (∀ (c : Fin 256) (t' : Fin 16) (d s1 s2 : Fin 4096) (s : State), s.runs c.val (.cmov t'.val d.val s1.val s2.val) = true →
    Completes (.cmov c t' d s1 s2) s fun t => ranTo s t c.val 1
      { (if (s.cx c.val).slot s2.val = 1 then (s.cx c.val).setVal t'.val d.val ((s.cx c.val).val t'.val s1.val) else s.cx c.val) with
        pc := (s.cx c.val).pc + 2 })

/-- R101, R117: LDX and STX move one element of an array of `n`, and raise IDX_RANGE for an index outside 0 to N − 1:
nothing of the cycle is published and the context stops with STOP_WHY 2.
The model's choices: log entries 53 and 54. -/
def Obligations.ArrayAccess : Prop :=
  (∀ (c : Fin 256) (d s1 base n : Fin 4096) (s : State) (k : Nat), s.runs c.val (.ldx d.val s1.val base.val n.val) = true →
    (s.cx c.val).slot s1.val = k → k < n.val →
    Completes (.ldx c d s1 base n) s fun t =>
      let tag := nth 0 (s.ctxProg c.val).tags base.val
      ranTo s t c.val 3 { (s.cx c.val).setVal tag d.val ((s.cx c.val).val tag (base.val + (if wideTag tag then 2 else 1) * k)) with
        pc := (s.cx c.val).pc + 2 }) ∧
  (∀ (c : Fin 256) (d s1 base n : Fin 4096) (s : State) (k : Nat), s.runs c.val (.stx d.val s1.val base.val n.val) = true →
    (s.cx c.val).slot s1.val = k → k < n.val →
    Completes (.stx c d s1 base n) s fun t =>
      let tag := nth 0 (s.ctxProg c.val).tags base.val
      ranTo s t c.val 3 { (s.cx c.val).setVal tag (base.val + (if wideTag tag then 2 else 1) * k) ((s.cx c.val).val tag d.val) with
        pc := (s.cx c.val).pc + 2 }) ∧
  (∀ (c : Fin 256) (d s1 base n : Fin 4096) (s : State), s.runs c.val (.ldx d.val s1.val base.val n.val) = true →
    n.val ≤ (s.cx c.val).slot s1.val →
    Completes (.ldx c d s1 base n) s fun t =>
      t.ctxState c.val = csStopped ∧ t.fget (F.CTX_STATE_STOP_WHY c.val) = 2 ∧ t.globals = s.globals) ∧
  (∀ (c : Fin 256) (d s1 base n : Fin 4096) (s : State), s.runs c.val (.stx d.val s1.val base.val n.val) = true →
    n.val ≤ (s.cx c.val).slot s1.val →
    Completes (.stx c d s1 base n) s fun t =>
      t.ctxState c.val = csStopped ∧ t.fget (F.CTX_STATE_STOP_WHY c.val) = 2 ∧ t.globals = s.globals)

/-- The arithmetic instruction of a type: its result and its sticky flags. -/
def arithRuns (i : Fin 256 → Fin 16 → Fin 4096 → Fin 4096 → Fin 4096 → Instr) (op : Arith) : Prop :=
  ∀ (c : Fin 256) (t' : Fin 16) (d s1 s2 : Fin 4096) (s : State), s.runs c.val (.arith op t'.val d.val s1.val s2.val) = true →
    Completes (i c t' d s1 s2) s fun t =>
      let x := s.cx c.val
      let r := arith op t'.val (x.val t'.val d.val) (x.val t'.val s1.val) (x.val t'.val s2.val)
      ranTo s t c.val (clkArith op t'.val) { x.setVal t'.val d.val r.bits with flags := x.flags ||| r.flags, pc := x.pc + 2 }

/-- R101, R103, R104, R116: each arithmetic instruction writes its result to D, and its flags stay set. -/
def arithmeticRuns : Prop :=
  arithRuns .add .add ∧ arithRuns .sub .sub ∧ arithRuns .mul .mul ∧ arithRuns .div .div ∧ arithRuns .rem .rem ∧
  arithRuns .min .min ∧ arithRuns .max .max ∧ arithRuns .fma .fma ∧
  arithRuns (fun c t d s1 _ => .neg c t d s1) .neg ∧ arithRuns (fun c t d s1 _ => .abs c t d s1) .abs ∧
  arithRuns (fun c t d s1 _ => .sqrt c t d s1) .sqrt

/-- The logic instruction of a type. -/
def logicRuns (i : Fin 256 → Fin 16 → Fin 4096 → Fin 4096 → Fin 4096 → Instr) (op : Logic) (shift : Bool) : Prop :=
  ∀ (c : Fin 256) (t' : Fin 16) (d s1 s2 : Fin 4096) (s : State), s.runs c.val (.logic op t'.val d.val s1.val s2.val) = true →
    Completes (i c t' d s1 s2) s fun t =>
      let x := s.cx c.val
      ranTo s t c.val (clkBase t'.val)
        { x.setVal t'.val d.val (logicOp op t'.val (x.val t'.val s1.val) (if shift then x.slot s2.val else x.val t'.val s2.val)) with
          pc := x.pc + 2 }

/-- R101: each logic instruction and each shift or rotation, by S2 modulo the width, writes its result to D. -/
def logicInstructionsRun : Prop :=
  logicRuns .and .and false ∧ logicRuns .or .or false ∧ logicRuns .xor .xor false ∧
  logicRuns (fun c t d s1 _ => .not c t d s1) .not false ∧
  logicRuns .shl .shl true ∧ logicRuns .shr .shr true ∧ logicRuns .rol .rol true ∧ logicRuns .ror .ror true

/-- R101: logic is bitwise, and shifts and rotations take S2 modulo the width, here of 32 bits. -/
def logicAndShifts : Prop :=
  (∀ (a b : Word), logicOp .and tU32 a.toNat b.toNat = (a &&& b).toNat ∧ logicOp .or tU32 a.toNat b.toNat = (a ||| b).toNat ∧
    logicOp .xor tU32 a.toNat b.toNat = (a ^^^ b).toNat ∧ logicOp .not tU32 a.toNat b.toNat = (~~~a).toNat) ∧
  (∀ (a b : Word), logicOp .shl tU32 a.toNat b.toNat = (a <<< (b.toNat % 32)).toNat ∧
    logicOp .rol tU32 a.toNat b.toNat = (a.rotateLeft (b.toNat % 32)).toNat ∧
    logicOp .ror tU32 a.toNat b.toNat = (a.rotateRight (b.toNat % 32)).toNat)

/-- The comparison of a type. -/
def cmpRuns (i : Fin 256 → Fin 16 → Fin 4096 → Fin 4096 → Fin 4096 → Instr) (op : Cmp) : Prop :=
  ∀ (c : Fin 256) (t' : Fin 16) (d s1 s2 : Fin 4096) (s : State), s.runs c.val (.cmp op t'.val d.val s1.val s2.val) = true →
    Completes (i c t' d s1 s2) s fun t =>
      let x := s.cx c.val
      let r := compare op t'.val (x.val t'.val s1.val) (x.val t'.val s2.val)
      ranTo s t c.val (clkBase t'.val) { x.setSlot d.val (if r.1 then 1 else 0) with flags := x.flags ||| r.2, pc := x.pc + 2 }

/-- R101, R104: each comparison writes 1 or 0 to D; CVT converts. -/
def comparisonsRun : Prop :=
  cmpRuns .eq .eq ∧ cmpRuns .ne .ne ∧ cmpRuns .lt .lt ∧ cmpRuns .le .le ∧ cmpRuns .gt .gt ∧ cmpRuns .ge .ge ∧
  (∀ (c : Fin 256) (trunc : Bool) (dst src : Fin 16) (d s1 : Fin 4096) (s : State),
    s.runs c.val (.cvt trunc dst.val src.val d.val s1.val) = true →
    Completes (.cvt c trunc dst src d s1) s fun t =>
      let x := s.cx c.val
      let r := convert trunc dst.val src.val (x.val src.val s1.val)
      ranTo s t c.val (if wideTag dst.val || wideTag src.val then 3 else 2)
        { x.setVal dst.val d.val r.bits with flags := x.flags ||| r.flags, pc := x.pc + 2 })

/-- Every arithmetic, logic and comparison instruction completes in its context (R100 to R104).
The model's choices: log entries 54, 138 and 143. -/
def Obligations.LvcInstructionsRun : Prop := arithmeticRuns ∧ logicInstructionsRun ∧ comparisonsRun

/-- R104: a comparison with a NaN operand is false but for NE, which is true; LT to GE then set F_INVALID, EQ and NE only
for a signalling NaN; 32-bit integers compare as signed or unsigned numbers by their type. -/
def comparisonTruth : Prop :=
  (∀ (op : Cmp) (t a b : Nat), isFloat t = true → (floatFmt t).order a b = none →
    (compare op t a b).1 = (op == .ne) ∧
    ((compare op t a b).2 = fInvalid ↔ ((op ≠ .eq ∧ op ≠ .ne) ∨ (floatFmt t).anySnan a b = true))) ∧
  (∀ a b : Word, (compare .lt tI32 a.toNat b.toNat).1 = a.slt b ∧ (compare .lt tU32 a.toNat b.toNat).1 = a.ult b ∧
    (compare .eq tU32 a.toNat b.toNat).1 = (a == b) ∧ (compare .ge tI32 a.toNat b.toNat).1 = !a.slt b)

/-- What logic and comparisons give (R101, R104). -/
def Obligations.LvcResults : Prop := logicAndShifts ∧ comparisonTruth

/-- The integer types and their widths. -/
def intType (t w : Nat) : Prop := ((t = tI32 ∨ t = tU32) ∧ w = 32) ∨ ((t = tI64 ∨ t = tU64) ∧ w = 64)

/-- DIV or REM by zero in a running cycle: 0 is written to D, DIV_ZERO is set, and the cycle goes on. -/
def zeroDivisor (i : Fin 256 → Fin 16 → Fin 4096 → Fin 4096 → Fin 4096 → Instr) (op : Arith) : Prop :=
  ∀ (c : Fin 256) (t' : Fin 16) (d s1 s2 : Fin 4096) (s : State), s.runs c.val (.arith op t'.val d.val s1.val s2.val) = true →
    isFloat t'.val = false → (s.cx c.val).val t'.val s2.val = 0 →
    Completes (i c t' d s1 s2) s fun t => ranTo s t c.val (clkArith op t'.val)
      { (s.cx c.val).setVal t'.val d.val 0 with flags := (s.cx c.val).flags ||| sfDivZero, pc := (s.cx c.val).pc + 2 }

/-- R103: integer arithmetic wraps modulo 2^32 or 2^64 and sets no flag; DIV and REM truncate, REM with the sign of the
dividend; a zero divisor writes 0 with DIV_ZERO; the most negative value divided by −1 wraps to itself; SHR is arithmetic for
the signed types alone; NEG of an unsigned value wraps and ABS returns it; NOT of BOOL is 1 − S1. -/
def Obligations.IntegerOperations : Prop :=
  (∀ (w t d : Nat) (a b : BitVec w), intType t w →
    arith .add t d a.toNat b.toNat = ⟨(a + b).toNat, 0⟩ ∧ arith .sub t d a.toNat b.toNat = ⟨(a - b).toNat, 0⟩ ∧
    arith .mul t d a.toNat b.toNat = ⟨(a * b).toNat, 0⟩ ∧ arith .neg t d a.toNat b.toNat = ⟨(-a).toNat, 0⟩ ∧
    arith .abs t d a.toNat b.toNat = ⟨(if signedTag t then a.abs else a).toNat, 0⟩ ∧
    logicOp .shr t a.toNat b.toNat = (if signedTag t then a.sshiftRight (b.toNat % w) else a >>> (b.toNat % w)).toNat) ∧
  (∀ (w t d : Nat) (a b : BitVec w), intType t w → b ≠ 0 →
    arith .div t d a.toNat b.toNat = ⟨(if signedTag t then a.sdiv b else a / b).toNat, 0⟩ ∧
    arith .rem t d a.toNat b.toNat = ⟨(if signedTag t then a.srem b else a % b).toNat, 0⟩) ∧
  (∀ (w t d : Nat) (a b : BitVec w), intType t w → signedTag t = true → b ≠ 0 →
    (a.srem b).toInt = a.toInt.tmod b.toInt ∧
    arith .div t d (BitVec.intMin w).toNat (-1 : BitVec w).toNat = ⟨(BitVec.intMin w).toNat, 0⟩) ∧
  (∀ (w t d a : Nat), intType t w → arith .div t d a 0 = ⟨0, sfDivZero⟩ ∧ arith .rem t d a 0 = ⟨0, sfDivZero⟩) ∧
  (∀ a b : Nat, logicOp .not tBool a b = 1 - a) ∧ zeroDivisor .div .div ∧ zeroDivisor .rem .rem

/-- R101: the branches, the call stack and LOOP.
The model's choice: log entry 54. -/
def Obligations.ControlFlow : Prop :=
  (∀ (c : Fin 256) (ofs : Int) (s : State), s.runs c.val (.br ofs) = true →
    Completes (.br c ofs) s fun t => ranTo s t c.val 2 { s.cx c.val with pc := (((s.cx c.val).pc : Int) + ofs).toNat }) ∧
  (∀ (c : Fin 256) (s1 : Fin 4096) (ofs : Int) (s : State), s.runs c.val (.brt s1.val ofs) = true →
    Completes (.brt c s1 ofs) s fun t =>
      if (s.cx c.val).slot s1.val = 1 then ranTo s t c.val 2 { s.cx c.val with pc := (((s.cx c.val).pc : Int) + ofs).toNat }
      else ranTo s t c.val 1 { s.cx c.val with pc := (s.cx c.val).pc + 2 }) ∧
  (∀ (c : Fin 256) (s1 : Fin 4096) (ofs : Int) (s : State), s.runs c.val (.brf s1.val ofs) = true →
    Completes (.brf c s1 ofs) s fun t =>
      if (s.cx c.val).slot s1.val = 0 then ranTo s t c.val 2 { s.cx c.val with pc := (((s.cx c.val).pc : Int) + ofs).toNat }
      else ranTo s t c.val 1 { s.cx c.val with pc := (s.cx c.val).pc + 2 }) ∧
  (∀ (c : Fin 256) (ofs : Int) (s : State), s.runs c.val (.call ofs) = true →
    Completes (.call c ofs) s fun t => ranTo s t c.val 3
      { s.cx c.val with pc := (((s.cx c.val).pc : Int) + ofs).toNat, stack := ((s.cx c.val).pc + 1) :: (s.cx c.val).stack }) ∧
  (∀ (c : Fin 256) (a : Nat) (st : List Nat) (s : State), s.runs c.val .ret = true → (s.cx c.val).stack = a :: st →
    Completes (.ret c) s fun t => ranTo s t c.val 3 { s.cx c.val with pc := a, stack := st }) ∧
  (∀ (c : Fin 256) (d : Fin 4096) (ofs : Int) (s : State), s.runs c.val (.loop d.val ofs) = true →
    Completes (.loop c d ofs) s fun t =>
      let x := s.cx c.val
      let v : Word := BitVec.ofNat 32 (x.slot d.val) - 1
      if v = 0 then ranTo s t c.val 1 { x.setSlot d.val v.toNat with pc := x.pc + 2 }
      else ranTo s t c.val 2 { x.setSlot d.val v.toNat with pc := ((x.pc : Int) + ofs).toNat })

/-- R97, R98, R116: GLD reads a global, a forced one as forced; GST writes an own global in the context's image area alone,
and on a forced VID only sets W_FORCED.
The model's choice: log entry 54. -/
def Obligations.GlobalsInTheCycle : Prop :=
  (∀ (c : Fin 256) (d : Fin 4096) (idx : Nat) (s : State), s.runs c.val (.gld d.val idx) = true →
    Completes (.gld c d idx) s fun t =>
      let x := s.cx c.val
      let p := s.ctxProg c.val
      ranTo s t c.val 2 { x.setVal (vidTag s.progVids (nth 0 p.imports idx)) d.val
        (match x.forceOn (nth 0 p.imports idx) with
          | some f => f.value
          | none => gldValue p s.progVids c.val x idx) with pc := x.pc + 2 }) ∧
  (∀ (c : Fin 256) (s1 : Fin 4096) (idx : Nat) (s : State), s.runs c.val (.gst s1.val idx) = true →
    Completes (.gst c s1 idx) s fun t =>
      let x := s.cx c.val
      let vid := nth 0 (s.ctxProg c.val).imports idx
      match x.forceOn vid with
      | some _ => ranTo s t c.val 2 { x with flags := x.flags ||| sfWForced, pc := x.pc + 2 }
      | none => ranTo s t c.val 2 { x with own := mapSet x.own vid (x.val (vidTag s.progVids vid) s1.val), pc := x.pc + 2 })

/-- R98, R106, R107, R154: IRD, IQ and IAGE read the latched element, a forced one as forced, with FORCED set and of age 0; OWR holds its
value for the commit and on a forced VID sets W_FORCED. -/
def imageElements : Prop :=
  (∀ (c : Fin 256) (d : Fin 4096) (idx : Nat) (s : State), s.runs c.val (.ird d.val idx) = true →
    Completes (.ird c d idx) s fun t =>
      let x := s.cx c.val
      let e := (s.ctxProg c.val).el idx
      ranTo s t c.val 2 { x.setVal e.tag d.val (match x.forceOn e.vid with
          | some f => f.value
          | none => (nth {} x.inputs idx).value) with pc := x.pc + 2 }) ∧
  (∀ (c : Fin 256) (d : Fin 4096) (idx : Nat) (s : State), s.runs c.val (.iq d.val idx) = true →
    Completes (.iq c d idx) s fun t =>
      let x := s.cx c.val
      ranTo s t c.val 2 { x.setSlot d.val (match x.forceOn ((s.ctxProg c.val).el idx).vid with
          | some f => 128 + f.level
          | none => (nth {} x.inputs idx).quality) with pc := x.pc + 2 }) ∧
  (∀ (c : Fin 256) (d : Fin 4096) (idx : Nat) (s : State), s.runs c.val (.iage d.val idx) = true →
    Completes (.iage c d idx) s fun t =>
      let x := s.cx c.val
      let a := (nth {} x.inputs idx).age
      ranTo s t c.val 2 { x.setSlot d.val (match x.forceOn ((s.ctxProg c.val).el idx).vid with
          | some _ => 0
          | none => ofInt 32 (if a < -2147483648 then -2147483648 else if 2147483647 < a then 2147483647 else a)) with
        pc := x.pc + 2 }) ∧
  (∀ (c : Fin 256) (s1 : Fin 4096) (idx : Nat) (s : State), s.runs c.val (.owr s1.val idx) = true →
    Completes (.owr c s1 idx) s fun t =>
      let x := s.cx c.val
      let e := (s.ctxProg c.val).el idx
      ranTo s t c.val 2 { x with
        flags := if (x.forceOn e.vid).isSome then x.flags ||| sfWForced else x.flags
        written := mapSet x.written idx (x.val e.tag s1.val), pc := x.pc + 2 })

/-- R101, R131: TLATCH, TPOS, CSTAT and XFLAGS read what the latch and the cycle hold; XFLAGS then clears the flags. -/
def cycleReads : Prop :=
  (∀ (c : Fin 256) (d : Fin 4096) (s : State), s.runs c.val (.tlatch d.val) = true →
    Completes (.tlatch c d) s fun t => ranTo s t c.val 2
      { (s.cx c.val).setVal tU64 d.val (s.cx c.val).latchT with pc := (s.cx c.val).pc + 1 }) ∧
  (∀ (c : Fin 256) (d : Fin 4096) (base : Fin 2) (s : State), s.runs c.val (.tpos d.val base.val) = true →
    Completes (.tpos c d base) s fun t => ranTo s t c.val 2
      { (s.cx c.val).setVal tU64 d.val (if base = 0 then (s.cx c.val).pos0 else (s.cx c.val).pos1) with pc := (s.cx c.val).pc + 2 }) ∧
  (∀ (c : Fin 256) (d : Fin 4096) (s : State), s.runs c.val (.cstat d.val) = true →
    Completes (.cstat c d) s fun t => ranTo s t c.val 2
      { (s.cx c.val).setSlot d.val (s.cx c.val).cstat with pc := (s.cx c.val).pc + 1 }) ∧
  (∀ (c : Fin 256) (d : Fin 4096) (s : State), s.runs c.val (.xflags d.val) = true →
    Completes (.xflags c d) s fun t => ranTo s t c.val 2
      { (s.cx c.val).setSlot d.val (s.cx c.val).flags with flags := 0, pc := (s.cx c.val).pc + 1 })

/-- What a cycle reads of its image and of itself (R106 to R110).
The model's choice: log entry 54. -/
def Obligations.ImageAndCycle : Prop := imageElements ∧ cycleReads


/-! ### Cycles of the contexts -/

/-- R123: the target of a PERIOD context after a TSU instant is the first later instant t at which t − 10 000 × PHASE is 0
modulo 10 000 × PERIOD; a trigger sets the next target from the one that fired; units with equal settings have equal targets;
and a step of the TSU moves a pending target by as much. -/
def Obligations.PeriodTargets : Prop :=
  (∀ period phase t u : Nat, 0 < period →
    t < nextPeriod period phase t ∧ ((nextPeriod period phase t : Int) - 10000 * phase) % (10000 * period) = 0 ∧
    (t < u → ((u : Int) - 10000 * phase) % (10000 * period) = 0 → nextPeriod period phase t ≤ u)) ∧
  (∀ (c t : Nat) (s : State), s.trigOf c = 1 →
    s.targetAfter c t = nextPeriod (s.fget (F.CTX_PERIOD_PERIOD c)) (s.fget (F.CTX_PHASE_PHASE c)) t) ∧
  (∀ (c : Fin 256) (s : State), s.running = true → s.ctxState c.val = csIdle → (s.cx c.val).trig = false →
    s.ctxClass c.val ≠ 1 → s.trigOf c.val = 1 → s.dueAt c.val (s.cx c.val).target = true →
    Completes (.contextTrigger c) s fun t =>
      (t.cx c.val).trigTarget = (s.cx c.val).target ∧ (t.cx c.val).target = s.targetAfter c.val (s.cx c.val).target) ∧
  (∀ (c t : Nat) (s s' : State), s.trigOf c = 1 → s'.trigOf c = 1 →
    s'.fget (F.CTX_PERIOD_PERIOD c) = s.fget (F.CTX_PERIOD_PERIOD c) →
    s'.fget (F.CTX_PHASE_PHASE c) = s.fget (F.CTX_PHASE_PHASE c) → s'.targetAfter c t = s.targetAfter c t) ∧
  (∀ (c cause : Nat) (d : Int) (s : State), s.trigOf c = 1 → c ∈ s.ctxs.map (·.1) →
    ((s.tsuStep d cause).cx c).target = moved (s.cx c).target d)

/-- A trigger of a class-B context with STRETCH is one to be skipped for the budget: the thermal state is HOT or CRITICAL and
the trigger before it was not skipped. -/
def stretched (s : State) (c : Nat) : Prop :=
  s.ctxClass c = 1 ∧ s.fgetB (F.CTX_CFG_STRETCH c) = true ∧ 2 ≤ s.thermal ∧ (s.cx c).prevDispatched = true

/-- The context's trigger is on a time base or an event line, and its next target is reached. -/
def triggerDue (s : State) (c : Nat) : Prop :=
  s.running = true ∧ 1 ≤ s.trigOf c ∧ s.trigOf c ≤ 4 ∧ s.dueAt c (s.cx c).target = true

/-- The context holds the snapshot of its elements, globals, forces and positions as they stand. -/
def snapshotOf (s : State) (c : Nat) (x : Cx) : Prop :=
  x.latchT = s.now ∧ x.forced = s.forcesNow ∧ x.latched = (s.ctxProg c).imports.map s.globalNow ∧
  x.inputs = ((s.ctxProg c).iomap.map fun e => if e.isOut then ({} : InEl) else s.elIn e.source e.tag) ∧
  x.pos0 = s.absPos false ∧ x.pos1 = s.absPos true ∧ x.noTime = !s.fgetB F.TSU_STAT_TIME_VALID

/-- R20, R131, R132, R139: a trigger of an idle context latches its inputs, globals, forces and positions in one snapshot; of
one that runs it is an overrun skip, of one that stretches a budget skip. -/
def triggersTaken : Prop :=
  (∀ (c : Fin 256) (s : State), triggerDue s c.val → s.ctxState c.val = csIdle → (s.cx c.val).trig = false → ¬stretched s c.val →
    Completes (.contextTrigger c) s fun t =>
      (t.cx c.val).trig = true ∧ snapshotOf s c.val (t.cx c.val) ∧ (t.cx c.val).slots = (s.cx c.val).slots ∧
      (t.cx c.val).own = (s.cx c.val).own ∧ t.globals = s.globals ∧ t.outEls = s.outEls ∧ t.chans = s.chans ∧
      (∀ d, d ≠ c.val → t.cx d = s.cx d) ∧ ∀ o, o ≠ Reg.LNK_LATE_CNT → t.reg o = s.reg o) ∧
  (∀ (c : Fin 256) (s : State), triggerDue s c.val → s.ctxState c.val = csIdle → (s.cx c.val).trig = false → stretched s c.val →
    Completes (.contextTrigger c) s fun t =>
      t.fget (F.CTX_SKIPS_BUDGET c.val) = Nat.min (s.fget (F.CTX_SKIPS_BUDGET c.val) + 1) 0xFFFF ∧
      t.fget F.SCH_BUDGET_SKIP_CNT_COUNT = Nat.min (s.fget F.SCH_BUDGET_SKIP_CNT_COUNT + 1) 0xFFFFFFFF ∧
      (t.cx c.val).trig = false ∧ (t.cx c.val).prevDispatched = false ∧ t.globals = s.globals ∧ t.outEls = s.outEls) ∧
  (∀ (c : Fin 256) (s : State), triggerDue s c.val → s.ctxState c.val = csActive →
    s.fget (F.CTX_STATE_CONSEC c.val) + 1 < s.fget (F.CTX_CFG_SKIP_LIMIT c.val) →
    Completes (.contextTrigger c) s fun t =>
      t.fget (F.CTX_STATE_CONSEC c.val) = s.fget (F.CTX_STATE_CONSEC c.val) + 1 ∧
      t.fget (F.CTX_SKIPS_OVERRUN c.val) = Nat.min (s.fget (F.CTX_SKIPS_OVERRUN c.val) + 1) 0xFFFF ∧
      t.fget F.SCH_OVR_CNT_COUNT = Nat.min (s.fget F.SCH_OVR_CNT_COUNT + 1) 0xFFFFFFFF ∧
      (t.cx c.val).trig = (s.cx c.val).trig ∧ t.globals = s.globals ∧ t.outEls = s.outEls)

/-- R66, R125: a rising event line is recorded and triggers the contexts on it: none, or the one that there is. -/
def linesTrigger : Prop :=
  (∀ (n : Fin 256) (s : State), s.lineAsserted n.val = true → s.fgetB (lineLevel n.val) = false →
    (∀ c, c < 256 → ¬(s.trigOf c = 4 ∧ s.fget (F.CTX_CFG_LINE c) = n.val)) →
    Completes (.eventLineEdge n) s fun t =>
      t.fgetB (lineLevel n.val) = true ∧ t.fget ⟨Reg.SYS_EVL_EDGE (n.val / 32), n.val % 32, 1⟩ = 1 ∧ t.ctxs = s.ctxs ∧
      ∀ o, o ≠ Reg.SYS_EVL_STAT (n.val / 32) → o ≠ Reg.SYS_EVL_EDGE (n.val / 32) → t.reg o = s.reg o) ∧
  (∀ (n c : Fin 256) (s : State), s.lineAsserted n.val = true → s.fgetB (lineLevel n.val) = false → s.running = true →
    s.trigOf c.val = 4 → s.fget (F.CTX_CFG_LINE c.val) = n.val →
    (∀ d, d < 256 → d ≠ c.val → ¬(s.trigOf d = 4 ∧ s.fget (F.CTX_CFG_LINE d) = n.val)) →
    s.ctxState c.val = csIdle → (s.cx c.val).trig = false → ¬stretched s c.val →
    Completes (.eventLineEdge n) s fun t =>
      t.fgetB (lineLevel n.val) = true ∧ t.fget ⟨Reg.SYS_EVL_EDGE (n.val / 32), n.val % 32, 1⟩ = 1 ∧
      (t.cx c.val).trig = true ∧ (t.cx c.val).latchT = s.now ∧ (∀ d, d ≠ c.val → t.cx d = s.cx d) ∧
      t.globals = s.globals ∧ t.outEls = s.outEls) ∧
  (∀ (n : Fin 256) (s : State), s.lineAsserted n.val = false ∨ s.fgetB (lineLevel n.val) = true →
    Completes (.eventLineEdge n) s fun t => t = s)

/-- R110, R113, R20, R140: an admitted dispatch starts the cycle at its first instruction and pre-empts the one that runs; a
LATE one latches at its dispatch, any other keeps its trigger's snapshot; class C waits as DEFERRED where it is not admitted. -/
def dispatchesBegin : Prop :=
  (∀ (c : Fin 256) (s : State), s.dispatchable c.val = true → s.admitted c.val = true →
    Completes (.contextDispatch c) s fun t =>
      t.ctxState c.val = csActive ∧ (t.cx c.val).act = .running ∧ (t.cx c.val).pc = 0 ∧ (t.cx c.val).stack = [] ∧
      (t.cx c.val).written = [] ∧ (t.cx c.val).trig = false ∧ t.fget (F.CTX_STATE_CONSEC c.val) = 0 ∧ t.outEls = s.outEls ∧
      t.chans = s.chans ∧ t.prog = s.prog ∧
      ((s.cx c.val).late = true → (t.cx c.val).latchT = s.now) ∧
      ((s.cx c.val).late = false → s.isBackground c.val = false →
        (t.cx c.val).inputs = (s.cx c.val).inputs ∧ (t.cx c.val).latchT = (s.cx c.val).latchT) ∧
      ∀ d, s.runningOn (s.homeOf c.val) = some d → d ≠ c.val → (t.cx d).act = .preempted) ∧
  (∀ (c : Fin 256) (s : State), s.dispatchable c.val = true → s.admitted c.val = false →
    Completes (.contextDispatch c) s fun t =>
      t.ctxState c.val = csDeferred ∧ (t.cx c.val).act = (s.cx c.val).act ∧ (t.cx c.val).trig = (s.cx c.val).trig ∧
      t.globals = s.globals ∧ t.outEls = s.outEls ∧ t.chans = s.chans)

/-- R107, R130, R117: END completes the cycle, counts it and publishes its globals; TRAP is a hard exception, code 2, that stops
the context. -/
def cyclesEnd : Prop :=
  (∀ (c : Fin 256) (s : State), s.runs c.val .endCycle = true →
    Completes (.endCycle c) s fun t =>
      (t.cx c.val).act = .idle ∧ (t.cx c.val).written = [] ∧ (t.cx c.val).commitT = some s.now ∧ t.prog = s.prog ∧
      t.fget (F.CTX_CYCLES_COUNT c.val) = (s.fget (F.CTX_CYCLES_COUNT c.val) + 1) % 2 ^ 32 ∧
      ((s.cx c.val).stopAtEnd = false → (s.cx c.val).dropAtEnd = false → t.ctxState c.val = s.restState c.val) ∧
      ∀ d v, d ∈ s.progVids → d.writer = c.val → (∀ e ∈ s.progVids, e.vid = d.vid → e = d) → s.forceFor d.vid = none →
        (∀ x, mapGet x (s.cx c.val).own d.vid = v) → ∀ x, mapGet x t.globals d.vid = v) ∧
  (∀ (c : Fin 256) (s1 : Fin 4096) (s : State), s.runs c.val (.trap s1.val) = true →
    Completes (.trap c s1) s fun t =>
      t.ctxState c.val = csStopped ∧ t.fget (F.CTX_STATE_STOP_WHY c.val) = 2 ∧ (t.cx c.val).act = .idle ∧ t.globals = s.globals ∧
      t.fget (F.ENG_EXC_INFO_CTX (s.homeOf c.val)) = c.val ∧ t.fget (F.ENG_EXC_INFO_CODE (s.homeOf c.val)) = 2 ∧
      t.fget (F.ENG_EXC_PC_TRAP_VAL (s.homeOf c.val)) = (s.cx c.val).slot s1.val % 2 ^ 18)

/-- A cycle from its trigger to its end (R20, R66, R107, R110, R113, R117, R125, R130 to R132, R139, R140).
The model's choices: log entries 6, 14, 51, 52, 53, 167, 179 and 181. -/
def Obligations.CyclesRun : Prop := triggersTaken ∧ linesTrigger ∧ dispatchesBegin ∧ cyclesEnd

/-- The counters of an engine that an instruction and a switch move, and its state. -/
def engineCounters (n : Nat) : List Nat :=
  [Reg.ENG_INSN_LO n, Reg.ENG_INSN_LO n + 4, Reg.ENG_BUSY_LO n, Reg.ENG_BUSY_LO n + 4, Reg.ENG_SWITCH_CNT n, Reg.ENG_STATE n]

/-- The waiting instruction has been issued: its effect is `q`, its cycle waits past its `n` words and holds the answer it will
get; beside `q` only the counters of its engine have moved. -/
def waitsFor (s : State) (i : Instr) (c n : Nat) (q : Block) (a : Answer) : Prop :=
  Completes i s fun t =>
    (t.cx c).act = .waiting ∧ (t.cx c).wait = some a ∧ (t.cx c).pc = (q.cx c).pc + n ∧ (t.cx c).slots = (q.cx c).slots ∧
    t.globals = q.globals ∧ t.outEls = q.outEls ∧ t.chans = q.chans ∧ t.outs = q.outs ∧ t.sol = q.sol ∧ t.evr = q.evr ∧
    t.fab = q.fab ∧ ∀ o, o ∉ engineCounters (q.homeOf c) → t.reg o = q.reg o

/-- R108, R193, R196, R412: a register access, a solver request or a record of a running cycle is performed and its cycle
waits. -/
def requestsIssued : Prop :=
  (∀ (c : Fin 256) (d s1 : Fin 4096) (off : Nat) (s : State), s.runs c.val (.rrd d.val s1.val off) = true →
    let q := s.fabRead (.prg c.val) off
    waitsFor s (.rrd c d s1 off) c.val 2 q.1 ⟨d.val, q.2.1, some (s1.val, false, q.2.2.toNat)⟩) ∧
  (∀ (c : Fin 256) (d s1 : Fin 4096) (off : Nat) (s : State), s.runs c.val (.rwr d.val s1.val off) = true →
    let q := s.fabWrite (.prg c.val) off ((s.cx c.val).slot s1.val) none
    waitsFor s (.rwr c d s1 off) c.val 2 q.1 ⟨d.val, q.2, none⟩) ∧
  (∀ (c : Fin 256) (d s1 : Fin 4096) (off : Nat) (s : State), s.runs c.val (.rrd64 d.val s1.val off) = true →
    let q := s.readPair (.prg c.val) off
    waitsFor s (.rrd64 c d s1 off) c.val 2 q.1 ⟨d.val, q.2.1, some (s1.val, true, q.2.2)⟩) ∧
  (∀ (c : Fin 256) (d s1 : Fin 4096) (off : Nat) (s : State), s.runs c.val (.rwr64 d.val s1.val off) = true →
    let q := s.writePair (.prg c.val) off ((s.cx c.val).val tU64 s1.val)
    waitsFor s (.rwr64 c d s1 off) c.val 2 q.1 ⟨d.val, q.2, none⟩) ∧
  (∀ (c : Fin 256) (d s1 addr : Fin 4096) (s : State), s.runs c.val (.rrdx d.val s1.val addr.val) = true →
    let q := s.fabRead (.prg c.val) ((s.cx c.val).slot addr.val)
    waitsFor s (.rrdx c d s1 addr) c.val 2 q.1 ⟨d.val, q.2.1, some (s1.val, false, q.2.2.toNat)⟩) ∧
  (∀ (c : Fin 256) (d s1 addr : Fin 4096) (s : State), s.runs c.val (.rwrx d.val s1.val addr.val) = true →
    let q := s.fabWrite (.prg c.val) ((s.cx c.val).slot addr.val) ((s.cx c.val).slot s1.val) none
    waitsFor s (.rwrx c d s1 addr) c.val 2 q.1 ⟨d.val, q.2, none⟩) ∧
  (∀ (c : Fin 256) (d base : Fin 4096) (job : Fin 16) (s : State), s.runs c.val (.ssub d.val base.val job.val) = true →
    let q := s.ssub c.val base.val job.val (s.ctxProg c.val) (s.cx c.val)
    waitsFor s (.ssub c d base job) c.val 2 q.1 ⟨d.val, q.2, none⟩) ∧
  (∀ (c : Fin 256) (d base : Fin 4096) (job : Fin 16) (made : SolAt) (s : State), s.runs c.val (.scan d.val base.val job.val) = true →
    let q := s.solScan job.val made
    waitsFor s (.scan c d base job made) c.val 2 q.1 ⟨d.val, q.2, none⟩) ∧
  (∀ (c : Fin 256) (d s1 : Fin 4096) (sev typ len : Nat) (s : State), s.runs c.val (.recApp d.val s1.val sev typ len) = true →
    let q := s.recApply c.val (s.mkRec sev 1 (0x8000 + typ) c.val ((upto len).map fun k => (s.cx c.val).slot (s1.val + k)))
    waitsFor s (.recApp c d s1 sev typ len) c.val 2 q.1 ⟨d.val, q.2, none⟩)

/-- R110, R128, R370: WAIT_ANSWER writes the answer to the instruction's slots and the cycle is ready again: it runs where no
cycle of its class or a higher one does; the primary of a pair sends the answer to its partner, no other unit does. -/
def answersCome : Prop :=
  (∀ (c : Fin 256) (a : Answer) (s : State), (s.cx c.val).act = .waiting → (s.cx c.val).wait = some a →
    Completes (.waitAnswer c) s fun t =>
      (t.cx c.val).wait = none ∧ ((t.cx c.val).act = .ready ∨ (t.cx c.val).act = .running) ∧
      (t.cx c.val).slots = ((s.cx c.val).answered a).slots ∧ (t.cx c.val).pc = (s.cx c.val).pc ∧ t.globals = s.globals ∧
      t.outEls = s.outEls ∧ t.chans = s.chans ∧ t.sol = s.sol ∧ t.evr = s.evr ∧
      t.outs = s.outs ++
        if s.onPair = true ∧ s.role = rolePrimary ∧ s.fgetB F.PAIR_STAT_LINK = true then
          [.frame .pair "answer" [c.val, a.code, (a.data.map fun d => d.2.2).getD 0, s.jobMode c.val]]
        else []) ∧
  (∀ (c : Fin 256) (s : State), (s.cx c.val).wait = none ∨ (s.cx c.val).act ≠ .waiting →
    Completes (.waitAnswer c) s fun t => t = s)

/-- The instructions that wait, and their answers (R108, R110, R128, R193, R196, R412).
The model's choices: log entries 6, 54, 130 and 166. -/
def Obligations.WaitingInstructions : Prop := requestsIssued ∧ answersCome

/-! ### The scheduler, the engines and their energy -/

/-- R134, R150, R117: RESTART reloads a stopped context, START resumes it as it stands, STOP acts at the
context's next completion; a command while another runs is refused with code 1. R127, R144: a completed copy makes
the new engine the context's home; REPLACE is done when no context moves.
The model's choices: log entries 6 and 55. -/
def Obligations.SchedulerCommands : Prop :=
  (∀ (r : Requester) (c : Fin 256) (s : State), s.judgeWrite r Reg.SCH_CMD (0x100 + c.val) = 0 → s.schBusy = false →
    s.fgetB (F.CTX_CFG_VALID c.val) = true → s.ctxState c.val = csStopped → s.fgetB (F.CTX_STATE_PLACED c.val) = true →
    Completes (.restart r c) s fun t =>
      t.ctxState c.val = s.restState c.val ∧ t.fget (F.CTX_STATE_STOP_WHY c.val) = 0 ∧ t.fget F.SCH_CMD_RES_CODE = 0 ∧
      (t.cx c.val).slots = (s.ctxProg c.val).init.map (BitVec.ofNat 32) ∧ (t.cx c.val).own = [] ∧ (t.cx c.val).flags = 0 ∧
      (t.cx c.val).first = true) ∧
  (∀ (r : Requester) (c : Fin 256) (s : State), s.judgeWrite r Reg.SCH_CMD (0x300 + c.val) = 0 → s.schBusy = false →
    s.fgetB (F.CTX_CFG_VALID c.val) = true → s.ctxState c.val = csStopped → s.fgetB (F.CTX_STATE_PLACED c.val) = true →
    s.fget (F.CTX_STATE_STOP_WHY c.val) = 1 ∨ s.fget (F.CTX_STATE_STOP_WHY c.val) = 3 ∨ s.fget (F.CTX_STATE_STOP_WHY c.val) = 4 →
    Completes (.schStart r c) s fun t =>
      t.ctxState c.val = s.restState c.val ∧ t.fget (F.CTX_STATE_STOP_WHY c.val) = 0 ∧ t.fget F.SCH_CMD_RES_CODE = 0 ∧
      (t.cx c.val).slots = (s.cx c.val).slots ∧ (t.cx c.val).own = (s.cx c.val).own ∧ (t.cx c.val).first = true) ∧
  (∀ (r : Requester) (c : Fin 256) (s : State), s.judgeWrite r Reg.SCH_CMD (0x200 + c.val) = 0 → s.schBusy = false →
    s.fgetB (F.CTX_CFG_VALID c.val) = true →
    s.ctxState c.val = csIdle ∨ s.ctxState c.val = csDeferred ∨ s.ctxState c.val = csActive →
    Completes (.schStop r c) s fun t =>
      t.ctxState c.val = s.ctxState c.val ∧ (t.cx c.val).stopAtEnd = true ∧ t.globals = s.globals ∧ t.outEls = s.outEls ∧
      ∀ d, d ≠ c.val → t.cx d = s.cx d) ∧
  (∀ (c : Fin 256) (s : State), s.runs c.val .endCycle = true → (s.cx c.val).stopAtEnd = true → (s.cx c.val).dropAtEnd = false →
    Completes (.endCycle c) s fun t =>
      t.ctxState c.val = csStopped ∧ t.fget (F.CTX_STATE_STOP_WHY c.val) = 4 ∧ (t.cx c.val).stopAtEnd = false ∧
      t.fget F.SCH_CMD_RES_CODE = 0 ∧ t.fget ⟨Reg.BLK_EVT_RAW 0x20, 9, 1⟩ = 1) ∧
  (∀ (r : Requester) (c : Fin 256) (s : State), s.judgeWrite r Reg.SCH_CMD (0x100 + c.val) = 0 → s.schBusy = true →
    Completes (.restart r c) s fun t => t.fget F.SCH_CMD_RES_CODE = 1 ∧ t.ctxs = s.ctxs) ∧
  (∀ (r : Requester) (s : State), s.judgeWrite r Reg.SCH_CMD 0x400 = 0 → s.schBusy = false →
    Completes (.replace r) s fun t =>
      (t.sched.replacing = true ∧ t.moving ≠ []) ∨ (t.sched.replacing = false ∧ t.moving = [] ∧ t.fget F.SCH_CMD_RES_CODE = 0)) ∧
  (∀ (c : Fin 256) (n : Nat) (s : State), n < 16 → (s.cx c.val).moveTo = some n → (s.cx c.val).copying = true →
    Completes (.migrationCopyComplete c) s fun t =>
      t.homeOf c.val = n ∧ t.fgetB (F.CTX_STATE_PLACED c.val) = true ∧ (t.cx c.val).place = (s.cx c.val).movePlace ∧
      (t.cx c.val).moveTo = none ∧ (t.cx c.val).handed = false ∧ (t.cx c.val).copying = false ∧ (t.cx c.val).migrated = true ∧
      (t.cx c.val).slots = (s.cx c.val).slots ∧ t.globals = s.globals ∧ t.outEls = s.outEls)

/-- R142, R143, R145, R119: an engine is parked in CRITICAL, the highest-numbered first, down to eight, one per 100 ms; it shows PARKED when its
last context has left, and returns available in NORMAL or WARM, one per 100 ms; a fault takes it out of service, and 1 s after its last context has
left it is tested, while the supervisor does not stall; the self-test of one out of
service parks it when it passes and leaves it in FAULT when it fails. -/
def enginesInAndOut : Prop :=
  (∀ (n : Nat) (s : State), s.thermal = 3 → 8 < ((upto 16).filter s.engAvail).length →
    ((upto 16).filter s.engAvail).getLast? = some n → s.periodic .park 100000000 = true →
    Completes .engineParkBegin s fun t =>
      t.engAvail n = false ∧ (t.eng n).parking = true ∧ t.timedAt .park = some s.clk ∧ ∀ k, k < 16 → k ≠ n → t.engAvail k = s.engAvail k) ∧
  (∀ (n : Fin 16) (s : State), (s.eng n.val).parking = true → s.residents n.val = [] → s.engState n.val ≠ esFault →
    Completes (.engineParked n) s fun t =>
      t.engState n.val = esParked ∧ (t.eng n.val).parking = false ∧ t.fget (F.BLK_STAT_PARKED (0x10 + n.val)) = 1 ∧
      t.fget ⟨Reg.BLK_EVT_RAW 0x20, 5, 1⟩ = 1 ∧ t.ctxs = s.ctxs) ∧
  (∀ s : State, s.periodic .park 100000000 = false → Completes .engineParkBegin s fun t => t = s) ∧
  (∀ (n : Nat) (s : State), s.returning = some n → s.thermal ≤ 1 → s.periodic .engReturn 100000000 = true →
    Completes .engineReturn s fun t => t.engAvail n = true ∧ t.fget (F.BLK_STAT_PARKED (0x10 + n)) = 0) ∧
  (∀ s : State, s.periodic .engReturn 100000000 = false → Completes .engineReturn s fun t => t = s) ∧
  (∀ (n : Fin 16) (decode : Bool) (bad : List Nat) (s : State), s.engState n.val ≠ esFault →
    Completes (.engineFault n decode bad) s fun t => t.engState n.val = esFault ∧ t.engAvail n.val = false) ∧
  (∀ (n : Fin 16) (s : State), s.judgeWrite .sup (Reg.ENG_TEST n.val) 1 (s.engTestExtra .sup n.val 1) = 0 →
    Completes (.engTestStart .sup n) s fun t =>
      t.engState n.val = esTest ∧ t.fget (F.ENG_TEST_RESULT n.val) = 1 ∧ t.ctxs = s.ctxs) ∧
  (∀ (n : Fin 16) (s : State), s.engState n.val = esFault → (s.eng n.val).failed = false → s.residents n.val = [] →
    s.ssp.stall = false → s.periodic (.engEmpty n.val) 1000000000 = true →
    Completes (.faultSelfTestDue n) s fun t =>
      t.engState n.val = esTest ∧ t.fget (F.ENG_TEST_RESULT n.val) = 1 ∧ (t.eng n.val).testFault = true) ∧
  (∀ (n : Fin 16) (s : State), s.ssp.stall = true ∨ s.periodic (.engEmpty n.val) 1000000000 = false →
    Completes (.faultSelfTestDue n) s fun t => t = s) ∧
  (∀ (n : Fin 16) (s : State), s.engState n.val = esTest → ¬((s.eng n.val).testFault = true ∧ (s.eng n.val).failed = true) →
    Completes (.engTestComplete n 0) s fun t =>
      t.engState n.val = esParked ∧ t.fget (F.ENG_TEST_RESULT n.val) = 2 ∧ t.fget (F.BLK_STAT_FAULT (0x10 + n.val)) = 0 ∧
      ((s.eng n.val).testFault = true → t.fget ⟨Reg.BLK_EVT_RAW 0x20, 5, 1⟩ = 1)) ∧
  (∀ (n : Fin 16) (s : State), s.engState n.val = esTest → (s.eng n.val).testFault = true → (s.eng n.val).failed = true →
    Completes (.engTestComplete n 0) s fun t => t.engState n.val = esFault ∧ t.fget (F.ENG_TEST_RESULT n.val) = 2) ∧
  (∀ (n : Fin 16) (fail : Nat) (s : State), s.engState n.val = esTest → fail % 65536 ≠ 0 →
    Completes (.engTestComplete n fail) s fun t =>
      t.engState n.val = esFault ∧ t.fget (F.ENG_TEST_RESULT n.val) = 3 ∧ t.fget (F.ENG_TEST_FAIL_CODE n.val) = fail % 65536)

/-- R136, R140: at the end of the window, 100 ms after it began, the sums of its energy move to the registers and start at 0. R137, R138: every 10 ms the thermal
state becomes the higher of die and rail, each up at once and down one step below its hysteresis. R141: the trip ends in HALT. -/
def energyAndThermal : Prop :=
  (∀ (coreMw fieldMa fieldMw : Nat) (s : State), s.now < s.sched.windowStart + 100000000 →
    Completes (.energyWindowEnd coreMw fieldMa fieldMw) s fun t => t = s) ∧
  (∀ (coreMw fieldMa fieldMw : Nat) (s : State), s.sched.windowStart + 100000000 ≤ s.now →
    Completes (.energyWindowEnd coreMw fieldMa fieldMw) s fun t =>
    t.sched.ledger = [] ∧ t.sched.solverEnergy = 0 ∧ t.sched.windowStart = s.now ∧ t.evr.accepted = [] ∧
    (∀ k, k < 16 → t.regN (Reg.PWR_LEDGER k) = microJ (mapGet 0 s.sched.ledger k)) ∧
    (∀ n, n < 16 → t.regN (Reg.PWR_ENG_E n) = microJ (s.eng n).winEnergy) ∧
    t.fget F.PWR_CORE_P_POWER = Nat.min coreMw 65535 ∧ t.fget F.CHG_FP_LOAD_CURRENT = Nat.min fieldMa 65535 ∧
    t.fget F.CHG_FP_LOAD_DISS = Nat.min fieldMw 65535 ∧ t.globals = s.globals ∧ t.outEls = s.outEls) ∧
  (∀ (die rail : Int) (s : State), s.periodic .thermal 10000000 = false →
    Completes (.thermalEvaluation die rail) s fun t => t = s) ∧
  (∀ (die rail : Int) (s : State), s.periodic .thermal 10000000 = true → Completes (.thermalEvaluation die rail) s fun t =>
    let d := nextLevel (s.fget F.PWR_THERM_DIE_LEVEL) die (s.fget F.PWR_DIE_THR_WARM) (s.fget F.PWR_DIE_THR_HOT) (s.fget F.PWR_DIE_THR_CRITICAL)
    let r := nextLevel (s.fget F.PWR_THERM_RAIL_LEVEL) rail (s.fget F.PWR_RAIL_THR_WARM) (s.fget F.PWR_RAIL_THR_HOT) (s.fget F.PWR_RAIL_THR_CRITICAL)
    t.fget F.PWR_THERM_DIE_LEVEL = d ∧ t.fget F.PWR_THERM_RAIL_LEVEL = r ∧ t.thermal = Nat.max d r ∧
    t.fget F.PWR_DIE_T_TEMP = ofInt 16 die ∧ t.fget F.PWR_RAIL_T_TEMP = ofInt 16 rail ∧ t.timedAt .thermal = some s.clk ∧
    t.globals = s.globals) ∧
  (∀ s : State, Completes .thermalTrip s fun t => t.modState = stHalt)

/-- Engines leaving and returning, energy windows, thermal states (R119, R136 to R145).
The model's choices: log entries 6, 56, 182 and 208. -/
def Obligations.EnginesEnergyAndHeat : Prop := enginesInAndOut ∧ energyAndThermal

/-! ### Forces -/

/-- A force command: taken up it waits for durability, refused it is reported; the table stays either way. -/
def forceCommand (i : Requester → Instr) (cmd : Nat) : Prop :=
  ∀ (r : Requester) (s : State), s.judgeWrite r Reg.FRC_CMD cmd = 0 →
    Completes (i r) s fun t =>
      t.frc.table = s.frc.table ∧ t.frc.stored = s.frc.stored ∧ t.globals = s.globals ∧ t.outEls = s.outEls ∧
      if s.frcJudge cmd s.frcEntry.vid s.frcEntry.tag = 0 then
        t.frc.pending = some ⟨cmd, s.frcEntry, r⟩ ∧ t.fget F.FRC_STAT_CMD_BUSY = 1
      else t.frc.pending = s.frc.pending ∧ t.fget F.FRC_RES_CODE = s.frcJudge cmd s.frcEntry.vid s.frcEntry.tag ∧
        t.fget ⟨Reg.BLK_EVT_RAW 0x28, 5, 1⟩ = 1

/-- R156 to R158, R161, R162: SET, RELEASE and RELEASE_ALL act once they are durable, not while the supervisor stalls: the acknowledgment changes the table,
not where the partner could not apply the command, and with a partner on PAIR from the instant both units agree on; READ copies an entry, an empty one as VID 0.
The model's choices: log entries 6, 46, 161, 162 and 208. -/
def Obligations.ForceCommands : Prop :=
  forceCommand .set 1 ∧ forceCommand .release 2 ∧ forceCommand .releaseAll 3 ∧
  (∀ (r : Requester) (i : Fin 512) (s : State), s.judgeWrite r Reg.FRC_CMD (i.val * 0x10000 + 4) = 0 → s.frc.pending = none →
    Completes (.readForce r i) s fun t =>
      t.frc = s.frc ∧ t.fget F.FRC_RES_CODE = 0 ∧
      match mapGet none (s.frc.table.map fun e => (e.1, some e.2)) i.val with
      | some e => t.regN Reg.FRC_ENTRY_VID = low 32 e.vid ∧ t.fget F.FRC_ENTRY_INFO_TAG = low 4 e.tag
      | none => t.regN Reg.FRC_ENTRY_VID = 0) ∧
  (∀ (ok : Bool) (c : FrcCmd) (s : State), s.frc.pending = some c → s.frc.agreed = none → s.frc.idle = false →
    (s.onPair = false ∨ (ok = true ∧ s.fgetB F.RED_STAT_PAIR_OK = false)) → s.ssp.stall = false →
    Completes (.forceAcknowledge ok) s fun t =>
      t.frc.pending = none ∧ t.frc.table = frcNext c s.frc.table ∧ t.frc.stored = frcNext c s.frc.stored ∧
      t.fget F.FRC_RES_CODE = 0 ∧ t.fget ⟨Reg.BLK_EVT_RAW 0x28, 5, 1⟩ = 1) ∧
  (∀ (c : FrcCmd) (s : State), s.frc.pending = some c → s.frc.agreed = none → s.onPair = true → s.fgetB F.RED_STAT_PAIR_OK = true →
    s.ssp.stall = false → Completes (.forceAcknowledge true) s fun t =>
      t.frc = { s.frc with agreed := some (c, s.now + pairLead) } ∧ t.globals = s.globals ∧ t.outEls = s.outEls ∧ t.regs = s.regs) ∧
  (∀ (ok : Bool) (s : State), s.ssp.stall = true → Completes (.forceAcknowledge ok) s fun t => t = s) ∧
  (∀ (c : FrcCmd) (s : State), s.frc.pending = some c → s.frc.agreed = none → s.onPair = true → s.ssp.stall = false →
    Completes (.forceAcknowledge false) s fun t =>
      t.frc = { s.frc with pending := none } ∧ t.fget F.FRC_RES_CODE = frcPair ∧ t.outEls = s.outEls)

/-! ### On-line change -/

/-- R163, R164, R167, R168, R187: a received package is copied to the cellar, verified, and staged or refused with its code; the
program in force stays; a pattern image is taken up in COMMISSION, or staged with the package. -/
def packageStages : Prop :=
  (∀ s : State, s.olcAt = olcReceiving → s.regN Reg.OLC_RCVD = s.regN Reg.OLC_PKG_SIZE → s.regN Reg.OLC_PKG_SIZE ≠ 0 →
    Completes .packageReceived s fun t =>
      t.olcAt = olcVerifying ∧ t.regN Reg.OLC_BASE_VIN = low 32 (fU32 s.olc.pkg 0x0C) ∧
      t.regN Reg.OLC_NEW_VIN = low 32 (fU32 s.olc.pkg 0x10) ∧ t.cel.package = s.olc.pkg ∧ t.prog = s.prog ∧ t.olc = s.olc) ∧
  (∀ (ok : Bool) (base : Prog) (s : State), s.olcAt = olcVerifying → s.verifyPackage s.olc.pkg = none → s.prog = some base →
    (s.onPair = false ∨ ok = true) →
    Completes (.packageVerifyComplete ok) s fun t =>
      t.olcAt = olcStaged ∧ t.olc.staged = some (pkgApply base s.olc.pkg) ∧ t.fget F.OLC_STAT_CODE = ldOk ∧ t.prog = s.prog ∧ t.ctxs = s.ctxs) ∧
  (∀ (ok : Bool) (v : Verdict) (s : State), s.olcAt = olcVerifying → s.verifyPackage s.olc.pkg = some v →
    Completes (.packageVerifyComplete ok) s fun t =>
      t.olcAt = olcIdle ∧ t.fget F.OLC_STAT_CODE = low 8 v.code ∧ t.olc = { marker := s.olc.marker } ∧ t.prog = s.prog ∧
      t.ctxs = s.ctxs) ∧
  (∀ (image : List Word) (s : State), s.modState = stCommission → (s.patLoad s.ctxAbc false (image.map BitVec.toNat)).2 = 0 →
    (parsePattern (image.map BitVec.toNat)).n ≠ 0 →
    Completes (.patternLoad false image) s fun t => t.psState (parsePattern (image.map BitVec.toNat)).target = psActive) ∧
  (∀ (image : List Word) (s : State), s.modState = stCommission → (s.patLoad s.ctxAbc false (image.map BitVec.toNat)).2 ≠ 0 →
    Completes (.patternLoad false image) s fun t =>
      t.fget F.SOL_LOAD_INFO_CODE = (s.patLoad s.ctxAbc false (image.map BitVec.toNat)).2 ∧ t.sol = s.sol) ∧
  (∀ (image : List Word) (s : State), s.modState ≠ stCommission → Completes (.patternLoad false image) s fun t => t = s) ∧
  (∀ (image : List Word) (s : State), s.olcAt = olcStaged → image.map BitVec.toNat ∈ s.olc.pats →
    (s.patLoad (fun c => ((s.olc.staged.map (·.ctxs)).getD []).any fun e => e.1 == c && e.2.cls != 3) true
      (image.map BitVec.toNat)).2 = 0 →
    Completes (.patternLoad true image) s fun t =>
      t.olc = { s.olc with loaded := s.olc.loaded + 1 } ∧ t.olcAt = olcStaged ∧ t.prog = s.prog ∧ t.ctxs = s.ctxs) ∧
  (∀ (r : Requester) (s : State), s.judgeWrite r Reg.OLC_CMD 1 = 0 →
    Completes (.verify r) s fun t =>
      t.prog = s.prog ∧
      if s.olcAt = olcStaged then t.olcAt = olcVerifying else t.olcAt = s.olcAt ∧ t.fget F.OLC_STAT_CODE = olcSequence)

/-- R168, R169, R171, R165: COMMIT arms a staged package, once no force command waits and its patterns are loaded; ABORT and
DISCARD end one without effect; the switch puts the package's program in force between cycles,
STATE being SWITCHING until its end, on a pair at the instant the primary has named to its partner; two seconds without such
an instant end the package. -/
def packageSwitches : Prop :=
  (∀ (r : Requester) (p : Prog) (s : State), s.judgeWrite r Reg.OLC_CMD 2 = 0 → s.olcAt = olcStaged → s.olc.staged = some p →
    s.frcConflicts p s.olc.released = [] →
    Completes (.commit r) s fun t =>
      t.prog = s.prog ∧
      if s.armReady = true then t.olcAt = olcArmed ∧ t.olc.commitWait = false else t.olcAt = olcStaged ∧ t.olc.commitWait = true) ∧
  (∀ (p : Prog) (s : State), s.olcAt = olcStaged → s.olc.commitWait = true → s.armReady = true → s.olc.staged = some p →
    s.frcConflicts p s.olc.released = [] →
    Completes .olcArm s fun t =>
      t.olcAt = olcArmed ∧ t.olc.commitWait = false ∧ t.timedAt .armed = some s.clk ∧ t.prog = s.prog) ∧
  (∀ (r : Requester) (s : State), s.judgeWrite r Reg.OLC_CMD 3 = 0 → s.olcAt = olcArmed →
    Completes (.abort r) s fun t =>
      t.olcAt = olcIdle ∧ t.fget F.OLC_STAT_CODE = olcAborted ∧ t.prog = s.prog ∧ t.ctxs = s.ctxs ∧ t.olc = { marker := s.olc.marker }) ∧
  (∀ (r : Requester) (s : State), s.judgeWrite r Reg.OLC_CMD 4 = 0 → s.olcAt = olcReceiving ∨ s.olcAt = olcStaged →
    Completes (.discard r) s fun t =>
      t.olcAt = olcIdle ∧ t.prog = s.prog ∧ t.ctxs = s.ctxs ∧ t.olc = { marker := s.olc.marker }) ∧
  (∀ (p base : Prog) (s : State), s.olcAt = olcArmed → s.olcBoundary = true → s.powerFailing = false → s.onPair = false →
    s.olc.switchAt = none → s.olc.staged = some p → s.prog = some base →
    Completes .olcCommitInstant s fun t =>
      t.prog = some p ∧ t.olcAt = olcSwitching ∧ s.clk + 2000 ≤ t.olc.switchEnd ∧
      t.olc = { marker := some s.olc.pkg, switchEnd := t.olc.switchEnd }) ∧
  (∀ s : State, s.olcAt = olcArmed → s.olcBoundary = true → s.powerFailing = false → s.olc.switchAt = none → s.onPair = true →
    s.role = rolePrimary → s.fgetB F.RED_STAT_PAIR_OK = true →
    Completes .olcCommitInstant s fun t =>
      t.olc = { s.olc with switchAt := some (s.now + pairLead) } ∧ t.prog = s.prog ∧ t.ctxs = s.ctxs ∧ t.regs = s.regs ∧
      t.outs = s.outs ++ [.frame .pair "olc commit" [s.now + pairLead]]) ∧
  (∀ (p base : Prog) (at_ : Nat) (s : State), s.olcAt = olcArmed → s.olc.switchAt = some at_ → s.olc.staged = some p →
    s.prog = some base → s.olcBoundary = true → (s.olcFollow).prog = some (if at_ ≤ s.now then p else base)) ∧
  (∀ s : State, (s.olcSwitched).fget F.OLC_STAT_STATE = olcIdle ∧ (s.olcSwitched).fget F.OLC_STAT_CODE = ldOk ∧
    (s.olcSwitched).prog = s.prog) ∧
  (∀ s : State, s.passed .armed 2000000000 = false → Completes .olcNoBoundary s fun t => t = s) ∧
  (∀ s : State, s.olcAt = olcArmed → s.olc.switchAt = none → s.passed .armed 2000000000 = true →
    Completes .olcNoBoundary s fun t =>
      t.olcAt = olcIdle ∧ t.fget F.OLC_STAT_CODE = olcNoBoundary ∧ t.prog = s.prog ∧ t.ctxs = s.ctxs)

/-- A change package from its bytes to its switch (R163 to R177).
The model's choices: log entries 6, 132, 133, 142, 160, 187 and 188. -/
def Obligations.ChangePackages : Prop := packageStages ∧ packageSwitches

/-! ### Solver jobs -/

/-- R195, R196, R221, R222: the waiting job starts on the pattern its slot holds, or ends with PATTERN_MISMATCH; a job that
ends leaves the unit, a SOLVE with its values published; a deadline cuts it once the TSU or its base has reached it, and not
before; CANCEL withdraws a waiting job as ABORTED.
The model's choices: log entries 6, 41, 44, 168 and 186. -/
def Obligations.SolverJobs : Prop :=
  (∀ (j : SolJob) (k : Nat) (p : Pat) (s : State), s.sol.waiting = some j → j.slot < 16 → s.sol.running = none → s.sol.down = false →
    s.modState ≠ stHalt → s.solForeign j = false → s.psOf j.logical = some k → s.pat k = some p → p.img.id = j.id →
    (j.kind ≠ 1 ∨ (s.dlPassed j.dl = false ∧
      (j.cert = true ∨ (applyDeltas p.vals j.mat).all finite32 = true ∧ (applyDeltas p.rhs j.rhs).all finite64 = true))) →
    Completes .solverJobStart s fun t =>
      t.sol.waiting = none ∧ ∃ r, t.sol.running = some r ∧ r.job.slot = j.slot ∧ r.phys = k ∧ r.ts = s.clk ∧
        t.fget (F.SOL_JOB_STATE_STATE j.slot) = 2) ∧
  (∀ (j : SolJob) (s : State), s.sol.waiting = some j → s.sol.running = none → s.sol.down = false → s.modState ≠ stHalt →
    s.solForeign j = false → s.psOf j.logical = none →
    Completes .solverJobStart s fun t =>
      t.sol.waiting = none ∧ t.sol.running = none ∧ t.fget F.SOL_LAST_CODE = jobMismatch) ∧
  (∀ (r : SolRun) (p : Pat) (s : State), s.sol.running = some r → r.job.kind = 1 → s.pat r.phys = some p →
    Completes .solverJobEnd s fun t =>
      t.sol.running = none ∧ ∃ e ∈ t.sol.results, e.1 = r.job.slot ∧ e.2.x = (r.solve p none).x) ∧
  (∀ (r : SolRun) (s : State), s.sol.running = some r → r.job.kind ≠ 1 →
    Completes .solverJobEnd s fun t =>
      t.sol.running = none ∧ t.sol.results = s.sol.results ∧ t.fget F.SOL_LAST_CODE = jobDone) ∧
  (∀ (j : SolJob) (s : State), s.sol.waiting = some j → s.sol.running = none → s.solForeign j = true →
    Completes .solverJobStart s fun t => t = s) ∧
  (∀ (made : SolAt) (r : SolRun) (s : State), s.sol.running = some r → s.dlFires r.job.dl = false →
    Completes (.solverDeadline made) s fun t => t = s) ∧
  (∀ (made : SolAt) (r : SolRun) (p : Pat) (s : State), s.sol.running = some r → r.job.kind = 1 → s.pat r.phys = some p →
    s.dlFires r.job.dl = true →
    Completes (.solverDeadline made) s fun t =>
      t.sol.running = none ∧ ∃ e ∈ t.sol.results, e.1 = r.job.slot ∧ e.2.x = (r.solve p (some made)).x) ∧
  (∀ (job : Fin 16) (v : Word) (made : SolAt) (j : SolJob) (s : State), s.judgeWrite .sup (Reg.SOL_JOB_CTL job.val) v.toNat = 0 →
    bit v.toNat 31 = true → s.sol.waiting = some j → j.slot = job.val →
    Completes (.cancel .sup job v made) s fun t =>
      t.sol.waiting = none ∧ t.sol.running = s.sol.running ∧ t.fget F.SOL_LAST_CODE = jobAborted)

/-! ### Field channels -/

/-- R232, R233, R263, R241, R240, R245, R246, R40: a closed window gives RAW, VALUE and, on an analog input, the cause of NE 43 or of its
park current; on a digital input it gives the SP supply's load and temperature alone; a filtered
state gives 1.0 or 0.0; a persisting NAMUR line fault gives cause 6 or 7; the same dark chip ON in two consecutive frames is a
test-pulse fault, which locks out an island that owns the channel.
The model's choices: log entries 6, 24, 26, 27 and 30. -/
def Obligations.ChannelInputs : Prop :=
  (∀ (n : Fin 64) (i : Sample) (s : State), hasTrims (s.chMode n.val) = true → s.pwr.frontEnds = true →
    s.fgetB (F.CH_STAT_FIELD n.val) = false →
    Completes (.aiSample n i) s fun t =>
      t.regN (Reg.CH_RAW n.val) = (i.code % (2 : Int) ^ 32).toNat ∧
      t.regN (Reg.CH_VALUE n.val) = low 32 (limit24 (s.trimmed n.val (codeCurrent i.code))) ∧
      t.regN (Reg.CH_TIME_LO n.val) = (s.now - i.windowNs / 2) % 1000000000 ∧ (t.chan n.val).valued = true ∧
      (t.chan n.val).loadMv = i.loadMv ∧
      (isAiMode (s.chMode n.val) = true → (t.chan n.val).mcause =
        if s.multidrop n.val then parkCause (s.trimmed n.val (codeCurrent i.code)) (s.fget (F.HRT_CH_CFG_PARK n.val)) i.spLimit
        else ne43 (s.trimmed n.val (codeCurrent i.code)) i.spLimit) ∧
      ∀ m, m ≠ n.val → t.chan m = s.chan m) ∧
  (∀ (n : Fin 64) (i : Sample) (s : State), isDiMode (s.chMode n.val) = true → s.pwr.frontEnds = true →
    s.fgetB (F.CH_STAT_FIELD n.val) = false →
    Completes (.aiSample n i) s fun t =>
      (t.chan n.val).loadMv = i.loadMv ∧ (t.chan n.val).spLimit = i.spLimit ∧
      t.fget (F.CH_SUPPLY_TJ n.val) = (i.tj % 65536).toNat ∧ t.regN (Reg.CH_VALUE n.val) = s.regN (Reg.CH_VALUE n.val) ∧
      ∀ m, m ≠ n.val → t.chan m = s.chan m) ∧
  (∀ (n : Fin 64) (on : Bool) (since : Nat) (s : State), isDiMode (s.chMode n.val) = true ∨ isDoMode (s.chMode n.val) = true →
    s.pwr.frontEnds = true → s.fgetB (F.CH_STAT_FIELD n.val) = false →
    Completes (.diStateAccepted n on since) s fun t =>
      t.regN (Reg.CH_VALUE n.val) =
        (if (if isDiMode (s.chMode n.val) then on != s.fgetB (F.CH_DI_CFG_INVERT n.val) else on) then f32One else 0) ∧
      t.regN (Reg.CH_TIME_LO n.val) = since % 1000000000 ∧ (t.chan n.val).valued = true ∧ ∀ m, m ≠ n.val → t.chan m = s.chan m) ∧
  (∀ (n : Fin 64) (short : Bool) (s : State), s.chMode n.val = 5 ∨ s.chMode n.val = 8 → s.pwr.frontEnds = true →
    s.fgetB (F.CH_STAT_FIELD n.val) = false →
    Completes (.namurLineFault n short) s fun t =>
      (t.chan n.val).mcause = (if short then 7 else 6) ∧ t.fgetB (F.CH_STAT_SHORT n.val) = short ∧
      t.fgetB (F.CH_STAT_OPEN n.val) = !short ∧ t.regN (Reg.CH_VALUE n.val) = s.regN (Reg.CH_VALUE n.val)) ∧
  (∀ (n : Fin 64) (k : Fin 8) (on : Bool) (found : Option (Fin 64)) (s : State), isDiMode (s.chMode n.val) = true →
    s.pwr.frontEnds = true → s.fgetB (F.CH_STAT_FIELD n.val) = false →
    Completes (.tpChipEval n k on found) s fun t =>
      t.fgetB ⟨Reg.CH_TP_STAT n.val, k.val, 1⟩ = on ∧
      if on = true ∧ bit (chipCode (s.fget (F.CH_DI_CFG_TP_SLOT n.val))) k.val = true then
        t.fget (F.CH_STAT_TP_ANOM n.val) = 1 ∧
        (if bit (s.chan n.val).anom k.val = true then t.fget (F.CH_STAT_TP_FAULT n.val) = 1
         else bit (t.chan n.val).anom k.val = true ∧ t.fget (F.CH_STAT_TP_FAULT n.val) = s.fget (F.CH_STAT_TP_FAULT n.val))
      else bit (t.chan n.val).anom k.val = false ∧ t.fget (F.CH_STAT_TP_FAULT n.val) = s.fget (F.CH_STAT_TP_FAULT n.val)) ∧
  (∀ (n : Fin 64) (k : Fin 8) (found : Option (Fin 64)) (s : State), isDiMode (s.chMode n.val) = true →
    s.pwr.frontEnds = true → s.fgetB (F.CH_STAT_FIELD n.val) = false → s.fgetB (F.CH_STAT_TP_FAULT n.val) = false →
    bit (chipCode (s.fget (F.CH_DI_CFG_TP_SLOT n.val))) k.val = true → bit (s.chan n.val).anom k.val = true →
    (s.chan n.val).island = true → s.powerFailing = false →
    Completes (.tpChipEval n k true found) s fun t =>
      t.fget (F.CH_STAT_TP_FAULT n.val) = 1 ∧ t.islState = isLockout ∧ t.fget ⟨Reg.SAF_CAUSES, 8, 1⟩ = 1)

/-- R236, R238, R237: COMPLIANCE and THERMAL are shown while they stand, the fault they lead to after COMP_TIME is latched and drives the
failure current; an AO_ST stage short of its target is tripped. R242, R243: an overload opens a DO, which tries again after 1 s, reports
an open load, and switches on once its clamp has cooled.
The model's choices: log entries 6, 23, 25, 141, 155, 156 and 209. -/
def Obligations.ChannelStages : Prop :=
  (∀ (n : Fin 64) (loadMv : Nat) (code : Int) (s : State), s.energised n.val = true → s.fgetB (F.CH_STAT_COMPLIANCE n.val) = false →
    s.stageShort n.val code = true → supplyLimit s.busMv ≤ loadMv + 2000 →
    Completes (.complianceSet n loadMv code) s fun t =>
      t.fget (F.CH_STAT_COMPLIANCE n.val) = 1 ∧ t.fget (F.CH_FAULT_COMP_CNT n.val) = Nat.min (s.fget (F.CH_FAULT_COMP_CNT n.val) + 1) 255 ∧
      t.fget ⟨Reg.BLK_EVT_RAW (chPage n.val), 0, 1⟩ = 1 ∧ t.timedAt (.comp n.val) = some s.clk ∧ (s.chMode n.val = 10 → t.fget (F.CH_STAT_TRIPPED n.val) = 1) ∧
      ∀ m, m ≠ n.val → t.chan m = s.chan m) ∧
  (∀ (n : Fin 64) (code : Int) (g : Nat) (s : State), (s.drive n.val).target = some g →
    nearTo g (s.trimmed n.val (codeCurrent code)) = true →
    Completes (.complianceClear n code) s fun t =>
      t.fget (F.CH_STAT_COMPLIANCE n.val) = 0 ∧ (t.chan n.val).short = false ∧ ∀ m, m ≠ n.val → t.chan m = s.chan m) ∧
  (∀ (n : Fin 64) (s : State), s.chMode n.val = 3 → s.energised n.val = true → s.holdsLocal = true →
    s.fgetB (F.CH_STAT_CHANNEL_FAULT n.val) = false →
    s.fgetB (F.CH_STAT_COMPLIANCE n.val) = true ∨ (s.fgetB (F.CH_STAT_THERMAL n.val) = true ∧ (s.chan n.val).short = true) →
    s.passed (.comp n.val) (1000000 * s.fget (F.CH_AO_CFG_COMP_TIME n.val)) = true →
    Completes (.channelFaultDeclare n) s fun t =>
      t.fget (F.CH_STAT_CHANNEL_FAULT n.val) = 1 ∧
      t.fget (F.CH_FAULT_CAUSE n.val) = (if s.fgetB (F.CH_STAT_COMPLIANCE n.val) then 9 else 12) ∧
      t.fget (F.CH_STAT_STATE n.val) = 6 ∧ t.regN (Reg.CH_OUT n.val) = s.failCurrent n.val ∧
      t.fget ⟨Reg.BLK_EVT_RAW (chPage n.val), 1, 1⟩ = 1 ∧ ∀ m, m ≠ n.val → t.chan m = s.chan m) ∧
  (∀ (n : Fin 64) (s : State), s.passed (.comp n.val) (1000000 * s.fget (F.CH_AO_CFG_COMP_TIME n.val)) = false →
    Completes (.channelFaultDeclare n) s fun t => t = s) ∧
  (∀ (n : Fin 64) (tj code : Int) (s : State), 2000 ≤ tj → isAoMode (s.chMode n.val) = true ∨ isDoMode (s.chMode n.val) = true →
    Completes (.stageThermalSet n tj code) s fun t =>
      t.fget (F.CH_STAT_THERMAL n.val) = 1 ∧ t.fget (F.CH_SUPPLY_TJ n.val) = (tj % 65536).toNat ∧
      (s.fgetB (F.CH_STAT_THERMAL n.val) = false → t.fget ⟨Reg.BLK_EVT_RAW (chPage n.val), 2, 1⟩ = 1) ∧
      (s.stageShort n.val code = true → s.chMode n.val = 10 → t.fget (F.CH_STAT_TRIPPED n.val) = 1)) ∧
  (∀ (n : Fin 64) (tj : Int) (s : State), tj < 1840 →
    Completes (.stageThermalClear n tj) s fun t =>
      t.fget (F.CH_STAT_THERMAL n.val) = 0 ∧ t.fget (F.CH_SUPPLY_TJ n.val) = (tj % 65536).toNat ∧
      ∀ m, m ≠ n.val → t.chan m = s.chan m) ∧
  (∀ (n : Fin 64) (s : State), isDoMode (s.chMode n.val) = true → s.fgetB (F.CH_STAT_OVERLOAD n.val) = false →
    Completes (.doOverload n) s fun t =>
      t.fget (F.CH_STAT_OVERLOAD n.val) = 1 ∧ t.fget (F.CH_FAULT_OVL_CNT n.val) = Nat.min (s.fget (F.CH_FAULT_OVL_CNT n.val) + 1) 255 ∧
      t.fget (F.CH_STAT_OPEN n.val) = 0 ∧ (t.chan n.val).onNow = false ∧ t.timedAt (.overload n.val) = some s.clk ∧
      t.fget ⟨Reg.BLK_EVT_RAW (chPage n.val), 3, 1⟩ = 1) ∧
  (∀ (n : Fin 64) (s : State), s.chMode n.val = 6 → s.fget (F.CH_DO_CFG_RETRY n.val) = 1 → s.fgetB (F.CH_STAT_OVERLOAD n.val) = true →
    (s.wanted n.val).target = some 1 → s.passed (.overload n.val) 1000000000 = true →
    Completes (.doRetry n) s fun t => t.fget (F.CH_STAT_OVERLOAD n.val) = 0 ∧ ∀ m, m ≠ n.val → t.chan m = s.chan m) ∧
  (∀ (n : Fin 64) (s : State), s.passed (.overload n.val) 1000000000 = false → Completes (.doRetry n) s fun t => t = s) ∧
  (∀ (n : Fin 64) (s : State), isDoMode (s.chMode n.val) = true → s.fgetB (F.CH_DO_CFG_OPEN_DET n.val) = true →
    (s.chan n.val).onNow = true → (s.stage n.val).target = some 1 → s.holdsLocal = true →
    Completes (.doOpenLoad n) s fun t =>
      (t.chan n.val).mcause = 6 ∧ t.fget (F.CH_STAT_OPEN n.val) = 1 ∧ (t.chan n.val).onNow = true ∧ ∀ m, m ≠ n.val → t.chan m = s.chan m) ∧
  (∀ (n : Fin 64) (s : State), s.fgetB (F.CH_STAT_RATE_HOLD n.val) = true → clampSum s.clk (s.chan n.val).clamps ≤ 20000 →
    Completes (.doRateHoldEnd n) s fun t => t.fget (F.CH_STAT_RATE_HOLD n.val) = 0 ∧ ∀ m, m ≠ n.val → t.chan m = s.chan m) ∧
  (∀ (n : Fin 64) (s : State), 20000 < clampSum s.clk (s.chan n.val).clamps → Completes (.doRateHoldEnd n) s fun t => t = s)

/-- R228, R239, R252 to R255: a mode is set in COMMISSION and starts without a value; CLR_FAULT clears what is latched, not on a
channel of the island; a
calibration session opens where nothing denies it, records its points, an average 1 s after its command, makes the trims durable that are in their limits, not while the supervisor
stalls, and ends by CANCEL, or 600 s after its last command, without change.
The model's choices: log entries 6, 9, 28, 29, 135 and 208. -/
def Obligations.ChannelSettings : Prop :=
  (∀ (r : Requester) (n : Fin 64) (v : Word) (s : State),
    s.judgeWrite r (Reg.CH_MODE n.val) v.toNat (codeIf (s.chModeConflict n.val v.toNat && s.chModeJudge n.val v.toNat == 0) cfgConflict ++
      codeIf (bit v.toNat 8 && !hasTrims (bits v.toNat 0 4)) accValue) = 0 →
    Completes (.chModeWrite r n v) s fun t =>
      t.fget (F.CH_RES_CODE n.val) = s.chModeJudge n.val v.toNat ∧
      if s.chModeJudge n.val v.toNat = 0 then
        t.chMode n.val = bits v.toNat 0 4 ∧ (t.chan n.val).valued = false ∧ (t.chan n.val).last = none ∧ (t.chan n.val).cal = none
      else t.chMode n.val = s.chMode n.val ∧ t.chan n.val = s.chan n.val) ∧
  (∀ (r : Requester) (n : Fin 64) (s : State), s.judgeWrite r (Reg.CH_CMD n.val) 1 (chCmdExtra r 1) = 0 → s.chPending n.val = false →
    (s.chan n.val).island = true →
    Completes (.clrFault r n) s fun t =>
      t.fget (F.CH_RES_CODE n.val) = 3 ∧ t.reg (Reg.CH_STAT n.val) = s.reg (Reg.CH_STAT n.val) ∧ t.chans = s.chans) ∧
  (∀ (r : Requester) (n : Fin 64) (s : State), s.judgeWrite r (Reg.CH_CMD n.val) 1 (chCmdExtra r 1) = 0 → s.chPending n.val = false →
    (s.chan n.val).island = false →
    Completes (.clrFault r n) s fun t =>
      t.fget (F.CH_STAT_CHANNEL_FAULT n.val) = 0 ∧ t.fget (F.CH_STAT_OVERLOAD n.val) = 0 ∧ t.fget (F.CH_STAT_TP_FAULT n.val) = 0 ∧
      t.fget (F.CH_FAULT_CAUSE n.val) = 0 ∧ t.fget (F.CH_RES_CODE n.val) = 0 ∧ t.fget ⟨Reg.BLK_EVT_RAW (chPage n.val), 10, 1⟩ = 1) ∧
  (∀ (n : Fin 64) (s : State), s.judgeWrite .sup (Reg.CH_CMD n.val) 2 = 0 → s.chPending n.val = false →
    Completes (.calOpen .sup n) s fun t =>
      if s.calDenied n.val false = true then t.fget (F.CH_RES_CODE n.val) = 6 ∧ t.chan n.val = s.chan n.val
      else (t.chan n.val).cal = some {} ∧ t.timedAt (.calCommand n.val) = some s.clk ∧ t.fget (F.CH_RES_CODE n.val) = 0 ∧ t.fget ⟨Reg.BLK_EVT_RAW (chPage n.val), 8, 1⟩ = 1) ∧
  (∀ (n : Fin 64) (cs : CalSession) (s : State), s.judgeWrite .sup (Reg.CH_CMD n.val) 3 = 0 → (s.chan n.val).cal = some cs →
    cs.wait = .none → isAiMode (s.chMode n.val) = true →
    Completes (.calZero .sup n) s fun t =>
      if f32In (s.regN (Reg.CH_CAL_REF n.val)) 3 5 1 = true then
        t.timedAt (.calPoint n.val) = some s.clk ∧ t.timedAt (.calCommand n.val) = some s.clk ∧
        ∃ u p, (t.chan n.val).cal = some u ∧ u.wait = .average false ∧ u.zero = some p ∧ p.ref = s.regN (Reg.CH_CAL_REF n.val)
      else (t.chan n.val).cal = some cs ∧ t.fget (F.CH_RES_CODE n.val) = 2) ∧
  (∀ (n : Fin 64) (cs : CalSession) (s : State), s.judgeWrite .sup (Reg.CH_CMD n.val) 4 = 0 → (s.chan n.val).cal = some cs →
    cs.wait = .none → isAiMode (s.chMode n.val) = true →
    Completes (.calSpan .sup n) s fun t =>
      if f32In (s.regN (Reg.CH_CAL_REF n.val)) 19 21 1 = true then
        t.timedAt (.calPoint n.val) = some s.clk ∧ t.timedAt (.calCommand n.val) = some s.clk ∧
        ∃ u p, (t.chan n.val).cal = some u ∧ u.wait = .average true ∧ u.span = some p ∧ p.ref = s.regN (Reg.CH_CAL_REF n.val)
      else (t.chan n.val).cal = some cs ∧ t.fget (F.CH_RES_CODE n.val) = 2) ∧
  (∀ (n : Fin 64) (cs : CalSession) (z g : Nat) (s : State), s.judgeWrite .sup (Reg.CH_CMD n.val) 5 = 0 → (s.chan n.val).cal = some cs →
    cs.wait = .none → s.calTrims n.val cs = some (z, g) →
    Completes (.calCommit .sup n) s fun t =>
      t.regN (Reg.CH_TRIM_ZERO n.val) = s.regN (Reg.CH_TRIM_ZERO n.val) ∧ t.regN (Reg.CH_TRIM_GAIN n.val) = s.regN (Reg.CH_TRIM_GAIN n.val) ∧
      if trimsFit z g = true then (t.chan n.val).cal = some { cs with wait := .durable z g (if cs.isLocal then 2 else 1) }
      else (t.chan n.val).cal = some cs ∧ t.fget (F.CH_RES_CODE n.val) = 2) ∧
  (∀ (n : Fin 64) (cs : CalSession) (s : State), s.judgeWrite .sup (Reg.CH_CMD n.val) 6 = 0 → (s.chan n.val).cal = some cs →
    cs.wait = .none →
    Completes (.calCancel .sup n) s fun t =>
      (t.chan n.val).cal = none ∧ t.fget (F.CH_RES_CODE n.val) = 0 ∧
      t.regN (Reg.CH_TRIM_ZERO n.val) = s.regN (Reg.CH_TRIM_ZERO n.val) ∧ t.regN (Reg.CH_TRIM_GAIN n.val) = s.regN (Reg.CH_TRIM_GAIN n.val)) ∧
  (∀ (n : Fin 64) (cs : CalSession) (s : State), s.judgeWrite .sup (Reg.CH_CMD n.val) 7 = 0 → (s.chan n.val).cal = some cs →
    cs.wait = .none →
    Completes (.calFactory .sup n) s fun t =>
      (t.chan n.val).cal = some { cs with
        wait := .durable (mapGet (0, f32One) s.chFactory n.val).1 (mapGet (0, f32One) s.chFactory n.val).2 0 }) ∧
  (∀ (n : Fin 64) (avg : Word) (cs : CalSession) (p : CalPoint) (s : State), (s.chan n.val).cal = some cs → cs.wait = .average false →
    cs.zero = some p → s.passed (.calPoint n.val) 1000000000 = true →
    Completes (.calPointAveraged n avg) s fun t =>
      (t.chan n.val).cal = some { cs with zero := some { p with raw := avg.toNat }, wait := .none } ∧ t.fget (F.CH_RES_CODE n.val) = 0) ∧
  (∀ (n : Fin 64) (avg : Word) (s : State), s.passed (.calPoint n.val) 1000000000 = false →
    Completes (.calPointAveraged n avg) s fun t => t = s) ∧
  (∀ (n : Fin 64) (s : State), s.ssp.stall = true → Completes (.calTrimsDurable n) s fun t => t = s) ∧
  (∀ (n : Fin 64) (s : State), s.passed (.calCommand n.val) 600000000000 = false →
    Completes (.calSessionTimeout n) s fun t => t = s) ∧
  (∀ (n : Fin 64) (cs : CalSession) (z g src : Nat) (s : State), (s.chan n.val).cal = some cs → cs.wait = .durable z g src →
    s.ssp.stall = false →
    Completes (.calTrimsDurable n) s fun t =>
      t.regN (Reg.CH_TRIM_ZERO n.val) = low 32 z ∧ t.regN (Reg.CH_TRIM_GAIN n.val) = low 32 g ∧ (t.chan n.val).cal = none ∧
      t.regN (Reg.CH_CAL_DATE n.val) = low 32 s.tsuSec ∧ t.fget (F.CH_RES_CODE n.val) = 0) ∧
  (∀ (n : Fin 64) (cs : CalSession) (s : State), (s.chan n.val).cal = some cs →
    s.passed (.calCommand n.val) 600000000000 = true →
    Completes (.calSessionTimeout n) s fun t =>
      (t.chan n.val).cal = none ∧ t.regN (Reg.CH_TRIM_ZERO n.val) = s.regN (Reg.CH_TRIM_ZERO n.val) ∧
      t.regN (Reg.CH_TRIM_GAIN n.val) = s.regN (Reg.CH_TRIM_GAIN n.val))

/-- R38, R39: below 17.0 V or above its limit the field bus goes off, and every channel with a mode shows FIELD and loses its
calibration session, and an island that owns a channel locks out; after an undervoltage it returns on its own, after a trip on RESTORE; the inputs are reported.
The model's choices: log entries 6 and 154. -/
def Obligations.FieldSupply : Prop :=
  (∀ s : State, s.fgetB F.CHG_FP_STAT_UNDERVOLT = false →
    Completes .fieldBusUndervoltage s fun t =>
      t.fget F.CHG_FP_STAT_UNDERVOLT = 1 ∧ t.fget F.CHG_FP_STAT_BUS_OK = 0 ∧ t.pwr.fieldOn = false ∧
      t.fget ⟨Reg.BLK_EVT_RAW 0x80, 4, 1⟩ = 1 ∧
      (s.owned ≠ [] → s.powerFailing = false → t.islState = isLockout) ∧
      ∀ n, n < 64 → s.chMode n ≠ 0 → t.fget (F.CH_STAT_FIELD n) = 1 ∧ (t.chan n).cal = none) ∧
  (∀ s : State, s.fgetB F.CHG_FP_STAT_TRIPPED = false →
    Completes .fieldLimitTrip s fun t =>
      t.fget F.CHG_FP_STAT_TRIPPED = 1 ∧ t.fget F.CHG_FP_STAT_BUS_OK = 0 ∧ t.pwr.fieldOn = false ∧
      t.fget ⟨Reg.BLK_EVT_RAW 0x80, 5, 1⟩ = 1 ∧
      (s.owned ≠ [] → s.powerFailing = false → t.islState = isLockout) ∧
      ∀ n, n < 64 → s.chMode n ≠ 0 → t.fget (F.CH_STAT_FIELD n) = 1 ∧ (t.chan n).cal = none) ∧
  (∀ s : State, s.fgetB F.CHG_FP_STAT_TRIPPED = true →
    Completes .fieldBusReturn s fun t => t.fget F.CHG_FP_STAT_UNDERVOLT = 0 ∧ t.pwr = s.pwr ∧ t.chans = s.chans) ∧
  (∀ s : State, s.fgetB F.CHG_FP_STAT_TRIPPED = false → s.pwr.fieldOn = false →
    Completes .fieldBusReturn s fun t =>
      t.fget F.CHG_FP_STAT_UNDERVOLT = 0 ∧ t.pwr.fieldOn = true ∧ t.fget F.CHG_FP_STAT_BUS_OK = 1 ∧
      t.fget ⟨Reg.BLK_EVT_RAW 0x80, 6, 1⟩ = 1 ∧ ∀ n, n < 64 → t.fget (F.CH_STAT_FIELD n) = 0) ∧
  (∀ s : State, s.fgetB F.CHG_FP_STAT_TRIPPED = false → s.pwr.fieldOn = true → Completes .fieldBusReturn s fun t => t = s) ∧
  (∀ (fp : Fin 2) (ok : Bool) (mv : Nat) (s : State),
    Completes (.fieldInputChange fp ok mv) s fun t =>
      t.fget (if fp.val = 0 then F.CHG_FP_V_FP1 else F.CHG_FP_V_FP2) = Nat.min mv 65535 ∧
      t.fgetB (if fp.val = 0 then F.CHG_FP_STAT_FP1_OK else F.CHG_FP_STAT_FP2_OK) = ok ∧ t.pwr = s.pwr ∧ t.globals = s.globals ∧
      t.outEls = s.outEls ∧ ∀ n, n < 64 → t.chMode n = s.chMode n) ∧
  (∀ (r : Requester) (s : State), s.judgeWrite r Reg.CHG_CMD 1 = 0 → s.fgetB F.CHG_FP_STAT_TRIPPED = true →
    Completes (.restore r) s fun t =>
      t.fget F.CHG_FP_STAT_TRIPPED = 0 ∧
      if s.fgetB F.CHG_FP_STAT_UNDERVOLT = true then t.pwr = s.pwr ∧ t.chans = s.chans
      else t.pwr.fieldOn = true ∧ t.fget F.CHG_FP_STAT_BUS_OK = 1 ∧ ∀ n, n < 64 → t.fget (F.CH_STAT_FIELD n) = 0)

/-! ### HART -/

/-- The words of a request on the loop. -/
def hartFrame (s : State) (q : HartReq) : Out :=
  .frame (.hart q.ch) "HART_REQUEST" ([s.fget F.HRT_CFG_PREAMBLE, if q.long then 1 else 0, q.addr, q.devType, q.devId, q.cmd,
    q.data.length] ++ q.data)

/-- A slot's transaction has ended with a code. -/
def slotEnded (t : State) (slot : Option Nat) (code : Nat) : Prop :=
  ∀ k, slot = some k → k < 16 → t.fget (F.HRT_T_STAT_STATE k) = 3 ∧ t.fget (F.HRT_T_STAT_CODE k) = code

/-- R261, R262, R267, R479: an admitted binding is stored and put in force where it can stand, a new image device has no values
yet; one that conflicts is refused and changes nothing. -/
def hartBindings : Prop :=
  (∀ (r : Requester) (n : Fin 64) (v : Word) (row : RegRow) (s : State), regRow (Reg.HRT_CH_CFG n.val) = some row →
    s.judgeWrite r (Reg.HRT_CH_CFG n.val) v.toNat (codeIf (imgAddrBad v.toNat) accValue ++ codeIf (s.bindConflict n.val v.toNat) cfgConflict) = 0 →
    Completes (.hartBindWrite r n v) s fun t =>
      t.reg (Reg.HRT_CH_CFG n.val) = BitVec.ofNat 32 (row.written (s.regN (Reg.HRT_CH_CFG n.val)) v.toNat) ∧
      (bits v.toNat 0 2 ≠ s.fget (F.HRT_CH_CFG_BIND n.val) → t.fgetB (F.HRT_CH_STAT_HELD n.val) = t.bindStands n.val) ∧
      (bits v.toNat 4 4 ≠ s.fget (F.HRT_CH_CFG_IMG_ADDR n.val) → t.hartItem n.val = {}) ∧
      t.fget F.HRT_CFG_RES_CODE = 0 ∧ t.fget F.HRT_CFG_RES_CH = n.val ∧ t.hart.queue = s.hart.queue ∧ t.hart.runs = s.hart.runs ∧
      t.outs = s.outs ++ [.access r (Reg.HRT_CH_CFG n.val) 0 0]) ∧
  (∀ (r : Requester) (n : Fin 64) (v : Word) (s : State),
    s.judgeWrite r (Reg.HRT_CH_CFG n.val) v.toNat (codeIf (imgAddrBad v.toNat) accValue ++ codeIf (s.bindConflict n.val v.toNat) cfgConflict) =
      cfgConflict →
    Completes (.hartBindWrite r n v) s fun t =>
      t.fget F.HRT_CFG_RES_CODE = cfgConflict ∧ t.reg (Reg.HRT_CH_CFG n.val) = s.reg (Reg.HRT_CH_CFG n.val) ∧ t.hart = s.hart ∧
      t.fget ⟨Reg.BLK_EVT_RAW 0x81, 4, 1⟩ = 1)

/-- R264, R269: a submitted request waits as its slot holds it; one that may not wait ends at once with its code; a slot in use
refuses it. CANCEL ends a waiting or running transaction with code 7. -/
def hartSubmissions : Prop :=
  (∀ (r : Requester) (k : Fin 16) (v : Word) (q : HartReq) (s : State), s.judgeWrite r (Reg.HRT_T_CTL k.val) (v ||| 1).toNat = 0 →
    bit (v ||| 1).toNat 1 = false → s.hartBusy k.val = false →
    q = (s.storeWrite (Reg.HRT_T_CTL k.val) (v ||| 1).toNat).hartReq k.val → s.hartRefused q = none →
    Completes (.submit r k v) s fun t =>
      t.hart.queue = s.hart.queue ++ [q] ∧ t.hart.runs = s.hart.runs ∧ t.fget (F.HRT_T_STAT_STATE k.val) = 1 ∧
      ((∀ x ∈ s.hart.queue, x.slot ≠ some k.val) → t.timedAt (.hartQueued q.ch (some k.val)) = some s.clk) ∧
      t.fget (F.HRT_T_STAT_TRIES k.val) = 0 ∧ t.fget (F.HRT_T_STAT_RLEN k.val) = 0 ∧
      t.outs = s.outs ++ [.access r (Reg.HRT_T_CTL k.val) 0 0]) ∧
  (∀ (r : Requester) (k : Fin 16) (v : Word) (q : HartReq) (code : Nat) (s : State),
    s.judgeWrite r (Reg.HRT_T_CTL k.val) (v ||| 1).toNat = 0 → bit (v ||| 1).toNat 1 = false → s.hartBusy k.val = false →
    q = (s.storeWrite (Reg.HRT_T_CTL k.val) (v ||| 1).toNat).hartReq k.val → s.hartRefused q = some code →
    Completes (.submit r k v) s fun t =>
      t.fget (F.HRT_T_STAT_STATE k.val) = 3 ∧ t.fget (F.HRT_T_STAT_CODE k.val) = code ∧ t.hart.queue = s.hart.queue ∧
      t.hart.runs = s.hart.runs) ∧
  (∀ (r : Requester) (k : Fin 16) (v : Word) (s : State), s.judgeWrite r (Reg.HRT_T_CTL k.val) (v ||| 1).toNat = 0 →
    bit (v ||| 1).toNat 1 = false → s.hartBusy k.val = true →
    Completes (.submit r k v) s fun t =>
      t.fget (F.HRT_T_STAT_REJECT k.val) = 1 ∧ t.reg (Reg.HRT_T_CTL k.val) = s.reg (Reg.HRT_T_CTL k.val) ∧ t.hart = s.hart) ∧
  (∀ (r : Requester) (k : Fin 16) (v : Word) (q : HartReq) (s : State), s.judgeWrite r (Reg.HRT_T_CTL k.val) (v ||| 2).toNat = 0 →
    bit (v ||| 2).toNat 0 = false → (s.hart.queue.filter fun q => q.slot == some k.val) = [q] →
    (∀ x ∈ s.hart.runs, x.req.slot ≠ some k.val) →
    Completes (.hartCancel r k v) s fun t =>
      t.hart.queue = s.hart.queue.erase q ∧ t.hart.runs = s.hart.runs ∧ slotEnded t (some k.val) 7 ∧
      t.outs = s.outs ++ [.access r (Reg.HRT_T_CTL k.val) 0 0]) ∧
  (∀ (r : Requester) (k : Fin 16) (v : Word) (x : HartRun) (s : State), s.judgeWrite r (Reg.HRT_T_CTL k.val) (v ||| 2).toNat = 0 →
    bit (v ||| 2).toNat 0 = false → (∀ q ∈ s.hart.queue, q.slot ≠ some k.val) →
    (s.hart.runs.filter fun x => x.req.slot == some k.val) = [x] →
    Completes (.hartCancel r k v) s fun t =>
      t.hart.queue = s.hart.queue ∧ t.hart.runs = (s.hart.runs.filter fun y => y != x) ∧ slotEnded t (some k.val) 7) ∧
  (∀ (r : Requester) (k : Fin 16) (v : Word) (s : State), s.judgeWrite r (Reg.HRT_T_CTL k.val) (v ||| 2).toNat = 0 →
    bit (v ||| 2).toNat 0 = false →
    Completes (.hartCancel r k v) s fun t =>
      (∀ q ∈ t.hart.queue, q.slot ≠ some k.val) ∧ ∀ x ∈ t.hart.runs, x.req.slot ≠ some k.val)

/-- R264 to R266, R268, R270: a waiting transaction is sent on a free modem in its turn by a unit that acts; its response ends it
with its data, and updates the image from its device; without one for TIMEOUT the request is repeated, and then ends with code 1; one that
waits longer than HRT_WAIT ends with code 2, and those on a failed modem with code 4. -/
def hartExchanges : Prop :=
  (∀ (n : Fin 64) (foreign : Bool) (q : HartReq) (m : Nat) (s : State), s.acts = true → (∀ x ∈ s.hart.runs, x.req.ch ≠ n.val) →
    s.hartMayTalk n.val foreign = true → s.hartTurn n.val = true → m < 16 →
    s.hart.queue.find? (fun q => q.ch == n.val) = some q → s.hartModem n.val = some m →
    Completes (.hartTransactionStart n foreign) s fun t =>
      t.hart.runs = s.hart.runs ++ [{ req := q, modem := m, tries := 1, pool := !s.fgetB (F.HRT_CH_STAT_HELD n.val) }] ∧
      t.hart.queue = s.hart.queue.erase q ∧ t.outs = s.outs ++ [hartFrame s q] ∧
      t.timedAt (.hartSent q.ch) = some s.clk ∧ (∀ k, q.slot = some k → k < 16 → t.fget (F.HRT_T_STAT_STATE k) = 2 ∧ t.fget (F.HRT_T_STAT_TRIES k) = 1) ∧
      (s.fgetB (F.HRT_CH_STAT_HELD n.val) = false → t.fgetB (F.HRT_CH_STAT_BOUND n.val) = true ∧
        t.fget (F.HRT_CH_STAT_MODEM n.val) = m)) ∧
  (∀ (n : Fin 64) (foreign : Bool) (s : State), s.hartMayTalk n.val foreign = false ∨ s.acts = false →
    Completes (.hartTransactionStart n foreign) s fun t =>
      t.hart.runs = s.hart.runs ∧ t.hart.queue = s.hart.queue ∧ t.outs = s.outs ∧ t.regs = s.regs) ∧
  (∀ (n : Fin 64) (rsp : HartRsp) (x : HartRun) (s : State), s.hartRunOn n.val = some x → x.retry = false →
    x.req.answeredBy rsp = true → (∀ k, x.req.slot = some k → k < 16) →
    Completes (.hartResponse n rsp) s fun t =>
      t.hart.runs = (s.hart.runs.filter fun y => y != x) ∧ t.hart.queue = s.hart.queue ∧ slotEnded t x.req.slot 0 ∧
      (∀ k, x.req.slot = some k → t.fget (F.HRT_T_STAT_RLEN k) = Nat.min 112 rsp.data.length ∧
        t.fget (F.HRT_T_RSTAT_DEV_STATUS k) = rsp.devStatus.toNat ∧ t.fget (F.HRT_T_RSTAT_RESP_CODE k) = rsp.respCode.toNat) ∧
      (x.req.cmd = 3 → s.fget (F.HRT_CH_CFG_IMG_ADDR n.val) = x.req.addr →
        (t.hartItem n.val).updated = true ∧ (t.hartItem n.val).time = s.now ∧ (t.hartItem n.val).noResponse = false ∧
        (t.hartItem n.val).status = rsp.devStatus.toNat + rsp.respCode.toNat * 256)) ∧
  (∀ (n : Fin 64) (rsp : HartRsp) (x : HartRun) (s : State), s.hartRunOn n.val = some x → x.req.answeredBy rsp = false →
    Completes (.hartResponse n rsp) s fun t => t = s) ∧
  (∀ (n : Fin 64) (foreign : Bool) (s : State), s.passed (.hartSent n.val) (1000000 * s.fget F.HRT_CFG_TIMEOUT) = false →
    Completes (.hartResponseTimeout n foreign) s fun t =>
      t.hart.runs = s.hart.runs ∧ t.hart.queue = s.hart.queue ∧ t.outs = s.outs ∧ t.regs = s.regs) ∧
  (∀ (n : Fin 64) (slot : Option (Fin 16)) (s : State),
    s.passed (.hartQueued n.val (slot.map (·.val))) (1000000 * s.fget F.HRT_WAIT_WAIT) = false →
    Completes (.hartWaitExpiry n slot) s fun t => t = s) ∧
  (∀ (n : Fin 64) (foreign : Bool) (x : HartRun) (s : State), s.hartRunOn n.val = some x → x.retry = false →
    s.passed (.hartSent n.val) (1000000 * s.fget F.HRT_CFG_TIMEOUT) = true →
    Completes (.hartResponseTimeout n foreign) s fun t =>
      if x.tries ≤ s.fget F.HRT_CFG_RETRIES then
        if s.acts = true ∧ s.hartMayTalk n.val foreign = true then
          t.hart.runs = (s.hart.runs.map fun z => if z = x then { x with tries := x.tries + 1, retry := false } else z) ∧
            t.outs = s.outs ++ [hartFrame s x.req]
        else t.hart.runs = (s.hart.runs.map fun z => if z = x then { x with retry := true } else z) ∧ t.outs = s.outs
      else t.hart.runs = (s.hart.runs.filter fun y => y != x) ∧ t.outs = s.outs ∧ slotEnded t x.req.slot 1) ∧
  (∀ (n : Fin 64) (k : Fin 16) (q : HartReq) (s : State),
    s.hart.queue.find? (fun q => q.ch == n.val && q.slot == some k.val) = some q →
    s.passed (.hartQueued n.val (some k.val)) (1000000 * s.fget F.HRT_WAIT_WAIT) = true →
    Completes (.hartWaitExpiry n (some k)) s fun t =>
      t.hart.queue = s.hart.queue.erase q ∧ slotEnded t (some k.val) 2) ∧
  (∀ (n : Fin 64) (q : HartReq) (s : State), s.hart.queue.find? (fun q => q.ch == n.val && q.slot == none) = some q →
    s.passed (.hartQueued n.val none) (1000000 * s.fget F.HRT_WAIT_WAIT) = true →
    Completes (.hartWaitExpiry n none) s fun t =>
      t.hart.queue = s.hart.queue.erase q ∧ t.fget ⟨Reg.BLK_EVT_RAW 0x81, 1, 1⟩ = 1) ∧
  (∀ (m : Fin 16) (s : State), s.modemFault m.val = false →
    Completes (.hartModemFault m) s fun t =>
      t.modemFault m.val = true ∧ (∀ x ∈ t.hart.runs, x.modem ≠ m.val) ∧ (∀ y ∈ s.hart.runs, y.modem ≠ m.val → y ∈ t.hart.runs) ∧
      (∀ x ∈ s.hart.runs, x.modem = m.val → slotEnded t x.req.slot 4) ∧ t.hart.queue = s.hart.queue ∧
      t.fget ⟨Reg.BLK_EVT_RAW 0x81, 2, 1⟩ = 1)

/-- R260, R266: burst frames of a held channel and its silence of 500 ms are kept; a poll, one per interval, of a unit that acts waits like any transaction, or
ends at once, and without an interval or on a unit that does not act there is none. -/
def hartListening : Prop :=
  (∀ (n : Fin 64) (addr : Fin 16) (cmd rc ds : BitVec 8) (vars : List Word) (s : State), s.heldBound n.val = true →
    Completes (.hartBurstFrame n addr cmd rc ds vars) s fun t =>
      t.fget (F.HRT_CH_STAT_BURSTS n.val) = Nat.min (s.fget (F.HRT_CH_STAT_BURSTS n.val) + 1) 255 ∧
      t.fget ⟨Reg.BLK_EVT_RAW 0x81, 5, 1⟩ = 1 ∧ t.hart.burstEnd = mapSet s.hart.burstEnd n.val s.clk ∧ t.hart.runs = s.hart.runs ∧
      t.hart.silent.contains n.val = false ∧ t.timedAt (.hartFrame n.val) = some s.clk ∧
      (cmd.toNat = 3 → s.fget (F.HRT_CH_CFG_IMG_ADDR n.val) = addr.val →
        (t.hartItem n.val).updated = true ∧ (t.hartItem n.val).time = s.now ∧
        (t.hartItem n.val).status = ds.toNat + rc.toNat * 256)) ∧
  (∀ (n : Fin 64) (s : State), s.fgetB (F.HRT_CH_STAT_HELD n.val) = true → s.hart.silent.contains n.val = false →
    s.periodic (.hartFrame n.val) 500000000 = true →
    Completes (.hartCarrierSilence n) s fun t => t = { s with hart := { s.hart with silent := n.val :: s.hart.silent } }) ∧
  (∀ (n : Fin 64) (q : HartReq) (s : State), s.fget (F.HRT_CH_CFG_POLL n.val) ≠ 0 → s.acts = true →
    s.periodic (.hartPoll n.val) (1000000000 * s.fget (F.HRT_CH_CFG_POLL n.val)) = true →
    q = ⟨none, n.val, s.fget (F.HRT_CH_CFG_IMG_ADDR n.val), 3, false, 0, 0, []⟩ → s.hartRefused q = none →
    Completes (.hartPoll n) s fun t =>
      t.hart.queue = s.hart.queue ++ [q] ∧ t.hart.runs = s.hart.runs ∧ t.regs = s.regs ∧ t.timedAt (.hartPoll n.val) = some s.clk) ∧
  (∀ (n : Fin 64) (s : State), s.periodic (.hartFrame n.val) 500000000 = false → Completes (.hartCarrierSilence n) s fun t => t = s) ∧
  (∀ (n : Fin 64) (s : State), s.fget (F.HRT_CH_CFG_POLL n.val) = 0 ∨ s.acts = false ∨
    s.periodic (.hartPoll n.val) (1000000000 * s.fget (F.HRT_CH_CFG_POLL n.val)) = false →
    Completes (.hartPoll n) s fun t => t = s)

/-- R260 to R270: HART bindings, submissions, exchanges and what a held channel hears.
The model's choices: log entries 6, 33, 34, 35 and 157. -/
def Obligations.HartTransactions : Prop := hartBindings ∧ hartSubmissions ∧ hartExchanges ∧ hartListening

/-! ### The safety island -/

/-- R284 to R287: a detected cause enters LOCKOUT with both latches set, later ones only join the causes, and of those
detected together the lower shows; the record repeats
every 100 ms until it is durable. R283: a hold-off is kept by channel. R278, R281, R282: a cycle starts when it is due; both cores run, and one whose
words agree counts; a difference, a late core or a trap locks out, the lowest cause shown. -/
def islandRuns : Prop :=
  (∀ (cause : Fin 15) (ch : Option (Fin 64)) (s : State), cause.val ≠ 0 →
    (cause.val = 12 → s.owned ≠ [] ∧ s.pwr.fieldOn = false) → s.powerFailing = false → s.islState ≠ isLockout →
    Completes (.lockoutCause cause ch) s fun t =>
      t.islState = isLockout ∧ t.fget F.SAF_STATE_CAUSE = cause.val ∧ t.fget ⟨Reg.SAF_CAUSES, cause.val, 1⟩ = 1 ∧
      t.isl.latchSX = true ∧ t.isl.latchSY = true ∧ t.isl.unconfirmed = true ∧ t.isl.started = false ∧
      t.fget F.SAF_NONCE_NONCE = (s.fget F.SAF_NONCE_NONCE + 1) % 2 ^ 32) ∧
  (∀ (cause : Fin 15) (ch : Option (Fin 64)) (s : State), cause.val ≠ 0 →
    (cause.val = 12 → s.owned ≠ [] ∧ s.pwr.fieldOn = false) → s.powerFailing = false → s.islState = isLockout →
    Completes (.lockoutCause cause ch) s fun t =>
      t.islState = isLockout ∧
      t.fget F.SAF_STATE_CAUSE =
        (if s.together cause.val = true ∧ cause.val < s.fget F.SAF_STATE_CAUSE then cause.val else s.fget F.SAF_STATE_CAUSE) ∧ t.fget ⟨Reg.SAF_CAUSES, cause.val, 1⟩ = 1 ∧
      t.fget ⟨Reg.SAF_CLEARED, cause.val, 1⟩ = (if cause.val = 14 then 1 else 0)) ∧
  (∀ s : State, s.isl.unconfirmed = true → s.islState = isLockout → s.powerFailing = false → recBytes s.evr.island + 52 ≤ islandBytes →
    s.passed .islRecord 100000000 = true →
    Completes .islandRecordRepeat s fun t =>
      t.timedAt .islRecord = some s.clk ∧ (∃ r : EvRec, t.evr.island = s.evr.island ++ [r] ∧ r.typ = 0x10C0 ∧ r.cls = 3) ∧ t.isl = s.isl ∧ t.islState = isLockout) ∧
  (∀ s : State, s.passed .islRecord 100000000 = false → Completes .islandRecordRepeat s fun t => t = s) ∧
  (∀ (n : Fin 64) (s : State), (s.chan n.val).island = true → s.islState = isRun → (∀ e ∈ s.isl.holds, e.1 ≠ n.val) →
    s.chMode n.val = 9 →
    Completes (.islandHoldOff n) s fun t =>
      t.isl.holds = s.isl.holds ++ [(n.val, (false, false))] ∧ t.fget (F.CH_STAT_OVERLOAD n.val) = 1 ∧
      t.fget ⟨Reg.BLK_EVT_RAW 0xC0, 7, 1⟩ = 1) ∧
  (∀ (n : Fin 64) (s : State), (s.chan n.val).island = true → s.islState = isRun → (∀ e ∈ s.isl.holds, e.1 ≠ n.val) →
    s.chMode n.val = 10 → s.fgetB (F.CH_STAT_COMPLIANCE n.val) = true →
    Completes (.islandHoldOff n) s fun t =>
      t.isl.holds = s.isl.holds ++ [(n.val, (!s.fgetB (F.CH_STAT_THERMAL n.val), false))] ∧ t.fget (F.CH_STAT_COMPLIANCE n.val) = 0 ∧
      t.fget (F.CH_STAT_TRIPPED n.val) = 1) ∧
  (∀ (ins : List SafIn) (cleared us : Nat) (s : State), s.cycleDue = false →
    Completes (.safetyCycleStart ins cleared us) s fun t => t = s) ∧
  (∀ (ins : List SafIn) (cleared us : Nat) (r : SafCycle) (s : State), s.cycleDue = true → s.islState = isRun →
    r = s.safCompare ins us → r.late = false → r.trap = false → r.differ = false →
    Completes (.safetyCycleStart ins cleared us) s fun t =>
      t.islState = isRun ∧ t.isl.progs = r.x.progs ∧ t.isl.progsY = r.y.progs ∧ t.isl.wordX = r.wordX ∧ t.isl.wordY = r.wordY ∧
      t.isl.first = false ∧ t.isl.request = false ∧ t.isl.lastStart = some (s.clk, s.now / s.safPeriod) ∧
      t.fget F.SAF_CYC_CNT_COUNT = (s.fget F.SAF_CYC_CNT_COUNT + 1) % 2 ^ 32) ∧
  (∀ (ins : List SafIn) (cleared us : Nat) (r : SafCycle) (s : State), s.cycleDue = true → s.islState = isRun →
    s.powerFailing = false → r = s.safCompare ins us → r.late = true ∨ r.trap = true ∨ r.differ = true →
    Completes (.safetyCycleStart ins cleared us) s fun t =>
      t.islState = isLockout ∧ t.fget F.SAF_STATE_CAUSE = (if r.differ then 1 else if r.late then 2 else 14) ∧
      (r.trap = true → t.fget ⟨Reg.SAF_CAUSES, 14, 1⟩ = 1) ∧ (r.differ = true → t.fget ⟨Reg.SAF_CAUSES, 1, 1⟩ = 1) ∧
      t.fget F.SAF_CYC_CNT_COUNT = s.fget F.SAF_CYC_CNT_COUNT)

/-- R275, R288 to R291: a pulse of 0.5 to 5 s requests a reset in LOCKOUT and is passed to the programs in RUN; a signed
command counts the nonce and is refused unless it is good; a request whose causes are cleared runs the self-test, whose pass
is recorded, and the durable record ends LOCKOUT in SAFE-OFF; a failure, or a record not durable after 1 s, refuses it. -/
def islandResets : Prop :=
  (∀ (ms : Nat) (s : State), ms < 500 ∨ 5000 < ms →
    Completes (.safeRstPulse ms) s fun t =>
      t.fget F.SAF_RESET_RES_CODE = 6 ∧ t.fget F.SAF_RESET_RES_SOURCE = 1 ∧ t.isl = s.isl ∧ t.islState = s.islState) ∧
  (∀ (ms : Nat) (s : State), 500 ≤ ms → ms ≤ 5000 → s.islState = isRun →
    Completes (.safeRstPulse ms) s fun t => t = { s with isl := { s.isl with request := true } }) ∧
  (∀ (ms : Nat) (cfg : SafCfg) (s : State), 500 ≤ ms → ms ≤ 5000 → s.islState = isSafeOff → s.safCfg = some cfg → cfg.startMode = 1 →
    s.pwr.completed = true →
    Completes (.safeRstPulse ms) s fun t =>
      t.isl = { s.isl with started := true } ∧ t.fget F.SAF_RESET_RES_CODE = 0 ∧ t.fget F.SAF_RESET_RES_SOURCE = 1 ∧
      t.islState = isSafeOff) ∧
  (∀ (ms : Nat) (s : State), 500 ≤ ms → ms ≤ 5000 → s.islState = isLockout → s.isl.phase = .none →
    (∀ c, c < 15 → bit (s.regN Reg.SAF_CAUSES) c = true → c ∈ testCauses ∨ bit (s.regN Reg.SAF_CLEARED) c = true) →
    Completes (.safeRstPulse ms) s fun t =>
      t.isl = { s.isl with phase := .selfTest, source := 1 } ∧ t.fget F.SAF_TEST_RESULT = 1 ∧ t.islState = isLockout) ∧
  (∀ (session serial : Nat) (nonce : Word) (sig : List Word) (s : State), s.signedFrom session = true →
    s.signedOk 1 serial nonce.toNat sig = false →
    Completes (.signedReset session serial nonce sig) s fun t =>
      t.fget F.SAF_RESET_RES_CODE = 4 ∧ t.fget F.SAF_RESET_RES_SOURCE = 2 ∧ t.isl = s.isl ∧
      t.fget F.SAF_NONCE_NONCE = (s.fget F.SAF_NONCE_NONCE + 1) % 2 ^ 32) ∧
  (∀ (session serial : Nat) (nonce : Word) (sig : List Word) (s : State), s.signedFrom session = true →
    s.signedOk 1 serial nonce.toNat sig = true → nonce.toNat = s.fget F.SAF_NONCE_NONCE → s.islState = isLockout → s.isl.phase = .none →
    (∀ c, c < 15 → bit (s.regN Reg.SAF_CAUSES) c = true → c ∈ testCauses ∨ bit (s.regN Reg.SAF_CLEARED) c = true) →
    Completes (.signedReset session serial nonce sig) s fun t =>
      t.isl = { s.isl with phase := .selfTest, source := 2 } ∧ t.fget F.SAF_NONCE_NONCE = (s.fget F.SAF_NONCE_NONCE + 1) % 2 ^ 32) ∧
  (∀ (session serial : Nat) (nonce : Word) (sig : List Word) (cfg : SafCfg) (s : State), s.signedFrom session = true →
    s.safCfg = some cfg → cfg.startMode ≠ 0 → s.islState = isSafeOff → s.pwr.completed = true →
    s.signedOk 2 serial nonce.toNat sig = true → nonce.toNat = s.fget F.SAF_NONCE_NONCE →
    Completes (.signedStart session serial nonce sig) s fun t =>
      t.isl = { s.isl with started := true } ∧ t.fget F.SAF_RESET_RES_CODE = 0 ∧ t.islState = isSafeOff) ∧
  (∀ (session serial : Nat) (nonce : Word) (sig : List Word) (s : State), s.signedFrom session = true → s.safCfg = none →
    Completes (.signedStart session serial nonce sig) s fun t => t.fget F.SAF_RESET_RES_CODE = 8 ∧ t.isl = s.isl) ∧
  (∀ s : State, s.isl.phase = .selfTest →
    Completes (.resetSelftestComplete 0) s fun t =>
      t.isl = { s.isl with phase := .recording } ∧ t.timedAt .resetRecord = some s.clk ∧ t.fget F.SAF_TEST_RESULT = 2 ∧ t.islState = s.islState) ∧
  (∀ (fail : Nat) (s : State), s.isl.phase = .selfTest → fail % 65536 ≠ 0 →
    Completes (.resetSelftestComplete fail) s fun t =>
      t.isl = { s.isl with phase := .none } ∧ t.fget F.SAF_TEST_RESULT = 3 ∧ t.fget F.SAF_RESET_RES_CODE = 3 ∧ t.islState = s.islState) ∧
  (∀ s : State, s.ssp.stall = true → Completes .resetRecordDurable s fun t => t = s) ∧
  (∀ s : State, s.passed .resetRecord 1000000000 = false → Completes .resetRecordTimeout s fun t => t = s) ∧
  (∀ s : State, s.isl.phase = .recording → s.ssp.stall = false →
    Completes .resetRecordDurable s fun t =>
      t.islState = isSafeOff ∧ t.isl.latchSX = false ∧ t.isl.latchSY = false ∧ t.isl.started = true ∧ t.isl.phase = .none ∧
      t.regN Reg.SAF_CAUSES = 0 ∧ t.fget F.SAF_RESET_RES_CODE = 0) ∧
  (∀ s : State, s.isl.phase = .recording → s.passed .resetRecord 1000000000 = true →
    Completes .resetRecordTimeout s fun t =>
      t.isl = { s.isl with phase := .none } ∧ t.fget F.SAF_RESET_RES_CODE = 7 ∧ t.islState = s.islState)

/-- The safety island: lock-out, cycle, hold-off, reset and start (R272 to R291).
The model's choices: log entries 6, 11, 57, 58, 59, 169, 170, 195 and 208. -/
def Obligations.SafetyIsland : Prop := islandRuns ∧ islandResets



/-! ### Station link -/

/-- R306, R308 to R311, R313, R320: a trigger instant opens the segment's cycle with its SEQ, once, and the stations that
answered READY are in its frames; the cycle that has not committed by the send deadline leaves with held values and is
counted; 5 µs before the next trigger, at the end of the window, the next SEQ is due, and a station that is owed a frame and was not heard goes DOWN. -/
def linkCycles : Prop :=
  (∀ (k : Fin 2) (s : State), s.fgetB (F.LNK_SEG_CFG_VALID k.val) = true → s.lnkOff = false → s.lnkDue k.val = true →
    Completes (.linkCycle k) s fun t =>
      (t.lnkSeg k.val).isOpen = true ∧ (t.lnkSeg k.val).seq = s.lnkSeqOf (s.lnkCfg.ctx k.val) ∧ (t.lnkSeg k.val).t0 = s.now ∧
      (t.lnkSeg k.val).nextT = s.lnkNext (s.lnkCfg.ctx k.val) s.now ∧ (t.lnkSeg k.val).ended = false ∧
      ((s.lnkSeg k.val).ended = true → (t.lnkSeg k.val).endT = s.lnkNext (s.lnkCfg.ctx k.val) s.now - 5000) ∧
      (t.lnkSeg k.val).sent = false ∧ (t.lnkSeg k.val).backA = false ∧ (t.lnkSeg k.val).backB = false ∧
      (t.lnkSeg k.val).due = (if (s.lnkSeg k.val).ended = true then low 32 (s.lnkSeqOf (s.lnkCfg.ctx k.val) + 1) else (s.lnkSeg k.val).due) ∧
      (∀ e ∈ s.lnkCfg.seg k.val, (t.lnkSt e.addr).sending = (s.lnkSt e.addr).joined ∧ (t.lnkSt e.addr).ready = false) ∧
      t.outs = s.outs ∧ ((s.lnkSeg k.val).ended = true → t.regs = s.regs)) ∧
  (∀ (k : Fin 2) (s : State), s.fgetB (F.LNK_SEG_CFG_VALID k.val) = false ∨ s.lnkOff = true ∨ s.lnkDue k.val = false →
    Completes (.linkCycle k) s fun t => t = s) ∧
  (∀ (k : Fin 2) (s : State), (s.lnkSeg k.val).isOpen = true → s.lnkOff = false → s.lnkMute = false ∨ s.lnkSyncOnly = true →
    (s.lnkSeg k.val).t0 + s.lnkCfg.applyOfs k.val ≤ s.now + s.lnkCfg.tOut k.val + s.regN (Reg.LNK_SEG_D k.val) + 2000 →
    Completes (.linkSendDeadline k) s fun t =>
      (t.lnkSeg k.val).isOpen = false ∧ (t.lnkSeg k.val).sent = true ∧
      t.regN (Reg.LNK_SEG_SEQ k.val) = low 32 (s.lnkSeg k.val).seq ∧
      (t.lnkSeg k.val).nextT =
        (if s.trigOf (s.lnkCfg.ctx k.val) = 1 then (s.lnkSeg k.val).nextT else s.lnkNext (s.lnkCfg.ctx k.val) s.now) ∧
      if s.lnkSyncOnly = true then t.fget F.LNK_HELD_CNT_COUNT = s.fget F.LNK_HELD_CNT_COUNT
      else t.fget F.LNK_HELD_CNT_COUNT = Nat.min (s.fget F.LNK_HELD_CNT_COUNT + 1) (2 ^ 32 - 1) ∧
        t.fget ⟨Reg.BLK_EVT_RAW 0xA8, 6, 1⟩ = 1) ∧
  (∀ (k : Fin 2) (s : State), (s.lnkSeg k.val).isOpen = false ∨ s.lnkOff = true ∨
      s.now + s.lnkCfg.tOut k.val + s.regN (Reg.LNK_SEG_D k.val) + 2000 < (s.lnkSeg k.val).t0 + s.lnkCfg.applyOfs k.val →
    Completes (.linkSendDeadline k) s fun t => t = s) ∧
  (∀ (k : Fin 2) (s : State), s.fgetB (F.LNK_SEG_CFG_VALID k.val) = true →
    (∀ e ∈ s.lnkCfg.stations, 1 ≤ e.addr ∧ e.addr ≤ 128) → (s.lnkSeg k.val).endT ≤ s.now →
    Completes (.linkWindowEnd k) s fun t =>
      (if (s.lnkSeg k.val).ended = false ∧ (s.lnkSeg k.val).due ≠ low 32 ((s.lnkSeg k.val).seq + 1) then
        (t.lnkSeg k.val).due = low 32 ((s.lnkSeg k.val).seq + 1) ∧ (t.lnkSeg k.val).ended = false ∧
        (t.lnkSeg k.val).endT = (s.lnkSeg k.val).nextT - 5000
       else (t.lnkSeg k.val).due = low 32 ((s.lnkSeg k.val).due + 1) ∧ (t.lnkSeg k.val).ended = true ∧
        (t.lnkSeg k.val).endT = (s.lnkSeg k.val).endT + ((s.lnkSeg k.val).nextT - (s.lnkSeg k.val).t0)) ∧
      ∀ e ∈ s.lnkCfg.seg k.val, (t.lnkSt e.addr).got = false ∧
        (s.lsState e.addr = lsUp ∨ (s.lsState e.addr = lsJoining ∧ 2 ≤ (s.lnkSt e.addr).fed) → (s.lnkSt e.addr).got = false →
          (s.lnkSeg k.val).stepCycle = false → t.lsState e.addr = lsDown)) ∧
  (∀ (k : Fin 2) (s : State), s.now < (s.lnkSeg k.val).endT → Completes (.linkWindowEnd k) s fun t => t = s)

/-- R303, R305, R300, R296: an IN frame that meets its conditions gives the station's data, any other is counted against the
address it names or as stray; an OUT frame that returns in a ring shows that the ring is closed; a port's link is shown. -/
def linkFrames : Prop :=
  (∀ (f : LinkIn) (s : State), s.lnkCfg.unused f.portB = true → Completes (.linkInFrame f) s fun t => t = s) ∧
  (∀ (f : LinkIn) (s : State), s.lnkCfg.unused f.portB = false → s.lnkCfg.entry f.src = none →
    Completes (.linkInFrame f) s fun t =>
      t.lnk = s.lnk ∧
      if stationAddr f.src = true then
        t.fget (F.LNK_ST_CNT_REFUSED f.src) = Nat.min (s.fget (F.LNK_ST_CNT_REFUSED f.src) + 1) (2 ^ 16 - 1) ∧
        t.fget F.LNK_STRAY_CNT_COUNT = s.fget F.LNK_STRAY_CNT_COUNT
      else t.fget F.LNK_STRAY_CNT_COUNT = Nat.min (s.fget F.LNK_STRAY_CNT_COUNT + 1) (2 ^ 32 - 1) ∧
        t.fget ⟨Reg.BLK_EVT_RAW 0xA8, 7, 1⟩ = 1) ∧
  (∀ (f : LinkIn) (e : LnkEntry) (s : State), s.lnkCfg.unused f.portB = false → 1 ≤ f.src → f.src ≤ 128 →
    s.lnkCfg.entry f.src = some e → s.lnkInOk f e = false →
    Completes (.linkInFrame f) s fun t =>
      t.fget (F.LNK_ST_CNT_REFUSED f.src) = Nat.min (s.fget (F.LNK_ST_CNT_REFUSED f.src) + 1) (2 ^ 16 - 1) ∧ t.lnk = s.lnk) ∧
  (∀ (f : LinkIn) (e : LnkEntry) (s : State), 1 ≤ f.src → f.src ≤ 128 →
    s.lnkCfg.entry f.src = some e → s.lnkInOk f e = true → (s.lnkSt f.src).got = false →
    Completes (.linkInFrame f) s fun t =>
      (t.lnkSt f.src).got = true ∧ (t.lnkSt f.src).valued = true ∧ (t.lnkSt f.src).data = f.data ∧
      (t.lnkSt f.src).status = f.status ∧ (t.lnkSt f.src).claim = f.claim ∧ t.lnk.segs = s.lnk.segs ∧ t.lnk.cfg = s.lnk.cfg ∧
      (t.lnkSt f.src).good =
        (if bit f.status 0 = true ∧ s.lsState f.src = lsDown then 0 else (s.lnkSt f.src).good + 1)) ∧
  (∀ (f : LinkIn) (e : LnkEntry) (s : State), 1 ≤ f.src → f.src ≤ 128 →
    s.lnkCfg.entry f.src = some e → s.lnkInOk f e = true → (s.lnkSt f.src).got = true →
    Completes (.linkInFrame f) s fun t =>
      (t.lnkSt f.src).data = (s.lnkSt f.src).data ∧ (t.lnkSt f.src).status = (s.lnkSt f.src).status ∧
      (t.lnkSt f.src).claim = (s.lnkSt f.src).claim ∧ (t.lnkSt f.src).good = (s.lnkSt f.src).good) ∧
  (∀ (portB fcsBad : Bool) (s : State),
    Completes (.linkStrayFrame portB fcsBad) s fun t =>
      t.lnk = s.lnk ∧
      if fcsBad = true then
        t.fget (if portB then F.LNK_FCS_B_COUNT else F.LNK_FCS_A_COUNT) =
          Nat.min (s.fget (if portB then F.LNK_FCS_B_COUNT else F.LNK_FCS_A_COUNT) + 1) (2 ^ 32 - 1) ∧
        t.fget F.LNK_STRAY_CNT_COUNT = s.fget F.LNK_STRAY_CNT_COUNT
      else t.fget F.LNK_STRAY_CNT_COUNT = Nat.min (s.fget F.LNK_STRAY_CNT_COUNT + 1) (2 ^ 32 - 1) ∧
        t.fget ⟨Reg.BLK_EVT_RAW 0xA8, 7, 1⟩ = 1) ∧
  (∀ (portB : Bool) (s : State),
    Completes (.linkOutFrameReturn portB) s fun t =>
      t.regs = s.regs ∧
      if s.lnkCfg.topo = 1 then
        (if portB then (t.lnkSeg 0).backB else (t.lnkSeg 0).backA) = true ∧
        (if portB then (t.lnkSeg 0).backA = (s.lnkSeg 0).backA else (t.lnkSeg 0).backB = (s.lnkSeg 0).backB)
      else t.lnk = s.lnk) ∧
  (∀ (portB : Bool) (s : State), s.fgetB (if portB then F.LNK_STAT_LINK_B else F.LNK_STAT_LINK_A) = true →
    (∀ e ∈ s.lnkCfg.stations, 1 ≤ e.addr ∧ e.addr ≤ 128) →
    Completes (.linkPortLost portB) s fun t =>
      t.fgetB (if portB then F.LNK_STAT_LINK_B else F.LNK_STAT_LINK_A) = false ∧ t.fget ⟨Reg.BLK_EVT_RAW 0xA8, 5, 1⟩ = 1 ∧
      t.fget F.LNK_STAT_RING = s.fget F.LNK_STAT_RING ∧
      ∀ e ∈ s.lnkCfg.stations, t.fget (lnkDelayField portB e.addr) = 0) ∧
  (∀ (portB : Bool) (s : State), s.fgetB (if portB then F.LNK_STAT_LINK_B else F.LNK_STAT_LINK_A) = false →
    Completes (.linkPortLost portB) s fun t => t = s) ∧
  (∀ (portB : Bool) (s : State),
    Completes (.linkPortLinkUp portB) s fun t =>
      t.fgetB (if portB then F.LNK_STAT_LINK_B else F.LNK_STAT_LINK_A) = true ∧ ∀ o, o ≠ Reg.LNK_STAT → t.reg o = s.reg o)

/-- The station link from its trigger to the end of the window.
The model's choices: log entries 6, 36, 141, 173, 190, 191, 192 and 193. -/
def Obligations.LinkCyclesAndFrames : Prop := linkCycles ∧ linkFrames

/-- R312 to R315, R317, R320: a HELLO is refused with the lowest code that applies or is owed a CONFIG; a READY joins the
station where the cycle still fits, and is refused with code 6 where it does not; DROP and ADMIT put a station out and back.
The model's choices: log entries 36, 37 and 194. -/
def Obligations.LinkJoins : Prop :=
  (∀ (h : LinkHello) (s : State), s.lnkCfg.unused h.portB = true → Completes (.hello h) s fun t => t = s) ∧
  (∀ (h : LinkHello) (s : State), s.lnkCfg.unused h.portB = false → s.lnkCfg.entry h.addr = none →
    Completes (.hello h) s fun t =>
      t.fget F.LNK_STRAY_CNT_COUNT = Nat.min (s.fget F.LNK_STRAY_CNT_COUNT + 1) (2 ^ 32 - 1) ∧
      t.fget ⟨Reg.BLK_EVT_RAW 0xA8, 2, 1⟩ = 1 ∧ t.fget ⟨Reg.BLK_EVT_RAW 0xA8, 7, 1⟩ = 1 ∧
      (stationAddr h.addr = true → t.fget (F.LNK_ST_STATE_CODE h.addr) = 1) ∧
      t.lnk.answers = s.lnk.answers ++ [⟨s.lnkCfg.segOf h.portB, h.addr, 1, 0, h.mac, h.portB⟩] ∧ t.lnk.stations = s.lnk.stations) ∧
  (∀ (h : LinkHello) (e : LnkEntry) (code : Nat) (s : State), s.lnkCfg.unused h.portB = false → 1 ≤ h.addr → h.addr ≤ 128 →
    s.lnkCfg.entry h.addr = some e →
    code = (if e.seg = s.lnkCfg.segOf h.portB then s.helloCode h e else 1) → code ≠ 0 →
    Completes (.hello h) s fun t =>
      t.fget (F.LNK_ST_STATE_CODE h.addr) = code ∧ t.fget ⟨Reg.BLK_EVT_RAW 0xA8, 2, 1⟩ = 1 ∧
      t.fget F.LNK_STRAY_CNT_COUNT =
        (if code = 1 then Nat.min (s.fget F.LNK_STRAY_CNT_COUNT + 1) (2 ^ 32 - 1) else s.fget F.LNK_STRAY_CNT_COUNT) ∧
      t.lnk.answers = s.lnk.answers ++ [⟨s.lnkCfg.segOf h.portB, h.addr, code, 0, h.mac, h.portB⟩] ∧
      (if code = 7 then t.lsState h.addr = s.lsState h.addr ∧ t.lnk.stations = s.lnk.stations
       else (t.lnkSt h.addr).sending = false ∧ (t.lnkSt h.addr).ready = false ∧
         t.lsState h.addr = (if s.lsState h.addr = lsDropped then lsDropped else lsRefused))) ∧
  (∀ (h : LinkHello) (e : LnkEntry) (s : State), s.lnkCfg.unused h.portB = false → 1 ≤ h.addr → h.addr ≤ 128 →
    s.lnkCfg.entry h.addr = some e → e.seg = s.lnkCfg.segOf h.portB → s.helloCode h e = 0 →
    Completes (.hello h) s fun t =>
      t.fget (F.LNK_ST_STATE_VER h.addr) = Nat.min h.verMax e.ver ∧ t.fget (F.LNK_ST_STATE_CODE h.addr) = 0 ∧
      t.lnkSt h.addr = { src := some h.mac } ∧
      t.lnk.answers = s.lnk.answers ++ [⟨s.lnkCfg.segOf h.portB, h.addr, 0, Nat.min h.verMax e.ver, h.mac, h.portB⟩] ∧
      t.lsState h.addr = (if s.lsState h.addr = lsUp then lsDown else s.lsState h.addr)) ∧
  (∀ (portB : Bool) (addr mac turn res arrival : Nat) (e : LnkEntry) (d : Int) (s : State), s.lnkCfg.unused portB = false →
    1 ≤ addr → addr ≤ 128 →
    s.lnkCfg.entry addr = some e → e.seg ≤ 1 → (s.lnkSt addr).src = some mac → (s.lnkSt addr).cfgSent ≠ 0 →
    (s.lnkSt addr).joined = false → s.lsState addr ≠ lsDropped →
    d = (((arrival : Int) - ((s.lnkSt addr).cfgSent : Int)) * 256 - (turn : Int) - (res : Int)) / 2 →
    Completes (.ready portB addr mac turn res arrival) s fun t =>
      (t.lnkSt addr).sending = false ∧
      if s.lnkFitsNow e.seg (Nat.max (s.regN (Reg.LNK_SEG_D e.seg)) (d.toNat / 256)) = true then
        t.lsState addr = lsJoining ∧ (t.lnkSt addr).ready = true ∧
        (if portB then (t.lnkSt addr).delayB else (t.lnkSt addr).delayA) = [d] ∧ (t.lnkSt addr).fed = 0 ∧
        (t.lnkSt addr).good = 0 ∧ (t.lnkSt addr).valued = false
      else (t.lnkSt addr).ready = false ∧ t.fget (F.LNK_ST_STATE_CODE addr) = 6 ∧ t.lsState addr = lsRefused ∧
        t.lnk.answers = s.lnk.answers ++ [⟨e.seg, addr, 6, s.fget (F.LNK_ST_STATE_VER addr), mac, portB⟩]) ∧
  (∀ (portB : Bool) (addr mac turn res arrival : Nat) (s : State),
    s.lnkCfg.unused portB = true ∨ s.lnkCfg.entry addr = none ∨ (s.lnkSt addr).src ≠ some mac ∨ (s.lnkSt addr).cfgSent = 0 ∨
      (s.lnkSt addr).joined = true ∨ s.lsState addr = lsDropped →
    Completes (.ready portB addr mac turn res arrival) s fun t => t = s) ∧
  (∀ (r : Requester) (addr : Nat) (s : State), 1 ≤ addr → addr ≤ 128 → s.judgeWrite r Reg.LNK_CMD (addr * 256 + 1) = 0 →
    Completes (.linkDrop r addr) s fun t =>
      t.outs = s.outs ++ [.access r Reg.LNK_CMD 0 0] ∧ t.fget ⟨Reg.BLK_EVT_RAW 0xA8, 8, 1⟩ = 1 ∧
      if (s.lnkCfg.entry addr).isNone = true then t.fget F.LNK_CMD_RES_CODE = 1 ∧ t.lnk = s.lnk
      else t.fget F.LNK_CMD_RES_CODE = 0 ∧ t.lsState addr = lsDropped ∧ t.fget (F.LNK_ST_STATE_CODE addr) = 8 ∧
        (t.lnkSt addr).sending = false ∧ (t.lnkSt addr).ready = false) ∧
  (∀ (r : Requester) (addr : Nat) (s : State), 1 ≤ addr → addr ≤ 128 → s.judgeWrite r Reg.LNK_CMD (addr * 256 + 2) = 0 →
    Completes (.linkAdmit r addr) s fun t =>
      t.outs = s.outs ++ [.access r Reg.LNK_CMD 0 0] ∧ t.fget ⟨Reg.BLK_EVT_RAW 0xA8, 8, 1⟩ = 1 ∧
      if (s.lnkCfg.entry addr).isNone = true then t.fget F.LNK_CMD_RES_CODE = 1 ∧ t.lnk = s.lnk
      else t.fget F.LNK_CMD_RES_CODE = 0 ∧
        if s.lsState addr = lsDropped then t.lsState addr = lsAbsent ∧ t.lnkSt addr = {}
        else t.lsState addr = s.lsState addr ∧ t.lnk = s.lnk)

/-! ### Plant network -/

/-- What a frame sent on both LANs under sequence number `n` puts on the linked ports. -/
def lansAs (s : State) (n : Nat) (kind : String) (ws : List Nat) : List Out :=
  (if s.netLink false then [.frame .netA kind (n :: ws)] else []) ++
    if s.netLink true then [.frame .netB kind (n :: ws)] else []

/-- What the next frame sent on both LANs puts on the linked ports. -/
def bothLans (s : State) (kind : String) (ws : List Nat) : List Out := lansAs s s.net.prpSeq kind ws

/-- R324: an echo reply leaves for the source itself inside the subnet, else for the gateway. -/
def echoHop (s : State) (src : Nat) : Nat :=
  if src &&& nth 0 s.net.ip 1 = nth 0 s.net.ip 0 &&& nth 0 s.net.ip 1 then src else nth 0 s.net.ip 2

/-- R322 to R324, R338: the first copy of a frame is passed up, the second is discarded and counted; what the node sends leaves
on both linked ports under one sequence number, a supervision frame every SUP_INTV; IP settings take effect 1 s after their page
has locked; a node is forgotten once it has been silent for FORGET.
The model's choices: log entries 6, 104, 196 and 198. -/
def Obligations.PlantFrames : Prop :=
  (∀ (f : PrpRx) (s : State), s.powered = true → s.netLink f.portB = true → f.vlan.getD 0 ≠ 0 →
    Completes (.prpFrameRx f) s fun t =>
      t.fget (if f.portB then F.PRP_WRONG_B_COUNT else F.PRP_WRONG_A_COUNT) =
        Nat.min (s.fget (if f.portB then F.PRP_WRONG_B_COUNT else F.PRP_WRONG_A_COUNT) + 1) (2 ^ 32 - 1) ∧ t.outs = s.outs) ∧
  (∀ (f : PrpRx) (seq : Nat) (lanB : Bool) (s : State), s.powered = true → s.netLink f.portB = true → f.vlan.getD 0 = 0 →
    f.rct = some (seq, lanB) → s.net.nodes.any (fun e => e.1 == f.src) = true ∨ s.net.nodes.length < 512 →
    Completes (.prpFrameRx f) s fun t =>
      t.fget (if f.portB then F.PRP_RX_B_COUNT else F.PRP_RX_A_COUNT) =
        Nat.min (s.fget (if f.portB then F.PRP_RX_B_COUNT else F.PRP_RX_A_COUNT) + 1) (2 ^ 32 - 1) ∧
      (lanB ≠ f.portB → t.fget ⟨Reg.BLK_EVT_RAW 0xA1, 4, 1⟩ = 1 ∧
        t.fget (if f.portB then F.PRP_WRONG_B_COUNT else F.PRP_WRONG_A_COUNT) =
          Nat.min (s.fget (if f.portB then F.PRP_WRONG_B_COUNT else F.PRP_WRONG_A_COUNT) + 1) (2 ^ 32 - 1)) ∧
      t.net.nodes = mapSet s.net.nodes f.src s.clk ∧
      if s.net.seen.any (fun e => e.mac == f.src && e.seq == seq) = true then
        t.outs = s.outs ∧ t.fget F.PRP_DUP_CNT_COUNT = Nat.min (s.fget F.PRP_DUP_CNT_COUNT + 1) (2 ^ 32 - 1) ∧
        t.net.seen = s.net.seen.map (fun e => if e.mac = f.src ∧ e.seq = seq then { e with twice := true } else e)
      else
        t.net.seen = s.net.seen ++ [⟨f.src, seq, f.portB, s.clk, false⟩] ∧
        t.fget F.PRP_DUP_CNT_COUNT = s.fget F.PRP_DUP_CNT_COUNT ∧
        if f.frag = true then t.outs = s.outs ∧ t.fget F.NET_FRAG_CNT_COUNT = Nat.min (s.fget F.NET_FRAG_CNT_COUNT + 1) (2 ^ 32 - 1)
        else t.outs = s.outs ++ [.frame .net "received" [f.src]]) ∧
  (∀ (f : PrpRx) (s : State), s.powered = true → s.netLink f.portB = true → f.vlan.getD 0 = 0 → f.frag = false →
    s.net.nodes.any (fun e => e.1 == f.src) = false → 512 ≤ s.net.nodes.length →
    Completes (.prpFrameRx f) s fun t =>
      t.net.nodes = s.net.nodes ∧ t.net.untracked = s.net.untracked + 1 ∧ t.net.seen = s.net.seen ∧
      t.fget ⟨Reg.BLK_EVT_RAW 0xA1, 5, 1⟩ = 1 ∧ t.outs = s.outs ++ [.frame .net "received" [f.src]]) ∧
  (∀ s : State, s.periodic .supervision (1000000 * s.fget F.PRP_CFG_SUP_INTV) = false →
    Completes .prpSupervisionTx s fun t => t = s) ∧
  (∀ s : State, s.powered = true → s.periodic .supervision (1000000 * s.fget F.PRP_CFG_SUP_INTV) = true →
    Completes .prpSupervisionTx s fun t =>
      t.timedAt .supervision = some s.clk ∧ t.outs = s.outs ++ bothLans s "PRP supervision" [s.mac] ∧ t.net.prpSeq = low 16 (s.net.prpSeq + 1) ∧ t.regs = s.regs) ∧
  (∀ (mac : Nat) (s : State), s.prpForgotten mac = false → Completes (.prpNodeForget mac) s fun t => t = s) ∧
  (∀ (mac : Nat) (s : State), s.prpForgotten mac = true →
    Completes (.prpNodeForget mac) s fun t =>
      t.net.nodes = mapErase s.net.nodes mac ∧ t.fget F.PRP_STAT_NODES = low 10 (mapErase s.net.nodes mac).length ∧
      t.net.seen = s.net.seen ∧ ∀ o, o ≠ Reg.PRP_STAT → t.reg o = s.reg o) ∧
  (∀ (dst src data : Nat) (s : State), s.powered = true → s.fgetB F.NET_CFG_PING_EN = true → dst = nth 0 s.net.ip 0 →
    s.net.arp.contains (echoHop s src) = true →
    Completes (.icmpEcho dst src data) s fun t =>
      t.outs = s.outs ++ bothLans s "ICMP echo reply" [echoHop s src, src, data] ∧
      t.net.prpSeq = low 16 (s.net.prpSeq + 1) ∧ t.regs = s.regs) ∧
  (∀ (dst src data : Nat) (s : State), s.powered = true → s.fgetB F.NET_CFG_PING_EN = true → dst = nth 0 s.net.ip 0 →
    s.net.arp.contains (echoHop s src) = false →
    Completes (.icmpEcho dst src data) s fun t =>
      t.outs = s.outs ++ bothLans s "ARP request" [echoHop s src, dst, s.mac] ++
        lansAs s (low 16 (s.net.prpSeq + 1)) "ICMP echo reply" [echoHop s src, src, data] ∧
      t.net.arp = echoHop s src :: s.net.arp ∧ t.regs = s.regs) ∧
  (∀ (dst src data : Nat) (s : State), s.fgetB F.NET_CFG_PING_EN = false ∨ dst ≠ nth 0 s.net.ip 0 →
    Completes (.icmpEcho dst src data) s fun t => t.outs = s.outs ∧ t.regs = s.regs) ∧
  (∀ (target sender : Nat) (s : State), s.powered = true → target = nth 0 s.net.ip 0 →
    Completes (.arpRequest target sender) s fun t =>
      t.outs = s.outs ++ bothLans s "ARP reply" [sender, target, s.mac] ∧ t.net.prpSeq = low 16 (s.net.prpSeq + 1) ∧
      t.regs = s.regs) ∧
  (∀ s : State, s.passed .netLocked 1000000000 = false → Completes .ipSettingsTakeEffect s fun t => t = s) ∧
  (∀ s : State, s.net.ipWritten = true → s.pageLocked 0xA0 = true → s.passed .netLocked 1000000000 = true →
    Completes .ipSettingsTakeEffect s fun t =>
      t.net.ip = [s.regN Reg.NET_IP_ADDR, s.regN Reg.NET_IP_MASK, s.regN Reg.NET_IP_GW] ∧ t.net.ipWritten = false ∧
      t.net.arp = [] ∧ t.regs = s.regs) ∧
  (∀ (portB up : Bool) (s : State), s.powered = true → s.netLink portB ≠ up →
    Completes (.netPortLink portB up) s fun t =>
      t.netLink portB = up ∧ t.netLink (!portB) = s.netLink (!portB) ∧
      t.fget ⟨Reg.BLK_EVT_RAW 0xA1, (if up then 2 else 0) + (if portB then 1 else 0), 1⟩ = 1)

/-- R325, R328: what stands before a PTP message's own words: over UDP 0, the group, the port and the checksum 0; over IEEE
802.3 1, the destination, the EtherType and 1 for the FCS recomputed; then the domain. -/
def ptpHead (s : State) (event peer : Bool) : List Nat :=
  if s.fget F.PTP_CFG_TRANSPORT = 0 then
    [0, if peer = true then 0xE000006B else 0xE0000181, if event = true then 319 else 320, 0, s.fget F.PTP_CFG_DOMAIN]
  else [1, if peer = true then 0x0180C200000E else 0x011B19000000, 0x88F7, 1, s.fget F.PTP_CFG_DOMAIN]

/-- R339: the interval of a port's delay requests, and of a master's Announce or Sync. -/
def delayEvery (s : State) : Nat :=
  logInterval (s.fget (if s.fgetB F.PTP_CFG_DELAY then F.PTP_INTV_LOG_PDREQ else F.PTP_INTV_LOG_DREQ))

def masterTimer (portB announce : Bool) : Timer := if announce then .announceTx portB else .syncTx portB

def masterEvery (s : State) (announce : Bool) : Nat :=
  logInterval (s.fget (if announce then F.PTP_INTV_LOG_ANN else F.PTP_INTV_LOG_SYNC))

/-- R325 to R329: a port takes the best master it hears and loses it after ANN_TO intervals without its Announce; a Sync gives the offset, at once or with
its Follow_Up; the path delay follows from the four times; requests are answered, and a leading node sends as master; requests and a master's messages leave at their intervals.
The model's choices: log entries 6, 105, 106, 107, 108, 197 and 205. -/
def Obligations.PtpMessages : Prop :=
  (∀ (portB : Bool) (domain : Nat) (set : PtpSet) (utc : Nat) (v : Bool) (s : State), s.ptpHears portB domain = true →
    set.sender ≠ Config.clockIdentity s.mac →
    Completes (.ptpAnnounceRx portB domain set utc v) s fun t =>
      ((t.ptpPort portB).master = some set → t.timedAt (.announceRx portB) = some s.clk) ∧
      (t.ptpPort portB).master =
        (match (s.ptpPort portB).master with
         | none => some set
         | some m => if m.sender = set.sender ∨ set.beats m = true then some set else some m)) ∧
  (∀ (portB : Bool) (domain : Nat) (set : PtpSet) (utc : Nat) (v : Bool) (s : State),
    s.ptpHears portB domain = false ∨ set.sender = Config.clockIdentity s.mac →
    Completes (.ptpAnnounceRx portB domain set utc v) s fun t => t.net = s.net ∧ t.regs = s.regs ∧ t.outs = s.outs) ∧
  (∀ (portB : Bool) (s : State),
    s.periodic (.announceRx portB) (s.fget F.PTP_CFG_ANN_TO * logInterval (s.fget F.PTP_INTV_LOG_ANN)) = false →
    Completes (.ptpAnnounceTimeout portB) s fun t => t = s) ∧
  (∀ (portB : Bool) (s : State), s.ptpOn portB = true →
    s.periodic (.announceRx portB) (s.fget F.PTP_CFG_ANN_TO * logInterval (s.fget F.PTP_INTV_LOG_ANN)) = true →
    Completes (.ptpAnnounceTimeout portB) s fun t =>
      (t.ptpPort portB).master = none ∧ t.net.master = !s.fgetB F.PTP_CFG_SLAVE_ONLY ∧
      t.fget F.PTP_ANN_TO_CNT_COUNT = Nat.min (s.fget F.PTP_ANN_TO_CNT_COUNT + 1) (2 ^ 32 - 1) ∧
      t.fget ⟨Reg.BLK_EVT_RAW 0xA2, 5, 1⟩ = 1) ∧
  (∀ (m : PtpSync) (t1 : Int) (s : State), s.ptpFrom m = true → m.twoStep = true →
    Completes (.ptpSyncRx m t1) s fun t =>
      (t.ptpPort m.portB).waiting = some (m.seq, m.time - m.correction) ∧ t.ptpPort (!m.portB) = s.ptpPort (!m.portB) ∧
      t.regs = s.regs ∧ t.outs = s.outs) ∧
  (∀ (m : PtpSync) (t1 : Int) (s : State), s.ptpFrom m = true → m.twoStep = false →
    Completes (.ptpSyncRx m t1) s fun t =>
      t.regN (if m.portB then Reg.PTP_OFS_B else Reg.PTP_OFS_A) =
        ofInt 32 (clampI (2 ^ 31 - 1) ((m.time - t1 - (s.ptpPort m.portB).delay - m.correction) / 65536)) ∧
      (s.ptpPortState m.portB = 9 → s.ssp.stall = false →
        t.fget F.PTP_SYNC_CNT_COUNT = Nat.min (s.fget F.PTP_SYNC_CNT_COUNT + 1) (2 ^ 32 - 1)) ∧
      (s.ptpPortState m.portB ≠ 9 ∨ s.ssp.stall = true → t.toBlock.tm = s.tm ∧ t.fget F.PTP_SYNC_CNT_COUNT = s.fget F.PTP_SYNC_CNT_COUNT)) ∧
  (∀ (m : PtpSync) (t2 : Int) (s : State), s.ptpFrom m = true → (s.ptpPort m.portB).waiting = some (m.seq, t2) →
    Completes (.ptpFollowUpRx m) s fun t =>
      (t.ptpPort m.portB).waiting = none ∧
      t.regN (if m.portB then Reg.PTP_OFS_B else Reg.PTP_OFS_A) =
        ofInt 32 (clampI (2 ^ 31 - 1) ((t2 - m.time - (s.ptpPort m.portB).delay - m.correction) / 65536))) ∧
  (∀ (portB : Bool) (s : State), s.ptpOn portB = true →
    s.fgetB F.PTP_CFG_DELAY = true ∨ ((s.ptpPort portB).master.isSome = true ∧ s.ptpLeads = false) →
    s.periodic (.delayReq portB) (delayEvery s) = true →
    Completes (.ptpDelayReqTx portB) s fun t =>
      t.timedAt (.delayReq portB) = some s.clk ∧
      t.outs = s.outs ++ [.frame (netPort portB) (if s.fgetB F.PTP_CFG_DELAY then "Pdelay_Req" else "Delay_Req")
        (ptpHead s true (s.fgetB F.PTP_CFG_DELAY) ++ s.net.ptpSeq :: s.ptpNow)] ∧
      (t.ptpPort portB).asked = some (s.fgetB F.PTP_CFG_DELAY) ∧
      t.net.ptpSeq = low 16 (s.net.ptpSeq + 1) ∧ t.regs = s.regs) ∧
  (∀ (portB : Bool) (s : State), s.periodic (.delayReq portB) (delayEvery s) = false →
    Completes (.ptpDelayReqTx portB) s fun t => t = s) ∧
  (∀ (portB announce : Bool) (s : State), s.periodic (masterTimer portB announce) (masterEvery s announce) = false →
    Completes (.ptpMasterTx portB announce) s fun t => t = s) ∧
  (∀ (portB : Bool) (domain : Nat) (t1 t2 t3 t4 correction : Int) (s : State), s.ptpHears portB domain = true →
    Completes (.ptpDelayRespRx portB domain t1 t2 t3 t4 correction) s fun t =>
      if (s.ptpPort portB).asked = some (s.fgetB F.PTP_CFG_DELAY) then
        (t.ptpPort portB).delay = ((t2 - t1) + (t4 - t3) - correction) / 2 ∧ (t.ptpPort portB).asked = none ∧
        (t.ptpPort portB).master = (s.ptpPort portB).master ∧ t.ptpPort (!portB) = s.ptpPort (!portB)
      else t = s) ∧
  (∀ (portB : Bool) (domain seq : Nat) (correction : Int) (residence : Nat) (s : State), s.ptpHears portB domain = true →
    s.fgetB F.PTP_CFG_DELAY = true →
    Completes (.ptpPdelayReqRx portB domain seq correction residence) s fun t =>
      t.outs = s.outs ++ [.frame (netPort portB) "Pdelay_Resp"
        (ptpHead s true true ++ [seq, 0, 0, 0, ofInt 64 (correction + residence)])] ∧ t.regs = s.regs) ∧
  (∀ (portB announce : Bool) (s : State), s.ptpOn portB = true → s.ptpLeads = true →
    s.periodic (masterTimer portB announce) (masterEvery s announce) = true →
    Completes (.ptpMasterTx portB announce) s fun t =>
      t.timedAt (masterTimer portB announce) = some s.clk ∧ t.net.ptpSeq = low 16 (s.net.ptpSeq + 1) ∧ t.regs = s.regs ∧
      if announce = true then t.outs = s.outs ++ [.frame (netPort portB) "Announce"
        (ptpHead s false false ++ [s.net.ptpSeq, s.ptpClass, s.fget F.PTP_PRIO_PRIORITY1, s.fget F.PTP_PRIO_PRIORITY2,
          if s.ptpLocked = true then 0x20 else 0xA0, s.net.lastUtc.getD 37, 0, s.fget F.TSU_STAT_TIME_VALID])]
      else t.outs = s.outs ++ [.frame (netPort portB) "Sync" (ptpHead s true false ++ s.net.ptpSeq :: 0 :: s.ptpNow)]) ∧
  (∀ (portB : Bool) (domain seq sender receipt : Nat) (s : State), s.ptpHears portB domain = true → s.ptpLeads = true →
    s.fgetB F.PTP_CFG_DELAY = false →
    Completes (.ptpDelayReqRx portB domain seq sender receipt) s fun t =>
      t.outs = s.outs ++ [.frame (netPort portB) "Delay_Resp" (ptpHead s false false ++ [seq, sender, receipt])] ∧ t.regs = s.regs)

/-! ### The station service protocol -/

/-- The frames that carry a datagram to a client: TYPE 2 an answer, 3 a publication. -/
def sspFrames (b : Block) (peer : Nat) (datagram : List Nat) : List Out := ({ b with outs := [] }.sspSend peer datagram).outs

/-- The frames of a session's answer to a request (R331, R333): TYPE 2 with the service, the result, the SEQ and the TAG. -/
def sspReply (s : State) (ses : Session) (h : SspHdr) (sv result : Nat) (payload : List Nat) : List Out :=
  sspFrames s.toBlock ses.peer (ses.datagram 2 sv result h.seq payload)

/-- A request that is performed: the module serves, the supervisor does not stall, the session is open and has not answered
this SEQ, the service is offered and granted to its role, and the payload is well formed (R332 to R337). -/
def sspReady (h : SspHdr) (sv : Nat) (ses : Session) (s : State) : Prop :=
  s.sspServes = true ∧ s.ssp.stall = false ∧ s.session h.session = some ses ∧
    (ses.answers.find? fun a => a.1 == h.seq) = none ∧ h.busy = false ∧
    offered ses.ver sv = true ∧ (s.inRecovery && !recoveryOffers sv) = false ∧ neededRole sv ≤ roleCode ses.role ∧
    h.malformed = false

/-- The answer to an OPEN that is refused: of no session, with the TAG 0. -/
def openReply (s : State) (o : SspOpen) (result : Nat) (payload : List Nat) : List Out :=
  sspFrames s.toBlock (low 32 o.peer)
    (sspHead (Nat.min o.verMax 2) 2 svOpen result 0 o.seq payload ++ List.replicate 16 0)

/-- R332, R336, R337, R462: an OPEN is answered with the first result that applies and opens a session only where it is
trusted and an entry is free; while the supervisor stalls it waits. -/
def sspOpens : Prop :=
  (∀ (o : SspOpen) (s : State), s.sspServes = true → s.ssp.stall = true →
    Completes (.sspOpen o) s fun t =>
      t.outs = s.outs ∧ t.regs = s.regs ∧ t.ssp = { s.ssp with waiting := s.ssp.waiting ++ [(0, o.seq, .open_ o)] }) ∧
  (∀ (o : SspOpen) (s : State), s.sspServes = true → s.ssp.stall = false → o.reserved ≠ 0 ∨ o.role = 0 ∨ 3 < o.role →
    Completes (.sspOpen o) s fun t =>
      t.outs = s.outs ++ openReply s o sspMalformed [] ∧ t.ssp = s.ssp ∧
      t.fget F.NET_REFUSE_CNT_COUNT = Nat.min (s.fget F.NET_REFUSE_CNT_COUNT + 1) (2 ^ 32 - 1)) ∧
  (∀ (o : SspOpen) (s : State), s.sspServes = true → s.ssp.stall = false → o.reserved = 0 → 1 ≤ o.role → o.role ≤ 3 →
    Nat.min o.verMax 2 < Nat.max o.verMin 1 →
    Completes (.sspOpen o) s fun t => t.outs = s.outs ++ openReply s o sspVersion [1, 2] ∧ t.ssp = s.ssp) ∧
  (∀ (o : SspOpen) (s : State), s.sspServes = true → s.ssp.stall = false → o.reserved = 0 → 1 ≤ o.role → o.role ≤ 3 →
    Nat.max o.verMin 1 ≤ Nat.min o.verMax 2 →
    Completes (.sspOpen o) s fun t =>
      if s.openTrusted o = false then
        t.outs = s.outs ++ openReply s o sspAuth [] ∧ t.ssp = s.ssp ∧
        t.fget ⟨Reg.BLK_EVT_RAW 0xA0, 2, 1⟩ = 1 ∧ t.fget ⟨Reg.BLK_EVT_RAW 0xF8, 3, 1⟩ = 1
      else if 16 ≤ s.ssp.sessions.length then
        t.outs = s.outs ++ openReply s o sspSessions [] ∧ t.ssp = s.ssp ∧ t.fget ⟨Reg.BLK_EVT_RAW 0xA0, 3, 1⟩ = 1
      else
        ∃ ses ws, t.ssp.sessions = s.ssp.sessions ++ [ses] ∧ ses.num = nextNum (s.ssp.sessions.map (·.num)) 17 s.ssp.lastNum ∧
          ses.role = roleOfCode (Nat.min o.role ((s.credRole o.cred).getD 1)) ∧ ses.ver = Nat.min o.verMax 2 ∧
          ses.peer = low 32 o.peer ∧ ses.heard = s.clk ∧ ses.answers = [] ∧ ses.subs = [] ∧
          ses.key = hkdf256 o.nonce (Config.x25519 s.freeCount o.clientKey) ([0x53, 0x53, 0x50] ++ leBytes 2 ses.num) ∧
          t.sec.nonces = (o.nonce :: s.sec.nonces).take 1024 ∧ t.fget ⟨Reg.BLK_EVT_RAW 0xA0, 0, 1⟩ = 1 ∧
          t.outs = s.outs ++ sspFrames s.toBlock ses.peer (ses.datagram 2 svOpen sspOk o.seq
            (ses.ver :: Nat.min o.role ((s.credRole o.cred).getD 1) :: ws)))

/-- R331, R332, R337, R462: a session ends by CLOSE, by a failed TAG and by its timeout; a datagram of an unsound layout is
discarded and counted. -/
def sspEnds : Prop :=
  (∀ (h : SspHdr) (ses : Session) (s : State), sspReady h svClose ses s →
    Completes (.sspClose h) s fun t =>
      t.outs = s.outs ++ sspReply s ses h svClose sspOk [] ∧ t.session h.session = none ∧ t.fget ⟨Reg.BLK_EVT_RAW 0xA0, 1, 1⟩ = 1 ∧
      ∀ p, s.holderOf p = some (.net h.session) → t.pageLocked p = true) ∧
  (∀ (n : Nat) (ses : Session) (s : State), s.ssp.stall = false → s.session n = some ses → ses.heard + 30000000000 ≤ s.clk →
    Completes (.sspSessionTimeout n) s fun t =>
      t.session n = none ∧ (∀ m, m ≠ n → t.session m = s.session m) ∧ t.outs = s.outs ∧ t.fget ⟨Reg.BLK_EVT_RAW 0xA0, 1, 1⟩ = 1) ∧
  (∀ (n : Nat) (ses : Session) (s : State), s.session n = some ses → s.ssp.stall = true ∨ s.clk < ses.heard + 30000000000 →
    Completes (.sspSessionTimeout n) s fun t => t = s) ∧
  (∀ (n : Nat) (s : State), s.session n = none → Completes (.sspSessionTimeout n) s fun t => t = s) ∧
  (∀ (d : List (BitVec 8)) (l : List Nat) (s : State), s.sspServes = true → l = d.map BitVec.toNat →
    leAt l 0 4 ≠ 0x30505353 ∨ l.length ≠ 36 + leAt l 16 4 ∨ 1400 < leAt l 16 4 →
    Completes (.sspBadDatagram d) s fun t =>
      t.fget F.NET_DROP_CNT_COUNT = Nat.min (s.fget F.NET_DROP_CNT_COUNT + 1) (2 ^ 32 - 1) ∧ t.outs = s.outs ∧ t.ssp = s.ssp) ∧
  (∀ (d : List (BitVec 8)) (l : List Nat) (ses : Session) (s : State), s.sspServes = true → l = d.map BitVec.toNat →
    leAt l 0 4 = 0x30505353 → l.length = 36 + leAt l 16 4 → leAt l 16 4 ≤ 1400 → s.session (leAt l 8 2) = some ses →
    Completes (.sspBadDatagram d) s fun t =>
      if l.drop (20 + leAt l 16 4) = (hmac256 ses.key (l.take (20 + leAt l 16 4))).take 16 then t = s
      else t.fget F.NET_DROP_CNT_COUNT = Nat.min (s.fget F.NET_DROP_CNT_COUNT + 1) (2 ^ 32 - 1) ∧ t.outs = s.outs ∧
        t.session ses.num = none) ∧
  (∀ (d : List (BitVec 8)) (l : List Nat) (s : State), s.sspServes = true → l = d.map BitVec.toNat →
    leAt l 0 4 = 0x30505353 → l.length = 36 + leAt l 16 4 → leAt l 16 4 ≤ 1400 → s.session (leAt l 8 2) = none →
    Completes (.sspBadDatagram d) s fun t =>
      t.ssp = s.ssp ∧ t.outs = s.outs ∧ t.fget F.NET_DROP_CNT_COUNT =
        (if leAt l 6 1 = svOpen then s.fget F.NET_DROP_CNT_COUNT else Nat.min (s.fget F.NET_DROP_CNT_COUNT + 1) (2 ^ 32 - 1)))

/-- R331, R332, R336, R337, R462, R463: an OPEN is answered with the first result that applies and opens a session only where
it is trusted and an entry is free; a session ends by CLOSE, by a failed TAG and by its timeout.
The model's choices: log entries 6, 11, 12, 116 and 118. -/
def Obligations.SspSessions : Prop := sspOpens ∧ sspEnds

/-- R333, R334, R336, R337: a request is answered once and performed once; the copy of an answered request gets the kept
response and has no other effect; while the supervisor stalls four requests of a session wait and a fifth is busy; a request
of no session is dropped and counted; a service that the version or the role lacks is refused. -/
def sspRequests : Prop :=
  (∀ (h : SspHdr) (ses : Session) (s : State), sspReady h svKeepalive ses s →
    Completes (.sspKeepalive h) s fun t =>
      t.outs = s.outs ++ sspReply s ses h svKeepalive sspOk [] ∧ t.regs = s.regs ∧
      ∃ u, t.session h.session = some u ∧ u.subs = ses.subs ∧ u.heard = s.clk ∧
        u.answers = lastFour (ses.answers ++ [(h.seq, ses.datagram 2 svKeepalive sspOk h.seq [])])) ∧
  (∀ (h : SspHdr) (ses : Session) (s : State), s.sspServes = true → s.session h.session = some ses →
    (ses.answers.find? fun a => a.1 == h.seq) = none → s.ssp.stall = true ∨ h.busy = true →
    (s.outstanding h.session).any (fun w => w.2.1 == h.seq) = false →
    Completes (.sspKeepalive h) s fun t =>
      t.ssp.stall = true ∧ t.regs = s.regs ∧
      if 4 ≤ (s.outstanding h.session).length then
        t.outs = s.outs ++ sspReply s ses h svKeepalive sspBusy [] ∧ t.ssp.waiting = s.ssp.waiting
      else t.outs = s.outs ∧ t.ssp.waiting = s.ssp.waiting ++ [(h.session, h.seq, .keepalive { h with busy := false })]) ∧
  (∀ (h : SspHdr) (pairs : List (Nat × Word)) (found : AccIn) (ses : Session) (a : Nat × List Nat) (s : State),
    s.sspServes = true → s.session h.session = some ses → (ses.answers.find? fun a => a.1 == h.seq) = some a →
    Completes (.sspRegWrite h pairs found) s fun t =>
      t.outs = s.outs ++ sspFrames s.toBlock ses.peer a.2 ∧ t.regs = s.regs ∧ t.ssp.transfer = s.ssp.transfer ∧
      t.session h.session = some { ses with heard := s.clk }) ∧
  (∀ (h : SspHdr) (offs : List Nat) (s : State), s.sspServes = true → s.session h.session = none →
    Completes (.sspRegRead h offs) s fun t =>
      t.outs = s.outs ∧ t.ssp = s.ssp ∧ t.fget F.NET_DROP_CNT_COUNT = Nat.min (s.fget F.NET_DROP_CNT_COUNT + 1) (2 ^ 32 - 1)) ∧
  (∀ (h : SspHdr) (sv : Nat) (ses : Session) (s : State), s.sspServes = true → s.ssp.stall = false →
    s.session h.session = some ses →
    (ses.answers.find? fun a => a.1 == h.seq) = none → h.busy = false → offered ses.ver sv = false →
    Completes (.sspUnknownService h sv) s fun t =>
      t.outs = s.outs ++ sspReply s ses h sv sspService [] ∧ t.regs = s.regs) ∧
  (∀ (h : SspHdr) (chunk off : Nat) (data : List (BitVec 8)) (ses : Session) (s : State), s.sspServes = true →
    s.ssp.stall = false →
    s.session h.session = some ses → (ses.answers.find? fun a => a.1 == h.seq) = none → h.busy = false →
    ses.role ≠ .engineer →
    Completes (.filePiece h chunk off data) s fun t =>
      t.outs = s.outs ++ sspReply s ses h svFilePiece (if offered ses.ver svFilePiece then sspRole else sspService) [] ∧
      t.regs = s.regs ∧ t.ssp.transfer = s.ssp.transfer) ∧
  (∀ (h : SspHdr) (offs : List Nat) (ses : Session) (q : Block × List Nat) (s : State), sspReady h svRegRead ses s →
    q = (s.toBlock.sspHeard ses).sspReads (.net h.session) offs →
    Completes (.sspRegRead h offs) s fun t =>
      if 64 < offs.length then t.outs = s.outs ++ sspReply s ses h svRegRead sspLimit [] ∧ t.regs = s.regs
      else t.regs = q.1.regs ∧ q.2.length = 5 * offs.length ∧
        t.outs = q.1.outs ++ sspFrames q.1 ses.peer (ses.datagram 2 svRegRead sspOk h.seq q.2)) ∧
  (∀ (h : SspHdr) (pairs : List (Nat × Word)) (found : AccIn) (ses : Session) (q : Block × List Nat) (s : State),
    sspReady h svRegWrite ses s → q = (s.toBlock.sspHeard ses).sspWrites h.session pairs found →
    Completes (.sspRegWrite h pairs found) s fun t =>
      if 64 < pairs.length then t.outs = s.outs ++ sspReply s ses h svRegWrite sspLimit [] ∧ t.regs = s.regs
      else t.regs = q.1.regs ∧
        (match q.1.session h.session with
         | some u => t.outs = q.1.outs ++ sspFrames q.1 u.peer (u.datagram 2 svRegWrite sspOk h.seq q.2)
         | none => t.outs = q.1.outs))

/-- R335, R289, R408, R414: a subscription is taken where its period, its VIDs and the session's count allow; its publications
leave once at each whole multiple of the period and are numbered; a signed command goes on to the island; recorder bytes are
read from the oldest position on. -/
def sspServices : Prop :=
  (∀ (h : SspHdr) (vids : List Nat) (period : Nat) (ses : Session) (s : State), sspReady h svSubscribe ses s →
    Completes (.sspSubscribe h vids period) s fun t =>
      t.regs = s.regs ∧
      ∃ u, t.session h.session = some u ∧
      if period < 100 ∨ 60000 < period ∨ period % 10 ≠ 0 then
        t.outs = s.outs ++ sspReply s ses h svSubscribe sspMalformed [] ∧ u.subs = ses.subs
      else if 64 < vids.length ∨ 256 < (vids.foldl (fun l v => mapSet l v period) ses.subs).length then
        t.outs = s.outs ++ sspReply s ses h svSubscribe sspLimit [] ∧ u.subs = ses.subs
      else if vids.any (fun v => (s.vidTagOf v).isNone) = true then
        t.outs = s.outs ++ sspReply s ses h svSubscribe sspUndef [] ∧ u.subs = ses.subs
      else t.outs = s.outs ++ sspReply s ses h svSubscribe sspOk [] ∧
        u.subs = vids.foldl (fun l v => mapSet l v period) ses.subs ∧
        ∀ ms ∈ u.subs.map (·.2), u.pubAt ms = some ((ses.pubAt ms).getD ((s.now / (ms * 1000000) + 1) * (ms * 1000000)))) ∧
  (∀ (h : SspHdr) (vids : List Nat) (ses : Session) (s : State), sspReady h svUnsubscribe ses s →
    Completes (.sspUnsubscribe h vids) s fun t =>
      t.outs = s.outs ++ sspReply s ses h svUnsubscribe sspOk [] ∧ t.regs = s.regs ∧
      ∃ u, t.session h.session = some u ∧ u.subs = ses.subs.filter fun e => !vids.contains e.1) ∧
  (∀ (n period due count : Nat) (ses : Session) (s : State), s.sspServes = true → s.ssp.stall = false →
    s.session n = some ses → ses.pubAt period = some due → due ≤ s.now →
    count = (ses.subs.filter fun e => e.2 == period).length → 1 ≤ count →
    Completes (.sspPublish n period) s fun t =>
      t.regs = s.regs ∧
      (∃ u, t.session n = some u ∧ u.subs = ses.subs ∧ u.pubSeq = low 32 (ses.pubSeq + (count + 59) / 60) ∧
        u.pubAt period = some ((s.now / (period * 1000000) + 1) * (period * 1000000))) ∧
      (count ≤ 60 → ∃ ws, ws.length = 23 * count ∧
        t.outs = s.outs ++ sspFrames s.toBlock ses.peer (ses.datagram 3 34 0 ses.pubSeq ws))) ∧
  (∀ (n period due : Nat) (ses : Session) (s : State), s.session n = some ses → ses.pubAt period = some due →
    s.ssp.stall = true ∨ s.now < due → Completes (.sspPublish n period) s fun t => t = s) ∧
  (∀ (h : SspHdr) (action serial : Nat) (nonce : Word) (sig : List Word) (ses : Session) (s : State),
    sspReady h svSignedCmd ses s →
    Completes (.signedCmd h action serial nonce sig) s fun t =>
      if action = 1 ∨ action = 2 then
        t.fget F.SAF_NONCE_NONCE = (s.fget F.SAF_NONCE_NONCE + 1) % 2 ^ 32 ∧
        ∃ l, t.outs = l ++ sspReply s ses h svSignedCmd sspOk []
      else t.regs = s.regs ∧ t.outs = s.outs ++ sspReply s ses h svSignedCmd sspMalformed []) ∧
  (∀ (h : SspHdr) (area pos count : Nat) (l : List RecBlk) (ses : Session) (s : State), sspReady h svRecRead ses s →
    l = (if area = 0 then s.evr.first else s.evr.ring) →
    Completes (.recRead h area pos count) s fun t =>
      t.regs = s.regs ∧ t.evr = s.evr ∧
      if 1 < area ∨ 1024 < count then t.outs = s.outs ++ sspReply s ses h svRecRead sspMalformed []
      else t.outs = s.outs ++ sspReply s ses h svRecRead sspOk ([area, 0, 0, 0] ++ leBytes 8 (areaOld l) ++
        leBytes 8 (areaNext l) ++ leBytes 8 (Nat.max pos (areaOld l)) ++
        areaBytes l (Nat.max pos (areaOld l)) (Nat.min (Nat.max pos (areaOld l) + count) (areaNext l))))

/-- What a session may ask for, and what it is answered.
The model's choices: log entries 116, 117, 122, 128, 180 and 199. -/
def Obligations.SspRequestsAndServices : Prop := sspRequests ∧ sspServices

/-- What the end of a transfer tells the partner: a change package ends on both units (R174). -/
def endTold (x : Transfer) (s : State) : List Out :=
  if x.target = 2 ∧ s.olcAt ≠ olcIdle ∧ s.onPair = true ∧ s.fgetB F.RED_STAT_PAIR_OK = true then
    [.frame .pair "olc end" [olcAborted]]
  else []

/-- R93, R167, R334, R337, R418 to R420: one transfer is open at a time; a piece that fits is kept, the last one completes the
package; the status tells the chunks and takes over an orphan; a transfer ends by ABORT and 60 s after its session ended.
The model's choices: log entries 6, 124, 125, 126, 127 and 199. -/
def Obligations.FileTransfers : Prop :=
  (∀ (h : SspHdr) (target size ident version : Nat) (ses : Session) (s : State), sspReady h svFileBegin ses s →
    size = 0 ∨ 2 ^ 32 ≤ size ∨ target = 0 ∨ 3 < target →
    Completes (.fileBegin h target size ident version) s fun t =>
      t.outs = s.outs ++ sspReply s ses h svFileBegin sspMalformed [] ∧ t.ssp.transfer = s.ssp.transfer ∧ t.regs = s.regs) ∧
  (∀ (h : SspHdr) (target size ident version : Nat) (x : Transfer) (ses : Session) (s : State), sspReady h svFileBegin ses s →
    1 ≤ size → size < 2 ^ 32 → 1 ≤ target → target ≤ 3 → s.inRecovery = false → s.ssp.transfer = some x → target ≠ 1 →
    Completes (.fileBegin h target size ident version) s fun t =>
      t.outs = s.outs ++ sspReply s ses h svFileBegin sspBusy [] ∧ t.ssp.transfer = some x ∧ t.regs = s.regs) ∧
  (∀ (h : SspHdr) (size ident version : Nat) (ses : Session) (s : State), sspReady h svFileBegin ses s →
    1 ≤ size → size < 2 ^ 32 → s.ssp.transfer = none → s.upd.cask = none → s.fgetB F.CEL_STAT_READONLY = false →
    Completes (.fileBegin h 1 size ident version) s fun t =>
      t.ssp.transfer = some ⟨1, size, ident, some h.session, [], 0⟩ ∧ t.fget F.UPD_CASK_STATE = ckReceiving ∧
      t.upd.cask = some { size := size, ident := ident } ∧ t.outs = s.outs ++ sspReply s ses h svFileBegin sspOk []) ∧
  (∀ (h : SspHdr) (size ident version : Nat) (ses : Session) (s : State), sspReady h svFileBegin ses s →
    1 ≤ size → size < 2 ^ 32 → s.inRecovery = false → s.ssp.transfer = none → s.olcAt = olcIdle →
    s.running = true ∨ s.modState = stStop → s.fgetB F.CEL_STAT_READONLY = false →
    Completes (.fileBegin h 2 size ident version) s fun t =>
      t.ssp.transfer = some ⟨2, size, ident, some h.session, [], 0⟩ ∧ t.olcAt = olcReceiving ∧ t.regN Reg.OLC_PKG_SIZE = size ∧
      t.regN Reg.OLC_RCVD = 0 ∧ t.outs = s.outs ++ sspReply s ses h svFileBegin sspOk []) ∧
  (∀ (h : SspHdr) (size ident version : Nat) (ses : Session) (s : State), sspReady h svFileBegin ses s →
    1 ≤ size → size < 2 ^ 32 → s.inRecovery = false → s.ssp.transfer = none →
    Completes (.fileBegin h 3 size ident version) s fun t =>
      if version = 3 ∨ version = 4 then
        t.ssp.transfer = some ⟨3, size, ident, some h.session, [], 0⟩ ∧ t.regs = s.regs ∧
        t.outs = s.outs ++ sspReply s ses h svFileBegin sspOk [ldOk]
      else t.ssp.transfer = none ∧ t.outs = s.outs ++ sspReply s ses h svFileBegin sspOk [ldVersion, 3, 4] ∧
        t.prog = s.prog) ∧
  (∀ (h : SspHdr) (chunk off : Nat) (data : List (BitVec 8)) (ses : Session) (s : State), sspReady h svFilePiece ses s →
    data.length ≤ 1024 →
    (∀ x, s.ssp.transfer = some x → x.session ≠ some h.session ∨ x.fits chunk off data.length = false) →
    Completes (.filePiece h chunk off data) s fun t =>
      t.outs = s.outs ++ sspReply s ses h svFilePiece sspSequence [] ∧ t.ssp.transfer = s.ssp.transfer ∧ t.regs = s.regs) ∧
  (∀ (h : SspHdr) (chunk off : Nat) (data : List (BitVec 8)) (x y : Transfer) (ses : Session) (s : State),
    sspReady h svFilePiece ses s → data.length ≤ 1024 → s.ssp.transfer = some x → x.session = some h.session →
    x.fits chunk off data.length = true → x.target = 2 → y = x.put chunk off (data.map BitVec.toNat) →
    Completes (.filePiece h chunk off data) s fun t =>
      t.regN Reg.OLC_RCVD = low 32 y.got ∧ t.outs = s.outs ++ sspReply s ses h svFilePiece sspOk [] ∧
      if y.got < y.size then t.ssp.transfer = some y ∧ t.olc = s.olc
      else t.ssp.transfer = none ∧ t.olc.pkg = y.words ∧ t.fget ⟨Reg.BLK_EVT_RAW 0xA0, 4, 1⟩ = 1) ∧
  (∀ (h : SspHdr) (chunk off : Nat) (data : List (BitVec 8)) (x y : Transfer) (ses : Session) (s : State),
    sspReady h svFilePiece ses s → data.length ≤ 1024 → s.ssp.transfer = some x → x.session = some h.session →
    x.fits chunk off data.length = true → x.target = 3 → y = x.put chunk off (data.map BitVec.toNat) → y.got < y.size →
    Completes (.filePiece h chunk off data) s fun t =>
      t.ssp.transfer = some y ∧ t.outs = s.outs ++ sspReply s ses h svFilePiece sspOk [] ∧ t.regs = s.regs) ∧
  (∀ (h : SspHdr) (x : Transfer) (ses : Session) (s : State), sspReady h svFileStatus ses s → s.ssp.transfer = some x →
    Completes (.fileStatus h) s fun t =>
      t.outs = s.outs ++ sspReply s ses h svFileStatus sspOk (s.transferMap x) ∧ t.regs = s.regs ∧
      t.ssp.transfer = some (if x.session = none ∧ ses.role = .engineer then { x with session := some h.session } else x)) ∧
  (∀ (h : SspHdr) (x : Transfer) (ses : Session) (s : State), sspReady h svFileAbort ses s → s.ssp.transfer = some x →
    Completes (.fileAbort h) s fun t =>
      t.ssp.transfer = none ∧ t.outs = s.outs ++ endTold x s ++ sspReply s ses h svFileAbort sspOk [] ∧
      t.fget ⟨Reg.BLK_EVT_RAW 0xA0, 5, 1⟩ = 1 ∧
      (x.target = 2 → t.olcAt = olcIdle ∧ t.fget F.OLC_STAT_CODE = olcAborted)) ∧
  (∀ (x : Transfer) (s : State), s.ssp.transfer = some x → x.session = none → x.since + 60000000000 ≤ s.clk →
    Completes .fileTransferOrphanTimeout s fun t =>
      t.ssp.transfer = none ∧ t.fget ⟨Reg.BLK_EVT_RAW 0xA0, 5, 1⟩ = 1 ∧ t.outs = s.outs ++ endTold x s) ∧
  (∀ (x : Transfer) (s : State), s.ssp.transfer = some x → x.session ≠ none ∨ s.clk < x.since + 60000000000 →
    Completes .fileTransferOrphanTimeout s fun t => t = s)

/-- R458, R464 to R466: an unlock token is judged in its order and cleared; a refused one changes nothing else but the result
and raises its event; an accepted one closes every session, erases the keys, and enables the service port.
The model's choices: log entries 11 and 115. -/
def Obligations.UnlockToken : Prop :=
  ∀ (r : Requester) (s : State), s.judgeWrite r Reg.SEC_CMD 1 = 0 →
    Completes (.unlock r) s fun t =>
      t.outs = s.outs ++ [.access r Reg.SEC_CMD 0 0] ∧ t.fget secResult = s.tokenJudge ∧
      (∀ w, w < 19 → t.regN (Reg.SEC_TOKEN w) = 0) ∧
      if s.tokenJudge = secOk then
        t.ssp.sessions = [] ∧ t.fget secErased = 1 ∧ t.identity = none ∧ t.contentKey = none ∧ t.fget secSvc = 1 ∧
        t.fget secUnlocks = Nat.min (s.fget secUnlocks + 1) 255
      else t.ssp = s.ssp ∧ t.fget secErased = s.fget secErased ∧ t.contentKey = s.contentKey ∧ t.fget secSvc = s.fget secSvc ∧
        t.fget secUnlocks = s.fget secUnlocks ∧ t.fget ⟨Reg.BLK_EVT_RAW 0xF8, 1, 1⟩ = 1

/-! ### CAN FD ports -/

/-- What a slot's frame would carry: a data slot the bytes of R352, a reference slot nothing of its own (R351, R354). -/
def slotData (c : CanSlotCfg) (s : State) : Option Nat :=
  if c.kind = 2 then (if s.holdsLocal = true ∧ (s.running = true ∨ s.modState = stStop) then some 0 else none) else s.canData c

/-- R341 to R345, R351 to R355: once it is due, a transmit instant makes its slot pending or drops its frame while the port is off the bus; at
bus idle the favoured frame is attempted and sent, tried again or dropped; errors move the counters and the state that follows
them; a complete frame is stored; recovery ends active with both counters 0; a mode takes effect and discards what is pending.
The model's choices: log entries 6, 38, 39, 141 and 172. -/
def Obligations.CanPorts : Prop :=
  (∀ (p : Fin 4) (k : Fin 32) (c : CanSlotCfg) (d : Nat) (s : State), s.canSlot p.val k.val = some c →
    s.canDue p.val k.val = true → slotData c s = some d → (s.canPort p.val).mode = 1 →
    s.fgetB (F.CAN_MODE_AUX p.val) = false → s.canState p.val ≠ ceBusOff → s.canState p.val ≠ ceRecovering → (s.canPort p.val).attempt ≠ some k.val →
    Completes (.canTxInstant p k false) s fun t =>
      (t.canPort p.val).pending = mapSet (s.canPort p.val).pending k.val d ∧ t.fget (F.CAN_TX_STAT_PENDING p.val k.val) = 1 ∧
      mapGet 0 (t.canPort p.val).aims k.val = c.after (mapGet (c.after 0) (s.canPort p.val).aims k.val) ∧
      t.outs = s.outs ∧
      t.fget (F.CAN_TX_LATE_CNT_COUNT p.val) =
        (if (s.canPort p.val).pending.any (fun e => e.1 == k.val) = true then
          Nat.min (s.fget (F.CAN_TX_LATE_CNT_COUNT p.val) + 1) (2 ^ 32 - 1)
         else s.fget (F.CAN_TX_LATE_CNT_COUNT p.val))) ∧
  (∀ (p : Fin 4) (k : Fin 32) (c : CanSlotCfg) (d : Nat) (s : State), s.canSlot p.val k.val = some c →
    s.canDue p.val k.val = true → slotData c s = some d → (s.canPort p.val).mode = 1 →
    s.fgetB (F.CAN_MODE_AUX p.val) = false → s.canState p.val ≠ ceBusOff → s.canState p.val ≠ ceRecovering → (s.canPort p.val).attempt = some k.val →
    Completes (.canTxInstant p k false) s fun t =>
      (t.canPort p.val).replacing = mapSet (s.canPort p.val).replacing k.val d ∧
      (t.canPort p.val).pending = (s.canPort p.val).pending ∧ t.regs = s.regs ∧ t.outs = s.outs) ∧
  (∀ (p : Fin 4) (k : Fin 32) (s : State), s.canDue p.val k.val = false →
    Completes (.canTxInstant p k false) s fun t =>
      t.canPort p.val = { s.canPort p.val with busy := true } ∧ t.regs = s.regs ∧ t.outs = s.outs) ∧
  (∀ (p : Fin 4) (k : Fin 32) (c : CanSlotCfg) (s : State), s.canSlot p.val k.val = some c → slotData c s = none →
    Completes (.canTxInstant p k false) s fun t =>
      (t.canPort p.val).pending = (s.canPort p.val).pending ∧ t.regs = s.regs ∧ t.outs = s.outs) ∧
  (∀ (p : Fin 4) (k : Fin 32) (c : CanSlotCfg) (d : Nat) (s : State), s.canSlot p.val k.val = some c →
    s.canDue p.val k.val = true → slotData c s = some d → (s.canPort p.val).mode = 1 →
    s.fgetB (F.CAN_MODE_AUX p.val) = false → s.canState p.val = ceActive ∨ s.canState p.val = cePassive → (s.canPort p.val).attempt = none →
    Completes (.canTxInstant p k true) s fun t =>
      (t.canPort p.val).attempt = t.canBest p.val ∧ (t.canPort p.val).attempt ≠ none) ∧
  (∀ (p : Fin 4) (k : Fin 32) (c : CanSlotCfg) (d : Nat) (s : State), s.canSlot p.val k.val = some c →
    s.canDue p.val k.val = true → slotData c s = some d → (s.canPort p.val).mode = 1 →
    s.fgetB (F.CAN_MODE_AUX p.val) = false → s.canState p.val = ceBusOff ∨ s.canState p.val = ceRecovering →
    Completes (.canTxInstant p k false) s fun t =>
      (t.canPort p.val).pending = (s.canPort p.val).pending ∧ (t.canPort p.val).attempt = (s.canPort p.val).attempt ∧ t.fget (F.CAN_TX_DROP_CNT_COUNT p.val) = Nat.min (s.fget (F.CAN_TX_DROP_CNT_COUNT p.val) + 1) (2 ^ 32 - 1) ∧
      t.fget (F.CAN_TX_STAT_LAST p.val k.val) = 3 ∧ t.outs = s.outs) ∧
  (∀ (p : Fin 4) (kind : Fin 7) (more seqs err tec recv : Nat) (s : State), (s.canPort p.val).mode = 1 →
    kind.val ≠ 6 ∨ s.fgetB (F.CAN_MODE_PEX p.val) = false ∨ s.fgetB (F.CAN_MODE_FD_EN p.val) = false →
    s.canState p.val = ceActive ∨ s.canState p.val = cePassive → err = (if kind.val = 6 then 3 else kind.val) →
    tec = (s.canPort p.val).tec + (if (s.canPort p.val).attempt = none then 0
      else 8 * (if err = 2 ∨ (err = 4 ∧ s.canState p.val = cePassive) then more else Nat.max 1 more)) →
    recv = s.fget (F.CAN_ERR_REC p.val) + (if (s.canPort p.val).attempt = none then 1 + 8 * seqs else 0) →
    Completes (.canErrorFrame p kind more seqs) s fun t =>
      t.fget (F.CAN_ERRFRM_CNT_COUNT p.val) = Nat.min (s.fget (F.CAN_ERRFRM_CNT_COUNT p.val) + 1) (2 ^ 32 - 1) ∧
      t.fget (F.CAN_ERR_LAST_ERR p.val) = err ∧ (t.canPort p.val).tec = tec ∧ t.fget (F.CAN_ERR_REC p.val) = Nat.min recv 255 ∧
      t.canState p.val =
        (if 255 < tec then (if s.fgetB (F.CAN_MODE_FAULT_MODE p.val) then ceRecovering else ceBusOff)
         else if 127 < tec ∨ 127 < recv then cePassive else ceActive)) ∧
  (∀ (p : Fin 4) (more seqs : Nat) (s : State), (s.canPort p.val).mode ≠ 0 → s.fgetB (F.CAN_MODE_PEX p.val) = true →
    s.fgetB (F.CAN_MODE_FD_EN p.val) = true →
    Completes (.canErrorFrame p 6 more seqs) s fun t =>
      t.fget (F.CAN_PEX_CNT_COUNT p.val) = Nat.min (s.fget (F.CAN_PEX_CNT_COUNT p.val) + 1) (2 ^ 32 - 1) ∧
      t.canPort p.val = { s.canPort p.val with busy := true, integrates := true } ∧
      t.fget ⟨Reg.BLK_EVT_RAW (canPage p.val), 8, 1⟩ = 1 ∧ t.canState p.val = s.canState p.val) ∧
  (∀ (p : Fin 4) (f : CanFrame) (s : State), (s.canPort p.val).mode ≠ 0 → f.fdf = false ∨ s.fgetB (F.CAN_MODE_FD_EN p.val) = true →
    Completes (.canFrameRx p f) s fun t =>
      t.regN (Reg.CAN_RX_NUM p.val) = low 32 (s.canPort p.val).stored ∧ (t.canPort p.val).stored = (s.canPort p.val).stored + 1 ∧
      (t.canPort p.val).ring = mapSet (s.canPort p.val).ring (low 32 (s.canPort p.val).stored % 512)
        ⟨low 32 (s.canPort p.val).stored, f, false, false, false⟩ ∧ t.fget ⟨Reg.BLK_EVT_RAW (canPage p.val), 0, 1⟩ = 1) ∧
  (∀ (p : Fin 4) (f : CanFrame) (s : State), (s.canPort p.val).mode ≠ 0 → f.fdf = true → s.fgetB (F.CAN_MODE_FD_EN p.val) = false →
    Completes (.canFrameRx p f) s fun t =>
      (t.canPort p.val).ring = (s.canPort p.val).ring ∧ t.regN (Reg.CAN_RX_NUM p.val) = s.regN (Reg.CAN_RX_NUM p.val) ∧
      t.fget (F.CAN_ERR_LAST_ERR p.val) = 3) ∧
  (∀ (p : Fin 4) (k : Fin 32) (c : CanSlotCfg) (ns sec meas : Nat) (s : State), (s.canPort p.val).attempt = some k.val →
    s.canSlot p.val k.val = some c → (s.canPort p.val).tec ≤ 256 → (s.canPort p.val).replacing.any (fun e => e.1 == k.val) = false →
    Completes (.canTxAttemptEnd p .sent ns sec meas) s fun t =>
      t.outs = s.outs ++ [.frame (.can p) "FRAME" [c.id, c.fmt, c.len, (c.frame (mapGet 0 (s.canPort p.val).pending k.val) ns sec).data]] ∧
      (t.canPort p.val).pending = mapErase (s.canPort p.val).pending k.val ∧ t.fget (F.CAN_TX_STAT_LAST p.val k.val) = 1 ∧
      t.fget (F.CAN_TX_STAT_SENT p.val k.val) = (s.fget (F.CAN_TX_STAT_SENT p.val k.val) + 1) % 65536 ∧
      (t.canPort p.val).stored = (s.canPort p.val).stored + 1 ∧ (t.canPort p.val).tec = (s.canPort p.val).tec - 1) ∧
  (∀ (p : Fin 4) (k : Fin 32) (c : CanSlotCfg) (e : CanEnd) (ns sec meas : Nat) (s : State), e ≠ .sent →
    (s.canPort p.val).attempt = some k.val → s.canSlot p.val k.val = some c →
    (s.canPort p.val).replacing.any (fun e => e.1 == k.val) = false → (s.canPort p.val).noRetry = false →
    Completes (.canTxAttemptEnd p e ns sec meas) s fun t =>
      t.outs = s.outs ∧ (t.canPort p.val).stored = (s.canPort p.val).stored ∧
      if bit c.fmt 3 = true then
        (t.canPort p.val).pending = mapErase (s.canPort p.val).pending k.val ∧ t.fget (F.CAN_TX_STAT_LAST p.val k.val) = 3 ∧
        t.fget (F.CAN_TX_DROP_CNT_COUNT p.val) = Nat.min (s.fget (F.CAN_TX_DROP_CNT_COUNT p.val) + 1) (2 ^ 32 - 1)
      else (t.canPort p.val).pending = (s.canPort p.val).pending ∧
        t.fget (F.CAN_TX_DROP_CNT_COUNT p.val) = s.fget (F.CAN_TX_DROP_CNT_COUNT p.val)) ∧
  (∀ (p : Fin 4) (k : Fin 32) (c : CanSlotCfg) (e : CanEnd) (ns sec meas : Nat) (s : State), e ≠ .sent →
    (s.canPort p.val).attempt = some k.val → s.canSlot p.val k.val = some c →
    (s.canPort p.val).replacing.any (fun e => e.1 == k.val) = false → (s.canPort p.val).noRetry = true →
    Completes (.canTxAttemptEnd p e ns sec meas) s fun t =>
      t.outs = s.outs ∧ (t.canPort p.val).pending = mapErase (s.canPort p.val).pending k.val ∧
      t.fget (F.CAN_TX_DROP_CNT_COUNT p.val) = s.fget (F.CAN_TX_DROP_CNT_COUNT p.val)) ∧
  (∀ (r : Requester) (p : Fin 4) (s : State), s.judgeWrite r (Reg.CAN_CMD p.val) 1 = 0 →
    Completes (.recover r p) s fun t =>
      t.fget ⟨Reg.BLK_EVT_RAW (canPage p.val), 9, 1⟩ = 1 ∧
      if s.canState p.val = ceBusOff then t.canState p.val = ceRecovering ∧ t.fget (F.CAN_RES_CODE p.val) = 0
      else t.canState p.val = s.canState p.val ∧ t.fget (F.CAN_RES_CODE p.val) = 1) ∧
  (∀ (p : Fin 4) (s : State), s.canState p.val = ceRecovering →
    Completes (.canRecoveryComplete p) s fun t =>
      t.canState p.val = ceActive ∧ (t.canPort p.val).tec = 0 ∧ t.fget (F.CAN_ERR_TEC p.val) = 0 ∧
      t.fget (F.CAN_ERR_REC p.val) = 0 ∧ t.fget ⟨Reg.BLK_EVT_RAW (canPage p.val), 4, 1⟩ = 1) ∧
  (∀ (p : Fin 4) (s : State), (s.canPort p.val).busy = true ∨ (s.canPort p.val).attempt ≠ none →
    s.periodic (.canMode p.val) 1000000 = false → Completes (.canModeChange p) s fun t => t = s) ∧
  (∀ (p : Fin 4) (s : State), s.fget (F.CAN_MODE_MODE p.val) ≠ (s.canPort p.val).mode →
    ((s.canPort p.val).busy = false ∧ (s.canPort p.val).attempt = none) ∨ s.periodic (.canMode p.val) 1000000 = true →
    Completes (.canModeChange p) s fun t =>
      (t.canPort p.val).mode = s.fget (F.CAN_MODE_MODE p.val) ∧ (t.canPort p.val).ring = (s.canPort p.val).ring ∧
      (s.fget (F.CAN_MODE_MODE p.val) ≠ 1 → (t.canPort p.val).pending = [] ∧ (t.canPort p.val).attempt = none) ∧
      (s.fget (F.CAN_MODE_MODE p.val) = 0 → t.regN (Reg.CAN_ERR p.val) = 0 ∧ (t.canPort p.val).tec = 0) ∧
      ((s.canPort p.val).mode = 0 → t.canState p.val = ceActive ∧ (t.canPort p.val).tec = 0))

/-! ### The redundant pair -/

/-- R361, R364, R383 to R385, R389: the link negotiates the highest common version; a heartbeat, on PAIR every 100 µs and
on CAN3 each millisecond, carries claim and health and tells what the partner is; silence on PAIR for PAIR_TO or on CAN3 for 5 ms
is shown; a time message is answered and gives delay and offset.
The model's choices: log entries 6, 78, 85, 158 and 204. -/
def Obligations.PairPaths : Prop :=
  (∀ (lo hi : Nat) (s : State), s.pwr.sfpAbs = false → s.fgetB F.PAIR_STAT_LINK = false →
    Completes (.pairLinkUp lo hi) s fun t =>
      t.fget F.PAIR_STAT_LINK = 1 ∧ t.fget ⟨Reg.BLK_EVT_RAW 0xB1, 0, 1⟩ = 1 ∧
      t.fget F.RED_STAT_PIV = low 4 ((commonPiv s.pivOffer (lo, hi)).getD 0)) ∧
  (∀ s : State, s.fgetB F.PAIR_STAT_LINK = true →
    Completes .pairLinkLost s fun t =>
      t.fget F.PAIR_STAT_LINK = 0 ∧ t.fget F.RED_STAT_PAIR_OK = 0 ∧ t.fget ⟨Reg.BLK_EVT_RAW 0xB1, 1, 1⟩ = 1) ∧
  (∀ s : State, s.fgetB F.RED_STAT_PAIR_OK = false ∨ s.clk < s.red.pairAt + 10000 * s.fget F.RED_TIMING_PAIR_TO →
    Completes .pairTimeout s fun t => t = s) ∧
  (∀ s : State, s.clk < s.red.beatAt → Completes .pairHeartbeatTx s fun t => t = s) ∧
  (∀ s : State, s.clk < s.red.hbAt + 5000000 → Completes .can3HeartbeatTimeout s fun t => t = s) ∧
  (∀ s : State, s.clk < s.red.offAt + 100000000 → Completes .can3AutoRecover s fun t => t = s) ∧
  (∀ s : State, s.now < s.red.canBeatAt → s.red.canBeatAt ≤ s.now + 1000000 → Completes .can3HeartbeatTx s fun t => t = s) ∧
  (∀ s : State, s.fgetB F.RED_STAT_PAIR_OK = true → s.red.pairAt + 10000 * s.fget F.RED_TIMING_PAIR_TO ≤ s.clk →
    Completes .pairTimeout s fun t =>
      t.fget F.RED_STAT_PAIR_OK = 0 ∧ t.fget F.PAIR_TO_CNT_COUNT = Nat.min (s.fget F.PAIR_TO_CNT_COUNT + 1) (2 ^ 32 - 1) ∧
      t.fget ⟨Reg.BLK_EVT_RAW 0xB1, 3, 1⟩ = 1 ∧ t.fget F.PAIR_STAT_LINK = s.fget F.PAIR_STAT_LINK) ∧
  (∀ s : State, s.powered = true → s.onPair = true → s.fgetB F.PAIR_STAT_LINK = true → s.red.beatAt ≤ s.clk →
    Completes .pairHeartbeatTx s fun t =>
      t.red.beatAt = s.clk + 100000 ∧ t.fget F.RED_HEALTH_OWN = low 8 s.computedHealth ∧ epochOf (t.regN Reg.RED_CLAIM) = epochOf (s.regN Reg.RED_CLAIM) ∧
      ∃ ws, t.outs = s.outs ++ [.frame .pair "heartbeat" (t.regN Reg.RED_CLAIM :: t.fget F.RED_HEALTH_OWN :: s.modState :: ws)]) ∧
  (∀ (h : PairBeat) (s : State), s.powered = true → s.onPair = true → s.fgetB F.PAIR_STAT_LINK = true → h.sound = false →
    Completes (.pairHeartbeatRx h) s fun t =>
      t.fget F.PAIR_ERR_CNT_COUNT = Nat.min (s.fget F.PAIR_ERR_CNT_COUNT + 1) (2 ^ 32 - 1) ∧ t.red = s.red ∧
      t.fget F.RED_STAT_PAIR_OK = s.fget F.RED_STAT_PAIR_OK) ∧
  (∀ (h : PairBeat) (s : State), s.powered = true → s.onPair = true → s.fgetB F.PAIR_STAT_LINK = true → h.sound = true →
    s.red.joining = false →
    Completes (.pairHeartbeatRx h) s fun t =>
      t.fget F.RED_STAT_PAIR_OK = 1 ∧ t.fget F.RED_STAT_PARTNER = 1 ∧ t.regN Reg.RED_PCLAIM = low 32 h.claim ∧
      t.red.pairAt = s.clk ∧
      t.fget F.RED_HEALTH_PARTNER = Nat.min h.health 255 ∧ t.red.partner = h.partner ∧ t.red.partnerFloat = h.floatReady ∧
      (s.role = rolePrimary → t.role = rolePrimary ∧ (h.departing = true → t.red.received = true))) ∧
  (∀ s : State, s.powered = true → s.pwr.phase ≠ .down → s.hbOn = true → s.canState 3 ≠ ceBusOff → s.canState 3 ≠ ceRecovering →
    s.red.canBeatAt ≤ s.now →
    Completes .can3HeartbeatTx s fun t =>
      s.now < t.red.canBeatAt ∧ t.red.canBeatAt ≤ s.now + 1000000 ∧
      t.red.canBeatAt % 1000000 = (if s.pwr.base = .unitA then 0 else 500000) ∧
      t.red.hbSeq = low 8 (s.red.hbSeq + 1) ∧ (t.canPort 3).stored = (s.canPort 3).stored + 1 ∧
      t.fget F.RED_HEALTH_OWN = low 8 s.computedHealth ∧
      t.outs = s.outs ++ [.frame (.can 3) "pair heartbeat" [if s.pwr.base = .unitA then 0x7E1 else 0x7E0, t.regN Reg.RED_CLAIM,
        s.role + (if s.red.departed = true then 4 else 0) + (if s.sync = sySynced then 8 else 0), s.red.hbSeq,
        t.fget F.RED_HEALTH_OWN, 0]]) ∧
  (∀ (h : CanBeat) (s : State), s.powered = true → s.hbOn = true →
    Completes (.can3HeartbeatRx h) s fun t =>
      t.fget F.RED_STAT_HB_OK = 1 ∧ t.red.hbAt = s.clk ∧ t.fget F.RED_STAT_PARTNER = 1 ∧ t.regN Reg.RED_PCLAIM = low 32 h.claim ∧
      t.red.partner = { s.red.partner with role := h.role, departing := h.departing } ∧
      (t.canPort 3).stored = (s.canPort 3).stored + 1 ∧
      (h.departing = true → t.red.received = true)) ∧
  (∀ s : State, s.fgetB F.RED_STAT_HB_OK = true → s.red.hbAt + 5000000 ≤ s.clk →
    Completes .can3HeartbeatTimeout s fun t => t.fget F.RED_STAT_HB_OK = 0 ∧ t.role = s.role) ∧
  (∀ s : State, s.hbOn = true → s.canState 3 = ceBusOff → s.red.offAt + 100000000 ≤ s.clk →
    Completes .can3AutoRecover s fun t => t.canState 3 = ceRecovering ∧ t.can = s.can) ∧
  (∀ (offset rate : Int) (delay : Nat) (s : State), s.powered = true → s.fgetB F.PAIR_STAT_LINK = true →
    Completes (.pairTimeMessage offset rate delay) s fun t =>
      t.regN Reg.PAIR_DELAY = Nat.min delay (2 ^ 32 - 1) ∧ t.regN Reg.PAIR_TIME_OFS = ofInt 32 (clampI (2 ^ 31 - 1) offset) ∧
      (s.onPair = true → s.role = roleStandby → t.fget ⟨Reg.BLK_EVT_RAW 0xB1, 4, 1⟩ = 1) ∧
      ∃ l, t.outs = s.outs ++ .frame .pair "time" [s.tsuSec, s.tsuNs] :: l)

/-- R369: what a round's words and ACK tell of the wire: a word below the own claim, another word on the partner, or, for a
primary that won, no ACK although the partner runs beside it. -/
def wireFaultSeen (s : State) (read : Nat) (ack : Bool) (w : Option Word) : Prop :=
  read < s.regN Reg.RED_CLAIM ∨ (s.fgetB F.RED_STAT_PAIR_OK = true ∧ ∃ v, w = some v ∧ v.toNat ≠ read) ∨
    (s.role = rolePrimary ∧ read = s.regN Reg.RED_CLAIM ∧ ack = false ∧ s.fgetB F.RED_STAT_PAIR_OK = true ∧
      (s.red.partner.state = stRun ∨ s.red.partner.state = stRunDegraded) ∧
      (s.red.partner.role = rolePrimary ∨ s.red.partner.role = roleStandby))

/-- R365, R367 to R369: a round sends the claim, at the round instant, beside a unit that runs one, or alone after 100 µs; an
epoch that has come to its upper range falls to 1; at the end of the round the unit shows and reports the word it read, and
holds the outputs, stays without them or becomes STANDBY. -/
def pairRounds : Prop :=
  (∀ s : State, s.inRounds = true → s.role = roleStandby ∨ s.red.departed = true ∨ s.red.roundAt.isSome = true →
    epochOf (s.regN Reg.RED_CLAIM) < 0xF000 →
    Completes .claimRound s fun t =>
      t.red.round = true ∧ t.red.roundAt = none ∧ t.fget F.RED_ROUND_INFO_ALONE = 0 ∧
      t.outs = s.outs ++ [.frame .claimWire "claim" [t.regN Reg.RED_CLAIM]] ∧
      epochOf (t.regN Reg.RED_CLAIM) = epochOf (s.regN Reg.RED_CLAIM) ∧ t.fget F.RED_HEALTH_OWN = low 8 s.computedHealth ∧
      t.role = s.role) ∧
  (∀ s : State, s.inRounds = true → s.red.departed = true ∨ s.red.roundAt.isSome = true → s.role = rolePrimary →
    0xF000 ≤ epochOf (s.regN Reg.RED_CLAIM) → s.fgetB F.RED_STAT_PAIR_OK = true → s.red.partner.role = roleStandby →
    s.fgetB F.PAIR_STAT_LINK = true →
    Completes .claimRound s fun t =>
      epochOf (t.regN Reg.RED_CLAIM) = 1 ∧ t.red.oldEpoch = epochOf (s.regN Reg.RED_CLAIM) ∧
      t.outs = s.outs ++ [.frame .pair "epoch" [epochOf (s.regN Reg.RED_CLAIM)], .frame .claimWire "claim" [t.regN Reg.RED_CLAIM]]) ∧
  (∀ s : State, s.inRounds = false ∨ (s.role = rolePrimary ∧ s.red.departed = false ∧ s.red.roundAt = none) →
    Completes .claimRound s fun t => t = s) ∧
  (∀ (a : Nat) (s : State), s.inRounds = true → s.role = roleStandby → s.red.round = false → s.red.roundAt = some a →
    a + 100000 ≤ s.clk →
    Completes .claimRoundAlone s fun t =>
      t.red.round = true ∧ t.red.roundAt = none ∧ t.fget F.RED_ROUND_INFO_ALONE = 1 ∧
      t.outs = s.outs ++ [.frame .claimWire "claim" [t.regN Reg.RED_CLAIM]] ∧ t.role = s.role) ∧
  (∀ s : State, s.inRounds = false ∨ s.role ≠ roleStandby ∨ s.red.round = true ∨ s.red.roundAt = none →
    Completes .claimRoundAlone s fun t => t = s) ∧
  (∀ (a : Nat) (s : State), s.red.roundAt = some a → s.clk < a + 100000 → Completes .claimRoundAlone s fun t => t = s) ∧
  (∀ (read : Word) (ack : Bool) (w : Option Word) (s : State), s.red.round = true → s.inRounds = true → s.running = true →
    Completes (.claimRoundEnd read ack w) s fun t =>
      t.red.round = false ∧ t.regN Reg.RED_ROUND = read.toNat ∧
      t.fgetB F.RED_ROUND_INFO_WON = (read.toNat == s.regN Reg.RED_CLAIM) ∧ t.fgetB F.RED_ROUND_INFO_ACK = ack ∧
      t.regN Reg.RED_PCLAIM = (if s.regN Reg.RED_CLAIM < read.toNat then read.toNat else s.regN Reg.RED_PCLAIM) ∧
      (∃ l, t.outs = s.outs ++ (.frame .claimWire "bits" [wireBits (s.regN Reg.RED_CLAIM) read.toNat 32,
        if read.toNat = s.regN Reg.RED_CLAIM then 1 else 0] ::
          (if s.fgetB F.PAIR_STAT_LINK = true then [.frame .pair "round word" [read.toNat]] else [])) ++ l) ∧
      (wireFaultSeen s read.toNat ack w → t.fget F.RED_STAT_WIRE_FAULT = 1 ∧ t.red.clean = 0 ∧
        t.fget F.RED_WIRE_ERR_CNT_COUNT = Nat.min (s.fget F.RED_WIRE_ERR_CNT_COUNT + 1) (2 ^ 32 - 1) ∧
        t.fget ⟨Reg.BLK_EVT_RAW 0xB0, 7, 1⟩ = 1) ∧
      (¬ wireFaultSeen s read.toNat ack w → t.red.clean = s.red.clean + 1 ∧
        t.fget F.RED_STAT_WIRE_FAULT = (if 100 ≤ s.red.clean + 1 then 0 else s.fget F.RED_STAT_WIRE_FAULT)) ∧
      (if s.role = rolePrimary then
        (if read.toNat = s.regN Reg.RED_CLAIM then t.red.won = true ∧ t.role = rolePrimary
         else if s.regN Reg.RED_CLAIM < read.toNat then
          t.red.won = false ∧ t.role = roleStandby ∧ t.sync = syResyncing ∧
          t.fget F.RED_DEMOTE_CNT_COUNT = Nat.min (s.fget F.RED_DEMOTE_CNT_COUNT + 1) (2 ^ 32 - 1)
         else t.red.won = false ∧ t.role = rolePrimary)
       else t.red.won = false ∧ t.role = s.role)) ∧
  (∀ (read : Word) (ack : Bool) (w : Option Word) (s : State), s.red.round = true → s.inRounds = true → s.running = false →
    Completes (.claimRoundEnd read ack w) s fun t =>
      t.red.round = false ∧ t.red.won = false ∧ t.role = roleOut ∧ t.sync = syNone) ∧
  (∀ (read : Word) (ack : Bool) (w : Option Word) (s : State), s.red.round = false ∨ s.inRounds = false →
    Completes (.claimRoundEnd read ack w) s fun t => t = s)

/-- R365, R367 to R369, R375, R376, R378, R382, R386: a round sends the claim; who reads its own claim as primary holds the
outputs, who reads a higher one becomes STANDBY, and a word below the own one is a wire fault; a primary whose health has stood
below the standby's by HDIFF for 1 s departs; a standby takes over with the partner's epoch plus one, at its round instant after a
departure, at once where the partner is silent; the RED commands answer their code and act only where it is 0.
The model's choices: log entries 6, 79, 81, 83, 174, 200 and 201. -/
def Obligations.PairRounds : Prop :=
  pairRounds ∧
  (∀ (a : Nat) (s : State), s.fget F.RED_CFG_HDIFF ≠ 0 → 3 ≤ s.fget F.RED_STAT_PIV → s.onPair = true → s.role = rolePrimary →
    s.red.partner.sync = sySynced → s.fget F.RED_HEALTH_OWN + s.fget F.RED_CFG_HDIFF ≤ s.fget F.RED_HEALTH_PARTNER →
    s.red.lowAt = some a → a + 1000000000 ≤ s.clk →
    Completes .healthHandover s fun t => t.red.departed = true ∧ t.role = rolePrimary ∧
      (s.red.departed = false → ∃ l, t.outs = s.outs ++ .frame .pair "departure" [s.regN Reg.RED_CLAIM] :: l)) ∧
  (∀ s : State, s.fget F.RED_CFG_HDIFF = 0 ∨ s.fget F.RED_STAT_PIV < 3 ∨ s.role ≠ rolePrimary ∨ s.red.partner.sync ≠ sySynced ∨
      s.fget F.RED_HEALTH_PARTNER < s.fget F.RED_HEALTH_OWN + s.fget F.RED_CFG_HDIFF ∨ s.red.lowAt = none →
    Completes .healthHandover s fun t => t = s) ∧
  (∀ (a : Nat) (s : State), s.red.lowAt = some a → s.clk < a + 1000000000 → Completes .healthHandover s fun t => t = s) ∧
  (∀ s : State, s.inRounds = true → s.role = roleStandby → s.sync = sySynced ∨ s.sync = syUnmirrored ∨ s.sync = syResyncing →
    s.takeoverBarred = false → (s.red.received = true ∧ s.red.roundAt.isSome = true) ∨ s.partnerSilent = true → epochOf (s.regN Reg.RED_PCLAIM) + 1 < 0xF000 →
    Completes .takeover s fun t =>
      t.role = rolePrimary ∧ epochOf (t.regN Reg.RED_CLAIM) = epochOf (s.regN Reg.RED_PCLAIM) + 1 ∧
      t.fget F.RED_TAKEOVER_CNT_COUNT = Nat.min (s.fget F.RED_TAKEOVER_CNT_COUNT + 1) (2 ^ 32 - 1) ∧
      t.fget ⟨Reg.BLK_EVT_RAW 0xB0, 0, 1⟩ = 1 ∧ t.red.round = true ∧ t.sync = syNone ∧
      (s.red.received = false → t.red.won = true) ∧
      ∃ l, t.outs = l ++ [.frame .claimWire "claim" [t.regN Reg.RED_CLAIM]]) ∧
  (∀ s : State, s.inRounds = false ∨ s.role ≠ roleStandby ∨ s.sync = sySyncing ∨ s.takeoverBarred = true ∨
      (s.partnerSilent = false ∧ (s.red.received = false ∨ s.red.roundAt = none)) →
    Completes .takeover s fun t => t = s) ∧
  (∀ (r : Requester) (s : State), s.judgeWrite r Reg.RED_CMD 1 = 0 →
    Completes (.switch r) s fun t =>
      t.fget F.RED_RES_CODE = s.redJudge 1 ∧ t.fget ⟨Reg.BLK_EVT_RAW 0xB0, 9, 1⟩ = 1 ∧ t.role = s.role ∧
      if s.redJudge 1 = 0 then t.red.departed = true else t.red = s.red) ∧
  (∀ (r : Requester) (s : State), s.judgeWrite r Reg.RED_CMD 2 = 0 →
    Completes (.takeoverCold r) s fun t =>
      t.fget F.RED_RES_CODE = s.redJudge 2 ∧ t.fget ⟨Reg.BLK_EVT_RAW 0xB0, 9, 1⟩ = 1 ∧
      if s.redJudge 2 = 0 then t.role = rolePrimary ∧ t.red.cold = false else t.red = s.red ∧ t.role = s.role) ∧
  (∀ (r : Requester) (s : State), s.judgeWrite r Reg.RED_CMD 3 = 0 →
    Completes (.resync r) s fun t =>
      t.fget F.RED_RES_CODE = s.redJudge 3 ∧ t.fget ⟨Reg.BLK_EVT_RAW 0xB0, 9, 1⟩ = 1 ∧ t.role = s.role ∧
      if s.redJudge 3 = 0 then t.sync = syResyncing ∧ t.red.copied = [] ∧ t.red.patterns = [] else t.red = s.red ∧ t.sync = s.sync)

/-- R161: a force command of the primary waits on the standby for the latch instant the primary names, and takes effect there;
one whose instant has come takes effect at once. -/
def pairForces : Prop :=
  ∀ (k : Fin 3) (vid tag value level time at_ : Nat) (c : FrcCmd) (s : State), s.takesMirror = true → s.frc.idle = false →
    c = ⟨k.val + 1, ⟨vid, tag, value, level, time, !(s.outsOf vid).isEmpty, (s.forceFor vid).bind (·.orphan)⟩, .sup⟩ →
    Completes (.pairCommandRx (.force k.succ vid tag value level time at_)) s fun t =>
      if s.now < at_ then t.frc = { s.frc with agreed := some (c, at_) } ∧ t.regs = s.regs
      else t.frc.agreed = none ∧ t.frc.table = frcNext c s.frc.table ∧ t.frc.stored = frcNext c s.frc.stored

/-- R174, R371: the standby verifies the primary's package, arms with it and holds the commit instant it names; a package that
the partner has ended is ended here, with OLC_PAIR where it was refused. -/
def pairPackages : Prop :=
  (∀ (ws : List Word) (s : State), s.takesMirror = true → s.olcAt ≠ olcArmed → s.olcAt ≠ olcSwitching →
    Completes (.pairCommandRx (.package ws)) s fun t =>
      t.regN Reg.OLC_NEW_VIN = low 32 (fU32 (ws.map BitVec.toNat) 0x10) ∧ (t.olcAt = olcStaged ∨ t.olcAt = olcIdle) ∧
      (t.olcAt = olcStaged → t.olc.pkg = ws.map BitVec.toNat)) ∧
  (∀ (s : State), s.takesMirror = true → s.olcAt = olcStaged → s.armReady = false →
    Completes (.pairCommandRx .arm) s fun t => t.olcAt = olcIdle ∧ t.fget F.OLC_STAT_CODE = olcPair) ∧
  (∀ (p : Prog) (s : State), s.takesMirror = true → s.olcAt = olcStaged → s.armReady = true → s.olc.staged = some p →
    s.frcConflicts p s.olc.released = [] →
    Completes (.pairCommandRx .arm) s fun t => t.olcAt = olcArmed ∧ t.fget ⟨Reg.BLK_EVT_RAW 0x29, 2, 1⟩ = 1) ∧
  (∀ (at_ : Nat) (s : State), s.takesMirror = true → s.olcAt = olcArmed → s.now < at_ →
    Completes (.pairCommandRx (.commit at_)) s fun t =>
      t.olc = { s.olc with switchAt := some at_ } ∧ t.regs = s.regs) ∧
  (∀ (refused : Bool) (s : State), s.onPair = true → s.role = roleStandby ∨ s.role = rolePrimary →
    s.fgetB F.RED_STAT_PAIR_OK = true → 1 ≤ s.olcAt → s.olcAt ≤ olcArmed →
    Completes (.pairCommandRx (.ended refused)) s fun t =>
      t.olcAt = olcIdle ∧ t.fget F.OLC_STAT_CODE = (if refused then olcPair else olcAborted) ∧ t.prog = s.prog)

/-- R161, R174, R370 to R374, R380, R381: the join wait ends after JOIN_WAIT as PRIMARY or goes on while the partner starts; the primary sends the items of
a join and the standby takes them until it is SYNCED; a standby takes mirror data, latch sets and pair commands, no other unit
does.
The model's choices: log entries 6, 80, 82, 84, 158, 162, 163, 174 and 208. -/
def Obligations.PairJoins : Prop :=
  (∀ s : State, s.clk < s.red.joinAt + 1000000 * s.fget F.RED_TIMING_JOIN_WAIT →
    Completes .joinWaitExpiry s fun t => t = s) ∧
  (∀ s : State, s.red.joining = true → s.red.joinAt + 1000000 * s.fget F.RED_TIMING_JOIN_WAIT ≤ s.clk →
    s.pwr.base ≠ .unitB ∨ s.fgetB F.RED_STAT_PAIR_OK = false ∨
      (s.red.partner.state ≠ stStart ∧ s.red.partner.role ≠ rolePrimary) →
    Completes .joinWaitExpiry s fun t =>
      t.red.joining = false ∧ t.role = rolePrimary ∧ (t.modState = stRun ∨ t.modState = stRunDegraded) ∧
      t.fget ⟨Reg.BLK_EVT_RAW 0, 1, 1⟩ = 1) ∧
  (∀ s : State, s.red.joining = true → s.fgetB F.RED_STAT_PAIR_OK = true →
    s.red.partner.state = stStart ∨ s.red.partner.role = rolePrimary → s.pwr.base = .unitB →
    Completes .joinWaitExpiry s fun t => t = s) ∧
  (∀ s : State, s.red.joining = false → Completes .joinWaitExpiry s fun t => t = s) ∧
  (∀ (item : JoinItem) (s : State), s.ssp.stall = true → Completes (.joinContextCopy item) s fun t => t = s) ∧
  (∀ (ch : Fin 64) (vars : List Nat) (status time : Nat) (s : State), s.onPair = true → s.fgetB F.RED_STAT_PAIR_OK = true →
    s.role = rolePrimary → s.ssp.stall = false →
    Completes (.joinContextCopy (.hart ch vars status time)) s fun t =>
      t.outs = s.outs ++ [.frame .pair "join hart" (ch.val :: (s.hartItem ch.val).vars)] ∧ t.regs = s.regs) ∧
  (∀ (ch : Fin 64) (vars : List Nat) (status time : Nat) (s : State), s.onPair = true → s.fgetB F.RED_STAT_PAIR_OK = true →
    s.role = roleStandby → s.sync = sySyncing ∨ s.sync = syResyncing → s.ssp.stall = false →
    Completes (.joinContextCopy (.hart ch vars status time)) s fun t =>
      t.hartItem ch.val = { vars := vars, status := status, updated := true, time := time } ∧
      if s.allCopied = true then t.sync = sySynced ∧ t.red.demoted = false else t.sync = s.sync) ∧
  (∀ (c : Fin 256) (slots : List Word) (flags : Nat) (own : List (Nat × Nat)) (why : Nat) (s : State), s.onPair = true →
    s.fgetB F.RED_STAT_PAIR_OK = true → s.role = roleStandby → s.sync = sySyncing ∨ s.sync = syResyncing →
    s.ctxState c.val ≠ csActive → s.ssp.stall = false →
    Completes (.joinContextCopy (.context c slots flags own false why)) s fun t =>
      (t.cx c.val).slots = slots ∧ (t.cx c.val).flags = flags ∧ (t.cx c.val).own = own ∧ c.val ∈ t.red.copied) ∧
  (∀ (c : Fin 256) (slots own : List (Nat × Nat)) (s : State), s.takesMirror = true → (s.cx c.val).act ≠ .idle →
    Completes (.mirrorDataRx c slots own) s fun t =>
      t.cx c.val = { s.cx c.val with mirrorSlots := slots, mirrorOwn := own } ∧ t.regs = s.regs) ∧
  (∀ (c : Fin 256) (slots own : List (Nat × Nat)) (s : State), s.takesMirror = false →
    Completes (.mirrorDataRx c slots own) s fun t => t = s) ∧
  (∀ (c : Fin 256) (lt p0 p1 : Nat) (els : List (Nat × Nat × Nat × Int)) (lag : Nat) (s : State), s.takesMirror = true →
    Completes (.pairLatchSetRx (.latch c lt p0 p1 els lag)) s fun t =>
      (t.cx c.val).latchT = lt ∧ (t.cx c.val).pos0 = p0 ∧ (t.cx c.val).pos1 = p1 ∧
      t.regN Reg.PAIR_LAG_MAX = Nat.max (s.regN Reg.PAIR_LAG_MAX) (Nat.min lag (2 ^ 32 - 1)) ∧
      (∀ k, k ≠ c.val → t.cx k = s.cx k)) ∧
  (∀ (c : Fin 256) (code data : Nat) (mode : Option Bool) (s : State), s.takesMirror = true →
    Completes (.pairLatchSetRx (.answer c code data mode)) s fun t =>
      (t.cx c.val).wait = (s.cx c.val).wait.map (fun a => { a with code := code, data := a.data.map fun d => (d.1, d.2.1, data) }) ∧
      t.sol.waiting = (match mode with
        | none => s.sol.waiting
        | some m => s.sol.waiting.map fun j => if j.ctx = c.val then { j with pairFloat := m } else j) ∧ t.regs = s.regs) ∧
  (∀ (slot : Fin 16) (status iters bound : Nat) (x : List Nat) (s : State), s.takesMirror = true →
    s.sol.running.all (fun r => r.job.slot != slot.val) = true → s.sol.waiting.all (fun j => j.slot != slot.val) = true →
    Completes (.pairLatchSetRx (.result slot status iters bound x)) s fun t =>
      t = { s with red := { s.red with pairAt := s.clk } }) ∧
  (∀ (slot : Fin 16) (status iters bound : Nat) (x : List Nat) (j : SolJob) (s : State), s.takesMirror = true →
    s.sol.running.all (fun r => r.job.slot != slot.val) = true → s.sol.waiting = some j → j.slot = slot.val →
    Completes (.pairLatchSetRx (.result slot status iters bound x)) s fun t =>
      t.sol.waiting = none ∧ t.regN (Reg.SOL_JOB_RESULT slot.val) = low 32 status ∧
      t.regN (Reg.SOL_JOB_ITER slot.val) = low 32 iters ∧ t.regN (Reg.SOL_JOB_RSEQ slot.val) = low 32 j.seq ∧
      t.fget (F.SOL_JOB_STATE_STATE slot.val) = 0) ∧
  (∀ (m : Nat) (s : State),
    Completes (.pairLatchSetRx (.receipt m)) s fun t =>
      t.regs = s.regs ∧ t.red.partnerReceipt =
        (if s.onPair = true ∧ s.fgetB F.RED_STAT_PAIR_OK = true then low 128 m else s.red.partnerReceipt)) ∧
  pairForces ∧ pairPackages ∧
  (∀ (old : Nat) (s : State), s.takesMirror = true →
    Completes (.pairCommandRx (.epoch old)) s fun t =>
      epochOf (t.regN Reg.RED_CLAIM) = 1 ∧ t.red.oldEpoch = epochOf (s.regN Reg.RED_CLAIM)) ∧
  (∀ (c : PairCmd) (s : State), s.takesMirror = false → c ≠ .ended true → c ≠ .ended false →
    Completes (.pairCommandRx c) s fun t => t = s)

/-! ### Memory protection and the solver unit -/

/-- Beats of a burst with an error. -/
def beatsInError (errs : List (BitVec 8)) : Nat := ((errs.take 8).filter fun e => e != 0).length

/-- An uncorrectable error of a line shows its place, its region and the failing device. -/
def lineLost (s t : State) (addr : Word) (g : DramRegion) (retire : Bool) (dev : Nat) : Prop :=
  t.regN Reg.MEM_UE_ADDR = addr.toNat ∧ t.regN Reg.MEM_UE_INFO = 2 ^ 31 + g.code * 16 + dev ∧
  t.fget F.MEM_UE_CNT_COUNT = Nat.min (s.fget F.MEM_UE_CNT_COUNT + 1) (2 ^ 32 - 1) ∧ t.fget ⟨Reg.BLK_EVT_RAW 0xF0, 2, 1⟩ = 1 ∧
  (retire = true → t.fget F.MEM_RETIRED_LINES = Nat.min (s.fget F.MEM_RETIRED_LINES + 1) 65535)

/-- R390 to R396, R401, R202, R204, R208, R225: the rind corrects any error of one device, counts it and marks the device; with one
device marked it detects any error of a second; what it does not accept is shown with its place and handled by what the line held,
and a device whose threshold it reached is marked; a scrub, at its period, counts; the float self-test makes the solver ready after its time; a lane group that
fails leaves, and a fault takes the unit down with its jobs.
The model's choices: log entries 6, 74, 75, 178, 185, 206 and 207. -/
def Obligations.MemoryErrors : Prop :=
  (∀ (d : Fin 10) (errs : List (BitVec 8)) (addr : Word) (g : DramRegion) (retire : Bool) (n : Nat) (marks : Bool) (s : State),
    n = beatsInError errs → n ≠ 0 → s.markedDevice = none ∨ s.markedDevice = some d.val →
    marks = (decide (2 ≤ n) || decide (s.fget F.MEM_CFG_THR ≤ (s.devWindow d.val).length + 1)) →
    Completes (.dramCorrectedError d errs addr g retire) s fun t =>
      t.fget F.MEM_CE_CNT_COUNT = Nat.min (s.fget F.MEM_CE_CNT_COUNT + 1) (2 ^ 32 - 1) ∧
      t.fget (F.MEM_DEV_CNT_TOTAL d.val) = Nat.min (s.fget (F.MEM_DEV_CNT_TOTAL d.val) + 1) 65535 ∧
      t.fget (F.MEM_DEV_CNT_WINDOW d.val) = Nat.min ((s.devWindow d.val).length + 1) 65535 ∧
      t.fget ⟨Reg.BLK_EVT_RAW 0xF0, 0, 1⟩ = 1 ∧ t.regN Reg.MEM_UE_ADDR = s.regN Reg.MEM_UE_ADDR ∧
      (marks = true → t.fget F.MEM_STAT_MARKED = 1 ∧ t.fget F.MEM_STAT_DEVICE = d.val) ∧
      (marks = false → t.fget F.MEM_STAT_MARKED = s.fget F.MEM_STAT_MARKED)) ∧
  (∀ (d : Fin 10) (errs : List (BitVec 8)) (addr : Word) (g : DramRegion) (retire : Bool) (s : State), beatsInError errs = 0 →
    Completes (.dramCorrectedError d errs addr g retire) s fun t => t = s) ∧
  (∀ (d : Fin 10) (m : Nat) (errs : List (BitVec 8)) (addr : Word) (g : DramRegion) (retire : Bool) (s : State),
    beatsInError errs ≠ 0 → s.markedDevice = some m → m ≠ d.val → m < 10 →
    Completes (.dramCorrectedError d errs addr g retire) s fun t => lineLost s t addr g retire d.val) ∧
  (∀ (burst : List (List (BitVec 8))) (addr : Word) (g : DramRegion) (retire : Bool) (s : State),
    rindAccepts (rindBurst s.markedDevice burst) = false →
    Completes (.dramUncorrectableError burst addr g retire) s fun t =>
      lineLost s t addr g retire (s.secondDevice burst) ∧
      (∀ d n, rindNamed (rindBurst s.markedDevice burst) = some (d, n) → s.markedDevice = none → s.rindMarks d n = true →
        t.fget F.MEM_STAT_MARKED = 1) ∧
      (match g with
       | .display => t.dse.lines = [] ∧ t.dse.attrs = []
       | .can p num => (t.canPort p.val).ring = (s.canPort p.val).ring.map fun e =>
           if e.2.num = num then (e.1, { e.2 with lost := true }) else e
       | .supervisor => t.mem.supAt = some s.clk ∧ t.ssp.stall = true ∧
           ((∃ u, s.mem.supAt = some u ∧ s.clk < u + 600000000000) → t.modState = stHalt) ∧
           (s.mem.supAt = none → t.modState = s.modState)
       | .program => t.modState = s.modState
       | .recorder _ _ => t.modState = s.modState
       | .hart ch => (t.hartItem ch.val).noResponse = true
       | .unused => t.modState = s.modState)) ∧
  (∀ (m d i : Nat) (e1 e2 : BitVec 8) (burst : List (List (BitVec 8))) (addr : Word) (g : DramRegion) (retire : Bool) (s : State),
    s.markedDevice = some m → m < 10 → d < 10 → m ≠ d → e2 ≠ 0 → i < 8 →
    nth [] burst i = (upto 10).map (fun k => if k = m then e1 else if k = d then e2 else 0) →
    Completes (.dramUncorrectableError burst addr g retire) s fun t => lineLost s t addr g retire (s.secondDevice burst)) ∧
  (∀ s : State,
    Completes .patrolScrub s fun t =>
      if s.ssp.stall = true then t = s
      else if s.mem.patrol + 1 < dramLines then t.mem.patrol = s.mem.patrol + 1 ∧ t.regs = s.regs
      else t.mem.patrol = 0 ∧ t.regN Reg.MEM_PATROL = 0 ∧ t.fget ⟨Reg.BLK_EVT_RAW 0xF0, 5, 1⟩ = 1) ∧
  (∀ (n : Nat) (s : State), s.periodic .inner 3600000000000 = false → Completes (.innerCounterRead n) s fun t => t = s) ∧
  (∀ (n : Nat) (s : State), s.periodic .inner 3600000000000 = true →
    Completes (.innerCounterRead n) s fun t =>
      t.timedAt .inner = some s.clk ∧ t.fget F.MEM_INNER_CNT_COUNT = Nat.min (s.fget F.MEM_INNER_CNT_COUNT + n) (2 ^ 32 - 1) ∧
      ∀ o, o ≠ Reg.MEM_INNER_CNT → t.reg o = s.reg o) ∧
  (∀ (e : Option (Fin 16)) (n : Nat) (s : State),
    s.periodic (.scrub (e.map (·.val))) (if e.isSome = true then 1000000000 else 10000000000) = false →
    Completes (.sramScrub e n) s fun t => t = s) ∧
  (∀ (e : Option (Fin 16)) (n : Nat) (s : State),
    s.periodic (.scrub (e.map (·.val))) (if e.isSome = true then 1000000000 else 10000000000) = true →
    Completes (.sramScrub e n) s fun t =>
      t.timedAt (.scrub (e.map (·.val))) = some s.clk ∧
      if n = 0 then t = { s with since := t.since }
      else
        t.fget F.MEM_SRAM_CE_CNT_COUNT = Nat.min (s.fget F.MEM_SRAM_CE_CNT_COUNT + n) (2 ^ 32 - 1) ∧
        t.fget ⟨Reg.BLK_EVT_RAW 0xF0, 3, 1⟩ = 1 ∧
        ∀ k, e = some k → t.fget (F.ENG_MEM_CNT_COUNT k.val) = Nat.min (s.fget (F.ENG_MEM_CNT_COUNT k.val) + n) (2 ^ 32 - 1) ∧
          t.fget ⟨Reg.BLK_EVT_RAW (0x10 + k.val), 5, 1⟩ = 1) ∧
  (∀ (addr : Word) (c : Fin 256) (el : Nat) (s : State),
    Completes (.sramUncorrectableError addr (.output c el)) s fun t =>
      t.regN Reg.MEM_UE_ADDR = addr.toNat ∧ t.regN Reg.MEM_UE_INFO = 2 ^ 31 + 512 ∧
      t.fget F.MEM_SRAM_UE_CNT_COUNT = Nat.min (s.fget F.MEM_SRAM_UE_CNT_COUNT + 1) (2 ^ 32 - 1) ∧
      (t.cx c.val).lostOut = el :: (s.cx c.val).lostOut) ∧
  (∀ (addr : Word) (c : Fin 256) (el : Nat) (s : State),
    Completes (.sramUncorrectableError addr (.input c el)) s fun t =>
      t.cx c.val = { s.cx c.val with inputs := setNth (s.cx c.val).inputs el { (nth {} (s.cx c.val).inputs el) with quality := 2 + 4 * 18 } } ∧
      ∀ k, k ≠ c.val → t.cx k = s.cx k) ∧
  (∀ (addr : Word) (s : State), s.role = roleStandby → s.sync = sySynced ∨ s.sync = syUnmirrored →
    Completes (.sramUncorrectableError addr .mirror) s fun t =>
      t.sync = syResyncing ∧ t.red.copied = [] ∧ t.red.patterns = [] ∧ t.role = roleStandby) ∧
  (∀ (addr : Word) (s : State), s.olcAt = olcArmed ∨ s.olcAt = olcSwitching →
    Completes (.sramUncorrectableError addr .package) s fun t =>
      t.olcAt = olcIdle ∧ t.fget F.OLC_STAT_CODE = olcAborted ∧ t.prog = s.prog) ∧
  (∀ (addr : Word) (k : Fin 16) (j : SolJob) (s : State), s.sol.waiting = some j → j.slot = k.val →
    Completes (.sramUncorrectableError addr (.job k)) s fun t => t.sol.waiting = none ∧ t.sol.running = s.sol.running) ∧
  (∀ (addr : Word) (n : Fin 16) (places : List Nat) (s : State), s.engState n.val ≠ esFault →
    Completes (.sramUncorrectableError addr (.engine n places)) s fun t => t.engState n.val = esFault ∧ t.engAvail n.val = false) ∧
  (∀ (addr : Word) (n : Fin 16) (places : List Nat) (s : State), s.engState n.val = esFault →
    Completes (.sramUncorrectableError addr (.engine n places)) s fun t =>
      t.engState n.val = esFault ∧ (∀ p ∈ places, p ∈ (t.eng n.val).withdrawn) ∧
      (places ≠ [] → t.fget ⟨Reg.BLK_EVT_RAW (0x10 + n.val), 6, 1⟩ = 1) ∧
      ∀ c ∈ s.residents n.val, (s.cx c).place ∈ places → t.ctxState c = csStopped) ∧
  (∀ (addr : Word) (l : Fin 8) (s : State),
    Completes (.sramUncorrectableError addr (.store l)) s fun t => t.fget F.SOL_STAT_FLOAT_READY = 0 ∧ t.sol.running = none) ∧
  (∀ (ns fail : Nat) (s : State), s.sol.running = none → s.sol.waiting = none → s.fgetB F.SOL_STAT_FLOAT_READY = false →
    s.solGroups ≠ 0 →
    Completes (.floatSelftestChunk ns 0 true fail) s fun t =>
      if selfTestNs ≤ s.sol.tested + Nat.min ns 2000 then
        t.fget F.SOL_STAT_FLOAT_READY = 1 ∧ t.fget F.SOL_TEST_RESULT = 2 ∧ t.sol.down = false ∧ t.fget ⟨Reg.BLK_EVT_RAW 0x30, 5, 1⟩ = 1
      else t.sol.tested = s.sol.tested + Nat.min ns 2000 ∧ t.fget F.SOL_STAT_FLOAT_READY = 0 ∧ t.fget F.SOL_TEST_RESULT = 1) ∧
  (∀ (ns fail : Nat) (j : SolJob) (s : State), s.sol.running = none → s.sol.waiting = some j →
    s.fgetB F.SOL_STAT_FLOAT_READY = false → s.solGroups ≠ 0 →
    Completes (.floatSelftestChunk ns 0 true fail) s fun t => t.sol.tested = s.sol.tested ∧ t.fget F.SOL_STAT_FLOAT_READY = 0) ∧
  (∀ (ns fail : Nat) (g : Fin 16) (divOk : Bool) (r : SolRun) (s : State), s.sol.running = some r →
    Completes (.floatSelftestChunk ns g divOk fail) s fun t =>
      t.sol.running = some r ∧ t.sol.tested = s.sol.tested ∧ t.regN Reg.SOL_TEST = s.regN Reg.SOL_TEST ∧
      t.fget F.SOL_STAT_FLOAT_READY = s.fget F.SOL_STAT_FLOAT_READY) ∧
  (∀ (ns fail : Nat) (g : Fin 4) (m : Fin 16) (s : State), s.sol.running = none → s.fgetB F.SOL_STAT_FLOAT_READY = true →
    m.val = 2 ^ g.val → bit (s.fget F.SOL_TEST_GROUP_OK) g.val = true →
    Completes (.floatSelftestChunk ns m true fail) s fun t =>
      t.fget F.SOL_TEST_GROUP_OK = s.fget F.SOL_TEST_GROUP_OK &&& (15 - 2 ^ g.val) ∧
      t.fget F.SOL_TEST_FAIL_CODE = Nat.max 1 (low 16 fail) ∧ t.fget F.SOL_STAT_FLOAT_READY = 0 ∧
      t.fget ⟨Reg.BLK_EVT_RAW 0x30, 12, 1⟩ = 1) ∧
  (∀ (ns fail : Nat) (g : Fin 16) (s : State), s.sol.running = none →
    Completes (.floatSelftestChunk ns g false fail) s fun t =>
      t.fget F.SOL_TEST_DIV_OK = 0 ∧ t.fget F.SOL_TEST_RESULT = 3 ∧ t.fget F.SOL_STAT_FLOAT_READY = 0 ∧ t.sol.down = true) ∧
  (∀ (g : Fin 4) (s : State), bit (s.fget F.SOL_TEST_GROUP_OK) g.val = true →
    Completes (.laneGroupFault g) s fun t =>
      t.fget F.SOL_TEST_GROUP_OK = s.fget F.SOL_TEST_GROUP_OK &&& (15 - 2 ^ g.val) ∧ t.sol.running = none ∧
      t.fget F.SOL_STAT_FLOAT_READY = 0 ∧ t.fget ⟨Reg.BLK_EVT_RAW 0x30, 12, 1⟩ = 1) ∧
  (∀ (g : Fin 4) (s : State), bit (s.fget F.SOL_TEST_GROUP_OK) g.val = false →
    Completes (.laneGroupFault g) s fun t => t = s) ∧
  (∀ (divide : Bool) (s : State),
    Completes (.solverFault divide) s fun t =>
      t.sol.down = true ∧ t.sol.running = none ∧ t.sol.waiting = none ∧ t.fget (F.BLK_STAT_FAULT 0x30) = 1 ∧
      t.fget (F.BLK_STAT_READY 0x30) = 0 ∧ t.fget F.SOL_STAT_FLOAT_READY = 0 ∧ (divide = true → t.fget F.SOL_TEST_DIV_OK = 0) ∧
      ∀ e ∈ t.sol.results, e.2.faulted = true)

/-! ### Recorder and cellar -/

/-- R397 to R401, R404, R406, R409, R411: a record is queued or counted as dropped; the oldest one becomes durable in the first
area while that has room, else in the ring; a cellar record becomes durable or its failure counts, each record of a region of the label for itself; read-only
takes no more, and nothing becomes durable while the supervisor stalls.
The model's choices: log entries 6, 71, 73, 77 and 208. -/
def Obligations.RecorderAndCellar : Prop :=
  (∀ (sev : Fin 8) (typ src : Nat) (words : List Word) (r : EvRec) (s : State), s.powerFailing = false →
    s.fgetB F.CEL_STAT_READONLY = false → r = s.mkRec sev.val 0 (low 16 typ) (low 12 src) ((words.take 252).map BitVec.toNat) →
    Completes (.recordAccept false sev typ src words) s fun t =>
      if s.queueTakes r = true then
        t.evr.queue = s.evr.queue ++ [r] ∧ t.fget F.EVR_REC_CNT_VALUE = (s.fget F.EVR_REC_CNT_VALUE + 1) % 2 ^ 32
      else t.evr.queue = s.evr.queue ∧ t.evr.refusedFill = s.evr.refusedFill + 1 ∧
        t.fget F.EVR_DROP_CNT_VALUE = Nat.min (s.fget F.EVR_DROP_CNT_VALUE + 1) (2 ^ 32 - 1) ∧ t.fget ⟨Reg.BLK_EVT_RAW 0xD0, 2, 1⟩ = 1) ∧
  (∀ (sev : Fin 8) (typ src : Nat) (words : List Word) (r : EvRec) (s : State), s.powerFailing = false →
    r = s.mkRec sev.val 3 (low 16 typ) (low 12 src) ((words.take 252).map BitVec.toNat) →
    Completes (.recordAccept true sev typ src words) s fun t =>
      t.evr.queue = s.evr.queue ∧
      t.evr.island = (if recBytes s.evr.island + r.bytes ≤ islandBytes then s.evr.island ++ [r] else s.evr.island)) ∧
  (∀ (us : Nat) (r : EvRec) (l : List EvRec) (s : State), s.evr.island = [] → s.evr.queue = r :: l →
    s.fgetB F.CEL_STAT_READONLY = false → s.evr.refusedFill = 0 → s.ssp.stall = false →
    Completes (.recordDurable us) s fun t =>
      t.evr.queue = l ∧ t.regN Reg.EVR_COMMIT_MAX = Nat.max (s.regN Reg.EVR_COMMIT_MAX) (Nat.min us (2 ^ 32 - 1)) ∧
      if s.firstTakes r = true then t.evr.first = areaPut s.evr.first (s.regN Reg.EVR_PCC) r ∧ t.evr.ring = s.evr.ring
      else t.evr.ring = ringTrim (areaPut s.evr.ring (s.regN Reg.EVR_PCC) r) ∧ t.fget F.EVR_STAT_FIRST_FULL = 1) ∧
  (∀ (us : Nat) (r : EvRec) (l : List EvRec) (s : State), s.evr.island = r :: l →
    Completes (.recordDurable us) s fun t =>
      if s.fgetB F.CEL_STAT_READONLY = true ∨ s.ssp.stall = true then t = s
      else t.evr.island = l ∧ t.evr.queue = s.evr.queue) ∧
  (∀ (us : Nat) (s : State), s.ssp.stall = true → Completes (.recordDurable us) s fun t => t = s) ∧
  (∀ s : State, s.ssp.stall = true ∨ s.periodic .optime 60000000000 = false → Completes .optimeStore s fun t => t = s) ∧
  (∀ s : State, s.powerFailing = false → s.ssp.stall = false → s.periodic .optime 60000000000 = true →
    Completes .optimeStore s fun t => t.timedAt .optime = some s.clk ∧ t.cel.optimeReq = s.optime ∧ CelRec.optime ∈ t.cel.requests ∧ t.regs = s.regs) ∧
  (∀ (ok : Bool) (us : Nat) (r : CelRec) (l : List CelRec) (s : State), s.cel.requests = r :: l → s.powered = true →
    s.fgetB F.CEL_STAT_READONLY = false → s.ssp.stall = false →
    Completes (.cellarRecordDurable ok us) s fun t =>
      if ok = true then
        t.cel.requests = l ∧ t.cel.seqs = mapSet s.cel.seqs r (low 32 (mapGet 0 s.cel.seqs r + 1)) ∧
        t.regN Reg.CEL_WR_MAX = Nat.max (s.regN Reg.CEL_WR_MAX) (Nat.min us (2 ^ 32 - 1)) ∧
        (∀ k, r = .label k → (t.region k).durable =
          { (s.region k).durable with phase := (s.region k).phase, target := (s.region k).target, band := (s.region k).band }) ∧
        (∀ k, r = .shown k → (t.region k).durable = { (s.region k).durable with shown := (s.region k).shown }) ∧
        (r = .optime → t.cel.optime = Nat.max s.cel.optime s.cel.optimeReq) ∧
        (r = .forceTable → s.frc.idle = false → s.olc.marker = none → t.frc.stored = s.frc.table)
      else t.cel = s.cel ∧ t.fget F.CEL_ERR_CNT_VALUE = Nat.min (s.fget F.CEL_ERR_CNT_VALUE + 1) (2 ^ 32 - 1) ∧
        t.fget ⟨Reg.BLK_EVT_RAW 0xF1, 0, 1⟩ = 1) ∧
  (∀ (ok : Bool) (us : Nat) (s : State), s.cel.requests = [] ∨ s.powered = false ∨
      s.fgetB F.CEL_STAT_READONLY = true ∨ s.ssp.stall = true →
    Completes (.cellarRecordDurable ok us) s fun t => t = s) ∧
  (∀ s : State, s.fgetB F.CEL_STAT_READONLY = true → Completes .cellarReadOnly s fun t => t = s) ∧
  (∀ s : State, s.fgetB F.CEL_STAT_READONLY = false →
    Completes .cellarReadOnly s fun t =>
      t.fget F.CEL_STAT_READONLY = 1 ∧ t.fget F.CEL_LIFE_SPARE = 0 ∧ t.fget F.CEL_STAT_LIFE_WARN = 1 ∧
      t.fget ⟨Reg.BLK_EVT_RAW 0xF1, 3, 1⟩ = 1 ∧ (s.olcAt = olcReceiving → t.olcAt = olcIdle ∧ t.fget F.OLC_STAT_CODE = olcSpace))

/-! ### Label, panel and buttons -/

/-- R438 to R444, R455: an update waits for the interval or begins with its durable record; a frame, every 20 ms, shows temperature, band and
drive voltage, and a bad table is a panel fault; REFRESH and CLEAN wait for idle pixels or are refused.
The model's choices: log entries 6, 86, 87, 88 and 89. -/
def Obligations.LabelCommands : Prop :=
  (∀ (r : Fin 6) (levels : List (Fin 4)) (l : List Nat) (s : State), s.powered = true → s.fgetB F.DSB_STAT_PANEL_FAULT = false →
    l = (if r.val = 5 then s.forceMarker else fillTo 0 (regionSize r.val) (levels.map Fin.val)) →
    Completes (.labelUpdateRequest r levels) s fun t =>
      if s.labelHeld r.val = true then (t.region r.val).held = some l ∧ t.regs = s.regs ∧ (∀ k, k ≠ r.val → t.region k = s.region k)
      else (t.region r.val).target = l ∧ (t.region r.val).phase ≠ 0 ∧ (t.region r.val).started = some s.clk ∧
        (t.region r.val).held = none ∧ (s.powerFailing = false → CelRec.label r.val ∈ t.cel.requests)) ∧
  (∀ (r : Fin 6) (s : State), (s.region r.val).held = none ∨ s.labelHeld r.val = true →
    Completes (.labelIntervalExpiry r) s fun t => t = s) ∧
  (∀ (r : Fin 6) (l : List Nat) (s : State), s.powered = true → s.fgetB F.DSB_STAT_PANEL_FAULT = false → (s.region r.val).held = some l →
    s.labelHeld r.val = false →
    Completes (.labelIntervalExpiry r) s fun t =>
      (t.region r.val).target = fillTo 0 (regionSize r.val) l ∧ (t.region r.val).held = none ∧ (t.region r.val).started = some s.clk) ∧
  (∀ (temp : Int) (bad : Bool) (s : State), s.periodic .labelFrame 20000000 = false →
    Completes (.labelFrame temp bad) s fun t => t = s) ∧
  (∀ (temp : Int) (s : State), s.powered = true → s.fgetB F.DSB_STAT_PANEL_FAULT = false → s.periodic .labelFrame 20000000 = true →
    Completes (.labelFrame temp true) s fun t =>
      t.fget F.DSB_STAT_PANEL_FAULT = 1 ∧ t.fget ⟨Reg.BLK_EVT_RAW 0xE0, 4, 1⟩ = 1 ∧ t.dsb = s.dsb ∧ t.outs = s.outs) ∧
  (∀ (temp : Int) (s : State), s.powered = true → s.fgetB F.DSB_STAT_PANEL_FAULT = false → s.periodic .labelFrame 20000000 = true →
    Completes (.labelFrame temp false) s fun t =>
      t.timedAt .labelFrame = some s.clk ∧ t.regN Reg.DSB_TEMP = (temp % 65536).toNat ∧ t.regN Reg.DSB_VDRV = bandVdrv (t.fget F.DSB_STAT_BAND) ∧
      t.fget F.DSB_STAT_BAND =
        (if (regions.any fun r => (s.pixels r).any fun p => p.drive.wave.isSome) = true then s.fget F.DSB_STAT_BAND
         else bandFor temp (s.fget F.DSB_STAT_BAND)) ∧
      (s.dsb.wait = 0 → s.fgetB F.DSB_STAT_CLEAN = false → ∀ r ∈ regions,
        (t.pixels r).map (fun p => p.level) = (s.pixels r).map fun p => p.drive.level)) ∧
  (∀ (cmd : Nat) (i : Requester → Instr) (r : Requester) (s : State), (cmd = 1 ∧ i = .refresh) ∨ (cmd = 2 ∧ i = .clean) →
    s.judgeWrite r Reg.DSB_CMD cmd = 0 →
    Completes (i r) s fun t =>
      t.outs = s.outs ++ [.access r Reg.DSB_CMD 0 0] ∧ t.dsb.regions = s.dsb.regions ∧
      if s.fgetB F.DSB_STAT_PANEL_FAULT = true then t.fget F.DSB_RES_CODE = 2 ∧ t.dsb = s.dsb
      else if s.fgetB F.DSB_STAT_CLEAN = true then t.fget F.DSB_RES_CODE = 1 ∧ t.dsb = s.dsb
      else t.fget F.DSB_RES_CODE = 0 ∧ t.dsb.wait = Nat.max s.dsb.wait cmd)

/-- R446 to R454, R457: a render, every 100 ms, writes the frame, takes up a swap, and forgets what a lost panel showed; dimming waits for its
conditions; a press is shown and counted unless it is ignored, and moves page, menu or reference; the lamp test runs its
renders; SET opens a local session where nothing denies it, a long press ends it; opening LOCAL_CAL ends every local session.
The model's choices: log entries 6, 86, 110, 111, 112, 113 and 114. -/
def Obligations.PanelAndButtons : Prop :=
  (∀ (body : List (List Nat)) (attrs : List Nat) (ok mapOk : Bool) (s : State), s.periodic .panel 100000000 = false →
    Completes (.panelRender body attrs ok mapOk) s fun t => t = s) ∧
  (∀ (body : List (List Nat)) (attrs : List Nat) (ok mapOk : Bool) (s : State), s.powered = true →
    s.periodic .panel 100000000 = true →
    Completes (.panelRender body attrs ok mapOk) s fun t =>
      t.timedAt .panel = some s.clk ∧ t.fget F.DSE_STAT_PAGE = s.pageShown ∧ (s.dimBarred = true → t.fget F.DSE_STAT_DIMMED = 0) ∧
      t.fgetB F.DSE_STAT_PANEL_OK = ok ∧ t.dse.lamp = s.dse.lamp - 1 ∧
      t.fgetB F.DSE_STAT_LAMP_TEST = decide (0 < s.dse.lamp) ∧
      (s.fgetB F.DSE_PCTL_SWAP = true → t.fget F.DSE_PCTL_SWAP = 0 ∧ t.dse.text = (upto 112).map (fun k => s.reg (Reg.DSE_PTEXT k)) ∧
        t.dse.blink = (upto 14).map fun k => s.reg (Reg.DSE_PBLINK k)) ∧
      (s.fgetB F.DSE_PCTL_SWAP = false → t.dse.text = s.dse.text ∧ t.dse.blink = s.dse.blink) ∧
      (t.dse.lines, t.dse.attrs) =
        (if ok = false then ([], []) else if 0 < s.dse.lamp then lampFrame s.dse.lamp
         else t.panelFrame s.pageShown body attrs)) ∧
  (∀ (r : Requester) (s : State), s.judgeWrite r Reg.DSE_PCTL 1 = 0 →
    Completes (.swap r) s fun t => t.outs = s.outs ++ [.access r Reg.DSE_PCTL 0 0] ∧ t.fget F.DSE_PCTL_SWAP = 1 ∧ t.dse = s.dse) ∧
  (∀ s : State,
    Completes .panelDim s fun t =>
      if s.powered = true ∧ s.dimBarred = false ∧ s.dimDue = true then t.fget F.DSE_STAT_DIMMED = 1 ∧ t.dse = s.dse
      else t = s) ∧
  (∀ (k : Fin 3) (held : Fin 8) (s : State), s.pressIgnored = false →
    Completes (.buttonPress k held) s fun t =>
      t.fget ⟨Reg.BTN_STAT, 0, 3⟩ = held.val ∧ t.fget F.BTN_LAST_KIND = 0 ∧ t.fget F.BTN_LAST_BUTTON = k.val ∧
      t.fget F.BTN_PRESS_CNT_COUNT = Nat.min (s.fget F.BTN_PRESS_CNT_COUNT + 1) (2 ^ 32 - 1) ∧ t.fget F.DSE_STAT_DIMMED = 0 ∧
      t.fget ⟨Reg.BLK_EVT_RAW 0xE2, 0, 1⟩ = 1 ∧
      (s.fgetB F.DSE_CFG_HOLD_PROG = true → t.btn = s.btn) ∧
      (s.fgetB F.DSE_CFG_HOLD_PROG = false → s.fget F.BTN_STAT_CAL_STEP = 0 → k.val ≠ btnSet →
        t.btn.page = neighbour s.pages (k.val == btnUp) s.pageShown) ∧
      (s.fgetB F.DSE_CFG_HOLD_PROG = false → s.fget F.BTN_STAT_CAL_STEP = 0 → k.val = btnSet → s.pageShown = 8 →
        t.fget F.BTN_STAT_CAL_STEP = 1)) ∧
  (∀ (k : Fin 3) (held : Fin 8) (s : State), s.pressIgnored = false → s.fgetB F.DSE_CFG_HOLD_PROG = false →
    s.fget F.BTN_STAT_CAL_STEP = 1 → k.val ≠ btnSet →
    Completes (.buttonPress k held) s fun t =>
      t.btn = { s.btn with sel := neighbour s.lcalChannels (k.val == btnUp) s.btn.sel } ∧ t.fget F.BTN_STAT_CAL_STEP = 1) ∧
  (∀ (k : Fin 3) (held : Fin 8) (s : State), s.pressIgnored = false → s.fgetB F.DSE_CFG_HOLD_PROG = false →
    s.fget F.BTN_STAT_CAL_STEP = 1 → k.val = btnSet →
    Completes (.buttonPress k held) s fun t =>
      if s.calDenied s.calSel true = true then
        t.fget F.BTN_STAT_CAL_STEP = 1 ∧ t.btn = s.btn ∧ t.fget (F.CH_RES_CODE s.calSel) = 6 ∧ t.chans = s.chans
      else t.fget F.BTN_STAT_CAL_STEP = 2 ∧ t.fget F.BTN_STAT_CAL_OPEN = 1 ∧ t.btn = { s.btn with ref := 4000 } ∧
        (t.chan s.calSel).cal = some { isLocal := true, num := 0 } ∧ t.fget ⟨Reg.BLK_EVT_RAW 0xE2, 1, 1⟩ = 1) ∧
  (∀ (held : Fin 8) (cs : CalSession) (s : State), s.pressIgnored = false → s.fgetB F.DSE_CFG_HOLD_PROG = false →
    2 ≤ s.fget F.BTN_STAT_CAL_STEP → (s.chan s.calSel).cal = some cs → cs.isLocal = true →
    Completes (.buttonLongPress held) s fun t =>
      (t.chan s.calSel).cal = none ∧ t.fget F.BTN_STAT_CAL_STEP = 1 ∧ t.fget F.BTN_STAT_CAL_OPEN = 0 ∧
      t.fget (F.CH_RES_CODE s.calSel) = 0) ∧
  (∀ (k : Fin 3) (held : Fin 8) (s : State), s.pressIgnored = true →
    Completes (.buttonPress k held) s fun t =>
      t.fget ⟨Reg.BTN_STAT, 0, 3⟩ = held.val ∧ t.btn = s.btn ∧ ∀ o, o ≠ Reg.BTN_STAT → t.reg o = s.reg o) ∧
  (∀ (held : Fin 8) (s : State), s.pressIgnored = false →
    Completes (.buttonLongPress held) s fun t =>
      t.fget F.BTN_LAST_KIND = 1 ∧ t.fget F.BTN_LAST_BUTTON = btnSet ∧
      t.fget F.BTN_PRESS_CNT_COUNT = Nat.min (s.fget F.BTN_PRESS_CNT_COUNT + 1) (2 ^ 32 - 1) ∧
      (s.fgetB F.DSE_CFG_HOLD_PROG = false → s.fget F.BTN_STAT_CAL_STEP = 1 → t.fget F.BTN_STAT_CAL_STEP = 0)) ∧
  (∀ (down : Bool) (held : Fin 8) (lo hi : Nat) (s : State), s.pressIgnored = false →
    (s.fget F.BTN_STAT_CAL_STEP = 2 ∧ lo = 3000 ∧ hi = 5000) ∨ (s.fget F.BTN_STAT_CAL_STEP = 3 ∧ lo = 19000 ∧ hi = 21000) →
    Completes (.buttonRepeat down held) s fun t =>
      t.fget F.BTN_LAST_KIND = 2 ∧ t.fget F.BTN_LAST_BUTTON = (if down then btnDown else btnUp) ∧
      t.btn.ref =
        (let n := if down then s.btn.ref - 1 else s.btn.ref + 1
         if lo ≤ n ∧ n ≤ hi then n else s.btn.ref)) ∧
  (∀ (held : Fin 8) (s : State), s.pressIgnored = false → s.fgetB F.BTN_STAT_CAL_OPEN = false →
    Completes (.lampTest held) s fun t =>
      t.dse.lamp = 100 ∧ t.fget F.DSE_STAT_LAMP_TEST = 1 ∧ t.fget F.BTN_LAST_KIND = 1 ∧ t.fget F.BTN_LAST_BUTTON = 3) ∧
  (∀ (closed : Bool) (s : State), s.powered = false →
    Completes (.localCalChange closed) s fun t => t.btn = { s.btn with localCal := closed } ∧ t.regs = s.regs) ∧
  (∀ (closed : Bool) (s : State), s.powered = true →
    Completes (.localCalChange closed) s fun t =>
      t.btn.localCal = closed ∧ t.fgetB F.BTN_STAT_LOCAL_CAL = closed ∧ t.fget ⟨Reg.BLK_EVT_RAW 0xE2, 3, 1⟩ = 1 ∧
      (closed = false → ∀ n, n < 64 → ∀ cs, (t.chan n).cal = some cs → cs.isLocal = false))

/-! ### The whole machine -/

/-- The register store keeps its canonical form in every step, from every state and not only those a run reaches.
The model's choice: log entry 5. -/
def Obligations.EveryStepKeepsTheStoreCanonical : Prop :=
  ∀ s t : State, s.canonical = true → step s = .next t → t.canonical = true

/-- R7, R51, R60: at reset nothing waits, the module is in START, every page is locked, no event pends and no line is asserted,
and the store is canonical.
The model's choice: log entry 4. -/
def Obligations.ResetState : Prop :=
  State.reset.pending = [] ∧ State.reset.canonical = true ∧ State.reset.modState = stStart ∧ State.reset.outs = [] ∧
  (∀ p ∈ headedPages, State.reset.pageLocked p = true ∧ State.reset.holderOf p = none ∧ State.reset.evtPend p = 0 ∧
    State.reset.reg (Reg.BLK_EVT_EN p) = 0) ∧
  ∀ n, n < 256 → State.reset.lineAsserted n = false

/-- The commands that may change the module state: module commands, the start and the join, heartbeats, faults of references,
supervisor, temperature, engines and memory, and the register accesses that can carry a module command. -/
def mayChangeState : Instr → Bool
  | .commission .. | .stop .. | .run .. | .sysRestart .. | .moduleStart .. | .joinWaitExpiry | .pairHeartbeatRx ..
  | .powerDownOutputsOff | .supervisorWatchdogExpiry | .referenceFault | .thermalTrip | .engineFault .. | .engineParkBegin
  | .engineReturn | .engTestComplete .. | .dramCorrectedError .. | .dramUncorrectableError .. | .sramUncorrectableError ..
  | .registerWrite .. | .reg64LoWrite .. | .reg64HiWrite .. | .evtTest .. | .evtPendClear .. | .pageLock .. | .pageUnlock ..
  | .rwr .. | .rwr64 .. | .rwrx .. | .sspRegWrite .. => true
  | _ => false

/-- R11: the module state changes only on its causes: every other command, from any state, completes and leaves it. -/
def Obligations.ModuleStateChangesOnlyOnItsCauses : Prop :=
  ∀ (i : Instr) (s : State), mayChangeState i = false → Completes i s fun t => t.modState = s.modState

/-- R100, R101: an instruction that its words can hold is read back from them with every operand; and two words that decode are
the words of the instruction they decode to, so that no two words of one length spell the same instruction.
The model's choice: log entry 165. -/
def Obligations.InstructionWordsRoundTrip : Prop :=
  (∀ i : Insn, i.wellFormed = true → decodeInsn (encodeInsn i).1 (encodeInsn i).2 = some i) ∧
  (∀ (w0 w1 : Nat) (i : Insn), w0 < 2 ^ 32 → w1 < 2 ^ 32 → decodeInsn w0 w1 = some i →
    i.wellFormed = true ∧ (encodeInsn i).1 = w0 ∧ (opWords (bits w0 24 8) = some 2 → (encodeInsn i).2 = w1)) ∧
  (∀ (i : Instr) (c : Nat) (x : Insn), i.insn = some (c, x) → i.wellFormed = true →
    decodeInsn (encodeInsn x).1 (encodeInsn x).2 = some x)
end

