-- ==== Sys2Proof/Laws/Store.lean ====
section
/-! SUPPORT. Laws of the association lists: what is read after a write, and that the sorted store keeps its canonical form. -/

namespace Sys2Proof.Machine

variable {α : Type}

@[simp] theorem storeGet_storePut_same (d : α) (m : List (Nat × α)) (k : Nat) (v : α) :
    storeGet d (storePut m k v) k = v := by
  induction m with
  | nil => simp [storePut, storeGet]
  | cons e m ih =>
    obtain ⟨j, w⟩ := e
    simp only [storePut]
    split
    · simp [storeGet]
    · split
      · simp [storeGet]
      · have : j ≠ k := by omega
        simp [storeGet, this, ih]

theorem storeGet_storePut_ne (d : α) (m : List (Nat × α)) {k j : Nat} (v : α) (h : j ≠ k) :
    storeGet d (storePut m k v) j = storeGet d m j := by
  induction m with
  | nil => simp [storePut, storeGet, Ne.symm h]
  | cons e m ih =>
    obtain ⟨i, w⟩ := e
    simp only [storePut]
    split
    · simp [storeGet, Ne.symm h]
    · split
      · subst_vars; simp [storeGet, Ne.symm h]
      · simp [storeGet, ih]

@[simp] theorem storeGet_storeErase_same (d : α) (m : List (Nat × α)) (k : Nat) :
    storeGet d (storeErase m k) k = d := by
  induction m with
  | nil => rfl
  | cons e m ih =>
    obtain ⟨j, w⟩ := e
    simp only [storeErase]
    split
    · exact ih
    · rename_i h; simp [storeGet, h, ih]

theorem storeGet_storeErase_ne (d : α) (m : List (Nat × α)) {k j : Nat} (h : j ≠ k) :
    storeGet d (storeErase m k) j = storeGet d m j := by
  induction m with
  | nil => rfl
  | cons e m ih =>
    obtain ⟨i, w⟩ := e
    simp only [storeErase]
    split
    · subst_vars; simp [storeGet, Ne.symm h, ih]
    · simp [storeGet, ih]

/-- Reading the key just written gives the value written. -/
@[simp] theorem storeGet_storeSet_same [DecidableEq α] (d : α) (m : List (Nat × α)) (k : Nat) (v : α) :
    storeGet d (storeSet d m k v) k = v := by
  unfold storeSet
  split
  · subst_vars; simp
  · simp

/-- A write leaves every other key as it was. -/
theorem storeGet_storeSet_ne [DecidableEq α] (d e : α) (m : List (Nat × α)) {k j : Nat} (v : α) (h : j ≠ k) :
    storeGet e (storeSet d m k v) j = storeGet e m j := by
  unfold storeSet
  split
  · exact storeGet_storeErase_ne e m h
  · exact storeGet_storePut_ne e m v h

theorem keysRise_mono {lo lo' : Nat} {m : List (Nat × α)} (h : lo' ≤ lo) (hm : keysRise lo m = true) :
    keysRise lo' m = true := by
  cases m with
  | nil => rfl
  | cons e m =>
    obtain ⟨k, v⟩ := e
    simp only [keysRise, Bool.and_eq_true, decide_eq_true_eq] at hm ⊢
    exact ⟨by omega, hm.2⟩

theorem keysRise_storePut {lo k : Nat} {m : List (Nat × α)} (v : α) (hk : lo ≤ k) (hm : keysRise lo m = true) :
    keysRise lo (storePut m k v) = true := by
  induction m generalizing lo with
  | nil => simp [storePut, keysRise, hk]
  | cons e m ih =>
    obtain ⟨j, w⟩ := e
    simp only [keysRise, Bool.and_eq_true, decide_eq_true_eq] at hm
    simp only [storePut]
    split
    · simp only [keysRise, Bool.and_eq_true, decide_eq_true_eq]
      exact ⟨hk, by omega, hm.2⟩
    · split
      · subst_vars; simp only [keysRise, Bool.and_eq_true, decide_eq_true_eq]; exact hm
      · simp only [keysRise, Bool.and_eq_true, decide_eq_true_eq]
        exact ⟨hm.1, ih (by omega) hm.2⟩

theorem keysRise_storeErase {lo k : Nat} {m : List (Nat × α)} (hm : keysRise lo m = true) :
    keysRise lo (storeErase m k) = true := by
  induction m generalizing lo with
  | nil => rfl
  | cons e m ih =>
    obtain ⟨j, w⟩ := e
    simp only [keysRise, Bool.and_eq_true, decide_eq_true_eq] at hm
    simp only [storeErase]
    split
    · exact keysRise_mono (by omega) (ih hm.2)
    · simp only [keysRise, Bool.and_eq_true, decide_eq_true_eq]
      exact ⟨hm.1, ih hm.2⟩

theorem mem_storePut {m : List (Nat × α)} {k : Nat} {v : α} {e : Nat × α} (h : e ∈ storePut m k v) :
    e = (k, v) ∨ e ∈ m := by
  induction m with
  | nil => simpa [storePut] using h
  | cons x m ih =>
    obtain ⟨j, w⟩ := x
    simp only [storePut] at h
    split at h
    · simpa using h
    · split at h
      · simp only [List.mem_cons] at h ⊢
        exact h.imp id .inr
      · simp only [List.mem_cons] at h ⊢
        rcases h with h | h
        · exact .inr (.inl h)
        · rcases ih h with h | h
          · exact .inl h
          · exact .inr (.inr h)

theorem mem_storeErase {m : List (Nat × α)} {k : Nat} {e : Nat × α} (h : e ∈ storeErase m k) : e ∈ m := by
  induction m with
  | nil => simp [storeErase] at h
  | cons x m ih =>
    obtain ⟨j, w⟩ := x
    simp only [storeErase] at h
    split at h
    · exact .tail _ (ih h)
    · simp only [List.mem_cons] at h ⊢
      exact h.imp id ih

/-- Writing with the key's own default keeps the canonical form. -/
theorem storeWf_storeSet [DecidableEq α] {d : Nat → α} {m : List (Nat × α)} (k : Nat) (v : α)
    (h : storeWf d m = true) : storeWf d (storeSet (d k) m k v) = true := by
  simp only [storeWf, Bool.and_eq_true, List.all_eq_true, decide_eq_true_eq] at h ⊢
  unfold storeSet
  split
  · exact ⟨keysRise_storeErase h.1, fun e he => h.2 e (mem_storeErase he)⟩
  · rename_i hv
    refine ⟨keysRise_storePut v (Nat.zero_le _) h.1, fun e he => ?_⟩
    rcases mem_storePut he with rfl | he
    · exact hv
    · exact h.2 e he

@[simp] theorem mapGet_mapSet_same {κ : Type} [DecidableEq κ] (d : α) (m : List (κ × α)) (k : κ) (v : α) :
    mapGet d (mapSet m k v) k = v := by
  induction m with
  | nil => simp [mapSet, mapGet]
  | cons e m ih =>
    obtain ⟨j, w⟩ := e
    simp only [mapSet]
    split
    · simp [mapGet]
    · rename_i h; simp [mapGet, h, ih]

theorem mapGet_mapSet_ne {κ : Type} [DecidableEq κ] (d : α) (m : List (κ × α)) {k j : κ} (v : α) (h : j ≠ k) :
    mapGet d (mapSet m k v) j = mapGet d m j := by
  induction m with
  | nil => simp [mapSet, mapGet, Ne.symm h]
  | cons e m ih =>
    obtain ⟨i, w⟩ := e
    simp only [mapSet]
    split
    · subst_vars; simp [mapGet, Ne.symm h]
    · simp [mapGet, ih]

theorem length_setNth (l : List α) (i : Nat) (v : α) : (setNth l i v).length = l.length := by
  induction l generalizing i with
  | nil => rfl
  | cons x l ih => cases i <;> simp [setNth, ih]

theorem nth_setNth_same (d : α) {l : List α} {i : Nat} (v : α) (h : i < l.length) : nth d (setNth l i v) i = v := by
  induction l generalizing i with
  | nil => simp at h
  | cons x l ih =>
    cases i with
    | zero => rfl
    | succ i => exact ih (by simpa using h)

theorem nth_setNth_ne (d : α) (l : List α) {i j : Nat} (v : α) (h : j ≠ i) : nth d (setNth l i v) j = nth d l j := by
  induction l generalizing i j with
  | nil => rfl
  | cons x l ih =>
    cases i with
    | zero => cases j with
      | zero => exact absurd rfl h
      | succ j => rfl
    | succ i => cases j with
      | zero => rfl
      | succ j => exact ih (by omega)

end Sys2Proof.Machine
end

