-- ==== Sys2Proof/Laws/Regs.lean ====
section
/-! SUPPORT. Laws of registers and fields (R5, R7): a write is read back, and leaves every other register and field as it was. -/

namespace Sys2Proof.Machine

/-! ### Fields of a word -/

theorem bits_lt (n lo w : Nat) : bits n lo w < 2 ^ w := Nat.mod_lt _ (Nat.two_pow_pos w)

theorem testBit_bits (n lo w i : Nat) : (bits n lo w).testBit i = (decide (i < w) && n.testBit (lo + i)) := by
  simp [bits, Nat.testBit_mod_two_pow, Nat.testBit_div_two_pow, Nat.add_comm]

/-- The bits of a word below, within and above a field add up to the word. -/
theorem bits_split (n lo w : Nat) :
    n = n % 2 ^ lo + 2 ^ lo * bits n lo w + 2 ^ lo * 2 ^ w * (n / 2 ^ lo / 2 ^ w) := by
  have h1 := Nat.div_add_mod n (2 ^ lo)
  have h2 := Nat.div_add_mod (n / 2 ^ lo) (2 ^ w)
  simp only [bits]
  calc n = 2 ^ lo * (n / 2 ^ lo) + n % 2 ^ lo := h1.symm
    _ = 2 ^ lo * (2 ^ w * (n / 2 ^ lo / 2 ^ w) + n / 2 ^ lo % 2 ^ w) + n % 2 ^ lo := by rw [h2]
    _ = _ := by rw [Nat.mul_add, ← Nat.mul_assoc]; omega

theorem putField_eq (n lo w v : Nat) :
    putField n lo w v = n % 2 ^ lo + 2 ^ lo * low w v + 2 ^ lo * 2 ^ w * (n / 2 ^ lo / 2 ^ w) := by
  have h := bits_split n lo w
  unfold putField
  rw [Nat.mul_comm (bits n lo w), Nat.mul_comm (low w v)]
  omega

theorem putField_mod (n lo w v : Nat) : putField n lo w v % 2 ^ lo = n % 2 ^ lo := by
  rw [putField_eq, Nat.mul_assoc, Nat.add_assoc, ← Nat.mul_add, Nat.add_mul_mod_self_left, Nat.mod_mod]

theorem putField_div (n lo w v : Nat) :
    putField n lo w v / 2 ^ lo = low w v + 2 ^ w * (n / 2 ^ lo / 2 ^ w) := by
  rw [putField_eq, Nat.mul_assoc, Nat.add_assoc, ← Nat.mul_add, Nat.add_mul_div_left _ _ (Nat.two_pow_pos lo),
    Nat.div_eq_of_lt (Nat.mod_lt _ (Nat.two_pow_pos lo)), Nat.zero_add]

/-- A field written reads as the value written, modulo its width. -/
theorem bits_putField_same (n lo w v : Nat) : bits (putField n lo w v) lo w = low w v := by
  rw [bits, putField_div, Nat.add_mul_mod_self_left, low, Nat.mod_mod]

theorem testBit_putField (n lo w v i : Nat) :
    (putField n lo w v).testBit i = if lo ≤ i ∧ i < lo + w then v.testBit (i - lo) else n.testBit i := by
  by_cases h : i < lo
  · have h1 := congrArg (Nat.testBit · i) (putField_mod n lo w v)
    simp only [Nat.testBit_mod_two_pow, h, decide_true, Bool.true_and] at h1
    rw [h1, if_neg (by omega)]
  · obtain ⟨j, rfl⟩ : ∃ j, i = lo + j := ⟨i - lo, by omega⟩
    have h1 : (putField n lo w v).testBit (lo + j) = (low w v + 2 ^ w * (n / 2 ^ lo / 2 ^ w)).testBit j := by
      rw [← putField_div, Nat.testBit_div_two_pow, Nat.add_comm]
    rw [h1, Nat.add_comm (low w v), Nat.testBit_two_pow_mul_add _ (show low w v < 2 ^ w from Nat.mod_lt _ (Nat.two_pow_pos w))]
    by_cases hj : j < w
    · rw [if_pos hj, if_pos (by omega)]
      simp [low, Nat.testBit_mod_two_pow, hj]
    · rw [if_neg hj, if_neg (by omega), Nat.testBit_div_two_pow, Nat.testBit_div_two_pow]
      congr 1
      omega

/-- A write of one field leaves every field that shares no bit with it. -/
theorem bits_putField_apart (n lo w v lo' w' : Nat) (h : lo' + w' ≤ lo ∨ lo + w ≤ lo') :
    bits (putField n lo w v) lo' w' = bits n lo' w' := by
  apply Nat.eq_of_testBit_eq
  intro i
  rw [testBit_bits, testBit_bits, testBit_putField]
  by_cases hi : i < w'
  · rw [if_neg (by omega)]
  · simp [hi]

theorem putField_lt (n lo w v : Nat) (hn : n < 2 ^ 32) (h : lo + w ≤ 32) : putField n lo w v < 2 ^ 32 := by
  apply Nat.lt_pow_two_of_testBit
  intro i hi
  rw [testBit_putField, if_neg (by omega)]
  exact Nat.testBit_lt_two_pow (Nat.lt_of_lt_of_le hn (Nat.pow_le_pow_right (by decide) hi))

/-! ### Registers -/

variable {b : Block}

/-- Registers and fields depend on the register store alone. -/
theorem Block.reg_congr {b c : Block} (h : b.regs = c.regs) (o : Nat) : b.reg o = c.reg o := by
  simp only [Block.reg, h]

theorem Block.regN_congr {b c : Block} (h : b.regs = c.regs) (o : Nat) : b.regN o = c.regN o := by
  simp only [Block.regN, Block.reg, h]

theorem Block.fget_congr {b c : Block} (h : b.regs = c.regs) (f : Fld) : b.fget f = c.fget f := by
  simp only [Block.fget, Block.regN, Block.reg, h]

theorem Block.fgetB_congr {b c : Block} (h : b.regs = c.regs) (f : Fld) : b.fgetB f = c.fgetB f := by
  simp only [Block.fgetB, Block.fget_congr h]

theorem Block.fget_of_reg {b c : Block} {f : Fld} (h : b.reg f.off = c.reg f.off) : b.fget f = c.fget f := by
  simp only [Block.fget, Block.regN, h]

theorem Block.fgetB_of_reg {b c : Block} {f : Fld} (h : b.reg f.off = c.reg f.off) : b.fgetB f = c.fgetB f := by
  simp only [Block.fgetB, Block.fget_of_reg h]

/-- A register write is read back. -/
@[simp] theorem Block.reg_setReg_same (off : Nat) (v : Word) : (b.setReg off v).reg off = v :=
  storeGet_storeSet_same _ _ _ _

/-- A register write leaves every other register. -/
theorem Block.reg_setReg_ne {off o : Nat} (v : Word) (h : o ≠ off) : (b.setReg off v).reg o = b.reg o :=
  storeGet_storeSet_ne _ _ _ _ h

theorem Block.reg_setReg (off o : Nat) (v : Word) : (b.setReg off v).reg o = if o = off then v else b.reg o := by
  by_cases h : o = off
  · subst h; simp
  · rw [if_neg h, Block.reg_setReg_ne v h]

@[simp] theorem Block.regN_setRegN_same (off v : Nat) : (b.setRegN off v).regN off = low 32 v := by
  simp [Block.setRegN, Block.regN, low]

theorem Block.reg_setRegN_ne {off o : Nat} (v : Nat) (h : o ≠ off) : (b.setRegN off v).reg o = b.reg o :=
  Block.reg_setReg_ne _ h

theorem Block.regN_setRegN_ne {off o : Nat} (v : Nat) (h : o ≠ off) : (b.setRegN off v).regN o = b.regN o := by
  simp only [Block.regN, Block.reg_setRegN_ne v h]

theorem Block.reg_fset_ne {f : Fld} {o : Nat} (v : Nat) (h : o ≠ f.off) : (b.fset f v).reg o = b.reg o :=
  Block.reg_setRegN_ne _ h

theorem Block.regN_fset_ne {f : Fld} {o : Nat} (v : Nat) (h : o ≠ f.off) : (b.fset f v).regN o = b.regN o := by
  simp only [Block.regN, Block.reg_fset_ne v h]

/-- A field that lies within its register is read back as the value written, modulo its width. -/
theorem Block.fget_fset_same {f : Fld} (v : Nat) (h : f.lo + f.w ≤ 32) : (b.fset f v).fget f = low f.w v := by
  have hlt : putField (b.regN f.off) f.lo f.w v < 2 ^ 32 := putField_lt _ _ _ _ (b.reg f.off).isLt h
  simp only [Block.fget, Block.fset, Block.regN_setRegN_same, low, Nat.mod_eq_of_lt hlt]
  exact bits_putField_same _ _ _ _

/-- Writing a field leaves every field of another register, and every field of its own that shares no bit with it. -/
theorem Block.fget_fset_ne {f g : Fld} (v : Nat) (hf : f.lo + f.w ≤ 32)
    (h : g.off ≠ f.off ∨ g.lo + g.w ≤ f.lo ∨ f.lo + f.w ≤ g.lo) : (b.fset f v).fget g = b.fget g := by
  by_cases ho : g.off = f.off
  · have h' : g.lo + g.w ≤ f.lo ∨ f.lo + f.w ≤ g.lo := by
      rcases h with h | h
      · exact absurd ho h
      · exact h
    have hlt : putField (b.regN f.off) f.lo f.w v < 2 ^ 32 := putField_lt _ _ _ _ (b.reg f.off).isLt hf
    simp only [Block.fget, Block.fset, ho, Block.regN_setRegN_same, low, Nat.mod_eq_of_lt hlt]
    exact bits_putField_apart _ _ _ _ _ _ h'
  · simp only [Block.fget, Block.regN_fset_ne v ho]

theorem Block.fget_setRegN_ne {g : Fld} {off : Nat} (v : Nat) (h : g.off ≠ off) : (b.setRegN off v).fget g = b.fget g := by
  simp only [Block.fget, Block.regN_setRegN_ne v h]

theorem Block.fgetB_fset_same {f : Fld} (v : Nat) (h : f.lo + f.w ≤ 32) : (b.fset f v).fgetB f = (low f.w v == 1) := by
  rw [Block.fgetB, Block.fget_fset_same v h]

theorem Block.fgetB_fset_ne {f g : Fld} (v : Nat) (hf : f.lo + f.w ≤ 32)
    (h : g.off ≠ f.off ∨ g.lo + g.w ≤ f.lo ∨ f.lo + f.w ≤ g.lo) : (b.fset f v).fgetB g = b.fgetB g := by
  rw [Block.fgetB, Block.fget_fset_ne v hf h, Block.fgetB]

/-- Raising an event changes the raw event register of its page and no other register. -/
theorem Block.reg_raiseEvt_ne {p e o : Nat} (h : o ≠ Reg.BLK_EVT_RAW p) : (b.raiseEvt p e).reg o = b.reg o :=
  Block.reg_fset_ne 1 h

theorem Block.fget_raiseEvt_ne {p e : Nat} {g : Fld} (h : g.off ≠ Reg.BLK_EVT_RAW p) :
    (b.raiseEvt p e).fget g = b.fget g := by
  simp only [Block.fget, Block.regN, Block.reg_raiseEvt_ne h]

/-- A raised event's raw bit reads 1. -/
theorem Block.fget_raiseEvt_same {p e : Nat} (h : e < 32) : (b.raiseEvt p e).fget ⟨Reg.BLK_EVT_RAW p, e, 1⟩ = 1 :=
  Block.fget_fset_same (f := ⟨Reg.BLK_EVT_RAW p, e, 1⟩) 1 (by show e + 1 ≤ 32; omega)

/-- Every register write keeps the store canonical. -/
theorem Block.storeWf_setReg (off : Nat) (v : Word) (h : storeWf regReset b.regs = true) :
    storeWf regReset (b.setReg off v).regs = true := storeWf_storeSet off v h

theorem Block.storeWf_fset (f : Fld) (v : Nat) (h : storeWf regReset b.regs = true) :
    storeWf regReset (b.fset f v).regs = true := storeWf_storeSet f.off _ h

end Sys2Proof.Machine
end

