-- ==== Sys2Proof/Laws/State.lean ====
section
/-! SUPPORT. What each basic update leaves alone: one lemma per update and part of the state, true by rfl, and the shape of every command.
A lemma is stated `id rfl`, so that a rewriting proof cites it by name and the kernel need not compare the two states. -/

namespace Sys2Proof.Machine

/-! ### Commands -/

@[simp] theorem lift_eq (f : Block → Block) (s : State) :
    lift f s = .next { toBlock := f s.toBlock, pending := s.pending } := rfl

/-- A command whose meaning is a lifted update completes where the update satisfies the claim. -/
theorem completes_of_lift {i : Instr} {s : State} {P : State → Prop} {f : Block → Block}
    (h : exec i s = lift f s) (hp : P { toBlock := f s.toBlock, pending := s.pending }) : Completes i s P :=
  ⟨_, h, hp⟩

theorem step_cons {i : Instr} {s : State} {rest : List Instr} (h : s.pending = i :: rest) :
    step s = exec i { s with pending := rest } := by
  simp only [step, h]

theorem step_nil {s : State} (h : s.pending = []) : step s = .next (idle s) := by
  simp only [step, h]

/-- While no request waits for the supervisor an idle clock is one tick. -/
theorem idle_tick {s : State} (h : s.toBlock.tick.ssp.stall = false) : idle s = { s with toBlock := s.toBlock.tick } := by
  simp [idle, stallTick, h]

variable (b : Block)


/-! ### setReg -/

@[simp] theorem Block.setReg_fab (o : Nat) (v : Word) : (b.setReg o v).fab = b.fab := id rfl
@[simp] theorem Block.setReg_clk (o : Nat) (v : Word) : (b.setReg o v).clk = b.clk := id rfl
@[simp] theorem Block.setReg_freeCount (o : Nat) (v : Word) : (b.setReg o v).freeCount = b.freeCount := id rfl
@[simp] theorem Block.setReg_outs (o : Nat) (v : Word) : (b.setReg o v).outs = b.outs := id rfl
@[simp] theorem Block.setReg_evr (o : Nat) (v : Word) : (b.setReg o v).evr = b.evr := id rfl
@[simp] theorem Block.setReg_cel (o : Nat) (v : Word) : (b.setReg o v).cel = b.cel := id rfl
@[simp] theorem Block.setReg_pwr (o : Nat) (v : Word) : (b.setReg o v).pwr = b.pwr := id rfl
@[simp] theorem Block.setReg_tm (o : Nat) (v : Word) : (b.setReg o v).tm = b.tm := id rfl
@[simp] theorem Block.setReg_ctxs (o : Nat) (v : Word) : (b.setReg o v).ctxs = b.ctxs := id rfl
@[simp] theorem Block.setReg_globals (o : Nat) (v : Word) : (b.setReg o v).globals = b.globals := id rfl
@[simp] theorem Block.setReg_sched (o : Nat) (v : Word) : (b.setReg o v).sched = b.sched := id rfl
@[simp] theorem Block.setReg_frc (o : Nat) (v : Word) : (b.setReg o v).frc = b.frc := id rfl
@[simp] theorem Block.setReg_sol (o : Nat) (v : Word) : (b.setReg o v).sol = b.sol := id rfl
@[simp] theorem Block.setReg_chans (o : Nat) (v : Word) : (b.setReg o v).chans = b.chans := id rfl
@[simp] theorem Block.setReg_chFactory (o : Nat) (v : Word) : (b.setReg o v).chFactory = b.chFactory := id rfl
@[simp] theorem Block.setReg_hart (o : Nat) (v : Word) : (b.setReg o v).hart = b.hart := id rfl
@[simp] theorem Block.setReg_isl (o : Nat) (v : Word) : (b.setReg o v).isl = b.isl := id rfl
@[simp] theorem Block.setReg_outEls (o : Nat) (v : Word) : (b.setReg o v).outEls = b.outEls := id rfl
@[simp] theorem Block.setReg_lnk (o : Nat) (v : Word) : (b.setReg o v).lnk = b.lnk := id rfl
@[simp] theorem Block.setReg_ssp (o : Nat) (v : Word) : (b.setReg o v).ssp = b.ssp := id rfl
@[simp] theorem Block.setReg_net (o : Nat) (v : Word) : (b.setReg o v).net = b.net := id rfl
@[simp] theorem Block.setReg_canCfg (o : Nat) (v : Word) : (b.setReg o v).canCfg = b.canCfg := id rfl
@[simp] theorem Block.setReg_can (o : Nat) (v : Word) : (b.setReg o v).can = b.can := id rfl
@[simp] theorem Block.setReg_red (o : Nat) (v : Word) : (b.setReg o v).red = b.red := id rfl
@[simp] theorem Block.setReg_mem (o : Nat) (v : Word) : (b.setReg o v).mem = b.mem := id rfl
@[simp] theorem Block.setReg_upd (o : Nat) (v : Word) : (b.setReg o v).upd = b.upd := id rfl
@[simp] theorem Block.setReg_btn (o : Nat) (v : Word) : (b.setReg o v).btn = b.btn := id rfl
@[simp] theorem Block.setReg_dsb (o : Nat) (v : Word) : (b.setReg o v).dsb = b.dsb := id rfl
@[simp] theorem Block.setReg_dse (o : Nat) (v : Word) : (b.setReg o v).dse = b.dse := id rfl
@[simp] theorem Block.setReg_prog (o : Nat) (v : Word) : (b.setReg o v).prog = b.prog := id rfl
@[simp] theorem Block.setReg_sec (o : Nat) (v : Word) : (b.setReg o v).sec = b.sec := id rfl
@[simp] theorem Block.setReg_olc (o : Nat) (v : Word) : (b.setReg o v).olc = b.olc := id rfl
@[simp] theorem Block.setReg_since (o : Nat) (v : Word) : (b.setReg o v).since = b.since := id rfl

/-! ### setRegN -/

@[simp] theorem Block.setRegN_fab (o v : Nat) : (b.setRegN o v).fab = b.fab := id rfl
@[simp] theorem Block.setRegN_clk (o v : Nat) : (b.setRegN o v).clk = b.clk := id rfl
@[simp] theorem Block.setRegN_freeCount (o v : Nat) : (b.setRegN o v).freeCount = b.freeCount := id rfl
@[simp] theorem Block.setRegN_outs (o v : Nat) : (b.setRegN o v).outs = b.outs := id rfl
@[simp] theorem Block.setRegN_evr (o v : Nat) : (b.setRegN o v).evr = b.evr := id rfl
@[simp] theorem Block.setRegN_cel (o v : Nat) : (b.setRegN o v).cel = b.cel := id rfl
@[simp] theorem Block.setRegN_pwr (o v : Nat) : (b.setRegN o v).pwr = b.pwr := id rfl
@[simp] theorem Block.setRegN_tm (o v : Nat) : (b.setRegN o v).tm = b.tm := id rfl
@[simp] theorem Block.setRegN_ctxs (o v : Nat) : (b.setRegN o v).ctxs = b.ctxs := id rfl
@[simp] theorem Block.setRegN_globals (o v : Nat) : (b.setRegN o v).globals = b.globals := id rfl
@[simp] theorem Block.setRegN_sched (o v : Nat) : (b.setRegN o v).sched = b.sched := id rfl
@[simp] theorem Block.setRegN_frc (o v : Nat) : (b.setRegN o v).frc = b.frc := id rfl
@[simp] theorem Block.setRegN_sol (o v : Nat) : (b.setRegN o v).sol = b.sol := id rfl
@[simp] theorem Block.setRegN_chans (o v : Nat) : (b.setRegN o v).chans = b.chans := id rfl
@[simp] theorem Block.setRegN_chFactory (o v : Nat) : (b.setRegN o v).chFactory = b.chFactory := id rfl
@[simp] theorem Block.setRegN_hart (o v : Nat) : (b.setRegN o v).hart = b.hart := id rfl
@[simp] theorem Block.setRegN_isl (o v : Nat) : (b.setRegN o v).isl = b.isl := id rfl
@[simp] theorem Block.setRegN_outEls (o v : Nat) : (b.setRegN o v).outEls = b.outEls := id rfl
@[simp] theorem Block.setRegN_lnk (o v : Nat) : (b.setRegN o v).lnk = b.lnk := id rfl
@[simp] theorem Block.setRegN_ssp (o v : Nat) : (b.setRegN o v).ssp = b.ssp := id rfl
@[simp] theorem Block.setRegN_net (o v : Nat) : (b.setRegN o v).net = b.net := id rfl
@[simp] theorem Block.setRegN_canCfg (o v : Nat) : (b.setRegN o v).canCfg = b.canCfg := id rfl
@[simp] theorem Block.setRegN_can (o v : Nat) : (b.setRegN o v).can = b.can := id rfl
@[simp] theorem Block.setRegN_red (o v : Nat) : (b.setRegN o v).red = b.red := id rfl
@[simp] theorem Block.setRegN_mem (o v : Nat) : (b.setRegN o v).mem = b.mem := id rfl
@[simp] theorem Block.setRegN_upd (o v : Nat) : (b.setRegN o v).upd = b.upd := id rfl
@[simp] theorem Block.setRegN_btn (o v : Nat) : (b.setRegN o v).btn = b.btn := id rfl
@[simp] theorem Block.setRegN_dsb (o v : Nat) : (b.setRegN o v).dsb = b.dsb := id rfl
@[simp] theorem Block.setRegN_dse (o v : Nat) : (b.setRegN o v).dse = b.dse := id rfl
@[simp] theorem Block.setRegN_prog (o v : Nat) : (b.setRegN o v).prog = b.prog := id rfl
@[simp] theorem Block.setRegN_sec (o v : Nat) : (b.setRegN o v).sec = b.sec := id rfl
@[simp] theorem Block.setRegN_olc (o v : Nat) : (b.setRegN o v).olc = b.olc := id rfl
@[simp] theorem Block.setRegN_since (o v : Nat) : (b.setRegN o v).since = b.since := id rfl

/-! ### fset -/

@[simp] theorem Block.fset_fab (f : Fld) (v : Nat) : (b.fset f v).fab = b.fab := id rfl
@[simp] theorem Block.fset_clk (f : Fld) (v : Nat) : (b.fset f v).clk = b.clk := id rfl
@[simp] theorem Block.fset_freeCount (f : Fld) (v : Nat) : (b.fset f v).freeCount = b.freeCount := id rfl
@[simp] theorem Block.fset_outs (f : Fld) (v : Nat) : (b.fset f v).outs = b.outs := id rfl
@[simp] theorem Block.fset_evr (f : Fld) (v : Nat) : (b.fset f v).evr = b.evr := id rfl
@[simp] theorem Block.fset_cel (f : Fld) (v : Nat) : (b.fset f v).cel = b.cel := id rfl
@[simp] theorem Block.fset_pwr (f : Fld) (v : Nat) : (b.fset f v).pwr = b.pwr := id rfl
@[simp] theorem Block.fset_tm (f : Fld) (v : Nat) : (b.fset f v).tm = b.tm := id rfl
@[simp] theorem Block.fset_ctxs (f : Fld) (v : Nat) : (b.fset f v).ctxs = b.ctxs := id rfl
@[simp] theorem Block.fset_globals (f : Fld) (v : Nat) : (b.fset f v).globals = b.globals := id rfl
@[simp] theorem Block.fset_sched (f : Fld) (v : Nat) : (b.fset f v).sched = b.sched := id rfl
@[simp] theorem Block.fset_frc (f : Fld) (v : Nat) : (b.fset f v).frc = b.frc := id rfl
@[simp] theorem Block.fset_sol (f : Fld) (v : Nat) : (b.fset f v).sol = b.sol := id rfl
@[simp] theorem Block.fset_chans (f : Fld) (v : Nat) : (b.fset f v).chans = b.chans := id rfl
@[simp] theorem Block.fset_chFactory (f : Fld) (v : Nat) : (b.fset f v).chFactory = b.chFactory := id rfl
@[simp] theorem Block.fset_hart (f : Fld) (v : Nat) : (b.fset f v).hart = b.hart := id rfl
@[simp] theorem Block.fset_isl (f : Fld) (v : Nat) : (b.fset f v).isl = b.isl := id rfl
@[simp] theorem Block.fset_outEls (f : Fld) (v : Nat) : (b.fset f v).outEls = b.outEls := id rfl
@[simp] theorem Block.fset_lnk (f : Fld) (v : Nat) : (b.fset f v).lnk = b.lnk := id rfl
@[simp] theorem Block.fset_ssp (f : Fld) (v : Nat) : (b.fset f v).ssp = b.ssp := id rfl
@[simp] theorem Block.fset_net (f : Fld) (v : Nat) : (b.fset f v).net = b.net := id rfl
@[simp] theorem Block.fset_canCfg (f : Fld) (v : Nat) : (b.fset f v).canCfg = b.canCfg := id rfl
@[simp] theorem Block.fset_can (f : Fld) (v : Nat) : (b.fset f v).can = b.can := id rfl
@[simp] theorem Block.fset_red (f : Fld) (v : Nat) : (b.fset f v).red = b.red := id rfl
@[simp] theorem Block.fset_mem (f : Fld) (v : Nat) : (b.fset f v).mem = b.mem := id rfl
@[simp] theorem Block.fset_upd (f : Fld) (v : Nat) : (b.fset f v).upd = b.upd := id rfl
@[simp] theorem Block.fset_btn (f : Fld) (v : Nat) : (b.fset f v).btn = b.btn := id rfl
@[simp] theorem Block.fset_dsb (f : Fld) (v : Nat) : (b.fset f v).dsb = b.dsb := id rfl
@[simp] theorem Block.fset_dse (f : Fld) (v : Nat) : (b.fset f v).dse = b.dse := id rfl
@[simp] theorem Block.fset_prog (f : Fld) (v : Nat) : (b.fset f v).prog = b.prog := id rfl
@[simp] theorem Block.fset_sec (f : Fld) (v : Nat) : (b.fset f v).sec = b.sec := id rfl
@[simp] theorem Block.fset_olc (f : Fld) (v : Nat) : (b.fset f v).olc = b.olc := id rfl
@[simp] theorem Block.fset_since (f : Fld) (v : Nat) : (b.fset f v).since = b.since := id rfl

/-! ### raiseEvt -/

@[simp] theorem Block.raiseEvt_fab (p e : Nat) : (b.raiseEvt p e).fab = b.fab := id rfl
@[simp] theorem Block.raiseEvt_clk (p e : Nat) : (b.raiseEvt p e).clk = b.clk := id rfl
@[simp] theorem Block.raiseEvt_freeCount (p e : Nat) : (b.raiseEvt p e).freeCount = b.freeCount := id rfl
@[simp] theorem Block.raiseEvt_outs (p e : Nat) : (b.raiseEvt p e).outs = b.outs := id rfl
@[simp] theorem Block.raiseEvt_evr (p e : Nat) : (b.raiseEvt p e).evr = b.evr := id rfl
@[simp] theorem Block.raiseEvt_cel (p e : Nat) : (b.raiseEvt p e).cel = b.cel := id rfl
@[simp] theorem Block.raiseEvt_pwr (p e : Nat) : (b.raiseEvt p e).pwr = b.pwr := id rfl
@[simp] theorem Block.raiseEvt_tm (p e : Nat) : (b.raiseEvt p e).tm = b.tm := id rfl
@[simp] theorem Block.raiseEvt_ctxs (p e : Nat) : (b.raiseEvt p e).ctxs = b.ctxs := id rfl
@[simp] theorem Block.raiseEvt_globals (p e : Nat) : (b.raiseEvt p e).globals = b.globals := id rfl
@[simp] theorem Block.raiseEvt_sched (p e : Nat) : (b.raiseEvt p e).sched = b.sched := id rfl
@[simp] theorem Block.raiseEvt_frc (p e : Nat) : (b.raiseEvt p e).frc = b.frc := id rfl
@[simp] theorem Block.raiseEvt_sol (p e : Nat) : (b.raiseEvt p e).sol = b.sol := id rfl
@[simp] theorem Block.raiseEvt_chans (p e : Nat) : (b.raiseEvt p e).chans = b.chans := id rfl
@[simp] theorem Block.raiseEvt_chFactory (p e : Nat) : (b.raiseEvt p e).chFactory = b.chFactory := id rfl
@[simp] theorem Block.raiseEvt_hart (p e : Nat) : (b.raiseEvt p e).hart = b.hart := id rfl
@[simp] theorem Block.raiseEvt_isl (p e : Nat) : (b.raiseEvt p e).isl = b.isl := id rfl
@[simp] theorem Block.raiseEvt_outEls (p e : Nat) : (b.raiseEvt p e).outEls = b.outEls := id rfl
@[simp] theorem Block.raiseEvt_lnk (p e : Nat) : (b.raiseEvt p e).lnk = b.lnk := id rfl
@[simp] theorem Block.raiseEvt_ssp (p e : Nat) : (b.raiseEvt p e).ssp = b.ssp := id rfl
@[simp] theorem Block.raiseEvt_net (p e : Nat) : (b.raiseEvt p e).net = b.net := id rfl
@[simp] theorem Block.raiseEvt_canCfg (p e : Nat) : (b.raiseEvt p e).canCfg = b.canCfg := id rfl
@[simp] theorem Block.raiseEvt_can (p e : Nat) : (b.raiseEvt p e).can = b.can := id rfl
@[simp] theorem Block.raiseEvt_red (p e : Nat) : (b.raiseEvt p e).red = b.red := id rfl
@[simp] theorem Block.raiseEvt_mem (p e : Nat) : (b.raiseEvt p e).mem = b.mem := id rfl
@[simp] theorem Block.raiseEvt_upd (p e : Nat) : (b.raiseEvt p e).upd = b.upd := id rfl
@[simp] theorem Block.raiseEvt_btn (p e : Nat) : (b.raiseEvt p e).btn = b.btn := id rfl
@[simp] theorem Block.raiseEvt_dsb (p e : Nat) : (b.raiseEvt p e).dsb = b.dsb := id rfl
@[simp] theorem Block.raiseEvt_dse (p e : Nat) : (b.raiseEvt p e).dse = b.dse := id rfl
@[simp] theorem Block.raiseEvt_prog (p e : Nat) : (b.raiseEvt p e).prog = b.prog := id rfl
@[simp] theorem Block.raiseEvt_sec (p e : Nat) : (b.raiseEvt p e).sec = b.sec := id rfl
@[simp] theorem Block.raiseEvt_olc (p e : Nat) : (b.raiseEvt p e).olc = b.olc := id rfl
@[simp] theorem Block.raiseEvt_since (p e : Nat) : (b.raiseEvt p e).since = b.since := id rfl

/-! ### out -/

@[simp] theorem Block.out_regs (o : Out) : (b.out o).regs = b.regs := id rfl
@[simp] theorem Block.out_fab (o : Out) : (b.out o).fab = b.fab := id rfl
@[simp] theorem Block.out_clk (o : Out) : (b.out o).clk = b.clk := id rfl
@[simp] theorem Block.out_freeCount (o : Out) : (b.out o).freeCount = b.freeCount := id rfl
@[simp] theorem Block.out_evr (o : Out) : (b.out o).evr = b.evr := id rfl
@[simp] theorem Block.out_cel (o : Out) : (b.out o).cel = b.cel := id rfl
@[simp] theorem Block.out_pwr (o : Out) : (b.out o).pwr = b.pwr := id rfl
@[simp] theorem Block.out_tm (o : Out) : (b.out o).tm = b.tm := id rfl
@[simp] theorem Block.out_ctxs (o : Out) : (b.out o).ctxs = b.ctxs := id rfl
@[simp] theorem Block.out_globals (o : Out) : (b.out o).globals = b.globals := id rfl
@[simp] theorem Block.out_sched (o : Out) : (b.out o).sched = b.sched := id rfl
@[simp] theorem Block.out_frc (o : Out) : (b.out o).frc = b.frc := id rfl
@[simp] theorem Block.out_sol (o : Out) : (b.out o).sol = b.sol := id rfl
@[simp] theorem Block.out_chans (o : Out) : (b.out o).chans = b.chans := id rfl
@[simp] theorem Block.out_chFactory (o : Out) : (b.out o).chFactory = b.chFactory := id rfl
@[simp] theorem Block.out_hart (o : Out) : (b.out o).hart = b.hart := id rfl
@[simp] theorem Block.out_isl (o : Out) : (b.out o).isl = b.isl := id rfl
@[simp] theorem Block.out_outEls (o : Out) : (b.out o).outEls = b.outEls := id rfl
@[simp] theorem Block.out_lnk (o : Out) : (b.out o).lnk = b.lnk := id rfl
@[simp] theorem Block.out_ssp (o : Out) : (b.out o).ssp = b.ssp := id rfl
@[simp] theorem Block.out_net (o : Out) : (b.out o).net = b.net := id rfl
@[simp] theorem Block.out_canCfg (o : Out) : (b.out o).canCfg = b.canCfg := id rfl
@[simp] theorem Block.out_can (o : Out) : (b.out o).can = b.can := id rfl
@[simp] theorem Block.out_red (o : Out) : (b.out o).red = b.red := id rfl
@[simp] theorem Block.out_mem (o : Out) : (b.out o).mem = b.mem := id rfl
@[simp] theorem Block.out_upd (o : Out) : (b.out o).upd = b.upd := id rfl
@[simp] theorem Block.out_btn (o : Out) : (b.out o).btn = b.btn := id rfl
@[simp] theorem Block.out_dsb (o : Out) : (b.out o).dsb = b.dsb := id rfl
@[simp] theorem Block.out_dse (o : Out) : (b.out o).dse = b.dse := id rfl
@[simp] theorem Block.out_prog (o : Out) : (b.out o).prog = b.prog := id rfl
@[simp] theorem Block.out_sec (o : Out) : (b.out o).sec = b.sec := id rfl
@[simp] theorem Block.out_olc (o : Out) : (b.out o).olc = b.olc := id rfl
@[simp] theorem Block.out_since (o : Out) : (b.out o).since = b.since := id rfl

/-! ### timed -/

@[simp] theorem Block.timed_regs (t : Timer) : (b.timed t).regs = b.regs := id rfl
@[simp] theorem Block.timed_fab (t : Timer) : (b.timed t).fab = b.fab := id rfl
@[simp] theorem Block.timed_clk (t : Timer) : (b.timed t).clk = b.clk := id rfl
@[simp] theorem Block.timed_freeCount (t : Timer) : (b.timed t).freeCount = b.freeCount := id rfl
@[simp] theorem Block.timed_outs (t : Timer) : (b.timed t).outs = b.outs := id rfl
@[simp] theorem Block.timed_evr (t : Timer) : (b.timed t).evr = b.evr := id rfl
@[simp] theorem Block.timed_cel (t : Timer) : (b.timed t).cel = b.cel := id rfl
@[simp] theorem Block.timed_pwr (t : Timer) : (b.timed t).pwr = b.pwr := id rfl
@[simp] theorem Block.timed_tm (t : Timer) : (b.timed t).tm = b.tm := id rfl
@[simp] theorem Block.timed_ctxs (t : Timer) : (b.timed t).ctxs = b.ctxs := id rfl
@[simp] theorem Block.timed_globals (t : Timer) : (b.timed t).globals = b.globals := id rfl
@[simp] theorem Block.timed_sched (t : Timer) : (b.timed t).sched = b.sched := id rfl
@[simp] theorem Block.timed_frc (t : Timer) : (b.timed t).frc = b.frc := id rfl
@[simp] theorem Block.timed_sol (t : Timer) : (b.timed t).sol = b.sol := id rfl
@[simp] theorem Block.timed_chans (t : Timer) : (b.timed t).chans = b.chans := id rfl
@[simp] theorem Block.timed_chFactory (t : Timer) : (b.timed t).chFactory = b.chFactory := id rfl
@[simp] theorem Block.timed_hart (t : Timer) : (b.timed t).hart = b.hart := id rfl
@[simp] theorem Block.timed_isl (t : Timer) : (b.timed t).isl = b.isl := id rfl
@[simp] theorem Block.timed_outEls (t : Timer) : (b.timed t).outEls = b.outEls := id rfl
@[simp] theorem Block.timed_lnk (t : Timer) : (b.timed t).lnk = b.lnk := id rfl
@[simp] theorem Block.timed_ssp (t : Timer) : (b.timed t).ssp = b.ssp := id rfl
@[simp] theorem Block.timed_net (t : Timer) : (b.timed t).net = b.net := id rfl
@[simp] theorem Block.timed_canCfg (t : Timer) : (b.timed t).canCfg = b.canCfg := id rfl
@[simp] theorem Block.timed_can (t : Timer) : (b.timed t).can = b.can := id rfl
@[simp] theorem Block.timed_red (t : Timer) : (b.timed t).red = b.red := id rfl
@[simp] theorem Block.timed_mem (t : Timer) : (b.timed t).mem = b.mem := id rfl
@[simp] theorem Block.timed_upd (t : Timer) : (b.timed t).upd = b.upd := id rfl
@[simp] theorem Block.timed_btn (t : Timer) : (b.timed t).btn = b.btn := id rfl
@[simp] theorem Block.timed_dsb (t : Timer) : (b.timed t).dsb = b.dsb := id rfl
@[simp] theorem Block.timed_dse (t : Timer) : (b.timed t).dse = b.dse := id rfl
@[simp] theorem Block.timed_prog (t : Timer) : (b.timed t).prog = b.prog := id rfl
@[simp] theorem Block.timed_sec (t : Timer) : (b.timed t).sec = b.sec := id rfl
@[simp] theorem Block.timed_olc (t : Timer) : (b.timed t).olc = b.olc := id rfl

/-! ### untimed -/

@[simp] theorem Block.untimed_regs (t : Timer) : (b.untimed t).regs = b.regs := id rfl
@[simp] theorem Block.untimed_fab (t : Timer) : (b.untimed t).fab = b.fab := id rfl
@[simp] theorem Block.untimed_clk (t : Timer) : (b.untimed t).clk = b.clk := id rfl
@[simp] theorem Block.untimed_freeCount (t : Timer) : (b.untimed t).freeCount = b.freeCount := id rfl
@[simp] theorem Block.untimed_outs (t : Timer) : (b.untimed t).outs = b.outs := id rfl
@[simp] theorem Block.untimed_evr (t : Timer) : (b.untimed t).evr = b.evr := id rfl
@[simp] theorem Block.untimed_cel (t : Timer) : (b.untimed t).cel = b.cel := id rfl
@[simp] theorem Block.untimed_pwr (t : Timer) : (b.untimed t).pwr = b.pwr := id rfl
@[simp] theorem Block.untimed_tm (t : Timer) : (b.untimed t).tm = b.tm := id rfl
@[simp] theorem Block.untimed_ctxs (t : Timer) : (b.untimed t).ctxs = b.ctxs := id rfl
@[simp] theorem Block.untimed_globals (t : Timer) : (b.untimed t).globals = b.globals := id rfl
@[simp] theorem Block.untimed_sched (t : Timer) : (b.untimed t).sched = b.sched := id rfl
@[simp] theorem Block.untimed_frc (t : Timer) : (b.untimed t).frc = b.frc := id rfl
@[simp] theorem Block.untimed_sol (t : Timer) : (b.untimed t).sol = b.sol := id rfl
@[simp] theorem Block.untimed_chans (t : Timer) : (b.untimed t).chans = b.chans := id rfl
@[simp] theorem Block.untimed_chFactory (t : Timer) : (b.untimed t).chFactory = b.chFactory := id rfl
@[simp] theorem Block.untimed_hart (t : Timer) : (b.untimed t).hart = b.hart := id rfl
@[simp] theorem Block.untimed_isl (t : Timer) : (b.untimed t).isl = b.isl := id rfl
@[simp] theorem Block.untimed_outEls (t : Timer) : (b.untimed t).outEls = b.outEls := id rfl
@[simp] theorem Block.untimed_lnk (t : Timer) : (b.untimed t).lnk = b.lnk := id rfl
@[simp] theorem Block.untimed_ssp (t : Timer) : (b.untimed t).ssp = b.ssp := id rfl
@[simp] theorem Block.untimed_net (t : Timer) : (b.untimed t).net = b.net := id rfl
@[simp] theorem Block.untimed_canCfg (t : Timer) : (b.untimed t).canCfg = b.canCfg := id rfl
@[simp] theorem Block.untimed_can (t : Timer) : (b.untimed t).can = b.can := id rfl
@[simp] theorem Block.untimed_red (t : Timer) : (b.untimed t).red = b.red := id rfl
@[simp] theorem Block.untimed_mem (t : Timer) : (b.untimed t).mem = b.mem := id rfl
@[simp] theorem Block.untimed_upd (t : Timer) : (b.untimed t).upd = b.upd := id rfl
@[simp] theorem Block.untimed_btn (t : Timer) : (b.untimed t).btn = b.btn := id rfl
@[simp] theorem Block.untimed_dsb (t : Timer) : (b.untimed t).dsb = b.dsb := id rfl
@[simp] theorem Block.untimed_dse (t : Timer) : (b.untimed t).dse = b.dse := id rfl
@[simp] theorem Block.untimed_prog (t : Timer) : (b.untimed t).prog = b.prog := id rfl
@[simp] theorem Block.untimed_sec (t : Timer) : (b.untimed t).sec = b.sec := id rfl
@[simp] theorem Block.untimed_olc (t : Timer) : (b.untimed t).olc = b.olc := id rfl

/-! ### Reading past an output -/

@[simp] theorem Block.out_outs (o : Out) : (b.out o).outs = b.outs ++ [o] := id rfl
@[simp] theorem Block.out_reg (o : Out) (off : Nat) : (b.out o).reg off = b.reg off := id rfl
@[simp] theorem Block.out_regN (o : Out) (off : Nat) : (b.out o).regN off = b.regN off := id rfl
@[simp] theorem Block.out_fget (o : Out) (f : Fld) : (b.out o).fget f = b.fget f := id rfl
@[simp] theorem Block.out_fgetB (o : Out) (f : Fld) : (b.out o).fgetB f = b.fgetB f := id rfl
@[simp] theorem Block.timed_reg (t : Timer) (off : Nat) : (b.timed t).reg off = b.reg off := id rfl
@[simp] theorem Block.timed_regN (t : Timer) (off : Nat) : (b.timed t).regN off = b.regN off := id rfl
@[simp] theorem Block.timed_fget (t : Timer) (f : Fld) : (b.timed t).fget f = b.fget f := id rfl
@[simp] theorem Block.timed_fgetB (t : Timer) (f : Fld) : (b.timed t).fgetB f = b.fgetB f := id rfl

/-- The map of timers under their values. -/
theorem mapSet_some {κ : Type} [DecidableEq κ] (m : List (κ × Nat)) (k : κ) (v : Nat) :
    (mapSet m k v).map (fun e : κ × Nat => (e.1, some e.2)) = mapSet (m.map fun e : κ × Nat => (e.1, some e.2)) k (some v) := by
  induction m with
  | nil => rfl
  | cons e m ih =>
    simp only [mapSet, List.map_cons]
    split
    · rfl
    · simp only [List.map_cons, ih]

@[simp] theorem Block.timedAt_timed (t : Timer) : (b.timed t).timedAt t = some b.clk := by
  simp only [Block.timedAt, Block.timed, mapSet_some, mapGet_mapSet_same]

theorem Block.timedAt_timed_ne {t u : Timer} (h : u ≠ t) : (b.timed t).timedAt u = b.timedAt u := by
  simp only [Block.timedAt, Block.timed, mapSet_some]
  exact mapGet_mapSet_ne _ _ _ h

/-- A timer that begins now runs out after `ns`, and no sooner. -/
theorem Block.passed_timed (t : Timer) (ns : Nat) : (b.timed t).passed t ns = decide (ns = 0) := by
  simp only [Block.passed, Block.timedAt_timed, Option.any_some]
  exact decide_eq_decide.mpr (by show b.clk + ns ≤ b.clk ↔ ns = 0; omega)

@[simp] theorem Block.send_eq (p : Port) (k : String) (ws : List Nat) : b.send p k ws = b.out (.frame p k ws) := rfl
@[simp] theorem Block.fsetB_eq (f : Fld) (v : Bool) : b.fsetB f v = b.fset f (if v then 1 else 0) := rfl
@[simp] theorem Block.incWrap_eq (f : Fld) : b.incWrap f = b.fset f (b.fget f + 1) := rfl
@[simp] theorem Block.addSat_eq (f : Fld) (n : Nat) :
    b.addSat f n = b.fset f (Nat.min (b.fget f + n) (2 ^ f.w - 1)) := rfl
@[simp] theorem Block.when_true (f : Block → Block) : b.when true f = f b := rfl
@[simp] theorem Block.when_false (f : Block → Block) : b.when false f = b := rfl
@[simp] theorem Block.forAll_nil {α : Type} (f : Block → α → Block) : b.forAll [] f = b := rfl
@[simp] theorem Block.forAll_cons {α : Type} (x : α) (l : List α) (f : Block → α → Block) :
    b.forAll (x :: l) f = (f b x).forAll l f := rfl

/-- What holds before a fold and is kept by each step holds after it. -/
theorem Block.forAll_keeps {α : Type} (P : Block → Prop) (f : Block → α → Block) (hf : ∀ b x, P b → P (f b x))
    (l : List α) (h : P b) : P (b.forAll l f) := by
  induction l generalizing b with
  | nil => exact h
  | cons x l ih => exact ih _ (hf _ _ h)

/-! ### Records: the event recorder and the registers, and nothing else -/

/-- Accepting a record changes nothing but the recorder and the registers. -/
theorem Block.recAccept_shape (r : EvRec) : ∃ regs evr, b.recAccept r = { b with regs := regs, evr := evr } := by
  unfold Block.recAccept
  split
  · exact ⟨_, _, rfl⟩
  · split
    · exact ⟨_, _, rfl⟩
    · split
      · unfold Block.recQueue Block.queueFill Block.when
        dsimp only
        split <;> exact ⟨_, _, rfl⟩
      · exact ⟨_, _, rfl⟩

@[simp] theorem Block.recAccept_fab (r : EvRec) : (b.recAccept r).fab = b.fab := by
  obtain ⟨_, _, h⟩ := b.recAccept_shape r
  rw [h]
@[simp] theorem Block.recAccept_clk (r : EvRec) : (b.recAccept r).clk = b.clk := by
  obtain ⟨_, _, h⟩ := b.recAccept_shape r
  rw [h]
@[simp] theorem Block.recAccept_freeCount (r : EvRec) : (b.recAccept r).freeCount = b.freeCount := by
  obtain ⟨_, _, h⟩ := b.recAccept_shape r
  rw [h]
@[simp] theorem Block.recAccept_outs (r : EvRec) : (b.recAccept r).outs = b.outs := by
  obtain ⟨_, _, h⟩ := b.recAccept_shape r
  rw [h]
@[simp] theorem Block.recAccept_cel (r : EvRec) : (b.recAccept r).cel = b.cel := by
  obtain ⟨_, _, h⟩ := b.recAccept_shape r
  rw [h]
@[simp] theorem Block.recAccept_pwr (r : EvRec) : (b.recAccept r).pwr = b.pwr := by
  obtain ⟨_, _, h⟩ := b.recAccept_shape r
  rw [h]
@[simp] theorem Block.recAccept_tm (r : EvRec) : (b.recAccept r).tm = b.tm := by
  obtain ⟨_, _, h⟩ := b.recAccept_shape r
  rw [h]
@[simp] theorem Block.recAccept_ctxs (r : EvRec) : (b.recAccept r).ctxs = b.ctxs := by
  obtain ⟨_, _, h⟩ := b.recAccept_shape r
  rw [h]
@[simp] theorem Block.recAccept_globals (r : EvRec) : (b.recAccept r).globals = b.globals := by
  obtain ⟨_, _, h⟩ := b.recAccept_shape r
  rw [h]
@[simp] theorem Block.recAccept_sched (r : EvRec) : (b.recAccept r).sched = b.sched := by
  obtain ⟨_, _, h⟩ := b.recAccept_shape r
  rw [h]
@[simp] theorem Block.recAccept_frc (r : EvRec) : (b.recAccept r).frc = b.frc := by
  obtain ⟨_, _, h⟩ := b.recAccept_shape r
  rw [h]
@[simp] theorem Block.recAccept_sol (r : EvRec) : (b.recAccept r).sol = b.sol := by
  obtain ⟨_, _, h⟩ := b.recAccept_shape r
  rw [h]
@[simp] theorem Block.recAccept_chans (r : EvRec) : (b.recAccept r).chans = b.chans := by
  obtain ⟨_, _, h⟩ := b.recAccept_shape r
  rw [h]
@[simp] theorem Block.recAccept_chFactory (r : EvRec) : (b.recAccept r).chFactory = b.chFactory := by
  obtain ⟨_, _, h⟩ := b.recAccept_shape r
  rw [h]
@[simp] theorem Block.recAccept_hart (r : EvRec) : (b.recAccept r).hart = b.hart := by
  obtain ⟨_, _, h⟩ := b.recAccept_shape r
  rw [h]
@[simp] theorem Block.recAccept_isl (r : EvRec) : (b.recAccept r).isl = b.isl := by
  obtain ⟨_, _, h⟩ := b.recAccept_shape r
  rw [h]
@[simp] theorem Block.recAccept_outEls (r : EvRec) : (b.recAccept r).outEls = b.outEls := by
  obtain ⟨_, _, h⟩ := b.recAccept_shape r
  rw [h]
@[simp] theorem Block.recAccept_lnk (r : EvRec) : (b.recAccept r).lnk = b.lnk := by
  obtain ⟨_, _, h⟩ := b.recAccept_shape r
  rw [h]
@[simp] theorem Block.recAccept_ssp (r : EvRec) : (b.recAccept r).ssp = b.ssp := by
  obtain ⟨_, _, h⟩ := b.recAccept_shape r
  rw [h]
@[simp] theorem Block.recAccept_net (r : EvRec) : (b.recAccept r).net = b.net := by
  obtain ⟨_, _, h⟩ := b.recAccept_shape r
  rw [h]
@[simp] theorem Block.recAccept_canCfg (r : EvRec) : (b.recAccept r).canCfg = b.canCfg := by
  obtain ⟨_, _, h⟩ := b.recAccept_shape r
  rw [h]
@[simp] theorem Block.recAccept_can (r : EvRec) : (b.recAccept r).can = b.can := by
  obtain ⟨_, _, h⟩ := b.recAccept_shape r
  rw [h]
@[simp] theorem Block.recAccept_red (r : EvRec) : (b.recAccept r).red = b.red := by
  obtain ⟨_, _, h⟩ := b.recAccept_shape r
  rw [h]
@[simp] theorem Block.recAccept_mem (r : EvRec) : (b.recAccept r).mem = b.mem := by
  obtain ⟨_, _, h⟩ := b.recAccept_shape r
  rw [h]
@[simp] theorem Block.recAccept_upd (r : EvRec) : (b.recAccept r).upd = b.upd := by
  obtain ⟨_, _, h⟩ := b.recAccept_shape r
  rw [h]
@[simp] theorem Block.recAccept_btn (r : EvRec) : (b.recAccept r).btn = b.btn := by
  obtain ⟨_, _, h⟩ := b.recAccept_shape r
  rw [h]
@[simp] theorem Block.recAccept_dsb (r : EvRec) : (b.recAccept r).dsb = b.dsb := by
  obtain ⟨_, _, h⟩ := b.recAccept_shape r
  rw [h]
@[simp] theorem Block.recAccept_dse (r : EvRec) : (b.recAccept r).dse = b.dse := by
  obtain ⟨_, _, h⟩ := b.recAccept_shape r
  rw [h]
@[simp] theorem Block.recAccept_prog (r : EvRec) : (b.recAccept r).prog = b.prog := by
  obtain ⟨_, _, h⟩ := b.recAccept_shape r
  rw [h]
@[simp] theorem Block.recAccept_sec (r : EvRec) : (b.recAccept r).sec = b.sec := by
  obtain ⟨_, _, h⟩ := b.recAccept_shape r
  rw [h]
@[simp] theorem Block.recAccept_olc (r : EvRec) : (b.recAccept r).olc = b.olc := by
  obtain ⟨_, _, h⟩ := b.recAccept_shape r
  rw [h]
@[simp] theorem Block.recAccept_since (r : EvRec) : (b.recAccept r).since = b.since := by
  obtain ⟨_, _, h⟩ := b.recAccept_shape r
  rw [h]
@[simp] theorem Block.recRegs_fab (p e : Nat) (regs extra : List Nat) : (b.recRegs p e regs extra).fab = b.fab := Block.recAccept_fab b _
@[simp] theorem Block.recRegs_clk (p e : Nat) (regs extra : List Nat) : (b.recRegs p e regs extra).clk = b.clk := Block.recAccept_clk b _
@[simp] theorem Block.recRegs_freeCount (p e : Nat) (regs extra : List Nat) : (b.recRegs p e regs extra).freeCount = b.freeCount := Block.recAccept_freeCount b _
@[simp] theorem Block.recRegs_outs (p e : Nat) (regs extra : List Nat) : (b.recRegs p e regs extra).outs = b.outs := Block.recAccept_outs b _
@[simp] theorem Block.recRegs_cel (p e : Nat) (regs extra : List Nat) : (b.recRegs p e regs extra).cel = b.cel := Block.recAccept_cel b _
@[simp] theorem Block.recRegs_pwr (p e : Nat) (regs extra : List Nat) : (b.recRegs p e regs extra).pwr = b.pwr := Block.recAccept_pwr b _
@[simp] theorem Block.recRegs_tm (p e : Nat) (regs extra : List Nat) : (b.recRegs p e regs extra).tm = b.tm := Block.recAccept_tm b _
@[simp] theorem Block.recRegs_ctxs (p e : Nat) (regs extra : List Nat) : (b.recRegs p e regs extra).ctxs = b.ctxs := Block.recAccept_ctxs b _
@[simp] theorem Block.recRegs_globals (p e : Nat) (regs extra : List Nat) : (b.recRegs p e regs extra).globals = b.globals := Block.recAccept_globals b _
@[simp] theorem Block.recRegs_sched (p e : Nat) (regs extra : List Nat) : (b.recRegs p e regs extra).sched = b.sched := Block.recAccept_sched b _
@[simp] theorem Block.recRegs_frc (p e : Nat) (regs extra : List Nat) : (b.recRegs p e regs extra).frc = b.frc := Block.recAccept_frc b _
@[simp] theorem Block.recRegs_sol (p e : Nat) (regs extra : List Nat) : (b.recRegs p e regs extra).sol = b.sol := Block.recAccept_sol b _
@[simp] theorem Block.recRegs_chans (p e : Nat) (regs extra : List Nat) : (b.recRegs p e regs extra).chans = b.chans := Block.recAccept_chans b _
@[simp] theorem Block.recRegs_chFactory (p e : Nat) (regs extra : List Nat) : (b.recRegs p e regs extra).chFactory = b.chFactory := Block.recAccept_chFactory b _
@[simp] theorem Block.recRegs_hart (p e : Nat) (regs extra : List Nat) : (b.recRegs p e regs extra).hart = b.hart := Block.recAccept_hart b _
@[simp] theorem Block.recRegs_isl (p e : Nat) (regs extra : List Nat) : (b.recRegs p e regs extra).isl = b.isl := Block.recAccept_isl b _
@[simp] theorem Block.recRegs_outEls (p e : Nat) (regs extra : List Nat) : (b.recRegs p e regs extra).outEls = b.outEls := Block.recAccept_outEls b _
@[simp] theorem Block.recRegs_lnk (p e : Nat) (regs extra : List Nat) : (b.recRegs p e regs extra).lnk = b.lnk := Block.recAccept_lnk b _
@[simp] theorem Block.recRegs_ssp (p e : Nat) (regs extra : List Nat) : (b.recRegs p e regs extra).ssp = b.ssp := Block.recAccept_ssp b _
@[simp] theorem Block.recRegs_net (p e : Nat) (regs extra : List Nat) : (b.recRegs p e regs extra).net = b.net := Block.recAccept_net b _
@[simp] theorem Block.recRegs_canCfg (p e : Nat) (regs extra : List Nat) : (b.recRegs p e regs extra).canCfg = b.canCfg := Block.recAccept_canCfg b _
@[simp] theorem Block.recRegs_can (p e : Nat) (regs extra : List Nat) : (b.recRegs p e regs extra).can = b.can := Block.recAccept_can b _
@[simp] theorem Block.recRegs_red (p e : Nat) (regs extra : List Nat) : (b.recRegs p e regs extra).red = b.red := Block.recAccept_red b _
@[simp] theorem Block.recRegs_mem (p e : Nat) (regs extra : List Nat) : (b.recRegs p e regs extra).mem = b.mem := Block.recAccept_mem b _
@[simp] theorem Block.recRegs_upd (p e : Nat) (regs extra : List Nat) : (b.recRegs p e regs extra).upd = b.upd := Block.recAccept_upd b _
@[simp] theorem Block.recRegs_btn (p e : Nat) (regs extra : List Nat) : (b.recRegs p e regs extra).btn = b.btn := Block.recAccept_btn b _
@[simp] theorem Block.recRegs_dsb (p e : Nat) (regs extra : List Nat) : (b.recRegs p e regs extra).dsb = b.dsb := Block.recAccept_dsb b _
@[simp] theorem Block.recRegs_dse (p e : Nat) (regs extra : List Nat) : (b.recRegs p e regs extra).dse = b.dse := Block.recAccept_dse b _
@[simp] theorem Block.recRegs_prog (p e : Nat) (regs extra : List Nat) : (b.recRegs p e regs extra).prog = b.prog := Block.recAccept_prog b _
@[simp] theorem Block.recRegs_sec (p e : Nat) (regs extra : List Nat) : (b.recRegs p e regs extra).sec = b.sec := Block.recAccept_sec b _
@[simp] theorem Block.recRegs_olc (p e : Nat) (regs extra : List Nat) : (b.recRegs p e regs extra).olc = b.olc := Block.recAccept_olc b _
@[simp] theorem Block.recRegs_since (p e : Nat) (regs extra : List Nat) : (b.recRegs p e regs extra).since = b.since := Block.recAccept_since b _
@[simp] theorem Block.event_fab (p e : Nat) (regs extra : List Nat) : (b.event p e regs extra).fab = b.fab := Block.recRegs_fab (b.raiseEvt p e) p e regs extra
@[simp] theorem Block.event_clk (p e : Nat) (regs extra : List Nat) : (b.event p e regs extra).clk = b.clk := Block.recRegs_clk (b.raiseEvt p e) p e regs extra
@[simp] theorem Block.event_freeCount (p e : Nat) (regs extra : List Nat) : (b.event p e regs extra).freeCount = b.freeCount := Block.recRegs_freeCount (b.raiseEvt p e) p e regs extra
@[simp] theorem Block.event_outs (p e : Nat) (regs extra : List Nat) : (b.event p e regs extra).outs = b.outs := Block.recRegs_outs (b.raiseEvt p e) p e regs extra
@[simp] theorem Block.event_cel (p e : Nat) (regs extra : List Nat) : (b.event p e regs extra).cel = b.cel := Block.recRegs_cel (b.raiseEvt p e) p e regs extra
@[simp] theorem Block.event_pwr (p e : Nat) (regs extra : List Nat) : (b.event p e regs extra).pwr = b.pwr := Block.recRegs_pwr (b.raiseEvt p e) p e regs extra
@[simp] theorem Block.event_tm (p e : Nat) (regs extra : List Nat) : (b.event p e regs extra).tm = b.tm := Block.recRegs_tm (b.raiseEvt p e) p e regs extra
@[simp] theorem Block.event_ctxs (p e : Nat) (regs extra : List Nat) : (b.event p e regs extra).ctxs = b.ctxs := Block.recRegs_ctxs (b.raiseEvt p e) p e regs extra
@[simp] theorem Block.event_globals (p e : Nat) (regs extra : List Nat) : (b.event p e regs extra).globals = b.globals := Block.recRegs_globals (b.raiseEvt p e) p e regs extra
@[simp] theorem Block.event_sched (p e : Nat) (regs extra : List Nat) : (b.event p e regs extra).sched = b.sched := Block.recRegs_sched (b.raiseEvt p e) p e regs extra
@[simp] theorem Block.event_frc (p e : Nat) (regs extra : List Nat) : (b.event p e regs extra).frc = b.frc := Block.recRegs_frc (b.raiseEvt p e) p e regs extra
@[simp] theorem Block.event_sol (p e : Nat) (regs extra : List Nat) : (b.event p e regs extra).sol = b.sol := Block.recRegs_sol (b.raiseEvt p e) p e regs extra
@[simp] theorem Block.event_chans (p e : Nat) (regs extra : List Nat) : (b.event p e regs extra).chans = b.chans := Block.recRegs_chans (b.raiseEvt p e) p e regs extra
@[simp] theorem Block.event_chFactory (p e : Nat) (regs extra : List Nat) : (b.event p e regs extra).chFactory = b.chFactory := Block.recRegs_chFactory (b.raiseEvt p e) p e regs extra
@[simp] theorem Block.event_hart (p e : Nat) (regs extra : List Nat) : (b.event p e regs extra).hart = b.hart := Block.recRegs_hart (b.raiseEvt p e) p e regs extra
@[simp] theorem Block.event_isl (p e : Nat) (regs extra : List Nat) : (b.event p e regs extra).isl = b.isl := Block.recRegs_isl (b.raiseEvt p e) p e regs extra
@[simp] theorem Block.event_outEls (p e : Nat) (regs extra : List Nat) : (b.event p e regs extra).outEls = b.outEls := Block.recRegs_outEls (b.raiseEvt p e) p e regs extra
@[simp] theorem Block.event_lnk (p e : Nat) (regs extra : List Nat) : (b.event p e regs extra).lnk = b.lnk := Block.recRegs_lnk (b.raiseEvt p e) p e regs extra
@[simp] theorem Block.event_ssp (p e : Nat) (regs extra : List Nat) : (b.event p e regs extra).ssp = b.ssp := Block.recRegs_ssp (b.raiseEvt p e) p e regs extra
@[simp] theorem Block.event_net (p e : Nat) (regs extra : List Nat) : (b.event p e regs extra).net = b.net := Block.recRegs_net (b.raiseEvt p e) p e regs extra
@[simp] theorem Block.event_canCfg (p e : Nat) (regs extra : List Nat) : (b.event p e regs extra).canCfg = b.canCfg := Block.recRegs_canCfg (b.raiseEvt p e) p e regs extra
@[simp] theorem Block.event_can (p e : Nat) (regs extra : List Nat) : (b.event p e regs extra).can = b.can := Block.recRegs_can (b.raiseEvt p e) p e regs extra
@[simp] theorem Block.event_red (p e : Nat) (regs extra : List Nat) : (b.event p e regs extra).red = b.red := Block.recRegs_red (b.raiseEvt p e) p e regs extra
@[simp] theorem Block.event_mem (p e : Nat) (regs extra : List Nat) : (b.event p e regs extra).mem = b.mem := Block.recRegs_mem (b.raiseEvt p e) p e regs extra
@[simp] theorem Block.event_upd (p e : Nat) (regs extra : List Nat) : (b.event p e regs extra).upd = b.upd := Block.recRegs_upd (b.raiseEvt p e) p e regs extra
@[simp] theorem Block.event_btn (p e : Nat) (regs extra : List Nat) : (b.event p e regs extra).btn = b.btn := Block.recRegs_btn (b.raiseEvt p e) p e regs extra
@[simp] theorem Block.event_dsb (p e : Nat) (regs extra : List Nat) : (b.event p e regs extra).dsb = b.dsb := Block.recRegs_dsb (b.raiseEvt p e) p e regs extra
@[simp] theorem Block.event_dse (p e : Nat) (regs extra : List Nat) : (b.event p e regs extra).dse = b.dse := Block.recRegs_dse (b.raiseEvt p e) p e regs extra
@[simp] theorem Block.event_prog (p e : Nat) (regs extra : List Nat) : (b.event p e regs extra).prog = b.prog := Block.recRegs_prog (b.raiseEvt p e) p e regs extra
@[simp] theorem Block.event_sec (p e : Nat) (regs extra : List Nat) : (b.event p e regs extra).sec = b.sec := Block.recRegs_sec (b.raiseEvt p e) p e regs extra
@[simp] theorem Block.event_olc (p e : Nat) (regs extra : List Nat) : (b.event p e regs extra).olc = b.olc := Block.recRegs_olc (b.raiseEvt p e) p e regs extra
@[simp] theorem Block.event_since (p e : Nat) (regs extra : List Nat) : (b.event p e regs extra).since = b.since := Block.recRegs_since (b.raiseEvt p e) p e regs extra
@[simp] theorem Block.timeMark_fab (c : Nat) : (b.timeMark c).fab = b.fab := Block.recAccept_fab b _
@[simp] theorem Block.timeMark_clk (c : Nat) : (b.timeMark c).clk = b.clk := Block.recAccept_clk b _
@[simp] theorem Block.timeMark_freeCount (c : Nat) : (b.timeMark c).freeCount = b.freeCount := Block.recAccept_freeCount b _
@[simp] theorem Block.timeMark_outs (c : Nat) : (b.timeMark c).outs = b.outs := Block.recAccept_outs b _
@[simp] theorem Block.timeMark_cel (c : Nat) : (b.timeMark c).cel = b.cel := Block.recAccept_cel b _
@[simp] theorem Block.timeMark_pwr (c : Nat) : (b.timeMark c).pwr = b.pwr := Block.recAccept_pwr b _
@[simp] theorem Block.timeMark_tm (c : Nat) : (b.timeMark c).tm = b.tm := Block.recAccept_tm b _
@[simp] theorem Block.timeMark_ctxs (c : Nat) : (b.timeMark c).ctxs = b.ctxs := Block.recAccept_ctxs b _
@[simp] theorem Block.timeMark_globals (c : Nat) : (b.timeMark c).globals = b.globals := Block.recAccept_globals b _
@[simp] theorem Block.timeMark_sched (c : Nat) : (b.timeMark c).sched = b.sched := Block.recAccept_sched b _
@[simp] theorem Block.timeMark_frc (c : Nat) : (b.timeMark c).frc = b.frc := Block.recAccept_frc b _
@[simp] theorem Block.timeMark_sol (c : Nat) : (b.timeMark c).sol = b.sol := Block.recAccept_sol b _
@[simp] theorem Block.timeMark_chans (c : Nat) : (b.timeMark c).chans = b.chans := Block.recAccept_chans b _
@[simp] theorem Block.timeMark_chFactory (c : Nat) : (b.timeMark c).chFactory = b.chFactory := Block.recAccept_chFactory b _
@[simp] theorem Block.timeMark_hart (c : Nat) : (b.timeMark c).hart = b.hart := Block.recAccept_hart b _
@[simp] theorem Block.timeMark_isl (c : Nat) : (b.timeMark c).isl = b.isl := Block.recAccept_isl b _
@[simp] theorem Block.timeMark_outEls (c : Nat) : (b.timeMark c).outEls = b.outEls := Block.recAccept_outEls b _
@[simp] theorem Block.timeMark_lnk (c : Nat) : (b.timeMark c).lnk = b.lnk := Block.recAccept_lnk b _
@[simp] theorem Block.timeMark_ssp (c : Nat) : (b.timeMark c).ssp = b.ssp := Block.recAccept_ssp b _
@[simp] theorem Block.timeMark_net (c : Nat) : (b.timeMark c).net = b.net := Block.recAccept_net b _
@[simp] theorem Block.timeMark_canCfg (c : Nat) : (b.timeMark c).canCfg = b.canCfg := Block.recAccept_canCfg b _
@[simp] theorem Block.timeMark_can (c : Nat) : (b.timeMark c).can = b.can := Block.recAccept_can b _
@[simp] theorem Block.timeMark_red (c : Nat) : (b.timeMark c).red = b.red := Block.recAccept_red b _
@[simp] theorem Block.timeMark_mem (c : Nat) : (b.timeMark c).mem = b.mem := Block.recAccept_mem b _
@[simp] theorem Block.timeMark_upd (c : Nat) : (b.timeMark c).upd = b.upd := Block.recAccept_upd b _
@[simp] theorem Block.timeMark_btn (c : Nat) : (b.timeMark c).btn = b.btn := Block.recAccept_btn b _
@[simp] theorem Block.timeMark_dsb (c : Nat) : (b.timeMark c).dsb = b.dsb := Block.recAccept_dsb b _
@[simp] theorem Block.timeMark_dse (c : Nat) : (b.timeMark c).dse = b.dse := Block.recAccept_dse b _
@[simp] theorem Block.timeMark_prog (c : Nat) : (b.timeMark c).prog = b.prog := Block.recAccept_prog b _
@[simp] theorem Block.timeMark_sec (c : Nat) : (b.timeMark c).sec = b.sec := Block.recAccept_sec b _
@[simp] theorem Block.timeMark_olc (c : Nat) : (b.timeMark c).olc = b.olc := Block.recAccept_olc b _
@[simp] theorem Block.timeMark_since (c : Nat) : (b.timeMark c).since = b.since := Block.recAccept_since b _

/-- Accepting a record writes only the fill, the drop and the record counters and the recorder's raw events. -/
theorem Block.recAccept_reg (r : EvRec) {off : Nat} (h1 : off ≠ Reg.EVR_REC_CNT) (h2 : off ≠ Reg.EVR_STAT)
    (h3 : off ≠ Reg.EVR_DROP_CNT) (h4 : off ≠ Reg.BLK_EVT_RAW 0xD0) : (b.recAccept r).reg off = b.reg off := by
  unfold Block.recAccept
  split
  · rfl
  · split
    · show ((b.incSat F.EVR_DROP_CNT_VALUE).raiseEvt 0xD0 2).reg off = _
      rw [Block.reg_raiseEvt_ne h4]; exact Block.reg_fset_ne _ h3
    · split
      · unfold Block.recQueue Block.queueFill Block.when
        dsimp only
        split
        · rw [Block.reg_raiseEvt_ne h4, Block.reg_fset_ne _ h2]; exact Block.reg_fset_ne _ h1
        · rw [Block.reg_fset_ne _ h2]; exact Block.reg_fset_ne _ h1
      · show ((b.incSat F.EVR_DROP_CNT_VALUE).raiseEvt 0xD0 2).reg off = _
        rw [Block.reg_raiseEvt_ne h4]; exact Block.reg_fset_ne _ h3

/-- The same for a record of registers, and for an event with its record outside the event's own page. -/
theorem Block.recRegs_reg (p e : Nat) (regs extra : List Nat) {off : Nat} (h1 : off ≠ Reg.EVR_REC_CNT) (h2 : off ≠ Reg.EVR_STAT)
    (h3 : off ≠ Reg.EVR_DROP_CNT) (h4 : off ≠ Reg.BLK_EVT_RAW 0xD0) : (b.recRegs p e regs extra).reg off = b.reg off :=
  Block.recAccept_reg b _ h1 h2 h3 h4

theorem Block.event_reg (p e : Nat) (regs extra : List Nat) {off : Nat} (h1 : off ≠ Reg.EVR_REC_CNT) (h2 : off ≠ Reg.EVR_STAT)
    (h3 : off ≠ Reg.EVR_DROP_CNT) (h4 : off ≠ Reg.BLK_EVT_RAW 0xD0) (h5 : off ≠ Reg.BLK_EVT_RAW p) :
    (b.event p e regs extra).reg off = b.reg off :=
  (Block.recRegs_reg (b.raiseEvt p e) p e regs extra h1 h2 h3 h4).trans (Block.reg_raiseEvt_ne h5)

end Sys2Proof.Machine
end

