-- ==== Sys2Proof/Laws/Access.lean ====
section
/-! SUPPORT. Laws of the register fabric: what a refusal reports, what an admitted write of a header register does, and what the fall of event lines leaves (R53, R60, R65, R66). -/

namespace Sys2Proof.Machine

/-! ### Refusals -/

theorem Block.refuseRegs_reg (b : Block) (r : Requester) (off code : Nat) (write : Bool) {o : Nat}
    (h1 : o ≠ Reg.BLK_STAT (errPage off)) (h2 : o ≠ Reg.SYS_ACC_ERR_ADDR) (h3 : o ≠ Reg.SYS_ACC_ERR_INFO)
    (h4 : o ≠ Reg.SYS_ACC_ERR_CNT) : (b.refuseRegs r off code write).reg o = b.reg o := by
  unfold Block.refuseRegs Block.when
  dsimp only
  rw [Block.incSat, Block.addSat, Block.reg_fset_ne _ h4]
  split
  · rw [Block.fsetB, Block.reg_fset_ne _ h3, Block.reg_fset_ne _ h3, Block.reg_fset_ne _ h3, Block.reg_fset_ne _ h3,
      Block.reg_setRegN_ne _ h2, Block.reg_fset_ne _ h1]
  · rw [Block.reg_fset_ne _ h1]

/-- A refused access changes no register but the error report's. -/
theorem Block.refuse_reg (b : Block) (r : Requester) (off code : Nat) (write : Bool) {o : Nat}
    (h1 : o ≠ Reg.BLK_STAT (errPage off)) (h2 : o ≠ Reg.SYS_ACC_ERR_ADDR) (h3 : o ≠ Reg.SYS_ACC_ERR_INFO)
    (h4 : o ≠ Reg.SYS_ACC_ERR_CNT) : (b.refuse r off code write).reg o = b.reg o :=
  (Block.reg_congr (c := b.refuseRegs r off code write) rfl o).trans (Block.refuseRegs_reg b r off code write h1 h2 h3 h4)

theorem Block.refuseRegs_outs (b : Block) (r : Requester) (off code : Nat) (write : Bool) :
    (b.refuseRegs r off code write).outs = b.outs := by
  unfold Block.refuseRegs Block.when
  dsimp only
  rw [Block.incSat, Block.addSat, Block.fset_outs]
  split <;> simp

/-- It is answered with its code. -/
theorem Block.refuse_outs (b : Block) (r : Requester) (off code : Nat) (write : Bool) :
    (b.refuse r off code write).outs = b.outs ++ [.access r off code 0] := by
  unfold Block.refuse
  rw [Block.out_outs]
  show (b.refuseRegs r off code write).outs ++ _ = _
  rw [Block.refuseRegs_outs]

/-- ACC_ERR of the page is set. -/
theorem Block.refuse_accErr (b : Block) (r : Requester) (off code : Nat) (write : Bool) :
    (b.refuse r off code write).fget (F.BLK_STAT_ACC_ERR (errPage off)) = 1 := by
  have hx : ∀ n : Nat, n % 0x1000 ≠ 0xC → (F.BLK_STAT_ACC_ERR (errPage off)).off ≠ n := by
    intro n hn
    simp only [F.BLK_STAT_ACC_ERR, Reg.BLK_STAT]
    omega
  have h1 := hx F.SYS_ACC_ERR_CNT_COUNT.off (by decide)
  have h2 := hx Reg.SYS_ACC_ERR_INFO (by decide)
  have h3 := hx Reg.SYS_ACC_ERR_ADDR (by decide)
  have hs : ∀ c : Block, (c.fset (F.BLK_STAT_ACC_ERR (errPage off)) 1).fget (F.BLK_STAT_ACC_ERR (errPage off)) = 1 :=
    fun c => Block.fget_fset_same 1 (Nat.le_of_ble_eq_true rfl)
  refine (Block.fget_congr (c := b.refuseRegs r off code write) rfl _).trans ?_
  unfold Block.refuseRegs Block.when
  dsimp only
  rw [Block.incSat, Block.addSat, Block.fget_fset_ne _ (by decide) (.inl h1)]
  split
  · rw [Block.fsetB, Block.fget_fset_ne _ (by decide) (.inl h2), Block.fget_fset_ne _ (by decide) (.inl h2),
      Block.fget_fset_ne _ (by decide) (.inl h2), Block.fget_fset_ne _ (by decide) (.inl h2), Block.fget_setRegN_ne _ h3, hs]
  · exact hs b

/-! ### Event lines fall -/

/-- The fall of event lines changes registers alone. -/
theorem Block.linesFall_shape (b : Block) : ∃ regs, b.linesFall = { b with regs := regs } := by
  unfold Block.linesFall
  apply Block.forAll_keeps b (fun c => ∃ regs, c = { b with regs := regs })
  · rintro _ x ⟨regs, rfl⟩; exact ⟨_, rfl⟩
  · exact ⟨_, rfl⟩

/-- And among those only the stored levels. -/
theorem Block.linesFall_reg (b : Block) {o : Nat} (h : ∀ n, n < 256 → o ≠ (lineLevel n).off) :
    b.linesFall.reg o = b.reg o := by
  have key : ∀ (l : List Nat) (b : Block), (∀ n ∈ l, n < 256) →
      (b.forAll l fun b n => b.fset (lineLevel n) 0).reg o = b.reg o := by
    intro l
    induction l with
    | nil => intro b _; rfl
    | cons x l ih =>
      intro b hl
      rw [Block.forAll_cons, ih _ fun n hn => hl n (.tail _ hn), Block.reg_fset_ne]
      exact h x (hl x (.head _))
  unfold Block.linesFall
  refine key _ _ fun n hn => ?_
  simpa [upto] using (List.mem_filter.1 hn).1

@[simp] theorem Block.linesFall_outs (b : Block) : b.linesFall.outs = b.outs := by
  obtain ⟨_, h⟩ := b.linesFall_shape; rw [h]

@[simp] theorem Block.linesFall_fab (b : Block) : b.linesFall.fab = b.fab := by
  obtain ⟨_, h⟩ := b.linesFall_shape; rw [h]

/-! ### Header registers -/

theorem headPage {off : Nat} (h : blockArea off = false) : off % 0x1000 < 0x40 := by
  simp only [blockArea, Bool.or_eq_false_iff, decide_eq_false_iff_not] at h
  omega

theorem writableLo_head {off : Nat} (h : off % 0x1000 < 0x40) : writableLo off = false := by
  cases hc : writableLo off with
  | false => rfl
  | true =>
    exfalso
    simp only [writableLo, Bool.or_eq_true, List.contains_iff_mem, List.mem_cons, List.not_mem_nil, or_false,
      List.any_eq_true, upto, List.mem_range, beq_iff_eq] at hc
    rcases hc with (hc | hc | hc | hc | hc) | ⟨k, hk, hc⟩ <;> subst hc <;> revert h
    · decide
    · decide
    · decide
    · decide
    · decide
    · intro h; simp only [Reg.TSU_CMP_LO] at h; omega

theorem regRow_head {off : Nat} {row : RegRow} (hb : blockArea off = false) (h : regRow off = some row) :
    headerRow (off / 0x1000) (off % 0x1000) = some row := by
  have hp := headPage hb
  unfold regRow at h
  dsimp only at h
  split at h
  · simpa [hp] using h
  · rename_i hn; simp [blockArea, hn] at hb

theorem headerRow_notPers {p o : Nat} {row : RegRow} (h : headerRow p o = some row) :
    row.carried.any (·.pers) = false := by
  unfold headerRow at h
  split at h <;> (try split at h) <;> simp at h <;> subst h <;> decide

theorem Block.persistIf_head (b : Block) {off : Nat} (hb : blockArea off = false) : b.persistIf off = b := by
  unfold Block.persistIf
  split
  · rfl
  · rename_i row h; rw [headerRow_notPers (regRow_head hb h)]; rfl

/-- An admitted write names a register of the map. -/
theorem Block.judgeWrite_row {b : Block} {r : Requester} {off v : Nat} {extra : List Nat}
    (h : b.judgeWrite r off v extra = 0) : ∃ row, regRow off = some row := by
  unfold Block.judgeWrite at h
  split at h
  · exfalso; revert h; cases (off % 4 != 0) <;> decide
  · exact ⟨_, ‹_›⟩

/-- What an admitted write of a header register does. -/
theorem Block.oneWrite_head {b : Block} {r : Requester} {off v : Nat} (h : b.judgeWrite r off v = 0)
    (hb : blockArea off = false) (found : Option AccIn) :
    b.oneWrite r off v found = (((Block.headEffect r off v (b.storeBy r off v)).rwlTimed off).linesFall, 0) := by
  have hne : off ≠ Reg.DSE_CFG := by rintro rfl; revert hb; decide
  simp only [Block.oneWrite, hb, Bool.not_false, if_true, Block.regWrite, h, Block.fabRefused, hne, false_and, if_false,
    Block.persistIf_head _ hb]

/-! ### Command registers -/

/-- What an admitted write of a command register does: the store of its fields, the command, the answer. -/
theorem Block.cmdWrite_ok {b : Block} {r : Requester} {off v : Nat} {extra : List Nat} (f : Block → Block)
    (h : b.judgeWrite r off v extra = 0) :
    b.cmdWrite r off v extra f = (((f (b.storeBy r off v)).persistIf off).rwlTimed off).out (.access r off 0 0) := by
  simp only [Block.cmdWrite, Block.regWrite, h, if_true]

/-- A refused one changes nothing but the error report. -/
theorem Block.cmdWrite_refused {b : Block} {r : Requester} {off v : Nat} {extra : List Nat} (f : Block → Block)
    (h : b.judgeWrite r off v extra ≠ 0) :
    b.cmdWrite r off v extra f = b.refuse r off (b.judgeWrite r off v extra) true := by
  simp only [Block.cmdWrite, Block.regWrite, h, if_false]

/-- The store of a write changes registers alone. -/
theorem Block.storeWrite_shape (b : Block) (off v : Nat) : ∃ regs, b.storeWrite off v = { b with regs := regs } := by
  unfold Block.storeWrite
  dsimp only
  split
  · exact ⟨_, rfl⟩
  · split
    · exact ⟨_, rfl⟩
    · split
      · exact ⟨_, rfl⟩
      · split <;> exact ⟨_, rfl⟩

/-- The store of a requester's write changes registers alone. -/
theorem Block.storeBy_shape (b : Block) (r : Requester) (off v : Nat) : ∃ regs, b.storeBy r off v = { b with regs := regs } := by
  unfold Block.storeBy
  split
  · split
    · exact ⟨_, rfl⟩
    · exact b.storeWrite_shape off v
  · exact b.storeWrite_shape off v

/-- Only SAF on its own page writes past the access of the fields. -/
theorem Block.storeBy_std (b : Block) {r : Requester} {off : Nat} (v : Nat) (h : off / 0x1000 ≠ 0xC0) :
    b.storeBy r off v = b.storeWrite off v := by
  unfold Block.storeBy
  split
  · simp only [h, if_false]
  · rfl

/-- And among those only the register written and the events of its page. -/
theorem Block.storeWrite_reg (b : Block) (off v : Nat) {o : Nat} (h1 : o ≠ off) (h2 : o ≠ Reg.BLK_EVT_RAW (off / 0x1000)) :
    (b.storeWrite off v).reg o = b.reg o := by
  unfold Block.storeWrite
  dsimp only
  split
  · rfl
  · split
    · exact Block.reg_setReg_ne _ h2
    · split
      · rfl
      · split
        · rw [Block.reg_raiseEvt_ne h2, Block.reg_setRegN_ne _ h1]
        · exact Block.reg_setRegN_ne _ h1

/-- The request to make a page's configuration durable changes the cellar's requests alone. -/
theorem Block.persistIf_shape (b : Block) (off : Nat) :
    ∃ l, b.persistIf off = { b with cel := { b.cel with requests := l } } := by
  unfold Block.persistIf Block.when Block.celRequest
  split
  · exact ⟨_, rfl⟩
  · split
    · dsimp only; split <;> exact ⟨_, rfl⟩
    · exact ⟨_, rfl⟩

/-- The lock timer of an accepted RWL write changes the timers alone. -/
theorem Block.rwlTimed_shape (b : Block) (off : Nat) : ∃ l, b.rwlTimed off = { b with since := l } := by
  unfold Block.rwlTimed Block.when
  split <;> exact ⟨_, rfl⟩

@[simp] theorem Block.rwlTimed_regs (b : Block) (off : Nat) : (b.rwlTimed off).regs = b.regs := by
  obtain ⟨l, h⟩ := b.rwlTimed_shape off; rw [h]

@[simp] theorem Block.rwlTimed_outs (b : Block) (off : Nat) : (b.rwlTimed off).outs = b.outs := by
  obtain ⟨l, h⟩ := b.rwlTimed_shape off; rw [h]

@[simp] theorem Block.persistIf_regs (b : Block) (off : Nat) : (b.persistIf off).regs = b.regs := by
  obtain ⟨l, h⟩ := b.persistIf_shape off; rw [h]

@[simp] theorem Block.persistIf_outs (b : Block) (off : Nat) : (b.persistIf off).outs = b.outs := by
  obtain ⟨l, h⟩ := b.persistIf_shape off; rw [h]

end Sys2Proof.Machine
end

