-- ==== Sys2Proof/Laws/Keep.lean ====
section
/-! SUPPORT. Every operation writes registers through setReg alone: what setReg keeps of the register store, each keeps. -/

set_option linter.unusedVariables false

namespace Sys2Proof.Machine

/-- A claim about the register store that every register write keeps. -/
structure KeptBySet (Q : List (Nat × Word) → Prop) : Prop where
  nil : Q []
  set : ∀ (m : List (Nat × Word)) (off : Nat) (v : Word), Q m → Q (storeSet (regReset off) m off v)

variable {Q : List (Nat × Word) → Prop}

theorem Block.setReg_keep (K : KeptBySet Q) (b : Block) (off : Nat) (v : Word) (h : Q b.regs) : Q (b.setReg off v).regs :=
  K.set _ _ _ h

theorem Block.when_keep (b : Block) (c : Bool) (f : Block → Block) (h : Q b.regs) (hf : Q b.regs → Q (f b).regs) :
    Q (b.when c f).regs := by
  unfold Block.when
  split
  · exact hf h
  · exact h

/-- The same where the update's result is given by name, so that the kernel compares the two blocks and evaluates neither. -/
theorem Block.when_keep_eq {b d : Block} {c : Bool} {f : Block → Block} (e : f b = d) (h : Q b.regs) (hf : Q b.regs → Q d.regs) :
    Q (b.when c f).regs := Block.when_keep b c f h fun h => e ▸ hf h

theorem Block.forAll_keep {α : Type} (b : Block) (l : List α) (f : Block → α → Block) (h : Q b.regs)
    (hf : ∀ b x, Q b.regs → Q (f b x).regs) : Q (b.forAll l f).regs :=
  Block.forAll_keeps b (fun b => Q b.regs) f hf l h

theorem ite_keep {c : Prop} [Decidable c] {b d : Block} (h : Q b.regs) (h' : Q d.regs) : Q (if c then b else d).regs := by
  split
  · exact h
  · exact h'

theorem foldl_keep {α β : Type} (f : Block × β → α → Block × β) (hf : ∀ q x, Q q.1.regs → Q (f q x).1.regs)
    (l : List α) (q : Block × β) (h : Q q.1.regs) : Q (l.foldl f q).1.regs := by
  induction l generalizing q with
  | nil => exact h
  | cons x l ih => exact ih _ (hf _ _ h)

/-! Parts that an update replaces leave the registers alone. -/

theorem keep_clk {b : Block} (n : Nat) (h : Q b.regs) : Q ({ b with clk := n } : Block).regs := h

theorem keep_pwr {b : Block} (p : Power) (h : Q b.regs) : Q ({ b with pwr := p } : Block).regs := h

theorem keep_red {b : Block} (r : Pair) (h : Q b.regs) : Q ({ b with red := r } : Block).regs := h

theorem keep_tm {b : Block} (t : TimeState) (h : Q b.regs) : Q ({ b with tm := t } : Block).regs := h

theorem keep_down {b : Block} (p : Power) (e : Recorder) (c : Cellar) (r : Pair) (h : Q b.regs) :
    Q ({ b with pwr := p, evr := e, cel := c, red := r } : Block).regs := h

theorem id_keep {b : Block} (h : Q b.regs) : Q (id b).regs := h

theorem pair_keep {β : Type} {p : Block × β} {b : Block} {c : β} (e : p = (b, c)) (h : Q p.1.regs) : Q b.regs := by
  subst e; exact h

theorem pair_keep' {β : Type} {p : β × Block} {b : Block} {c : β} (e : p = (c, b)) (h : Q p.2.regs) : Q b.regs := by
  subst e; exact h


theorem Block.setRegN_keep (K : KeptBySet Q) (b : Block) (off : Nat) (v : Nat) (hb : Q b.regs) : Q (Block.setRegN b off v).regs := by
  unfold Block.setRegN
  repeat' (first | with_reducible assumption | with_reducible apply Block.setReg_keep K | dsimp only)

theorem Block.fset_keep (K : KeptBySet Q) (b : Block) (f : Fld) (v : Nat) (hb : Q b.regs) : Q (Block.fset b f v).regs := by
  unfold Block.fset
  repeat' (first | with_reducible assumption | with_reducible apply Block.setRegN_keep K | dsimp only)

theorem Block.fsetB_keep (K : KeptBySet Q) (b : Block) (f : Fld) (v : Bool) (hb : Q b.regs) : Q (Block.fsetB b f v).regs := by
  unfold Block.fsetB
  repeat' (first | with_reducible assumption | with_reducible apply Block.fset_keep K | with_reducible refine ite_keep ?_ ?_ | dsimp only)

theorem Block.incWrap_keep (K : KeptBySet Q) (b : Block) (f : Fld) (hb : Q b.regs) : Q (Block.incWrap b f).regs := by
  unfold Block.incWrap
  repeat' (first | with_reducible assumption | with_reducible apply Block.fset_keep K | dsimp only)

theorem Block.addSat_keep (K : KeptBySet Q) (b : Block) (f : Fld) (n : Nat) (hb : Q b.regs) : Q (Block.addSat b f n).regs := by
  unfold Block.addSat
  repeat' (first | with_reducible assumption | with_reducible apply Block.fset_keep K | dsimp only)

theorem Block.incSat_keep (K : KeptBySet Q) (b : Block) (f : Fld) (hb : Q b.regs) : Q (Block.incSat b f).regs := by
  unfold Block.incSat
  repeat' (first | with_reducible assumption | with_reducible apply Block.addSat_keep K | dsimp only)

theorem Block.setPair_keep (K : KeptBySet Q) (b : Block) (lo : Nat) (v : Nat) (hb : Q b.regs) : Q (Block.setPair b lo v).regs := by
  unfold Block.setPair
  repeat' (first | with_reducible assumption | with_reducible apply Block.setRegN_keep K | dsimp only)

theorem Block.free_keep (K : KeptBySet Q) (b : Block) (hb : Q b.regs) : Q (Block.free b).2.regs := by
  unfold Block.free
  repeat' (first | with_reducible assumption | split | dsimp only)

theorem Block.out_keep (K : KeptBySet Q) (b : Block) (o : Out) (hb : Q b.regs) : Q (Block.out b o).regs := by
  unfold Block.out
  repeat' (first | with_reducible assumption | dsimp only)

theorem Block.send_keep (K : KeptBySet Q) (b : Block) (p : Port) (kind : String) (ws : List Nat) (hb : Q b.regs) : Q (Block.send b p kind ws).regs := by
  unfold Block.send
  repeat' (first | with_reducible assumption | with_reducible apply Block.out_keep K | dsimp only)

theorem Block.timed_keep (K : KeptBySet Q) (b : Block) (t : Timer) (hb : Q b.regs) : Q (Block.timed b t).regs := by
  unfold Block.timed
  repeat' (first | with_reducible assumption | dsimp only)

theorem Block.untimed_keep (K : KeptBySet Q) (b : Block) (t : Timer) (hb : Q b.regs) : Q (Block.untimed b t).regs := by
  unfold Block.untimed
  repeat' (first | with_reducible assumption | dsimp only)

theorem Block.setNow_keep (K : KeptBySet Q) (b : Block) (t : Nat) (hb : Q b.regs) : Q (Block.setNow b t).regs := by
  unfold Block.setNow
  repeat' (first | with_reducible assumption | with_reducible apply Block.setRegN_keep K | dsimp only)

theorem Block.stamp_keep (K : KeptBySet Q) (b : Block) (lo hi : Nat) (hb : Q b.regs) : Q (Block.stamp b lo hi).regs := by
  unfold Block.stamp
  repeat' (first | with_reducible assumption | with_reducible apply Block.setRegN_keep K | dsimp only)

theorem Block.raiseEvt_keep (K : KeptBySet Q) (b : Block) (p e : Nat) (hb : Q b.regs) : Q (Block.raiseEvt b p e).regs := by
  unfold Block.raiseEvt
  repeat' (first | with_reducible assumption | with_reducible apply Block.fset_keep K | dsimp only)

theorem Block.queueFill_keep (K : KeptBySet Q) (b : Block) (hb : Q b.regs) : Q (Block.queueFill b).regs := by
  unfold Block.queueFill
  repeat' (first | with_reducible assumption | with_reducible apply Block.fset_keep K | with_reducible refine Block.when_keep _ _ _ ?_ (fun _ => ?_) | with_reducible apply Block.raiseEvt_keep K | dsimp only)

theorem Block.recDrop_keep (K : KeptBySet Q) (b : Block) (fill : Bool) (hb : Q b.regs) : Q (Block.recDrop b fill).regs := by
  unfold Block.recDrop
  repeat' (first | with_reducible assumption | with_reducible apply Block.incSat_keep K | with_reducible apply Block.raiseEvt_keep K | with_reducible refine ite_keep ?_ ?_ | dsimp only)

theorem Block.recQueue_keep (K : KeptBySet Q) (b : Block) (r : EvRec) (hb : Q b.regs) : Q (Block.recQueue b r).regs := by
  unfold Block.recQueue
  repeat' (first | with_reducible assumption | with_reducible apply Block.incWrap_keep K | with_reducible apply Block.queueFill_keep K | dsimp only)

theorem Block.recAccept_keep (K : KeptBySet Q) (b : Block) (r : EvRec) (hb : Q b.regs) : Q (Block.recAccept b r).regs := by
  unfold Block.recAccept
  repeat' (first | with_reducible assumption | with_reducible apply Block.recDrop_keep K | with_reducible apply Block.recQueue_keep K | with_reducible refine ite_keep ?_ ?_ | dsimp only)

theorem Block.recIsland_keep (K : KeptBySet Q) (b : Block) (r : EvRec) (hb : Q b.regs) : Q (Block.recIsland b r).regs := by
  unfold Block.recIsland
  repeat' (first | with_reducible assumption | with_reducible apply Block.incWrap_keep K | with_reducible refine ite_keep ?_ ?_ | dsimp only)

theorem Block.recBlk_keep (K : KeptBySet Q) (b : Block) (p evt : Nat) (pairs : List (Nat × Nat)) (hb : Q b.regs) : Q (Block.recBlk b p evt pairs).regs := by
  unfold Block.recBlk
  repeat' (first | with_reducible assumption | with_reducible apply Block.recAccept_keep K | dsimp only)

theorem Block.recRegs_keep (K : KeptBySet Q) (b : Block) (p evt : Nat) (regs extra : List Nat) (hb : Q b.regs) : Q (Block.recRegs b p evt regs extra).regs := by
  unfold Block.recRegs
  repeat' (first | with_reducible assumption | with_reducible apply Block.recBlk_keep K | dsimp only | intro _)

theorem Block.event_keep (K : KeptBySet Q) (b : Block) (p evt : Nat) (regs : List Nat) (extra : List Nat) (hb : Q b.regs) : Q (Block.event b p evt regs extra).regs := by
  unfold Block.event
  repeat' (first | with_reducible assumption | with_reducible apply Block.raiseEvt_keep K | with_reducible apply Block.recRegs_keep K | dsimp only)

theorem Block.timeMark_keep (K : KeptBySet Q) (b : Block) (cause : Nat) (hb : Q b.regs) : Q (Block.timeMark b cause).regs := by
  unfold Block.timeMark
  repeat' (first | with_reducible assumption | with_reducible apply Block.recAccept_keep K | dsimp only)

theorem Block.recLost_keep (K : KeptBySet Q) (b : Block) (cls src count reason : Nat) (hb : Q b.regs) : Q (Block.recLost b cls src count reason).regs := by
  unfold Block.recLost
  repeat' (first | with_reducible assumption | with_reducible apply Block.recAccept_keep K | dsimp only)

theorem Block.celRequest_keep (K : KeptBySet Q) (b : Block) (r : CelRec) (hb : Q b.regs) : Q (Block.celRequest b r).regs := by
  unfold Block.celRequest
  repeat' (first | with_reducible assumption | with_reducible refine ite_keep ?_ ?_ | dsimp only)

theorem Block.endTransfer_keep (K : KeptBySet Q) (b : Block) (target : Nat) (hb : Q b.regs) : Q (Block.endTransfer b target).regs := by
  unfold Block.endTransfer
  repeat' (first | with_reducible assumption | with_reducible apply Block.raiseEvt_keep K | with_reducible refine ite_keep ?_ ?_ | split | dsimp only | with_reducible refine pair_keep (by with_reducible assumption) ?_ | with_reducible refine pair_keep' (by with_reducible assumption) ?_)

theorem Block.lockPage_keep (K : KeptBySet Q) (b : Block) (p : Nat) (hb : Q b.regs) : Q (Block.lockPage b p).regs := by
  unfold Block.lockPage
  repeat' (first | with_reducible assumption | with_reducible apply Block.setRegN_keep K | with_reducible refine Block.when_keep _ _ _ ?_ (fun _ => ?_) | with_reducible apply Block.timed_keep K | dsimp only | intro _)

theorem Block.lockAll_keep (K : KeptBySet Q) (b : Block) (hb : Q b.regs) : Q (Block.lockAll b).regs := by
  unfold Block.lockAll
  repeat' (first | with_reducible assumption | with_reducible refine Block.forAll_keep _ _ _ ?_ (fun _ _ _ => ?_) | with_reducible apply Block.lockPage_keep K | dsimp only | intro _)

theorem Block.enterState_keep (K : KeptBySet Q) (b : Block) (st cause : Nat) (hb : Q b.regs) : Q (Block.enterState b st cause).regs := by
  unfold Block.enterState
  repeat' (first | with_reducible assumption | with_reducible apply Block.fset_keep K | with_reducible apply Block.lockAll_keep K | with_reducible apply Block.raiseEvt_keep K | with_reducible apply Block.recAccept_keep K | with_reducible refine ite_keep ?_ ?_ | dsimp only)

theorem Block.toPartner_keep (K : KeptBySet Q) (b : Block) (kind : String) (ws : List Nat) (hb : Q b.regs) : Q (Block.toPartner b kind ws).regs := by
  unfold Block.toPartner
  repeat' (first | with_reducible assumption | with_reducible refine Block.when_keep _ _ _ ?_ (fun _ => ?_) | with_reducible apply Block.send_keep K | dsimp only | intro _)

theorem Block.refuseRegs_keep (K : KeptBySet Q) (b : Block) (r : Requester) (off code : Nat) (write : Bool) (hb : Q b.regs) : Q (Block.refuseRegs b r off code write).regs := by
  unfold Block.refuseRegs
  repeat' (first | with_reducible assumption | with_reducible apply Block.fset_keep K | with_reducible refine Block.when_keep _ _ _ ?_ (fun _ => ?_) | with_reducible apply Block.setRegN_keep K | with_reducible apply Block.fsetB_keep K | with_reducible apply Block.incSat_keep K | dsimp only | intro _)

theorem Block.refuse_keep (K : KeptBySet Q) (b : Block) (r : Requester) (off code : Nat) (write : Bool) (hb : Q b.regs) : Q (Block.refuse b r off code write).regs := by
  unfold Block.refuse
  repeat' (first | with_reducible assumption | with_reducible apply Block.refuseRegs_keep K | with_reducible apply Block.out_keep K | dsimp only)

theorem Block.storeWrite_keep (K : KeptBySet Q) (b : Block) (off v : Nat) (hb : Q b.regs) : Q (Block.storeWrite b off v).regs := by
  unfold Block.storeWrite
  repeat' (first | with_reducible assumption | with_reducible apply Block.setReg_keep K | with_reducible apply Block.setRegN_keep K | with_reducible apply Block.raiseEvt_keep K | with_reducible refine ite_keep ?_ ?_ | split | dsimp only | with_reducible refine pair_keep (by with_reducible assumption) ?_ | with_reducible refine pair_keep' (by with_reducible assumption) ?_)

theorem Block.storeBy_keep (K : KeptBySet Q) (b : Block) (r : Requester) (off v : Nat) (hb : Q b.regs) : Q (Block.storeBy b r off v).regs := by
  unfold Block.storeBy
  split
  · exact ite_keep (Block.setRegN_keep K _ _ _ hb) (Block.storeWrite_keep K _ _ _ hb)
  · exact Block.storeWrite_keep K _ _ _ hb

theorem Block.persistIf_keep (K : KeptBySet Q) (b : Block) (off : Nat) (hb : Q b.regs) : Q (Block.persistIf b off).regs := by
  unfold Block.persistIf
  repeat' (first | with_reducible assumption | with_reducible refine Block.when_keep _ _ _ ?_ (fun _ => ?_) | with_reducible apply Block.celRequest_keep K | split | dsimp only | with_reducible refine pair_keep (by with_reducible assumption) ?_ | with_reducible refine pair_keep' (by with_reducible assumption) ?_ | intro _)

theorem Block.rwlTimed_keep (K : KeptBySet Q) (b : Block) (off : Nat) (hb : Q b.regs) : Q (Block.rwlTimed b off).regs := by
  unfold Block.rwlTimed
  repeat' (first | with_reducible assumption | with_reducible refine Block.when_keep _ _ _ ?_ (fun _ => ?_) | with_reducible apply Block.timed_keep K | dsimp only | intro _)

theorem Block.regWrite_keep (K : KeptBySet Q) (b : Block) (r : Requester) (off v : Nat) (extra : List Nat) (eff : Block → Block) (hb : Q b.regs) (heff : ∀ b, Q b.regs → Q (eff b).regs) : Q (Block.regWrite b r off v extra eff).1.regs := by
  unfold Block.regWrite
  repeat' (first | with_reducible assumption | with_reducible apply heff | with_reducible apply Block.storeBy_keep K | with_reducible apply Block.persistIf_keep K | with_reducible apply Block.rwlTimed_keep K | with_reducible apply Block.refuse_keep K | with_reducible refine ite_keep ?_ ?_ | split | dsimp only)

theorem Block.cmdWrite_keep (K : KeptBySet Q) (b : Block) (r : Requester) (off v : Nat) (extra : List Nat) (eff : Block → Block) (hb : Q b.regs) (heff : ∀ b, Q b.regs → Q (eff b).regs) : Q (Block.cmdWrite b r off v extra eff).regs := by
  unfold Block.cmdWrite
  repeat' (first | with_reducible assumption | with_reducible apply heff | with_reducible apply Block.regWrite_keep K | with_reducible apply Block.out_keep K | with_reducible refine ite_keep ?_ ?_ | split | dsimp only | with_reducible refine pair_keep (by with_reducible assumption) ?_ | with_reducible refine pair_keep' (by with_reducible assumption) ?_)

theorem Block.clearRc_keep (K : KeptBySet Q) (b : Block) (off : Nat) (hb : Q b.regs) : Q (Block.clearRc b off).regs := by
  unfold Block.clearRc
  repeat' (first | with_reducible assumption | with_reducible apply Block.setRegN_keep K | with_reducible refine ite_keep ?_ ?_ | split | dsimp only | with_reducible refine pair_keep (by with_reducible assumption) ?_ | with_reducible refine pair_keep' (by with_reducible assumption) ?_ | intro _)

theorem Block.setLatch_keep (K : KeptBySet Q) (b : Block) (r : Requester) (l : Latch64) (hb : Q b.regs) : Q (Block.setLatch b r l).regs := by
  unfold Block.setLatch
  repeat' (first | with_reducible assumption | dsimp only)

theorem Block.setChan_keep (K : KeptBySet Q) (b : Block) (n : Nat) (c : Chan) (hb : Q b.regs) : Q (Block.setChan b n c).regs := by
  unfold Block.setChan
  repeat' (first | with_reducible assumption | dsimp only)

theorem Block.modChan_keep (K : KeptBySet Q) (b : Block) (n : Nat) (f : Chan → Chan) (hb : Q b.regs) : Q (Block.modChan b n f).regs := by
  unfold Block.modChan
  repeat' (first | with_reducible assumption | with_reducible apply Block.setChan_keep K | dsimp only)

theorem Block.switchDo_keep (K : KeptBySet Q) (b : Block) (n : Nat) (on : Bool) (hb : Q b.regs) : Q (Block.switchDo b n on).regs := by
  unfold Block.switchDo
  repeat' (first | with_reducible assumption | with_reducible apply Block.fset_keep K | with_reducible apply Block.free_keep K | with_reducible apply Block.setChan_keep K | with_reducible refine ite_keep ?_ ?_ | split | dsimp only | with_reducible refine pair_keep (by with_reducible assumption) ?_ | with_reducible refine pair_keep' (by with_reducible assumption) ?_ | intro _)

theorem Block.chMap_keep (K : KeptBySet Q) (b : Block) (lo n : Nat) (v : Bool) (hb : Q b.regs) : Q (Block.chMap b lo n v).regs := by
  unfold Block.chMap
  repeat' (first | with_reducible assumption | with_reducible apply Block.fsetB_keep K | dsimp only)

theorem Block.chDrive_keep (K : KeptBySet Q) (b : Block) (n : Nat) (hb : Q b.regs) : Q (Block.chDrive b n).regs := by
  unfold Block.chDrive
  repeat' (first | with_reducible assumption | with_reducible refine Block.when_keep _ _ _ ?_ (fun _ => ?_) | with_reducible apply Block.fset_keep K | with_reducible apply Block.switchDo_keep K | with_reducible apply Block.setRegN_keep K | with_reducible refine ite_keep ?_ ?_ | dsimp only | intro _)

theorem Block.showTj_keep (K : KeptBySet Q) (b : Block) (n : Nat) (tj : Int) (hb : Q b.regs) : Q (Block.showTj b n tj).regs := by
  unfold Block.showTj
  repeat' (first | with_reducible assumption | with_reducible apply Block.fset_keep K | dsimp only)

theorem Block.chRefresh_keep (K : KeptBySet Q) (b : Block) (n : Nat) (hb : Q b.regs) : Q (Block.chRefresh b n).regs := by
  unfold Block.chRefresh
  repeat' (first | with_reducible assumption | with_reducible apply Block.fsetB_keep K | with_reducible apply Block.chDrive_keep K | with_reducible apply Block.fset_keep K | with_reducible apply Block.chMap_keep K | dsimp only)

theorem Block.chRefreshAll_keep (K : KeptBySet Q) (b : Block) (hb : Q b.regs) : Q (Block.chRefreshAll b).regs := by
  unfold Block.chRefreshAll
  repeat' (first | with_reducible assumption | with_reducible refine Block.forAll_keep _ _ _ ?_ (fun _ _ _ => ?_) | with_reducible apply Block.chRefresh_keep K | dsimp only)

theorem Block.localEnded_keep (K : KeptBySet Q) (b : Block) (n : Nat) (hb : Q b.regs) : Q (Block.localEnded b n).regs := by
  unfold Block.localEnded
  repeat' (first | with_reducible assumption | with_reducible refine Block.when_keep _ _ _ ?_ (fun _ => ?_) | with_reducible apply Block.fset_keep K | with_reducible apply Block.raiseEvt_keep K | split | dsimp only | with_reducible refine pair_keep (by with_reducible assumption) ?_ | with_reducible refine pair_keep' (by with_reducible assumption) ?_ | intro _)

theorem Block.calEnd_keep (K : KeptBySet Q) (b : Block) (n : Nat) (hb : Q b.regs) : Q (Block.calEnd b n).regs := by
  unfold Block.calEnd
  repeat' (first | with_reducible assumption | with_reducible apply Block.localEnded_keep K | with_reducible apply Block.modChan_keep K | with_reducible apply Block.chRefresh_keep K | dsimp only | intro _)

theorem Block.calEndAll_keep (K : KeptBySet Q) (b : Block) (hb : Q b.regs) : Q (Block.calEndAll b).regs := by
  unfold Block.calEndAll
  repeat' (first | with_reducible assumption | with_reducible refine Block.forAll_keep _ _ _ ?_ (fun _ _ _ => ?_) | with_reducible apply Block.calEnd_keep K | dsimp only | intro _)

theorem Block.calClaim_keep (K : KeptBySet Q) (b : Block) (hb : Q b.regs) : Q (Block.calClaim b).regs := by
  unfold Block.calClaim
  repeat' (first | with_reducible assumption | with_reducible apply Block.calEndAll_keep K | with_reducible refine ite_keep ?_ ?_ | dsimp only)

theorem Block.calForced_keep (K : KeptBySet Q) (b : Block) (els : List IoEl) (vid : Nat) (hb : Q b.regs) : Q (Block.calForced b els vid).regs := by
  unfold Block.calForced
  repeat' (first | with_reducible assumption | with_reducible refine Block.forAll_keep _ _ _ ?_ (fun _ _ _ => ?_) | with_reducible apply Block.calEnd_keep K | dsimp only | intro _)

theorem Block.fieldFault_keep (K : KeptBySet Q) (b : Block) (hb : Q b.regs) : Q (Block.fieldFault b).regs := by
  unfold Block.fieldFault
  repeat' (first | with_reducible assumption | with_reducible refine Block.forAll_keep _ _ _ ?_ (fun _ _ _ => ?_) | with_reducible apply Block.localEnded_keep K | with_reducible apply Block.fset_keep K | with_reducible apply Block.modChan_keep K | with_reducible apply Block.chRefresh_keep K | dsimp only | intro _)

theorem Block.fieldBack_keep (K : KeptBySet Q) (b : Block) (hb : Q b.regs) : Q (Block.fieldBack b).regs := by
  unfold Block.fieldBack
  repeat' (first | with_reducible assumption | with_reducible apply Block.fset_keep K | with_reducible refine Block.forAll_keep _ _ _ ?_ (fun _ _ _ => ?_) | with_reducible apply Block.modChan_keep K | with_reducible apply Block.chRefresh_keep K | with_reducible apply Block.raiseEvt_keep K | dsimp only | intro _)

theorem Block.measured_keep (K : KeptBySet Q) (b : Block) (n cause : Nat) (span : Bool) (hb : Q b.regs) : Q (Block.measured b n cause span).regs := by
  unfold Block.measured
  repeat' (first | with_reducible assumption | with_reducible apply Block.modChan_keep K | with_reducible apply Block.fsetB_keep K | with_reducible apply Block.chRefresh_keep K | with_reducible refine Block.when_keep _ _ _ ?_ (fun _ => ?_) | with_reducible apply Block.raiseEvt_keep K | dsimp only | intro _)

theorem Block.spSample_keep (K : KeptBySet Q) (b : Block) (n : Nat) (i : Sample) (hb : Q b.regs) : Q (Block.spSample b n i).regs := by
  unfold Block.spSample
  repeat' (first | with_reducible assumption | with_reducible apply Block.modChan_keep K | with_reducible apply Block.showTj_keep K | with_reducible apply Block.chRefresh_keep K | dsimp only | intro _)

theorem Block.sample_keep (K : KeptBySet Q) (b : Block) (n : Nat) (i : Sample) (hb : Q b.regs) : Q (Block.sample b n i).regs := by
  unfold Block.sample
  repeat' (first | with_reducible assumption | with_reducible apply Block.spSample_keep K | with_reducible refine Block.when_keep _ _ _ ?_ (fun _ => ?_) | with_reducible apply Block.incSat_keep K | with_reducible apply Block.setRegN_keep K | with_reducible apply Block.timed_keep K | with_reducible apply Block.modChan_keep K | with_reducible apply Block.showTj_keep K | with_reducible apply Block.measured_keep K | with_reducible apply Block.chRefresh_keep K | with_reducible refine ite_keep ?_ ?_ | dsimp only | intro _)

theorem Block.tpChip_keep (K : KeptBySet Q) (b : Block) (n k : Nat) (on : Bool) (found : Option (Fin 64)) (hb : Q b.regs) : Q (Block.tpChip b n k on found).regs := by
  unfold Block.tpChip
  repeat' (first | with_reducible assumption | with_reducible apply Block.fsetB_keep K | with_reducible apply Block.fset_keep K | with_reducible apply Block.incSat_keep K | with_reducible refine Block.when_keep _ _ _ ?_ (fun _ => ?_) | with_reducible apply Block.raiseEvt_keep K | with_reducible apply Block.chRefresh_keep K | with_reducible apply Block.setChan_keep K | with_reducible refine ite_keep ?_ ?_ | split | dsimp only | with_reducible refine pair_keep (by with_reducible assumption) ?_ | with_reducible refine pair_keep' (by with_reducible assumption) ?_ | intro _)

theorem Block.stageReport_keep (K : KeptBySet Q) (b : Block) (n : Nat) (hb : Q b.regs) : Q (Block.stageReport b n).regs := by
  unfold Block.stageReport
  repeat' (first | with_reducible assumption | with_reducible refine Block.when_keep _ _ _ ?_ (fun _ => ?_) | with_reducible apply Block.fset_keep K | dsimp only | intro _)

theorem Block.chRefused_keep (K : KeptBySet Q) (b : Block) (n code : Nat) (hb : Q b.regs) : Q (Block.chRefused b n code).regs := by
  unfold Block.chRefused
  repeat' (first | with_reducible assumption | with_reducible apply Block.fset_keep K | with_reducible apply Block.raiseEvt_keep K | dsimp only)

theorem Block.substMask_keep (K : KeptBySet Q) (b : Block) (n : Nat) (hb : Q b.regs) : Q (Block.substMask b n).regs := by
  unfold Block.substMask
  repeat' (first | with_reducible assumption | with_reducible refine Block.when_keep _ _ _ ?_ (fun _ => ?_) | with_reducible apply Block.setRegN_keep K | dsimp only | intro _)

theorem Block.chSetMode_keep (K : KeptBySet Q) (b : Block) (n : Nat) (hb : Q b.regs) : Q (Block.chSetMode b n).regs := by
  unfold Block.chSetMode
  repeat' (first | with_reducible assumption | with_reducible apply Block.switchDo_keep K | with_reducible apply Block.substMask_keep K | with_reducible refine Block.when_keep _ _ _ ?_ (fun _ => ?_) | with_reducible apply Block.fset_keep K | with_reducible apply Block.setRegN_keep K | with_reducible apply Block.localEnded_keep K | with_reducible apply Block.modChan_keep K | with_reducible apply Block.fsetB_keep K | with_reducible apply Block.chRefresh_keep K | dsimp only | intro _)

theorem Block.chModeWriteBy_keep (K : KeptBySet Q) (b : Block) (r : Requester) (n v : Nat) (hb : Q b.regs) : Q (Block.chModeWriteBy b r n v).1.regs := by
  unfold Block.chModeWriteBy
  repeat' (first | with_reducible assumption | with_reducible apply Block.refuse_keep K | with_reducible apply Block.chRefused_keep K | with_reducible apply Block.storeWrite_keep K | with_reducible apply Block.persistIf_keep K | with_reducible apply Block.chSetMode_keep K | with_reducible apply Block.fset_keep K | with_reducible refine ite_keep ?_ ?_ | split | dsimp only | with_reducible refine pair_keep (by with_reducible assumption) ?_ | with_reducible refine pair_keep' (by with_reducible assumption) ?_)

theorem Block.chDone_keep (K : KeptBySet Q) (b : Block) (n code : Nat) (hb : Q b.regs) : Q (Block.chDone b n code).regs := by
  unfold Block.chDone
  repeat' (first | with_reducible assumption | with_reducible apply Block.fset_keep K | with_reducible apply Block.raiseEvt_keep K | dsimp only)

theorem Block.chClrFault_keep (K : KeptBySet Q) (b : Block) (n : Nat) (hb : Q b.regs) : Q (Block.chClrFault b n).regs := by
  unfold Block.chClrFault
  repeat' (first | with_reducible assumption | with_reducible apply Block.chDone_keep K | with_reducible apply Block.fset_keep K | with_reducible apply Block.timed_keep K | with_reducible apply Block.modChan_keep K | with_reducible apply Block.chRefresh_keep K | with_reducible refine ite_keep ?_ ?_ | dsimp only | intro _)

theorem Block.calOpenBy_keep (K : KeptBySet Q) (b : Block) (n : Nat) (isLocal : Bool) (num : Nat) (hb : Q b.regs) : Q (Block.calOpenBy b n isLocal num).regs := by
  unfold Block.calOpenBy
  repeat' (first | with_reducible assumption | with_reducible apply Block.chDone_keep K | with_reducible apply Block.timed_keep K | with_reducible apply Block.modChan_keep K | with_reducible apply Block.chRefresh_keep K | with_reducible apply Block.raiseEvt_keep K | with_reducible refine ite_keep ?_ ?_ | dsimp only | intro _)

theorem Block.calPoint_keep (K : KeptBySet Q) (b : Block) (n : Nat) (span : Bool) (ref : Nat) (hb : Q b.regs) : Q (Block.calPoint b n span ref).regs := by
  unfold Block.calPoint
  repeat' (first | with_reducible assumption | with_reducible apply Block.chDone_keep K | with_reducible apply Block.timed_keep K | with_reducible apply Block.fset_keep K | with_reducible apply Block.modChan_keep K | with_reducible apply Block.chRefresh_keep K | with_reducible refine ite_keep ?_ ?_ | split | dsimp only | with_reducible refine pair_keep (by with_reducible assumption) ?_ | with_reducible refine pair_keep' (by with_reducible assumption) ?_ | intro _)

theorem Block.calStore_keep (K : KeptBySet Q) (b : Block) (n z gain source : Nat) (cs : CalSession) (hb : Q b.regs) : Q (Block.calStore b n z gain source cs).regs := by
  unfold Block.calStore
  repeat' (first | with_reducible assumption | with_reducible apply Block.modChan_keep K | with_reducible apply Block.celRequest_keep K | dsimp only | intro _)

theorem Block.calCommitBy_keep (K : KeptBySet Q) (b : Block) (n : Nat) (hb : Q b.regs) : Q (Block.calCommitBy b n).regs := by
  unfold Block.calCommitBy
  repeat' (first | with_reducible assumption | with_reducible apply Block.chDone_keep K | with_reducible apply Block.timed_keep K | with_reducible apply Block.fset_keep K | with_reducible apply Block.calStore_keep K | with_reducible refine ite_keep ?_ ?_ | split | dsimp only | with_reducible refine pair_keep (by with_reducible assumption) ?_ | with_reducible refine pair_keep' (by with_reducible assumption) ?_)

theorem Block.calCancelBy_keep (K : KeptBySet Q) (b : Block) (n : Nat) (hb : Q b.regs) : Q (Block.calCancelBy b n).regs := by
  unfold Block.calCancelBy
  repeat' (first | with_reducible assumption | with_reducible apply Block.chDone_keep K | with_reducible apply Block.calEnd_keep K | split | dsimp only | with_reducible refine pair_keep (by with_reducible assumption) ?_ | with_reducible refine pair_keep' (by with_reducible assumption) ?_)

theorem Block.calFactoryBy_keep (K : KeptBySet Q) (b : Block) (n : Nat) (hb : Q b.regs) : Q (Block.calFactoryBy b n).regs := by
  unfold Block.calFactoryBy
  repeat' (first | with_reducible assumption | with_reducible apply Block.chDone_keep K | with_reducible apply Block.timed_keep K | with_reducible apply Block.fset_keep K | with_reducible apply Block.calStore_keep K | with_reducible refine ite_keep ?_ ?_ | split | dsimp only | with_reducible refine pair_keep (by with_reducible assumption) ?_ | with_reducible refine pair_keep' (by with_reducible assumption) ?_)

theorem Block.chCommand_keep (K : KeptBySet Q) (b : Block) (r : Requester) (n v : Nat) (hb : Q b.regs) : Q (Block.chCommand b r n v).regs := by
  unfold Block.chCommand
  repeat' (first | with_reducible assumption | with_reducible apply Block.chDone_keep K | with_reducible apply Block.fset_keep K | with_reducible apply Block.chClrFault_keep K | with_reducible apply Block.calOpenBy_keep K | with_reducible apply Block.calPoint_keep K | with_reducible apply Block.calCommitBy_keep K | with_reducible apply Block.calCancelBy_keep K | with_reducible apply Block.calFactoryBy_keep K | with_reducible refine ite_keep ?_ ?_ | split | dsimp only | with_reducible refine pair_keep (by with_reducible assumption) ?_ | with_reducible refine pair_keep' (by with_reducible assumption) ?_)

theorem Block.chCmdWrite_keep (K : KeptBySet Q) (b : Block) (r : Requester) (n v : Nat) (hb : Q b.regs) : Q (Block.chCmdWrite b r n v).regs := by
  unfold Block.chCmdWrite
  repeat' (first | with_reducible assumption | with_reducible apply Block.cmdWrite_keep K | with_reducible apply Block.chCommand_keep K | dsimp only | intro _)

theorem Block.hartPool_keep (K : KeptBySet Q) (b : Block) (hb : Q b.regs) : Q (Block.hartPool b).regs := by
  unfold Block.hartPool
  repeat' (first | with_reducible assumption | with_reducible apply Block.fset_keep K | dsimp only | intro _)

theorem Block.hartConnect_keep (K : KeptBySet Q) (b : Block) (n m : Nat) (hb : Q b.regs) : Q (Block.hartConnect b n m).regs := by
  unfold Block.hartConnect
  repeat' (first | with_reducible assumption | with_reducible apply Block.fset_keep K | dsimp only)

theorem Block.hartBind_keep (K : KeptBySet Q) (b : Block) (n : Nat) (hb : Q b.regs) : Q (Block.hartBind b n).regs := by
  unfold Block.hartBind
  repeat' (first | with_reducible assumption | with_reducible apply Block.hartConnect_keep K | with_reducible refine ite_keep ?_ ?_ | split | dsimp only | with_reducible refine pair_keep (by with_reducible assumption) ?_ | with_reducible refine pair_keep' (by with_reducible assumption) ?_)

theorem Block.hartRebind_keep (K : KeptBySet Q) (b : Block) (hb : Q b.regs) : Q (Block.hartRebind b).regs := by
  unfold Block.hartRebind
  repeat' (first | with_reducible assumption | with_reducible refine Block.forAll_keep _ _ _ ?_ (fun _ _ _ => ?_) | with_reducible apply Block.hartBind_keep K | with_reducible apply Block.hartPool_keep K | dsimp only)

theorem Block.hartUnbind_keep (K : KeptBySet Q) (b : Block) (n : Nat) (hb : Q b.regs) : Q (Block.hartUnbind b n).regs := by
  unfold Block.hartUnbind
  repeat' (first | with_reducible assumption | with_reducible apply Block.fset_keep K | with_reducible apply Block.fsetB_keep K | with_reducible refine ite_keep ?_ ?_ | dsimp only | intro _)

theorem Block.hartTakeUp_keep (K : KeptBySet Q) (b : Block) (n : Nat) (hb : Q b.regs) : Q (Block.hartTakeUp b n).regs := by
  unfold Block.hartTakeUp
  repeat' (first | with_reducible assumption | with_reducible apply Block.fset_keep K | with_reducible apply Block.hartBind_keep K | with_reducible apply Block.hartPool_keep K | with_reducible apply Block.hartUnbind_keep K | with_reducible apply Block.hartRebind_keep K | with_reducible refine ite_keep ?_ ?_ | dsimp only)

theorem Block.setHartItem_keep (K : KeptBySet Q) (b : Block) (n : Nat) (i : HartItem) (hb : Q b.regs) : Q (Block.setHartItem b n i).regs := by
  unfold Block.setHartItem
  repeat' (first | with_reducible assumption | dsimp only)

theorem Block.hartUpdate_keep (K : KeptBySet Q) (b : Block) (n cmd respCode devStatus : Nat) (vars : List Nat) (hb : Q b.regs) : Q (Block.hartUpdate b n cmd respCode devStatus vars).regs := by
  unfold Block.hartUpdate
  repeat' (first | with_reducible assumption | with_reducible apply Block.setHartItem_keep K | with_reducible refine ite_keep ?_ ?_ | dsimp only)

theorem Block.hartResult_keep (K : KeptBySet Q) (b : Block) (req : HartReq) (code tries modem : Nat) (hb : Q b.regs) : Q (Block.hartResult b req code tries modem).regs := by
  unfold Block.hartResult
  repeat' (first | with_reducible assumption | with_reducible refine Block.when_keep _ _ _ ?_ (fun _ => ?_) | with_reducible apply Block.incSat_keep K | with_reducible apply Block.setHartItem_keep K | with_reducible apply Block.fset_keep K | with_reducible apply Block.stamp_keep K | with_reducible apply Block.raiseEvt_keep K | split | dsimp only | with_reducible refine pair_keep (by with_reducible assumption) ?_ | with_reducible refine pair_keep' (by with_reducible assumption) ?_ | intro _)

theorem Block.hartLeave_keep (K : KeptBySet Q) (b : Block) (n : Nat) (hb : Q b.regs) : Q (Block.hartLeave b n).regs := by
  unfold Block.hartLeave
  repeat' (first | with_reducible assumption | with_reducible refine Block.when_keep _ _ _ ?_ (fun _ => ?_) | with_reducible apply Block.fset_keep K | dsimp only | intro _)

theorem Block.hartEnd_keep (K : KeptBySet Q) (b : Block) (x : HartRun) (code : Nat) (hb : Q b.regs) : Q (Block.hartEnd b x code).regs := by
  unfold Block.hartEnd
  repeat' (first | with_reducible assumption | with_reducible apply Block.hartResult_keep K | with_reducible apply Block.hartLeave_keep K | with_reducible apply Block.hartRebind_keep K | dsimp only | intro _)

theorem Block.hartDrop_keep (K : KeptBySet Q) (b : Block) (q : HartReq) (code : Nat) (hb : Q b.regs) : Q (Block.hartDrop b q code).regs := by
  unfold Block.hartDrop
  repeat' (first | with_reducible assumption | with_reducible apply Block.hartResult_keep K | dsimp only)

theorem Block.hartEndChannel_keep (K : KeptBySet Q) (b : Block) (n code : Nat) (hb : Q b.regs) : Q (Block.hartEndChannel b n code).regs := by
  unfold Block.hartEndChannel
  repeat' (first | with_reducible assumption | with_reducible refine Block.forAll_keep _ _ _ ?_ (fun _ _ _ => ?_) | with_reducible apply Block.hartDrop_keep K | with_reducible apply Block.hartEnd_keep K | dsimp only | intro _)

theorem Block.hartCheck_keep (K : KeptBySet Q) (b : Block) (n : Nat) (hb : Q b.regs) : Q (Block.hartCheck b n).regs := by
  unfold Block.hartCheck
  repeat' (first | with_reducible assumption | with_reducible apply Block.hartEndChannel_keep K | with_reducible refine ite_keep ?_ ?_ | dsimp only)

theorem Block.hartDemoted_keep (K : KeptBySet Q) (b : Block) (hb : Q b.regs) : Q (Block.hartDemoted b).regs := by
  unfold Block.hartDemoted
  repeat' (first | with_reducible assumption | with_reducible refine Block.forAll_keep _ _ _ ?_ (fun _ _ _ => ?_) | with_reducible apply Block.hartEnd_keep K | with_reducible apply Block.hartDrop_keep K | dsimp only | intro _)

theorem Block.hartClaimLost_keep (K : KeptBySet Q) (b : Block) (hb : Q b.regs) : Q (Block.hartClaimLost b).regs := by
  unfold Block.hartClaimLost
  repeat' (first | with_reducible assumption | with_reducible refine Block.forAll_keep _ _ _ ?_ (fun _ _ _ => ?_) | with_reducible apply Block.hartEndChannel_keep K | dsimp only | intro _)

theorem Block.hartFollow_keep (K : KeptBySet Q) (b : Block) (old n : Nat) (hb : Q b.regs) : Q (Block.hartFollow b old n).regs := by
  unfold Block.hartFollow
  repeat' (first | with_reducible assumption | with_reducible apply Block.hartCheck_keep K | with_reducible apply Block.hartEndChannel_keep K | with_reducible refine Block.when_keep _ _ _ ?_ (fun _ => ?_) | with_reducible apply Block.hartTakeUp_keep K | with_reducible refine ite_keep ?_ ?_ | dsimp only | intro _)

theorem Block.hartCheckAll_keep (K : KeptBySet Q) (b : Block) (hb : Q b.regs) : Q (Block.hartCheckAll b).regs := by
  unfold Block.hartCheckAll
  repeat' (first | with_reducible assumption | with_reducible refine Block.forAll_keep _ _ _ ?_ (fun _ _ _ => ?_) | with_reducible apply Block.hartCheck_keep K | dsimp only)

theorem Block.hartCfgWrite_keep (K : KeptBySet Q) (b : Block) (r : Requester) (n v : Nat) (hb : Q b.regs) : Q (Block.hartCfgWrite b r n v).1.regs := by
  unfold Block.hartCfgWrite
  repeat' (first | with_reducible assumption | with_reducible apply Block.regWrite_keep K | with_reducible refine Block.when_keep _ _ _ ?_ (fun _ => ?_) | with_reducible apply Block.setHartItem_keep K | with_reducible apply Block.hartTakeUp_keep K | with_reducible apply Block.fset_keep K | with_reducible apply Block.raiseEvt_keep K | with_reducible refine ite_keep ?_ ?_ | split | dsimp only | with_reducible refine pair_keep (by with_reducible assumption) ?_ | with_reducible refine pair_keep' (by with_reducible assumption) ?_ | intro _)

theorem Block.hartWaits_keep (K : KeptBySet Q) (b : Block) (q : HartReq) (hb : Q b.regs) : Q (Block.hartWaits b q).regs := by
  unfold Block.hartWaits
  repeat' (first | with_reducible assumption | with_reducible refine Block.when_keep _ _ _ ?_ (fun _ => ?_) | with_reducible apply Block.timed_keep K | dsimp only | intro _)

theorem Block.hartQueue_keep (K : KeptBySet Q) (b : Block) (q : HartReq) (hb : Q b.regs) : Q (Block.hartQueue b q).regs := by
  unfold Block.hartQueue
  repeat' (first | with_reducible assumption | with_reducible apply Block.hartResult_keep K | with_reducible apply Block.hartWaits_keep K | split | dsimp only | with_reducible refine pair_keep (by with_reducible assumption) ?_ | with_reducible refine pair_keep' (by with_reducible assumption) ?_)

theorem Block.hartSubmit_keep (K : KeptBySet Q) (b : Block) (t old : Nat) (hb : Q b.regs) : Q (Block.hartSubmit b t old).regs := by
  unfold Block.hartSubmit
  repeat' (first | with_reducible assumption | with_reducible apply Block.setRegN_keep K | with_reducible apply Block.fset_keep K | with_reducible apply Block.hartQueue_keep K | with_reducible refine ite_keep ?_ ?_ | dsimp only)

theorem Block.hartCancelSlot_keep (K : KeptBySet Q) (b : Block) (t : Nat) (hb : Q b.regs) : Q (Block.hartCancelSlot b t).regs := by
  unfold Block.hartCancelSlot
  repeat' (first | with_reducible assumption | with_reducible refine Block.forAll_keep _ _ _ ?_ (fun _ _ _ => ?_) | with_reducible apply Block.hartDrop_keep K | with_reducible apply Block.hartEnd_keep K | dsimp only | intro _)

theorem Block.hartCtl_keep (K : KeptBySet Q) (b : Block) (t v old : Nat) (hb : Q b.regs) : Q (Block.hartCtl b t v old).regs := by
  unfold Block.hartCtl
  repeat' (first | with_reducible assumption | with_reducible refine Block.when_keep _ _ _ ?_ (fun _ => ?_) | with_reducible apply Block.hartSubmit_keep K | with_reducible apply Block.hartCancelSlot_keep K | dsimp only | intro _)

theorem Block.hartCtlBy_keep (K : KeptBySet Q) (b : Block) (r : Requester) (t v : Nat) (hb : Q b.regs) : Q (Block.hartCtlBy b r t v).1.regs := by
  unfold Block.hartCtlBy
  repeat' (first | with_reducible assumption | with_reducible apply Block.regWrite_keep K | with_reducible apply Block.hartCtl_keep K | with_reducible refine Block.when_keep _ _ _ ?_ (fun _ => ?_) | with_reducible apply Block.fset_keep K | split | dsimp only | with_reducible refine pair_keep (by with_reducible assumption) ?_ | with_reducible refine pair_keep' (by with_reducible assumption) ?_ | intro _)

theorem Block.hartCtlWrite_keep (K : KeptBySet Q) (b : Block) (r : Requester) (t v : Nat) (hb : Q b.regs) : Q (Block.hartCtlWrite b r t v).regs := by
  unfold Block.hartCtlWrite
  repeat' (first | with_reducible assumption | with_reducible apply Block.hartCtlBy_keep K | with_reducible apply Block.out_keep K | with_reducible refine ite_keep ?_ ?_ | split | dsimp only | with_reducible refine pair_keep (by with_reducible assumption) ?_ | with_reducible refine pair_keep' (by with_reducible assumption) ?_)

theorem Block.hartCarrier_keep (K : KeptBySet Q) (b : Block) (n : Nat) (hb : Q b.regs) : Q (Block.hartCarrier b n).regs := by
  unfold Block.hartCarrier
  repeat' (first | with_reducible assumption | with_reducible apply Block.timed_keep K | dsimp only | intro _)

theorem Block.hartSend_keep (K : KeptBySet Q) (b : Block) (x : HartRun) (hb : Q b.regs) : Q (Block.hartSend b x).regs := by
  unfold Block.hartSend
  repeat' (first | with_reducible assumption | with_reducible apply Block.timed_keep K | with_reducible apply Block.hartCarrier_keep K | with_reducible apply Block.send_keep K | with_reducible refine ite_keep ?_ ?_ | dsimp only)

theorem Block.hartForeign_keep (K : KeptBySet Q) (b : Block) (n : Nat) (foreign : Bool) (hb : Q b.regs) : Q (Block.hartForeign b n foreign).regs := by
  unfold Block.hartForeign
  repeat' (first | with_reducible assumption | with_reducible refine Block.when_keep _ _ _ ?_ (fun _ => ?_) | with_reducible apply Block.hartCarrier_keep K | dsimp only | intro _)

theorem Block.hartAgain_keep (K : KeptBySet Q) (b : Block) (x : HartRun) (hb : Q b.regs) : Q (Block.hartAgain b x).regs := by
  unfold Block.hartAgain
  repeat' (first | with_reducible assumption | with_reducible apply Block.fset_keep K | with_reducible apply Block.hartSend_keep K | with_reducible refine ite_keep ?_ ?_ | split | dsimp only | with_reducible refine pair_keep (by with_reducible assumption) ?_ | with_reducible refine pair_keep' (by with_reducible assumption) ?_ | intro _)

theorem Block.hartStart_keep (K : KeptBySet Q) (b : Block) (n : Nat) (hb : Q b.regs) : Q (Block.hartStart b n).regs := by
  unfold Block.hartStart
  repeat' (first | with_reducible assumption | with_reducible apply Block.hartAgain_keep K | with_reducible apply Block.fset_keep K | with_reducible refine Block.when_keep _ _ _ ?_ (fun _ => ?_) | with_reducible apply Block.hartSend_keep K | with_reducible apply Block.hartPool_keep K | with_reducible refine ite_keep ?_ ?_ | split | dsimp only | with_reducible refine pair_keep (by with_reducible assumption) ?_ | with_reducible refine pair_keep' (by with_reducible assumption) ?_ | intro _)

theorem Block.hartStore_keep (K : KeptBySet Q) (b : Block) (t : Nat) (data : List Nat) (hb : Q b.regs) : Q (Block.hartStore b t data).regs := by
  unfold Block.hartStore
  repeat' (first | with_reducible assumption | with_reducible refine Block.forAll_keep _ _ _ ?_ (fun _ _ _ => ?_) | with_reducible apply Block.fset_keep K | dsimp only | intro _)

theorem Block.hartBurstEnd_keep (K : KeptBySet Q) (b : Block) (n : Nat) (hb : Q b.regs) : Q (Block.hartBurstEnd b n).regs := by
  unfold Block.hartBurstEnd
  repeat' (first | with_reducible assumption | dsimp only | intro _)

theorem Block.modemFail_keep (K : KeptBySet Q) (b : Block) (m : Nat) (hb : Q b.regs) : Q (Block.modemFail b m).regs := by
  unfold Block.modemFail
  repeat' (first | with_reducible assumption | with_reducible apply Block.fset_keep K | with_reducible apply Block.raiseEvt_keep K | with_reducible refine Block.forAll_keep _ _ _ ?_ (fun _ _ _ => ?_) | with_reducible apply Block.hartUnbind_keep K | with_reducible apply Block.hartBind_keep K | with_reducible refine Block.when_keep _ _ _ ?_ (fun _ => ?_) | with_reducible apply Block.hartEnd_keep K | with_reducible apply Block.hartPool_keep K | with_reducible refine ite_keep ?_ ?_ | dsimp only | intro _)

theorem Block.chModeSet_keep (K : KeptBySet Q) (b : Block) (r : Requester) (n v : Nat) (hb : Q b.regs) : Q (Block.chModeSet b r n v).1.regs := by
  unfold Block.chModeSet
  repeat' (first | with_reducible assumption | with_reducible apply Block.chModeWriteBy_keep K | with_reducible apply Block.hartFollow_keep K | split | dsimp only | with_reducible refine pair_keep (by with_reducible assumption) ?_ | with_reducible refine pair_keep' (by with_reducible assumption) ?_)

theorem Block.modOut_keep (K : KeptBySet Q) (b : Block) (src : Nat) (f : OutEl → OutEl) (hb : Q b.regs) : Q (Block.modOut b src f).regs := by
  unfold Block.modOut
  repeat' (first | with_reducible assumption | dsimp only)

theorem Block.setLnkSt_keep (K : KeptBySet Q) (b : Block) (a : Nat) (st : LnkSt) (hb : Q b.regs) : Q (Block.setLnkSt b a st).regs := by
  unfold Block.setLnkSt
  repeat' (first | with_reducible assumption | dsimp only)

theorem Block.setLnkSeg_keep (K : KeptBySet Q) (b : Block) (s : Nat) (g : LnkSeg) (hb : Q b.regs) : Q (Block.setLnkSeg b s g).regs := by
  unfold Block.setLnkSeg
  repeat' (first | with_reducible assumption | dsimp only)

theorem Block.lnkCounts_keep (K : KeptBySet Q) (b : Block) (hb : Q b.regs) : Q (Block.lnkCounts b).regs := by
  unfold Block.lnkCounts
  repeat' (first | with_reducible assumption | with_reducible apply Block.fset_keep K | dsimp only | intro _)

theorem Block.lnkSet_keep (K : KeptBySet Q) (b : Block) (a st : Nat) (hb : Q b.regs) : Q (Block.lnkSet b a st).regs := by
  unfold Block.lnkSet
  repeat' (first | with_reducible assumption | with_reducible apply Block.fset_keep K | with_reducible apply Block.lnkCounts_keep K | with_reducible apply Block.event_keep K | with_reducible apply Block.incSat_keep K | with_reducible refine ite_keep ?_ ?_ | split | dsimp only | with_reducible refine pair_keep (by with_reducible assumption) ?_ | with_reducible refine pair_keep' (by with_reducible assumption) ?_)

theorem Block.lnkSegShow_keep (K : KeptBySet Q) (b : Block) (hb : Q b.regs) : Q (Block.lnkSegShow b).regs := by
  unfold Block.lnkSegShow
  repeat' (first | with_reducible assumption | with_reducible refine Block.forAll_keep _ _ _ ?_ (fun _ _ _ => ?_) | with_reducible apply Block.setRegN_keep K | with_reducible refine ite_keep ?_ ?_ | dsimp only | intro _)

theorem Block.lnkDelays_keep (K : KeptBySet Q) (b : Block) (portB : Bool) (a : Nat) (hb : Q b.regs) : Q (Block.lnkDelays b portB a).regs :=
  Block.lnkSegShow_keep K _ (Block.fset_keep K _ _ _ hb)

theorem Block.lnkTakeUp_keep (K : KeptBySet Q) (b : Block) (cfg : Option LnkCfg) (hb : Q b.regs) : Q (Block.lnkTakeUp b cfg).regs := by
  unfold Block.lnkTakeUp
  repeat' (first | with_reducible assumption | with_reducible apply Block.fset_keep K | with_reducible refine Block.forAll_keep _ _ _ ?_ (fun _ _ _ => ?_) | with_reducible apply Block.fsetB_keep K | with_reducible apply Block.setRegN_keep K | with_reducible apply Block.lnkCounts_keep K | with_reducible refine ite_keep ?_ ?_ | dsimp only | intro _)

theorem Block.lnkFrame_keep (K : KeptBySet Q) (b : Block) (s : Nat) (f : LnkOut) (portB held : Bool) (hb : Q b.regs) : Q (Block.lnkFrame b s f portB held).regs := by
  unfold Block.lnkFrame
  repeat' (first | with_reducible assumption | with_reducible apply Block.send_keep K | with_reducible refine ite_keep ?_ ?_ | split | dsimp only | with_reducible refine pair_keep (by with_reducible assumption) ?_ | with_reducible refine pair_keep' (by with_reducible assumption) ?_ | intro _)

theorem Block.lnkFed_keep (K : KeptBySet Q) (b : Block) (seq : Nat) (f : LnkOut) (hb : Q b.regs) : Q (Block.lnkFed b seq f).regs := by
  unfold Block.lnkFed
  repeat' (first | with_reducible assumption | with_reducible refine Block.forAll_keep _ _ _ ?_ (fun _ _ _ => ?_) | with_reducible apply Block.setLnkSt_keep K | dsimp only | intro _)

theorem Block.lnkSend_keep (K : KeptBySet Q) (b : Block) (s : Nat) (held : Bool) (hb : Q b.regs) : Q (Block.lnkSend b s held).regs := by
  unfold Block.lnkSend
  repeat' (first | with_reducible assumption | with_reducible apply Block.setLnkSeg_keep K | with_reducible refine Block.forAll_keep _ _ _ ?_ (fun _ _ _ => ?_) | with_reducible apply Block.lnkFrame_keep K | with_reducible apply Block.lnkFed_keep K | with_reducible apply Block.setRegN_keep K | with_reducible refine Block.when_keep _ _ _ ?_ (fun _ => ?_) | with_reducible apply Block.incSat_keep K | with_reducible apply Block.raiseEvt_keep K | with_reducible refine ite_keep ?_ ?_ | dsimp only | intro _)

theorem Block.lnkCommit_keep (K : KeptBySet Q) (b : Block) (ctx : Nat) (hb : Q b.regs) : Q (Block.lnkCommit b ctx).regs := by
  unfold Block.lnkCommit
  repeat' (first | with_reducible assumption | with_reducible refine Block.forAll_keep _ _ _ ?_ (fun _ _ _ => ?_) | with_reducible refine Block.when_keep _ _ _ ?_ (fun _ => ?_) | with_reducible apply Block.lnkSend_keep K | dsimp only | intro _)

theorem Block.lnkHalt_keep (K : KeptBySet Q) (b : Block) (hb : Q b.regs) : Q (Block.lnkHalt b).regs := by
  unfold Block.lnkHalt
  repeat' (first | with_reducible assumption | with_reducible refine Block.forAll_keep _ _ _ ?_ (fun _ _ _ => ?_) | with_reducible refine Block.when_keep _ _ _ ?_ (fun _ => ?_) | with_reducible apply Block.lnkSend_keep K | dsimp only | intro _)

theorem Block.lnkRing_keep (K : KeptBySet Q) (b : Block) (s : Nat) (hb : Q b.regs) : Q (Block.lnkRing b s).regs := by
  unfold Block.lnkRing
  repeat' (first | with_reducible assumption | with_reducible apply Block.setLnkSeg_keep K | with_reducible apply Block.fset_keep K | with_reducible apply Block.incSat_keep K | with_reducible apply Block.raiseEvt_keep K | with_reducible refine Block.when_keep _ _ _ ?_ (fun _ => ?_) | with_reducible refine ite_keep ?_ ?_ | dsimp only | intro _)

theorem Block.lnkUse_keep (K : KeptBySet Q) (b : Block) (f : LinkIn) (e : LnkEntry) (hb : Q b.regs) : Q (Block.lnkUse b f e).regs := by
  unfold Block.lnkUse
  repeat' (first | with_reducible assumption | with_reducible apply Block.sample_keep K | with_reducible apply Block.setLnkSt_keep K | with_reducible apply Block.lnkDelays_keep K | with_reducible apply Block.fsetB_keep K | with_reducible apply Block.fset_keep K | with_reducible refine Block.when_keep _ _ _ ?_ (fun _ => ?_) | with_reducible apply Block.lnkSet_keep K | with_reducible refine ite_keep ?_ ?_ | split | dsimp only | with_reducible refine pair_keep (by with_reducible assumption) ?_ | with_reducible refine pair_keep' (by with_reducible assumption) ?_ | intro _)

theorem Block.lnkIn_keep (K : KeptBySet Q) (b : Block) (f : LinkIn) (hb : Q b.regs) : Q (Block.lnkIn b f).regs := by
  unfold Block.lnkIn
  repeat' (first | with_reducible assumption | with_reducible apply Block.incSat_keep K | with_reducible apply Block.raiseEvt_keep K | with_reducible apply Block.lnkUse_keep K | with_reducible refine ite_keep ?_ ?_ | split | dsimp only | with_reducible refine pair_keep (by with_reducible assumption) ?_ | with_reducible refine pair_keep' (by with_reducible assumption) ?_)

theorem Block.lnkAnswered_keep (K : KeptBySet Q) (b : Block) (ans : LnkAnswer) (hb : Q b.regs) : Q (Block.lnkAnswered b ans).regs := by
  unfold Block.lnkAnswered
  repeat' (first | with_reducible assumption | dsimp only)

theorem Block.lnkRefused_keep (K : KeptBySet Q) (b : Block) (a : Nat) (hb : Q b.regs) : Q (Block.lnkRefused b a).regs := by
  unfold Block.lnkRefused
  repeat' (first | with_reducible assumption | with_reducible apply Block.setLnkSt_keep K | with_reducible refine Block.when_keep _ _ _ ?_ (fun _ => ?_) | with_reducible apply Block.lnkSet_keep K | with_reducible apply Block.lnkSegShow_keep K | dsimp only | intro _)

theorem Block.lnkRefuse_keep (K : KeptBySet Q) (b : Block) (a code : Nat) (ans : LnkAnswer) (hb : Q b.regs) : Q (Block.lnkRefuse b a code ans).regs := by
  unfold Block.lnkRefuse
  exact Block.lnkAnswered_keep K _ _ (Block.when_keep _ _ _ (Block.raiseEvt_keep K _ _ _ (Block.fset_keep K _ _ _ hb)) fun h =>
    Block.lnkRefused_keep K _ _ h)

theorem Block.lnkStray_keep (K : KeptBySet Q) (b : Block) (hb : Q b.regs) : Q (Block.lnkStray b).regs := by
  unfold Block.lnkStray
  repeat' (first | with_reducible assumption | with_reducible apply Block.incSat_keep K | with_reducible apply Block.raiseEvt_keep K | dsimp only)

theorem Block.lnkHello_keep (K : KeptBySet Q) (b : Block) (h : LinkHello) (hb : Q b.regs) : Q (Block.lnkHello b h).regs := by
  unfold Block.lnkHello
  repeat' (first | with_reducible assumption | with_reducible apply Block.lnkStray_keep K | with_reducible apply Block.raiseEvt_keep K | with_reducible refine Block.when_keep _ _ _ ?_ (fun _ => ?_) | with_reducible apply Block.fset_keep K | with_reducible apply Block.lnkAnswered_keep K | with_reducible apply Block.lnkRefuse_keep K | with_reducible apply Block.lnkSet_keep K | with_reducible apply Block.setLnkSt_keep K | with_reducible apply Block.lnkSegShow_keep K | with_reducible refine ite_keep ?_ ?_ | split | dsimp only | with_reducible refine pair_keep (by with_reducible assumption) ?_ | with_reducible refine pair_keep' (by with_reducible assumption) ?_ | intro _)

theorem Block.lnkConfigs_keep (K : KeptBySet Q) (b : Block) (s : Nat) (hb : Q b.regs) : Q (Block.lnkConfigs b s).regs := by
  unfold Block.lnkConfigs
  repeat' (first | with_reducible assumption | with_reducible refine Block.forAll_keep _ _ _ ?_ (fun _ _ _ => ?_) | with_reducible refine Block.when_keep _ _ _ ?_ (fun _ => ?_) | with_reducible apply Block.send_keep K | with_reducible apply Block.setLnkSt_keep K | with_reducible refine ite_keep ?_ ?_ | dsimp only | intro _)

theorem Block.echoEnd_keep (K : KeptBySet Q) (b : Block) (k : Nat) (hb : Q b.regs) : Q (Block.echoEnd b k).regs := by
  unfold Block.echoEnd
  repeat' (first | with_reducible assumption | with_reducible apply Block.setRegN_keep K | with_reducible refine ite_keep ?_ ?_ | dsimp only | intro _)

theorem Block.lnkReceipt_keep (K : KeptBySet Q) (b : Block) (k : Nat) (hb : Q b.regs) : Q (Block.lnkReceipt b k).regs := by
  unfold Block.lnkReceipt
  repeat' (first | with_reducible assumption | with_reducible refine Block.when_keep _ _ _ ?_ (fun _ => ?_) | with_reducible apply Block.send_keep K | with_reducible refine ite_keep ?_ ?_ | dsimp only | intro _)

theorem Block.lnkReach_keep (K : KeptBySet Q) (b : Block) (e : LnkEntry) (got : Bool) (hb : Q b.regs) : Q (Block.lnkReach b e got).regs :=
  Block.forAll_keep _ _ _ hb (fun _ _ h => Block.when_keep _ _ _ h (fun h => Block.fset_keep K _ _ _ h))

theorem Block.lnkCommand_keep (K : KeptBySet Q) (b : Block) (v : Nat) (hb : Q b.regs) : Q (Block.lnkCommand b v).regs := by
  unfold Block.lnkCommand
  repeat' (first | with_reducible assumption | with_reducible apply Block.fset_keep K | with_reducible apply Block.raiseEvt_keep K | with_reducible apply Block.setLnkSt_keep K | with_reducible apply Block.lnkSegShow_keep K | with_reducible apply Block.lnkSet_keep K | with_reducible refine Block.when_keep _ _ _ ?_ (fun _ => ?_) | with_reducible refine ite_keep ?_ ?_ | dsimp only | intro _)

theorem Block.presence_keep (K : KeptBySet Q) (b : Block) (hb : Q b.regs) : Q (Block.presence b).regs := by
  unfold Block.presence
  repeat' (first | with_reducible assumption | with_reducible apply Block.fsetB_keep K | with_reducible apply Block.raiseEvt_keep K | with_reducible refine ite_keep ?_ ?_ | dsimp only)

theorem Block.unsyncedLoss_keep (K : KeptBySet Q) (b : Block) (hb : Q b.regs) : Q (Block.unsyncedLoss b).regs := by
  unfold Block.unsyncedLoss
  repeat' (first | with_reducible assumption | with_reducible apply Block.recRegs_keep K | with_reducible refine ite_keep ?_ ?_ | dsimp only)

theorem Block.hbSilent_keep (K : KeptBySet Q) (b : Block) (hb : Q b.regs) : Q (Block.hbSilent b).regs := by
  unfold Block.hbSilent
  repeat' (first | with_reducible assumption | with_reducible apply Block.fset_keep K | with_reducible apply Block.presence_keep K | with_reducible apply Block.unsyncedLoss_keep K | with_reducible refine ite_keep ?_ ?_ | dsimp only)

theorem Block.beatArm_keep (K : KeptBySet Q) (b : Block) (hb : Q b.regs) : Q (Block.beatArm b).regs := by
  unfold Block.beatArm
  repeat' (first | with_reducible assumption | with_reducible refine ite_keep ?_ ?_ | dsimp only)

theorem Block.pairHeard_keep (K : KeptBySet Q) (b : Block) (hb : Q b.regs) : Q (Block.pairHeard b).regs := by
  unfold Block.pairHeard
  repeat' (first | with_reducible assumption | dsimp only)

theorem Block.hbBusOff_keep (K : KeptBySet Q) (b : Block) (hb : Q b.regs) : Q (Block.hbBusOff b).regs := by
  unfold Block.hbBusOff
  repeat' (first | with_reducible assumption | with_reducible refine Block.when_keep _ _ _ ?_ (fun _ => ?_) | with_reducible apply Block.hbSilent_keep K | dsimp only)

theorem Block.lowFollow_keep (K : KeptBySet Q) (b : Block) (hb : Q b.regs) : Q (Block.lowFollow b).regs := by
  unfold Block.lowFollow
  repeat' (first | with_reducible assumption | with_reducible refine ite_keep ?_ ?_ | dsimp only)

theorem Block.setCanPort_keep (K : KeptBySet Q) (b : Block) (p : Nat) (x : CanPort) (hb : Q b.regs) : Q (Block.setCanPort b p x).regs := by
  unfold Block.setCanPort
  repeat' (first | with_reducible assumption | dsimp only)

theorem Block.canShow_keep (K : KeptBySet Q) (b : Block) (p e : Nat) (x : Option CanEntry) (hb : Q b.regs) : Q (Block.canShow b p e x).regs := by
  unfold Block.canShow
  repeat' (first | with_reducible assumption | with_reducible refine Block.forAll_keep _ _ _ ?_ (fun _ _ _ => ?_) | with_reducible apply Block.setReg_keep K | with_reducible apply Block.setRegN_keep K | with_reducible refine ite_keep ?_ ?_ | with_reducible apply id_keep | split | dsimp only | with_reducible refine pair_keep (by with_reducible assumption) ?_ | with_reducible refine pair_keep' (by with_reducible assumption) ?_ | intro _)

theorem Block.canWindow_keep (K : KeptBySet Q) (b : Block) (p : Nat) (hb : Q b.regs) : Q (Block.canWindow b p).regs := by
  unfold Block.canWindow
  repeat' (first | with_reducible assumption | with_reducible refine Block.forAll_keep _ _ _ ?_ (fun _ _ _ => ?_) | with_reducible apply Block.canShow_keep K | dsimp only | intro _)

theorem Block.canStore_keep (K : KeptBySet Q) (b : Block) (p : Nat) (f : CanFrame) (tx ref : Bool) (hb : Q b.regs) : Q (Block.canStore b p f tx ref).regs := by
  unfold Block.canStore
  repeat' (first | with_reducible assumption | with_reducible apply Block.setCanPort_keep K | with_reducible refine Block.forAll_keep _ _ _ ?_ (fun _ _ _ => ?_) | with_reducible apply Block.canShow_keep K | with_reducible apply Block.setRegN_keep K | with_reducible apply Block.raiseEvt_keep K | dsimp only | intro _)

theorem Block.canAttempt_keep (K : KeptBySet Q) (b : Block) (p : Nat) (hb : Q b.regs) : Q (Block.canAttempt b p).regs := by
  unfold Block.canAttempt
  repeat' (first | with_reducible assumption | with_reducible apply Block.setCanPort_keep K | with_reducible apply Block.fset_keep K | with_reducible refine ite_keep ?_ ?_ | split | dsimp only | with_reducible refine pair_keep (by with_reducible assumption) ?_ | with_reducible refine pair_keep' (by with_reducible assumption) ?_)

theorem Block.canStart_keep (K : KeptBySet Q) (b : Block) (p : Nat) (hb : Q b.regs) : Q (Block.canStart b p).regs := by
  unfold Block.canStart
  repeat' (first | with_reducible assumption | with_reducible apply Block.canAttempt_keep K | with_reducible refine ite_keep ?_ ?_ | dsimp only)

theorem Block.canBus_keep (K : KeptBySet Q) (b : Block) (p : Nat) (busy integrates : Bool) (hb : Q b.regs) : Q (Block.canBus b p busy integrates).regs := by
  unfold Block.canBus
  repeat' (first | with_reducible assumption | with_reducible apply Block.setCanPort_keep K | dsimp only)

theorem Block.canDrop_keep (K : KeptBySet Q) (b : Block) (p k : Nat) (hb : Q b.regs) : Q (Block.canDrop b p k).regs := by
  unfold Block.canDrop
  repeat' (first | with_reducible assumption | with_reducible apply Block.incSat_keep K | with_reducible apply Block.fset_keep K | with_reducible apply Block.raiseEvt_keep K | dsimp only)

theorem Block.canReplaced_keep (K : KeptBySet Q) (b : Block) (p k : Nat) (hb : Q b.regs) : Q (Block.canReplaced b p k).regs := by
  unfold Block.canReplaced
  repeat' (first | with_reducible assumption | with_reducible apply Block.incSat_keep K | with_reducible apply Block.fset_keep K | with_reducible apply Block.incWrap_keep K | with_reducible apply Block.raiseEvt_keep K | dsimp only)

theorem Block.canDiscard_keep (K : KeptBySet Q) (b : Block) (p : Nat) (count : Bool) (hb : Q b.regs) : Q (Block.canDiscard b p count).regs := by
  unfold Block.canDiscard
  repeat' (first | with_reducible assumption | with_reducible refine Block.forAll_keep _ _ _ ?_ (fun _ _ _ => ?_) | with_reducible apply Block.fset_keep K | with_reducible refine Block.when_keep _ _ _ ?_ (fun _ => ?_) | with_reducible apply Block.canDrop_keep K | with_reducible apply Block.setCanPort_keep K | dsimp only | intro _)

theorem Block.canInstant_keep (K : KeptBySet Q) (b : Block) (p k : Nat) (hb : Q b.regs) : Q (Block.canInstant b p k).regs := by
  unfold Block.canInstant
  repeat' (first | with_reducible assumption | with_reducible apply Block.canDrop_keep K | with_reducible apply Block.setCanPort_keep K | with_reducible refine Block.when_keep _ _ _ ?_ (fun _ => ?_) | with_reducible apply Block.canReplaced_keep K | with_reducible apply Block.fset_keep K | with_reducible refine ite_keep ?_ ?_ | split | dsimp only | with_reducible refine pair_keep (by with_reducible assumption) ?_ | with_reducible refine pair_keep' (by with_reducible assumption) ?_ | intro _)

theorem Block.canCommit_keep (K : KeptBySet Q) (b : Block) (ctx : Nat) (hb : Q b.regs) : Q (Block.canCommit b ctx).regs := by
  unfold Block.canCommit
  repeat' (first | with_reducible assumption | with_reducible refine Block.forAll_keep _ _ _ ?_ (fun _ _ _ => ?_) | with_reducible apply Block.canInstant_keep K | with_reducible apply Block.canStart_keep K | dsimp only | intro _)

theorem Block.canAimed_keep (K : KeptBySet Q) (b : Block) (p k : Nat) (hb : Q b.regs) : Q (Block.canAimed b p k).regs := by
  unfold Block.canAimed
  repeat' (first | with_reducible assumption | with_reducible apply Block.setCanPort_keep K | split | dsimp only | with_reducible refine pair_keep (by with_reducible assumption) ?_ | with_reducible refine pair_keep' (by with_reducible assumption) ?_)

theorem Block.canCount_keep (K : KeptBySet Q) (b : Block) (p tec recv : Nat) (hb : Q b.regs) : Q (Block.canCount b p tec recv).regs := by
  unfold Block.canCount
  repeat' (first | with_reducible assumption | with_reducible apply Block.setCanPort_keep K | with_reducible apply Block.fset_keep K | dsimp only)

theorem Block.canWarn_keep (K : KeptBySet Q) (b : Block) (p : Nat) (warn : Bool) (hb : Q b.regs) : Q (Block.canWarn b p warn).regs := by
  unfold Block.canWarn
  repeat' (first | with_reducible assumption | with_reducible apply Block.fsetB_keep K | with_reducible refine Block.when_keep _ _ _ ?_ (fun _ => ?_) | with_reducible apply Block.raiseEvt_keep K | dsimp only | intro _)

theorem Block.canOff_keep (K : KeptBySet Q) (b : Block) (p : Nat) (hb : Q b.regs) : Q (Block.canOff b p).regs := by
  unfold Block.canOff
  repeat' (first | with_reducible assumption | with_reducible apply Block.canDiscard_keep K | with_reducible apply Block.fset_keep K | with_reducible apply Block.incSat_keep K | with_reducible apply Block.event_keep K | with_reducible refine Block.when_keep _ _ _ ?_ (fun _ => ?_) | with_reducible apply Block.hbBusOff_keep K | with_reducible refine ite_keep ?_ ?_ | dsimp only)

theorem Block.canErrState_keep (K : KeptBySet Q) (b : Block) (p tec recv : Nat) (hb : Q b.regs) : Q (Block.canErrState b p tec recv).regs := by
  unfold Block.canErrState
  repeat' (first | with_reducible assumption | with_reducible apply Block.canOff_keep K | with_reducible apply Block.fset_keep K | with_reducible refine Block.when_keep _ _ _ ?_ (fun _ => ?_) | with_reducible apply Block.raiseEvt_keep K | with_reducible refine ite_keep ?_ ?_ | dsimp only | intro _)

theorem Block.canCounters_keep (K : KeptBySet Q) (b : Block) (p : Nat) (tec recv : Nat) (hb : Q b.regs) : Q (Block.canCounters b p tec recv).regs := by
  unfold Block.canCounters
  repeat' (first | with_reducible assumption | with_reducible apply Block.canCount_keep K | with_reducible apply Block.canWarn_keep K | with_reducible refine Block.when_keep _ _ _ ?_ (fun _ => ?_) | with_reducible apply Block.canErrState_keep K | dsimp only | intro _)

theorem Block.canReceived_keep (K : KeptBySet Q) (b : Block) (p : Nat) (hb : Q b.regs) : Q (Block.canReceived b p).regs := by
  unfold Block.canReceived
  repeat' (first | with_reducible assumption | with_reducible apply Block.canCounters_keep K | with_reducible apply Block.free_keep K | with_reducible refine ite_keep ?_ ?_ | split | dsimp only | with_reducible refine pair_keep (by with_reducible assumption) ?_ | with_reducible refine pair_keep' (by with_reducible assumption) ?_)

theorem Block.canError_keep (K : KeptBySet Q) (b : Block) (p kind tecMore recMore : Nat) (hb : Q b.regs) : Q (Block.canError b p kind tecMore recMore).regs := by
  unfold Block.canError
  extract_lets x b1 tx n
  have h1 : Q b1.regs := Block.fset_keep K _ _ _ (Block.incSat_keep K _ _ hb)
  exact ite_keep hb (ite_keep h1 (Block.canCounters_keep K _ _ _ _ h1))

theorem Block.canNextFrame_keep (K : KeptBySet Q) (b : Block) (p k : Nat) (hb : Q b.regs) : Q (Block.canNextFrame b p k).regs := by
  unfold Block.canNextFrame
  repeat' (first | with_reducible assumption | with_reducible apply Block.fset_keep K | with_reducible apply Block.setCanPort_keep K | split | dsimp only | with_reducible refine pair_keep (by with_reducible assumption) ?_ | with_reducible refine pair_keep' (by with_reducible assumption) ?_ | intro _)

theorem Block.canAttemptEnd_keep (K : KeptBySet Q) (b : Block) (p : Nat) (e : CanEnd) (sofNs sofSec meas : Nat) (hb : Q b.regs) : Q (Block.canAttemptEnd b p e sofNs sofSec meas).regs := by
  unfold Block.canAttemptEnd
  repeat' (first | with_reducible assumption | with_reducible apply Block.canAttempt_keep K | with_reducible apply Block.canBus_keep K | with_reducible apply Block.canDiscard_keep K | with_reducible refine Block.when_keep _ _ _ ?_ (fun _ => ?_) | with_reducible apply Block.fset_keep K | with_reducible apply Block.canStore_keep K | with_reducible apply Block.send_keep K | with_reducible apply Block.incWrap_keep K | with_reducible apply Block.raiseEvt_keep K | with_reducible apply Block.canNextFrame_keep K | with_reducible apply Block.canCounters_keep K | with_reducible apply Block.canStart_keep K | with_reducible apply Block.canReplaced_keep K | with_reducible apply Block.canDrop_keep K | with_reducible apply Block.setCanPort_keep K | with_reducible refine ite_keep ?_ ?_ | with_reducible apply id_keep | split | dsimp only | with_reducible refine pair_keep (by with_reducible assumption) ?_ | with_reducible refine pair_keep' (by with_reducible assumption) ?_ | intro _)

theorem Block.canRes_keep (K : KeptBySet Q) (b : Block) (p code : Nat) (hb : Q b.regs) : Q (Block.canRes b p code).regs := by
  unfold Block.canRes
  repeat' (first | with_reducible assumption | with_reducible apply Block.fset_keep K | dsimp only)

theorem Block.canRecover_keep (K : KeptBySet Q) (b : Block) (p v : Nat) (hb : Q b.regs) : Q (Block.canRecover b p v).regs := by
  unfold Block.canRecover
  repeat' (first | with_reducible assumption | with_reducible apply Block.fset_keep K | with_reducible apply Block.canRes_keep K | with_reducible apply Block.raiseEvt_keep K | with_reducible refine ite_keep ?_ ?_ | dsimp only)

theorem Block.canTakeMode_keep (K : KeptBySet Q) (b : Block) (p : Nat) (hb : Q b.regs) : Q (Block.canTakeMode b p).regs := by
  unfold Block.canTakeMode
  repeat' (first | with_reducible assumption | with_reducible refine Block.when_keep _ _ _ ?_ (fun _ => ?_) | with_reducible apply Block.canDiscard_keep K | with_reducible apply Block.setCanPort_keep K | with_reducible apply Block.setRegN_keep K | with_reducible apply Block.fset_keep K | with_reducible apply Block.canCounters_keep K | with_reducible refine ite_keep ?_ ?_ | dsimp only | intro _)

theorem Block.canClaimLost_keep (K : KeptBySet Q) (b : Block) (hb : Q b.regs) : Q (Block.canClaimLost b).regs := by
  unfold Block.canClaimLost
  repeat' (first | with_reducible assumption | with_reducible refine Block.forAll_keep _ _ _ ?_ (fun _ _ _ => ?_) | with_reducible apply Block.fset_keep K | with_reducible apply Block.setCanPort_keep K | dsimp only | intro _)

theorem Block.canSilence_keep (K : KeptBySet Q) (b : Block) (hb : Q b.regs) : Q (Block.canSilence b).regs := by
  unfold Block.canSilence
  repeat' (first | with_reducible assumption | with_reducible refine Block.forAll_keep _ _ _ ?_ (fun _ _ _ => ?_) | with_reducible apply Block.canDiscard_keep K | dsimp only | intro _)

theorem Block.canTakeUp_keep (K : KeptBySet Q) (b : Block) (cfg : List CanSlotCfg) (hb : Q b.regs) : Q (Block.canTakeUp b cfg).regs := by
  unfold Block.canTakeUp
  repeat' (first | with_reducible assumption | with_reducible refine Block.forAll_keep _ _ _ ?_ (fun _ _ _ => ?_) | with_reducible apply Block.canDiscard_keep K | with_reducible apply Block.setCanPort_keep K | with_reducible apply Block.fsetB_keep K | dsimp only | intro _)

theorem Block.setPat_keep (K : KeptBySet Q) (b : Block) (k : Nat) (p : Pat) (hb : Q b.regs) : Q (Block.setPat b k p).regs := by
  unfold Block.setPat
  repeat' (first | with_reducible assumption | dsimp only)

theorem Block.solStoreShow_keep (K : KeptBySet Q) (b : Block) (hb : Q b.regs) : Q (Block.solStoreShow b).regs := by
  unfold Block.solStoreShow
  repeat' (first | with_reducible assumption | with_reducible apply Block.fset_keep K | dsimp only)

theorem Block.psClear_keep (K : KeptBySet Q) (b : Block) (k : Nat) (hb : Q b.regs) : Q (Block.psClear b k).regs := by
  unfold Block.psClear
  repeat' (first | with_reducible assumption | with_reducible apply Block.setReg_keep K | with_reducible apply Block.solStoreShow_keep K | dsimp only)

theorem Block.psFill_keep (K : KeptBySet Q) (b : Block) (k st : Nat) (g : PatImg) (hb : Q b.regs) : Q (Block.psFill b k st g).regs := by
  unfold Block.psFill
  repeat' (first | with_reducible assumption | with_reducible apply Block.setPat_keep K | with_reducible apply Block.fset_keep K | with_reducible apply Block.setRegN_keep K | with_reducible apply Block.setReg_keep K | with_reducible apply Block.solStoreShow_keep K | with_reducible apply id_keep | dsimp only)

theorem Block.patRefuse_keep (K : KeptBySet Q) (b : Block) (target code reason : Nat) (hb : Q b.regs) : Q (Block.patRefuse b target code reason).regs := by
  unfold Block.patRefuse
  repeat' (first | with_reducible assumption | with_reducible apply Block.fset_keep K | with_reducible apply Block.event_keep K | dsimp only)

theorem Block.patLoad_keep (K : KeptBySet Q) (b : Block) (writer : Nat → Bool) (staged : Bool) (w : List Nat) (hb : Q b.regs) : Q (Block.patLoad b writer staged w).1.regs := by
  unfold Block.patLoad
  repeat' (first | with_reducible assumption | with_reducible apply Block.patRefuse_keep K | with_reducible apply Block.psFill_keep K | with_reducible apply Block.raiseEvt_keep K | with_reducible refine ite_keep ?_ ?_ | split | dsimp only | with_reducible refine pair_keep (by with_reducible assumption) ?_ | with_reducible refine pair_keep' (by with_reducible assumption) ?_ | intro _)

theorem Block.solOrphans_keep (K : KeptBySet Q) (b : Block) (logical : Nat) (hb : Q b.regs) : Q (Block.solOrphans b logical).regs := by
  unfold Block.solOrphans
  repeat' (first | with_reducible assumption | with_reducible refine Block.forAll_keep _ _ _ ?_ (fun _ _ _ => ?_) | dsimp only | intro _)

theorem Block.psRetire_keep (K : KeptBySet Q) (b : Block) (logical : Nat) (hb : Q b.regs) : Q (Block.psRetire b logical).regs := by
  unfold Block.psRetire
  repeat' (first | with_reducible assumption | with_reducible apply Block.solOrphans_keep K | with_reducible apply Block.fset_keep K | with_reducible apply Block.psClear_keep K | with_reducible refine ite_keep ?_ ?_ | split | dsimp only | with_reducible refine pair_keep (by with_reducible assumption) ?_ | with_reducible refine pair_keep' (by with_reducible assumption) ?_)

theorem Block.psActivate_keep (K : KeptBySet Q) (b : Block) (k : Nat) (hb : Q b.regs) : Q (Block.psActivate b k).regs := by
  unfold Block.psActivate
  repeat' (first | with_reducible assumption | with_reducible apply Block.psRetire_keep K | with_reducible apply Block.fset_keep K | with_reducible apply Block.raiseEvt_keep K | dsimp only)

theorem Block.solShow_keep (K : KeptBySet Q) (b : Block) (hb : Q b.regs) : Q (Block.solShow b).regs := by
  unfold Block.solShow
  repeat' (first | with_reducible assumption | with_reducible refine Block.when_keep _ _ _ ?_ (fun _ => ?_) | with_reducible apply Block.fset_keep K | with_reducible apply Block.raiseEvt_keep K | with_reducible apply Block.fsetB_keep K | split | dsimp only | with_reducible refine pair_keep (by with_reducible assumption) ?_ | with_reducible refine pair_keep' (by with_reducible assumption) ?_ | intro _)

theorem Block.solClose_keep (K : KeptBySet Q) (b : Block) (j : SolJob) (code ts : Nat) (hb : Q b.regs) : Q (Block.solClose b j code ts).regs := by
  unfold Block.solClose
  repeat' (first | with_reducible assumption | with_reducible apply Block.fset_keep K | with_reducible apply Block.stamp_keep K | with_reducible apply Block.setRegN_keep K | with_reducible apply Block.incWrap_keep K | dsimp only)

theorem Block.solEndEvt_keep (K : KeptBySet Q) (b : Block) (j : SolJob) (met : Bool) (hb : Q b.regs) : Q (Block.solEndEvt b j met).regs := by
  unfold Block.solEndEvt
  repeat' (first | with_reducible assumption | with_reducible apply Block.raiseEvt_keep K | with_reducible refine ite_keep ?_ ?_ | dsimp only)

theorem Block.solWithdraw_keep (K : KeptBySet Q) (b : Block) (hb : Q b.regs) : Q (Block.solWithdraw b).regs := by
  unfold Block.solWithdraw
  repeat' (first | with_reducible assumption | with_reducible apply Block.solClose_keep K | with_reducible apply Block.solEndEvt_keep K | with_reducible apply Block.solShow_keep K | split | dsimp only | with_reducible refine pair_keep (by with_reducible assumption) ?_ | with_reducible refine pair_keep' (by with_reducible assumption) ?_)

theorem Block.solPublish_keep (K : KeptBySet Q) (b : Block) (j : SolJob) (status iters bound : Nat) (x : List Nat) (hb : Q b.regs) : Q (Block.solPublish b j status iters bound x).regs := by
  unfold Block.solPublish
  repeat' (first | with_reducible assumption | with_reducible apply Block.setRegN_keep K | with_reducible apply Block.setPair_keep K | with_reducible apply Block.toPartner_keep K | dsimp only)

theorem Block.solCharge_keep (K : KeptBySet Q) (b : Block) (j : SolJob) (lanes ns : Nat) (hb : Q b.regs) : Q (Block.solCharge b j lanes ns).regs := by
  unfold Block.solCharge
  repeat' (first | with_reducible assumption | with_reducible apply Block.setPair_keep K | dsimp only)

theorem Block.solLeave_keep (K : KeptBySet Q) (b : Block) (r : SolRun) (hb : Q b.regs) : Q (Block.solLeave b r).regs := by
  unfold Block.solLeave
  repeat' (first | with_reducible assumption | with_reducible apply Block.solCharge_keep K | with_reducible refine Block.when_keep _ _ _ ?_ (fun _ => ?_) | with_reducible apply Block.psClear_keep K | dsimp only)

theorem Block.solFactorShow_keep (K : KeptBySet Q) (b : Block) (r : SolRun) (o : SolOut) (hb : Q b.regs) : Q (Block.solFactorShow b r o).regs := by
  unfold Block.solFactorShow
  repeat' (first | with_reducible assumption | with_reducible apply Block.fset_keep K | with_reducible apply Block.fsetB_keep K | with_reducible apply Block.setPat_keep K | with_reducible refine Block.when_keep _ _ _ ?_ (fun _ => ?_) | with_reducible apply Block.raiseEvt_keep K | with_reducible apply Block.incSat_keep K | split | dsimp only | with_reducible refine pair_keep (by with_reducible assumption) ?_ | with_reducible refine pair_keep' (by with_reducible assumption) ?_ | intro _)

theorem Block.solEnd_keep (K : KeptBySet Q) (b : Block) (r : SolRun) (made : Option SolAt) (aborted : Bool) (hb : Q b.regs) : Q (Block.solEnd b r made aborted).regs := by
  unfold Block.solEnd
  repeat' (first | with_reducible assumption | with_reducible apply Block.solLeave_keep K | with_reducible apply Block.solClose_keep K | with_reducible apply Block.solShow_keep K | with_reducible apply Block.setPat_keep K | with_reducible apply Block.solFactorShow_keep K | with_reducible apply Block.solPublish_keep K | with_reducible apply Block.solEndEvt_keep K | with_reducible refine ite_keep ?_ ?_ | split | dsimp only | with_reducible refine pair_keep (by with_reducible assumption) ?_ | with_reducible refine pair_keep' (by with_reducible assumption) ?_)

theorem Block.solKeep_keep (K : KeptBySet Q) (b : Block) (r : SolRun) (hb : Q b.regs) : Q (Block.solKeep b r).regs := by
  unfold Block.solKeep
  repeat' (first | with_reducible assumption | with_reducible apply Block.free_keep K | with_reducible apply Block.solFactorShow_keep K | with_reducible refine ite_keep ?_ ?_ | split | dsimp only | with_reducible refine pair_keep (by with_reducible assumption) ?_ | with_reducible refine pair_keep' (by with_reducible assumption) ?_)

theorem Block.solRefuse_keep (K : KeptBySet Q) (b : Block) (code : Nat) (hb : Q b.regs) : Q (Block.solRefuse b code).1.regs := by
  unfold Block.solRefuse
  repeat' (first | with_reducible assumption | with_reducible apply Block.incSat_keep K | with_reducible apply Block.raiseEvt_keep K | split | dsimp only)

theorem Block.ssub_keep (K : KeptBySet Q) (b : Block) (c base slot : Nat) (p : CtxProg) (x : Cx) (hb : Q b.regs) : Q (Block.ssub b c base slot p x).1.regs := by
  unfold Block.ssub
  repeat' (first | with_reducible assumption | with_reducible apply Block.fset_keep K | with_reducible apply Block.setRegN_keep K | with_reducible apply Block.solShow_keep K | with_reducible apply Block.solRefuse_keep K | with_reducible apply Block.solWithdraw_keep K | with_reducible apply Block.incSat_keep K | with_reducible apply Block.raiseEvt_keep K | with_reducible refine ite_keep ?_ ?_ | split | dsimp only | with_reducible refine pair_keep (by with_reducible assumption) ?_ | with_reducible refine pair_keep' (by with_reducible assumption) ?_ | intro _)

theorem Block.solScan_keep (K : KeptBySet Q) (b : Block) (slot : Nat) (made : SolAt) (hb : Q b.regs) : Q (Block.solScan b slot made).1.regs := by
  unfold Block.solScan
  repeat' (first | with_reducible assumption | with_reducible apply Block.solWithdraw_keep K | with_reducible apply Block.solEnd_keep K | with_reducible refine ite_keep ?_ ?_ | split | dsimp only | with_reducible refine pair_keep (by with_reducible assumption) ?_ | with_reducible refine pair_keep' (by with_reducible assumption) ?_)

theorem Block.solMismatch_keep (K : KeptBySet Q) (b : Block) (j : SolJob) (certified : Bool) (hb : Q b.regs) : Q (Block.solMismatch b j certified).regs := by
  unfold Block.solMismatch
  repeat' (first | with_reducible assumption | with_reducible refine Block.when_keep _ _ _ ?_ (fun _ => ?_) | with_reducible apply Block.solPublish_keep K | with_reducible apply Block.solClose_keep K | with_reducible apply Block.solEndEvt_keep K | with_reducible apply Block.solShow_keep K | dsimp only | with_reducible refine pair_keep (by with_reducible assumption) ?_ | with_reducible refine pair_keep' (by with_reducible assumption) ?_ | intro _)

theorem Block.solCrossed_keep (K : KeptBySet Q) (b : Block) (abs1 : Bool) (hb : Q b.regs) : Q (Block.solCrossed b abs1).regs := by
  unfold Block.solCrossed
  repeat' (first | with_reducible assumption | with_reducible apply Block.free_keep K | with_reducible apply Block.solEnd_keep K | with_reducible refine ite_keep ?_ ?_ | split | dsimp only | with_reducible refine pair_keep (by with_reducible assumption) ?_ | with_reducible refine pair_keep' (by with_reducible assumption) ?_)

theorem Block.solStart_keep (K : KeptBySet Q) (b : Block) (j : SolJob) (hb : Q b.regs) : Q (Block.solStart b j).regs := by
  unfold Block.solStart
  repeat' (first | with_reducible assumption | with_reducible apply Block.solMismatch_keep K | with_reducible apply Block.setPat_keep K | with_reducible refine Block.when_keep _ _ _ ?_ (fun _ => ?_) | with_reducible apply Block.fset_keep K | with_reducible apply Block.solShow_keep K | with_reducible apply Block.solEnd_keep K | with_reducible refine ite_keep ?_ ?_ | with_reducible apply id_keep | split | dsimp only | with_reducible refine pair_keep (by with_reducible assumption) ?_ | with_reducible refine pair_keep' (by with_reducible assumption) ?_ | intro _)

theorem Block.solRetest_keep (K : KeptBySet Q) (b : Block) (hb : Q b.regs) : Q (Block.solRetest b).regs := by
  unfold Block.solRetest
  repeat' (first | with_reducible assumption | with_reducible apply Block.fset_keep K | dsimp only)

theorem Block.solAbortRun_keep (K : KeptBySet Q) (b : Block) (hb : Q b.regs) : Q (Block.solAbortRun b).regs := by
  unfold Block.solAbortRun
  repeat' (first | with_reducible assumption | with_reducible apply Block.solKeep_keep K | with_reducible apply Block.solLeave_keep K | with_reducible apply Block.solClose_keep K | with_reducible apply Block.solEndEvt_keep K | with_reducible apply Block.solShow_keep K | split | dsimp only | with_reducible refine pair_keep (by with_reducible assumption) ?_ | with_reducible refine pair_keep' (by with_reducible assumption) ?_)

theorem Block.solFail_keep (K : KeptBySet Q) (b : Block) (hb : Q b.regs) : Q (Block.solFail b).regs := by
  unfold Block.solFail
  repeat' (first | with_reducible assumption | with_reducible apply Block.solAbortRun_keep K | with_reducible apply Block.solWithdraw_keep K | with_reducible apply Block.solRetest_keep K | with_reducible apply Block.fset_keep K | with_reducible apply Block.raiseEvt_keep K | dsimp only | intro _)

theorem Block.solDropGroup_keep (K : KeptBySet Q) (b : Block) (g : Nat) (hb : Q b.regs) : Q (Block.solDropGroup b g).regs := by
  unfold Block.solDropGroup
  repeat' (first | with_reducible assumption | with_reducible apply Block.fset_keep K | with_reducible apply Block.raiseEvt_keep K | with_reducible apply Block.solShow_keep K | with_reducible refine Block.when_keep _ _ _ ?_ (fun _ => ?_) | with_reducible apply Block.solFail_keep K | dsimp only)

theorem Block.solChunk_keep (K : KeptBySet Q) (b : Block) (ns bad : Nat) (divOk : Bool) (fail : Nat) (hb : Q b.regs) : Q (Block.solChunk b ns bad divOk fail).regs := by
  unfold Block.solChunk
  repeat' (first | with_reducible assumption | with_reducible refine Block.when_keep _ _ _ ?_ (fun _ => ?_) | with_reducible apply Block.fset_keep K | with_reducible apply Block.raiseEvt_keep K | with_reducible apply Block.solRetest_keep K | with_reducible refine Block.forAll_keep _ _ _ ?_ (fun _ _ _ => ?_) | with_reducible apply Block.solDropGroup_keep K | with_reducible apply Block.solShow_keep K | with_reducible apply Block.solFail_keep K | with_reducible refine ite_keep ?_ ?_ | dsimp only | intro _)

theorem Block.solBind_keep (K : KeptBySet Q) (b : Block) (pairs : List (Nat × Nat)) (ctxs : List (Nat × CtxProg)) (hb : Q b.regs) : Q (Block.solBind b pairs ctxs).regs := by
  unfold Block.solBind
  repeat' (first | with_reducible assumption | with_reducible refine Block.forAll_keep _ _ _ ?_ (fun _ _ _ => ?_) | with_reducible apply Block.fset_keep K | split | dsimp only | with_reducible refine pair_keep (by with_reducible assumption) ?_ | with_reducible refine pair_keep' (by with_reducible assumption) ?_ | intro _)

theorem Block.solStepTime_keep (K : KeptBySet Q) (b : Block) (d : Int) (hb : Q b.regs) : Q (Block.solStepTime b d).regs := by
  unfold Block.solStepTime
  repeat' (first | with_reducible assumption | split | dsimp only | with_reducible refine pair_keep (by with_reducible assumption) ?_ | with_reducible refine pair_keep' (by with_reducible assumption) ?_ | intro _)

theorem Block.setCx_keep (K : KeptBySet Q) (b : Block) (c : Nat) (x : Cx) (hb : Q b.regs) : Q (Block.setCx b c x).regs := by
  unfold Block.setCx
  repeat' (first | with_reducible assumption | dsimp only)

theorem Block.modCx_keep (K : KeptBySet Q) (b : Block) (c : Nat) (f : Cx → Cx) (hb : Q b.regs) : Q (Block.modCx b c f).regs := by
  unfold Block.modCx
  repeat' (first | with_reducible assumption | with_reducible apply Block.setCx_keep K | dsimp only)

theorem Block.elMod_keep (K : KeptBySet Q) (b : Block) (src : Nat) (f : OutEl → OutEl) (hb : Q b.regs) : Q (Block.elMod b src f).regs := by
  unfold Block.elMod
  repeat' (first | with_reducible assumption | with_reducible apply Block.modChan_keep K | with_reducible apply Block.chRefresh_keep K | with_reducible apply Block.modOut_keep K | with_reducible refine ite_keep ?_ ?_ | dsimp only | intro _)

theorem Block.commitOutputs_keep (K : KeptBySet Q) (b : Block) (c : Nat) (hb : Q b.regs) : Q (Block.commitOutputs b c).regs := by
  unfold Block.commitOutputs
  repeat' (first | with_reducible assumption | with_reducible apply Block.setCx_keep K | with_reducible refine Block.forAll_keep _ _ _ ?_ (fun _ _ _ => ?_) | with_reducible apply Block.elMod_keep K | with_reducible refine ite_keep ?_ ?_ | dsimp only | intro _)

theorem Block.substituteOutputs_keep (K : KeptBySet Q) (b : Block) (c : Nat) (hb : Q b.regs) : Q (Block.substituteOutputs b c).regs := by
  unfold Block.substituteOutputs
  repeat' (first | with_reducible assumption | with_reducible refine Block.forAll_keep _ _ _ ?_ (fun _ _ _ => ?_) | with_reducible apply Block.elMod_keep K | with_reducible refine ite_keep ?_ ?_ | dsimp only | intro _)

theorem Block.uncommitOutputs_keep (K : KeptBySet Q) (b : Block) (c : Nat) (hb : Q b.regs) : Q (Block.uncommitOutputs b c).regs := by
  unfold Block.uncommitOutputs
  repeat' (first | with_reducible assumption | with_reducible apply Block.modCx_keep K | with_reducible refine Block.forAll_keep _ _ _ ?_ (fun _ _ _ => ?_) | with_reducible apply Block.elMod_keep K | dsimp only | intro _)

theorem Block.forceStopped_keep (K : KeptBySet Q) (b : Block) (vid : Nat) (hb : Q b.regs) : Q (Block.forceStopped b vid).regs := by
  unfold Block.forceStopped
  repeat' (first | with_reducible assumption | with_reducible refine Block.forAll_keep _ _ _ ?_ (fun _ _ _ => ?_) | with_reducible refine Block.when_keep _ _ _ ?_ (fun _ => ?_) | with_reducible apply Block.elMod_keep K | dsimp only | intro _)

theorem Block.releaseOutput_keep (K : KeptBySet Q) (b : Block) (f : FrcEntry) (hb : Q b.regs) : Q (Block.releaseOutput b f).regs := by
  unfold Block.releaseOutput
  repeat' (first | with_reducible assumption | with_reducible apply Block.elMod_keep K | with_reducible refine Block.forAll_keep _ _ _ ?_ (fun _ _ _ => ?_) | with_reducible refine Block.when_keep _ _ _ ?_ (fun _ => ?_) | split | dsimp only | with_reducible refine pair_keep (by with_reducible assumption) ?_ | with_reducible refine pair_keep' (by with_reducible assumption) ?_ | intro _)

theorem Block.releaseGlobal_keep (K : KeptBySet Q) (b : Block) (f : FrcEntry) (hb : Q b.regs) : Q (Block.releaseGlobal b f).regs := by
  unfold Block.releaseGlobal
  repeat' (first | with_reducible assumption | with_reducible apply Block.modCx_keep K | split | dsimp only | with_reducible refine pair_keep (by with_reducible assumption) ?_ | with_reducible refine pair_keep' (by with_reducible assumption) ?_ | intro _)

theorem Block.frcShow_keep (K : KeptBySet Q) (b : Block) (hb : Q b.regs) : Q (Block.frcShow b).regs := by
  unfold Block.frcShow
  repeat' (first | with_reducible assumption | with_reducible apply Block.fset_keep K | with_reducible apply Block.fsetB_keep K | dsimp only | intro _)

theorem Block.frcRead_keep (K : KeptBySet Q) (b : Block) (i : Nat) (hb : Q b.regs) : Q (Block.frcRead b i).regs := by
  unfold Block.frcRead
  repeat' (first | with_reducible assumption | with_reducible apply Block.setRegN_keep K | with_reducible apply Block.setPair_keep K | with_reducible apply Block.fsetB_keep K | with_reducible apply Block.fset_keep K | dsimp only | intro _)

theorem Block.frcCommand_keep (K : KeptBySet Q) (b : Block) (r : Requester) (v : Nat) (hb : Q b.regs) : Q (Block.frcCommand b r v).regs := by
  unfold Block.frcCommand
  repeat' (first | with_reducible assumption | with_reducible apply Block.fset_keep K | with_reducible apply Block.raiseEvt_keep K | with_reducible apply Block.frcRead_keep K | with_reducible apply Block.frcShow_keep K | with_reducible apply Block.celRequest_keep K | with_reducible refine Block.when_keep _ _ _ ?_ (fun _ => ?_) | with_reducible apply Block.send_keep K | with_reducible refine ite_keep ?_ ?_ | dsimp only | intro _)

theorem Block.frcRecord_keep (K : KeptBySet Q) (b : Block) (evt : Nat) (e : FrcEntry) (old session : Nat) (hb : Q b.regs) : Q (Block.frcRecord b evt e old session).regs := by
  unfold Block.frcRecord
  repeat' (first | with_reducible assumption | with_reducible apply Block.recBlk_keep K | with_reducible refine ite_keep ?_ ?_ | dsimp only | intro _)

theorem Block.frcApply_keep (K : KeptBySet Q) (b : Block) (c : FrcCmd) (hb : Q b.regs) : Q (Block.frcApply b c).regs := by
  unfold Block.frcApply
  repeat' (first | with_reducible assumption | with_reducible refine Block.forAll_keep _ _ _ ?_ (fun _ _ _ => ?_) | with_reducible apply Block.releaseGlobal_keep K | with_reducible apply Block.releaseOutput_keep K | with_reducible refine Block.when_keep _ _ _ ?_ (fun _ => ?_) | with_reducible apply Block.forceStopped_keep K | with_reducible apply Block.calForced_keep K | with_reducible apply Block.raiseEvt_keep K | with_reducible apply Block.frcRecord_keep K | with_reducible apply Block.event_keep K | with_reducible apply Block.frcShow_keep K | with_reducible refine ite_keep ?_ ?_ | split | dsimp only | with_reducible refine pair_keep (by with_reducible assumption) ?_ | with_reducible refine pair_keep' (by with_reducible assumption) ?_ | intro _)

theorem Block.frcEnd_keep (K : KeptBySet Q) (b : Block) (c : FrcCmd) (ok : Bool) (hb : Q b.regs) : Q (Block.frcEnd b c ok).regs := by
  unfold Block.frcEnd
  repeat' (first | with_reducible assumption | with_reducible apply Block.frcApply_keep K | with_reducible apply Block.fset_keep K | with_reducible apply Block.raiseEvt_keep K | with_reducible apply Block.frcShow_keep K | with_reducible refine ite_keep ?_ ?_ | dsimp only)

theorem Block.frcAck_keep (K : KeptBySet Q) (b : Block) (partnerOk : Bool) (hb : Q b.regs) : Q (Block.frcAck b partnerOk).regs := by
  unfold Block.frcAck
  repeat' (first | with_reducible assumption | with_reducible apply Block.frcEnd_keep K | with_reducible apply Block.send_keep K | with_reducible refine ite_keep ?_ ?_ | split | dsimp only | with_reducible refine pair_keep (by with_reducible assumption) ?_ | with_reducible refine pair_keep' (by with_reducible assumption) ?_)

theorem Block.frcDue_keep (K : KeptBySet Q) (b : Block) (hb : Q b.regs) : Q (Block.frcDue b).regs := by
  unfold Block.frcDue
  repeat' (first | with_reducible assumption | with_reducible apply Block.frcEnd_keep K | with_reducible apply Block.frcApply_keep K | with_reducible refine ite_keep ?_ ?_ | split | dsimp only | with_reducible refine pair_keep (by with_reducible assumption) ?_ | with_reducible refine pair_keep' (by with_reducible assumption) ?_)

theorem Block.frcLoad_keep (K : KeptBySet Q) (b : Block) (atStart : Bool) (hb : Q b.regs) : Q (Block.frcLoad b atStart).regs := by
  unfold Block.frcLoad
  repeat' (first | with_reducible assumption | with_reducible apply Block.celRequest_keep K | with_reducible apply Block.frcShow_keep K | with_reducible apply Block.event_keep K | with_reducible refine Block.when_keep _ _ _ ?_ (fun _ => ?_) | with_reducible refine Block.forAll_keep _ _ _ ?_ (fun _ _ _ => ?_) | with_reducible apply Block.raiseEvt_keep K | with_reducible refine ite_keep ?_ ?_ | dsimp only | intro _)

theorem Block.frcIdle_keep (K : KeptBySet Q) (b : Block) (hb : Q b.regs) : Q (Block.frcIdle b).regs := by
  unfold Block.frcIdle
  repeat' (first | with_reducible assumption | with_reducible apply Block.frcShow_keep K | dsimp only)

theorem Block.frcCmdWrite_keep (K : KeptBySet Q) (b : Block) (r : Requester) (v : Nat) (hb : Q b.regs) : Q (Block.frcCmdWrite b r v).regs := by
  unfold Block.frcCmdWrite
  repeat' (first | with_reducible assumption | with_reducible apply Block.cmdWrite_keep K | with_reducible apply Block.frcCommand_keep K | dsimp only | intro _)

theorem Block.modEng_keep (K : KeptBySet Q) (b : Block) (n : Nat) (f : EngState → EngState) (hb : Q b.regs) : Q (Block.modEng b n f).regs := by
  unfold Block.modEng
  repeat' (first | with_reducible assumption | dsimp only)

theorem Block.engShow_keep (K : KeptBySet Q) (b : Block) (n : Nat) (hb : Q b.regs) : Q (Block.engShow b n).regs := by
  unfold Block.engShow
  repeat' (first | with_reducible assumption | with_reducible refine Block.when_keep _ _ _ ?_ (fun _ => ?_) | with_reducible apply Block.timed_keep K | with_reducible apply Block.fset_keep K | with_reducible refine Block.forAll_keep _ _ _ ?_ (fun _ _ _ => ?_) | split | dsimp only | with_reducible refine pair_keep (by with_reducible assumption) ?_ | with_reducible refine pair_keep' (by with_reducible assumption) ?_ | intro _)

theorem Block.engShowAll_keep (K : KeptBySet Q) (b : Block) (hb : Q b.regs) : Q (Block.engShowAll b).regs := by
  unfold Block.engShowAll
  repeat' (first | with_reducible assumption | with_reducible refine Block.forAll_keep _ _ _ ?_ (fun _ _ _ => ?_) | with_reducible apply Block.engShow_keep K | dsimp only)

theorem Block.putPlace_keep (K : KeptBySet Q) (b : Block) (c n k : Nat) (hb : Q b.regs) : Q (Block.putPlace b c n k).regs := by
  unfold Block.putPlace
  repeat' (first | with_reducible assumption | with_reducible apply Block.fset_keep K | with_reducible apply Block.modCx_keep K | dsimp only | intro _)

theorem Block.dropPlace_keep (K : KeptBySet Q) (b : Block) (c : Nat) (hb : Q b.regs) : Q (Block.dropPlace b c).regs := by
  unfold Block.dropPlace
  repeat' (first | with_reducible assumption | with_reducible apply Block.fset_keep K | dsimp only)

theorem Block.setCtxState_keep (K : KeptBySet Q) (b : Block) (c st : Nat) (hb : Q b.regs) : Q (Block.setCtxState b c st).regs := by
  unfold Block.setCtxState
  repeat' (first | with_reducible assumption | with_reducible apply Block.modCx_keep K | with_reducible apply Block.fset_keep K | with_reducible apply Block.fsetB_keep K | with_reducible refine ite_keep ?_ ?_ | dsimp only | intro _)

theorem Block.schDone_keep (K : KeptBySet Q) (b : Block) (code : Nat) (hb : Q b.regs) : Q (Block.schDone b code).regs := by
  unfold Block.schDone
  repeat' (first | with_reducible assumption | with_reducible apply Block.fset_keep K | with_reducible apply Block.raiseEvt_keep K | dsimp only)

theorem Block.stopCtx_keep (K : KeptBySet Q) (b : Block) (c why : Nat) (hb : Q b.regs) : Q (Block.stopCtx b c why).regs := by
  unfold Block.stopCtx
  repeat' (first | with_reducible assumption | with_reducible apply Block.setCtxState_keep K | with_reducible apply Block.fset_keep K | with_reducible apply Block.modCx_keep K | with_reducible refine Block.when_keep _ _ _ ?_ (fun _ => ?_) | with_reducible apply Block.dropPlace_keep K | with_reducible apply Block.schDone_keep K | with_reducible apply Block.substituteOutputs_keep K | with_reducible apply Block.raiseEvt_keep K | with_reducible apply Block.event_keep K | dsimp only | intro _)

theorem Block.prpSend_keep (K : KeptBySet Q) (b : Block) (kind : String) (ws : List Nat) (hb : Q b.regs) : Q (Block.prpSend b kind ws).regs := by
  unfold Block.prpSend
  repeat' (first | with_reducible assumption | with_reducible refine Block.when_keep _ _ _ ?_ (fun _ => ?_) | with_reducible apply Block.send_keep K | dsimp only | intro _)

theorem Block.lanSilent_keep (K : KeptBySet Q) (b : Block) (portB : Bool) (hb : Q b.regs) : Q (Block.lanSilent b portB).regs := by
  unfold Block.lanSilent
  repeat' (first | with_reducible assumption | with_reducible apply Block.recRegs_keep K | with_reducible refine ite_keep ?_ ?_ | dsimp only)

theorem Block.prpExpire_keep (K : KeptBySet Q) (b : Block) (hb : Q b.regs) : Q (Block.prpExpire b).regs := by
  unfold Block.prpExpire
  repeat' (first | with_reducible assumption | with_reducible apply Block.addSat_keep K | with_reducible refine Block.when_keep _ _ _ ?_ (fun _ => ?_) | with_reducible apply Block.lanSilent_keep K | dsimp only | intro _)

theorem Block.ipTake_keep (K : KeptBySet Q) (b : Block) (hb : Q b.regs) : Q (Block.ipTake b).regs := by
  unfold Block.ipTake
  repeat' (first | with_reducible assumption | dsimp only)

theorem Block.ipSend_keep (K : KeptBySet Q) (b : Block) (kind : String) (dst : Nat) (ws : List Nat) (hb : Q b.regs) : Q (Block.ipSend b kind dst ws).regs := by
  unfold Block.ipSend
  repeat' (first | with_reducible assumption | with_reducible apply Block.prpSend_keep K | with_reducible refine ite_keep ?_ ?_ | dsimp only)

theorem Block.sspSend_keep (K : KeptBySet Q) (b : Block) (peer : Nat) (l : List Nat) (hb : Q b.regs) : Q (Block.sspSend b peer l).regs := by
  unfold Block.sspSend
  repeat' (first | with_reducible assumption | with_reducible apply Block.ipSend_keep K | dsimp only)

theorem Block.putSession_keep (K : KeptBySet Q) (b : Block) (s : Session) (hb : Q b.regs) : Q (Block.putSession b s).regs := by
  unfold Block.putSession
  repeat' (first | with_reducible assumption | with_reducible refine ite_keep ?_ ?_ | dsimp only | intro _)

theorem Block.sessShow_keep (K : KeptBySet Q) (b : Block) (hb : Q b.regs) : Q (Block.sessShow b).regs := by
  unfold Block.sessShow
  repeat' (first | with_reducible assumption | with_reducible apply Block.setRegN_keep K | with_reducible refine Block.forAll_keep _ _ _ ?_ (fun _ _ _ => ?_) | split | dsimp only | with_reducible refine pair_keep (by with_reducible assumption) ?_ | with_reducible refine pair_keep' (by with_reducible assumption) ?_ | intro _)

theorem Block.closeSession_keep (K : KeptBySet Q) (b : Block) (n : Nat) (hb : Q b.regs) : Q (Block.closeSession b n).regs := by
  unfold Block.closeSession
  repeat' (first | with_reducible assumption | with_reducible refine Block.forAll_keep _ _ _ ?_ (fun _ _ _ => ?_) | with_reducible apply Block.lockPage_keep K | with_reducible apply Block.sessShow_keep K | with_reducible apply Block.raiseEvt_keep K | with_reducible refine ite_keep ?_ ?_ | split | dsimp only | with_reducible refine pair_keep (by with_reducible assumption) ?_ | with_reducible refine pair_keep' (by with_reducible assumption) ?_ | intro _)

theorem Block.pubSend_keep (K : KeptBySet Q) (b : Block) (n : Nat) (payload : List Nat) (hb : Q b.regs) : Q (Block.pubSend b n payload).regs := by
  unfold Block.pubSend
  repeat' (first | with_reducible assumption | with_reducible apply Block.putSession_keep K | with_reducible apply Block.sspSend_keep K | split | dsimp only | with_reducible refine pair_keep (by with_reducible assumption) ?_ | with_reducible refine pair_keep' (by with_reducible assumption) ?_)

theorem Block.subsFollow_keep (K : KeptBySet Q) (b : Block) (hb : Q b.regs) : Q (Block.subsFollow b).regs := by
  unfold Block.subsFollow
  repeat' (first | with_reducible assumption | with_reducible refine Block.forAll_keep _ _ _ ?_ (fun _ _ _ => ?_) | with_reducible apply Block.putSession_keep K | with_reducible apply Block.free_keep K | with_reducible apply Block.pubSend_keep K | with_reducible refine ite_keep ?_ ?_ | split | dsimp only | with_reducible refine pair_keep (by with_reducible assumption) ?_ | with_reducible refine pair_keep' (by with_reducible assumption) ?_ | intro _)

theorem Block.credFollow_keep (K : KeptBySet Q) (b : Block) (hb : Q b.regs) : Q (Block.credFollow b).regs := by
  unfold Block.credFollow
  repeat' (first | with_reducible assumption | with_reducible apply Block.fset_keep K | with_reducible apply Block.fsetB_keep K | with_reducible refine Block.forAll_keep _ _ _ ?_ (fun _ _ _ => ?_) | with_reducible apply Block.closeSession_keep K | split | dsimp only | with_reducible refine pair_keep (by with_reducible assumption) ?_ | with_reducible refine pair_keep' (by with_reducible assumption) ?_ | intro _)

theorem Block.lateLatch_keep (K : KeptBySet Q) (b : Block) (c : Nat) (hb : Q b.regs) : Q (Block.lateLatch b c).regs := by
  unfold Block.lateLatch
  repeat' (first | with_reducible assumption | with_reducible refine Block.when_keep _ _ _ ?_ (fun _ => ?_) | with_reducible apply Block.incSat_keep K | dsimp only | intro _)

theorem Block.sendLatch_keep (K : KeptBySet Q) (b : Block) (c : Nat) (hb : Q b.regs) : Q (Block.sendLatch b c).regs := by
  unfold Block.sendLatch
  repeat' (first | with_reducible assumption | with_reducible apply Block.toPartner_keep K | dsimp only)

theorem Block.latchCx_keep (K : KeptBySet Q) (b : Block) (c : Nat) (hb : Q b.regs) : Q (Block.latchCx b c).regs := by
  unfold Block.latchCx
  repeat' (first | with_reducible assumption | with_reducible apply Block.modCx_keep K | with_reducible apply Block.lateLatch_keep K | with_reducible apply Block.sendLatch_keep K | with_reducible refine ite_keep ?_ ?_ | dsimp only | intro _)

theorem Block.spend_keep (K : KeptBySet Q) (b : Block) (c clocks : Nat) (hb : Q b.regs) : Q (Block.spend b c clocks).regs := by
  unfold Block.spend
  repeat' (first | with_reducible assumption | with_reducible apply Block.setPair_keep K | with_reducible refine Block.when_keep _ _ _ ?_ (fun _ => ?_) | with_reducible apply Block.modEng_keep K | with_reducible apply Block.modCx_keep K | dsimp only | intro _)

theorem Block.chargeCycle_keep (K : KeptBySet Q) (b : Block) (c : Nat) (hb : Q b.regs) : Q (Block.chargeCycle b c).regs := by
  unfold Block.chargeCycle
  repeat' (first | with_reducible assumption | with_reducible apply Block.modEng_keep K | with_reducible apply Block.modCx_keep K | dsimp only | intro _)

theorem Block.engFollow_keep (K : KeptBySet Q) (b : Block) (n : Nat) (hb : Q b.regs) : Q (Block.engFollow b n).regs := by
  unfold Block.engFollow
  repeat' (first | with_reducible assumption | with_reducible apply Block.fset_keep K | with_reducible refine ite_keep ?_ ?_ | split | dsimp only | with_reducible refine pair_keep (by with_reducible assumption) ?_ | with_reducible refine pair_keep' (by with_reducible assumption) ?_ | intro _)

theorem Block.switchTo_keep (K : KeptBySet Q) (b : Block) (c : Nat) (hb : Q b.regs) : Q (Block.switchTo b c).regs := by
  unfold Block.switchTo
  repeat' (first | with_reducible assumption | with_reducible apply Block.modCx_keep K | with_reducible apply Block.incWrap_keep K | with_reducible apply Block.spend_keep K | with_reducible apply Block.engFollow_keep K | dsimp only | intro _)

theorem Block.preempt_keep (K : KeptBySet Q) (b : Block) (n : Nat) (hb : Q b.regs) : Q (Block.preempt b n).regs := by
  unfold Block.preempt
  repeat' (first | with_reducible assumption | with_reducible apply Block.modCx_keep K | split | dsimp only | with_reducible refine pair_keep (by with_reducible assumption) ?_ | with_reducible refine pair_keep' (by with_reducible assumption) ?_ | intro _)

theorem Block.engNext_keep (K : KeptBySet Q) (b : Block) (n : Nat) (hb : Q b.regs) : Q (Block.engNext b n).regs := by
  unfold Block.engNext
  repeat' (first | with_reducible assumption | with_reducible apply Block.engFollow_keep K | with_reducible apply Block.switchTo_keep K | with_reducible refine ite_keep ?_ ?_ | split | dsimp only | with_reducible refine pair_keep (by with_reducible assumption) ?_ | with_reducible refine pair_keep' (by with_reducible assumption) ?_ | intro _)

theorem Block.abandon_keep (K : KeptBySet Q) (b : Block) (c : Nat) (hb : Q b.regs) : Q (Block.abandon b c).regs := by
  unfold Block.abandon
  repeat' (first | with_reducible assumption | with_reducible apply Block.chargeCycle_keep K | with_reducible apply Block.modCx_keep K | with_reducible refine Block.when_keep _ _ _ ?_ (fun _ => ?_) | with_reducible apply Block.setCtxState_keep K | dsimp only | intro _)

theorem Block.copyStart_keep (K : KeptBySet Q) (b : Block) (c : Nat) (hb : Q b.regs) : Q (Block.copyStart b c).regs := by
  unfold Block.copyStart
  repeat' (first | with_reducible assumption | with_reducible apply Block.modCx_keep K | with_reducible refine ite_keep ?_ ?_ | split | dsimp only | with_reducible refine pair_keep (by with_reducible assumption) ?_ | with_reducible refine pair_keep' (by with_reducible assumption) ?_ | intro _)

theorem Block.copyWaiting_keep (K : KeptBySet Q) (b : Block) (hb : Q b.regs) : Q (Block.copyWaiting b).regs := by
  unfold Block.copyWaiting
  repeat' (first | with_reducible assumption | with_reducible refine Block.forAll_keep _ _ _ ?_ (fun _ _ _ => ?_) | with_reducible apply Block.copyStart_keep K | dsimp only)

theorem Block.handOver_keep (K : KeptBySet Q) (b : Block) (c : Nat) (hb : Q b.regs) : Q (Block.handOver b c).regs := by
  unfold Block.handOver
  repeat' (first | with_reducible assumption | with_reducible apply Block.modCx_keep K | with_reducible apply Block.copyStart_keep K | with_reducible refine ite_keep ?_ ?_ | dsimp only | intro _)

theorem Block.atBoundary_keep (K : KeptBySet Q) (b : Block) (c : Nat) (hold : Bool) (done : Bool) (hb : Q b.regs) : Q (Block.atBoundary b c hold done).regs := by
  unfold Block.atBoundary
  repeat' (first | with_reducible assumption | with_reducible apply Block.setCtxState_keep K | with_reducible apply Block.stopCtx_keep K | with_reducible apply Block.handOver_keep K | with_reducible apply Block.copyWaiting_keep K | with_reducible refine ite_keep ?_ ?_ | dsimp only)

theorem Block.stopNow_keep (K : KeptBySet Q) (b : Block) (c why : Nat) (hb : Q b.regs) : Q (Block.stopNow b c why).regs := by
  unfold Block.stopNow
  repeat' (first | with_reducible assumption | with_reducible apply Block.stopCtx_keep K | with_reducible apply Block.handOver_keep K | with_reducible apply Block.copyWaiting_keep K | dsimp only)

theorem Block.nextTarget_keep (K : KeptBySet Q) (b : Block) (c : Nat) (hb : Q b.regs) : Q (Block.nextTarget b c).regs := by
  unfold Block.nextTarget
  repeat' (first | with_reducible assumption | with_reducible apply Block.modCx_keep K | dsimp only | intro _)

theorem Block.overrunPolicy_keep (K : KeptBySet Q) (b : Block) (c : Nat) (hb : Q b.regs) : Q (Block.overrunPolicy b c).regs := by
  unfold Block.overrunPolicy
  repeat' (first | with_reducible assumption | with_reducible apply Block.raiseEvt_keep K | with_reducible apply Block.abandon_keep K | with_reducible apply Block.stopNow_keep K | with_reducible apply Block.engNext_keep K | with_reducible apply Block.modCx_keep K | with_reducible refine ite_keep ?_ ?_ | dsimp only | intro _)

theorem Block.overrunSkip_keep (K : KeptBySet Q) (b : Block) (c : Nat) (hb : Q b.regs) : Q (Block.overrunSkip b c).regs := by
  unfold Block.overrunSkip
  repeat' (first | with_reducible assumption | with_reducible apply Block.incSat_keep K | with_reducible apply Block.fset_keep K | with_reducible apply Block.event_keep K | with_reducible apply Block.modCx_keep K | with_reducible apply Block.overrunPolicy_keep K | dsimp only | intro _)

theorem Block.budgetSkip_keep (K : KeptBySet Q) (b : Block) (c : Nat) (hb : Q b.regs) : Q (Block.budgetSkip b c).regs := by
  unfold Block.budgetSkip
  repeat' (first | with_reducible assumption | with_reducible apply Block.incSat_keep K | with_reducible refine Block.when_keep _ _ _ ?_ (fun _ => ?_) | with_reducible apply Block.raiseEvt_keep K | with_reducible apply Block.modCx_keep K | dsimp only | intro _)

theorem Block.takeTrigger_keep (K : KeptBySet Q) (b : Block) (c : Nat) (hb : Q b.regs) : Q (Block.takeTrigger b c).regs := by
  unfold Block.takeTrigger
  repeat' (first | with_reducible assumption | with_reducible apply Block.modCx_keep K | with_reducible apply Block.latchCx_keep K | dsimp only | intro _)

theorem Block.roundDue_keep (K : KeptBySet Q) (b : Block) (hb : Q b.regs) : Q (Block.roundDue b).regs := by
  unfold Block.roundDue
  repeat' (first | with_reducible assumption | dsimp only)

theorem Block.trigger_keep (K : KeptBySet Q) (b : Block) (c : Nat) (hb : Q b.regs) : Q (Block.trigger b c).regs := by
  unfold Block.trigger
  repeat' (first | with_reducible assumption | with_reducible apply Block.nextTarget_keep K | with_reducible refine Block.when_keep _ _ _ ?_ (fun _ => ?_) | with_reducible apply Block.roundDue_keep K | with_reducible apply Block.canCommit_keep K | with_reducible apply Block.overrunSkip_keep K | with_reducible apply Block.budgetSkip_keep K | with_reducible apply Block.takeTrigger_keep K | with_reducible apply Block.modCx_keep K | with_reducible refine ite_keep ?_ ?_ | dsimp only | intro _)

theorem Block.delayOthers_keep (K : KeptBySet Q) (b : Block) (c : Nat) (hb : Q b.regs) : Q (Block.delayOthers b c).regs := by
  unfold Block.delayOthers
  repeat' (first | with_reducible assumption | with_reducible refine Block.forAll_keep _ _ _ ?_ (fun _ _ _ => ?_) | with_reducible apply Block.modCx_keep K | dsimp only | intro _)

theorem Block.applyMirror_keep (K : KeptBySet Q) (b : Block) (c : Nat) (hb : Q b.regs) : Q (Block.applyMirror b c).regs := by
  unfold Block.applyMirror
  repeat' (first | with_reducible assumption | with_reducible apply Block.setCx_keep K | with_reducible apply Block.addSat_keep K | with_reducible apply Block.raiseEvt_keep K | with_reducible refine ite_keep ?_ ?_ | dsimp only | intro _)

theorem Block.dispatch_keep (K : KeptBySet Q) (b : Block) (c : Nat) (hb : Q b.regs) : Q (Block.dispatch b c).regs := by
  unfold Block.dispatch
  repeat' (first | with_reducible assumption | with_reducible apply Block.applyMirror_keep K | with_reducible apply Block.latchCx_keep K | with_reducible apply Block.delayOthers_keep K | with_reducible refine Block.when_keep _ _ _ ?_ (fun _ => ?_) | with_reducible apply Block.incSat_keep K | with_reducible apply Block.raiseEvt_keep K | with_reducible apply Block.setRegN_keep K | with_reducible apply Block.fset_keep K | with_reducible apply Block.setCtxState_keep K | with_reducible apply Block.preempt_keep K | with_reducible apply Block.modCx_keep K | with_reducible apply Block.switchTo_keep K | with_reducible refine ite_keep ?_ ?_ | dsimp only | intro _)

theorem Block.defer_keep (K : KeptBySet Q) (b : Block) (c : Nat) (hb : Q b.regs) : Q (Block.defer b c).regs := by
  unfold Block.defer
  repeat' (first | with_reducible assumption | with_reducible apply Block.setCtxState_keep K | with_reducible apply Block.modCx_keep K | with_reducible apply Block.handOver_keep K | with_reducible refine Block.when_keep _ _ _ ?_ (fun _ => ?_) | with_reducible apply Block.raiseEvt_keep K | dsimp only | intro _)

theorem Block.publish_keep (K : KeptBySet Q) (b : Block) (c : Nat) (hb : Q b.regs) : Q (Block.publish b c).regs := by
  unfold Block.publish
  repeat' (first | with_reducible assumption | with_reducible refine Block.forAll_keep _ _ _ ?_ (fun _ _ _ => ?_) | split | dsimp only | with_reducible refine pair_keep (by with_reducible assumption) ?_ | with_reducible refine pair_keep' (by with_reducible assumption) ?_ | intro _)

theorem Block.release_keep (K : KeptBySet Q) (b : Block) (hb : Q b.regs) : Q (Block.release b).regs := by
  unfold Block.release
  repeat' (first | with_reducible assumption | with_reducible apply Block.fset_keep K | with_reducible apply Block.raiseEvt_keep K | with_reducible apply Block.chRefreshAll_keep K | with_reducible refine ite_keep ?_ ?_ | dsimp only)

theorem Block.endCycle_keep (K : KeptBySet Q) (b : Block) (c : Nat) (hb : Q b.regs) : Q (Block.endCycle b c).regs := by
  unfold Block.endCycle
  repeat' (first | with_reducible assumption | with_reducible apply Block.commitOutputs_keep K | with_reducible apply Block.publish_keep K | with_reducible apply Block.release_keep K | with_reducible apply Block.lnkCommit_keep K | with_reducible apply Block.canCommit_keep K | with_reducible refine Block.when_keep _ _ _ ?_ (fun _ => ?_) | with_reducible apply Block.send_keep K | with_reducible apply Block.chargeCycle_keep K | with_reducible apply Block.incWrap_keep K | with_reducible apply Block.modCx_keep K | with_reducible apply Block.atBoundary_keep K | with_reducible apply Block.engNext_keep K | dsimp only | intro _)

theorem Block.hardException_keep (K : KeptBySet Q) (b : Block) (c code value : Nat) (hb : Q b.regs) : Q (Block.hardException b c code value).regs := by
  unfold Block.hardException
  repeat' (first | with_reducible assumption | with_reducible apply Block.fset_keep K | with_reducible apply Block.stamp_keep K | with_reducible apply Block.incSat_keep K | with_reducible apply Block.event_keep K | with_reducible apply Block.abandon_keep K | with_reducible apply Block.stopNow_keep K | with_reducible apply Block.engNext_keep K | with_reducible refine ite_keep ?_ ?_ | dsimp only)

theorem Block.retire_keep (K : KeptBySet Q) (b : Block) (c clocks : Nat) (hb : Q b.regs) : Q (Block.retire b c clocks).regs := by
  unfold Block.retire
  repeat' (first | with_reducible assumption | with_reducible apply Block.setPair_keep K | with_reducible apply Block.spend_keep K | dsimp only)

theorem Block.softException_keep (K : KeptBySet Q) (b : Block) (c : Nat) (hb : Q b.regs) : Q (Block.softException b c).regs := by
  unfold Block.softException
  repeat' (first | with_reducible assumption | with_reducible refine Block.when_keep _ _ _ ?_ (fun _ => ?_) | with_reducible apply Block.raiseEvt_keep K | with_reducible apply Block.incSat_keep K | dsimp only | intro _)

theorem Block.lvc_keep (K : KeptBySet Q) (b : Block) (c : Nat) (i : Insn) (hb : Q b.regs) : Q (Block.lvc b c i).regs := by
  unfold Block.lvc
  repeat' (first | with_reducible assumption | with_reducible apply Block.setCx_keep K | with_reducible refine Block.when_keep _ _ _ ?_ (fun _ => ?_) | with_reducible apply Block.softException_keep K | with_reducible apply Block.retire_keep K | with_reducible apply Block.endCycle_keep K | with_reducible apply Block.hardException_keep K | with_reducible refine ite_keep ?_ ?_ | split | dsimp only | with_reducible refine pair_keep (by with_reducible assumption) ?_ | with_reducible refine pair_keep' (by with_reducible assumption) ?_ | intro _)

theorem Block.islMap_keep (K : KeptBySet Q) (b : Block) (lo : Nat) (f : Nat → Bool) (hb : Q b.regs) : Q (Block.islMap b lo f).regs := by
  unfold Block.islMap
  repeat' (first | with_reducible assumption | with_reducible apply Block.setPair_keep K | dsimp only | intro _)

theorem Block.islRecord_keep (K : KeptBySet Q) (b : Block) (evt : Nat) (hb : Q b.regs) : Q (Block.islRecord b evt).regs := by
  unfold Block.islRecord
  repeat' (first | with_reducible assumption | with_reducible apply Block.timed_keep K | with_reducible apply Block.recIsland_keep K | dsimp only)

theorem Block.islShow_keep (K : KeptBySet Q) (b : Block) (hb : Q b.regs) : Q (Block.islShow b).regs := by
  unfold Block.islShow
  repeat' (first | with_reducible assumption | with_reducible apply Block.islMap_keep K | with_reducible refine Block.forAll_keep _ _ _ ?_ (fun _ _ _ => ?_) | with_reducible apply Block.fsetB_keep K | with_reducible apply Block.chRefresh_keep K | dsimp only | intro _)

theorem Block.islEnter_keep (K : KeptBySet Q) (b : Block) (st evt : Nat) (hb : Q b.regs) : Q (Block.islEnter b st evt).regs := by
  unfold Block.islEnter
  repeat' (first | with_reducible assumption | with_reducible apply Block.fset_keep K | with_reducible apply Block.raiseEvt_keep K | with_reducible apply Block.islShow_keep K | dsimp only)

theorem Block.islResult_keep (K : KeptBySet Q) (b : Block) (source code : Nat) (hb : Q b.regs) : Q (Block.islResult b source code).regs := by
  unfold Block.islResult
  repeat' (first | with_reducible assumption | with_reducible apply Block.fset_keep K | with_reducible apply Block.raiseEvt_keep K | with_reducible refine ite_keep ?_ ?_ | dsimp only)

theorem Block.resetRefused_keep (K : KeptBySet Q) (b : Block) (code : Nat) (hb : Q b.regs) : Q (Block.resetRefused b code).regs := by
  unfold Block.resetRefused
  repeat' (first | with_reducible assumption | with_reducible apply Block.islResult_keep K | dsimp only)

theorem Block.showCause_keep (K : KeptBySet Q) (b : Block) (cause : Nat) (ch : Option Nat) (hb : Q b.regs) : Q (Block.showCause b cause ch).regs := by
  unfold Block.showCause
  repeat' (first | with_reducible assumption | with_reducible apply Block.fset_keep K | with_reducible apply Block.fsetB_keep K | dsimp only)

theorem Block.coreDown_keep (K : KeptBySet Q) (b : Block) (cause : Nat) (hb : Q b.regs) : Q (Block.coreDown b cause).regs := by
  unfold Block.coreDown
  repeat' (first | with_reducible assumption | with_reducible refine Block.when_keep _ _ _ ?_ (fun _ => ?_) | with_reducible apply Block.fset_keep K | dsimp only | intro _)

theorem Block.causeSeen_keep (K : KeptBySet Q) (b : Block) (cause : Nat) (ch : Option Nat) (hb : Q b.regs) : Q (Block.causeSeen b cause ch).regs := by
  unfold Block.causeSeen
  repeat' (first | with_reducible assumption | with_reducible apply Block.fset_keep K | with_reducible apply Block.fsetB_keep K | with_reducible apply Block.chMap_keep K | split | dsimp only | with_reducible refine pair_keep (by with_reducible assumption) ?_ | with_reducible refine pair_keep' (by with_reducible assumption) ?_)

theorem Block.lockout_keep (K : KeptBySet Q) (b : Block) (cause : Nat) (ch : Option Nat) (hb : Q b.regs) : Q (Block.lockout b cause ch).regs := by
  unfold Block.lockout
  repeat' (first | with_reducible assumption | with_reducible apply Block.causeSeen_keep K | with_reducible apply Block.coreDown_keep K | with_reducible refine Block.when_keep _ _ _ ?_ (fun _ => ?_) | with_reducible apply Block.showCause_keep K | with_reducible apply Block.fset_keep K | with_reducible apply Block.resetRefused_keep K | with_reducible apply Block.stamp_keep K | with_reducible apply Block.incSat_keep K | with_reducible apply Block.incWrap_keep K | with_reducible apply Block.islEnter_keep K | with_reducible apply Block.celRequest_keep K | with_reducible apply Block.islRecord_keep K | with_reducible refine ite_keep ?_ ?_ | dsimp only | intro _)

theorem Block.holdBegin_keep (K : KeptBySet Q) (b : Block) (n : Nat) (hb : Q b.regs) : Q (Block.holdBegin b n).regs := by
  unfold Block.holdBegin
  repeat' (first | with_reducible assumption | with_reducible apply Block.fset_keep K | with_reducible apply Block.islShow_keep K | with_reducible apply Block.raiseEvt_keep K | with_reducible refine ite_keep ?_ ?_ | dsimp only)

theorem Block.holdStep_keep (K : KeptBySet Q) (b : Block) (e : Nat × (Bool × Bool)) (hb : Q b.regs) : Q (Block.holdStep b e).regs := by
  unfold Block.holdStep
  repeat' (first | with_reducible assumption | with_reducible refine Block.when_keep _ _ _ ?_ (fun _ => ?_) | with_reducible apply Block.fset_keep K | with_reducible refine ite_keep ?_ ?_ | dsimp only | intro _)

theorem Block.cycleBegun_keep (K : KeptBySet Q) (b : Block) (hb : Q b.regs) : Q (Block.cycleBegun b).regs := by
  unfold Block.cycleBegun
  repeat' (first | with_reducible assumption | dsimp only)

theorem Block.islStart_keep (K : KeptBySet Q) (b : Block) (hb : Q b.regs) : Q (Block.islStart b).regs := by
  unfold Block.islStart
  repeat' (first | with_reducible assumption | with_reducible apply Block.fset_keep K | with_reducible apply Block.islEnter_keep K | dsimp only | intro _)

theorem Block.islDiagnose_keep (K : KeptBySet Q) (b : Block) (ins : List SafIn) (cleared : Nat) (hb : Q b.regs) : Q (Block.islDiagnose b ins cleared).regs := by
  unfold Block.islDiagnose
  repeat' (first | with_reducible assumption | with_reducible apply Block.islMap_keep K | with_reducible refine Block.when_keep _ _ _ ?_ (fun _ => ?_) | with_reducible apply Block.fset_keep K | with_reducible apply Block.setRegN_keep K | dsimp only | intro _)

theorem Block.coresUp_keep (K : KeptBySet Q) (b : Block) (hb : Q b.regs) : Q (Block.coresUp b).regs := by
  unfold Block.coresUp
  repeat' (first | with_reducible assumption | with_reducible apply Block.fset_keep K | dsimp only)

theorem Block.islCycle_keep (K : KeptBySet Q) (b : Block) (ins : List SafIn) (c2us : Nat) (hb : Q b.regs) : Q (Block.islCycle b ins c2us).regs := by
  unfold Block.islCycle
  repeat' (first | with_reducible assumption | with_reducible refine Block.when_keep _ _ _ ?_ (fun _ => ?_) | with_reducible apply Block.raiseEvt_keep K | with_reducible apply Block.lockout_keep K | with_reducible apply Block.incWrap_keep K | with_reducible apply Block.coresUp_keep K | with_reducible apply Block.fset_keep K | with_reducible refine Block.forAll_keep _ _ _ ?_ (fun _ _ _ => ?_) | with_reducible apply Block.setRegN_keep K | with_reducible apply Block.holdStep_keep K | with_reducible apply Block.islShow_keep K | with_reducible apply Block.holdBegin_keep K | with_reducible refine ite_keep ?_ ?_ | dsimp only | intro _)

theorem Block.resetRequest_keep (K : KeptBySet Q) (b : Block) (source : Nat) (hb : Q b.regs) : Q (Block.resetRequest b source).regs := by
  unfold Block.resetRequest
  repeat' (first | with_reducible assumption | with_reducible apply Block.islResult_keep K | with_reducible apply Block.fset_keep K | with_reducible refine ite_keep ?_ ?_ | dsimp only | intro _)

theorem Block.startCommand_keep (K : KeptBySet Q) (b : Block) (source : Nat) (hb : Q b.regs) : Q (Block.startCommand b source).regs := by
  unfold Block.startCommand
  repeat' (first | with_reducible assumption | with_reducible apply Block.islResult_keep K | with_reducible refine ite_keep ?_ ?_ | split | dsimp only | with_reducible refine pair_keep (by with_reducible assumption) ?_ | with_reducible refine pair_keep' (by with_reducible assumption) ?_)

theorem Block.signedCommand_keep (K : KeptBySet Q) (b : Block) (action serial nonce : Nat) (sig : List Word) (hb : Q b.regs) : Q (Block.signedCommand b action serial nonce sig).regs := by
  unfold Block.signedCommand
  repeat' (first | with_reducible assumption | with_reducible apply Block.incWrap_keep K | with_reducible apply Block.islResult_keep K | with_reducible apply Block.startCommand_keep K | with_reducible apply Block.resetRequest_keep K | with_reducible refine ite_keep ?_ ?_ | dsimp only)

theorem Block.islTakeUp_keep (K : KeptBySet Q) (b : Block) (hb : Q b.regs) : Q (Block.islTakeUp b).regs := by
  unfold Block.islTakeUp
  repeat' (first | with_reducible assumption | with_reducible apply Block.islEnter_keep K | with_reducible refine Block.forAll_keep _ _ _ ?_ (fun _ _ _ => ?_) | with_reducible apply Block.modChan_keep K | with_reducible apply Block.fset_keep K | with_reducible apply Block.chSetMode_keep K | with_reducible refine Block.when_keep _ _ _ ?_ (fun _ => ?_) | with_reducible apply Block.fsetB_keep K | with_reducible apply Block.chRefresh_keep K | with_reducible apply Block.setRegN_keep K | with_reducible apply Block.hartFollow_keep K | with_reducible apply Block.islShow_keep K | with_reducible refine ite_keep ?_ ?_ | split | dsimp only | with_reducible refine pair_keep (by with_reducible assumption) ?_ | with_reducible refine pair_keep' (by with_reducible assumption) ?_ | intro _)

theorem Block.putDesc_keep (K : KeptBySet Q) (b : Block) (c : Nat) (p : Option CtxProg) (hb : Q b.regs) : Q (Block.putDesc b c p).regs := by
  unfold Block.putDesc
  repeat' (first | with_reducible assumption | with_reducible refine Block.forAll_keep _ _ _ ?_ (fun _ _ _ => ?_) | with_reducible apply Block.setRegN_keep K | dsimp only | intro _)

theorem Block.showOwners_keep (K : KeptBySet Q) (b : Block) (hb : Q b.regs) : Q (Block.showOwners b).regs := by
  unfold Block.showOwners
  repeat' (first | with_reducible assumption | with_reducible refine Block.forAll_keep _ _ _ ?_ (fun _ _ _ => ?_) | with_reducible apply Block.fset_keep K | with_reducible refine Block.when_keep _ _ _ ?_ (fun _ => ?_) | split | dsimp only | with_reducible refine pair_keep (by with_reducible assumption) ?_ | with_reducible refine pair_keep' (by with_reducible assumption) ?_ | intro _)

theorem Block.showDecl_keep (K : KeptBySet Q) (b : Block) (hb : Q b.regs) : Q (Block.showDecl b).regs := by
  unfold Block.showDecl
  repeat' (first | with_reducible assumption | with_reducible apply Block.setRegN_keep K | dsimp only | intro _)

theorem Block.loadCtx_keep (K : KeptBySet Q) (b : Block) (c : Nat) (p : CtxProg) (hb : Q b.regs) : Q (Block.loadCtx b c p).regs := by
  unfold Block.loadCtx
  repeat' (first | with_reducible assumption | with_reducible apply Block.putDesc_keep K | with_reducible refine Block.forAll_keep _ _ _ ?_ (fun _ _ _ => ?_) | with_reducible apply Block.setRegN_keep K | with_reducible apply Block.setCx_keep K | with_reducible apply Block.setCtxState_keep K | with_reducible refine ite_keep ?_ ?_ | dsimp only | intro _)

theorem Block.unloadCtx_keep (K : KeptBySet Q) (b : Block) (c : Nat) (hb : Q b.regs) : Q (Block.unloadCtx b c).regs := by
  unfold Block.unloadCtx
  repeat' (first | with_reducible assumption | with_reducible apply Block.putDesc_keep K | with_reducible refine Block.forAll_keep _ _ _ ?_ (fun _ _ _ => ?_) | with_reducible apply Block.setRegN_keep K | with_reducible apply Block.setCtxState_keep K | dsimp only | intro _)

theorem Block.placeCtx_keep (K : KeptBySet Q) (b : Block) (c : Nat) (hb : Q b.regs) : Q (Block.placeCtx b c).regs := by
  unfold Block.placeCtx
  repeat' (first | with_reducible assumption | with_reducible apply Block.putPlace_keep K | with_reducible apply Block.stopCtx_keep K | split | dsimp only | with_reducible refine pair_keep (by with_reducible assumption) ?_ | with_reducible refine pair_keep' (by with_reducible assumption) ?_)

theorem Block.placeAll_keep (K : KeptBySet Q) (b : Block) (hb : Q b.regs) : Q (Block.placeAll b).regs := by
  unfold Block.placeAll
  repeat' (first | with_reducible assumption | with_reducible refine Block.forAll_keep _ _ _ ?_ (fun _ _ _ => ?_) | with_reducible apply Block.dropPlace_keep K | with_reducible apply Block.placeCtx_keep K | with_reducible apply Block.engShowAll_keep K | dsimp only)

theorem Block.aimCtx_keep (K : KeptBySet Q) (b : Block) (c : Nat) (hb : Q b.regs) : Q (Block.aimCtx b c).regs := by
  unfold Block.aimCtx
  repeat' (first | with_reducible assumption | with_reducible apply Block.modCx_keep K | split | dsimp only | with_reducible refine pair_keep (by with_reducible assumption) ?_ | with_reducible refine pair_keep' (by with_reducible assumption) ?_ | intro _)

theorem Block.slotFix_keep (K : KeptBySet Q) (b : Block) (hb : Q b.regs) : Q (Block.slotFix b).regs := by
  unfold Block.slotFix
  repeat' (first | with_reducible assumption | with_reducible refine Block.forAll_keep _ _ _ ?_ (fun _ _ _ => ?_) | with_reducible apply Block.fset_keep K | with_reducible apply Block.celRequest_keep K | with_reducible apply Block.recRegs_keep K | with_reducible refine ite_keep ?_ ?_ | dsimp only | intro _)

theorem Block.clearOutputs_keep (K : KeptBySet Q) (b : Block) (hb : Q b.regs) : Q (Block.clearOutputs b).regs := by
  unfold Block.clearOutputs
  repeat' (first | with_reducible assumption | with_reducible refine Block.forAll_keep _ _ _ ?_ (fun _ _ _ => ?_) | with_reducible apply Block.modOut_keep K | with_reducible apply Block.modChan_keep K | with_reducible apply Block.chRefreshAll_keep K | dsimp only | intro _)

theorem Block.dropPatterns_keep (K : KeptBySet Q) (b : Block) (hb : Q b.regs) : Q (Block.dropPatterns b).regs := by
  unfold Block.dropPatterns
  repeat' (first | with_reducible assumption | with_reducible refine Block.forAll_keep _ _ _ ?_ (fun _ _ _ => ?_) | with_reducible apply Block.psClear_keep K | with_reducible apply Block.solStoreShow_keep K | dsimp only)

theorem Block.showMirror_keep (K : KeptBySet Q) (b : Block) (hb : Q b.regs) : Q (Block.showMirror b).regs := by
  unfold Block.showMirror
  repeat' (first | with_reducible assumption | with_reducible apply Block.fset_keep K | dsimp only)

theorem Block.installProg_keep (K : KeptBySet Q) (b : Block) (p : Prog) (hb : Q b.regs) : Q (Block.installProg b p).regs := by
  unfold Block.installProg
  repeat' (first | with_reducible assumption | with_reducible refine Block.forAll_keep _ _ _ ?_ (fun _ _ _ => ?_) | with_reducible apply Block.unloadCtx_keep K | with_reducible apply Block.loadCtx_keep K | with_reducible apply Block.showOwners_keep K | with_reducible apply Block.showDecl_keep K | with_reducible apply Block.showMirror_keep K | with_reducible apply Block.solBind_keep K | with_reducible apply Block.clearOutputs_keep K | with_reducible apply Block.islTakeUp_keep K | with_reducible apply Block.slotFix_keep K | with_reducible apply Block.lnkTakeUp_keep K | with_reducible apply Block.canTakeUp_keep K | with_reducible apply Block.credFollow_keep K | with_reducible apply Block.subsFollow_keep K | dsimp only | intro _)

theorem Block.loadResult_keep (K : KeptBySet Q) (b : Block) (vintage buildId : Nat) (v : Verdict) (hb : Q b.regs) : Q (Block.loadResult b vintage buildId v).regs := by
  unfold Block.loadResult
  repeat' (first | with_reducible assumption | with_reducible apply Block.recRegs_keep K | dsimp only)

theorem Block.loadRecord_keep (K : KeptBySet Q) (b : Block) (p : Prog) (v : Verdict) (hb : Q b.regs) : Q (Block.loadRecord b p v).regs := by
  unfold Block.loadRecord
  repeat' (first | with_reducible assumption | with_reducible apply Block.loadResult_keep K | dsimp only)

theorem Block.storePattern_keep (K : KeptBySet Q) (b : Block) (w : List Nat) (hb : Q b.regs) : Q (Block.storePattern b w).regs := by
  unfold Block.storePattern
  repeat' (first | with_reducible assumption | dsimp only | intro _)

theorem Block.storeApp_keep (K : KeptBySet Q) (b : Block) (vintage : Nat) (w : List Nat) (hb : Q b.regs) : Q (Block.storeApp b vintage w).regs := by
  unfold Block.storeApp
  repeat' (first | with_reducible assumption | with_reducible apply Block.setRegN_keep K | dsimp only)

theorem Block.loadImage_keep (K : KeptBySet Q) (b : Block) (w : List Nat) (hb : Q b.regs) : Q (Block.loadImage b w).1.regs := by
  unfold Block.loadImage
  repeat' (first | with_reducible assumption | with_reducible apply Block.loadRecord_keep K | with_reducible apply Block.installProg_keep K | with_reducible apply Block.dropPatterns_keep K | with_reducible apply Block.placeAll_keep K | with_reducible apply Block.frcLoad_keep K | with_reducible refine Block.forAll_keep _ _ _ ?_ (fun _ _ _ => ?_) | with_reducible apply Block.aimCtx_keep K | with_reducible apply Block.storeApp_keep K | split | dsimp only | with_reducible refine pair_keep (by with_reducible assumption) ?_ | with_reducible refine pair_keep' (by with_reducible assumption) ?_)

theorem Block.dropStaged_keep (K : KeptBySet Q) (b : Block) (hb : Q b.regs) : Q (Block.dropStaged b).regs := by
  unfold Block.dropStaged
  repeat' (first | with_reducible assumption | with_reducible refine Block.forAll_keep _ _ _ ?_ (fun _ _ _ => ?_) | with_reducible apply Block.psClear_keep K | with_reducible apply Block.solStoreShow_keep K | dsimp only | intro _)

theorem Block.olcDrop_keep (K : KeptBySet Q) (b : Block) (code evt : Nat) (hb : Q b.regs) : Q (Block.olcDrop b code evt).regs := by
  unfold Block.olcDrop
  repeat' (first | with_reducible assumption | with_reducible apply Block.dropStaged_keep K | with_reducible apply Block.endTransfer_keep K | with_reducible apply Block.fset_keep K | with_reducible apply Block.raiseEvt_keep K | dsimp only)

theorem Block.olcTell_keep (K : KeptBySet Q) (b : Block) (what : String) (ws : List Nat) (hb : Q b.regs) : Q (Block.olcTell b what ws).regs := by
  unfold Block.olcTell
  repeat' (first | with_reducible assumption | with_reducible refine Block.when_keep _ _ _ ?_ (fun _ => ?_) | with_reducible apply Block.send_keep K | dsimp only | intro _)

theorem Block.olcEnd_keep (K : KeptBySet Q) (b : Block) (code evt : Nat) (hb : Q b.regs) : Q (Block.olcEnd b code evt).regs := by
  unfold Block.olcEnd
  repeat' (first | with_reducible assumption | with_reducible refine Block.when_keep _ _ _ ?_ (fun _ => ?_) | with_reducible apply Block.olcTell_keep K | with_reducible apply Block.olcDrop_keep K | dsimp only | intro _)

theorem Block.olcRefuse_keep (K : KeptBySet Q) (b : Block) (v : Verdict) (conflicts : List Nat) (hb : Q b.regs) : Q (Block.olcRefuse b v conflicts).regs := by
  unfold Block.olcRefuse
  repeat' (first | with_reducible assumption | with_reducible apply Block.setRegN_keep K | with_reducible apply Block.fsetB_keep K | with_reducible apply Block.fset_keep K | with_reducible apply Block.olcEnd_keep K | with_reducible refine Block.forAll_keep _ _ _ ?_ (fun _ _ _ => ?_) | with_reducible apply Block.recRegs_keep K | dsimp only | intro _)

theorem Block.olcModState_keep (K : KeptBySet Q) (b : Block) (engines : Bool) (hb : Q b.regs) : Q (Block.olcModState b engines).regs := by
  unfold Block.olcModState
  repeat' (first | with_reducible assumption | with_reducible apply Block.olcEnd_keep K | with_reducible refine ite_keep ?_ ?_ | dsimp only)

theorem Block.olcPairLost_keep (K : KeptBySet Q) (b : Block) (hb : Q b.regs) : Q (Block.olcPairLost b).regs := by
  unfold Block.olcPairLost
  repeat' (first | with_reducible assumption | with_reducible apply Block.olcEnd_keep K | with_reducible refine ite_keep ?_ ?_ | dsimp only)

theorem Block.olcSolverDown_keep (K : KeptBySet Q) (b : Block) (hb : Q b.regs) : Q (Block.olcSolverDown b).regs := by
  unfold Block.olcSolverDown
  repeat' (first | with_reducible assumption | with_reducible apply Block.olcEnd_keep K | with_reducible refine ite_keep ?_ ?_ | dsimp only)

theorem Block.olcMisplaced_keep (K : KeptBySet Q) (b : Block) (hb : Q b.regs) : Q (Block.olcMisplaced b).regs := by
  unfold Block.olcMisplaced
  repeat' (first | with_reducible assumption | with_reducible apply Block.fset_keep K | with_reducible apply Block.raiseEvt_keep K | dsimp only)

theorem Block.olcVerified_keep (K : KeptBySet Q) (b : Block) (partnerOk : Bool) (hb : Q b.regs) : Q (Block.olcVerified b partnerOk).regs := by
  unfold Block.olcVerified
  repeat' (first | with_reducible assumption | with_reducible apply Block.olcRefuse_keep K | with_reducible apply Block.loadRecord_keep K | with_reducible apply Block.fset_keep K | with_reducible apply Block.raiseEvt_keep K | with_reducible refine ite_keep ?_ ?_ | split | dsimp only | with_reducible refine pair_keep (by with_reducible assumption) ?_ | with_reducible refine pair_keep' (by with_reducible assumption) ?_ | intro _)

theorem Block.olcArm_keep (K : KeptBySet Q) (b : Block) (hb : Q b.regs) : Q (Block.olcArm b).regs := by
  unfold Block.olcArm
  repeat' (first | with_reducible assumption | with_reducible apply Block.olcRefuse_keep K | with_reducible apply Block.timed_keep K | with_reducible refine Block.forAll_keep _ _ _ ?_ (fun _ _ _ => ?_) | with_reducible apply Block.modCx_keep K | with_reducible apply Block.stamp_keep K | with_reducible apply Block.fset_keep K | with_reducible apply Block.raiseEvt_keep K | with_reducible refine Block.when_keep _ _ _ ?_ (fun _ => ?_) | with_reducible apply Block.olcTell_keep K | split | dsimp only | with_reducible refine pair_keep (by with_reducible assumption) ?_ | with_reducible refine pair_keep' (by with_reducible assumption) ?_ | intro _)

theorem Block.olcCommand_keep (K : KeptBySet Q) (b : Block) (v : Nat) (hb : Q b.regs) : Q (Block.olcCommand b v).regs := by
  unfold Block.olcCommand
  repeat' (first | with_reducible assumption | with_reducible apply Block.fset_keep K | with_reducible apply Block.dropStaged_keep K | with_reducible apply Block.olcTell_keep K | with_reducible apply Block.olcMisplaced_keep K | with_reducible apply Block.olcArm_keep K | with_reducible apply Block.olcEnd_keep K | with_reducible refine ite_keep ?_ ?_ | split | dsimp only | with_reducible refine pair_keep (by with_reducible assumption) ?_ | with_reducible refine pair_keep' (by with_reducible assumption) ?_)

theorem Block.olcCmdWrite_keep (K : KeptBySet Q) (b : Block) (r : Requester) (v : Nat) (hb : Q b.regs) : Q (Block.olcCmdWrite b r v).regs := by
  unfold Block.olcCmdWrite
  repeat' (first | with_reducible assumption | with_reducible apply Block.cmdWrite_keep K | with_reducible apply Block.olcCommand_keep K | dsimp only | intro _)

theorem Block.carryGlobals_keep (K : KeptBySet Q) (b : Block) (base p : Prog) (hb : Q b.regs) : Q (Block.carryGlobals b base p).regs := by
  unfold Block.carryGlobals
  repeat' (first | with_reducible assumption | with_reducible refine Block.forAll_keep _ _ _ ?_ (fun _ _ _ => ?_) | with_reducible apply Block.modCx_keep K | with_reducible refine ite_keep ?_ ?_ | split | dsimp only | with_reducible refine pair_keep (by with_reducible assumption) ?_ | with_reducible refine pair_keep' (by with_reducible assumption) ?_ | intro _)

theorem Block.switchCtx_keep (K : KeptBySet Q) (b : Block) (base p : Prog) (c : Nat) (m : List (Nat × Nat)) (hb : Q b.regs) : Q (Block.switchCtx b base p c m).regs := by
  unfold Block.switchCtx
  repeat' (first | with_reducible assumption | with_reducible apply Block.putDesc_keep K | with_reducible apply Block.setCx_keep K | dsimp only | intro _)

theorem Block.switchOutputs_keep (K : KeptBySet Q) (b : Block) (base p : Prog) (hb : Q b.regs) : Q (Block.switchOutputs b base p).regs := by
  unfold Block.switchOutputs
  repeat' (first | with_reducible assumption | with_reducible refine Block.forAll_keep _ _ _ ?_ (fun _ _ _ => ?_) | with_reducible apply Block.elMod_keep K | dsimp only | intro _)

theorem Block.keepForced_keep (K : KeptBySet Q) (b : Block) (p : Prog) (e : FrcEntry) (hb : Q b.regs) : Q (Block.keepForced b p e).regs := by
  unfold Block.keepForced
  repeat' (first | with_reducible assumption | with_reducible refine Block.when_keep _ _ _ ?_ (fun _ => ?_) | with_reducible apply Block.elMod_keep K | with_reducible apply Block.forceStopped_keep K | split | dsimp only | with_reducible refine pair_keep (by with_reducible assumption) ?_ | with_reducible refine pair_keep' (by with_reducible assumption) ?_ | intro _)

theorem Block.switchForces_keep (K : KeptBySet Q) (b : Block) (base p : Prog) (released : List Nat) (hb : Q b.regs) : Q (Block.switchForces b base p released).regs := by
  unfold Block.switchForces
  repeat' (first | with_reducible assumption | with_reducible refine Block.forAll_keep _ _ _ ?_ (fun _ _ _ => ?_) | with_reducible apply Block.releaseGlobal_keep K | with_reducible apply Block.elMod_keep K | with_reducible apply Block.releaseOutput_keep K | with_reducible apply Block.raiseEvt_keep K | with_reducible apply Block.frcRecord_keep K | with_reducible apply Block.keepForced_keep K | with_reducible apply Block.frcShow_keep K | with_reducible refine ite_keep ?_ ?_ | split | dsimp only | with_reducible refine pair_keep (by with_reducible assumption) ?_ | with_reducible refine pair_keep' (by with_reducible assumption) ?_ | intro _)

theorem Block.switchPatterns_keep (K : KeptBySet Q) (b : Block) (hb : Q b.regs) : Q (Block.switchPatterns b).regs := by
  unfold Block.switchPatterns
  repeat' (first | with_reducible assumption | with_reducible refine Block.forAll_keep _ _ _ ?_ (fun _ _ _ => ?_) | with_reducible apply Block.psActivate_keep K | with_reducible apply Block.psRetire_keep K | with_reducible apply Block.solStoreShow_keep K | dsimp only | intro _)

theorem Block.switchMove_keep (K : KeptBySet Q) (b : Block) (c : Nat) (hb : Q b.regs) : Q (Block.switchMove b c).regs := by
  unfold Block.switchMove
  repeat' (first | with_reducible assumption | with_reducible apply Block.modCx_keep K | with_reducible apply Block.handOver_keep K | with_reducible refine ite_keep ?_ ?_ | dsimp only | intro _)

theorem Block.switchPlaces_keep (K : KeptBySet Q) (b : Block) (hb : Q b.regs) : Q (Block.switchPlaces b).regs := by
  unfold Block.switchPlaces
  repeat' (first | with_reducible assumption | with_reducible refine Block.forAll_keep _ _ _ ?_ (fun _ _ _ => ?_) | with_reducible apply Block.dropPlace_keep K | with_reducible apply Block.modCx_keep K | with_reducible apply Block.placeCtx_keep K | with_reducible apply Block.switchMove_keep K | with_reducible apply Block.copyWaiting_keep K | with_reducible apply Block.engShowAll_keep K | dsimp only | intro _)

theorem Block.switchTime_keep (K : KeptBySet Q) (b : Block) (p : Prog) (hb : Q b.regs) : Q (Block.switchTime b p).regs := by
  unfold Block.switchTime
  repeat' (first | with_reducible assumption | with_reducible refine Block.forAll_keep _ _ _ ?_ (fun _ _ _ => ?_) | with_reducible apply Block.modCx_keep K | with_reducible apply Block.setRegN_keep K | dsimp only | intro _)

theorem Block.olcSwitch_keep (K : KeptBySet Q) (b : Block) (hb : Q b.regs) : Q (Block.olcSwitch b).regs := by
  unfold Block.olcSwitch
  repeat' (first | with_reducible assumption | with_reducible apply Block.carryGlobals_keep K | with_reducible refine Block.forAll_keep _ _ _ ?_ (fun _ _ _ => ?_) | with_reducible apply Block.switchCtx_keep K | with_reducible refine Block.when_keep _ _ _ ?_ (fun _ => ?_) | with_reducible apply Block.solWithdraw_keep K | with_reducible apply Block.unloadCtx_keep K | with_reducible apply Block.fset_keep K | with_reducible apply Block.loadCtx_keep K | with_reducible apply Block.modCx_keep K | with_reducible apply Block.switchOutputs_keep K | with_reducible apply Block.switchForces_keep K | with_reducible apply Block.showOwners_keep K | with_reducible apply Block.showDecl_keep K | with_reducible apply Block.showMirror_keep K | with_reducible apply Block.solBind_keep K | with_reducible apply Block.switchPatterns_keep K | with_reducible apply Block.switchPlaces_keep K | with_reducible apply Block.switchTime_keep K | with_reducible apply Block.aimCtx_keep K | with_reducible apply Block.setCtxState_keep K | with_reducible apply Block.stamp_keep K | with_reducible apply Block.incWrap_keep K | with_reducible apply Block.credFollow_keep K | with_reducible apply Block.subsFollow_keep K | with_reducible apply Block.lnkSegShow_keep K | split | dsimp only | with_reducible refine pair_keep (by with_reducible assumption) ?_ | with_reducible refine pair_keep' (by with_reducible assumption) ?_ | intro _)

theorem Block.olcSwitched_keep (K : KeptBySet Q) (b : Block) (hb : Q b.regs) : Q (Block.olcSwitched b).regs := by
  unfold Block.olcSwitched
  repeat' (first | with_reducible assumption | with_reducible apply Block.fset_keep K | with_reducible apply Block.event_keep K | dsimp only)

theorem Block.olcFollow_keep (K : KeptBySet Q) (b : Block) (hb : Q b.regs) : Q (Block.olcFollow b).regs := by
  unfold Block.olcFollow
  repeat' (first | with_reducible assumption | with_reducible refine Block.when_keep _ _ _ ?_ (fun _ => ?_) | with_reducible apply Block.olcSwitch_keep K | dsimp only | intro _)

theorem Block.olcBlocker_keep (K : KeptBySet Q) (b : Block) (worst : Nat × Nat) (hb : Q b.regs) : Q (Block.olcBlocker b worst).regs := by
  unfold Block.olcBlocker
  repeat' (first | with_reducible assumption | with_reducible apply Block.fset_keep K | dsimp only)

theorem Block.setRegI_keep (K : KeptBySet Q) (b : Block) (off : Nat) (v : Int) (hb : Q b.regs) : Q (Block.setRegI b off v).regs := by
  unfold Block.setRegI
  repeat' (first | with_reducible assumption | with_reducible apply Block.setRegN_keep K | dsimp only)

theorem Block.setAvailSrc_keep (K : KeptBySet Q) (b : Block) (src : TimeSource) (v : Bool) (hb : Q b.regs) : Q (Block.setAvailSrc b src v).regs := by
  unfold Block.setAvailSrc
  repeat' (first | with_reducible assumption | split | dsimp only | with_reducible refine pair_keep (by with_reducible assumption) ?_ | with_reducible refine pair_keep' (by with_reducible assumption) ?_)

theorem Block.tsuEnter_keep (K : KeptBySet Q) (b : Block) (st : Nat) (hb : Q b.regs) : Q (Block.tsuEnter b st).regs := by
  unfold Block.tsuEnter
  repeat' (first | with_reducible assumption | with_reducible apply Block.fset_keep K | with_reducible refine Block.when_keep _ _ _ ?_ (fun _ => ?_) | with_reducible apply Block.raiseEvt_keep K | with_reducible apply Block.recRegs_keep K | with_reducible refine ite_keep ?_ ?_ | dsimp only | intro _)

theorem Block.setSrc_keep (K : KeptBySet Q) (b : Block) (code : Nat) (hb : Q b.regs) : Q (Block.setSrc b code).regs := by
  unfold Block.setSrc
  repeat' (first | with_reducible assumption | with_reducible apply Block.fset_keep K | with_reducible apply Block.event_keep K | with_reducible refine Block.when_keep _ _ _ ?_ (fun _ => ?_) | with_reducible apply Block.tsuEnter_keep K | with_reducible refine ite_keep ?_ ?_ | dsimp only | intro _)

theorem Block.tsuHold_keep (K : KeptBySet Q) (b : Block) (hb : Q b.regs) : Q (Block.tsuHold b).regs := by
  unfold Block.tsuHold
  repeat' (first | with_reducible assumption | with_reducible apply Block.setSrc_keep K | with_reducible refine Block.when_keep _ _ _ ?_ (fun _ => ?_) | with_reducible apply Block.setRegI_keep K | with_reducible apply Block.tsuEnter_keep K | dsimp only | intro _)

theorem Block.tsuLost_keep (K : KeptBySet Q) (b : Block) (src : TimeSource) (hb : Q b.regs) : Q (Block.tsuLost b src).regs := by
  unfold Block.tsuLost
  repeat' (first | with_reducible assumption | with_reducible apply Block.setAvailSrc_keep K | with_reducible apply Block.tsuHold_keep K | with_reducible refine ite_keep ?_ ?_ | dsimp only)

theorem Block.setClaim_keep (K : KeptBySet Q) (b : Block) (epoch : Nat) (hb : Q b.regs) : Q (Block.setClaim b epoch).regs := by
  unfold Block.setClaim
  repeat' (first | with_reducible assumption | with_reducible apply Block.setRegN_keep K | with_reducible refine ite_keep ?_ ?_ | dsimp only)

theorem Block.redRefresh_keep (K : KeptBySet Q) (b : Block) (hb : Q b.regs) : Q (Block.redRefresh b).regs := by
  unfold Block.redRefresh
  repeat' (first | with_reducible assumption | with_reducible apply Block.fset_keep K | with_reducible apply Block.setClaim_keep K | dsimp only)

theorem Block.setSync_keep (K : KeptBySet Q) (b : Block) (v : Nat) (hb : Q b.regs) : Q (Block.setSync b v).regs := by
  unfold Block.setSync
  repeat' (first | with_reducible assumption | with_reducible apply Block.fset_keep K | with_reducible apply Block.raiseEvt_keep K | with_reducible refine ite_keep ?_ ?_ | dsimp only)

theorem Block.setWon_keep (K : KeptBySet Q) (b : Block) (v : Bool) (hb : Q b.regs) : Q (Block.setWon b v).regs := by
  unfold Block.setWon
  repeat' (first | with_reducible assumption | with_reducible refine Block.when_keep _ _ _ ?_ (fun _ => ?_) | with_reducible apply Block.canClaimLost_keep K | with_reducible apply Block.chRefreshAll_keep K | with_reducible apply Block.calClaim_keep K | with_reducible apply Block.hartClaimLost_keep K | dsimp only)

theorem Block.setRole_keep (K : KeptBySet Q) (b : Block) (r : Nat) (hb : Q b.regs) : Q (Block.setRole b r).regs := by
  unfold Block.setRole
  repeat' (first | with_reducible assumption | with_reducible apply Block.fset_keep K | with_reducible apply Block.redRefresh_keep K | with_reducible refine Block.when_keep _ _ _ ?_ (fun _ => ?_) | with_reducible apply Block.tsuLost_keep K | with_reducible apply Block.hartDemoted_keep K | with_reducible apply Block.canClaimLost_keep K | with_reducible apply Block.chRefreshAll_keep K | with_reducible apply Block.calClaim_keep K | dsimp only | intro _)

theorem Block.resyncFrom_keep (K : KeptBySet Q) (b : Block) (v : Nat) (hb : Q b.regs) : Q (Block.resyncFrom b v).regs := by
  unfold Block.resyncFrom
  repeat' (first | with_reducible assumption | with_reducible apply Block.setRegN_keep K | with_reducible apply Block.setSync_keep K | dsimp only)

theorem Block.joinAborted_keep (K : KeptBySet Q) (b : Block) (hb : Q b.regs) : Q (Block.joinAborted b).regs := by
  unfold Block.joinAborted
  repeat' (first | with_reducible assumption | with_reducible apply Block.fset_keep K | with_reducible apply Block.raiseEvt_keep K | with_reducible apply Block.resyncFrom_keep K | with_reducible refine ite_keep ?_ ?_ | dsimp only)

theorem Block.resyncStart_keep (K : KeptBySet Q) (b : Block) (hb : Q b.regs) : Q (Block.resyncStart b).regs := by
  unfold Block.resyncStart
  repeat' (first | with_reducible assumption | with_reducible apply Block.resyncFrom_keep K | dsimp only)

theorem Block.pairOut_keep (K : KeptBySet Q) (b : Block) (hb : Q b.regs) : Q (Block.pairOut b).regs := by
  unfold Block.pairOut
  repeat' (first | with_reducible assumption | with_reducible apply Block.setRole_keep K | with_reducible apply Block.setSync_keep K | with_reducible apply Block.setWon_keep K | dsimp only)

theorem Block.pivLimit_keep (K : KeptBySet Q) (b : Block) (hb : Q b.regs) : Q (Block.pivLimit b).regs := by
  unfold Block.pivLimit
  repeat' (first | with_reducible assumption | with_reducible apply Block.fsetB_keep K | dsimp only)

theorem Block.hbFollow_keep (K : KeptBySet Q) (b : Block) (hb : Q b.regs) : Q (Block.hbFollow b).regs := by
  unfold Block.hbFollow
  repeat' (first | with_reducible assumption | with_reducible apply Block.pivLimit_keep K | with_reducible apply Block.fset_keep K | with_reducible apply Block.setRegN_keep K | with_reducible apply Block.beatArm_keep K | with_reducible apply Block.canTakeMode_keep K | with_reducible refine ite_keep ?_ ?_ | dsimp only)

theorem Block.hbSend_keep (K : KeptBySet Q) (b : Block) (hb : Q b.regs) : Q (Block.hbSend b).regs := by
  unfold Block.hbSend
  repeat' (first | with_reducible assumption | with_reducible apply Block.canStore_keep K | with_reducible apply Block.send_keep K | with_reducible refine ite_keep ?_ ?_ | with_reducible apply id_keep | dsimp only)

theorem Block.depart_keep (K : KeptBySet Q) (b : Block) (hb : Q b.regs) : Q (Block.depart b).regs := by
  unfold Block.depart
  repeat' (first | with_reducible assumption | with_reducible apply Block.send_keep K | with_reducible refine Block.when_keep _ _ _ ?_ (fun _ => ?_) | with_reducible apply Block.hbSend_keep K | with_reducible refine ite_keep ?_ ?_ | dsimp only)

theorem Block.pairLeaves_keep (K : KeptBySet Q) (b : Block) (hb : Q b.regs) : Q (Block.pairLeaves b).regs := by
  unfold Block.pairLeaves
  repeat' (first | with_reducible assumption | with_reducible apply Block.depart_keep K | with_reducible apply Block.pairOut_keep K | with_reducible refine ite_keep ?_ ?_ | dsimp only)

theorem Block.unforceOutputs_keep (K : KeptBySet Q) (b : Block) (hb : Q b.regs) : Q (Block.unforceOutputs b).regs := by
  unfold Block.unforceOutputs
  repeat' (first | with_reducible assumption | with_reducible refine Block.forAll_keep _ _ _ ?_ (fun _ _ _ => ?_) | with_reducible apply Block.modChan_keep K | dsimp only | intro _)

theorem Block.reforceOutputs_keep (K : KeptBySet Q) (b : Block) (hb : Q b.regs) : Q (Block.reforceOutputs b).regs := by
  unfold Block.reforceOutputs
  repeat' (first | with_reducible assumption | with_reducible refine Block.forAll_keep _ _ _ ?_ (fun _ _ _ => ?_) | with_reducible apply Block.elMod_keep K | with_reducible apply Block.forceStopped_keep K | split | dsimp only | with_reducible refine pair_keep (by with_reducible assumption) ?_ | with_reducible refine pair_keep' (by with_reducible assumption) ?_ | intro _)

theorem Block.abandonAll_keep (K : KeptBySet Q) (b : Block) (hb : Q b.regs) : Q (Block.abandonAll b).regs := by
  unfold Block.abandonAll
  repeat' (first | with_reducible assumption | with_reducible refine Block.forAll_keep _ _ _ ?_ (fun _ _ _ => ?_) | with_reducible apply Block.abandon_keep K | with_reducible apply Block.atBoundary_keep K | with_reducible apply Block.engFollow_keep K | dsimp only | intro _)

theorem Block.dropDispatches_keep (K : KeptBySet Q) (b : Block) (hb : Q b.regs) : Q (Block.dropDispatches b).regs := by
  unfold Block.dropDispatches
  repeat' (first | with_reducible assumption | dsimp only | intro _)

theorem Block.startTriggers_keep (K : KeptBySet Q) (b : Block) (hb : Q b.regs) : Q (Block.startTriggers b).regs := by
  unfold Block.startTriggers
  repeat' (first | with_reducible assumption | with_reducible refine Block.forAll_keep _ _ _ ?_ (fun _ _ _ => ?_) | with_reducible apply Block.aimCtx_keep K | with_reducible apply Block.modCx_keep K | dsimp only | intro _)

theorem Block.leaveRun_keep (K : KeptBySet Q) (b : Block) (c : Bool) (hb : Q b.regs) : Q (Block.leaveRun b c).regs := by
  unfold Block.leaveRun
  repeat' (first | with_reducible assumption | with_reducible refine Block.when_keep _ _ _ ?_ (fun _ => ?_) | with_reducible apply Block.dropDispatches_keep K | with_reducible apply Block.unforceOutputs_keep K | with_reducible apply Block.pairLeaves_keep K | dsimp only | intro _)

theorem Block.enterRun_keep (K : KeptBySet Q) (b : Block) (c : Bool) (hb : Q b.regs) : Q (Block.enterRun b c).regs := by
  unfold Block.enterRun
  repeat' (first | with_reducible assumption | with_reducible refine Block.when_keep _ _ _ ?_ (fun _ => ?_) | with_reducible apply Block.startTriggers_keep K | with_reducible apply Block.reforceOutputs_keep K | dsimp only | intro _)

theorem Block.enterHalt_keep (K : KeptBySet Q) (b : Block) (c : Bool) (hb : Q b.regs) : Q (Block.enterHalt b c).regs := by
  unfold Block.enterHalt
  repeat' (first | with_reducible assumption | with_reducible refine Block.when_keep _ _ _ ?_ (fun _ => ?_) | with_reducible apply Block.abandonAll_keep K | with_reducible apply Block.solAbortRun_keep K | with_reducible apply Block.solWithdraw_keep K | dsimp only | intro _)

theorem Block.changeState_keep (K : KeptBySet Q) (b : Block) (st cause : Nat) (hb : Q b.regs) : Q (Block.changeState b st cause).regs := by
  unfold Block.changeState
  repeat' (first | with_reducible assumption | with_reducible apply Block.fset_keep K | with_reducible apply Block.calEndAll_keep K | with_reducible apply Block.olcModState_keep K | with_reducible refine Block.when_keep _ _ _ ?_ (fun _ => ?_) | with_reducible apply Block.joinAborted_keep K | with_reducible apply Block.enterState_keep K | with_reducible apply Block.leaveRun_keep K | with_reducible apply Block.enterRun_keep K | with_reducible apply Block.enterHalt_keep K | with_reducible apply Block.chRefreshAll_keep K | with_reducible apply Block.lnkHalt_keep K | with_reducible refine ite_keep ?_ ?_ | dsimp only)

theorem Block.engCount_keep (K : KeptBySet Q) (b : Block) (hb : Q b.regs) : Q (Block.engCount b).regs := by
  unfold Block.engCount
  repeat' (first | with_reducible assumption | with_reducible apply Block.fset_keep K | with_reducible apply Block.changeState_keep K | with_reducible refine ite_keep ?_ ?_ | dsimp only | intro _)

theorem Block.moveCtx_keep (K : KeptBySet Q) (b : Block) (c n k : Nat) (hb : Q b.regs) : Q (Block.moveCtx b c n k).regs := by
  unfold Block.moveCtx
  repeat' (first | with_reducible assumption | with_reducible apply Block.modCx_keep K | with_reducible apply Block.handOver_keep K | with_reducible refine ite_keep ?_ ?_ | dsimp only | intro _)

theorem Block.loseCtx_keep (K : KeptBySet Q) (b : Block) (c : Nat) (hb : Q b.regs) : Q (Block.loseCtx b c).regs := by
  unfold Block.loseCtx
  repeat' (first | with_reducible assumption | with_reducible apply Block.modCx_keep K | with_reducible apply Block.dropPlace_keep K | with_reducible apply Block.copyWaiting_keep K | with_reducible apply Block.atBoundary_keep K | with_reducible refine ite_keep ?_ ?_ | dsimp only | intro _)

theorem Block.rehome_keep (K : KeptBySet Q) (b : Block) (c : Nat) (hb : Q b.regs) : Q (Block.rehome b c).regs := by
  unfold Block.rehome
  repeat' (first | with_reducible assumption | with_reducible apply Block.moveCtx_keep K | with_reducible apply Block.loseCtx_keep K | with_reducible apply Block.copyWaiting_keep K | split | dsimp only | with_reducible refine pair_keep (by with_reducible assumption) ?_ | with_reducible refine pair_keep' (by with_reducible assumption) ?_)

theorem Block.leaveEngine_keep (K : KeptBySet Q) (b : Block) (n : Nat) (hb : Q b.regs) : Q (Block.leaveEngine b n).regs := by
  unfold Block.leaveEngine
  repeat' (first | with_reducible assumption | with_reducible refine Block.forAll_keep _ _ _ ?_ (fun _ _ _ => ?_) | with_reducible apply Block.modCx_keep K | with_reducible refine Block.when_keep _ _ _ ?_ (fun _ => ?_) | with_reducible apply Block.handOver_keep K | with_reducible apply Block.rehome_keep K | with_reducible apply Block.engShowAll_keep K | dsimp only | intro _)

theorem Block.revive_keep (K : KeptBySet Q) (b : Block) (c : Nat) (hb : Q b.regs) : Q (Block.revive b c).regs := by
  unfold Block.revive
  repeat' (first | with_reducible assumption | with_reducible apply Block.fset_keep K | with_reducible apply Block.setCtxState_keep K | with_reducible refine ite_keep ?_ ?_ | dsimp only)

theorem Block.rePlace_keep (K : KeptBySet Q) (b : Block) (c n k : Nat) (hb : Q b.regs) : Q (Block.rePlace b c n k).regs := by
  unfold Block.rePlace
  repeat' (first | with_reducible assumption | with_reducible apply Block.putPlace_keep K | with_reducible apply Block.modCx_keep K | dsimp only | intro _)

theorem Block.reviveAll_keep (K : KeptBySet Q) (b : Block) (hb : Q b.regs) : Q (Block.reviveAll b).regs := by
  unfold Block.reviveAll
  repeat' (first | with_reducible assumption | with_reducible refine Block.forAll_keep _ _ _ ?_ (fun _ _ _ => ?_) | with_reducible apply Block.rePlace_keep K | with_reducible apply Block.revive_keep K | with_reducible apply Block.engShowAll_keep K | split | dsimp only | with_reducible refine pair_keep (by with_reducible assumption) ?_ | with_reducible refine pair_keep' (by with_reducible assumption) ?_ | intro _)

theorem Block.replaceAll_keep (K : KeptBySet Q) (b : Block) (hb : Q b.regs) : Q (Block.replaceAll b).regs := by
  unfold Block.replaceAll
  repeat' (first | with_reducible assumption | with_reducible refine Block.forAll_keep _ _ _ ?_ (fun _ _ _ => ?_) | with_reducible apply Block.modCx_keep K | with_reducible apply Block.loseCtx_keep K | with_reducible apply Block.moveCtx_keep K | with_reducible apply Block.rePlace_keep K | with_reducible apply Block.revive_keep K | with_reducible apply Block.copyWaiting_keep K | with_reducible apply Block.engShowAll_keep K | with_reducible refine ite_keep ?_ ?_ | split | dsimp only | with_reducible refine pair_keep (by with_reducible assumption) ?_ | with_reducible refine pair_keep' (by with_reducible assumption) ?_ | intro _)

theorem Block.replaceDone_keep (K : KeptBySet Q) (b : Block) (hb : Q b.regs) : Q (Block.replaceDone b).regs := by
  unfold Block.replaceDone
  repeat' (first | with_reducible assumption | with_reducible apply Block.schDone_keep K | with_reducible refine ite_keep ?_ ?_ | dsimp only)

theorem Block.reloadCtx_keep (K : KeptBySet Q) (b : Block) (c : Nat) (hb : Q b.regs) : Q (Block.reloadCtx b c).regs := by
  unfold Block.reloadCtx
  repeat' (first | with_reducible assumption | with_reducible apply Block.modCx_keep K | with_reducible apply Block.uncommitOutputs_keep K | with_reducible apply Block.setRegN_keep K | dsimp only | intro _)

theorem Block.resume_keep (K : KeptBySet Q) (b : Block) (c : Nat) (reload : Bool) (hb : Q b.regs) : Q (Block.resume b c reload).regs := by
  unfold Block.resume
  repeat' (first | with_reducible assumption | with_reducible apply Block.reloadCtx_keep K | with_reducible apply Block.modCx_keep K | with_reducible apply Block.fset_keep K | with_reducible apply Block.setCtxState_keep K | with_reducible apply Block.schDone_keep K | with_reducible apply Block.rePlace_keep K | with_reducible apply Block.engShow_keep K | with_reducible refine ite_keep ?_ ?_ | split | dsimp only | with_reducible refine pair_keep (by with_reducible assumption) ?_ | with_reducible refine pair_keep' (by with_reducible assumption) ?_ | intro _)

theorem Block.schStopCtx_keep (K : KeptBySet Q) (b : Block) (c : Nat) (hb : Q b.regs) : Q (Block.schStopCtx b c).regs := by
  unfold Block.schStopCtx
  repeat' (first | with_reducible assumption | with_reducible apply Block.modCx_keep K | dsimp only | intro _)

theorem Block.schCommand_keep (K : KeptBySet Q) (b : Block) (v : Nat) (hb : Q b.regs) : Q (Block.schCommand b v).regs := by
  unfold Block.schCommand
  repeat' (first | with_reducible assumption | with_reducible apply Block.fset_keep K | with_reducible apply Block.schDone_keep K | with_reducible apply Block.replaceAll_keep K | with_reducible apply Block.replaceDone_keep K | with_reducible apply Block.resume_keep K | with_reducible apply Block.schStopCtx_keep K | with_reducible refine ite_keep ?_ ?_ | split | dsimp only | with_reducible refine pair_keep (by with_reducible assumption) ?_ | with_reducible refine pair_keep' (by with_reducible assumption) ?_)

theorem Block.schCmdWrite_keep (K : KeptBySet Q) (b : Block) (r : Requester) (v : Nat) (hb : Q b.regs) : Q (Block.schCmdWrite b r v).regs := by
  unfold Block.schCmdWrite
  repeat' (first | with_reducible assumption | with_reducible apply Block.cmdWrite_keep K | with_reducible apply Block.schCommand_keep K | dsimp only | intro _)

theorem Block.setAvail_keep (K : KeptBySet Q) (b : Block) (n : Nat) (v : Bool) (hb : Q b.regs) : Q (Block.setAvail b n v).regs := by
  unfold Block.setAvail
  repeat' (first | with_reducible assumption | with_reducible apply Block.fsetB_keep K | with_reducible apply Block.modEng_keep K | with_reducible refine ite_keep ?_ ?_ | dsimp only | intro _)

theorem Block.placesLost_keep (K : KeptBySet Q) (b : Block) (n code : Nat) (bad : List Nat) (hb : Q b.regs) : Q (Block.placesLost b n code bad).regs := by
  unfold Block.placesLost
  repeat' (first | with_reducible assumption | with_reducible refine Block.when_keep _ _ _ ?_ (fun _ => ?_) | with_reducible apply Block.event_keep K | with_reducible refine Block.forAll_keep _ _ _ ?_ (fun _ _ _ => ?_) | with_reducible apply Block.hardException_keep K | with_reducible apply Block.modCx_keep K | with_reducible apply Block.dropPlace_keep K | with_reducible apply Block.copyWaiting_keep K | with_reducible apply Block.modEng_keep K | dsimp only | intro _)

theorem Block.engineFault_keep (K : KeptBySet Q) (b : Block) (n code : Nat) (bad : List Nat) (hb : Q b.regs) : Q (Block.engineFault b n code bad).regs := by
  unfold Block.engineFault
  repeat' (first | with_reducible assumption | with_reducible apply Block.placesLost_keep K | with_reducible apply Block.engShow_keep K | with_reducible refine Block.forAll_keep _ _ _ ?_ (fun _ _ _ => ?_) | with_reducible apply Block.abandon_keep K | with_reducible apply Block.atBoundary_keep K | with_reducible apply Block.fset_keep K | with_reducible apply Block.modEng_keep K | with_reducible apply Block.setAvail_keep K | with_reducible apply Block.leaveEngine_keep K | with_reducible apply Block.engCount_keep K | with_reducible refine ite_keep ?_ ?_ | dsimp only | intro _)

theorem Block.engTest_keep (K : KeptBySet Q) (b : Block) (n : Nat) (hb : Q b.regs) : Q (Block.engTest b n).regs := by
  unfold Block.engTest
  repeat' (first | with_reducible assumption | with_reducible apply Block.modEng_keep K | with_reducible apply Block.fset_keep K | dsimp only | intro _)

theorem Block.engTestWrite_keep (K : KeptBySet Q) (b : Block) (r : Requester) (n v : Nat) (hb : Q b.regs) : Q (Block.engTestWrite b r n v).regs := by
  unfold Block.engTestWrite
  repeat' (first | with_reducible assumption | with_reducible apply Block.cmdWrite_keep K | with_reducible apply Block.engTest_keep K | with_reducible refine ite_keep ?_ ?_ | dsimp only | intro _)

theorem Block.engPassed_keep (K : KeptBySet Q) (b : Block) (n : Nat) (hb : Q b.regs) : Q (Block.engPassed b n).regs := by
  unfold Block.engPassed
  repeat' (first | with_reducible assumption | with_reducible apply Block.fset_keep K | with_reducible apply Block.modEng_keep K | with_reducible refine Block.when_keep _ _ _ ?_ (fun _ => ?_) | with_reducible apply Block.raiseEvt_keep K | with_reducible refine ite_keep ?_ ?_ | dsimp only | intro _)

theorem Block.engFailed_keep (K : KeptBySet Q) (b : Block) (n : Nat) (hb : Q b.regs) : Q (Block.engFailed b n).regs := by
  unfold Block.engFailed
  repeat' (first | with_reducible assumption | with_reducible apply Block.modEng_keep K | with_reducible apply Block.fset_keep K | dsimp only | intro _)

theorem Block.engTested_keep (K : KeptBySet Q) (b : Block) (n code : Nat) (hb : Q b.regs) : Q (Block.engTested b n code).regs := by
  unfold Block.engTested
  repeat' (first | with_reducible assumption | with_reducible apply Block.fset_keep K | with_reducible apply Block.raiseEvt_keep K | with_reducible apply Block.engPassed_keep K | with_reducible apply Block.engFailed_keep K | with_reducible refine ite_keep ?_ ?_ | dsimp only)

theorem Block.recWindow_keep (K : KeptBySet Q) (b : Block) (hb : Q b.regs) : Q (Block.recWindow b).regs := by
  unfold Block.recWindow
  repeat' (first | with_reducible assumption | with_reducible refine Block.forAll_keep _ _ _ ?_ (fun _ _ _ => ?_) | with_reducible apply Block.recLost_keep K | dsimp only | intro _)

theorem Block.admitDeferred_keep (K : KeptBySet Q) (b : Block) (l : List Nat) (hb : Q b.regs) : Q (Block.admitDeferred b l).regs := by
  unfold Block.admitDeferred
  repeat' (first | with_reducible assumption | with_reducible refine Block.forAll_keep _ _ _ ?_ (fun _ _ _ => ?_) | with_reducible apply Block.setCtxState_keep K | with_reducible apply Block.modCx_keep K | dsimp only | intro _)

theorem Block.windowEnd_keep (K : KeptBySet Q) (b : Block) (hb : Q b.regs) : Q (Block.windowEnd b).regs := by
  unfold Block.windowEnd
  repeat' (first | with_reducible assumption | with_reducible refine Block.forAll_keep _ _ _ ?_ (fun _ _ _ => ?_) | with_reducible apply Block.setRegN_keep K | with_reducible apply Block.incWrap_keep K | with_reducible apply Block.fset_keep K | with_reducible apply Block.recWindow_keep K | with_reducible apply Block.redRefresh_keep K | with_reducible apply Block.admitDeferred_keep K | with_reducible apply Block.modCx_keep K | with_reducible refine ite_keep ?_ ?_ | split | dsimp only | with_reducible refine pair_keep (by with_reducible assumption) ?_ | with_reducible refine pair_keep' (by with_reducible assumption) ?_ | intro _)

theorem Block.thermalCtxs_keep (K : KeptBySet Q) (b : Block) (hb : Q b.regs) : Q (Block.thermalCtxs b).regs := by
  unfold Block.thermalCtxs
  repeat' (first | with_reducible assumption | with_reducible refine Block.forAll_keep _ _ _ ?_ (fun _ _ _ => ?_) | with_reducible apply Block.setCtxState_keep K | with_reducible apply Block.handOver_keep K | with_reducible apply Block.copyWaiting_keep K | with_reducible apply Block.admitDeferred_keep K | with_reducible refine ite_keep ?_ ?_ | dsimp only | intro _)

theorem Block.setPos_keep (K : KeptBySet Q) (b : Block) (abs1 : Bool) (p : Int) (hb : Q b.regs) : Q (Block.setPos b abs1 p).regs := by
  unfold Block.setPos
  repeat' (first | with_reducible assumption | with_reducible apply Block.setPair_keep K | dsimp only)

theorem Block.flagCycles_keep (K : KeptBySet Q) (b : Block) (abs1 step : Bool) (hb : Q b.regs) : Q (Block.flagCycles b abs1 step).regs := by
  unfold Block.flagCycles
  repeat' (first | with_reducible assumption | with_reducible refine Block.forAll_keep _ _ _ ?_ (fun _ _ _ => ?_) | with_reducible apply Block.modCx_keep K | with_reducible refine ite_keep ?_ ?_ | dsimp only | intro _)

theorem Block.raiseHighest_keep (K : KeptBySet Q) (b : Block) (hb : Q b.regs) : Q (Block.raiseHighest b).regs := keep_tm _ hb

theorem Block.absCompare_keep (K : KeptBySet Q) (b : Block) (n : Nat) (hb : Q b.regs) : Q (Block.absCompare b n).regs := by
  unfold Block.absCompare
  repeat' (first | with_reducible assumption | with_reducible apply Block.fset_keep K | with_reducible apply Block.raiseEvt_keep K | dsimp only)

theorem Block.triggerPassed_keep (K : KeptBySet Q) (b : Block) (c n : Nat) (hb : Q b.regs) : Q (Block.triggerPassed b c n).regs := by
  induction n generalizing b with
  | zero => exact hb
  | succ n ih =>
    unfold Block.triggerPassed
    exact ite_keep (ih _ (Block.trigger_keep K _ _ hb)) hb

theorem Block.fireCrossed_keep (K : KeptBySet Q) (b : Block) (abs1 : Bool) (hb : Q b.regs) : Q (Block.fireCrossed b abs1).regs := by
  unfold Block.fireCrossed
  repeat' (first | with_reducible assumption | with_reducible refine Block.forAll_keep _ _ _ ?_ (fun _ _ _ => ?_) | with_reducible apply Block.absCompare_keep K | with_reducible refine Block.when_keep _ _ _ ?_ (fun _ => ?_) | with_reducible apply Block.triggerPassed_keep K | with_reducible apply Block.solCrossed_keep K | with_reducible refine ite_keep ?_ ?_ | dsimp only | intro _)

theorem Block.aheadBy_keep (K : KeptBySet Q) (b : Block) (n : Nat) (hb : Q b.regs) : Q (Block.aheadBy b n).regs := by
  unfold Block.aheadBy
  repeat' (first | with_reducible assumption | dsimp only)

theorem Block.realign_keep (K : KeptBySet Q) (b : Block) (abs1 : Bool) (e lim : Int) (hb : Q b.regs) : Q (Block.realign b abs1 e lim).regs := by
  unfold Block.realign
  repeat' (first | with_reducible assumption | with_reducible apply Block.aheadBy_keep K | with_reducible apply Block.fset_keep K | with_reducible apply Block.setPos_keep K | with_reducible refine Block.when_keep _ _ _ ?_ (fun _ => ?_) | with_reducible apply Block.flagCycles_keep K | with_reducible apply Block.raiseHighest_keep K | with_reducible apply Block.fireCrossed_keep K | with_reducible apply Block.recRegs_keep K | with_reducible apply Block.incSat_keep K | with_reducible apply Block.setRegI_keep K | with_reducible apply Block.event_keep K | with_reducible refine ite_keep ?_ ?_ | dsimp only | intro _)

theorem Block.absEnter_keep (K : KeptBySet Q) (b : Block) (st : Nat) (hb : Q b.regs) : Q (Block.absEnter b st).regs := by
  unfold Block.absEnter
  repeat' (first | with_reducible assumption | with_reducible apply Block.fset_keep K | with_reducible refine Block.when_keep _ _ _ ?_ (fun _ => ?_) | with_reducible apply Block.raiseEvt_keep K | with_reducible apply Block.recRegs_keep K | with_reducible refine ite_keep ?_ ?_ | dsimp only | intro _)

theorem Block.absSeek_keep (K : KeptBySet Q) (b : Block) (hb : Q b.regs) : Q (Block.absSeek b).regs := by
  unfold Block.absSeek
  repeat' (first | with_reducible assumption | with_reducible apply Block.absEnter_keep K | with_reducible refine ite_keep ?_ ?_ | split | dsimp only | with_reducible refine pair_keep (by with_reducible assumption) ?_ | with_reducible refine pair_keep' (by with_reducible assumption) ?_ | intro _)

theorem Block.absHold_keep (K : KeptBySet Q) (b : Block) (vs : Nat) (hb : Q b.regs) : Q (Block.absHold b vs).regs := by
  unfold Block.absHold
  repeat' (first | with_reducible assumption | with_reducible refine Block.when_keep _ _ _ ?_ (fun _ => ?_) | with_reducible apply Block.setRegN_keep K | with_reducible apply Block.fset_keep K | with_reducible apply Block.absEnter_keep K | dsimp only | intro _)

theorem Block.vsCompare_keep (K : KeptBySet Q) (b : Block) (vs other : Nat) (hb : Q b.regs) : Q (Block.vsCompare b vs other).regs := by
  unfold Block.vsCompare
  repeat' (first | with_reducible assumption | with_reducible apply Block.setRegI_keep K | with_reducible apply Block.setRegN_keep K | with_reducible refine ite_keep ?_ ?_ | dsimp only)

theorem Block.absLock_keep (K : KeptBySet Q) (b : Block) (v angle : Nat) (hb : Q b.regs) : Q (Block.absLock b v angle).regs := by
  unfold Block.absLock
  repeat' (first | with_reducible assumption | with_reducible apply Block.fset_keep K | with_reducible apply Block.setRegN_keep K | with_reducible apply Block.realign_keep K | dsimp only)

theorem Block.absCfgWritten_keep (K : KeptBySet Q) (b : Block) (hb : Q b.regs) : Q (Block.absCfgWritten b).regs := by
  unfold Block.absCfgWritten
  repeat' (first | with_reducible assumption | with_reducible apply Block.aheadBy_keep K | with_reducible apply Block.fset_keep K | with_reducible apply Block.setRegN_keep K | with_reducible apply Block.absEnter_keep K | with_reducible refine Block.when_keep _ _ _ ?_ (fun _ => ?_) | with_reducible apply Block.absHold_keep K | with_reducible apply Block.absSeek_keep K | with_reducible refine ite_keep ?_ ?_ | dsimp only | intro _)

theorem Block.shaftFollow_keep (K : KeptBySet Q) (b : Block) (p : Int) (hb : Q b.regs) : Q (Block.shaftFollow b p).regs := by
  unfold Block.shaftFollow
  repeat' (first | with_reducible assumption | with_reducible apply Block.setPos_keep K | with_reducible refine ite_keep ?_ ?_ | dsimp only)

theorem Block.shaftEnter_keep (K : KeptBySet Q) (b : Block) (st : Nat) (hb : Q b.regs) : Q (Block.shaftEnter b st).regs := by
  unfold Block.shaftEnter
  repeat' (first | with_reducible assumption | with_reducible apply Block.fset_keep K | with_reducible apply Block.event_keep K | with_reducible refine ite_keep ?_ ?_ | dsimp only)

theorem Block.syncLost_keep (K : KeptBySet Q) (b : Block) (hb : Q b.regs) : Q (Block.syncLost b).regs := by
  unfold Block.syncLost
  repeat' (first | with_reducible assumption | with_reducible apply Block.shaftEnter_keep K | with_reducible refine ite_keep ?_ ?_ | dsimp only)

theorem Block.aimShaft_keep (K : KeptBySet Q) (b : Block) (hb : Q b.regs) : Q (Block.aimShaft b).regs := by
  unfold Block.aimShaft
  repeat' (first | with_reducible assumption | with_reducible refine Block.forAll_keep _ _ _ ?_ (fun _ _ _ => ?_) | with_reducible apply Block.modCx_keep K | dsimp only | intro _)

theorem Block.indexFirst_keep (K : KeptBySet Q) (b : Block) (ofs : Nat) (hb : Q b.regs) : Q (Block.indexFirst b ofs).regs := by
  unfold Block.indexFirst
  repeat' (first | with_reducible assumption | with_reducible apply Block.fset_keep K | with_reducible apply Block.setPos_keep K | with_reducible apply Block.aimShaft_keep K | dsimp only)

theorem Block.indexAlign_keep (K : KeptBySet Q) (b : Block) (e : Int) (hb : Q b.regs) : Q (Block.indexAlign b e).regs := by
  unfold Block.indexAlign
  repeat' (first | with_reducible assumption | with_reducible apply Block.incSat_keep K | with_reducible apply Block.realign_keep K | with_reducible refine Block.when_keep _ _ _ ?_ (fun _ => ?_) | with_reducible apply Block.fset_keep K | dsimp only | intro _)

theorem Block.goodIndices_keep (K : KeptBySet Q) (b : Block) (n : Nat) (hb : Q b.regs) : Q (Block.goodIndices b n).regs := by
  unfold Block.goodIndices
  repeat' (first | with_reducible assumption | dsimp only)

theorem Block.indexJudge_keep (K : KeptBySet Q) (b : Block) (counts good : Nat) (hb : Q b.regs) : Q (Block.indexJudge b counts good).regs := by
  unfold Block.indexJudge
  repeat' (first | with_reducible assumption | with_reducible apply Block.syncLost_keep K | with_reducible apply Block.goodIndices_keep K | with_reducible refine Block.when_keep _ _ _ ?_ (fun _ => ?_) | with_reducible apply Block.shaftEnter_keep K | with_reducible refine ite_keep ?_ ?_ | dsimp only | intro _)

theorem Block.indexNext_keep (K : KeptBySet Q) (b : Block) (here err : Int) (hb : Q b.regs) : Q (Block.indexNext b here err).regs := by
  unfold Block.indexNext
  repeat' (first | with_reducible assumption | with_reducible refine Block.when_keep _ _ _ ?_ (fun _ => ?_) | with_reducible apply Block.indexAlign_keep K | with_reducible apply Block.indexJudge_keep K | with_reducible apply Block.goodIndices_keep K | dsimp only | intro _)

theorem Block.shaftCfgWritten_keep (K : KeptBySet Q) (b : Block) (old : Nat) (hb : Q b.regs) : Q (Block.shaftCfgWritten b old).regs := by
  unfold Block.shaftCfgWritten
  repeat' (first | with_reducible assumption | with_reducible apply Block.setRegN_keep K | with_reducible apply Block.fset_keep K | with_reducible apply Block.recRegs_keep K | with_reducible refine ite_keep ?_ ?_ | dsimp only)

theorem Block.tsuMark_keep (K : KeptBySet Q) (b : Block) (cause : Nat) (hb : Q b.regs) : Q (Block.tsuMark b cause).regs := by
  unfold Block.tsuMark
  repeat' (first | with_reducible assumption | with_reducible apply Block.timeMark_keep K | with_reducible refine ite_keep ?_ ?_ | dsimp only)

theorem Block.tsuStep_keep (K : KeptBySet Q) (b : Block) (d : Int) (cause : Nat) (hb : Q b.regs) : Q (Block.tsuStep b d cause).regs := by
  unfold Block.tsuStep
  repeat' (first | with_reducible assumption | with_reducible apply Block.windowEnd_keep K | with_reducible apply Block.setNow_keep K | with_reducible apply Block.fset_keep K | with_reducible refine Block.forAll_keep _ _ _ ?_ (fun _ _ _ => ?_) | with_reducible apply Block.setRegN_keep K | with_reducible apply Block.solStepTime_keep K | with_reducible apply Block.raiseEvt_keep K | with_reducible refine Block.when_keep _ _ _ ?_ (fun _ => ?_) | with_reducible apply Block.tsuEnter_keep K | with_reducible apply Block.recRegs_keep K | with_reducible apply Block.tsuMark_keep K | with_reducible refine ite_keep ?_ ?_ | dsimp only | intro _)

theorem Block.subStep_keep (K : KeptBySet Q) (b : Block) (part : Int) (hb : Q b.regs) : Q (Block.subStep b part).regs := by
  unfold Block.subStep
  repeat' (first | with_reducible assumption | dsimp only)

theorem Block.tsuCorrect_keep (K : KeptBySet Q) (b : Block) (offset : Int) (cause : Nat) (hb : Q b.regs) : Q (Block.tsuCorrect b offset cause).regs := by
  unfold Block.tsuCorrect
  repeat' (first | with_reducible assumption | with_reducible apply Block.tsuStep_keep K | with_reducible apply Block.subStep_keep K | with_reducible apply Block.fsetB_keep K | with_reducible refine ite_keep ?_ ?_ | dsimp only)

theorem Block.tsuUpdate_keep (K : KeptBySet Q) (b : Block) (src : TimeSource) (offset rate : Int) (hb : Q b.regs) : Q (Block.tsuUpdate b src offset rate).regs := by
  unfold Block.tsuUpdate
  repeat' (first | with_reducible assumption | with_reducible apply Block.setAvailSrc_keep K | with_reducible apply Block.setSrc_keep K | with_reducible refine Block.when_keep _ _ _ ?_ (fun _ => ?_) | with_reducible apply Block.tsuEnter_keep K | with_reducible apply Block.setRegI_keep K | with_reducible apply Block.tsuCorrect_keep K | with_reducible refine ite_keep ?_ ?_ | dsimp only | intro _)

theorem Block.tsuCfgWritten_keep (K : KeptBySet Q) (b : Block) (hb : Q b.regs) : Q (Block.tsuCfgWritten b).regs := by
  unfold Block.tsuCfgWritten
  repeat' (first | with_reducible assumption | with_reducible apply Block.fset_keep K | with_reducible apply Block.setRegN_keep K | with_reducible apply Block.setSrc_keep K | with_reducible apply Block.tsuEnter_keep K | with_reducible apply Block.tsuHold_keep K | with_reducible refine ite_keep ?_ ?_ | dsimp only)

theorem Block.lockedSecond_keep (K : KeptBySet Q) (b : Block) (hb : Q b.regs) : Q (Block.lockedSecond b).regs := by
  unfold Block.lockedSecond
  repeat' (first | with_reducible assumption | dsimp only)

theorem Block.fracCarry_keep (K : KeptBySet Q) (b : Block) (hb : Q b.regs) : Q (Block.fracCarry b).regs := keep_tm _ hb

theorem Block.frameTick_keep (K : KeptBySet Q) (b : Block) (before : Nat) (hb : Q b.regs) : Q (Block.frameTick b before).regs := by
  unfold Block.frameTick
  repeat' (first | with_reducible assumption | with_reducible refine Block.when_keep _ _ _ ?_ (fun _ => ?_) | with_reducible apply Block.incWrap_keep K | with_reducible apply Block.fset_keep K | dsimp only | intro _)

theorem Block.capture_keep (K : KeptBySet Q) (b : Block) (k : Nat) (sub : Bool) (hb : Q b.regs) : Q (Block.capture b k sub).regs := by
  unfold Block.capture
  repeat' (first | with_reducible assumption | with_reducible apply Block.fsetB_keep K | with_reducible apply Block.fset_keep K | with_reducible apply Block.stamp_keep K | with_reducible apply Block.raiseEvt_keep K | with_reducible refine ite_keep ?_ ?_ | dsimp only)

theorem Block.tsuDone_keep (K : KeptBySet Q) (b : Block) (code : Nat) (hb : Q b.regs) : Q (Block.tsuDone b code).regs := by
  unfold Block.tsuDone
  repeat' (first | with_reducible assumption | with_reducible apply Block.fset_keep K | with_reducible apply Block.raiseEvt_keep K | dsimp only)

theorem Block.ppsSet_keep (K : KeptBySet Q) (b : Block) (hb : Q b.regs) : Q (Block.ppsSet b).regs := by
  unfold Block.ppsSet
  repeat' (first | with_reducible assumption | with_reducible apply Block.tsuMark_keep K | with_reducible apply Block.tsuStep_keep K | with_reducible apply Block.fset_keep K | with_reducible apply Block.tsuDone_keep K | with_reducible refine ite_keep ?_ ?_ | dsimp only)

theorem Block.tsuCommand_keep (K : KeptBySet Q) (b : Block) (cmd : Nat) (hb : Q b.regs) : Q (Block.tsuCommand b cmd).regs := by
  unfold Block.tsuCommand
  repeat' (first | with_reducible assumption | with_reducible apply Block.fset_keep K | with_reducible apply Block.tsuDone_keep K | with_reducible apply Block.tsuStep_keep K | with_reducible apply Block.tsuCorrect_keep K | with_reducible refine ite_keep ?_ ?_ | dsimp only)

theorem Block.tsuCmdWrite_keep (K : KeptBySet Q) (b : Block) (r : Requester) (v : Nat) (hb : Q b.regs) : Q (Block.tsuCmdWrite b r v).regs := by
  unfold Block.tsuCmdWrite
  repeat' (first | with_reducible assumption | with_reducible apply Block.cmdWrite_keep K | with_reducible apply Block.tsuCommand_keep K | dsimp only | intro _)

theorem Block.setRtc_keep (K : KeptBySet Q) (b : Block) (sec subsec : Nat) (hb : Q b.regs) : Q (Block.setRtc b sec subsec).regs := by
  unfold Block.setRtc
  repeat' (first | with_reducible assumption | with_reducible apply Block.setRegN_keep K | dsimp only)

theorem Block.hourLocked_keep (K : KeptBySet Q) (b : Block) (hb : Q b.regs) : Q (Block.hourLocked b).regs := by
  unfold Block.hourLocked
  repeat' (first | with_reducible assumption | with_reducible apply Block.setRegI_keep K | with_reducible apply Block.setRtc_keep K | with_reducible apply Block.fset_keep K | with_reducible refine Block.when_keep _ _ _ ?_ (fun _ => ?_) | with_reducible apply Block.celRequest_keep K | with_reducible apply Block.raiseEvt_keep K | dsimp only | intro _)

theorem Block.hourAnew_keep (K : KeptBySet Q) (b : Block) (hb : Q b.regs) : Q (Block.hourAnew b).regs := by
  unfold Block.hourAnew
  repeat' (first | with_reducible assumption | dsimp only)

theorem Block.hourMark_keep (K : KeptBySet Q) (b : Block) (hb : Q b.regs) : Q (Block.hourMark b).regs := by
  unfold Block.hourMark
  repeat' (first | with_reducible assumption | with_reducible apply Block.tsuMark_keep K | with_reducible refine Block.when_keep _ _ _ ?_ (fun _ => ?_) | with_reducible apply Block.hourLocked_keep K | with_reducible apply Block.hourAnew_keep K | dsimp only)

theorem Block.rtcCommand_keep (K : KeptBySet Q) (b : Block) (v : Nat) (hb : Q b.regs) : Q (Block.rtcCommand b v).regs := by
  unfold Block.rtcCommand
  repeat' (first | with_reducible assumption | with_reducible apply Block.fset_keep K | with_reducible apply Block.setRtc_keep K | with_reducible apply Block.raiseEvt_keep K | with_reducible apply Block.tsuMark_keep K | with_reducible refine ite_keep ?_ ?_ | dsimp only)

theorem Block.rtcCmdWrite_keep (K : KeptBySet Q) (b : Block) (r : Requester) (v : Nat) (hb : Q b.regs) : Q (Block.rtcCmdWrite b r v).regs := by
  unfold Block.rtcCmdWrite
  repeat' (first | with_reducible assumption | with_reducible apply Block.cmdWrite_keep K | with_reducible apply Block.rtcCommand_keep K | dsimp only | intro _)

theorem Block.tsuTick_keep (K : KeptBySet Q) (b : Block) (hb : Q b.regs) : Q (Block.tsuTick b).regs := by
  unfold Block.tsuTick
  repeat' (first | with_reducible assumption | with_reducible apply Block.setRegN_keep K | with_reducible refine ite_keep ?_ ?_ | dsimp only)

theorem Block.rtcCount_keep (K : KeptBySet Q) (b : Block) (sub : Nat) (hb : Q b.regs) : Q (Block.rtcCount b sub).regs := by
  unfold Block.rtcCount
  repeat' (first | with_reducible assumption | with_reducible apply Block.setRtc_keep K | dsimp only)

theorem Block.rtcAdvance_keep (K : KeptBySet Q) (b : Block) (f : Nat) (hb : Q b.regs) : Q (Block.rtcAdvance b f).regs := by
  unfold Block.rtcAdvance
  repeat' (first | with_reducible assumption | with_reducible apply Block.rtcCount_keep K | with_reducible refine ite_keep ?_ ?_ | dsimp only)

theorem Block.rtcTick_keep (K : KeptBySet Q) (b : Block) (hb : Q b.regs) : Q (Block.rtcTick b).regs := by
  unfold Block.rtcTick
  repeat' (first | with_reducible assumption | with_reducible apply Block.rtcAdvance_keep K | with_reducible refine ite_keep ?_ ?_ | dsimp only)

theorem Block.absAdvance_keep (K : KeptBySet Q) (b : Block) (f : Nat) (hb : Q b.regs) : Q (Block.absAdvance b f).regs := by
  unfold Block.absAdvance
  repeat' (first | with_reducible assumption | with_reducible apply Block.setPos_keep K | dsimp only)

theorem Block.freqStep_keep (K : KeptBySet Q) (b : Block) (f : Nat) (hb : Q b.regs) : Q (Block.freqStep b f).regs := by
  unfold Block.freqStep
  repeat' (first | with_reducible assumption | with_reducible apply Block.setRegN_keep K | with_reducible refine ite_keep ?_ ?_ | dsimp only)

theorem Block.rampAdvance_keep (K : KeptBySet Q) (b : Block) (r : Nat) (hb : Q b.regs) : Q (Block.rampAdvance b r).regs := by
  unfold Block.rampAdvance
  repeat' (first | with_reducible assumption | with_reducible apply Block.freqStep_keep K | with_reducible refine ite_keep ?_ ?_ | dsimp only)

theorem Block.absRamp_keep (K : KeptBySet Q) (b : Block) (hb : Q b.regs) : Q (Block.absRamp b).regs := by
  unfold Block.absRamp
  repeat' (first | with_reducible assumption | with_reducible apply Block.rampAdvance_keep K | with_reducible refine ite_keep ?_ ?_ | dsimp only)

theorem Block.absTick_keep (K : KeptBySet Q) (b : Block) (hb : Q b.regs) : Q (Block.absTick b).regs := by
  unfold Block.absTick
  repeat' (first | with_reducible assumption | with_reducible apply Block.absAdvance_keep K | with_reducible apply Block.absRamp_keep K | dsimp only)

theorem Block.shaftTick_keep (K : KeptBySet Q) (b : Block) (hb : Q b.regs) : Q (Block.shaftTick b).regs := by
  unfold Block.shaftTick
  repeat' (first | with_reducible assumption | with_reducible apply Block.shaftFollow_keep K | with_reducible refine ite_keep ?_ ?_ | dsimp only)

theorem Block.patrolTick_keep (K : KeptBySet Q) (b : Block) (hb : Q b.regs) : Q (Block.patrolTick b).regs := by
  unfold Block.patrolTick
  repeat' (first | with_reducible assumption | with_reducible apply Block.incSat_keep K | with_reducible refine ite_keep ?_ ?_ | dsimp only)

theorem Block.coverTick_keep (K : KeptBySet Q) (b : Block) (hb : Q b.regs) : Q (Block.coverTick b).regs := by
  unfold Block.coverTick
  repeat' (first | with_reducible assumption | with_reducible apply Block.free_keep K | with_reducible apply Block.setRegN_keep K | with_reducible refine ite_keep ?_ ?_ | split | dsimp only | with_reducible refine pair_keep (by with_reducible assumption) ?_ | with_reducible refine pair_keep' (by with_reducible assumption) ?_)

theorem Block.devTick_keep (K : KeptBySet Q) (b : Block) (hb : Q b.regs) : Q (Block.devTick b).regs := by
  unfold Block.devTick
  repeat' (first | with_reducible assumption | with_reducible refine Block.forAll_keep _ _ _ ?_ (fun _ _ _ => ?_) | with_reducible apply Block.fset_keep K | with_reducible refine ite_keep ?_ ?_ | dsimp only | intro _)

theorem Block.rateTick_keep (K : KeptBySet Q) (b : Block) (hb : Q b.regs) : Q (Block.rateTick b).regs := by
  unfold Block.rateTick
  repeat' (first | with_reducible assumption | with_reducible apply Block.free_keep K | with_reducible apply Block.fset_keep K | with_reducible refine ite_keep ?_ ?_ | split | dsimp only | with_reducible refine pair_keep (by with_reducible assumption) ?_ | with_reducible refine pair_keep' (by with_reducible assumption) ?_)

theorem Block.pairTimeTick_keep (K : KeptBySet Q) (b : Block) (hb : Q b.regs) : Q (Block.pairTimeTick b).regs := by
  unfold Block.pairTimeTick
  repeat' (first | with_reducible assumption | with_reducible apply Block.send_keep K | with_reducible refine ite_keep ?_ ?_ | dsimp only)

theorem Block.clkOn_keep (K : KeptBySet Q) (b : Block) (hb : Q b.regs) : Q (Block.clkOn b).regs := keep_clk _ hb

theorem Block.milliTick_keep (K : KeptBySet Q) (b : Block) (hb : Q b.regs) : Q (Block.milliTick b).regs := by
  unfold Block.milliTick
  repeat' (first | with_reducible assumption | with_reducible apply Block.setPair_keep K | with_reducible refine ite_keep ?_ ?_ | dsimp only)

theorem Block.switchTick_keep (K : KeptBySet Q) (b : Block) (hb : Q b.regs) : Q (Block.switchTick b).regs := by
  unfold Block.switchTick
  repeat' (first | with_reducible assumption | with_reducible apply Block.olcSwitched_keep K | with_reducible refine ite_keep ?_ ?_ | dsimp only)

theorem Block.haltTick_keep (K : KeptBySet Q) (b : Block) (hb : Q b.regs) : Q (Block.haltTick b).regs := by
  unfold Block.haltTick
  split
  · exact Block.chRefreshAll_keep K _ (keep_pwr _ hb)
  · exact hb

theorem Block.tick_keep (K : KeptBySet Q) (b : Block) (hb : Q b.regs) : Q (Block.tick b).regs := by
  unfold Block.tick
  repeat' (first | with_reducible assumption | with_reducible apply Block.clkOn_keep K | with_reducible apply Block.rtcTick_keep K | with_reducible apply Block.tsuTick_keep K | with_reducible apply Block.frameTick_keep K | with_reducible apply Block.absTick_keep K | with_reducible apply Block.shaftTick_keep K | with_reducible apply Block.patrolTick_keep K | with_reducible apply Block.coverTick_keep K | with_reducible apply Block.rateTick_keep K | with_reducible apply Block.devTick_keep K | with_reducible apply Block.milliTick_keep K | with_reducible apply Block.switchTick_keep K | with_reducible apply Block.frcDue_keep K | with_reducible apply Block.olcFollow_keep K | with_reducible apply Block.haltTick_keep K | with_reducible apply Block.prpExpire_keep K | with_reducible apply Block.pairTimeTick_keep K | with_reducible refine ite_keep ?_ ?_ | dsimp only)

theorem Block.recShow_keep (K : KeptBySet Q) (b : Block) (hb : Q b.regs) : Q (Block.recShow b).regs := by
  unfold Block.recShow
  repeat' (first | with_reducible assumption | with_reducible apply Block.setPair_keep K | dsimp only)

theorem Block.recStore_keep (K : KeptBySet Q) (b : Block) (r : EvRec) (hb : Q b.regs) : Q (Block.recStore b r).regs := by
  unfold Block.recStore
  repeat' (first | with_reducible assumption | with_reducible refine Block.when_keep _ _ _ ?_ (fun _ => ?_) | with_reducible apply Block.fset_keep K | with_reducible apply Block.raiseEvt_keep K | with_reducible apply Block.recShow_keep K | with_reducible refine ite_keep ?_ ?_ | dsimp only | intro _)

theorem Block.recRefusals_keep (K : KeptBySet Q) (b : Block) (hb : Q b.regs) : Q (Block.recRefusals b).regs := by
  unfold Block.recRefusals
  repeat' (first | with_reducible assumption | with_reducible apply Block.recLost_keep K | with_reducible refine ite_keep ?_ ?_ | dsimp only)

theorem Block.lossDurable_keep (K : KeptBySet Q) (b : Block) (r : EvRec) (hb : Q b.regs) : Q (Block.lossDurable b r).regs := by
  unfold Block.lossDurable
  repeat' (first | with_reducible assumption | with_reducible apply Block.raiseEvt_keep K | dsimp only)

theorem Block.lockDurable_keep (K : KeptBySet Q) (b : Block) (r : EvRec) (hb : Q b.regs) : Q (Block.lockDurable b r).regs := by
  unfold Block.lockDurable
  repeat' (first | with_reducible assumption | with_reducible refine ite_keep ?_ ?_ | dsimp only)

theorem Block.setRegion_keep (K : KeptBySet Q) (b : Block) (r : Nat) (g : Region) (hb : Q b.regs) : Q (Block.setRegion b r g).regs := by
  unfold Block.setRegion
  repeat' (first | with_reducible assumption | dsimp only)

theorem Block.labelStored_keep (K : KeptBySet Q) (b : Block) (r : Nat) (hb : Q b.regs) : Q (Block.labelStored b r).regs := by
  unfold Block.labelStored
  repeat' (first | with_reducible assumption | with_reducible apply Block.setRegion_keep K | dsimp only)

theorem Block.shownStored_keep (K : KeptBySet Q) (b : Block) (r : Nat) (hb : Q b.regs) : Q (Block.shownStored b r).regs := by
  unfold Block.shownStored
  repeat' (first | with_reducible assumption | with_reducible apply Block.setRegion_keep K | dsimp only)

theorem Block.celCommit_keep (K : KeptBySet Q) (b : Block) (r : CelRec) (hb : Q b.regs) : Q (Block.celCommit b r).regs := by
  unfold Block.celCommit
  repeat' (first | with_reducible assumption | with_reducible apply Block.labelStored_keep K | with_reducible apply Block.shownStored_keep K | with_reducible apply Block.lockout_keep K | with_reducible refine ite_keep ?_ ?_ | split | dsimp only | with_reducible refine pair_keep (by with_reducible assumption) ?_ | with_reducible refine pair_keep' (by with_reducible assumption) ?_ | intro _)

theorem Block.queueLoss_keep (K : KeptBySet Q) (b : Block) (first count : Nat) (hb : Q b.regs) : Q (Block.queueLoss b first count).regs := by
  unfold Block.queueLoss
  repeat' (first | with_reducible assumption | with_reducible apply Block.queueFill_keep K | with_reducible refine ite_keep ?_ ?_ | dsimp only)

theorem Block.dramRegion_keep (K : KeptBySet Q) (b : Block) (r : DramRegion) (hb : Q b.regs) : Q (Block.dramRegion b r).regs := by
  unfold Block.dramRegion
  repeat' (first | with_reducible assumption | with_reducible apply Block.queueLoss_keep K | with_reducible apply Block.hartEndChannel_keep K | with_reducible apply Block.setHartItem_keep K | with_reducible apply Block.setCanPort_keep K | with_reducible apply Block.canWindow_keep K | with_reducible apply Block.changeState_keep K | with_reducible refine ite_keep ?_ ?_ | split | dsimp only | with_reducible refine pair_keep (by with_reducible assumption) ?_ | with_reducible refine pair_keep' (by with_reducible assumption) ?_ | intro _)

theorem Block.dramLost_keep (K : KeptBySet Q) (b : Block) (dev addr : Nat) (r : DramRegion) (retire : Bool) (hb : Q b.regs) : Q (Block.dramLost b dev addr r retire).regs := by
  unfold Block.dramLost
  repeat' (first | with_reducible assumption | with_reducible apply Block.setRegN_keep K | with_reducible refine Block.when_keep _ _ _ ?_ (fun _ => ?_) | with_reducible apply Block.fset_keep K | with_reducible apply Block.incSat_keep K | with_reducible apply Block.event_keep K | with_reducible apply Block.dramRegion_keep K | with_reducible apply Block.raiseEvt_keep K | dsimp only | intro _)

theorem Block.markDevice_keep (K : KeptBySet Q) (b : Block) (d : Nat) (hb : Q b.regs) : Q (Block.markDevice b d).regs := by
  unfold Block.markDevice
  repeat' (first | with_reducible assumption | with_reducible apply Block.fset_keep K | with_reducible apply Block.raiseEvt_keep K | with_reducible refine ite_keep ?_ ?_ | dsimp only)

theorem Block.dramFixed_keep (K : KeptBySet Q) (b : Block) (d n : Nat) (hb : Q b.regs) : Q (Block.dramFixed b d n).regs := by
  unfold Block.dramFixed
  repeat' (first | with_reducible assumption | with_reducible apply Block.incSat_keep K | with_reducible apply Block.fset_keep K | with_reducible apply Block.raiseEvt_keep K | with_reducible refine Block.when_keep _ _ _ ?_ (fun _ => ?_) | with_reducible apply Block.markDevice_keep K | dsimp only | intro _)

theorem Block.dramBurst_keep (K : KeptBySet Q) (b : Block) (burst : List (List (BitVec 8))) (addr : Nat) (r : DramRegion) (retire : Bool) (hb : Q b.regs) : Q (Block.dramBurst b burst addr r retire).regs := by
  unfold Block.dramBurst
  repeat' (first | with_reducible assumption | with_reducible apply Block.dramFixed_keep K | with_reducible apply Block.dramLost_keep K | with_reducible refine Block.when_keep _ _ _ ?_ (fun _ => ?_) | with_reducible apply Block.markDevice_keep K | split | dsimp only | with_reducible refine pair_keep (by with_reducible assumption) ?_ | with_reducible refine pair_keep' (by with_reducible assumption) ?_ | intro _)

theorem Block.solDownCheck_keep (K : KeptBySet Q) (b : Block) (hb : Q b.regs) : Q (Block.solDownCheck b).regs := by
  unfold Block.solDownCheck
  repeat' (first | with_reducible assumption | with_reducible apply Block.olcSolverDown_keep K | with_reducible refine ite_keep ?_ ?_ | dsimp only)

theorem Block.patLost_keep (K : KeptBySet Q) (b : Block) (k : Nat) (hb : Q b.regs) : Q (Block.patLost b k).regs := by
  unfold Block.patLost
  repeat' (first | with_reducible assumption | with_reducible apply Block.setPat_keep K | with_reducible apply Block.setReg_keep K | split | dsimp only | with_reducible refine pair_keep (by with_reducible assumption) ?_ | with_reducible refine pair_keep' (by with_reducible assumption) ?_)

theorem Block.granuleRetire_keep (K : KeptBySet Q) (b : Block) (hb : Q b.regs) : Q (Block.granuleRetire b).regs := by
  unfold Block.granuleRetire
  repeat' (first | with_reducible assumption | with_reducible apply Block.incSat_keep K | with_reducible apply Block.solStoreShow_keep K | with_reducible apply Block.raiseEvt_keep K | with_reducible refine Block.when_keep _ _ _ ?_ (fun _ => ?_) | with_reducible apply Block.olcSolverDown_keep K | dsimp only)

theorem Block.granuleLost_keep (K : KeptBySet Q) (b : Block) (k : Nat) (hb : Q b.regs) : Q (Block.granuleLost b k).regs := by
  unfold Block.granuleLost
  repeat' (first | with_reducible assumption | with_reducible apply Block.patLost_keep K | with_reducible refine Block.when_keep _ _ _ ?_ (fun _ => ?_) | with_reducible apply Block.granuleRetire_keep K | dsimp only)

theorem Block.storeLost_keep (K : KeptBySet Q) (b : Block) (logical : Nat) (hb : Q b.regs) : Q (Block.storeLost b logical).regs := by
  unfold Block.storeLost
  repeat' (first | with_reducible assumption | with_reducible apply Block.solAbortRun_keep K | with_reducible apply Block.solRetest_keep K | with_reducible apply Block.granuleLost_keep K | split | dsimp only | with_reducible refine pair_keep (by with_reducible assumption) ?_ | with_reducible refine pair_keep' (by with_reducible assumption) ?_)

theorem Block.sramRegion_keep (K : KeptBySet Q) (b : Block) (r : SramRegion) (hb : Q b.regs) : Q (Block.sramRegion b r).regs := by
  unfold Block.sramRegion
  repeat' (first | with_reducible assumption | with_reducible apply Block.engineFault_keep K | with_reducible apply Block.modCx_keep K | with_reducible apply Block.solWithdraw_keep K | with_reducible apply Block.solAbortRun_keep K | with_reducible apply Block.resyncStart_keep K | with_reducible apply Block.olcEnd_keep K | with_reducible apply Block.storeLost_keep K | with_reducible refine ite_keep ?_ ?_ | split | dsimp only | with_reducible refine pair_keep (by with_reducible assumption) ?_ | with_reducible refine pair_keep' (by with_reducible assumption) ?_ | intro _)

theorem Block.finishStart_keep (K : KeptBySet Q) (b : Block) (st cause : Nat) (hb : Q b.regs) : Q (Block.finishStart b st cause).regs := by
  unfold Block.finishStart
  repeat' (first | with_reducible assumption | with_reducible apply Block.fset_keep K | with_reducible refine Block.when_keep _ _ _ ?_ (fun _ => ?_) | with_reducible apply Block.setRegN_keep K | with_reducible apply Block.raiseEvt_keep K | with_reducible apply Block.changeState_keep K | with_reducible apply Block.redRefresh_keep K | with_reducible apply Block.chRefreshAll_keep K | dsimp only | intro _)

theorem Block.bePrimary_keep (K : KeptBySet Q) (b : Block) (epoch : Nat) (hb : Q b.regs) : Q (Block.bePrimary b epoch).regs := by
  unfold Block.bePrimary
  repeat' (first | with_reducible assumption | with_reducible apply Block.fset_keep K | with_reducible apply Block.setClaim_keep K | with_reducible refine Block.when_keep _ _ _ ?_ (fun _ => ?_) | with_reducible apply Block.recRegs_keep K | with_reducible apply Block.setSync_keep K | with_reducible apply Block.tsuLost_keep K | with_reducible apply Block.chRefreshAll_keep K | dsimp only | intro _)

theorem Block.primaryAlone_keep (K : KeptBySet Q) (b : Block) (hb : Q b.regs) : Q (Block.primaryAlone b).regs := by
  unfold Block.primaryAlone
  repeat' (first | with_reducible assumption | with_reducible apply Block.bePrimary_keep K | with_reducible apply Block.fset_keep K | with_reducible apply Block.raiseEvt_keep K | dsimp only)

theorem Block.primaryBeside_keep (K : KeptBySet Q) (b : Block) (hb : Q b.regs) : Q (Block.primaryBeside b).regs := by
  unfold Block.primaryBeside
  repeat' (first | with_reducible assumption | with_reducible apply Block.bePrimary_keep K | with_reducible apply Block.primaryAlone_keep K | with_reducible refine ite_keep ?_ ?_ | dsimp only)

theorem Block.joinRefused_keep (K : KeptBySet Q) (b : Block) (code : Nat) (hb : Q b.regs) : Q (Block.joinRefused b code).regs := by
  unfold Block.joinRefused
  repeat' (first | with_reducible assumption | with_reducible apply Block.fset_keep K | with_reducible apply Block.raiseEvt_keep K | with_reducible apply Block.pairOut_keep K | dsimp only)

theorem Block.joinRole_keep (K : KeptBySet Q) (b : Block) (hb : Q b.regs) : Q (Block.joinRole b).regs := by
  unfold Block.joinRole
  repeat' (first | with_reducible assumption | with_reducible apply Block.setWon_keep K | with_reducible apply Block.setRole_keep K | with_reducible apply Block.setClaim_keep K | dsimp only)

theorem Block.joinAs_keep (K : KeptBySet Q) (b : Block) (sync : Nat) (hb : Q b.regs) : Q (Block.joinAs b sync).regs := by
  unfold Block.joinAs
  repeat' (first | with_reducible assumption | with_reducible apply Block.joinRefused_keep K | with_reducible apply Block.joinRole_keep K | with_reducible apply Block.resyncFrom_keep K | with_reducible refine ite_keep ?_ ?_ | dsimp only)

theorem Block.standbySilent_keep (K : KeptBySet Q) (b : Block) (hb : Q b.regs) : Q (Block.standbySilent b).regs := by
  unfold Block.standbySilent
  repeat' (first | with_reducible assumption | with_reducible apply Block.joinAborted_keep K | with_reducible apply Block.setSync_keep K | with_reducible refine ite_keep ?_ ?_ | dsimp only)

theorem Block.frcAlone_keep (K : KeptBySet Q) (b : Block) (hb : Q b.regs) : Q (Block.frcAlone b).regs := by
  unfold Block.frcAlone
  repeat' (first | with_reducible assumption | with_reducible refine Block.when_keep _ _ _ ?_ (fun _ => ?_) | with_reducible apply Block.frcAck_keep K | dsimp only | intro _)

theorem Block.pairSilent_keep (K : KeptBySet Q) (b : Block) (hb : Q b.regs) : Q (Block.pairSilent b).regs := by
  unfold Block.pairSilent
  repeat' (first | with_reducible assumption | with_reducible apply Block.fset_keep K | with_reducible apply Block.olcPairLost_keep K | with_reducible apply Block.frcAlone_keep K | with_reducible refine Block.when_keep _ _ _ ?_ (fun _ => ?_) | with_reducible apply Block.standbySilent_keep K | with_reducible apply Block.presence_keep K | with_reducible apply Block.unsyncedLoss_keep K | dsimp only)

theorem Block.pairLinkDown_keep (K : KeptBySet Q) (b : Block) (hb : Q b.regs) : Q (Block.pairLinkDown b).regs := by
  unfold Block.pairLinkDown
  repeat' (first | with_reducible assumption | with_reducible apply Block.fset_keep K | with_reducible apply Block.raiseEvt_keep K | with_reducible apply Block.pairSilent_keep K | with_reducible refine ite_keep ?_ ?_ | dsimp only)

theorem Block.departureRx_keep (K : KeptBySet Q) (b : Block) (hb : Q b.regs) : Q (Block.departureRx b).regs := by
  unfold Block.departureRx
  repeat' (first | with_reducible assumption | with_reducible apply Block.raiseEvt_keep K | with_reducible apply Block.unsyncedLoss_keep K | with_reducible refine ite_keep ?_ ?_ | dsimp only)

theorem Block.steer0_keep (K : KeptBySet Q) (b : Block) (h : PairBeat) (hb : Q b.regs) : Q (Block.steer0 b h).regs := by
  unfold Block.steer0
  repeat' (first | with_reducible assumption | with_reducible apply Block.setRegN_keep K | with_reducible refine ite_keep ?_ ?_ | dsimp only)

theorem Block.steer1_keep (K : KeptBySet Q) (b : Block) (h : PairBeat) (hb : Q b.regs) : Q (Block.steer1 b h).regs := by
  unfold Block.steer1
  repeat' (first | with_reducible assumption | with_reducible refine ite_keep ?_ ?_ | dsimp only)

theorem Block.joinAnswer_keep (K : KeptBySet Q) (b : Block) (h : PairBeat) (hb : Q b.regs) : Q (Block.joinAnswer b h).regs := by
  unfold Block.joinAnswer
  repeat' (first | with_reducible assumption | with_reducible apply Block.joinAs_keep K | with_reducible apply Block.finishStart_keep K | with_reducible apply Block.bePrimary_keep K | with_reducible refine ite_keep ?_ ?_ | dsimp only)

theorem Block.partnerLeads_keep (K : KeptBySet Q) (b : Block) (role : Nat) (departing : Bool) (hb : Q b.regs) : Q (Block.partnerLeads b role departing).regs := by
  unfold Block.partnerLeads
  repeat' (first | with_reducible assumption | with_reducible refine Block.when_keep _ _ _ ?_ (fun _ => ?_) | dsimp only | intro _)

theorem Block.rejoin_keep (K : KeptBySet Q) (b : Block) (hb : Q b.regs) : Q (Block.rejoin b).regs := by
  unfold Block.rejoin
  repeat' (first | with_reducible assumption | with_reducible refine Block.when_keep _ _ _ ?_ (fun _ => ?_) | with_reducible apply Block.joinAs_keep K | with_reducible refine ite_keep ?_ ?_ | dsimp only | intro _)

theorem Block.standbyBeat_keep (K : KeptBySet Q) (b : Block) (was changed : Bool) (hb : Q b.regs) : Q (Block.standbyBeat b was changed).regs := by
  unfold Block.standbyBeat
  repeat' (first | with_reducible assumption | with_reducible refine Block.when_keep _ _ _ ?_ (fun _ => ?_) | with_reducible apply Block.joinAborted_keep K | with_reducible apply Block.rejoin_keep K | dsimp only)

theorem Block.epochDown_keep (K : KeptBySet Q) (b : Block) (hb : Q b.regs) : Q (Block.epochDown b).regs := by
  unfold Block.epochDown
  repeat' (first | with_reducible assumption | with_reducible apply Block.setClaim_keep K | dsimp only)

theorem Block.lowerEpoch_keep (K : KeptBySet Q) (b : Block) (hb : Q b.regs) : Q (Block.lowerEpoch b).regs := by
  unfold Block.lowerEpoch
  repeat' (first | with_reducible assumption | with_reducible apply Block.toPartner_keep K | with_reducible apply Block.epochDown_keep K | with_reducible refine Block.when_keep _ _ _ ?_ (fun _ => ?_) | with_reducible refine ite_keep ?_ ?_ | dsimp only)

theorem Block.roundOpen_keep (K : KeptBySet Q) (b : Block) (hb : Q b.regs) : Q (Block.roundOpen b).regs := by
  unfold Block.roundOpen
  repeat' (first | with_reducible assumption | dsimp only)

theorem Block.sendClaim_keep (K : KeptBySet Q) (b : Block) (hb : Q b.regs) : Q (Block.sendClaim b).regs := by
  unfold Block.sendClaim
  repeat' (first | with_reducible assumption | with_reducible apply Block.send_keep K | dsimp only)

theorem Block.roundBegin_keep (K : KeptBySet Q) (b : Block) (alone : Bool) (hb : Q b.regs) : Q (Block.roundBegin b alone).regs := by
  unfold Block.roundBegin
  repeat' (first | with_reducible assumption | with_reducible apply Block.redRefresh_keep K | with_reducible apply Block.lowFollow_keep K | with_reducible apply Block.lowerEpoch_keep K | with_reducible apply Block.roundOpen_keep K | with_reducible apply Block.fsetB_keep K | with_reducible apply Block.sendClaim_keep K | dsimp only)

theorem Block.demote_keep (K : KeptBySet Q) (b : Block) (sync : Nat) (hb : Q b.regs) : Q (Block.demote b sync).regs := by
  unfold Block.demote
  repeat' (first | with_reducible assumption | with_reducible apply Block.incSat_keep K | with_reducible apply Block.raiseEvt_keep K | with_reducible apply Block.setWon_keep K | with_reducible apply Block.setRole_keep K | with_reducible apply Block.resyncFrom_keep K | dsimp only)

theorem Block.wireJudge_keep (K : KeptBySet Q) (b : Block) (fault : Bool) (hb : Q b.regs) : Q (Block.wireJudge b fault).regs := by
  unfold Block.wireJudge
  repeat' (first | with_reducible assumption | with_reducible apply Block.fset_keep K | with_reducible apply Block.incSat_keep K | with_reducible apply Block.event_keep K | with_reducible refine Block.when_keep _ _ _ ?_ (fun _ => ?_) | with_reducible refine ite_keep ?_ ?_ | dsimp only | intro _)

theorem Block.takeOver_keep (K : KeptBySet Q) (b : Block) (atOnce : Bool) (hb : Q b.regs) : Q (Block.takeOver b atOnce).regs := by
  unfold Block.takeOver
  extract_lets b1 b2 b3 b4 b5 b6
  have h3 : Q b3.regs := Block.bePrimary_keep K _ _ (Block.frcAlone_keep K _ (Block.olcPairLost_keep K _ hb))
  have h5 : Q b5.regs := Block.raiseEvt_keep K _ _ _ (Block.incSat_keep K _ _ (Block.stamp_keep K _ _ _ h3))
  exact Block.roundBegin_keep K _ _ (Block.when_keep_eq rfl h5 fun h => Block.setWon_keep K _ _ h)

theorem Block.redDone_keep (K : KeptBySet Q) (b : Block) (code : Nat) (hb : Q b.regs) : Q (Block.redDone b code).regs := by
  unfold Block.redDone
  repeat' (first | with_reducible assumption | with_reducible apply Block.fset_keep K | with_reducible apply Block.raiseEvt_keep K | dsimp only)

theorem Block.restartAll_keep (K : KeptBySet Q) (b : Block) (hb : Q b.regs) : Q (Block.restartAll b).regs := by
  unfold Block.restartAll
  repeat' (first | with_reducible assumption | with_reducible refine Block.forAll_keep _ _ _ ?_ (fun _ _ _ => ?_) | with_reducible apply Block.abandon_keep K | with_reducible apply Block.atBoundary_keep K | with_reducible apply Block.reloadCtx_keep K | with_reducible apply Block.startTriggers_keep K | dsimp only | intro _)

theorem Block.redCommand_keep (K : KeptBySet Q) (b : Block) (v : Nat) (hb : Q b.regs) : Q (Block.redCommand b v).regs := by
  unfold Block.redCommand
  repeat' (first | with_reducible assumption | with_reducible apply Block.fset_keep K | with_reducible apply Block.redDone_keep K | with_reducible apply Block.depart_keep K | with_reducible apply Block.restartAll_keep K | with_reducible apply Block.takeOver_keep K | with_reducible apply Block.resyncStart_keep K | with_reducible refine ite_keep ?_ ?_ | split | dsimp only | with_reducible refine pair_keep (by with_reducible assumption) ?_ | with_reducible refine pair_keep' (by with_reducible assumption) ?_)

theorem Block.redCmdWrite_keep (K : KeptBySet Q) (b : Block) (r : Requester) (v : Nat) (hb : Q b.regs) : Q (Block.redCmdWrite b r v).regs := by
  unfold Block.redCmdWrite
  repeat' (first | with_reducible assumption | with_reducible apply Block.cmdWrite_keep K | with_reducible apply Block.redCommand_keep K | dsimp only | intro _)

theorem Block.pairEnterRun_keep (K : KeptBySet Q) (b : Block) (hb : Q b.regs) : Q (Block.pairEnterRun b).regs := by
  unfold Block.pairEnterRun
  repeat' (first | with_reducible assumption | with_reducible apply Block.joinAs_keep K | with_reducible apply Block.bePrimary_keep K | with_reducible refine ite_keep ?_ ?_ | dsimp only)

theorem Block.joinCopied_keep (K : KeptBySet Q) (b : Block) (c : Nat) (hb : Q b.regs) : Q (Block.joinCopied b c).regs := by
  unfold Block.joinCopied
  repeat' (first | with_reducible assumption | dsimp only)

theorem Block.joinPatCopied_keep (K : KeptBySet Q) (b : Block) (l : Nat) (hb : Q b.regs) : Q (Block.joinPatCopied b l).regs := by
  unfold Block.joinPatCopied
  repeat' (first | with_reducible assumption | dsimp only)

theorem Block.joinRevive_keep (K : KeptBySet Q) (b : Block) (c : Nat) (hb : Q b.regs) : Q (Block.joinRevive b c).regs := by
  unfold Block.joinRevive
  repeat' (first | with_reducible assumption | with_reducible apply Block.fset_keep K | with_reducible apply Block.setCtxState_keep K | with_reducible apply Block.aimCtx_keep K | with_reducible refine ite_keep ?_ ?_ | dsimp only)

theorem Block.joinContext_keep (K : KeptBySet Q) (b : Block) (c : Nat) (slots : List Word) (flags : Nat) (own : List (Nat × Nat)) (stopped : Bool) (why : Nat) (hb : Q b.regs) : Q (Block.joinContext b c slots flags own stopped why).regs := by
  unfold Block.joinContext
  repeat' (first | with_reducible assumption | with_reducible apply Block.modCx_keep K | with_reducible apply Block.stopCtx_keep K | with_reducible apply Block.joinRevive_keep K | with_reducible apply Block.joinCopied_keep K | with_reducible refine ite_keep ?_ ?_ | dsimp only | intro _)

theorem Block.joinValues_keep (K : KeptBySet Q) (b : Block) (k : Nat) (q : JoinPat) (hb : Q b.regs) : Q (Block.joinValues b k q).regs := by
  unfold Block.joinValues
  repeat' (first | with_reducible assumption | with_reducible apply Block.setPat_keep K | split | dsimp only | with_reducible refine pair_keep (by with_reducible assumption) ?_ | with_reducible refine pair_keep' (by with_reducible assumption) ?_)

theorem Block.joinPattern_keep (K : KeptBySet Q) (b : Block) (l : Nat) (q : JoinPat) (hb : Q b.regs) : Q (Block.joinPattern b l q).regs := by
  unfold Block.joinPattern
  repeat' (first | with_reducible assumption | with_reducible apply Block.joinValues_keep K | with_reducible apply Block.setReg_keep K | with_reducible apply Block.joinPatCopied_keep K | split | dsimp only | with_reducible refine pair_keep (by with_reducible assumption) ?_ | with_reducible refine pair_keep' (by with_reducible assumption) ?_)

theorem Block.joinForces_keep (K : KeptBySet Q) (b : Block) (table : List (Nat × FrcEntry)) (hb : Q b.regs) : Q (Block.joinForces b table).regs := by
  unfold Block.joinForces
  repeat' (first | with_reducible assumption | with_reducible apply Block.frcShow_keep K | with_reducible apply Block.celRequest_keep K | dsimp only)

theorem Block.joinTake_keep (K : KeptBySet Q) (b : Block) (i : JoinItem) (hb : Q b.regs) : Q (Block.joinTake b i).regs := by
  unfold Block.joinTake
  repeat' (first | with_reducible assumption | with_reducible apply Block.joinContext_keep K | with_reducible apply Block.joinPattern_keep K | with_reducible apply Block.joinForces_keep K | with_reducible apply Block.setHartItem_keep K | split | dsimp only | with_reducible refine pair_keep (by with_reducible assumption) ?_ | with_reducible refine pair_keep' (by with_reducible assumption) ?_ | intro _)

theorem Block.pairResult_keep (K : KeptBySet Q) (b : Block) (slot status iters bound : Nat) (x : List Nat) (hb : Q b.regs) : Q (Block.pairResult b slot status iters bound x).regs := by
  unfold Block.pairResult
  repeat' (first | with_reducible assumption | with_reducible apply Block.solPublish_keep K | with_reducible apply Block.solLeave_keep K | with_reducible apply Block.solClose_keep K | with_reducible apply Block.solShow_keep K | split | dsimp only | with_reducible refine pair_keep (by with_reducible assumption) ?_ | with_reducible refine pair_keep' (by with_reducible assumption) ?_ | intro _)

theorem Block.jobModeSet_keep (K : KeptBySet Q) (b : Block) (c : Nat) (mode : Option Bool) (hb : Q b.regs) : Q (Block.jobModeSet b c mode).regs := by
  unfold Block.jobModeSet
  repeat' (first | with_reducible assumption | with_reducible refine ite_keep ?_ ?_ | split | dsimp only | with_reducible refine pair_keep (by with_reducible assumption) ?_ | with_reducible refine pair_keep' (by with_reducible assumption) ?_ | intro _)

theorem Block.pairForce_keep (K : KeptBySet Q) (b : Block) (cmd vid tag value level time at_ : Nat) (hb : Q b.regs) : Q (Block.pairForce b cmd vid tag value level time at_).regs := by
  unfold Block.pairForce
  repeat' (first | with_reducible assumption | with_reducible apply Block.celRequest_keep K | with_reducible apply Block.frcDue_keep K | dsimp only)

theorem Block.pairPackage_keep (K : KeptBySet Q) (b : Block) (w : List Nat) (hb : Q b.regs) : Q (Block.pairPackage b w).regs := by
  unfold Block.pairPackage
  repeat' (first | with_reducible assumption | with_reducible apply Block.dropStaged_keep K | with_reducible apply Block.setRegN_keep K | with_reducible apply Block.fset_keep K | with_reducible apply Block.olcVerified_keep K | dsimp only)

theorem Block.pairEnded_keep (K : KeptBySet Q) (b : Block) (refused : Bool) (hb : Q b.regs) : Q (Block.pairEnded b refused).regs := by
  unfold Block.pairEnded
  repeat' (first | with_reducible assumption | with_reducible refine Block.when_keep _ _ _ ?_ (fun _ => ?_) | with_reducible apply Block.olcDrop_keep K | with_reducible refine ite_keep ?_ ?_ | dsimp only | intro _)

theorem Block.markDemoted_keep (K : KeptBySet Q) (b : Block) (hb : Q b.regs) : Q (Block.markDemoted b).regs := by
  unfold Block.markDemoted
  repeat' (first | with_reducible assumption | dsimp only)

theorem Block.echoDemote_keep (K : KeptBySet Q) (b : Block) (hb : Q b.regs) : Q (Block.echoDemote b).regs := by
  unfold Block.echoDemote
  repeat' (first | with_reducible assumption | with_reducible apply Block.demote_keep K | with_reducible apply Block.markDemoted_keep K | with_reducible apply Block.recRegs_keep K | dsimp only)

theorem Block.echoForeign_keep (K : KeptBySet Q) (b : Block) (seg seq claim : Nat) (hb : Q b.regs) : Q (Block.echoForeign b seg seq claim).regs := by
  unfold Block.echoForeign
  repeat' (first | with_reducible assumption | with_reducible refine Block.when_keep _ _ _ ?_ (fun _ => ?_) | with_reducible apply Block.echoDemote_keep K | with_reducible refine ite_keep ?_ ?_ | dsimp only)

theorem Block.pairEcho_keep (K : KeptBySet Q) (b : Block) (seg seq claim : Nat) (hb : Q b.regs) : Q (Block.pairEcho b seg seq claim).regs := by
  unfold Block.pairEcho
  repeat' (first | with_reducible assumption | with_reducible refine Block.when_keep _ _ _ ?_ (fun _ => ?_) | with_reducible apply Block.echoForeign_keep K | with_reducible refine ite_keep ?_ ?_ | dsimp only | intro _)

theorem Block.labelShow_keep (K : KeptBySet Q) (b : Block) (hb : Q b.regs) : Q (Block.labelShow b).regs := by
  unfold Block.labelShow
  repeat' (first | with_reducible assumption | with_reducible apply Block.fset_keep K | with_reducible refine ite_keep ?_ ?_ | dsimp only | intro _)

theorem Block.labelUpdate_keep (K : KeptBySet Q) (b : Block) (r : Nat) (levels : List Nat) (hb : Q b.regs) : Q (Block.labelUpdate b r levels).regs := by
  unfold Block.labelUpdate
  repeat' (first | with_reducible assumption | with_reducible apply Block.setRegion_keep K | with_reducible apply Block.celRequest_keep K | with_reducible apply Block.labelShow_keep K | with_reducible refine Block.when_keep _ _ _ ?_ (fun _ => ?_) | with_reducible apply Block.raiseEvt_keep K | with_reducible refine ite_keep ?_ ?_ | dsimp only | intro _)

theorem Block.labelRecords_keep (K : KeptBySet Q) (b : Block) (r : Nat) (hb : Q b.regs) : Q (Block.labelRecords b r).regs := by
  unfold Block.labelRecords
  repeat' (first | with_reducible assumption | with_reducible apply Block.celRequest_keep K | dsimp only)

theorem Block.regionFrame_keep (K : KeptBySet Q) (b : Block) (r : Nat) (hb : Q b.regs) : Q (Block.regionFrame b r).regs := by
  unfold Block.regionFrame
  repeat' (first | with_reducible assumption | with_reducible refine Block.when_keep _ _ _ ?_ (fun _ => ?_) | with_reducible apply Block.send_keep K | with_reducible apply Block.setRegion_keep K | with_reducible apply Block.labelRecords_keep K | with_reducible apply Block.incWrap_keep K | with_reducible apply Block.raiseEvt_keep K | with_reducible refine ite_keep ?_ ?_ | dsimp only | intro _)

theorem Block.cleanBegin_keep (K : KeptBySet Q) (b : Block) (hb : Q b.regs) : Q (Block.cleanBegin b).regs := by
  unfold Block.cleanBegin
  repeat' (first | with_reducible assumption | with_reducible refine Block.forAll_keep _ _ _ ?_ (fun _ _ _ => ?_) | with_reducible apply Block.setRegion_keep K | with_reducible apply Block.fset_keep K | with_reducible apply Block.send_keep K | with_reducible apply Block.raiseEvt_keep K | dsimp only | intro _)

theorem Block.redrawAll_keep (K : KeptBySet Q) (b : Block) (hb : Q b.regs) : Q (Block.redrawAll b).regs := by
  unfold Block.redrawAll
  repeat' (first | with_reducible assumption | with_reducible refine Block.forAll_keep _ _ _ ?_ (fun _ _ _ => ?_) | with_reducible apply Block.labelUpdate_keep K | dsimp only | intro _)

theorem Block.cleanEnd_keep (K : KeptBySet Q) (b : Block) (hb : Q b.regs) : Q (Block.cleanEnd b).regs := by
  unfold Block.cleanEnd
  repeat' (first | with_reducible assumption | with_reducible apply Block.fset_keep K | with_reducible refine Block.forAll_keep _ _ _ ?_ (fun _ _ _ => ?_) | with_reducible apply Block.setRegion_keep K | with_reducible apply Block.celRequest_keep K | with_reducible apply Block.redrawAll_keep K | dsimp only | intro _)

theorem Block.labelCommand_keep (K : KeptBySet Q) (b : Block) (hb : Q b.regs) : Q (Block.labelCommand b).regs := by
  unfold Block.labelCommand
  repeat' (first | with_reducible assumption | with_reducible apply Block.raiseEvt_keep K | with_reducible apply Block.cleanBegin_keep K | with_reducible apply Block.redrawAll_keep K | with_reducible refine ite_keep ?_ ?_ | dsimp only | intro _)

theorem Block.dsbCommand_keep (K : KeptBySet Q) (b : Block) (v : Nat) (hb : Q b.regs) : Q (Block.dsbCommand b v).regs := by
  unfold Block.dsbCommand
  repeat' (first | with_reducible assumption | with_reducible apply Block.fset_keep K | with_reducible apply Block.raiseEvt_keep K | with_reducible refine ite_keep ?_ ?_ | dsimp only)

theorem Block.dsbCmdWrite_keep (K : KeptBySet Q) (b : Block) (r : Requester) (v : Nat) (hb : Q b.regs) : Q (Block.dsbCmdWrite b r v).regs := by
  unfold Block.dsbCmdWrite
  repeat' (first | with_reducible assumption | with_reducible apply Block.cmdWrite_keep K | with_reducible apply Block.dsbCommand_keep K | dsimp only | intro _)

theorem Block.recoverDrive_keep (K : KeptBySet Q) (b : Block) (lost : Bool) (r : Nat) (levels : List Nat) (hb : Q b.regs) : Q (Block.recoverDrive b lost r levels).regs := by
  unfold Block.recoverDrive
  repeat' (first | with_reducible assumption | with_reducible refine Block.when_keep _ _ _ ?_ (fun _ => ?_) | with_reducible apply Block.send_keep K | with_reducible refine ite_keep ?_ ?_ | dsimp only | intro _)

theorem Block.labelRecover_keep (K : KeptBySet Q) (b : Block) (lost : Bool) (hb : Q b.regs) : Q (Block.labelRecover b lost).regs := by
  unfold Block.labelRecover
  repeat' (first | with_reducible assumption | with_reducible refine Block.forAll_keep _ _ _ ?_ (fun _ _ _ => ?_) | with_reducible apply Block.recoverDrive_keep K | with_reducible apply Block.setRegion_keep K | with_reducible refine Block.when_keep _ _ _ ?_ (fun _ => ?_) | with_reducible apply Block.labelRecords_keep K | with_reducible apply Block.raiseEvt_keep K | with_reducible refine ite_keep ?_ ?_ | dsimp only | intro _)

theorem Block.markerDraw_keep (K : KeptBySet Q) (b : Block) (hb : Q b.regs) : Q (Block.markerDraw b).regs := by
  unfold Block.markerDraw
  repeat' (first | with_reducible assumption | with_reducible apply Block.labelUpdate_keep K | with_reducible refine ite_keep ?_ ?_ | dsimp only)

theorem Block.cpShow_keep (K : KeptBySet Q) (b : Block) (cp mv : Nat) (hb : Q b.regs) : Q (Block.cpShow b cp mv).regs := by
  unfold Block.cpShow
  repeat' (first | with_reducible assumption | with_reducible apply Block.fsetB_keep K | with_reducible apply Block.fset_keep K | dsimp only)

theorem Block.cpSet_keep (K : KeptBySet Q) (b : Block) (cp mv : Nat) (ok : Bool) (hb : Q b.regs) : Q (Block.cpSet b cp mv ok).regs := by
  unfold Block.cpSet
  repeat' (first | with_reducible assumption | with_reducible apply Block.cpShow_keep K | dsimp only)

theorem Block.cpReport_keep (K : KeptBySet Q) (b : Block) (evt : Nat) (hb : Q b.regs) : Q (Block.cpReport b evt).regs := by
  unfold Block.cpReport
  repeat' (first | with_reducible assumption | with_reducible refine Block.when_keep _ _ _ ?_ (fun _ => ?_) | with_reducible apply Block.event_keep K | dsimp only | intro _)

theorem Block.cpLost_keep (K : KeptBySet Q) (b : Block) (cp mv : Nat) (hb : Q b.regs) : Q (Block.cpLost b cp mv).regs := by
  unfold Block.cpLost
  repeat' (first | with_reducible assumption | with_reducible apply Block.cpSet_keep K | with_reducible refine Block.when_keep _ _ _ ?_ (fun _ => ?_) | with_reducible apply Block.cpReport_keep K | dsimp only | intro _)

theorem Block.cpReturn_keep (K : KeptBySet Q) (b : Block) (cp mv : Nat) (hb : Q b.regs) : Q (Block.cpReturn b cp mv).regs := by
  unfold Block.cpReturn
  repeat' (first | with_reducible assumption | with_reducible apply Block.cpSet_keep K | with_reducible refine Block.when_keep _ _ _ ?_ (fun _ => ?_) | with_reducible apply Block.cpReport_keep K | dsimp only | intro _)

theorem Block.qualify_keep (K : KeptBySet Q) (b : Block) (hb : Q b.regs) : Q (Block.qualify b).regs := by
  unfold Block.qualify
  repeat' (first | with_reducible assumption | with_reducible refine ite_keep ?_ ?_ | dsimp only)

theorem Block.islPowerDown_keep (K : KeptBySet Q) (b : Block) (hb : Q b.regs) : Q (Block.islPowerDown b).regs := by
  unfold Block.islPowerDown
  repeat' (first | with_reducible assumption | with_reducible apply Block.islShow_keep K | with_reducible apply Block.islEnter_keep K | with_reducible refine ite_keep ?_ ?_ | dsimp only)

theorem Block.unpower_keep (K : KeptBySet Q) (b : Block) (hb : Q b.regs) : Q (Block.unpower b).regs :=
  keep_down _ _ _ _ hb

theorem Block.sfpShow_keep (K : KeptBySet Q) (b : Block) (hb : Q b.regs) : Q (Block.sfpShow b).regs := by
  unfold Block.sfpShow
  repeat' (first | with_reducible assumption | with_reducible apply Block.fsetB_keep K | dsimp only)

theorem Block.vinShow_keep (K : KeptBySet Q) (b : Block) (hb : Q b.regs) : Q (Block.vinShow b).regs := by
  unfold Block.vinShow
  repeat' (first | with_reducible assumption | with_reducible apply Block.setRegN_keep K | dsimp only)

theorem Block.caskShow_keep (K : KeptBySet Q) (b : Block) (hb : Q b.regs) : Q (Block.caskShow b).regs := by
  unfold Block.caskShow
  repeat' (first | with_reducible assumption | with_reducible apply Block.fset_keep K | with_reducible apply Block.setRegN_keep K | dsimp only | intro _)

theorem Block.caskIn_keep (K : KeptBySet Q) (b : Block) (st : Nat) (hb : Q b.regs) : Q (Block.caskIn b st).regs := by
  unfold Block.caskIn
  repeat' (first | with_reducible assumption | with_reducible apply Block.fset_keep K | with_reducible apply Block.caskShow_keep K | with_reducible apply Block.celRequest_keep K | dsimp only)

theorem Block.caskEmpty_keep (K : KeptBySet Q) (b : Block) (hb : Q b.regs) : Q (Block.caskEmpty b).regs := by
  unfold Block.caskEmpty
  repeat' (first | with_reducible assumption | with_reducible apply Block.fset_keep K | with_reducible apply Block.caskIn_keep K | dsimp only)

theorem Block.caskInvalid_keep (K : KeptBySet Q) (b : Block) (code : Nat) (hb : Q b.regs) : Q (Block.caskInvalid b code).regs := by
  unfold Block.caskInvalid
  repeat' (first | with_reducible assumption | with_reducible apply Block.caskIn_keep K | with_reducible apply Block.fset_keep K | dsimp only)

theorem Block.updDone_keep (K : KeptBySet Q) (b : Block) (code : Nat) (hb : Q b.regs) : Q (Block.updDone b code).regs := by
  unfold Block.updDone
  repeat' (first | with_reducible assumption | with_reducible apply Block.fset_keep K | with_reducible apply Block.raiseEvt_keep K | dsimp only)

theorem Block.revertTo_keep (K : KeptBySet Q) (b : Block) (v : Vintage) (kind : Nat) (hb : Q b.regs) : Q (Block.revertTo b v kind).regs := by
  unfold Block.revertTo
  repeat' (first | with_reducible assumption | with_reducible apply Block.fsetB_keep K | with_reducible apply Block.caskIn_keep K | with_reducible apply Block.raiseEvt_keep K | dsimp only)

theorem Block.updCommand_keep (K : KeptBySet Q) (b : Block) (v : Nat) (hb : Q b.regs) : Q (Block.updCommand b v).regs := by
  unfold Block.updCommand
  repeat' (first | with_reducible assumption | with_reducible apply Block.fset_keep K | with_reducible apply Block.updDone_keep K | with_reducible apply Block.fsetB_keep K | with_reducible apply Block.caskIn_keep K | with_reducible apply Block.raiseEvt_keep K | with_reducible apply Block.endTransfer_keep K | with_reducible apply Block.caskEmpty_keep K | with_reducible apply Block.revertTo_keep K | with_reducible refine ite_keep ?_ ?_ | split | dsimp only | with_reducible refine pair_keep (by with_reducible assumption) ?_ | with_reducible refine pair_keep' (by with_reducible assumption) ?_)

theorem Block.updCmdWrite_keep (K : KeptBySet Q) (b : Block) (r : Requester) (v : Nat) (hb : Q b.regs) : Q (Block.updCmdWrite b r v).regs := by
  unfold Block.updCmdWrite
  repeat' (first | with_reducible assumption | with_reducible apply Block.cmdWrite_keep K | with_reducible apply Block.updCommand_keep K | dsimp only | intro _)

theorem Block.rackAbandon_keep (K : KeptBySet Q) (b : Block) (kind phase seg : Nat) (hb : Q b.regs) : Q (Block.rackAbandon b kind phase seg).regs := by
  unfold Block.rackAbandon
  repeat' (first | with_reducible assumption | with_reducible apply Block.fset_keep K | with_reducible apply Block.caskInvalid_keep K | with_reducible apply Block.celRequest_keep K | with_reducible apply Block.event_keep K | with_reducible refine ite_keep ?_ ?_ | dsimp only)

theorem Block.rackHalt_keep (K : KeptBySet Q) (b : Block) (kind phase seg : Nat) (hb : Q b.regs) : Q (Block.rackHalt b kind phase seg).regs := by
  unfold Block.rackHalt
  repeat' (first | with_reducible assumption | with_reducible apply Block.fset_keep K | with_reducible apply Block.celRequest_keep K | with_reducible refine ite_keep ?_ ?_ | dsimp only)

theorem Block.rackFirmware_keep (K : KeptBySet Q) (b : Block) (m : Manifest) (payload : List Nat) (hb : Q b.regs) : Q (Block.rackFirmware b m payload).regs := by
  unfold Block.rackFirmware
  repeat' (first | with_reducible assumption | with_reducible apply Block.setRegN_keep K | with_reducible apply Block.fset_keep K | with_reducible refine Block.when_keep _ _ _ ?_ (fun _ => ?_) | with_reducible apply Block.raiseEvt_keep K | with_reducible refine ite_keep ?_ ?_ | dsimp only | intro _)

theorem Block.rackApplication_keep (K : KeptBySet Q) (b : Block) (m : Manifest) (payload : List Nat) (hb : Q b.regs) : Q (Block.rackApplication b m payload).regs := by
  unfold Block.rackApplication
  repeat' (first | with_reducible assumption | dsimp only)

theorem Block.rack_keep (K : KeptBySet Q) (b : Block) (stop : Option (Fin 4 × Nat)) (hb : Q b.regs) : Q (Block.rack b stop).regs := by
  unfold Block.rack
  repeat' (first | with_reducible assumption | with_reducible apply Block.rackAbandon_keep K | with_reducible apply Block.rackFirmware_keep K | with_reducible apply Block.rackApplication_keep K | with_reducible apply Block.setRegN_keep K | with_reducible apply Block.celRequest_keep K | with_reducible apply Block.event_keep K | with_reducible apply Block.caskEmpty_keep K | with_reducible apply Block.vinShow_keep K | with_reducible refine ite_keep ?_ ?_ | split | dsimp only | with_reducible refine pair_keep (by with_reducible assumption) ?_ | with_reducible refine pair_keep' (by with_reducible assumption) ?_)

theorem Block.loadP_keep (K : KeptBySet Q) (b : Block) (off v : Nat) (hb : Q b.regs) : Q (Block.loadP b off v).regs := by
  unfold Block.loadP
  repeat' (first | with_reducible assumption | with_reducible apply Block.setRegN_keep K | with_reducible refine ite_keep ?_ ?_ | split | dsimp only | with_reducible refine pair_keep (by with_reducible assumption) ?_ | with_reducible refine pair_keep' (by with_reducible assumption) ?_ | intro _)

theorem Block.startRegs_keep (K : KeptBySet Q) (b : Block) (restart : Bool) (i : StartIn) : Q (Block.startRegs b restart i).regs := by
  unfold Block.startRegs
  extract_lets valid optime regs b1 b2 b3
  have h0 : Q regs := by
    have key : ∀ (l m : List (Nat × Word)), Q m →
        Q (l.foldl (fun m (e : Nat × Word) => storeSet (regReset e.1) m e.1 (BitVec.ofNat 32 (startWord restart e.1 e.2.toNat))) m) := by
      intro l
      induction l with
      | nil => intro m h; exact h
      | cons x l ih => intro m h; exact ih _ (K.set _ _ _ h)
    exact key _ _ K.nil
  have h1 : Q b1.regs := Block.setPair_keep K _ _ _ (Block.fset_keep K _ _ _ h0)
  have h2 : Q b2.regs := Block.when_keep _ _ _ h1 fun h => Block.fset_keep K _ _ _ h
  have h3 : Q b3.regs := Block.fsetB_keep K _ _ _ h2
  exact Block.forAll_keep _ _ _ h3 fun b e h => ite_keep h (Block.loadP_keep K _ _ _ h)

theorem Block.freshen_keep (K : KeptBySet Q) (b : Block) (restart : Bool) (hb : Q b.regs) : Q (Block.freshen b restart).regs := by
  unfold Block.freshen
  repeat' (first | with_reducible assumption | with_reducible refine ite_keep ?_ ?_ | dsimp only)

theorem Block.powerGood_keep (K : KeptBySet Q) (b : Block) (unitSel : Nat) (hb : Q b.regs) : Q (Block.powerGood b unitSel).regs := by
  unfold Block.powerGood
  repeat' (first | with_reducible assumption | with_reducible apply Block.sfpShow_keep K | with_reducible apply Block.setNow_keep K | with_reducible apply Block.fset_keep K | with_reducible apply Block.setPair_keep K | dsimp only)

theorem Block.countStart_keep (K : KeptBySet Q) (b : Block) (hb : Q b.regs) : Q (Block.countStart b).regs := by
  unfold Block.countStart
  repeat' (first | with_reducible assumption | with_reducible apply Block.incWrap_keep K | with_reducible apply Block.celRequest_keep K | with_reducible apply Block.fset_keep K | with_reducible apply Block.fsetB_keep K | dsimp only)

theorem Block.bootFallback_keep (K : KeptBySet Q) (b : Block) (hb : Q b.regs) : Q (Block.bootFallback b).regs := by
  unfold Block.bootFallback
  repeat' (first | with_reducible assumption | with_reducible apply Block.fset_keep K | with_reducible apply Block.raiseEvt_keep K | dsimp only)

theorem Block.areaState_keep (K : KeptBySet Q) (b : Block) (k : Nat) (bad : Bool) (hb : Q b.regs) : Q (Block.areaState b k bad).regs := by
  unfold Block.areaState
  repeat' (first | with_reducible assumption | with_reducible apply Block.fset_keep K | with_reducible refine ite_keep ?_ ?_ | dsimp only)

theorem Block.boot_keep (K : KeptBySet Q) (b : Block) (i : StartIn) (hb : Q b.regs) : Q (Block.boot b i).regs := by
  unfold Block.boot
  repeat' (first | with_reducible assumption | with_reducible apply Block.fset_keep K | with_reducible apply Block.bootFallback_keep K | with_reducible apply Block.event_keep K | with_reducible refine Block.when_keep _ _ _ ?_ (fun _ => ?_) | with_reducible apply Block.areaState_keep K | with_reducible refine ite_keep ?_ ?_ | dsimp only | intro _)

theorem Block.startRack_keep (K : KeptBySet Q) (b : Block) (i : StartIn) (hb : Q b.regs) : Q (Block.startRack b i).regs := by
  unfold Block.startRack
  repeat' (first | with_reducible assumption | with_reducible refine Block.when_keep _ _ _ ?_ (fun _ => ?_) | with_reducible apply Block.fset_keep K | with_reducible apply Block.rack_keep K | with_reducible apply Block.vinShow_keep K | with_reducible apply Block.bootFallback_keep K | with_reducible refine ite_keep ?_ ?_ | dsimp only | intro _)

theorem Block.startEngine_keep (K : KeptBySet Q) (b : Block) (n fail : Nat) (hb : Q b.regs) : Q (Block.startEngine b n fail).regs := by
  unfold Block.startEngine
  repeat' (first | with_reducible assumption | with_reducible apply Block.fset_keep K | with_reducible apply Block.raiseEvt_keep K | with_reducible apply Block.setAvail_keep K | with_reducible apply Block.modEng_keep K | with_reducible refine ite_keep ?_ ?_ | dsimp only | intro _)

theorem Block.startSolver_keep (K : KeptBySet Q) (b : Block) (i : StartIn) (hb : Q b.regs) : Q (Block.startSolver b i).regs := by
  unfold Block.startSolver
  repeat' (first | with_reducible assumption | with_reducible apply Block.fset_keep K | with_reducible apply Block.fsetB_keep K | with_reducible apply Block.solFail_keep K | with_reducible refine Block.when_keep _ _ _ ?_ (fun _ => ?_) | with_reducible apply Block.raiseEvt_keep K | with_reducible apply Block.solShow_keep K | with_reducible apply Block.solStoreShow_keep K | with_reducible refine ite_keep ?_ ?_ | dsimp only | intro _)

theorem Block.areaUsed_keep (K : KeptBySet Q) (b : Block) (k : Nat) (hb : Q b.regs) : Q (Block.areaUsed b k).regs := by
  unfold Block.areaUsed
  repeat' (first | with_reducible assumption | with_reducible apply Block.free_keep K | with_reducible apply Block.fset_keep K | split | dsimp only | with_reducible refine pair_keep (by with_reducible assumption) ?_ | with_reducible refine pair_keep' (by with_reducible assumption) ?_)

theorem Block.startCellar_keep (K : KeptBySet Q) (b : Block) (i : StartIn) (hb : Q b.regs) : Q (Block.startCellar b i).regs := by
  unfold Block.startCellar
  repeat' (first | with_reducible assumption | with_reducible apply Block.fset_keep K | with_reducible refine Block.when_keep _ _ _ ?_ (fun _ => ?_) | with_reducible apply Block.raiseEvt_keep K | with_reducible apply Block.fsetB_keep K | with_reducible refine Block.forAll_keep _ _ _ ?_ (fun _ _ _ => ?_) | with_reducible apply Block.areaUsed_keep K | dsimp only | intro _)

theorem Block.startTests_keep (K : KeptBySet Q) (b : Block) (i : StartIn) (hb : Q b.regs) : Q (Block.startTests b i).regs := by
  unfold Block.startTests
  repeat' (first | with_reducible assumption | with_reducible apply Block.fset_keep K | with_reducible refine Block.forAll_keep _ _ _ ?_ (fun _ _ _ => ?_) | with_reducible apply Block.startEngine_keep K | with_reducible apply Block.engCount_keep K | with_reducible apply Block.startSolver_keep K | with_reducible apply Block.startCellar_keep K | with_reducible apply Block.modemFail_keep K | with_reducible apply Block.modChan_keep K | with_reducible apply Block.raiseEvt_keep K | split | dsimp only | with_reducible refine pair_keep (by with_reducible assumption) ?_ | with_reducible refine pair_keep' (by with_reducible assumption) ?_ | intro _)

theorem Block.startLost_keep (K : KeptBySet Q) (b : Block) (i : StartIn) (hb : Q b.regs) : Q (Block.startLost b i).regs := by
  unfold Block.startLost
  repeat' (first | with_reducible assumption | with_reducible refine Block.forAll_keep _ _ _ ?_ (fun _ _ _ => ?_) | with_reducible apply Block.setRegN_keep K | with_reducible apply Block.fset_keep K | with_reducible apply Block.recRegs_keep K | with_reducible apply Block.lockout_keep K | split | dsimp only | with_reducible refine pair_keep (by with_reducible assumption) ?_ | with_reducible refine pair_keep' (by with_reducible assumption) ?_ | intro _)

theorem Block.islTested_keep (K : KeptBySet Q) (b : Block) (passed : Bool) (hb : Q b.regs) : Q (Block.islTested b passed).regs := by
  unfold Block.islTested
  repeat' (first | with_reducible assumption | with_reducible apply Block.fset_keep K | with_reducible apply Block.raiseEvt_keep K | with_reducible apply Block.free_keep K | with_reducible refine ite_keep ?_ ?_ | split | dsimp only | with_reducible refine pair_keep (by with_reducible assumption) ?_ | with_reducible refine pair_keep' (by with_reducible assumption) ?_)

theorem Block.startIsland_keep (K : KeptBySet Q) (b : Block) (cause : Nat) (hb : Q b.regs) : Q (Block.startIsland b cause).regs := by
  unfold Block.startIsland
  repeat' (first | with_reducible assumption | with_reducible apply Block.fset_keep K | with_reducible apply Block.fsetB_keep K | with_reducible apply Block.islTested_keep K | with_reducible apply Block.lockout_keep K | with_reducible refine ite_keep ?_ ?_ | dsimp only)

theorem Block.startConflicts_keep (K : KeptBySet Q) (b : Block) (p : Prog) (hb : Q b.regs) : Q (Block.startConflicts b p).regs := by
  unfold Block.startConflicts
  repeat' (first | with_reducible assumption | with_reducible refine Block.when_keep _ _ _ ?_ (fun _ => ?_) | with_reducible apply Block.fset_keep K | with_reducible apply Block.celRequest_keep K | with_reducible apply Block.recRegs_keep K | dsimp only | intro _)

theorem Block.startRefused_keep (K : KeptBySet Q) (b : Block) (hb : Q b.regs) : Q (Block.startRefused b).regs := by
  unfold Block.startRefused
  repeat' (first | with_reducible assumption | with_reducible refine Block.forAll_keep _ _ _ ?_ (fun _ _ _ => ?_) | with_reducible apply Block.unloadCtx_keep K | with_reducible apply Block.showOwners_keep K | with_reducible apply Block.showDecl_keep K | with_reducible apply Block.solBind_keep K | with_reducible apply Block.clearOutputs_keep K | with_reducible apply Block.islTakeUp_keep K | with_reducible apply Block.lnkTakeUp_keep K | with_reducible apply Block.canTakeUp_keep K | with_reducible apply Block.credFollow_keep K | with_reducible apply Block.frcIdle_keep K | with_reducible apply Block.placeAll_keep K | dsimp only)

theorem Block.startApp_keep (K : KeptBySet Q) (b : Block) (v : Vintage) (hb : Q b.regs) : Q (Block.startApp b v).regs := by
  unfold Block.startApp
  repeat' (first | with_reducible assumption | with_reducible apply Block.startConflicts_keep K | with_reducible apply Block.loadRecord_keep K | with_reducible apply Block.startRefused_keep K | with_reducible apply Block.installProg_keep K | with_reducible apply Block.placeAll_keep K | with_reducible apply Block.frcLoad_keep K | with_reducible refine Block.forAll_keep _ _ _ ?_ (fun _ _ _ => ?_) | with_reducible apply Block.aimCtx_keep K | with_reducible apply Block.patLoad_keep K | split | dsimp only | with_reducible refine pair_keep (by with_reducible assumption) ?_ | with_reducible refine pair_keep' (by with_reducible assumption) ?_ | intro _)

theorem Block.startMarker_keep (K : KeptBySet Q) (b : Block) (hb : Q b.regs) : Q (Block.startMarker b).regs := by
  unfold Block.startMarker
  repeat' (first | with_reducible assumption | with_reducible apply Block.recRegs_keep K | split | dsimp only | with_reducible refine pair_keep (by with_reducible assumption) ?_ | with_reducible refine pair_keep' (by with_reducible assumption) ?_)

theorem Block.startTime_keep (K : KeptBySet Q) (b : Block) (restart : Bool) (hb : Q b.regs) : Q (Block.startTime b restart).regs := by
  unfold Block.startTime
  repeat' (first | with_reducible assumption | with_reducible apply Block.setRegN_keep K | with_reducible refine Block.when_keep _ _ _ ?_ (fun _ => ?_) | with_reducible apply Block.raiseEvt_keep K | with_reducible apply Block.setNow_keep K | split | dsimp only | with_reducible refine pair_keep (by with_reducible assumption) ?_ | with_reducible refine pair_keep' (by with_reducible assumption) ?_ | intro _)

theorem Block.startRecords_keep (K : KeptBySet Q) (b : Block) (restart : Bool) (hb : Q b.regs) : Q (Block.startRecords b restart).regs := by
  unfold Block.startRecords
  repeat' (first | with_reducible assumption | with_reducible apply Block.recAccept_keep K | with_reducible refine Block.when_keep _ _ _ ?_ (fun _ => ?_) | with_reducible apply Block.timeMark_keep K | dsimp only | intro _)

theorem Block.startTripped_keep (K : KeptBySet Q) (b : Block) (hb : Q b.regs) : Q (Block.startTripped b).regs := by
  unfold Block.startTripped
  repeat' (first | with_reducible assumption | with_reducible apply Block.fset_keep K | with_reducible apply Block.event_keep K | with_reducible refine ite_keep ?_ ?_ | dsimp only)

theorem Block.startBands_keep (K : KeptBySet Q) (b : Block) (hb : Q b.regs) : Q (Block.startBands b).regs := by
  unfold Block.startBands
  repeat' (first | with_reducible assumption | with_reducible refine Block.forAll_keep _ _ _ ?_ (fun _ _ _ => ?_) | with_reducible apply Block.fset_keep K | with_reducible refine ite_keep ?_ ?_ | dsimp only | intro _)

theorem Block.startSettings_keep (K : KeptBySet Q) (b : Block) (hb : Q b.regs) : Q (Block.startSettings b).regs := by
  unfold Block.startSettings
  repeat' (first | with_reducible assumption | with_reducible apply Block.ipTake_keep K | with_reducible apply Block.setRegN_keep K | with_reducible apply Block.fset_keep K | with_reducible apply Block.vinShow_keep K | with_reducible refine ite_keep ?_ ?_ | dsimp only)

theorem Block.startImage_keep (K : KeptBySet Q) (b : Block) (hb : Q b.regs) : Q (Block.startImage b).regs := by
  unfold Block.startImage
  repeat' (first | with_reducible assumption | with_reducible apply Block.startApp_keep K | with_reducible apply Block.startRefused_keep K | split | dsimp only | with_reducible refine pair_keep (by with_reducible assumption) ?_ | with_reducible refine pair_keep' (by with_reducible assumption) ?_)

theorem Block.startVersions_keep (K : KeptBySet Q) (b : Block) (hb : Q b.regs) : Q (Block.startVersions b).regs := by
  unfold Block.startVersions
  repeat' (first | with_reducible assumption | with_reducible apply Block.setRegN_keep K | dsimp only)

theorem Block.startLoad_keep (K : KeptBySet Q) (b : Block) (restart : Bool) (i : StartIn) (hb : Q b.regs) : Q (Block.startLoad b restart i).regs := by
  unfold Block.startLoad
  repeat' (first | with_reducible assumption | with_reducible apply Block.fset_keep K | with_reducible apply Block.startTripped_keep K | with_reducible apply Block.startBands_keep K | with_reducible apply Block.startLost_keep K | with_reducible apply Block.startIsland_keep K | with_reducible apply Block.startMarker_keep K | with_reducible apply Block.startSettings_keep K | with_reducible apply Block.startImage_keep K | with_reducible apply Block.hbFollow_keep K | with_reducible refine Block.forAll_keep _ _ _ ?_ (fun _ _ _ => ?_) | with_reducible apply Block.canTakeMode_keep K | with_reducible apply Block.startVersions_keep K | with_reducible apply Block.startTime_keep K | with_reducible apply Block.startRecords_keep K | dsimp only)

theorem Block.startChannels_keep (K : KeptBySet Q) (b : Block) (hb : Q b.regs) : Q (Block.startChannels b).regs := by
  unfold Block.startChannels
  repeat' (first | with_reducible assumption | with_reducible apply Block.fset_keep K | with_reducible refine Block.forAll_keep _ _ _ ?_ (fun _ _ _ => ?_) | with_reducible apply Block.fsetB_keep K | with_reducible apply Block.hartTakeUp_keep K | with_reducible apply Block.hartPool_keep K | with_reducible apply Block.chRefreshAll_keep K | dsimp only | intro _)

theorem Block.awaitJoin_keep (K : KeptBySet Q) (b : Block) (hb : Q b.regs) : Q (Block.awaitJoin b).regs := keep_red _ hb

theorem Block.startAs_keep (K : KeptBySet Q) (b : Block) (st cause : Nat) (hb : Q b.regs) : Q (Block.startAs b st cause).regs := by
  unfold Block.startAs
  repeat' (first | with_reducible assumption | with_reducible apply Block.setRole_keep K | with_reducible apply Block.awaitJoin_keep K | with_reducible apply Block.finishStart_keep K | with_reducible apply Block.setClaim_keep K | with_reducible refine ite_keep ?_ ?_ | dsimp only)

theorem Block.baseOut_keep (K : KeptBySet Q) (b : Block) (hb : Q b.regs) : Q (Block.baseOut b).regs := by
  unfold Block.baseOut
  refine Block.when_keep_eq rfl hb ?_
  intro h
  exact Block.setRole_keep K b roleOut h

theorem Block.startEnd_keep (K : KeptBySet Q) (b : Block) (i : StartIn) (hb : Q b.regs) : Q (Block.startEnd b i).regs := by
  unfold Block.startEnd
  repeat' (first | with_reducible assumption | with_reducible apply Block.fset_keep K | with_reducible apply Block.baseOut_keep K | with_reducible apply Block.changeState_keep K | with_reducible apply Block.startAs_keep K | with_reducible refine ite_keep ?_ ?_ | dsimp only)

theorem Block.recovery_keep (K : KeptBySet Q) (b : Block) (hb : Q b.regs) : Q (Block.recovery b).regs := by
  unfold Block.recovery
  repeat' (first | with_reducible assumption | with_reducible apply Block.ipTake_keep K | with_reducible apply Block.fset_keep K | with_reducible apply Block.baseOut_keep K | dsimp only)

theorem Block.startOn_keep (K : KeptBySet Q) (b : Block) (restart : Bool) (i : StartIn) (hb : Q b.regs) : Q (Block.startOn b restart i).regs := by
  unfold Block.startOn
  repeat' (first | with_reducible assumption | with_reducible apply Block.startTests_keep K | with_reducible apply Block.startLoad_keep K | with_reducible apply Block.markerDraw_keep K | with_reducible apply Block.startChannels_keep K | with_reducible apply Block.fset_keep K | with_reducible apply Block.startEnd_keep K | dsimp only)

theorem Block.startFrom_keep (K : KeptBySet Q) (b : Block) (restart : Bool) (i : StartIn) (marked : Bool) (hb : Q b.regs) : Q (Block.startFrom b restart i marked).regs := by
  unfold Block.startFrom
  repeat' (first | with_reducible assumption | with_reducible apply Block.startOn_keep K | with_reducible apply Block.recovery_keep K | with_reducible refine ite_keep ?_ ?_ | dsimp only)

theorem Block.startSteps_keep (K : KeptBySet Q) (b : Block) (restart : Bool) (i : StartIn) (hb : Q b.regs) : Q (Block.startSteps b restart i).regs := by
  unfold Block.startSteps
  repeat' (first | with_reducible assumption | with_reducible apply Block.boot_keep K | with_reducible apply Block.labelRecover_keep K | with_reducible apply Block.fset_keep K | with_reducible apply Block.rackHalt_keep K | with_reducible apply Block.startRack_keep K | with_reducible apply Block.startFrom_keep K | split | dsimp only | with_reducible refine pair_keep (by with_reducible assumption) ?_ | with_reducible refine pair_keep' (by with_reducible assumption) ?_)

theorem Block.sysDone_keep (K : KeptBySet Q) (b : Block) (code : Nat) (hb : Q b.regs) : Q (Block.sysDone b code).regs := by
  unfold Block.sysDone
  repeat' (first | with_reducible assumption | with_reducible apply Block.fset_keep K | with_reducible apply Block.raiseEvt_keep K | dsimp only)

theorem Block.restart_keep (K : KeptBySet Q) (b : Block) (i : StartIn) (hb : Q b.regs) : Q (Block.restart b i).regs := by
  unfold Block.restart
  repeat' (first | with_reducible assumption | with_reducible apply Block.depart_keep K | with_reducible refine Block.forAll_keep _ _ _ ?_ (fun _ _ _ => ?_) | with_reducible apply Block.celCommit_keep K | with_reducible apply Block.closeSession_keep K | with_reducible apply Block.islPowerDown_keep K | with_reducible apply Block.startRegs_keep K | with_reducible apply Block.freshen_keep K | with_reducible apply Block.countStart_keep K | with_reducible apply Block.fset_keep K | with_reducible apply Block.startSteps_keep K | with_reducible refine ite_keep ?_ ?_ | dsimp only)

theorem Block.sysCommand_keep (K : KeptBySet Q) (b : Block) (v : Nat) (i : Option StartIn) (hb : Q b.regs) : Q (Block.sysCommand b v i).regs := by
  unfold Block.sysCommand
  repeat' (first | with_reducible assumption | with_reducible apply Block.fset_keep K | with_reducible apply Block.sysDone_keep K | with_reducible apply Block.changeState_keep K | with_reducible apply Block.pairEnterRun_keep K | with_reducible apply Block.restart_keep K | with_reducible refine ite_keep ?_ ?_ | split | dsimp only | with_reducible refine pair_keep (by with_reducible assumption) ?_ | with_reducible refine pair_keep' (by with_reducible assumption) ?_)

theorem Block.sysCmdWrite_keep (K : KeptBySet Q) (b : Block) (r : Requester) (v : Nat) (i : Option StartIn) (hb : Q b.regs) : Q (Block.sysCmdWrite b r v i).regs := by
  unfold Block.sysCmdWrite
  repeat' (first | with_reducible assumption | with_reducible apply Block.cmdWrite_keep K | with_reducible apply Block.sysCommand_keep K | dsimp only | intro _)

theorem Block.prpNode_keep (K : KeptBySet Q) (b : Block) (mac : Nat) (hb : Q b.regs) : Q (Block.prpNode b mac).1.regs := by
  unfold Block.prpNode
  repeat' (first | with_reducible assumption | with_reducible apply Block.fset_keep K | with_reducible apply Block.raiseEvt_keep K | with_reducible refine ite_keep ?_ ?_ | split | dsimp only | intro _)

theorem Block.passUp_keep (K : KeptBySet Q) (b : Block) (f : PrpRx) (hb : Q b.regs) : Q (Block.passUp b f).regs := by
  unfold Block.passUp
  repeat' (first | with_reducible assumption | with_reducible apply Block.incSat_keep K | with_reducible apply Block.send_keep K | with_reducible refine ite_keep ?_ ?_ | dsimp only)

theorem Block.lanHeard_keep (K : KeptBySet Q) (b : Block) (portB : Bool) (hb : Q b.regs) : Q (Block.lanHeard b portB).regs := by
  unfold Block.lanHeard
  repeat' (first | with_reducible assumption | with_reducible refine ite_keep ?_ ?_ | dsimp only)

theorem Block.setPtpPort_keep (K : KeptBySet Q) (b : Block) (portB : Bool) (p : PtpPort) (hb : Q b.regs) : Q (Block.setPtpPort b portB p).regs := by
  unfold Block.setPtpPort
  repeat' (first | with_reducible assumption | with_reducible refine ite_keep ?_ ?_ | dsimp only)

theorem Block.ptpShow_keep (K : KeptBySet Q) (b : Block) (hb : Q b.regs) : Q (Block.ptpShow b).regs := by
  unfold Block.ptpShow
  repeat' (first | with_reducible assumption | with_reducible apply Block.setPair_keep K | with_reducible apply Block.fset_keep K | with_reducible apply Block.setRegN_keep K | with_reducible apply Block.fsetB_keep K | with_reducible refine Block.when_keep _ _ _ ?_ (fun _ => ?_) | with_reducible apply Block.raiseEvt_keep K | split | dsimp only | with_reducible refine pair_keep (by with_reducible assumption) ?_ | with_reducible refine pair_keep' (by with_reducible assumption) ?_ | intro _)

theorem Block.ptpDecide_keep (K : KeptBySet Q) (b : Block) (hb : Q b.regs) : Q (Block.ptpDecide b).regs := by
  unfold Block.ptpDecide
  repeat' (first | with_reducible assumption | with_reducible apply Block.setPtpPort_keep K | with_reducible refine Block.when_keep _ _ _ ?_ (fun _ => ?_) | with_reducible apply Block.fsetB_keep K | with_reducible apply Block.raiseEvt_keep K | with_reducible apply Block.tsuLost_keep K | with_reducible apply Block.fset_keep K | with_reducible apply Block.ptpShow_keep K | with_reducible refine ite_keep ?_ ?_ | dsimp only | intro _)

theorem Block.ptpMaster_keep (K : KeptBySet Q) (b : Block) (hb : Q b.regs) : Q (Block.ptpMaster b).regs := by
  unfold Block.ptpMaster
  repeat' (first | with_reducible assumption | dsimp only)

theorem Block.ptpOffset_keep (K : KeptBySet Q) (b : Block) (portB : Bool) (offset rate : Int) (hb : Q b.regs) : Q (Block.ptpOffset b portB offset rate).regs := by
  unfold Block.ptpOffset
  repeat' (first | with_reducible assumption | with_reducible apply Block.setRegI_keep K | with_reducible apply Block.incSat_keep K | with_reducible apply Block.tsuUpdate_keep K | with_reducible refine ite_keep ?_ ?_ | dsimp only)

theorem Block.ptpSend_keep (K : KeptBySet Q) (b : Block) (portB : Bool) (kind : String) (event peer : Bool) (ws : List Nat) (hb : Q b.regs) : Q (Block.ptpSend b portB kind event peer ws).regs := by
  unfold Block.ptpSend
  repeat' (first | with_reducible assumption | with_reducible apply Block.send_keep K | dsimp only)

theorem Block.readMap_keep (K : KeptBySet Q) (b : Block) (mapOk : Bool) (hb : Q b.regs) : Q (Block.readMap b mapOk).regs := by
  unfold Block.readMap
  repeat' (first | with_reducible assumption | with_reducible apply Block.fsetB_keep K | with_reducible refine Block.when_keep _ _ _ ?_ (fun _ => ?_) | with_reducible apply Block.event_keep K | with_reducible refine ite_keep ?_ ?_ | dsimp only | intro _)

theorem Block.takeSwap_keep (K : KeptBySet Q) (b : Block) (hb : Q b.regs) : Q (Block.takeSwap b).regs := by
  unfold Block.takeSwap
  repeat' (first | with_reducible assumption | with_reducible apply Block.fset_keep K | with_reducible apply Block.raiseEvt_keep K | with_reducible refine ite_keep ?_ ?_ | dsimp only | intro _)

theorem Block.writeLines_keep (K : KeptBySet Q) (b : Block) (frame : List (List Nat)) (attrs : List Nat) (hb : Q b.regs) : Q (Block.writeLines b frame attrs).regs := by
  unfold Block.writeLines
  repeat' (first | with_reducible assumption | with_reducible refine Block.forAll_keep _ _ _ ?_ (fun _ _ _ => ?_) | with_reducible apply Block.send_keep K | with_reducible apply Block.addSat_keep K | with_reducible refine Block.when_keep _ _ _ ?_ (fun _ => ?_) | dsimp only | intro _)

theorem Block.btnLevels_keep (K : KeptBySet Q) (b : Block) (held : Nat) (hb : Q b.regs) : Q (Block.btnLevels b held).regs := by
  unfold Block.btnLevels
  repeat' (first | with_reducible assumption | with_reducible apply Block.fset_keep K | dsimp only)

theorem Block.accept_keep (K : KeptBySet Q) (b : Block) (kind button : Nat) (hb : Q b.regs) : Q (Block.accept b kind button).regs := by
  unfold Block.accept
  repeat' (first | with_reducible assumption | with_reducible apply Block.fset_keep K | with_reducible apply Block.incSat_keep K | with_reducible apply Block.raiseEvt_keep K | dsimp only)

theorem Block.calStep_keep (K : KeptBySet Q) (b : Block) (k : Nat) (hb : Q b.regs) : Q (Block.calStep b k).regs := by
  unfold Block.calStep
  repeat' (first | with_reducible assumption | with_reducible apply Block.fset_keep K | dsimp only)

theorem Block.calMove_keep (K : KeptBySet Q) (b : Block) (up : Bool) (hb : Q b.regs) : Q (Block.calMove b up).regs := by
  unfold Block.calMove
  repeat' (first | with_reducible assumption | with_reducible apply Block.calStep_keep K | with_reducible refine ite_keep ?_ ?_ | split | dsimp only | with_reducible refine pair_keep (by with_reducible assumption) ?_ | with_reducible refine pair_keep' (by with_reducible assumption) ?_)

theorem Block.calTake_keep (K : KeptBySet Q) (b : Block) (span : Bool) (hb : Q b.regs) : Q (Block.calTake b span).regs := by
  unfold Block.calTake
  repeat' (first | with_reducible assumption | with_reducible apply Block.setRegN_keep K | with_reducible apply Block.calPoint_keep K | with_reducible apply Block.calStep_keep K | with_reducible refine ite_keep ?_ ?_ | dsimp only)

theorem Block.calConfirm_keep (K : KeptBySet Q) (b : Block) (hb : Q b.regs) : Q (Block.calConfirm b).regs := by
  unfold Block.calConfirm
  repeat' (first | with_reducible assumption | with_reducible apply Block.calOpenBy_keep K | with_reducible apply Block.calStep_keep K | with_reducible apply Block.fset_keep K | with_reducible apply Block.raiseEvt_keep K | with_reducible apply Block.calTake_keep K | with_reducible apply Block.calCommitBy_keep K | with_reducible refine ite_keep ?_ ?_ | split | dsimp only | with_reducible refine pair_keep (by with_reducible assumption) ?_ | with_reducible refine pair_keep' (by with_reducible assumption) ?_)

theorem Block.shortPress_keep (K : KeptBySet Q) (b : Block) (button : Nat) (hb : Q b.regs) : Q (Block.shortPress b button).regs := by
  unfold Block.shortPress
  repeat' (first | with_reducible assumption | with_reducible apply Block.calConfirm_keep K | with_reducible apply Block.calMove_keep K | with_reducible apply Block.calStep_keep K | with_reducible refine ite_keep ?_ ?_ | dsimp only)

theorem Block.unlockAccepted_keep (K : KeptBySet Q) (b : Block) (hb : Q b.regs) : Q (Block.unlockAccepted b).regs := by
  unfold Block.unlockAccepted
  repeat' (first | with_reducible assumption | with_reducible refine Block.forAll_keep _ _ _ ?_ (fun _ _ _ => ?_) | with_reducible apply Block.closeSession_keep K | with_reducible apply Block.fset_keep K | with_reducible apply Block.addSat_keep K | with_reducible apply Block.event_keep K | dsimp only)

theorem Block.secCommand_keep (K : KeptBySet Q) (b : Block) (v : Nat) (hb : Q b.regs) : Q (Block.secCommand b v).regs := by
  unfold Block.secCommand
  repeat' (first | with_reducible assumption | with_reducible apply Block.fset_keep K | with_reducible refine Block.forAll_keep _ _ _ ?_ (fun _ _ _ => ?_) | with_reducible apply Block.setRegN_keep K | with_reducible apply Block.unlockAccepted_keep K | with_reducible apply Block.raiseEvt_keep K | with_reducible refine ite_keep ?_ ?_ | dsimp only | intro _)

theorem Block.secCmdWrite_keep (K : KeptBySet Q) (b : Block) (r : Requester) (v : Nat) (hb : Q b.regs) : Q (Block.secCmdWrite b r v).regs := by
  unfold Block.secCmdWrite
  repeat' (first | with_reducible assumption | with_reducible apply Block.cmdWrite_keep K | with_reducible apply Block.secCommand_keep K | dsimp only | intro _)

theorem Block.supplyFault_keep (K : KeptBySet Q) (b : Block) (f : Fld) (evt : Nat) (hb : Q b.regs) : Q (Block.supplyFault b f evt).regs := by
  unfold Block.supplyFault
  repeat' (first | with_reducible assumption | with_reducible apply Block.fset_keep K | with_reducible apply Block.fieldFault_keep K | with_reducible apply Block.hartCheckAll_keep K | with_reducible apply Block.raiseEvt_keep K | with_reducible refine Block.when_keep _ _ _ ?_ (fun _ => ?_) | with_reducible apply Block.lockout_keep K | dsimp only | intro _)

theorem Block.supplyBack_keep (K : KeptBySet Q) (b : Block) (hb : Q b.regs) : Q (Block.supplyBack b).regs := by
  unfold Block.supplyBack
  repeat' (first | with_reducible assumption | with_reducible apply Block.fieldBack_keep K | with_reducible refine Block.when_keep _ _ _ ?_ (fun _ => ?_) | with_reducible apply Block.fset_keep K | dsimp only | intro _)

theorem Block.chgRestore_keep (K : KeptBySet Q) (b : Block) (v : Nat) (hb : Q b.regs) : Q (Block.chgRestore b v).regs := by
  unfold Block.chgRestore
  repeat' (first | with_reducible assumption | with_reducible apply Block.fset_keep K | with_reducible apply Block.supplyBack_keep K | with_reducible refine ite_keep ?_ ?_ | dsimp only)

theorem Block.nestThr_keep (K : KeptBySet Q) (b : Block) (off lim : Nat) (hb : Q b.regs) : Q (Block.nestThr b off lim).regs := by
  unfold Block.nestThr
  repeat' (first | with_reducible assumption | with_reducible apply Block.fset_keep K | dsimp only)

theorem Block.lockWrite_keep (K : KeptBySet Q) (b : Block) (r : Requester) (p v : Nat) (hb : Q b.regs) : Q (Block.lockWrite b r p v).regs := by
  unfold Block.lockWrite
  repeat' (first | with_reducible assumption | with_reducible apply Block.setRegN_keep K | with_reducible apply Block.timed_keep K | with_reducible apply Block.lockPage_keep K | with_reducible refine ite_keep ?_ ?_ | split | dsimp only | with_reducible refine pair_keep (by with_reducible assumption) ?_ | with_reducible refine pair_keep' (by with_reducible assumption) ?_)

theorem Block.headEffect_keep (K : KeptBySet Q) (r : Requester) (off v : Nat) (b : Block) (hb : Q b.regs) : Q (Block.headEffect r off v b).regs := by
  unfold Block.headEffect
  repeat' (first | with_reducible assumption | with_reducible apply Block.lockWrite_keep K | with_reducible refine ite_keep ?_ ?_ | dsimp only)

theorem Block.fabEffect_keep (K : KeptBySet Q) (old : Block) (r : Requester) (off v : Nat) (found : Option AccIn) (b : Block) (hold : Q old.regs) (hb : Q b.regs) : Q (Block.fabEffect old r off v found b).regs := by
  unfold Block.fabEffect
  repeat' (first | with_reducible assumption | with_reducible apply Block.sysCommand_keep K | with_reducible apply Block.nestThr_keep K | with_reducible apply Block.absCfgWritten_keep K | with_reducible apply Block.shaftCfgWritten_keep K | with_reducible apply Block.tsuCfgWritten_keep K | with_reducible refine Block.when_keep _ _ _ ?_ (fun _ => ?_) | with_reducible apply Block.setRegN_keep K | with_reducible apply Block.tsuCommand_keep K | with_reducible apply Block.rtcCommand_keep K | with_reducible apply Block.engTest_keep K | with_reducible apply Block.schCommand_keep K | with_reducible apply Block.frcCommand_keep K | with_reducible apply Block.olcCommand_keep K | with_reducible apply Block.fset_keep K | with_reducible apply Block.solScan_keep K | with_reducible apply Block.chgRestore_keep K | with_reducible apply Block.lnkCommand_keep K | with_reducible apply Block.ptpDecide_keep K | with_reducible apply Block.redCommand_keep K | with_reducible apply Block.updCommand_keep K | with_reducible apply Block.dsbCommand_keep K | with_reducible apply Block.secCommand_keep K | with_reducible refine ite_keep ?_ ?_ | split | dsimp only | with_reducible refine pair_keep (by with_reducible assumption) ?_ | with_reducible refine pair_keep' (by with_reducible assumption) ?_ | intro _)

theorem Block.fabRefused_keep (K : KeptBySet Q) (b : Block) (off code : Nat) (hb : Q b.regs) : Q (Block.fabRefused b off code).regs := by
  unfold Block.fabRefused
  repeat' (first | with_reducible assumption | with_reducible apply Block.fset_keep K | with_reducible apply Block.raiseEvt_keep K | with_reducible refine ite_keep ?_ ?_ | dsimp only)

theorem Block.chCfgWrite_keep (K : KeptBySet Q) (b : Block) (r : Requester) (n off v : Nat) (hb : Q b.regs) : Q (Block.chCfgWrite b r n off v).1.regs := by
  unfold Block.chCfgWrite
  repeat' (first | with_reducible assumption | with_reducible apply Block.regWrite_keep K | with_reducible apply Block.substMask_keep K | with_reducible apply Block.chRefresh_keep K | with_reducible apply Block.fset_keep K | with_reducible apply Block.chRefused_keep K | with_reducible refine ite_keep ?_ ?_ | split | dsimp only | with_reducible refine pair_keep (by with_reducible assumption) ?_ | with_reducible refine pair_keep' (by with_reducible assumption) ?_ | intro _)

theorem Block.chPageWrite_keep (K : KeptBySet Q) (b : Block) (r : Requester) (n off v : Nat) (hb : Q b.regs) : Q (Block.chPageWrite b r n off v).1.regs := by
  unfold Block.chPageWrite
  repeat' (first | with_reducible assumption | with_reducible apply Block.chModeSet_keep K | with_reducible apply Block.regWrite_keep K | with_reducible apply Block.chCommand_keep K | with_reducible apply Block.chCfgWrite_keep K | with_reducible refine ite_keep ?_ ?_ | with_reducible apply id_keep | split | dsimp only | intro _)

theorem Block.canPageWrite_keep (K : KeptBySet Q) (b : Block) (r : Requester) (k off v : Nat) (hb : Q b.regs) : Q (Block.canPageWrite b r k off v).1.regs := by
  unfold Block.canPageWrite
  repeat' (first | with_reducible assumption | with_reducible apply Block.refuse_keep K | with_reducible apply Block.canRes_keep K | with_reducible apply Block.regWrite_keep K | with_reducible apply Block.canRecover_keep K | with_reducible apply Block.canWindow_keep K | with_reducible apply Block.timed_keep K | with_reducible apply Block.canWarn_keep K | with_reducible refine ite_keep ?_ ?_ | split | dsimp only | intro _)

theorem Block.redCfgWrite_keep (K : KeptBySet Q) (b : Block) (r : Requester) (off v : Nat) (hb : Q b.regs) : Q (Block.redCfgWrite b r off v).1.regs := by
  unfold Block.redCfgWrite
  repeat' (first | with_reducible assumption | with_reducible apply Block.refuse_keep K | with_reducible apply Block.fset_keep K | with_reducible apply Block.regWrite_keep K | with_reducible refine Block.when_keep _ _ _ ?_ (fun _ => ?_) | with_reducible apply Block.hbFollow_keep K | with_reducible refine ite_keep ?_ ?_ | split | dsimp only | intro _)

theorem Block.linesFall_keep (K : KeptBySet Q) (b : Block) (hb : Q b.regs) : Q (Block.linesFall b).regs := by
  unfold Block.linesFall
  repeat' (first | with_reducible assumption | with_reducible refine Block.forAll_keep _ _ _ ?_ (fun _ _ _ => ?_) | with_reducible apply Block.fset_keep K | dsimp only | intro _)

theorem Block.oneWrite_keep (K : KeptBySet Q) (b : Block) (r : Requester) (off v : Nat) (found : Option AccIn) (hb : Q b.regs) : Q (Block.oneWrite b r off v found).1.regs := by
  unfold Block.oneWrite
  repeat' (first | with_reducible assumption | with_reducible apply Block.regWrite_keep K | with_reducible apply Block.headEffect_keep K | with_reducible apply Block.chPageWrite_keep K | with_reducible apply Block.canPageWrite_keep K | with_reducible apply Block.redCfgWrite_keep K | with_reducible apply Block.hartCfgWrite_keep K | with_reducible apply Block.hartCtlBy_keep K | with_reducible apply Block.fabEffect_keep K | with_reducible apply Block.linesFall_keep K | with_reducible apply Block.fabRefused_keep K | with_reducible refine ite_keep ?_ ?_ | split | dsimp only | with_reducible refine pair_keep (by with_reducible assumption) ?_ | with_reducible refine pair_keep' (by with_reducible assumption) ?_ | intro _)

theorem Block.loWrite_keep (K : KeptBySet Q) (b : Block) (r : Requester) (off v : Nat) (hb : Q b.regs) : Q (Block.loWrite b r off v).1.regs := by
  unfold Block.loWrite
  repeat' (first | with_reducible assumption | with_reducible apply Block.setLatch_keep K | with_reducible apply Block.refuse_keep K | with_reducible refine ite_keep ?_ ?_ | split | dsimp only)

theorem Block.hiWrite_keep (K : KeptBySet Q) (b : Block) (r : Requester) (off v : Nat) (hb : Q b.regs) : Q (Block.hiWrite b r off v).1.regs := by
  unfold Block.hiWrite
  repeat' (first | with_reducible assumption | with_reducible apply Block.oneWrite_keep K | with_reducible apply Block.storeWrite_keep K | with_reducible apply Block.setLatch_keep K | with_reducible refine ite_keep ?_ ?_ | split | dsimp only | with_reducible refine pair_keep (by with_reducible assumption) ?_ | with_reducible refine pair_keep' (by with_reducible assumption) ?_)

theorem Block.fabWrite_keep (K : KeptBySet Q) (b : Block) (r : Requester) (off v : Nat) (found : Option AccIn) (hb : Q b.regs) : Q (Block.fabWrite b r off v found).1.regs := by
  unfold Block.fabWrite
  repeat' (first | with_reducible assumption | with_reducible apply Block.loWrite_keep K | with_reducible apply Block.hiWrite_keep K | with_reducible apply Block.oneWrite_keep K | with_reducible refine ite_keep ?_ ?_ | split | dsimp only)

theorem Block.fabRead_keep (K : KeptBySet Q) (b : Block) (r : Requester) (off : Nat) (hb : Q b.regs) : Q (Block.fabRead b r off).1.regs := by
  unfold Block.fabRead
  repeat' (first | with_reducible assumption | with_reducible apply Block.refuse_keep K | with_reducible refine Block.when_keep _ _ _ ?_ (fun _ => ?_) | with_reducible apply Block.setLatch_keep K | with_reducible apply Block.clearRc_keep K | with_reducible refine ite_keep ?_ ?_ | split | dsimp only | intro _)

theorem Block.answered_keep (K : KeptBySet Q) (r : Requester) (off : Nat) (q : Block × Nat) (hq : Q q.1.regs) : Q (Block.answered r off q).regs := by
  unfold Block.answered
  repeat' (first | with_reducible assumption | with_reducible apply Block.out_keep K | with_reducible refine ite_keep ?_ ?_ | dsimp only)

theorem Block.readAnswered_keep (K : KeptBySet Q) (b : Block) (r : Requester) (off : Nat) (hb : Q b.regs) : Q (Block.readAnswered b r off).regs := by
  unfold Block.readAnswered
  repeat' (first | with_reducible assumption | with_reducible apply Block.fabRead_keep K | with_reducible apply Block.out_keep K | with_reducible refine ite_keep ?_ ?_ | dsimp only)

theorem Block.sspAnswer_keep (K : KeptBySet Q) (b : Block) (h : SspHdr) (sv result : Nat) (payload : List Nat) (hb : Q b.regs) : Q (Block.sspAnswer b h sv result payload).regs := by
  unfold Block.sspAnswer
  repeat' (first | with_reducible assumption | with_reducible apply Block.putSession_keep K | with_reducible apply Block.sspSend_keep K | split | dsimp only | with_reducible refine pair_keep (by with_reducible assumption) ?_ | with_reducible refine pair_keep' (by with_reducible assumption) ?_)

theorem Block.sspHeard_keep (K : KeptBySet Q) (b : Block) (s : Session) (hb : Q b.regs) : Q (Block.sspHeard b s).regs := by
  unfold Block.sspHeard
  repeat' (first | with_reducible assumption | with_reducible apply Block.putSession_keep K | dsimp only)

theorem Block.sspHold_keep (K : KeptBySet Q) (b : Block) (h : SspHdr) (sv : Nat) (i : SspReq) (hb : Q b.regs) : Q (Block.sspHold b h sv i).regs := by
  unfold Block.sspHold
  repeat' (first | with_reducible assumption | with_reducible apply Block.sspAnswer_keep K | with_reducible refine ite_keep ?_ ?_ | dsimp only | intro _)

theorem Block.sspRequest_keep (K : KeptBySet Q) (b : Block) (h : SspHdr) (sv : Nat) (i : SspHdr → SspReq) (perform : Session → Block → Block) (hb : Q b.regs) (hperform : ∀ x b, Q b.regs → Q (perform x b).regs) : Q (Block.sspRequest b h sv i perform).regs := by
  unfold Block.sspRequest
  repeat' (first | with_reducible assumption | with_reducible apply hperform | with_reducible apply Block.incSat_keep K | with_reducible apply Block.sspHeard_keep K | with_reducible apply Block.sspSend_keep K | with_reducible apply Block.sspHold_keep K | with_reducible apply Block.sspAnswer_keep K | with_reducible refine ite_keep ?_ ?_ | split | dsimp only | with_reducible refine pair_keep (by with_reducible assumption) ?_ | with_reducible refine pair_keep' (by with_reducible assumption) ?_ | intro _)

theorem Block.openRefused_keep (K : KeptBySet Q) (b : Block) (o : SspOpen) (result : Nat) (payload : List Nat) (hb : Q b.regs) : Q (Block.openRefused b o result payload).regs := by
  unfold Block.openRefused
  repeat' (first | with_reducible assumption | with_reducible apply Block.incSat_keep K | with_reducible apply Block.sspSend_keep K | dsimp only)

theorem Block.openSession_keep (K : KeptBySet Q) (b : Block) (o : SspOpen) (ver : Nat) (hb : Q b.regs) : Q (Block.openSession b o ver).regs := by
  unfold Block.openSession
  repeat' (first | with_reducible assumption | with_reducible apply Block.sessShow_keep K | with_reducible apply Block.raiseEvt_keep K | with_reducible apply Block.sspSend_keep K | dsimp only)

theorem Block.openHold_keep (K : KeptBySet Q) (b : Block) (o : SspOpen) (hb : Q b.regs) : Q (Block.openHold b o).regs := by
  unfold Block.openHold
  repeat' (first | with_reducible assumption | dsimp only)

theorem Block.bootStatus_keep (K : KeptBySet Q) (b : Block) (hb : Q b.regs) : Q (Block.bootStatus b).2.regs := by
  unfold Block.bootStatus
  repeat' (first | with_reducible assumption | with_reducible apply Block.free_keep K | split | dsimp only)

theorem Block.sspRead1_keep (K : KeptBySet Q) (r : Requester) (q : Block × List Nat) (off : Nat) (hq : Q q.1.regs) : Q (Block.sspRead1 r q off).1.regs := by
  unfold Block.sspRead1
  repeat' (first | with_reducible assumption | with_reducible apply Block.fabRead_keep K | with_reducible apply Block.bootStatus_keep K | with_reducible refine ite_keep ?_ ?_ | split | dsimp only)

theorem Block.sspReads_keep (K : KeptBySet Q) (b : Block) (r : Requester) (offs : List Nat) (hb : Q b.regs) : Q (Block.sspReads b r offs).1.regs :=
  foldl_keep _ (fun q x h => Block.sspRead1_keep K r q x h) _ _ hb

theorem Block.sspWrite1_keep (K : KeptBySet Q) (n : Nat) (found : AccIn) (q : Block × List Nat) (e : Nat × Word) (hq : Q q.1.regs) : Q (Block.sspWrite1 n found q e).1.regs := by
  unfold Block.sspWrite1
  repeat' (first | with_reducible assumption | with_reducible apply Block.fabWrite_keep K | with_reducible apply Block.bootStatus_keep K | with_reducible refine ite_keep ?_ ?_ | split | dsimp only)

theorem Block.sspWrites_keep (K : KeptBySet Q) (b : Block) (n : Nat) (pairs : List (Nat × Word)) (found : AccIn) (hb : Q b.regs) : Q (Block.sspWrites b n pairs found).1.regs :=
  foldl_keep _ (fun q x h => Block.sspWrite1_keep K n found q x h) _ _ hb

theorem Block.pubEntry_keep (K : KeptBySet Q) (b : Block) (vid : Nat) (hb : Q b.regs) : Q (Block.pubEntry b vid).1.regs := by
  unfold Block.pubEntry
  repeat' (first | with_reducible assumption | with_reducible apply Block.free_keep K | split | dsimp only | with_reducible refine pair_keep (by with_reducible assumption) ?_ | with_reducible refine pair_keep' (by with_reducible assumption) ?_ | intro _)

theorem Block.publishVids_keep (K : KeptBySet Q) (b : Block) (n : Nat) (vids : List Nat) (hb : Q b.regs) : Q (Block.publishVids b n vids).regs := by
  have key : ∀ (l : List Nat) (q : Block × List Nat), Q q.1.regs →
      Q (l.foldl (fun (q : Block × List Nat) v => ((q.1.pubEntry v).1, q.2 ++ (q.1.pubEntry v).2)) q).1.regs := by
    intro l
    induction l with
    | nil => intro q h; exact h
    | cons x l ih => intro q h; exact ih _ (Block.pubEntry_keep K _ _ h)
  unfold Block.publishVids
  extract_lets q
  exact Block.pubSend_keep K _ _ _ (key vids (b, []) hb)

theorem Block.setTransfer_keep (K : KeptBySet Q) (b : Block) (t : Option Transfer) (hb : Q b.regs) : Q (Block.setTransfer b t).regs := by
  unfold Block.setTransfer
  repeat' (first | with_reducible assumption | dsimp only)

theorem Block.transferDone_keep (K : KeptBySet Q) (b : Block) (hb : Q b.regs) : Q (Block.transferDone b).regs := by
  unfold Block.transferDone
  repeat' (first | with_reducible assumption | with_reducible apply Block.setTransfer_keep K | with_reducible apply Block.raiseEvt_keep K | dsimp only)

theorem Block.dropTransfer_keep (K : KeptBySet Q) (b : Block) (t : Transfer) (hb : Q b.regs) : Q (Block.dropTransfer b t).regs := by
  unfold Block.dropTransfer
  repeat' (first | with_reducible assumption | with_reducible apply Block.olcEnd_keep K | with_reducible apply Block.endTransfer_keep K | with_reducible refine ite_keep ?_ ?_ | dsimp only)

theorem Block.setCask_keep (K : KeptBySet Q) (b : Block) (c : Cask) (hb : Q b.regs) : Q (Block.setCask b c).regs := by
  unfold Block.setCask
  repeat' (first | with_reducible assumption | dsimp only)

theorem Block.caskWhole_keep (K : KeptBySet Q) (b : Block) (c : Cask) (m : Manifest) (hb : Q b.regs) : Q (Block.caskWhole b c m).regs := by
  unfold Block.caskWhole
  repeat' (first | with_reducible assumption | with_reducible apply Block.caskIn_keep K | with_reducible apply Block.raiseEvt_keep K | with_reducible apply Block.transferDone_keep K | with_reducible refine ite_keep ?_ ?_ | dsimp only)

theorem Block.manifestChunk_keep (K : KeptBySet Q) (b : Block) (c : Cask) (i : Nat) (data : List Nat) (hb : Q b.regs) : Q (Block.manifestChunk b c i data).regs := by
  unfold Block.manifestChunk
  repeat' (first | with_reducible assumption | with_reducible apply Block.setCask_keep K | with_reducible apply Block.celRequest_keep K | with_reducible apply Block.caskInvalid_keep K | with_reducible apply Block.endTransfer_keep K | with_reducible apply Block.caskShow_keep K | with_reducible apply Block.raiseEvt_keep K | with_reducible apply Block.caskWhole_keep K | with_reducible refine ite_keep ?_ ?_ | dsimp only | intro _)

theorem Block.payloadChunk_keep (K : KeptBySet Q) (b : Block) (c : Cask) (m : Manifest) (j : Nat) (data : List Nat) (hb : Q b.regs) : Q (Block.payloadChunk b c m j data).regs := by
  unfold Block.payloadChunk
  repeat' (first | with_reducible assumption | with_reducible apply Block.setCask_keep K | with_reducible apply Block.caskShow_keep K | with_reducible apply Block.celRequest_keep K | with_reducible apply Block.caskWhole_keep K | with_reducible apply Block.incSat_keep K | with_reducible apply Block.raiseEvt_keep K | with_reducible refine ite_keep ?_ ?_ | dsimp only)

theorem Block.caskPiece_keep (K : KeptBySet Q) (b : Block) (t : Transfer) (i off : Nat) (data : List Nat) (hb : Q b.regs) : Q (Block.caskPiece b t i off data).regs := by
  unfold Block.caskPiece
  repeat' (first | with_reducible assumption | with_reducible apply Block.incSat_keep K | with_reducible apply Block.setTransfer_keep K | with_reducible apply Block.payloadChunk_keep K | with_reducible apply Block.manifestChunk_keep K | with_reducible refine ite_keep ?_ ?_ | with_reducible apply id_keep | split | dsimp only | with_reducible refine pair_keep (by with_reducible assumption) ?_ | with_reducible refine pair_keep' (by with_reducible assumption) ?_)

theorem Block.pkgPiece_keep (K : KeptBySet Q) (b : Block) (t : Transfer) (i off : Nat) (data : List Nat) (hb : Q b.regs) : Q (Block.pkgPiece b t i off data).regs := by
  unfold Block.pkgPiece
  repeat' (first | with_reducible assumption | with_reducible apply Block.setTransfer_keep K | with_reducible apply Block.setRegN_keep K | with_reducible apply Block.transferDone_keep K | with_reducible refine ite_keep ?_ ?_ | dsimp only)

theorem Block.imgPiece_keep (K : KeptBySet Q) (b : Block) (t : Transfer) (i off : Nat) (data : List Nat) (hb : Q b.regs) : Q (Block.imgPiece b t i off data).1.regs := by
  unfold Block.imgPiece
  repeat' (first | with_reducible assumption | with_reducible apply Block.setTransfer_keep K | with_reducible apply Block.transferDone_keep K | with_reducible apply Block.loadImage_keep K | with_reducible refine ite_keep ?_ ?_ | split | dsimp only)

theorem Block.caskBegin_keep (K : KeptBySet Q) (b : Block) (n size ident : Nat) (hb : Q b.regs) : Q (Block.caskBegin b n size ident).1.regs := by
  unfold Block.caskBegin
  repeat' (first | with_reducible assumption | with_reducible apply Block.fset_keep K | with_reducible apply Block.setCask_keep K | with_reducible apply Block.caskIn_keep K | with_reducible apply Block.setTransfer_keep K | with_reducible refine ite_keep ?_ ?_ | split | dsimp only | with_reducible refine pair_keep (by with_reducible assumption) ?_ | with_reducible refine pair_keep' (by with_reducible assumption) ?_)

theorem Block.pkgBegin_keep (K : KeptBySet Q) (b : Block) (n size ident : Nat) (hb : Q b.regs) : Q (Block.pkgBegin b n size ident).1.regs := by
  unfold Block.pkgBegin
  repeat' (first | with_reducible assumption | with_reducible apply Block.olcRefuse_keep K | with_reducible apply Block.setRegN_keep K | with_reducible apply Block.fset_keep K | with_reducible apply Block.setTransfer_keep K | with_reducible refine ite_keep ?_ ?_ | split | dsimp only)

theorem Block.imgBegin_keep (K : KeptBySet Q) (b : Block) (n size ident version : Nat) (hb : Q b.regs) : Q (Block.imgBegin b n size ident version).1.regs := by
  unfold Block.imgBegin
  repeat' (first | with_reducible assumption | with_reducible apply Block.setTransfer_keep K | with_reducible apply Block.loadResult_keep K | with_reducible refine ite_keep ?_ ?_ | split | dsimp only)

theorem Block.issued_keep (K : KeptBySet Q) (b : Block) (c : Nat) (i : Insn) (clocks : Nat) (a : Answer) (hb : Q b.regs) : Q (Block.issued b c i clocks a).regs := by
  unfold Block.issued
  repeat' (first | with_reducible assumption | with_reducible apply Block.modCx_keep K | with_reducible apply Block.retire_keep K | with_reducible apply Block.engNext_keep K | dsimp only | intro _)

theorem Block.issuedCode_keep (K : KeptBySet Q) (c : Nat) (i : Insn) (clocks d : Nat) (q : Block × Nat) (hq : Q q.1.regs) : Q (Block.issuedCode c i clocks d q).regs := by
  unfold Block.issuedCode
  repeat' (first | with_reducible assumption | with_reducible apply Block.issued_keep K | dsimp only)

theorem Block.issuedWord_keep (K : KeptBySet Q) (c : Nat) (i : Insn) (d s1 : Nat) (q : Block × Nat × Word) (hq : Q q.1.regs) : Q (Block.issuedWord c i d s1 q).regs := by
  unfold Block.issuedWord
  repeat' (first | with_reducible assumption | with_reducible apply Block.issued_keep K | dsimp only)

theorem Block.issuedPair_keep (K : KeptBySet Q) (c : Nat) (i : Insn) (d s1 : Nat) (q : Block × Nat × Nat) (hq : Q q.1.regs) : Q (Block.issuedPair c i d s1 q).regs := by
  unfold Block.issuedPair
  repeat' (first | with_reducible assumption | with_reducible apply Block.issued_keep K | dsimp only)

theorem Block.ctxRead_keep (K : KeptBySet Q) (b : Block) (c : Nat) (i : Insn) (d s1 off : Nat) (hb : Q b.regs) : Q (Block.ctxRead b c i d s1 off).regs := by
  unfold Block.ctxRead
  repeat' (first | with_reducible assumption | with_reducible apply Block.issuedWord_keep K | with_reducible apply Block.fabRead_keep K | with_reducible refine ite_keep ?_ ?_ | dsimp only)

theorem Block.ctxWrite_keep (K : KeptBySet Q) (b : Block) (c : Nat) (i : Insn) (d s1 off : Nat) (hb : Q b.regs) : Q (Block.ctxWrite b c i d s1 off).regs := by
  unfold Block.ctxWrite
  repeat' (first | with_reducible assumption | with_reducible apply Block.issuedCode_keep K | with_reducible apply Block.fabWrite_keep K | with_reducible refine ite_keep ?_ ?_ | dsimp only)

theorem Block.readPair_keep (K : KeptBySet Q) (b : Block) (r : Requester) (off : Nat) (hb : Q b.regs) : Q (Block.readPair b r off).1.regs := by
  unfold Block.readPair
  repeat' (first | with_reducible assumption | with_reducible apply Block.fabRead_keep K | with_reducible refine ite_keep ?_ ?_ | split | dsimp only)

theorem Block.writePair_keep (K : KeptBySet Q) (b : Block) (r : Requester) (off v : Nat) (hb : Q b.regs) : Q (Block.writePair b r off v).1.regs := by
  unfold Block.writePair
  repeat' (first | with_reducible assumption | with_reducible apply Block.fabWrite_keep K | with_reducible refine ite_keep ?_ ?_ | split | dsimp only)

theorem Block.recApply_keep (K : KeptBySet Q) (b : Block) (c : Nat) (r : EvRec) (hb : Q b.regs) : Q (Block.recApply b c r).1.regs := by
  unfold Block.recApply
  repeat' (first | with_reducible assumption | with_reducible apply Block.recQueue_keep K | with_reducible apply Block.recDrop_keep K | with_reducible refine ite_keep ?_ ?_ | split | dsimp only)

theorem Block.stallOver_keep (K : KeptBySet Q) (b : Block) (hb : Q b.regs) : Q (Block.stallOver b).regs := by
  unfold Block.stallOver
  repeat' (first | with_reducible assumption | dsimp only | intro _)


end Sys2Proof.Machine
end

