-- ==== Sys2Proof/Laws/KeepExec.lean ====
section
/-! SUPPORT. What every register write keeps of the register store, every command keeps, and so does the tick of an idle module. -/

set_option linter.unusedVariables false

namespace Sys2Proof.Machine

variable {Q : List (Nat × Word) → Prop}


theorem execAiSample_keep (K : KeptBySet Q) (ch : Fin 64) (i : Sample) (s : State) (hq : Q s.regs) :
    ∃ u, execAiSample ch i s = .next u ∧ Q u.regs := by
  refine ⟨_, rfl, ?_⟩
  repeat' (first | with_reducible assumption | with_reducible apply Block.sample_keep K | dsimp only | intro _)

theorem execDiStateAccepted_keep (K : KeptBySet Q) (ch : Fin 64) (on : Bool) (sinceNs : Nat) (s : State) (hq : Q s.regs) :
    ∃ u, execDiStateAccepted ch on sinceNs s = .next u ∧ Q u.regs := by
  refine ⟨_, rfl, ?_⟩
  repeat' (first | with_reducible assumption | with_reducible apply Block.setRegN_keep K | with_reducible apply Block.modChan_keep K | with_reducible apply Block.measured_keep K | with_reducible apply Block.chRefresh_keep K | with_reducible refine ite_keep ?_ ?_ | dsimp only | intro _)

theorem execNamurLineFault_keep (K : KeptBySet Q) (ch : Fin 64) (short : Bool) (s : State) (hq : Q s.regs) :
    ∃ u, execNamurLineFault ch short s = .next u ∧ Q u.regs := by
  refine ⟨_, rfl, ?_⟩
  repeat' (first | with_reducible assumption | with_reducible apply Block.measured_keep K | with_reducible refine ite_keep ?_ ?_ | dsimp only | intro _)

theorem execComplianceSet_keep (K : KeptBySet Q) (ch : Fin 64) (loadMv : Nat) (code : Int) (s : State) (hq : Q s.regs) :
    ∃ u, execComplianceSet ch loadMv code s = .next u ∧ Q u.regs := by
  refine ⟨_, rfl, ?_⟩
  repeat' (first | with_reducible assumption | with_reducible apply Block.timed_keep K | with_reducible apply Block.modChan_keep K | with_reducible apply Block.fset_keep K | with_reducible apply Block.incSat_keep K | with_reducible apply Block.stageReport_keep K | with_reducible apply Block.chRefresh_keep K | with_reducible apply Block.raiseEvt_keep K | with_reducible refine ite_keep ?_ ?_ | dsimp only | intro _)

theorem execComplianceClear_keep (K : KeptBySet Q) (ch : Fin 64) (code : Int) (s : State) (hq : Q s.regs) :
    ∃ u, execComplianceClear ch code s = .next u ∧ Q u.regs := by
  refine ⟨_, rfl, ?_⟩
  repeat' (first | with_reducible assumption | with_reducible apply Block.modChan_keep K | with_reducible apply Block.fset_keep K | with_reducible apply Block.chRefresh_keep K | with_reducible refine ite_keep ?_ ?_ | dsimp only | intro _)

theorem execChannelFaultDeclare_keep (K : KeptBySet Q) (ch : Fin 64) (s : State) (hq : Q s.regs) :
    ∃ u, execChannelFaultDeclare ch s = .next u ∧ Q u.regs := by
  refine ⟨_, rfl, ?_⟩
  repeat' (first | with_reducible assumption | with_reducible apply Block.fset_keep K | with_reducible apply Block.chRefresh_keep K | with_reducible apply Block.raiseEvt_keep K | with_reducible refine ite_keep ?_ ?_ | dsimp only | intro _)

theorem execStageThermalSet_keep (K : KeptBySet Q) (ch : Fin 64) (tj code : Int) (s : State) (hq : Q s.regs) :
    ∃ u, execStageThermalSet ch tj code s = .next u ∧ Q u.regs := by
  refine ⟨_, rfl, ?_⟩
  repeat' (first | with_reducible assumption | with_reducible apply Block.fset_keep K | with_reducible refine Block.when_keep _ _ _ ?_ (fun _ => ?_) | with_reducible apply Block.stageReport_keep K | with_reducible apply Block.timed_keep K | with_reducible apply Block.modChan_keep K | with_reducible apply Block.showTj_keep K | with_reducible apply Block.chRefresh_keep K | with_reducible apply Block.raiseEvt_keep K | with_reducible refine ite_keep ?_ ?_ | dsimp only | intro _)

theorem execStageThermalClear_keep (K : KeptBySet Q) (ch : Fin 64) (tj : Int) (s : State) (hq : Q s.regs) :
    ∃ u, execStageThermalClear ch tj s = .next u ∧ Q u.regs := by
  refine ⟨_, rfl, ?_⟩
  repeat' (first | with_reducible assumption | with_reducible apply Block.showTj_keep K | with_reducible apply Block.fset_keep K | with_reducible apply Block.chRefresh_keep K | with_reducible refine ite_keep ?_ ?_ | dsimp only | intro _)

theorem execDoOverload_keep (K : KeptBySet Q) (ch : Fin 64) (s : State) (hq : Q s.regs) :
    ∃ u, execDoOverload ch s = .next u ∧ Q u.regs := by
  refine ⟨_, rfl, ?_⟩
  repeat' (first | with_reducible assumption | with_reducible apply Block.fset_keep K | with_reducible apply Block.incSat_keep K | with_reducible apply Block.timed_keep K | with_reducible apply Block.modChan_keep K | with_reducible apply Block.chRefresh_keep K | with_reducible apply Block.raiseEvt_keep K | with_reducible refine ite_keep ?_ ?_ | dsimp only | intro _)

theorem execDoRetry_keep (K : KeptBySet Q) (ch : Fin 64) (s : State) (hq : Q s.regs) :
    ∃ u, execDoRetry ch s = .next u ∧ Q u.regs := by
  refine ⟨_, rfl, ?_⟩
  repeat' (first | with_reducible assumption | with_reducible apply Block.fset_keep K | with_reducible apply Block.chRefresh_keep K | with_reducible refine ite_keep ?_ ?_ | dsimp only | intro _)

theorem execDoOpenLoad_keep (K : KeptBySet Q) (ch : Fin 64) (s : State) (hq : Q s.regs) :
    ∃ u, execDoOpenLoad ch s = .next u ∧ Q u.regs := by
  refine ⟨_, rfl, ?_⟩
  repeat' (first | with_reducible assumption | with_reducible apply Block.measured_keep K | with_reducible refine ite_keep ?_ ?_ | dsimp only | intro _)

theorem execDoRateHoldEnd_keep (K : KeptBySet Q) (ch : Fin 64) (s : State) (hq : Q s.regs) :
    ∃ u, execDoRateHoldEnd ch s = .next u ∧ Q u.regs := by
  refine ⟨_, rfl, ?_⟩
  repeat' (first | with_reducible assumption | with_reducible apply Block.fset_keep K | with_reducible apply Block.chRefresh_keep K | with_reducible refine ite_keep ?_ ?_ | dsimp only | intro _)

theorem execClrFault_keep (K : KeptBySet Q) (r : Requester) (ch : Fin 64) (s : State) (hq : Q s.regs) :
    ∃ u, execClrFault r ch s = .next u ∧ Q u.regs := by
  refine ⟨_, rfl, ?_⟩
  repeat' (first | with_reducible assumption | with_reducible apply Block.chCmdWrite_keep K | dsimp only | intro _)

theorem execCalOpen_keep (K : KeptBySet Q) (r : Requester) (ch : Fin 64) (s : State) (hq : Q s.regs) :
    ∃ u, execCalOpen r ch s = .next u ∧ Q u.regs := by
  refine ⟨_, rfl, ?_⟩
  repeat' (first | with_reducible assumption | with_reducible apply Block.chCmdWrite_keep K | dsimp only | intro _)

theorem execCalZero_keep (K : KeptBySet Q) (r : Requester) (ch : Fin 64) (s : State) (hq : Q s.regs) :
    ∃ u, execCalZero r ch s = .next u ∧ Q u.regs := by
  refine ⟨_, rfl, ?_⟩
  repeat' (first | with_reducible assumption | with_reducible apply Block.chCmdWrite_keep K | dsimp only | intro _)

theorem execCalSpan_keep (K : KeptBySet Q) (r : Requester) (ch : Fin 64) (s : State) (hq : Q s.regs) :
    ∃ u, execCalSpan r ch s = .next u ∧ Q u.regs := by
  refine ⟨_, rfl, ?_⟩
  repeat' (first | with_reducible assumption | with_reducible apply Block.chCmdWrite_keep K | dsimp only | intro _)

theorem execCalCommit_keep (K : KeptBySet Q) (r : Requester) (ch : Fin 64) (s : State) (hq : Q s.regs) :
    ∃ u, execCalCommit r ch s = .next u ∧ Q u.regs := by
  refine ⟨_, rfl, ?_⟩
  repeat' (first | with_reducible assumption | with_reducible apply Block.chCmdWrite_keep K | dsimp only | intro _)

theorem execCalCancel_keep (K : KeptBySet Q) (r : Requester) (ch : Fin 64) (s : State) (hq : Q s.regs) :
    ∃ u, execCalCancel r ch s = .next u ∧ Q u.regs := by
  refine ⟨_, rfl, ?_⟩
  repeat' (first | with_reducible assumption | with_reducible apply Block.chCmdWrite_keep K | dsimp only | intro _)

theorem execCalFactory_keep (K : KeptBySet Q) (r : Requester) (ch : Fin 64) (s : State) (hq : Q s.regs) :
    ∃ u, execCalFactory r ch s = .next u ∧ Q u.regs := by
  refine ⟨_, rfl, ?_⟩
  repeat' (first | with_reducible assumption | with_reducible apply Block.chCmdWrite_keep K | dsimp only | intro _)

theorem execCalPointAveraged_keep (K : KeptBySet Q) (ch : Fin 64) (avg : Word) (s : State) (hq : Q s.regs) :
    ∃ u, execCalPointAveraged ch avg s = .next u ∧ Q u.regs := by
  refine ⟨_, rfl, ?_⟩
  repeat' (first | with_reducible assumption | with_reducible apply Block.calPoint_keep K | with_reducible refine Block.when_keep _ _ _ ?_ (fun _ => ?_) | with_reducible apply Block.fset_keep K | with_reducible apply Block.modChan_keep K | with_reducible apply Block.chRefresh_keep K | with_reducible apply Block.chDone_keep K | with_reducible refine ite_keep ?_ ?_ | split | dsimp only | with_reducible refine pair_keep (by with_reducible assumption) ?_ | with_reducible refine pair_keep' (by with_reducible assumption) ?_ | intro _)

theorem execCalTrimsDurable_keep (K : KeptBySet Q) (ch : Fin 64) (s : State) (hq : Q s.regs) :
    ∃ u, execCalTrimsDurable ch s = .next u ∧ Q u.regs := by
  refine ⟨_, rfl, ?_⟩
  repeat' (first | with_reducible assumption | with_reducible apply Block.setRegN_keep K | with_reducible apply Block.fset_keep K | with_reducible apply Block.incSat_keep K | with_reducible apply Block.localEnded_keep K | with_reducible apply Block.modChan_keep K | with_reducible apply Block.chRefresh_keep K | with_reducible apply Block.event_keep K | with_reducible apply Block.chDone_keep K | with_reducible refine ite_keep ?_ ?_ | split | dsimp only | with_reducible refine pair_keep (by with_reducible assumption) ?_ | with_reducible refine pair_keep' (by with_reducible assumption) ?_ | intro _)

theorem execCalSessionTimeout_keep (K : KeptBySet Q) (ch : Fin 64) (s : State) (hq : Q s.regs) :
    ∃ u, execCalSessionTimeout ch s = .next u ∧ Q u.regs := by
  refine ⟨_, rfl, ?_⟩
  repeat' (first | with_reducible assumption | with_reducible refine Block.when_keep _ _ _ ?_ (fun _ => ?_) | with_reducible apply Block.calEnd_keep K | dsimp only | intro _)

theorem execHartBindWrite_keep (K : KeptBySet Q) (r : Requester) (ch : Fin 64) (v : Word) (s : State) (hq : Q s.regs) :
    ∃ u, execHartBindWrite r ch v s = .next u ∧ Q u.regs := by
  refine ⟨_, rfl, ?_⟩
  repeat' (first | with_reducible assumption | with_reducible apply Block.hartCfgWrite_keep K | with_reducible apply Block.out_keep K | with_reducible refine ite_keep ?_ ?_ | split | dsimp only | with_reducible refine pair_keep (by with_reducible assumption) ?_ | with_reducible refine pair_keep' (by with_reducible assumption) ?_ | intro _)

theorem execSubmit_keep (K : KeptBySet Q) (r : Requester) (t : Fin 16) (v : Word) (s : State) (hq : Q s.regs) :
    ∃ u, execSubmit r t v s = .next u ∧ Q u.regs := by
  refine ⟨_, rfl, ?_⟩
  repeat' (first | with_reducible assumption | with_reducible apply Block.hartCtlWrite_keep K | dsimp only | intro _)

theorem execHartCancel_keep (K : KeptBySet Q) (r : Requester) (t : Fin 16) (v : Word) (s : State) (hq : Q s.regs) :
    ∃ u, execHartCancel r t v s = .next u ∧ Q u.regs := by
  refine ⟨_, rfl, ?_⟩
  repeat' (first | with_reducible assumption | with_reducible apply Block.hartCtlWrite_keep K | dsimp only | intro _)

theorem execHartTransactionStart_keep (K : KeptBySet Q) (ch : Fin 64) (foreign : Bool) (s : State) (hq : Q s.regs) :
    ∃ u, execHartTransactionStart ch foreign s = .next u ∧ Q u.regs := by
  refine ⟨_, rfl, ?_⟩
  repeat' (first | with_reducible assumption | with_reducible apply Block.hartForeign_keep K | with_reducible apply Block.hartStart_keep K | with_reducible refine ite_keep ?_ ?_ | dsimp only | intro _)

theorem execHartResponse_keep (K : KeptBySet Q) (ch : Fin 64) (rsp : HartRsp) (s : State) (hq : Q s.regs) :
    ∃ u, execHartResponse ch rsp s = .next u ∧ Q u.regs := by
  refine ⟨_, rfl, ?_⟩
  repeat' (first | with_reducible assumption | with_reducible apply Block.hartStore_keep K | with_reducible apply Block.fset_keep K | with_reducible refine Block.when_keep _ _ _ ?_ (fun _ => ?_) | with_reducible apply Block.hartUpdate_keep K | with_reducible apply Block.hartEnd_keep K | with_reducible refine ite_keep ?_ ?_ | split | dsimp only | with_reducible refine pair_keep (by with_reducible assumption) ?_ | with_reducible refine pair_keep' (by with_reducible assumption) ?_ | intro _)

theorem execHartResponseTimeout_keep (K : KeptBySet Q) (ch : Fin 64) (foreign : Bool) (s : State) (hq : Q s.regs) :
    ∃ u, execHartResponseTimeout ch foreign s = .next u ∧ Q u.regs := by
  refine ⟨_, rfl, ?_⟩
  repeat' (first | with_reducible assumption | with_reducible apply Block.hartForeign_keep K | with_reducible apply Block.hartAgain_keep K | with_reducible apply Block.hartEnd_keep K | with_reducible refine ite_keep ?_ ?_ | split | dsimp only | with_reducible refine pair_keep (by with_reducible assumption) ?_ | with_reducible refine pair_keep' (by with_reducible assumption) ?_ | intro _)

theorem execHartWaitExpiry_keep (K : KeptBySet Q) (ch : Fin 64) (slot : Option (Fin 16)) (s : State) (hq : Q s.regs) :
    ∃ u, execHartWaitExpiry ch slot s = .next u ∧ Q u.regs := by
  refine ⟨_, rfl, ?_⟩
  repeat' (first | with_reducible assumption | with_reducible refine Block.when_keep _ _ _ ?_ (fun _ => ?_) | with_reducible apply Block.hartDrop_keep K | split | dsimp only | with_reducible refine pair_keep (by with_reducible assumption) ?_ | with_reducible refine pair_keep' (by with_reducible assumption) ?_ | intro _)

theorem execHartBurstFrame_keep (K : KeptBySet Q) (ch : Fin 64) (addr : Fin 16) (cmd respCode devStatus : BitVec 8) (vars : List Word) (s : State) (hq : Q s.regs) :
    ∃ u, execHartBurstFrame ch addr cmd respCode devStatus vars s = .next u ∧ Q u.regs := by
  refine ⟨_, rfl, ?_⟩
  repeat' (first | with_reducible assumption | with_reducible apply Block.hartCarrier_keep K | with_reducible apply Block.incSat_keep K | with_reducible apply Block.raiseEvt_keep K | with_reducible apply Block.hartBurstEnd_keep K | with_reducible refine Block.when_keep _ _ _ ?_ (fun _ => ?_) | with_reducible apply Block.hartUpdate_keep K | with_reducible refine ite_keep ?_ ?_ | dsimp only | intro _)

theorem execHartCarrierSilence_keep (K : KeptBySet Q) (ch : Fin 64) (s : State) (hq : Q s.regs) :
    ∃ u, execHartCarrierSilence ch s = .next u ∧ Q u.regs := by
  refine ⟨_, rfl, ?_⟩
  repeat' (first | with_reducible assumption | with_reducible refine ite_keep ?_ ?_ | dsimp only | intro _)

theorem execHartPoll_keep (K : KeptBySet Q) (ch : Fin 64) (s : State) (hq : Q s.regs) :
    ∃ u, execHartPoll ch s = .next u ∧ Q u.regs := by
  refine ⟨_, rfl, ?_⟩
  repeat' (first | with_reducible assumption | with_reducible apply Block.timed_keep K | with_reducible apply Block.hartQueue_keep K | with_reducible refine ite_keep ?_ ?_ | dsimp only | intro _)

theorem execHartModemFault_keep (K : KeptBySet Q) (m : Fin 16) (s : State) (hq : Q s.regs) :
    ∃ u, execHartModemFault m s = .next u ∧ Q u.regs := by
  refine ⟨_, rfl, ?_⟩
  repeat' (first | with_reducible assumption | with_reducible apply Block.modemFail_keep K | dsimp only | intro _)

theorem execChModeWrite_keep (K : KeptBySet Q) (r : Requester) (ch : Fin 64) (v : Word) (s : State) (hq : Q s.regs) :
    ∃ u, execChModeWrite r ch v s = .next u ∧ Q u.regs := by
  refine ⟨_, rfl, ?_⟩
  repeat' (first | with_reducible assumption | with_reducible apply Block.chModeSet_keep K | with_reducible apply Block.out_keep K | with_reducible refine ite_keep ?_ ?_ | split | dsimp only | with_reducible refine pair_keep (by with_reducible assumption) ?_ | with_reducible refine pair_keep' (by with_reducible assumption) ?_ | intro _)

theorem execLinkCycle_keep (K : KeptBySet Q) (seg : Fin 2) (s : State) (hq : Q s.regs) :
    ∃ u, execLinkCycle seg s = .next u ∧ Q u.regs := by
  refine ⟨_, rfl, ?_⟩
  repeat' (first | with_reducible assumption | with_reducible refine Block.when_keep _ _ _ ?_ (fun _ => ?_) | with_reducible apply Block.lnkRing_keep K | with_reducible apply Block.setLnkSeg_keep K | with_reducible refine Block.forAll_keep _ _ _ ?_ (fun _ _ _ => ?_) | with_reducible apply Block.setLnkSt_keep K | with_reducible refine ite_keep ?_ ?_ | dsimp only | intro _)

theorem execLinkSendDeadline_keep (K : KeptBySet Q) (seg : Fin 2) (s : State) (hq : Q s.regs) :
    ∃ u, execLinkSendDeadline seg s = .next u ∧ Q u.regs := by
  refine ⟨_, rfl, ?_⟩
  repeat' (first | with_reducible assumption | with_reducible refine Block.when_keep _ _ _ ?_ (fun _ => ?_) | with_reducible apply Block.lnkSend_keep K | dsimp only | intro _)

theorem execHello_keep (K : KeptBySet Q) (h : LinkHello) (s : State) (hq : Q s.regs) :
    ∃ u, execHello h s = .next u ∧ Q u.regs := by
  refine ⟨_, rfl, ?_⟩
  repeat' (first | with_reducible assumption | with_reducible apply Block.lnkHello_keep K | dsimp only | intro _)

theorem execReady_keep (K : KeptBySet Q) (portB : Bool) (addr mac turn res arrival : Nat) (s : State) (hq : Q s.regs) :
    ∃ u, execReady portB addr mac turn res arrival s = .next u ∧ Q u.regs := by
  refine ⟨_, rfl, ?_⟩
  repeat' (first | with_reducible assumption | with_reducible apply Block.setLnkSt_keep K | with_reducible apply Block.lnkDelays_keep K | with_reducible apply Block.lnkSet_keep K | with_reducible apply Block.lnkRefuse_keep K | with_reducible refine ite_keep ?_ ?_ | split | dsimp only | with_reducible refine pair_keep (by with_reducible assumption) ?_ | with_reducible refine pair_keep' (by with_reducible assumption) ?_ | intro _)

theorem execLinkWindowEnd_keep (K : KeptBySet Q) (seg : Fin 2) (s : State) (hq : Q s.regs) :
    ∃ u, execLinkWindowEnd seg s = .next u ∧ Q u.regs := by
  refine ⟨_, rfl, ?_⟩
  repeat' (first | with_reducible assumption | with_reducible apply Block.echoEnd_keep K | with_reducible apply Block.lnkReceipt_keep K | with_reducible refine Block.forAll_keep _ _ _ ?_ (fun _ _ _ => ?_) | with_reducible apply Block.setLnkSt_keep K | with_reducible refine Block.when_keep _ _ _ ?_ (fun _ => ?_) | with_reducible apply Block.lnkReach_keep K | with_reducible apply Block.lnkSet_keep K | with_reducible apply Block.lnkRing_keep K | with_reducible apply Block.setLnkSeg_keep K | with_reducible apply Block.lnkConfigs_keep K | with_reducible refine ite_keep ?_ ?_ | dsimp only | intro _)

theorem execLinkPortLost_keep (K : KeptBySet Q) (portB : Bool) (s : State) (hq : Q s.regs) :
    ∃ u, execLinkPortLost portB s = .next u ∧ Q u.regs := by
  refine ⟨_, rfl, ?_⟩
  repeat' (first | with_reducible assumption | with_reducible apply Block.fset_keep K | with_reducible apply Block.raiseEvt_keep K | with_reducible refine Block.forAll_keep _ _ _ ?_ (fun _ _ _ => ?_) | with_reducible refine ite_keep ?_ ?_ | dsimp only | intro _)

theorem execLinkPortLinkUp_keep (K : KeptBySet Q) (portB : Bool) (s : State) (hq : Q s.regs) :
    ∃ u, execLinkPortLinkUp portB s = .next u ∧ Q u.regs := by
  refine ⟨_, rfl, ?_⟩
  repeat' (first | with_reducible assumption | with_reducible apply Block.fset_keep K | with_reducible refine ite_keep ?_ ?_ | dsimp only | intro _)

theorem execLinkOutFrameReturn_keep (K : KeptBySet Q) (portB : Bool) (s : State) (hq : Q s.regs) :
    ∃ u, execLinkOutFrameReturn portB s = .next u ∧ Q u.regs := by
  refine ⟨_, rfl, ?_⟩
  repeat' (first | with_reducible assumption | with_reducible apply Block.setLnkSeg_keep K | with_reducible refine ite_keep ?_ ?_ | dsimp only | intro _)

theorem execLinkStrayFrame_keep (K : KeptBySet Q) (portB fcsBad : Bool) (s : State) (hq : Q s.regs) :
    ∃ u, execLinkStrayFrame portB fcsBad s = .next u ∧ Q u.regs := by
  refine ⟨_, rfl, ?_⟩
  repeat' (first | with_reducible assumption | with_reducible apply Block.incSat_keep K | with_reducible apply Block.raiseEvt_keep K | with_reducible refine ite_keep ?_ ?_ | dsimp only | intro _)

theorem execLinkDrop_keep (K : KeptBySet Q) (r : Requester) (addr : Nat) (s : State) (hq : Q s.regs) :
    ∃ u, execLinkDrop r addr s = .next u ∧ Q u.regs := by
  refine ⟨_, rfl, ?_⟩
  repeat' (first | with_reducible assumption | with_reducible apply Block.cmdWrite_keep K | with_reducible apply Block.lnkCommand_keep K | dsimp only | intro _)

theorem execLinkAdmit_keep (K : KeptBySet Q) (r : Requester) (addr : Nat) (s : State) (hq : Q s.regs) :
    ∃ u, execLinkAdmit r addr s = .next u ∧ Q u.regs := by
  refine ⟨_, rfl, ?_⟩
  repeat' (first | with_reducible assumption | with_reducible apply Block.cmdWrite_keep K | with_reducible apply Block.lnkCommand_keep K | dsimp only | intro _)

theorem execCanTxInstant_keep (K : KeptBySet Q) (p : Fin 4) (slot : Fin 32) (idle : Bool) (s : State) (hq : Q s.regs) :
    ∃ u, execCanTxInstant p slot idle s = .next u ∧ Q u.regs := by
  refine ⟨_, rfl, ?_⟩
  repeat' (first | with_reducible assumption | with_reducible apply Block.canBus_keep K | with_reducible refine Block.when_keep _ _ _ ?_ (fun _ => ?_) | with_reducible apply Block.canInstant_keep K | with_reducible apply Block.canAimed_keep K | with_reducible apply Block.canStart_keep K | dsimp only | intro _)

theorem execCanErrorFrame_keep (K : KeptBySet Q) (p : Fin 4) (kind : Fin 7) (tecInc recInc : Nat) (s : State) (hq : Q s.regs) :
    ∃ u, execCanErrorFrame p kind tecInc recInc s = .next u ∧ Q u.regs := by
  refine ⟨_, rfl, ?_⟩
  repeat' (first | with_reducible assumption | with_reducible apply Block.incSat_keep K | with_reducible apply Block.raiseEvt_keep K | with_reducible apply Block.canBus_keep K | with_reducible apply Block.canError_keep K | with_reducible apply Block.canStart_keep K | with_reducible refine ite_keep ?_ ?_ | dsimp only | intro _)

theorem execCanFrameRx_keep (K : KeptBySet Q) (p : Fin 4) (f : CanFrame) (s : State) (hq : Q s.regs) :
    ∃ u, execCanFrameRx p f s = .next u ∧ Q u.regs := by
  refine ⟨_, rfl, ?_⟩
  repeat' (first | with_reducible assumption | with_reducible apply Block.canBus_keep K | with_reducible apply Block.canError_keep K | with_reducible apply Block.canStore_keep K | with_reducible apply Block.canReceived_keep K | with_reducible apply Block.canStart_keep K | with_reducible refine ite_keep ?_ ?_ | dsimp only | intro _)

theorem execCanTxAttemptEnd_keep (K : KeptBySet Q) (p : Fin 4) (e : CanEnd) (sofNs sofSec meas : Nat) (s : State) (hq : Q s.regs) :
    ∃ u, execCanTxAttemptEnd p e sofNs sofSec meas s = .next u ∧ Q u.regs := by
  refine ⟨_, rfl, ?_⟩
  repeat' (first | with_reducible assumption | with_reducible apply Block.canAttemptEnd_keep K | dsimp only | intro _)

theorem execRecover_keep (K : KeptBySet Q) (r : Requester) (p : Fin 4) (s : State) (hq : Q s.regs) :
    ∃ u, execRecover r p s = .next u ∧ Q u.regs := by
  refine ⟨_, rfl, ?_⟩
  repeat' (first | with_reducible assumption | with_reducible apply Block.cmdWrite_keep K | with_reducible apply Block.canRecover_keep K | dsimp only | intro _)

theorem execCanRecoveryComplete_keep (K : KeptBySet Q) (p : Fin 4) (s : State) (hq : Q s.regs) :
    ∃ u, execCanRecoveryComplete p s = .next u ∧ Q u.regs := by
  refine ⟨_, rfl, ?_⟩
  repeat' (first | with_reducible assumption | with_reducible apply Block.fset_keep K | with_reducible apply Block.canCounters_keep K | with_reducible apply Block.raiseEvt_keep K | with_reducible refine ite_keep ?_ ?_ | dsimp only | intro _)

theorem execCanModeChange_keep (K : KeptBySet Q) (p : Fin 4) (s : State) (hq : Q s.regs) :
    ∃ u, execCanModeChange p s = .next u ∧ Q u.regs := by
  refine ⟨_, rfl, ?_⟩
  repeat' (first | with_reducible assumption | with_reducible refine Block.when_keep _ _ _ ?_ (fun _ => ?_) | with_reducible apply Block.canTakeMode_keep K | dsimp only | intro _)

theorem execCancel_keep (K : KeptBySet Q) (r : Requester) (job : Fin 16) (v : Word) (made : SolAt) (s : State) (hq : Q s.regs) :
    ∃ u, execCancel r job v made s = .next u ∧ Q u.regs := by
  refine ⟨_, rfl, ?_⟩
  repeat' (first | with_reducible assumption | with_reducible apply Block.cmdWrite_keep K | with_reducible apply Block.fset_keep K | with_reducible apply Block.solScan_keep K | with_reducible refine ite_keep ?_ ?_ | split | dsimp only | with_reducible refine pair_keep (by with_reducible assumption) ?_ | with_reducible refine pair_keep' (by with_reducible assumption) ?_ | intro _)

theorem execSolverJobStart_keep (K : KeptBySet Q) (s : State) (hq : Q s.regs) :
    ∃ u, execSolverJobStart s = .next u ∧ Q u.regs := by
  refine ⟨_, rfl, ?_⟩
  repeat' (first | with_reducible assumption | with_reducible apply Block.solStart_keep K | with_reducible refine ite_keep ?_ ?_ | split | dsimp only | with_reducible refine pair_keep (by with_reducible assumption) ?_ | with_reducible refine pair_keep' (by with_reducible assumption) ?_ | intro _)

theorem execSolverJobEnd_keep (K : KeptBySet Q) (s : State) (hq : Q s.regs) :
    ∃ u, execSolverJobEnd s = .next u ∧ Q u.regs := by
  refine ⟨_, rfl, ?_⟩
  repeat' (first | with_reducible assumption | with_reducible apply Block.solEnd_keep K | split | dsimp only | with_reducible refine pair_keep (by with_reducible assumption) ?_ | with_reducible refine pair_keep' (by with_reducible assumption) ?_ | intro _)

theorem execSolverDeadline_keep (K : KeptBySet Q) (made : SolAt) (s : State) (hq : Q s.regs) :
    ∃ u, execSolverDeadline made s = .next u ∧ Q u.regs := by
  refine ⟨_, rfl, ?_⟩
  repeat' (first | with_reducible assumption | with_reducible apply Block.solEnd_keep K | with_reducible refine ite_keep ?_ ?_ | split | dsimp only | with_reducible refine pair_keep (by with_reducible assumption) ?_ | with_reducible refine pair_keep' (by with_reducible assumption) ?_ | intro _)

theorem execSet_keep (K : KeptBySet Q) (r : Requester) (s : State) (hq : Q s.regs) :
    ∃ u, execSet r s = .next u ∧ Q u.regs := by
  refine ⟨_, rfl, ?_⟩
  repeat' (first | with_reducible assumption | with_reducible apply Block.frcCmdWrite_keep K | dsimp only | intro _)

theorem execRelease_keep (K : KeptBySet Q) (r : Requester) (s : State) (hq : Q s.regs) :
    ∃ u, execRelease r s = .next u ∧ Q u.regs := by
  refine ⟨_, rfl, ?_⟩
  repeat' (first | with_reducible assumption | with_reducible apply Block.frcCmdWrite_keep K | dsimp only | intro _)

theorem execReleaseAll_keep (K : KeptBySet Q) (r : Requester) (s : State) (hq : Q s.regs) :
    ∃ u, execReleaseAll r s = .next u ∧ Q u.regs := by
  refine ⟨_, rfl, ?_⟩
  repeat' (first | with_reducible assumption | with_reducible apply Block.frcCmdWrite_keep K | dsimp only | intro _)

theorem execReadForce_keep (K : KeptBySet Q) (r : Requester) (index : Fin 512) (s : State) (hq : Q s.regs) :
    ∃ u, execReadForce r index s = .next u ∧ Q u.regs := by
  refine ⟨_, rfl, ?_⟩
  repeat' (first | with_reducible assumption | with_reducible apply Block.frcCmdWrite_keep K | dsimp only | intro _)

theorem execForceAcknowledge_keep (K : KeptBySet Q) (partnerOk : Bool) (s : State) (hq : Q s.regs) :
    ∃ u, execForceAcknowledge partnerOk s = .next u ∧ Q u.regs := by
  refine ⟨_, rfl, ?_⟩
  repeat' (first | with_reducible assumption | with_reducible refine Block.when_keep _ _ _ ?_ (fun _ => ?_) | with_reducible apply Block.frcAck_keep K | dsimp only | intro _)

theorem execContextTrigger_keep (K : KeptBySet Q) (c : Fin 256) (s : State) (hq : Q s.regs) :
    ∃ u, execContextTrigger c s = .next u ∧ Q u.regs := by
  refine ⟨_, rfl, ?_⟩
  repeat' (first | with_reducible assumption | with_reducible apply Block.trigger_keep K | dsimp only | intro _)

theorem execContextDispatch_keep (K : KeptBySet Q) (c : Fin 256) (s : State) (hq : Q s.regs) :
    ∃ u, execContextDispatch c s = .next u ∧ Q u.regs := by
  refine ⟨_, rfl, ?_⟩
  repeat' (first | with_reducible assumption | with_reducible apply Block.dispatch_keep K | with_reducible apply Block.defer_keep K | with_reducible refine ite_keep ?_ ?_ | dsimp only | intro _)

theorem execNop_keep (K : KeptBySet Q) (c : Fin 256) (s : State) (hq : Q s.regs) :
    ∃ u, execNop c s = .next u ∧ Q u.regs := by
  refine ⟨_, rfl, ?_⟩
  repeat' (first | with_reducible assumption | with_reducible apply Block.lvc_keep K | dsimp only | intro _)

theorem execEndCycle_keep (K : KeptBySet Q) (c : Fin 256) (s : State) (hq : Q s.regs) :
    ∃ u, execEndCycle c s = .next u ∧ Q u.regs := by
  refine ⟨_, rfl, ?_⟩
  repeat' (first | with_reducible assumption | with_reducible apply Block.lvc_keep K | with_reducible apply Block.endCycle_keep K | dsimp only | intro _)

theorem execTrap_keep (K : KeptBySet Q) (c : Fin 256) (s1 : Fin 4096) (s : State) (hq : Q s.regs) :
    ∃ u, execTrap c s1 s = .next u ∧ Q u.regs := by
  refine ⟨_, rfl, ?_⟩
  repeat' (first | with_reducible assumption | with_reducible apply Block.lvc_keep K | dsimp only | intro _)

theorem execMov_keep (K : KeptBySet Q) (c : Fin 256) (d s1 : Fin 4096) (s : State) (hq : Q s.regs) :
    ∃ u, execMov c d s1 s = .next u ∧ Q u.regs := by
  refine ⟨_, rfl, ?_⟩
  repeat' (first | with_reducible assumption | with_reducible apply Block.lvc_keep K | dsimp only | intro _)

theorem execMov64_keep (K : KeptBySet Q) (c : Fin 256) (d s1 : Fin 4096) (s : State) (hq : Q s.regs) :
    ∃ u, execMov64 c d s1 s = .next u ∧ Q u.regs := by
  refine ⟨_, rfl, ?_⟩
  repeat' (first | with_reducible assumption | with_reducible apply Block.lvc_keep K | dsimp only | intro _)

theorem execLdi_keep (K : KeptBySet Q) (c : Fin 256) (d : Fin 4096) (imm : Word) (s : State) (hq : Q s.regs) :
    ∃ u, execLdi c d imm s = .next u ∧ Q u.regs := by
  refine ⟨_, rfl, ?_⟩
  repeat' (first | with_reducible assumption | with_reducible apply Block.lvc_keep K | dsimp only | intro _)

theorem execLdk_keep (K : KeptBySet Q) (c : Fin 256) (d : Fin 4096) (idx : Nat) (s : State) (hq : Q s.regs) :
    ∃ u, execLdk c d idx s = .next u ∧ Q u.regs := by
  refine ⟨_, rfl, ?_⟩
  repeat' (first | with_reducible assumption | with_reducible apply Block.lvc_keep K | dsimp only | intro _)

theorem execLdx_keep (K : KeptBySet Q) (c : Fin 256) (d s1 base n : Fin 4096) (s : State) (hq : Q s.regs) :
    ∃ u, execLdx c d s1 base n s = .next u ∧ Q u.regs := by
  refine ⟨_, rfl, ?_⟩
  repeat' (first | with_reducible assumption | with_reducible apply Block.lvc_keep K | dsimp only | intro _)

theorem execStx_keep (K : KeptBySet Q) (c : Fin 256) (d s1 base n : Fin 4096) (s : State) (hq : Q s.regs) :
    ∃ u, execStx c d s1 base n s = .next u ∧ Q u.regs := by
  refine ⟨_, rfl, ?_⟩
  repeat' (first | with_reducible assumption | with_reducible apply Block.lvc_keep K | dsimp only | intro _)

theorem execAdd_keep (K : KeptBySet Q) (c : Fin 256) (t : Fin 16) (d s1 s2 : Fin 4096) (s : State) (hq : Q s.regs) :
    ∃ u, execAdd c t d s1 s2 s = .next u ∧ Q u.regs := by
  refine ⟨_, rfl, ?_⟩
  repeat' (first | with_reducible assumption | with_reducible apply Block.lvc_keep K | dsimp only | intro _)

theorem execSub_keep (K : KeptBySet Q) (c : Fin 256) (t : Fin 16) (d s1 s2 : Fin 4096) (s : State) (hq : Q s.regs) :
    ∃ u, execSub c t d s1 s2 s = .next u ∧ Q u.regs := by
  refine ⟨_, rfl, ?_⟩
  repeat' (first | with_reducible assumption | with_reducible apply Block.lvc_keep K | dsimp only | intro _)

theorem execMul_keep (K : KeptBySet Q) (c : Fin 256) (t : Fin 16) (d s1 s2 : Fin 4096) (s : State) (hq : Q s.regs) :
    ∃ u, execMul c t d s1 s2 s = .next u ∧ Q u.regs := by
  refine ⟨_, rfl, ?_⟩
  repeat' (first | with_reducible assumption | with_reducible apply Block.lvc_keep K | dsimp only | intro _)

theorem execDiv_keep (K : KeptBySet Q) (c : Fin 256) (t : Fin 16) (d s1 s2 : Fin 4096) (s : State) (hq : Q s.regs) :
    ∃ u, execDiv c t d s1 s2 s = .next u ∧ Q u.regs := by
  refine ⟨_, rfl, ?_⟩
  repeat' (first | with_reducible assumption | with_reducible apply Block.lvc_keep K | dsimp only | intro _)

theorem execRem_keep (K : KeptBySet Q) (c : Fin 256) (t : Fin 16) (d s1 s2 : Fin 4096) (s : State) (hq : Q s.regs) :
    ∃ u, execRem c t d s1 s2 s = .next u ∧ Q u.regs := by
  refine ⟨_, rfl, ?_⟩
  repeat' (first | with_reducible assumption | with_reducible apply Block.lvc_keep K | dsimp only | intro _)

theorem execMin_keep (K : KeptBySet Q) (c : Fin 256) (t : Fin 16) (d s1 s2 : Fin 4096) (s : State) (hq : Q s.regs) :
    ∃ u, execMin c t d s1 s2 s = .next u ∧ Q u.regs := by
  refine ⟨_, rfl, ?_⟩
  repeat' (first | with_reducible assumption | with_reducible apply Block.lvc_keep K | dsimp only | intro _)

theorem execMax_keep (K : KeptBySet Q) (c : Fin 256) (t : Fin 16) (d s1 s2 : Fin 4096) (s : State) (hq : Q s.regs) :
    ∃ u, execMax c t d s1 s2 s = .next u ∧ Q u.regs := by
  refine ⟨_, rfl, ?_⟩
  repeat' (first | with_reducible assumption | with_reducible apply Block.lvc_keep K | dsimp only | intro _)

theorem execFma_keep (K : KeptBySet Q) (c : Fin 256) (t : Fin 16) (d s1 s2 : Fin 4096) (s : State) (hq : Q s.regs) :
    ∃ u, execFma c t d s1 s2 s = .next u ∧ Q u.regs := by
  refine ⟨_, rfl, ?_⟩
  repeat' (first | with_reducible assumption | with_reducible apply Block.lvc_keep K | dsimp only | intro _)

theorem execNeg_keep (K : KeptBySet Q) (c : Fin 256) (t : Fin 16) (d s1 : Fin 4096) (s : State) (hq : Q s.regs) :
    ∃ u, execNeg c t d s1 s = .next u ∧ Q u.regs := by
  refine ⟨_, rfl, ?_⟩
  repeat' (first | with_reducible assumption | with_reducible apply Block.lvc_keep K | dsimp only | intro _)

theorem execAbs_keep (K : KeptBySet Q) (c : Fin 256) (t : Fin 16) (d s1 : Fin 4096) (s : State) (hq : Q s.regs) :
    ∃ u, execAbs c t d s1 s = .next u ∧ Q u.regs := by
  refine ⟨_, rfl, ?_⟩
  repeat' (first | with_reducible assumption | with_reducible apply Block.lvc_keep K | dsimp only | intro _)

theorem execSqrt_keep (K : KeptBySet Q) (c : Fin 256) (t : Fin 16) (d s1 : Fin 4096) (s : State) (hq : Q s.regs) :
    ∃ u, execSqrt c t d s1 s = .next u ∧ Q u.regs := by
  refine ⟨_, rfl, ?_⟩
  repeat' (first | with_reducible assumption | with_reducible apply Block.lvc_keep K | dsimp only | intro _)

theorem execAnd_keep (K : KeptBySet Q) (c : Fin 256) (t : Fin 16) (d s1 s2 : Fin 4096) (s : State) (hq : Q s.regs) :
    ∃ u, execAnd c t d s1 s2 s = .next u ∧ Q u.regs := by
  refine ⟨_, rfl, ?_⟩
  repeat' (first | with_reducible assumption | with_reducible apply Block.lvc_keep K | dsimp only | intro _)

theorem execOr_keep (K : KeptBySet Q) (c : Fin 256) (t : Fin 16) (d s1 s2 : Fin 4096) (s : State) (hq : Q s.regs) :
    ∃ u, execOr c t d s1 s2 s = .next u ∧ Q u.regs := by
  refine ⟨_, rfl, ?_⟩
  repeat' (first | with_reducible assumption | with_reducible apply Block.lvc_keep K | dsimp only | intro _)

theorem execXor_keep (K : KeptBySet Q) (c : Fin 256) (t : Fin 16) (d s1 s2 : Fin 4096) (s : State) (hq : Q s.regs) :
    ∃ u, execXor c t d s1 s2 s = .next u ∧ Q u.regs := by
  refine ⟨_, rfl, ?_⟩
  repeat' (first | with_reducible assumption | with_reducible apply Block.lvc_keep K | dsimp only | intro _)

theorem execShl_keep (K : KeptBySet Q) (c : Fin 256) (t : Fin 16) (d s1 s2 : Fin 4096) (s : State) (hq : Q s.regs) :
    ∃ u, execShl c t d s1 s2 s = .next u ∧ Q u.regs := by
  refine ⟨_, rfl, ?_⟩
  repeat' (first | with_reducible assumption | with_reducible apply Block.lvc_keep K | dsimp only | intro _)

theorem execShr_keep (K : KeptBySet Q) (c : Fin 256) (t : Fin 16) (d s1 s2 : Fin 4096) (s : State) (hq : Q s.regs) :
    ∃ u, execShr c t d s1 s2 s = .next u ∧ Q u.regs := by
  refine ⟨_, rfl, ?_⟩
  repeat' (first | with_reducible assumption | with_reducible apply Block.lvc_keep K | dsimp only | intro _)

theorem execRol_keep (K : KeptBySet Q) (c : Fin 256) (t : Fin 16) (d s1 s2 : Fin 4096) (s : State) (hq : Q s.regs) :
    ∃ u, execRol c t d s1 s2 s = .next u ∧ Q u.regs := by
  refine ⟨_, rfl, ?_⟩
  repeat' (first | with_reducible assumption | with_reducible apply Block.lvc_keep K | dsimp only | intro _)

theorem execRor_keep (K : KeptBySet Q) (c : Fin 256) (t : Fin 16) (d s1 s2 : Fin 4096) (s : State) (hq : Q s.regs) :
    ∃ u, execRor c t d s1 s2 s = .next u ∧ Q u.regs := by
  refine ⟨_, rfl, ?_⟩
  repeat' (first | with_reducible assumption | with_reducible apply Block.lvc_keep K | dsimp only | intro _)

theorem execNot_keep (K : KeptBySet Q) (c : Fin 256) (t : Fin 16) (d s1 : Fin 4096) (s : State) (hq : Q s.regs) :
    ∃ u, execNot c t d s1 s = .next u ∧ Q u.regs := by
  refine ⟨_, rfl, ?_⟩
  repeat' (first | with_reducible assumption | with_reducible apply Block.lvc_keep K | dsimp only | intro _)

theorem execEq_keep (K : KeptBySet Q) (c : Fin 256) (t : Fin 16) (d s1 s2 : Fin 4096) (s : State) (hq : Q s.regs) :
    ∃ u, execEq c t d s1 s2 s = .next u ∧ Q u.regs := by
  refine ⟨_, rfl, ?_⟩
  repeat' (first | with_reducible assumption | with_reducible apply Block.lvc_keep K | dsimp only | intro _)

theorem execNe_keep (K : KeptBySet Q) (c : Fin 256) (t : Fin 16) (d s1 s2 : Fin 4096) (s : State) (hq : Q s.regs) :
    ∃ u, execNe c t d s1 s2 s = .next u ∧ Q u.regs := by
  refine ⟨_, rfl, ?_⟩
  repeat' (first | with_reducible assumption | with_reducible apply Block.lvc_keep K | dsimp only | intro _)

theorem execLt_keep (K : KeptBySet Q) (c : Fin 256) (t : Fin 16) (d s1 s2 : Fin 4096) (s : State) (hq : Q s.regs) :
    ∃ u, execLt c t d s1 s2 s = .next u ∧ Q u.regs := by
  refine ⟨_, rfl, ?_⟩
  repeat' (first | with_reducible assumption | with_reducible apply Block.lvc_keep K | dsimp only | intro _)

theorem execLe_keep (K : KeptBySet Q) (c : Fin 256) (t : Fin 16) (d s1 s2 : Fin 4096) (s : State) (hq : Q s.regs) :
    ∃ u, execLe c t d s1 s2 s = .next u ∧ Q u.regs := by
  refine ⟨_, rfl, ?_⟩
  repeat' (first | with_reducible assumption | with_reducible apply Block.lvc_keep K | dsimp only | intro _)

theorem execGt_keep (K : KeptBySet Q) (c : Fin 256) (t : Fin 16) (d s1 s2 : Fin 4096) (s : State) (hq : Q s.regs) :
    ∃ u, execGt c t d s1 s2 s = .next u ∧ Q u.regs := by
  refine ⟨_, rfl, ?_⟩
  repeat' (first | with_reducible assumption | with_reducible apply Block.lvc_keep K | dsimp only | intro _)

theorem execGe_keep (K : KeptBySet Q) (c : Fin 256) (t : Fin 16) (d s1 s2 : Fin 4096) (s : State) (hq : Q s.regs) :
    ∃ u, execGe c t d s1 s2 s = .next u ∧ Q u.regs := by
  refine ⟨_, rfl, ?_⟩
  repeat' (first | with_reducible assumption | with_reducible apply Block.lvc_keep K | dsimp only | intro _)

theorem execCvt_keep (K : KeptBySet Q) (c : Fin 256) (trunc : Bool) (dst src : Fin 16) (d s1 : Fin 4096) (s : State) (hq : Q s.regs) :
    ∃ u, execCvt c trunc dst src d s1 s = .next u ∧ Q u.regs := by
  refine ⟨_, rfl, ?_⟩
  repeat' (first | with_reducible assumption | with_reducible apply Block.lvc_keep K | dsimp only | intro _)

theorem execCmov_keep (K : KeptBySet Q) (c : Fin 256) (t : Fin 16) (d s1 s2 : Fin 4096) (s : State) (hq : Q s.regs) :
    ∃ u, execCmov c t d s1 s2 s = .next u ∧ Q u.regs := by
  refine ⟨_, rfl, ?_⟩
  repeat' (first | with_reducible assumption | with_reducible apply Block.lvc_keep K | dsimp only | intro _)

theorem execBr_keep (K : KeptBySet Q) (c : Fin 256) (ofs : Int) (s : State) (hq : Q s.regs) :
    ∃ u, execBr c ofs s = .next u ∧ Q u.regs := by
  refine ⟨_, rfl, ?_⟩
  repeat' (first | with_reducible assumption | with_reducible apply Block.lvc_keep K | dsimp only | intro _)

theorem execBrt_keep (K : KeptBySet Q) (c : Fin 256) (s1 : Fin 4096) (ofs : Int) (s : State) (hq : Q s.regs) :
    ∃ u, execBrt c s1 ofs s = .next u ∧ Q u.regs := by
  refine ⟨_, rfl, ?_⟩
  repeat' (first | with_reducible assumption | with_reducible apply Block.lvc_keep K | dsimp only | intro _)

theorem execBrf_keep (K : KeptBySet Q) (c : Fin 256) (s1 : Fin 4096) (ofs : Int) (s : State) (hq : Q s.regs) :
    ∃ u, execBrf c s1 ofs s = .next u ∧ Q u.regs := by
  refine ⟨_, rfl, ?_⟩
  repeat' (first | with_reducible assumption | with_reducible apply Block.lvc_keep K | dsimp only | intro _)

theorem execCall_keep (K : KeptBySet Q) (c : Fin 256) (ofs : Int) (s : State) (hq : Q s.regs) :
    ∃ u, execCall c ofs s = .next u ∧ Q u.regs := by
  refine ⟨_, rfl, ?_⟩
  repeat' (first | with_reducible assumption | with_reducible apply Block.lvc_keep K | dsimp only | intro _)

theorem execRet_keep (K : KeptBySet Q) (c : Fin 256) (s : State) (hq : Q s.regs) :
    ∃ u, execRet c s = .next u ∧ Q u.regs := by
  refine ⟨_, rfl, ?_⟩
  repeat' (first | with_reducible assumption | with_reducible apply Block.lvc_keep K | dsimp only | intro _)

theorem execLoop_keep (K : KeptBySet Q) (c : Fin 256) (d : Fin 4096) (ofs : Int) (s : State) (hq : Q s.regs) :
    ∃ u, execLoop c d ofs s = .next u ∧ Q u.regs := by
  refine ⟨_, rfl, ?_⟩
  repeat' (first | with_reducible assumption | with_reducible apply Block.lvc_keep K | dsimp only | intro _)

theorem execGld_keep (K : KeptBySet Q) (c : Fin 256) (d : Fin 4096) (idx : Nat) (s : State) (hq : Q s.regs) :
    ∃ u, execGld c d idx s = .next u ∧ Q u.regs := by
  refine ⟨_, rfl, ?_⟩
  repeat' (first | with_reducible assumption | with_reducible apply Block.lvc_keep K | dsimp only | intro _)

theorem execGst_keep (K : KeptBySet Q) (c : Fin 256) (s1 : Fin 4096) (idx : Nat) (s : State) (hq : Q s.regs) :
    ∃ u, execGst c s1 idx s = .next u ∧ Q u.regs := by
  refine ⟨_, rfl, ?_⟩
  repeat' (first | with_reducible assumption | with_reducible apply Block.lvc_keep K | dsimp only | intro _)

theorem execIrd_keep (K : KeptBySet Q) (c : Fin 256) (d : Fin 4096) (idx : Nat) (s : State) (hq : Q s.regs) :
    ∃ u, execIrd c d idx s = .next u ∧ Q u.regs := by
  refine ⟨_, rfl, ?_⟩
  repeat' (first | with_reducible assumption | with_reducible apply Block.lvc_keep K | dsimp only | intro _)

theorem execIq_keep (K : KeptBySet Q) (c : Fin 256) (d : Fin 4096) (idx : Nat) (s : State) (hq : Q s.regs) :
    ∃ u, execIq c d idx s = .next u ∧ Q u.regs := by
  refine ⟨_, rfl, ?_⟩
  repeat' (first | with_reducible assumption | with_reducible apply Block.lvc_keep K | dsimp only | intro _)

theorem execIage_keep (K : KeptBySet Q) (c : Fin 256) (d : Fin 4096) (idx : Nat) (s : State) (hq : Q s.regs) :
    ∃ u, execIage c d idx s = .next u ∧ Q u.regs := by
  refine ⟨_, rfl, ?_⟩
  repeat' (first | with_reducible assumption | with_reducible apply Block.lvc_keep K | dsimp only | intro _)

theorem execOwr_keep (K : KeptBySet Q) (c : Fin 256) (s1 : Fin 4096) (idx : Nat) (s : State) (hq : Q s.regs) :
    ∃ u, execOwr c s1 idx s = .next u ∧ Q u.regs := by
  refine ⟨_, rfl, ?_⟩
  repeat' (first | with_reducible assumption | with_reducible apply Block.lvc_keep K | dsimp only | intro _)

theorem execTlatch_keep (K : KeptBySet Q) (c : Fin 256) (d : Fin 4096) (s : State) (hq : Q s.regs) :
    ∃ u, execTlatch c d s = .next u ∧ Q u.regs := by
  refine ⟨_, rfl, ?_⟩
  repeat' (first | with_reducible assumption | with_reducible apply Block.lvc_keep K | dsimp only | intro _)

theorem execTpos_keep (K : KeptBySet Q) (c : Fin 256) (d : Fin 4096) (base : Fin 2) (s : State) (hq : Q s.regs) :
    ∃ u, execTpos c d base s = .next u ∧ Q u.regs := by
  refine ⟨_, rfl, ?_⟩
  repeat' (first | with_reducible assumption | with_reducible apply Block.lvc_keep K | dsimp only | intro _)

theorem execCstat_keep (K : KeptBySet Q) (c : Fin 256) (d : Fin 4096) (s : State) (hq : Q s.regs) :
    ∃ u, execCstat c d s = .next u ∧ Q u.regs := by
  refine ⟨_, rfl, ?_⟩
  repeat' (first | with_reducible assumption | with_reducible apply Block.lvc_keep K | dsimp only | intro _)

theorem execXflags_keep (K : KeptBySet Q) (c : Fin 256) (d : Fin 4096) (s : State) (hq : Q s.regs) :
    ∃ u, execXflags c d s = .next u ∧ Q u.regs := by
  refine ⟨_, rfl, ?_⟩
  repeat' (first | with_reducible assumption | with_reducible apply Block.lvc_keep K | dsimp only | intro _)

theorem execLockoutCause_keep (K : KeptBySet Q) (cause : Fin 15) (ch : Option (Fin 64)) (s : State) (hq : Q s.regs) :
    ∃ u, execLockoutCause cause ch s = .next u ∧ Q u.regs := by
  refine ⟨_, rfl, ?_⟩
  repeat' (first | with_reducible assumption | with_reducible apply Block.lockout_keep K | with_reducible refine ite_keep ?_ ?_ | dsimp only | intro _)

theorem execIslandRecordRepeat_keep (K : KeptBySet Q) (s : State) (hq : Q s.regs) :
    ∃ u, execIslandRecordRepeat s = .next u ∧ Q u.regs := by
  refine ⟨_, rfl, ?_⟩
  repeat' (first | with_reducible assumption | with_reducible apply Block.islRecord_keep K | with_reducible refine ite_keep ?_ ?_ | dsimp only | intro _)

theorem execIslandHoldOff_keep (K : KeptBySet Q) (ch : Fin 64) (s : State) (hq : Q s.regs) :
    ∃ u, execIslandHoldOff ch s = .next u ∧ Q u.regs := by
  refine ⟨_, rfl, ?_⟩
  repeat' (first | with_reducible assumption | with_reducible apply Block.holdBegin_keep K | with_reducible refine ite_keep ?_ ?_ | dsimp only | intro _)

theorem execSafetyCycleStart_keep (K : KeptBySet Q) (ins : List SafIn) (cleared c2us : Nat) (s : State) (hq : Q s.regs) :
    ∃ u, execSafetyCycleStart ins cleared c2us s = .next u ∧ Q u.regs := by
  refine ⟨_, rfl, ?_⟩
  repeat' (first | with_reducible assumption | with_reducible refine Block.when_keep _ _ _ ?_ (fun _ => ?_) | with_reducible apply Block.cycleBegun_keep K | with_reducible apply Block.islStart_keep K | with_reducible apply Block.islDiagnose_keep K | with_reducible apply Block.islCycle_keep K | dsimp only | intro _)

theorem execSafeRstPulse_keep (K : KeptBySet Q) (ms : Nat) (s : State) (hq : Q s.regs) :
    ∃ u, execSafeRstPulse ms s = .next u ∧ Q u.regs := by
  refine ⟨_, rfl, ?_⟩
  repeat' (first | with_reducible assumption | with_reducible apply Block.islResult_keep K | with_reducible apply Block.resetRequest_keep K | with_reducible apply Block.startCommand_keep K | with_reducible refine ite_keep ?_ ?_ | dsimp only | intro _)

theorem execSignedReset_keep (K : KeptBySet Q) (session serial : Nat) (nonce : Word) (sig : List Word) (s : State) (hq : Q s.regs) :
    ∃ u, execSignedReset session serial nonce sig s = .next u ∧ Q u.regs := by
  refine ⟨_, rfl, ?_⟩
  repeat' (first | with_reducible assumption | with_reducible apply Block.signedCommand_keep K | with_reducible refine ite_keep ?_ ?_ | dsimp only | intro _)

theorem execSignedStart_keep (K : KeptBySet Q) (session serial : Nat) (nonce : Word) (sig : List Word) (s : State) (hq : Q s.regs) :
    ∃ u, execSignedStart session serial nonce sig s = .next u ∧ Q u.regs := by
  refine ⟨_, rfl, ?_⟩
  repeat' (first | with_reducible assumption | with_reducible apply Block.signedCommand_keep K | with_reducible refine ite_keep ?_ ?_ | dsimp only | intro _)

theorem execResetSelftestComplete_keep (K : KeptBySet Q) (fail : Nat) (s : State) (hq : Q s.regs) :
    ∃ u, execResetSelftestComplete fail s = .next u ∧ Q u.regs := by
  refine ⟨_, rfl, ?_⟩
  repeat' (first | with_reducible assumption | with_reducible apply Block.fset_keep K | with_reducible apply Block.raiseEvt_keep K | with_reducible apply Block.coresUp_keep K | with_reducible apply Block.setRegN_keep K | with_reducible apply Block.timed_keep K | with_reducible apply Block.islRecord_keep K | with_reducible apply Block.resetRefused_keep K | with_reducible refine ite_keep ?_ ?_ | dsimp only | intro _)

theorem execResetRecordDurable_keep (K : KeptBySet Q) (s : State) (hq : Q s.regs) :
    ∃ u, execResetRecordDurable s = .next u ∧ Q u.regs := by
  refine ⟨_, rfl, ?_⟩
  repeat' (first | with_reducible assumption | with_reducible apply Block.setRegN_keep K | with_reducible apply Block.fset_keep K | with_reducible refine Block.forAll_keep _ _ _ ?_ (fun _ _ _ => ?_) | with_reducible refine Block.when_keep _ _ _ ?_ (fun _ => ?_) | with_reducible apply Block.islEnter_keep K | with_reducible apply Block.islResult_keep K | with_reducible refine ite_keep ?_ ?_ | dsimp only | intro _)

theorem execResetRecordTimeout_keep (K : KeptBySet Q) (s : State) (hq : Q s.regs) :
    ∃ u, execResetRecordTimeout s = .next u ∧ Q u.regs := by
  refine ⟨_, rfl, ?_⟩
  repeat' (first | with_reducible assumption | with_reducible apply Block.resetRefused_keep K | with_reducible refine ite_keep ?_ ?_ | dsimp only | intro _)

theorem execImageLoad_keep (K : KeptBySet Q) (session : Nat) (image : List Word) (s : State) (hq : Q s.regs) :
    ∃ u, execImageLoad session image s = .next u ∧ Q u.regs := by
  refine ⟨_, rfl, ?_⟩
  repeat' (first | with_reducible assumption | with_reducible apply Block.loadImage_keep K | with_reducible apply Block.sspSend_keep K | with_reducible refine ite_keep ?_ ?_ | split | dsimp only | with_reducible refine pair_keep (by with_reducible assumption) ?_ | with_reducible refine pair_keep' (by with_reducible assumption) ?_ | intro _)

theorem execPackageReceived_keep (K : KeptBySet Q) (s : State) (hq : Q s.regs) :
    ∃ u, execPackageReceived s = .next u ∧ Q u.regs := by
  refine ⟨_, rfl, ?_⟩
  repeat' (first | with_reducible assumption | with_reducible apply Block.setRegN_keep K | with_reducible apply Block.fset_keep K | with_reducible apply Block.raiseEvt_keep K | with_reducible apply Block.olcTell_keep K | with_reducible refine ite_keep ?_ ?_ | dsimp only | intro _)

theorem execPackageVerifyComplete_keep (K : KeptBySet Q) (partnerOk : Bool) (s : State) (hq : Q s.regs) :
    ∃ u, execPackageVerifyComplete partnerOk s = .next u ∧ Q u.regs := by
  refine ⟨_, rfl, ?_⟩
  repeat' (first | with_reducible assumption | with_reducible apply Block.olcVerified_keep K | with_reducible refine ite_keep ?_ ?_ | dsimp only | intro _)

theorem execPatternLoad_keep (K : KeptBySet Q) (staged : Bool) (image : List Word) (s : State) (hq : Q s.regs) :
    ∃ u, execPatternLoad staged image s = .next u ∧ Q u.regs := by
  refine ⟨_, rfl, ?_⟩
  repeat' (first | with_reducible assumption | with_reducible refine Block.when_keep _ _ _ ?_ (fun _ => ?_) | with_reducible apply Block.patLoad_keep K | with_reducible apply Block.storePattern_keep K | with_reducible apply Block.olcRefuse_keep K | with_reducible refine ite_keep ?_ ?_ | split | dsimp only | with_reducible refine pair_keep (by with_reducible assumption) ?_ | with_reducible refine pair_keep' (by with_reducible assumption) ?_ | intro _)

theorem execOlcArm_keep (K : KeptBySet Q) (s : State) (hq : Q s.regs) :
    ∃ u, execOlcArm s = .next u ∧ Q u.regs := by
  refine ⟨_, rfl, ?_⟩
  repeat' (first | with_reducible assumption | with_reducible apply Block.olcArm_keep K | with_reducible refine ite_keep ?_ ?_ | dsimp only | intro _)

theorem execVerify_keep (K : KeptBySet Q) (r : Requester) (s : State) (hq : Q s.regs) :
    ∃ u, execVerify r s = .next u ∧ Q u.regs := by
  refine ⟨_, rfl, ?_⟩
  repeat' (first | with_reducible assumption | with_reducible apply Block.olcCmdWrite_keep K | dsimp only | intro _)

theorem execCommit_keep (K : KeptBySet Q) (r : Requester) (s : State) (hq : Q s.regs) :
    ∃ u, execCommit r s = .next u ∧ Q u.regs := by
  refine ⟨_, rfl, ?_⟩
  repeat' (first | with_reducible assumption | with_reducible apply Block.olcCmdWrite_keep K | dsimp only | intro _)

theorem execAbort_keep (K : KeptBySet Q) (r : Requester) (s : State) (hq : Q s.regs) :
    ∃ u, execAbort r s = .next u ∧ Q u.regs := by
  refine ⟨_, rfl, ?_⟩
  repeat' (first | with_reducible assumption | with_reducible apply Block.olcCmdWrite_keep K | dsimp only | intro _)

theorem execDiscard_keep (K : KeptBySet Q) (r : Requester) (s : State) (hq : Q s.regs) :
    ∃ u, execDiscard r s = .next u ∧ Q u.regs := by
  refine ⟨_, rfl, ?_⟩
  repeat' (first | with_reducible assumption | with_reducible apply Block.olcCmdWrite_keep K | dsimp only | intro _)

theorem execOlcCommitInstant_keep (K : KeptBySet Q) (s : State) (hq : Q s.regs) :
    ∃ u, execOlcCommitInstant s = .next u ∧ Q u.regs := by
  refine ⟨_, rfl, ?_⟩
  repeat' (first | with_reducible assumption | with_reducible apply Block.olcTell_keep K | with_reducible apply Block.olcSwitch_keep K | with_reducible refine ite_keep ?_ ?_ | dsimp only | intro _)

theorem execOlcNoBoundary_keep (K : KeptBySet Q) (s : State) (hq : Q s.regs) :
    ∃ u, execOlcNoBoundary s = .next u ∧ Q u.regs := by
  refine ⟨_, rfl, ?_⟩
  repeat' (first | with_reducible assumption | with_reducible apply Block.olcBlocker_keep K | with_reducible apply Block.olcRefuse_keep K | with_reducible refine ite_keep ?_ ?_ | dsimp only | intro _)

theorem execMigrationCopyComplete_keep (K : KeptBySet Q) (c : Fin 256) (s : State) (hq : Q s.regs) :
    ∃ u, execMigrationCopyComplete c s = .next u ∧ Q u.regs := by
  refine ⟨_, rfl, ?_⟩
  repeat' (first | with_reducible assumption | with_reducible apply Block.putPlace_keep K | with_reducible apply Block.modCx_keep K | with_reducible apply Block.revive_keep K | with_reducible apply Block.incWrap_keep K | with_reducible apply Block.raiseEvt_keep K | with_reducible apply Block.copyWaiting_keep K | with_reducible apply Block.engShow_keep K | with_reducible apply Block.engNext_keep K | with_reducible apply Block.replaceDone_keep K | with_reducible refine ite_keep ?_ ?_ | split | dsimp only | with_reducible refine pair_keep (by with_reducible assumption) ?_ | with_reducible refine pair_keep' (by with_reducible assumption) ?_ | intro _)

theorem execRestart_keep (K : KeptBySet Q) (r : Requester) (c : Fin 256) (s : State) (hq : Q s.regs) :
    ∃ u, execRestart r c s = .next u ∧ Q u.regs := by
  refine ⟨_, rfl, ?_⟩
  repeat' (first | with_reducible assumption | with_reducible apply Block.schCmdWrite_keep K | dsimp only | intro _)

theorem execSchStop_keep (K : KeptBySet Q) (r : Requester) (c : Fin 256) (s : State) (hq : Q s.regs) :
    ∃ u, execSchStop r c s = .next u ∧ Q u.regs := by
  refine ⟨_, rfl, ?_⟩
  repeat' (first | with_reducible assumption | with_reducible apply Block.schCmdWrite_keep K | dsimp only | intro _)

theorem execSchStart_keep (K : KeptBySet Q) (r : Requester) (c : Fin 256) (s : State) (hq : Q s.regs) :
    ∃ u, execSchStart r c s = .next u ∧ Q u.regs := by
  refine ⟨_, rfl, ?_⟩
  repeat' (first | with_reducible assumption | with_reducible apply Block.schCmdWrite_keep K | dsimp only | intro _)

theorem execReplace_keep (K : KeptBySet Q) (r : Requester) (s : State) (hq : Q s.regs) :
    ∃ u, execReplace r s = .next u ∧ Q u.regs := by
  refine ⟨_, rfl, ?_⟩
  repeat' (first | with_reducible assumption | with_reducible apply Block.schCmdWrite_keep K | dsimp only | intro _)

theorem execEngineParkBegin_keep (K : KeptBySet Q) (s : State) (hq : Q s.regs) :
    ∃ u, execEngineParkBegin s = .next u ∧ Q u.regs := by
  refine ⟨_, rfl, ?_⟩
  repeat' (first | with_reducible assumption | with_reducible apply Block.timed_keep K | with_reducible apply Block.setAvail_keep K | with_reducible apply Block.modEng_keep K | with_reducible apply Block.leaveEngine_keep K | with_reducible apply Block.engCount_keep K | with_reducible refine ite_keep ?_ ?_ | split | dsimp only | with_reducible refine pair_keep (by with_reducible assumption) ?_ | with_reducible refine pair_keep' (by with_reducible assumption) ?_ | intro _)

theorem execEngineParked_keep (K : KeptBySet Q) (n : Fin 16) (s : State) (hq : Q s.regs) :
    ∃ u, execEngineParked n s = .next u ∧ Q u.regs := by
  refine ⟨_, rfl, ?_⟩
  repeat' (first | with_reducible assumption | with_reducible apply Block.modEng_keep K | with_reducible apply Block.fset_keep K | with_reducible apply Block.raiseEvt_keep K | with_reducible refine ite_keep ?_ ?_ | dsimp only | intro _)

theorem execEngineReturn_keep (K : KeptBySet Q) (s : State) (hq : Q s.regs) :
    ∃ u, execEngineReturn s = .next u ∧ Q u.regs := by
  refine ⟨_, rfl, ?_⟩
  repeat' (first | with_reducible assumption | with_reducible apply Block.timed_keep K | with_reducible apply Block.modEng_keep K | with_reducible apply Block.fset_keep K | with_reducible apply Block.setAvail_keep K | with_reducible apply Block.raiseEvt_keep K | with_reducible apply Block.reviveAll_keep K | with_reducible apply Block.replaceAll_keep K | with_reducible apply Block.engCount_keep K | with_reducible refine ite_keep ?_ ?_ | split | dsimp only | with_reducible refine pair_keep (by with_reducible assumption) ?_ | with_reducible refine pair_keep' (by with_reducible assumption) ?_ | intro _)

theorem execEngineFault_keep (K : KeptBySet Q) (n : Fin 16) (decode : Bool) (badPlaces : List Nat) (s : State) (hq : Q s.regs) :
    ∃ u, execEngineFault n decode badPlaces s = .next u ∧ Q u.regs := by
  refine ⟨_, rfl, ?_⟩
  repeat' (first | with_reducible assumption | with_reducible apply Block.engineFault_keep K | with_reducible refine ite_keep ?_ ?_ | dsimp only | intro _)

theorem execEngTestStart_keep (K : KeptBySet Q) (r : Requester) (n : Fin 16) (s : State) (hq : Q s.regs) :
    ∃ u, execEngTestStart r n s = .next u ∧ Q u.regs := by
  refine ⟨_, rfl, ?_⟩
  repeat' (first | with_reducible assumption | with_reducible apply Block.engTestWrite_keep K | dsimp only | intro _)

theorem execFaultSelfTestDue_keep (K : KeptBySet Q) (n : Fin 16) (s : State) (hq : Q s.regs) :
    ∃ u, execFaultSelfTestDue n s = .next u ∧ Q u.regs := by
  refine ⟨_, rfl, ?_⟩
  repeat' (first | with_reducible assumption | with_reducible apply Block.engTest_keep K | with_reducible refine ite_keep ?_ ?_ | dsimp only | intro _)

theorem execEngTestComplete_keep (K : KeptBySet Q) (n : Fin 16) (fail : Nat) (s : State) (hq : Q s.regs) :
    ∃ u, execEngTestComplete n fail s = .next u ∧ Q u.regs := by
  refine ⟨_, rfl, ?_⟩
  repeat' (first | with_reducible assumption | with_reducible apply Block.engTested_keep K | with_reducible apply Block.engCount_keep K | with_reducible refine ite_keep ?_ ?_ | dsimp only | intro _)

theorem execEnergyWindowEnd_keep (K : KeptBySet Q) (coreMw fieldMa fieldMw : Nat) (s : State) (hq : Q s.regs) :
    ∃ u, execEnergyWindowEnd coreMw fieldMa fieldMw s = .next u ∧ Q u.regs := by
  refine ⟨_, rfl, ?_⟩
  repeat' (first | with_reducible assumption | with_reducible apply Block.windowEnd_keep K | with_reducible apply Block.fset_keep K | with_reducible refine ite_keep ?_ ?_ | dsimp only | intro _)

theorem execThermalEvaluation_keep (K : KeptBySet Q) (die rail : Int) (s : State) (hq : Q s.regs) :
    ∃ u, execThermalEvaluation die rail s = .next u ∧ Q u.regs := by
  refine ⟨_, rfl, ?_⟩
  repeat' (first | with_reducible assumption | with_reducible apply Block.timed_keep K | with_reducible apply Block.fset_keep K | with_reducible refine Block.when_keep _ _ _ ?_ (fun _ => ?_) | with_reducible apply Block.untimed_keep K | with_reducible apply Block.event_keep K | with_reducible apply Block.thermalCtxs_keep K | with_reducible apply Block.solShow_keep K | with_reducible refine ite_keep ?_ ?_ | dsimp only | intro _)

theorem execThermalTrip_keep (K : KeptBySet Q) (s : State) (hq : Q s.regs) :
    ∃ u, execThermalTrip s = .next u ∧ Q u.regs := by
  refine ⟨_, rfl, ?_⟩
  repeat' (first | with_reducible assumption | with_reducible apply Block.recAccept_keep K | with_reducible apply Block.changeState_keep K | dsimp only | intro _)

theorem execVsZeroCrossing_keep (K : KeptBySet Q) (vs : Fin 2) (rmsMv : Nat) (periodNs : Nat) (otherAngle : Word) (s : State) (hq : Q s.regs) :
    ∃ u, execVsZeroCrossing vs rmsMv periodNs otherAngle s = .next u ∧ Q u.regs := by
  refine ⟨_, rfl, ?_⟩
  repeat' (first | with_reducible assumption | with_reducible apply Block.setRegN_keep K | with_reducible apply Block.fsetB_keep K | with_reducible apply Block.vsCompare_keep K | with_reducible apply Block.absSeek_keep K | with_reducible apply Block.aheadBy_keep K | with_reducible apply Block.setPos_keep K | with_reducible refine ite_keep ?_ ?_ | dsimp only | intro _)

theorem execVsInputLost_keep (K : KeptBySet Q) (vs : Fin 2) (other : Option Word) (s : State) (hq : Q s.regs) :
    ∃ u, execVsInputLost vs other s = .next u ∧ Q u.regs := by
  refine ⟨_, rfl, ?_⟩
  repeat' (first | with_reducible assumption | with_reducible apply Block.fset_keep K | with_reducible apply Block.raiseEvt_keep K | with_reducible apply Block.setRegN_keep K | with_reducible apply Block.absEnter_keep K | with_reducible apply Block.absSeek_keep K | with_reducible apply Block.event_keep K | with_reducible apply Block.realign_keep K | with_reducible apply Block.absHold_keep K | with_reducible refine ite_keep ?_ ?_ | split | dsimp only | with_reducible refine pair_keep (by with_reducible assumption) ?_ | with_reducible refine pair_keep' (by with_reducible assumption) ?_ | intro _)

theorem execAbs0QualComplete_keep (K : KeptBySet Q) (angle : Word) (s : State) (hq : Q s.regs) :
    ∃ u, execAbs0QualComplete angle s = .next u ∧ Q u.regs := by
  refine ⟨_, rfl, ?_⟩
  repeat' (first | with_reducible assumption | with_reducible apply Block.absLock_keep K | with_reducible apply Block.absEnter_keep K | with_reducible refine ite_keep ?_ ?_ | dsimp only | intro _)

theorem execAbsHoldEnd_keep (K : KeptBySet Q) (base : Fin 2) (s : State) (hq : Q s.regs) :
    ∃ u, execAbsHoldEnd base s = .next u ∧ Q u.regs := by
  refine ⟨_, rfl, ?_⟩
  repeat' (first | with_reducible assumption | with_reducible refine Block.when_keep _ _ _ ?_ (fun _ => ?_) | with_reducible apply Block.fset_keep K | with_reducible refine ite_keep ?_ ?_ | dsimp only | intro _)

theorem execAbs0HoldoverRamp_keep (K : KeptBySet Q) (s : State) (hq : Q s.regs) :
    ∃ u, execAbs0HoldoverRamp s = .next u ∧ Q u.regs := by
  refine ⟨_, rfl, ?_⟩
  repeat' (first | with_reducible assumption | with_reducible apply Block.fset_keep K | with_reducible refine ite_keep ?_ ?_ | dsimp only | intro _)

theorem execAbs0HoldoverAtNom_keep (K : KeptBySet Q) (s : State) (hq : Q s.regs) :
    ∃ u, execAbs0HoldoverAtNom s = .next u ∧ Q u.regs := by
  refine ⟨_, rfl, ?_⟩
  repeat' (first | with_reducible assumption | with_reducible apply Block.fset_keep K | with_reducible refine ite_keep ?_ ?_ | dsimp only | intro _)

theorem execAbs1CountEdge_keep (K : KeptBySet Q) (backward : Bool) (intervalNs : Nat) (s : State) (hq : Q s.regs) :
    ∃ u, execAbs1CountEdge backward intervalNs s = .next u ∧ Q u.regs := by
  refine ⟨_, rfl, ?_⟩
  repeat' (first | with_reducible assumption | with_reducible refine Block.when_keep _ _ _ ?_ (fun _ => ?_) | with_reducible apply Block.raiseEvt_keep K | with_reducible apply Block.fsetB_keep K | with_reducible apply Block.fset_keep K | with_reducible apply Block.setRegI_keep K | with_reducible apply Block.timed_keep K | with_reducible apply Block.shaftFollow_keep K | with_reducible apply Block.syncLost_keep K | with_reducible refine ite_keep ?_ ?_ | dsimp only | intro _)

theorem execAbs1Index_keep (K : KeptBySet Q) (s : State) (hq : Q s.regs) :
    ∃ u, execAbs1Index s = .next u ∧ Q u.regs := by
  refine ⟨_, rfl, ?_⟩
  repeat' (first | with_reducible assumption | with_reducible apply Block.indexFirst_keep K | with_reducible apply Block.shaftEnter_keep K | with_reducible apply Block.indexNext_keep K | with_reducible refine ite_keep ?_ ?_ | dsimp only | intro _)

theorem execAbs1Stopped_keep (K : KeptBySet Q) (s : State) (hq : Q s.regs) :
    ∃ u, execAbs1Stopped s = .next u ∧ Q u.regs := by
  refine ⟨_, rfl, ?_⟩
  repeat' (first | with_reducible assumption | with_reducible apply Block.fset_keep K | with_reducible apply Block.setRegN_keep K | with_reducible apply Block.raiseEvt_keep K | with_reducible refine ite_keep ?_ ?_ | dsimp only | intro _)

theorem execAbs1Overspeed_keep (K : KeptBySet Q) (s : State) (hq : Q s.regs) :
    ∃ u, execAbs1Overspeed s = .next u ∧ Q u.regs := by
  refine ⟨_, rfl, ?_⟩
  repeat' (first | with_reducible assumption | with_reducible apply Block.fset_keep K | with_reducible apply Block.raiseEvt_keep K | with_reducible apply Block.syncLost_keep K | with_reducible refine ite_keep ?_ ?_ | dsimp only | intro _)

theorem execTsuSecond_keep (K : KeptBySet Q) (s : State) (hq : Q s.regs) : ∃ u, execTsuSecond s = .next u ∧ Q u.regs := by
  refine ⟨_, rfl, ?_⟩
  have h := Block.raiseEvt_keep K _ 0x03 6 (Block.fracCarry_keep K _ (Block.frameTick_keep K _ s.now (Block.setNow_keep K _ ((s.tsuSec + 1) * 1000000000) hq)))
  exact ite_keep hq (ite_keep (Block.lockedSecond_keep K _ h) h)

theorem execTsuCapture_keep (K : KeptBySet Q) (k : Fin 4) (s : State) (hq : Q s.regs) :
    ∃ u, execTsuCapture k s = .next u ∧ Q u.regs := by
  refine ⟨_, rfl, ?_⟩
  repeat' (first | with_reducible assumption | with_reducible apply Block.capture_keep K | with_reducible refine ite_keep ?_ ?_ | dsimp only | intro _)

theorem execPpsEdge_keep (K : KeptBySet Q) (rate : Int) (s : State) (hq : Q s.regs) :
    ∃ u, execPpsEdge rate s = .next u ∧ Q u.regs := by
  refine ⟨_, rfl, ?_⟩
  repeat' (first | with_reducible assumption | with_reducible apply Block.ppsSet_keep K | with_reducible apply Block.tsuUpdate_keep K | with_reducible refine Block.when_keep _ _ _ ?_ (fun _ => ?_) | with_reducible apply Block.capture_keep K | dsimp only | intro _)

theorem execTsuSourceUpdate_keep (K : KeptBySet Q) (src : TimeSource) (offsetNs rate : Int) (s : State) (hq : Q s.regs) :
    ∃ u, execTsuSourceUpdate src offsetNs rate s = .next u ∧ Q u.regs := by
  refine ⟨_, rfl, ?_⟩
  repeat' (first | with_reducible assumption | with_reducible apply Block.tsuUpdate_keep K | dsimp only | intro _)

theorem execTsuSourceLost_keep (K : KeptBySet Q) (src : TimeSource) (s : State) (hq : Q s.regs) :
    ∃ u, execTsuSourceLost src s = .next u ∧ Q u.regs := by
  refine ⟨_, rfl, ?_⟩
  repeat' (first | with_reducible assumption | with_reducible apply Block.tsuLost_keep K | dsimp only | intro _)

theorem execTsuSlewComplete_keep (K : KeptBySet Q) (s : State) (hq : Q s.regs) :
    ∃ u, execTsuSlewComplete s = .next u ∧ Q u.regs := by
  refine ⟨_, rfl, ?_⟩
  repeat' (first | with_reducible assumption | with_reducible apply Block.fset_keep K | with_reducible apply Block.raiseEvt_keep K | with_reducible refine ite_keep ?_ ?_ | dsimp only | intro _)

theorem execTsuSet_keep (K : KeptBySet Q) (r : Requester) (s : State) (hq : Q s.regs) :
    ∃ u, execTsuSet r s = .next u ∧ Q u.regs := by
  refine ⟨_, rfl, ?_⟩
  repeat' (first | with_reducible assumption | with_reducible apply Block.tsuCmdWrite_keep K | dsimp only | intro _)

theorem execTsuAdj_keep (K : KeptBySet Q) (r : Requester) (s : State) (hq : Q s.regs) :
    ∃ u, execTsuAdj r s = .next u ∧ Q u.regs := by
  refine ⟨_, rfl, ?_⟩
  repeat' (first | with_reducible assumption | with_reducible apply Block.tsuCmdWrite_keep K | dsimp only | intro _)

theorem execHourlyTimeMark_keep (K : KeptBySet Q) (s : State) (hq : Q s.regs) :
    ∃ u, execHourlyTimeMark s = .next u ∧ Q u.regs := by
  refine ⟨_, rfl, ?_⟩
  repeat' (first | with_reducible assumption | with_reducible refine Block.when_keep _ _ _ ?_ (fun _ => ?_) | with_reducible apply Block.hourMark_keep K | dsimp only | intro _)

theorem execRtcSet_keep (K : KeptBySet Q) (r : Requester) (s : State) (hq : Q s.regs) :
    ∃ u, execRtcSet r s = .next u ∧ Q u.regs := by
  refine ⟨_, rfl, ?_⟩
  repeat' (first | with_reducible assumption | with_reducible apply Block.rtcCmdWrite_keep K | dsimp only | intro _)

theorem execCoinCellLow_keep (K : KeptBySet Q) (coinMv capMv : Nat) (s : State) (hq : Q s.regs) :
    ∃ u, execCoinCellLow coinMv capMv s = .next u ∧ Q u.regs := by
  refine ⟨_, rfl, ?_⟩
  repeat' (first | with_reducible assumption | with_reducible apply Block.fsetB_keep K | with_reducible apply Block.fset_keep K | with_reducible refine Block.when_keep _ _ _ ?_ (fun _ => ?_) | with_reducible apply Block.raiseEvt_keep K | dsimp only | intro _)

theorem execRtcBackupExhausted_keep (K : KeptBySet Q) (s : State) (hq : Q s.regs) :
    ∃ u, execRtcBackupExhausted s = .next u ∧ Q u.regs := by
  refine ⟨_, rfl, ?_⟩
  repeat' (first | with_reducible assumption | with_reducible apply Block.fset_keep K | dsimp only | intro _)

theorem execCompareFire_keep (K : KeptBySet Q) (k : Fin 6) (s : State) (hq : Q s.regs) :
    ∃ u, execCompareFire k s = .next u ∧ Q u.regs := by
  refine ⟨_, rfl, ?_⟩
  repeat' (first | with_reducible assumption | with_reducible refine Block.when_keep _ _ _ ?_ (fun _ => ?_) | with_reducible apply Block.absCompare_keep K | with_reducible apply Block.raiseEvt_keep K | with_reducible apply Block.fset_keep K | with_reducible apply Block.setRegN_keep K | with_reducible refine ite_keep ?_ ?_ | dsimp only | intro _)

theorem execRecordDurable_keep (K : KeptBySet Q) (us : Nat) (s : State) (hq : Q s.regs) :
    ∃ u, execRecordDurable us s = .next u ∧ Q u.regs := by
  refine ⟨_, rfl, ?_⟩
  repeat' (first | with_reducible assumption | with_reducible apply Block.setRegN_keep K | with_reducible apply Block.recStore_keep K | with_reducible apply Block.lockDurable_keep K | with_reducible apply Block.queueFill_keep K | with_reducible refine Block.when_keep _ _ _ ?_ (fun _ => ?_) | with_reducible apply Block.lossDurable_keep K | with_reducible apply Block.recRefusals_keep K | with_reducible refine ite_keep ?_ ?_ | split | dsimp only | with_reducible refine pair_keep (by with_reducible assumption) ?_ | with_reducible refine pair_keep' (by with_reducible assumption) ?_ | intro _)

theorem execRecordAccept_keep (K : KeptBySet Q) (island : Bool) (sev : Fin 8) (typ src : Nat) (words : List Word) (s : State) (hq : Q s.regs) :
    ∃ u, execRecordAccept island sev typ src words s = .next u ∧ Q u.regs := by
  refine ⟨_, rfl, ?_⟩
  repeat' (first | with_reducible assumption | with_reducible apply Block.recIsland_keep K | with_reducible apply Block.recAccept_keep K | with_reducible refine ite_keep ?_ ?_ | dsimp only | intro _)

theorem execOptimeStore_keep (K : KeptBySet Q) (s : State) (hq : Q s.regs) :
    ∃ u, execOptimeStore s = .next u ∧ Q u.regs := by
  refine ⟨_, rfl, ?_⟩
  repeat' (first | with_reducible assumption | with_reducible apply Block.timed_keep K | with_reducible apply Block.celRequest_keep K | with_reducible refine ite_keep ?_ ?_ | dsimp only | intro _)

theorem execCellarRecordDurable_keep (K : KeptBySet Q) (ok : Bool) (us : Nat) (s : State) (hq : Q s.regs) :
    ∃ u, execCellarRecordDurable ok us s = .next u ∧ Q u.regs := by
  refine ⟨_, rfl, ?_⟩
  repeat' (first | with_reducible assumption | with_reducible apply Block.incSat_keep K | with_reducible apply Block.raiseEvt_keep K | with_reducible apply Block.setRegN_keep K | with_reducible apply Block.celCommit_keep K | with_reducible refine ite_keep ?_ ?_ | split | dsimp only | with_reducible refine pair_keep (by with_reducible assumption) ?_ | with_reducible refine pair_keep' (by with_reducible assumption) ?_ | intro _)

theorem execDramCorrectedError_keep (K : KeptBySet Q) (dev : Fin 10) (errs : List (BitVec 8)) (addr : Word) (region : DramRegion) (retire : Bool) (s : State) (hq : Q s.regs) :
    ∃ u, execDramCorrectedError dev errs addr region retire s = .next u ∧ Q u.regs := by
  refine ⟨_, rfl, ?_⟩
  repeat' (first | with_reducible assumption | with_reducible apply Block.dramBurst_keep K | dsimp only | intro _)

theorem execDramUncorrectableError_keep (K : KeptBySet Q) (burst : List (List (BitVec 8))) (addr : Word) (region : DramRegion) (retire : Bool) (s : State) (hq : Q s.regs) :
    ∃ u, execDramUncorrectableError burst addr region retire s = .next u ∧ Q u.regs := by
  refine ⟨_, rfl, ?_⟩
  repeat' (first | with_reducible assumption | with_reducible apply Block.dramBurst_keep K | dsimp only | intro _)

theorem execPatrolScrub_keep (K : KeptBySet Q) (s : State) (hq : Q s.regs) :
    ∃ u, execPatrolScrub s = .next u ∧ Q u.regs := by
  refine ⟨_, rfl, ?_⟩
  repeat' (first | with_reducible assumption | with_reducible apply Block.setRegN_keep K | with_reducible apply Block.raiseEvt_keep K | with_reducible refine ite_keep ?_ ?_ | dsimp only | intro _)

theorem execInnerCounterRead_keep (K : KeptBySet Q) (n : Nat) (s : State) (hq : Q s.regs) :
    ∃ u, execInnerCounterRead n s = .next u ∧ Q u.regs := by
  refine ⟨_, rfl, ?_⟩
  repeat' (first | with_reducible assumption | with_reducible refine Block.when_keep _ _ _ ?_ (fun _ => ?_) | with_reducible apply Block.timed_keep K | with_reducible apply Block.addSat_keep K | dsimp only | intro _)

theorem execSramScrub_keep (K : KeptBySet Q) (engine : Option (Fin 16)) (corrected : Nat) (s : State) (hq : Q s.regs) :
    ∃ u, execSramScrub engine corrected s = .next u ∧ Q u.regs := by
  refine ⟨_, rfl, ?_⟩
  repeat' (first | with_reducible assumption | with_reducible apply Block.timed_keep K | with_reducible apply Block.addSat_keep K | with_reducible apply Block.raiseEvt_keep K | with_reducible refine ite_keep ?_ ?_ | split | dsimp only | with_reducible refine pair_keep (by with_reducible assumption) ?_ | with_reducible refine pair_keep' (by with_reducible assumption) ?_ | intro _)

theorem execSramUncorrectableError_keep (K : KeptBySet Q) (addr : Word) (region : SramRegion) (s : State) (hq : Q s.regs) :
    ∃ u, execSramUncorrectableError addr region s = .next u ∧ Q u.regs := by
  refine ⟨_, rfl, ?_⟩
  repeat' (first | with_reducible assumption | with_reducible apply Block.setRegN_keep K | with_reducible apply Block.incSat_keep K | with_reducible apply Block.raiseEvt_keep K | with_reducible apply Block.sramRegion_keep K | dsimp only | intro _)

theorem execFloatSelftestChunk_keep (K : KeptBySet Q) (ns : Nat) (groups : Fin 16) (divOk : Bool) (fail : Nat) (s : State) (hq : Q s.regs) :
    ∃ u, execFloatSelftestChunk ns groups divOk fail s = .next u ∧ Q u.regs := by
  refine ⟨_, rfl, ?_⟩
  repeat' (first | with_reducible assumption | with_reducible apply Block.solChunk_keep K | with_reducible apply Block.solDownCheck_keep K | dsimp only | intro _)

theorem execLaneGroupFault_keep (K : KeptBySet Q) (g : Fin 4) (s : State) (hq : Q s.regs) :
    ∃ u, execLaneGroupFault g s = .next u ∧ Q u.regs := by
  refine ⟨_, rfl, ?_⟩
  repeat' (first | with_reducible assumption | with_reducible apply Block.solAbortRun_keep K | with_reducible apply Block.solRetest_keep K | with_reducible apply Block.solDropGroup_keep K | with_reducible apply Block.solDownCheck_keep K | with_reducible refine ite_keep ?_ ?_ | dsimp only | intro _)

theorem execSolverFault_keep (K : KeptBySet Q) (divide : Bool) (s : State) (hq : Q s.regs) :
    ∃ u, execSolverFault divide s = .next u ∧ Q u.regs := by
  refine ⟨_, rfl, ?_⟩
  repeat' (first | with_reducible assumption | with_reducible refine Block.when_keep _ _ _ ?_ (fun _ => ?_) | with_reducible apply Block.fset_keep K | with_reducible apply Block.solFail_keep K | with_reducible apply Block.solShow_keep K | with_reducible apply Block.solDownCheck_keep K | dsimp only | intro _)

theorem execCellarReadOnly_keep (K : KeptBySet Q) (s : State) (hq : Q s.regs) :
    ∃ u, execCellarReadOnly s = .next u ∧ Q u.regs := by
  refine ⟨_, rfl, ?_⟩
  repeat' (first | with_reducible assumption | with_reducible refine Block.when_keep _ _ _ ?_ (fun _ => ?_) | with_reducible apply Block.fset_keep K | with_reducible apply Block.raiseEvt_keep K | with_reducible apply Block.olcEnd_keep K | with_reducible apply Block.endTransfer_keep K | with_reducible refine ite_keep ?_ ?_ | dsimp only | intro _)

theorem execPairLinkUp_keep (K : KeptBySet Q) (verLo verHi : Nat) (s : State) (hq : Q s.regs) :
    ∃ u, execPairLinkUp verLo verHi s = .next u ∧ Q u.regs := by
  refine ⟨_, rfl, ?_⟩
  repeat' (first | with_reducible assumption | with_reducible apply Block.fset_keep K | with_reducible apply Block.raiseEvt_keep K | with_reducible apply Block.hbFollow_keep K | with_reducible refine ite_keep ?_ ?_ | split | dsimp only | with_reducible refine pair_keep (by with_reducible assumption) ?_ | with_reducible refine pair_keep' (by with_reducible assumption) ?_ | intro _)

theorem execPairLinkLost_keep (K : KeptBySet Q) (s : State) (hq : Q s.regs) :
    ∃ u, execPairLinkLost s = .next u ∧ Q u.regs := by
  refine ⟨_, rfl, ?_⟩
  repeat' (first | with_reducible assumption | with_reducible apply Block.pairLinkDown_keep K | dsimp only | intro _)

theorem execPairTimeout_keep (K : KeptBySet Q) (s : State) (hq : Q s.regs) :
    ∃ u, execPairTimeout s = .next u ∧ Q u.regs := by
  refine ⟨_, rfl, ?_⟩
  repeat' (first | with_reducible assumption | with_reducible apply Block.incSat_keep K | with_reducible apply Block.raiseEvt_keep K | with_reducible apply Block.pairSilent_keep K | with_reducible refine ite_keep ?_ ?_ | dsimp only | intro _)

theorem execPairHeartbeatTx_keep (K : KeptBySet Q) (s : State) (hq : Q s.regs) :
    ∃ u, execPairHeartbeatTx s = .next u ∧ Q u.regs := by
  refine ⟨_, rfl, ?_⟩
  repeat' (first | with_reducible assumption | with_reducible apply Block.redRefresh_keep K | with_reducible apply Block.lowFollow_keep K | with_reducible apply Block.send_keep K | with_reducible refine ite_keep ?_ ?_ | dsimp only | intro _)

theorem execPairHeartbeatRx_keep (K : KeptBySet Q) (h : PairBeat) (s : State) (hq : Q s.regs) :
    ∃ u, execPairHeartbeatRx h s = .next u ∧ Q u.regs := by
  refine ⟨_, rfl, ?_⟩
  repeat' (first | with_reducible assumption | with_reducible apply Block.incSat_keep K | with_reducible apply Block.fset_keep K | with_reducible apply Block.setRegN_keep K | with_reducible apply Block.presence_keep K | with_reducible apply Block.pairHeard_keep K | with_reducible apply Block.lowFollow_keep K | with_reducible apply Block.partnerLeads_keep K | with_reducible refine Block.when_keep _ _ _ ?_ (fun _ => ?_) | with_reducible apply Block.departureRx_keep K | with_reducible apply Block.joinAnswer_keep K | with_reducible apply Block.standbyBeat_keep K | with_reducible apply Block.steer0_keep K | with_reducible apply Block.steer1_keep K | with_reducible refine ite_keep ?_ ?_ | dsimp only | intro _)

theorem execCan3HeartbeatTx_keep (K : KeptBySet Q) (s : State) (hq : Q s.regs) :
    ∃ u, execCan3HeartbeatTx s = .next u ∧ Q u.regs := by
  refine ⟨_, rfl, ?_⟩
  repeat' (first | with_reducible assumption | with_reducible apply Block.redRefresh_keep K | with_reducible apply Block.lowFollow_keep K | with_reducible apply Block.hbSend_keep K | with_reducible apply Block.beatArm_keep K | with_reducible refine ite_keep ?_ ?_ | dsimp only | intro _)

theorem execCan3HeartbeatRx_keep (K : KeptBySet Q) (h : CanBeat) (s : State) (hq : Q s.regs) :
    ∃ u, execCan3HeartbeatRx h s = .next u ∧ Q u.regs := by
  refine ⟨_, rfl, ?_⟩
  repeat' (first | with_reducible assumption | with_reducible apply Block.canStore_keep K | with_reducible apply Block.fset_keep K | with_reducible apply Block.setRegN_keep K | with_reducible apply Block.presence_keep K | with_reducible apply Block.lowFollow_keep K | with_reducible apply Block.partnerLeads_keep K | with_reducible refine Block.when_keep _ _ _ ?_ (fun _ => ?_) | with_reducible apply Block.departureRx_keep K | with_reducible refine ite_keep ?_ ?_ | dsimp only | intro _)

theorem execCan3HeartbeatTimeout_keep (K : KeptBySet Q) (s : State) (hq : Q s.regs) :
    ∃ u, execCan3HeartbeatTimeout s = .next u ∧ Q u.regs := by
  refine ⟨_, rfl, ?_⟩
  repeat' (first | with_reducible assumption | with_reducible refine Block.when_keep _ _ _ ?_ (fun _ => ?_) | with_reducible apply Block.hbSilent_keep K | dsimp only | intro _)

theorem execCan3AutoRecover_keep (K : KeptBySet Q) (s : State) (hq : Q s.regs) :
    ∃ u, execCan3AutoRecover s = .next u ∧ Q u.regs := by
  refine ⟨_, rfl, ?_⟩
  repeat' (first | with_reducible assumption | with_reducible apply Block.canRecover_keep K | with_reducible refine ite_keep ?_ ?_ | dsimp only | intro _)

theorem execClaimRound_keep (K : KeptBySet Q) (s : State) (hq : Q s.regs) :
    ∃ u, execClaimRound s = .next u ∧ Q u.regs := by
  refine ⟨_, rfl, ?_⟩
  repeat' (first | with_reducible assumption | with_reducible apply Block.roundBegin_keep K | with_reducible refine ite_keep ?_ ?_ | dsimp only | intro _)

theorem execClaimRoundAlone_keep (K : KeptBySet Q) (s : State) (hq : Q s.regs) :
    ∃ u, execClaimRoundAlone s = .next u ∧ Q u.regs := by
  refine ⟨_, rfl, ?_⟩
  repeat' (first | with_reducible assumption | with_reducible apply Block.roundBegin_keep K | with_reducible refine ite_keep ?_ ?_ | dsimp only | intro _)

theorem execClaimRoundEnd_keep (K : KeptBySet Q) (read : Word) (ack : Bool) (partnerWord : Option Word) (s : State) (hq : Q s.regs) :
    ∃ u, execClaimRoundEnd read ack partnerWord s = .next u ∧ Q u.regs := by
  refine ⟨_, rfl, ?_⟩
  repeat' (first | with_reducible assumption | with_reducible apply Block.setRegN_keep K | with_reducible apply Block.fsetB_keep K | with_reducible refine Block.when_keep _ _ _ ?_ (fun _ => ?_) | with_reducible apply Block.send_keep K | with_reducible apply Block.wireJudge_keep K | with_reducible apply Block.presence_keep K | with_reducible apply Block.pairOut_keep K | with_reducible apply Block.setWon_keep K | with_reducible apply Block.demote_keep K | with_reducible apply Block.unsyncedLoss_keep K | with_reducible refine ite_keep ?_ ?_ | split | dsimp only | with_reducible refine pair_keep (by with_reducible assumption) ?_ | with_reducible refine pair_keep' (by with_reducible assumption) ?_ | intro _)

theorem execHealthHandover_keep (K : KeptBySet Q) (s : State) (hq : Q s.regs) :
    ∃ u, execHealthHandover s = .next u ∧ Q u.regs := by
  refine ⟨_, rfl, ?_⟩
  repeat' (first | with_reducible assumption | with_reducible refine Block.when_keep _ _ _ ?_ (fun _ => ?_) | with_reducible apply Block.depart_keep K | dsimp only | intro _)

theorem execTakeover_keep (K : KeptBySet Q) (s : State) (hq : Q s.regs) :
    ∃ u, execTakeover s = .next u ∧ Q u.regs := by
  refine ⟨_, rfl, ?_⟩
  repeat' (first | with_reducible assumption | with_reducible apply Block.takeOver_keep K | with_reducible refine ite_keep ?_ ?_ | dsimp only | intro _)

theorem execSwitch_keep (K : KeptBySet Q) (r : Requester) (s : State) (hq : Q s.regs) :
    ∃ u, execSwitch r s = .next u ∧ Q u.regs := by
  refine ⟨_, rfl, ?_⟩
  repeat' (first | with_reducible assumption | with_reducible apply Block.redCmdWrite_keep K | dsimp only | intro _)

theorem execTakeoverCold_keep (K : KeptBySet Q) (r : Requester) (s : State) (hq : Q s.regs) :
    ∃ u, execTakeoverCold r s = .next u ∧ Q u.regs := by
  refine ⟨_, rfl, ?_⟩
  repeat' (first | with_reducible assumption | with_reducible apply Block.redCmdWrite_keep K | dsimp only | intro _)

theorem execResync_keep (K : KeptBySet Q) (r : Requester) (s : State) (hq : Q s.regs) :
    ∃ u, execResync r s = .next u ∧ Q u.regs := by
  refine ⟨_, rfl, ?_⟩
  repeat' (first | with_reducible assumption | with_reducible apply Block.redCmdWrite_keep K | dsimp only | intro _)

theorem execJoinWaitExpiry_keep (K : KeptBySet Q) (s : State) (hq : Q s.regs) :
    ∃ u, execJoinWaitExpiry s = .next u ∧ Q u.regs := by
  refine ⟨_, rfl, ?_⟩
  repeat' (first | with_reducible assumption | with_reducible apply Block.primaryBeside_keep K | with_reducible apply Block.finishStart_keep K | with_reducible refine ite_keep ?_ ?_ | dsimp only | intro _)

theorem execJoinContextCopy_keep (K : KeptBySet Q) (item : JoinItem) (s : State) (hq : Q s.regs) :
    ∃ u, execJoinContextCopy item s = .next u ∧ Q u.regs := by
  refine ⟨_, rfl, ?_⟩
  repeat' (first | with_reducible assumption | with_reducible apply Block.send_keep K | with_reducible apply Block.pairHeard_keep K | with_reducible apply Block.joinTake_keep K | with_reducible apply Block.fset_keep K | with_reducible refine Block.when_keep _ _ _ ?_ (fun _ => ?_) | with_reducible apply Block.setSync_keep K | with_reducible refine ite_keep ?_ ?_ | split | dsimp only | with_reducible refine pair_keep (by with_reducible assumption) ?_ | with_reducible refine pair_keep' (by with_reducible assumption) ?_ | intro _)

theorem execMirrorDataRx_keep (K : KeptBySet Q) (c : Fin 256) (slots own : List (Nat × Nat)) (s : State) (hq : Q s.regs) :
    ∃ u, execMirrorDataRx c slots own s = .next u ∧ Q u.regs := by
  refine ⟨_, rfl, ?_⟩
  repeat' (first | with_reducible assumption | with_reducible apply Block.pairHeard_keep K | with_reducible apply Block.modCx_keep K | with_reducible apply Block.applyMirror_keep K | with_reducible refine ite_keep ?_ ?_ | dsimp only | intro _)

theorem execPairLatchSetRx_keep (K : KeptBySet Q) (p : PairSet) (s : State) (hq : Q s.regs) :
    ∃ u, execPairLatchSetRx p s = .next u ∧ Q u.regs := by
  refine ⟨_, rfl, ?_⟩
  repeat' (first | with_reducible assumption | with_reducible refine Block.when_keep _ _ _ ?_ (fun _ => ?_) | with_reducible apply Block.setRegN_keep K | with_reducible apply Block.pairHeard_keep K | with_reducible apply Block.modCx_keep K | with_reducible apply Block.jobModeSet_keep K | with_reducible apply Block.pairResult_keep K | with_reducible refine ite_keep ?_ ?_ | split | dsimp only | with_reducible refine pair_keep (by with_reducible assumption) ?_ | with_reducible refine pair_keep' (by with_reducible assumption) ?_ | intro _)

theorem execPairCommandRx_keep (K : KeptBySet Q) (c : PairCmd) (s : State) (hq : Q s.regs) :
    ∃ u, execPairCommandRx c s = .next u ∧ Q u.regs := by
  refine ⟨_, rfl, ?_⟩
  repeat' (first | with_reducible assumption | with_reducible refine Block.when_keep _ _ _ ?_ (fun _ => ?_) | with_reducible apply Block.pairHeard_keep K | with_reducible apply Block.pairEnded_keep K | with_reducible apply Block.pairForce_keep K | with_reducible apply Block.pairPackage_keep K | with_reducible apply Block.olcArm_keep K | with_reducible apply Block.olcEnd_keep K | with_reducible apply Block.olcFollow_keep K | with_reducible apply Block.epochDown_keep K | with_reducible refine ite_keep ?_ ?_ | split | dsimp only | with_reducible refine pair_keep (by with_reducible assumption) ?_ | with_reducible refine pair_keep' (by with_reducible assumption) ?_ | intro _)

theorem execPairTimeMessage_keep (K : KeptBySet Q) (offset rate : Int) (delayNs : Nat) (s : State) (hq : Q s.regs) :
    ∃ u, execPairTimeMessage offset rate delayNs s = .next u ∧ Q u.regs := by
  refine ⟨_, rfl, ?_⟩
  repeat' (first | with_reducible assumption | with_reducible apply Block.pairHeard_keep K | with_reducible apply Block.send_keep K | with_reducible apply Block.setRegN_keep K | with_reducible apply Block.setRegI_keep K | with_reducible apply Block.raiseEvt_keep K | with_reducible apply Block.tsuUpdate_keep K | with_reducible refine ite_keep ?_ ?_ | dsimp only | intro _)

theorem execLinkInFrame_keep (K : KeptBySet Q) (f : LinkIn) (s : State) (hq : Q s.regs) :
    ∃ u, execLinkInFrame f s = .next u ∧ Q u.regs := by
  refine ⟨_, rfl, ?_⟩
  repeat' (first | with_reducible assumption | with_reducible apply Block.lnkIn_keep K | with_reducible apply Block.pairEcho_keep K | with_reducible refine ite_keep ?_ ?_ | split | dsimp only | with_reducible refine pair_keep (by with_reducible assumption) ?_ | with_reducible refine pair_keep' (by with_reducible assumption) ?_ | intro _)

theorem execLabelUpdateRequest_keep (K : KeptBySet Q) (region : Fin 6) (levels : List (Fin 4)) (s : State) (hq : Q s.regs) :
    ∃ u, execLabelUpdateRequest region levels s = .next u ∧ Q u.regs := by
  refine ⟨_, rfl, ?_⟩
  repeat' (first | with_reducible assumption | with_reducible apply Block.setRegion_keep K | with_reducible apply Block.labelUpdate_keep K | with_reducible refine ite_keep ?_ ?_ | dsimp only | intro _)

theorem execLabelIntervalExpiry_keep (K : KeptBySet Q) (region : Fin 6) (s : State) (hq : Q s.regs) :
    ∃ u, execLabelIntervalExpiry region s = .next u ∧ Q u.regs := by
  refine ⟨_, rfl, ?_⟩
  repeat' (first | with_reducible assumption | with_reducible apply Block.labelUpdate_keep K | with_reducible refine ite_keep ?_ ?_ | split | dsimp only | with_reducible refine pair_keep (by with_reducible assumption) ?_ | with_reducible refine pair_keep' (by with_reducible assumption) ?_ | intro _)

theorem execLabelFrame_keep (K : KeptBySet Q) (temp : Int) (tableBad : Bool) (s : State) (hq : Q s.regs) :
    ∃ u, execLabelFrame temp tableBad s = .next u ∧ Q u.regs := by
  refine ⟨_, rfl, ?_⟩
  repeat' (first | with_reducible assumption | with_reducible apply Block.timed_keep K | with_reducible apply Block.fset_keep K | with_reducible apply Block.raiseEvt_keep K | with_reducible apply Block.setRegN_keep K | with_reducible refine Block.when_keep _ _ _ ?_ (fun _ => ?_) | with_reducible refine Block.forAll_keep _ _ _ ?_ (fun _ _ _ => ?_) | with_reducible apply Block.regionFrame_keep K | with_reducible apply Block.cleanEnd_keep K | with_reducible apply Block.labelCommand_keep K | with_reducible apply Block.labelShow_keep K | with_reducible refine ite_keep ?_ ?_ | dsimp only | intro _)

theorem execRefresh_keep (K : KeptBySet Q) (r : Requester) (s : State) (hq : Q s.regs) :
    ∃ u, execRefresh r s = .next u ∧ Q u.regs := by
  refine ⟨_, rfl, ?_⟩
  repeat' (first | with_reducible assumption | with_reducible apply Block.dsbCmdWrite_keep K | dsimp only | intro _)

theorem execClean_keep (K : KeptBySet Q) (r : Requester) (s : State) (hq : Q s.regs) :
    ∃ u, execClean r s = .next u ∧ Q u.regs := by
  refine ⟨_, rfl, ?_⟩
  repeat' (first | with_reducible assumption | with_reducible apply Block.dsbCmdWrite_keep K | dsimp only | intro _)

theorem execCoreInputRise_keep (K : KeptBySet Q) (cp : Fin 2) (mv : Nat) (s : State) (hq : Q s.regs) :
    ∃ u, execCoreInputRise cp mv s = .next u ∧ Q u.regs := by
  refine ⟨_, rfl, ?_⟩
  repeat' (first | with_reducible assumption | with_reducible apply Block.cpReturn_keep K | with_reducible apply Block.qualify_keep K | with_reducible refine ite_keep ?_ ?_ | dsimp only | intro _)

theorem execInputQualificationEnd_keep (K : KeptBySet Q) (s : State) (hq : Q s.regs) :
    ∃ u, execInputQualificationEnd s = .next u ∧ Q u.regs := by
  refine ⟨_, rfl, ?_⟩
  repeat' (first | with_reducible assumption | with_reducible apply Block.qualify_keep K | with_reducible refine ite_keep ?_ ?_ | dsimp only | intro _)

theorem execCoreInputLost_keep (K : KeptBySet Q) (cp : Fin 2) (mv : Nat) (s : State) (hq : Q s.regs) :
    ∃ u, execCoreInputLost cp mv s = .next u ∧ Q u.regs := by
  refine ⟨_, rfl, ?_⟩
  repeat' (first | with_reducible assumption | with_reducible apply Block.cpLost_keep K | dsimp only | intro _)

theorem execCoreInputReturn_keep (K : KeptBySet Q) (cp : Fin 2) (mv : Nat) (s : State) (hq : Q s.regs) :
    ∃ u, execCoreInputReturn cp mv s = .next u ∧ Q u.regs := by
  refine ⟨_, rfl, ?_⟩
  repeat' (first | with_reducible assumption | with_reducible apply Block.cpReturn_keep K | with_reducible refine Block.when_keep _ _ _ ?_ (fun _ => ?_) | with_reducible apply Block.qualify_keep K | with_reducible refine ite_keep ?_ ?_ | dsimp only | intro _)

theorem execCoreOvervoltageDisconnect_keep (K : KeptBySet Q) (cp : Fin 2) (mv : Nat) (s : State) (hq : Q s.regs) :
    ∃ u, execCoreOvervoltageDisconnect cp mv s = .next u ∧ Q u.regs := by
  refine ⟨_, rfl, ?_⟩
  repeat' (first | with_reducible assumption | with_reducible apply Block.cpLost_keep K | dsimp only | intro _)

theorem execCoreOvervoltageReconnect_keep (K : KeptBySet Q) (cp : Fin 2) (mv : Nat) (s : State) (hq : Q s.regs) :
    ∃ u, execCoreOvervoltageReconnect cp mv s = .next u ∧ Q u.regs := by
  refine ⟨_, rfl, ?_⟩
  repeat' (first | with_reducible assumption | with_reducible apply Block.cpShow_keep K | with_reducible apply Block.cpReturn_keep K | with_reducible apply Block.qualify_keep K | with_reducible refine ite_keep ?_ ?_ | dsimp only | intro _)

theorem execCoreBusUndervoltage_keep (K : KeptBySet Q) (s : State) (hq : Q s.regs) :
    ∃ u, execCoreBusUndervoltage s = .next u ∧ Q u.regs := by
  refine ⟨_, rfl, ?_⟩
  repeat' (first | with_reducible assumption | with_reducible apply Block.qualify_keep K | split | dsimp only | with_reducible refine pair_keep (by with_reducible assumption) ?_ | with_reducible refine pair_keep' (by with_reducible assumption) ?_ | intro _)

theorem execCoreInterruptionEnd_keep (K : KeptBySet Q) (s : State) (hq : Q s.regs) :
    ∃ u, execCoreInterruptionEnd s = .next u ∧ Q u.regs := by
  refine ⟨_, rfl, ?_⟩
  repeat' (first | with_reducible assumption | with_reducible apply Block.recRegs_keep K | with_reducible refine ite_keep ?_ ?_ | dsimp only | intro _)

theorem execPowerFailCommit_keep (K : KeptBySet Q) (s : State) (hq : Q s.regs) :
    ∃ u, execPowerFailCommit s = .next u ∧ Q u.regs := by
  refine ⟨_, rfl, ?_⟩
  repeat' (first | with_reducible assumption | with_reducible apply Block.depart_keep K | with_reducible apply Block.recQueue_keep K | with_reducible refine ite_keep ?_ ?_ | dsimp only | intro _)

theorem execPowerDownOutputsOff_keep (K : KeptBySet Q) (s : State) (hq : Q s.regs) :
    ∃ u, execPowerDownOutputsOff s = .next u ∧ Q u.regs := by
  refine ⟨_, rfl, ?_⟩
  refine ite_keep ?_ hq
  have h := Block.closeSession_keep K
  have h1 := Block.unpower_keep K _ (Block.islPowerDown_keep K _ (Block.canSilence_keep K _
    (Block.forAll_keep (s.abandonAll.solAbortRun.solWithdraw) (s.abandonAll.solAbortRun.solWithdraw.ssp.sessions.map (·.num))
      Block.closeSession (Block.solWithdraw_keep K _ (Block.solAbortRun_keep K _ (Block.abandonAll_keep K _ hq))) fun b x hb => h b x hb)))
  have h2 := Block.chRefreshAll_keep K _ (Block.fset_keep K _ F.PWR_CP_STAT_HOLDUP 0 (Block.fset_keep K _ F.SYS_STATE_STATE stStart (Block.lockAll_keep K _ h1)))
  exact ite_keep (Block.qualify_keep K _ h2) h2

theorem execHoldUpStoreCharged_keep (K : KeptBySet Q) (s : State) (hq : Q s.regs) :
    ∃ u, execHoldUpStoreCharged s = .next u ∧ Q u.regs := by
  refine ⟨_, rfl, ?_⟩
  repeat' (first | with_reducible assumption | with_reducible apply Block.fset_keep K | with_reducible refine ite_keep ?_ ?_ | dsimp only | intro _)

theorem execSupervisorWatchdogExpiry_keep (K : KeptBySet Q) (s : State) (hq : Q s.regs) :
    ∃ u, execSupervisorWatchdogExpiry s = .next u ∧ Q u.regs := by
  refine ⟨_, rfl, ?_⟩
  repeat' (first | with_reducible assumption | with_reducible apply Block.changeState_keep K | with_reducible refine ite_keep ?_ ?_ | dsimp only | intro _)

theorem execReferenceFault_keep (K : KeptBySet Q) (s : State) (hq : Q s.regs) :
    ∃ u, execReferenceFault s = .next u ∧ Q u.regs := by
  refine ⟨_, rfl, ?_⟩
  repeat' (first | with_reducible assumption | with_reducible apply Block.fset_keep K | with_reducible apply Block.raiseEvt_keep K | with_reducible apply Block.changeState_keep K | with_reducible refine ite_keep ?_ ?_ | dsimp only | intro _)

theorem execSfpStatusChange_keep (K : KeptBySet Q) (abs los txFlt : Bool) (s : State) (hq : Q s.regs) :
    ∃ u, execSfpStatusChange abs los txFlt s = .next u ∧ Q u.regs := by
  refine ⟨_, rfl, ?_⟩
  repeat' (first | with_reducible assumption | with_reducible apply Block.sfpShow_keep K | with_reducible refine Block.when_keep _ _ _ ?_ (fun _ => ?_) | with_reducible apply Block.raiseEvt_keep K | with_reducible apply Block.pairLinkDown_keep K | with_reducible refine ite_keep ?_ ?_ | dsimp only | intro _)

theorem execMark_keep (K : KeptBySet Q) (r : Requester) (downgrade : Bool) (s : State) (hq : Q s.regs) :
    ∃ u, execMark r downgrade s = .next u ∧ Q u.regs := by
  refine ⟨_, rfl, ?_⟩
  repeat' (first | with_reducible assumption | with_reducible apply Block.updCmdWrite_keep K | with_reducible refine ite_keep ?_ ?_ | dsimp only | intro _)

theorem execUnmark_keep (K : KeptBySet Q) (r : Requester) (s : State) (hq : Q s.regs) :
    ∃ u, execUnmark r s = .next u ∧ Q u.regs := by
  refine ⟨_, rfl, ?_⟩
  repeat' (first | with_reducible assumption | with_reducible apply Block.updCmdWrite_keep K | dsimp only | intro _)

theorem execUpdDiscard_keep (K : KeptBySet Q) (r : Requester) (s : State) (hq : Q s.regs) :
    ∃ u, execUpdDiscard r s = .next u ∧ Q u.regs := by
  refine ⟨_, rfl, ?_⟩
  repeat' (first | with_reducible assumption | with_reducible apply Block.updCmdWrite_keep K | dsimp only | intro _)

theorem execRevert_keep (K : KeptBySet Q) (r : Requester) (app : Bool) (s : State) (hq : Q s.regs) :
    ∃ u, execRevert r app s = .next u ∧ Q u.regs := by
  refine ⟨_, rfl, ?_⟩
  repeat' (first | with_reducible assumption | with_reducible apply Block.updCmdWrite_keep K | with_reducible refine ite_keep ?_ ?_ | dsimp only | intro _)

theorem execOlcMarkerDurable_keep (K : KeptBySet Q) (s : State) (hq : Q s.regs) :
    ∃ u, execOlcMarkerDurable s = .next u ∧ Q u.regs := by
  refine ⟨_, rfl, ?_⟩
  repeat' (first | with_reducible assumption | with_reducible refine ite_keep ?_ ?_ | split | dsimp only | with_reducible refine pair_keep (by with_reducible assumption) ?_ | with_reducible refine pair_keep' (by with_reducible assumption) ?_ | intro _)

theorem execModuleStart_keep (K : KeptBySet Q) (unitSel : Fin 4) (i : StartIn) (s : State) (hq : Q s.regs) :
    ∃ u, execModuleStart unitSel i s = .next u ∧ Q u.regs := by
  refine ⟨_, rfl, ?_⟩
  repeat' (first | with_reducible assumption | with_reducible apply Block.startRegs_keep K | with_reducible apply Block.freshen_keep K | with_reducible apply Block.powerGood_keep K | with_reducible apply Block.countStart_keep K | with_reducible apply Block.fset_keep K | with_reducible apply Block.startSteps_keep K | with_reducible refine ite_keep ?_ ?_ | dsimp only | intro _)

theorem execStop_keep (K : KeptBySet Q) (r : Requester) (force : Bool) (s : State) (hq : Q s.regs) :
    ∃ u, execStop r force s = .next u ∧ Q u.regs := by
  refine ⟨_, rfl, ?_⟩
  repeat' (first | with_reducible assumption | with_reducible apply Block.sysCmdWrite_keep K | dsimp only | intro _)

theorem execRun_keep (K : KeptBySet Q) (r : Requester) (s : State) (hq : Q s.regs) :
    ∃ u, execRun r s = .next u ∧ Q u.regs := by
  refine ⟨_, rfl, ?_⟩
  repeat' (first | with_reducible assumption | with_reducible apply Block.sysCmdWrite_keep K | dsimp only | intro _)

theorem execCommission_keep (K : KeptBySet Q) (r : Requester) (s : State) (hq : Q s.regs) :
    ∃ u, execCommission r s = .next u ∧ Q u.regs := by
  refine ⟨_, rfl, ?_⟩
  repeat' (first | with_reducible assumption | with_reducible apply Block.sysCmdWrite_keep K | dsimp only | intro _)

theorem execSysRestart_keep (K : KeptBySet Q) (r : Requester) (force : Bool) (i : StartIn) (s : State) (hq : Q s.regs) :
    ∃ u, execSysRestart r force i s = .next u ∧ Q u.regs := by
  refine ⟨_, rfl, ?_⟩
  repeat' (first | with_reducible assumption | with_reducible apply Block.sysCmdWrite_keep K | dsimp only | intro _)

theorem execPrpFrameRx_keep (K : KeptBySet Q) (f : PrpRx) (s : State) (hq : Q s.regs) :
    ∃ u, execPrpFrameRx f s = .next u ∧ Q u.regs := by
  refine ⟨_, rfl, ?_⟩
  repeat' (first | with_reducible assumption | with_reducible apply Block.incSat_keep K | with_reducible apply Block.lanHeard_keep K | with_reducible apply Block.prpNode_keep K | with_reducible refine Block.when_keep _ _ _ ?_ (fun _ => ?_) | with_reducible apply Block.raiseEvt_keep K | with_reducible apply Block.passUp_keep K | with_reducible refine ite_keep ?_ ?_ | split | dsimp only | with_reducible refine pair_keep (by with_reducible assumption) ?_ | with_reducible refine pair_keep' (by with_reducible assumption) ?_ | intro _)

theorem execPrpSupervisionTx_keep (K : KeptBySet Q) (s : State) (hq : Q s.regs) :
    ∃ u, execPrpSupervisionTx s = .next u ∧ Q u.regs := by
  refine ⟨_, rfl, ?_⟩
  repeat' (first | with_reducible assumption | with_reducible apply Block.timed_keep K | with_reducible apply Block.prpSend_keep K | with_reducible refine ite_keep ?_ ?_ | dsimp only | intro _)

theorem execPrpNodeForget_keep (K : KeptBySet Q) (mac : Nat) (s : State) (hq : Q s.regs) :
    ∃ u, execPrpNodeForget mac s = .next u ∧ Q u.regs := by
  refine ⟨_, rfl, ?_⟩
  repeat' (first | with_reducible assumption | with_reducible apply Block.fset_keep K | with_reducible refine ite_keep ?_ ?_ | dsimp only | intro _)

theorem execIcmpEcho_keep (K : KeptBySet Q) (dst src data : Nat) (s : State) (hq : Q s.regs) :
    ∃ u, execIcmpEcho dst src data s = .next u ∧ Q u.regs := by
  refine ⟨_, rfl, ?_⟩
  repeat' (first | with_reducible assumption | with_reducible apply Block.ipSend_keep K | with_reducible refine ite_keep ?_ ?_ | dsimp only | intro _)

theorem execArpRequest_keep (K : KeptBySet Q) (target sender : Nat) (s : State) (hq : Q s.regs) :
    ∃ u, execArpRequest target sender s = .next u ∧ Q u.regs := by
  refine ⟨_, rfl, ?_⟩
  repeat' (first | with_reducible assumption | with_reducible apply Block.prpSend_keep K | with_reducible refine ite_keep ?_ ?_ | dsimp only | intro _)

theorem execIpSettingsTakeEffect_keep (K : KeptBySet Q) (s : State) (hq : Q s.regs) :
    ∃ u, execIpSettingsTakeEffect s = .next u ∧ Q u.regs := by
  refine ⟨_, rfl, ?_⟩
  repeat' (first | with_reducible assumption | with_reducible apply Block.ipTake_keep K | with_reducible refine ite_keep ?_ ?_ | dsimp only | intro _)

theorem execNetPortLink_keep (K : KeptBySet Q) (portB up : Bool) (s : State) (hq : Q s.regs) :
    ∃ u, execNetPortLink portB up s = .next u ∧ Q u.regs := by
  refine ⟨_, rfl, ?_⟩
  repeat' (first | with_reducible assumption | with_reducible apply Block.fsetB_keep K | with_reducible apply Block.event_keep K | with_reducible apply Block.ptpDecide_keep K | with_reducible refine ite_keep ?_ ?_ | dsimp only | intro _)

theorem execPtpAnnounceRx_keep (K : KeptBySet Q) (portB : Bool) (domain : Nat) (set : PtpSet) (utc : Nat) (utcValid : Bool) (s : State) (hq : Q s.regs) :
    ∃ u, execPtpAnnounceRx portB domain set utc utcValid s = .next u ∧ Q u.regs := by
  refine ⟨_, rfl, ?_⟩
  repeat' (first | with_reducible assumption | with_reducible refine Block.when_keep _ _ _ ?_ (fun _ => ?_) | with_reducible apply Block.timed_keep K | with_reducible apply Block.setPtpPort_keep K | with_reducible apply Block.ptpDecide_keep K | with_reducible refine ite_keep ?_ ?_ | split | dsimp only | with_reducible refine pair_keep (by with_reducible assumption) ?_ | with_reducible refine pair_keep' (by with_reducible assumption) ?_ | intro _)

theorem execPtpAnnounceTimeout_keep (K : KeptBySet Q) (portB : Bool) (s : State) (hq : Q s.regs) :
    ∃ u, execPtpAnnounceTimeout portB s = .next u ∧ Q u.regs := by
  refine ⟨_, rfl, ?_⟩
  repeat' (first | with_reducible assumption | with_reducible apply Block.timed_keep K | with_reducible apply Block.incSat_keep K | with_reducible apply Block.raiseEvt_keep K | with_reducible apply Block.setPtpPort_keep K | with_reducible apply Block.ptpMaster_keep K | with_reducible apply Block.ptpDecide_keep K | with_reducible refine ite_keep ?_ ?_ | dsimp only | intro _)

theorem execPtpSyncRx_keep (K : KeptBySet Q) (m : PtpSync) (t1 : Int) (s : State) (hq : Q s.regs) :
    ∃ u, execPtpSyncRx m t1 s = .next u ∧ Q u.regs := by
  refine ⟨_, rfl, ?_⟩
  repeat' (first | with_reducible assumption | with_reducible apply Block.setPtpPort_keep K | with_reducible apply Block.ptpOffset_keep K | with_reducible refine ite_keep ?_ ?_ | dsimp only | intro _)

theorem execPtpFollowUpRx_keep (K : KeptBySet Q) (m : PtpSync) (s : State) (hq : Q s.regs) :
    ∃ u, execPtpFollowUpRx m s = .next u ∧ Q u.regs := by
  refine ⟨_, rfl, ?_⟩
  repeat' (first | with_reducible assumption | with_reducible apply Block.setPtpPort_keep K | with_reducible apply Block.ptpOffset_keep K | with_reducible refine ite_keep ?_ ?_ | split | dsimp only | with_reducible refine pair_keep (by with_reducible assumption) ?_ | with_reducible refine pair_keep' (by with_reducible assumption) ?_ | intro _)

theorem execPtpDelayReqTx_keep (K : KeptBySet Q) (portB : Bool) (s : State) (hq : Q s.regs) :
    ∃ u, execPtpDelayReqTx portB s = .next u ∧ Q u.regs := by
  refine ⟨_, rfl, ?_⟩
  repeat' (first | with_reducible assumption | with_reducible apply Block.setPtpPort_keep K | with_reducible apply Block.timed_keep K | with_reducible apply Block.ptpSend_keep K | with_reducible refine ite_keep ?_ ?_ | dsimp only | intro _)

theorem execPtpDelayRespRx_keep (K : KeptBySet Q) (portB : Bool) (domain : Nat) (t1 t2 t3 t4 correction : Int) (s : State) (hq : Q s.regs) :
    ∃ u, execPtpDelayRespRx portB domain t1 t2 t3 t4 correction s = .next u ∧ Q u.regs := by
  refine ⟨_, rfl, ?_⟩
  repeat' (first | with_reducible assumption | with_reducible apply Block.setPtpPort_keep K | with_reducible apply Block.ptpShow_keep K | with_reducible refine ite_keep ?_ ?_ | dsimp only | intro _)

theorem execPtpPdelayReqRx_keep (K : KeptBySet Q) (portB : Bool) (domain seq : Nat) (correction : Int) (residence : Nat) (s : State) (hq : Q s.regs) :
    ∃ u, execPtpPdelayReqRx portB domain seq correction residence s = .next u ∧ Q u.regs := by
  refine ⟨_, rfl, ?_⟩
  repeat' (first | with_reducible assumption | with_reducible apply Block.ptpSend_keep K | with_reducible refine ite_keep ?_ ?_ | dsimp only | intro _)

theorem execPtpMasterTx_keep (K : KeptBySet Q) (portB announce : Bool) (s : State) (hq : Q s.regs) :
    ∃ u, execPtpMasterTx portB announce s = .next u ∧ Q u.regs := by
  refine ⟨_, rfl, ?_⟩
  repeat' (first | with_reducible assumption | with_reducible apply Block.timed_keep K | with_reducible apply Block.ptpSend_keep K | with_reducible refine ite_keep ?_ ?_ | dsimp only | intro _)

theorem execPtpDelayReqRx_keep (K : KeptBySet Q) (portB : Bool) (domain seq sender receipt : Nat) (s : State) (hq : Q s.regs) :
    ∃ u, execPtpDelayReqRx portB domain seq sender receipt s = .next u ∧ Q u.regs := by
  refine ⟨_, rfl, ?_⟩
  repeat' (first | with_reducible assumption | with_reducible apply Block.ptpSend_keep K | with_reducible refine ite_keep ?_ ?_ | dsimp only | intro _)

theorem execPanelRender_keep (K : KeptBySet Q) (body : List (List Nat)) (attrs : List Nat) (ok mapOk : Bool) (s : State) (hq : Q s.regs) :
    ∃ u, execPanelRender body attrs ok mapOk s = .next u ∧ Q u.regs := by
  refine ⟨_, rfl, ?_⟩
  repeat' (first | with_reducible assumption | with_reducible apply Block.timed_keep K | with_reducible apply Block.readMap_keep K | with_reducible refine Block.when_keep _ _ _ ?_ (fun _ => ?_) | with_reducible apply Block.raiseEvt_keep K | with_reducible apply Block.fsetB_keep K | with_reducible apply Block.takeSwap_keep K | with_reducible apply Block.fset_keep K | with_reducible apply Block.writeLines_keep K | with_reducible refine ite_keep ?_ ?_ | dsimp only | intro _)

theorem execSwap_keep (K : KeptBySet Q) (r : Requester) (s : State) (hq : Q s.regs) :
    ∃ u, execSwap r s = .next u ∧ Q u.regs := by
  refine ⟨_, rfl, ?_⟩
  repeat' (first | with_reducible assumption | with_reducible apply Block.cmdWrite_keep K | with_reducible apply id_keep | dsimp only | intro _)

theorem execPanelDim_keep (K : KeptBySet Q) (s : State) (hq : Q s.regs) :
    ∃ u, execPanelDim s = .next u ∧ Q u.regs := by
  refine ⟨_, rfl, ?_⟩
  repeat' (first | with_reducible assumption | with_reducible apply Block.fset_keep K | with_reducible refine ite_keep ?_ ?_ | dsimp only | intro _)

theorem execButtonPress_keep (K : KeptBySet Q) (button : Fin 3) (held : Fin 8) (s : State) (hq : Q s.regs) :
    ∃ u, execButtonPress button held s = .next u ∧ Q u.regs := by
  refine ⟨_, rfl, ?_⟩
  repeat' (first | with_reducible assumption | with_reducible apply Block.btnLevels_keep K | with_reducible apply Block.accept_keep K | with_reducible apply Block.shortPress_keep K | with_reducible refine ite_keep ?_ ?_ | dsimp only | intro _)

theorem execButtonLongPress_keep (K : KeptBySet Q) (held : Fin 8) (s : State) (hq : Q s.regs) :
    ∃ u, execButtonLongPress held s = .next u ∧ Q u.regs := by
  refine ⟨_, rfl, ?_⟩
  repeat' (first | with_reducible assumption | with_reducible apply Block.btnLevels_keep K | with_reducible apply Block.accept_keep K | with_reducible apply Block.fset_keep K | with_reducible apply Block.calCancelBy_keep K | with_reducible refine ite_keep ?_ ?_ | split | dsimp only | with_reducible refine pair_keep (by with_reducible assumption) ?_ | with_reducible refine pair_keep' (by with_reducible assumption) ?_ | intro _)

theorem execButtonRepeat_keep (K : KeptBySet Q) (down : Bool) (held : Fin 8) (s : State) (hq : Q s.regs) :
    ∃ u, execButtonRepeat down held s = .next u ∧ Q u.regs := by
  refine ⟨_, rfl, ?_⟩
  repeat' (first | with_reducible assumption | with_reducible apply Block.btnLevels_keep K | with_reducible apply Block.accept_keep K | with_reducible apply Block.calMove_keep K | with_reducible refine ite_keep ?_ ?_ | dsimp only | intro _)

theorem execLampTest_keep (K : KeptBySet Q) (held : Fin 8) (s : State) (hq : Q s.regs) :
    ∃ u, execLampTest held s = .next u ∧ Q u.regs := by
  refine ⟨_, rfl, ?_⟩
  repeat' (first | with_reducible assumption | with_reducible apply Block.btnLevels_keep K | with_reducible apply Block.accept_keep K | with_reducible apply Block.fset_keep K | with_reducible refine ite_keep ?_ ?_ | dsimp only | intro _)

theorem execLocalCalChange_keep (K : KeptBySet Q) (closed : Bool) (s : State) (hq : Q s.regs) :
    ∃ u, execLocalCalChange closed s = .next u ∧ Q u.regs := by
  refine ⟨_, rfl, ?_⟩
  repeat' (first | with_reducible assumption | with_reducible apply Block.fsetB_keep K | with_reducible apply Block.raiseEvt_keep K | with_reducible refine Block.forAll_keep _ _ _ ?_ (fun _ _ _ => ?_) | with_reducible apply Block.calEnd_keep K | with_reducible refine ite_keep ?_ ?_ | split | dsimp only | with_reducible refine pair_keep (by with_reducible assumption) ?_ | with_reducible refine pair_keep' (by with_reducible assumption) ?_ | intro _)

theorem execUnlock_keep (K : KeptBySet Q) (r : Requester) (s : State) (hq : Q s.regs) :
    ∃ u, execUnlock r s = .next u ∧ Q u.regs := by
  refine ⟨_, rfl, ?_⟩
  repeat' (first | with_reducible assumption | with_reducible apply Block.secCmdWrite_keep K | dsimp only | intro _)

theorem execFieldBusUndervoltage_keep (K : KeptBySet Q) (s : State) (hq : Q s.regs) :
    ∃ u, execFieldBusUndervoltage s = .next u ∧ Q u.regs := by
  refine ⟨_, rfl, ?_⟩
  repeat' (first | with_reducible assumption | with_reducible apply Block.supplyFault_keep K | with_reducible refine ite_keep ?_ ?_ | dsimp only | intro _)

theorem execFieldLimitTrip_keep (K : KeptBySet Q) (s : State) (hq : Q s.regs) :
    ∃ u, execFieldLimitTrip s = .next u ∧ Q u.regs := by
  refine ⟨_, rfl, ?_⟩
  repeat' (first | with_reducible assumption | with_reducible apply Block.supplyFault_keep K | with_reducible refine ite_keep ?_ ?_ | dsimp only | intro _)

theorem execFieldBusReturn_keep (K : KeptBySet Q) (s : State) (hq : Q s.regs) :
    ∃ u, execFieldBusReturn s = .next u ∧ Q u.regs := by
  refine ⟨_, rfl, ?_⟩
  repeat' (first | with_reducible assumption | with_reducible apply Block.fset_keep K | with_reducible apply Block.supplyBack_keep K | with_reducible refine ite_keep ?_ ?_ | dsimp only | intro _)

theorem execFieldInputChange_keep (K : KeptBySet Q) (fp : Fin 2) (ok : Bool) (mv : Nat) (s : State) (hq : Q s.regs) :
    ∃ u, execFieldInputChange fp ok mv s = .next u ∧ Q u.regs := by
  refine ⟨_, rfl, ?_⟩
  repeat' (first | with_reducible assumption | with_reducible apply Block.fset_keep K | with_reducible apply Block.chRefreshAll_keep K | with_reducible apply Block.fsetB_keep K | with_reducible apply Block.raiseEvt_keep K | with_reducible refine ite_keep ?_ ?_ | dsimp only | intro _)

theorem execRestore_keep (K : KeptBySet Q) (r : Requester) (s : State) (hq : Q s.regs) :
    ∃ u, execRestore r s = .next u ∧ Q u.regs := by
  refine ⟨_, rfl, ?_⟩
  repeat' (first | with_reducible assumption | with_reducible apply Block.cmdWrite_keep K | with_reducible apply Block.chgRestore_keep K | dsimp only | intro _)

theorem execTpChipEval_keep (K : KeptBySet Q) (ch : Fin 64) (chip : Fin 8) (on : Bool) (found : Option (Fin 64)) (s : State) (hq : Q s.regs) :
    ∃ u, execTpChipEval ch chip on found s = .next u ∧ Q u.regs := by
  refine ⟨_, rfl, ?_⟩
  repeat' (first | with_reducible assumption | with_reducible apply Block.tpChip_keep K | with_reducible refine Block.when_keep _ _ _ ?_ (fun _ => ?_) | with_reducible apply Block.lockout_keep K | dsimp only | intro _)

theorem execRegisterWrite_keep (K : KeptBySet Q) (r : Requester) (off : Nat) (size : AccSize) (v : Word) (found : AccIn) (s : State) (hq : Q s.regs) :
    ∃ u, execRegisterWrite r off size v found s = .next u ∧ Q u.regs := by
  refine ⟨_, rfl, ?_⟩
  repeat' (first | with_reducible assumption | with_reducible apply Block.answered_keep K | with_reducible apply Block.fabWrite_keep K | with_reducible apply Block.refuse_keep K | with_reducible refine ite_keep ?_ ?_ | dsimp only | intro _)

theorem execRcRead_keep (K : KeptBySet Q) (r : Requester) (off : Nat) (size : AccSize) (s : State) (hq : Q s.regs) :
    ∃ u, execRcRead r off size s = .next u ∧ Q u.regs := by
  refine ⟨_, rfl, ?_⟩
  repeat' (first | with_reducible assumption | with_reducible apply Block.readAnswered_keep K | with_reducible apply Block.refuse_keep K | with_reducible refine ite_keep ?_ ?_ | dsimp only | intro _)

theorem execReg64LoRead_keep (K : KeptBySet Q) (r : Requester) (off : Nat) (s : State) (hq : Q s.regs) :
    ∃ u, execReg64LoRead r off s = .next u ∧ Q u.regs := by
  refine ⟨_, rfl, ?_⟩
  repeat' (first | with_reducible assumption | with_reducible apply Block.readAnswered_keep K | dsimp only | intro _)

theorem execReg64LoWrite_keep (K : KeptBySet Q) (r : Requester) (off : Nat) (v : Word) (s : State) (hq : Q s.regs) :
    ∃ u, execReg64LoWrite r off v s = .next u ∧ Q u.regs := by
  refine ⟨_, rfl, ?_⟩
  repeat' (first | with_reducible assumption | with_reducible apply Block.answered_keep K | with_reducible apply Block.fabWrite_keep K | dsimp only | intro _)

theorem execReg64HiWrite_keep (K : KeptBySet Q) (r : Requester) (off : Nat) (v : Word) (s : State) (hq : Q s.regs) :
    ∃ u, execReg64HiWrite r off v s = .next u ∧ Q u.regs := by
  refine ⟨_, rfl, ?_⟩
  repeat' (first | with_reducible assumption | with_reducible apply Block.answered_keep K | with_reducible apply Block.fabWrite_keep K | dsimp only | intro _)

theorem execEvtTest_keep (K : KeptBySet Q) (r : Requester) (page : Nat) (gate : Bool) (s : State) (hq : Q s.regs) :
    ∃ u, execEvtTest r page gate s = .next u ∧ Q u.regs := by
  refine ⟨_, rfl, ?_⟩
  repeat' (first | with_reducible assumption | with_reducible apply Block.answered_keep K | with_reducible apply Block.oneWrite_keep K | with_reducible refine ite_keep ?_ ?_ | dsimp only | intro _)

theorem execEvtPendClear_keep (K : KeptBySet Q) (r : Requester) (page : Nat) (v : Word) (s : State) (hq : Q s.regs) :
    ∃ u, execEvtPendClear r page v s = .next u ∧ Q u.regs := by
  refine ⟨_, rfl, ?_⟩
  repeat' (first | with_reducible assumption | with_reducible apply Block.answered_keep K | with_reducible apply Block.oneWrite_keep K | dsimp only | intro _)

theorem execPageUnlock_keep (K : KeptBySet Q) (r : Requester) (page : Nat) (s : State) (hq : Q s.regs) :
    ∃ u, execPageUnlock r page s = .next u ∧ Q u.regs := by
  refine ⟨_, rfl, ?_⟩
  repeat' (first | with_reducible assumption | with_reducible apply Block.answered_keep K | with_reducible apply Block.oneWrite_keep K | dsimp only | intro _)

theorem execPageLock_keep (K : KeptBySet Q) (r : Requester) (page : Nat) (v : Word) (s : State) (hq : Q s.regs) :
    ∃ u, execPageLock r page v s = .next u ∧ Q u.regs := by
  refine ⟨_, rfl, ?_⟩
  repeat' (first | with_reducible assumption | with_reducible apply Block.answered_keep K | with_reducible apply Block.oneWrite_keep K | dsimp only | intro _)

theorem execPageLockTimeout_keep (K : KeptBySet Q) (page : Nat) (s : State) (hq : Q s.regs) :
    ∃ u, execPageLockTimeout page s = .next u ∧ Q u.regs := by
  refine ⟨_, rfl, ?_⟩
  repeat' (first | with_reducible assumption | with_reducible apply Block.lockPage_keep K | with_reducible refine ite_keep ?_ ?_ | dsimp only | intro _)

theorem execEventLineEdge_keep (K : KeptBySet Q) (line : Fin 256) (s : State) (hq : Q s.regs) :
    ∃ u, execEventLineEdge line s = .next u ∧ Q u.regs := by
  refine ⟨_, rfl, ?_⟩
  repeat' (first | with_reducible assumption | with_reducible apply Block.fset_keep K | with_reducible refine Block.forAll_keep _ _ _ ?_ (fun _ _ _ => ?_) | with_reducible apply Block.trigger_keep K | with_reducible refine ite_keep ?_ ?_ | dsimp only | intro _)

theorem execAccRefusedRecord_keep (K : KeptBySet Q) (r : Requester) (s : State) (hq : Q s.regs) :
    ∃ u, execAccRefusedRecord r s = .next u ∧ Q u.regs := by
  refine ⟨_, rfl, ?_⟩
  repeat' (first | with_reducible assumption | with_reducible apply Block.recAccept_keep K | with_reducible refine ite_keep ?_ ?_ | split | dsimp only | with_reducible refine pair_keep (by with_reducible assumption) ?_ | with_reducible refine pair_keep' (by with_reducible assumption) ?_ | intro _)

theorem execSspBadDatagram_keep (K : KeptBySet Q) (d : List (BitVec 8)) (s : State) (hq : Q s.regs) :
    ∃ u, execSspBadDatagram d s = .next u ∧ Q u.regs := by
  refine ⟨_, rfl, ?_⟩
  repeat' (first | with_reducible assumption | with_reducible apply Block.incSat_keep K | with_reducible apply Block.closeSession_keep K | with_reducible refine Block.when_keep _ _ _ ?_ (fun _ => ?_) | with_reducible refine ite_keep ?_ ?_ | split | dsimp only | with_reducible refine pair_keep (by with_reducible assumption) ?_ | with_reducible refine pair_keep' (by with_reducible assumption) ?_ | intro _)

theorem execSspOpen_keep (K : KeptBySet Q) (o : SspOpen) (s : State) (hq : Q s.regs) :
    ∃ u, execSspOpen o s = .next u ∧ Q u.regs := by
  refine ⟨_, rfl, ?_⟩
  repeat' (first | with_reducible assumption | with_reducible apply Block.openHold_keep K | with_reducible apply Block.openRefused_keep K | with_reducible apply Block.raiseEvt_keep K | with_reducible apply Block.event_keep K | with_reducible apply Block.openSession_keep K | with_reducible refine ite_keep ?_ ?_ | dsimp only | intro _)

theorem execSspClose_keep (K : KeptBySet Q) (h : SspHdr) (s : State) (hq : Q s.regs) :
    ∃ u, execSspClose h s = .next u ∧ Q u.regs := by
  refine ⟨_, rfl, ?_⟩
  repeat' (first | with_reducible assumption | with_reducible apply Block.sspRequest_keep K | with_reducible apply Block.sspAnswer_keep K | with_reducible apply Block.closeSession_keep K | dsimp only | intro _)

theorem execSspKeepalive_keep (K : KeptBySet Q) (h : SspHdr) (s : State) (hq : Q s.regs) :
    ∃ u, execSspKeepalive h s = .next u ∧ Q u.regs := by
  refine ⟨_, rfl, ?_⟩
  repeat' (first | with_reducible assumption | with_reducible apply Block.sspRequest_keep K | with_reducible apply Block.sspAnswer_keep K | dsimp only | intro _)

theorem execSspSessionTimeout_keep (K : KeptBySet Q) (session : Nat) (s : State) (hq : Q s.regs) :
    ∃ u, execSspSessionTimeout session s = .next u ∧ Q u.regs := by
  refine ⟨_, rfl, ?_⟩
  repeat' (first | with_reducible assumption | with_reducible apply Block.closeSession_keep K | with_reducible refine ite_keep ?_ ?_ | dsimp only | intro _)

theorem execSspUnknownService_keep (K : KeptBySet Q) (h : SspHdr) (service : Nat) (s : State) (hq : Q s.regs) :
    ∃ u, execSspUnknownService h service s = .next u ∧ Q u.regs := by
  refine ⟨_, rfl, ?_⟩
  repeat' (first | with_reducible assumption | with_reducible apply Block.sspRequest_keep K | with_reducible apply Block.sspAnswer_keep K | with_reducible refine ite_keep ?_ ?_ | dsimp only | intro _)

theorem execSspRegRead_keep (K : KeptBySet Q) (h : SspHdr) (offs : List Nat) (s : State) (hq : Q s.regs) :
    ∃ u, execSspRegRead h offs s = .next u ∧ Q u.regs := by
  refine ⟨_, rfl, ?_⟩
  repeat' (first | with_reducible assumption | with_reducible apply Block.sspRequest_keep K | with_reducible apply Block.sspAnswer_keep K | with_reducible apply Block.sspReads_keep K | with_reducible refine ite_keep ?_ ?_ | dsimp only | intro _)

theorem execSspRegWrite_keep (K : KeptBySet Q) (h : SspHdr) (pairs : List (Nat × Word)) (found : AccIn) (s : State) (hq : Q s.regs) :
    ∃ u, execSspRegWrite h pairs found s = .next u ∧ Q u.regs := by
  refine ⟨_, rfl, ?_⟩
  repeat' (first | with_reducible assumption | with_reducible apply Block.sspRequest_keep K | with_reducible apply Block.regWrite_keep K | with_reducible apply Block.sspAnswer_keep K | with_reducible apply Block.sspWrites_keep K | with_reducible refine ite_keep ?_ ?_ | dsimp only | intro _)

theorem execSspSubscribe_keep (K : KeptBySet Q) (h : SspHdr) (vids : List Nat) (period : Nat) (s : State) (hq : Q s.regs) :
    ∃ u, execSspSubscribe h vids period s = .next u ∧ Q u.regs := by
  refine ⟨_, rfl, ?_⟩
  repeat' (first | with_reducible assumption | with_reducible apply Block.sspRequest_keep K | with_reducible apply Block.sspAnswer_keep K | with_reducible apply Block.putSession_keep K | with_reducible refine ite_keep ?_ ?_ | dsimp only | intro _)

theorem execSspUnsubscribe_keep (K : KeptBySet Q) (h : SspHdr) (vids : List Nat) (s : State) (hq : Q s.regs) :
    ∃ u, execSspUnsubscribe h vids s = .next u ∧ Q u.regs := by
  refine ⟨_, rfl, ?_⟩
  repeat' (first | with_reducible assumption | with_reducible apply Block.sspRequest_keep K | with_reducible apply Block.putSession_keep K | with_reducible apply Block.sspAnswer_keep K | dsimp only | intro _)

theorem execSspPublish_keep (K : KeptBySet Q) (session period : Nat) (s : State) (hq : Q s.regs) :
    ∃ u, execSspPublish session period s = .next u ∧ Q u.regs := by
  refine ⟨_, rfl, ?_⟩
  repeat' (first | with_reducible assumption | with_reducible apply Block.putSession_keep K | with_reducible refine Block.forAll_keep _ _ _ ?_ (fun _ _ _ => ?_) | with_reducible apply Block.publishVids_keep K | with_reducible refine ite_keep ?_ ?_ | split | dsimp only | with_reducible refine pair_keep (by with_reducible assumption) ?_ | with_reducible refine pair_keep' (by with_reducible assumption) ?_ | intro _)

theorem execSignedCmd_keep (K : KeptBySet Q) (h : SspHdr) (action serial : Nat) (nonce : Word) (sig : List Word) (s : State) (hq : Q s.regs) :
    ∃ u, execSignedCmd h action serial nonce sig s = .next u ∧ Q u.regs := by
  refine ⟨_, rfl, ?_⟩
  repeat' (first | with_reducible assumption | with_reducible apply Block.sspRequest_keep K | with_reducible apply Block.signedCommand_keep K | with_reducible apply Block.sspAnswer_keep K | with_reducible refine ite_keep ?_ ?_ | dsimp only | intro _)

theorem execRecRead_keep (K : KeptBySet Q) (h : SspHdr) (area pos count : Nat) (s : State) (hq : Q s.regs) :
    ∃ u, execRecRead h area pos count s = .next u ∧ Q u.regs := by
  refine ⟨_, rfl, ?_⟩
  repeat' (first | with_reducible assumption | with_reducible apply Block.sspRequest_keep K | with_reducible apply Block.sspAnswer_keep K | with_reducible refine ite_keep ?_ ?_ | dsimp only | intro _)

theorem execFileBegin_keep (K : KeptBySet Q) (h : SspHdr) (target size ident version : Nat) (s : State) (hq : Q s.regs) :
    ∃ u, execFileBegin h target size ident version s = .next u ∧ Q u.regs := by
  refine ⟨_, rfl, ?_⟩
  repeat' (first | with_reducible assumption | with_reducible apply Block.sspRequest_keep K | with_reducible apply Block.sspAnswer_keep K | with_reducible apply Block.setTransfer_keep K | with_reducible apply Block.caskBegin_keep K | with_reducible apply Block.pkgBegin_keep K | with_reducible apply Block.imgBegin_keep K | with_reducible refine ite_keep ?_ ?_ | split | dsimp only | with_reducible refine pair_keep (by with_reducible assumption) ?_ | with_reducible refine pair_keep' (by with_reducible assumption) ?_ | intro _)

theorem execFilePiece_keep (K : KeptBySet Q) (h : SspHdr) (chunk off : Nat) (data : List (BitVec 8)) (s : State) (hq : Q s.regs) :
    ∃ u, execFilePiece h chunk off data s = .next u ∧ Q u.regs := by
  refine ⟨_, rfl, ?_⟩
  repeat' (first | with_reducible assumption | with_reducible apply Block.sspRequest_keep K | with_reducible apply Block.sspAnswer_keep K | with_reducible apply Block.caskPiece_keep K | with_reducible apply Block.pkgPiece_keep K | with_reducible apply Block.imgPiece_keep K | with_reducible refine ite_keep ?_ ?_ | split | dsimp only | with_reducible refine pair_keep (by with_reducible assumption) ?_ | with_reducible refine pair_keep' (by with_reducible assumption) ?_ | intro _)

theorem execFileStatus_keep (K : KeptBySet Q) (h : SspHdr) (s : State) (hq : Q s.regs) :
    ∃ u, execFileStatus h s = .next u ∧ Q u.regs := by
  refine ⟨_, rfl, ?_⟩
  repeat' (first | with_reducible assumption | with_reducible apply Block.sspRequest_keep K | with_reducible apply Block.sspAnswer_keep K | with_reducible refine Block.when_keep _ _ _ ?_ (fun _ => ?_) | with_reducible apply Block.setTransfer_keep K | split | dsimp only | with_reducible refine pair_keep (by with_reducible assumption) ?_ | with_reducible refine pair_keep' (by with_reducible assumption) ?_ | intro _)

theorem execFileAbort_keep (K : KeptBySet Q) (h : SspHdr) (s : State) (hq : Q s.regs) :
    ∃ u, execFileAbort h s = .next u ∧ Q u.regs := by
  refine ⟨_, rfl, ?_⟩
  repeat' (first | with_reducible assumption | with_reducible apply Block.sspRequest_keep K | with_reducible apply Block.sspAnswer_keep K | with_reducible apply Block.dropTransfer_keep K | split | dsimp only | with_reducible refine pair_keep (by with_reducible assumption) ?_ | with_reducible refine pair_keep' (by with_reducible assumption) ?_ | intro _)

theorem execFileTransferOrphanTimeout_keep (K : KeptBySet Q) (s : State) (hq : Q s.regs) :
    ∃ u, execFileTransferOrphanTimeout s = .next u ∧ Q u.regs := by
  refine ⟨_, rfl, ?_⟩
  repeat' (first | with_reducible assumption | with_reducible apply Block.dropTransfer_keep K | with_reducible refine ite_keep ?_ ?_ | split | dsimp only | with_reducible refine pair_keep (by with_reducible assumption) ?_ | with_reducible refine pair_keep' (by with_reducible assumption) ?_ | intro _)

theorem execWaitAnswer_keep (K : KeptBySet Q) (c : Fin 256) (s : State) (hq : Q s.regs) :
    ∃ u, execWaitAnswer c s = .next u ∧ Q u.regs := by
  refine ⟨_, rfl, ?_⟩
  repeat' (first | with_reducible assumption | with_reducible apply Block.setRegN_keep K | with_reducible apply Block.setCx_keep K | with_reducible apply Block.answered_keep K | with_reducible apply Block.toPartner_keep K | with_reducible refine Block.when_keep _ _ _ ?_ (fun _ => ?_) | with_reducible apply Block.preempt_keep K | with_reducible apply Block.engNext_keep K | split | dsimp only | with_reducible refine pair_keep (by with_reducible assumption) ?_ | with_reducible refine pair_keep' (by with_reducible assumption) ?_ | intro _)

theorem execRrd_keep (K : KeptBySet Q) (c : Fin 256) (d s1 : Fin 4096) (off : Nat) (s : State) (hq : Q s.regs) :
    ∃ u, execRrd c d s1 off s = .next u ∧ Q u.regs := by
  refine ⟨_, rfl, ?_⟩
  repeat' (first | with_reducible assumption | with_reducible apply Block.ctxRead_keep K | dsimp only | intro _)

theorem execRwr_keep (K : KeptBySet Q) (c : Fin 256) (d s1 : Fin 4096) (off : Nat) (s : State) (hq : Q s.regs) :
    ∃ u, execRwr c d s1 off s = .next u ∧ Q u.regs := by
  refine ⟨_, rfl, ?_⟩
  repeat' (first | with_reducible assumption | with_reducible apply Block.ctxWrite_keep K | dsimp only | intro _)

theorem execRrd64_keep (K : KeptBySet Q) (c : Fin 256) (d s1 : Fin 4096) (off : Nat) (s : State) (hq : Q s.regs) :
    ∃ u, execRrd64 c d s1 off s = .next u ∧ Q u.regs := by
  refine ⟨_, rfl, ?_⟩
  repeat' (first | with_reducible assumption | with_reducible apply Block.issuedPair_keep K | with_reducible apply Block.readPair_keep K | with_reducible refine ite_keep ?_ ?_ | dsimp only | intro _)

theorem execRwr64_keep (K : KeptBySet Q) (c : Fin 256) (d s1 : Fin 4096) (off : Nat) (s : State) (hq : Q s.regs) :
    ∃ u, execRwr64 c d s1 off s = .next u ∧ Q u.regs := by
  refine ⟨_, rfl, ?_⟩
  repeat' (first | with_reducible assumption | with_reducible apply Block.issuedCode_keep K | with_reducible apply Block.writePair_keep K | with_reducible refine ite_keep ?_ ?_ | dsimp only | intro _)

theorem execRrdx_keep (K : KeptBySet Q) (c : Fin 256) (d s1 addr : Fin 4096) (s : State) (hq : Q s.regs) :
    ∃ u, execRrdx c d s1 addr s = .next u ∧ Q u.regs := by
  refine ⟨_, rfl, ?_⟩
  repeat' (first | with_reducible assumption | with_reducible apply Block.ctxRead_keep K | dsimp only | intro _)

theorem execRwrx_keep (K : KeptBySet Q) (c : Fin 256) (d s1 addr : Fin 4096) (s : State) (hq : Q s.regs) :
    ∃ u, execRwrx c d s1 addr s = .next u ∧ Q u.regs := by
  refine ⟨_, rfl, ?_⟩
  repeat' (first | with_reducible assumption | with_reducible apply Block.ctxWrite_keep K | dsimp only | intro _)

theorem execSsub_keep (K : KeptBySet Q) (c : Fin 256) (d base : Fin 4096) (job : Fin 16) (s : State) (hq : Q s.regs) :
    ∃ u, execSsub c d base job s = .next u ∧ Q u.regs := by
  refine ⟨_, rfl, ?_⟩
  repeat' (first | with_reducible assumption | with_reducible apply Block.ssub_keep K | with_reducible apply Block.issuedCode_keep K | with_reducible refine ite_keep ?_ ?_ | dsimp only | intro _)

theorem execScan_keep (K : KeptBySet Q) (c : Fin 256) (d base : Fin 4096) (job : Fin 16) (made : SolAt) (s : State) (hq : Q s.regs) :
    ∃ u, execScan c d base job made s = .next u ∧ Q u.regs := by
  refine ⟨_, rfl, ?_⟩
  repeat' (first | with_reducible assumption | with_reducible apply Block.issuedCode_keep K | with_reducible apply Block.solScan_keep K | with_reducible refine ite_keep ?_ ?_ | dsimp only | intro _)

theorem execRecApp_keep (K : KeptBySet Q) (c : Fin 256) (d s1 : Fin 4096) (sev typ len : Nat) (s : State) (hq : Q s.regs) :
    ∃ u, execRecApp c d s1 sev typ len s = .next u ∧ Q u.regs := by
  refine ⟨_, rfl, ?_⟩
  repeat' (first | with_reducible assumption | with_reducible apply Block.issuedCode_keep K | with_reducible apply Block.recApply_keep K | with_reducible refine ite_keep ?_ ?_ | dsimp only | intro _)

theorem after_keep {o : Host.Outcome State Fault Refusal} {s : State} (h : ∃ u, o = .next u ∧ Q u.regs) : Q (after o s).regs := by
  obtain ⟨u, rfl, hu⟩ := h
  exact hu

theorem performWaiting_keep (K : KeptBySet Q) (s : State) (r : SspReq) (hq : Q s.regs) : Q (performWaiting s r).regs := by
  cases r with
  | open_ o => exact after_keep (execSspOpen_keep K o s hq)
  | close h => exact after_keep (execSspClose_keep K h s hq)
  | keepalive h => exact after_keep (execSspKeepalive_keep K h s hq)
  | regRead h offs => exact after_keep (execSspRegRead_keep K h offs s hq)
  | regWrite h pairs found => exact after_keep (execSspRegWrite_keep K h pairs found s hq)
  | subscribe h vids period => exact after_keep (execSspSubscribe_keep K h vids period s hq)
  | unsubscribe h vids => exact after_keep (execSspUnsubscribe_keep K h vids s hq)
  | fileBegin h target size ident version => exact after_keep (execFileBegin_keep K h target size ident version s hq)
  | filePiece h chunk off data => exact after_keep (execFilePiece_keep K h chunk off data s hq)
  | fileStatus h => exact after_keep (execFileStatus_keep K h s hq)
  | fileAbort h => exact after_keep (execFileAbort_keep K h s hq)
  | recRead h area pos count => exact after_keep (execRecRead_keep K h area pos count s hq)
  | signedCmd h action serial nonce sig => exact after_keep (execSignedCmd_keep K h action serial nonce sig s hq)
  | unknown h service => exact after_keep (execSspUnknownService_keep K h service s hq)

theorem performAll_keep (K : KeptBySet Q) (l : List (Nat × Nat × SspReq)) (s : State) (hq : Q s.regs) :
    Q (l.foldl (fun t w => performWaiting t w.2.2) s).regs := by
  induction l generalizing s with
  | nil => exact hq
  | cons w l ih => exact ih _ (performWaiting_keep K s w.2.2 hq)

theorem supervisorBack_keep (K : KeptBySet Q) (s : State) (hq : Q s.regs) : Q (supervisorBack s).regs :=
  performAll_keep K (s.ssp.waiting.foldl (fun l w => bySeq w l) []) { s with toBlock := s.toBlock.stallOver } hq

/-- An idle clock keeps what every register write keeps. -/
theorem idle_keep (K : KeptBySet Q) (s : State) (hq : Q s.regs) : Q (idle s).regs := by
  have h : Q ({ s with toBlock := s.toBlock.tick } : State).regs := Block.tick_keep K s.toBlock hq
  unfold idle stallTick
  split
  · exact h
  · split
    · exact supervisorBack_keep K _ h
    · exact h

end Sys2Proof.Machine
end

