-- ==== Sys2Proof/Laws/KeepHigh.lean ====
section
/-! SUPPORT. Which operations leave the lower pages of the window alone: those of channels, links, networks, the pair and the recorder write registers from page 0x40 on (R51, R53). -/

set_option linter.unusedVariables false
set_option linter.unusedSimpArgs false

namespace Sys2Proof.Machine

/-- A claim about the register store that every write from page 0x40 on keeps. -/
structure KeptHigh (Q : List (Nat × Word) → Prop) : Prop where
  set : ∀ (m : List (Nat × Word)) (off : Nat) (v : Word), 0x40000 ≤ off → Q m → Q (storeSet (regReset off) m off v)

variable {Q : List (Nat × Word) → Prop}

/-- A register of a lower page reads as some word. -/
theorem keptHigh_reg (o : Nat) (h : o < 0x40000) (w : Word) : KeptHigh fun m => storeGet (regReset o) m o = w where
  set _ off _ ho hq := (storeGet_storeSet_ne _ _ _ _ (by omega)).trans hq

theorem Block.setReg_hi (K : KeptHigh Q) (b : Block) (off : Nat) (v : Word) (ho : 0x40000 ≤ off) (h : Q b.regs) : Q (b.setReg off v).regs :=
  K.set _ _ _ ho h

theorem Block.setRegN_hi (K : KeptHigh Q) (b : Block) (off v : Nat) (ho : 0x40000 ≤ off) (h : Q b.regs) : Q (b.setRegN off v).regs :=
  K.set _ _ _ ho h

theorem Block.setRegI_hi (K : KeptHigh Q) (b : Block) (off : Nat) (v : Int) (ho : 0x40000 ≤ off) (h : Q b.regs) : Q (b.setRegI off v).regs :=
  K.set _ _ _ ho h

theorem Block.fset_hi (K : KeptHigh Q) (b : Block) (f : Fld) (v : Nat) (ho : 0x40000 ≤ f.off) (h : Q b.regs) : Q (b.fset f v).regs :=
  K.set _ _ _ ho h

theorem Block.fsetB_hi (K : KeptHigh Q) (b : Block) (f : Fld) (v : Bool) (ho : 0x40000 ≤ f.off) (h : Q b.regs) : Q (b.fsetB f v).regs :=
  K.set _ _ _ ho h

theorem Block.incWrap_hi (K : KeptHigh Q) (b : Block) (f : Fld) (ho : 0x40000 ≤ f.off) (h : Q b.regs) : Q (b.incWrap f).regs :=
  K.set _ _ _ ho h

theorem Block.addSat_hi (K : KeptHigh Q) (b : Block) (f : Fld) (n : Nat) (ho : 0x40000 ≤ f.off) (h : Q b.regs) : Q (b.addSat f n).regs :=
  K.set _ _ _ ho h

theorem Block.incSat_hi (K : KeptHigh Q) (b : Block) (f : Fld) (ho : 0x40000 ≤ f.off) (h : Q b.regs) : Q (b.incSat f).regs :=
  K.set _ _ _ ho h

theorem Block.setPair_hi (K : KeptHigh Q) (b : Block) (lo v : Nat) (h1 : 0x40000 ≤ lo) (h : Q b.regs) :
    Q (b.setPair lo v).regs := K.set _ _ _ (by omega) (K.set _ _ _ h1 h)

theorem Block.stamp_hi (K : KeptHigh Q) (b : Block) (lo hi : Nat) (h1 : 0x40000 ≤ lo) (h2 : 0x40000 ≤ hi) (h : Q b.regs) :
    Q (b.stamp lo hi).regs := K.set _ _ _ h2 (K.set _ _ _ h1 h)

theorem Block.raiseEvt_hi (K : KeptHigh Q) (b : Block) (p e : Nat) (hp : 0x40 ≤ p) (h : Q b.regs) : Q (b.raiseEvt p e).regs :=
  K.set _ _ _ (by show 0x40000 ≤ p * 0x1000 + _; omega) h

theorem Block.chMap_hi (K : KeptHigh Q) (b : Block) (lo n : Nat) (v : Bool) (ho : 0x40000 ≤ lo) (h : Q b.regs) :
    Q (b.chMap lo n v).regs := Block.fsetB_hi K _ _ _ (by show 0x40000 ≤ lo + _; omega) h

theorem Block.islMap_hi (K : KeptHigh Q) (b : Block) (lo : Nat) (f : Nat → Bool) (ho : 0x40000 ≤ lo) (h : Q b.regs) :
    Q (b.islMap lo f).regs := Block.setPair_hi K _ _ _ (by omega) h


theorem Block.free_hi (K : KeptHigh Q) (b : Block) (hb : Q b.regs) : Q (Block.free b).2.regs := by
  unfold Block.free
  repeat' (first | with_reducible assumption | split | dsimp only)

theorem Block.out_hi (K : KeptHigh Q) (b : Block) (o : Out) (hb : Q b.regs) : Q (Block.out b o).regs := by
  unfold Block.out
  repeat' (first | with_reducible assumption | dsimp only)

theorem Block.send_hi (K : KeptHigh Q) (b : Block) (p : Port) (kind : String) (ws : List Nat) (hb : Q b.regs) : Q (Block.send b p kind ws).regs := by
  unfold Block.send
  repeat' (first | with_reducible assumption | with_reducible apply Block.out_hi K | dsimp only)

theorem Block.timed_hi (K : KeptHigh Q) (b : Block) (t : Timer) (hb : Q b.regs) : Q (Block.timed b t).regs := by
  unfold Block.timed
  repeat' (first | with_reducible assumption | dsimp only)

theorem Block.untimed_hi (K : KeptHigh Q) (b : Block) (t : Timer) (hb : Q b.regs) : Q (Block.untimed b t).regs := by
  unfold Block.untimed
  repeat' (first | with_reducible assumption | dsimp only)

theorem Block.queueFill_hi (K : KeptHigh Q) (b : Block) (hb : Q b.regs) : Q (Block.queueFill b).regs := by
  unfold Block.queueFill
  repeat' (first | with_reducible assumption | with_reducible refine Block.fset_hi K _ _ _ (by first | decide | (simp only [F.EVR_STAT_QUEUE, Reg.EVR_STAT, Reg.SYS_STATE]; omega) | (split <;> (simp only [F.EVR_STAT_QUEUE, Reg.EVR_STAT, Reg.SYS_STATE]; omega))) ?_ | with_reducible refine Block.when_keep _ _ _ ?_ (fun _ => ?_) | with_reducible refine Block.raiseEvt_hi K _ _ _ (by first | decide | (simp only [ge_iff_le]; omega)) ?_ | dsimp only)

theorem Block.recDrop_hi (K : KeptHigh Q) (b : Block) (fill : Bool) (hb : Q b.regs) : Q (Block.recDrop b fill).regs := by
  unfold Block.recDrop
  repeat' (first | with_reducible assumption | with_reducible refine Block.incSat_hi K _ _ (by first | decide | (simp only [F.EVR_DROP_CNT_VALUE, Reg.EVR_DROP_CNT, Reg.SYS_STATE]; omega) | (split <;> (simp only [F.EVR_DROP_CNT_VALUE, Reg.EVR_DROP_CNT, Reg.SYS_STATE]; omega))) ?_ | with_reducible refine Block.raiseEvt_hi K _ _ _ (by first | decide | (simp only [ge_iff_le]; omega)) ?_ | with_reducible refine ite_keep ?_ ?_ | dsimp only)

theorem Block.recQueue_hi (K : KeptHigh Q) (b : Block) (r : EvRec) (hb : Q b.regs) : Q (Block.recQueue b r).regs := by
  unfold Block.recQueue
  repeat' (first | with_reducible assumption | with_reducible refine Block.incWrap_hi K _ _ (by first | decide | (simp only [F.EVR_REC_CNT_VALUE, Reg.EVR_REC_CNT, Reg.SYS_STATE]; omega) | (split <;> (simp only [F.EVR_REC_CNT_VALUE, Reg.EVR_REC_CNT, Reg.SYS_STATE]; omega))) ?_ | with_reducible apply Block.queueFill_hi K | dsimp only)

theorem Block.recAccept_hi (K : KeptHigh Q) (b : Block) (r : EvRec) (hb : Q b.regs) : Q (Block.recAccept b r).regs := by
  unfold Block.recAccept
  repeat' (first | with_reducible assumption | with_reducible apply Block.recDrop_hi K | with_reducible apply Block.recQueue_hi K | with_reducible refine ite_keep ?_ ?_ | dsimp only)

theorem Block.recIsland_hi (K : KeptHigh Q) (b : Block) (r : EvRec) (hb : Q b.regs) : Q (Block.recIsland b r).regs := by
  unfold Block.recIsland
  repeat' (first | with_reducible assumption | with_reducible refine Block.incWrap_hi K _ _ (by first | decide | (simp only [F.EVR_REC_CNT_VALUE, Reg.EVR_REC_CNT, Reg.SYS_STATE]; omega) | (split <;> (simp only [F.EVR_REC_CNT_VALUE, Reg.EVR_REC_CNT, Reg.SYS_STATE]; omega))) ?_ | with_reducible refine ite_keep ?_ ?_ | dsimp only)

theorem Block.recBlk_hi (K : KeptHigh Q) (b : Block) (p evt : Nat) (pairs : List (Nat × Nat)) (hb : Q b.regs) : Q (Block.recBlk b p evt pairs).regs := by
  unfold Block.recBlk
  repeat' (first | with_reducible assumption | with_reducible apply Block.recAccept_hi K | dsimp only)

theorem Block.recRegs_hi (K : KeptHigh Q) (b : Block) (p evt : Nat) (regs extra : List Nat) (hb : Q b.regs) : Q (Block.recRegs b p evt regs extra).regs := by
  unfold Block.recRegs
  repeat' (first | with_reducible assumption | with_reducible apply Block.recBlk_hi K | dsimp only | intro _)

theorem Block.event_hi (K : KeptHigh Q) (b : Block) (p evt : Nat) (regs extra : List Nat) (hp : 0x40 ≤ p) (hb : Q b.regs) : Q (Block.event b p evt regs extra).regs :=
  Block.recRegs_hi K _ _ _ _ _ (Block.raiseEvt_hi K _ _ _ hp hb)

theorem Block.timeMark_hi (K : KeptHigh Q) (b : Block) (cause : Nat) (hb : Q b.regs) : Q (Block.timeMark b cause).regs := by
  unfold Block.timeMark
  repeat' (first | with_reducible assumption | with_reducible apply Block.recAccept_hi K | dsimp only)

theorem Block.recLost_hi (K : KeptHigh Q) (b : Block) (cls src count reason : Nat) (hb : Q b.regs) : Q (Block.recLost b cls src count reason).regs := by
  unfold Block.recLost
  repeat' (first | with_reducible assumption | with_reducible apply Block.recAccept_hi K | dsimp only)

theorem Block.celRequest_hi (K : KeptHigh Q) (b : Block) (r : CelRec) (hb : Q b.regs) : Q (Block.celRequest b r).regs := by
  unfold Block.celRequest
  repeat' (first | with_reducible assumption | with_reducible refine ite_keep ?_ ?_ | dsimp only)

theorem Block.endTransfer_hi (K : KeptHigh Q) (b : Block) (target : Nat) (hb : Q b.regs) : Q (Block.endTransfer b target).regs := by
  unfold Block.endTransfer
  repeat' (first | with_reducible assumption | with_reducible refine Block.raiseEvt_hi K _ _ _ (by first | decide | (simp only [ge_iff_le]; omega)) ?_ | with_reducible refine ite_keep ?_ ?_ | split | dsimp only | with_reducible refine pair_keep (by with_reducible assumption) ?_ | with_reducible refine pair_keep' (by with_reducible assumption) ?_)

theorem Block.toPartner_hi (K : KeptHigh Q) (b : Block) (kind : String) (ws : List Nat) (hb : Q b.regs) : Q (Block.toPartner b kind ws).regs := by
  unfold Block.toPartner
  repeat' (first | with_reducible assumption | with_reducible refine Block.when_keep _ _ _ ?_ (fun _ => ?_) | with_reducible apply Block.send_hi K | dsimp only | intro _)

theorem Block.persistIf_hi (K : KeptHigh Q) (b : Block) (off : Nat) (hb : Q b.regs) : Q (Block.persistIf b off).regs := by
  unfold Block.persistIf
  repeat' (first | with_reducible assumption | with_reducible refine Block.when_keep _ _ _ ?_ (fun _ => ?_) | with_reducible apply Block.celRequest_hi K | split | dsimp only | with_reducible refine pair_keep (by with_reducible assumption) ?_ | with_reducible refine pair_keep' (by with_reducible assumption) ?_ | intro _)

theorem Block.rwlTimed_hi (K : KeptHigh Q) (b : Block) (off : Nat) (hb : Q b.regs) : Q (Block.rwlTimed b off).regs := by
  unfold Block.rwlTimed
  repeat' (first | with_reducible assumption | with_reducible refine Block.when_keep _ _ _ ?_ (fun _ => ?_) | with_reducible apply Block.timed_hi K | dsimp only | intro _)

theorem Block.setLatch_hi (K : KeptHigh Q) (b : Block) (r : Requester) (l : Latch64) (hb : Q b.regs) : Q (Block.setLatch b r l).regs := by
  unfold Block.setLatch
  repeat' (first | with_reducible assumption | dsimp only)

theorem Block.setChan_hi (K : KeptHigh Q) (b : Block) (n : Nat) (c : Chan) (hb : Q b.regs) : Q (Block.setChan b n c).regs := by
  unfold Block.setChan
  repeat' (first | with_reducible assumption | dsimp only)

theorem Block.modChan_hi (K : KeptHigh Q) (b : Block) (n : Nat) (f : Chan → Chan) (hb : Q b.regs) : Q (Block.modChan b n f).regs := by
  unfold Block.modChan
  repeat' (first | with_reducible assumption | with_reducible apply Block.setChan_hi K | dsimp only)

theorem Block.switchDo_hi (K : KeptHigh Q) (b : Block) (n : Nat) (on : Bool) (hb : Q b.regs) : Q (Block.switchDo b n on).regs := by
  unfold Block.switchDo
  repeat' (first | with_reducible assumption | with_reducible refine Block.fset_hi K _ _ _ (by first | decide | (simp only [F.CH_STAT_OPEN, F.CH_STAT_RATE_HOLD, Reg.CH_STAT, Reg.SYS_STATE]; omega) | (split <;> (simp only [F.CH_STAT_OPEN, F.CH_STAT_RATE_HOLD, Reg.CH_STAT, Reg.SYS_STATE]; omega))) ?_ | with_reducible apply Block.free_hi K | with_reducible apply Block.setChan_hi K | with_reducible refine ite_keep ?_ ?_ | split | dsimp only | with_reducible refine pair_keep (by with_reducible assumption) ?_ | with_reducible refine pair_keep' (by with_reducible assumption) ?_ | intro _)

theorem Block.chDrive_hi (K : KeptHigh Q) (b : Block) (n : Nat) (hb : Q b.regs) : Q (Block.chDrive b n).regs := by
  unfold Block.chDrive
  repeat' (first | with_reducible assumption | with_reducible refine Block.when_keep _ _ _ ?_ (fun _ => ?_) | with_reducible refine Block.fset_hi K _ _ _ (by first | decide | (simp only [F.CH_STAT_CLAMP, F.CH_STAT_FIELD, F.CH_STAT_RATE_HOLD, F.CH_STAT_STATE, Reg.CH_OUT, Reg.CH_STAT, Reg.SYS_STATE]; omega) | (split <;> (simp only [F.CH_STAT_CLAMP, F.CH_STAT_FIELD, F.CH_STAT_RATE_HOLD, F.CH_STAT_STATE, Reg.CH_OUT, Reg.CH_STAT, Reg.SYS_STATE]; omega))) ?_ | with_reducible apply Block.switchDo_hi K | with_reducible refine Block.setRegN_hi K _ _ _ (by first | decide | (simp only [F.CH_STAT_CLAMP, F.CH_STAT_FIELD, F.CH_STAT_RATE_HOLD, F.CH_STAT_STATE, Reg.CH_OUT, Reg.CH_STAT, Reg.SYS_STATE]; omega) | (split <;> (simp only [F.CH_STAT_CLAMP, F.CH_STAT_FIELD, F.CH_STAT_RATE_HOLD, F.CH_STAT_STATE, Reg.CH_OUT, Reg.CH_STAT, Reg.SYS_STATE]; omega))) ?_ | with_reducible refine ite_keep ?_ ?_ | dsimp only | intro _)

theorem Block.showTj_hi (K : KeptHigh Q) (b : Block) (n : Nat) (tj : Int) (hb : Q b.regs) : Q (Block.showTj b n tj).regs := by
  unfold Block.showTj
  repeat' (first | with_reducible assumption | with_reducible refine Block.fset_hi K _ _ _ (by first | decide | (simp only [F.CH_SUPPLY_TJ, Reg.CH_SUPPLY, Reg.SYS_STATE]; omega) | (split <;> (simp only [F.CH_SUPPLY_TJ, Reg.CH_SUPPLY, Reg.SYS_STATE]; omega))) ?_ | dsimp only)

theorem Block.chRefresh_hi (K : KeptHigh Q) (b : Block) (n : Nat) (hb : Q b.regs) : Q (Block.chRefresh b n).regs := by
  unfold Block.chRefresh
  repeat' (first | with_reducible assumption | with_reducible refine Block.fsetB_hi K _ _ _ (by first | decide | (simp only [F.CH_STAT_CAUSE, F.CH_STAT_CHANNEL_FAULT, F.CH_STAT_COMPLIANCE, F.CH_STAT_HIZ, F.CH_STAT_LEVEL, F.CH_STAT_TP_FAULT, F.CH_SUPPLY_SUPPLY, Reg.CHG_COMP_LO, Reg.CHG_FAULT_LO, Reg.CHG_ISL_LO, Reg.CHG_TPF_LO, Reg.CH_STAT, Reg.CH_SUPPLY, Reg.SYS_STATE]; omega) | (split <;> (simp only [F.CH_STAT_CAUSE, F.CH_STAT_CHANNEL_FAULT, F.CH_STAT_COMPLIANCE, F.CH_STAT_HIZ, F.CH_STAT_LEVEL, F.CH_STAT_TP_FAULT, F.CH_SUPPLY_SUPPLY, Reg.CHG_COMP_LO, Reg.CHG_FAULT_LO, Reg.CHG_ISL_LO, Reg.CHG_TPF_LO, Reg.CH_STAT, Reg.CH_SUPPLY, Reg.SYS_STATE]; omega))) ?_ | with_reducible apply Block.chDrive_hi K | with_reducible refine Block.fset_hi K _ _ _ (by first | decide | (simp only [F.CH_STAT_CAUSE, F.CH_STAT_CHANNEL_FAULT, F.CH_STAT_COMPLIANCE, F.CH_STAT_HIZ, F.CH_STAT_LEVEL, F.CH_STAT_TP_FAULT, F.CH_SUPPLY_SUPPLY, Reg.CHG_COMP_LO, Reg.CHG_FAULT_LO, Reg.CHG_ISL_LO, Reg.CHG_TPF_LO, Reg.CH_STAT, Reg.CH_SUPPLY, Reg.SYS_STATE]; omega) | (split <;> (simp only [F.CH_STAT_CAUSE, F.CH_STAT_CHANNEL_FAULT, F.CH_STAT_COMPLIANCE, F.CH_STAT_HIZ, F.CH_STAT_LEVEL, F.CH_STAT_TP_FAULT, F.CH_SUPPLY_SUPPLY, Reg.CHG_COMP_LO, Reg.CHG_FAULT_LO, Reg.CHG_ISL_LO, Reg.CHG_TPF_LO, Reg.CH_STAT, Reg.CH_SUPPLY, Reg.SYS_STATE]; omega))) ?_ | with_reducible refine Block.chMap_hi K _ _ _ _ (by decide) ?_ | dsimp only)

theorem Block.chRefreshAll_hi (K : KeptHigh Q) (b : Block) (hb : Q b.regs) : Q (Block.chRefreshAll b).regs := by
  unfold Block.chRefreshAll
  repeat' (first | with_reducible assumption | with_reducible refine Block.forAll_keep _ _ _ ?_ (fun _ _ _ => ?_) | with_reducible apply Block.chRefresh_hi K | dsimp only)

theorem Block.localEnded_hi (K : KeptHigh Q) (b : Block) (n : Nat) (hb : Q b.regs) : Q (Block.localEnded b n).regs := by
  unfold Block.localEnded
  repeat' (first | with_reducible assumption | with_reducible refine Block.when_keep _ _ _ ?_ (fun _ => ?_) | with_reducible refine Block.fset_hi K _ _ _ (by first | decide | (simp only [F.BTN_STAT_CAL_OPEN, F.BTN_STAT_CAL_STEP, Reg.BTN_STAT, Reg.SYS_STATE]; omega) | (split <;> (simp only [F.BTN_STAT_CAL_OPEN, F.BTN_STAT_CAL_STEP, Reg.BTN_STAT, Reg.SYS_STATE]; omega))) ?_ | with_reducible refine Block.raiseEvt_hi K _ _ _ (by first | decide | (simp only [ge_iff_le]; omega)) ?_ | split | dsimp only | with_reducible refine pair_keep (by with_reducible assumption) ?_ | with_reducible refine pair_keep' (by with_reducible assumption) ?_ | intro _)

theorem Block.calEnd_hi (K : KeptHigh Q) (b : Block) (n : Nat) (hb : Q b.regs) : Q (Block.calEnd b n).regs := by
  unfold Block.calEnd
  repeat' (first | with_reducible assumption | with_reducible apply Block.localEnded_hi K | with_reducible apply Block.modChan_hi K | with_reducible apply Block.chRefresh_hi K | dsimp only | intro _)

theorem Block.calEndAll_hi (K : KeptHigh Q) (b : Block) (hb : Q b.regs) : Q (Block.calEndAll b).regs := by
  unfold Block.calEndAll
  repeat' (first | with_reducible assumption | with_reducible refine Block.forAll_keep _ _ _ ?_ (fun _ _ _ => ?_) | with_reducible apply Block.calEnd_hi K | dsimp only | intro _)

theorem Block.calClaim_hi (K : KeptHigh Q) (b : Block) (hb : Q b.regs) : Q (Block.calClaim b).regs := by
  unfold Block.calClaim
  repeat' (first | with_reducible assumption | with_reducible apply Block.calEndAll_hi K | with_reducible refine ite_keep ?_ ?_ | dsimp only)

theorem Block.calForced_hi (K : KeptHigh Q) (b : Block) (els : List IoEl) (vid : Nat) (hb : Q b.regs) : Q (Block.calForced b els vid).regs := by
  unfold Block.calForced
  repeat' (first | with_reducible assumption | with_reducible refine Block.forAll_keep _ _ _ ?_ (fun _ _ _ => ?_) | with_reducible apply Block.calEnd_hi K | dsimp only | intro _)

theorem Block.fieldFault_hi (K : KeptHigh Q) (b : Block) (hb : Q b.regs) : Q (Block.fieldFault b).regs := by
  unfold Block.fieldFault
  repeat' (first | with_reducible assumption | with_reducible refine Block.forAll_keep _ _ _ ?_ (fun _ _ _ => ?_) | with_reducible apply Block.localEnded_hi K | with_reducible refine Block.fset_hi K _ _ _ (by first | decide | (simp only [F.CH_STAT_COMPLIANCE, F.CH_STAT_FIELD, Reg.CH_STAT, Reg.SYS_STATE]; omega) | (split <;> (simp only [F.CH_STAT_COMPLIANCE, F.CH_STAT_FIELD, Reg.CH_STAT, Reg.SYS_STATE]; omega))) ?_ | with_reducible apply Block.modChan_hi K | with_reducible apply Block.chRefresh_hi K | dsimp only | intro _)

theorem Block.fieldBack_hi (K : KeptHigh Q) (b : Block) (hb : Q b.regs) : Q (Block.fieldBack b).regs := by
  unfold Block.fieldBack
  repeat' (first | with_reducible assumption | with_reducible refine Block.fset_hi K _ _ _ (by first | decide | (simp only [F.CHG_FP_STAT_BUS_OK, F.CHG_FP_STAT_TRIPPED, F.CHG_FP_STAT_UNDERVOLT, F.CH_STAT_FIELD, Reg.CHG_FP_STAT, Reg.CH_STAT, Reg.SYS_STATE]; omega) | (split <;> (simp only [F.CHG_FP_STAT_BUS_OK, F.CHG_FP_STAT_TRIPPED, F.CHG_FP_STAT_UNDERVOLT, F.CH_STAT_FIELD, Reg.CHG_FP_STAT, Reg.CH_STAT, Reg.SYS_STATE]; omega))) ?_ | with_reducible refine Block.forAll_keep _ _ _ ?_ (fun _ _ _ => ?_) | with_reducible apply Block.modChan_hi K | with_reducible apply Block.chRefresh_hi K | with_reducible refine Block.raiseEvt_hi K _ _ _ (by first | decide | (simp only [ge_iff_le]; omega)) ?_ | dsimp only | intro _)

theorem Block.measured_hi (K : KeptHigh Q) (b : Block) (n cause : Nat) (span : Bool) (hb : Q b.regs) : Q (Block.measured b n cause span).regs := by
  unfold Block.measured
  repeat' (first | with_reducible assumption | with_reducible apply Block.modChan_hi K | with_reducible refine Block.fsetB_hi K _ _ _ (by first | decide | (simp only [F.CH_STAT_OPEN, F.CH_STAT_SHORT, Reg.CH_STAT, Reg.SYS_STATE, chPage]; omega) | (split <;> (simp only [F.CH_STAT_OPEN, F.CH_STAT_SHORT, Reg.CH_STAT, Reg.SYS_STATE, chPage]; omega))) ?_ | with_reducible apply Block.chRefresh_hi K | with_reducible refine Block.when_keep _ _ _ ?_ (fun _ => ?_) | with_reducible refine Block.raiseEvt_hi K _ _ _ (by first | decide | (simp only [chPage, ge_iff_le]; omega)) ?_ | dsimp only | intro _)

theorem Block.spSample_hi (K : KeptHigh Q) (b : Block) (n : Nat) (i : Sample) (hb : Q b.regs) : Q (Block.spSample b n i).regs := by
  unfold Block.spSample
  repeat' (first | with_reducible assumption | with_reducible apply Block.modChan_hi K | with_reducible apply Block.showTj_hi K | with_reducible apply Block.chRefresh_hi K | dsimp only | intro _)

theorem Block.sample_hi (K : KeptHigh Q) (b : Block) (n : Nat) (i : Sample) (hb : Q b.regs) : Q (Block.sample b n i).regs := by
  unfold Block.sample
  repeat' (first | with_reducible assumption | with_reducible apply Block.spSample_hi K | with_reducible refine Block.when_keep _ _ _ ?_ (fun _ => ?_) | with_reducible refine Block.incSat_hi K _ _ (by first | decide | (simp only [F.CH_FAULT_MERGE, F.CH_STAT_FIELD, F.HRT_CH_CFG_PARK, Reg.CH_FAULT, Reg.CH_RAW, Reg.CH_STAT, Reg.CH_TIME_HI, Reg.CH_TIME_LO, Reg.CH_VALUE, Reg.HRT_CH_CFG, Reg.SYS_STATE]; omega) | (split <;> (simp only [F.CH_FAULT_MERGE, F.CH_STAT_FIELD, F.HRT_CH_CFG_PARK, Reg.CH_FAULT, Reg.CH_RAW, Reg.CH_STAT, Reg.CH_TIME_HI, Reg.CH_TIME_LO, Reg.CH_VALUE, Reg.HRT_CH_CFG, Reg.SYS_STATE]; omega))) ?_ | with_reducible refine Block.setRegN_hi K _ _ _ (by first | decide | (simp only [F.CH_FAULT_MERGE, F.CH_STAT_FIELD, F.HRT_CH_CFG_PARK, Reg.CH_FAULT, Reg.CH_RAW, Reg.CH_STAT, Reg.CH_TIME_HI, Reg.CH_TIME_LO, Reg.CH_VALUE, Reg.HRT_CH_CFG, Reg.SYS_STATE]; omega) | (split <;> (simp only [F.CH_FAULT_MERGE, F.CH_STAT_FIELD, F.HRT_CH_CFG_PARK, Reg.CH_FAULT, Reg.CH_RAW, Reg.CH_STAT, Reg.CH_TIME_HI, Reg.CH_TIME_LO, Reg.CH_VALUE, Reg.HRT_CH_CFG, Reg.SYS_STATE]; omega))) ?_ | with_reducible apply Block.timed_hi K | with_reducible apply Block.modChan_hi K | with_reducible apply Block.showTj_hi K | with_reducible apply Block.measured_hi K | with_reducible apply Block.chRefresh_hi K | with_reducible refine ite_keep ?_ ?_ | dsimp only | intro _)

theorem Block.tpChip_hi (K : KeptHigh Q) (b : Block) (n k : Nat) (on : Bool) (found : Option (Fin 64)) (hb : Q b.regs) : Q (Block.tpChip b n k on found).regs := by
  unfold Block.tpChip
  repeat' (first | with_reducible assumption | with_reducible refine Block.fsetB_hi K _ _ _ (by first | decide | (simp only [F.CH_DI_CFG_TP_SLOT, F.CH_STAT_FIELD, F.CH_STAT_TP_ANOM, F.CH_STAT_TP_FAULT, F.CH_TP_STAT_ANOM_CNT, F.CH_TP_STAT_FROM, F.CH_TP_STAT_FROM_VALID, Reg.CH_DI_CFG, Reg.CH_STAT, Reg.CH_TP_STAT, Reg.SYS_STATE, chPage]; omega) | (split <;> (simp only [F.CH_DI_CFG_TP_SLOT, F.CH_STAT_FIELD, F.CH_STAT_TP_ANOM, F.CH_STAT_TP_FAULT, F.CH_TP_STAT_ANOM_CNT, F.CH_TP_STAT_FROM, F.CH_TP_STAT_FROM_VALID, Reg.CH_DI_CFG, Reg.CH_STAT, Reg.CH_TP_STAT, Reg.SYS_STATE, chPage]; omega))) ?_ | with_reducible refine Block.fset_hi K _ _ _ (by first | decide | (simp only [F.CH_DI_CFG_TP_SLOT, F.CH_STAT_FIELD, F.CH_STAT_TP_ANOM, F.CH_STAT_TP_FAULT, F.CH_TP_STAT_ANOM_CNT, F.CH_TP_STAT_FROM, F.CH_TP_STAT_FROM_VALID, Reg.CH_DI_CFG, Reg.CH_STAT, Reg.CH_TP_STAT, Reg.SYS_STATE, chPage]; omega) | (split <;> (simp only [F.CH_DI_CFG_TP_SLOT, F.CH_STAT_FIELD, F.CH_STAT_TP_ANOM, F.CH_STAT_TP_FAULT, F.CH_TP_STAT_ANOM_CNT, F.CH_TP_STAT_FROM, F.CH_TP_STAT_FROM_VALID, Reg.CH_DI_CFG, Reg.CH_STAT, Reg.CH_TP_STAT, Reg.SYS_STATE, chPage]; omega))) ?_ | with_reducible refine Block.incSat_hi K _ _ (by first | decide | (simp only [F.CH_DI_CFG_TP_SLOT, F.CH_STAT_FIELD, F.CH_STAT_TP_ANOM, F.CH_STAT_TP_FAULT, F.CH_TP_STAT_ANOM_CNT, F.CH_TP_STAT_FROM, F.CH_TP_STAT_FROM_VALID, Reg.CH_DI_CFG, Reg.CH_STAT, Reg.CH_TP_STAT, Reg.SYS_STATE, chPage]; omega) | (split <;> (simp only [F.CH_DI_CFG_TP_SLOT, F.CH_STAT_FIELD, F.CH_STAT_TP_ANOM, F.CH_STAT_TP_FAULT, F.CH_TP_STAT_ANOM_CNT, F.CH_TP_STAT_FROM, F.CH_TP_STAT_FROM_VALID, Reg.CH_DI_CFG, Reg.CH_STAT, Reg.CH_TP_STAT, Reg.SYS_STATE, chPage]; omega))) ?_ | with_reducible refine Block.when_keep _ _ _ ?_ (fun _ => ?_) | with_reducible refine Block.raiseEvt_hi K _ _ _ (by first | decide | (simp only [chPage, ge_iff_le]; omega)) ?_ | with_reducible apply Block.chRefresh_hi K | with_reducible apply Block.setChan_hi K | with_reducible refine ite_keep ?_ ?_ | split | dsimp only | with_reducible refine pair_keep (by with_reducible assumption) ?_ | with_reducible refine pair_keep' (by with_reducible assumption) ?_ | intro _)

theorem Block.stageReport_hi (K : KeptHigh Q) (b : Block) (n : Nat) (hb : Q b.regs) : Q (Block.stageReport b n).regs := by
  unfold Block.stageReport
  repeat' (first | with_reducible assumption | with_reducible refine Block.when_keep _ _ _ ?_ (fun _ => ?_) | with_reducible refine Block.fset_hi K _ _ _ (by first | decide | (simp only [F.CH_STAT_TRIPPED, Reg.CH_STAT, Reg.SYS_STATE]; omega) | (split <;> (simp only [F.CH_STAT_TRIPPED, Reg.CH_STAT, Reg.SYS_STATE]; omega))) ?_ | dsimp only | intro _)

theorem Block.chRefused_hi (K : KeptHigh Q) (b : Block) (n code : Nat) (hb : Q b.regs) : Q (Block.chRefused b n code).regs := by
  unfold Block.chRefused
  repeat' (first | with_reducible assumption | with_reducible refine Block.fset_hi K _ _ _ (by first | decide | (simp only [F.CHG_CFG_REF_CH, F.CHG_CFG_REF_CODE, F.CHG_CFG_REF_VALID, F.CH_RES_CODE, Reg.CHG_CFG_REF, Reg.CH_RES, Reg.SYS_STATE, chPage]; omega) | (split <;> (simp only [F.CHG_CFG_REF_CH, F.CHG_CFG_REF_CODE, F.CHG_CFG_REF_VALID, F.CH_RES_CODE, Reg.CHG_CFG_REF, Reg.CH_RES, Reg.SYS_STATE, chPage]; omega))) ?_ | with_reducible refine Block.raiseEvt_hi K _ _ _ (by first | decide | (simp only [chPage, ge_iff_le]; omega)) ?_ | dsimp only)

theorem Block.substMask_hi (K : KeptHigh Q) (b : Block) (n : Nat) (hb : Q b.regs) : Q (Block.substMask b n).regs := by
  unfold Block.substMask
  repeat' (first | with_reducible assumption | with_reducible refine Block.when_keep _ _ _ ?_ (fun _ => ?_) | with_reducible refine Block.setRegN_hi K _ _ _ (by first | decide | (simp only [Reg.CH_SUBST_VAL, Reg.SYS_STATE]; omega) | (split <;> (simp only [Reg.CH_SUBST_VAL, Reg.SYS_STATE]; omega))) ?_ | dsimp only | intro _)

theorem Block.chSetMode_hi (K : KeptHigh Q) (b : Block) (n : Nat) (hb : Q b.regs) : Q (Block.chSetMode b n).regs := by
  unfold Block.chSetMode
  repeat' (first | with_reducible assumption | with_reducible apply Block.switchDo_hi K | with_reducible apply Block.substMask_hi K | with_reducible refine Block.when_keep _ _ _ ?_ (fun _ => ?_) | with_reducible refine Block.fset_hi K _ _ _ (by first | decide | (simp only [F.CH_DI_CFG_TP_SLOT, F.CH_FAULT_CAUSE, F.CH_MODE_SP_USE, F.CH_STAT_FIELD, Reg.CH_DI_CFG, Reg.CH_FAULT, Reg.CH_MODE, Reg.CH_STAT, Reg.SYS_STATE]; omega) | (split <;> (simp only [F.CH_DI_CFG_TP_SLOT, F.CH_FAULT_CAUSE, F.CH_MODE_SP_USE, F.CH_STAT_FIELD, Reg.CH_DI_CFG, Reg.CH_FAULT, Reg.CH_MODE, Reg.CH_STAT, Reg.SYS_STATE]; omega))) ?_ | with_reducible refine Block.setRegN_hi K _ _ _ (by first | decide | (simp only [F.CH_DI_CFG_TP_SLOT, F.CH_FAULT_CAUSE, F.CH_MODE_SP_USE, F.CH_STAT_FIELD, Reg.CH_DI_CFG, Reg.CH_FAULT, Reg.CH_MODE, Reg.CH_STAT, Reg.SYS_STATE]; omega) | (split <;> (simp only [F.CH_DI_CFG_TP_SLOT, F.CH_FAULT_CAUSE, F.CH_MODE_SP_USE, F.CH_STAT_FIELD, Reg.CH_DI_CFG, Reg.CH_FAULT, Reg.CH_MODE, Reg.CH_STAT, Reg.SYS_STATE]; omega))) ?_ | with_reducible apply Block.localEnded_hi K | with_reducible apply Block.modChan_hi K | with_reducible refine Block.fsetB_hi K _ _ _ (by first | decide | (simp only [F.CH_DI_CFG_TP_SLOT, F.CH_FAULT_CAUSE, F.CH_MODE_SP_USE, F.CH_STAT_FIELD, Reg.CH_DI_CFG, Reg.CH_FAULT, Reg.CH_MODE, Reg.CH_STAT, Reg.SYS_STATE]; omega) | (split <;> (simp only [F.CH_DI_CFG_TP_SLOT, F.CH_FAULT_CAUSE, F.CH_MODE_SP_USE, F.CH_STAT_FIELD, Reg.CH_DI_CFG, Reg.CH_FAULT, Reg.CH_MODE, Reg.CH_STAT, Reg.SYS_STATE]; omega))) ?_ | with_reducible apply Block.chRefresh_hi K | dsimp only | intro _)

theorem Block.chDone_hi (K : KeptHigh Q) (b : Block) (n code : Nat) (hb : Q b.regs) : Q (Block.chDone b n code).regs := by
  unfold Block.chDone
  repeat' (first | with_reducible assumption | with_reducible refine Block.fset_hi K _ _ _ (by first | decide | (simp only [F.CH_RES_CODE, Reg.CH_RES, Reg.SYS_STATE, chPage]; omega) | (split <;> (simp only [F.CH_RES_CODE, Reg.CH_RES, Reg.SYS_STATE, chPage]; omega))) ?_ | with_reducible refine Block.raiseEvt_hi K _ _ _ (by first | decide | (simp only [chPage, ge_iff_le]; omega)) ?_ | dsimp only)

theorem Block.chClrFault_hi (K : KeptHigh Q) (b : Block) (n : Nat) (hb : Q b.regs) : Q (Block.chClrFault b n).regs := by
  unfold Block.chClrFault
  repeat' (first | with_reducible assumption | with_reducible apply Block.chDone_hi K | with_reducible refine Block.fset_hi K _ _ _ (by first | decide | (simp only [F.CH_FAULT_CAUSE, F.CH_STAT_CHANNEL_FAULT, F.CH_STAT_OVERLOAD, F.CH_STAT_TP_FAULT, Reg.CH_FAULT, Reg.CH_STAT, Reg.SYS_STATE]; omega) | (split <;> (simp only [F.CH_FAULT_CAUSE, F.CH_STAT_CHANNEL_FAULT, F.CH_STAT_OVERLOAD, F.CH_STAT_TP_FAULT, Reg.CH_FAULT, Reg.CH_STAT, Reg.SYS_STATE]; omega))) ?_ | with_reducible apply Block.timed_hi K | with_reducible apply Block.modChan_hi K | with_reducible apply Block.chRefresh_hi K | with_reducible refine ite_keep ?_ ?_ | dsimp only | intro _)

theorem Block.calOpenBy_hi (K : KeptHigh Q) (b : Block) (n : Nat) (isLocal : Bool) (num : Nat) (hb : Q b.regs) : Q (Block.calOpenBy b n isLocal num).regs := by
  unfold Block.calOpenBy
  repeat' (first | with_reducible assumption | with_reducible apply Block.chDone_hi K | with_reducible apply Block.timed_hi K | with_reducible apply Block.modChan_hi K | with_reducible apply Block.chRefresh_hi K | with_reducible refine Block.raiseEvt_hi K _ _ _ (by first | decide | (simp only [chPage, ge_iff_le]; omega)) ?_ | with_reducible refine ite_keep ?_ ?_ | dsimp only | intro _)

theorem Block.calPoint_hi (K : KeptHigh Q) (b : Block) (n : Nat) (span : Bool) (ref : Nat) (hb : Q b.regs) : Q (Block.calPoint b n span ref).regs := by
  unfold Block.calPoint
  repeat' (first | with_reducible assumption | with_reducible apply Block.chDone_hi K | with_reducible apply Block.timed_hi K | with_reducible refine Block.fset_hi K _ _ _ (by first | decide | (simp only [F.CH_RES_CODE, Reg.CH_RES, Reg.CH_TRIM_GAIN, Reg.CH_TRIM_ZERO, Reg.SYS_STATE]; omega) | (split <;> (simp only [F.CH_RES_CODE, Reg.CH_RES, Reg.CH_TRIM_GAIN, Reg.CH_TRIM_ZERO, Reg.SYS_STATE]; omega))) ?_ | with_reducible apply Block.modChan_hi K | with_reducible apply Block.chRefresh_hi K | with_reducible refine ite_keep ?_ ?_ | split | dsimp only | with_reducible refine pair_keep (by with_reducible assumption) ?_ | with_reducible refine pair_keep' (by with_reducible assumption) ?_ | intro _)

theorem Block.calStore_hi (K : KeptHigh Q) (b : Block) (n z gain source : Nat) (cs : CalSession) (hb : Q b.regs) : Q (Block.calStore b n z gain source cs).regs := by
  unfold Block.calStore
  repeat' (first | with_reducible assumption | with_reducible apply Block.modChan_hi K | with_reducible apply Block.celRequest_hi K | dsimp only | intro _)

theorem Block.calCommitBy_hi (K : KeptHigh Q) (b : Block) (n : Nat) (hb : Q b.regs) : Q (Block.calCommitBy b n).regs := by
  unfold Block.calCommitBy
  repeat' (first | with_reducible assumption | with_reducible apply Block.chDone_hi K | with_reducible apply Block.timed_hi K | with_reducible refine Block.fset_hi K _ _ _ (by first | decide | (simp only [F.CH_RES_CODE, Reg.CH_RES, Reg.SYS_STATE]; omega) | (split <;> (simp only [F.CH_RES_CODE, Reg.CH_RES, Reg.SYS_STATE]; omega))) ?_ | with_reducible apply Block.calStore_hi K | with_reducible refine ite_keep ?_ ?_ | split | dsimp only | with_reducible refine pair_keep (by with_reducible assumption) ?_ | with_reducible refine pair_keep' (by with_reducible assumption) ?_)

theorem Block.calCancelBy_hi (K : KeptHigh Q) (b : Block) (n : Nat) (hb : Q b.regs) : Q (Block.calCancelBy b n).regs := by
  unfold Block.calCancelBy
  repeat' (first | with_reducible assumption | with_reducible apply Block.chDone_hi K | with_reducible apply Block.calEnd_hi K | split | dsimp only | with_reducible refine pair_keep (by with_reducible assumption) ?_ | with_reducible refine pair_keep' (by with_reducible assumption) ?_)

theorem Block.calFactoryBy_hi (K : KeptHigh Q) (b : Block) (n : Nat) (hb : Q b.regs) : Q (Block.calFactoryBy b n).regs := by
  unfold Block.calFactoryBy
  repeat' (first | with_reducible assumption | with_reducible apply Block.chDone_hi K | with_reducible apply Block.timed_hi K | with_reducible refine Block.fset_hi K _ _ _ (by first | decide | (simp only [F.CH_RES_CODE, Reg.CH_RES, Reg.SYS_STATE]; omega) | (split <;> (simp only [F.CH_RES_CODE, Reg.CH_RES, Reg.SYS_STATE]; omega))) ?_ | with_reducible apply Block.calStore_hi K | with_reducible refine ite_keep ?_ ?_ | split | dsimp only | with_reducible refine pair_keep (by with_reducible assumption) ?_ | with_reducible refine pair_keep' (by with_reducible assumption) ?_)

theorem Block.chCommand_hi (K : KeptHigh Q) (b : Block) (r : Requester) (n v : Nat) (hb : Q b.regs) : Q (Block.chCommand b r n v).regs := by
  unfold Block.chCommand
  repeat' (first | with_reducible assumption | with_reducible apply Block.chDone_hi K | with_reducible refine Block.fset_hi K _ _ _ (by first | decide | (simp only [F.CH_RES_CODE, Reg.CH_CAL_REF, Reg.CH_RES, Reg.SYS_STATE]; omega) | (split <;> (simp only [F.CH_RES_CODE, Reg.CH_CAL_REF, Reg.CH_RES, Reg.SYS_STATE]; omega))) ?_ | with_reducible apply Block.chClrFault_hi K | with_reducible apply Block.calOpenBy_hi K | with_reducible apply Block.calPoint_hi K | with_reducible apply Block.calCommitBy_hi K | with_reducible apply Block.calCancelBy_hi K | with_reducible apply Block.calFactoryBy_hi K | with_reducible refine ite_keep ?_ ?_ | split | dsimp only | with_reducible refine pair_keep (by with_reducible assumption) ?_ | with_reducible refine pair_keep' (by with_reducible assumption) ?_)

theorem Block.hartPool_hi (K : KeptHigh Q) (b : Block) (hb : Q b.regs) : Q (Block.hartPool b).regs := by
  unfold Block.hartPool
  repeat' (first | with_reducible assumption | with_reducible refine Block.fset_hi K _ _ _ (by first | decide | (simp only [F.HRT_MODEM_MAP_HELD, F.HRT_POOL_BUSY, F.HRT_POOL_FREE, F.HRT_POOL_HEALTHY, F.HRT_POOL_HELD, Reg.HRT_MODEM_MAP, Reg.HRT_POOL, Reg.SYS_STATE]; omega) | (split <;> (simp only [F.HRT_MODEM_MAP_HELD, F.HRT_POOL_BUSY, F.HRT_POOL_FREE, F.HRT_POOL_HEALTHY, F.HRT_POOL_HELD, Reg.HRT_MODEM_MAP, Reg.HRT_POOL, Reg.SYS_STATE]; omega))) ?_ | dsimp only | intro _)

theorem Block.hartConnect_hi (K : KeptHigh Q) (b : Block) (n m : Nat) (hb : Q b.regs) : Q (Block.hartConnect b n m).regs := by
  unfold Block.hartConnect
  repeat' (first | with_reducible assumption | with_reducible refine Block.fset_hi K _ _ _ (by first | decide | (simp only [F.HRT_CH_STAT_BOUND, F.HRT_CH_STAT_MODEM, Reg.HRT_CH_STAT, Reg.HRT_MODEM_MAP, Reg.SYS_STATE]; omega) | (split <;> (simp only [F.HRT_CH_STAT_BOUND, F.HRT_CH_STAT_MODEM, Reg.HRT_CH_STAT, Reg.HRT_MODEM_MAP, Reg.SYS_STATE]; omega))) ?_ | dsimp only)

theorem Block.hartBind_hi (K : KeptHigh Q) (b : Block) (n : Nat) (hb : Q b.regs) : Q (Block.hartBind b n).regs := by
  unfold Block.hartBind
  repeat' (first | with_reducible assumption | with_reducible apply Block.hartConnect_hi K | with_reducible refine ite_keep ?_ ?_ | split | dsimp only | with_reducible refine pair_keep (by with_reducible assumption) ?_ | with_reducible refine pair_keep' (by with_reducible assumption) ?_)

theorem Block.hartRebind_hi (K : KeptHigh Q) (b : Block) (hb : Q b.regs) : Q (Block.hartRebind b).regs := by
  unfold Block.hartRebind
  repeat' (first | with_reducible assumption | with_reducible refine Block.forAll_keep _ _ _ ?_ (fun _ _ _ => ?_) | with_reducible apply Block.hartBind_hi K | with_reducible apply Block.hartPool_hi K | dsimp only)

theorem Block.hartUnbind_hi (K : KeptHigh Q) (b : Block) (n : Nat) (hb : Q b.regs) : Q (Block.hartUnbind b n).regs := by
  unfold Block.hartUnbind
  repeat' (first | with_reducible assumption | with_reducible refine Block.fset_hi K _ _ _ (by first | decide | (simp only [F.HRT_CH_STAT_BOUND, F.HRT_CH_STAT_MODEM, Reg.HRT_CH_STAT, Reg.HRT_MODEM_MAP, Reg.SYS_STATE]; omega) | (split <;> (simp only [F.HRT_CH_STAT_BOUND, F.HRT_CH_STAT_MODEM, Reg.HRT_CH_STAT, Reg.HRT_MODEM_MAP, Reg.SYS_STATE]; omega))) ?_ | with_reducible refine Block.fsetB_hi K _ _ _ (by first | decide | (simp only [F.HRT_CH_STAT_BOUND, F.HRT_CH_STAT_MODEM, Reg.HRT_CH_STAT, Reg.HRT_MODEM_MAP, Reg.SYS_STATE]; omega) | (split <;> (simp only [F.HRT_CH_STAT_BOUND, F.HRT_CH_STAT_MODEM, Reg.HRT_CH_STAT, Reg.HRT_MODEM_MAP, Reg.SYS_STATE]; omega))) ?_ | with_reducible refine ite_keep ?_ ?_ | dsimp only | intro _)

theorem Block.hartTakeUp_hi (K : KeptHigh Q) (b : Block) (n : Nat) (hb : Q b.regs) : Q (Block.hartTakeUp b n).regs := by
  unfold Block.hartTakeUp
  repeat' (first | with_reducible assumption | with_reducible refine Block.fset_hi K _ _ _ (by first | decide | (simp only [F.HRT_CH_STAT_HELD, Reg.HRT_CH_STAT, Reg.SYS_STATE]; omega) | (split <;> (simp only [F.HRT_CH_STAT_HELD, Reg.HRT_CH_STAT, Reg.SYS_STATE]; omega))) ?_ | with_reducible apply Block.hartBind_hi K | with_reducible apply Block.hartPool_hi K | with_reducible apply Block.hartUnbind_hi K | with_reducible apply Block.hartRebind_hi K | with_reducible refine ite_keep ?_ ?_ | dsimp only)

theorem Block.setHartItem_hi (K : KeptHigh Q) (b : Block) (n : Nat) (i : HartItem) (hb : Q b.regs) : Q (Block.setHartItem b n i).regs := by
  unfold Block.setHartItem
  repeat' (first | with_reducible assumption | dsimp only)

theorem Block.hartUpdate_hi (K : KeptHigh Q) (b : Block) (n cmd respCode devStatus : Nat) (vars : List Nat) (hb : Q b.regs) : Q (Block.hartUpdate b n cmd respCode devStatus vars).regs := by
  unfold Block.hartUpdate
  repeat' (first | with_reducible assumption | with_reducible apply Block.setHartItem_hi K | with_reducible refine ite_keep ?_ ?_ | dsimp only)

theorem Block.hartResult_hi (K : KeptHigh Q) (b : Block) (req : HartReq) (code tries modem : Nat) (hb : Q b.regs) : Q (Block.hartResult b req code tries modem).regs := by
  unfold Block.hartResult
  repeat' (first | with_reducible assumption | with_reducible refine Block.when_keep _ _ _ ?_ (fun _ => ?_) | with_reducible refine Block.incSat_hi K _ _ (by first | decide | (simp only [F.HRT_CH_CFG_BIND, F.HRT_CH_CFG_IMG_ADDR, F.HRT_CH_STAT_FAILS, F.HRT_T_RSTAT_MODEM, F.HRT_T_STAT_CODE, F.HRT_T_STAT_STATE, F.HRT_T_STAT_TRIES, Reg.HRT_CH_CFG, Reg.HRT_CH_STAT, Reg.HRT_T_END_HI, Reg.HRT_T_END_LO, Reg.HRT_T_RSTAT, Reg.HRT_T_STAT, Reg.SYS_STATE]; omega) | (split <;> (simp only [F.HRT_CH_CFG_BIND, F.HRT_CH_CFG_IMG_ADDR, F.HRT_CH_STAT_FAILS, F.HRT_T_RSTAT_MODEM, F.HRT_T_STAT_CODE, F.HRT_T_STAT_STATE, F.HRT_T_STAT_TRIES, Reg.HRT_CH_CFG, Reg.HRT_CH_STAT, Reg.HRT_T_END_HI, Reg.HRT_T_END_LO, Reg.HRT_T_RSTAT, Reg.HRT_T_STAT, Reg.SYS_STATE]; omega))) ?_ | with_reducible apply Block.setHartItem_hi K | with_reducible refine Block.fset_hi K _ _ _ (by first | decide | (simp only [F.HRT_CH_CFG_BIND, F.HRT_CH_CFG_IMG_ADDR, F.HRT_CH_STAT_FAILS, F.HRT_T_RSTAT_MODEM, F.HRT_T_STAT_CODE, F.HRT_T_STAT_STATE, F.HRT_T_STAT_TRIES, Reg.HRT_CH_CFG, Reg.HRT_CH_STAT, Reg.HRT_T_END_HI, Reg.HRT_T_END_LO, Reg.HRT_T_RSTAT, Reg.HRT_T_STAT, Reg.SYS_STATE]; omega) | (split <;> (simp only [F.HRT_CH_CFG_BIND, F.HRT_CH_CFG_IMG_ADDR, F.HRT_CH_STAT_FAILS, F.HRT_T_RSTAT_MODEM, F.HRT_T_STAT_CODE, F.HRT_T_STAT_STATE, F.HRT_T_STAT_TRIES, Reg.HRT_CH_CFG, Reg.HRT_CH_STAT, Reg.HRT_T_END_HI, Reg.HRT_T_END_LO, Reg.HRT_T_RSTAT, Reg.HRT_T_STAT, Reg.SYS_STATE]; omega))) ?_ | with_reducible refine Block.stamp_hi K _ _ _ (by first | decide | (simp only [F.HRT_CH_CFG_BIND, F.HRT_CH_CFG_IMG_ADDR, F.HRT_CH_STAT_FAILS, F.HRT_T_RSTAT_MODEM, F.HRT_T_STAT_CODE, F.HRT_T_STAT_STATE, F.HRT_T_STAT_TRIES, Reg.HRT_CH_CFG, Reg.HRT_CH_STAT, Reg.HRT_T_END_HI, Reg.HRT_T_END_LO, Reg.HRT_T_RSTAT, Reg.HRT_T_STAT, Reg.SYS_STATE]; omega) | (split <;> (simp only [F.HRT_CH_CFG_BIND, F.HRT_CH_CFG_IMG_ADDR, F.HRT_CH_STAT_FAILS, F.HRT_T_RSTAT_MODEM, F.HRT_T_STAT_CODE, F.HRT_T_STAT_STATE, F.HRT_T_STAT_TRIES, Reg.HRT_CH_CFG, Reg.HRT_CH_STAT, Reg.HRT_T_END_HI, Reg.HRT_T_END_LO, Reg.HRT_T_RSTAT, Reg.HRT_T_STAT, Reg.SYS_STATE]; omega))) (by first | decide | (simp only [F.HRT_CH_CFG_BIND, F.HRT_CH_CFG_IMG_ADDR, F.HRT_CH_STAT_FAILS, F.HRT_T_RSTAT_MODEM, F.HRT_T_STAT_CODE, F.HRT_T_STAT_STATE, F.HRT_T_STAT_TRIES, Reg.HRT_CH_CFG, Reg.HRT_CH_STAT, Reg.HRT_T_END_HI, Reg.HRT_T_END_LO, Reg.HRT_T_RSTAT, Reg.HRT_T_STAT, Reg.SYS_STATE]; omega) | (split <;> (simp only [F.HRT_CH_CFG_BIND, F.HRT_CH_CFG_IMG_ADDR, F.HRT_CH_STAT_FAILS, F.HRT_T_RSTAT_MODEM, F.HRT_T_STAT_CODE, F.HRT_T_STAT_STATE, F.HRT_T_STAT_TRIES, Reg.HRT_CH_CFG, Reg.HRT_CH_STAT, Reg.HRT_T_END_HI, Reg.HRT_T_END_LO, Reg.HRT_T_RSTAT, Reg.HRT_T_STAT, Reg.SYS_STATE]; omega))) ?_ | with_reducible refine Block.raiseEvt_hi K _ _ _ (by first | decide | (simp only [ge_iff_le]; omega)) ?_ | split | dsimp only | with_reducible refine pair_keep (by with_reducible assumption) ?_ | with_reducible refine pair_keep' (by with_reducible assumption) ?_ | intro _)

theorem Block.hartLeave_hi (K : KeptHigh Q) (b : Block) (n : Nat) (hb : Q b.regs) : Q (Block.hartLeave b n).regs := by
  unfold Block.hartLeave
  repeat' (first | with_reducible assumption | with_reducible refine Block.when_keep _ _ _ ?_ (fun _ => ?_) | with_reducible refine Block.fset_hi K _ _ _ (by first | decide | (simp only [F.HRT_CH_STAT_BOUND, Reg.HRT_CH_STAT, Reg.SYS_STATE]; omega) | (split <;> (simp only [F.HRT_CH_STAT_BOUND, Reg.HRT_CH_STAT, Reg.SYS_STATE]; omega))) ?_ | dsimp only | intro _)

theorem Block.hartEnd_hi (K : KeptHigh Q) (b : Block) (x : HartRun) (code : Nat) (hb : Q b.regs) : Q (Block.hartEnd b x code).regs := by
  unfold Block.hartEnd
  repeat' (first | with_reducible assumption | with_reducible apply Block.hartResult_hi K | with_reducible apply Block.hartLeave_hi K | with_reducible apply Block.hartRebind_hi K | dsimp only | intro _)

theorem Block.hartDrop_hi (K : KeptHigh Q) (b : Block) (q : HartReq) (code : Nat) (hb : Q b.regs) : Q (Block.hartDrop b q code).regs := by
  unfold Block.hartDrop
  repeat' (first | with_reducible assumption | with_reducible apply Block.hartResult_hi K | dsimp only)

theorem Block.hartEndChannel_hi (K : KeptHigh Q) (b : Block) (n code : Nat) (hb : Q b.regs) : Q (Block.hartEndChannel b n code).regs := by
  unfold Block.hartEndChannel
  repeat' (first | with_reducible assumption | with_reducible refine Block.forAll_keep _ _ _ ?_ (fun _ _ _ => ?_) | with_reducible apply Block.hartDrop_hi K | with_reducible apply Block.hartEnd_hi K | dsimp only | intro _)

theorem Block.hartCheck_hi (K : KeptHigh Q) (b : Block) (n : Nat) (hb : Q b.regs) : Q (Block.hartCheck b n).regs := by
  unfold Block.hartCheck
  repeat' (first | with_reducible assumption | with_reducible apply Block.hartEndChannel_hi K | with_reducible refine ite_keep ?_ ?_ | dsimp only)

theorem Block.hartDemoted_hi (K : KeptHigh Q) (b : Block) (hb : Q b.regs) : Q (Block.hartDemoted b).regs := by
  unfold Block.hartDemoted
  repeat' (first | with_reducible assumption | with_reducible refine Block.forAll_keep _ _ _ ?_ (fun _ _ _ => ?_) | with_reducible apply Block.hartEnd_hi K | with_reducible apply Block.hartDrop_hi K | dsimp only | intro _)

theorem Block.hartClaimLost_hi (K : KeptHigh Q) (b : Block) (hb : Q b.regs) : Q (Block.hartClaimLost b).regs := by
  unfold Block.hartClaimLost
  repeat' (first | with_reducible assumption | with_reducible refine Block.forAll_keep _ _ _ ?_ (fun _ _ _ => ?_) | with_reducible apply Block.hartEndChannel_hi K | dsimp only | intro _)

theorem Block.hartFollow_hi (K : KeptHigh Q) (b : Block) (old n : Nat) (hb : Q b.regs) : Q (Block.hartFollow b old n).regs := by
  unfold Block.hartFollow
  repeat' (first | with_reducible assumption | with_reducible apply Block.hartCheck_hi K | with_reducible apply Block.hartEndChannel_hi K | with_reducible refine Block.when_keep _ _ _ ?_ (fun _ => ?_) | with_reducible apply Block.hartTakeUp_hi K | with_reducible refine ite_keep ?_ ?_ | dsimp only | intro _)

theorem Block.hartCheckAll_hi (K : KeptHigh Q) (b : Block) (hb : Q b.regs) : Q (Block.hartCheckAll b).regs := by
  unfold Block.hartCheckAll
  repeat' (first | with_reducible assumption | with_reducible refine Block.forAll_keep _ _ _ ?_ (fun _ _ _ => ?_) | with_reducible apply Block.hartCheck_hi K | dsimp only)

theorem Block.hartWaits_hi (K : KeptHigh Q) (b : Block) (q : HartReq) (hb : Q b.regs) : Q (Block.hartWaits b q).regs := by
  unfold Block.hartWaits
  repeat' (first | with_reducible assumption | with_reducible refine Block.when_keep _ _ _ ?_ (fun _ => ?_) | with_reducible apply Block.timed_hi K | dsimp only | intro _)

theorem Block.hartQueue_hi (K : KeptHigh Q) (b : Block) (q : HartReq) (hb : Q b.regs) : Q (Block.hartQueue b q).regs := by
  unfold Block.hartQueue
  repeat' (first | with_reducible assumption | with_reducible apply Block.hartResult_hi K | with_reducible apply Block.hartWaits_hi K | split | dsimp only | with_reducible refine pair_keep (by with_reducible assumption) ?_ | with_reducible refine pair_keep' (by with_reducible assumption) ?_)

theorem Block.hartSubmit_hi (K : KeptHigh Q) (b : Block) (t old : Nat) (hb : Q b.regs) : Q (Block.hartSubmit b t old).regs := by
  unfold Block.hartSubmit
  repeat' (first | with_reducible assumption | with_reducible refine Block.setRegN_hi K _ _ _ (by first | decide | (simp only [F.HRT_T_STAT_REJECT, F.HRT_T_STAT_RLEN, F.HRT_T_STAT_STATE, F.HRT_T_STAT_TRIES, Reg.HRT_T_CTL, Reg.HRT_T_STAT, Reg.SYS_STATE]; omega) | (split <;> (simp only [F.HRT_T_STAT_REJECT, F.HRT_T_STAT_RLEN, F.HRT_T_STAT_STATE, F.HRT_T_STAT_TRIES, Reg.HRT_T_CTL, Reg.HRT_T_STAT, Reg.SYS_STATE]; omega))) ?_ | with_reducible refine Block.fset_hi K _ _ _ (by first | decide | (simp only [F.HRT_T_STAT_REJECT, F.HRT_T_STAT_RLEN, F.HRT_T_STAT_STATE, F.HRT_T_STAT_TRIES, Reg.HRT_T_CTL, Reg.HRT_T_STAT, Reg.SYS_STATE]; omega) | (split <;> (simp only [F.HRT_T_STAT_REJECT, F.HRT_T_STAT_RLEN, F.HRT_T_STAT_STATE, F.HRT_T_STAT_TRIES, Reg.HRT_T_CTL, Reg.HRT_T_STAT, Reg.SYS_STATE]; omega))) ?_ | with_reducible apply Block.hartQueue_hi K | with_reducible refine ite_keep ?_ ?_ | dsimp only)

theorem Block.hartCancelSlot_hi (K : KeptHigh Q) (b : Block) (t : Nat) (hb : Q b.regs) : Q (Block.hartCancelSlot b t).regs := by
  unfold Block.hartCancelSlot
  repeat' (first | with_reducible assumption | with_reducible refine Block.forAll_keep _ _ _ ?_ (fun _ _ _ => ?_) | with_reducible apply Block.hartDrop_hi K | with_reducible apply Block.hartEnd_hi K | dsimp only | intro _)

theorem Block.hartCtl_hi (K : KeptHigh Q) (b : Block) (t v old : Nat) (hb : Q b.regs) : Q (Block.hartCtl b t v old).regs := by
  unfold Block.hartCtl
  repeat' (first | with_reducible assumption | with_reducible refine Block.when_keep _ _ _ ?_ (fun _ => ?_) | with_reducible apply Block.hartSubmit_hi K | with_reducible apply Block.hartCancelSlot_hi K | dsimp only | intro _)

theorem Block.hartCarrier_hi (K : KeptHigh Q) (b : Block) (n : Nat) (hb : Q b.regs) : Q (Block.hartCarrier b n).regs := by
  unfold Block.hartCarrier
  repeat' (first | with_reducible assumption | with_reducible apply Block.timed_hi K | dsimp only | intro _)

theorem Block.hartSend_hi (K : KeptHigh Q) (b : Block) (x : HartRun) (hb : Q b.regs) : Q (Block.hartSend b x).regs := by
  unfold Block.hartSend
  repeat' (first | with_reducible assumption | with_reducible apply Block.timed_hi K | with_reducible apply Block.hartCarrier_hi K | with_reducible apply Block.send_hi K | with_reducible refine ite_keep ?_ ?_ | dsimp only)

theorem Block.hartForeign_hi (K : KeptHigh Q) (b : Block) (n : Nat) (foreign : Bool) (hb : Q b.regs) : Q (Block.hartForeign b n foreign).regs := by
  unfold Block.hartForeign
  repeat' (first | with_reducible assumption | with_reducible refine Block.when_keep _ _ _ ?_ (fun _ => ?_) | with_reducible apply Block.hartCarrier_hi K | dsimp only | intro _)

theorem Block.hartAgain_hi (K : KeptHigh Q) (b : Block) (x : HartRun) (hb : Q b.regs) : Q (Block.hartAgain b x).regs := by
  unfold Block.hartAgain
  repeat' (first | with_reducible assumption | with_reducible refine Block.fset_hi K _ _ _ (by first | decide | (simp only [F.HRT_T_STAT_TRIES, Reg.HRT_T_STAT, Reg.SYS_STATE]; omega) | (split <;> (simp only [F.HRT_T_STAT_TRIES, Reg.HRT_T_STAT, Reg.SYS_STATE]; omega))) ?_ | with_reducible apply Block.hartSend_hi K | with_reducible refine ite_keep ?_ ?_ | split | dsimp only | with_reducible refine pair_keep (by with_reducible assumption) ?_ | with_reducible refine pair_keep' (by with_reducible assumption) ?_ | intro _)

theorem Block.hartStart_hi (K : KeptHigh Q) (b : Block) (n : Nat) (hb : Q b.regs) : Q (Block.hartStart b n).regs := by
  unfold Block.hartStart
  repeat' (first | with_reducible assumption | with_reducible apply Block.hartAgain_hi K | with_reducible refine Block.fset_hi K _ _ _ (by first | decide | (simp only [F.HRT_CH_STAT_BOUND, F.HRT_CH_STAT_HELD, F.HRT_CH_STAT_MODEM, F.HRT_T_STAT_STATE, F.HRT_T_STAT_TRIES, Reg.HRT_CH_STAT, Reg.HRT_T_STAT, Reg.SYS_STATE]; omega) | (split <;> (simp only [F.HRT_CH_STAT_BOUND, F.HRT_CH_STAT_HELD, F.HRT_CH_STAT_MODEM, F.HRT_T_STAT_STATE, F.HRT_T_STAT_TRIES, Reg.HRT_CH_STAT, Reg.HRT_T_STAT, Reg.SYS_STATE]; omega))) ?_ | with_reducible refine Block.when_keep _ _ _ ?_ (fun _ => ?_) | with_reducible apply Block.hartSend_hi K | with_reducible apply Block.hartPool_hi K | with_reducible refine ite_keep ?_ ?_ | split | dsimp only | with_reducible refine pair_keep (by with_reducible assumption) ?_ | with_reducible refine pair_keep' (by with_reducible assumption) ?_ | intro _)

theorem Block.hartStore_hi (K : KeptHigh Q) (b : Block) (t : Nat) (data : List Nat) (hb : Q b.regs) : Q (Block.hartStore b t data).regs := by
  unfold Block.hartStore
  repeat' (first | with_reducible assumption | with_reducible refine Block.forAll_keep _ _ _ ?_ (fun _ _ _ => ?_) | with_reducible refine Block.fset_hi K _ _ _ (by first | decide | (simp only [Reg.HRT_T_DATA, Reg.SYS_STATE]; omega) | (split <;> (simp only [Reg.HRT_T_DATA, Reg.SYS_STATE]; omega))) ?_ | dsimp only | intro _)

theorem Block.hartBurstEnd_hi (K : KeptHigh Q) (b : Block) (n : Nat) (hb : Q b.regs) : Q (Block.hartBurstEnd b n).regs := by
  unfold Block.hartBurstEnd
  repeat' (first | with_reducible assumption | dsimp only | intro _)

theorem Block.modemFail_hi (K : KeptHigh Q) (b : Block) (m : Nat) (hb : Q b.regs) : Q (Block.modemFail b m).regs := by
  unfold Block.modemFail
  repeat' (first | with_reducible assumption | with_reducible refine Block.fset_hi K _ _ _ (by first | decide | (simp only [F.HRT_CH_STAT_MODEM, Reg.HRT_CH_STAT, Reg.HRT_MODEM_MAP, Reg.SYS_STATE]; omega) | (split <;> (simp only [F.HRT_CH_STAT_MODEM, Reg.HRT_CH_STAT, Reg.HRT_MODEM_MAP, Reg.SYS_STATE]; omega))) ?_ | with_reducible refine Block.raiseEvt_hi K _ _ _ (by first | decide | (simp only [ge_iff_le]; omega)) ?_ | with_reducible refine Block.forAll_keep _ _ _ ?_ (fun _ _ _ => ?_) | with_reducible apply Block.hartUnbind_hi K | with_reducible apply Block.hartBind_hi K | with_reducible refine Block.when_keep _ _ _ ?_ (fun _ => ?_) | with_reducible apply Block.hartEnd_hi K | with_reducible apply Block.hartPool_hi K | with_reducible refine ite_keep ?_ ?_ | dsimp only | intro _)

theorem Block.modOut_hi (K : KeptHigh Q) (b : Block) (src : Nat) (f : OutEl → OutEl) (hb : Q b.regs) : Q (Block.modOut b src f).regs := by
  unfold Block.modOut
  repeat' (first | with_reducible assumption | dsimp only)

theorem Block.setLnkSt_hi (K : KeptHigh Q) (b : Block) (a : Nat) (st : LnkSt) (hb : Q b.regs) : Q (Block.setLnkSt b a st).regs := by
  unfold Block.setLnkSt
  repeat' (first | with_reducible assumption | dsimp only)

theorem Block.setLnkSeg_hi (K : KeptHigh Q) (b : Block) (s : Nat) (g : LnkSeg) (hb : Q b.regs) : Q (Block.setLnkSeg b s g).regs := by
  unfold Block.setLnkSeg
  repeat' (first | with_reducible assumption | dsimp only)

theorem Block.lnkCounts_hi (K : KeptHigh Q) (b : Block) (hb : Q b.regs) : Q (Block.lnkCounts b).regs := by
  unfold Block.lnkCounts
  repeat' (first | with_reducible assumption | with_reducible refine Block.fset_hi K _ _ _ (by first | decide | (simp only [F.LNK_STAT_DOWN, F.LNK_STAT_UP, Reg.LNK_STAT, Reg.SYS_STATE]; omega) | (split <;> (simp only [F.LNK_STAT_DOWN, F.LNK_STAT_UP, Reg.LNK_STAT, Reg.SYS_STATE]; omega))) ?_ | dsimp only | intro _)

theorem Block.lnkSet_hi (K : KeptHigh Q) (b : Block) (a st : Nat) (hb : Q b.regs) : Q (Block.lnkSet b a st).regs := by
  unfold Block.lnkSet
  repeat' (first | with_reducible assumption | with_reducible refine Block.fset_hi K _ _ _ (by first | decide | (simp only [F.LNK_DOWN_CNT_COUNT, F.LNK_ST_CNT_DOWN, F.LNK_ST_STATE_STATE, Reg.LNK_DOWN_CNT, Reg.LNK_ST_CNT, Reg.LNK_ST_STATE, Reg.SYS_STATE]; omega) | (split <;> (simp only [F.LNK_DOWN_CNT_COUNT, F.LNK_ST_CNT_DOWN, F.LNK_ST_STATE_STATE, Reg.LNK_DOWN_CNT, Reg.LNK_ST_CNT, Reg.LNK_ST_STATE, Reg.SYS_STATE]; omega))) ?_ | with_reducible apply Block.lnkCounts_hi K | with_reducible refine Block.event_hi K _ _ _ _ _ (by first | decide | (simp only [ge_iff_le]; omega)) ?_ | with_reducible refine Block.incSat_hi K _ _ (by first | decide | (simp only [F.LNK_DOWN_CNT_COUNT, F.LNK_ST_CNT_DOWN, F.LNK_ST_STATE_STATE, Reg.LNK_DOWN_CNT, Reg.LNK_ST_CNT, Reg.LNK_ST_STATE, Reg.SYS_STATE]; omega) | (split <;> (simp only [F.LNK_DOWN_CNT_COUNT, F.LNK_ST_CNT_DOWN, F.LNK_ST_STATE_STATE, Reg.LNK_DOWN_CNT, Reg.LNK_ST_CNT, Reg.LNK_ST_STATE, Reg.SYS_STATE]; omega))) ?_ | with_reducible refine ite_keep ?_ ?_ | split | dsimp only | with_reducible refine pair_keep (by with_reducible assumption) ?_ | with_reducible refine pair_keep' (by with_reducible assumption) ?_)

theorem Block.lnkSegShow_hi (K : KeptHigh Q) (b : Block) (hb : Q b.regs) : Q (Block.lnkSegShow b).regs := by
  unfold Block.lnkSegShow
  repeat' (first | with_reducible assumption | with_reducible refine Block.forAll_keep _ _ _ ?_ (fun _ _ _ => ?_) | with_reducible refine Block.setRegN_hi K _ _ _ (by first | decide | (simp only [F.CTX_CFG_CLASS, F.CTX_WCET_WCET, F.LNK_SEG_CFG_VALID, Reg.CTX_CFG, Reg.CTX_WCET, Reg.LNK_SEG_CFG, Reg.LNK_SEG_D, Reg.LNK_SEG_MIN, Reg.SYS_STATE]; omega) | (split <;> (simp only [F.CTX_CFG_CLASS, F.CTX_WCET_WCET, F.LNK_SEG_CFG_VALID, Reg.CTX_CFG, Reg.CTX_WCET, Reg.LNK_SEG_CFG, Reg.LNK_SEG_D, Reg.LNK_SEG_MIN, Reg.SYS_STATE]; omega))) ?_ | with_reducible refine ite_keep ?_ ?_ | dsimp only | intro _)

theorem Block.lnkTakeUp_hi (K : KeptHigh Q) (b : Block) (cfg : Option LnkCfg) (hb : Q b.regs) : Q (Block.lnkTakeUp b cfg).regs := by
  unfold Block.lnkTakeUp
  repeat' (first | with_reducible assumption | with_reducible refine Block.fset_hi K _ _ _ (by first | decide | (simp only [F.CTX_CFG_CLASS, F.CTX_WCET_WCET, F.LNK_CFG_SPEED_A, F.LNK_CFG_SPEED_B, F.LNK_CFG_STATIONS, F.LNK_CFG_TOPO, F.LNK_SEG_CFG_CTX, F.LNK_SEG_CFG_VALID, F.LNK_STAT_RING, Reg.CTX_CFG, Reg.CTX_WCET, Reg.LNK_CFG, Reg.LNK_SEG_APPLY, Reg.LNK_SEG_CFG, Reg.LNK_SEG_D, Reg.LNK_SEG_MIN, Reg.LNK_SEG_TIN, Reg.LNK_SEG_TOUT, Reg.LNK_STAT, Reg.LNK_ST_DELAY, Reg.LNK_ST_STATE, Reg.SYS_STATE]; omega) | (split <;> (simp only [F.CTX_CFG_CLASS, F.CTX_WCET_WCET, F.LNK_CFG_SPEED_A, F.LNK_CFG_SPEED_B, F.LNK_CFG_STATIONS, F.LNK_CFG_TOPO, F.LNK_SEG_CFG_CTX, F.LNK_SEG_CFG_VALID, F.LNK_STAT_RING, Reg.CTX_CFG, Reg.CTX_WCET, Reg.LNK_CFG, Reg.LNK_SEG_APPLY, Reg.LNK_SEG_CFG, Reg.LNK_SEG_D, Reg.LNK_SEG_MIN, Reg.LNK_SEG_TIN, Reg.LNK_SEG_TOUT, Reg.LNK_STAT, Reg.LNK_ST_DELAY, Reg.LNK_ST_STATE, Reg.SYS_STATE]; omega))) ?_ | with_reducible refine Block.forAll_keep _ _ _ ?_ (fun _ _ _ => ?_) | with_reducible refine Block.fsetB_hi K _ _ _ (by first | decide | (simp only [F.CTX_CFG_CLASS, F.CTX_WCET_WCET, F.LNK_CFG_SPEED_A, F.LNK_CFG_SPEED_B, F.LNK_CFG_STATIONS, F.LNK_CFG_TOPO, F.LNK_SEG_CFG_CTX, F.LNK_SEG_CFG_VALID, F.LNK_STAT_RING, Reg.CTX_CFG, Reg.CTX_WCET, Reg.LNK_CFG, Reg.LNK_SEG_APPLY, Reg.LNK_SEG_CFG, Reg.LNK_SEG_D, Reg.LNK_SEG_MIN, Reg.LNK_SEG_TIN, Reg.LNK_SEG_TOUT, Reg.LNK_STAT, Reg.LNK_ST_DELAY, Reg.LNK_ST_STATE, Reg.SYS_STATE]; omega) | (split <;> (simp only [F.CTX_CFG_CLASS, F.CTX_WCET_WCET, F.LNK_CFG_SPEED_A, F.LNK_CFG_SPEED_B, F.LNK_CFG_STATIONS, F.LNK_CFG_TOPO, F.LNK_SEG_CFG_CTX, F.LNK_SEG_CFG_VALID, F.LNK_STAT_RING, Reg.CTX_CFG, Reg.CTX_WCET, Reg.LNK_CFG, Reg.LNK_SEG_APPLY, Reg.LNK_SEG_CFG, Reg.LNK_SEG_D, Reg.LNK_SEG_MIN, Reg.LNK_SEG_TIN, Reg.LNK_SEG_TOUT, Reg.LNK_STAT, Reg.LNK_ST_DELAY, Reg.LNK_ST_STATE, Reg.SYS_STATE]; omega))) ?_ | with_reducible refine Block.setRegN_hi K _ _ _ (by first | decide | (simp only [F.CTX_CFG_CLASS, F.CTX_WCET_WCET, F.LNK_CFG_SPEED_A, F.LNK_CFG_SPEED_B, F.LNK_CFG_STATIONS, F.LNK_CFG_TOPO, F.LNK_SEG_CFG_CTX, F.LNK_SEG_CFG_VALID, F.LNK_STAT_RING, Reg.CTX_CFG, Reg.CTX_WCET, Reg.LNK_CFG, Reg.LNK_SEG_APPLY, Reg.LNK_SEG_CFG, Reg.LNK_SEG_D, Reg.LNK_SEG_MIN, Reg.LNK_SEG_TIN, Reg.LNK_SEG_TOUT, Reg.LNK_STAT, Reg.LNK_ST_DELAY, Reg.LNK_ST_STATE, Reg.SYS_STATE]; omega) | (split <;> (simp only [F.CTX_CFG_CLASS, F.CTX_WCET_WCET, F.LNK_CFG_SPEED_A, F.LNK_CFG_SPEED_B, F.LNK_CFG_STATIONS, F.LNK_CFG_TOPO, F.LNK_SEG_CFG_CTX, F.LNK_SEG_CFG_VALID, F.LNK_STAT_RING, Reg.CTX_CFG, Reg.CTX_WCET, Reg.LNK_CFG, Reg.LNK_SEG_APPLY, Reg.LNK_SEG_CFG, Reg.LNK_SEG_D, Reg.LNK_SEG_MIN, Reg.LNK_SEG_TIN, Reg.LNK_SEG_TOUT, Reg.LNK_STAT, Reg.LNK_ST_DELAY, Reg.LNK_ST_STATE, Reg.SYS_STATE]; omega))) ?_ | with_reducible apply Block.lnkCounts_hi K | with_reducible refine ite_keep ?_ ?_ | dsimp only | intro _)

theorem Block.lnkFrame_hi (K : KeptHigh Q) (b : Block) (s : Nat) (f : LnkOut) (portB held : Bool) (hb : Q b.regs) : Q (Block.lnkFrame b s f portB held).regs := by
  unfold Block.lnkFrame
  repeat' (first | with_reducible assumption | with_reducible apply Block.send_hi K | with_reducible refine ite_keep ?_ ?_ | split | dsimp only | with_reducible refine pair_keep (by with_reducible assumption) ?_ | with_reducible refine pair_keep' (by with_reducible assumption) ?_ | intro _)

theorem Block.lnkFed_hi (K : KeptHigh Q) (b : Block) (seq : Nat) (f : LnkOut) (hb : Q b.regs) : Q (Block.lnkFed b seq f).regs := by
  unfold Block.lnkFed
  repeat' (first | with_reducible assumption | with_reducible refine Block.forAll_keep _ _ _ ?_ (fun _ _ _ => ?_) | with_reducible apply Block.setLnkSt_hi K | dsimp only | intro _)

theorem Block.lnkSend_hi (K : KeptHigh Q) (b : Block) (s : Nat) (held : Bool) (hb : Q b.regs) : Q (Block.lnkSend b s held).regs := by
  unfold Block.lnkSend
  repeat' (first | with_reducible assumption | with_reducible apply Block.setLnkSeg_hi K | with_reducible refine Block.forAll_keep _ _ _ ?_ (fun _ _ _ => ?_) | with_reducible apply Block.lnkFrame_hi K | with_reducible apply Block.lnkFed_hi K | with_reducible refine Block.setRegN_hi K _ _ _ (by first | decide | (simp only [F.LNK_HELD_CNT_COUNT, Reg.LNK_HELD_CNT, Reg.LNK_SEG_SEQ, Reg.SYS_STATE]; omega) | (split <;> (simp only [F.LNK_HELD_CNT_COUNT, Reg.LNK_HELD_CNT, Reg.LNK_SEG_SEQ, Reg.SYS_STATE]; omega))) ?_ | with_reducible refine Block.when_keep _ _ _ ?_ (fun _ => ?_) | with_reducible refine Block.incSat_hi K _ _ (by first | decide | (simp only [F.LNK_HELD_CNT_COUNT, Reg.LNK_HELD_CNT, Reg.LNK_SEG_SEQ, Reg.SYS_STATE]; omega) | (split <;> (simp only [F.LNK_HELD_CNT_COUNT, Reg.LNK_HELD_CNT, Reg.LNK_SEG_SEQ, Reg.SYS_STATE]; omega))) ?_ | with_reducible refine Block.raiseEvt_hi K _ _ _ (by first | decide | (simp only [ge_iff_le]; omega)) ?_ | with_reducible refine ite_keep ?_ ?_ | dsimp only | intro _)

theorem Block.lnkCommit_hi (K : KeptHigh Q) (b : Block) (ctx : Nat) (hb : Q b.regs) : Q (Block.lnkCommit b ctx).regs := by
  unfold Block.lnkCommit
  repeat' (first | with_reducible assumption | with_reducible refine Block.forAll_keep _ _ _ ?_ (fun _ _ _ => ?_) | with_reducible refine Block.when_keep _ _ _ ?_ (fun _ => ?_) | with_reducible apply Block.lnkSend_hi K | dsimp only | intro _)

theorem Block.lnkHalt_hi (K : KeptHigh Q) (b : Block) (hb : Q b.regs) : Q (Block.lnkHalt b).regs := by
  unfold Block.lnkHalt
  repeat' (first | with_reducible assumption | with_reducible refine Block.forAll_keep _ _ _ ?_ (fun _ _ _ => ?_) | with_reducible refine Block.when_keep _ _ _ ?_ (fun _ => ?_) | with_reducible apply Block.lnkSend_hi K | dsimp only | intro _)

theorem Block.lnkRing_hi (K : KeptHigh Q) (b : Block) (s : Nat) (hb : Q b.regs) : Q (Block.lnkRing b s).regs := by
  unfold Block.lnkRing
  repeat' (first | with_reducible assumption | with_reducible apply Block.setLnkSeg_hi K | with_reducible refine Block.fset_hi K _ _ _ (by first | decide | (simp only [F.LNK_RING_CNT_COUNT, F.LNK_STAT_BREAK_AFTER, F.LNK_STAT_RING, F.LNK_ST_STATE_PATH_A, Reg.LNK_RING_CNT, Reg.LNK_STAT, Reg.LNK_ST_STATE, Reg.SYS_STATE]; omega) | (split <;> (simp only [F.LNK_RING_CNT_COUNT, F.LNK_STAT_BREAK_AFTER, F.LNK_STAT_RING, F.LNK_ST_STATE_PATH_A, Reg.LNK_RING_CNT, Reg.LNK_STAT, Reg.LNK_ST_STATE, Reg.SYS_STATE]; omega))) ?_ | with_reducible refine Block.incSat_hi K _ _ (by first | decide | (simp only [F.LNK_RING_CNT_COUNT, F.LNK_STAT_BREAK_AFTER, F.LNK_STAT_RING, F.LNK_ST_STATE_PATH_A, Reg.LNK_RING_CNT, Reg.LNK_STAT, Reg.LNK_ST_STATE, Reg.SYS_STATE]; omega) | (split <;> (simp only [F.LNK_RING_CNT_COUNT, F.LNK_STAT_BREAK_AFTER, F.LNK_STAT_RING, F.LNK_ST_STATE_PATH_A, Reg.LNK_RING_CNT, Reg.LNK_STAT, Reg.LNK_ST_STATE, Reg.SYS_STATE]; omega))) ?_ | with_reducible refine Block.raiseEvt_hi K _ _ _ (by first | decide | (simp only [ge_iff_le]; omega)) ?_ | with_reducible refine Block.when_keep _ _ _ ?_ (fun _ => ?_) | with_reducible refine ite_keep ?_ ?_ | dsimp only | intro _)

theorem Block.lnkAnswered_hi (K : KeptHigh Q) (b : Block) (ans : LnkAnswer) (hb : Q b.regs) : Q (Block.lnkAnswered b ans).regs := by
  unfold Block.lnkAnswered
  repeat' (first | with_reducible assumption | dsimp only)

theorem Block.lnkRefused_hi (K : KeptHigh Q) (b : Block) (a : Nat) (hb : Q b.regs) : Q (Block.lnkRefused b a).regs := by
  unfold Block.lnkRefused
  repeat' (first | with_reducible assumption | with_reducible apply Block.setLnkSt_hi K | with_reducible refine Block.when_keep _ _ _ ?_ (fun _ => ?_) | with_reducible apply Block.lnkSet_hi K | with_reducible apply Block.lnkSegShow_hi K | dsimp only | intro _)

theorem Block.lnkStray_hi (K : KeptHigh Q) (b : Block) (hb : Q b.regs) : Q (Block.lnkStray b).regs := by
  unfold Block.lnkStray
  repeat' (first | with_reducible assumption | with_reducible refine Block.incSat_hi K _ _ (by first | decide | (simp only [F.LNK_STRAY_CNT_COUNT, Reg.LNK_STRAY_CNT, Reg.SYS_STATE]; omega) | (split <;> (simp only [F.LNK_STRAY_CNT_COUNT, Reg.LNK_STRAY_CNT, Reg.SYS_STATE]; omega))) ?_ | with_reducible refine Block.raiseEvt_hi K _ _ _ (by first | decide | (simp only [ge_iff_le]; omega)) ?_ | dsimp only)

theorem Block.lnkConfigs_hi (K : KeptHigh Q) (b : Block) (s : Nat) (hb : Q b.regs) : Q (Block.lnkConfigs b s).regs := by
  unfold Block.lnkConfigs
  repeat' (first | with_reducible assumption | with_reducible refine Block.forAll_keep _ _ _ ?_ (fun _ _ _ => ?_) | with_reducible refine Block.when_keep _ _ _ ?_ (fun _ => ?_) | with_reducible apply Block.send_hi K | with_reducible apply Block.setLnkSt_hi K | with_reducible refine ite_keep ?_ ?_ | dsimp only | intro _)

theorem Block.echoEnd_hi (K : KeptHigh Q) (b : Block) (k : Nat) (hb : Q b.regs) : Q (Block.echoEnd b k).regs := by
  unfold Block.echoEnd
  repeat' (first | with_reducible assumption | with_reducible refine Block.setRegN_hi K _ _ _ (by first | decide | (simp only [Reg.RED_APPLIED, Reg.RED_CLAIM, Reg.SYS_STATE]; omega) | (split <;> (simp only [Reg.RED_APPLIED, Reg.RED_CLAIM, Reg.SYS_STATE]; omega))) ?_ | with_reducible refine ite_keep ?_ ?_ | dsimp only | intro _)

theorem Block.lnkReceipt_hi (K : KeptHigh Q) (b : Block) (k : Nat) (hb : Q b.regs) : Q (Block.lnkReceipt b k).regs := by
  unfold Block.lnkReceipt
  repeat' (first | with_reducible assumption | with_reducible refine Block.when_keep _ _ _ ?_ (fun _ => ?_) | with_reducible apply Block.send_hi K | with_reducible refine ite_keep ?_ ?_ | dsimp only | intro _)

theorem Block.lnkCommand_hi (K : KeptHigh Q) (b : Block) (v : Nat) (hb : Q b.regs) : Q (Block.lnkCommand b v).regs := by
  unfold Block.lnkCommand
  repeat' (first | with_reducible assumption | with_reducible refine Block.fset_hi K _ _ _ (by first | decide | (simp only [F.LNK_CMD_CMD, F.LNK_CMD_RES_CODE, F.LNK_ST_STATE_CODE, Reg.LNK_CMD, Reg.LNK_CMD_RES, Reg.LNK_ST_STATE, Reg.SYS_STATE]; omega) | (split <;> (simp only [F.LNK_CMD_CMD, F.LNK_CMD_RES_CODE, F.LNK_ST_STATE_CODE, Reg.LNK_CMD, Reg.LNK_CMD_RES, Reg.LNK_ST_STATE, Reg.SYS_STATE]; omega))) ?_ | with_reducible refine Block.raiseEvt_hi K _ _ _ (by first | decide | (simp only [ge_iff_le]; omega)) ?_ | with_reducible apply Block.setLnkSt_hi K | with_reducible apply Block.lnkSegShow_hi K | with_reducible apply Block.lnkSet_hi K | with_reducible refine Block.when_keep _ _ _ ?_ (fun _ => ?_) | with_reducible refine ite_keep ?_ ?_ | dsimp only | intro _)

theorem Block.presence_hi (K : KeptHigh Q) (b : Block) (hb : Q b.regs) : Q (Block.presence b).regs := by
  unfold Block.presence
  repeat' (first | with_reducible assumption | with_reducible refine Block.fsetB_hi K _ _ _ (by first | decide | (simp only [F.RED_STAT_PARTNER, Reg.RED_STAT, Reg.SYS_STATE]; omega) | (split <;> (simp only [F.RED_STAT_PARTNER, Reg.RED_STAT, Reg.SYS_STATE]; omega))) ?_ | with_reducible refine Block.raiseEvt_hi K _ _ _ (by first | decide | (simp only [ge_iff_le]; omega)) ?_ | with_reducible refine ite_keep ?_ ?_ | dsimp only)

theorem Block.unsyncedLoss_hi (K : KeptHigh Q) (b : Block) (hb : Q b.regs) : Q (Block.unsyncedLoss b).regs := by
  unfold Block.unsyncedLoss
  repeat' (first | with_reducible assumption | with_reducible apply Block.recRegs_hi K | with_reducible refine ite_keep ?_ ?_ | dsimp only)

theorem Block.hbSilent_hi (K : KeptHigh Q) (b : Block) (hb : Q b.regs) : Q (Block.hbSilent b).regs := by
  unfold Block.hbSilent
  repeat' (first | with_reducible assumption | with_reducible refine Block.fset_hi K _ _ _ (by first | decide | (simp only [F.RED_STAT_HB_OK, Reg.RED_STAT, Reg.SYS_STATE]; omega) | (split <;> (simp only [F.RED_STAT_HB_OK, Reg.RED_STAT, Reg.SYS_STATE]; omega))) ?_ | with_reducible apply Block.presence_hi K | with_reducible apply Block.unsyncedLoss_hi K | with_reducible refine ite_keep ?_ ?_ | dsimp only)

theorem Block.beatArm_hi (K : KeptHigh Q) (b : Block) (hb : Q b.regs) : Q (Block.beatArm b).regs := by
  unfold Block.beatArm
  repeat' (first | with_reducible assumption | with_reducible refine ite_keep ?_ ?_ | dsimp only)

theorem Block.pairHeard_hi (K : KeptHigh Q) (b : Block) (hb : Q b.regs) : Q (Block.pairHeard b).regs := by
  unfold Block.pairHeard
  repeat' (first | with_reducible assumption | dsimp only)

theorem Block.hbBusOff_hi (K : KeptHigh Q) (b : Block) (hb : Q b.regs) : Q (Block.hbBusOff b).regs := by
  unfold Block.hbBusOff
  repeat' (first | with_reducible assumption | with_reducible refine Block.when_keep _ _ _ ?_ (fun _ => ?_) | with_reducible apply Block.hbSilent_hi K | dsimp only)

theorem Block.lowFollow_hi (K : KeptHigh Q) (b : Block) (hb : Q b.regs) : Q (Block.lowFollow b).regs := by
  unfold Block.lowFollow
  repeat' (first | with_reducible assumption | with_reducible refine ite_keep ?_ ?_ | dsimp only)

theorem Block.setCanPort_hi (K : KeptHigh Q) (b : Block) (p : Nat) (x : CanPort) (hb : Q b.regs) : Q (Block.setCanPort b p x).regs := by
  unfold Block.setCanPort
  repeat' (first | with_reducible assumption | dsimp only)

theorem Block.canShow_hi (K : KeptHigh Q) (b : Block) (p e : Nat) (x : Option CanEntry) (hb : Q b.regs) : Q (Block.canShow b p e x).regs := by
  unfold Block.canShow
  repeat' (first | with_reducible assumption | with_reducible refine Block.forAll_keep _ _ _ ?_ (fun _ _ _ => ?_) | with_reducible refine Block.setReg_hi K _ _ _ (by first | decide | (simp only [Reg.SYS_STATE, canWin]; omega) | (split <;> (simp only [Reg.SYS_STATE, canWin]; omega))) ?_ | with_reducible refine Block.setRegN_hi K _ _ _ (by first | decide | (simp only [Reg.SYS_STATE, canWin]; omega) | (split <;> (simp only [Reg.SYS_STATE, canWin]; omega))) ?_ | with_reducible refine ite_keep ?_ ?_ | with_reducible apply id_keep | split | dsimp only | with_reducible refine pair_keep (by with_reducible assumption) ?_ | with_reducible refine pair_keep' (by with_reducible assumption) ?_ | intro _)

theorem Block.canWindow_hi (K : KeptHigh Q) (b : Block) (p : Nat) (hb : Q b.regs) : Q (Block.canWindow b p).regs := by
  unfold Block.canWindow
  repeat' (first | with_reducible assumption | with_reducible refine Block.forAll_keep _ _ _ ?_ (fun _ _ _ => ?_) | with_reducible apply Block.canShow_hi K | dsimp only | intro _)

theorem Block.canStore_hi (K : KeptHigh Q) (b : Block) (p : Nat) (f : CanFrame) (tx ref : Bool) (hb : Q b.regs) : Q (Block.canStore b p f tx ref).regs := by
  unfold Block.canStore
  repeat' (first | with_reducible assumption | with_reducible apply Block.setCanPort_hi K | with_reducible refine Block.forAll_keep _ _ _ ?_ (fun _ _ _ => ?_) | with_reducible apply Block.canShow_hi K | with_reducible refine Block.setRegN_hi K _ _ _ (by first | decide | (simp only [Reg.CAN_RX_BASE, Reg.CAN_RX_NUM, Reg.SYS_STATE, canPage]; omega) | (split <;> (simp only [Reg.CAN_RX_BASE, Reg.CAN_RX_NUM, Reg.SYS_STATE, canPage]; omega))) ?_ | with_reducible refine Block.raiseEvt_hi K _ _ _ (by first | decide | (simp only [canPage, ge_iff_le]; omega)) ?_ | dsimp only | intro _)

theorem Block.canAttempt_hi (K : KeptHigh Q) (b : Block) (p : Nat) (hb : Q b.regs) : Q (Block.canAttempt b p).regs := by
  unfold Block.canAttempt
  repeat' (first | with_reducible assumption | with_reducible apply Block.setCanPort_hi K | with_reducible refine Block.fset_hi K _ _ _ (by first | decide | (simp only [F.CAN_TX_STAT_ATTEMPT, Reg.CAN_TX_STAT, Reg.SYS_STATE]; omega) | (split <;> (simp only [F.CAN_TX_STAT_ATTEMPT, Reg.CAN_TX_STAT, Reg.SYS_STATE]; omega))) ?_ | with_reducible refine ite_keep ?_ ?_ | split | dsimp only | with_reducible refine pair_keep (by with_reducible assumption) ?_ | with_reducible refine pair_keep' (by with_reducible assumption) ?_)

theorem Block.canStart_hi (K : KeptHigh Q) (b : Block) (p : Nat) (hb : Q b.regs) : Q (Block.canStart b p).regs := by
  unfold Block.canStart
  repeat' (first | with_reducible assumption | with_reducible apply Block.canAttempt_hi K | with_reducible refine ite_keep ?_ ?_ | dsimp only)

theorem Block.canBus_hi (K : KeptHigh Q) (b : Block) (p : Nat) (busy integrates : Bool) (hb : Q b.regs) : Q (Block.canBus b p busy integrates).regs := by
  unfold Block.canBus
  repeat' (first | with_reducible assumption | with_reducible apply Block.setCanPort_hi K | dsimp only)

theorem Block.canDrop_hi (K : KeptHigh Q) (b : Block) (p k : Nat) (hb : Q b.regs) : Q (Block.canDrop b p k).regs := by
  unfold Block.canDrop
  repeat' (first | with_reducible assumption | with_reducible refine Block.incSat_hi K _ _ (by first | decide | (simp only [F.CAN_TX_DROP_CNT_COUNT, F.CAN_TX_STAT_LAST, Reg.CAN_TX_DROP_CNT, Reg.CAN_TX_STAT, Reg.SYS_STATE, canPage]; omega) | (split <;> (simp only [F.CAN_TX_DROP_CNT_COUNT, F.CAN_TX_STAT_LAST, Reg.CAN_TX_DROP_CNT, Reg.CAN_TX_STAT, Reg.SYS_STATE, canPage]; omega))) ?_ | with_reducible refine Block.fset_hi K _ _ _ (by first | decide | (simp only [F.CAN_TX_DROP_CNT_COUNT, F.CAN_TX_STAT_LAST, Reg.CAN_TX_DROP_CNT, Reg.CAN_TX_STAT, Reg.SYS_STATE, canPage]; omega) | (split <;> (simp only [F.CAN_TX_DROP_CNT_COUNT, F.CAN_TX_STAT_LAST, Reg.CAN_TX_DROP_CNT, Reg.CAN_TX_STAT, Reg.SYS_STATE, canPage]; omega))) ?_ | with_reducible refine Block.raiseEvt_hi K _ _ _ (by first | decide | (simp only [canPage, ge_iff_le]; omega)) ?_ | dsimp only)

theorem Block.canReplaced_hi (K : KeptHigh Q) (b : Block) (p k : Nat) (hb : Q b.regs) : Q (Block.canReplaced b p k).regs := by
  unfold Block.canReplaced
  repeat' (first | with_reducible assumption | with_reducible refine Block.incSat_hi K _ _ (by first | decide | (simp only [F.CAN_TX_LATE_CNT_COUNT, F.CAN_TX_STAT_LAST, F.CAN_TX_STAT_LATE, Reg.CAN_TX_LATE_CNT, Reg.CAN_TX_STAT, Reg.SYS_STATE, canPage]; omega) | (split <;> (simp only [F.CAN_TX_LATE_CNT_COUNT, F.CAN_TX_STAT_LAST, F.CAN_TX_STAT_LATE, Reg.CAN_TX_LATE_CNT, Reg.CAN_TX_STAT, Reg.SYS_STATE, canPage]; omega))) ?_ | with_reducible refine Block.fset_hi K _ _ _ (by first | decide | (simp only [F.CAN_TX_LATE_CNT_COUNT, F.CAN_TX_STAT_LAST, F.CAN_TX_STAT_LATE, Reg.CAN_TX_LATE_CNT, Reg.CAN_TX_STAT, Reg.SYS_STATE, canPage]; omega) | (split <;> (simp only [F.CAN_TX_LATE_CNT_COUNT, F.CAN_TX_STAT_LAST, F.CAN_TX_STAT_LATE, Reg.CAN_TX_LATE_CNT, Reg.CAN_TX_STAT, Reg.SYS_STATE, canPage]; omega))) ?_ | with_reducible refine Block.incWrap_hi K _ _ (by first | decide | (simp only [F.CAN_TX_LATE_CNT_COUNT, F.CAN_TX_STAT_LAST, F.CAN_TX_STAT_LATE, Reg.CAN_TX_LATE_CNT, Reg.CAN_TX_STAT, Reg.SYS_STATE, canPage]; omega) | (split <;> (simp only [F.CAN_TX_LATE_CNT_COUNT, F.CAN_TX_STAT_LAST, F.CAN_TX_STAT_LATE, Reg.CAN_TX_LATE_CNT, Reg.CAN_TX_STAT, Reg.SYS_STATE, canPage]; omega))) ?_ | with_reducible refine Block.raiseEvt_hi K _ _ _ (by first | decide | (simp only [canPage, ge_iff_le]; omega)) ?_ | dsimp only)

theorem Block.canDiscard_hi (K : KeptHigh Q) (b : Block) (p : Nat) (count : Bool) (hb : Q b.regs) : Q (Block.canDiscard b p count).regs := by
  unfold Block.canDiscard
  repeat' (first | with_reducible assumption | with_reducible refine Block.forAll_keep _ _ _ ?_ (fun _ _ _ => ?_) | with_reducible refine Block.fset_hi K _ _ _ (by first | decide | (simp only [F.CAN_TX_STAT_ATTEMPT, F.CAN_TX_STAT_PENDING, Reg.CAN_TX_STAT, Reg.SYS_STATE]; omega) | (split <;> (simp only [F.CAN_TX_STAT_ATTEMPT, F.CAN_TX_STAT_PENDING, Reg.CAN_TX_STAT, Reg.SYS_STATE]; omega))) ?_ | with_reducible refine Block.when_keep _ _ _ ?_ (fun _ => ?_) | with_reducible apply Block.canDrop_hi K | with_reducible apply Block.setCanPort_hi K | dsimp only | intro _)

theorem Block.canInstant_hi (K : KeptHigh Q) (b : Block) (p k : Nat) (hb : Q b.regs) : Q (Block.canInstant b p k).regs := by
  unfold Block.canInstant
  repeat' (first | with_reducible assumption | with_reducible apply Block.canDrop_hi K | with_reducible apply Block.setCanPort_hi K | with_reducible refine Block.when_keep _ _ _ ?_ (fun _ => ?_) | with_reducible apply Block.canReplaced_hi K | with_reducible refine Block.fset_hi K _ _ _ (by first | decide | (simp only [F.CAN_MODE_AUX, F.CAN_TX_STAT_PENDING, Reg.CAN_MODE, Reg.CAN_TX_STAT, Reg.SYS_STATE]; omega) | (split <;> (simp only [F.CAN_MODE_AUX, F.CAN_TX_STAT_PENDING, Reg.CAN_MODE, Reg.CAN_TX_STAT, Reg.SYS_STATE]; omega))) ?_ | with_reducible refine ite_keep ?_ ?_ | split | dsimp only | with_reducible refine pair_keep (by with_reducible assumption) ?_ | with_reducible refine pair_keep' (by with_reducible assumption) ?_ | intro _)

theorem Block.canCommit_hi (K : KeptHigh Q) (b : Block) (ctx : Nat) (hb : Q b.regs) : Q (Block.canCommit b ctx).regs := by
  unfold Block.canCommit
  repeat' (first | with_reducible assumption | with_reducible refine Block.forAll_keep _ _ _ ?_ (fun _ _ _ => ?_) | with_reducible apply Block.canInstant_hi K | with_reducible apply Block.canStart_hi K | dsimp only | intro _)

theorem Block.canAimed_hi (K : KeptHigh Q) (b : Block) (p k : Nat) (hb : Q b.regs) : Q (Block.canAimed b p k).regs := by
  unfold Block.canAimed
  repeat' (first | with_reducible assumption | with_reducible apply Block.setCanPort_hi K | split | dsimp only | with_reducible refine pair_keep (by with_reducible assumption) ?_ | with_reducible refine pair_keep' (by with_reducible assumption) ?_)

theorem Block.canCount_hi (K : KeptHigh Q) (b : Block) (p tec recv : Nat) (hb : Q b.regs) : Q (Block.canCount b p tec recv).regs := by
  unfold Block.canCount
  repeat' (first | with_reducible assumption | with_reducible apply Block.setCanPort_hi K | with_reducible refine Block.fset_hi K _ _ _ (by first | decide | (simp only [F.CAN_ERR_REC, F.CAN_ERR_TEC, Reg.CAN_ERR, Reg.SYS_STATE]; omega) | (split <;> (simp only [F.CAN_ERR_REC, F.CAN_ERR_TEC, Reg.CAN_ERR, Reg.SYS_STATE]; omega))) ?_ | dsimp only)

theorem Block.canWarn_hi (K : KeptHigh Q) (b : Block) (p : Nat) (warn : Bool) (hb : Q b.regs) : Q (Block.canWarn b p warn).regs := by
  unfold Block.canWarn
  repeat' (first | with_reducible assumption | with_reducible refine Block.fsetB_hi K _ _ _ (by first | decide | (simp only [F.CAN_ERR_WARN, Reg.CAN_ERR, Reg.SYS_STATE, canPage]; omega) | (split <;> (simp only [F.CAN_ERR_WARN, Reg.CAN_ERR, Reg.SYS_STATE, canPage]; omega))) ?_ | with_reducible refine Block.when_keep _ _ _ ?_ (fun _ => ?_) | with_reducible refine Block.raiseEvt_hi K _ _ _ (by first | decide | (simp only [canPage, ge_iff_le]; omega)) ?_ | dsimp only | intro _)

theorem Block.canOff_hi (K : KeptHigh Q) (b : Block) (p : Nat) (hb : Q b.regs) : Q (Block.canOff b p).regs := by
  unfold Block.canOff
  repeat' (first | with_reducible assumption | with_reducible apply Block.canDiscard_hi K | with_reducible refine Block.fset_hi K _ _ _ (by first | decide | (simp only [F.CAN_BUSOFF_CNT_COUNT, F.CAN_ERR_STATE, F.CAN_MODE_FAULT_MODE, Reg.CAN_BUSOFF_CNT, Reg.CAN_ERR, Reg.CAN_MODE, Reg.SYS_STATE, canPage]; omega) | (split <;> (simp only [F.CAN_BUSOFF_CNT_COUNT, F.CAN_ERR_STATE, F.CAN_MODE_FAULT_MODE, Reg.CAN_BUSOFF_CNT, Reg.CAN_ERR, Reg.CAN_MODE, Reg.SYS_STATE, canPage]; omega))) ?_ | with_reducible refine Block.incSat_hi K _ _ (by first | decide | (simp only [F.CAN_BUSOFF_CNT_COUNT, F.CAN_ERR_STATE, F.CAN_MODE_FAULT_MODE, Reg.CAN_BUSOFF_CNT, Reg.CAN_ERR, Reg.CAN_MODE, Reg.SYS_STATE, canPage]; omega) | (split <;> (simp only [F.CAN_BUSOFF_CNT_COUNT, F.CAN_ERR_STATE, F.CAN_MODE_FAULT_MODE, Reg.CAN_BUSOFF_CNT, Reg.CAN_ERR, Reg.CAN_MODE, Reg.SYS_STATE, canPage]; omega))) ?_ | with_reducible refine Block.event_hi K _ _ _ _ _ (by first | decide | (simp only [canPage, ge_iff_le]; omega)) ?_ | with_reducible refine Block.when_keep _ _ _ ?_ (fun _ => ?_) | with_reducible apply Block.hbBusOff_hi K | with_reducible refine ite_keep ?_ ?_ | dsimp only)

theorem Block.canErrState_hi (K : KeptHigh Q) (b : Block) (p tec recv : Nat) (hb : Q b.regs) : Q (Block.canErrState b p tec recv).regs := by
  unfold Block.canErrState
  repeat' (first | with_reducible assumption | with_reducible apply Block.canOff_hi K | with_reducible refine Block.fset_hi K _ _ _ (by first | decide | (simp only [F.CAN_ERR_STATE, Reg.CAN_ERR, Reg.SYS_STATE, canPage]; omega) | (split <;> (simp only [F.CAN_ERR_STATE, Reg.CAN_ERR, Reg.SYS_STATE, canPage]; omega))) ?_ | with_reducible refine Block.when_keep _ _ _ ?_ (fun _ => ?_) | with_reducible refine Block.raiseEvt_hi K _ _ _ (by first | decide | (simp only [canPage, ge_iff_le]; omega)) ?_ | with_reducible refine ite_keep ?_ ?_ | dsimp only | intro _)

theorem Block.canCounters_hi (K : KeptHigh Q) (b : Block) (p : Nat) (tec recv : Nat) (hb : Q b.regs) : Q (Block.canCounters b p tec recv).regs := by
  unfold Block.canCounters
  repeat' (first | with_reducible assumption | with_reducible apply Block.canCount_hi K | with_reducible apply Block.canWarn_hi K | with_reducible refine Block.when_keep _ _ _ ?_ (fun _ => ?_) | with_reducible apply Block.canErrState_hi K | dsimp only | intro _)

theorem Block.canReceived_hi (K : KeptHigh Q) (b : Block) (p : Nat) (hb : Q b.regs) : Q (Block.canReceived b p).regs := by
  unfold Block.canReceived
  repeat' (first | with_reducible assumption | with_reducible apply Block.canCounters_hi K | with_reducible apply Block.free_hi K | with_reducible refine ite_keep ?_ ?_ | split | dsimp only | with_reducible refine pair_keep (by with_reducible assumption) ?_ | with_reducible refine pair_keep' (by with_reducible assumption) ?_)

theorem Block.canNextFrame_hi (K : KeptHigh Q) (b : Block) (p k : Nat) (hb : Q b.regs) : Q (Block.canNextFrame b p k).regs := by
  unfold Block.canNextFrame
  repeat' (first | with_reducible assumption | with_reducible refine Block.fset_hi K _ _ _ (by first | decide | (simp only [F.CAN_TX_STAT_ATTEMPT, F.CAN_TX_STAT_PENDING, Reg.CAN_TX_STAT, Reg.SYS_STATE]; omega) | (split <;> (simp only [F.CAN_TX_STAT_ATTEMPT, F.CAN_TX_STAT_PENDING, Reg.CAN_TX_STAT, Reg.SYS_STATE]; omega))) ?_ | with_reducible apply Block.setCanPort_hi K | split | dsimp only | with_reducible refine pair_keep (by with_reducible assumption) ?_ | with_reducible refine pair_keep' (by with_reducible assumption) ?_ | intro _)

theorem Block.canAttemptEnd_hi (K : KeptHigh Q) (b : Block) (p : Nat) (e : CanEnd) (sofNs sofSec meas : Nat) (hb : Q b.regs) : Q (Block.canAttemptEnd b p e sofNs sofSec meas).regs := by
  unfold Block.canAttemptEnd
  repeat' (first | with_reducible assumption | with_reducible apply Block.canAttempt_hi K | with_reducible apply Block.canBus_hi K | with_reducible apply Block.canDiscard_hi K | with_reducible refine Block.when_keep _ _ _ ?_ (fun _ => ?_) | with_reducible refine Block.fset_hi K _ _ _ (by first | decide | (simp only [F.CAN_ERR_REC, F.CAN_TDC_MEAS, F.CAN_TX_STAT_ATTEMPT, F.CAN_TX_STAT_LAST, F.CAN_TX_STAT_SENT, Reg.CAN_ERR, Reg.CAN_TDC, Reg.CAN_TX_STAT, Reg.SYS_STATE, canPage]; omega) | (split <;> (simp only [F.CAN_ERR_REC, F.CAN_TDC_MEAS, F.CAN_TX_STAT_ATTEMPT, F.CAN_TX_STAT_LAST, F.CAN_TX_STAT_SENT, Reg.CAN_ERR, Reg.CAN_TDC, Reg.CAN_TX_STAT, Reg.SYS_STATE, canPage]; omega))) ?_ | with_reducible apply Block.canStore_hi K | with_reducible apply Block.send_hi K | with_reducible refine Block.incWrap_hi K _ _ (by first | decide | (simp only [F.CAN_ERR_REC, F.CAN_TDC_MEAS, F.CAN_TX_STAT_ATTEMPT, F.CAN_TX_STAT_LAST, F.CAN_TX_STAT_SENT, Reg.CAN_ERR, Reg.CAN_TDC, Reg.CAN_TX_STAT, Reg.SYS_STATE, canPage]; omega) | (split <;> (simp only [F.CAN_ERR_REC, F.CAN_TDC_MEAS, F.CAN_TX_STAT_ATTEMPT, F.CAN_TX_STAT_LAST, F.CAN_TX_STAT_SENT, Reg.CAN_ERR, Reg.CAN_TDC, Reg.CAN_TX_STAT, Reg.SYS_STATE, canPage]; omega))) ?_ | with_reducible refine Block.raiseEvt_hi K _ _ _ (by first | decide | (simp only [canPage, ge_iff_le]; omega)) ?_ | with_reducible apply Block.canNextFrame_hi K | with_reducible apply Block.canCounters_hi K | with_reducible apply Block.canStart_hi K | with_reducible apply Block.canReplaced_hi K | with_reducible apply Block.canDrop_hi K | with_reducible apply Block.setCanPort_hi K | with_reducible refine ite_keep ?_ ?_ | with_reducible apply id_keep | split | dsimp only | with_reducible refine pair_keep (by with_reducible assumption) ?_ | with_reducible refine pair_keep' (by with_reducible assumption) ?_ | intro _)

theorem Block.canRes_hi (K : KeptHigh Q) (b : Block) (p code : Nat) (hb : Q b.regs) : Q (Block.canRes b p code).regs := by
  unfold Block.canRes
  repeat' (first | with_reducible assumption | with_reducible refine Block.fset_hi K _ _ _ (by first | decide | (simp only [F.CAN_RES_CODE, Reg.CAN_RES, Reg.SYS_STATE]; omega) | (split <;> (simp only [F.CAN_RES_CODE, Reg.CAN_RES, Reg.SYS_STATE]; omega))) ?_ | dsimp only)

theorem Block.canRecover_hi (K : KeptHigh Q) (b : Block) (p v : Nat) (hb : Q b.regs) : Q (Block.canRecover b p v).regs := by
  unfold Block.canRecover
  repeat' (first | with_reducible assumption | with_reducible refine Block.fset_hi K _ _ _ (by first | decide | (simp only [F.CAN_ERR_STATE, Reg.CAN_ERR, Reg.SYS_STATE, canPage]; omega) | (split <;> (simp only [F.CAN_ERR_STATE, Reg.CAN_ERR, Reg.SYS_STATE, canPage]; omega))) ?_ | with_reducible apply Block.canRes_hi K | with_reducible refine Block.raiseEvt_hi K _ _ _ (by first | decide | (simp only [canPage, ge_iff_le]; omega)) ?_ | with_reducible refine ite_keep ?_ ?_ | dsimp only)

theorem Block.canTakeMode_hi (K : KeptHigh Q) (b : Block) (p : Nat) (hb : Q b.regs) : Q (Block.canTakeMode b p).regs := by
  unfold Block.canTakeMode
  repeat' (first | with_reducible assumption | with_reducible refine Block.when_keep _ _ _ ?_ (fun _ => ?_) | with_reducible apply Block.canDiscard_hi K | with_reducible apply Block.setCanPort_hi K | with_reducible refine Block.setRegN_hi K _ _ _ (by first | decide | (simp only [F.CAN_ERR_STATE, F.CAN_MODE_MODE, Reg.CAN_ERR, Reg.CAN_MODE, Reg.SYS_STATE]; omega) | (split <;> (simp only [F.CAN_ERR_STATE, F.CAN_MODE_MODE, Reg.CAN_ERR, Reg.CAN_MODE, Reg.SYS_STATE]; omega))) ?_ | with_reducible refine Block.fset_hi K _ _ _ (by first | decide | (simp only [F.CAN_ERR_STATE, F.CAN_MODE_MODE, Reg.CAN_ERR, Reg.CAN_MODE, Reg.SYS_STATE]; omega) | (split <;> (simp only [F.CAN_ERR_STATE, F.CAN_MODE_MODE, Reg.CAN_ERR, Reg.CAN_MODE, Reg.SYS_STATE]; omega))) ?_ | with_reducible apply Block.canCounters_hi K | with_reducible refine ite_keep ?_ ?_ | dsimp only | intro _)

theorem Block.canClaimLost_hi (K : KeptHigh Q) (b : Block) (hb : Q b.regs) : Q (Block.canClaimLost b).regs := by
  unfold Block.canClaimLost
  repeat' (first | with_reducible assumption | with_reducible refine Block.forAll_keep _ _ _ ?_ (fun _ _ _ => ?_) | with_reducible refine Block.fset_hi K _ _ _ (by first | decide | (simp only [F.CAN_TX_STAT_PENDING, Reg.CAN_TX_STAT, Reg.SYS_STATE]; omega) | (split <;> (simp only [F.CAN_TX_STAT_PENDING, Reg.CAN_TX_STAT, Reg.SYS_STATE]; omega))) ?_ | with_reducible apply Block.setCanPort_hi K | dsimp only | intro _)

theorem Block.canSilence_hi (K : KeptHigh Q) (b : Block) (hb : Q b.regs) : Q (Block.canSilence b).regs := by
  unfold Block.canSilence
  repeat' (first | with_reducible assumption | with_reducible refine Block.forAll_keep _ _ _ ?_ (fun _ _ _ => ?_) | with_reducible apply Block.canDiscard_hi K | dsimp only | intro _)

theorem Block.canTakeUp_hi (K : KeptHigh Q) (b : Block) (cfg : List CanSlotCfg) (hb : Q b.regs) : Q (Block.canTakeUp b cfg).regs := by
  unfold Block.canTakeUp
  repeat' (first | with_reducible assumption | with_reducible refine Block.forAll_keep _ _ _ ?_ (fun _ _ _ => ?_) | with_reducible apply Block.canDiscard_hi K | with_reducible apply Block.setCanPort_hi K | with_reducible refine Block.fsetB_hi K _ _ _ (by first | decide | (simp only [F.CAN_TX_STAT_DEFINED, Reg.CAN_TX_STAT, Reg.SYS_STATE]; omega) | (split <;> (simp only [F.CAN_TX_STAT_DEFINED, Reg.CAN_TX_STAT, Reg.SYS_STATE]; omega))) ?_ | dsimp only | intro _)

theorem Block.setPat_hi (K : KeptHigh Q) (b : Block) (k : Nat) (p : Pat) (hb : Q b.regs) : Q (Block.setPat b k p).regs := by
  unfold Block.setPat
  repeat' (first | with_reducible assumption | dsimp only)

theorem Block.solOrphans_hi (K : KeptHigh Q) (b : Block) (logical : Nat) (hb : Q b.regs) : Q (Block.solOrphans b logical).regs := by
  unfold Block.solOrphans
  repeat' (first | with_reducible assumption | with_reducible refine Block.forAll_keep _ _ _ ?_ (fun _ _ _ => ?_) | dsimp only | intro _)

theorem Block.solStepTime_hi (K : KeptHigh Q) (b : Block) (d : Int) (hb : Q b.regs) : Q (Block.solStepTime b d).regs := by
  unfold Block.solStepTime
  repeat' (first | with_reducible assumption | split | dsimp only | with_reducible refine pair_keep (by with_reducible assumption) ?_ | with_reducible refine pair_keep' (by with_reducible assumption) ?_ | intro _)

theorem Block.setCx_hi (K : KeptHigh Q) (b : Block) (c : Nat) (x : Cx) (hb : Q b.regs) : Q (Block.setCx b c x).regs := by
  unfold Block.setCx
  repeat' (first | with_reducible assumption | dsimp only)

theorem Block.modCx_hi (K : KeptHigh Q) (b : Block) (c : Nat) (f : Cx → Cx) (hb : Q b.regs) : Q (Block.modCx b c f).regs := by
  unfold Block.modCx
  repeat' (first | with_reducible assumption | with_reducible apply Block.setCx_hi K | dsimp only)

theorem Block.elMod_hi (K : KeptHigh Q) (b : Block) (src : Nat) (f : OutEl → OutEl) (hb : Q b.regs) : Q (Block.elMod b src f).regs := by
  unfold Block.elMod
  repeat' (first | with_reducible assumption | with_reducible apply Block.modChan_hi K | with_reducible apply Block.chRefresh_hi K | with_reducible apply Block.modOut_hi K | with_reducible refine ite_keep ?_ ?_ | dsimp only | intro _)

theorem Block.commitOutputs_hi (K : KeptHigh Q) (b : Block) (c : Nat) (hb : Q b.regs) : Q (Block.commitOutputs b c).regs := by
  unfold Block.commitOutputs
  repeat' (first | with_reducible assumption | with_reducible apply Block.setCx_hi K | with_reducible refine Block.forAll_keep _ _ _ ?_ (fun _ _ _ => ?_) | with_reducible apply Block.elMod_hi K | with_reducible refine ite_keep ?_ ?_ | dsimp only | intro _)

theorem Block.substituteOutputs_hi (K : KeptHigh Q) (b : Block) (c : Nat) (hb : Q b.regs) : Q (Block.substituteOutputs b c).regs := by
  unfold Block.substituteOutputs
  repeat' (first | with_reducible assumption | with_reducible refine Block.forAll_keep _ _ _ ?_ (fun _ _ _ => ?_) | with_reducible apply Block.elMod_hi K | with_reducible refine ite_keep ?_ ?_ | dsimp only | intro _)

theorem Block.uncommitOutputs_hi (K : KeptHigh Q) (b : Block) (c : Nat) (hb : Q b.regs) : Q (Block.uncommitOutputs b c).regs := by
  unfold Block.uncommitOutputs
  repeat' (first | with_reducible assumption | with_reducible apply Block.modCx_hi K | with_reducible refine Block.forAll_keep _ _ _ ?_ (fun _ _ _ => ?_) | with_reducible apply Block.elMod_hi K | dsimp only | intro _)

theorem Block.forceStopped_hi (K : KeptHigh Q) (b : Block) (vid : Nat) (hb : Q b.regs) : Q (Block.forceStopped b vid).regs := by
  unfold Block.forceStopped
  repeat' (first | with_reducible assumption | with_reducible refine Block.forAll_keep _ _ _ ?_ (fun _ _ _ => ?_) | with_reducible refine Block.when_keep _ _ _ ?_ (fun _ => ?_) | with_reducible apply Block.elMod_hi K | dsimp only | intro _)

theorem Block.releaseOutput_hi (K : KeptHigh Q) (b : Block) (f : FrcEntry) (hb : Q b.regs) : Q (Block.releaseOutput b f).regs := by
  unfold Block.releaseOutput
  repeat' (first | with_reducible assumption | with_reducible apply Block.elMod_hi K | with_reducible refine Block.forAll_keep _ _ _ ?_ (fun _ _ _ => ?_) | with_reducible refine Block.when_keep _ _ _ ?_ (fun _ => ?_) | split | dsimp only | with_reducible refine pair_keep (by with_reducible assumption) ?_ | with_reducible refine pair_keep' (by with_reducible assumption) ?_ | intro _)

theorem Block.releaseGlobal_hi (K : KeptHigh Q) (b : Block) (f : FrcEntry) (hb : Q b.regs) : Q (Block.releaseGlobal b f).regs := by
  unfold Block.releaseGlobal
  repeat' (first | with_reducible assumption | with_reducible apply Block.modCx_hi K | split | dsimp only | with_reducible refine pair_keep (by with_reducible assumption) ?_ | with_reducible refine pair_keep' (by with_reducible assumption) ?_ | intro _)

theorem Block.frcRecord_hi (K : KeptHigh Q) (b : Block) (evt : Nat) (e : FrcEntry) (old session : Nat) (hb : Q b.regs) : Q (Block.frcRecord b evt e old session).regs := by
  unfold Block.frcRecord
  repeat' (first | with_reducible assumption | with_reducible apply Block.recBlk_hi K | with_reducible refine ite_keep ?_ ?_ | dsimp only | intro _)

theorem Block.modEng_hi (K : KeptHigh Q) (b : Block) (n : Nat) (f : EngState → EngState) (hb : Q b.regs) : Q (Block.modEng b n f).regs := by
  unfold Block.modEng
  repeat' (first | with_reducible assumption | dsimp only)

theorem Block.prpSend_hi (K : KeptHigh Q) (b : Block) (kind : String) (ws : List Nat) (hb : Q b.regs) : Q (Block.prpSend b kind ws).regs := by
  unfold Block.prpSend
  repeat' (first | with_reducible assumption | with_reducible refine Block.when_keep _ _ _ ?_ (fun _ => ?_) | with_reducible apply Block.send_hi K | dsimp only | intro _)

theorem Block.lanSilent_hi (K : KeptHigh Q) (b : Block) (portB : Bool) (hb : Q b.regs) : Q (Block.lanSilent b portB).regs := by
  unfold Block.lanSilent
  repeat' (first | with_reducible assumption | with_reducible apply Block.recRegs_hi K | with_reducible refine ite_keep ?_ ?_ | dsimp only)

theorem Block.prpExpire_hi (K : KeptHigh Q) (b : Block) (hb : Q b.regs) : Q (Block.prpExpire b).regs := by
  unfold Block.prpExpire
  repeat' (first | with_reducible assumption | with_reducible refine Block.addSat_hi K _ _ _ (by first | decide | (simp only [F.PRP_MISS_A_COUNT, F.PRP_MISS_B_COUNT, Reg.PRP_MISS_A, Reg.PRP_MISS_B, Reg.SYS_STATE]; omega) | (split <;> (simp only [F.PRP_MISS_A_COUNT, F.PRP_MISS_B_COUNT, Reg.PRP_MISS_A, Reg.PRP_MISS_B, Reg.SYS_STATE]; omega))) ?_ | with_reducible refine Block.when_keep _ _ _ ?_ (fun _ => ?_) | with_reducible apply Block.lanSilent_hi K | dsimp only | intro _)

theorem Block.ipTake_hi (K : KeptHigh Q) (b : Block) (hb : Q b.regs) : Q (Block.ipTake b).regs := by
  unfold Block.ipTake
  repeat' (first | with_reducible assumption | dsimp only)

theorem Block.ipSend_hi (K : KeptHigh Q) (b : Block) (kind : String) (dst : Nat) (ws : List Nat) (hb : Q b.regs) : Q (Block.ipSend b kind dst ws).regs := by
  unfold Block.ipSend
  repeat' (first | with_reducible assumption | with_reducible apply Block.prpSend_hi K | with_reducible refine ite_keep ?_ ?_ | dsimp only)

theorem Block.sspSend_hi (K : KeptHigh Q) (b : Block) (peer : Nat) (l : List Nat) (hb : Q b.regs) : Q (Block.sspSend b peer l).regs := by
  unfold Block.sspSend
  repeat' (first | with_reducible assumption | with_reducible apply Block.ipSend_hi K | dsimp only)

theorem Block.putSession_hi (K : KeptHigh Q) (b : Block) (s : Session) (hb : Q b.regs) : Q (Block.putSession b s).regs := by
  unfold Block.putSession
  repeat' (first | with_reducible assumption | with_reducible refine ite_keep ?_ ?_ | dsimp only | intro _)

theorem Block.sessShow_hi (K : KeptHigh Q) (b : Block) (hb : Q b.regs) : Q (Block.sessShow b).regs := by
  unfold Block.sessShow
  repeat' (first | with_reducible assumption | with_reducible refine Block.setRegN_hi K _ _ _ (by first | decide | (simp only [Reg.NET_SESS_INFO, Reg.NET_SESS_MAP, Reg.NET_SESS_PEER, Reg.SYS_STATE]; omega) | (split <;> (simp only [Reg.NET_SESS_INFO, Reg.NET_SESS_MAP, Reg.NET_SESS_PEER, Reg.SYS_STATE]; omega))) ?_ | with_reducible refine Block.forAll_keep _ _ _ ?_ (fun _ _ _ => ?_) | split | dsimp only | with_reducible refine pair_keep (by with_reducible assumption) ?_ | with_reducible refine pair_keep' (by with_reducible assumption) ?_ | intro _)

theorem Block.pubSend_hi (K : KeptHigh Q) (b : Block) (n : Nat) (payload : List Nat) (hb : Q b.regs) : Q (Block.pubSend b n payload).regs := by
  unfold Block.pubSend
  repeat' (first | with_reducible assumption | with_reducible apply Block.putSession_hi K | with_reducible apply Block.sspSend_hi K | split | dsimp only | with_reducible refine pair_keep (by with_reducible assumption) ?_ | with_reducible refine pair_keep' (by with_reducible assumption) ?_)

theorem Block.subsFollow_hi (K : KeptHigh Q) (b : Block) (hb : Q b.regs) : Q (Block.subsFollow b).regs := by
  unfold Block.subsFollow
  repeat' (first | with_reducible assumption | with_reducible refine Block.forAll_keep _ _ _ ?_ (fun _ _ _ => ?_) | with_reducible apply Block.putSession_hi K | with_reducible apply Block.free_hi K | with_reducible apply Block.pubSend_hi K | with_reducible refine ite_keep ?_ ?_ | split | dsimp only | with_reducible refine pair_keep (by with_reducible assumption) ?_ | with_reducible refine pair_keep' (by with_reducible assumption) ?_ | intro _)

theorem Block.lateLatch_hi (K : KeptHigh Q) (b : Block) (c : Nat) (hb : Q b.regs) : Q (Block.lateLatch b c).regs := by
  unfold Block.lateLatch
  repeat' (first | with_reducible assumption | with_reducible refine Block.when_keep _ _ _ ?_ (fun _ => ?_) | with_reducible refine Block.incSat_hi K _ _ (by first | decide | (simp only [F.LNK_LATE_CNT_COUNT, Reg.LNK_LATE_CNT, Reg.SYS_STATE]; omega) | (split <;> (simp only [F.LNK_LATE_CNT_COUNT, Reg.LNK_LATE_CNT, Reg.SYS_STATE]; omega))) ?_ | dsimp only | intro _)

theorem Block.sendLatch_hi (K : KeptHigh Q) (b : Block) (c : Nat) (hb : Q b.regs) : Q (Block.sendLatch b c).regs := by
  unfold Block.sendLatch
  repeat' (first | with_reducible assumption | with_reducible apply Block.toPartner_hi K | dsimp only)

theorem Block.latchCx_hi (K : KeptHigh Q) (b : Block) (c : Nat) (hb : Q b.regs) : Q (Block.latchCx b c).regs := by
  unfold Block.latchCx
  repeat' (first | with_reducible assumption | with_reducible apply Block.modCx_hi K | with_reducible apply Block.lateLatch_hi K | with_reducible apply Block.sendLatch_hi K | with_reducible refine ite_keep ?_ ?_ | dsimp only | intro _)

theorem Block.chargeCycle_hi (K : KeptHigh Q) (b : Block) (c : Nat) (hb : Q b.regs) : Q (Block.chargeCycle b c).regs := by
  unfold Block.chargeCycle
  repeat' (first | with_reducible assumption | with_reducible apply Block.modEng_hi K | with_reducible apply Block.modCx_hi K | dsimp only | intro _)

theorem Block.preempt_hi (K : KeptHigh Q) (b : Block) (n : Nat) (hb : Q b.regs) : Q (Block.preempt b n).regs := by
  unfold Block.preempt
  repeat' (first | with_reducible assumption | with_reducible apply Block.modCx_hi K | split | dsimp only | with_reducible refine pair_keep (by with_reducible assumption) ?_ | with_reducible refine pair_keep' (by with_reducible assumption) ?_ | intro _)

theorem Block.copyStart_hi (K : KeptHigh Q) (b : Block) (c : Nat) (hb : Q b.regs) : Q (Block.copyStart b c).regs := by
  unfold Block.copyStart
  repeat' (first | with_reducible assumption | with_reducible apply Block.modCx_hi K | with_reducible refine ite_keep ?_ ?_ | split | dsimp only | with_reducible refine pair_keep (by with_reducible assumption) ?_ | with_reducible refine pair_keep' (by with_reducible assumption) ?_ | intro _)

theorem Block.copyWaiting_hi (K : KeptHigh Q) (b : Block) (hb : Q b.regs) : Q (Block.copyWaiting b).regs := by
  unfold Block.copyWaiting
  repeat' (first | with_reducible assumption | with_reducible refine Block.forAll_keep _ _ _ ?_ (fun _ _ _ => ?_) | with_reducible apply Block.copyStart_hi K | dsimp only)

theorem Block.handOver_hi (K : KeptHigh Q) (b : Block) (c : Nat) (hb : Q b.regs) : Q (Block.handOver b c).regs := by
  unfold Block.handOver
  repeat' (first | with_reducible assumption | with_reducible apply Block.modCx_hi K | with_reducible apply Block.copyStart_hi K | with_reducible refine ite_keep ?_ ?_ | dsimp only | intro _)

theorem Block.nextTarget_hi (K : KeptHigh Q) (b : Block) (c : Nat) (hb : Q b.regs) : Q (Block.nextTarget b c).regs := by
  unfold Block.nextTarget
  repeat' (first | with_reducible assumption | with_reducible apply Block.modCx_hi K | dsimp only | intro _)

theorem Block.takeTrigger_hi (K : KeptHigh Q) (b : Block) (c : Nat) (hb : Q b.regs) : Q (Block.takeTrigger b c).regs := by
  unfold Block.takeTrigger
  repeat' (first | with_reducible assumption | with_reducible apply Block.modCx_hi K | with_reducible apply Block.latchCx_hi K | dsimp only | intro _)

theorem Block.roundDue_hi (K : KeptHigh Q) (b : Block) (hb : Q b.regs) : Q (Block.roundDue b).regs := by
  unfold Block.roundDue
  repeat' (first | with_reducible assumption | dsimp only)

theorem Block.delayOthers_hi (K : KeptHigh Q) (b : Block) (c : Nat) (hb : Q b.regs) : Q (Block.delayOthers b c).regs := by
  unfold Block.delayOthers
  repeat' (first | with_reducible assumption | with_reducible refine Block.forAll_keep _ _ _ ?_ (fun _ _ _ => ?_) | with_reducible apply Block.modCx_hi K | dsimp only | intro _)

theorem Block.applyMirror_hi (K : KeptHigh Q) (b : Block) (c : Nat) (hb : Q b.regs) : Q (Block.applyMirror b c).regs := by
  unfold Block.applyMirror
  repeat' (first | with_reducible assumption | with_reducible apply Block.setCx_hi K | with_reducible refine Block.addSat_hi K _ _ _ (by first | decide | (simp only [F.RED_DIVERGE_CNT_COUNT, Reg.RED_DIVERGE_CNT, Reg.SYS_STATE]; omega) | (split <;> (simp only [F.RED_DIVERGE_CNT_COUNT, Reg.RED_DIVERGE_CNT, Reg.SYS_STATE]; omega))) ?_ | with_reducible refine Block.raiseEvt_hi K _ _ _ (by first | decide | (simp only [ge_iff_le]; omega)) ?_ | with_reducible refine ite_keep ?_ ?_ | dsimp only | intro _)

theorem Block.publish_hi (K : KeptHigh Q) (b : Block) (c : Nat) (hb : Q b.regs) : Q (Block.publish b c).regs := by
  unfold Block.publish
  repeat' (first | with_reducible assumption | with_reducible refine Block.forAll_keep _ _ _ ?_ (fun _ _ _ => ?_) | split | dsimp only | with_reducible refine pair_keep (by with_reducible assumption) ?_ | with_reducible refine pair_keep' (by with_reducible assumption) ?_ | intro _)

theorem Block.islRecord_hi (K : KeptHigh Q) (b : Block) (evt : Nat) (hb : Q b.regs) : Q (Block.islRecord b evt).regs := by
  unfold Block.islRecord
  repeat' (first | with_reducible assumption | with_reducible apply Block.timed_hi K | with_reducible apply Block.recIsland_hi K | dsimp only)

theorem Block.islShow_hi (K : KeptHigh Q) (b : Block) (hb : Q b.regs) : Q (Block.islShow b).regs := by
  unfold Block.islShow
  repeat' (first | with_reducible assumption | with_reducible refine Block.islMap_hi K _ _ _ (by decide) ?_ | with_reducible refine Block.forAll_keep _ _ _ ?_ (fun _ _ _ => ?_) | with_reducible refine Block.fsetB_hi K _ _ _ (by first | decide | (simp only [F.CH_STAT_TRIPPED, Reg.CH_STAT, Reg.SAF_HOLD_LO, Reg.SAF_OUT_LO, Reg.SAF_OWN_LO, Reg.SYS_STATE]; omega) | (split <;> (simp only [F.CH_STAT_TRIPPED, Reg.CH_STAT, Reg.SAF_HOLD_LO, Reg.SAF_OUT_LO, Reg.SAF_OWN_LO, Reg.SYS_STATE]; omega))) ?_ | with_reducible apply Block.chRefresh_hi K | dsimp only | intro _)

theorem Block.islEnter_hi (K : KeptHigh Q) (b : Block) (st evt : Nat) (hb : Q b.regs) : Q (Block.islEnter b st evt).regs := by
  unfold Block.islEnter
  repeat' (first | with_reducible assumption | with_reducible refine Block.fset_hi K _ _ _ (by first | decide | (simp only [F.SAF_STATE_STATE, Reg.SAF_STATE, Reg.SYS_STATE]; omega) | (split <;> (simp only [F.SAF_STATE_STATE, Reg.SAF_STATE, Reg.SYS_STATE]; omega))) ?_ | with_reducible refine Block.raiseEvt_hi K _ _ _ (by first | decide | (simp only [ge_iff_le]; omega)) ?_ | with_reducible apply Block.islShow_hi K | dsimp only)

theorem Block.islResult_hi (K : KeptHigh Q) (b : Block) (source code : Nat) (hb : Q b.regs) : Q (Block.islResult b source code).regs := by
  unfold Block.islResult
  repeat' (first | with_reducible assumption | with_reducible refine Block.fset_hi K _ _ _ (by first | decide | (simp only [F.SAF_RESET_RES_CODE, F.SAF_RESET_RES_SOURCE, Reg.SAF_RESET_RES, Reg.SYS_STATE]; omega) | (split <;> (simp only [F.SAF_RESET_RES_CODE, F.SAF_RESET_RES_SOURCE, Reg.SAF_RESET_RES, Reg.SYS_STATE]; omega))) ?_ | with_reducible refine Block.raiseEvt_hi K _ _ _ (by first | decide | (simp only [ge_iff_le]; omega)) ?_ | with_reducible refine ite_keep ?_ ?_ | dsimp only)

theorem Block.resetRefused_hi (K : KeptHigh Q) (b : Block) (code : Nat) (hb : Q b.regs) : Q (Block.resetRefused b code).regs := by
  unfold Block.resetRefused
  repeat' (first | with_reducible assumption | with_reducible apply Block.islResult_hi K | dsimp only)

theorem Block.showCause_hi (K : KeptHigh Q) (b : Block) (cause : Nat) (ch : Option Nat) (hb : Q b.regs) : Q (Block.showCause b cause ch).regs := by
  unfold Block.showCause
  repeat' (first | with_reducible assumption | with_reducible refine Block.fset_hi K _ _ _ (by first | decide | (simp only [F.SAF_STATE_CAUSE, F.SAF_STATE_CAUSE_CH, F.SAF_STATE_CH_VALID, Reg.SAF_STATE, Reg.SYS_STATE]; omega) | (split <;> (simp only [F.SAF_STATE_CAUSE, F.SAF_STATE_CAUSE_CH, F.SAF_STATE_CH_VALID, Reg.SAF_STATE, Reg.SYS_STATE]; omega))) ?_ | with_reducible refine Block.fsetB_hi K _ _ _ (by first | decide | (simp only [F.SAF_STATE_CAUSE, F.SAF_STATE_CAUSE_CH, F.SAF_STATE_CH_VALID, Reg.SAF_STATE, Reg.SYS_STATE]; omega) | (split <;> (simp only [F.SAF_STATE_CAUSE, F.SAF_STATE_CAUSE_CH, F.SAF_STATE_CH_VALID, Reg.SAF_STATE, Reg.SYS_STATE]; omega))) ?_ | dsimp only)

theorem Block.coreDown_hi (K : KeptHigh Q) (b : Block) (cause : Nat) (hb : Q b.regs) : Q (Block.coreDown b cause).regs := by
  unfold Block.coreDown
  repeat' (first | with_reducible assumption | with_reducible refine Block.when_keep _ _ _ ?_ (fun _ => ?_) | with_reducible refine Block.fset_hi K _ _ _ (by first | decide | (simp only [F.SAF_CLOCK_OSC_OK, F.SAF_STATE_SX_OK, F.SAF_STATE_SY_OK, Reg.SAF_CLOCK, Reg.SAF_STATE, Reg.SYS_STATE]; omega) | (split <;> (simp only [F.SAF_CLOCK_OSC_OK, F.SAF_STATE_SX_OK, F.SAF_STATE_SY_OK, Reg.SAF_CLOCK, Reg.SAF_STATE, Reg.SYS_STATE]; omega))) ?_ | dsimp only | intro _)

theorem Block.causeSeen_hi (K : KeptHigh Q) (b : Block) (cause : Nat) (ch : Option Nat) (hb : Q b.regs) : Q (Block.causeSeen b cause ch).regs := by
  unfold Block.causeSeen
  repeat' (first | with_reducible assumption | with_reducible refine Block.fset_hi K _ _ _ (by first | decide | (simp only [Reg.SAF_CAUSES, Reg.SAF_CHFLT_LO, Reg.SAF_CLEARED, Reg.SYS_STATE]; omega) | (split <;> (simp only [Reg.SAF_CAUSES, Reg.SAF_CHFLT_LO, Reg.SAF_CLEARED, Reg.SYS_STATE]; omega))) ?_ | with_reducible refine Block.fsetB_hi K _ _ _ (by first | decide | (simp only [Reg.SAF_CAUSES, Reg.SAF_CHFLT_LO, Reg.SAF_CLEARED, Reg.SYS_STATE]; omega) | (split <;> (simp only [Reg.SAF_CAUSES, Reg.SAF_CHFLT_LO, Reg.SAF_CLEARED, Reg.SYS_STATE]; omega))) ?_ | with_reducible refine Block.chMap_hi K _ _ _ _ (by decide) ?_ | split | dsimp only | with_reducible refine pair_keep (by with_reducible assumption) ?_ | with_reducible refine pair_keep' (by with_reducible assumption) ?_)

theorem Block.lockout_hi (K : KeptHigh Q) (b : Block) (cause : Nat) (ch : Option Nat) (hb : Q b.regs) : Q (Block.lockout b cause ch).regs := by
  unfold Block.lockout
  repeat' (first | with_reducible assumption | with_reducible apply Block.causeSeen_hi K | with_reducible apply Block.coreDown_hi K | with_reducible refine Block.when_keep _ _ _ ?_ (fun _ => ?_) | with_reducible apply Block.showCause_hi K | with_reducible refine Block.fset_hi K _ _ _ (by first | decide | (simp only [F.SAF_LOCK_CNT_COUNT, F.SAF_NONCE_NONCE, F.SAF_STATE_CAUSE, F.SAF_TEST_RESULT, Reg.SAF_LOCK_CNT, Reg.SAF_LOCK_TIME_HI, Reg.SAF_LOCK_TIME_LO, Reg.SAF_NONCE, Reg.SAF_STATE, Reg.SAF_TEST, Reg.SYS_STATE]; omega) | (split <;> (simp only [F.SAF_LOCK_CNT_COUNT, F.SAF_NONCE_NONCE, F.SAF_STATE_CAUSE, F.SAF_TEST_RESULT, Reg.SAF_LOCK_CNT, Reg.SAF_LOCK_TIME_HI, Reg.SAF_LOCK_TIME_LO, Reg.SAF_NONCE, Reg.SAF_STATE, Reg.SAF_TEST, Reg.SYS_STATE]; omega))) ?_ | with_reducible apply Block.resetRefused_hi K | with_reducible refine Block.stamp_hi K _ _ _ (by first | decide | (simp only [F.SAF_LOCK_CNT_COUNT, F.SAF_NONCE_NONCE, F.SAF_STATE_CAUSE, F.SAF_TEST_RESULT, Reg.SAF_LOCK_CNT, Reg.SAF_LOCK_TIME_HI, Reg.SAF_LOCK_TIME_LO, Reg.SAF_NONCE, Reg.SAF_STATE, Reg.SAF_TEST, Reg.SYS_STATE]; omega) | (split <;> (simp only [F.SAF_LOCK_CNT_COUNT, F.SAF_NONCE_NONCE, F.SAF_STATE_CAUSE, F.SAF_TEST_RESULT, Reg.SAF_LOCK_CNT, Reg.SAF_LOCK_TIME_HI, Reg.SAF_LOCK_TIME_LO, Reg.SAF_NONCE, Reg.SAF_STATE, Reg.SAF_TEST, Reg.SYS_STATE]; omega))) (by first | decide | (simp only [F.SAF_LOCK_CNT_COUNT, F.SAF_NONCE_NONCE, F.SAF_STATE_CAUSE, F.SAF_TEST_RESULT, Reg.SAF_LOCK_CNT, Reg.SAF_LOCK_TIME_HI, Reg.SAF_LOCK_TIME_LO, Reg.SAF_NONCE, Reg.SAF_STATE, Reg.SAF_TEST, Reg.SYS_STATE]; omega) | (split <;> (simp only [F.SAF_LOCK_CNT_COUNT, F.SAF_NONCE_NONCE, F.SAF_STATE_CAUSE, F.SAF_TEST_RESULT, Reg.SAF_LOCK_CNT, Reg.SAF_LOCK_TIME_HI, Reg.SAF_LOCK_TIME_LO, Reg.SAF_NONCE, Reg.SAF_STATE, Reg.SAF_TEST, Reg.SYS_STATE]; omega))) ?_ | with_reducible refine Block.incSat_hi K _ _ (by first | decide | (simp only [F.SAF_LOCK_CNT_COUNT, F.SAF_NONCE_NONCE, F.SAF_STATE_CAUSE, F.SAF_TEST_RESULT, Reg.SAF_LOCK_CNT, Reg.SAF_LOCK_TIME_HI, Reg.SAF_LOCK_TIME_LO, Reg.SAF_NONCE, Reg.SAF_STATE, Reg.SAF_TEST, Reg.SYS_STATE]; omega) | (split <;> (simp only [F.SAF_LOCK_CNT_COUNT, F.SAF_NONCE_NONCE, F.SAF_STATE_CAUSE, F.SAF_TEST_RESULT, Reg.SAF_LOCK_CNT, Reg.SAF_LOCK_TIME_HI, Reg.SAF_LOCK_TIME_LO, Reg.SAF_NONCE, Reg.SAF_STATE, Reg.SAF_TEST, Reg.SYS_STATE]; omega))) ?_ | with_reducible refine Block.incWrap_hi K _ _ (by first | decide | (simp only [F.SAF_LOCK_CNT_COUNT, F.SAF_NONCE_NONCE, F.SAF_STATE_CAUSE, F.SAF_TEST_RESULT, Reg.SAF_LOCK_CNT, Reg.SAF_LOCK_TIME_HI, Reg.SAF_LOCK_TIME_LO, Reg.SAF_NONCE, Reg.SAF_STATE, Reg.SAF_TEST, Reg.SYS_STATE]; omega) | (split <;> (simp only [F.SAF_LOCK_CNT_COUNT, F.SAF_NONCE_NONCE, F.SAF_STATE_CAUSE, F.SAF_TEST_RESULT, Reg.SAF_LOCK_CNT, Reg.SAF_LOCK_TIME_HI, Reg.SAF_LOCK_TIME_LO, Reg.SAF_NONCE, Reg.SAF_STATE, Reg.SAF_TEST, Reg.SYS_STATE]; omega))) ?_ | with_reducible apply Block.islEnter_hi K | with_reducible apply Block.celRequest_hi K | with_reducible apply Block.islRecord_hi K | with_reducible refine ite_keep ?_ ?_ | dsimp only | intro _)

theorem Block.holdBegin_hi (K : KeptHigh Q) (b : Block) (n : Nat) (hb : Q b.regs) : Q (Block.holdBegin b n).regs := by
  unfold Block.holdBegin
  repeat' (first | with_reducible assumption | with_reducible refine Block.fset_hi K _ _ _ (by first | decide | (simp only [F.CH_STAT_COMPLIANCE, F.CH_STAT_OVERLOAD, Reg.CH_STAT, Reg.SYS_STATE]; omega) | (split <;> (simp only [F.CH_STAT_COMPLIANCE, F.CH_STAT_OVERLOAD, Reg.CH_STAT, Reg.SYS_STATE]; omega))) ?_ | with_reducible apply Block.islShow_hi K | with_reducible refine Block.raiseEvt_hi K _ _ _ (by first | decide | (simp only [ge_iff_le]; omega)) ?_ | with_reducible refine ite_keep ?_ ?_ | dsimp only)

theorem Block.holdStep_hi (K : KeptHigh Q) (b : Block) (e : Nat × (Bool × Bool)) (hb : Q b.regs) : Q (Block.holdStep b e).regs := by
  unfold Block.holdStep
  repeat' (first | with_reducible assumption | with_reducible refine Block.when_keep _ _ _ ?_ (fun _ => ?_) | with_reducible refine Block.fset_hi K _ _ _ (by first | decide | (simp only [F.CH_STAT_OVERLOAD, Reg.CH_STAT, Reg.SYS_STATE]; omega) | (split <;> (simp only [F.CH_STAT_OVERLOAD, Reg.CH_STAT, Reg.SYS_STATE]; omega))) ?_ | with_reducible refine ite_keep ?_ ?_ | dsimp only | intro _)

theorem Block.cycleBegun_hi (K : KeptHigh Q) (b : Block) (hb : Q b.regs) : Q (Block.cycleBegun b).regs := by
  unfold Block.cycleBegun
  repeat' (first | with_reducible assumption | dsimp only)

theorem Block.islStart_hi (K : KeptHigh Q) (b : Block) (hb : Q b.regs) : Q (Block.islStart b).regs := by
  unfold Block.islStart
  repeat' (first | with_reducible assumption | with_reducible refine Block.fset_hi K _ _ _ (by first | decide | (simp only [F.SAF_CYCLE_CYC_MAX, F.SAF_CYC_CNT_COUNT, Reg.SAF_CYCLE, Reg.SAF_CYC_CNT, Reg.SYS_STATE]; omega) | (split <;> (simp only [F.SAF_CYCLE_CYC_MAX, F.SAF_CYC_CNT_COUNT, Reg.SAF_CYCLE, Reg.SAF_CYC_CNT, Reg.SYS_STATE]; omega))) ?_ | with_reducible apply Block.islEnter_hi K | dsimp only | intro _)

theorem Block.islDiagnose_hi (K : KeptHigh Q) (b : Block) (ins : List SafIn) (cleared : Nat) (hb : Q b.regs) : Q (Block.islDiagnose b ins cleared).regs := by
  unfold Block.islDiagnose
  repeat' (first | with_reducible assumption | with_reducible refine Block.islMap_hi K _ _ _ (by decide) ?_ | with_reducible refine Block.when_keep _ _ _ ?_ (fun _ => ?_) | with_reducible refine Block.fset_hi K _ _ _ (by first | decide | (simp only [F.SAF_CLOCK_OSC_OK, Reg.SAF_CAUSES, Reg.SAF_CHFLT_LO, Reg.SAF_CLEARED, Reg.SAF_CLOCK, Reg.SAF_IN_LO, Reg.SYS_STATE]; omega) | (split <;> (simp only [F.SAF_CLOCK_OSC_OK, Reg.SAF_CAUSES, Reg.SAF_CHFLT_LO, Reg.SAF_CLEARED, Reg.SAF_CLOCK, Reg.SAF_IN_LO, Reg.SYS_STATE]; omega))) ?_ | with_reducible refine Block.setRegN_hi K _ _ _ (by first | decide | (simp only [F.SAF_CLOCK_OSC_OK, Reg.SAF_CAUSES, Reg.SAF_CHFLT_LO, Reg.SAF_CLEARED, Reg.SAF_CLOCK, Reg.SAF_IN_LO, Reg.SYS_STATE]; omega) | (split <;> (simp only [F.SAF_CLOCK_OSC_OK, Reg.SAF_CAUSES, Reg.SAF_CHFLT_LO, Reg.SAF_CLEARED, Reg.SAF_CLOCK, Reg.SAF_IN_LO, Reg.SYS_STATE]; omega))) ?_ | dsimp only | intro _)

theorem Block.coresUp_hi (K : KeptHigh Q) (b : Block) (hb : Q b.regs) : Q (Block.coresUp b).regs := by
  unfold Block.coresUp
  repeat' (first | with_reducible assumption | with_reducible refine Block.fset_hi K _ _ _ (by first | decide | (simp only [F.SAF_STATE_SX_OK, F.SAF_STATE_SY_OK, Reg.SAF_STATE, Reg.SYS_STATE]; omega) | (split <;> (simp only [F.SAF_STATE_SX_OK, F.SAF_STATE_SY_OK, Reg.SAF_STATE, Reg.SYS_STATE]; omega))) ?_ | dsimp only)

theorem Block.islCycle_hi (K : KeptHigh Q) (b : Block) (ins : List SafIn) (c2us : Nat) (hb : Q b.regs) : Q (Block.islCycle b ins c2us).regs := by
  unfold Block.islCycle
  repeat' (first | with_reducible assumption | with_reducible refine Block.when_keep _ _ _ ?_ (fun _ => ?_) | with_reducible refine Block.raiseEvt_hi K _ _ _ (by first | decide | (simp only [ge_iff_le]; omega)) ?_ | with_reducible apply Block.lockout_hi K | with_reducible refine Block.incWrap_hi K _ _ (by first | decide | (simp only [F.CH_STAT_OVERLOAD, F.SAF_CYCLE_CYC_MAX, F.SAF_CYC_CNT_COUNT, Reg.CH_STAT, Reg.SAF_CYCLE, Reg.SAF_CYC_CNT, Reg.SAF_STATUS, Reg.SYS_STATE]; omega) | (split <;> (simp only [F.CH_STAT_OVERLOAD, F.SAF_CYCLE_CYC_MAX, F.SAF_CYC_CNT_COUNT, Reg.CH_STAT, Reg.SAF_CYCLE, Reg.SAF_CYC_CNT, Reg.SAF_STATUS, Reg.SYS_STATE]; omega))) ?_ | with_reducible apply Block.coresUp_hi K | with_reducible refine Block.fset_hi K _ _ _ (by first | decide | (simp only [F.CH_STAT_OVERLOAD, F.SAF_CYCLE_CYC_MAX, F.SAF_CYC_CNT_COUNT, Reg.CH_STAT, Reg.SAF_CYCLE, Reg.SAF_CYC_CNT, Reg.SAF_STATUS, Reg.SYS_STATE]; omega) | (split <;> (simp only [F.CH_STAT_OVERLOAD, F.SAF_CYCLE_CYC_MAX, F.SAF_CYC_CNT_COUNT, Reg.CH_STAT, Reg.SAF_CYCLE, Reg.SAF_CYC_CNT, Reg.SAF_STATUS, Reg.SYS_STATE]; omega))) ?_ | with_reducible refine Block.forAll_keep _ _ _ ?_ (fun _ _ _ => ?_) | with_reducible refine Block.setRegN_hi K _ _ _ (by first | decide | (simp only [F.CH_STAT_OVERLOAD, F.SAF_CYCLE_CYC_MAX, F.SAF_CYC_CNT_COUNT, Reg.CH_STAT, Reg.SAF_CYCLE, Reg.SAF_CYC_CNT, Reg.SAF_STATUS, Reg.SYS_STATE]; omega) | (split <;> (simp only [F.CH_STAT_OVERLOAD, F.SAF_CYCLE_CYC_MAX, F.SAF_CYC_CNT_COUNT, Reg.CH_STAT, Reg.SAF_CYCLE, Reg.SAF_CYC_CNT, Reg.SAF_STATUS, Reg.SYS_STATE]; omega))) ?_ | with_reducible apply Block.holdStep_hi K | with_reducible apply Block.islShow_hi K | with_reducible apply Block.holdBegin_hi K | with_reducible refine ite_keep ?_ ?_ | dsimp only | intro _)

theorem Block.resetRequest_hi (K : KeptHigh Q) (b : Block) (source : Nat) (hb : Q b.regs) : Q (Block.resetRequest b source).regs := by
  unfold Block.resetRequest
  repeat' (first | with_reducible assumption | with_reducible apply Block.islResult_hi K | with_reducible refine Block.fset_hi K _ _ _ (by first | decide | (simp only [F.SAF_TEST_RESULT, Reg.SAF_CAUSES, Reg.SAF_CLEARED, Reg.SAF_TEST, Reg.SYS_STATE]; omega) | (split <;> (simp only [F.SAF_TEST_RESULT, Reg.SAF_CAUSES, Reg.SAF_CLEARED, Reg.SAF_TEST, Reg.SYS_STATE]; omega))) ?_ | with_reducible refine ite_keep ?_ ?_ | dsimp only | intro _)

theorem Block.startCommand_hi (K : KeptHigh Q) (b : Block) (source : Nat) (hb : Q b.regs) : Q (Block.startCommand b source).regs := by
  unfold Block.startCommand
  repeat' (first | with_reducible assumption | with_reducible apply Block.islResult_hi K | with_reducible refine ite_keep ?_ ?_ | split | dsimp only | with_reducible refine pair_keep (by with_reducible assumption) ?_ | with_reducible refine pair_keep' (by with_reducible assumption) ?_)

theorem Block.signedCommand_hi (K : KeptHigh Q) (b : Block) (action serial nonce : Nat) (sig : List Word) (hb : Q b.regs) : Q (Block.signedCommand b action serial nonce sig).regs := by
  unfold Block.signedCommand
  repeat' (first | with_reducible assumption | with_reducible refine Block.incWrap_hi K _ _ (by first | decide | (simp only [F.SAF_NONCE_NONCE, Reg.SAF_NONCE, Reg.SYS_STATE]; omega) | (split <;> (simp only [F.SAF_NONCE_NONCE, Reg.SAF_NONCE, Reg.SYS_STATE]; omega))) ?_ | with_reducible apply Block.islResult_hi K | with_reducible apply Block.startCommand_hi K | with_reducible apply Block.resetRequest_hi K | with_reducible refine ite_keep ?_ ?_ | dsimp only)

theorem Block.islTakeUp_hi (K : KeptHigh Q) (b : Block) (hb : Q b.regs) : Q (Block.islTakeUp b).regs := by
  unfold Block.islTakeUp
  repeat' (first | with_reducible assumption | with_reducible apply Block.islEnter_hi K | with_reducible refine Block.forAll_keep _ _ _ ?_ (fun _ _ _ => ?_) | with_reducible apply Block.modChan_hi K | with_reducible refine Block.fset_hi K _ _ _ (by first | decide | (simp only [F.CH_DI_CFG_TP_SLOT, F.CH_MODE_MODE, F.CH_MODE_SP_USE, F.CH_STAT_TP_FAULT, F.CH_STAT_TRIPPED, F.SAF_CYCLE_TS, F.SAF_STATE_CFG_VALID, F.SAF_STATE_START_MODE, Reg.CH_DI_CFG, Reg.CH_MODE, Reg.CH_STAT, Reg.SAF_CFG_CRC, Reg.SAF_CYCLE, Reg.SAF_STATE, Reg.SYS_STATE]; omega) | (split <;> (simp only [F.CH_DI_CFG_TP_SLOT, F.CH_MODE_MODE, F.CH_MODE_SP_USE, F.CH_STAT_TP_FAULT, F.CH_STAT_TRIPPED, F.SAF_CYCLE_TS, F.SAF_STATE_CFG_VALID, F.SAF_STATE_START_MODE, Reg.CH_DI_CFG, Reg.CH_MODE, Reg.CH_STAT, Reg.SAF_CFG_CRC, Reg.SAF_CYCLE, Reg.SAF_STATE, Reg.SYS_STATE]; omega))) ?_ | with_reducible apply Block.chSetMode_hi K | with_reducible refine Block.when_keep _ _ _ ?_ (fun _ => ?_) | with_reducible refine Block.fsetB_hi K _ _ _ (by first | decide | (simp only [F.CH_DI_CFG_TP_SLOT, F.CH_MODE_MODE, F.CH_MODE_SP_USE, F.CH_STAT_TP_FAULT, F.CH_STAT_TRIPPED, F.SAF_CYCLE_TS, F.SAF_STATE_CFG_VALID, F.SAF_STATE_START_MODE, Reg.CH_DI_CFG, Reg.CH_MODE, Reg.CH_STAT, Reg.SAF_CFG_CRC, Reg.SAF_CYCLE, Reg.SAF_STATE, Reg.SYS_STATE]; omega) | (split <;> (simp only [F.CH_DI_CFG_TP_SLOT, F.CH_MODE_MODE, F.CH_MODE_SP_USE, F.CH_STAT_TP_FAULT, F.CH_STAT_TRIPPED, F.SAF_CYCLE_TS, F.SAF_STATE_CFG_VALID, F.SAF_STATE_START_MODE, Reg.CH_DI_CFG, Reg.CH_MODE, Reg.CH_STAT, Reg.SAF_CFG_CRC, Reg.SAF_CYCLE, Reg.SAF_STATE, Reg.SYS_STATE]; omega))) ?_ | with_reducible apply Block.chRefresh_hi K | with_reducible refine Block.setRegN_hi K _ _ _ (by first | decide | (simp only [F.CH_DI_CFG_TP_SLOT, F.CH_MODE_MODE, F.CH_MODE_SP_USE, F.CH_STAT_TP_FAULT, F.CH_STAT_TRIPPED, F.SAF_CYCLE_TS, F.SAF_STATE_CFG_VALID, F.SAF_STATE_START_MODE, Reg.CH_DI_CFG, Reg.CH_MODE, Reg.CH_STAT, Reg.SAF_CFG_CRC, Reg.SAF_CYCLE, Reg.SAF_STATE, Reg.SYS_STATE]; omega) | (split <;> (simp only [F.CH_DI_CFG_TP_SLOT, F.CH_MODE_MODE, F.CH_MODE_SP_USE, F.CH_STAT_TP_FAULT, F.CH_STAT_TRIPPED, F.SAF_CYCLE_TS, F.SAF_STATE_CFG_VALID, F.SAF_STATE_START_MODE, Reg.CH_DI_CFG, Reg.CH_MODE, Reg.CH_STAT, Reg.SAF_CFG_CRC, Reg.SAF_CYCLE, Reg.SAF_STATE, Reg.SYS_STATE]; omega))) ?_ | with_reducible apply Block.hartFollow_hi K | with_reducible apply Block.islShow_hi K | with_reducible refine ite_keep ?_ ?_ | split | dsimp only | with_reducible refine pair_keep (by with_reducible assumption) ?_ | with_reducible refine pair_keep' (by with_reducible assumption) ?_ | intro _)

theorem Block.aimCtx_hi (K : KeptHigh Q) (b : Block) (c : Nat) (hb : Q b.regs) : Q (Block.aimCtx b c).regs := by
  unfold Block.aimCtx
  repeat' (first | with_reducible assumption | with_reducible apply Block.modCx_hi K | split | dsimp only | with_reducible refine pair_keep (by with_reducible assumption) ?_ | with_reducible refine pair_keep' (by with_reducible assumption) ?_ | intro _)

theorem Block.slotFix_hi (K : KeptHigh Q) (b : Block) (hb : Q b.regs) : Q (Block.slotFix b).regs := by
  unfold Block.slotFix
  repeat' (first | with_reducible assumption | with_reducible refine Block.forAll_keep _ _ _ ?_ (fun _ _ _ => ?_) | with_reducible refine Block.fset_hi K _ _ _ (by first | decide | (simp only [F.CH_DI_CFG_TP_SLOT, Reg.CH_DI_CFG, Reg.SYS_STATE, chPage]; omega) | (split <;> (simp only [F.CH_DI_CFG_TP_SLOT, Reg.CH_DI_CFG, Reg.SYS_STATE, chPage]; omega))) ?_ | with_reducible apply Block.celRequest_hi K | with_reducible apply Block.recRegs_hi K | with_reducible refine ite_keep ?_ ?_ | dsimp only | intro _)

theorem Block.clearOutputs_hi (K : KeptHigh Q) (b : Block) (hb : Q b.regs) : Q (Block.clearOutputs b).regs := by
  unfold Block.clearOutputs
  repeat' (first | with_reducible assumption | with_reducible refine Block.forAll_keep _ _ _ ?_ (fun _ _ _ => ?_) | with_reducible apply Block.modOut_hi K | with_reducible apply Block.modChan_hi K | with_reducible apply Block.chRefreshAll_hi K | dsimp only | intro _)

theorem Block.showMirror_hi (K : KeptHigh Q) (b : Block) (hb : Q b.regs) : Q (Block.showMirror b).regs := by
  unfold Block.showMirror
  repeat' (first | with_reducible assumption | with_reducible refine Block.fset_hi K _ _ _ (by first | decide | (simp only [F.PAIR_RATE_MIRROR, Reg.PAIR_RATE, Reg.SYS_STATE]; omega) | (split <;> (simp only [F.PAIR_RATE_MIRROR, Reg.PAIR_RATE, Reg.SYS_STATE]; omega))) ?_ | dsimp only)

theorem Block.loadResult_hi (K : KeptHigh Q) (b : Block) (vintage buildId : Nat) (v : Verdict) (hb : Q b.regs) : Q (Block.loadResult b vintage buildId v).regs := by
  unfold Block.loadResult
  repeat' (first | with_reducible assumption | with_reducible apply Block.recRegs_hi K | dsimp only)

theorem Block.loadRecord_hi (K : KeptHigh Q) (b : Block) (p : Prog) (v : Verdict) (hb : Q b.regs) : Q (Block.loadRecord b p v).regs := by
  unfold Block.loadRecord
  repeat' (first | with_reducible assumption | with_reducible apply Block.loadResult_hi K | dsimp only)

theorem Block.storePattern_hi (K : KeptHigh Q) (b : Block) (w : List Nat) (hb : Q b.regs) : Q (Block.storePattern b w).regs := by
  unfold Block.storePattern
  repeat' (first | with_reducible assumption | dsimp only | intro _)

theorem Block.storeApp_hi (K : KeptHigh Q) (b : Block) (vintage : Nat) (w : List Nat) (hb : Q b.regs) : Q (Block.storeApp b vintage w).regs := by
  unfold Block.storeApp
  repeat' (first | with_reducible assumption | with_reducible refine Block.setRegN_hi K _ _ _ (by first | decide | (simp only [Reg.SYS_STATE, Reg.UPD_APP_ACT]; omega) | (split <;> (simp only [Reg.SYS_STATE, Reg.UPD_APP_ACT]; omega))) ?_ | dsimp only)

theorem Block.olcTell_hi (K : KeptHigh Q) (b : Block) (what : String) (ws : List Nat) (hb : Q b.regs) : Q (Block.olcTell b what ws).regs := by
  unfold Block.olcTell
  repeat' (first | with_reducible assumption | with_reducible refine Block.when_keep _ _ _ ?_ (fun _ => ?_) | with_reducible apply Block.send_hi K | dsimp only | intro _)

theorem Block.carryGlobals_hi (K : KeptHigh Q) (b : Block) (base p : Prog) (hb : Q b.regs) : Q (Block.carryGlobals b base p).regs := by
  unfold Block.carryGlobals
  repeat' (first | with_reducible assumption | with_reducible refine Block.forAll_keep _ _ _ ?_ (fun _ _ _ => ?_) | with_reducible apply Block.modCx_hi K | with_reducible refine ite_keep ?_ ?_ | split | dsimp only | with_reducible refine pair_keep (by with_reducible assumption) ?_ | with_reducible refine pair_keep' (by with_reducible assumption) ?_ | intro _)

theorem Block.switchOutputs_hi (K : KeptHigh Q) (b : Block) (base p : Prog) (hb : Q b.regs) : Q (Block.switchOutputs b base p).regs := by
  unfold Block.switchOutputs
  repeat' (first | with_reducible assumption | with_reducible refine Block.forAll_keep _ _ _ ?_ (fun _ _ _ => ?_) | with_reducible apply Block.elMod_hi K | dsimp only | intro _)

theorem Block.keepForced_hi (K : KeptHigh Q) (b : Block) (p : Prog) (e : FrcEntry) (hb : Q b.regs) : Q (Block.keepForced b p e).regs := by
  unfold Block.keepForced
  repeat' (first | with_reducible assumption | with_reducible refine Block.when_keep _ _ _ ?_ (fun _ => ?_) | with_reducible apply Block.elMod_hi K | with_reducible apply Block.forceStopped_hi K | split | dsimp only | with_reducible refine pair_keep (by with_reducible assumption) ?_ | with_reducible refine pair_keep' (by with_reducible assumption) ?_ | intro _)

theorem Block.switchMove_hi (K : KeptHigh Q) (b : Block) (c : Nat) (hb : Q b.regs) : Q (Block.switchMove b c).regs := by
  unfold Block.switchMove
  repeat' (first | with_reducible assumption | with_reducible apply Block.modCx_hi K | with_reducible apply Block.handOver_hi K | with_reducible refine ite_keep ?_ ?_ | dsimp only | intro _)

theorem Block.setAvailSrc_hi (K : KeptHigh Q) (b : Block) (src : TimeSource) (v : Bool) (hb : Q b.regs) : Q (Block.setAvailSrc b src v).regs := by
  unfold Block.setAvailSrc
  repeat' (first | with_reducible assumption | split | dsimp only | with_reducible refine pair_keep (by with_reducible assumption) ?_ | with_reducible refine pair_keep' (by with_reducible assumption) ?_)

theorem Block.setClaim_hi (K : KeptHigh Q) (b : Block) (epoch : Nat) (hb : Q b.regs) : Q (Block.setClaim b epoch).regs := by
  unfold Block.setClaim
  repeat' (first | with_reducible assumption | with_reducible refine Block.setRegN_hi K _ _ _ (by first | decide | (simp only [F.RED_HEALTH_OWN, F.RED_STAT_UNIT_A, Reg.RED_CLAIM, Reg.RED_HEALTH, Reg.RED_STAT, Reg.SYS_STATE]; omega) | (split <;> (simp only [F.RED_HEALTH_OWN, F.RED_STAT_UNIT_A, Reg.RED_CLAIM, Reg.RED_HEALTH, Reg.RED_STAT, Reg.SYS_STATE]; omega))) ?_ | with_reducible refine ite_keep ?_ ?_ | dsimp only)

theorem Block.redRefresh_hi (K : KeptHigh Q) (b : Block) (hb : Q b.regs) : Q (Block.redRefresh b).regs := by
  unfold Block.redRefresh
  repeat' (first | with_reducible assumption | with_reducible refine Block.fset_hi K _ _ _ (by first | decide | (simp only [F.RED_HEALTH_OWN, Reg.RED_CLAIM, Reg.RED_HEALTH, Reg.SYS_STATE]; omega) | (split <;> (simp only [F.RED_HEALTH_OWN, Reg.RED_CLAIM, Reg.RED_HEALTH, Reg.SYS_STATE]; omega))) ?_ | with_reducible apply Block.setClaim_hi K | dsimp only)

theorem Block.setSync_hi (K : KeptHigh Q) (b : Block) (v : Nat) (hb : Q b.regs) : Q (Block.setSync b v).regs := by
  unfold Block.setSync
  repeat' (first | with_reducible assumption | with_reducible refine Block.fset_hi K _ _ _ (by first | decide | (simp only [F.RED_STAT_SYNC, Reg.RED_STAT, Reg.SYS_STATE]; omega) | (split <;> (simp only [F.RED_STAT_SYNC, Reg.RED_STAT, Reg.SYS_STATE]; omega))) ?_ | with_reducible refine Block.raiseEvt_hi K _ _ _ (by first | decide | (simp only [ge_iff_le]; omega)) ?_ | with_reducible refine ite_keep ?_ ?_ | dsimp only)

theorem Block.setWon_hi (K : KeptHigh Q) (b : Block) (v : Bool) (hb : Q b.regs) : Q (Block.setWon b v).regs := by
  unfold Block.setWon
  repeat' (first | with_reducible assumption | with_reducible refine Block.when_keep _ _ _ ?_ (fun _ => ?_) | with_reducible apply Block.canClaimLost_hi K | with_reducible apply Block.chRefreshAll_hi K | with_reducible apply Block.calClaim_hi K | with_reducible apply Block.hartClaimLost_hi K | dsimp only)

theorem Block.resyncFrom_hi (K : KeptHigh Q) (b : Block) (v : Nat) (hb : Q b.regs) : Q (Block.resyncFrom b v).regs := by
  unfold Block.resyncFrom
  repeat' (first | with_reducible assumption | with_reducible refine Block.setRegN_hi K _ _ _ (by first | decide | (simp only [Reg.RED_SYNC_PROG, Reg.SYS_STATE]; omega) | (split <;> (simp only [Reg.RED_SYNC_PROG, Reg.SYS_STATE]; omega))) ?_ | with_reducible apply Block.setSync_hi K | dsimp only)

theorem Block.joinAborted_hi (K : KeptHigh Q) (b : Block) (hb : Q b.regs) : Q (Block.joinAborted b).regs := by
  unfold Block.joinAborted
  repeat' (first | with_reducible assumption | with_reducible refine Block.fset_hi K _ _ _ (by first | decide | (simp only [F.RED_RES_CODE, Reg.RED_RES, Reg.SYS_STATE]; omega) | (split <;> (simp only [F.RED_RES_CODE, Reg.RED_RES, Reg.SYS_STATE]; omega))) ?_ | with_reducible refine Block.raiseEvt_hi K _ _ _ (by first | decide | (simp only [ge_iff_le]; omega)) ?_ | with_reducible apply Block.resyncFrom_hi K | with_reducible refine ite_keep ?_ ?_ | dsimp only)

theorem Block.resyncStart_hi (K : KeptHigh Q) (b : Block) (hb : Q b.regs) : Q (Block.resyncStart b).regs := by
  unfold Block.resyncStart
  repeat' (first | with_reducible assumption | with_reducible apply Block.resyncFrom_hi K | dsimp only)

theorem Block.pivLimit_hi (K : KeptHigh Q) (b : Block) (hb : Q b.regs) : Q (Block.pivLimit b).regs := by
  unfold Block.pivLimit
  repeat' (first | with_reducible assumption | with_reducible refine Block.fsetB_hi K _ _ _ (by first | decide | (simp only [F.RED_CFG_HB_EN, F.RED_CFG_HDIFF, F.RED_STAT_PIV, F.RED_STAT_PIV_LIMIT, Reg.RED_CFG, Reg.RED_STAT, Reg.SYS_STATE]; omega) | (split <;> (simp only [F.RED_CFG_HB_EN, F.RED_CFG_HDIFF, F.RED_STAT_PIV, F.RED_STAT_PIV_LIMIT, Reg.RED_CFG, Reg.RED_STAT, Reg.SYS_STATE]; omega))) ?_ | dsimp only)

theorem Block.hbFollow_hi (K : KeptHigh Q) (b : Block) (hb : Q b.regs) : Q (Block.hbFollow b).regs := by
  unfold Block.hbFollow
  repeat' (first | with_reducible assumption | with_reducible apply Block.pivLimit_hi K | with_reducible refine Block.fset_hi K _ _ _ (by first | decide | (simp only [F.CAN_MODE_AUX, F.CAN_MODE_FD_EN, F.CAN_MODE_MODE, F.CAN_MODE_TERM, F.RED_CFG_HB_EN, Reg.CAN_MODE, Reg.CAN_NBT, Reg.RED_CFG, Reg.SYS_STATE]; omega) | (split <;> (simp only [F.CAN_MODE_AUX, F.CAN_MODE_FD_EN, F.CAN_MODE_MODE, F.CAN_MODE_TERM, F.RED_CFG_HB_EN, Reg.CAN_MODE, Reg.CAN_NBT, Reg.RED_CFG, Reg.SYS_STATE]; omega))) ?_ | with_reducible refine Block.setRegN_hi K _ _ _ (by first | decide | (simp only [F.CAN_MODE_AUX, F.CAN_MODE_FD_EN, F.CAN_MODE_MODE, F.CAN_MODE_TERM, F.RED_CFG_HB_EN, Reg.CAN_MODE, Reg.CAN_NBT, Reg.RED_CFG, Reg.SYS_STATE]; omega) | (split <;> (simp only [F.CAN_MODE_AUX, F.CAN_MODE_FD_EN, F.CAN_MODE_MODE, F.CAN_MODE_TERM, F.RED_CFG_HB_EN, Reg.CAN_MODE, Reg.CAN_NBT, Reg.RED_CFG, Reg.SYS_STATE]; omega))) ?_ | with_reducible apply Block.beatArm_hi K | with_reducible apply Block.canTakeMode_hi K | with_reducible refine ite_keep ?_ ?_ | dsimp only)

theorem Block.hbSend_hi (K : KeptHigh Q) (b : Block) (hb : Q b.regs) : Q (Block.hbSend b).regs := by
  unfold Block.hbSend
  repeat' (first | with_reducible assumption | with_reducible apply Block.canStore_hi K | with_reducible apply Block.send_hi K | with_reducible refine ite_keep ?_ ?_ | with_reducible apply id_keep | dsimp only)

theorem Block.depart_hi (K : KeptHigh Q) (b : Block) (hb : Q b.regs) : Q (Block.depart b).regs := by
  unfold Block.depart
  repeat' (first | with_reducible assumption | with_reducible apply Block.send_hi K | with_reducible refine Block.when_keep _ _ _ ?_ (fun _ => ?_) | with_reducible apply Block.hbSend_hi K | with_reducible refine ite_keep ?_ ?_ | dsimp only)

theorem Block.unforceOutputs_hi (K : KeptHigh Q) (b : Block) (hb : Q b.regs) : Q (Block.unforceOutputs b).regs := by
  unfold Block.unforceOutputs
  repeat' (first | with_reducible assumption | with_reducible refine Block.forAll_keep _ _ _ ?_ (fun _ _ _ => ?_) | with_reducible apply Block.modChan_hi K | dsimp only | intro _)

theorem Block.reforceOutputs_hi (K : KeptHigh Q) (b : Block) (hb : Q b.regs) : Q (Block.reforceOutputs b).regs := by
  unfold Block.reforceOutputs
  repeat' (first | with_reducible assumption | with_reducible refine Block.forAll_keep _ _ _ ?_ (fun _ _ _ => ?_) | with_reducible apply Block.elMod_hi K | with_reducible apply Block.forceStopped_hi K | split | dsimp only | with_reducible refine pair_keep (by with_reducible assumption) ?_ | with_reducible refine pair_keep' (by with_reducible assumption) ?_ | intro _)

theorem Block.dropDispatches_hi (K : KeptHigh Q) (b : Block) (hb : Q b.regs) : Q (Block.dropDispatches b).regs := by
  unfold Block.dropDispatches
  repeat' (first | with_reducible assumption | dsimp only | intro _)

theorem Block.startTriggers_hi (K : KeptHigh Q) (b : Block) (hb : Q b.regs) : Q (Block.startTriggers b).regs := by
  unfold Block.startTriggers
  repeat' (first | with_reducible assumption | with_reducible refine Block.forAll_keep _ _ _ ?_ (fun _ _ _ => ?_) | with_reducible apply Block.aimCtx_hi K | with_reducible apply Block.modCx_hi K | dsimp only | intro _)

theorem Block.enterRun_hi (K : KeptHigh Q) (b : Block) (c : Bool) (hb : Q b.regs) : Q (Block.enterRun b c).regs := by
  unfold Block.enterRun
  repeat' (first | with_reducible assumption | with_reducible refine Block.when_keep _ _ _ ?_ (fun _ => ?_) | with_reducible apply Block.startTriggers_hi K | with_reducible apply Block.reforceOutputs_hi K | dsimp only | intro _)

theorem Block.moveCtx_hi (K : KeptHigh Q) (b : Block) (c n k : Nat) (hb : Q b.regs) : Q (Block.moveCtx b c n k).regs := by
  unfold Block.moveCtx
  repeat' (first | with_reducible assumption | with_reducible apply Block.modCx_hi K | with_reducible apply Block.handOver_hi K | with_reducible refine ite_keep ?_ ?_ | dsimp only | intro _)

theorem Block.recWindow_hi (K : KeptHigh Q) (b : Block) (hb : Q b.regs) : Q (Block.recWindow b).regs := by
  unfold Block.recWindow
  repeat' (first | with_reducible assumption | with_reducible refine Block.forAll_keep _ _ _ ?_ (fun _ _ _ => ?_) | with_reducible apply Block.recLost_hi K | dsimp only | intro _)

theorem Block.flagCycles_hi (K : KeptHigh Q) (b : Block) (abs1 step : Bool) (hb : Q b.regs) : Q (Block.flagCycles b abs1 step).regs := by
  unfold Block.flagCycles
  repeat' (first | with_reducible assumption | with_reducible refine Block.forAll_keep _ _ _ ?_ (fun _ _ _ => ?_) | with_reducible apply Block.modCx_hi K | with_reducible refine ite_keep ?_ ?_ | dsimp only | intro _)

theorem Block.raiseHighest_hi (K : KeptHigh Q) (b : Block) (hb : Q b.regs) : Q (Block.raiseHighest b).regs := keep_tm _ hb

theorem Block.aheadBy_hi (K : KeptHigh Q) (b : Block) (n : Nat) (hb : Q b.regs) : Q (Block.aheadBy b n).regs := by
  unfold Block.aheadBy
  repeat' (first | with_reducible assumption | dsimp only)

theorem Block.aimShaft_hi (K : KeptHigh Q) (b : Block) (hb : Q b.regs) : Q (Block.aimShaft b).regs := by
  unfold Block.aimShaft
  repeat' (first | with_reducible assumption | with_reducible refine Block.forAll_keep _ _ _ ?_ (fun _ _ _ => ?_) | with_reducible apply Block.modCx_hi K | dsimp only | intro _)

theorem Block.goodIndices_hi (K : KeptHigh Q) (b : Block) (n : Nat) (hb : Q b.regs) : Q (Block.goodIndices b n).regs := by
  unfold Block.goodIndices
  repeat' (first | with_reducible assumption | dsimp only)

theorem Block.tsuMark_hi (K : KeptHigh Q) (b : Block) (cause : Nat) (hb : Q b.regs) : Q (Block.tsuMark b cause).regs := by
  unfold Block.tsuMark
  repeat' (first | with_reducible assumption | with_reducible apply Block.timeMark_hi K | with_reducible refine ite_keep ?_ ?_ | dsimp only)

theorem Block.subStep_hi (K : KeptHigh Q) (b : Block) (part : Int) (hb : Q b.regs) : Q (Block.subStep b part).regs := by
  unfold Block.subStep
  repeat' (first | with_reducible assumption | dsimp only)

theorem Block.lockedSecond_hi (K : KeptHigh Q) (b : Block) (hb : Q b.regs) : Q (Block.lockedSecond b).regs := by
  unfold Block.lockedSecond
  repeat' (first | with_reducible assumption | dsimp only)

theorem Block.fracCarry_hi (K : KeptHigh Q) (b : Block) (hb : Q b.regs) : Q (Block.fracCarry b).regs := keep_tm _ hb

theorem Block.frameTick_hi (K : KeptHigh Q) (b : Block) (before : Nat) (hb : Q b.regs) : Q (Block.frameTick b before).regs := by
  unfold Block.frameTick
  repeat' (first | with_reducible assumption | with_reducible refine Block.when_keep _ _ _ ?_ (fun _ => ?_) | with_reducible refine Block.incWrap_hi K _ _ (by first | decide | (simp only [F.CHG_TP_FRAMES, F.CHG_TP_SLOT, Reg.CHG_TP, Reg.SYS_STATE]; omega) | (split <;> (simp only [F.CHG_TP_FRAMES, F.CHG_TP_SLOT, Reg.CHG_TP, Reg.SYS_STATE]; omega))) ?_ | with_reducible refine Block.fset_hi K _ _ _ (by first | decide | (simp only [F.CHG_TP_FRAMES, F.CHG_TP_SLOT, Reg.CHG_TP, Reg.SYS_STATE]; omega) | (split <;> (simp only [F.CHG_TP_FRAMES, F.CHG_TP_SLOT, Reg.CHG_TP, Reg.SYS_STATE]; omega))) ?_ | dsimp only | intro _)

theorem Block.hourAnew_hi (K : KeptHigh Q) (b : Block) (hb : Q b.regs) : Q (Block.hourAnew b).regs := by
  unfold Block.hourAnew
  repeat' (first | with_reducible assumption | dsimp only)

theorem Block.patrolTick_hi (K : KeptHigh Q) (b : Block) (hb : Q b.regs) : Q (Block.patrolTick b).regs := by
  unfold Block.patrolTick
  repeat' (first | with_reducible assumption | with_reducible refine Block.incSat_hi K _ _ (by first | decide | (simp only [F.MEM_PATROL_AGE, Reg.MEM_PATROL, Reg.SYS_STATE]; omega) | (split <;> (simp only [F.MEM_PATROL_AGE, Reg.MEM_PATROL, Reg.SYS_STATE]; omega))) ?_ | with_reducible refine ite_keep ?_ ?_ | dsimp only)

theorem Block.coverTick_hi (K : KeptHigh Q) (b : Block) (hb : Q b.regs) : Q (Block.coverTick b).regs := by
  unfold Block.coverTick
  repeat' (first | with_reducible assumption | with_reducible apply Block.free_hi K | with_reducible refine Block.setRegN_hi K _ _ _ (by first | decide | (simp only [Reg.SAF_TEST_AGE, Reg.SYS_STATE]; omega) | (split <;> (simp only [Reg.SAF_TEST_AGE, Reg.SYS_STATE]; omega))) ?_ | with_reducible refine ite_keep ?_ ?_ | split | dsimp only | with_reducible refine pair_keep (by with_reducible assumption) ?_ | with_reducible refine pair_keep' (by with_reducible assumption) ?_)

theorem Block.devTick_hi (K : KeptHigh Q) (b : Block) (hb : Q b.regs) : Q (Block.devTick b).regs := by
  unfold Block.devTick
  repeat' (first | with_reducible assumption | with_reducible refine Block.forAll_keep _ _ _ ?_ (fun _ _ _ => ?_) | with_reducible refine Block.fset_hi K _ _ _ (by first | decide | (simp only [F.MEM_DEV_CNT_WINDOW, Reg.MEM_DEV_CNT, Reg.SYS_STATE]; omega) | (split <;> (simp only [F.MEM_DEV_CNT_WINDOW, Reg.MEM_DEV_CNT, Reg.SYS_STATE]; omega))) ?_ | with_reducible refine ite_keep ?_ ?_ | dsimp only | intro _)

theorem Block.rateTick_hi (K : KeptHigh Q) (b : Block) (hb : Q b.regs) : Q (Block.rateTick b).regs := by
  unfold Block.rateTick
  repeat' (first | with_reducible assumption | with_reducible apply Block.free_hi K | with_reducible refine Block.fset_hi K _ _ _ (by first | decide | (simp only [F.PAIR_RATE_RATE, F.PAIR_STAT_LINK, Reg.PAIR_RATE, Reg.PAIR_STAT, Reg.SYS_STATE]; omega) | (split <;> (simp only [F.PAIR_RATE_RATE, F.PAIR_STAT_LINK, Reg.PAIR_RATE, Reg.PAIR_STAT, Reg.SYS_STATE]; omega))) ?_ | with_reducible refine ite_keep ?_ ?_ | split | dsimp only | with_reducible refine pair_keep (by with_reducible assumption) ?_ | with_reducible refine pair_keep' (by with_reducible assumption) ?_)

theorem Block.pairTimeTick_hi (K : KeptHigh Q) (b : Block) (hb : Q b.regs) : Q (Block.pairTimeTick b).regs := by
  unfold Block.pairTimeTick
  repeat' (first | with_reducible assumption | with_reducible apply Block.send_hi K | with_reducible refine ite_keep ?_ ?_ | dsimp only)

theorem Block.clkOn_hi (K : KeptHigh Q) (b : Block) (hb : Q b.regs) : Q (Block.clkOn b).regs := keep_clk _ hb

theorem Block.milliTick_hi (K : KeptHigh Q) (b : Block) (hb : Q b.regs) : Q (Block.milliTick b).regs := by
  unfold Block.milliTick
  repeat' (first | with_reducible assumption | with_reducible refine Block.setPair_hi K _ _ _ (by first | decide | (simp only [Reg.EVR_OPTIME_LO, Reg.SYS_STATE]; omega) | (split <;> (simp only [Reg.EVR_OPTIME_LO, Reg.SYS_STATE]; omega))) ?_ | with_reducible refine ite_keep ?_ ?_ | dsimp only)

theorem Block.haltTick_hi (K : KeptHigh Q) (b : Block) (hb : Q b.regs) : Q (Block.haltTick b).regs := by
  unfold Block.haltTick
  split
  · exact Block.chRefreshAll_hi K _ (keep_pwr _ hb)
  · exact hb

theorem Block.recShow_hi (K : KeptHigh Q) (b : Block) (hb : Q b.regs) : Q (Block.recShow b).regs := by
  unfold Block.recShow
  repeat' (first | with_reducible assumption | with_reducible refine Block.setPair_hi K _ _ _ (by first | decide | (simp only [Reg.EVR_FIRST_NEXT_LO, Reg.EVR_RING_NEXT_LO, Reg.EVR_RING_OLD_LO, Reg.SYS_STATE]; omega) | (split <;> (simp only [Reg.EVR_FIRST_NEXT_LO, Reg.EVR_RING_NEXT_LO, Reg.EVR_RING_OLD_LO, Reg.SYS_STATE]; omega))) ?_ | dsimp only)

theorem Block.recStore_hi (K : KeptHigh Q) (b : Block) (r : EvRec) (hb : Q b.regs) : Q (Block.recStore b r).regs := by
  unfold Block.recStore
  repeat' (first | with_reducible assumption | with_reducible refine Block.when_keep _ _ _ ?_ (fun _ => ?_) | with_reducible refine Block.fset_hi K _ _ _ (by first | decide | (simp only [F.EVR_STAT_FIRST_FULL, Reg.EVR_PCC, Reg.EVR_STAT, Reg.SYS_STATE]; omega) | (split <;> (simp only [F.EVR_STAT_FIRST_FULL, Reg.EVR_PCC, Reg.EVR_STAT, Reg.SYS_STATE]; omega))) ?_ | with_reducible refine Block.raiseEvt_hi K _ _ _ (by first | decide | (simp only [ge_iff_le]; omega)) ?_ | with_reducible apply Block.recShow_hi K | with_reducible refine ite_keep ?_ ?_ | dsimp only | intro _)

theorem Block.recRefusals_hi (K : KeptHigh Q) (b : Block) (hb : Q b.regs) : Q (Block.recRefusals b).regs := by
  unfold Block.recRefusals
  repeat' (first | with_reducible assumption | with_reducible apply Block.recLost_hi K | with_reducible refine ite_keep ?_ ?_ | dsimp only)

theorem Block.lossDurable_hi (K : KeptHigh Q) (b : Block) (r : EvRec) (hb : Q b.regs) : Q (Block.lossDurable b r).regs := by
  unfold Block.lossDurable
  repeat' (first | with_reducible assumption | with_reducible refine Block.raiseEvt_hi K _ _ _ (by first | decide | (simp only [ge_iff_le]; omega)) ?_ | dsimp only)

theorem Block.lockDurable_hi (K : KeptHigh Q) (b : Block) (r : EvRec) (hb : Q b.regs) : Q (Block.lockDurable b r).regs := by
  unfold Block.lockDurable
  repeat' (first | with_reducible assumption | with_reducible refine ite_keep ?_ ?_ | dsimp only)

theorem Block.setRegion_hi (K : KeptHigh Q) (b : Block) (r : Nat) (g : Region) (hb : Q b.regs) : Q (Block.setRegion b r g).regs := by
  unfold Block.setRegion
  repeat' (first | with_reducible assumption | dsimp only)

theorem Block.labelStored_hi (K : KeptHigh Q) (b : Block) (r : Nat) (hb : Q b.regs) : Q (Block.labelStored b r).regs := by
  unfold Block.labelStored
  repeat' (first | with_reducible assumption | with_reducible apply Block.setRegion_hi K | dsimp only)

theorem Block.shownStored_hi (K : KeptHigh Q) (b : Block) (r : Nat) (hb : Q b.regs) : Q (Block.shownStored b r).regs := by
  unfold Block.shownStored
  repeat' (first | with_reducible assumption | with_reducible apply Block.setRegion_hi K | dsimp only)

theorem Block.celCommit_hi (K : KeptHigh Q) (b : Block) (r : CelRec) (hb : Q b.regs) : Q (Block.celCommit b r).regs := by
  unfold Block.celCommit
  repeat' (first | with_reducible assumption | with_reducible apply Block.labelStored_hi K | with_reducible apply Block.shownStored_hi K | with_reducible apply Block.lockout_hi K | with_reducible refine ite_keep ?_ ?_ | split | dsimp only | with_reducible refine pair_keep (by with_reducible assumption) ?_ | with_reducible refine pair_keep' (by with_reducible assumption) ?_ | intro _)

theorem Block.queueLoss_hi (K : KeptHigh Q) (b : Block) (first count : Nat) (hb : Q b.regs) : Q (Block.queueLoss b first count).regs := by
  unfold Block.queueLoss
  repeat' (first | with_reducible assumption | with_reducible apply Block.queueFill_hi K | with_reducible refine ite_keep ?_ ?_ | dsimp only)

theorem Block.markDevice_hi (K : KeptHigh Q) (b : Block) (d : Nat) (hb : Q b.regs) : Q (Block.markDevice b d).regs := by
  unfold Block.markDevice
  repeat' (first | with_reducible assumption | with_reducible refine Block.fset_hi K _ _ _ (by first | decide | (simp only [F.MEM_STAT_DEVICE, F.MEM_STAT_MARKED, Reg.MEM_STAT, Reg.SYS_STATE]; omega) | (split <;> (simp only [F.MEM_STAT_DEVICE, F.MEM_STAT_MARKED, Reg.MEM_STAT, Reg.SYS_STATE]; omega))) ?_ | with_reducible refine Block.raiseEvt_hi K _ _ _ (by first | decide | (simp only [ge_iff_le]; omega)) ?_ | with_reducible refine ite_keep ?_ ?_ | dsimp only)

theorem Block.dramFixed_hi (K : KeptHigh Q) (b : Block) (d n : Nat) (hb : Q b.regs) : Q (Block.dramFixed b d n).regs := by
  unfold Block.dramFixed
  repeat' (first | with_reducible assumption | with_reducible refine Block.incSat_hi K _ _ (by first | decide | (simp only [F.MEM_CE_CNT_COUNT, F.MEM_DEV_CNT_TOTAL, F.MEM_DEV_CNT_WINDOW, Reg.MEM_CE_CNT, Reg.MEM_DEV_CNT, Reg.SYS_STATE]; omega) | (split <;> (simp only [F.MEM_CE_CNT_COUNT, F.MEM_DEV_CNT_TOTAL, F.MEM_DEV_CNT_WINDOW, Reg.MEM_CE_CNT, Reg.MEM_DEV_CNT, Reg.SYS_STATE]; omega))) ?_ | with_reducible refine Block.fset_hi K _ _ _ (by first | decide | (simp only [F.MEM_CE_CNT_COUNT, F.MEM_DEV_CNT_TOTAL, F.MEM_DEV_CNT_WINDOW, Reg.MEM_CE_CNT, Reg.MEM_DEV_CNT, Reg.SYS_STATE]; omega) | (split <;> (simp only [F.MEM_CE_CNT_COUNT, F.MEM_DEV_CNT_TOTAL, F.MEM_DEV_CNT_WINDOW, Reg.MEM_CE_CNT, Reg.MEM_DEV_CNT, Reg.SYS_STATE]; omega))) ?_ | with_reducible refine Block.raiseEvt_hi K _ _ _ (by first | decide | (simp only [ge_iff_le]; omega)) ?_ | with_reducible refine Block.when_keep _ _ _ ?_ (fun _ => ?_) | with_reducible apply Block.markDevice_hi K | dsimp only | intro _)

theorem Block.standbySilent_hi (K : KeptHigh Q) (b : Block) (hb : Q b.regs) : Q (Block.standbySilent b).regs := by
  unfold Block.standbySilent
  repeat' (first | with_reducible assumption | with_reducible apply Block.joinAborted_hi K | with_reducible apply Block.setSync_hi K | with_reducible refine ite_keep ?_ ?_ | dsimp only)

theorem Block.departureRx_hi (K : KeptHigh Q) (b : Block) (hb : Q b.regs) : Q (Block.departureRx b).regs := by
  unfold Block.departureRx
  repeat' (first | with_reducible assumption | with_reducible refine Block.raiseEvt_hi K _ _ _ (by first | decide | (simp only [ge_iff_le]; omega)) ?_ | with_reducible apply Block.unsyncedLoss_hi K | with_reducible refine ite_keep ?_ ?_ | dsimp only)

theorem Block.steer1_hi (K : KeptHigh Q) (b : Block) (h : PairBeat) (hb : Q b.regs) : Q (Block.steer1 b h).regs := by
  unfold Block.steer1
  repeat' (first | with_reducible assumption | with_reducible refine ite_keep ?_ ?_ | dsimp only)

theorem Block.partnerLeads_hi (K : KeptHigh Q) (b : Block) (role : Nat) (departing : Bool) (hb : Q b.regs) : Q (Block.partnerLeads b role departing).regs := by
  unfold Block.partnerLeads
  repeat' (first | with_reducible assumption | with_reducible refine Block.when_keep _ _ _ ?_ (fun _ => ?_) | dsimp only | intro _)

theorem Block.epochDown_hi (K : KeptHigh Q) (b : Block) (hb : Q b.regs) : Q (Block.epochDown b).regs := by
  unfold Block.epochDown
  repeat' (first | with_reducible assumption | with_reducible apply Block.setClaim_hi K | dsimp only)

theorem Block.lowerEpoch_hi (K : KeptHigh Q) (b : Block) (hb : Q b.regs) : Q (Block.lowerEpoch b).regs := by
  unfold Block.lowerEpoch
  repeat' (first | with_reducible assumption | with_reducible apply Block.toPartner_hi K | with_reducible apply Block.epochDown_hi K | with_reducible refine Block.when_keep _ _ _ ?_ (fun _ => ?_) | with_reducible refine ite_keep ?_ ?_ | dsimp only)

theorem Block.roundOpen_hi (K : KeptHigh Q) (b : Block) (hb : Q b.regs) : Q (Block.roundOpen b).regs := by
  unfold Block.roundOpen
  repeat' (first | with_reducible assumption | dsimp only)

theorem Block.sendClaim_hi (K : KeptHigh Q) (b : Block) (hb : Q b.regs) : Q (Block.sendClaim b).regs := by
  unfold Block.sendClaim
  repeat' (first | with_reducible assumption | with_reducible apply Block.send_hi K | dsimp only)

theorem Block.roundBegin_hi (K : KeptHigh Q) (b : Block) (alone : Bool) (hb : Q b.regs) : Q (Block.roundBegin b alone).regs := by
  unfold Block.roundBegin
  repeat' (first | with_reducible assumption | with_reducible apply Block.redRefresh_hi K | with_reducible apply Block.lowFollow_hi K | with_reducible apply Block.lowerEpoch_hi K | with_reducible apply Block.roundOpen_hi K | with_reducible refine Block.fsetB_hi K _ _ _ (by first | decide | (simp only [F.RED_ROUND_INFO_ALONE, Reg.RED_ROUND_INFO, Reg.SYS_STATE]; omega) | (split <;> (simp only [F.RED_ROUND_INFO_ALONE, Reg.RED_ROUND_INFO, Reg.SYS_STATE]; omega))) ?_ | with_reducible apply Block.sendClaim_hi K | dsimp only)

theorem Block.wireJudge_hi (K : KeptHigh Q) (b : Block) (fault : Bool) (hb : Q b.regs) : Q (Block.wireJudge b fault).regs := by
  unfold Block.wireJudge
  repeat' (first | with_reducible assumption | with_reducible refine Block.fset_hi K _ _ _ (by first | decide | (simp only [F.RED_STAT_WIRE_FAULT, F.RED_WIRE_ERR_CNT_COUNT, Reg.RED_CLAIM, Reg.RED_ROUND, Reg.RED_STAT, Reg.RED_WIRE_ERR_CNT, Reg.SYS_STATE]; omega) | (split <;> (simp only [F.RED_STAT_WIRE_FAULT, F.RED_WIRE_ERR_CNT_COUNT, Reg.RED_CLAIM, Reg.RED_ROUND, Reg.RED_STAT, Reg.RED_WIRE_ERR_CNT, Reg.SYS_STATE]; omega))) ?_ | with_reducible refine Block.incSat_hi K _ _ (by first | decide | (simp only [F.RED_STAT_WIRE_FAULT, F.RED_WIRE_ERR_CNT_COUNT, Reg.RED_CLAIM, Reg.RED_ROUND, Reg.RED_STAT, Reg.RED_WIRE_ERR_CNT, Reg.SYS_STATE]; omega) | (split <;> (simp only [F.RED_STAT_WIRE_FAULT, F.RED_WIRE_ERR_CNT_COUNT, Reg.RED_CLAIM, Reg.RED_ROUND, Reg.RED_STAT, Reg.RED_WIRE_ERR_CNT, Reg.SYS_STATE]; omega))) ?_ | with_reducible refine Block.event_hi K _ _ _ _ _ (by first | decide | (simp only [ge_iff_le]; omega)) ?_ | with_reducible refine Block.when_keep _ _ _ ?_ (fun _ => ?_) | with_reducible refine ite_keep ?_ ?_ | dsimp only | intro _)

theorem Block.redDone_hi (K : KeptHigh Q) (b : Block) (code : Nat) (hb : Q b.regs) : Q (Block.redDone b code).regs := by
  unfold Block.redDone
  repeat' (first | with_reducible assumption | with_reducible refine Block.fset_hi K _ _ _ (by first | decide | (simp only [F.RED_RES_CODE, Reg.RED_RES, Reg.SYS_STATE]; omega) | (split <;> (simp only [F.RED_RES_CODE, Reg.RED_RES, Reg.SYS_STATE]; omega))) ?_ | with_reducible refine Block.raiseEvt_hi K _ _ _ (by first | decide | (simp only [ge_iff_le]; omega)) ?_ | dsimp only)

theorem Block.joinCopied_hi (K : KeptHigh Q) (b : Block) (c : Nat) (hb : Q b.regs) : Q (Block.joinCopied b c).regs := by
  unfold Block.joinCopied
  repeat' (first | with_reducible assumption | dsimp only)

theorem Block.joinPatCopied_hi (K : KeptHigh Q) (b : Block) (l : Nat) (hb : Q b.regs) : Q (Block.joinPatCopied b l).regs := by
  unfold Block.joinPatCopied
  repeat' (first | with_reducible assumption | dsimp only)

theorem Block.joinValues_hi (K : KeptHigh Q) (b : Block) (k : Nat) (q : JoinPat) (hb : Q b.regs) : Q (Block.joinValues b k q).regs := by
  unfold Block.joinValues
  repeat' (first | with_reducible assumption | with_reducible apply Block.setPat_hi K | split | dsimp only | with_reducible refine pair_keep (by with_reducible assumption) ?_ | with_reducible refine pair_keep' (by with_reducible assumption) ?_)

theorem Block.jobModeSet_hi (K : KeptHigh Q) (b : Block) (c : Nat) (mode : Option Bool) (hb : Q b.regs) : Q (Block.jobModeSet b c mode).regs := by
  unfold Block.jobModeSet
  repeat' (first | with_reducible assumption | with_reducible refine ite_keep ?_ ?_ | split | dsimp only | with_reducible refine pair_keep (by with_reducible assumption) ?_ | with_reducible refine pair_keep' (by with_reducible assumption) ?_ | intro _)

theorem Block.markDemoted_hi (K : KeptHigh Q) (b : Block) (hb : Q b.regs) : Q (Block.markDemoted b).regs := by
  unfold Block.markDemoted
  repeat' (first | with_reducible assumption | dsimp only)

theorem Block.labelShow_hi (K : KeptHigh Q) (b : Block) (hb : Q b.regs) : Q (Block.labelShow b).regs := by
  unfold Block.labelShow
  repeat' (first | with_reducible assumption | with_reducible refine Block.fset_hi K _ _ _ (by first | decide | (simp only [F.DSB_STAT_BUSY, F.DSB_STAT_PENDING, Reg.DSB_STAT, Reg.SYS_STATE]; omega) | (split <;> (simp only [F.DSB_STAT_BUSY, F.DSB_STAT_PENDING, Reg.DSB_STAT, Reg.SYS_STATE]; omega))) ?_ | with_reducible refine ite_keep ?_ ?_ | dsimp only | intro _)

theorem Block.labelUpdate_hi (K : KeptHigh Q) (b : Block) (r : Nat) (levels : List Nat) (hb : Q b.regs) : Q (Block.labelUpdate b r levels).regs := by
  unfold Block.labelUpdate
  repeat' (first | with_reducible assumption | with_reducible apply Block.setRegion_hi K | with_reducible apply Block.celRequest_hi K | with_reducible apply Block.labelShow_hi K | with_reducible refine Block.when_keep _ _ _ ?_ (fun _ => ?_) | with_reducible refine Block.raiseEvt_hi K _ _ _ (by first | decide | (simp only [ge_iff_le]; omega)) ?_ | with_reducible refine ite_keep ?_ ?_ | dsimp only | intro _)

theorem Block.labelRecords_hi (K : KeptHigh Q) (b : Block) (r : Nat) (hb : Q b.regs) : Q (Block.labelRecords b r).regs := by
  unfold Block.labelRecords
  repeat' (first | with_reducible assumption | with_reducible apply Block.celRequest_hi K | dsimp only)

theorem Block.regionFrame_hi (K : KeptHigh Q) (b : Block) (r : Nat) (hb : Q b.regs) : Q (Block.regionFrame b r).regs := by
  unfold Block.regionFrame
  repeat' (first | with_reducible assumption | with_reducible refine Block.when_keep _ _ _ ?_ (fun _ => ?_) | with_reducible apply Block.send_hi K | with_reducible apply Block.setRegion_hi K | with_reducible apply Block.labelRecords_hi K | with_reducible refine Block.incWrap_hi K _ _ (by first | decide | (simp only [F.DSB_STAT_BAND, F.DSB_STAT_CLEAN, F.DSB_UPD_CNT_COUNT, Reg.DSB_STAT, Reg.DSB_UPD_CNT, Reg.SYS_STATE]; omega) | (split <;> (simp only [F.DSB_STAT_BAND, F.DSB_STAT_CLEAN, F.DSB_UPD_CNT_COUNT, Reg.DSB_STAT, Reg.DSB_UPD_CNT, Reg.SYS_STATE]; omega))) ?_ | with_reducible refine Block.raiseEvt_hi K _ _ _ (by first | decide | (simp only [ge_iff_le]; omega)) ?_ | with_reducible refine ite_keep ?_ ?_ | dsimp only | intro _)

theorem Block.cleanBegin_hi (K : KeptHigh Q) (b : Block) (hb : Q b.regs) : Q (Block.cleanBegin b).regs := by
  unfold Block.cleanBegin
  repeat' (first | with_reducible assumption | with_reducible refine Block.forAll_keep _ _ _ ?_ (fun _ _ _ => ?_) | with_reducible apply Block.setRegion_hi K | with_reducible refine Block.fset_hi K _ _ _ (by first | decide | (simp only [F.DSB_STAT_CLEAN, Reg.DSB_STAT, Reg.SYS_STATE]; omega) | (split <;> (simp only [F.DSB_STAT_CLEAN, Reg.DSB_STAT, Reg.SYS_STATE]; omega))) ?_ | with_reducible apply Block.send_hi K | with_reducible refine Block.raiseEvt_hi K _ _ _ (by first | decide | (simp only [ge_iff_le]; omega)) ?_ | dsimp only | intro _)

theorem Block.redrawAll_hi (K : KeptHigh Q) (b : Block) (hb : Q b.regs) : Q (Block.redrawAll b).regs := by
  unfold Block.redrawAll
  repeat' (first | with_reducible assumption | with_reducible refine Block.forAll_keep _ _ _ ?_ (fun _ _ _ => ?_) | with_reducible apply Block.labelUpdate_hi K | dsimp only | intro _)

theorem Block.cleanEnd_hi (K : KeptHigh Q) (b : Block) (hb : Q b.regs) : Q (Block.cleanEnd b).regs := by
  unfold Block.cleanEnd
  repeat' (first | with_reducible assumption | with_reducible refine Block.fset_hi K _ _ _ (by first | decide | (simp only [F.DSB_STAT_CLEAN, Reg.DSB_STAT, Reg.SYS_STATE]; omega) | (split <;> (simp only [F.DSB_STAT_CLEAN, Reg.DSB_STAT, Reg.SYS_STATE]; omega))) ?_ | with_reducible refine Block.forAll_keep _ _ _ ?_ (fun _ _ _ => ?_) | with_reducible apply Block.setRegion_hi K | with_reducible apply Block.celRequest_hi K | with_reducible apply Block.redrawAll_hi K | dsimp only | intro _)

theorem Block.labelCommand_hi (K : KeptHigh Q) (b : Block) (hb : Q b.regs) : Q (Block.labelCommand b).regs := by
  unfold Block.labelCommand
  repeat' (first | with_reducible assumption | with_reducible refine Block.raiseEvt_hi K _ _ _ (by first | decide | (simp only [ge_iff_le]; omega)) ?_ | with_reducible apply Block.cleanBegin_hi K | with_reducible apply Block.redrawAll_hi K | with_reducible refine ite_keep ?_ ?_ | dsimp only | intro _)

theorem Block.dsbCommand_hi (K : KeptHigh Q) (b : Block) (v : Nat) (hb : Q b.regs) : Q (Block.dsbCommand b v).regs := by
  unfold Block.dsbCommand
  repeat' (first | with_reducible assumption | with_reducible refine Block.fset_hi K _ _ _ (by first | decide | (simp only [F.DSB_CMD_CMD, F.DSB_RES_CODE, F.DSB_STAT_CLEAN, F.DSB_STAT_PANEL_FAULT, Reg.DSB_CMD, Reg.DSB_RES, Reg.DSB_STAT, Reg.SYS_STATE]; omega) | (split <;> (simp only [F.DSB_CMD_CMD, F.DSB_RES_CODE, F.DSB_STAT_CLEAN, F.DSB_STAT_PANEL_FAULT, Reg.DSB_CMD, Reg.DSB_RES, Reg.DSB_STAT, Reg.SYS_STATE]; omega))) ?_ | with_reducible refine Block.raiseEvt_hi K _ _ _ (by first | decide | (simp only [ge_iff_le]; omega)) ?_ | with_reducible refine ite_keep ?_ ?_ | dsimp only)

theorem Block.recoverDrive_hi (K : KeptHigh Q) (b : Block) (lost : Bool) (r : Nat) (levels : List Nat) (hb : Q b.regs) : Q (Block.recoverDrive b lost r levels).regs := by
  unfold Block.recoverDrive
  repeat' (first | with_reducible assumption | with_reducible refine Block.when_keep _ _ _ ?_ (fun _ => ?_) | with_reducible apply Block.send_hi K | with_reducible refine ite_keep ?_ ?_ | dsimp only | intro _)

theorem Block.labelRecover_hi (K : KeptHigh Q) (b : Block) (lost : Bool) (hb : Q b.regs) : Q (Block.labelRecover b lost).regs := by
  unfold Block.labelRecover
  repeat' (first | with_reducible assumption | with_reducible refine Block.forAll_keep _ _ _ ?_ (fun _ _ _ => ?_) | with_reducible apply Block.recoverDrive_hi K | with_reducible apply Block.setRegion_hi K | with_reducible refine Block.when_keep _ _ _ ?_ (fun _ => ?_) | with_reducible apply Block.labelRecords_hi K | with_reducible refine Block.raiseEvt_hi K _ _ _ (by first | decide | (simp only [ge_iff_le]; omega)) ?_ | with_reducible refine ite_keep ?_ ?_ | dsimp only | intro _)

theorem Block.markerDraw_hi (K : KeptHigh Q) (b : Block) (hb : Q b.regs) : Q (Block.markerDraw b).regs := by
  unfold Block.markerDraw
  repeat' (first | with_reducible assumption | with_reducible apply Block.labelUpdate_hi K | with_reducible refine ite_keep ?_ ?_ | dsimp only)

theorem Block.qualify_hi (K : KeptHigh Q) (b : Block) (hb : Q b.regs) : Q (Block.qualify b).regs := by
  unfold Block.qualify
  repeat' (first | with_reducible assumption | with_reducible refine ite_keep ?_ ?_ | dsimp only)

theorem Block.islPowerDown_hi (K : KeptHigh Q) (b : Block) (hb : Q b.regs) : Q (Block.islPowerDown b).regs := by
  unfold Block.islPowerDown
  repeat' (first | with_reducible assumption | with_reducible apply Block.islShow_hi K | with_reducible apply Block.islEnter_hi K | with_reducible refine ite_keep ?_ ?_ | dsimp only)

theorem Block.unpower_hi (K : KeptHigh Q) (b : Block) (hb : Q b.regs) : Q (Block.unpower b).regs :=
  keep_down _ _ _ _ hb

theorem Block.sfpShow_hi (K : KeptHigh Q) (b : Block) (hb : Q b.regs) : Q (Block.sfpShow b).regs := by
  unfold Block.sfpShow
  repeat' (first | with_reducible assumption | with_reducible refine Block.fsetB_hi K _ _ _ (by first | decide | (simp only [F.PAIR_STAT_ABSENT, F.PAIR_STAT_LOS, F.PAIR_STAT_TXFLT, Reg.PAIR_STAT, Reg.SYS_STATE]; omega) | (split <;> (simp only [F.PAIR_STAT_ABSENT, F.PAIR_STAT_LOS, F.PAIR_STAT_TXFLT, Reg.PAIR_STAT, Reg.SYS_STATE]; omega))) ?_ | dsimp only)

theorem Block.vinShow_hi (K : KeptHigh Q) (b : Block) (hb : Q b.regs) : Q (Block.vinShow b).regs := by
  unfold Block.vinShow
  repeat' (first | with_reducible assumption | with_reducible refine Block.setRegN_hi K _ _ _ (by first | decide | (simp only [Reg.SYS_STATE, Reg.UPD_APP_ACT, Reg.UPD_APP_FB, Reg.UPD_FW_ACT, Reg.UPD_FW_FB]; omega) | (split <;> (simp only [Reg.SYS_STATE, Reg.UPD_APP_ACT, Reg.UPD_APP_FB, Reg.UPD_FW_ACT, Reg.UPD_FW_FB]; omega))) ?_ | dsimp only)

theorem Block.caskShow_hi (K : KeptHigh Q) (b : Block) (hb : Q b.regs) : Q (Block.caskShow b).regs := by
  unfold Block.caskShow
  repeat' (first | with_reducible assumption | with_reducible refine Block.fset_hi K _ _ _ (by first | decide | (simp only [F.UPD_CASK_KIND, Reg.SYS_STATE, Reg.UPD_CASK, Reg.UPD_CASK_DONE, Reg.UPD_CASK_TOTAL, Reg.UPD_CASK_VIN]; omega) | (split <;> (simp only [F.UPD_CASK_KIND, Reg.SYS_STATE, Reg.UPD_CASK, Reg.UPD_CASK_DONE, Reg.UPD_CASK_TOTAL, Reg.UPD_CASK_VIN]; omega))) ?_ | with_reducible refine Block.setRegN_hi K _ _ _ (by first | decide | (simp only [F.UPD_CASK_KIND, Reg.SYS_STATE, Reg.UPD_CASK, Reg.UPD_CASK_DONE, Reg.UPD_CASK_TOTAL, Reg.UPD_CASK_VIN]; omega) | (split <;> (simp only [F.UPD_CASK_KIND, Reg.SYS_STATE, Reg.UPD_CASK, Reg.UPD_CASK_DONE, Reg.UPD_CASK_TOTAL, Reg.UPD_CASK_VIN]; omega))) ?_ | dsimp only | intro _)

theorem Block.caskIn_hi (K : KeptHigh Q) (b : Block) (st : Nat) (hb : Q b.regs) : Q (Block.caskIn b st).regs := by
  unfold Block.caskIn
  repeat' (first | with_reducible assumption | with_reducible refine Block.fset_hi K _ _ _ (by first | decide | (simp only [F.UPD_CASK_STATE, Reg.SYS_STATE, Reg.UPD_CASK]; omega) | (split <;> (simp only [F.UPD_CASK_STATE, Reg.SYS_STATE, Reg.UPD_CASK]; omega))) ?_ | with_reducible apply Block.caskShow_hi K | with_reducible apply Block.celRequest_hi K | dsimp only)

theorem Block.caskEmpty_hi (K : KeptHigh Q) (b : Block) (hb : Q b.regs) : Q (Block.caskEmpty b).regs := by
  unfold Block.caskEmpty
  repeat' (first | with_reducible assumption | with_reducible refine Block.fset_hi K _ _ _ (by first | decide | (simp only [F.UPD_CASK_DOWNGRADE, Reg.SYS_STATE, Reg.UPD_CASK]; omega) | (split <;> (simp only [F.UPD_CASK_DOWNGRADE, Reg.SYS_STATE, Reg.UPD_CASK]; omega))) ?_ | with_reducible apply Block.caskIn_hi K | dsimp only)

theorem Block.caskInvalid_hi (K : KeptHigh Q) (b : Block) (code : Nat) (hb : Q b.regs) : Q (Block.caskInvalid b code).regs := by
  unfold Block.caskInvalid
  repeat' (first | with_reducible assumption | with_reducible apply Block.caskIn_hi K | with_reducible refine Block.fset_hi K _ _ _ (by first | decide | (simp only [F.UPD_RES_CODE, Reg.SYS_STATE, Reg.UPD_RES]; omega) | (split <;> (simp only [F.UPD_RES_CODE, Reg.SYS_STATE, Reg.UPD_RES]; omega))) ?_ | dsimp only)

theorem Block.updDone_hi (K : KeptHigh Q) (b : Block) (code : Nat) (hb : Q b.regs) : Q (Block.updDone b code).regs := by
  unfold Block.updDone
  repeat' (first | with_reducible assumption | with_reducible refine Block.fset_hi K _ _ _ (by first | decide | (simp only [F.UPD_RES_CODE, Reg.SYS_STATE, Reg.UPD_RES]; omega) | (split <;> (simp only [F.UPD_RES_CODE, Reg.SYS_STATE, Reg.UPD_RES]; omega))) ?_ | with_reducible refine Block.raiseEvt_hi K _ _ _ (by first | decide | (simp only [ge_iff_le]; omega)) ?_ | dsimp only)

theorem Block.revertTo_hi (K : KeptHigh Q) (b : Block) (v : Vintage) (kind : Nat) (hb : Q b.regs) : Q (Block.revertTo b v kind).regs := by
  unfold Block.revertTo
  repeat' (first | with_reducible assumption | with_reducible refine Block.fsetB_hi K _ _ _ (by first | decide | (simp only [F.UPD_CASK_DOWNGRADE, Reg.SYS_STATE, Reg.UPD_CASK]; omega) | (split <;> (simp only [F.UPD_CASK_DOWNGRADE, Reg.SYS_STATE, Reg.UPD_CASK]; omega))) ?_ | with_reducible apply Block.caskIn_hi K | with_reducible refine Block.raiseEvt_hi K _ _ _ (by first | decide | (simp only [ge_iff_le]; omega)) ?_ | dsimp only)

theorem Block.updCommand_hi (K : KeptHigh Q) (b : Block) (v : Nat) (hb : Q b.regs) : Q (Block.updCommand b v).regs := by
  unfold Block.updCommand
  repeat' (first | with_reducible assumption | with_reducible refine Block.fset_hi K _ _ _ (by first | decide | (simp only [F.CEL_STAT_READONLY, F.UPD_CASK_DOWNGRADE, F.UPD_CMD_CMD, Reg.CEL_STAT, Reg.SYS_STATE, Reg.UPD_CASK, Reg.UPD_CMD]; omega) | (split <;> (simp only [F.CEL_STAT_READONLY, F.UPD_CASK_DOWNGRADE, F.UPD_CMD_CMD, Reg.CEL_STAT, Reg.SYS_STATE, Reg.UPD_CASK, Reg.UPD_CMD]; omega))) ?_ | with_reducible apply Block.updDone_hi K | with_reducible refine Block.fsetB_hi K _ _ _ (by first | decide | (simp only [F.CEL_STAT_READONLY, F.UPD_CASK_DOWNGRADE, F.UPD_CMD_CMD, Reg.CEL_STAT, Reg.SYS_STATE, Reg.UPD_CASK, Reg.UPD_CMD]; omega) | (split <;> (simp only [F.CEL_STAT_READONLY, F.UPD_CASK_DOWNGRADE, F.UPD_CMD_CMD, Reg.CEL_STAT, Reg.SYS_STATE, Reg.UPD_CASK, Reg.UPD_CMD]; omega))) ?_ | with_reducible apply Block.caskIn_hi K | with_reducible refine Block.raiseEvt_hi K _ _ _ (by first | decide | (simp only [ge_iff_le]; omega)) ?_ | with_reducible apply Block.endTransfer_hi K | with_reducible apply Block.caskEmpty_hi K | with_reducible apply Block.revertTo_hi K | with_reducible refine ite_keep ?_ ?_ | split | dsimp only | with_reducible refine pair_keep (by with_reducible assumption) ?_ | with_reducible refine pair_keep' (by with_reducible assumption) ?_)

theorem Block.rackAbandon_hi (K : KeptHigh Q) (b : Block) (kind phase seg : Nat) (hb : Q b.regs) : Q (Block.rackAbandon b kind phase seg).regs := by
  unfold Block.rackAbandon
  repeat' (first | with_reducible assumption | with_reducible refine Block.fset_hi K _ _ _ (by first | decide | (simp only [F.UPD_RACK_KIND, F.UPD_RACK_PHASE, F.UPD_RACK_SEGMENT, Reg.SYS_STATE, Reg.UPD_CASK_VIN, Reg.UPD_RACK]; omega) | (split <;> (simp only [F.UPD_RACK_KIND, F.UPD_RACK_PHASE, F.UPD_RACK_SEGMENT, Reg.SYS_STATE, Reg.UPD_CASK_VIN, Reg.UPD_RACK]; omega))) ?_ | with_reducible apply Block.caskInvalid_hi K | with_reducible apply Block.celRequest_hi K | with_reducible refine Block.event_hi K _ _ _ _ _ (by first | decide | (simp only [ge_iff_le]; omega)) ?_ | with_reducible refine ite_keep ?_ ?_ | dsimp only)

theorem Block.rackHalt_hi (K : KeptHigh Q) (b : Block) (kind phase seg : Nat) (hb : Q b.regs) : Q (Block.rackHalt b kind phase seg).regs := by
  unfold Block.rackHalt
  repeat' (first | with_reducible assumption | with_reducible refine Block.fset_hi K _ _ _ (by first | decide | (simp only [F.UPD_RACK_KIND, F.UPD_RACK_PHASE, F.UPD_RACK_SEGMENT, Reg.SYS_STATE, Reg.UPD_RACK]; omega) | (split <;> (simp only [F.UPD_RACK_KIND, F.UPD_RACK_PHASE, F.UPD_RACK_SEGMENT, Reg.SYS_STATE, Reg.UPD_RACK]; omega))) ?_ | with_reducible apply Block.celRequest_hi K | with_reducible refine ite_keep ?_ ?_ | dsimp only)

theorem Block.rackApplication_hi (K : KeptHigh Q) (b : Block) (m : Manifest) (payload : List Nat) (hb : Q b.regs) : Q (Block.rackApplication b m payload).regs := by
  unfold Block.rackApplication
  repeat' (first | with_reducible assumption | dsimp only)

theorem Block.freshen_hi (K : KeptHigh Q) (b : Block) (restart : Bool) (hb : Q b.regs) : Q (Block.freshen b restart).regs := by
  unfold Block.freshen
  repeat' (first | with_reducible assumption | with_reducible refine ite_keep ?_ ?_ | dsimp only)

theorem Block.areaState_hi (K : KeptHigh Q) (b : Block) (k : Nat) (bad : Bool) (hb : Q b.regs) : Q (Block.areaState b k bad).regs := by
  unfold Block.areaState
  repeat' (first | with_reducible assumption | with_reducible refine Block.fset_hi K _ _ _ (by first | decide | (simp only [Reg.CEL_AREA, Reg.SYS_STATE]; omega) | (split <;> (simp only [Reg.CEL_AREA, Reg.SYS_STATE]; omega))) ?_ | with_reducible refine ite_keep ?_ ?_ | dsimp only)

theorem Block.areaUsed_hi (K : KeptHigh Q) (b : Block) (k : Nat) (hb : Q b.regs) : Q (Block.areaUsed b k).regs := by
  unfold Block.areaUsed
  repeat' (first | with_reducible assumption | with_reducible apply Block.free_hi K | with_reducible refine Block.fset_hi K _ _ _ (by first | decide | (simp only [Reg.CEL_AREA, Reg.SYS_STATE]; omega) | (split <;> (simp only [Reg.CEL_AREA, Reg.SYS_STATE]; omega))) ?_ | split | dsimp only | with_reducible refine pair_keep (by with_reducible assumption) ?_ | with_reducible refine pair_keep' (by with_reducible assumption) ?_)

theorem Block.startCellar_hi (K : KeptHigh Q) (b : Block) (i : StartIn) (hb : Q b.regs) : Q (Block.startCellar b i).regs := by
  unfold Block.startCellar
  repeat' (first | with_reducible assumption | with_reducible refine Block.fset_hi K _ _ _ (by first | decide | (simp only [F.CEL_LIFE_SPARE, F.CEL_LIFE_USED, F.CEL_STAT_LIFE_WARN, F.CEL_STAT_READONLY, F.CEL_STAT_READY, Reg.CEL_AREA, Reg.CEL_LIFE, Reg.CEL_STAT, Reg.SYS_STATE]; omega) | (split <;> (simp only [F.CEL_LIFE_SPARE, F.CEL_LIFE_USED, F.CEL_STAT_LIFE_WARN, F.CEL_STAT_READONLY, F.CEL_STAT_READY, Reg.CEL_AREA, Reg.CEL_LIFE, Reg.CEL_STAT, Reg.SYS_STATE]; omega))) ?_ | with_reducible refine Block.when_keep _ _ _ ?_ (fun _ => ?_) | with_reducible refine Block.raiseEvt_hi K _ _ _ (by first | decide | (simp only [ge_iff_le]; omega)) ?_ | with_reducible refine Block.fsetB_hi K _ _ _ (by first | decide | (simp only [F.CEL_LIFE_SPARE, F.CEL_LIFE_USED, F.CEL_STAT_LIFE_WARN, F.CEL_STAT_READONLY, F.CEL_STAT_READY, Reg.CEL_AREA, Reg.CEL_LIFE, Reg.CEL_STAT, Reg.SYS_STATE]; omega) | (split <;> (simp only [F.CEL_LIFE_SPARE, F.CEL_LIFE_USED, F.CEL_STAT_LIFE_WARN, F.CEL_STAT_READONLY, F.CEL_STAT_READY, Reg.CEL_AREA, Reg.CEL_LIFE, Reg.CEL_STAT, Reg.SYS_STATE]; omega))) ?_ | with_reducible refine Block.forAll_keep _ _ _ ?_ (fun _ _ _ => ?_) | with_reducible apply Block.areaUsed_hi K | dsimp only | intro _)

theorem Block.islTested_hi (K : KeptHigh Q) (b : Block) (passed : Bool) (hb : Q b.regs) : Q (Block.islTested b passed).regs := by
  unfold Block.islTested
  repeat' (first | with_reducible assumption | with_reducible refine Block.fset_hi K _ _ _ (by first | decide | (simp only [F.SAF_TEST_FAIL_CODE, F.SAF_TEST_RESULT, Reg.SAF_TEST, Reg.SYS_STATE]; omega) | (split <;> (simp only [F.SAF_TEST_FAIL_CODE, F.SAF_TEST_RESULT, Reg.SAF_TEST, Reg.SYS_STATE]; omega))) ?_ | with_reducible refine Block.raiseEvt_hi K _ _ _ (by first | decide | (simp only [ge_iff_le]; omega)) ?_ | with_reducible apply Block.free_hi K | with_reducible refine ite_keep ?_ ?_ | split | dsimp only | with_reducible refine pair_keep (by with_reducible assumption) ?_ | with_reducible refine pair_keep' (by with_reducible assumption) ?_)

theorem Block.startIsland_hi (K : KeptHigh Q) (b : Block) (cause : Nat) (hb : Q b.regs) : Q (Block.startIsland b cause).regs := by
  unfold Block.startIsland
  repeat' (first | with_reducible assumption | with_reducible refine Block.fset_hi K _ _ _ (by first | decide | (simp only [F.SAF_CLOCK_OSC_OK, F.SAF_STATE_STATE, F.SAF_STATE_SX_OK, F.SAF_STATE_SY_OK, Reg.SAF_CLOCK, Reg.SAF_STATE, Reg.SYS_STATE]; omega) | (split <;> (simp only [F.SAF_CLOCK_OSC_OK, F.SAF_STATE_STATE, F.SAF_STATE_SX_OK, F.SAF_STATE_SY_OK, Reg.SAF_CLOCK, Reg.SAF_STATE, Reg.SYS_STATE]; omega))) ?_ | with_reducible refine Block.fsetB_hi K _ _ _ (by first | decide | (simp only [F.SAF_CLOCK_OSC_OK, F.SAF_STATE_STATE, F.SAF_STATE_SX_OK, F.SAF_STATE_SY_OK, Reg.SAF_CLOCK, Reg.SAF_STATE, Reg.SYS_STATE]; omega) | (split <;> (simp only [F.SAF_CLOCK_OSC_OK, F.SAF_STATE_STATE, F.SAF_STATE_SX_OK, F.SAF_STATE_SY_OK, Reg.SAF_CLOCK, Reg.SAF_STATE, Reg.SYS_STATE]; omega))) ?_ | with_reducible apply Block.islTested_hi K | with_reducible apply Block.lockout_hi K | with_reducible refine ite_keep ?_ ?_ | dsimp only)

theorem Block.startMarker_hi (K : KeptHigh Q) (b : Block) (hb : Q b.regs) : Q (Block.startMarker b).regs := by
  unfold Block.startMarker
  repeat' (first | with_reducible assumption | with_reducible apply Block.recRegs_hi K | split | dsimp only | with_reducible refine pair_keep (by with_reducible assumption) ?_ | with_reducible refine pair_keep' (by with_reducible assumption) ?_)

theorem Block.startRecords_hi (K : KeptHigh Q) (b : Block) (restart : Bool) (hb : Q b.regs) : Q (Block.startRecords b restart).regs := by
  unfold Block.startRecords
  repeat' (first | with_reducible assumption | with_reducible apply Block.recAccept_hi K | with_reducible refine Block.when_keep _ _ _ ?_ (fun _ => ?_) | with_reducible apply Block.timeMark_hi K | dsimp only | intro _)

theorem Block.startBands_hi (K : KeptHigh Q) (b : Block) (hb : Q b.regs) : Q (Block.startBands b).regs := by
  unfold Block.startBands
  repeat' (first | with_reducible assumption | with_reducible refine Block.forAll_keep _ _ _ ?_ (fun _ _ _ => ?_) | with_reducible refine Block.fset_hi K _ _ _ (by first | decide | (simp only [F.DSB_BAND_FRAMES, F.DSB_BAND_LOWER, F.DSB_BAND_VDRV, Reg.DSB_BAND, Reg.SYS_STATE]; omega) | (split <;> (simp only [F.DSB_BAND_FRAMES, F.DSB_BAND_LOWER, F.DSB_BAND_VDRV, Reg.DSB_BAND, Reg.SYS_STATE]; omega))) ?_ | with_reducible refine ite_keep ?_ ?_ | dsimp only | intro _)

theorem Block.startVersions_hi (K : KeptHigh Q) (b : Block) (hb : Q b.regs) : Q (Block.startVersions b).regs := by
  unfold Block.startVersions
  repeat' (first | with_reducible assumption | with_reducible refine Block.setRegN_hi K _ _ _ (by first | decide | (simp only [Reg.BLK_CAP, Reg.SYS_STATE]; omega) | (split <;> (simp only [Reg.BLK_CAP, Reg.SYS_STATE]; omega))) ?_ | dsimp only)

theorem Block.awaitJoin_hi (K : KeptHigh Q) (b : Block) (hb : Q b.regs) : Q (Block.awaitJoin b).regs := keep_red _ hb

theorem Block.prpNode_hi (K : KeptHigh Q) (b : Block) (mac : Nat) (hb : Q b.regs) : Q (Block.prpNode b mac).1.regs := by
  unfold Block.prpNode
  repeat' (first | with_reducible assumption | with_reducible refine Block.fset_hi K _ _ _ (by first | decide | (simp only [F.PRP_STAT_NODES, Reg.PRP_STAT, Reg.SYS_STATE]; omega) | (split <;> (simp only [F.PRP_STAT_NODES, Reg.PRP_STAT, Reg.SYS_STATE]; omega))) ?_ | with_reducible refine Block.raiseEvt_hi K _ _ _ (by first | decide | (simp only [ge_iff_le]; omega)) ?_ | with_reducible refine ite_keep ?_ ?_ | split | dsimp only | intro _)

theorem Block.passUp_hi (K : KeptHigh Q) (b : Block) (f : PrpRx) (hb : Q b.regs) : Q (Block.passUp b f).regs := by
  unfold Block.passUp
  repeat' (first | with_reducible assumption | with_reducible refine Block.incSat_hi K _ _ (by first | decide | (simp only [F.NET_FRAG_CNT_COUNT, Reg.NET_FRAG_CNT, Reg.SYS_STATE]; omega) | (split <;> (simp only [F.NET_FRAG_CNT_COUNT, Reg.NET_FRAG_CNT, Reg.SYS_STATE]; omega))) ?_ | with_reducible apply Block.send_hi K | with_reducible refine ite_keep ?_ ?_ | dsimp only)

theorem Block.lanHeard_hi (K : KeptHigh Q) (b : Block) (portB : Bool) (hb : Q b.regs) : Q (Block.lanHeard b portB).regs := by
  unfold Block.lanHeard
  repeat' (first | with_reducible assumption | with_reducible refine ite_keep ?_ ?_ | dsimp only)

theorem Block.setPtpPort_hi (K : KeptHigh Q) (b : Block) (portB : Bool) (p : PtpPort) (hb : Q b.regs) : Q (Block.setPtpPort b portB p).regs := by
  unfold Block.setPtpPort
  repeat' (first | with_reducible assumption | with_reducible refine ite_keep ?_ ?_ | dsimp only)

theorem Block.ptpShow_hi (K : KeptHigh Q) (b : Block) (hb : Q b.regs) : Q (Block.ptpShow b).regs := by
  unfold Block.ptpShow
  repeat' (first | with_reducible assumption | with_reducible refine Block.setPair_hi K _ _ _ (by first | decide | (simp only [F.PTP_STAT_GM_CLASS, F.PTP_UTC_OFFSET, F.PTP_UTC_VALID, Reg.PTP_GM_LO, Reg.PTP_MPD, Reg.PTP_STAT, Reg.PTP_UTC, Reg.SYS_STATE]; omega) | (split <;> (simp only [F.PTP_STAT_GM_CLASS, F.PTP_UTC_OFFSET, F.PTP_UTC_VALID, Reg.PTP_GM_LO, Reg.PTP_MPD, Reg.PTP_STAT, Reg.PTP_UTC, Reg.SYS_STATE]; omega))) ?_ | with_reducible refine Block.fset_hi K _ _ _ (by first | decide | (simp only [F.PTP_STAT_GM_CLASS, F.PTP_UTC_OFFSET, F.PTP_UTC_VALID, Reg.PTP_GM_LO, Reg.PTP_MPD, Reg.PTP_STAT, Reg.PTP_UTC, Reg.SYS_STATE]; omega) | (split <;> (simp only [F.PTP_STAT_GM_CLASS, F.PTP_UTC_OFFSET, F.PTP_UTC_VALID, Reg.PTP_GM_LO, Reg.PTP_MPD, Reg.PTP_STAT, Reg.PTP_UTC, Reg.SYS_STATE]; omega))) ?_ | with_reducible refine Block.setRegN_hi K _ _ _ (by first | decide | (simp only [F.PTP_STAT_GM_CLASS, F.PTP_UTC_OFFSET, F.PTP_UTC_VALID, Reg.PTP_GM_LO, Reg.PTP_MPD, Reg.PTP_STAT, Reg.PTP_UTC, Reg.SYS_STATE]; omega) | (split <;> (simp only [F.PTP_STAT_GM_CLASS, F.PTP_UTC_OFFSET, F.PTP_UTC_VALID, Reg.PTP_GM_LO, Reg.PTP_MPD, Reg.PTP_STAT, Reg.PTP_UTC, Reg.SYS_STATE]; omega))) ?_ | with_reducible refine Block.fsetB_hi K _ _ _ (by first | decide | (simp only [F.PTP_STAT_GM_CLASS, F.PTP_UTC_OFFSET, F.PTP_UTC_VALID, Reg.PTP_GM_LO, Reg.PTP_MPD, Reg.PTP_STAT, Reg.PTP_UTC, Reg.SYS_STATE]; omega) | (split <;> (simp only [F.PTP_STAT_GM_CLASS, F.PTP_UTC_OFFSET, F.PTP_UTC_VALID, Reg.PTP_GM_LO, Reg.PTP_MPD, Reg.PTP_STAT, Reg.PTP_UTC, Reg.SYS_STATE]; omega))) ?_ | with_reducible refine Block.when_keep _ _ _ ?_ (fun _ => ?_) | with_reducible refine Block.raiseEvt_hi K _ _ _ (by first | decide | (simp only [ge_iff_le]; omega)) ?_ | split | dsimp only | with_reducible refine pair_keep (by with_reducible assumption) ?_ | with_reducible refine pair_keep' (by with_reducible assumption) ?_ | intro _)

theorem Block.ptpMaster_hi (K : KeptHigh Q) (b : Block) (hb : Q b.regs) : Q (Block.ptpMaster b).regs := by
  unfold Block.ptpMaster
  repeat' (first | with_reducible assumption | dsimp only)

theorem Block.ptpSend_hi (K : KeptHigh Q) (b : Block) (portB : Bool) (kind : String) (event peer : Bool) (ws : List Nat) (hb : Q b.regs) : Q (Block.ptpSend b portB kind event peer ws).regs := by
  unfold Block.ptpSend
  repeat' (first | with_reducible assumption | with_reducible apply Block.send_hi K | dsimp only)

theorem Block.readMap_hi (K : KeptHigh Q) (b : Block) (mapOk : Bool) (hb : Q b.regs) : Q (Block.readMap b mapOk).regs := by
  unfold Block.readMap
  repeat' (first | with_reducible assumption | with_reducible refine Block.fsetB_hi K _ _ _ (by first | decide | (simp only [F.DSE_STAT_UNIF_OK, Reg.DSE_STAT, Reg.SYS_STATE]; omega) | (split <;> (simp only [F.DSE_STAT_UNIF_OK, Reg.DSE_STAT, Reg.SYS_STATE]; omega))) ?_ | with_reducible refine Block.when_keep _ _ _ ?_ (fun _ => ?_) | with_reducible refine Block.event_hi K _ _ _ _ _ (by first | decide | (simp only [ge_iff_le]; omega)) ?_ | with_reducible refine ite_keep ?_ ?_ | dsimp only | intro _)

theorem Block.takeSwap_hi (K : KeptHigh Q) (b : Block) (hb : Q b.regs) : Q (Block.takeSwap b).regs := by
  unfold Block.takeSwap
  repeat' (first | with_reducible assumption | with_reducible refine Block.fset_hi K _ _ _ (by first | decide | (simp only [F.DSE_PCTL_SWAP, Reg.DSE_PBLINK, Reg.DSE_PCTL, Reg.DSE_PTEXT, Reg.SYS_STATE]; omega) | (split <;> (simp only [F.DSE_PCTL_SWAP, Reg.DSE_PBLINK, Reg.DSE_PCTL, Reg.DSE_PTEXT, Reg.SYS_STATE]; omega))) ?_ | with_reducible refine Block.raiseEvt_hi K _ _ _ (by first | decide | (simp only [ge_iff_le]; omega)) ?_ | with_reducible refine ite_keep ?_ ?_ | dsimp only | intro _)

theorem Block.writeLines_hi (K : KeptHigh Q) (b : Block) (frame : List (List Nat)) (attrs : List Nat) (hb : Q b.regs) : Q (Block.writeLines b frame attrs).regs := by
  unfold Block.writeLines
  repeat' (first | with_reducible assumption | with_reducible refine Block.forAll_keep _ _ _ ?_ (fun _ _ _ => ?_) | with_reducible apply Block.send_hi K | with_reducible refine Block.addSat_hi K _ _ _ (by first | decide | (simp only [F.DSE_LINE_CNT_COUNT, Reg.DSE_LINE_CNT, Reg.SYS_STATE]; omega) | (split <;> (simp only [F.DSE_LINE_CNT_COUNT, Reg.DSE_LINE_CNT, Reg.SYS_STATE]; omega))) ?_ | with_reducible refine Block.when_keep _ _ _ ?_ (fun _ => ?_) | dsimp only | intro _)

theorem Block.btnLevels_hi (K : KeptHigh Q) (b : Block) (held : Nat) (hb : Q b.regs) : Q (Block.btnLevels b held).regs := by
  unfold Block.btnLevels
  repeat' (first | with_reducible assumption | with_reducible refine Block.fset_hi K _ _ _ (by first | decide | (simp only [Reg.BTN_STAT, Reg.SYS_STATE]; omega) | (split <;> (simp only [Reg.BTN_STAT, Reg.SYS_STATE]; omega))) ?_ | dsimp only)

theorem Block.accept_hi (K : KeptHigh Q) (b : Block) (kind button : Nat) (hb : Q b.regs) : Q (Block.accept b kind button).regs := by
  unfold Block.accept
  repeat' (first | with_reducible assumption | with_reducible refine Block.fset_hi K _ _ _ (by first | decide | (simp only [F.BTN_LAST_BUTTON, F.BTN_LAST_KIND, F.BTN_PRESS_CNT_COUNT, F.DSE_STAT_DIMMED, Reg.BTN_LAST, Reg.BTN_PRESS_CNT, Reg.DSE_STAT, Reg.SYS_STATE]; omega) | (split <;> (simp only [F.BTN_LAST_BUTTON, F.BTN_LAST_KIND, F.BTN_PRESS_CNT_COUNT, F.DSE_STAT_DIMMED, Reg.BTN_LAST, Reg.BTN_PRESS_CNT, Reg.DSE_STAT, Reg.SYS_STATE]; omega))) ?_ | with_reducible refine Block.incSat_hi K _ _ (by first | decide | (simp only [F.BTN_LAST_BUTTON, F.BTN_LAST_KIND, F.BTN_PRESS_CNT_COUNT, F.DSE_STAT_DIMMED, Reg.BTN_LAST, Reg.BTN_PRESS_CNT, Reg.DSE_STAT, Reg.SYS_STATE]; omega) | (split <;> (simp only [F.BTN_LAST_BUTTON, F.BTN_LAST_KIND, F.BTN_PRESS_CNT_COUNT, F.DSE_STAT_DIMMED, Reg.BTN_LAST, Reg.BTN_PRESS_CNT, Reg.DSE_STAT, Reg.SYS_STATE]; omega))) ?_ | with_reducible refine Block.raiseEvt_hi K _ _ _ (by first | decide | (simp only [ge_iff_le]; omega)) ?_ | dsimp only)

theorem Block.calStep_hi (K : KeptHigh Q) (b : Block) (k : Nat) (hb : Q b.regs) : Q (Block.calStep b k).regs := by
  unfold Block.calStep
  repeat' (first | with_reducible assumption | with_reducible refine Block.fset_hi K _ _ _ (by first | decide | (simp only [F.BTN_STAT_CAL_CH, F.BTN_STAT_CAL_STEP, Reg.BTN_STAT, Reg.SYS_STATE]; omega) | (split <;> (simp only [F.BTN_STAT_CAL_CH, F.BTN_STAT_CAL_STEP, Reg.BTN_STAT, Reg.SYS_STATE]; omega))) ?_ | dsimp only)

theorem Block.calMove_hi (K : KeptHigh Q) (b : Block) (up : Bool) (hb : Q b.regs) : Q (Block.calMove b up).regs := by
  unfold Block.calMove
  repeat' (first | with_reducible assumption | with_reducible apply Block.calStep_hi K | with_reducible refine ite_keep ?_ ?_ | split | dsimp only | with_reducible refine pair_keep (by with_reducible assumption) ?_ | with_reducible refine pair_keep' (by with_reducible assumption) ?_)

theorem Block.calTake_hi (K : KeptHigh Q) (b : Block) (span : Bool) (hb : Q b.regs) : Q (Block.calTake b span).regs := by
  unfold Block.calTake
  repeat' (first | with_reducible assumption | with_reducible refine Block.setRegN_hi K _ _ _ (by first | decide | (simp only [F.CH_RES_CODE, Reg.CH_CAL_REF, Reg.CH_RES, Reg.SYS_STATE]; omega) | (split <;> (simp only [F.CH_RES_CODE, Reg.CH_CAL_REF, Reg.CH_RES, Reg.SYS_STATE]; omega))) ?_ | with_reducible apply Block.calPoint_hi K | with_reducible apply Block.calStep_hi K | with_reducible refine ite_keep ?_ ?_ | dsimp only)

theorem Block.calConfirm_hi (K : KeptHigh Q) (b : Block) (hb : Q b.regs) : Q (Block.calConfirm b).regs := by
  unfold Block.calConfirm
  repeat' (first | with_reducible assumption | with_reducible apply Block.calOpenBy_hi K | with_reducible apply Block.calStep_hi K | with_reducible refine Block.fset_hi K _ _ _ (by first | decide | (simp only [F.BTN_STAT_CAL_OPEN, F.BTN_STAT_CAL_STEP, F.CH_RES_CODE, Reg.BTN_STAT, Reg.CH_RES, Reg.SYS_STATE]; omega) | (split <;> (simp only [F.BTN_STAT_CAL_OPEN, F.BTN_STAT_CAL_STEP, F.CH_RES_CODE, Reg.BTN_STAT, Reg.CH_RES, Reg.SYS_STATE]; omega))) ?_ | with_reducible refine Block.raiseEvt_hi K _ _ _ (by first | decide | (simp only [ge_iff_le]; omega)) ?_ | with_reducible apply Block.calTake_hi K | with_reducible apply Block.calCommitBy_hi K | with_reducible refine ite_keep ?_ ?_ | split | dsimp only | with_reducible refine pair_keep (by with_reducible assumption) ?_ | with_reducible refine pair_keep' (by with_reducible assumption) ?_)

theorem Block.shortPress_hi (K : KeptHigh Q) (b : Block) (button : Nat) (hb : Q b.regs) : Q (Block.shortPress b button).regs := by
  unfold Block.shortPress
  repeat' (first | with_reducible assumption | with_reducible apply Block.calConfirm_hi K | with_reducible apply Block.calMove_hi K | with_reducible apply Block.calStep_hi K | with_reducible refine ite_keep ?_ ?_ | dsimp only)

theorem Block.supplyBack_hi (K : KeptHigh Q) (b : Block) (hb : Q b.regs) : Q (Block.supplyBack b).regs := by
  unfold Block.supplyBack
  repeat' (first | with_reducible assumption | with_reducible apply Block.fieldBack_hi K | with_reducible refine Block.when_keep _ _ _ ?_ (fun _ => ?_) | with_reducible refine Block.fset_hi K _ _ _ (by first | decide | (simp only [Reg.SAF_CAUSES, Reg.SAF_CLEARED, Reg.SYS_STATE]; omega) | (split <;> (simp only [Reg.SAF_CAUSES, Reg.SAF_CLEARED, Reg.SYS_STATE]; omega))) ?_ | dsimp only | intro _)

theorem Block.chgRestore_hi (K : KeptHigh Q) (b : Block) (v : Nat) (hb : Q b.regs) : Q (Block.chgRestore b v).regs := by
  unfold Block.chgRestore
  repeat' (first | with_reducible assumption | with_reducible refine Block.fset_hi K _ _ _ (by first | decide | (simp only [F.CHG_CMD_RESTORE, F.CHG_FP_STAT_TRIPPED, F.CHG_FP_STAT_UNDERVOLT, Reg.CHG_CMD, Reg.CHG_FP_STAT, Reg.SYS_STATE]; omega) | (split <;> (simp only [F.CHG_CMD_RESTORE, F.CHG_FP_STAT_TRIPPED, F.CHG_FP_STAT_UNDERVOLT, Reg.CHG_CMD, Reg.CHG_FP_STAT, Reg.SYS_STATE]; omega))) ?_ | with_reducible apply Block.supplyBack_hi K | with_reducible refine ite_keep ?_ ?_ | dsimp only)

theorem Block.fabRefused_hi (K : KeptHigh Q) (b : Block) (off code : Nat) (hb : Q b.regs) : Q (Block.fabRefused b off code).regs := by
  unfold Block.fabRefused
  repeat' (first | with_reducible assumption | with_reducible refine Block.fset_hi K _ _ _ (by first | decide | (simp only [F.DSE_RES_CODE, Reg.DSE_CFG, Reg.DSE_RES, Reg.SYS_STATE]; omega) | (split <;> (simp only [F.DSE_RES_CODE, Reg.DSE_CFG, Reg.DSE_RES, Reg.SYS_STATE]; omega))) ?_ | with_reducible refine Block.raiseEvt_hi K _ _ _ (by first | decide | (simp only [ge_iff_le]; omega)) ?_ | with_reducible refine ite_keep ?_ ?_ | dsimp only)

theorem Block.answered_hi (K : KeptHigh Q) (r : Requester) (off : Nat) (q : Block × Nat) (hq : Q q.1.regs) : Q (Block.answered r off q).regs := by
  unfold Block.answered
  repeat' (first | with_reducible assumption | with_reducible apply Block.out_hi K | with_reducible refine ite_keep ?_ ?_ | dsimp only)

theorem Block.sspAnswer_hi (K : KeptHigh Q) (b : Block) (h : SspHdr) (sv result : Nat) (payload : List Nat) (hb : Q b.regs) : Q (Block.sspAnswer b h sv result payload).regs := by
  unfold Block.sspAnswer
  repeat' (first | with_reducible assumption | with_reducible apply Block.putSession_hi K | with_reducible apply Block.sspSend_hi K | split | dsimp only | with_reducible refine pair_keep (by with_reducible assumption) ?_ | with_reducible refine pair_keep' (by with_reducible assumption) ?_)

theorem Block.sspHeard_hi (K : KeptHigh Q) (b : Block) (s : Session) (hb : Q b.regs) : Q (Block.sspHeard b s).regs := by
  unfold Block.sspHeard
  repeat' (first | with_reducible assumption | with_reducible apply Block.putSession_hi K | dsimp only)

theorem Block.sspHold_hi (K : KeptHigh Q) (b : Block) (h : SspHdr) (sv : Nat) (i : SspReq) (hb : Q b.regs) : Q (Block.sspHold b h sv i).regs := by
  unfold Block.sspHold
  repeat' (first | with_reducible assumption | with_reducible apply Block.sspAnswer_hi K | with_reducible refine ite_keep ?_ ?_ | dsimp only | intro _)

theorem Block.sspRequest_hi (K : KeptHigh Q) (b : Block) (h : SspHdr) (sv : Nat) (i : SspHdr → SspReq) (perform : Session → Block → Block) (hb : Q b.regs) (hperform : ∀ x b, Q b.regs → Q (perform x b).regs) : Q (Block.sspRequest b h sv i perform).regs := by
  unfold Block.sspRequest
  repeat' (first | with_reducible assumption | with_reducible apply hperform | with_reducible refine Block.incSat_hi K _ _ (by first | decide | (simp only [F.NET_DROP_CNT_COUNT, Reg.NET_DROP_CNT, Reg.SYS_STATE]; omega) | (split <;> (simp only [F.NET_DROP_CNT_COUNT, Reg.NET_DROP_CNT, Reg.SYS_STATE]; omega))) ?_ | with_reducible apply Block.sspHeard_hi K | with_reducible apply Block.sspSend_hi K | with_reducible apply Block.sspHold_hi K | with_reducible apply Block.sspAnswer_hi K | with_reducible refine ite_keep ?_ ?_ | split | dsimp only | with_reducible refine pair_keep (by with_reducible assumption) ?_ | with_reducible refine pair_keep' (by with_reducible assumption) ?_ | intro _)

theorem Block.openRefused_hi (K : KeptHigh Q) (b : Block) (o : SspOpen) (result : Nat) (payload : List Nat) (hb : Q b.regs) : Q (Block.openRefused b o result payload).regs := by
  unfold Block.openRefused
  repeat' (first | with_reducible assumption | with_reducible refine Block.incSat_hi K _ _ (by first | decide | (simp only [F.NET_REFUSE_CNT_COUNT, Reg.NET_REFUSE_CNT, Reg.SYS_STATE]; omega) | (split <;> (simp only [F.NET_REFUSE_CNT_COUNT, Reg.NET_REFUSE_CNT, Reg.SYS_STATE]; omega))) ?_ | with_reducible apply Block.sspSend_hi K | dsimp only)

theorem Block.openSession_hi (K : KeptHigh Q) (b : Block) (o : SspOpen) (ver : Nat) (hb : Q b.regs) : Q (Block.openSession b o ver).regs := by
  unfold Block.openSession
  repeat' (first | with_reducible assumption | with_reducible apply Block.sessShow_hi K | with_reducible refine Block.raiseEvt_hi K _ _ _ (by first | decide | (simp only [ge_iff_le]; omega)) ?_ | with_reducible apply Block.sspSend_hi K | dsimp only)

theorem Block.openHold_hi (K : KeptHigh Q) (b : Block) (o : SspOpen) (hb : Q b.regs) : Q (Block.openHold b o).regs := by
  unfold Block.openHold
  repeat' (first | with_reducible assumption | dsimp only)

theorem Block.bootStatus_hi (K : KeptHigh Q) (b : Block) (hb : Q b.regs) : Q (Block.bootStatus b).2.regs := by
  unfold Block.bootStatus
  repeat' (first | with_reducible assumption | with_reducible apply Block.free_hi K | split | dsimp only)

theorem Block.pubEntry_hi (K : KeptHigh Q) (b : Block) (vid : Nat) (hb : Q b.regs) : Q (Block.pubEntry b vid).1.regs := by
  unfold Block.pubEntry
  repeat' (first | with_reducible assumption | with_reducible apply Block.free_hi K | split | dsimp only | with_reducible refine pair_keep (by with_reducible assumption) ?_ | with_reducible refine pair_keep' (by with_reducible assumption) ?_ | intro _)

theorem Block.publishVids_hi (K : KeptHigh Q) (b : Block) (n : Nat) (vids : List Nat) (hb : Q b.regs) : Q (Block.publishVids b n vids).regs := by
  have key : ∀ (l : List Nat) (q : Block × List Nat), Q q.1.regs →
      Q (l.foldl (fun (q : Block × List Nat) v => ((q.1.pubEntry v).1, q.2 ++ (q.1.pubEntry v).2)) q).1.regs := by
    intro l
    induction l with
    | nil => intro q h; exact h
    | cons x l ih => intro q h; exact ih _ (Block.pubEntry_hi K _ _ h)
  unfold Block.publishVids
  extract_lets q
  exact Block.pubSend_hi K _ _ _ (key vids (b, []) hb)

theorem Block.setTransfer_hi (K : KeptHigh Q) (b : Block) (t : Option Transfer) (hb : Q b.regs) : Q (Block.setTransfer b t).regs := by
  unfold Block.setTransfer
  repeat' (first | with_reducible assumption | dsimp only)

theorem Block.transferDone_hi (K : KeptHigh Q) (b : Block) (hb : Q b.regs) : Q (Block.transferDone b).regs := by
  unfold Block.transferDone
  repeat' (first | with_reducible assumption | with_reducible apply Block.setTransfer_hi K | with_reducible refine Block.raiseEvt_hi K _ _ _ (by first | decide | (simp only [ge_iff_le]; omega)) ?_ | dsimp only)

theorem Block.setCask_hi (K : KeptHigh Q) (b : Block) (c : Cask) (hb : Q b.regs) : Q (Block.setCask b c).regs := by
  unfold Block.setCask
  repeat' (first | with_reducible assumption | dsimp only)

theorem Block.caskWhole_hi (K : KeptHigh Q) (b : Block) (c : Cask) (m : Manifest) (hb : Q b.regs) : Q (Block.caskWhole b c m).regs := by
  unfold Block.caskWhole
  repeat' (first | with_reducible assumption | with_reducible apply Block.caskIn_hi K | with_reducible refine Block.raiseEvt_hi K _ _ _ (by first | decide | (simp only [ge_iff_le]; omega)) ?_ | with_reducible apply Block.transferDone_hi K | with_reducible refine ite_keep ?_ ?_ | dsimp only)

theorem Block.manifestChunk_hi (K : KeptHigh Q) (b : Block) (c : Cask) (i : Nat) (data : List Nat) (hb : Q b.regs) : Q (Block.manifestChunk b c i data).regs := by
  unfold Block.manifestChunk
  repeat' (first | with_reducible assumption | with_reducible apply Block.setCask_hi K | with_reducible apply Block.celRequest_hi K | with_reducible apply Block.caskInvalid_hi K | with_reducible apply Block.endTransfer_hi K | with_reducible apply Block.caskShow_hi K | with_reducible refine Block.raiseEvt_hi K _ _ _ (by first | decide | (simp only [ge_iff_le]; omega)) ?_ | with_reducible apply Block.caskWhole_hi K | with_reducible refine ite_keep ?_ ?_ | dsimp only | intro _)

theorem Block.payloadChunk_hi (K : KeptHigh Q) (b : Block) (c : Cask) (m : Manifest) (j : Nat) (data : List Nat) (hb : Q b.regs) : Q (Block.payloadChunk b c m j data).regs := by
  unfold Block.payloadChunk
  repeat' (first | with_reducible assumption | with_reducible apply Block.setCask_hi K | with_reducible apply Block.caskShow_hi K | with_reducible apply Block.celRequest_hi K | with_reducible apply Block.caskWhole_hi K | with_reducible refine Block.incSat_hi K _ _ (by first | decide | (simp only [F.UPD_CHUNK_ERR_CNT_COUNT, Reg.SYS_STATE, Reg.UPD_CHUNK_ERR_CNT]; omega) | (split <;> (simp only [F.UPD_CHUNK_ERR_CNT_COUNT, Reg.SYS_STATE, Reg.UPD_CHUNK_ERR_CNT]; omega))) ?_ | with_reducible refine Block.raiseEvt_hi K _ _ _ (by first | decide | (simp only [ge_iff_le]; omega)) ?_ | with_reducible refine ite_keep ?_ ?_ | dsimp only)

theorem Block.caskPiece_hi (K : KeptHigh Q) (b : Block) (t : Transfer) (i off : Nat) (data : List Nat) (hb : Q b.regs) : Q (Block.caskPiece b t i off data).regs := by
  unfold Block.caskPiece
  repeat' (first | with_reducible assumption | with_reducible refine Block.incSat_hi K _ _ (by first | decide | (simp only [F.UPD_CHUNK_ERR_CNT_COUNT, Reg.SYS_STATE, Reg.UPD_CHUNK_ERR_CNT]; omega) | (split <;> (simp only [F.UPD_CHUNK_ERR_CNT_COUNT, Reg.SYS_STATE, Reg.UPD_CHUNK_ERR_CNT]; omega))) ?_ | with_reducible apply Block.setTransfer_hi K | with_reducible apply Block.payloadChunk_hi K | with_reducible apply Block.manifestChunk_hi K | with_reducible refine ite_keep ?_ ?_ | with_reducible apply id_keep | split | dsimp only | with_reducible refine pair_keep (by with_reducible assumption) ?_ | with_reducible refine pair_keep' (by with_reducible assumption) ?_)

theorem Block.caskBegin_hi (K : KeptHigh Q) (b : Block) (n size ident : Nat) (hb : Q b.regs) : Q (Block.caskBegin b n size ident).1.regs := by
  unfold Block.caskBegin
  repeat' (first | with_reducible assumption | with_reducible refine Block.fset_hi K _ _ _ (by first | decide | (simp only [F.CEL_STAT_READONLY, F.UPD_RES_CODE, Reg.CEL_STAT, Reg.SYS_STATE, Reg.UPD_RES]; omega) | (split <;> (simp only [F.CEL_STAT_READONLY, F.UPD_RES_CODE, Reg.CEL_STAT, Reg.SYS_STATE, Reg.UPD_RES]; omega))) ?_ | with_reducible apply Block.setCask_hi K | with_reducible apply Block.caskIn_hi K | with_reducible apply Block.setTransfer_hi K | with_reducible refine ite_keep ?_ ?_ | split | dsimp only | with_reducible refine pair_keep (by with_reducible assumption) ?_ | with_reducible refine pair_keep' (by with_reducible assumption) ?_)

theorem Block.imgBegin_hi (K : KeptHigh Q) (b : Block) (n size ident version : Nat) (hb : Q b.regs) : Q (Block.imgBegin b n size ident version).1.regs := by
  unfold Block.imgBegin
  repeat' (first | with_reducible assumption | with_reducible apply Block.setTransfer_hi K | with_reducible apply Block.loadResult_hi K | with_reducible refine ite_keep ?_ ?_ | split | dsimp only)

theorem Block.recApply_hi (K : KeptHigh Q) (b : Block) (c : Nat) (r : EvRec) (hb : Q b.regs) : Q (Block.recApply b c r).1.regs := by
  unfold Block.recApply
  repeat' (first | with_reducible assumption | with_reducible apply Block.recQueue_hi K | with_reducible apply Block.recDrop_hi K | with_reducible refine ite_keep ?_ ?_ | split | dsimp only)

theorem Block.stallOver_hi (K : KeptHigh Q) (b : Block) (hb : Q b.regs) : Q (Block.stallOver b).regs := by
  unfold Block.stallOver
  repeat' (first | with_reducible assumption | dsimp only | intro _)

end Sys2Proof.Machine
end

