-- ==== Sys2Proof/Laws/KeepState.lean ====
section
/-! SUPPORT. Which operations leave SYS_STATE, the register of the module state, as it was (R11, R430). -/

set_option linter.unusedVariables false
set_option linter.unusedSimpArgs false

namespace Sys2Proof.Machine

/-- A claim about the register store that every write of a register other than SYS_STATE keeps. -/
structure KeptBySt (Q : List (Nat × Word) → Prop) : Prop where
  set : ∀ (m : List (Nat × Word)) (off : Nat) (v : Word), off ≠ Reg.SYS_STATE → Q m → Q (storeSet (regReset off) m off v)
  fld : ∀ (b : Block) (f : Fld) (v : Nat), f.off = Reg.SYS_STATE → 3 ≤ f.lo ∧ f.lo + f.w ≤ 32 → Q b.regs → Q (b.fset f v).regs
  same : ∀ m : List (Nat × Word), Q m →
    Q (storeSet (regReset Reg.SYS_STATE) m Reg.SYS_STATE (storeGet (regReset Reg.SYS_STATE) m Reg.SYS_STATE))

variable {Q : List (Nat × Word) → Prop}

/-- The module state that a register store shows. -/
def storedState (m : List (Nat × Word)) : Nat := bits (storeGet (regReset Reg.SYS_STATE) m Reg.SYS_STATE).toNat 0 3

theorem modState_eq (b : Block) : b.modState = storedState b.regs := rfl

/-- SYS_STATE shows some module state. -/
theorem keptBySt_mod (w : Nat) : KeptBySt fun m => storedState m = w where
  set m off v h hq := by rw [← hq]; exact congrArg (fun x : Word => bits x.toNat 0 3) (storeGet_storeSet_ne _ _ _ _ (Ne.symm h))
  fld b f v ho hw hq := by
    rw [← hq, ← modState_eq, ← modState_eq]
    exact Block.fget_fset_ne v hw.2 (.inr (.inl hw.1))
  same m hq := by rw [← hq]; exact congrArg (fun x : Word => bits x.toNat 0 3) (storeGet_storeSet_same _ _ _ _)

theorem Block.setReg_st (K : KeptBySt Q) (b : Block) (off : Nat) (v : Word) (ho : off ≠ Reg.SYS_STATE) (h : Q b.regs) : Q (b.setReg off v).regs :=
  K.set _ _ _ ho h

theorem Block.setRegN_st (K : KeptBySt Q) (b : Block) (off v : Nat) (ho : off ≠ Reg.SYS_STATE) (h : Q b.regs) : Q (b.setRegN off v).regs :=
  K.set _ _ _ ho h

/-- A field that is not SYS_STATE.STATE. -/
abbrev Fld.notState (f : Fld) : Prop := f.off ≠ Reg.SYS_STATE ∨ 3 ≤ f.lo ∧ f.lo + f.w ≤ 32

theorem Block.fset_st (K : KeptBySt Q) (b : Block) (f : Fld) (v : Nat) (ho : f.notState) (h : Q b.regs) : Q (b.fset f v).regs := by
  by_cases hf : f.off = Reg.SYS_STATE
  · exact K.fld _ _ _ hf (ho.resolve_left (fun k => k hf)) h
  · exact K.set _ _ _ hf h

theorem Block.fsetB_st (K : KeptBySt Q) (b : Block) (f : Fld) (v : Bool) (ho : f.notState) (h : Q b.regs) : Q (b.fsetB f v).regs :=
  Block.fset_st K _ _ _ ho h

theorem Block.incWrap_st (K : KeptBySt Q) (b : Block) (f : Fld) (ho : f.notState) (h : Q b.regs) : Q (b.incWrap f).regs :=
  Block.fset_st K _ _ _ ho h

theorem Block.addSat_st (K : KeptBySt Q) (b : Block) (f : Fld) (n : Nat) (ho : f.notState) (h : Q b.regs) : Q (b.addSat f n).regs :=
  Block.fset_st K _ _ _ ho h

theorem Block.incSat_st (K : KeptBySt Q) (b : Block) (f : Fld) (ho : f.notState) (h : Q b.regs) : Q (b.incSat f).regs :=
  Block.fset_st K _ _ _ ho h

theorem Block.setPair_st (K : KeptBySt Q) (b : Block) (lo v : Nat) (h1 : lo ≠ Reg.SYS_STATE) (h2 : lo + 4 ≠ Reg.SYS_STATE) (h : Q b.regs) :
    Q (b.setPair lo v).regs := K.set _ _ _ h2 (K.set _ _ _ h1 h)

theorem Block.stamp_st (K : KeptBySt Q) (b : Block) (lo hi : Nat) (h1 : lo ≠ Reg.SYS_STATE) (h2 : hi ≠ Reg.SYS_STATE) (h : Q b.regs) :
    Q (b.stamp lo hi).regs := K.set _ _ _ h2 (K.set _ _ _ h1 h)

theorem Block.raiseEvt_st (K : KeptBySt Q) (b : Block) (p e : Nat) (h : Q b.regs) : Q (b.raiseEvt p e).regs :=
  K.set _ _ _ (by simp only [Reg.BLK_EVT_RAW, Reg.SYS_STATE]; omega) h

theorem vsOk_notState (v : Nat) : (vsOk v).notState := by unfold vsOk; split <;> decide

theorem Block.setRegI_st (K : KeptBySt Q) (b : Block) (off : Nat) (v : Int) (ho : off ≠ Reg.SYS_STATE) (h : Q b.regs) :
    Q (b.setRegI off v).regs := K.set _ _ _ ho h

theorem Block.chMap_st (K : KeptBySt Q) (b : Block) (lo n : Nat) (v : Bool) (ho : Reg.SYS_STATE < lo) (h : Q b.regs) :
    Q (b.chMap lo n v).regs := Block.fsetB_st K _ _ _ (.inl (by show lo + _ ≠ _; omega)) h

theorem Block.islMap_st (K : KeptBySt Q) (b : Block) (lo : Nat) (f : Nat → Bool) (ho : Reg.SYS_STATE < lo) (h : Q b.regs) :
    Q (b.islMap lo f).regs := Block.setPair_st K _ _ _ (by omega) (by omega) h

/-- A write that carries nothing to SYS_STATE, whose fields are all read only, leaves it. -/
theorem stateRow_written (old v : Nat) : ∀ row, regRow Reg.SYS_STATE = some row → row.written old v = old := by
  intro row h
  have : regRow Reg.SYS_STATE = some ((regRow Reg.SYS_STATE).get rfl) := rfl
  rw [this] at h
  obtain rfl := Option.some.inj h
  rfl

theorem Block.storeWrite_st (K : KeptBySt Q) (b : Block) (off v : Nat) (h : Q b.regs) : Q (b.storeWrite off v).regs := by
  unfold Block.storeWrite
  dsimp only
  split
  · exact h
  · rename_i row hr
    have key : Q (b.setRegN off (row.written (b.regN off) v)).regs := by
      by_cases ho : off = Reg.SYS_STATE
      · subst ho
        rw [stateRow_written _ _ _ hr]
        have := K.same _ h
        simpa only [Block.setRegN, Block.setReg, Block.regN, Block.reg, BitVec.ofNat_toNat, BitVec.setWidth_eq] using this
      · exact K.set _ _ _ ho h
    split
    · exact Block.setReg_st K _ _ _ (by simp only [Reg.BLK_EVT_RAW, Reg.SYS_STATE]; omega) h
    · split
      · exact h
      · split
        · exact Block.raiseEvt_st K _ _ _ key
        · exact key

theorem Block.clearRc_st (K : KeptBySt Q) (b : Block) (off : Nat) (h : Q b.regs) : Q (b.clearRc off).regs := by
  unfold Block.clearRc
  split
  · exact h
  · rename_i row hr
    by_cases ho : off = Reg.SYS_STATE
    · subst ho
      have hk : row.fields.foldl (fun w f => if f.acc == .rc then putField w f.lo f.w 0 else w) (b.regN Reg.SYS_STATE) = b.regN Reg.SYS_STATE := by
        have : regRow Reg.SYS_STATE = some ((regRow Reg.SYS_STATE).get rfl) := rfl
        rw [this] at hr
        obtain rfl := Option.some.inj hr
        rfl
      rw [hk]
      have := K.same _ h
      simpa only [Block.setRegN, Block.setReg, Block.regN, Block.reg, BitVec.ofNat_toNat, BitVec.setWidth_eq] using this
    · exact K.set _ _ _ ho h


theorem Block.free_st (K : KeptBySt Q) (b : Block) (hb : Q b.regs) : Q (Block.free b).2.regs := by
  unfold Block.free
  repeat' (first | with_reducible assumption | split | dsimp only)

theorem Block.out_st (K : KeptBySt Q) (b : Block) (o : Out) (hb : Q b.regs) : Q (Block.out b o).regs := by
  unfold Block.out
  repeat' (first | with_reducible assumption | dsimp only)

theorem Block.send_st (K : KeptBySt Q) (b : Block) (p : Port) (kind : String) (ws : List Nat) (hb : Q b.regs) : Q (Block.send b p kind ws).regs := by
  unfold Block.send
  repeat' (first | with_reducible assumption | with_reducible apply Block.out_st K | dsimp only)

theorem Block.timed_st (K : KeptBySt Q) (b : Block) (t : Timer) (hb : Q b.regs) : Q (Block.timed b t).regs := by
  unfold Block.timed
  repeat' (first | with_reducible assumption | dsimp only)

theorem Block.untimed_st (K : KeptBySt Q) (b : Block) (t : Timer) (hb : Q b.regs) : Q (Block.untimed b t).regs := by
  unfold Block.untimed
  repeat' (first | with_reducible assumption | dsimp only)

theorem Block.setNow_st (K : KeptBySt Q) (b : Block) (t : Nat) (hb : Q b.regs) : Q (Block.setNow b t).regs := by
  unfold Block.setNow
  repeat' (first | with_reducible assumption | with_reducible refine Block.setRegN_st K _ _ _ (by first | decide | (simp only [Reg.SYS_STATE, Reg.TSU_EPOCH, Reg.TSU_TIME_HI, Reg.TSU_TIME_LO, ne_eq]; omega) | (split <;> decide)) ?_ | dsimp only)

theorem Block.queueFill_st (K : KeptBySt Q) (b : Block) (hb : Q b.regs) : Q (Block.queueFill b).regs := by
  unfold Block.queueFill
  repeat' (first | with_reducible assumption | with_reducible refine Block.fset_st K _ _ _ (by first | decide | exact vsOk_notState _ | (left; simp only [F.EVR_STAT_QUEUE, Reg.EVR_STAT, Reg.SYS_STATE, ne_eq]; omega) | (left; split <;> (simp only [F.EVR_STAT_QUEUE, Reg.EVR_STAT, Reg.SYS_STATE, ne_eq]; omega))) ?_ | with_reducible refine Block.when_keep _ _ _ ?_ (fun _ => ?_) | with_reducible apply Block.raiseEvt_st K | dsimp only)

theorem Block.recDrop_st (K : KeptBySt Q) (b : Block) (fill : Bool) (hb : Q b.regs) : Q (Block.recDrop b fill).regs := by
  unfold Block.recDrop
  repeat' (first | with_reducible assumption | with_reducible refine Block.incSat_st K _ _ (by first | decide | exact vsOk_notState _ | (left; simp only [F.EVR_DROP_CNT_VALUE, Reg.EVR_DROP_CNT, Reg.SYS_STATE, ne_eq]; omega) | (left; split <;> (simp only [F.EVR_DROP_CNT_VALUE, Reg.EVR_DROP_CNT, Reg.SYS_STATE, ne_eq]; omega))) ?_ | with_reducible apply Block.raiseEvt_st K | with_reducible refine ite_keep ?_ ?_ | dsimp only)

theorem Block.recQueue_st (K : KeptBySt Q) (b : Block) (r : EvRec) (hb : Q b.regs) : Q (Block.recQueue b r).regs := by
  unfold Block.recQueue
  repeat' (first | with_reducible assumption | with_reducible refine Block.incWrap_st K _ _ (by first | decide | exact vsOk_notState _ | (left; simp only [F.EVR_REC_CNT_VALUE, Reg.EVR_REC_CNT, Reg.SYS_STATE, ne_eq]; omega) | (left; split <;> (simp only [F.EVR_REC_CNT_VALUE, Reg.EVR_REC_CNT, Reg.SYS_STATE, ne_eq]; omega))) ?_ | with_reducible apply Block.queueFill_st K | dsimp only)

theorem Block.recAccept_st (K : KeptBySt Q) (b : Block) (r : EvRec) (hb : Q b.regs) : Q (Block.recAccept b r).regs := by
  unfold Block.recAccept
  repeat' (first | with_reducible assumption | with_reducible apply Block.recDrop_st K | with_reducible apply Block.recQueue_st K | with_reducible refine ite_keep ?_ ?_ | dsimp only)

theorem Block.recIsland_st (K : KeptBySt Q) (b : Block) (r : EvRec) (hb : Q b.regs) : Q (Block.recIsland b r).regs := by
  unfold Block.recIsland
  repeat' (first | with_reducible assumption | with_reducible refine Block.incWrap_st K _ _ (by first | decide | exact vsOk_notState _ | (left; simp only [F.EVR_REC_CNT_VALUE, Reg.EVR_REC_CNT, Reg.SYS_STATE, ne_eq]; omega) | (left; split <;> (simp only [F.EVR_REC_CNT_VALUE, Reg.EVR_REC_CNT, Reg.SYS_STATE, ne_eq]; omega))) ?_ | with_reducible refine ite_keep ?_ ?_ | dsimp only)

theorem Block.recBlk_st (K : KeptBySt Q) (b : Block) (p evt : Nat) (pairs : List (Nat × Nat)) (hb : Q b.regs) : Q (Block.recBlk b p evt pairs).regs := by
  unfold Block.recBlk
  repeat' (first | with_reducible assumption | with_reducible apply Block.recAccept_st K | dsimp only)

theorem Block.recRegs_st (K : KeptBySt Q) (b : Block) (p evt : Nat) (regs extra : List Nat) (hb : Q b.regs) : Q (Block.recRegs b p evt regs extra).regs := by
  unfold Block.recRegs
  repeat' (first | with_reducible assumption | with_reducible apply Block.recBlk_st K | dsimp only | intro _)

theorem Block.event_st (K : KeptBySt Q) (b : Block) (p evt : Nat) (regs : List Nat) (extra : List Nat) (hb : Q b.regs) : Q (Block.event b p evt regs extra).regs := by
  unfold Block.event
  repeat' (first | with_reducible assumption | with_reducible apply Block.raiseEvt_st K | with_reducible apply Block.recRegs_st K | dsimp only)

theorem Block.timeMark_st (K : KeptBySt Q) (b : Block) (cause : Nat) (hb : Q b.regs) : Q (Block.timeMark b cause).regs := by
  unfold Block.timeMark
  repeat' (first | with_reducible assumption | with_reducible apply Block.recAccept_st K | dsimp only)

theorem Block.recLost_st (K : KeptBySt Q) (b : Block) (cls src count reason : Nat) (hb : Q b.regs) : Q (Block.recLost b cls src count reason).regs := by
  unfold Block.recLost
  repeat' (first | with_reducible assumption | with_reducible apply Block.recAccept_st K | dsimp only)

theorem Block.celRequest_st (K : KeptBySt Q) (b : Block) (r : CelRec) (hb : Q b.regs) : Q (Block.celRequest b r).regs := by
  unfold Block.celRequest
  repeat' (first | with_reducible assumption | with_reducible refine ite_keep ?_ ?_ | dsimp only)

theorem Block.endTransfer_st (K : KeptBySt Q) (b : Block) (target : Nat) (hb : Q b.regs) : Q (Block.endTransfer b target).regs := by
  unfold Block.endTransfer
  repeat' (first | with_reducible assumption | with_reducible apply Block.raiseEvt_st K | with_reducible refine ite_keep ?_ ?_ | split | dsimp only | with_reducible refine pair_keep (by with_reducible assumption) ?_ | with_reducible refine pair_keep' (by with_reducible assumption) ?_)

theorem Block.lockPage_st (K : KeptBySt Q) (b : Block) (p : Nat) (hb : Q b.regs) : Q (Block.lockPage b p).regs := by
  unfold Block.lockPage
  repeat' (first | with_reducible assumption | with_reducible refine Block.setRegN_st K _ _ _ (by first | decide | (simp only [Reg.BLK_LOCK, Reg.SYS_STATE, ne_eq]; omega) | (split <;> decide)) ?_ | with_reducible refine Block.when_keep _ _ _ ?_ (fun _ => ?_) | with_reducible apply Block.timed_st K | dsimp only | intro _)

theorem Block.lockAll_st (K : KeptBySt Q) (b : Block) (hb : Q b.regs) : Q (Block.lockAll b).regs := by
  unfold Block.lockAll
  repeat' (first | with_reducible assumption | with_reducible refine Block.forAll_keep _ _ _ ?_ (fun _ _ _ => ?_) | with_reducible apply Block.lockPage_st K | dsimp only | intro _)

theorem Block.toPartner_st (K : KeptBySt Q) (b : Block) (kind : String) (ws : List Nat) (hb : Q b.regs) : Q (Block.toPartner b kind ws).regs := by
  unfold Block.toPartner
  repeat' (first | with_reducible assumption | with_reducible refine Block.when_keep _ _ _ ?_ (fun _ => ?_) | with_reducible apply Block.send_st K | dsimp only | intro _)

theorem Block.refuseRegs_st (K : KeptBySt Q) (b : Block) (r : Requester) (off code : Nat) (write : Bool) (hb : Q b.regs) : Q (Block.refuseRegs b r off code write).regs := by
  unfold Block.refuseRegs
  repeat' (first | with_reducible assumption | with_reducible refine Block.fset_st K _ _ _ (by first | decide | exact vsOk_notState _ | (left; simp only [F.BLK_STAT_ACC_ERR, F.SYS_ACC_ERR_CNT_COUNT, F.SYS_ACC_ERR_INFO_CLASS, F.SYS_ACC_ERR_INFO_CODE, F.SYS_ACC_ERR_INFO_ID, F.SYS_ACC_ERR_INFO_WRITE, Reg.BLK_STAT, Reg.SYS_ACC_ERR_ADDR, Reg.SYS_ACC_ERR_CNT, Reg.SYS_ACC_ERR_INFO, Reg.SYS_STATE, errPage, ne_eq]; omega) | (left; split <;> (simp only [F.BLK_STAT_ACC_ERR, F.SYS_ACC_ERR_CNT_COUNT, F.SYS_ACC_ERR_INFO_CLASS, F.SYS_ACC_ERR_INFO_CODE, F.SYS_ACC_ERR_INFO_ID, F.SYS_ACC_ERR_INFO_WRITE, Reg.BLK_STAT, Reg.SYS_ACC_ERR_ADDR, Reg.SYS_ACC_ERR_CNT, Reg.SYS_ACC_ERR_INFO, Reg.SYS_STATE, errPage, ne_eq]; omega))) ?_ | with_reducible refine Block.when_keep _ _ _ ?_ (fun _ => ?_) | with_reducible refine Block.setRegN_st K _ _ _ (by first | decide | (simp only [F.BLK_STAT_ACC_ERR, F.SYS_ACC_ERR_CNT_COUNT, F.SYS_ACC_ERR_INFO_CLASS, F.SYS_ACC_ERR_INFO_CODE, F.SYS_ACC_ERR_INFO_ID, F.SYS_ACC_ERR_INFO_WRITE, Reg.BLK_STAT, Reg.SYS_ACC_ERR_ADDR, Reg.SYS_ACC_ERR_CNT, Reg.SYS_ACC_ERR_INFO, Reg.SYS_STATE, errPage, ne_eq]; omega) | (split <;> decide)) ?_ | with_reducible refine Block.fsetB_st K _ _ _ (by first | decide | exact vsOk_notState _ | (left; simp only [F.BLK_STAT_ACC_ERR, F.SYS_ACC_ERR_CNT_COUNT, F.SYS_ACC_ERR_INFO_CLASS, F.SYS_ACC_ERR_INFO_CODE, F.SYS_ACC_ERR_INFO_ID, F.SYS_ACC_ERR_INFO_WRITE, Reg.BLK_STAT, Reg.SYS_ACC_ERR_ADDR, Reg.SYS_ACC_ERR_CNT, Reg.SYS_ACC_ERR_INFO, Reg.SYS_STATE, errPage, ne_eq]; omega) | (left; split <;> (simp only [F.BLK_STAT_ACC_ERR, F.SYS_ACC_ERR_CNT_COUNT, F.SYS_ACC_ERR_INFO_CLASS, F.SYS_ACC_ERR_INFO_CODE, F.SYS_ACC_ERR_INFO_ID, F.SYS_ACC_ERR_INFO_WRITE, Reg.BLK_STAT, Reg.SYS_ACC_ERR_ADDR, Reg.SYS_ACC_ERR_CNT, Reg.SYS_ACC_ERR_INFO, Reg.SYS_STATE, errPage, ne_eq]; omega))) ?_ | with_reducible refine Block.incSat_st K _ _ (by first | decide | exact vsOk_notState _ | (left; simp only [F.BLK_STAT_ACC_ERR, F.SYS_ACC_ERR_CNT_COUNT, F.SYS_ACC_ERR_INFO_CLASS, F.SYS_ACC_ERR_INFO_CODE, F.SYS_ACC_ERR_INFO_ID, F.SYS_ACC_ERR_INFO_WRITE, Reg.BLK_STAT, Reg.SYS_ACC_ERR_ADDR, Reg.SYS_ACC_ERR_CNT, Reg.SYS_ACC_ERR_INFO, Reg.SYS_STATE, errPage, ne_eq]; omega) | (left; split <;> (simp only [F.BLK_STAT_ACC_ERR, F.SYS_ACC_ERR_CNT_COUNT, F.SYS_ACC_ERR_INFO_CLASS, F.SYS_ACC_ERR_INFO_CODE, F.SYS_ACC_ERR_INFO_ID, F.SYS_ACC_ERR_INFO_WRITE, Reg.BLK_STAT, Reg.SYS_ACC_ERR_ADDR, Reg.SYS_ACC_ERR_CNT, Reg.SYS_ACC_ERR_INFO, Reg.SYS_STATE, errPage, ne_eq]; omega))) ?_ | dsimp only | intro _)

theorem Block.refuse_st (K : KeptBySt Q) (b : Block) (r : Requester) (off code : Nat) (write : Bool) (hb : Q b.regs) : Q (Block.refuse b r off code write).regs := by
  unfold Block.refuse
  repeat' (first | with_reducible assumption | with_reducible apply Block.refuseRegs_st K | with_reducible apply Block.out_st K | dsimp only)

theorem Block.storeBy_st (K : KeptBySt Q) (b : Block) (r : Requester) (off v : Nat) (hb : Q b.regs) : Q (Block.storeBy b r off v).regs := by
  unfold Block.storeBy
  split
  · split
    · exact Block.setRegN_st K _ _ _ (fun h => by subst h; revert ‹_ / 0x1000 = 0xC0›; decide) hb
    · exact Block.storeWrite_st K _ _ _ hb
  · exact Block.storeWrite_st K _ _ _ hb

theorem Block.persistIf_st (K : KeptBySt Q) (b : Block) (off : Nat) (hb : Q b.regs) : Q (Block.persistIf b off).regs := by
  unfold Block.persistIf
  repeat' (first | with_reducible assumption | with_reducible refine Block.when_keep _ _ _ ?_ (fun _ => ?_) | with_reducible apply Block.celRequest_st K | split | dsimp only | with_reducible refine pair_keep (by with_reducible assumption) ?_ | with_reducible refine pair_keep' (by with_reducible assumption) ?_ | intro _)

theorem Block.rwlTimed_st (K : KeptBySt Q) (b : Block) (off : Nat) (hb : Q b.regs) : Q (Block.rwlTimed b off).regs := by
  unfold Block.rwlTimed
  repeat' (first | with_reducible assumption | with_reducible refine Block.when_keep _ _ _ ?_ (fun _ => ?_) | with_reducible apply Block.timed_st K | dsimp only | intro _)

theorem Block.regWrite_st (K : KeptBySt Q) (b : Block) (r : Requester) (off v : Nat) (extra : List Nat) (eff : Block → Block) (hb : Q b.regs) (heff : ∀ b, Q b.regs → Q (eff b).regs) : Q (Block.regWrite b r off v extra eff).1.regs := by
  unfold Block.regWrite
  repeat' (first | with_reducible assumption | with_reducible apply heff | with_reducible apply Block.storeBy_st K | with_reducible apply Block.persistIf_st K | with_reducible apply Block.rwlTimed_st K | with_reducible apply Block.refuse_st K | with_reducible refine ite_keep ?_ ?_ | split | dsimp only)

theorem Block.cmdWrite_st (K : KeptBySt Q) (b : Block) (r : Requester) (off v : Nat) (extra : List Nat) (eff : Block → Block) (hb : Q b.regs) (heff : ∀ b, Q b.regs → Q (eff b).regs) : Q (Block.cmdWrite b r off v extra eff).regs := by
  unfold Block.cmdWrite
  repeat' (first | with_reducible assumption | with_reducible apply heff | with_reducible apply Block.regWrite_st K | with_reducible apply Block.out_st K | with_reducible refine ite_keep ?_ ?_ | split | dsimp only | with_reducible refine pair_keep (by with_reducible assumption) ?_ | with_reducible refine pair_keep' (by with_reducible assumption) ?_)

theorem Block.setLatch_st (K : KeptBySt Q) (b : Block) (r : Requester) (l : Latch64) (hb : Q b.regs) : Q (Block.setLatch b r l).regs := by
  unfold Block.setLatch
  repeat' (first | with_reducible assumption | dsimp only)

theorem Block.setChan_st (K : KeptBySt Q) (b : Block) (n : Nat) (c : Chan) (hb : Q b.regs) : Q (Block.setChan b n c).regs := by
  unfold Block.setChan
  repeat' (first | with_reducible assumption | dsimp only)

theorem Block.modChan_st (K : KeptBySt Q) (b : Block) (n : Nat) (f : Chan → Chan) (hb : Q b.regs) : Q (Block.modChan b n f).regs := by
  unfold Block.modChan
  repeat' (first | with_reducible assumption | with_reducible apply Block.setChan_st K | dsimp only)

theorem Block.switchDo_st (K : KeptBySt Q) (b : Block) (n : Nat) (on : Bool) (hb : Q b.regs) : Q (Block.switchDo b n on).regs := by
  unfold Block.switchDo
  repeat' (first | with_reducible assumption | with_reducible refine Block.fset_st K _ _ _ (by first | decide | exact vsOk_notState _ | (left; simp only [F.CH_STAT_OPEN, F.CH_STAT_RATE_HOLD, Reg.CH_STAT, Reg.SYS_STATE, ne_eq]; omega) | (left; split <;> (simp only [F.CH_STAT_OPEN, F.CH_STAT_RATE_HOLD, Reg.CH_STAT, Reg.SYS_STATE, ne_eq]; omega))) ?_ | with_reducible apply Block.free_st K | with_reducible apply Block.setChan_st K | with_reducible refine ite_keep ?_ ?_ | split | dsimp only | with_reducible refine pair_keep (by with_reducible assumption) ?_ | with_reducible refine pair_keep' (by with_reducible assumption) ?_ | intro _)

theorem Block.chDrive_st (K : KeptBySt Q) (b : Block) (n : Nat) (hb : Q b.regs) : Q (Block.chDrive b n).regs := by
  unfold Block.chDrive
  repeat' (first | with_reducible assumption | with_reducible refine Block.when_keep _ _ _ ?_ (fun _ => ?_) | with_reducible refine Block.fset_st K _ _ _ (by first | decide | exact vsOk_notState _ | (left; simp only [F.CH_STAT_CLAMP, F.CH_STAT_FIELD, F.CH_STAT_RATE_HOLD, F.CH_STAT_STATE, Reg.CH_OUT, Reg.CH_STAT, Reg.SYS_STATE, ne_eq]; omega) | (left; split <;> (simp only [F.CH_STAT_CLAMP, F.CH_STAT_FIELD, F.CH_STAT_RATE_HOLD, F.CH_STAT_STATE, Reg.CH_OUT, Reg.CH_STAT, Reg.SYS_STATE, ne_eq]; omega))) ?_ | with_reducible apply Block.switchDo_st K | with_reducible refine Block.setRegN_st K _ _ _ (by first | decide | (simp only [F.CH_STAT_CLAMP, F.CH_STAT_FIELD, F.CH_STAT_RATE_HOLD, F.CH_STAT_STATE, Reg.CH_OUT, Reg.CH_STAT, Reg.SYS_STATE, ne_eq]; omega) | (split <;> decide)) ?_ | with_reducible refine ite_keep ?_ ?_ | dsimp only | intro _)

theorem Block.showTj_st (K : KeptBySt Q) (b : Block) (n : Nat) (tj : Int) (hb : Q b.regs) : Q (Block.showTj b n tj).regs := by
  unfold Block.showTj
  repeat' (first | with_reducible assumption | with_reducible refine Block.fset_st K _ _ _ (by first | decide | exact vsOk_notState _ | (left; simp only [F.CH_SUPPLY_TJ, Reg.CH_SUPPLY, Reg.SYS_STATE, ne_eq]; omega) | (left; split <;> (simp only [F.CH_SUPPLY_TJ, Reg.CH_SUPPLY, Reg.SYS_STATE, ne_eq]; omega))) ?_ | dsimp only)

theorem Block.chRefresh_st (K : KeptBySt Q) (b : Block) (n : Nat) (hb : Q b.regs) : Q (Block.chRefresh b n).regs := by
  unfold Block.chRefresh
  repeat' (first | with_reducible assumption | with_reducible refine Block.fsetB_st K _ _ _ (by first | decide | exact vsOk_notState _ | (left; simp only [F.CH_STAT_CAUSE, F.CH_STAT_CHANNEL_FAULT, F.CH_STAT_COMPLIANCE, F.CH_STAT_HIZ, F.CH_STAT_LEVEL, F.CH_STAT_TP_FAULT, F.CH_SUPPLY_SUPPLY, Reg.CHG_COMP_LO, Reg.CHG_FAULT_LO, Reg.CHG_ISL_LO, Reg.CHG_TPF_LO, Reg.CH_STAT, Reg.CH_SUPPLY, Reg.SYS_STATE, ne_eq]; omega) | (left; split <;> (simp only [F.CH_STAT_CAUSE, F.CH_STAT_CHANNEL_FAULT, F.CH_STAT_COMPLIANCE, F.CH_STAT_HIZ, F.CH_STAT_LEVEL, F.CH_STAT_TP_FAULT, F.CH_SUPPLY_SUPPLY, Reg.CHG_COMP_LO, Reg.CHG_FAULT_LO, Reg.CHG_ISL_LO, Reg.CHG_TPF_LO, Reg.CH_STAT, Reg.CH_SUPPLY, Reg.SYS_STATE, ne_eq]; omega))) ?_ | with_reducible apply Block.chDrive_st K | with_reducible refine Block.fset_st K _ _ _ (by first | decide | exact vsOk_notState _ | (left; simp only [F.CH_STAT_CAUSE, F.CH_STAT_CHANNEL_FAULT, F.CH_STAT_COMPLIANCE, F.CH_STAT_HIZ, F.CH_STAT_LEVEL, F.CH_STAT_TP_FAULT, F.CH_SUPPLY_SUPPLY, Reg.CHG_COMP_LO, Reg.CHG_FAULT_LO, Reg.CHG_ISL_LO, Reg.CHG_TPF_LO, Reg.CH_STAT, Reg.CH_SUPPLY, Reg.SYS_STATE, ne_eq]; omega) | (left; split <;> (simp only [F.CH_STAT_CAUSE, F.CH_STAT_CHANNEL_FAULT, F.CH_STAT_COMPLIANCE, F.CH_STAT_HIZ, F.CH_STAT_LEVEL, F.CH_STAT_TP_FAULT, F.CH_SUPPLY_SUPPLY, Reg.CHG_COMP_LO, Reg.CHG_FAULT_LO, Reg.CHG_ISL_LO, Reg.CHG_TPF_LO, Reg.CH_STAT, Reg.CH_SUPPLY, Reg.SYS_STATE, ne_eq]; omega))) ?_ | with_reducible refine Block.chMap_st K _ _ _ _ (by decide) ?_ | dsimp only)

theorem Block.chRefreshAll_st (K : KeptBySt Q) (b : Block) (hb : Q b.regs) : Q (Block.chRefreshAll b).regs := by
  unfold Block.chRefreshAll
  repeat' (first | with_reducible assumption | with_reducible refine Block.forAll_keep _ _ _ ?_ (fun _ _ _ => ?_) | with_reducible apply Block.chRefresh_st K | dsimp only)

theorem Block.localEnded_st (K : KeptBySt Q) (b : Block) (n : Nat) (hb : Q b.regs) : Q (Block.localEnded b n).regs := by
  unfold Block.localEnded
  repeat' (first | with_reducible assumption | with_reducible refine Block.when_keep _ _ _ ?_ (fun _ => ?_) | with_reducible refine Block.fset_st K _ _ _ (by first | decide | exact vsOk_notState _ | (left; simp only [F.BTN_STAT_CAL_OPEN, F.BTN_STAT_CAL_STEP, Reg.BTN_STAT, Reg.SYS_STATE, ne_eq]; omega) | (left; split <;> (simp only [F.BTN_STAT_CAL_OPEN, F.BTN_STAT_CAL_STEP, Reg.BTN_STAT, Reg.SYS_STATE, ne_eq]; omega))) ?_ | with_reducible apply Block.raiseEvt_st K | split | dsimp only | with_reducible refine pair_keep (by with_reducible assumption) ?_ | with_reducible refine pair_keep' (by with_reducible assumption) ?_ | intro _)

theorem Block.calEnd_st (K : KeptBySt Q) (b : Block) (n : Nat) (hb : Q b.regs) : Q (Block.calEnd b n).regs := by
  unfold Block.calEnd
  repeat' (first | with_reducible assumption | with_reducible apply Block.localEnded_st K | with_reducible apply Block.modChan_st K | with_reducible apply Block.chRefresh_st K | dsimp only | intro _)

theorem Block.calEndAll_st (K : KeptBySt Q) (b : Block) (hb : Q b.regs) : Q (Block.calEndAll b).regs := by
  unfold Block.calEndAll
  repeat' (first | with_reducible assumption | with_reducible refine Block.forAll_keep _ _ _ ?_ (fun _ _ _ => ?_) | with_reducible apply Block.calEnd_st K | dsimp only | intro _)

theorem Block.calClaim_st (K : KeptBySt Q) (b : Block) (hb : Q b.regs) : Q (Block.calClaim b).regs := by
  unfold Block.calClaim
  repeat' (first | with_reducible assumption | with_reducible apply Block.calEndAll_st K | with_reducible refine ite_keep ?_ ?_ | dsimp only)

theorem Block.calForced_st (K : KeptBySt Q) (b : Block) (els : List IoEl) (vid : Nat) (hb : Q b.regs) : Q (Block.calForced b els vid).regs := by
  unfold Block.calForced
  repeat' (first | with_reducible assumption | with_reducible refine Block.forAll_keep _ _ _ ?_ (fun _ _ _ => ?_) | with_reducible apply Block.calEnd_st K | dsimp only | intro _)

theorem Block.fieldFault_st (K : KeptBySt Q) (b : Block) (hb : Q b.regs) : Q (Block.fieldFault b).regs := by
  unfold Block.fieldFault
  repeat' (first | with_reducible assumption | with_reducible refine Block.forAll_keep _ _ _ ?_ (fun _ _ _ => ?_) | with_reducible apply Block.localEnded_st K | with_reducible refine Block.fset_st K _ _ _ (by first | decide | exact vsOk_notState _ | (left; simp only [F.CH_STAT_COMPLIANCE, F.CH_STAT_FIELD, Reg.CH_STAT, Reg.SYS_STATE, ne_eq]; omega) | (left; split <;> (simp only [F.CH_STAT_COMPLIANCE, F.CH_STAT_FIELD, Reg.CH_STAT, Reg.SYS_STATE, ne_eq]; omega))) ?_ | with_reducible apply Block.modChan_st K | with_reducible apply Block.chRefresh_st K | dsimp only | intro _)

theorem Block.fieldBack_st (K : KeptBySt Q) (b : Block) (hb : Q b.regs) : Q (Block.fieldBack b).regs := by
  unfold Block.fieldBack
  repeat' (first | with_reducible assumption | with_reducible refine Block.fset_st K _ _ _ (by first | decide | exact vsOk_notState _ | (left; simp only [F.CHG_FP_STAT_BUS_OK, F.CHG_FP_STAT_TRIPPED, F.CHG_FP_STAT_UNDERVOLT, F.CH_STAT_FIELD, Reg.CHG_FP_STAT, Reg.CH_STAT, Reg.SYS_STATE, ne_eq]; omega) | (left; split <;> (simp only [F.CHG_FP_STAT_BUS_OK, F.CHG_FP_STAT_TRIPPED, F.CHG_FP_STAT_UNDERVOLT, F.CH_STAT_FIELD, Reg.CHG_FP_STAT, Reg.CH_STAT, Reg.SYS_STATE, ne_eq]; omega))) ?_ | with_reducible refine Block.forAll_keep _ _ _ ?_ (fun _ _ _ => ?_) | with_reducible apply Block.modChan_st K | with_reducible apply Block.chRefresh_st K | with_reducible apply Block.raiseEvt_st K | dsimp only | intro _)

theorem Block.measured_st (K : KeptBySt Q) (b : Block) (n cause : Nat) (span : Bool) (hb : Q b.regs) : Q (Block.measured b n cause span).regs := by
  unfold Block.measured
  repeat' (first | with_reducible assumption | with_reducible apply Block.modChan_st K | with_reducible refine Block.fsetB_st K _ _ _ (by first | decide | exact vsOk_notState _ | (left; simp only [F.CH_STAT_OPEN, F.CH_STAT_SHORT, Reg.CH_STAT, Reg.SYS_STATE, chPage, ne_eq]; omega) | (left; split <;> (simp only [F.CH_STAT_OPEN, F.CH_STAT_SHORT, Reg.CH_STAT, Reg.SYS_STATE, chPage, ne_eq]; omega))) ?_ | with_reducible apply Block.chRefresh_st K | with_reducible refine Block.when_keep _ _ _ ?_ (fun _ => ?_) | with_reducible apply Block.raiseEvt_st K | dsimp only | intro _)

theorem Block.spSample_st (K : KeptBySt Q) (b : Block) (n : Nat) (i : Sample) (hb : Q b.regs) : Q (Block.spSample b n i).regs := by
  unfold Block.spSample
  repeat' (first | with_reducible assumption | with_reducible apply Block.modChan_st K | with_reducible apply Block.showTj_st K | with_reducible apply Block.chRefresh_st K | dsimp only | intro _)

theorem Block.sample_st (K : KeptBySt Q) (b : Block) (n : Nat) (i : Sample) (hb : Q b.regs) : Q (Block.sample b n i).regs := by
  unfold Block.sample
  repeat' (first | with_reducible assumption | with_reducible apply Block.spSample_st K | with_reducible refine Block.when_keep _ _ _ ?_ (fun _ => ?_) | with_reducible refine Block.incSat_st K _ _ (by first | decide | exact vsOk_notState _ | (left; simp only [F.CH_FAULT_MERGE, F.CH_STAT_FIELD, F.HRT_CH_CFG_PARK, Reg.CH_FAULT, Reg.CH_RAW, Reg.CH_STAT, Reg.CH_TIME_HI, Reg.CH_TIME_LO, Reg.CH_VALUE, Reg.HRT_CH_CFG, Reg.SYS_STATE, ne_eq]; omega) | (left; split <;> (simp only [F.CH_FAULT_MERGE, F.CH_STAT_FIELD, F.HRT_CH_CFG_PARK, Reg.CH_FAULT, Reg.CH_RAW, Reg.CH_STAT, Reg.CH_TIME_HI, Reg.CH_TIME_LO, Reg.CH_VALUE, Reg.HRT_CH_CFG, Reg.SYS_STATE, ne_eq]; omega))) ?_ | with_reducible refine Block.setRegN_st K _ _ _ (by first | decide | (simp only [F.CH_FAULT_MERGE, F.CH_STAT_FIELD, F.HRT_CH_CFG_PARK, Reg.CH_FAULT, Reg.CH_RAW, Reg.CH_STAT, Reg.CH_TIME_HI, Reg.CH_TIME_LO, Reg.CH_VALUE, Reg.HRT_CH_CFG, Reg.SYS_STATE, ne_eq]; omega) | (split <;> decide)) ?_ | with_reducible apply Block.timed_st K | with_reducible apply Block.modChan_st K | with_reducible apply Block.showTj_st K | with_reducible apply Block.measured_st K | with_reducible apply Block.chRefresh_st K | with_reducible refine ite_keep ?_ ?_ | dsimp only | intro _)

theorem Block.tpChip_st (K : KeptBySt Q) (b : Block) (n k : Nat) (on : Bool) (found : Option (Fin 64)) (hb : Q b.regs) : Q (Block.tpChip b n k on found).regs := by
  unfold Block.tpChip
  repeat' (first | with_reducible assumption | with_reducible refine Block.fsetB_st K _ _ _ (by first | decide | exact vsOk_notState _ | (left; simp only [F.CH_DI_CFG_TP_SLOT, F.CH_STAT_FIELD, F.CH_STAT_TP_ANOM, F.CH_STAT_TP_FAULT, F.CH_TP_STAT_ANOM_CNT, F.CH_TP_STAT_FROM, F.CH_TP_STAT_FROM_VALID, Reg.CH_DI_CFG, Reg.CH_STAT, Reg.CH_TP_STAT, Reg.SYS_STATE, chPage, ne_eq]; omega) | (left; split <;> (simp only [F.CH_DI_CFG_TP_SLOT, F.CH_STAT_FIELD, F.CH_STAT_TP_ANOM, F.CH_STAT_TP_FAULT, F.CH_TP_STAT_ANOM_CNT, F.CH_TP_STAT_FROM, F.CH_TP_STAT_FROM_VALID, Reg.CH_DI_CFG, Reg.CH_STAT, Reg.CH_TP_STAT, Reg.SYS_STATE, chPage, ne_eq]; omega))) ?_ | with_reducible refine Block.fset_st K _ _ _ (by first | decide | exact vsOk_notState _ | (left; simp only [F.CH_DI_CFG_TP_SLOT, F.CH_STAT_FIELD, F.CH_STAT_TP_ANOM, F.CH_STAT_TP_FAULT, F.CH_TP_STAT_ANOM_CNT, F.CH_TP_STAT_FROM, F.CH_TP_STAT_FROM_VALID, Reg.CH_DI_CFG, Reg.CH_STAT, Reg.CH_TP_STAT, Reg.SYS_STATE, chPage, ne_eq]; omega) | (left; split <;> (simp only [F.CH_DI_CFG_TP_SLOT, F.CH_STAT_FIELD, F.CH_STAT_TP_ANOM, F.CH_STAT_TP_FAULT, F.CH_TP_STAT_ANOM_CNT, F.CH_TP_STAT_FROM, F.CH_TP_STAT_FROM_VALID, Reg.CH_DI_CFG, Reg.CH_STAT, Reg.CH_TP_STAT, Reg.SYS_STATE, chPage, ne_eq]; omega))) ?_ | with_reducible refine Block.incSat_st K _ _ (by first | decide | exact vsOk_notState _ | (left; simp only [F.CH_DI_CFG_TP_SLOT, F.CH_STAT_FIELD, F.CH_STAT_TP_ANOM, F.CH_STAT_TP_FAULT, F.CH_TP_STAT_ANOM_CNT, F.CH_TP_STAT_FROM, F.CH_TP_STAT_FROM_VALID, Reg.CH_DI_CFG, Reg.CH_STAT, Reg.CH_TP_STAT, Reg.SYS_STATE, chPage, ne_eq]; omega) | (left; split <;> (simp only [F.CH_DI_CFG_TP_SLOT, F.CH_STAT_FIELD, F.CH_STAT_TP_ANOM, F.CH_STAT_TP_FAULT, F.CH_TP_STAT_ANOM_CNT, F.CH_TP_STAT_FROM, F.CH_TP_STAT_FROM_VALID, Reg.CH_DI_CFG, Reg.CH_STAT, Reg.CH_TP_STAT, Reg.SYS_STATE, chPage, ne_eq]; omega))) ?_ | with_reducible refine Block.when_keep _ _ _ ?_ (fun _ => ?_) | with_reducible apply Block.raiseEvt_st K | with_reducible apply Block.chRefresh_st K | with_reducible apply Block.setChan_st K | with_reducible refine ite_keep ?_ ?_ | split | dsimp only | with_reducible refine pair_keep (by with_reducible assumption) ?_ | with_reducible refine pair_keep' (by with_reducible assumption) ?_ | intro _)

theorem Block.stageReport_st (K : KeptBySt Q) (b : Block) (n : Nat) (hb : Q b.regs) : Q (Block.stageReport b n).regs := by
  unfold Block.stageReport
  repeat' (first | with_reducible assumption | with_reducible refine Block.when_keep _ _ _ ?_ (fun _ => ?_) | with_reducible refine Block.fset_st K _ _ _ (by first | decide | exact vsOk_notState _ | (left; simp only [F.CH_STAT_TRIPPED, Reg.CH_STAT, Reg.SYS_STATE, ne_eq]; omega) | (left; split <;> (simp only [F.CH_STAT_TRIPPED, Reg.CH_STAT, Reg.SYS_STATE, ne_eq]; omega))) ?_ | dsimp only | intro _)

theorem Block.chRefused_st (K : KeptBySt Q) (b : Block) (n code : Nat) (hb : Q b.regs) : Q (Block.chRefused b n code).regs := by
  unfold Block.chRefused
  repeat' (first | with_reducible assumption | with_reducible refine Block.fset_st K _ _ _ (by first | decide | exact vsOk_notState _ | (left; simp only [F.CHG_CFG_REF_CH, F.CHG_CFG_REF_CODE, F.CHG_CFG_REF_VALID, F.CH_RES_CODE, Reg.CHG_CFG_REF, Reg.CH_RES, Reg.SYS_STATE, chPage, ne_eq]; omega) | (left; split <;> (simp only [F.CHG_CFG_REF_CH, F.CHG_CFG_REF_CODE, F.CHG_CFG_REF_VALID, F.CH_RES_CODE, Reg.CHG_CFG_REF, Reg.CH_RES, Reg.SYS_STATE, chPage, ne_eq]; omega))) ?_ | with_reducible apply Block.raiseEvt_st K | dsimp only)

theorem Block.substMask_st (K : KeptBySt Q) (b : Block) (n : Nat) (hb : Q b.regs) : Q (Block.substMask b n).regs := by
  unfold Block.substMask
  repeat' (first | with_reducible assumption | with_reducible refine Block.when_keep _ _ _ ?_ (fun _ => ?_) | with_reducible refine Block.setRegN_st K _ _ _ (by first | decide | (simp only [Reg.CH_SUBST_VAL, Reg.SYS_STATE, ne_eq]; omega) | (split <;> decide)) ?_ | dsimp only | intro _)

theorem Block.chSetMode_st (K : KeptBySt Q) (b : Block) (n : Nat) (hb : Q b.regs) : Q (Block.chSetMode b n).regs := by
  unfold Block.chSetMode
  repeat' (first | with_reducible assumption | with_reducible apply Block.switchDo_st K | with_reducible apply Block.substMask_st K | with_reducible refine Block.when_keep _ _ _ ?_ (fun _ => ?_) | with_reducible refine Block.fset_st K _ _ _ (by first | decide | exact vsOk_notState _ | (left; simp only [F.CH_DI_CFG_TP_SLOT, F.CH_FAULT_CAUSE, F.CH_MODE_SP_USE, F.CH_STAT_FIELD, Reg.CH_DI_CFG, Reg.CH_FAULT, Reg.CH_MODE, Reg.CH_STAT, Reg.SYS_STATE, ne_eq]; omega) | (left; split <;> (simp only [F.CH_DI_CFG_TP_SLOT, F.CH_FAULT_CAUSE, F.CH_MODE_SP_USE, F.CH_STAT_FIELD, Reg.CH_DI_CFG, Reg.CH_FAULT, Reg.CH_MODE, Reg.CH_STAT, Reg.SYS_STATE, ne_eq]; omega))) ?_ | with_reducible refine Block.setRegN_st K _ _ _ (by first | decide | (simp only [F.CH_DI_CFG_TP_SLOT, F.CH_FAULT_CAUSE, F.CH_MODE_SP_USE, F.CH_STAT_FIELD, Reg.CH_DI_CFG, Reg.CH_FAULT, Reg.CH_MODE, Reg.CH_STAT, Reg.SYS_STATE, ne_eq]; omega) | (split <;> decide)) ?_ | with_reducible apply Block.localEnded_st K | with_reducible apply Block.modChan_st K | with_reducible refine Block.fsetB_st K _ _ _ (by first | decide | exact vsOk_notState _ | (left; simp only [F.CH_DI_CFG_TP_SLOT, F.CH_FAULT_CAUSE, F.CH_MODE_SP_USE, F.CH_STAT_FIELD, Reg.CH_DI_CFG, Reg.CH_FAULT, Reg.CH_MODE, Reg.CH_STAT, Reg.SYS_STATE, ne_eq]; omega) | (left; split <;> (simp only [F.CH_DI_CFG_TP_SLOT, F.CH_FAULT_CAUSE, F.CH_MODE_SP_USE, F.CH_STAT_FIELD, Reg.CH_DI_CFG, Reg.CH_FAULT, Reg.CH_MODE, Reg.CH_STAT, Reg.SYS_STATE, ne_eq]; omega))) ?_ | with_reducible apply Block.chRefresh_st K | dsimp only | intro _)

theorem Block.chModeWriteBy_st (K : KeptBySt Q) (b : Block) (r : Requester) (n v : Nat) (hb : Q b.regs) : Q (Block.chModeWriteBy b r n v).1.regs := by
  unfold Block.chModeWriteBy
  repeat' (first | with_reducible assumption | with_reducible apply Block.refuse_st K | with_reducible apply Block.chRefused_st K | with_reducible apply Block.storeWrite_st K | with_reducible apply Block.persistIf_st K | with_reducible apply Block.chSetMode_st K | with_reducible refine Block.fset_st K _ _ _ (by first | decide | exact vsOk_notState _ | (left; simp only [F.CH_RES_CODE, Reg.CH_MODE, Reg.CH_RES, Reg.SYS_STATE, ne_eq]; omega) | (left; split <;> (simp only [F.CH_RES_CODE, Reg.CH_MODE, Reg.CH_RES, Reg.SYS_STATE, ne_eq]; omega))) ?_ | with_reducible refine ite_keep ?_ ?_ | split | dsimp only | with_reducible refine pair_keep (by with_reducible assumption) ?_ | with_reducible refine pair_keep' (by with_reducible assumption) ?_)

theorem Block.chDone_st (K : KeptBySt Q) (b : Block) (n code : Nat) (hb : Q b.regs) : Q (Block.chDone b n code).regs := by
  unfold Block.chDone
  repeat' (first | with_reducible assumption | with_reducible refine Block.fset_st K _ _ _ (by first | decide | exact vsOk_notState _ | (left; simp only [F.CH_RES_CODE, Reg.CH_RES, Reg.SYS_STATE, chPage, ne_eq]; omega) | (left; split <;> (simp only [F.CH_RES_CODE, Reg.CH_RES, Reg.SYS_STATE, chPage, ne_eq]; omega))) ?_ | with_reducible apply Block.raiseEvt_st K | dsimp only)

theorem Block.chClrFault_st (K : KeptBySt Q) (b : Block) (n : Nat) (hb : Q b.regs) : Q (Block.chClrFault b n).regs := by
  unfold Block.chClrFault
  repeat' (first | with_reducible assumption | with_reducible apply Block.chDone_st K | with_reducible refine Block.fset_st K _ _ _ (by first | decide | exact vsOk_notState _ | (left; simp only [F.CH_FAULT_CAUSE, F.CH_STAT_CHANNEL_FAULT, F.CH_STAT_OVERLOAD, F.CH_STAT_TP_FAULT, Reg.CH_FAULT, Reg.CH_STAT, Reg.SYS_STATE, ne_eq]; omega) | (left; split <;> (simp only [F.CH_FAULT_CAUSE, F.CH_STAT_CHANNEL_FAULT, F.CH_STAT_OVERLOAD, F.CH_STAT_TP_FAULT, Reg.CH_FAULT, Reg.CH_STAT, Reg.SYS_STATE, ne_eq]; omega))) ?_ | with_reducible apply Block.timed_st K | with_reducible apply Block.modChan_st K | with_reducible apply Block.chRefresh_st K | with_reducible refine ite_keep ?_ ?_ | dsimp only | intro _)

theorem Block.calOpenBy_st (K : KeptBySt Q) (b : Block) (n : Nat) (isLocal : Bool) (num : Nat) (hb : Q b.regs) : Q (Block.calOpenBy b n isLocal num).regs := by
  unfold Block.calOpenBy
  repeat' (first | with_reducible assumption | with_reducible apply Block.chDone_st K | with_reducible apply Block.timed_st K | with_reducible apply Block.modChan_st K | with_reducible apply Block.chRefresh_st K | with_reducible apply Block.raiseEvt_st K | with_reducible refine ite_keep ?_ ?_ | dsimp only | intro _)

theorem Block.calPoint_st (K : KeptBySt Q) (b : Block) (n : Nat) (span : Bool) (ref : Nat) (hb : Q b.regs) : Q (Block.calPoint b n span ref).regs := by
  unfold Block.calPoint
  repeat' (first | with_reducible assumption | with_reducible apply Block.chDone_st K | with_reducible apply Block.timed_st K | with_reducible refine Block.fset_st K _ _ _ (by first | decide | exact vsOk_notState _ | (left; simp only [F.CH_RES_CODE, Reg.CH_RES, Reg.CH_TRIM_GAIN, Reg.CH_TRIM_ZERO, Reg.SYS_STATE, ne_eq]; omega) | (left; split <;> (simp only [F.CH_RES_CODE, Reg.CH_RES, Reg.CH_TRIM_GAIN, Reg.CH_TRIM_ZERO, Reg.SYS_STATE, ne_eq]; omega))) ?_ | with_reducible apply Block.modChan_st K | with_reducible apply Block.chRefresh_st K | with_reducible refine ite_keep ?_ ?_ | split | dsimp only | with_reducible refine pair_keep (by with_reducible assumption) ?_ | with_reducible refine pair_keep' (by with_reducible assumption) ?_ | intro _)

theorem Block.calStore_st (K : KeptBySt Q) (b : Block) (n z gain source : Nat) (cs : CalSession) (hb : Q b.regs) : Q (Block.calStore b n z gain source cs).regs := by
  unfold Block.calStore
  repeat' (first | with_reducible assumption | with_reducible apply Block.modChan_st K | with_reducible apply Block.celRequest_st K | dsimp only | intro _)

theorem Block.calCommitBy_st (K : KeptBySt Q) (b : Block) (n : Nat) (hb : Q b.regs) : Q (Block.calCommitBy b n).regs := by
  unfold Block.calCommitBy
  repeat' (first | with_reducible assumption | with_reducible apply Block.chDone_st K | with_reducible apply Block.timed_st K | with_reducible refine Block.fset_st K _ _ _ (by first | decide | exact vsOk_notState _ | (left; simp only [F.CH_RES_CODE, Reg.CH_RES, Reg.SYS_STATE, ne_eq]; omega) | (left; split <;> (simp only [F.CH_RES_CODE, Reg.CH_RES, Reg.SYS_STATE, ne_eq]; omega))) ?_ | with_reducible apply Block.calStore_st K | with_reducible refine ite_keep ?_ ?_ | split | dsimp only | with_reducible refine pair_keep (by with_reducible assumption) ?_ | with_reducible refine pair_keep' (by with_reducible assumption) ?_)

theorem Block.calCancelBy_st (K : KeptBySt Q) (b : Block) (n : Nat) (hb : Q b.regs) : Q (Block.calCancelBy b n).regs := by
  unfold Block.calCancelBy
  repeat' (first | with_reducible assumption | with_reducible apply Block.chDone_st K | with_reducible apply Block.calEnd_st K | split | dsimp only | with_reducible refine pair_keep (by with_reducible assumption) ?_ | with_reducible refine pair_keep' (by with_reducible assumption) ?_)

theorem Block.calFactoryBy_st (K : KeptBySt Q) (b : Block) (n : Nat) (hb : Q b.regs) : Q (Block.calFactoryBy b n).regs := by
  unfold Block.calFactoryBy
  repeat' (first | with_reducible assumption | with_reducible apply Block.chDone_st K | with_reducible apply Block.timed_st K | with_reducible refine Block.fset_st K _ _ _ (by first | decide | exact vsOk_notState _ | (left; simp only [F.CH_RES_CODE, Reg.CH_RES, Reg.SYS_STATE, ne_eq]; omega) | (left; split <;> (simp only [F.CH_RES_CODE, Reg.CH_RES, Reg.SYS_STATE, ne_eq]; omega))) ?_ | with_reducible apply Block.calStore_st K | with_reducible refine ite_keep ?_ ?_ | split | dsimp only | with_reducible refine pair_keep (by with_reducible assumption) ?_ | with_reducible refine pair_keep' (by with_reducible assumption) ?_)

theorem Block.chCommand_st (K : KeptBySt Q) (b : Block) (r : Requester) (n v : Nat) (hb : Q b.regs) : Q (Block.chCommand b r n v).regs := by
  unfold Block.chCommand
  repeat' (first | with_reducible assumption | with_reducible apply Block.chDone_st K | with_reducible refine Block.fset_st K _ _ _ (by first | decide | exact vsOk_notState _ | (left; simp only [F.CH_RES_CODE, Reg.CH_CAL_REF, Reg.CH_RES, Reg.SYS_STATE, ne_eq]; omega) | (left; split <;> (simp only [F.CH_RES_CODE, Reg.CH_CAL_REF, Reg.CH_RES, Reg.SYS_STATE, ne_eq]; omega))) ?_ | with_reducible apply Block.chClrFault_st K | with_reducible apply Block.calOpenBy_st K | with_reducible apply Block.calPoint_st K | with_reducible apply Block.calCommitBy_st K | with_reducible apply Block.calCancelBy_st K | with_reducible apply Block.calFactoryBy_st K | with_reducible refine ite_keep ?_ ?_ | split | dsimp only | with_reducible refine pair_keep (by with_reducible assumption) ?_ | with_reducible refine pair_keep' (by with_reducible assumption) ?_)

theorem Block.chCmdWrite_st (K : KeptBySt Q) (b : Block) (r : Requester) (n v : Nat) (hb : Q b.regs) : Q (Block.chCmdWrite b r n v).regs := by
  unfold Block.chCmdWrite
  repeat' (first | with_reducible assumption | with_reducible apply Block.cmdWrite_st K | with_reducible apply Block.chCommand_st K | dsimp only | intro _)

theorem Block.hartPool_st (K : KeptBySt Q) (b : Block) (hb : Q b.regs) : Q (Block.hartPool b).regs := by
  unfold Block.hartPool
  repeat' (first | with_reducible assumption | with_reducible refine Block.fset_st K _ _ _ (by first | decide | exact vsOk_notState _ | (left; simp only [F.HRT_MODEM_MAP_HELD, F.HRT_POOL_BUSY, F.HRT_POOL_FREE, F.HRT_POOL_HEALTHY, F.HRT_POOL_HELD, Reg.HRT_MODEM_MAP, Reg.HRT_POOL, Reg.SYS_STATE, ne_eq]; omega) | (left; split <;> (simp only [F.HRT_MODEM_MAP_HELD, F.HRT_POOL_BUSY, F.HRT_POOL_FREE, F.HRT_POOL_HEALTHY, F.HRT_POOL_HELD, Reg.HRT_MODEM_MAP, Reg.HRT_POOL, Reg.SYS_STATE, ne_eq]; omega))) ?_ | dsimp only | intro _)

theorem Block.hartConnect_st (K : KeptBySt Q) (b : Block) (n m : Nat) (hb : Q b.regs) : Q (Block.hartConnect b n m).regs := by
  unfold Block.hartConnect
  repeat' (first | with_reducible assumption | with_reducible refine Block.fset_st K _ _ _ (by first | decide | exact vsOk_notState _ | (left; simp only [F.HRT_CH_STAT_BOUND, F.HRT_CH_STAT_MODEM, Reg.HRT_CH_STAT, Reg.HRT_MODEM_MAP, Reg.SYS_STATE, ne_eq]; omega) | (left; split <;> (simp only [F.HRT_CH_STAT_BOUND, F.HRT_CH_STAT_MODEM, Reg.HRT_CH_STAT, Reg.HRT_MODEM_MAP, Reg.SYS_STATE, ne_eq]; omega))) ?_ | dsimp only)

theorem Block.hartBind_st (K : KeptBySt Q) (b : Block) (n : Nat) (hb : Q b.regs) : Q (Block.hartBind b n).regs := by
  unfold Block.hartBind
  repeat' (first | with_reducible assumption | with_reducible apply Block.hartConnect_st K | with_reducible refine ite_keep ?_ ?_ | split | dsimp only | with_reducible refine pair_keep (by with_reducible assumption) ?_ | with_reducible refine pair_keep' (by with_reducible assumption) ?_)

theorem Block.hartRebind_st (K : KeptBySt Q) (b : Block) (hb : Q b.regs) : Q (Block.hartRebind b).regs := by
  unfold Block.hartRebind
  repeat' (first | with_reducible assumption | with_reducible refine Block.forAll_keep _ _ _ ?_ (fun _ _ _ => ?_) | with_reducible apply Block.hartBind_st K | with_reducible apply Block.hartPool_st K | dsimp only)

theorem Block.hartUnbind_st (K : KeptBySt Q) (b : Block) (n : Nat) (hb : Q b.regs) : Q (Block.hartUnbind b n).regs := by
  unfold Block.hartUnbind
  repeat' (first | with_reducible assumption | with_reducible refine Block.fset_st K _ _ _ (by first | decide | exact vsOk_notState _ | (left; simp only [F.HRT_CH_STAT_BOUND, F.HRT_CH_STAT_MODEM, Reg.HRT_CH_STAT, Reg.HRT_MODEM_MAP, Reg.SYS_STATE, ne_eq]; omega) | (left; split <;> (simp only [F.HRT_CH_STAT_BOUND, F.HRT_CH_STAT_MODEM, Reg.HRT_CH_STAT, Reg.HRT_MODEM_MAP, Reg.SYS_STATE, ne_eq]; omega))) ?_ | with_reducible refine Block.fsetB_st K _ _ _ (by first | decide | exact vsOk_notState _ | (left; simp only [F.HRT_CH_STAT_BOUND, F.HRT_CH_STAT_MODEM, Reg.HRT_CH_STAT, Reg.HRT_MODEM_MAP, Reg.SYS_STATE, ne_eq]; omega) | (left; split <;> (simp only [F.HRT_CH_STAT_BOUND, F.HRT_CH_STAT_MODEM, Reg.HRT_CH_STAT, Reg.HRT_MODEM_MAP, Reg.SYS_STATE, ne_eq]; omega))) ?_ | with_reducible refine ite_keep ?_ ?_ | dsimp only | intro _)

theorem Block.hartTakeUp_st (K : KeptBySt Q) (b : Block) (n : Nat) (hb : Q b.regs) : Q (Block.hartTakeUp b n).regs := by
  unfold Block.hartTakeUp
  repeat' (first | with_reducible assumption | with_reducible refine Block.fset_st K _ _ _ (by first | decide | exact vsOk_notState _ | (left; simp only [F.HRT_CH_STAT_HELD, Reg.HRT_CH_STAT, Reg.SYS_STATE, ne_eq]; omega) | (left; split <;> (simp only [F.HRT_CH_STAT_HELD, Reg.HRT_CH_STAT, Reg.SYS_STATE, ne_eq]; omega))) ?_ | with_reducible apply Block.hartBind_st K | with_reducible apply Block.hartPool_st K | with_reducible apply Block.hartUnbind_st K | with_reducible apply Block.hartRebind_st K | with_reducible refine ite_keep ?_ ?_ | dsimp only)

theorem Block.setHartItem_st (K : KeptBySt Q) (b : Block) (n : Nat) (i : HartItem) (hb : Q b.regs) : Q (Block.setHartItem b n i).regs := by
  unfold Block.setHartItem
  repeat' (first | with_reducible assumption | dsimp only)

theorem Block.hartUpdate_st (K : KeptBySt Q) (b : Block) (n cmd respCode devStatus : Nat) (vars : List Nat) (hb : Q b.regs) : Q (Block.hartUpdate b n cmd respCode devStatus vars).regs := by
  unfold Block.hartUpdate
  repeat' (first | with_reducible assumption | with_reducible apply Block.setHartItem_st K | with_reducible refine ite_keep ?_ ?_ | dsimp only)

theorem Block.hartResult_st (K : KeptBySt Q) (b : Block) (req : HartReq) (code tries modem : Nat) (hb : Q b.regs) : Q (Block.hartResult b req code tries modem).regs := by
  unfold Block.hartResult
  repeat' (first | with_reducible assumption | with_reducible refine Block.when_keep _ _ _ ?_ (fun _ => ?_) | with_reducible refine Block.incSat_st K _ _ (by first | decide | exact vsOk_notState _ | (left; simp only [F.HRT_CH_CFG_BIND, F.HRT_CH_CFG_IMG_ADDR, F.HRT_CH_STAT_FAILS, F.HRT_T_RSTAT_MODEM, F.HRT_T_STAT_CODE, F.HRT_T_STAT_STATE, F.HRT_T_STAT_TRIES, Reg.HRT_CH_CFG, Reg.HRT_CH_STAT, Reg.HRT_T_END_HI, Reg.HRT_T_END_LO, Reg.HRT_T_RSTAT, Reg.HRT_T_STAT, Reg.SYS_STATE, ne_eq]; omega) | (left; split <;> (simp only [F.HRT_CH_CFG_BIND, F.HRT_CH_CFG_IMG_ADDR, F.HRT_CH_STAT_FAILS, F.HRT_T_RSTAT_MODEM, F.HRT_T_STAT_CODE, F.HRT_T_STAT_STATE, F.HRT_T_STAT_TRIES, Reg.HRT_CH_CFG, Reg.HRT_CH_STAT, Reg.HRT_T_END_HI, Reg.HRT_T_END_LO, Reg.HRT_T_RSTAT, Reg.HRT_T_STAT, Reg.SYS_STATE, ne_eq]; omega))) ?_ | with_reducible apply Block.setHartItem_st K | with_reducible refine Block.fset_st K _ _ _ (by first | decide | exact vsOk_notState _ | (left; simp only [F.HRT_CH_CFG_BIND, F.HRT_CH_CFG_IMG_ADDR, F.HRT_CH_STAT_FAILS, F.HRT_T_RSTAT_MODEM, F.HRT_T_STAT_CODE, F.HRT_T_STAT_STATE, F.HRT_T_STAT_TRIES, Reg.HRT_CH_CFG, Reg.HRT_CH_STAT, Reg.HRT_T_END_HI, Reg.HRT_T_END_LO, Reg.HRT_T_RSTAT, Reg.HRT_T_STAT, Reg.SYS_STATE, ne_eq]; omega) | (left; split <;> (simp only [F.HRT_CH_CFG_BIND, F.HRT_CH_CFG_IMG_ADDR, F.HRT_CH_STAT_FAILS, F.HRT_T_RSTAT_MODEM, F.HRT_T_STAT_CODE, F.HRT_T_STAT_STATE, F.HRT_T_STAT_TRIES, Reg.HRT_CH_CFG, Reg.HRT_CH_STAT, Reg.HRT_T_END_HI, Reg.HRT_T_END_LO, Reg.HRT_T_RSTAT, Reg.HRT_T_STAT, Reg.SYS_STATE, ne_eq]; omega))) ?_ | with_reducible refine Block.stamp_st K _ _ _ (by first | decide | (simp only [F.HRT_CH_CFG_BIND, F.HRT_CH_CFG_IMG_ADDR, F.HRT_CH_STAT_FAILS, F.HRT_T_RSTAT_MODEM, F.HRT_T_STAT_CODE, F.HRT_T_STAT_STATE, F.HRT_T_STAT_TRIES, Reg.HRT_CH_CFG, Reg.HRT_CH_STAT, Reg.HRT_T_END_HI, Reg.HRT_T_END_LO, Reg.HRT_T_RSTAT, Reg.HRT_T_STAT, Reg.SYS_STATE, ne_eq]; omega) | (split <;> decide)) (by first | decide | (simp only [F.HRT_CH_CFG_BIND, F.HRT_CH_CFG_IMG_ADDR, F.HRT_CH_STAT_FAILS, F.HRT_T_RSTAT_MODEM, F.HRT_T_STAT_CODE, F.HRT_T_STAT_STATE, F.HRT_T_STAT_TRIES, Reg.HRT_CH_CFG, Reg.HRT_CH_STAT, Reg.HRT_T_END_HI, Reg.HRT_T_END_LO, Reg.HRT_T_RSTAT, Reg.HRT_T_STAT, Reg.SYS_STATE, ne_eq]; omega) | (split <;> decide)) ?_ | with_reducible apply Block.raiseEvt_st K | split | dsimp only | with_reducible refine pair_keep (by with_reducible assumption) ?_ | with_reducible refine pair_keep' (by with_reducible assumption) ?_ | intro _)

theorem Block.hartLeave_st (K : KeptBySt Q) (b : Block) (n : Nat) (hb : Q b.regs) : Q (Block.hartLeave b n).regs := by
  unfold Block.hartLeave
  repeat' (first | with_reducible assumption | with_reducible refine Block.when_keep _ _ _ ?_ (fun _ => ?_) | with_reducible refine Block.fset_st K _ _ _ (by first | decide | exact vsOk_notState _ | (left; simp only [F.HRT_CH_STAT_BOUND, Reg.HRT_CH_STAT, Reg.SYS_STATE, ne_eq]; omega) | (left; split <;> (simp only [F.HRT_CH_STAT_BOUND, Reg.HRT_CH_STAT, Reg.SYS_STATE, ne_eq]; omega))) ?_ | dsimp only | intro _)

theorem Block.hartEnd_st (K : KeptBySt Q) (b : Block) (x : HartRun) (code : Nat) (hb : Q b.regs) : Q (Block.hartEnd b x code).regs := by
  unfold Block.hartEnd
  repeat' (first | with_reducible assumption | with_reducible apply Block.hartResult_st K | with_reducible apply Block.hartLeave_st K | with_reducible apply Block.hartRebind_st K | dsimp only | intro _)

theorem Block.hartDrop_st (K : KeptBySt Q) (b : Block) (q : HartReq) (code : Nat) (hb : Q b.regs) : Q (Block.hartDrop b q code).regs := by
  unfold Block.hartDrop
  repeat' (first | with_reducible assumption | with_reducible apply Block.hartResult_st K | dsimp only)

theorem Block.hartEndChannel_st (K : KeptBySt Q) (b : Block) (n code : Nat) (hb : Q b.regs) : Q (Block.hartEndChannel b n code).regs := by
  unfold Block.hartEndChannel
  repeat' (first | with_reducible assumption | with_reducible refine Block.forAll_keep _ _ _ ?_ (fun _ _ _ => ?_) | with_reducible apply Block.hartDrop_st K | with_reducible apply Block.hartEnd_st K | dsimp only | intro _)

theorem Block.hartCheck_st (K : KeptBySt Q) (b : Block) (n : Nat) (hb : Q b.regs) : Q (Block.hartCheck b n).regs := by
  unfold Block.hartCheck
  repeat' (first | with_reducible assumption | with_reducible apply Block.hartEndChannel_st K | with_reducible refine ite_keep ?_ ?_ | dsimp only)

theorem Block.hartDemoted_st (K : KeptBySt Q) (b : Block) (hb : Q b.regs) : Q (Block.hartDemoted b).regs := by
  unfold Block.hartDemoted
  repeat' (first | with_reducible assumption | with_reducible refine Block.forAll_keep _ _ _ ?_ (fun _ _ _ => ?_) | with_reducible apply Block.hartEnd_st K | with_reducible apply Block.hartDrop_st K | dsimp only | intro _)

theorem Block.hartClaimLost_st (K : KeptBySt Q) (b : Block) (hb : Q b.regs) : Q (Block.hartClaimLost b).regs := by
  unfold Block.hartClaimLost
  repeat' (first | with_reducible assumption | with_reducible refine Block.forAll_keep _ _ _ ?_ (fun _ _ _ => ?_) | with_reducible apply Block.hartEndChannel_st K | dsimp only | intro _)

theorem Block.hartFollow_st (K : KeptBySt Q) (b : Block) (old n : Nat) (hb : Q b.regs) : Q (Block.hartFollow b old n).regs := by
  unfold Block.hartFollow
  repeat' (first | with_reducible assumption | with_reducible apply Block.hartCheck_st K | with_reducible apply Block.hartEndChannel_st K | with_reducible refine Block.when_keep _ _ _ ?_ (fun _ => ?_) | with_reducible apply Block.hartTakeUp_st K | with_reducible refine ite_keep ?_ ?_ | dsimp only | intro _)

theorem Block.hartCheckAll_st (K : KeptBySt Q) (b : Block) (hb : Q b.regs) : Q (Block.hartCheckAll b).regs := by
  unfold Block.hartCheckAll
  repeat' (first | with_reducible assumption | with_reducible refine Block.forAll_keep _ _ _ ?_ (fun _ _ _ => ?_) | with_reducible apply Block.hartCheck_st K | dsimp only)

theorem Block.hartCfgWrite_st (K : KeptBySt Q) (b : Block) (r : Requester) (n v : Nat) (hb : Q b.regs) : Q (Block.hartCfgWrite b r n v).1.regs := by
  unfold Block.hartCfgWrite
  repeat' (first | with_reducible assumption | with_reducible apply Block.regWrite_st K | with_reducible refine Block.when_keep _ _ _ ?_ (fun _ => ?_) | with_reducible apply Block.setHartItem_st K | with_reducible apply Block.hartTakeUp_st K | with_reducible refine Block.fset_st K _ _ _ (by first | decide | exact vsOk_notState _ | (left; simp only [F.HRT_CFG_RES_CH, F.HRT_CFG_RES_CODE, F.HRT_CH_CFG_BIND, F.HRT_CH_CFG_IMG_ADDR, Reg.HRT_CFG_RES, Reg.HRT_CH_CFG, Reg.SYS_STATE, ne_eq]; omega) | (left; split <;> (simp only [F.HRT_CFG_RES_CH, F.HRT_CFG_RES_CODE, F.HRT_CH_CFG_BIND, F.HRT_CH_CFG_IMG_ADDR, Reg.HRT_CFG_RES, Reg.HRT_CH_CFG, Reg.SYS_STATE, ne_eq]; omega))) ?_ | with_reducible apply Block.raiseEvt_st K | with_reducible refine ite_keep ?_ ?_ | split | dsimp only | with_reducible refine pair_keep (by with_reducible assumption) ?_ | with_reducible refine pair_keep' (by with_reducible assumption) ?_ | intro _)

theorem Block.hartWaits_st (K : KeptBySt Q) (b : Block) (q : HartReq) (hb : Q b.regs) : Q (Block.hartWaits b q).regs := by
  unfold Block.hartWaits
  repeat' (first | with_reducible assumption | with_reducible refine Block.when_keep _ _ _ ?_ (fun _ => ?_) | with_reducible apply Block.timed_st K | dsimp only | intro _)

theorem Block.hartQueue_st (K : KeptBySt Q) (b : Block) (q : HartReq) (hb : Q b.regs) : Q (Block.hartQueue b q).regs := by
  unfold Block.hartQueue
  repeat' (first | with_reducible assumption | with_reducible apply Block.hartResult_st K | with_reducible apply Block.hartWaits_st K | split | dsimp only | with_reducible refine pair_keep (by with_reducible assumption) ?_ | with_reducible refine pair_keep' (by with_reducible assumption) ?_)

theorem Block.hartSubmit_st (K : KeptBySt Q) (b : Block) (t old : Nat) (hb : Q b.regs) : Q (Block.hartSubmit b t old).regs := by
  unfold Block.hartSubmit
  repeat' (first | with_reducible assumption | with_reducible refine Block.setRegN_st K _ _ _ (by first | decide | (simp only [F.HRT_T_STAT_REJECT, F.HRT_T_STAT_RLEN, F.HRT_T_STAT_STATE, F.HRT_T_STAT_TRIES, Reg.HRT_T_CTL, Reg.HRT_T_STAT, Reg.SYS_STATE, ne_eq]; omega) | (split <;> decide)) ?_ | with_reducible refine Block.fset_st K _ _ _ (by first | decide | exact vsOk_notState _ | (left; simp only [F.HRT_T_STAT_REJECT, F.HRT_T_STAT_RLEN, F.HRT_T_STAT_STATE, F.HRT_T_STAT_TRIES, Reg.HRT_T_CTL, Reg.HRT_T_STAT, Reg.SYS_STATE, ne_eq]; omega) | (left; split <;> (simp only [F.HRT_T_STAT_REJECT, F.HRT_T_STAT_RLEN, F.HRT_T_STAT_STATE, F.HRT_T_STAT_TRIES, Reg.HRT_T_CTL, Reg.HRT_T_STAT, Reg.SYS_STATE, ne_eq]; omega))) ?_ | with_reducible apply Block.hartQueue_st K | with_reducible refine ite_keep ?_ ?_ | dsimp only)

theorem Block.hartCancelSlot_st (K : KeptBySt Q) (b : Block) (t : Nat) (hb : Q b.regs) : Q (Block.hartCancelSlot b t).regs := by
  unfold Block.hartCancelSlot
  repeat' (first | with_reducible assumption | with_reducible refine Block.forAll_keep _ _ _ ?_ (fun _ _ _ => ?_) | with_reducible apply Block.hartDrop_st K | with_reducible apply Block.hartEnd_st K | dsimp only | intro _)

theorem Block.hartCtl_st (K : KeptBySt Q) (b : Block) (t v old : Nat) (hb : Q b.regs) : Q (Block.hartCtl b t v old).regs := by
  unfold Block.hartCtl
  repeat' (first | with_reducible assumption | with_reducible refine Block.when_keep _ _ _ ?_ (fun _ => ?_) | with_reducible apply Block.hartSubmit_st K | with_reducible apply Block.hartCancelSlot_st K | dsimp only | intro _)

theorem Block.hartCtlBy_st (K : KeptBySt Q) (b : Block) (r : Requester) (t v : Nat) (hb : Q b.regs) : Q (Block.hartCtlBy b r t v).1.regs := by
  unfold Block.hartCtlBy
  repeat' (first | with_reducible assumption | with_reducible apply Block.regWrite_st K | with_reducible apply Block.hartCtl_st K | with_reducible refine Block.when_keep _ _ _ ?_ (fun _ => ?_) | with_reducible refine Block.fset_st K _ _ _ (by first | decide | exact vsOk_notState _ | (left; simp only [F.HRT_T_STAT_CODE, Reg.HRT_T_CTL, Reg.HRT_T_STAT, Reg.SYS_STATE, ne_eq]; omega) | (left; split <;> (simp only [F.HRT_T_STAT_CODE, Reg.HRT_T_CTL, Reg.HRT_T_STAT, Reg.SYS_STATE, ne_eq]; omega))) ?_ | split | dsimp only | with_reducible refine pair_keep (by with_reducible assumption) ?_ | with_reducible refine pair_keep' (by with_reducible assumption) ?_ | intro _)

theorem Block.hartCtlWrite_st (K : KeptBySt Q) (b : Block) (r : Requester) (t v : Nat) (hb : Q b.regs) : Q (Block.hartCtlWrite b r t v).regs := by
  unfold Block.hartCtlWrite
  repeat' (first | with_reducible assumption | with_reducible apply Block.hartCtlBy_st K | with_reducible apply Block.out_st K | with_reducible refine ite_keep ?_ ?_ | split | dsimp only | with_reducible refine pair_keep (by with_reducible assumption) ?_ | with_reducible refine pair_keep' (by with_reducible assumption) ?_)

theorem Block.hartCarrier_st (K : KeptBySt Q) (b : Block) (n : Nat) (hb : Q b.regs) : Q (Block.hartCarrier b n).regs := by
  unfold Block.hartCarrier
  repeat' (first | with_reducible assumption | with_reducible apply Block.timed_st K | dsimp only | intro _)

theorem Block.hartSend_st (K : KeptBySt Q) (b : Block) (x : HartRun) (hb : Q b.regs) : Q (Block.hartSend b x).regs := by
  unfold Block.hartSend
  repeat' (first | with_reducible assumption | with_reducible apply Block.timed_st K | with_reducible apply Block.hartCarrier_st K | with_reducible apply Block.send_st K | with_reducible refine ite_keep ?_ ?_ | dsimp only)

theorem Block.hartForeign_st (K : KeptBySt Q) (b : Block) (n : Nat) (foreign : Bool) (hb : Q b.regs) : Q (Block.hartForeign b n foreign).regs := by
  unfold Block.hartForeign
  repeat' (first | with_reducible assumption | with_reducible refine Block.when_keep _ _ _ ?_ (fun _ => ?_) | with_reducible apply Block.hartCarrier_st K | dsimp only | intro _)

theorem Block.hartAgain_st (K : KeptBySt Q) (b : Block) (x : HartRun) (hb : Q b.regs) : Q (Block.hartAgain b x).regs := by
  unfold Block.hartAgain
  repeat' (first | with_reducible assumption | with_reducible refine Block.fset_st K _ _ _ (by first | decide | exact vsOk_notState _ | (left; simp only [F.HRT_T_STAT_TRIES, Reg.HRT_T_STAT, Reg.SYS_STATE, ne_eq]; omega) | (left; split <;> (simp only [F.HRT_T_STAT_TRIES, Reg.HRT_T_STAT, Reg.SYS_STATE, ne_eq]; omega))) ?_ | with_reducible apply Block.hartSend_st K | with_reducible refine ite_keep ?_ ?_ | split | dsimp only | with_reducible refine pair_keep (by with_reducible assumption) ?_ | with_reducible refine pair_keep' (by with_reducible assumption) ?_ | intro _)

theorem Block.hartStart_st (K : KeptBySt Q) (b : Block) (n : Nat) (hb : Q b.regs) : Q (Block.hartStart b n).regs := by
  unfold Block.hartStart
  repeat' (first | with_reducible assumption | with_reducible apply Block.hartAgain_st K | with_reducible refine Block.fset_st K _ _ _ (by first | decide | exact vsOk_notState _ | (left; simp only [F.HRT_CH_STAT_BOUND, F.HRT_CH_STAT_HELD, F.HRT_CH_STAT_MODEM, F.HRT_T_STAT_STATE, F.HRT_T_STAT_TRIES, Reg.HRT_CH_STAT, Reg.HRT_T_STAT, Reg.SYS_STATE, ne_eq]; omega) | (left; split <;> (simp only [F.HRT_CH_STAT_BOUND, F.HRT_CH_STAT_HELD, F.HRT_CH_STAT_MODEM, F.HRT_T_STAT_STATE, F.HRT_T_STAT_TRIES, Reg.HRT_CH_STAT, Reg.HRT_T_STAT, Reg.SYS_STATE, ne_eq]; omega))) ?_ | with_reducible refine Block.when_keep _ _ _ ?_ (fun _ => ?_) | with_reducible apply Block.hartSend_st K | with_reducible apply Block.hartPool_st K | with_reducible refine ite_keep ?_ ?_ | split | dsimp only | with_reducible refine pair_keep (by with_reducible assumption) ?_ | with_reducible refine pair_keep' (by with_reducible assumption) ?_ | intro _)

theorem Block.hartStore_st (K : KeptBySt Q) (b : Block) (t : Nat) (data : List Nat) (hb : Q b.regs) : Q (Block.hartStore b t data).regs := by
  unfold Block.hartStore
  repeat' (first | with_reducible assumption | with_reducible refine Block.forAll_keep _ _ _ ?_ (fun _ _ _ => ?_) | with_reducible refine Block.fset_st K _ _ _ (by first | decide | exact vsOk_notState _ | (left; simp only [Reg.HRT_T_DATA, Reg.SYS_STATE, ne_eq]; omega) | (left; split <;> (simp only [Reg.HRT_T_DATA, Reg.SYS_STATE, ne_eq]; omega))) ?_ | dsimp only | intro _)

theorem Block.hartBurstEnd_st (K : KeptBySt Q) (b : Block) (n : Nat) (hb : Q b.regs) : Q (Block.hartBurstEnd b n).regs := by
  unfold Block.hartBurstEnd
  repeat' (first | with_reducible assumption | dsimp only | intro _)

theorem Block.modemFail_st (K : KeptBySt Q) (b : Block) (m : Nat) (hb : Q b.regs) : Q (Block.modemFail b m).regs := by
  unfold Block.modemFail
  repeat' (first | with_reducible assumption | with_reducible refine Block.fset_st K _ _ _ (by first | decide | exact vsOk_notState _ | (left; simp only [F.HRT_CH_STAT_MODEM, Reg.HRT_CH_STAT, Reg.HRT_MODEM_MAP, Reg.SYS_STATE, ne_eq]; omega) | (left; split <;> (simp only [F.HRT_CH_STAT_MODEM, Reg.HRT_CH_STAT, Reg.HRT_MODEM_MAP, Reg.SYS_STATE, ne_eq]; omega))) ?_ | with_reducible apply Block.raiseEvt_st K | with_reducible refine Block.forAll_keep _ _ _ ?_ (fun _ _ _ => ?_) | with_reducible apply Block.hartUnbind_st K | with_reducible apply Block.hartBind_st K | with_reducible refine Block.when_keep _ _ _ ?_ (fun _ => ?_) | with_reducible apply Block.hartEnd_st K | with_reducible apply Block.hartPool_st K | with_reducible refine ite_keep ?_ ?_ | dsimp only | intro _)

theorem Block.chModeSet_st (K : KeptBySt Q) (b : Block) (r : Requester) (n v : Nat) (hb : Q b.regs) : Q (Block.chModeSet b r n v).1.regs := by
  unfold Block.chModeSet
  repeat' (first | with_reducible assumption | with_reducible apply Block.chModeWriteBy_st K | with_reducible apply Block.hartFollow_st K | split | dsimp only | with_reducible refine pair_keep (by with_reducible assumption) ?_ | with_reducible refine pair_keep' (by with_reducible assumption) ?_)

theorem Block.modOut_st (K : KeptBySt Q) (b : Block) (src : Nat) (f : OutEl → OutEl) (hb : Q b.regs) : Q (Block.modOut b src f).regs := by
  unfold Block.modOut
  repeat' (first | with_reducible assumption | dsimp only)

theorem Block.setLnkSt_st (K : KeptBySt Q) (b : Block) (a : Nat) (st : LnkSt) (hb : Q b.regs) : Q (Block.setLnkSt b a st).regs := by
  unfold Block.setLnkSt
  repeat' (first | with_reducible assumption | dsimp only)

theorem Block.setLnkSeg_st (K : KeptBySt Q) (b : Block) (s : Nat) (g : LnkSeg) (hb : Q b.regs) : Q (Block.setLnkSeg b s g).regs := by
  unfold Block.setLnkSeg
  repeat' (first | with_reducible assumption | dsimp only)

theorem Block.lnkCounts_st (K : KeptBySt Q) (b : Block) (hb : Q b.regs) : Q (Block.lnkCounts b).regs := by
  unfold Block.lnkCounts
  repeat' (first | with_reducible assumption | with_reducible refine Block.fset_st K _ _ _ (by first | decide | exact vsOk_notState _ | (left; simp only [F.LNK_STAT_DOWN, F.LNK_STAT_UP, Reg.LNK_STAT, Reg.SYS_STATE, ne_eq]; omega) | (left; split <;> (simp only [F.LNK_STAT_DOWN, F.LNK_STAT_UP, Reg.LNK_STAT, Reg.SYS_STATE, ne_eq]; omega))) ?_ | dsimp only | intro _)

theorem Block.lnkSet_st (K : KeptBySt Q) (b : Block) (a st : Nat) (hb : Q b.regs) : Q (Block.lnkSet b a st).regs := by
  unfold Block.lnkSet
  repeat' (first | with_reducible assumption | with_reducible refine Block.fset_st K _ _ _ (by first | decide | exact vsOk_notState _ | (left; simp only [F.LNK_DOWN_CNT_COUNT, F.LNK_ST_CNT_DOWN, F.LNK_ST_STATE_STATE, Reg.LNK_DOWN_CNT, Reg.LNK_ST_CNT, Reg.LNK_ST_STATE, Reg.SYS_STATE, ne_eq]; omega) | (left; split <;> (simp only [F.LNK_DOWN_CNT_COUNT, F.LNK_ST_CNT_DOWN, F.LNK_ST_STATE_STATE, Reg.LNK_DOWN_CNT, Reg.LNK_ST_CNT, Reg.LNK_ST_STATE, Reg.SYS_STATE, ne_eq]; omega))) ?_ | with_reducible apply Block.lnkCounts_st K | with_reducible apply Block.event_st K | with_reducible refine Block.incSat_st K _ _ (by first | decide | exact vsOk_notState _ | (left; simp only [F.LNK_DOWN_CNT_COUNT, F.LNK_ST_CNT_DOWN, F.LNK_ST_STATE_STATE, Reg.LNK_DOWN_CNT, Reg.LNK_ST_CNT, Reg.LNK_ST_STATE, Reg.SYS_STATE, ne_eq]; omega) | (left; split <;> (simp only [F.LNK_DOWN_CNT_COUNT, F.LNK_ST_CNT_DOWN, F.LNK_ST_STATE_STATE, Reg.LNK_DOWN_CNT, Reg.LNK_ST_CNT, Reg.LNK_ST_STATE, Reg.SYS_STATE, ne_eq]; omega))) ?_ | with_reducible refine ite_keep ?_ ?_ | split | dsimp only | with_reducible refine pair_keep (by with_reducible assumption) ?_ | with_reducible refine pair_keep' (by with_reducible assumption) ?_)

theorem Block.lnkSegShow_st (K : KeptBySt Q) (b : Block) (hb : Q b.regs) : Q (Block.lnkSegShow b).regs := by
  unfold Block.lnkSegShow
  repeat' (first | with_reducible assumption | with_reducible refine Block.forAll_keep _ _ _ ?_ (fun _ _ _ => ?_) | with_reducible refine Block.setRegN_st K _ _ _ (by first | decide | (simp only [F.CTX_CFG_CLASS, F.CTX_WCET_WCET, F.LNK_SEG_CFG_VALID, Reg.CTX_CFG, Reg.CTX_WCET, Reg.LNK_SEG_CFG, Reg.LNK_SEG_D, Reg.LNK_SEG_MIN, Reg.SYS_STATE, ne_eq]; omega) | (split <;> decide)) ?_ | with_reducible refine ite_keep ?_ ?_ | dsimp only | intro _)

theorem lnkDelayField_notState (portB : Bool) (a : Nat) : (lnkDelayField portB a).notState := by
  cases portB <;> exact .inl (by simp only [lnkDelayField, F.LNK_ST_DELAY_DELAY_A, F.LNK_ST_DELAY_DELAY_B, Reg.LNK_ST_DELAY, Reg.SYS_STATE, ne_eq, Bool.false_eq_true, if_false, if_true]; omega)

theorem Block.lnkDelays_st (K : KeptBySt Q) (b : Block) (portB : Bool) (a : Nat) (hb : Q b.regs) : Q (Block.lnkDelays b portB a).regs :=
  Block.lnkSegShow_st K _ (Block.fset_st K _ _ _ (lnkDelayField_notState _ _) hb)

theorem Block.lnkTakeUp_st (K : KeptBySt Q) (b : Block) (cfg : Option LnkCfg) (hb : Q b.regs) : Q (Block.lnkTakeUp b cfg).regs := by
  unfold Block.lnkTakeUp
  repeat' (first | with_reducible assumption | with_reducible refine Block.fset_st K _ _ _ (by first | decide | exact vsOk_notState _ | (left; simp only [F.CTX_CFG_CLASS, F.CTX_WCET_WCET, F.LNK_CFG_SPEED_A, F.LNK_CFG_SPEED_B, F.LNK_CFG_STATIONS, F.LNK_CFG_TOPO, F.LNK_SEG_CFG_CTX, F.LNK_SEG_CFG_VALID, F.LNK_STAT_RING, Reg.CTX_CFG, Reg.CTX_WCET, Reg.LNK_CFG, Reg.LNK_SEG_APPLY, Reg.LNK_SEG_CFG, Reg.LNK_SEG_D, Reg.LNK_SEG_MIN, Reg.LNK_SEG_TIN, Reg.LNK_SEG_TOUT, Reg.LNK_STAT, Reg.LNK_ST_DELAY, Reg.LNK_ST_STATE, Reg.SYS_STATE, ne_eq]; omega) | (left; split <;> (simp only [F.CTX_CFG_CLASS, F.CTX_WCET_WCET, F.LNK_CFG_SPEED_A, F.LNK_CFG_SPEED_B, F.LNK_CFG_STATIONS, F.LNK_CFG_TOPO, F.LNK_SEG_CFG_CTX, F.LNK_SEG_CFG_VALID, F.LNK_STAT_RING, Reg.CTX_CFG, Reg.CTX_WCET, Reg.LNK_CFG, Reg.LNK_SEG_APPLY, Reg.LNK_SEG_CFG, Reg.LNK_SEG_D, Reg.LNK_SEG_MIN, Reg.LNK_SEG_TIN, Reg.LNK_SEG_TOUT, Reg.LNK_STAT, Reg.LNK_ST_DELAY, Reg.LNK_ST_STATE, Reg.SYS_STATE, ne_eq]; omega))) ?_ | with_reducible refine Block.forAll_keep _ _ _ ?_ (fun _ _ _ => ?_) | with_reducible refine Block.fsetB_st K _ _ _ (by first | decide | exact vsOk_notState _ | (left; simp only [F.CTX_CFG_CLASS, F.CTX_WCET_WCET, F.LNK_CFG_SPEED_A, F.LNK_CFG_SPEED_B, F.LNK_CFG_STATIONS, F.LNK_CFG_TOPO, F.LNK_SEG_CFG_CTX, F.LNK_SEG_CFG_VALID, F.LNK_STAT_RING, Reg.CTX_CFG, Reg.CTX_WCET, Reg.LNK_CFG, Reg.LNK_SEG_APPLY, Reg.LNK_SEG_CFG, Reg.LNK_SEG_D, Reg.LNK_SEG_MIN, Reg.LNK_SEG_TIN, Reg.LNK_SEG_TOUT, Reg.LNK_STAT, Reg.LNK_ST_DELAY, Reg.LNK_ST_STATE, Reg.SYS_STATE, ne_eq]; omega) | (left; split <;> (simp only [F.CTX_CFG_CLASS, F.CTX_WCET_WCET, F.LNK_CFG_SPEED_A, F.LNK_CFG_SPEED_B, F.LNK_CFG_STATIONS, F.LNK_CFG_TOPO, F.LNK_SEG_CFG_CTX, F.LNK_SEG_CFG_VALID, F.LNK_STAT_RING, Reg.CTX_CFG, Reg.CTX_WCET, Reg.LNK_CFG, Reg.LNK_SEG_APPLY, Reg.LNK_SEG_CFG, Reg.LNK_SEG_D, Reg.LNK_SEG_MIN, Reg.LNK_SEG_TIN, Reg.LNK_SEG_TOUT, Reg.LNK_STAT, Reg.LNK_ST_DELAY, Reg.LNK_ST_STATE, Reg.SYS_STATE, ne_eq]; omega))) ?_ | with_reducible refine Block.setRegN_st K _ _ _ (by first | decide | (simp only [F.CTX_CFG_CLASS, F.CTX_WCET_WCET, F.LNK_CFG_SPEED_A, F.LNK_CFG_SPEED_B, F.LNK_CFG_STATIONS, F.LNK_CFG_TOPO, F.LNK_SEG_CFG_CTX, F.LNK_SEG_CFG_VALID, F.LNK_STAT_RING, Reg.CTX_CFG, Reg.CTX_WCET, Reg.LNK_CFG, Reg.LNK_SEG_APPLY, Reg.LNK_SEG_CFG, Reg.LNK_SEG_D, Reg.LNK_SEG_MIN, Reg.LNK_SEG_TIN, Reg.LNK_SEG_TOUT, Reg.LNK_STAT, Reg.LNK_ST_DELAY, Reg.LNK_ST_STATE, Reg.SYS_STATE, ne_eq]; omega) | (split <;> decide)) ?_ | with_reducible apply Block.lnkCounts_st K | with_reducible refine ite_keep ?_ ?_ | dsimp only | intro _)

theorem Block.lnkFrame_st (K : KeptBySt Q) (b : Block) (s : Nat) (f : LnkOut) (portB held : Bool) (hb : Q b.regs) : Q (Block.lnkFrame b s f portB held).regs := by
  unfold Block.lnkFrame
  repeat' (first | with_reducible assumption | with_reducible apply Block.send_st K | with_reducible refine ite_keep ?_ ?_ | split | dsimp only | with_reducible refine pair_keep (by with_reducible assumption) ?_ | with_reducible refine pair_keep' (by with_reducible assumption) ?_ | intro _)

theorem Block.lnkFed_st (K : KeptBySt Q) (b : Block) (seq : Nat) (f : LnkOut) (hb : Q b.regs) : Q (Block.lnkFed b seq f).regs := by
  unfold Block.lnkFed
  repeat' (first | with_reducible assumption | with_reducible refine Block.forAll_keep _ _ _ ?_ (fun _ _ _ => ?_) | with_reducible apply Block.setLnkSt_st K | dsimp only | intro _)

theorem Block.lnkSend_st (K : KeptBySt Q) (b : Block) (s : Nat) (held : Bool) (hb : Q b.regs) : Q (Block.lnkSend b s held).regs := by
  unfold Block.lnkSend
  repeat' (first | with_reducible assumption | with_reducible apply Block.setLnkSeg_st K | with_reducible refine Block.forAll_keep _ _ _ ?_ (fun _ _ _ => ?_) | with_reducible apply Block.lnkFrame_st K | with_reducible apply Block.lnkFed_st K | with_reducible refine Block.setRegN_st K _ _ _ (by first | decide | (simp only [F.LNK_HELD_CNT_COUNT, Reg.LNK_HELD_CNT, Reg.LNK_SEG_SEQ, Reg.SYS_STATE, ne_eq]; omega) | (split <;> decide)) ?_ | with_reducible refine Block.when_keep _ _ _ ?_ (fun _ => ?_) | with_reducible refine Block.incSat_st K _ _ (by first | decide | exact vsOk_notState _ | (left; simp only [F.LNK_HELD_CNT_COUNT, Reg.LNK_HELD_CNT, Reg.LNK_SEG_SEQ, Reg.SYS_STATE, ne_eq]; omega) | (left; split <;> (simp only [F.LNK_HELD_CNT_COUNT, Reg.LNK_HELD_CNT, Reg.LNK_SEG_SEQ, Reg.SYS_STATE, ne_eq]; omega))) ?_ | with_reducible apply Block.raiseEvt_st K | with_reducible refine ite_keep ?_ ?_ | dsimp only | intro _)

theorem Block.lnkCommit_st (K : KeptBySt Q) (b : Block) (ctx : Nat) (hb : Q b.regs) : Q (Block.lnkCommit b ctx).regs := by
  unfold Block.lnkCommit
  repeat' (first | with_reducible assumption | with_reducible refine Block.forAll_keep _ _ _ ?_ (fun _ _ _ => ?_) | with_reducible refine Block.when_keep _ _ _ ?_ (fun _ => ?_) | with_reducible apply Block.lnkSend_st K | dsimp only | intro _)

theorem Block.lnkHalt_st (K : KeptBySt Q) (b : Block) (hb : Q b.regs) : Q (Block.lnkHalt b).regs := by
  unfold Block.lnkHalt
  repeat' (first | with_reducible assumption | with_reducible refine Block.forAll_keep _ _ _ ?_ (fun _ _ _ => ?_) | with_reducible refine Block.when_keep _ _ _ ?_ (fun _ => ?_) | with_reducible apply Block.lnkSend_st K | dsimp only | intro _)

theorem Block.lnkRing_st (K : KeptBySt Q) (b : Block) (s : Nat) (hb : Q b.regs) : Q (Block.lnkRing b s).regs := by
  unfold Block.lnkRing
  repeat' (first | with_reducible assumption | with_reducible apply Block.setLnkSeg_st K | with_reducible refine Block.fset_st K _ _ _ (by first | decide | exact vsOk_notState _ | (left; simp only [F.LNK_RING_CNT_COUNT, F.LNK_STAT_BREAK_AFTER, F.LNK_STAT_RING, F.LNK_ST_STATE_PATH_A, Reg.LNK_RING_CNT, Reg.LNK_STAT, Reg.LNK_ST_STATE, Reg.SYS_STATE, ne_eq]; omega) | (left; split <;> (simp only [F.LNK_RING_CNT_COUNT, F.LNK_STAT_BREAK_AFTER, F.LNK_STAT_RING, F.LNK_ST_STATE_PATH_A, Reg.LNK_RING_CNT, Reg.LNK_STAT, Reg.LNK_ST_STATE, Reg.SYS_STATE, ne_eq]; omega))) ?_ | with_reducible refine Block.incSat_st K _ _ (by first | decide | exact vsOk_notState _ | (left; simp only [F.LNK_RING_CNT_COUNT, F.LNK_STAT_BREAK_AFTER, F.LNK_STAT_RING, F.LNK_ST_STATE_PATH_A, Reg.LNK_RING_CNT, Reg.LNK_STAT, Reg.LNK_ST_STATE, Reg.SYS_STATE, ne_eq]; omega) | (left; split <;> (simp only [F.LNK_RING_CNT_COUNT, F.LNK_STAT_BREAK_AFTER, F.LNK_STAT_RING, F.LNK_ST_STATE_PATH_A, Reg.LNK_RING_CNT, Reg.LNK_STAT, Reg.LNK_ST_STATE, Reg.SYS_STATE, ne_eq]; omega))) ?_ | with_reducible apply Block.raiseEvt_st K | with_reducible refine Block.when_keep _ _ _ ?_ (fun _ => ?_) | with_reducible refine ite_keep ?_ ?_ | dsimp only | intro _)

theorem Block.lnkUse_st (K : KeptBySt Q) (b : Block) (f : LinkIn) (e : LnkEntry) (hb : Q b.regs) : Q (Block.lnkUse b f e).regs := by
  unfold Block.lnkUse
  repeat' (first | with_reducible assumption | with_reducible apply Block.sample_st K | with_reducible apply Block.setLnkSt_st K | with_reducible apply Block.lnkDelays_st K | with_reducible refine Block.fsetB_st K _ _ _ (by first | decide | exact vsOk_notState _ | (left; simp only [F.LNK_ST_STATE_FLAGS, F.LNK_ST_STATE_MISSED, F.LNK_ST_STATE_PATH_A, F.LNK_ST_STATE_PATH_B, F.LNK_ST_STATE_VER, Reg.LNK_ST_STATE, Reg.SYS_STATE, ne_eq]; omega) | (left; split <;> (simp only [F.LNK_ST_STATE_FLAGS, F.LNK_ST_STATE_MISSED, F.LNK_ST_STATE_PATH_A, F.LNK_ST_STATE_PATH_B, F.LNK_ST_STATE_VER, Reg.LNK_ST_STATE, Reg.SYS_STATE, ne_eq]; omega))) ?_ | with_reducible refine Block.fset_st K _ _ _ (by first | decide | exact vsOk_notState _ | (left; simp only [F.LNK_ST_STATE_FLAGS, F.LNK_ST_STATE_MISSED, F.LNK_ST_STATE_PATH_A, F.LNK_ST_STATE_PATH_B, F.LNK_ST_STATE_VER, Reg.LNK_ST_STATE, Reg.SYS_STATE, ne_eq]; omega) | (left; split <;> (simp only [F.LNK_ST_STATE_FLAGS, F.LNK_ST_STATE_MISSED, F.LNK_ST_STATE_PATH_A, F.LNK_ST_STATE_PATH_B, F.LNK_ST_STATE_VER, Reg.LNK_ST_STATE, Reg.SYS_STATE, ne_eq]; omega))) ?_ | with_reducible refine Block.when_keep _ _ _ ?_ (fun _ => ?_) | with_reducible apply Block.lnkSet_st K | with_reducible refine ite_keep ?_ ?_ | split | dsimp only | with_reducible refine pair_keep (by with_reducible assumption) ?_ | with_reducible refine pair_keep' (by with_reducible assumption) ?_ | intro _)

theorem Block.lnkIn_st (K : KeptBySt Q) (b : Block) (f : LinkIn) (hb : Q b.regs) : Q (Block.lnkIn b f).regs := by
  unfold Block.lnkIn
  repeat' (first | with_reducible assumption | with_reducible refine Block.incSat_st K _ _ (by first | decide | exact vsOk_notState _ | (left; simp only [F.LNK_STRAY_CNT_COUNT, F.LNK_ST_CNT_REFUSED, Reg.LNK_STRAY_CNT, Reg.LNK_ST_CNT, Reg.SYS_STATE, ne_eq]; omega) | (left; split <;> (simp only [F.LNK_STRAY_CNT_COUNT, F.LNK_ST_CNT_REFUSED, Reg.LNK_STRAY_CNT, Reg.LNK_ST_CNT, Reg.SYS_STATE, ne_eq]; omega))) ?_ | with_reducible apply Block.raiseEvt_st K | with_reducible apply Block.lnkUse_st K | with_reducible refine ite_keep ?_ ?_ | split | dsimp only | with_reducible refine pair_keep (by with_reducible assumption) ?_ | with_reducible refine pair_keep' (by with_reducible assumption) ?_)

theorem Block.lnkAnswered_st (K : KeptBySt Q) (b : Block) (ans : LnkAnswer) (hb : Q b.regs) : Q (Block.lnkAnswered b ans).regs := by
  unfold Block.lnkAnswered
  repeat' (first | with_reducible assumption | dsimp only)

theorem Block.lnkRefused_st (K : KeptBySt Q) (b : Block) (a : Nat) (hb : Q b.regs) : Q (Block.lnkRefused b a).regs := by
  unfold Block.lnkRefused
  repeat' (first | with_reducible assumption | with_reducible apply Block.setLnkSt_st K | with_reducible refine Block.when_keep _ _ _ ?_ (fun _ => ?_) | with_reducible apply Block.lnkSet_st K | with_reducible apply Block.lnkSegShow_st K | dsimp only | intro _)

theorem Block.lnkRefuse_st (K : KeptBySt Q) (b : Block) (a code : Nat) (ans : LnkAnswer) (hb : Q b.regs) : Q (Block.lnkRefuse b a code ans).regs := by
  unfold Block.lnkRefuse
  exact Block.lnkAnswered_st K _ _ (Block.when_keep _ _ _ (Block.raiseEvt_st K _ _ _ (Block.fset_st K _ _ _ (.inl (by simp only [F.LNK_ST_STATE_CODE, Reg.LNK_ST_STATE, Reg.SYS_STATE, ne_eq]; omega)) hb)) fun h =>
    Block.lnkRefused_st K _ _ h)

theorem Block.lnkStray_st (K : KeptBySt Q) (b : Block) (hb : Q b.regs) : Q (Block.lnkStray b).regs := by
  unfold Block.lnkStray
  repeat' (first | with_reducible assumption | with_reducible refine Block.incSat_st K _ _ (by first | decide | exact vsOk_notState _ | (left; simp only [F.LNK_STRAY_CNT_COUNT, Reg.LNK_STRAY_CNT, Reg.SYS_STATE, ne_eq]; omega) | (left; split <;> (simp only [F.LNK_STRAY_CNT_COUNT, Reg.LNK_STRAY_CNT, Reg.SYS_STATE, ne_eq]; omega))) ?_ | with_reducible apply Block.raiseEvt_st K | dsimp only)

theorem Block.lnkHello_st (K : KeptBySt Q) (b : Block) (h : LinkHello) (hb : Q b.regs) : Q (Block.lnkHello b h).regs := by
  unfold Block.lnkHello
  repeat' (first | with_reducible assumption | with_reducible apply Block.lnkStray_st K | with_reducible apply Block.raiseEvt_st K | with_reducible refine Block.when_keep _ _ _ ?_ (fun _ => ?_) | with_reducible refine Block.fset_st K _ _ _ (by first | decide | exact vsOk_notState _ | (left; simp only [F.LNK_ST_STATE_CODE, F.LNK_ST_STATE_VER, Reg.LNK_ST_STATE, Reg.SYS_STATE, ne_eq]; omega) | (left; split <;> (simp only [F.LNK_ST_STATE_CODE, F.LNK_ST_STATE_VER, Reg.LNK_ST_STATE, Reg.SYS_STATE, ne_eq]; omega))) ?_ | with_reducible apply Block.lnkAnswered_st K | with_reducible apply Block.lnkRefuse_st K | with_reducible apply Block.lnkSet_st K | with_reducible apply Block.setLnkSt_st K | with_reducible apply Block.lnkSegShow_st K | with_reducible refine ite_keep ?_ ?_ | split | dsimp only | with_reducible refine pair_keep (by with_reducible assumption) ?_ | with_reducible refine pair_keep' (by with_reducible assumption) ?_ | intro _)

theorem Block.lnkConfigs_st (K : KeptBySt Q) (b : Block) (s : Nat) (hb : Q b.regs) : Q (Block.lnkConfigs b s).regs := by
  unfold Block.lnkConfigs
  repeat' (first | with_reducible assumption | with_reducible refine Block.forAll_keep _ _ _ ?_ (fun _ _ _ => ?_) | with_reducible refine Block.when_keep _ _ _ ?_ (fun _ => ?_) | with_reducible apply Block.send_st K | with_reducible apply Block.setLnkSt_st K | with_reducible refine ite_keep ?_ ?_ | dsimp only | intro _)

theorem Block.echoEnd_st (K : KeptBySt Q) (b : Block) (k : Nat) (hb : Q b.regs) : Q (Block.echoEnd b k).regs := by
  unfold Block.echoEnd
  repeat' (first | with_reducible assumption | with_reducible refine Block.setRegN_st K _ _ _ (by first | decide | (simp only [Reg.RED_APPLIED, Reg.RED_CLAIM, Reg.SYS_STATE, ne_eq]; omega) | (split <;> decide)) ?_ | with_reducible refine ite_keep ?_ ?_ | dsimp only | intro _)

theorem Block.lnkReceipt_st (K : KeptBySt Q) (b : Block) (k : Nat) (hb : Q b.regs) : Q (Block.lnkReceipt b k).regs := by
  unfold Block.lnkReceipt
  repeat' (first | with_reducible assumption | with_reducible refine Block.when_keep _ _ _ ?_ (fun _ => ?_) | with_reducible apply Block.send_st K | with_reducible refine ite_keep ?_ ?_ | dsimp only | intro _)

theorem Block.lnkReach_st (K : KeptBySt Q) (b : Block) (e : LnkEntry) (got : Bool) (hb : Q b.regs) : Q (Block.lnkReach b e got).regs :=
  Block.forAll_keep _ _ _ hb (fun _ _ h => Block.when_keep _ _ _ h (fun h => Block.fset_st K _ _ _ (lnkDelayField_notState _ _) h))

theorem Block.lnkCommand_st (K : KeptBySt Q) (b : Block) (v : Nat) (hb : Q b.regs) : Q (Block.lnkCommand b v).regs := by
  unfold Block.lnkCommand
  repeat' (first | with_reducible assumption | with_reducible refine Block.fset_st K _ _ _ (by first | decide | exact vsOk_notState _ | (left; simp only [F.LNK_CMD_CMD, F.LNK_CMD_RES_CODE, F.LNK_ST_STATE_CODE, Reg.LNK_CMD, Reg.LNK_CMD_RES, Reg.LNK_ST_STATE, Reg.SYS_STATE, ne_eq]; omega) | (left; split <;> (simp only [F.LNK_CMD_CMD, F.LNK_CMD_RES_CODE, F.LNK_ST_STATE_CODE, Reg.LNK_CMD, Reg.LNK_CMD_RES, Reg.LNK_ST_STATE, Reg.SYS_STATE, ne_eq]; omega))) ?_ | with_reducible apply Block.raiseEvt_st K | with_reducible apply Block.setLnkSt_st K | with_reducible apply Block.lnkSegShow_st K | with_reducible apply Block.lnkSet_st K | with_reducible refine Block.when_keep _ _ _ ?_ (fun _ => ?_) | with_reducible refine ite_keep ?_ ?_ | dsimp only | intro _)

theorem Block.presence_st (K : KeptBySt Q) (b : Block) (hb : Q b.regs) : Q (Block.presence b).regs := by
  unfold Block.presence
  repeat' (first | with_reducible assumption | with_reducible refine Block.fsetB_st K _ _ _ (by first | decide | exact vsOk_notState _ | (left; simp only [F.RED_STAT_PARTNER, Reg.RED_STAT, Reg.SYS_STATE, ne_eq]; omega) | (left; split <;> (simp only [F.RED_STAT_PARTNER, Reg.RED_STAT, Reg.SYS_STATE, ne_eq]; omega))) ?_ | with_reducible apply Block.raiseEvt_st K | with_reducible refine ite_keep ?_ ?_ | dsimp only)

theorem Block.unsyncedLoss_st (K : KeptBySt Q) (b : Block) (hb : Q b.regs) : Q (Block.unsyncedLoss b).regs := by
  unfold Block.unsyncedLoss
  repeat' (first | with_reducible assumption | with_reducible apply Block.recRegs_st K | with_reducible refine ite_keep ?_ ?_ | dsimp only)

theorem Block.hbSilent_st (K : KeptBySt Q) (b : Block) (hb : Q b.regs) : Q (Block.hbSilent b).regs := by
  unfold Block.hbSilent
  repeat' (first | with_reducible assumption | with_reducible refine Block.fset_st K _ _ _ (by first | decide | exact vsOk_notState _ | (left; simp only [F.RED_STAT_HB_OK, Reg.RED_STAT, Reg.SYS_STATE, ne_eq]; omega) | (left; split <;> (simp only [F.RED_STAT_HB_OK, Reg.RED_STAT, Reg.SYS_STATE, ne_eq]; omega))) ?_ | with_reducible apply Block.presence_st K | with_reducible apply Block.unsyncedLoss_st K | with_reducible refine ite_keep ?_ ?_ | dsimp only)

theorem Block.beatArm_st (K : KeptBySt Q) (b : Block) (hb : Q b.regs) : Q (Block.beatArm b).regs := by
  unfold Block.beatArm
  repeat' (first | with_reducible assumption | with_reducible refine ite_keep ?_ ?_ | dsimp only)

theorem Block.pairHeard_st (K : KeptBySt Q) (b : Block) (hb : Q b.regs) : Q (Block.pairHeard b).regs := by
  unfold Block.pairHeard
  repeat' (first | with_reducible assumption | dsimp only)

theorem Block.hbBusOff_st (K : KeptBySt Q) (b : Block) (hb : Q b.regs) : Q (Block.hbBusOff b).regs := by
  unfold Block.hbBusOff
  repeat' (first | with_reducible assumption | with_reducible refine Block.when_keep _ _ _ ?_ (fun _ => ?_) | with_reducible apply Block.hbSilent_st K | dsimp only)

theorem Block.lowFollow_st (K : KeptBySt Q) (b : Block) (hb : Q b.regs) : Q (Block.lowFollow b).regs := by
  unfold Block.lowFollow
  repeat' (first | with_reducible assumption | with_reducible refine ite_keep ?_ ?_ | dsimp only)

theorem Block.setCanPort_st (K : KeptBySt Q) (b : Block) (p : Nat) (x : CanPort) (hb : Q b.regs) : Q (Block.setCanPort b p x).regs := by
  unfold Block.setCanPort
  repeat' (first | with_reducible assumption | dsimp only)

theorem Block.canShow_st (K : KeptBySt Q) (b : Block) (p e : Nat) (x : Option CanEntry) (hb : Q b.regs) : Q (Block.canShow b p e x).regs := by
  unfold Block.canShow
  repeat' (first | with_reducible assumption | with_reducible refine Block.forAll_keep _ _ _ ?_ (fun _ _ _ => ?_) | with_reducible refine Block.setReg_st K _ _ _ (by first | decide | (simp only [Reg.SYS_STATE, canWin, ne_eq]; omega) | (split <;> decide)) ?_ | with_reducible refine Block.setRegN_st K _ _ _ (by first | decide | (simp only [Reg.SYS_STATE, canWin, ne_eq]; omega) | (split <;> decide)) ?_ | with_reducible refine ite_keep ?_ ?_ | with_reducible apply id_keep | split | dsimp only | with_reducible refine pair_keep (by with_reducible assumption) ?_ | with_reducible refine pair_keep' (by with_reducible assumption) ?_ | intro _)

theorem Block.canWindow_st (K : KeptBySt Q) (b : Block) (p : Nat) (hb : Q b.regs) : Q (Block.canWindow b p).regs := by
  unfold Block.canWindow
  repeat' (first | with_reducible assumption | with_reducible refine Block.forAll_keep _ _ _ ?_ (fun _ _ _ => ?_) | with_reducible apply Block.canShow_st K | dsimp only | intro _)

theorem Block.canStore_st (K : KeptBySt Q) (b : Block) (p : Nat) (f : CanFrame) (tx ref : Bool) (hb : Q b.regs) : Q (Block.canStore b p f tx ref).regs := by
  unfold Block.canStore
  repeat' (first | with_reducible assumption | with_reducible apply Block.setCanPort_st K | with_reducible refine Block.forAll_keep _ _ _ ?_ (fun _ _ _ => ?_) | with_reducible apply Block.canShow_st K | with_reducible refine Block.setRegN_st K _ _ _ (by first | decide | (simp only [Reg.CAN_RX_BASE, Reg.CAN_RX_NUM, Reg.SYS_STATE, canPage, ne_eq]; omega) | (split <;> decide)) ?_ | with_reducible apply Block.raiseEvt_st K | dsimp only | intro _)

theorem Block.canAttempt_st (K : KeptBySt Q) (b : Block) (p : Nat) (hb : Q b.regs) : Q (Block.canAttempt b p).regs := by
  unfold Block.canAttempt
  repeat' (first | with_reducible assumption | with_reducible apply Block.setCanPort_st K | with_reducible refine Block.fset_st K _ _ _ (by first | decide | exact vsOk_notState _ | (left; simp only [F.CAN_TX_STAT_ATTEMPT, Reg.CAN_TX_STAT, Reg.SYS_STATE, ne_eq]; omega) | (left; split <;> (simp only [F.CAN_TX_STAT_ATTEMPT, Reg.CAN_TX_STAT, Reg.SYS_STATE, ne_eq]; omega))) ?_ | with_reducible refine ite_keep ?_ ?_ | split | dsimp only | with_reducible refine pair_keep (by with_reducible assumption) ?_ | with_reducible refine pair_keep' (by with_reducible assumption) ?_)

theorem Block.canStart_st (K : KeptBySt Q) (b : Block) (p : Nat) (hb : Q b.regs) : Q (Block.canStart b p).regs := by
  unfold Block.canStart
  repeat' (first | with_reducible assumption | with_reducible apply Block.canAttempt_st K | with_reducible refine ite_keep ?_ ?_ | dsimp only)

theorem Block.canBus_st (K : KeptBySt Q) (b : Block) (p : Nat) (busy integrates : Bool) (hb : Q b.regs) : Q (Block.canBus b p busy integrates).regs := by
  unfold Block.canBus
  repeat' (first | with_reducible assumption | with_reducible apply Block.setCanPort_st K | dsimp only)

theorem Block.canDrop_st (K : KeptBySt Q) (b : Block) (p k : Nat) (hb : Q b.regs) : Q (Block.canDrop b p k).regs := by
  unfold Block.canDrop
  repeat' (first | with_reducible assumption | with_reducible refine Block.incSat_st K _ _ (by first | decide | exact vsOk_notState _ | (left; simp only [F.CAN_TX_DROP_CNT_COUNT, F.CAN_TX_STAT_LAST, Reg.CAN_TX_DROP_CNT, Reg.CAN_TX_STAT, Reg.SYS_STATE, canPage, ne_eq]; omega) | (left; split <;> (simp only [F.CAN_TX_DROP_CNT_COUNT, F.CAN_TX_STAT_LAST, Reg.CAN_TX_DROP_CNT, Reg.CAN_TX_STAT, Reg.SYS_STATE, canPage, ne_eq]; omega))) ?_ | with_reducible refine Block.fset_st K _ _ _ (by first | decide | exact vsOk_notState _ | (left; simp only [F.CAN_TX_DROP_CNT_COUNT, F.CAN_TX_STAT_LAST, Reg.CAN_TX_DROP_CNT, Reg.CAN_TX_STAT, Reg.SYS_STATE, canPage, ne_eq]; omega) | (left; split <;> (simp only [F.CAN_TX_DROP_CNT_COUNT, F.CAN_TX_STAT_LAST, Reg.CAN_TX_DROP_CNT, Reg.CAN_TX_STAT, Reg.SYS_STATE, canPage, ne_eq]; omega))) ?_ | with_reducible apply Block.raiseEvt_st K | dsimp only)

theorem Block.canReplaced_st (K : KeptBySt Q) (b : Block) (p k : Nat) (hb : Q b.regs) : Q (Block.canReplaced b p k).regs := by
  unfold Block.canReplaced
  repeat' (first | with_reducible assumption | with_reducible refine Block.incSat_st K _ _ (by first | decide | exact vsOk_notState _ | (left; simp only [F.CAN_TX_LATE_CNT_COUNT, F.CAN_TX_STAT_LAST, F.CAN_TX_STAT_LATE, Reg.CAN_TX_LATE_CNT, Reg.CAN_TX_STAT, Reg.SYS_STATE, canPage, ne_eq]; omega) | (left; split <;> (simp only [F.CAN_TX_LATE_CNT_COUNT, F.CAN_TX_STAT_LAST, F.CAN_TX_STAT_LATE, Reg.CAN_TX_LATE_CNT, Reg.CAN_TX_STAT, Reg.SYS_STATE, canPage, ne_eq]; omega))) ?_ | with_reducible refine Block.fset_st K _ _ _ (by first | decide | exact vsOk_notState _ | (left; simp only [F.CAN_TX_LATE_CNT_COUNT, F.CAN_TX_STAT_LAST, F.CAN_TX_STAT_LATE, Reg.CAN_TX_LATE_CNT, Reg.CAN_TX_STAT, Reg.SYS_STATE, canPage, ne_eq]; omega) | (left; split <;> (simp only [F.CAN_TX_LATE_CNT_COUNT, F.CAN_TX_STAT_LAST, F.CAN_TX_STAT_LATE, Reg.CAN_TX_LATE_CNT, Reg.CAN_TX_STAT, Reg.SYS_STATE, canPage, ne_eq]; omega))) ?_ | with_reducible refine Block.incWrap_st K _ _ (by first | decide | exact vsOk_notState _ | (left; simp only [F.CAN_TX_LATE_CNT_COUNT, F.CAN_TX_STAT_LAST, F.CAN_TX_STAT_LATE, Reg.CAN_TX_LATE_CNT, Reg.CAN_TX_STAT, Reg.SYS_STATE, canPage, ne_eq]; omega) | (left; split <;> (simp only [F.CAN_TX_LATE_CNT_COUNT, F.CAN_TX_STAT_LAST, F.CAN_TX_STAT_LATE, Reg.CAN_TX_LATE_CNT, Reg.CAN_TX_STAT, Reg.SYS_STATE, canPage, ne_eq]; omega))) ?_ | with_reducible apply Block.raiseEvt_st K | dsimp only)

theorem Block.canDiscard_st (K : KeptBySt Q) (b : Block) (p : Nat) (count : Bool) (hb : Q b.regs) : Q (Block.canDiscard b p count).regs := by
  unfold Block.canDiscard
  repeat' (first | with_reducible assumption | with_reducible refine Block.forAll_keep _ _ _ ?_ (fun _ _ _ => ?_) | with_reducible refine Block.fset_st K _ _ _ (by first | decide | exact vsOk_notState _ | (left; simp only [F.CAN_TX_STAT_ATTEMPT, F.CAN_TX_STAT_PENDING, Reg.CAN_TX_STAT, Reg.SYS_STATE, ne_eq]; omega) | (left; split <;> (simp only [F.CAN_TX_STAT_ATTEMPT, F.CAN_TX_STAT_PENDING, Reg.CAN_TX_STAT, Reg.SYS_STATE, ne_eq]; omega))) ?_ | with_reducible refine Block.when_keep _ _ _ ?_ (fun _ => ?_) | with_reducible apply Block.canDrop_st K | with_reducible apply Block.setCanPort_st K | dsimp only | intro _)

theorem Block.canInstant_st (K : KeptBySt Q) (b : Block) (p k : Nat) (hb : Q b.regs) : Q (Block.canInstant b p k).regs := by
  unfold Block.canInstant
  repeat' (first | with_reducible assumption | with_reducible apply Block.canDrop_st K | with_reducible apply Block.setCanPort_st K | with_reducible refine Block.when_keep _ _ _ ?_ (fun _ => ?_) | with_reducible apply Block.canReplaced_st K | with_reducible refine Block.fset_st K _ _ _ (by first | decide | exact vsOk_notState _ | (left; simp only [F.CAN_MODE_AUX, F.CAN_TX_STAT_PENDING, Reg.CAN_MODE, Reg.CAN_TX_STAT, Reg.SYS_STATE, ne_eq]; omega) | (left; split <;> (simp only [F.CAN_MODE_AUX, F.CAN_TX_STAT_PENDING, Reg.CAN_MODE, Reg.CAN_TX_STAT, Reg.SYS_STATE, ne_eq]; omega))) ?_ | with_reducible refine ite_keep ?_ ?_ | split | dsimp only | with_reducible refine pair_keep (by with_reducible assumption) ?_ | with_reducible refine pair_keep' (by with_reducible assumption) ?_ | intro _)

theorem Block.canCommit_st (K : KeptBySt Q) (b : Block) (ctx : Nat) (hb : Q b.regs) : Q (Block.canCommit b ctx).regs := by
  unfold Block.canCommit
  repeat' (first | with_reducible assumption | with_reducible refine Block.forAll_keep _ _ _ ?_ (fun _ _ _ => ?_) | with_reducible apply Block.canInstant_st K | with_reducible apply Block.canStart_st K | dsimp only | intro _)

theorem Block.canAimed_st (K : KeptBySt Q) (b : Block) (p k : Nat) (hb : Q b.regs) : Q (Block.canAimed b p k).regs := by
  unfold Block.canAimed
  repeat' (first | with_reducible assumption | with_reducible apply Block.setCanPort_st K | split | dsimp only | with_reducible refine pair_keep (by with_reducible assumption) ?_ | with_reducible refine pair_keep' (by with_reducible assumption) ?_)

theorem Block.canCount_st (K : KeptBySt Q) (b : Block) (p tec recv : Nat) (hb : Q b.regs) : Q (Block.canCount b p tec recv).regs := by
  unfold Block.canCount
  repeat' (first | with_reducible assumption | with_reducible apply Block.setCanPort_st K | with_reducible refine Block.fset_st K _ _ _ (by first | decide | exact vsOk_notState _ | (left; simp only [F.CAN_ERR_REC, F.CAN_ERR_TEC, Reg.CAN_ERR, Reg.SYS_STATE, ne_eq]; omega) | (left; split <;> (simp only [F.CAN_ERR_REC, F.CAN_ERR_TEC, Reg.CAN_ERR, Reg.SYS_STATE, ne_eq]; omega))) ?_ | dsimp only)

theorem Block.canWarn_st (K : KeptBySt Q) (b : Block) (p : Nat) (warn : Bool) (hb : Q b.regs) : Q (Block.canWarn b p warn).regs := by
  unfold Block.canWarn
  repeat' (first | with_reducible assumption | with_reducible refine Block.fsetB_st K _ _ _ (by first | decide | exact vsOk_notState _ | (left; simp only [F.CAN_ERR_WARN, Reg.CAN_ERR, Reg.SYS_STATE, canPage, ne_eq]; omega) | (left; split <;> (simp only [F.CAN_ERR_WARN, Reg.CAN_ERR, Reg.SYS_STATE, canPage, ne_eq]; omega))) ?_ | with_reducible refine Block.when_keep _ _ _ ?_ (fun _ => ?_) | with_reducible apply Block.raiseEvt_st K | dsimp only | intro _)

theorem Block.canOff_st (K : KeptBySt Q) (b : Block) (p : Nat) (hb : Q b.regs) : Q (Block.canOff b p).regs := by
  unfold Block.canOff
  repeat' (first | with_reducible assumption | with_reducible apply Block.canDiscard_st K | with_reducible refine Block.fset_st K _ _ _ (by first | decide | exact vsOk_notState _ | (left; simp only [F.CAN_BUSOFF_CNT_COUNT, F.CAN_ERR_STATE, F.CAN_MODE_FAULT_MODE, Reg.CAN_BUSOFF_CNT, Reg.CAN_ERR, Reg.CAN_MODE, Reg.SYS_STATE, canPage, ne_eq]; omega) | (left; split <;> (simp only [F.CAN_BUSOFF_CNT_COUNT, F.CAN_ERR_STATE, F.CAN_MODE_FAULT_MODE, Reg.CAN_BUSOFF_CNT, Reg.CAN_ERR, Reg.CAN_MODE, Reg.SYS_STATE, canPage, ne_eq]; omega))) ?_ | with_reducible refine Block.incSat_st K _ _ (by first | decide | exact vsOk_notState _ | (left; simp only [F.CAN_BUSOFF_CNT_COUNT, F.CAN_ERR_STATE, F.CAN_MODE_FAULT_MODE, Reg.CAN_BUSOFF_CNT, Reg.CAN_ERR, Reg.CAN_MODE, Reg.SYS_STATE, canPage, ne_eq]; omega) | (left; split <;> (simp only [F.CAN_BUSOFF_CNT_COUNT, F.CAN_ERR_STATE, F.CAN_MODE_FAULT_MODE, Reg.CAN_BUSOFF_CNT, Reg.CAN_ERR, Reg.CAN_MODE, Reg.SYS_STATE, canPage, ne_eq]; omega))) ?_ | with_reducible apply Block.event_st K | with_reducible refine Block.when_keep _ _ _ ?_ (fun _ => ?_) | with_reducible apply Block.hbBusOff_st K | with_reducible refine ite_keep ?_ ?_ | dsimp only)

theorem Block.canErrState_st (K : KeptBySt Q) (b : Block) (p tec recv : Nat) (hb : Q b.regs) : Q (Block.canErrState b p tec recv).regs := by
  unfold Block.canErrState
  repeat' (first | with_reducible assumption | with_reducible apply Block.canOff_st K | with_reducible refine Block.fset_st K _ _ _ (by first | decide | exact vsOk_notState _ | (left; simp only [F.CAN_ERR_STATE, Reg.CAN_ERR, Reg.SYS_STATE, canPage, ne_eq]; omega) | (left; split <;> (simp only [F.CAN_ERR_STATE, Reg.CAN_ERR, Reg.SYS_STATE, canPage, ne_eq]; omega))) ?_ | with_reducible refine Block.when_keep _ _ _ ?_ (fun _ => ?_) | with_reducible apply Block.raiseEvt_st K | with_reducible refine ite_keep ?_ ?_ | dsimp only | intro _)

theorem Block.canCounters_st (K : KeptBySt Q) (b : Block) (p : Nat) (tec recv : Nat) (hb : Q b.regs) : Q (Block.canCounters b p tec recv).regs := by
  unfold Block.canCounters
  repeat' (first | with_reducible assumption | with_reducible apply Block.canCount_st K | with_reducible apply Block.canWarn_st K | with_reducible refine Block.when_keep _ _ _ ?_ (fun _ => ?_) | with_reducible apply Block.canErrState_st K | dsimp only | intro _)

theorem Block.canReceived_st (K : KeptBySt Q) (b : Block) (p : Nat) (hb : Q b.regs) : Q (Block.canReceived b p).regs := by
  unfold Block.canReceived
  repeat' (first | with_reducible assumption | with_reducible apply Block.canCounters_st K | with_reducible apply Block.free_st K | with_reducible refine ite_keep ?_ ?_ | split | dsimp only | with_reducible refine pair_keep (by with_reducible assumption) ?_ | with_reducible refine pair_keep' (by with_reducible assumption) ?_)

theorem Block.canError_st (K : KeptBySt Q) (b : Block) (p kind tecMore recMore : Nat) (hb : Q b.regs) : Q (Block.canError b p kind tecMore recMore).regs := by
  unfold Block.canError
  extract_lets x b1 tx n
  have h1 : Q b1.regs := Block.fset_st K _ _ _ (.inl (by simp only [F.CAN_ERR_LAST_ERR, Reg.CAN_ERR, Reg.SYS_STATE, canPage, ne_eq]; omega))
    (Block.incSat_st K _ _ (.inl (by simp only [F.CAN_ERRFRM_CNT_COUNT, Reg.CAN_ERRFRM_CNT, Reg.SYS_STATE, canPage, ne_eq]; omega)) hb)
  exact ite_keep hb (ite_keep h1 (Block.canCounters_st K _ _ _ _ h1))

theorem Block.canNextFrame_st (K : KeptBySt Q) (b : Block) (p k : Nat) (hb : Q b.regs) : Q (Block.canNextFrame b p k).regs := by
  unfold Block.canNextFrame
  repeat' (first | with_reducible assumption | with_reducible refine Block.fset_st K _ _ _ (by first | decide | exact vsOk_notState _ | (left; simp only [F.CAN_TX_STAT_ATTEMPT, F.CAN_TX_STAT_PENDING, Reg.CAN_TX_STAT, Reg.SYS_STATE, ne_eq]; omega) | (left; split <;> (simp only [F.CAN_TX_STAT_ATTEMPT, F.CAN_TX_STAT_PENDING, Reg.CAN_TX_STAT, Reg.SYS_STATE, ne_eq]; omega))) ?_ | with_reducible apply Block.setCanPort_st K | split | dsimp only | with_reducible refine pair_keep (by with_reducible assumption) ?_ | with_reducible refine pair_keep' (by with_reducible assumption) ?_ | intro _)

theorem Block.canAttemptEnd_st (K : KeptBySt Q) (b : Block) (p : Nat) (e : CanEnd) (sofNs sofSec meas : Nat) (hb : Q b.regs) : Q (Block.canAttemptEnd b p e sofNs sofSec meas).regs := by
  unfold Block.canAttemptEnd
  repeat' (first | with_reducible assumption | with_reducible apply Block.canAttempt_st K | with_reducible apply Block.canBus_st K | with_reducible apply Block.canDiscard_st K | with_reducible refine Block.when_keep _ _ _ ?_ (fun _ => ?_) | with_reducible refine Block.fset_st K _ _ _ (by first | decide | exact vsOk_notState _ | (left; simp only [F.CAN_ERR_REC, F.CAN_TDC_MEAS, F.CAN_TX_STAT_ATTEMPT, F.CAN_TX_STAT_LAST, F.CAN_TX_STAT_SENT, Reg.CAN_ERR, Reg.CAN_TDC, Reg.CAN_TX_STAT, Reg.SYS_STATE, canPage, ne_eq]; omega) | (left; split <;> (simp only [F.CAN_ERR_REC, F.CAN_TDC_MEAS, F.CAN_TX_STAT_ATTEMPT, F.CAN_TX_STAT_LAST, F.CAN_TX_STAT_SENT, Reg.CAN_ERR, Reg.CAN_TDC, Reg.CAN_TX_STAT, Reg.SYS_STATE, canPage, ne_eq]; omega))) ?_ | with_reducible apply Block.canStore_st K | with_reducible apply Block.send_st K | with_reducible refine Block.incWrap_st K _ _ (by first | decide | exact vsOk_notState _ | (left; simp only [F.CAN_ERR_REC, F.CAN_TDC_MEAS, F.CAN_TX_STAT_ATTEMPT, F.CAN_TX_STAT_LAST, F.CAN_TX_STAT_SENT, Reg.CAN_ERR, Reg.CAN_TDC, Reg.CAN_TX_STAT, Reg.SYS_STATE, canPage, ne_eq]; omega) | (left; split <;> (simp only [F.CAN_ERR_REC, F.CAN_TDC_MEAS, F.CAN_TX_STAT_ATTEMPT, F.CAN_TX_STAT_LAST, F.CAN_TX_STAT_SENT, Reg.CAN_ERR, Reg.CAN_TDC, Reg.CAN_TX_STAT, Reg.SYS_STATE, canPage, ne_eq]; omega))) ?_ | with_reducible apply Block.raiseEvt_st K | with_reducible apply Block.canNextFrame_st K | with_reducible apply Block.canCounters_st K | with_reducible apply Block.canStart_st K | with_reducible apply Block.canReplaced_st K | with_reducible apply Block.canDrop_st K | with_reducible apply Block.setCanPort_st K | with_reducible refine ite_keep ?_ ?_ | with_reducible apply id_keep | split | dsimp only | with_reducible refine pair_keep (by with_reducible assumption) ?_ | with_reducible refine pair_keep' (by with_reducible assumption) ?_ | intro _)

theorem Block.canRes_st (K : KeptBySt Q) (b : Block) (p code : Nat) (hb : Q b.regs) : Q (Block.canRes b p code).regs := by
  unfold Block.canRes
  repeat' (first | with_reducible assumption | with_reducible refine Block.fset_st K _ _ _ (by first | decide | exact vsOk_notState _ | (left; simp only [F.CAN_RES_CODE, Reg.CAN_RES, Reg.SYS_STATE, ne_eq]; omega) | (left; split <;> (simp only [F.CAN_RES_CODE, Reg.CAN_RES, Reg.SYS_STATE, ne_eq]; omega))) ?_ | dsimp only)

theorem Block.canRecover_st (K : KeptBySt Q) (b : Block) (p v : Nat) (hb : Q b.regs) : Q (Block.canRecover b p v).regs := by
  unfold Block.canRecover
  repeat' (first | with_reducible assumption | with_reducible refine Block.fset_st K _ _ _ (by first | decide | exact vsOk_notState _ | (left; simp only [F.CAN_ERR_STATE, Reg.CAN_ERR, Reg.SYS_STATE, canPage, ne_eq]; omega) | (left; split <;> (simp only [F.CAN_ERR_STATE, Reg.CAN_ERR, Reg.SYS_STATE, canPage, ne_eq]; omega))) ?_ | with_reducible apply Block.canRes_st K | with_reducible apply Block.raiseEvt_st K | with_reducible refine ite_keep ?_ ?_ | dsimp only)

theorem Block.canTakeMode_st (K : KeptBySt Q) (b : Block) (p : Nat) (hb : Q b.regs) : Q (Block.canTakeMode b p).regs := by
  unfold Block.canTakeMode
  repeat' (first | with_reducible assumption | with_reducible refine Block.when_keep _ _ _ ?_ (fun _ => ?_) | with_reducible apply Block.canDiscard_st K | with_reducible apply Block.setCanPort_st K | with_reducible refine Block.setRegN_st K _ _ _ (by first | decide | (simp only [F.CAN_ERR_STATE, F.CAN_MODE_MODE, Reg.CAN_ERR, Reg.CAN_MODE, Reg.SYS_STATE, ne_eq]; omega) | (split <;> decide)) ?_ | with_reducible refine Block.fset_st K _ _ _ (by first | decide | exact vsOk_notState _ | (left; simp only [F.CAN_ERR_STATE, F.CAN_MODE_MODE, Reg.CAN_ERR, Reg.CAN_MODE, Reg.SYS_STATE, ne_eq]; omega) | (left; split <;> (simp only [F.CAN_ERR_STATE, F.CAN_MODE_MODE, Reg.CAN_ERR, Reg.CAN_MODE, Reg.SYS_STATE, ne_eq]; omega))) ?_ | with_reducible apply Block.canCounters_st K | with_reducible refine ite_keep ?_ ?_ | dsimp only | intro _)

theorem Block.canClaimLost_st (K : KeptBySt Q) (b : Block) (hb : Q b.regs) : Q (Block.canClaimLost b).regs := by
  unfold Block.canClaimLost
  repeat' (first | with_reducible assumption | with_reducible refine Block.forAll_keep _ _ _ ?_ (fun _ _ _ => ?_) | with_reducible refine Block.fset_st K _ _ _ (by first | decide | exact vsOk_notState _ | (left; simp only [F.CAN_TX_STAT_PENDING, Reg.CAN_TX_STAT, Reg.SYS_STATE, ne_eq]; omega) | (left; split <;> (simp only [F.CAN_TX_STAT_PENDING, Reg.CAN_TX_STAT, Reg.SYS_STATE, ne_eq]; omega))) ?_ | with_reducible apply Block.setCanPort_st K | dsimp only | intro _)

theorem Block.canSilence_st (K : KeptBySt Q) (b : Block) (hb : Q b.regs) : Q (Block.canSilence b).regs := by
  unfold Block.canSilence
  repeat' (first | with_reducible assumption | with_reducible refine Block.forAll_keep _ _ _ ?_ (fun _ _ _ => ?_) | with_reducible apply Block.canDiscard_st K | dsimp only | intro _)

theorem Block.canTakeUp_st (K : KeptBySt Q) (b : Block) (cfg : List CanSlotCfg) (hb : Q b.regs) : Q (Block.canTakeUp b cfg).regs := by
  unfold Block.canTakeUp
  repeat' (first | with_reducible assumption | with_reducible refine Block.forAll_keep _ _ _ ?_ (fun _ _ _ => ?_) | with_reducible apply Block.canDiscard_st K | with_reducible apply Block.setCanPort_st K | with_reducible refine Block.fsetB_st K _ _ _ (by first | decide | exact vsOk_notState _ | (left; simp only [F.CAN_TX_STAT_DEFINED, Reg.CAN_TX_STAT, Reg.SYS_STATE, ne_eq]; omega) | (left; split <;> (simp only [F.CAN_TX_STAT_DEFINED, Reg.CAN_TX_STAT, Reg.SYS_STATE, ne_eq]; omega))) ?_ | dsimp only | intro _)

theorem Block.setPat_st (K : KeptBySt Q) (b : Block) (k : Nat) (p : Pat) (hb : Q b.regs) : Q (Block.setPat b k p).regs := by
  unfold Block.setPat
  repeat' (first | with_reducible assumption | dsimp only)

theorem Block.solStoreShow_st (K : KeptBySt Q) (b : Block) (hb : Q b.regs) : Q (Block.solStoreShow b).regs := by
  unfold Block.solStoreShow
  repeat' (first | with_reducible assumption | with_reducible refine Block.fset_st K _ _ _ (by first | decide | exact vsOk_notState _ | (left; simp only [F.SOL_STORE_FREE, F.SOL_STORE_USED, Reg.SOL_STORE, Reg.SYS_STATE, ne_eq]; omega) | (left; split <;> (simp only [F.SOL_STORE_FREE, F.SOL_STORE_USED, Reg.SOL_STORE, Reg.SYS_STATE, ne_eq]; omega))) ?_ | dsimp only)

theorem Block.psClear_st (K : KeptBySt Q) (b : Block) (k : Nat) (hb : Q b.regs) : Q (Block.psClear b k).regs := by
  unfold Block.psClear
  repeat' (first | with_reducible assumption | with_reducible refine Block.setReg_st K _ _ _ (by first | decide | (simp only [Reg.SOL_FACT, Reg.SOL_PIV, Reg.SOL_PS_DIM, Reg.SOL_PS_ID, Reg.SOL_PS_NNZ, Reg.SOL_PS_STATE, Reg.SYS_STATE, ne_eq]; omega) | (split <;> decide)) ?_ | with_reducible apply Block.solStoreShow_st K | dsimp only)

theorem Block.psFill_st (K : KeptBySt Q) (b : Block) (k st : Nat) (g : PatImg) (hb : Q b.regs) : Q (Block.psFill b k st g).regs := by
  unfold Block.psFill
  repeat' (first | with_reducible assumption | with_reducible apply Block.setPat_st K | with_reducible refine Block.fset_st K _ _ _ (by first | decide | exact vsOk_notState _ | (left; simp only [F.SOL_PS_DIM_METHOD, F.SOL_PS_DIM_N_M1, F.SOL_PS_DIM_PRECOND, F.SOL_PS_STATE_GRANULES, F.SOL_PS_STATE_STATE, F.SOL_PS_STATE_TARGET, F.SOL_PS_STATE_WRITER, Reg.SOL_FACT, Reg.SOL_PIV, Reg.SOL_PS_DIM, Reg.SOL_PS_ID, Reg.SOL_PS_NNZ, Reg.SOL_PS_STATE, Reg.SYS_STATE, ne_eq]; omega) | (left; split <;> (simp only [F.SOL_PS_DIM_METHOD, F.SOL_PS_DIM_N_M1, F.SOL_PS_DIM_PRECOND, F.SOL_PS_STATE_GRANULES, F.SOL_PS_STATE_STATE, F.SOL_PS_STATE_TARGET, F.SOL_PS_STATE_WRITER, Reg.SOL_FACT, Reg.SOL_PIV, Reg.SOL_PS_DIM, Reg.SOL_PS_ID, Reg.SOL_PS_NNZ, Reg.SOL_PS_STATE, Reg.SYS_STATE, ne_eq]; omega))) ?_ | with_reducible refine Block.setRegN_st K _ _ _ (by first | decide | (simp only [F.SOL_PS_DIM_METHOD, F.SOL_PS_DIM_N_M1, F.SOL_PS_DIM_PRECOND, F.SOL_PS_STATE_GRANULES, F.SOL_PS_STATE_STATE, F.SOL_PS_STATE_TARGET, F.SOL_PS_STATE_WRITER, Reg.SOL_FACT, Reg.SOL_PIV, Reg.SOL_PS_DIM, Reg.SOL_PS_ID, Reg.SOL_PS_NNZ, Reg.SOL_PS_STATE, Reg.SYS_STATE, ne_eq]; omega) | (split <;> decide)) ?_ | with_reducible refine Block.setReg_st K _ _ _ (by first | decide | (simp only [F.SOL_PS_DIM_METHOD, F.SOL_PS_DIM_N_M1, F.SOL_PS_DIM_PRECOND, F.SOL_PS_STATE_GRANULES, F.SOL_PS_STATE_STATE, F.SOL_PS_STATE_TARGET, F.SOL_PS_STATE_WRITER, Reg.SOL_FACT, Reg.SOL_PIV, Reg.SOL_PS_DIM, Reg.SOL_PS_ID, Reg.SOL_PS_NNZ, Reg.SOL_PS_STATE, Reg.SYS_STATE, ne_eq]; omega) | (split <;> decide)) ?_ | with_reducible apply Block.solStoreShow_st K | with_reducible apply id_keep | dsimp only)

theorem Block.patRefuse_st (K : KeptBySt Q) (b : Block) (target code reason : Nat) (hb : Q b.regs) : Q (Block.patRefuse b target code reason).regs := by
  unfold Block.patRefuse
  repeat' (first | with_reducible assumption | with_reducible refine Block.fset_st K _ _ _ (by first | decide | exact vsOk_notState _ | (left; simp only [F.SOL_LOAD_INFO_CODE, F.SOL_LOAD_INFO_REASON, F.SOL_LOAD_INFO_TARGET, Reg.SOL_LOAD_INFO, Reg.SYS_STATE, ne_eq]; omega) | (left; split <;> (simp only [F.SOL_LOAD_INFO_CODE, F.SOL_LOAD_INFO_REASON, F.SOL_LOAD_INFO_TARGET, Reg.SOL_LOAD_INFO, Reg.SYS_STATE, ne_eq]; omega))) ?_ | with_reducible apply Block.event_st K | dsimp only)

theorem Block.patLoad_st (K : KeptBySt Q) (b : Block) (writer : Nat → Bool) (staged : Bool) (w : List Nat) (hb : Q b.regs) : Q (Block.patLoad b writer staged w).1.regs := by
  unfold Block.patLoad
  repeat' (first | with_reducible assumption | with_reducible apply Block.patRefuse_st K | with_reducible apply Block.psFill_st K | with_reducible apply Block.raiseEvt_st K | with_reducible refine ite_keep ?_ ?_ | split | dsimp only | with_reducible refine pair_keep (by with_reducible assumption) ?_ | with_reducible refine pair_keep' (by with_reducible assumption) ?_ | intro _)

theorem Block.solOrphans_st (K : KeptBySt Q) (b : Block) (logical : Nat) (hb : Q b.regs) : Q (Block.solOrphans b logical).regs := by
  unfold Block.solOrphans
  repeat' (first | with_reducible assumption | with_reducible refine Block.forAll_keep _ _ _ ?_ (fun _ _ _ => ?_) | dsimp only | intro _)

theorem Block.psRetire_st (K : KeptBySt Q) (b : Block) (logical : Nat) (hb : Q b.regs) : Q (Block.psRetire b logical).regs := by
  unfold Block.psRetire
  repeat' (first | with_reducible assumption | with_reducible apply Block.solOrphans_st K | with_reducible refine Block.fset_st K _ _ _ (by first | decide | exact vsOk_notState _ | (left; simp only [F.SOL_PS_STATE_STATE, Reg.SOL_PS_STATE, Reg.SYS_STATE, ne_eq]; omega) | (left; split <;> (simp only [F.SOL_PS_STATE_STATE, Reg.SOL_PS_STATE, Reg.SYS_STATE, ne_eq]; omega))) ?_ | with_reducible apply Block.psClear_st K | with_reducible refine ite_keep ?_ ?_ | split | dsimp only | with_reducible refine pair_keep (by with_reducible assumption) ?_ | with_reducible refine pair_keep' (by with_reducible assumption) ?_)

theorem Block.psActivate_st (K : KeptBySt Q) (b : Block) (k : Nat) (hb : Q b.regs) : Q (Block.psActivate b k).regs := by
  unfold Block.psActivate
  repeat' (first | with_reducible assumption | with_reducible apply Block.psRetire_st K | with_reducible refine Block.fset_st K _ _ _ (by first | decide | exact vsOk_notState _ | (left; simp only [F.SOL_PS_STATE_STATE, F.SOL_PS_STATE_TARGET, Reg.SOL_PS_STATE, Reg.SYS_STATE, ne_eq]; omega) | (left; split <;> (simp only [F.SOL_PS_STATE_STATE, F.SOL_PS_STATE_TARGET, Reg.SOL_PS_STATE, Reg.SYS_STATE, ne_eq]; omega))) ?_ | with_reducible apply Block.raiseEvt_st K | dsimp only)

theorem Block.solShow_st (K : KeptBySt Q) (b : Block) (hb : Q b.regs) : Q (Block.solShow b).regs := by
  unfold Block.solShow
  repeat' (first | with_reducible assumption | with_reducible refine Block.when_keep _ _ _ ?_ (fun _ => ?_) | with_reducible refine Block.fset_st K _ _ _ (by first | decide | exact vsOk_notState _ | (left; simp only [F.SOL_STAT_BUSY, F.SOL_STAT_LANES, F.SOL_STAT_RUN_SLOT, F.SOL_STAT_RUN_VALID, F.SOL_STAT_WAIT_SLOT, F.SOL_STAT_WAIT_VALID, Reg.SOL_STAT, Reg.SYS_STATE, ne_eq]; omega) | (left; split <;> (simp only [F.SOL_STAT_BUSY, F.SOL_STAT_LANES, F.SOL_STAT_RUN_SLOT, F.SOL_STAT_RUN_VALID, F.SOL_STAT_WAIT_SLOT, F.SOL_STAT_WAIT_VALID, Reg.SOL_STAT, Reg.SYS_STATE, ne_eq]; omega))) ?_ | with_reducible apply Block.raiseEvt_st K | with_reducible refine Block.fsetB_st K _ _ _ (by first | decide | exact vsOk_notState _ | (left; simp only [F.SOL_STAT_BUSY, F.SOL_STAT_LANES, F.SOL_STAT_RUN_SLOT, F.SOL_STAT_RUN_VALID, F.SOL_STAT_WAIT_SLOT, F.SOL_STAT_WAIT_VALID, Reg.SOL_STAT, Reg.SYS_STATE, ne_eq]; omega) | (left; split <;> (simp only [F.SOL_STAT_BUSY, F.SOL_STAT_LANES, F.SOL_STAT_RUN_SLOT, F.SOL_STAT_RUN_VALID, F.SOL_STAT_WAIT_SLOT, F.SOL_STAT_WAIT_VALID, Reg.SOL_STAT, Reg.SYS_STATE, ne_eq]; omega))) ?_ | split | dsimp only | with_reducible refine pair_keep (by with_reducible assumption) ?_ | with_reducible refine pair_keep' (by with_reducible assumption) ?_ | intro _)

theorem Block.solClose_st (K : KeptBySt Q) (b : Block) (j : SolJob) (code ts : Nat) (hb : Q b.regs) : Q (Block.solClose b j code ts).regs := by
  unfold Block.solClose
  repeat' (first | with_reducible assumption | with_reducible refine Block.fset_st K _ _ _ (by first | decide | exact vsOk_notState _ | (left; simp only [F.SOL_JOB_CNT_COUNT, F.SOL_JOB_STATE_LAST_KIND, F.SOL_JOB_STATE_STATE, F.SOL_LAST_CODE, F.SOL_LAST_SLOT, Reg.SOL_JOB_CNT, Reg.SOL_JOB_END_HI, Reg.SOL_JOB_END_LO, Reg.SOL_JOB_RUN, Reg.SOL_JOB_STATE, Reg.SOL_JOB_WAIT, Reg.SOL_LAST, Reg.SYS_STATE, ne_eq]; omega) | (left; split <;> (simp only [F.SOL_JOB_CNT_COUNT, F.SOL_JOB_STATE_LAST_KIND, F.SOL_JOB_STATE_STATE, F.SOL_LAST_CODE, F.SOL_LAST_SLOT, Reg.SOL_JOB_CNT, Reg.SOL_JOB_END_HI, Reg.SOL_JOB_END_LO, Reg.SOL_JOB_RUN, Reg.SOL_JOB_STATE, Reg.SOL_JOB_WAIT, Reg.SOL_LAST, Reg.SYS_STATE, ne_eq]; omega))) ?_ | with_reducible refine Block.stamp_st K _ _ _ (by first | decide | (simp only [F.SOL_JOB_CNT_COUNT, F.SOL_JOB_STATE_LAST_KIND, F.SOL_JOB_STATE_STATE, F.SOL_LAST_CODE, F.SOL_LAST_SLOT, Reg.SOL_JOB_CNT, Reg.SOL_JOB_END_HI, Reg.SOL_JOB_END_LO, Reg.SOL_JOB_RUN, Reg.SOL_JOB_STATE, Reg.SOL_JOB_WAIT, Reg.SOL_LAST, Reg.SYS_STATE, ne_eq]; omega) | (split <;> decide)) (by first | decide | (simp only [F.SOL_JOB_CNT_COUNT, F.SOL_JOB_STATE_LAST_KIND, F.SOL_JOB_STATE_STATE, F.SOL_LAST_CODE, F.SOL_LAST_SLOT, Reg.SOL_JOB_CNT, Reg.SOL_JOB_END_HI, Reg.SOL_JOB_END_LO, Reg.SOL_JOB_RUN, Reg.SOL_JOB_STATE, Reg.SOL_JOB_WAIT, Reg.SOL_LAST, Reg.SYS_STATE, ne_eq]; omega) | (split <;> decide)) ?_ | with_reducible refine Block.setRegN_st K _ _ _ (by first | decide | (simp only [F.SOL_JOB_CNT_COUNT, F.SOL_JOB_STATE_LAST_KIND, F.SOL_JOB_STATE_STATE, F.SOL_LAST_CODE, F.SOL_LAST_SLOT, Reg.SOL_JOB_CNT, Reg.SOL_JOB_END_HI, Reg.SOL_JOB_END_LO, Reg.SOL_JOB_RUN, Reg.SOL_JOB_STATE, Reg.SOL_JOB_WAIT, Reg.SOL_LAST, Reg.SYS_STATE, ne_eq]; omega) | (split <;> decide)) ?_ | with_reducible refine Block.incWrap_st K _ _ (by first | decide | exact vsOk_notState _ | (left; simp only [F.SOL_JOB_CNT_COUNT, F.SOL_JOB_STATE_LAST_KIND, F.SOL_JOB_STATE_STATE, F.SOL_LAST_CODE, F.SOL_LAST_SLOT, Reg.SOL_JOB_CNT, Reg.SOL_JOB_END_HI, Reg.SOL_JOB_END_LO, Reg.SOL_JOB_RUN, Reg.SOL_JOB_STATE, Reg.SOL_JOB_WAIT, Reg.SOL_LAST, Reg.SYS_STATE, ne_eq]; omega) | (left; split <;> (simp only [F.SOL_JOB_CNT_COUNT, F.SOL_JOB_STATE_LAST_KIND, F.SOL_JOB_STATE_STATE, F.SOL_LAST_CODE, F.SOL_LAST_SLOT, Reg.SOL_JOB_CNT, Reg.SOL_JOB_END_HI, Reg.SOL_JOB_END_LO, Reg.SOL_JOB_RUN, Reg.SOL_JOB_STATE, Reg.SOL_JOB_WAIT, Reg.SOL_LAST, Reg.SYS_STATE, ne_eq]; omega))) ?_ | dsimp only)

theorem Block.solEndEvt_st (K : KeptBySt Q) (b : Block) (j : SolJob) (met : Bool) (hb : Q b.regs) : Q (Block.solEndEvt b j met).regs := by
  unfold Block.solEndEvt
  repeat' (first | with_reducible assumption | with_reducible apply Block.raiseEvt_st K | with_reducible refine ite_keep ?_ ?_ | dsimp only)

theorem Block.solWithdraw_st (K : KeptBySt Q) (b : Block) (hb : Q b.regs) : Q (Block.solWithdraw b).regs := by
  unfold Block.solWithdraw
  repeat' (first | with_reducible assumption | with_reducible apply Block.solClose_st K | with_reducible apply Block.solEndEvt_st K | with_reducible apply Block.solShow_st K | split | dsimp only | with_reducible refine pair_keep (by with_reducible assumption) ?_ | with_reducible refine pair_keep' (by with_reducible assumption) ?_)

theorem Block.solPublish_st (K : KeptBySt Q) (b : Block) (j : SolJob) (status iters bound : Nat) (x : List Nat) (hb : Q b.regs) : Q (Block.solPublish b j status iters bound x).regs := by
  unfold Block.solPublish
  repeat' (first | with_reducible assumption | with_reducible refine Block.setRegN_st K _ _ _ (by first | decide | (simp only [Reg.SOL_JOB_BOUND_LO, Reg.SOL_JOB_ITER, Reg.SOL_JOB_RESULT, Reg.SOL_JOB_RSEQ, Reg.SYS_STATE, ne_eq]; omega) | (split <;> decide)) ?_ | with_reducible refine Block.setPair_st K _ _ _ (by first | decide | (simp only [Reg.SOL_JOB_BOUND_LO, Reg.SOL_JOB_ITER, Reg.SOL_JOB_RESULT, Reg.SOL_JOB_RSEQ, Reg.SYS_STATE, ne_eq]; omega) | (split <;> decide)) (by first | decide | (simp only [Reg.SOL_JOB_BOUND_LO, Reg.SOL_JOB_ITER, Reg.SOL_JOB_RESULT, Reg.SOL_JOB_RSEQ, Reg.SYS_STATE, ne_eq]; omega) | (split <;> decide)) ?_ | with_reducible apply Block.toPartner_st K | dsimp only)

theorem Block.solCharge_st (K : KeptBySt Q) (b : Block) (j : SolJob) (lanes ns : Nat) (hb : Q b.regs) : Q (Block.solCharge b j lanes ns).regs := by
  unfold Block.solCharge
  repeat' (first | with_reducible assumption | with_reducible refine Block.setPair_st K _ _ _ (by first | decide | (simp only [Reg.PWR_COEF_LANE, Reg.SOL_LANE_CLK_LO, Reg.SYS_STATE, ne_eq]; omega) | (split <;> decide)) (by first | decide | (simp only [Reg.PWR_COEF_LANE, Reg.SOL_LANE_CLK_LO, Reg.SYS_STATE, ne_eq]; omega) | (split <;> decide)) ?_ | dsimp only)

theorem Block.solLeave_st (K : KeptBySt Q) (b : Block) (r : SolRun) (hb : Q b.regs) : Q (Block.solLeave b r).regs := by
  unfold Block.solLeave
  repeat' (first | with_reducible assumption | with_reducible apply Block.solCharge_st K | with_reducible refine Block.when_keep _ _ _ ?_ (fun _ => ?_) | with_reducible apply Block.psClear_st K | dsimp only)

theorem Block.solFactorShow_st (K : KeptBySt Q) (b : Block) (r : SolRun) (o : SolOut) (hb : Q b.regs) : Q (Block.solFactorShow b r o).regs := by
  unfold Block.solFactorShow
  repeat' (first | with_reducible assumption | with_reducible refine Block.fset_st K _ _ _ (by first | decide | exact vsOk_notState _ | (left; simp only [F.SOL_FACT_DONE, F.SOL_FACT_MODE, F.SOL_FACT_PENDING, F.SOL_FACT_STALE, F.SOL_FACT_VALID, F.SOL_FAULT_CNT_FALLBACK, F.SOL_FAULT_CNT_RANGE, F.SOL_OVF_INFO_JOB, F.SOL_OVF_INFO_KIND, F.SOL_OVF_INFO_PSLOT, F.SOL_OVF_INFO_ROW, F.SOL_OVF_INFO_VALID, F.SOL_PIV_COUNT, F.SOL_PIV_FIRST_ROW, Reg.SOL_FACT, Reg.SOL_FAULT_CNT, Reg.SOL_OVF_INFO, Reg.SOL_PIV, Reg.SYS_STATE, ne_eq]; omega) | (left; split <;> (simp only [F.SOL_FACT_DONE, F.SOL_FACT_MODE, F.SOL_FACT_PENDING, F.SOL_FACT_STALE, F.SOL_FACT_VALID, F.SOL_FAULT_CNT_FALLBACK, F.SOL_FAULT_CNT_RANGE, F.SOL_OVF_INFO_JOB, F.SOL_OVF_INFO_KIND, F.SOL_OVF_INFO_PSLOT, F.SOL_OVF_INFO_ROW, F.SOL_OVF_INFO_VALID, F.SOL_PIV_COUNT, F.SOL_PIV_FIRST_ROW, Reg.SOL_FACT, Reg.SOL_FAULT_CNT, Reg.SOL_OVF_INFO, Reg.SOL_PIV, Reg.SYS_STATE, ne_eq]; omega))) ?_ | with_reducible refine Block.fsetB_st K _ _ _ (by first | decide | exact vsOk_notState _ | (left; simp only [F.SOL_FACT_DONE, F.SOL_FACT_MODE, F.SOL_FACT_PENDING, F.SOL_FACT_STALE, F.SOL_FACT_VALID, F.SOL_FAULT_CNT_FALLBACK, F.SOL_FAULT_CNT_RANGE, F.SOL_OVF_INFO_JOB, F.SOL_OVF_INFO_KIND, F.SOL_OVF_INFO_PSLOT, F.SOL_OVF_INFO_ROW, F.SOL_OVF_INFO_VALID, F.SOL_PIV_COUNT, F.SOL_PIV_FIRST_ROW, Reg.SOL_FACT, Reg.SOL_FAULT_CNT, Reg.SOL_OVF_INFO, Reg.SOL_PIV, Reg.SYS_STATE, ne_eq]; omega) | (left; split <;> (simp only [F.SOL_FACT_DONE, F.SOL_FACT_MODE, F.SOL_FACT_PENDING, F.SOL_FACT_STALE, F.SOL_FACT_VALID, F.SOL_FAULT_CNT_FALLBACK, F.SOL_FAULT_CNT_RANGE, F.SOL_OVF_INFO_JOB, F.SOL_OVF_INFO_KIND, F.SOL_OVF_INFO_PSLOT, F.SOL_OVF_INFO_ROW, F.SOL_OVF_INFO_VALID, F.SOL_PIV_COUNT, F.SOL_PIV_FIRST_ROW, Reg.SOL_FACT, Reg.SOL_FAULT_CNT, Reg.SOL_OVF_INFO, Reg.SOL_PIV, Reg.SYS_STATE, ne_eq]; omega))) ?_ | with_reducible apply Block.setPat_st K | with_reducible refine Block.when_keep _ _ _ ?_ (fun _ => ?_) | with_reducible apply Block.raiseEvt_st K | with_reducible refine Block.incSat_st K _ _ (by first | decide | exact vsOk_notState _ | (left; simp only [F.SOL_FACT_DONE, F.SOL_FACT_MODE, F.SOL_FACT_PENDING, F.SOL_FACT_STALE, F.SOL_FACT_VALID, F.SOL_FAULT_CNT_FALLBACK, F.SOL_FAULT_CNT_RANGE, F.SOL_OVF_INFO_JOB, F.SOL_OVF_INFO_KIND, F.SOL_OVF_INFO_PSLOT, F.SOL_OVF_INFO_ROW, F.SOL_OVF_INFO_VALID, F.SOL_PIV_COUNT, F.SOL_PIV_FIRST_ROW, Reg.SOL_FACT, Reg.SOL_FAULT_CNT, Reg.SOL_OVF_INFO, Reg.SOL_PIV, Reg.SYS_STATE, ne_eq]; omega) | (left; split <;> (simp only [F.SOL_FACT_DONE, F.SOL_FACT_MODE, F.SOL_FACT_PENDING, F.SOL_FACT_STALE, F.SOL_FACT_VALID, F.SOL_FAULT_CNT_FALLBACK, F.SOL_FAULT_CNT_RANGE, F.SOL_OVF_INFO_JOB, F.SOL_OVF_INFO_KIND, F.SOL_OVF_INFO_PSLOT, F.SOL_OVF_INFO_ROW, F.SOL_OVF_INFO_VALID, F.SOL_PIV_COUNT, F.SOL_PIV_FIRST_ROW, Reg.SOL_FACT, Reg.SOL_FAULT_CNT, Reg.SOL_OVF_INFO, Reg.SOL_PIV, Reg.SYS_STATE, ne_eq]; omega))) ?_ | split | dsimp only | with_reducible refine pair_keep (by with_reducible assumption) ?_ | with_reducible refine pair_keep' (by with_reducible assumption) ?_ | intro _)

theorem Block.solEnd_st (K : KeptBySt Q) (b : Block) (r : SolRun) (made : Option SolAt) (aborted : Bool) (hb : Q b.regs) : Q (Block.solEnd b r made aborted).regs := by
  unfold Block.solEnd
  repeat' (first | with_reducible assumption | with_reducible apply Block.solLeave_st K | with_reducible apply Block.solClose_st K | with_reducible apply Block.solShow_st K | with_reducible apply Block.setPat_st K | with_reducible apply Block.solFactorShow_st K | with_reducible apply Block.solPublish_st K | with_reducible apply Block.solEndEvt_st K | with_reducible refine ite_keep ?_ ?_ | split | dsimp only | with_reducible refine pair_keep (by with_reducible assumption) ?_ | with_reducible refine pair_keep' (by with_reducible assumption) ?_)

theorem Block.solKeep_st (K : KeptBySt Q) (b : Block) (r : SolRun) (hb : Q b.regs) : Q (Block.solKeep b r).regs := by
  unfold Block.solKeep
  repeat' (first | with_reducible assumption | with_reducible apply Block.free_st K | with_reducible apply Block.solFactorShow_st K | with_reducible refine ite_keep ?_ ?_ | split | dsimp only | with_reducible refine pair_keep (by with_reducible assumption) ?_ | with_reducible refine pair_keep' (by with_reducible assumption) ?_)

theorem Block.solRefuse_st (K : KeptBySt Q) (b : Block) (code : Nat) (hb : Q b.regs) : Q (Block.solRefuse b code).1.regs := by
  unfold Block.solRefuse
  repeat' (first | with_reducible assumption | with_reducible refine Block.incSat_st K _ _ (by first | decide | exact vsOk_notState _ | (left; simp only [F.SOL_REFUSE_CNT_COUNT, Reg.SOL_REFUSE_CNT, Reg.SYS_STATE, ne_eq]; omega) | (left; split <;> (simp only [F.SOL_REFUSE_CNT_COUNT, Reg.SOL_REFUSE_CNT, Reg.SYS_STATE, ne_eq]; omega))) ?_ | with_reducible apply Block.raiseEvt_st K | split | dsimp only)

theorem Block.ssub_st (K : KeptBySt Q) (b : Block) (c base slot : Nat) (p : CtxProg) (x : Cx) (hb : Q b.regs) : Q (Block.ssub b c base slot p x).1.regs := by
  unfold Block.ssub
  repeat' (first | with_reducible assumption | with_reducible refine Block.fset_st K _ _ _ (by first | decide | exact vsOk_notState _ | (left; simp only [F.SOL_DISPLACE_CNT_COUNT, F.SOL_JOB_CTL_CTL, F.SOL_JOB_STATE_STATE, Reg.SOL_DISPLACE_CNT, Reg.SOL_JOB_CTL, Reg.SOL_JOB_SEQ, Reg.SOL_JOB_STATE, Reg.SYS_STATE, ne_eq]; omega) | (left; split <;> (simp only [F.SOL_DISPLACE_CNT_COUNT, F.SOL_JOB_CTL_CTL, F.SOL_JOB_STATE_STATE, Reg.SOL_DISPLACE_CNT, Reg.SOL_JOB_CTL, Reg.SOL_JOB_SEQ, Reg.SOL_JOB_STATE, Reg.SYS_STATE, ne_eq]; omega))) ?_ | with_reducible refine Block.setRegN_st K _ _ _ (by first | decide | (simp only [F.SOL_DISPLACE_CNT_COUNT, F.SOL_JOB_CTL_CTL, F.SOL_JOB_STATE_STATE, Reg.SOL_DISPLACE_CNT, Reg.SOL_JOB_CTL, Reg.SOL_JOB_SEQ, Reg.SOL_JOB_STATE, Reg.SYS_STATE, ne_eq]; omega) | (split <;> decide)) ?_ | with_reducible apply Block.solShow_st K | with_reducible apply Block.solRefuse_st K | with_reducible apply Block.solWithdraw_st K | with_reducible refine Block.incSat_st K _ _ (by first | decide | exact vsOk_notState _ | (left; simp only [F.SOL_DISPLACE_CNT_COUNT, F.SOL_JOB_CTL_CTL, F.SOL_JOB_STATE_STATE, Reg.SOL_DISPLACE_CNT, Reg.SOL_JOB_CTL, Reg.SOL_JOB_SEQ, Reg.SOL_JOB_STATE, Reg.SYS_STATE, ne_eq]; omega) | (left; split <;> (simp only [F.SOL_DISPLACE_CNT_COUNT, F.SOL_JOB_CTL_CTL, F.SOL_JOB_STATE_STATE, Reg.SOL_DISPLACE_CNT, Reg.SOL_JOB_CTL, Reg.SOL_JOB_SEQ, Reg.SOL_JOB_STATE, Reg.SYS_STATE, ne_eq]; omega))) ?_ | with_reducible apply Block.raiseEvt_st K | with_reducible refine ite_keep ?_ ?_ | split | dsimp only | with_reducible refine pair_keep (by with_reducible assumption) ?_ | with_reducible refine pair_keep' (by with_reducible assumption) ?_ | intro _)

theorem Block.solScan_st (K : KeptBySt Q) (b : Block) (slot : Nat) (made : SolAt) (hb : Q b.regs) : Q (Block.solScan b slot made).1.regs := by
  unfold Block.solScan
  repeat' (first | with_reducible assumption | with_reducible apply Block.solWithdraw_st K | with_reducible apply Block.solEnd_st K | with_reducible refine ite_keep ?_ ?_ | split | dsimp only | with_reducible refine pair_keep (by with_reducible assumption) ?_ | with_reducible refine pair_keep' (by with_reducible assumption) ?_)

theorem Block.solMismatch_st (K : KeptBySt Q) (b : Block) (j : SolJob) (certified : Bool) (hb : Q b.regs) : Q (Block.solMismatch b j certified).regs := by
  unfold Block.solMismatch
  repeat' (first | with_reducible assumption | with_reducible refine Block.when_keep _ _ _ ?_ (fun _ => ?_) | with_reducible apply Block.solPublish_st K | with_reducible apply Block.solClose_st K | with_reducible apply Block.solEndEvt_st K | with_reducible apply Block.solShow_st K | dsimp only | with_reducible refine pair_keep (by with_reducible assumption) ?_ | with_reducible refine pair_keep' (by with_reducible assumption) ?_ | intro _)

theorem Block.solCrossed_st (K : KeptBySt Q) (b : Block) (abs1 : Bool) (hb : Q b.regs) : Q (Block.solCrossed b abs1).regs := by
  unfold Block.solCrossed
  repeat' (first | with_reducible assumption | with_reducible apply Block.free_st K | with_reducible apply Block.solEnd_st K | with_reducible refine ite_keep ?_ ?_ | split | dsimp only | with_reducible refine pair_keep (by with_reducible assumption) ?_ | with_reducible refine pair_keep' (by with_reducible assumption) ?_)

theorem Block.solStart_st (K : KeptBySt Q) (b : Block) (j : SolJob) (hb : Q b.regs) : Q (Block.solStart b j).regs := by
  unfold Block.solStart
  repeat' (first | with_reducible assumption | with_reducible apply Block.solMismatch_st K | with_reducible apply Block.setPat_st K | with_reducible refine Block.when_keep _ _ _ ?_ (fun _ => ?_) | with_reducible refine Block.fset_st K _ _ _ (by first | decide | exact vsOk_notState _ | (left; simp only [F.SOL_CFG_CERT_ONLY, F.SOL_CFG_KRES, F.SOL_FACT_DONE, F.SOL_FACT_MODE, F.SOL_FACT_PENDING, F.SOL_FACT_STALE, F.SOL_FACT_VALID, F.SOL_JOB_STATE_STATE, F.SOL_STAT_FLOAT_READY, F.SOL_TAU_E, Reg.SOL_CFG, Reg.SOL_FACT, Reg.SOL_JOB_STATE, Reg.SOL_STAT, Reg.SOL_TAU, Reg.SYS_STATE, ne_eq]; omega) | (left; split <;> (simp only [F.SOL_CFG_CERT_ONLY, F.SOL_CFG_KRES, F.SOL_FACT_DONE, F.SOL_FACT_MODE, F.SOL_FACT_PENDING, F.SOL_FACT_STALE, F.SOL_FACT_VALID, F.SOL_JOB_STATE_STATE, F.SOL_STAT_FLOAT_READY, F.SOL_TAU_E, Reg.SOL_CFG, Reg.SOL_FACT, Reg.SOL_JOB_STATE, Reg.SOL_STAT, Reg.SOL_TAU, Reg.SYS_STATE, ne_eq]; omega))) ?_ | with_reducible apply Block.solShow_st K | with_reducible apply Block.solEnd_st K | with_reducible refine ite_keep ?_ ?_ | with_reducible apply id_keep | split | dsimp only | with_reducible refine pair_keep (by with_reducible assumption) ?_ | with_reducible refine pair_keep' (by with_reducible assumption) ?_ | intro _)

theorem Block.solRetest_st (K : KeptBySt Q) (b : Block) (hb : Q b.regs) : Q (Block.solRetest b).regs := by
  unfold Block.solRetest
  repeat' (first | with_reducible assumption | with_reducible refine Block.fset_st K _ _ _ (by first | decide | exact vsOk_notState _ | (left; simp only [F.SOL_STAT_FLOAT_READY, F.SOL_TEST_RESULT, Reg.SOL_STAT, Reg.SOL_TEST, Reg.SYS_STATE, ne_eq]; omega) | (left; split <;> (simp only [F.SOL_STAT_FLOAT_READY, F.SOL_TEST_RESULT, Reg.SOL_STAT, Reg.SOL_TEST, Reg.SYS_STATE, ne_eq]; omega))) ?_ | dsimp only)

theorem Block.solAbortRun_st (K : KeptBySt Q) (b : Block) (hb : Q b.regs) : Q (Block.solAbortRun b).regs := by
  unfold Block.solAbortRun
  repeat' (first | with_reducible assumption | with_reducible apply Block.solKeep_st K | with_reducible apply Block.solLeave_st K | with_reducible apply Block.solClose_st K | with_reducible apply Block.solEndEvt_st K | with_reducible apply Block.solShow_st K | split | dsimp only | with_reducible refine pair_keep (by with_reducible assumption) ?_ | with_reducible refine pair_keep' (by with_reducible assumption) ?_)

theorem Block.solFail_st (K : KeptBySt Q) (b : Block) (hb : Q b.regs) : Q (Block.solFail b).regs := by
  unfold Block.solFail
  repeat' (first | with_reducible assumption | with_reducible apply Block.solAbortRun_st K | with_reducible apply Block.solWithdraw_st K | with_reducible apply Block.solRetest_st K | with_reducible refine Block.fset_st K _ _ _ (by first | decide | exact vsOk_notState _ | (left; simp only [F.BLK_STAT_FAULT, F.BLK_STAT_READY, Reg.BLK_STAT, Reg.SYS_STATE, ne_eq]; omega) | (left; split <;> (simp only [F.BLK_STAT_FAULT, F.BLK_STAT_READY, Reg.BLK_STAT, Reg.SYS_STATE, ne_eq]; omega))) ?_ | with_reducible apply Block.raiseEvt_st K | dsimp only | intro _)

theorem Block.solDropGroup_st (K : KeptBySt Q) (b : Block) (g : Nat) (hb : Q b.regs) : Q (Block.solDropGroup b g).regs := by
  unfold Block.solDropGroup
  repeat' (first | with_reducible assumption | with_reducible refine Block.fset_st K _ _ _ (by first | decide | exact vsOk_notState _ | (left; simp only [F.SOL_TEST_GROUP_OK, Reg.SOL_TEST, Reg.SYS_STATE, ne_eq]; omega) | (left; split <;> (simp only [F.SOL_TEST_GROUP_OK, Reg.SOL_TEST, Reg.SYS_STATE, ne_eq]; omega))) ?_ | with_reducible apply Block.raiseEvt_st K | with_reducible apply Block.solShow_st K | with_reducible refine Block.when_keep _ _ _ ?_ (fun _ => ?_) | with_reducible apply Block.solFail_st K | dsimp only)

theorem Block.solChunk_st (K : KeptBySt Q) (b : Block) (ns bad : Nat) (divOk : Bool) (fail : Nat) (hb : Q b.regs) : Q (Block.solChunk b ns bad divOk fail).regs := by
  unfold Block.solChunk
  repeat' (first | with_reducible assumption | with_reducible refine Block.when_keep _ _ _ ?_ (fun _ => ?_) | with_reducible refine Block.fset_st K _ _ _ (by first | decide | exact vsOk_notState _ | (left; simp only [F.BLK_STAT_FAULT, F.BLK_STAT_READY, F.SOL_STAT_FLOAT_READY, F.SOL_TEST_DIV_OK, F.SOL_TEST_FAIL_CODE, F.SOL_TEST_GROUP_OK, F.SOL_TEST_RESULT, Reg.BLK_STAT, Reg.SOL_STAT, Reg.SOL_TEST, Reg.SYS_STATE, ne_eq]; omega) | (left; split <;> (simp only [F.BLK_STAT_FAULT, F.BLK_STAT_READY, F.SOL_STAT_FLOAT_READY, F.SOL_TEST_DIV_OK, F.SOL_TEST_FAIL_CODE, F.SOL_TEST_GROUP_OK, F.SOL_TEST_RESULT, Reg.BLK_STAT, Reg.SOL_STAT, Reg.SOL_TEST, Reg.SYS_STATE, ne_eq]; omega))) ?_ | with_reducible apply Block.raiseEvt_st K | with_reducible apply Block.solRetest_st K | with_reducible refine Block.forAll_keep _ _ _ ?_ (fun _ _ _ => ?_) | with_reducible apply Block.solDropGroup_st K | with_reducible apply Block.solShow_st K | with_reducible apply Block.solFail_st K | with_reducible refine ite_keep ?_ ?_ | dsimp only | intro _)

theorem Block.solBind_st (K : KeptBySt Q) (b : Block) (pairs : List (Nat × Nat)) (ctxs : List (Nat × CtxProg)) (hb : Q b.regs) : Q (Block.solBind b pairs ctxs).regs := by
  unfold Block.solBind
  repeat' (first | with_reducible assumption | with_reducible refine Block.forAll_keep _ _ _ ?_ (fun _ _ _ => ?_) | with_reducible refine Block.fset_st K _ _ _ (by first | decide | exact vsOk_notState _ | (left; simp only [F.SOL_JOB_MAP_COUNT, F.SOL_JOB_STATE_BOUND, F.SOL_JOB_STATE_OWNER, Reg.SOL_JOB_MAP, Reg.SOL_JOB_STATE, Reg.SYS_STATE, ne_eq]; omega) | (left; split <;> (simp only [F.SOL_JOB_MAP_COUNT, F.SOL_JOB_STATE_BOUND, F.SOL_JOB_STATE_OWNER, Reg.SOL_JOB_MAP, Reg.SOL_JOB_STATE, Reg.SYS_STATE, ne_eq]; omega))) ?_ | split | dsimp only | with_reducible refine pair_keep (by with_reducible assumption) ?_ | with_reducible refine pair_keep' (by with_reducible assumption) ?_ | intro _)

theorem Block.solStepTime_st (K : KeptBySt Q) (b : Block) (d : Int) (hb : Q b.regs) : Q (Block.solStepTime b d).regs := by
  unfold Block.solStepTime
  repeat' (first | with_reducible assumption | split | dsimp only | with_reducible refine pair_keep (by with_reducible assumption) ?_ | with_reducible refine pair_keep' (by with_reducible assumption) ?_ | intro _)

theorem Block.setCx_st (K : KeptBySt Q) (b : Block) (c : Nat) (x : Cx) (hb : Q b.regs) : Q (Block.setCx b c x).regs := by
  unfold Block.setCx
  repeat' (first | with_reducible assumption | dsimp only)

theorem Block.modCx_st (K : KeptBySt Q) (b : Block) (c : Nat) (f : Cx → Cx) (hb : Q b.regs) : Q (Block.modCx b c f).regs := by
  unfold Block.modCx
  repeat' (first | with_reducible assumption | with_reducible apply Block.setCx_st K | dsimp only)

theorem Block.elMod_st (K : KeptBySt Q) (b : Block) (src : Nat) (f : OutEl → OutEl) (hb : Q b.regs) : Q (Block.elMod b src f).regs := by
  unfold Block.elMod
  repeat' (first | with_reducible assumption | with_reducible apply Block.modChan_st K | with_reducible apply Block.chRefresh_st K | with_reducible apply Block.modOut_st K | with_reducible refine ite_keep ?_ ?_ | dsimp only | intro _)

theorem Block.commitOutputs_st (K : KeptBySt Q) (b : Block) (c : Nat) (hb : Q b.regs) : Q (Block.commitOutputs b c).regs := by
  unfold Block.commitOutputs
  repeat' (first | with_reducible assumption | with_reducible apply Block.setCx_st K | with_reducible refine Block.forAll_keep _ _ _ ?_ (fun _ _ _ => ?_) | with_reducible apply Block.elMod_st K | with_reducible refine ite_keep ?_ ?_ | dsimp only | intro _)

theorem Block.substituteOutputs_st (K : KeptBySt Q) (b : Block) (c : Nat) (hb : Q b.regs) : Q (Block.substituteOutputs b c).regs := by
  unfold Block.substituteOutputs
  repeat' (first | with_reducible assumption | with_reducible refine Block.forAll_keep _ _ _ ?_ (fun _ _ _ => ?_) | with_reducible apply Block.elMod_st K | with_reducible refine ite_keep ?_ ?_ | dsimp only | intro _)

theorem Block.uncommitOutputs_st (K : KeptBySt Q) (b : Block) (c : Nat) (hb : Q b.regs) : Q (Block.uncommitOutputs b c).regs := by
  unfold Block.uncommitOutputs
  repeat' (first | with_reducible assumption | with_reducible apply Block.modCx_st K | with_reducible refine Block.forAll_keep _ _ _ ?_ (fun _ _ _ => ?_) | with_reducible apply Block.elMod_st K | dsimp only | intro _)

theorem Block.forceStopped_st (K : KeptBySt Q) (b : Block) (vid : Nat) (hb : Q b.regs) : Q (Block.forceStopped b vid).regs := by
  unfold Block.forceStopped
  repeat' (first | with_reducible assumption | with_reducible refine Block.forAll_keep _ _ _ ?_ (fun _ _ _ => ?_) | with_reducible refine Block.when_keep _ _ _ ?_ (fun _ => ?_) | with_reducible apply Block.elMod_st K | dsimp only | intro _)

theorem Block.releaseOutput_st (K : KeptBySt Q) (b : Block) (f : FrcEntry) (hb : Q b.regs) : Q (Block.releaseOutput b f).regs := by
  unfold Block.releaseOutput
  repeat' (first | with_reducible assumption | with_reducible apply Block.elMod_st K | with_reducible refine Block.forAll_keep _ _ _ ?_ (fun _ _ _ => ?_) | with_reducible refine Block.when_keep _ _ _ ?_ (fun _ => ?_) | split | dsimp only | with_reducible refine pair_keep (by with_reducible assumption) ?_ | with_reducible refine pair_keep' (by with_reducible assumption) ?_ | intro _)

theorem Block.releaseGlobal_st (K : KeptBySt Q) (b : Block) (f : FrcEntry) (hb : Q b.regs) : Q (Block.releaseGlobal b f).regs := by
  unfold Block.releaseGlobal
  repeat' (first | with_reducible assumption | with_reducible apply Block.modCx_st K | split | dsimp only | with_reducible refine pair_keep (by with_reducible assumption) ?_ | with_reducible refine pair_keep' (by with_reducible assumption) ?_ | intro _)

theorem Block.frcShow_st (K : KeptBySt Q) (b : Block) (hb : Q b.regs) : Q (Block.frcShow b).regs := by
  unfold Block.frcShow
  repeat' (first | with_reducible assumption | with_reducible refine Block.fset_st K _ _ _ (by first | decide | exact vsOk_notState _ | (left; simp only [F.FRC_STAT_CMD_BUSY, F.FRC_STAT_COUNT, F.FRC_STAT_ORPHANS, Reg.BLK_STAT, Reg.FRC_STAT, Reg.SYS_STATE, ne_eq]; omega) | (left; split <;> (simp only [F.FRC_STAT_CMD_BUSY, F.FRC_STAT_COUNT, F.FRC_STAT_ORPHANS, Reg.BLK_STAT, Reg.FRC_STAT, Reg.SYS_STATE, ne_eq]; omega))) ?_ | with_reducible refine Block.fsetB_st K _ _ _ (by first | decide | exact vsOk_notState _ | (left; simp only [F.FRC_STAT_CMD_BUSY, F.FRC_STAT_COUNT, F.FRC_STAT_ORPHANS, Reg.BLK_STAT, Reg.FRC_STAT, Reg.SYS_STATE, ne_eq]; omega) | (left; split <;> (simp only [F.FRC_STAT_CMD_BUSY, F.FRC_STAT_COUNT, F.FRC_STAT_ORPHANS, Reg.BLK_STAT, Reg.FRC_STAT, Reg.SYS_STATE, ne_eq]; omega))) ?_ | dsimp only | intro _)

theorem Block.frcRead_st (K : KeptBySt Q) (b : Block) (i : Nat) (hb : Q b.regs) : Q (Block.frcRead b i).regs := by
  unfold Block.frcRead
  repeat' (first | with_reducible assumption | with_reducible refine Block.setRegN_st K _ _ _ (by first | decide | (simp only [F.FRC_ENTRY_INFO_LEVEL, F.FRC_ENTRY_INFO_ORPHAN, F.FRC_ENTRY_INFO_OUTPUT, F.FRC_ENTRY_INFO_TAG, Reg.FRC_ENTRY_INFO, Reg.FRC_ENTRY_LO, Reg.FRC_ENTRY_TIME_HI, Reg.FRC_ENTRY_TIME_LO, Reg.FRC_ENTRY_VID, Reg.SYS_STATE, ne_eq]; omega) | (split <;> decide)) ?_ | with_reducible refine Block.setPair_st K _ _ _ (by first | decide | (simp only [F.FRC_ENTRY_INFO_LEVEL, F.FRC_ENTRY_INFO_ORPHAN, F.FRC_ENTRY_INFO_OUTPUT, F.FRC_ENTRY_INFO_TAG, Reg.FRC_ENTRY_INFO, Reg.FRC_ENTRY_LO, Reg.FRC_ENTRY_TIME_HI, Reg.FRC_ENTRY_TIME_LO, Reg.FRC_ENTRY_VID, Reg.SYS_STATE, ne_eq]; omega) | (split <;> decide)) (by first | decide | (simp only [F.FRC_ENTRY_INFO_LEVEL, F.FRC_ENTRY_INFO_ORPHAN, F.FRC_ENTRY_INFO_OUTPUT, F.FRC_ENTRY_INFO_TAG, Reg.FRC_ENTRY_INFO, Reg.FRC_ENTRY_LO, Reg.FRC_ENTRY_TIME_HI, Reg.FRC_ENTRY_TIME_LO, Reg.FRC_ENTRY_VID, Reg.SYS_STATE, ne_eq]; omega) | (split <;> decide)) ?_ | with_reducible refine Block.fsetB_st K _ _ _ (by first | decide | exact vsOk_notState _ | (left; simp only [F.FRC_ENTRY_INFO_LEVEL, F.FRC_ENTRY_INFO_ORPHAN, F.FRC_ENTRY_INFO_OUTPUT, F.FRC_ENTRY_INFO_TAG, Reg.FRC_ENTRY_INFO, Reg.FRC_ENTRY_LO, Reg.FRC_ENTRY_TIME_HI, Reg.FRC_ENTRY_TIME_LO, Reg.FRC_ENTRY_VID, Reg.SYS_STATE, ne_eq]; omega) | (left; split <;> (simp only [F.FRC_ENTRY_INFO_LEVEL, F.FRC_ENTRY_INFO_ORPHAN, F.FRC_ENTRY_INFO_OUTPUT, F.FRC_ENTRY_INFO_TAG, Reg.FRC_ENTRY_INFO, Reg.FRC_ENTRY_LO, Reg.FRC_ENTRY_TIME_HI, Reg.FRC_ENTRY_TIME_LO, Reg.FRC_ENTRY_VID, Reg.SYS_STATE, ne_eq]; omega))) ?_ | with_reducible refine Block.fset_st K _ _ _ (by first | decide | exact vsOk_notState _ | (left; simp only [F.FRC_ENTRY_INFO_LEVEL, F.FRC_ENTRY_INFO_ORPHAN, F.FRC_ENTRY_INFO_OUTPUT, F.FRC_ENTRY_INFO_TAG, Reg.FRC_ENTRY_INFO, Reg.FRC_ENTRY_LO, Reg.FRC_ENTRY_TIME_HI, Reg.FRC_ENTRY_TIME_LO, Reg.FRC_ENTRY_VID, Reg.SYS_STATE, ne_eq]; omega) | (left; split <;> (simp only [F.FRC_ENTRY_INFO_LEVEL, F.FRC_ENTRY_INFO_ORPHAN, F.FRC_ENTRY_INFO_OUTPUT, F.FRC_ENTRY_INFO_TAG, Reg.FRC_ENTRY_INFO, Reg.FRC_ENTRY_LO, Reg.FRC_ENTRY_TIME_HI, Reg.FRC_ENTRY_TIME_LO, Reg.FRC_ENTRY_VID, Reg.SYS_STATE, ne_eq]; omega))) ?_ | dsimp only | intro _)

theorem Block.frcCommand_st (K : KeptBySt Q) (b : Block) (r : Requester) (v : Nat) (hb : Q b.regs) : Q (Block.frcCommand b r v).regs := by
  unfold Block.frcCommand
  repeat' (first | with_reducible assumption | with_reducible refine Block.fset_st K _ _ _ (by first | decide | exact vsOk_notState _ | (left; simp only [F.FRC_CMD_CMD, F.FRC_RES_CODE, F.RED_STAT_PAIR_OK, Reg.FRC_CMD, Reg.FRC_RES, Reg.RED_STAT, Reg.SYS_STATE, ne_eq]; omega) | (left; split <;> (simp only [F.FRC_CMD_CMD, F.FRC_RES_CODE, F.RED_STAT_PAIR_OK, Reg.FRC_CMD, Reg.FRC_RES, Reg.RED_STAT, Reg.SYS_STATE, ne_eq]; omega))) ?_ | with_reducible apply Block.raiseEvt_st K | with_reducible apply Block.frcRead_st K | with_reducible apply Block.frcShow_st K | with_reducible apply Block.celRequest_st K | with_reducible refine Block.when_keep _ _ _ ?_ (fun _ => ?_) | with_reducible apply Block.send_st K | with_reducible refine ite_keep ?_ ?_ | dsimp only | intro _)

theorem Block.frcRecord_st (K : KeptBySt Q) (b : Block) (evt : Nat) (e : FrcEntry) (old session : Nat) (hb : Q b.regs) : Q (Block.frcRecord b evt e old session).regs := by
  unfold Block.frcRecord
  repeat' (first | with_reducible assumption | with_reducible apply Block.recBlk_st K | with_reducible refine ite_keep ?_ ?_ | dsimp only | intro _)

theorem Block.frcApply_st (K : KeptBySt Q) (b : Block) (c : FrcCmd) (hb : Q b.regs) : Q (Block.frcApply b c).regs := by
  unfold Block.frcApply
  repeat' (first | with_reducible assumption | with_reducible refine Block.forAll_keep _ _ _ ?_ (fun _ _ _ => ?_) | with_reducible apply Block.releaseGlobal_st K | with_reducible apply Block.releaseOutput_st K | with_reducible refine Block.when_keep _ _ _ ?_ (fun _ => ?_) | with_reducible apply Block.forceStopped_st K | with_reducible apply Block.calForced_st K | with_reducible apply Block.raiseEvt_st K | with_reducible apply Block.frcRecord_st K | with_reducible apply Block.event_st K | with_reducible apply Block.frcShow_st K | with_reducible refine ite_keep ?_ ?_ | split | dsimp only | with_reducible refine pair_keep (by with_reducible assumption) ?_ | with_reducible refine pair_keep' (by with_reducible assumption) ?_ | intro _)

theorem Block.frcEnd_st (K : KeptBySt Q) (b : Block) (c : FrcCmd) (ok : Bool) (hb : Q b.regs) : Q (Block.frcEnd b c ok).regs := by
  unfold Block.frcEnd
  repeat' (first | with_reducible assumption | with_reducible apply Block.frcApply_st K | with_reducible refine Block.fset_st K _ _ _ (by first | decide | exact vsOk_notState _ | (left; simp only [F.FRC_RES_CODE, Reg.FRC_RES, Reg.SYS_STATE, ne_eq]; omega) | (left; split <;> (simp only [F.FRC_RES_CODE, Reg.FRC_RES, Reg.SYS_STATE, ne_eq]; omega))) ?_ | with_reducible apply Block.raiseEvt_st K | with_reducible apply Block.frcShow_st K | with_reducible refine ite_keep ?_ ?_ | dsimp only)

theorem Block.frcAck_st (K : KeptBySt Q) (b : Block) (partnerOk : Bool) (hb : Q b.regs) : Q (Block.frcAck b partnerOk).regs := by
  unfold Block.frcAck
  repeat' (first | with_reducible assumption | with_reducible apply Block.frcEnd_st K | with_reducible apply Block.send_st K | with_reducible refine ite_keep ?_ ?_ | split | dsimp only | with_reducible refine pair_keep (by with_reducible assumption) ?_ | with_reducible refine pair_keep' (by with_reducible assumption) ?_)

theorem Block.frcDue_st (K : KeptBySt Q) (b : Block) (hb : Q b.regs) : Q (Block.frcDue b).regs := by
  unfold Block.frcDue
  repeat' (first | with_reducible assumption | with_reducible apply Block.frcEnd_st K | with_reducible apply Block.frcApply_st K | with_reducible refine ite_keep ?_ ?_ | split | dsimp only | with_reducible refine pair_keep (by with_reducible assumption) ?_ | with_reducible refine pair_keep' (by with_reducible assumption) ?_)

theorem Block.frcLoad_st (K : KeptBySt Q) (b : Block) (atStart : Bool) (hb : Q b.regs) : Q (Block.frcLoad b atStart).regs := by
  unfold Block.frcLoad
  repeat' (first | with_reducible assumption | with_reducible apply Block.celRequest_st K | with_reducible apply Block.frcShow_st K | with_reducible apply Block.event_st K | with_reducible refine Block.when_keep _ _ _ ?_ (fun _ => ?_) | with_reducible refine Block.forAll_keep _ _ _ ?_ (fun _ _ _ => ?_) | with_reducible apply Block.raiseEvt_st K | with_reducible refine ite_keep ?_ ?_ | dsimp only | intro _)

theorem Block.frcIdle_st (K : KeptBySt Q) (b : Block) (hb : Q b.regs) : Q (Block.frcIdle b).regs := by
  unfold Block.frcIdle
  repeat' (first | with_reducible assumption | with_reducible apply Block.frcShow_st K | dsimp only)

theorem Block.frcCmdWrite_st (K : KeptBySt Q) (b : Block) (r : Requester) (v : Nat) (hb : Q b.regs) : Q (Block.frcCmdWrite b r v).regs := by
  unfold Block.frcCmdWrite
  repeat' (first | with_reducible assumption | with_reducible apply Block.cmdWrite_st K | with_reducible apply Block.frcCommand_st K | dsimp only | intro _)

theorem Block.modEng_st (K : KeptBySt Q) (b : Block) (n : Nat) (f : EngState → EngState) (hb : Q b.regs) : Q (Block.modEng b n f).regs := by
  unfold Block.modEng
  repeat' (first | with_reducible assumption | dsimp only)

theorem Block.engShow_st (K : KeptBySt Q) (b : Block) (n : Nat) (hb : Q b.regs) : Q (Block.engShow b n).regs := by
  unfold Block.engShow
  repeat' (first | with_reducible assumption | with_reducible refine Block.when_keep _ _ _ ?_ (fun _ => ?_) | with_reducible apply Block.timed_st K | with_reducible refine Block.fset_st K _ _ _ (by first | decide | exact vsOk_notState _ | (left; simp only [F.ENG_RES_CTX_HI, F.ENG_RES_CTX_LO, F.ENG_RES_VALID_HI, F.ENG_RES_VALID_LO, F.ENG_STATE_RESIDENT, Reg.ENG_RES, Reg.ENG_STATE, Reg.SYS_STATE, ne_eq]; omega) | (left; split <;> (simp only [F.ENG_RES_CTX_HI, F.ENG_RES_CTX_LO, F.ENG_RES_VALID_HI, F.ENG_RES_VALID_LO, F.ENG_STATE_RESIDENT, Reg.ENG_RES, Reg.ENG_STATE, Reg.SYS_STATE, ne_eq]; omega))) ?_ | with_reducible refine Block.forAll_keep _ _ _ ?_ (fun _ _ _ => ?_) | split | dsimp only | with_reducible refine pair_keep (by with_reducible assumption) ?_ | with_reducible refine pair_keep' (by with_reducible assumption) ?_ | intro _)

theorem Block.engShowAll_st (K : KeptBySt Q) (b : Block) (hb : Q b.regs) : Q (Block.engShowAll b).regs := by
  unfold Block.engShowAll
  repeat' (first | with_reducible assumption | with_reducible refine Block.forAll_keep _ _ _ ?_ (fun _ _ _ => ?_) | with_reducible apply Block.engShow_st K | dsimp only)

theorem Block.putPlace_st (K : KeptBySt Q) (b : Block) (c n k : Nat) (hb : Q b.regs) : Q (Block.putPlace b c n k).regs := by
  unfold Block.putPlace
  repeat' (first | with_reducible assumption | with_reducible refine Block.fset_st K _ _ _ (by first | decide | exact vsOk_notState _ | (left; simp only [F.CTX_STATE_ENGINE, F.CTX_STATE_PLACED, Reg.CTX_STATE, Reg.SYS_STATE, ne_eq]; omega) | (left; split <;> (simp only [F.CTX_STATE_ENGINE, F.CTX_STATE_PLACED, Reg.CTX_STATE, Reg.SYS_STATE, ne_eq]; omega))) ?_ | with_reducible apply Block.modCx_st K | dsimp only | intro _)

theorem Block.dropPlace_st (K : KeptBySt Q) (b : Block) (c : Nat) (hb : Q b.regs) : Q (Block.dropPlace b c).regs := by
  unfold Block.dropPlace
  repeat' (first | with_reducible assumption | with_reducible refine Block.fset_st K _ _ _ (by first | decide | exact vsOk_notState _ | (left; simp only [F.CTX_STATE_PLACED, Reg.CTX_STATE, Reg.SYS_STATE, ne_eq]; omega) | (left; split <;> (simp only [F.CTX_STATE_PLACED, Reg.CTX_STATE, Reg.SYS_STATE, ne_eq]; omega))) ?_ | dsimp only)

theorem Block.setCtxState_st (K : KeptBySt Q) (b : Block) (c st : Nat) (hb : Q b.regs) : Q (Block.setCtxState b c st).regs := by
  unfold Block.setCtxState
  repeat' (first | with_reducible assumption | with_reducible apply Block.modCx_st K | with_reducible refine Block.fset_st K _ _ _ (by first | decide | exact vsOk_notState _ | (left; simp only [F.CTX_STATE_STATE, Reg.CTX_STATE, Reg.SCH_STOPPED, Reg.SYS_STATE, ne_eq]; omega) | (left; split <;> (simp only [F.CTX_STATE_STATE, Reg.CTX_STATE, Reg.SCH_STOPPED, Reg.SYS_STATE, ne_eq]; omega))) ?_ | with_reducible refine Block.fsetB_st K _ _ _ (by first | decide | exact vsOk_notState _ | (left; simp only [F.CTX_STATE_STATE, Reg.CTX_STATE, Reg.SCH_STOPPED, Reg.SYS_STATE, ne_eq]; omega) | (left; split <;> (simp only [F.CTX_STATE_STATE, Reg.CTX_STATE, Reg.SCH_STOPPED, Reg.SYS_STATE, ne_eq]; omega))) ?_ | with_reducible refine ite_keep ?_ ?_ | dsimp only | intro _)

theorem Block.schDone_st (K : KeptBySt Q) (b : Block) (code : Nat) (hb : Q b.regs) : Q (Block.schDone b code).regs := by
  unfold Block.schDone
  repeat' (first | with_reducible assumption | with_reducible refine Block.fset_st K _ _ _ (by first | decide | exact vsOk_notState _ | (left; simp only [F.SCH_CMD_RES_CODE, Reg.SCH_CMD_RES, Reg.SYS_STATE, ne_eq]; omega) | (left; split <;> (simp only [F.SCH_CMD_RES_CODE, Reg.SCH_CMD_RES, Reg.SYS_STATE, ne_eq]; omega))) ?_ | with_reducible apply Block.raiseEvt_st K | dsimp only)

theorem Block.stopCtx_st (K : KeptBySt Q) (b : Block) (c why : Nat) (hb : Q b.regs) : Q (Block.stopCtx b c why).regs := by
  unfold Block.stopCtx
  repeat' (first | with_reducible assumption | with_reducible apply Block.setCtxState_st K | with_reducible refine Block.fset_st K _ _ _ (by first | decide | exact vsOk_notState _ | (left; simp only [F.CTX_STATE_STOP_WHY, Reg.CTX_STATE, Reg.SYS_STATE, ne_eq]; omega) | (left; split <;> (simp only [F.CTX_STATE_STOP_WHY, Reg.CTX_STATE, Reg.SYS_STATE, ne_eq]; omega))) ?_ | with_reducible apply Block.modCx_st K | with_reducible refine Block.when_keep _ _ _ ?_ (fun _ => ?_) | with_reducible apply Block.dropPlace_st K | with_reducible apply Block.schDone_st K | with_reducible apply Block.substituteOutputs_st K | with_reducible apply Block.raiseEvt_st K | with_reducible apply Block.event_st K | dsimp only | intro _)

theorem Block.prpSend_st (K : KeptBySt Q) (b : Block) (kind : String) (ws : List Nat) (hb : Q b.regs) : Q (Block.prpSend b kind ws).regs := by
  unfold Block.prpSend
  repeat' (first | with_reducible assumption | with_reducible refine Block.when_keep _ _ _ ?_ (fun _ => ?_) | with_reducible apply Block.send_st K | dsimp only | intro _)

theorem Block.lanSilent_st (K : KeptBySt Q) (b : Block) (portB : Bool) (hb : Q b.regs) : Q (Block.lanSilent b portB).regs := by
  unfold Block.lanSilent
  repeat' (first | with_reducible assumption | with_reducible apply Block.recRegs_st K | with_reducible refine ite_keep ?_ ?_ | dsimp only)

theorem Block.prpExpire_st (K : KeptBySt Q) (b : Block) (hb : Q b.regs) : Q (Block.prpExpire b).regs := by
  unfold Block.prpExpire
  repeat' (first | with_reducible assumption | with_reducible refine Block.addSat_st K _ _ _ (by first | decide | exact vsOk_notState _ | (left; simp only [F.PRP_MISS_A_COUNT, F.PRP_MISS_B_COUNT, Reg.PRP_MISS_A, Reg.PRP_MISS_B, Reg.SYS_STATE, ne_eq]; omega) | (left; split <;> (simp only [F.PRP_MISS_A_COUNT, F.PRP_MISS_B_COUNT, Reg.PRP_MISS_A, Reg.PRP_MISS_B, Reg.SYS_STATE, ne_eq]; omega))) ?_ | with_reducible refine Block.when_keep _ _ _ ?_ (fun _ => ?_) | with_reducible apply Block.lanSilent_st K | dsimp only | intro _)

theorem Block.ipTake_st (K : KeptBySt Q) (b : Block) (hb : Q b.regs) : Q (Block.ipTake b).regs := by
  unfold Block.ipTake
  repeat' (first | with_reducible assumption | dsimp only)

theorem Block.ipSend_st (K : KeptBySt Q) (b : Block) (kind : String) (dst : Nat) (ws : List Nat) (hb : Q b.regs) : Q (Block.ipSend b kind dst ws).regs := by
  unfold Block.ipSend
  repeat' (first | with_reducible assumption | with_reducible apply Block.prpSend_st K | with_reducible refine ite_keep ?_ ?_ | dsimp only)

theorem Block.sspSend_st (K : KeptBySt Q) (b : Block) (peer : Nat) (l : List Nat) (hb : Q b.regs) : Q (Block.sspSend b peer l).regs := by
  unfold Block.sspSend
  repeat' (first | with_reducible assumption | with_reducible apply Block.ipSend_st K | dsimp only)

theorem Block.putSession_st (K : KeptBySt Q) (b : Block) (s : Session) (hb : Q b.regs) : Q (Block.putSession b s).regs := by
  unfold Block.putSession
  repeat' (first | with_reducible assumption | with_reducible refine ite_keep ?_ ?_ | dsimp only | intro _)

theorem Block.sessShow_st (K : KeptBySt Q) (b : Block) (hb : Q b.regs) : Q (Block.sessShow b).regs := by
  unfold Block.sessShow
  repeat' (first | with_reducible assumption | with_reducible refine Block.setRegN_st K _ _ _ (by first | decide | (simp only [Reg.NET_SESS_INFO, Reg.NET_SESS_MAP, Reg.NET_SESS_PEER, Reg.SYS_STATE, ne_eq]; omega) | (split <;> decide)) ?_ | with_reducible refine Block.forAll_keep _ _ _ ?_ (fun _ _ _ => ?_) | split | dsimp only | with_reducible refine pair_keep (by with_reducible assumption) ?_ | with_reducible refine pair_keep' (by with_reducible assumption) ?_ | intro _)

theorem Block.closeSession_st (K : KeptBySt Q) (b : Block) (n : Nat) (hb : Q b.regs) : Q (Block.closeSession b n).regs := by
  unfold Block.closeSession
  repeat' (first | with_reducible assumption | with_reducible refine Block.forAll_keep _ _ _ ?_ (fun _ _ _ => ?_) | with_reducible apply Block.lockPage_st K | with_reducible apply Block.sessShow_st K | with_reducible apply Block.raiseEvt_st K | with_reducible refine ite_keep ?_ ?_ | split | dsimp only | with_reducible refine pair_keep (by with_reducible assumption) ?_ | with_reducible refine pair_keep' (by with_reducible assumption) ?_ | intro _)

theorem Block.pubSend_st (K : KeptBySt Q) (b : Block) (n : Nat) (payload : List Nat) (hb : Q b.regs) : Q (Block.pubSend b n payload).regs := by
  unfold Block.pubSend
  repeat' (first | with_reducible assumption | with_reducible apply Block.putSession_st K | with_reducible apply Block.sspSend_st K | split | dsimp only | with_reducible refine pair_keep (by with_reducible assumption) ?_ | with_reducible refine pair_keep' (by with_reducible assumption) ?_)

theorem Block.subsFollow_st (K : KeptBySt Q) (b : Block) (hb : Q b.regs) : Q (Block.subsFollow b).regs := by
  unfold Block.subsFollow
  repeat' (first | with_reducible assumption | with_reducible refine Block.forAll_keep _ _ _ ?_ (fun _ _ _ => ?_) | with_reducible apply Block.putSession_st K | with_reducible apply Block.free_st K | with_reducible apply Block.pubSend_st K | with_reducible refine ite_keep ?_ ?_ | split | dsimp only | with_reducible refine pair_keep (by with_reducible assumption) ?_ | with_reducible refine pair_keep' (by with_reducible assumption) ?_ | intro _)

theorem Block.credFollow_st (K : KeptBySt Q) (b : Block) (hb : Q b.regs) : Q (Block.credFollow b).regs := by
  unfold Block.credFollow
  repeat' (first | with_reducible assumption | with_reducible refine Block.fset_st K _ _ _ (by first | decide | exact vsOk_notState _ | (left; simp only [F.SEC_CRED_COUNT, Reg.BLK_STAT, Reg.SEC_CRED, Reg.SYS_STATE, secCommissioning, ne_eq]; omega) | (left; split <;> (simp only [F.SEC_CRED_COUNT, Reg.BLK_STAT, Reg.SEC_CRED, Reg.SYS_STATE, secCommissioning, ne_eq]; omega))) ?_ | with_reducible refine Block.fsetB_st K _ _ _ (by first | decide | exact vsOk_notState _ | (left; simp only [F.SEC_CRED_COUNT, Reg.BLK_STAT, Reg.SEC_CRED, Reg.SYS_STATE, secCommissioning, ne_eq]; omega) | (left; split <;> (simp only [F.SEC_CRED_COUNT, Reg.BLK_STAT, Reg.SEC_CRED, Reg.SYS_STATE, secCommissioning, ne_eq]; omega))) ?_ | with_reducible refine Block.forAll_keep _ _ _ ?_ (fun _ _ _ => ?_) | with_reducible apply Block.closeSession_st K | split | dsimp only | with_reducible refine pair_keep (by with_reducible assumption) ?_ | with_reducible refine pair_keep' (by with_reducible assumption) ?_ | intro _)

theorem Block.lateLatch_st (K : KeptBySt Q) (b : Block) (c : Nat) (hb : Q b.regs) : Q (Block.lateLatch b c).regs := by
  unfold Block.lateLatch
  repeat' (first | with_reducible assumption | with_reducible refine Block.when_keep _ _ _ ?_ (fun _ => ?_) | with_reducible refine Block.incSat_st K _ _ (by first | decide | exact vsOk_notState _ | (left; simp only [F.LNK_LATE_CNT_COUNT, Reg.LNK_LATE_CNT, Reg.SYS_STATE, ne_eq]; omega) | (left; split <;> (simp only [F.LNK_LATE_CNT_COUNT, Reg.LNK_LATE_CNT, Reg.SYS_STATE, ne_eq]; omega))) ?_ | dsimp only | intro _)

theorem Block.sendLatch_st (K : KeptBySt Q) (b : Block) (c : Nat) (hb : Q b.regs) : Q (Block.sendLatch b c).regs := by
  unfold Block.sendLatch
  repeat' (first | with_reducible assumption | with_reducible apply Block.toPartner_st K | dsimp only)

theorem Block.latchCx_st (K : KeptBySt Q) (b : Block) (c : Nat) (hb : Q b.regs) : Q (Block.latchCx b c).regs := by
  unfold Block.latchCx
  repeat' (first | with_reducible assumption | with_reducible apply Block.modCx_st K | with_reducible apply Block.lateLatch_st K | with_reducible apply Block.sendLatch_st K | with_reducible refine ite_keep ?_ ?_ | dsimp only | intro _)

theorem Block.spend_st (K : KeptBySt Q) (b : Block) (c clocks : Nat) (hb : Q b.regs) : Q (Block.spend b c clocks).regs := by
  unfold Block.spend
  repeat' (first | with_reducible assumption | with_reducible refine Block.setPair_st K _ _ _ (by first | decide | (simp only [Reg.ENG_BUSY_LO, Reg.SYS_STATE, ne_eq]; omega) | (split <;> decide)) (by first | decide | (simp only [Reg.ENG_BUSY_LO, Reg.SYS_STATE, ne_eq]; omega) | (split <;> decide)) ?_ | with_reducible refine Block.when_keep _ _ _ ?_ (fun _ => ?_) | with_reducible apply Block.modEng_st K | with_reducible apply Block.modCx_st K | dsimp only | intro _)

theorem Block.chargeCycle_st (K : KeptBySt Q) (b : Block) (c : Nat) (hb : Q b.regs) : Q (Block.chargeCycle b c).regs := by
  unfold Block.chargeCycle
  repeat' (first | with_reducible assumption | with_reducible apply Block.modEng_st K | with_reducible apply Block.modCx_st K | dsimp only | intro _)

theorem Block.engFollow_st (K : KeptBySt Q) (b : Block) (n : Nat) (hb : Q b.regs) : Q (Block.engFollow b n).regs := by
  unfold Block.engFollow
  repeat' (first | with_reducible assumption | with_reducible refine Block.fset_st K _ _ _ (by first | decide | exact vsOk_notState _ | (left; simp only [F.ENG_STATE_CUR_CTX, F.ENG_STATE_STATE, Reg.ENG_STATE, Reg.SYS_STATE, ne_eq]; omega) | (left; split <;> (simp only [F.ENG_STATE_CUR_CTX, F.ENG_STATE_STATE, Reg.ENG_STATE, Reg.SYS_STATE, ne_eq]; omega))) ?_ | with_reducible refine ite_keep ?_ ?_ | split | dsimp only | with_reducible refine pair_keep (by with_reducible assumption) ?_ | with_reducible refine pair_keep' (by with_reducible assumption) ?_ | intro _)

theorem Block.switchTo_st (K : KeptBySt Q) (b : Block) (c : Nat) (hb : Q b.regs) : Q (Block.switchTo b c).regs := by
  unfold Block.switchTo
  repeat' (first | with_reducible assumption | with_reducible apply Block.modCx_st K | with_reducible refine Block.incWrap_st K _ _ (by first | decide | exact vsOk_notState _ | (left; simp only [F.ENG_SWITCH_CNT_COUNT, Reg.ENG_SWITCH_CNT, Reg.SYS_STATE, ne_eq]; omega) | (left; split <;> (simp only [F.ENG_SWITCH_CNT_COUNT, Reg.ENG_SWITCH_CNT, Reg.SYS_STATE, ne_eq]; omega))) ?_ | with_reducible apply Block.spend_st K | with_reducible apply Block.engFollow_st K | dsimp only | intro _)

theorem Block.preempt_st (K : KeptBySt Q) (b : Block) (n : Nat) (hb : Q b.regs) : Q (Block.preempt b n).regs := by
  unfold Block.preempt
  repeat' (first | with_reducible assumption | with_reducible apply Block.modCx_st K | split | dsimp only | with_reducible refine pair_keep (by with_reducible assumption) ?_ | with_reducible refine pair_keep' (by with_reducible assumption) ?_ | intro _)

theorem Block.engNext_st (K : KeptBySt Q) (b : Block) (n : Nat) (hb : Q b.regs) : Q (Block.engNext b n).regs := by
  unfold Block.engNext
  repeat' (first | with_reducible assumption | with_reducible apply Block.engFollow_st K | with_reducible apply Block.switchTo_st K | with_reducible refine ite_keep ?_ ?_ | split | dsimp only | with_reducible refine pair_keep (by with_reducible assumption) ?_ | with_reducible refine pair_keep' (by with_reducible assumption) ?_ | intro _)

theorem Block.abandon_st (K : KeptBySt Q) (b : Block) (c : Nat) (hb : Q b.regs) : Q (Block.abandon b c).regs := by
  unfold Block.abandon
  repeat' (first | with_reducible assumption | with_reducible apply Block.chargeCycle_st K | with_reducible apply Block.modCx_st K | with_reducible refine Block.when_keep _ _ _ ?_ (fun _ => ?_) | with_reducible apply Block.setCtxState_st K | dsimp only | intro _)

theorem Block.copyStart_st (K : KeptBySt Q) (b : Block) (c : Nat) (hb : Q b.regs) : Q (Block.copyStart b c).regs := by
  unfold Block.copyStart
  repeat' (first | with_reducible assumption | with_reducible apply Block.modCx_st K | with_reducible refine ite_keep ?_ ?_ | split | dsimp only | with_reducible refine pair_keep (by with_reducible assumption) ?_ | with_reducible refine pair_keep' (by with_reducible assumption) ?_ | intro _)

theorem Block.copyWaiting_st (K : KeptBySt Q) (b : Block) (hb : Q b.regs) : Q (Block.copyWaiting b).regs := by
  unfold Block.copyWaiting
  repeat' (first | with_reducible assumption | with_reducible refine Block.forAll_keep _ _ _ ?_ (fun _ _ _ => ?_) | with_reducible apply Block.copyStart_st K | dsimp only)

theorem Block.handOver_st (K : KeptBySt Q) (b : Block) (c : Nat) (hb : Q b.regs) : Q (Block.handOver b c).regs := by
  unfold Block.handOver
  repeat' (first | with_reducible assumption | with_reducible apply Block.modCx_st K | with_reducible apply Block.copyStart_st K | with_reducible refine ite_keep ?_ ?_ | dsimp only | intro _)

theorem Block.atBoundary_st (K : KeptBySt Q) (b : Block) (c : Nat) (hold : Bool) (done : Bool) (hb : Q b.regs) : Q (Block.atBoundary b c hold done).regs := by
  unfold Block.atBoundary
  repeat' (first | with_reducible assumption | with_reducible apply Block.setCtxState_st K | with_reducible apply Block.stopCtx_st K | with_reducible apply Block.handOver_st K | with_reducible apply Block.copyWaiting_st K | with_reducible refine ite_keep ?_ ?_ | dsimp only)

theorem Block.stopNow_st (K : KeptBySt Q) (b : Block) (c why : Nat) (hb : Q b.regs) : Q (Block.stopNow b c why).regs := by
  unfold Block.stopNow
  repeat' (first | with_reducible assumption | with_reducible apply Block.stopCtx_st K | with_reducible apply Block.handOver_st K | with_reducible apply Block.copyWaiting_st K | dsimp only)

theorem Block.nextTarget_st (K : KeptBySt Q) (b : Block) (c : Nat) (hb : Q b.regs) : Q (Block.nextTarget b c).regs := by
  unfold Block.nextTarget
  repeat' (first | with_reducible assumption | with_reducible apply Block.modCx_st K | dsimp only | intro _)

theorem Block.overrunPolicy_st (K : KeptBySt Q) (b : Block) (c : Nat) (hb : Q b.regs) : Q (Block.overrunPolicy b c).regs := by
  unfold Block.overrunPolicy
  repeat' (first | with_reducible assumption | with_reducible apply Block.raiseEvt_st K | with_reducible apply Block.abandon_st K | with_reducible apply Block.stopNow_st K | with_reducible apply Block.engNext_st K | with_reducible apply Block.modCx_st K | with_reducible refine ite_keep ?_ ?_ | dsimp only | intro _)

theorem Block.overrunSkip_st (K : KeptBySt Q) (b : Block) (c : Nat) (hb : Q b.regs) : Q (Block.overrunSkip b c).regs := by
  unfold Block.overrunSkip
  repeat' (first | with_reducible assumption | with_reducible refine Block.incSat_st K _ _ (by first | decide | exact vsOk_notState _ | (left; simp only [F.CTX_SKIPS_OVERRUN, F.CTX_STATE_CONSEC, F.SCH_LAST_OVR_CONSEC, F.SCH_LAST_OVR_CTX, F.SCH_OVR_CNT_COUNT, Reg.CTX_SKIPS, Reg.CTX_STATE, Reg.SCH_LAST_OVR, Reg.SCH_OVR_CNT, Reg.SYS_STATE, ne_eq]; omega) | (left; split <;> (simp only [F.CTX_SKIPS_OVERRUN, F.CTX_STATE_CONSEC, F.SCH_LAST_OVR_CONSEC, F.SCH_LAST_OVR_CTX, F.SCH_OVR_CNT_COUNT, Reg.CTX_SKIPS, Reg.CTX_STATE, Reg.SCH_LAST_OVR, Reg.SCH_OVR_CNT, Reg.SYS_STATE, ne_eq]; omega))) ?_ | with_reducible refine Block.fset_st K _ _ _ (by first | decide | exact vsOk_notState _ | (left; simp only [F.CTX_SKIPS_OVERRUN, F.CTX_STATE_CONSEC, F.SCH_LAST_OVR_CONSEC, F.SCH_LAST_OVR_CTX, F.SCH_OVR_CNT_COUNT, Reg.CTX_SKIPS, Reg.CTX_STATE, Reg.SCH_LAST_OVR, Reg.SCH_OVR_CNT, Reg.SYS_STATE, ne_eq]; omega) | (left; split <;> (simp only [F.CTX_SKIPS_OVERRUN, F.CTX_STATE_CONSEC, F.SCH_LAST_OVR_CONSEC, F.SCH_LAST_OVR_CTX, F.SCH_OVR_CNT_COUNT, Reg.CTX_SKIPS, Reg.CTX_STATE, Reg.SCH_LAST_OVR, Reg.SCH_OVR_CNT, Reg.SYS_STATE, ne_eq]; omega))) ?_ | with_reducible apply Block.event_st K | with_reducible apply Block.modCx_st K | with_reducible apply Block.overrunPolicy_st K | dsimp only | intro _)

theorem Block.budgetSkip_st (K : KeptBySt Q) (b : Block) (c : Nat) (hb : Q b.regs) : Q (Block.budgetSkip b c).regs := by
  unfold Block.budgetSkip
  repeat' (first | with_reducible assumption | with_reducible refine Block.incSat_st K _ _ (by first | decide | exact vsOk_notState _ | (left; simp only [F.CTX_SKIPS_BUDGET, F.SCH_BUDGET_SKIP_CNT_COUNT, Reg.CTX_SKIPS, Reg.SCH_BUDGET_SKIP_CNT, Reg.SYS_STATE, ne_eq]; omega) | (left; split <;> (simp only [F.CTX_SKIPS_BUDGET, F.SCH_BUDGET_SKIP_CNT_COUNT, Reg.CTX_SKIPS, Reg.SCH_BUDGET_SKIP_CNT, Reg.SYS_STATE, ne_eq]; omega))) ?_ | with_reducible refine Block.when_keep _ _ _ ?_ (fun _ => ?_) | with_reducible apply Block.raiseEvt_st K | with_reducible apply Block.modCx_st K | dsimp only | intro _)

theorem Block.takeTrigger_st (K : KeptBySt Q) (b : Block) (c : Nat) (hb : Q b.regs) : Q (Block.takeTrigger b c).regs := by
  unfold Block.takeTrigger
  repeat' (first | with_reducible assumption | with_reducible apply Block.modCx_st K | with_reducible apply Block.latchCx_st K | dsimp only | intro _)

theorem Block.roundDue_st (K : KeptBySt Q) (b : Block) (hb : Q b.regs) : Q (Block.roundDue b).regs := by
  unfold Block.roundDue
  repeat' (first | with_reducible assumption | dsimp only)

theorem Block.trigger_st (K : KeptBySt Q) (b : Block) (c : Nat) (hb : Q b.regs) : Q (Block.trigger b c).regs := by
  unfold Block.trigger
  repeat' (first | with_reducible assumption | with_reducible apply Block.nextTarget_st K | with_reducible refine Block.when_keep _ _ _ ?_ (fun _ => ?_) | with_reducible apply Block.roundDue_st K | with_reducible apply Block.canCommit_st K | with_reducible apply Block.overrunSkip_st K | with_reducible apply Block.budgetSkip_st K | with_reducible apply Block.takeTrigger_st K | with_reducible apply Block.modCx_st K | with_reducible refine ite_keep ?_ ?_ | dsimp only | intro _)

theorem Block.delayOthers_st (K : KeptBySt Q) (b : Block) (c : Nat) (hb : Q b.regs) : Q (Block.delayOthers b c).regs := by
  unfold Block.delayOthers
  repeat' (first | with_reducible assumption | with_reducible refine Block.forAll_keep _ _ _ ?_ (fun _ _ _ => ?_) | with_reducible apply Block.modCx_st K | dsimp only | intro _)

theorem Block.applyMirror_st (K : KeptBySt Q) (b : Block) (c : Nat) (hb : Q b.regs) : Q (Block.applyMirror b c).regs := by
  unfold Block.applyMirror
  repeat' (first | with_reducible assumption | with_reducible apply Block.setCx_st K | with_reducible refine Block.addSat_st K _ _ _ (by first | decide | exact vsOk_notState _ | (left; simp only [F.RED_DIVERGE_CNT_COUNT, Reg.RED_DIVERGE_CNT, Reg.SYS_STATE, ne_eq]; omega) | (left; split <;> (simp only [F.RED_DIVERGE_CNT_COUNT, Reg.RED_DIVERGE_CNT, Reg.SYS_STATE, ne_eq]; omega))) ?_ | with_reducible apply Block.raiseEvt_st K | with_reducible refine ite_keep ?_ ?_ | dsimp only | intro _)

theorem Block.dispatch_st (K : KeptBySt Q) (b : Block) (c : Nat) (hb : Q b.regs) : Q (Block.dispatch b c).regs := by
  unfold Block.dispatch
  repeat' (first | with_reducible assumption | with_reducible apply Block.applyMirror_st K | with_reducible apply Block.latchCx_st K | with_reducible apply Block.delayOthers_st K | with_reducible refine Block.when_keep _ _ _ ?_ (fun _ => ?_) | with_reducible refine Block.incSat_st K _ _ (by first | decide | exact vsOk_notState _ | (left; simp only [F.CTX_STATE_CONSEC, F.SCH_ENG_FAULT_COUNT, F.SCH_LATE_CNT_COUNT, Reg.CTX_CSTAT, Reg.CTX_STATE, Reg.SCH_ENG_FAULT, Reg.SCH_LATE_CNT, Reg.SYS_STATE, ne_eq]; omega) | (left; split <;> (simp only [F.CTX_STATE_CONSEC, F.SCH_ENG_FAULT_COUNT, F.SCH_LATE_CNT_COUNT, Reg.CTX_CSTAT, Reg.CTX_STATE, Reg.SCH_ENG_FAULT, Reg.SCH_LATE_CNT, Reg.SYS_STATE, ne_eq]; omega))) ?_ | with_reducible apply Block.raiseEvt_st K | with_reducible refine Block.setRegN_st K _ _ _ (by first | decide | (simp only [F.CTX_STATE_CONSEC, F.SCH_ENG_FAULT_COUNT, F.SCH_LATE_CNT_COUNT, Reg.CTX_CSTAT, Reg.CTX_STATE, Reg.SCH_ENG_FAULT, Reg.SCH_LATE_CNT, Reg.SYS_STATE, ne_eq]; omega) | (split <;> decide)) ?_ | with_reducible refine Block.fset_st K _ _ _ (by first | decide | exact vsOk_notState _ | (left; simp only [F.CTX_STATE_CONSEC, F.SCH_ENG_FAULT_COUNT, F.SCH_LATE_CNT_COUNT, Reg.CTX_CSTAT, Reg.CTX_STATE, Reg.SCH_ENG_FAULT, Reg.SCH_LATE_CNT, Reg.SYS_STATE, ne_eq]; omega) | (left; split <;> (simp only [F.CTX_STATE_CONSEC, F.SCH_ENG_FAULT_COUNT, F.SCH_LATE_CNT_COUNT, Reg.CTX_CSTAT, Reg.CTX_STATE, Reg.SCH_ENG_FAULT, Reg.SCH_LATE_CNT, Reg.SYS_STATE, ne_eq]; omega))) ?_ | with_reducible apply Block.setCtxState_st K | with_reducible apply Block.preempt_st K | with_reducible apply Block.modCx_st K | with_reducible apply Block.switchTo_st K | with_reducible refine ite_keep ?_ ?_ | dsimp only | intro _)

theorem Block.defer_st (K : KeptBySt Q) (b : Block) (c : Nat) (hb : Q b.regs) : Q (Block.defer b c).regs := by
  unfold Block.defer
  repeat' (first | with_reducible assumption | with_reducible apply Block.setCtxState_st K | with_reducible apply Block.modCx_st K | with_reducible apply Block.handOver_st K | with_reducible refine Block.when_keep _ _ _ ?_ (fun _ => ?_) | with_reducible apply Block.raiseEvt_st K | dsimp only | intro _)

theorem Block.publish_st (K : KeptBySt Q) (b : Block) (c : Nat) (hb : Q b.regs) : Q (Block.publish b c).regs := by
  unfold Block.publish
  repeat' (first | with_reducible assumption | with_reducible refine Block.forAll_keep _ _ _ ?_ (fun _ _ _ => ?_) | split | dsimp only | with_reducible refine pair_keep (by with_reducible assumption) ?_ | with_reducible refine pair_keep' (by with_reducible assumption) ?_ | intro _)

theorem Block.release_st (K : KeptBySt Q) (b : Block) (hb : Q b.regs) : Q (Block.release b).regs := by
  unfold Block.release
  repeat' (first | with_reducible assumption | with_reducible refine Block.fset_st K _ _ _ (by first | decide | exact vsOk_notState _ | (left; simp only [F.SYS_START_T_FIRST, F.SYS_STATE_STEP, Reg.SYS_START_T, Reg.SYS_STATE, ne_eq]; omega) | (left; split <;> (simp only [F.SYS_START_T_FIRST, F.SYS_STATE_STEP, Reg.SYS_START_T, Reg.SYS_STATE, ne_eq]; omega))) ?_ | with_reducible apply Block.raiseEvt_st K | with_reducible apply Block.chRefreshAll_st K | with_reducible refine ite_keep ?_ ?_ | dsimp only)

theorem Block.endCycle_st (K : KeptBySt Q) (b : Block) (c : Nat) (hb : Q b.regs) : Q (Block.endCycle b c).regs := by
  unfold Block.endCycle
  repeat' (first | with_reducible assumption | with_reducible apply Block.commitOutputs_st K | with_reducible apply Block.publish_st K | with_reducible apply Block.release_st K | with_reducible apply Block.lnkCommit_st K | with_reducible apply Block.canCommit_st K | with_reducible refine Block.when_keep _ _ _ ?_ (fun _ => ?_) | with_reducible apply Block.send_st K | with_reducible apply Block.chargeCycle_st K | with_reducible refine Block.incWrap_st K _ _ (by first | decide | exact vsOk_notState _ | (left; simp only [F.CTX_CYCLES_COUNT, Reg.CTX_CYCLES, Reg.SYS_STATE, ne_eq]; omega) | (left; split <;> (simp only [F.CTX_CYCLES_COUNT, Reg.CTX_CYCLES, Reg.SYS_STATE, ne_eq]; omega))) ?_ | with_reducible apply Block.modCx_st K | with_reducible apply Block.atBoundary_st K | with_reducible apply Block.engNext_st K | dsimp only | intro _)

theorem Block.hardException_st (K : KeptBySt Q) (b : Block) (c code value : Nat) (hb : Q b.regs) : Q (Block.hardException b c code value).regs := by
  unfold Block.hardException
  repeat' (first | with_reducible assumption | with_reducible refine Block.fset_st K _ _ _ (by first | decide | exact vsOk_notState _ | (left; simp only [F.ENG_EXC_CNT_COUNT, F.ENG_EXC_INFO_CODE, F.ENG_EXC_INFO_CTX, F.ENG_EXC_INFO_VALID, F.ENG_EXC_PC_PC, F.ENG_EXC_PC_TRAP_VAL, Reg.ENG_EXC_CNT, Reg.ENG_EXC_INFO, Reg.ENG_EXC_PC, Reg.ENG_EXC_TIME_HI, Reg.ENG_EXC_TIME_LO, Reg.SYS_STATE, ne_eq]; omega) | (left; split <;> (simp only [F.ENG_EXC_CNT_COUNT, F.ENG_EXC_INFO_CODE, F.ENG_EXC_INFO_CTX, F.ENG_EXC_INFO_VALID, F.ENG_EXC_PC_PC, F.ENG_EXC_PC_TRAP_VAL, Reg.ENG_EXC_CNT, Reg.ENG_EXC_INFO, Reg.ENG_EXC_PC, Reg.ENG_EXC_TIME_HI, Reg.ENG_EXC_TIME_LO, Reg.SYS_STATE, ne_eq]; omega))) ?_ | with_reducible refine Block.stamp_st K _ _ _ (by first | decide | (simp only [F.ENG_EXC_CNT_COUNT, F.ENG_EXC_INFO_CODE, F.ENG_EXC_INFO_CTX, F.ENG_EXC_INFO_VALID, F.ENG_EXC_PC_PC, F.ENG_EXC_PC_TRAP_VAL, Reg.ENG_EXC_CNT, Reg.ENG_EXC_INFO, Reg.ENG_EXC_PC, Reg.ENG_EXC_TIME_HI, Reg.ENG_EXC_TIME_LO, Reg.SYS_STATE, ne_eq]; omega) | (split <;> decide)) (by first | decide | (simp only [F.ENG_EXC_CNT_COUNT, F.ENG_EXC_INFO_CODE, F.ENG_EXC_INFO_CTX, F.ENG_EXC_INFO_VALID, F.ENG_EXC_PC_PC, F.ENG_EXC_PC_TRAP_VAL, Reg.ENG_EXC_CNT, Reg.ENG_EXC_INFO, Reg.ENG_EXC_PC, Reg.ENG_EXC_TIME_HI, Reg.ENG_EXC_TIME_LO, Reg.SYS_STATE, ne_eq]; omega) | (split <;> decide)) ?_ | with_reducible refine Block.incSat_st K _ _ (by first | decide | exact vsOk_notState _ | (left; simp only [F.ENG_EXC_CNT_COUNT, F.ENG_EXC_INFO_CODE, F.ENG_EXC_INFO_CTX, F.ENG_EXC_INFO_VALID, F.ENG_EXC_PC_PC, F.ENG_EXC_PC_TRAP_VAL, Reg.ENG_EXC_CNT, Reg.ENG_EXC_INFO, Reg.ENG_EXC_PC, Reg.ENG_EXC_TIME_HI, Reg.ENG_EXC_TIME_LO, Reg.SYS_STATE, ne_eq]; omega) | (left; split <;> (simp only [F.ENG_EXC_CNT_COUNT, F.ENG_EXC_INFO_CODE, F.ENG_EXC_INFO_CTX, F.ENG_EXC_INFO_VALID, F.ENG_EXC_PC_PC, F.ENG_EXC_PC_TRAP_VAL, Reg.ENG_EXC_CNT, Reg.ENG_EXC_INFO, Reg.ENG_EXC_PC, Reg.ENG_EXC_TIME_HI, Reg.ENG_EXC_TIME_LO, Reg.SYS_STATE, ne_eq]; omega))) ?_ | with_reducible apply Block.event_st K | with_reducible apply Block.abandon_st K | with_reducible apply Block.stopNow_st K | with_reducible apply Block.engNext_st K | with_reducible refine ite_keep ?_ ?_ | dsimp only)

theorem Block.retire_st (K : KeptBySt Q) (b : Block) (c clocks : Nat) (hb : Q b.regs) : Q (Block.retire b c clocks).regs := by
  unfold Block.retire
  repeat' (first | with_reducible assumption | with_reducible refine Block.setPair_st K _ _ _ (by first | decide | (simp only [Reg.ENG_INSN_LO, Reg.SYS_STATE, ne_eq]; omega) | (split <;> decide)) (by first | decide | (simp only [Reg.ENG_INSN_LO, Reg.SYS_STATE, ne_eq]; omega) | (split <;> decide)) ?_ | with_reducible apply Block.spend_st K | dsimp only)

theorem Block.softException_st (K : KeptBySt Q) (b : Block) (c : Nat) (hb : Q b.regs) : Q (Block.softException b c).regs := by
  unfold Block.softException
  repeat' (first | with_reducible assumption | with_reducible refine Block.when_keep _ _ _ ?_ (fun _ => ?_) | with_reducible apply Block.raiseEvt_st K | with_reducible refine Block.incSat_st K _ _ (by first | decide | exact vsOk_notState _ | (left; simp only [F.ENG_SOFT_CNT_COUNT, Reg.ENG_SOFT_CNT, Reg.SYS_STATE, ne_eq]; omega) | (left; split <;> (simp only [F.ENG_SOFT_CNT_COUNT, Reg.ENG_SOFT_CNT, Reg.SYS_STATE, ne_eq]; omega))) ?_ | dsimp only | intro _)

theorem Block.lvc_st (K : KeptBySt Q) (b : Block) (c : Nat) (i : Insn) (hb : Q b.regs) : Q (Block.lvc b c i).regs := by
  unfold Block.lvc
  repeat' (first | with_reducible assumption | with_reducible apply Block.setCx_st K | with_reducible refine Block.when_keep _ _ _ ?_ (fun _ => ?_) | with_reducible apply Block.softException_st K | with_reducible apply Block.retire_st K | with_reducible apply Block.endCycle_st K | with_reducible apply Block.hardException_st K | with_reducible refine ite_keep ?_ ?_ | split | dsimp only | with_reducible refine pair_keep (by with_reducible assumption) ?_ | with_reducible refine pair_keep' (by with_reducible assumption) ?_ | intro _)

theorem Block.islRecord_st (K : KeptBySt Q) (b : Block) (evt : Nat) (hb : Q b.regs) : Q (Block.islRecord b evt).regs := by
  unfold Block.islRecord
  repeat' (first | with_reducible assumption | with_reducible apply Block.timed_st K | with_reducible apply Block.recIsland_st K | dsimp only)

theorem Block.islShow_st (K : KeptBySt Q) (b : Block) (hb : Q b.regs) : Q (Block.islShow b).regs := by
  unfold Block.islShow
  repeat' (first | with_reducible assumption | with_reducible refine Block.islMap_st K _ _ _ (by decide) ?_ | with_reducible refine Block.forAll_keep _ _ _ ?_ (fun _ _ _ => ?_) | with_reducible refine Block.fsetB_st K _ _ _ (by first | decide | exact vsOk_notState _ | (left; simp only [F.CH_STAT_TRIPPED, Reg.CH_STAT, Reg.SAF_HOLD_LO, Reg.SAF_OUT_LO, Reg.SAF_OWN_LO, Reg.SYS_STATE, ne_eq]; omega) | (left; split <;> (simp only [F.CH_STAT_TRIPPED, Reg.CH_STAT, Reg.SAF_HOLD_LO, Reg.SAF_OUT_LO, Reg.SAF_OWN_LO, Reg.SYS_STATE, ne_eq]; omega))) ?_ | with_reducible apply Block.chRefresh_st K | dsimp only | intro _)

theorem Block.islEnter_st (K : KeptBySt Q) (b : Block) (st evt : Nat) (hb : Q b.regs) : Q (Block.islEnter b st evt).regs := by
  unfold Block.islEnter
  repeat' (first | with_reducible assumption | with_reducible refine Block.fset_st K _ _ _ (by first | decide | exact vsOk_notState _ | (left; simp only [F.SAF_STATE_STATE, Reg.SAF_STATE, Reg.SYS_STATE, ne_eq]; omega) | (left; split <;> (simp only [F.SAF_STATE_STATE, Reg.SAF_STATE, Reg.SYS_STATE, ne_eq]; omega))) ?_ | with_reducible apply Block.raiseEvt_st K | with_reducible apply Block.islShow_st K | dsimp only)

theorem Block.islResult_st (K : KeptBySt Q) (b : Block) (source code : Nat) (hb : Q b.regs) : Q (Block.islResult b source code).regs := by
  unfold Block.islResult
  repeat' (first | with_reducible assumption | with_reducible refine Block.fset_st K _ _ _ (by first | decide | exact vsOk_notState _ | (left; simp only [F.SAF_RESET_RES_CODE, F.SAF_RESET_RES_SOURCE, Reg.SAF_RESET_RES, Reg.SYS_STATE, ne_eq]; omega) | (left; split <;> (simp only [F.SAF_RESET_RES_CODE, F.SAF_RESET_RES_SOURCE, Reg.SAF_RESET_RES, Reg.SYS_STATE, ne_eq]; omega))) ?_ | with_reducible apply Block.raiseEvt_st K | with_reducible refine ite_keep ?_ ?_ | dsimp only)

theorem Block.resetRefused_st (K : KeptBySt Q) (b : Block) (code : Nat) (hb : Q b.regs) : Q (Block.resetRefused b code).regs := by
  unfold Block.resetRefused
  repeat' (first | with_reducible assumption | with_reducible apply Block.islResult_st K | dsimp only)

theorem Block.showCause_st (K : KeptBySt Q) (b : Block) (cause : Nat) (ch : Option Nat) (hb : Q b.regs) : Q (Block.showCause b cause ch).regs := by
  unfold Block.showCause
  repeat' (first | with_reducible assumption | with_reducible refine Block.fset_st K _ _ _ (by first | decide | exact vsOk_notState _ | (left; simp only [F.SAF_STATE_CAUSE, F.SAF_STATE_CAUSE_CH, F.SAF_STATE_CH_VALID, Reg.SAF_STATE, Reg.SYS_STATE, ne_eq]; omega) | (left; split <;> (simp only [F.SAF_STATE_CAUSE, F.SAF_STATE_CAUSE_CH, F.SAF_STATE_CH_VALID, Reg.SAF_STATE, Reg.SYS_STATE, ne_eq]; omega))) ?_ | with_reducible refine Block.fsetB_st K _ _ _ (by first | decide | exact vsOk_notState _ | (left; simp only [F.SAF_STATE_CAUSE, F.SAF_STATE_CAUSE_CH, F.SAF_STATE_CH_VALID, Reg.SAF_STATE, Reg.SYS_STATE, ne_eq]; omega) | (left; split <;> (simp only [F.SAF_STATE_CAUSE, F.SAF_STATE_CAUSE_CH, F.SAF_STATE_CH_VALID, Reg.SAF_STATE, Reg.SYS_STATE, ne_eq]; omega))) ?_ | dsimp only)

theorem Block.coreDown_st (K : KeptBySt Q) (b : Block) (cause : Nat) (hb : Q b.regs) : Q (Block.coreDown b cause).regs := by
  unfold Block.coreDown
  repeat' (first | with_reducible assumption | with_reducible refine Block.when_keep _ _ _ ?_ (fun _ => ?_) | with_reducible refine Block.fset_st K _ _ _ (by first | decide | exact vsOk_notState _ | (left; simp only [F.SAF_CLOCK_OSC_OK, F.SAF_STATE_SX_OK, F.SAF_STATE_SY_OK, Reg.SAF_CLOCK, Reg.SAF_STATE, Reg.SYS_STATE, ne_eq]; omega) | (left; split <;> (simp only [F.SAF_CLOCK_OSC_OK, F.SAF_STATE_SX_OK, F.SAF_STATE_SY_OK, Reg.SAF_CLOCK, Reg.SAF_STATE, Reg.SYS_STATE, ne_eq]; omega))) ?_ | dsimp only | intro _)

theorem Block.causeSeen_st (K : KeptBySt Q) (b : Block) (cause : Nat) (ch : Option Nat) (hb : Q b.regs) : Q (Block.causeSeen b cause ch).regs := by
  unfold Block.causeSeen
  repeat' (first | with_reducible assumption | with_reducible refine Block.fset_st K _ _ _ (by first | decide | exact vsOk_notState _ | (left; simp only [Reg.SAF_CAUSES, Reg.SAF_CHFLT_LO, Reg.SAF_CLEARED, Reg.SYS_STATE, ne_eq]; omega) | (left; split <;> (simp only [Reg.SAF_CAUSES, Reg.SAF_CHFLT_LO, Reg.SAF_CLEARED, Reg.SYS_STATE, ne_eq]; omega))) ?_ | with_reducible refine Block.fsetB_st K _ _ _ (by first | decide | exact vsOk_notState _ | (left; simp only [Reg.SAF_CAUSES, Reg.SAF_CHFLT_LO, Reg.SAF_CLEARED, Reg.SYS_STATE, ne_eq]; omega) | (left; split <;> (simp only [Reg.SAF_CAUSES, Reg.SAF_CHFLT_LO, Reg.SAF_CLEARED, Reg.SYS_STATE, ne_eq]; omega))) ?_ | with_reducible refine Block.chMap_st K _ _ _ _ (by decide) ?_ | split | dsimp only | with_reducible refine pair_keep (by with_reducible assumption) ?_ | with_reducible refine pair_keep' (by with_reducible assumption) ?_)

theorem Block.lockout_st (K : KeptBySt Q) (b : Block) (cause : Nat) (ch : Option Nat) (hb : Q b.regs) : Q (Block.lockout b cause ch).regs := by
  unfold Block.lockout
  repeat' (first | with_reducible assumption | with_reducible apply Block.causeSeen_st K | with_reducible apply Block.coreDown_st K | with_reducible refine Block.when_keep _ _ _ ?_ (fun _ => ?_) | with_reducible apply Block.showCause_st K | with_reducible refine Block.fset_st K _ _ _ (by first | decide | exact vsOk_notState _ | (left; simp only [F.SAF_LOCK_CNT_COUNT, F.SAF_NONCE_NONCE, F.SAF_STATE_CAUSE, F.SAF_TEST_RESULT, Reg.SAF_LOCK_CNT, Reg.SAF_LOCK_TIME_HI, Reg.SAF_LOCK_TIME_LO, Reg.SAF_NONCE, Reg.SAF_STATE, Reg.SAF_TEST, Reg.SYS_STATE, ne_eq]; omega) | (left; split <;> (simp only [F.SAF_LOCK_CNT_COUNT, F.SAF_NONCE_NONCE, F.SAF_STATE_CAUSE, F.SAF_TEST_RESULT, Reg.SAF_LOCK_CNT, Reg.SAF_LOCK_TIME_HI, Reg.SAF_LOCK_TIME_LO, Reg.SAF_NONCE, Reg.SAF_STATE, Reg.SAF_TEST, Reg.SYS_STATE, ne_eq]; omega))) ?_ | with_reducible apply Block.resetRefused_st K | with_reducible refine Block.stamp_st K _ _ _ (by first | decide | (simp only [F.SAF_LOCK_CNT_COUNT, F.SAF_NONCE_NONCE, F.SAF_STATE_CAUSE, F.SAF_TEST_RESULT, Reg.SAF_LOCK_CNT, Reg.SAF_LOCK_TIME_HI, Reg.SAF_LOCK_TIME_LO, Reg.SAF_NONCE, Reg.SAF_STATE, Reg.SAF_TEST, Reg.SYS_STATE, ne_eq]; omega) | (split <;> decide)) (by first | decide | (simp only [F.SAF_LOCK_CNT_COUNT, F.SAF_NONCE_NONCE, F.SAF_STATE_CAUSE, F.SAF_TEST_RESULT, Reg.SAF_LOCK_CNT, Reg.SAF_LOCK_TIME_HI, Reg.SAF_LOCK_TIME_LO, Reg.SAF_NONCE, Reg.SAF_STATE, Reg.SAF_TEST, Reg.SYS_STATE, ne_eq]; omega) | (split <;> decide)) ?_ | with_reducible refine Block.incSat_st K _ _ (by first | decide | exact vsOk_notState _ | (left; simp only [F.SAF_LOCK_CNT_COUNT, F.SAF_NONCE_NONCE, F.SAF_STATE_CAUSE, F.SAF_TEST_RESULT, Reg.SAF_LOCK_CNT, Reg.SAF_LOCK_TIME_HI, Reg.SAF_LOCK_TIME_LO, Reg.SAF_NONCE, Reg.SAF_STATE, Reg.SAF_TEST, Reg.SYS_STATE, ne_eq]; omega) | (left; split <;> (simp only [F.SAF_LOCK_CNT_COUNT, F.SAF_NONCE_NONCE, F.SAF_STATE_CAUSE, F.SAF_TEST_RESULT, Reg.SAF_LOCK_CNT, Reg.SAF_LOCK_TIME_HI, Reg.SAF_LOCK_TIME_LO, Reg.SAF_NONCE, Reg.SAF_STATE, Reg.SAF_TEST, Reg.SYS_STATE, ne_eq]; omega))) ?_ | with_reducible refine Block.incWrap_st K _ _ (by first | decide | exact vsOk_notState _ | (left; simp only [F.SAF_LOCK_CNT_COUNT, F.SAF_NONCE_NONCE, F.SAF_STATE_CAUSE, F.SAF_TEST_RESULT, Reg.SAF_LOCK_CNT, Reg.SAF_LOCK_TIME_HI, Reg.SAF_LOCK_TIME_LO, Reg.SAF_NONCE, Reg.SAF_STATE, Reg.SAF_TEST, Reg.SYS_STATE, ne_eq]; omega) | (left; split <;> (simp only [F.SAF_LOCK_CNT_COUNT, F.SAF_NONCE_NONCE, F.SAF_STATE_CAUSE, F.SAF_TEST_RESULT, Reg.SAF_LOCK_CNT, Reg.SAF_LOCK_TIME_HI, Reg.SAF_LOCK_TIME_LO, Reg.SAF_NONCE, Reg.SAF_STATE, Reg.SAF_TEST, Reg.SYS_STATE, ne_eq]; omega))) ?_ | with_reducible apply Block.islEnter_st K | with_reducible apply Block.celRequest_st K | with_reducible apply Block.islRecord_st K | with_reducible refine ite_keep ?_ ?_ | dsimp only | intro _)

theorem Block.holdBegin_st (K : KeptBySt Q) (b : Block) (n : Nat) (hb : Q b.regs) : Q (Block.holdBegin b n).regs := by
  unfold Block.holdBegin
  repeat' (first | with_reducible assumption | with_reducible refine Block.fset_st K _ _ _ (by first | decide | exact vsOk_notState _ | (left; simp only [F.CH_STAT_COMPLIANCE, F.CH_STAT_OVERLOAD, Reg.CH_STAT, Reg.SYS_STATE, ne_eq]; omega) | (left; split <;> (simp only [F.CH_STAT_COMPLIANCE, F.CH_STAT_OVERLOAD, Reg.CH_STAT, Reg.SYS_STATE, ne_eq]; omega))) ?_ | with_reducible apply Block.islShow_st K | with_reducible apply Block.raiseEvt_st K | with_reducible refine ite_keep ?_ ?_ | dsimp only)

theorem Block.holdStep_st (K : KeptBySt Q) (b : Block) (e : Nat × (Bool × Bool)) (hb : Q b.regs) : Q (Block.holdStep b e).regs := by
  unfold Block.holdStep
  repeat' (first | with_reducible assumption | with_reducible refine Block.when_keep _ _ _ ?_ (fun _ => ?_) | with_reducible refine Block.fset_st K _ _ _ (by first | decide | exact vsOk_notState _ | (left; simp only [F.CH_STAT_OVERLOAD, Reg.CH_STAT, Reg.SYS_STATE, ne_eq]; omega) | (left; split <;> (simp only [F.CH_STAT_OVERLOAD, Reg.CH_STAT, Reg.SYS_STATE, ne_eq]; omega))) ?_ | with_reducible refine ite_keep ?_ ?_ | dsimp only | intro _)

theorem Block.cycleBegun_st (K : KeptBySt Q) (b : Block) (hb : Q b.regs) : Q (Block.cycleBegun b).regs := by
  unfold Block.cycleBegun
  repeat' (first | with_reducible assumption | dsimp only)

theorem Block.islStart_st (K : KeptBySt Q) (b : Block) (hb : Q b.regs) : Q (Block.islStart b).regs := by
  unfold Block.islStart
  repeat' (first | with_reducible assumption | with_reducible refine Block.fset_st K _ _ _ (by first | decide | exact vsOk_notState _ | (left; simp only [F.SAF_CYCLE_CYC_MAX, F.SAF_CYC_CNT_COUNT, Reg.SAF_CYCLE, Reg.SAF_CYC_CNT, Reg.SYS_STATE, ne_eq]; omega) | (left; split <;> (simp only [F.SAF_CYCLE_CYC_MAX, F.SAF_CYC_CNT_COUNT, Reg.SAF_CYCLE, Reg.SAF_CYC_CNT, Reg.SYS_STATE, ne_eq]; omega))) ?_ | with_reducible apply Block.islEnter_st K | dsimp only | intro _)

theorem Block.islDiagnose_st (K : KeptBySt Q) (b : Block) (ins : List SafIn) (cleared : Nat) (hb : Q b.regs) : Q (Block.islDiagnose b ins cleared).regs := by
  unfold Block.islDiagnose
  repeat' (first | with_reducible assumption | with_reducible refine Block.islMap_st K _ _ _ (by decide) ?_ | with_reducible refine Block.when_keep _ _ _ ?_ (fun _ => ?_) | with_reducible refine Block.fset_st K _ _ _ (by first | decide | exact vsOk_notState _ | (left; simp only [F.SAF_CLOCK_OSC_OK, Reg.SAF_CAUSES, Reg.SAF_CHFLT_LO, Reg.SAF_CLEARED, Reg.SAF_CLOCK, Reg.SAF_IN_LO, Reg.SYS_STATE, ne_eq]; omega) | (left; split <;> (simp only [F.SAF_CLOCK_OSC_OK, Reg.SAF_CAUSES, Reg.SAF_CHFLT_LO, Reg.SAF_CLEARED, Reg.SAF_CLOCK, Reg.SAF_IN_LO, Reg.SYS_STATE, ne_eq]; omega))) ?_ | with_reducible refine Block.setRegN_st K _ _ _ (by first | decide | (simp only [F.SAF_CLOCK_OSC_OK, Reg.SAF_CAUSES, Reg.SAF_CHFLT_LO, Reg.SAF_CLEARED, Reg.SAF_CLOCK, Reg.SAF_IN_LO, Reg.SYS_STATE, ne_eq]; omega) | (split <;> decide)) ?_ | dsimp only | intro _)

theorem Block.coresUp_st (K : KeptBySt Q) (b : Block) (hb : Q b.regs) : Q (Block.coresUp b).regs := by
  unfold Block.coresUp
  repeat' (first | with_reducible assumption | with_reducible refine Block.fset_st K _ _ _ (by first | decide | exact vsOk_notState _ | (left; simp only [F.SAF_STATE_SX_OK, F.SAF_STATE_SY_OK, Reg.SAF_STATE, Reg.SYS_STATE, ne_eq]; omega) | (left; split <;> (simp only [F.SAF_STATE_SX_OK, F.SAF_STATE_SY_OK, Reg.SAF_STATE, Reg.SYS_STATE, ne_eq]; omega))) ?_ | dsimp only)

theorem Block.islCycle_st (K : KeptBySt Q) (b : Block) (ins : List SafIn) (c2us : Nat) (hb : Q b.regs) : Q (Block.islCycle b ins c2us).regs := by
  unfold Block.islCycle
  repeat' (first | with_reducible assumption | with_reducible refine Block.when_keep _ _ _ ?_ (fun _ => ?_) | with_reducible apply Block.raiseEvt_st K | with_reducible apply Block.lockout_st K | with_reducible refine Block.incWrap_st K _ _ (by first | decide | exact vsOk_notState _ | (left; simp only [F.CH_STAT_OVERLOAD, F.SAF_CYCLE_CYC_MAX, F.SAF_CYC_CNT_COUNT, Reg.CH_STAT, Reg.SAF_CYCLE, Reg.SAF_CYC_CNT, Reg.SAF_STATUS, Reg.SYS_STATE, ne_eq]; omega) | (left; split <;> (simp only [F.CH_STAT_OVERLOAD, F.SAF_CYCLE_CYC_MAX, F.SAF_CYC_CNT_COUNT, Reg.CH_STAT, Reg.SAF_CYCLE, Reg.SAF_CYC_CNT, Reg.SAF_STATUS, Reg.SYS_STATE, ne_eq]; omega))) ?_ | with_reducible apply Block.coresUp_st K | with_reducible refine Block.fset_st K _ _ _ (by first | decide | exact vsOk_notState _ | (left; simp only [F.CH_STAT_OVERLOAD, F.SAF_CYCLE_CYC_MAX, F.SAF_CYC_CNT_COUNT, Reg.CH_STAT, Reg.SAF_CYCLE, Reg.SAF_CYC_CNT, Reg.SAF_STATUS, Reg.SYS_STATE, ne_eq]; omega) | (left; split <;> (simp only [F.CH_STAT_OVERLOAD, F.SAF_CYCLE_CYC_MAX, F.SAF_CYC_CNT_COUNT, Reg.CH_STAT, Reg.SAF_CYCLE, Reg.SAF_CYC_CNT, Reg.SAF_STATUS, Reg.SYS_STATE, ne_eq]; omega))) ?_ | with_reducible refine Block.forAll_keep _ _ _ ?_ (fun _ _ _ => ?_) | with_reducible refine Block.setRegN_st K _ _ _ (by first | decide | (simp only [F.CH_STAT_OVERLOAD, F.SAF_CYCLE_CYC_MAX, F.SAF_CYC_CNT_COUNT, Reg.CH_STAT, Reg.SAF_CYCLE, Reg.SAF_CYC_CNT, Reg.SAF_STATUS, Reg.SYS_STATE, ne_eq]; omega) | (split <;> decide)) ?_ | with_reducible apply Block.holdStep_st K | with_reducible apply Block.islShow_st K | with_reducible apply Block.holdBegin_st K | with_reducible refine ite_keep ?_ ?_ | dsimp only | intro _)

theorem Block.resetRequest_st (K : KeptBySt Q) (b : Block) (source : Nat) (hb : Q b.regs) : Q (Block.resetRequest b source).regs := by
  unfold Block.resetRequest
  repeat' (first | with_reducible assumption | with_reducible apply Block.islResult_st K | with_reducible refine Block.fset_st K _ _ _ (by first | decide | exact vsOk_notState _ | (left; simp only [F.SAF_TEST_RESULT, Reg.SAF_CAUSES, Reg.SAF_CLEARED, Reg.SAF_TEST, Reg.SYS_STATE, ne_eq]; omega) | (left; split <;> (simp only [F.SAF_TEST_RESULT, Reg.SAF_CAUSES, Reg.SAF_CLEARED, Reg.SAF_TEST, Reg.SYS_STATE, ne_eq]; omega))) ?_ | with_reducible refine ite_keep ?_ ?_ | dsimp only | intro _)

theorem Block.startCommand_st (K : KeptBySt Q) (b : Block) (source : Nat) (hb : Q b.regs) : Q (Block.startCommand b source).regs := by
  unfold Block.startCommand
  repeat' (first | with_reducible assumption | with_reducible apply Block.islResult_st K | with_reducible refine ite_keep ?_ ?_ | split | dsimp only | with_reducible refine pair_keep (by with_reducible assumption) ?_ | with_reducible refine pair_keep' (by with_reducible assumption) ?_)

theorem Block.signedCommand_st (K : KeptBySt Q) (b : Block) (action serial nonce : Nat) (sig : List Word) (hb : Q b.regs) : Q (Block.signedCommand b action serial nonce sig).regs := by
  unfold Block.signedCommand
  repeat' (first | with_reducible assumption | with_reducible refine Block.incWrap_st K _ _ (by first | decide | exact vsOk_notState _ | (left; simp only [F.SAF_NONCE_NONCE, Reg.SAF_NONCE, Reg.SYS_STATE, ne_eq]; omega) | (left; split <;> (simp only [F.SAF_NONCE_NONCE, Reg.SAF_NONCE, Reg.SYS_STATE, ne_eq]; omega))) ?_ | with_reducible apply Block.islResult_st K | with_reducible apply Block.startCommand_st K | with_reducible apply Block.resetRequest_st K | with_reducible refine ite_keep ?_ ?_ | dsimp only)

theorem Block.islTakeUp_st (K : KeptBySt Q) (b : Block) (hb : Q b.regs) : Q (Block.islTakeUp b).regs := by
  unfold Block.islTakeUp
  repeat' (first | with_reducible assumption | with_reducible apply Block.islEnter_st K | with_reducible refine Block.forAll_keep _ _ _ ?_ (fun _ _ _ => ?_) | with_reducible apply Block.modChan_st K | with_reducible refine Block.fset_st K _ _ _ (by first | decide | exact vsOk_notState _ | (left; simp only [F.CH_DI_CFG_TP_SLOT, F.CH_MODE_MODE, F.CH_MODE_SP_USE, F.CH_STAT_TP_FAULT, F.CH_STAT_TRIPPED, F.SAF_CYCLE_TS, F.SAF_STATE_CFG_VALID, F.SAF_STATE_START_MODE, Reg.CH_DI_CFG, Reg.CH_MODE, Reg.CH_STAT, Reg.SAF_CFG_CRC, Reg.SAF_CYCLE, Reg.SAF_STATE, Reg.SYS_STATE, ne_eq]; omega) | (left; split <;> (simp only [F.CH_DI_CFG_TP_SLOT, F.CH_MODE_MODE, F.CH_MODE_SP_USE, F.CH_STAT_TP_FAULT, F.CH_STAT_TRIPPED, F.SAF_CYCLE_TS, F.SAF_STATE_CFG_VALID, F.SAF_STATE_START_MODE, Reg.CH_DI_CFG, Reg.CH_MODE, Reg.CH_STAT, Reg.SAF_CFG_CRC, Reg.SAF_CYCLE, Reg.SAF_STATE, Reg.SYS_STATE, ne_eq]; omega))) ?_ | with_reducible apply Block.chSetMode_st K | with_reducible refine Block.when_keep _ _ _ ?_ (fun _ => ?_) | with_reducible refine Block.fsetB_st K _ _ _ (by first | decide | exact vsOk_notState _ | (left; simp only [F.CH_DI_CFG_TP_SLOT, F.CH_MODE_MODE, F.CH_MODE_SP_USE, F.CH_STAT_TP_FAULT, F.CH_STAT_TRIPPED, F.SAF_CYCLE_TS, F.SAF_STATE_CFG_VALID, F.SAF_STATE_START_MODE, Reg.CH_DI_CFG, Reg.CH_MODE, Reg.CH_STAT, Reg.SAF_CFG_CRC, Reg.SAF_CYCLE, Reg.SAF_STATE, Reg.SYS_STATE, ne_eq]; omega) | (left; split <;> (simp only [F.CH_DI_CFG_TP_SLOT, F.CH_MODE_MODE, F.CH_MODE_SP_USE, F.CH_STAT_TP_FAULT, F.CH_STAT_TRIPPED, F.SAF_CYCLE_TS, F.SAF_STATE_CFG_VALID, F.SAF_STATE_START_MODE, Reg.CH_DI_CFG, Reg.CH_MODE, Reg.CH_STAT, Reg.SAF_CFG_CRC, Reg.SAF_CYCLE, Reg.SAF_STATE, Reg.SYS_STATE, ne_eq]; omega))) ?_ | with_reducible apply Block.chRefresh_st K | with_reducible refine Block.setRegN_st K _ _ _ (by first | decide | (simp only [F.CH_DI_CFG_TP_SLOT, F.CH_MODE_MODE, F.CH_MODE_SP_USE, F.CH_STAT_TP_FAULT, F.CH_STAT_TRIPPED, F.SAF_CYCLE_TS, F.SAF_STATE_CFG_VALID, F.SAF_STATE_START_MODE, Reg.CH_DI_CFG, Reg.CH_MODE, Reg.CH_STAT, Reg.SAF_CFG_CRC, Reg.SAF_CYCLE, Reg.SAF_STATE, Reg.SYS_STATE, ne_eq]; omega) | (split <;> decide)) ?_ | with_reducible apply Block.hartFollow_st K | with_reducible apply Block.islShow_st K | with_reducible refine ite_keep ?_ ?_ | split | dsimp only | with_reducible refine pair_keep (by with_reducible assumption) ?_ | with_reducible refine pair_keep' (by with_reducible assumption) ?_ | intro _)

theorem Block.putDesc_st (K : KeptBySt Q) (b : Block) (c : Nat) (p : Option CtxProg) (hb : Q b.regs) : Q (Block.putDesc b c p).regs := by
  unfold Block.putDesc
  repeat' (first | with_reducible assumption | with_reducible refine Block.forAll_keep _ _ _ ?_ (fun _ _ _ => ?_) | with_reducible refine Block.setRegN_st K _ _ _ (by first | decide | (simp only [Reg.CTX_CFG, Reg.SYS_STATE, ne_eq]; omega) | (split <;> decide)) ?_ | dsimp only | intro _)

theorem Block.showOwners_st (K : KeptBySt Q) (b : Block) (hb : Q b.regs) : Q (Block.showOwners b).regs := by
  unfold Block.showOwners
  repeat' (first | with_reducible assumption | with_reducible refine Block.forAll_keep _ _ _ ?_ (fun _ _ _ => ?_) | with_reducible refine Block.fset_st K _ _ _ (by first | decide | exact vsOk_notState _ | (left; simp only [F.BLK_OWNER_CLASS, F.BLK_OWNER_ID, Reg.BLK_OWNER, Reg.SYS_STATE, ne_eq]; omega) | (left; split <;> (simp only [F.BLK_OWNER_CLASS, F.BLK_OWNER_ID, Reg.BLK_OWNER, Reg.SYS_STATE, ne_eq]; omega))) ?_ | with_reducible refine Block.when_keep _ _ _ ?_ (fun _ => ?_) | split | dsimp only | with_reducible refine pair_keep (by with_reducible assumption) ?_ | with_reducible refine pair_keep' (by with_reducible assumption) ?_ | intro _)

theorem Block.showDecl_st (K : KeptBySt Q) (b : Block) (hb : Q b.regs) : Q (Block.showDecl b).regs := by
  unfold Block.showDecl
  repeat' (first | with_reducible assumption | with_reducible refine Block.setRegN_st K _ _ _ (by first | decide | (simp only [Reg.SCH_DECL_A, Reg.SCH_DECL_B, Reg.SYS_STATE, ne_eq]; omega) | (split <;> decide)) ?_ | dsimp only | intro _)

theorem Block.loadCtx_st (K : KeptBySt Q) (b : Block) (c : Nat) (p : CtxProg) (hb : Q b.regs) : Q (Block.loadCtx b c p).regs := by
  unfold Block.loadCtx
  repeat' (first | with_reducible assumption | with_reducible apply Block.putDesc_st K | with_reducible refine Block.forAll_keep _ _ _ ?_ (fun _ _ _ => ?_) | with_reducible refine Block.setRegN_st K _ _ _ (by first | decide | (simp only [Reg.CTX_STATE, Reg.SYS_STATE, ne_eq]; omega) | (split <;> decide)) ?_ | with_reducible apply Block.setCx_st K | with_reducible apply Block.setCtxState_st K | with_reducible refine ite_keep ?_ ?_ | dsimp only | intro _)

theorem Block.unloadCtx_st (K : KeptBySt Q) (b : Block) (c : Nat) (hb : Q b.regs) : Q (Block.unloadCtx b c).regs := by
  unfold Block.unloadCtx
  repeat' (first | with_reducible assumption | with_reducible apply Block.putDesc_st K | with_reducible refine Block.forAll_keep _ _ _ ?_ (fun _ _ _ => ?_) | with_reducible refine Block.setRegN_st K _ _ _ (by first | decide | (simp only [Reg.CTX_STATE, Reg.SYS_STATE, ne_eq]; omega) | (split <;> decide)) ?_ | with_reducible apply Block.setCtxState_st K | dsimp only | intro _)

theorem Block.placeCtx_st (K : KeptBySt Q) (b : Block) (c : Nat) (hb : Q b.regs) : Q (Block.placeCtx b c).regs := by
  unfold Block.placeCtx
  repeat' (first | with_reducible assumption | with_reducible apply Block.putPlace_st K | with_reducible apply Block.stopCtx_st K | split | dsimp only | with_reducible refine pair_keep (by with_reducible assumption) ?_ | with_reducible refine pair_keep' (by with_reducible assumption) ?_)

theorem Block.placeAll_st (K : KeptBySt Q) (b : Block) (hb : Q b.regs) : Q (Block.placeAll b).regs := by
  unfold Block.placeAll
  repeat' (first | with_reducible assumption | with_reducible refine Block.forAll_keep _ _ _ ?_ (fun _ _ _ => ?_) | with_reducible apply Block.dropPlace_st K | with_reducible apply Block.placeCtx_st K | with_reducible apply Block.engShowAll_st K | dsimp only)

theorem Block.aimCtx_st (K : KeptBySt Q) (b : Block) (c : Nat) (hb : Q b.regs) : Q (Block.aimCtx b c).regs := by
  unfold Block.aimCtx
  repeat' (first | with_reducible assumption | with_reducible apply Block.modCx_st K | split | dsimp only | with_reducible refine pair_keep (by with_reducible assumption) ?_ | with_reducible refine pair_keep' (by with_reducible assumption) ?_ | intro _)

theorem Block.slotFix_st (K : KeptBySt Q) (b : Block) (hb : Q b.regs) : Q (Block.slotFix b).regs := by
  unfold Block.slotFix
  repeat' (first | with_reducible assumption | with_reducible refine Block.forAll_keep _ _ _ ?_ (fun _ _ _ => ?_) | with_reducible refine Block.fset_st K _ _ _ (by first | decide | exact vsOk_notState _ | (left; simp only [F.CH_DI_CFG_TP_SLOT, Reg.CH_DI_CFG, Reg.SYS_STATE, chPage, ne_eq]; omega) | (left; split <;> (simp only [F.CH_DI_CFG_TP_SLOT, Reg.CH_DI_CFG, Reg.SYS_STATE, chPage, ne_eq]; omega))) ?_ | with_reducible apply Block.celRequest_st K | with_reducible apply Block.recRegs_st K | with_reducible refine ite_keep ?_ ?_ | dsimp only | intro _)

theorem Block.clearOutputs_st (K : KeptBySt Q) (b : Block) (hb : Q b.regs) : Q (Block.clearOutputs b).regs := by
  unfold Block.clearOutputs
  repeat' (first | with_reducible assumption | with_reducible refine Block.forAll_keep _ _ _ ?_ (fun _ _ _ => ?_) | with_reducible apply Block.modOut_st K | with_reducible apply Block.modChan_st K | with_reducible apply Block.chRefreshAll_st K | dsimp only | intro _)

theorem Block.dropPatterns_st (K : KeptBySt Q) (b : Block) (hb : Q b.regs) : Q (Block.dropPatterns b).regs := by
  unfold Block.dropPatterns
  repeat' (first | with_reducible assumption | with_reducible refine Block.forAll_keep _ _ _ ?_ (fun _ _ _ => ?_) | with_reducible apply Block.psClear_st K | with_reducible apply Block.solStoreShow_st K | dsimp only)

theorem Block.showMirror_st (K : KeptBySt Q) (b : Block) (hb : Q b.regs) : Q (Block.showMirror b).regs := by
  unfold Block.showMirror
  repeat' (first | with_reducible assumption | with_reducible refine Block.fset_st K _ _ _ (by first | decide | exact vsOk_notState _ | (left; simp only [F.PAIR_RATE_MIRROR, Reg.PAIR_RATE, Reg.SYS_STATE, ne_eq]; omega) | (left; split <;> (simp only [F.PAIR_RATE_MIRROR, Reg.PAIR_RATE, Reg.SYS_STATE, ne_eq]; omega))) ?_ | dsimp only)

theorem Block.installProg_st (K : KeptBySt Q) (b : Block) (p : Prog) (hb : Q b.regs) : Q (Block.installProg b p).regs := by
  unfold Block.installProg
  repeat' (first | with_reducible assumption | with_reducible refine Block.forAll_keep _ _ _ ?_ (fun _ _ _ => ?_) | with_reducible apply Block.unloadCtx_st K | with_reducible apply Block.loadCtx_st K | with_reducible apply Block.showOwners_st K | with_reducible apply Block.showDecl_st K | with_reducible apply Block.showMirror_st K | with_reducible apply Block.solBind_st K | with_reducible apply Block.clearOutputs_st K | with_reducible apply Block.islTakeUp_st K | with_reducible apply Block.slotFix_st K | with_reducible apply Block.lnkTakeUp_st K | with_reducible apply Block.canTakeUp_st K | with_reducible apply Block.credFollow_st K | with_reducible apply Block.subsFollow_st K | dsimp only | intro _)

theorem Block.loadResult_st (K : KeptBySt Q) (b : Block) (vintage buildId : Nat) (v : Verdict) (hb : Q b.regs) : Q (Block.loadResult b vintage buildId v).regs := by
  unfold Block.loadResult
  repeat' (first | with_reducible assumption | with_reducible apply Block.recRegs_st K | dsimp only)

theorem Block.loadRecord_st (K : KeptBySt Q) (b : Block) (p : Prog) (v : Verdict) (hb : Q b.regs) : Q (Block.loadRecord b p v).regs := by
  unfold Block.loadRecord
  repeat' (first | with_reducible assumption | with_reducible apply Block.loadResult_st K | dsimp only)

theorem Block.storePattern_st (K : KeptBySt Q) (b : Block) (w : List Nat) (hb : Q b.regs) : Q (Block.storePattern b w).regs := by
  unfold Block.storePattern
  repeat' (first | with_reducible assumption | dsimp only | intro _)

theorem Block.storeApp_st (K : KeptBySt Q) (b : Block) (vintage : Nat) (w : List Nat) (hb : Q b.regs) : Q (Block.storeApp b vintage w).regs := by
  unfold Block.storeApp
  repeat' (first | with_reducible assumption | with_reducible refine Block.setRegN_st K _ _ _ (by first | decide | (simp only [Reg.SYS_STATE, Reg.UPD_APP_ACT, ne_eq]; omega) | (split <;> decide)) ?_ | dsimp only)

theorem Block.loadImage_st (K : KeptBySt Q) (b : Block) (w : List Nat) (hb : Q b.regs) : Q (Block.loadImage b w).1.regs := by
  unfold Block.loadImage
  repeat' (first | with_reducible assumption | with_reducible apply Block.loadRecord_st K | with_reducible apply Block.installProg_st K | with_reducible apply Block.dropPatterns_st K | with_reducible apply Block.placeAll_st K | with_reducible apply Block.frcLoad_st K | with_reducible refine Block.forAll_keep _ _ _ ?_ (fun _ _ _ => ?_) | with_reducible apply Block.aimCtx_st K | with_reducible apply Block.storeApp_st K | split | dsimp only | with_reducible refine pair_keep (by with_reducible assumption) ?_ | with_reducible refine pair_keep' (by with_reducible assumption) ?_)

theorem Block.dropStaged_st (K : KeptBySt Q) (b : Block) (hb : Q b.regs) : Q (Block.dropStaged b).regs := by
  unfold Block.dropStaged
  repeat' (first | with_reducible assumption | with_reducible refine Block.forAll_keep _ _ _ ?_ (fun _ _ _ => ?_) | with_reducible apply Block.psClear_st K | with_reducible apply Block.solStoreShow_st K | dsimp only | intro _)

theorem Block.olcDrop_st (K : KeptBySt Q) (b : Block) (code evt : Nat) (hb : Q b.regs) : Q (Block.olcDrop b code evt).regs := by
  unfold Block.olcDrop
  repeat' (first | with_reducible assumption | with_reducible apply Block.dropStaged_st K | with_reducible apply Block.endTransfer_st K | with_reducible refine Block.fset_st K _ _ _ (by first | decide | exact vsOk_notState _ | (left; simp only [F.OLC_STAT_CODE, F.OLC_STAT_STATE, Reg.OLC_STAT, Reg.SYS_STATE, ne_eq]; omega) | (left; split <;> (simp only [F.OLC_STAT_CODE, F.OLC_STAT_STATE, Reg.OLC_STAT, Reg.SYS_STATE, ne_eq]; omega))) ?_ | with_reducible apply Block.raiseEvt_st K | dsimp only)

theorem Block.olcTell_st (K : KeptBySt Q) (b : Block) (what : String) (ws : List Nat) (hb : Q b.regs) : Q (Block.olcTell b what ws).regs := by
  unfold Block.olcTell
  repeat' (first | with_reducible assumption | with_reducible refine Block.when_keep _ _ _ ?_ (fun _ => ?_) | with_reducible apply Block.send_st K | dsimp only | intro _)

theorem Block.olcEnd_st (K : KeptBySt Q) (b : Block) (code evt : Nat) (hb : Q b.regs) : Q (Block.olcEnd b code evt).regs := by
  unfold Block.olcEnd
  repeat' (first | with_reducible assumption | with_reducible refine Block.when_keep _ _ _ ?_ (fun _ => ?_) | with_reducible apply Block.olcTell_st K | with_reducible apply Block.olcDrop_st K | dsimp only | intro _)

theorem Block.olcRefuse_st (K : KeptBySt Q) (b : Block) (v : Verdict) (conflicts : List Nat) (hb : Q b.regs) : Q (Block.olcRefuse b v conflicts).regs := by
  unfold Block.olcRefuse
  repeat' (first | with_reducible assumption | with_reducible refine Block.setRegN_st K _ _ _ (by first | decide | (simp only [F.OLC_FAIL_CTX_CTX, F.OLC_FAIL_CTX_VALID, Reg.OLC_FAIL_CTX, Reg.OLC_FAIL_VID, Reg.OLC_STAT, Reg.SYS_STATE, ne_eq]; omega) | (split <;> decide)) ?_ | with_reducible refine Block.fsetB_st K _ _ _ (by first | decide | exact vsOk_notState _ | (left; simp only [F.OLC_FAIL_CTX_CTX, F.OLC_FAIL_CTX_VALID, Reg.OLC_FAIL_CTX, Reg.OLC_FAIL_VID, Reg.OLC_STAT, Reg.SYS_STATE, ne_eq]; omega) | (left; split <;> (simp only [F.OLC_FAIL_CTX_CTX, F.OLC_FAIL_CTX_VALID, Reg.OLC_FAIL_CTX, Reg.OLC_FAIL_VID, Reg.OLC_STAT, Reg.SYS_STATE, ne_eq]; omega))) ?_ | with_reducible refine Block.fset_st K _ _ _ (by first | decide | exact vsOk_notState _ | (left; simp only [F.OLC_FAIL_CTX_CTX, F.OLC_FAIL_CTX_VALID, Reg.OLC_FAIL_CTX, Reg.OLC_FAIL_VID, Reg.OLC_STAT, Reg.SYS_STATE, ne_eq]; omega) | (left; split <;> (simp only [F.OLC_FAIL_CTX_CTX, F.OLC_FAIL_CTX_VALID, Reg.OLC_FAIL_CTX, Reg.OLC_FAIL_VID, Reg.OLC_STAT, Reg.SYS_STATE, ne_eq]; omega))) ?_ | with_reducible apply Block.olcEnd_st K | with_reducible refine Block.forAll_keep _ _ _ ?_ (fun _ _ _ => ?_) | with_reducible apply Block.recRegs_st K | dsimp only | intro _)

theorem Block.olcModState_st (K : KeptBySt Q) (b : Block) (engines : Bool) (hb : Q b.regs) : Q (Block.olcModState b engines).regs := by
  unfold Block.olcModState
  repeat' (first | with_reducible assumption | with_reducible apply Block.olcEnd_st K | with_reducible refine ite_keep ?_ ?_ | dsimp only)

theorem Block.olcPairLost_st (K : KeptBySt Q) (b : Block) (hb : Q b.regs) : Q (Block.olcPairLost b).regs := by
  unfold Block.olcPairLost
  repeat' (first | with_reducible assumption | with_reducible apply Block.olcEnd_st K | with_reducible refine ite_keep ?_ ?_ | dsimp only)

theorem Block.olcSolverDown_st (K : KeptBySt Q) (b : Block) (hb : Q b.regs) : Q (Block.olcSolverDown b).regs := by
  unfold Block.olcSolverDown
  repeat' (first | with_reducible assumption | with_reducible apply Block.olcEnd_st K | with_reducible refine ite_keep ?_ ?_ | dsimp only)

theorem Block.olcMisplaced_st (K : KeptBySt Q) (b : Block) (hb : Q b.regs) : Q (Block.olcMisplaced b).regs := by
  unfold Block.olcMisplaced
  repeat' (first | with_reducible assumption | with_reducible refine Block.fset_st K _ _ _ (by first | decide | exact vsOk_notState _ | (left; simp only [F.OLC_STAT_CODE, Reg.OLC_STAT, Reg.SYS_STATE, ne_eq]; omega) | (left; split <;> (simp only [F.OLC_STAT_CODE, Reg.OLC_STAT, Reg.SYS_STATE, ne_eq]; omega))) ?_ | with_reducible apply Block.raiseEvt_st K | dsimp only)

theorem Block.olcVerified_st (K : KeptBySt Q) (b : Block) (partnerOk : Bool) (hb : Q b.regs) : Q (Block.olcVerified b partnerOk).regs := by
  unfold Block.olcVerified
  repeat' (first | with_reducible assumption | with_reducible apply Block.olcRefuse_st K | with_reducible apply Block.loadRecord_st K | with_reducible refine Block.fset_st K _ _ _ (by first | decide | exact vsOk_notState _ | (left; simp only [F.OLC_STAT_CODE, F.OLC_STAT_STATE, Reg.OLC_STAT, Reg.SYS_STATE, ne_eq]; omega) | (left; split <;> (simp only [F.OLC_STAT_CODE, F.OLC_STAT_STATE, Reg.OLC_STAT, Reg.SYS_STATE, ne_eq]; omega))) ?_ | with_reducible apply Block.raiseEvt_st K | with_reducible refine ite_keep ?_ ?_ | split | dsimp only | with_reducible refine pair_keep (by with_reducible assumption) ?_ | with_reducible refine pair_keep' (by with_reducible assumption) ?_ | intro _)

theorem Block.olcArm_st (K : KeptBySt Q) (b : Block) (hb : Q b.regs) : Q (Block.olcArm b).regs := by
  unfold Block.olcArm
  repeat' (first | with_reducible assumption | with_reducible apply Block.olcRefuse_st K | with_reducible apply Block.timed_st K | with_reducible refine Block.forAll_keep _ _ _ ?_ (fun _ _ _ => ?_) | with_reducible apply Block.modCx_st K | with_reducible refine Block.stamp_st K _ _ _ (by first | decide | (simp only [F.OLC_STAT_STATE, Reg.OLC_ARM_TIME_HI, Reg.OLC_ARM_TIME_LO, Reg.OLC_STAT, Reg.SYS_STATE, ne_eq]; omega) | (split <;> decide)) (by first | decide | (simp only [F.OLC_STAT_STATE, Reg.OLC_ARM_TIME_HI, Reg.OLC_ARM_TIME_LO, Reg.OLC_STAT, Reg.SYS_STATE, ne_eq]; omega) | (split <;> decide)) ?_ | with_reducible refine Block.fset_st K _ _ _ (by first | decide | exact vsOk_notState _ | (left; simp only [F.OLC_STAT_STATE, Reg.OLC_ARM_TIME_HI, Reg.OLC_ARM_TIME_LO, Reg.OLC_STAT, Reg.SYS_STATE, ne_eq]; omega) | (left; split <;> (simp only [F.OLC_STAT_STATE, Reg.OLC_ARM_TIME_HI, Reg.OLC_ARM_TIME_LO, Reg.OLC_STAT, Reg.SYS_STATE, ne_eq]; omega))) ?_ | with_reducible apply Block.raiseEvt_st K | with_reducible refine Block.when_keep _ _ _ ?_ (fun _ => ?_) | with_reducible apply Block.olcTell_st K | split | dsimp only | with_reducible refine pair_keep (by with_reducible assumption) ?_ | with_reducible refine pair_keep' (by with_reducible assumption) ?_ | intro _)

theorem Block.olcCommand_st (K : KeptBySt Q) (b : Block) (v : Nat) (hb : Q b.regs) : Q (Block.olcCommand b v).regs := by
  unfold Block.olcCommand
  repeat' (first | with_reducible assumption | with_reducible refine Block.fset_st K _ _ _ (by first | decide | exact vsOk_notState _ | (left; simp only [F.OLC_CMD_CMD, F.OLC_STAT_CODE, F.OLC_STAT_STATE, Reg.OLC_CMD, Reg.OLC_STAT, Reg.SYS_STATE, ne_eq]; omega) | (left; split <;> (simp only [F.OLC_CMD_CMD, F.OLC_STAT_CODE, F.OLC_STAT_STATE, Reg.OLC_CMD, Reg.OLC_STAT, Reg.SYS_STATE, ne_eq]; omega))) ?_ | with_reducible apply Block.dropStaged_st K | with_reducible apply Block.olcTell_st K | with_reducible apply Block.olcMisplaced_st K | with_reducible apply Block.olcArm_st K | with_reducible apply Block.olcEnd_st K | with_reducible refine ite_keep ?_ ?_ | split | dsimp only | with_reducible refine pair_keep (by with_reducible assumption) ?_ | with_reducible refine pair_keep' (by with_reducible assumption) ?_)

theorem Block.olcCmdWrite_st (K : KeptBySt Q) (b : Block) (r : Requester) (v : Nat) (hb : Q b.regs) : Q (Block.olcCmdWrite b r v).regs := by
  unfold Block.olcCmdWrite
  repeat' (first | with_reducible assumption | with_reducible apply Block.cmdWrite_st K | with_reducible apply Block.olcCommand_st K | dsimp only | intro _)

theorem Block.carryGlobals_st (K : KeptBySt Q) (b : Block) (base p : Prog) (hb : Q b.regs) : Q (Block.carryGlobals b base p).regs := by
  unfold Block.carryGlobals
  repeat' (first | with_reducible assumption | with_reducible refine Block.forAll_keep _ _ _ ?_ (fun _ _ _ => ?_) | with_reducible apply Block.modCx_st K | with_reducible refine ite_keep ?_ ?_ | split | dsimp only | with_reducible refine pair_keep (by with_reducible assumption) ?_ | with_reducible refine pair_keep' (by with_reducible assumption) ?_ | intro _)

theorem Block.switchCtx_st (K : KeptBySt Q) (b : Block) (base p : Prog) (c : Nat) (m : List (Nat × Nat)) (hb : Q b.regs) : Q (Block.switchCtx b base p c m).regs := by
  unfold Block.switchCtx
  repeat' (first | with_reducible assumption | with_reducible apply Block.putDesc_st K | with_reducible apply Block.setCx_st K | dsimp only | intro _)

theorem Block.switchOutputs_st (K : KeptBySt Q) (b : Block) (base p : Prog) (hb : Q b.regs) : Q (Block.switchOutputs b base p).regs := by
  unfold Block.switchOutputs
  repeat' (first | with_reducible assumption | with_reducible refine Block.forAll_keep _ _ _ ?_ (fun _ _ _ => ?_) | with_reducible apply Block.elMod_st K | dsimp only | intro _)

theorem Block.keepForced_st (K : KeptBySt Q) (b : Block) (p : Prog) (e : FrcEntry) (hb : Q b.regs) : Q (Block.keepForced b p e).regs := by
  unfold Block.keepForced
  repeat' (first | with_reducible assumption | with_reducible refine Block.when_keep _ _ _ ?_ (fun _ => ?_) | with_reducible apply Block.elMod_st K | with_reducible apply Block.forceStopped_st K | split | dsimp only | with_reducible refine pair_keep (by with_reducible assumption) ?_ | with_reducible refine pair_keep' (by with_reducible assumption) ?_ | intro _)

theorem Block.switchForces_st (K : KeptBySt Q) (b : Block) (base p : Prog) (released : List Nat) (hb : Q b.regs) : Q (Block.switchForces b base p released).regs := by
  unfold Block.switchForces
  repeat' (first | with_reducible assumption | with_reducible refine Block.forAll_keep _ _ _ ?_ (fun _ _ _ => ?_) | with_reducible apply Block.releaseGlobal_st K | with_reducible apply Block.elMod_st K | with_reducible apply Block.releaseOutput_st K | with_reducible apply Block.raiseEvt_st K | with_reducible apply Block.frcRecord_st K | with_reducible apply Block.keepForced_st K | with_reducible apply Block.frcShow_st K | with_reducible refine ite_keep ?_ ?_ | split | dsimp only | with_reducible refine pair_keep (by with_reducible assumption) ?_ | with_reducible refine pair_keep' (by with_reducible assumption) ?_ | intro _)

theorem Block.switchPatterns_st (K : KeptBySt Q) (b : Block) (hb : Q b.regs) : Q (Block.switchPatterns b).regs := by
  unfold Block.switchPatterns
  repeat' (first | with_reducible assumption | with_reducible refine Block.forAll_keep _ _ _ ?_ (fun _ _ _ => ?_) | with_reducible apply Block.psActivate_st K | with_reducible apply Block.psRetire_st K | with_reducible apply Block.solStoreShow_st K | dsimp only | intro _)

theorem Block.switchMove_st (K : KeptBySt Q) (b : Block) (c : Nat) (hb : Q b.regs) : Q (Block.switchMove b c).regs := by
  unfold Block.switchMove
  repeat' (first | with_reducible assumption | with_reducible apply Block.modCx_st K | with_reducible apply Block.handOver_st K | with_reducible refine ite_keep ?_ ?_ | dsimp only | intro _)

theorem Block.switchPlaces_st (K : KeptBySt Q) (b : Block) (hb : Q b.regs) : Q (Block.switchPlaces b).regs := by
  unfold Block.switchPlaces
  repeat' (first | with_reducible assumption | with_reducible refine Block.forAll_keep _ _ _ ?_ (fun _ _ _ => ?_) | with_reducible apply Block.dropPlace_st K | with_reducible apply Block.modCx_st K | with_reducible apply Block.placeCtx_st K | with_reducible apply Block.switchMove_st K | with_reducible apply Block.copyWaiting_st K | with_reducible apply Block.engShowAll_st K | dsimp only | intro _)

theorem Block.switchTime_st (K : KeptBySt Q) (b : Block) (p : Prog) (hb : Q b.regs) : Q (Block.switchTime b p).regs := by
  unfold Block.switchTime
  repeat' (first | with_reducible assumption | with_reducible refine Block.forAll_keep _ _ _ ?_ (fun _ _ _ => ?_) | with_reducible apply Block.modCx_st K | with_reducible refine Block.setRegN_st K _ _ _ (by first | decide | (simp only [Reg.OLC_SWITCH_TIME, Reg.SYS_STATE, ne_eq]; omega) | (split <;> decide)) ?_ | dsimp only | intro _)

theorem Block.olcSwitch_st (K : KeptBySt Q) (b : Block) (hb : Q b.regs) : Q (Block.olcSwitch b).regs := by
  unfold Block.olcSwitch
  repeat' (first | with_reducible assumption | with_reducible apply Block.carryGlobals_st K | with_reducible refine Block.forAll_keep _ _ _ ?_ (fun _ _ _ => ?_) | with_reducible apply Block.switchCtx_st K | with_reducible refine Block.when_keep _ _ _ ?_ (fun _ => ?_) | with_reducible apply Block.solWithdraw_st K | with_reducible apply Block.unloadCtx_st K | with_reducible refine Block.fset_st K _ _ _ (by first | decide | exact vsOk_notState _ | (left; simp only [F.CTX_STATE_STOP_WHY, F.OLC_COMMIT_CNT_COUNT, F.OLC_STAT_STATE, Reg.CTX_STATE, Reg.OLC_COMMIT_CNT, Reg.OLC_COMMIT_TIME_HI, Reg.OLC_COMMIT_TIME_LO, Reg.OLC_STAT, Reg.SYS_STATE, ne_eq]; omega) | (left; split <;> (simp only [F.CTX_STATE_STOP_WHY, F.OLC_COMMIT_CNT_COUNT, F.OLC_STAT_STATE, Reg.CTX_STATE, Reg.OLC_COMMIT_CNT, Reg.OLC_COMMIT_TIME_HI, Reg.OLC_COMMIT_TIME_LO, Reg.OLC_STAT, Reg.SYS_STATE, ne_eq]; omega))) ?_ | with_reducible apply Block.loadCtx_st K | with_reducible apply Block.modCx_st K | with_reducible apply Block.switchOutputs_st K | with_reducible apply Block.switchForces_st K | with_reducible apply Block.showOwners_st K | with_reducible apply Block.showDecl_st K | with_reducible apply Block.showMirror_st K | with_reducible apply Block.solBind_st K | with_reducible apply Block.switchPatterns_st K | with_reducible apply Block.switchPlaces_st K | with_reducible apply Block.switchTime_st K | with_reducible apply Block.aimCtx_st K | with_reducible apply Block.setCtxState_st K | with_reducible refine Block.stamp_st K _ _ _ (by first | decide | (simp only [F.CTX_STATE_STOP_WHY, F.OLC_COMMIT_CNT_COUNT, F.OLC_STAT_STATE, Reg.CTX_STATE, Reg.OLC_COMMIT_CNT, Reg.OLC_COMMIT_TIME_HI, Reg.OLC_COMMIT_TIME_LO, Reg.OLC_STAT, Reg.SYS_STATE, ne_eq]; omega) | (split <;> decide)) (by first | decide | (simp only [F.CTX_STATE_STOP_WHY, F.OLC_COMMIT_CNT_COUNT, F.OLC_STAT_STATE, Reg.CTX_STATE, Reg.OLC_COMMIT_CNT, Reg.OLC_COMMIT_TIME_HI, Reg.OLC_COMMIT_TIME_LO, Reg.OLC_STAT, Reg.SYS_STATE, ne_eq]; omega) | (split <;> decide)) ?_ | with_reducible refine Block.incWrap_st K _ _ (by first | decide | exact vsOk_notState _ | (left; simp only [F.CTX_STATE_STOP_WHY, F.OLC_COMMIT_CNT_COUNT, F.OLC_STAT_STATE, Reg.CTX_STATE, Reg.OLC_COMMIT_CNT, Reg.OLC_COMMIT_TIME_HI, Reg.OLC_COMMIT_TIME_LO, Reg.OLC_STAT, Reg.SYS_STATE, ne_eq]; omega) | (left; split <;> (simp only [F.CTX_STATE_STOP_WHY, F.OLC_COMMIT_CNT_COUNT, F.OLC_STAT_STATE, Reg.CTX_STATE, Reg.OLC_COMMIT_CNT, Reg.OLC_COMMIT_TIME_HI, Reg.OLC_COMMIT_TIME_LO, Reg.OLC_STAT, Reg.SYS_STATE, ne_eq]; omega))) ?_ | with_reducible apply Block.credFollow_st K | with_reducible apply Block.subsFollow_st K | with_reducible apply Block.lnkSegShow_st K | split | dsimp only | with_reducible refine pair_keep (by with_reducible assumption) ?_ | with_reducible refine pair_keep' (by with_reducible assumption) ?_ | intro _)

theorem Block.olcSwitched_st (K : KeptBySt Q) (b : Block) (hb : Q b.regs) : Q (Block.olcSwitched b).regs := by
  unfold Block.olcSwitched
  repeat' (first | with_reducible assumption | with_reducible refine Block.fset_st K _ _ _ (by first | decide | exact vsOk_notState _ | (left; simp only [F.OLC_STAT_CODE, F.OLC_STAT_STATE, Reg.OLC_BASE_VIN, Reg.OLC_COMMIT_TIME_HI, Reg.OLC_COMMIT_TIME_LO, Reg.OLC_NEW_VIN, Reg.OLC_STAT, Reg.SYS_STATE, ne_eq]; omega) | (left; split <;> (simp only [F.OLC_STAT_CODE, F.OLC_STAT_STATE, Reg.OLC_BASE_VIN, Reg.OLC_COMMIT_TIME_HI, Reg.OLC_COMMIT_TIME_LO, Reg.OLC_NEW_VIN, Reg.OLC_STAT, Reg.SYS_STATE, ne_eq]; omega))) ?_ | with_reducible apply Block.event_st K | dsimp only)

theorem Block.olcFollow_st (K : KeptBySt Q) (b : Block) (hb : Q b.regs) : Q (Block.olcFollow b).regs := by
  unfold Block.olcFollow
  repeat' (first | with_reducible assumption | with_reducible refine Block.when_keep _ _ _ ?_ (fun _ => ?_) | with_reducible apply Block.olcSwitch_st K | dsimp only | intro _)

theorem Block.olcBlocker_st (K : KeptBySt Q) (b : Block) (worst : Nat × Nat) (hb : Q b.regs) : Q (Block.olcBlocker b worst).regs := by
  unfold Block.olcBlocker
  repeat' (first | with_reducible assumption | with_reducible refine Block.fset_st K _ _ _ (by first | decide | exact vsOk_notState _ | (left; simp only [F.OLC_BLOCKER_CTX, F.OLC_BLOCKER_SHARE, Reg.OLC_BLOCKER, Reg.SYS_STATE, ne_eq]; omega) | (left; split <;> (simp only [F.OLC_BLOCKER_CTX, F.OLC_BLOCKER_SHARE, Reg.OLC_BLOCKER, Reg.SYS_STATE, ne_eq]; omega))) ?_ | dsimp only)

theorem Block.setAvailSrc_st (K : KeptBySt Q) (b : Block) (src : TimeSource) (v : Bool) (hb : Q b.regs) : Q (Block.setAvailSrc b src v).regs := by
  unfold Block.setAvailSrc
  repeat' (first | with_reducible assumption | split | dsimp only | with_reducible refine pair_keep (by with_reducible assumption) ?_ | with_reducible refine pair_keep' (by with_reducible assumption) ?_)

theorem Block.tsuEnter_st (K : KeptBySt Q) (b : Block) (st : Nat) (hb : Q b.regs) : Q (Block.tsuEnter b st).regs := by
  unfold Block.tsuEnter
  repeat' (first | with_reducible assumption | with_reducible refine Block.fset_st K _ _ _ (by first | decide | exact vsOk_notState _ | (left; simp only [F.TSU_STAT_STATE, F.TSU_STAT_TIME_VALID, Reg.SYS_STATE, Reg.TSU_OFFSET, Reg.TSU_RATE, Reg.TSU_STAT, ne_eq]; omega) | (left; split <;> (simp only [F.TSU_STAT_STATE, F.TSU_STAT_TIME_VALID, Reg.SYS_STATE, Reg.TSU_OFFSET, Reg.TSU_RATE, Reg.TSU_STAT, ne_eq]; omega))) ?_ | with_reducible refine Block.when_keep _ _ _ ?_ (fun _ => ?_) | with_reducible apply Block.raiseEvt_st K | with_reducible apply Block.recRegs_st K | with_reducible refine ite_keep ?_ ?_ | dsimp only | intro _)

theorem Block.setSrc_st (K : KeptBySt Q) (b : Block) (code : Nat) (hb : Q b.regs) : Q (Block.setSrc b code).regs := by
  unfold Block.setSrc
  repeat' (first | with_reducible assumption | with_reducible refine Block.fset_st K _ _ _ (by first | decide | exact vsOk_notState _ | (left; simp only [F.TSU_STAT_SRC_ACT, Reg.SYS_STATE, Reg.TSU_STAT, ne_eq]; omega) | (left; split <;> (simp only [F.TSU_STAT_SRC_ACT, Reg.SYS_STATE, Reg.TSU_STAT, ne_eq]; omega))) ?_ | with_reducible apply Block.event_st K | with_reducible refine Block.when_keep _ _ _ ?_ (fun _ => ?_) | with_reducible apply Block.tsuEnter_st K | with_reducible refine ite_keep ?_ ?_ | dsimp only | intro _)

theorem Block.tsuHold_st (K : KeptBySt Q) (b : Block) (hb : Q b.regs) : Q (Block.tsuHold b).regs := by
  unfold Block.tsuHold
  repeat' (first | with_reducible assumption | with_reducible apply Block.setSrc_st K | with_reducible refine Block.when_keep _ _ _ ?_ (fun _ => ?_) | with_reducible refine Block.setRegI_st K _ _ _ (by first | decide | (simp only [Reg.SYS_STATE, Reg.TSU_RATE, ne_eq]; omega) | (split <;> decide)) ?_ | with_reducible apply Block.tsuEnter_st K | dsimp only | intro _)

theorem Block.tsuLost_st (K : KeptBySt Q) (b : Block) (src : TimeSource) (hb : Q b.regs) : Q (Block.tsuLost b src).regs := by
  unfold Block.tsuLost
  repeat' (first | with_reducible assumption | with_reducible apply Block.setAvailSrc_st K | with_reducible apply Block.tsuHold_st K | with_reducible refine ite_keep ?_ ?_ | dsimp only)

theorem Block.setClaim_st (K : KeptBySt Q) (b : Block) (epoch : Nat) (hb : Q b.regs) : Q (Block.setClaim b epoch).regs := by
  unfold Block.setClaim
  repeat' (first | with_reducible assumption | with_reducible refine Block.setRegN_st K _ _ _ (by first | decide | (simp only [F.RED_HEALTH_OWN, F.RED_STAT_UNIT_A, Reg.RED_CLAIM, Reg.RED_HEALTH, Reg.RED_STAT, Reg.SYS_STATE, ne_eq]; omega) | (split <;> decide)) ?_ | with_reducible refine ite_keep ?_ ?_ | dsimp only)

theorem Block.redRefresh_st (K : KeptBySt Q) (b : Block) (hb : Q b.regs) : Q (Block.redRefresh b).regs := by
  unfold Block.redRefresh
  repeat' (first | with_reducible assumption | with_reducible refine Block.fset_st K _ _ _ (by first | decide | exact vsOk_notState _ | (left; simp only [F.RED_HEALTH_OWN, Reg.RED_CLAIM, Reg.RED_HEALTH, Reg.SYS_STATE, ne_eq]; omega) | (left; split <;> (simp only [F.RED_HEALTH_OWN, Reg.RED_CLAIM, Reg.RED_HEALTH, Reg.SYS_STATE, ne_eq]; omega))) ?_ | with_reducible apply Block.setClaim_st K | dsimp only)

theorem Block.setSync_st (K : KeptBySt Q) (b : Block) (v : Nat) (hb : Q b.regs) : Q (Block.setSync b v).regs := by
  unfold Block.setSync
  repeat' (first | with_reducible assumption | with_reducible refine Block.fset_st K _ _ _ (by first | decide | exact vsOk_notState _ | (left; simp only [F.RED_STAT_SYNC, Reg.RED_STAT, Reg.SYS_STATE, ne_eq]; omega) | (left; split <;> (simp only [F.RED_STAT_SYNC, Reg.RED_STAT, Reg.SYS_STATE, ne_eq]; omega))) ?_ | with_reducible apply Block.raiseEvt_st K | with_reducible refine ite_keep ?_ ?_ | dsimp only)

theorem Block.setWon_st (K : KeptBySt Q) (b : Block) (v : Bool) (hb : Q b.regs) : Q (Block.setWon b v).regs := by
  unfold Block.setWon
  repeat' (first | with_reducible assumption | with_reducible refine Block.when_keep _ _ _ ?_ (fun _ => ?_) | with_reducible apply Block.canClaimLost_st K | with_reducible apply Block.chRefreshAll_st K | with_reducible apply Block.calClaim_st K | with_reducible apply Block.hartClaimLost_st K | dsimp only)

theorem Block.setRole_st (K : KeptBySt Q) (b : Block) (r : Nat) (hb : Q b.regs) : Q (Block.setRole b r).regs := by
  unfold Block.setRole
  repeat' (first | with_reducible assumption | with_reducible refine Block.fset_st K _ _ _ (by first | decide | exact vsOk_notState _ | (left; simp only [F.RED_STAT_ROLE, Reg.RED_STAT, Reg.SYS_STATE, ne_eq]; omega) | (left; split <;> (simp only [F.RED_STAT_ROLE, Reg.RED_STAT, Reg.SYS_STATE, ne_eq]; omega))) ?_ | with_reducible apply Block.redRefresh_st K | with_reducible refine Block.when_keep _ _ _ ?_ (fun _ => ?_) | with_reducible apply Block.tsuLost_st K | with_reducible apply Block.hartDemoted_st K | with_reducible apply Block.canClaimLost_st K | with_reducible apply Block.chRefreshAll_st K | with_reducible apply Block.calClaim_st K | dsimp only | intro _)

theorem Block.resyncFrom_st (K : KeptBySt Q) (b : Block) (v : Nat) (hb : Q b.regs) : Q (Block.resyncFrom b v).regs := by
  unfold Block.resyncFrom
  repeat' (first | with_reducible assumption | with_reducible refine Block.setRegN_st K _ _ _ (by first | decide | (simp only [Reg.RED_SYNC_PROG, Reg.SYS_STATE, ne_eq]; omega) | (split <;> decide)) ?_ | with_reducible apply Block.setSync_st K | dsimp only)

theorem Block.joinAborted_st (K : KeptBySt Q) (b : Block) (hb : Q b.regs) : Q (Block.joinAborted b).regs := by
  unfold Block.joinAborted
  repeat' (first | with_reducible assumption | with_reducible refine Block.fset_st K _ _ _ (by first | decide | exact vsOk_notState _ | (left; simp only [F.RED_RES_CODE, Reg.RED_RES, Reg.SYS_STATE, ne_eq]; omega) | (left; split <;> (simp only [F.RED_RES_CODE, Reg.RED_RES, Reg.SYS_STATE, ne_eq]; omega))) ?_ | with_reducible apply Block.raiseEvt_st K | with_reducible apply Block.resyncFrom_st K | with_reducible refine ite_keep ?_ ?_ | dsimp only)

theorem Block.resyncStart_st (K : KeptBySt Q) (b : Block) (hb : Q b.regs) : Q (Block.resyncStart b).regs := by
  unfold Block.resyncStart
  repeat' (first | with_reducible assumption | with_reducible apply Block.resyncFrom_st K | dsimp only)

theorem Block.pairOut_st (K : KeptBySt Q) (b : Block) (hb : Q b.regs) : Q (Block.pairOut b).regs := by
  unfold Block.pairOut
  repeat' (first | with_reducible assumption | with_reducible apply Block.setRole_st K | with_reducible apply Block.setSync_st K | with_reducible apply Block.setWon_st K | dsimp only)

theorem Block.pivLimit_st (K : KeptBySt Q) (b : Block) (hb : Q b.regs) : Q (Block.pivLimit b).regs := by
  unfold Block.pivLimit
  repeat' (first | with_reducible assumption | with_reducible refine Block.fsetB_st K _ _ _ (by first | decide | exact vsOk_notState _ | (left; simp only [F.RED_CFG_HB_EN, F.RED_CFG_HDIFF, F.RED_STAT_PIV, F.RED_STAT_PIV_LIMIT, Reg.RED_CFG, Reg.RED_STAT, Reg.SYS_STATE, ne_eq]; omega) | (left; split <;> (simp only [F.RED_CFG_HB_EN, F.RED_CFG_HDIFF, F.RED_STAT_PIV, F.RED_STAT_PIV_LIMIT, Reg.RED_CFG, Reg.RED_STAT, Reg.SYS_STATE, ne_eq]; omega))) ?_ | dsimp only)

theorem Block.hbFollow_st (K : KeptBySt Q) (b : Block) (hb : Q b.regs) : Q (Block.hbFollow b).regs := by
  unfold Block.hbFollow
  repeat' (first | with_reducible assumption | with_reducible apply Block.pivLimit_st K | with_reducible refine Block.fset_st K _ _ _ (by first | decide | exact vsOk_notState _ | (left; simp only [F.CAN_MODE_AUX, F.CAN_MODE_FD_EN, F.CAN_MODE_MODE, F.CAN_MODE_TERM, F.RED_CFG_HB_EN, Reg.CAN_MODE, Reg.CAN_NBT, Reg.RED_CFG, Reg.SYS_STATE, ne_eq]; omega) | (left; split <;> (simp only [F.CAN_MODE_AUX, F.CAN_MODE_FD_EN, F.CAN_MODE_MODE, F.CAN_MODE_TERM, F.RED_CFG_HB_EN, Reg.CAN_MODE, Reg.CAN_NBT, Reg.RED_CFG, Reg.SYS_STATE, ne_eq]; omega))) ?_ | with_reducible refine Block.setRegN_st K _ _ _ (by first | decide | (simp only [F.CAN_MODE_AUX, F.CAN_MODE_FD_EN, F.CAN_MODE_MODE, F.CAN_MODE_TERM, F.RED_CFG_HB_EN, Reg.CAN_MODE, Reg.CAN_NBT, Reg.RED_CFG, Reg.SYS_STATE, ne_eq]; omega) | (split <;> decide)) ?_ | with_reducible apply Block.beatArm_st K | with_reducible apply Block.canTakeMode_st K | with_reducible refine ite_keep ?_ ?_ | dsimp only)

theorem Block.hbSend_st (K : KeptBySt Q) (b : Block) (hb : Q b.regs) : Q (Block.hbSend b).regs := by
  unfold Block.hbSend
  repeat' (first | with_reducible assumption | with_reducible apply Block.canStore_st K | with_reducible apply Block.send_st K | with_reducible refine ite_keep ?_ ?_ | with_reducible apply id_keep | dsimp only)

theorem Block.depart_st (K : KeptBySt Q) (b : Block) (hb : Q b.regs) : Q (Block.depart b).regs := by
  unfold Block.depart
  repeat' (first | with_reducible assumption | with_reducible apply Block.send_st K | with_reducible refine Block.when_keep _ _ _ ?_ (fun _ => ?_) | with_reducible apply Block.hbSend_st K | with_reducible refine ite_keep ?_ ?_ | dsimp only)

theorem Block.pairLeaves_st (K : KeptBySt Q) (b : Block) (hb : Q b.regs) : Q (Block.pairLeaves b).regs := by
  unfold Block.pairLeaves
  repeat' (first | with_reducible assumption | with_reducible apply Block.depart_st K | with_reducible apply Block.pairOut_st K | with_reducible refine ite_keep ?_ ?_ | dsimp only)

theorem Block.unforceOutputs_st (K : KeptBySt Q) (b : Block) (hb : Q b.regs) : Q (Block.unforceOutputs b).regs := by
  unfold Block.unforceOutputs
  repeat' (first | with_reducible assumption | with_reducible refine Block.forAll_keep _ _ _ ?_ (fun _ _ _ => ?_) | with_reducible apply Block.modChan_st K | dsimp only | intro _)

theorem Block.reforceOutputs_st (K : KeptBySt Q) (b : Block) (hb : Q b.regs) : Q (Block.reforceOutputs b).regs := by
  unfold Block.reforceOutputs
  repeat' (first | with_reducible assumption | with_reducible refine Block.forAll_keep _ _ _ ?_ (fun _ _ _ => ?_) | with_reducible apply Block.elMod_st K | with_reducible apply Block.forceStopped_st K | split | dsimp only | with_reducible refine pair_keep (by with_reducible assumption) ?_ | with_reducible refine pair_keep' (by with_reducible assumption) ?_ | intro _)

theorem Block.abandonAll_st (K : KeptBySt Q) (b : Block) (hb : Q b.regs) : Q (Block.abandonAll b).regs := by
  unfold Block.abandonAll
  repeat' (first | with_reducible assumption | with_reducible refine Block.forAll_keep _ _ _ ?_ (fun _ _ _ => ?_) | with_reducible apply Block.abandon_st K | with_reducible apply Block.atBoundary_st K | with_reducible apply Block.engFollow_st K | dsimp only | intro _)

theorem Block.dropDispatches_st (K : KeptBySt Q) (b : Block) (hb : Q b.regs) : Q (Block.dropDispatches b).regs := by
  unfold Block.dropDispatches
  repeat' (first | with_reducible assumption | dsimp only | intro _)

theorem Block.startTriggers_st (K : KeptBySt Q) (b : Block) (hb : Q b.regs) : Q (Block.startTriggers b).regs := by
  unfold Block.startTriggers
  repeat' (first | with_reducible assumption | with_reducible refine Block.forAll_keep _ _ _ ?_ (fun _ _ _ => ?_) | with_reducible apply Block.aimCtx_st K | with_reducible apply Block.modCx_st K | dsimp only | intro _)

theorem Block.leaveRun_st (K : KeptBySt Q) (b : Block) (c : Bool) (hb : Q b.regs) : Q (Block.leaveRun b c).regs := by
  unfold Block.leaveRun
  repeat' (first | with_reducible assumption | with_reducible refine Block.when_keep _ _ _ ?_ (fun _ => ?_) | with_reducible apply Block.dropDispatches_st K | with_reducible apply Block.unforceOutputs_st K | with_reducible apply Block.pairLeaves_st K | dsimp only | intro _)

theorem Block.enterRun_st (K : KeptBySt Q) (b : Block) (c : Bool) (hb : Q b.regs) : Q (Block.enterRun b c).regs := by
  unfold Block.enterRun
  repeat' (first | with_reducible assumption | with_reducible refine Block.when_keep _ _ _ ?_ (fun _ => ?_) | with_reducible apply Block.startTriggers_st K | with_reducible apply Block.reforceOutputs_st K | dsimp only | intro _)

theorem Block.enterHalt_st (K : KeptBySt Q) (b : Block) (c : Bool) (hb : Q b.regs) : Q (Block.enterHalt b c).regs := by
  unfold Block.enterHalt
  repeat' (first | with_reducible assumption | with_reducible refine Block.when_keep _ _ _ ?_ (fun _ => ?_) | with_reducible apply Block.abandonAll_st K | with_reducible apply Block.solAbortRun_st K | with_reducible apply Block.solWithdraw_st K | dsimp only | intro _)

theorem Block.moveCtx_st (K : KeptBySt Q) (b : Block) (c n k : Nat) (hb : Q b.regs) : Q (Block.moveCtx b c n k).regs := by
  unfold Block.moveCtx
  repeat' (first | with_reducible assumption | with_reducible apply Block.modCx_st K | with_reducible apply Block.handOver_st K | with_reducible refine ite_keep ?_ ?_ | dsimp only | intro _)

theorem Block.loseCtx_st (K : KeptBySt Q) (b : Block) (c : Nat) (hb : Q b.regs) : Q (Block.loseCtx b c).regs := by
  unfold Block.loseCtx
  repeat' (first | with_reducible assumption | with_reducible apply Block.modCx_st K | with_reducible apply Block.dropPlace_st K | with_reducible apply Block.copyWaiting_st K | with_reducible apply Block.atBoundary_st K | with_reducible refine ite_keep ?_ ?_ | dsimp only | intro _)

theorem Block.rehome_st (K : KeptBySt Q) (b : Block) (c : Nat) (hb : Q b.regs) : Q (Block.rehome b c).regs := by
  unfold Block.rehome
  repeat' (first | with_reducible assumption | with_reducible apply Block.moveCtx_st K | with_reducible apply Block.loseCtx_st K | with_reducible apply Block.copyWaiting_st K | split | dsimp only | with_reducible refine pair_keep (by with_reducible assumption) ?_ | with_reducible refine pair_keep' (by with_reducible assumption) ?_)

theorem Block.leaveEngine_st (K : KeptBySt Q) (b : Block) (n : Nat) (hb : Q b.regs) : Q (Block.leaveEngine b n).regs := by
  unfold Block.leaveEngine
  repeat' (first | with_reducible assumption | with_reducible refine Block.forAll_keep _ _ _ ?_ (fun _ _ _ => ?_) | with_reducible apply Block.modCx_st K | with_reducible refine Block.when_keep _ _ _ ?_ (fun _ => ?_) | with_reducible apply Block.handOver_st K | with_reducible apply Block.rehome_st K | with_reducible apply Block.engShowAll_st K | dsimp only | intro _)

theorem Block.revive_st (K : KeptBySt Q) (b : Block) (c : Nat) (hb : Q b.regs) : Q (Block.revive b c).regs := by
  unfold Block.revive
  repeat' (first | with_reducible assumption | with_reducible refine Block.fset_st K _ _ _ (by first | decide | exact vsOk_notState _ | (left; simp only [F.CTX_STATE_STOP_WHY, Reg.CTX_STATE, Reg.SYS_STATE, ne_eq]; omega) | (left; split <;> (simp only [F.CTX_STATE_STOP_WHY, Reg.CTX_STATE, Reg.SYS_STATE, ne_eq]; omega))) ?_ | with_reducible apply Block.setCtxState_st K | with_reducible refine ite_keep ?_ ?_ | dsimp only)

theorem Block.rePlace_st (K : KeptBySt Q) (b : Block) (c n k : Nat) (hb : Q b.regs) : Q (Block.rePlace b c n k).regs := by
  unfold Block.rePlace
  repeat' (first | with_reducible assumption | with_reducible apply Block.putPlace_st K | with_reducible apply Block.modCx_st K | dsimp only | intro _)

theorem Block.reviveAll_st (K : KeptBySt Q) (b : Block) (hb : Q b.regs) : Q (Block.reviveAll b).regs := by
  unfold Block.reviveAll
  repeat' (first | with_reducible assumption | with_reducible refine Block.forAll_keep _ _ _ ?_ (fun _ _ _ => ?_) | with_reducible apply Block.rePlace_st K | with_reducible apply Block.revive_st K | with_reducible apply Block.engShowAll_st K | split | dsimp only | with_reducible refine pair_keep (by with_reducible assumption) ?_ | with_reducible refine pair_keep' (by with_reducible assumption) ?_ | intro _)

theorem Block.replaceAll_st (K : KeptBySt Q) (b : Block) (hb : Q b.regs) : Q (Block.replaceAll b).regs := by
  unfold Block.replaceAll
  repeat' (first | with_reducible assumption | with_reducible refine Block.forAll_keep _ _ _ ?_ (fun _ _ _ => ?_) | with_reducible apply Block.modCx_st K | with_reducible apply Block.loseCtx_st K | with_reducible apply Block.moveCtx_st K | with_reducible apply Block.rePlace_st K | with_reducible apply Block.revive_st K | with_reducible apply Block.copyWaiting_st K | with_reducible apply Block.engShowAll_st K | with_reducible refine ite_keep ?_ ?_ | split | dsimp only | with_reducible refine pair_keep (by with_reducible assumption) ?_ | with_reducible refine pair_keep' (by with_reducible assumption) ?_ | intro _)

theorem Block.replaceDone_st (K : KeptBySt Q) (b : Block) (hb : Q b.regs) : Q (Block.replaceDone b).regs := by
  unfold Block.replaceDone
  repeat' (first | with_reducible assumption | with_reducible apply Block.schDone_st K | with_reducible refine ite_keep ?_ ?_ | dsimp only)

theorem Block.reloadCtx_st (K : KeptBySt Q) (b : Block) (c : Nat) (hb : Q b.regs) : Q (Block.reloadCtx b c).regs := by
  unfold Block.reloadCtx
  repeat' (first | with_reducible assumption | with_reducible apply Block.modCx_st K | with_reducible apply Block.uncommitOutputs_st K | with_reducible refine Block.setRegN_st K _ _ _ (by first | decide | (simp only [Reg.CTX_CYCLES, Reg.SYS_STATE, ne_eq]; omega) | (split <;> decide)) ?_ | dsimp only | intro _)

theorem Block.resume_st (K : KeptBySt Q) (b : Block) (c : Nat) (reload : Bool) (hb : Q b.regs) : Q (Block.resume b c reload).regs := by
  unfold Block.resume
  repeat' (first | with_reducible assumption | with_reducible apply Block.reloadCtx_st K | with_reducible apply Block.modCx_st K | with_reducible refine Block.fset_st K _ _ _ (by first | decide | exact vsOk_notState _ | (left; simp only [F.CTX_STATE_PLACED, F.CTX_STATE_STOP_WHY, Reg.CTX_STATE, Reg.SYS_STATE, ne_eq]; omega) | (left; split <;> (simp only [F.CTX_STATE_PLACED, F.CTX_STATE_STOP_WHY, Reg.CTX_STATE, Reg.SYS_STATE, ne_eq]; omega))) ?_ | with_reducible apply Block.setCtxState_st K | with_reducible apply Block.schDone_st K | with_reducible apply Block.rePlace_st K | with_reducible apply Block.engShow_st K | with_reducible refine ite_keep ?_ ?_ | split | dsimp only | with_reducible refine pair_keep (by with_reducible assumption) ?_ | with_reducible refine pair_keep' (by with_reducible assumption) ?_ | intro _)

theorem Block.schStopCtx_st (K : KeptBySt Q) (b : Block) (c : Nat) (hb : Q b.regs) : Q (Block.schStopCtx b c).regs := by
  unfold Block.schStopCtx
  repeat' (first | with_reducible assumption | with_reducible apply Block.modCx_st K | dsimp only | intro _)

theorem Block.schCommand_st (K : KeptBySt Q) (b : Block) (v : Nat) (hb : Q b.regs) : Q (Block.schCommand b v).regs := by
  unfold Block.schCommand
  repeat' (first | with_reducible assumption | with_reducible refine Block.fset_st K _ _ _ (by first | decide | exact vsOk_notState _ | (left; simp only [F.CTX_CFG_VALID, F.CTX_STATE_STOP_WHY, F.SCH_CMD_CMD, Reg.CTX_CFG, Reg.CTX_STATE, Reg.SCH_CMD, Reg.SYS_STATE, ne_eq]; omega) | (left; split <;> (simp only [F.CTX_CFG_VALID, F.CTX_STATE_STOP_WHY, F.SCH_CMD_CMD, Reg.CTX_CFG, Reg.CTX_STATE, Reg.SCH_CMD, Reg.SYS_STATE, ne_eq]; omega))) ?_ | with_reducible apply Block.schDone_st K | with_reducible apply Block.replaceAll_st K | with_reducible apply Block.replaceDone_st K | with_reducible apply Block.resume_st K | with_reducible apply Block.schStopCtx_st K | with_reducible refine ite_keep ?_ ?_ | split | dsimp only | with_reducible refine pair_keep (by with_reducible assumption) ?_ | with_reducible refine pair_keep' (by with_reducible assumption) ?_)

theorem Block.schCmdWrite_st (K : KeptBySt Q) (b : Block) (r : Requester) (v : Nat) (hb : Q b.regs) : Q (Block.schCmdWrite b r v).regs := by
  unfold Block.schCmdWrite
  repeat' (first | with_reducible assumption | with_reducible apply Block.cmdWrite_st K | with_reducible apply Block.schCommand_st K | dsimp only | intro _)

theorem Block.setAvail_st (K : KeptBySt Q) (b : Block) (n : Nat) (v : Bool) (hb : Q b.regs) : Q (Block.setAvail b n v).regs := by
  unfold Block.setAvail
  repeat' (first | with_reducible assumption | with_reducible refine Block.fsetB_st K _ _ _ (by first | decide | exact vsOk_notState _ | (left; simp only [Reg.SCH_ENG_AVAIL, Reg.SYS_STATE, ne_eq]; omega) | (left; split <;> (simp only [Reg.SCH_ENG_AVAIL, Reg.SYS_STATE, ne_eq]; omega))) ?_ | with_reducible apply Block.modEng_st K | with_reducible refine ite_keep ?_ ?_ | dsimp only | intro _)

theorem Block.placesLost_st (K : KeptBySt Q) (b : Block) (n code : Nat) (bad : List Nat) (hb : Q b.regs) : Q (Block.placesLost b n code bad).regs := by
  unfold Block.placesLost
  repeat' (first | with_reducible assumption | with_reducible refine Block.when_keep _ _ _ ?_ (fun _ => ?_) | with_reducible apply Block.event_st K | with_reducible refine Block.forAll_keep _ _ _ ?_ (fun _ _ _ => ?_) | with_reducible apply Block.hardException_st K | with_reducible apply Block.modCx_st K | with_reducible apply Block.dropPlace_st K | with_reducible apply Block.copyWaiting_st K | with_reducible apply Block.modEng_st K | dsimp only | intro _)

theorem Block.engTest_st (K : KeptBySt Q) (b : Block) (n : Nat) (hb : Q b.regs) : Q (Block.engTest b n).regs := by
  unfold Block.engTest
  repeat' (first | with_reducible assumption | with_reducible apply Block.modEng_st K | with_reducible refine Block.fset_st K _ _ _ (by first | decide | exact vsOk_notState _ | (left; simp only [F.ENG_STATE_STATE, F.ENG_TEST_RESULT, Reg.ENG_STATE, Reg.ENG_TEST, Reg.SYS_STATE, ne_eq]; omega) | (left; split <;> (simp only [F.ENG_STATE_STATE, F.ENG_TEST_RESULT, Reg.ENG_STATE, Reg.ENG_TEST, Reg.SYS_STATE, ne_eq]; omega))) ?_ | dsimp only | intro _)

theorem Block.engTestWrite_st (K : KeptBySt Q) (b : Block) (r : Requester) (n v : Nat) (hb : Q b.regs) : Q (Block.engTestWrite b r n v).regs := by
  unfold Block.engTestWrite
  repeat' (first | with_reducible assumption | with_reducible apply Block.cmdWrite_st K | with_reducible apply Block.engTest_st K | with_reducible refine ite_keep ?_ ?_ | dsimp only | intro _)

theorem Block.engPassed_st (K : KeptBySt Q) (b : Block) (n : Nat) (hb : Q b.regs) : Q (Block.engPassed b n).regs := by
  unfold Block.engPassed
  repeat' (first | with_reducible assumption | with_reducible refine Block.fset_st K _ _ _ (by first | decide | exact vsOk_notState _ | (left; simp only [F.BLK_STAT_FAULT, F.BLK_STAT_PARKED, F.ENG_STATE_STATE, F.ENG_TEST_RESULT, Reg.BLK_STAT, Reg.ENG_STATE, Reg.ENG_TEST, Reg.SYS_STATE, ne_eq]; omega) | (left; split <;> (simp only [F.BLK_STAT_FAULT, F.BLK_STAT_PARKED, F.ENG_STATE_STATE, F.ENG_TEST_RESULT, Reg.BLK_STAT, Reg.ENG_STATE, Reg.ENG_TEST, Reg.SYS_STATE, ne_eq]; omega))) ?_ | with_reducible apply Block.modEng_st K | with_reducible refine Block.when_keep _ _ _ ?_ (fun _ => ?_) | with_reducible apply Block.raiseEvt_st K | with_reducible refine ite_keep ?_ ?_ | dsimp only | intro _)

theorem Block.engFailed_st (K : KeptBySt Q) (b : Block) (n : Nat) (hb : Q b.regs) : Q (Block.engFailed b n).regs := by
  unfold Block.engFailed
  repeat' (first | with_reducible assumption | with_reducible apply Block.modEng_st K | with_reducible refine Block.fset_st K _ _ _ (by first | decide | exact vsOk_notState _ | (left; simp only [F.BLK_STAT_FAULT, F.BLK_STAT_PARKED, F.ENG_STATE_STATE, F.ENG_TEST_RESULT, Reg.BLK_STAT, Reg.ENG_STATE, Reg.ENG_TEST, Reg.SCH_ENG_AVAIL, Reg.SYS_STATE, ne_eq]; omega) | (left; split <;> (simp only [F.BLK_STAT_FAULT, F.BLK_STAT_PARKED, F.ENG_STATE_STATE, F.ENG_TEST_RESULT, Reg.BLK_STAT, Reg.ENG_STATE, Reg.ENG_TEST, Reg.SCH_ENG_AVAIL, Reg.SYS_STATE, ne_eq]; omega))) ?_ | dsimp only | intro _)

theorem Block.engTested_st (K : KeptBySt Q) (b : Block) (n code : Nat) (hb : Q b.regs) : Q (Block.engTested b n code).regs := by
  unfold Block.engTested
  repeat' (first | with_reducible assumption | with_reducible refine Block.fset_st K _ _ _ (by first | decide | exact vsOk_notState _ | (left; simp only [F.ENG_TEST_FAIL_CODE, Reg.ENG_TEST, Reg.SYS_STATE, ne_eq]; omega) | (left; split <;> (simp only [F.ENG_TEST_FAIL_CODE, Reg.ENG_TEST, Reg.SYS_STATE, ne_eq]; omega))) ?_ | with_reducible apply Block.raiseEvt_st K | with_reducible apply Block.engPassed_st K | with_reducible apply Block.engFailed_st K | with_reducible refine ite_keep ?_ ?_ | dsimp only)

theorem Block.recWindow_st (K : KeptBySt Q) (b : Block) (hb : Q b.regs) : Q (Block.recWindow b).regs := by
  unfold Block.recWindow
  repeat' (first | with_reducible assumption | with_reducible refine Block.forAll_keep _ _ _ ?_ (fun _ _ _ => ?_) | with_reducible apply Block.recLost_st K | dsimp only | intro _)

theorem Block.admitDeferred_st (K : KeptBySt Q) (b : Block) (l : List Nat) (hb : Q b.regs) : Q (Block.admitDeferred b l).regs := by
  unfold Block.admitDeferred
  repeat' (first | with_reducible assumption | with_reducible refine Block.forAll_keep _ _ _ ?_ (fun _ _ _ => ?_) | with_reducible apply Block.setCtxState_st K | with_reducible apply Block.modCx_st K | dsimp only | intro _)

theorem Block.windowEnd_st (K : KeptBySt Q) (b : Block) (hb : Q b.regs) : Q (Block.windowEnd b).regs := by
  unfold Block.windowEnd
  repeat' (first | with_reducible assumption | with_reducible refine Block.forAll_keep _ _ _ ?_ (fun _ _ _ => ?_) | with_reducible refine Block.setRegN_st K _ _ _ (by first | decide | (simp only [F.PWR_WIN_CNT_COUNT, F.SCH_OCC_OCC, Reg.PWR_ENG_E, Reg.PWR_LEDGER, Reg.PWR_SOL_E, Reg.PWR_WIN_CNT, Reg.SCH_OCC, Reg.SCH_OCC_MAX, Reg.SYS_STATE, ne_eq]; omega) | (split <;> decide)) ?_ | with_reducible refine Block.incWrap_st K _ _ (by first | decide | exact vsOk_notState _ | (left; simp only [F.PWR_WIN_CNT_COUNT, F.SCH_OCC_OCC, Reg.PWR_ENG_E, Reg.PWR_LEDGER, Reg.PWR_SOL_E, Reg.PWR_WIN_CNT, Reg.SCH_OCC, Reg.SCH_OCC_MAX, Reg.SYS_STATE, ne_eq]; omega) | (left; split <;> (simp only [F.PWR_WIN_CNT_COUNT, F.SCH_OCC_OCC, Reg.PWR_ENG_E, Reg.PWR_LEDGER, Reg.PWR_SOL_E, Reg.PWR_WIN_CNT, Reg.SCH_OCC, Reg.SCH_OCC_MAX, Reg.SYS_STATE, ne_eq]; omega))) ?_ | with_reducible refine Block.fset_st K _ _ _ (by first | decide | exact vsOk_notState _ | (left; simp only [F.PWR_WIN_CNT_COUNT, F.SCH_OCC_OCC, Reg.PWR_ENG_E, Reg.PWR_LEDGER, Reg.PWR_SOL_E, Reg.PWR_WIN_CNT, Reg.SCH_OCC, Reg.SCH_OCC_MAX, Reg.SYS_STATE, ne_eq]; omega) | (left; split <;> (simp only [F.PWR_WIN_CNT_COUNT, F.SCH_OCC_OCC, Reg.PWR_ENG_E, Reg.PWR_LEDGER, Reg.PWR_SOL_E, Reg.PWR_WIN_CNT, Reg.SCH_OCC, Reg.SCH_OCC_MAX, Reg.SYS_STATE, ne_eq]; omega))) ?_ | with_reducible apply Block.recWindow_st K | with_reducible apply Block.redRefresh_st K | with_reducible apply Block.admitDeferred_st K | with_reducible apply Block.modCx_st K | with_reducible refine ite_keep ?_ ?_ | split | dsimp only | with_reducible refine pair_keep (by with_reducible assumption) ?_ | with_reducible refine pair_keep' (by with_reducible assumption) ?_ | intro _)

theorem Block.thermalCtxs_st (K : KeptBySt Q) (b : Block) (hb : Q b.regs) : Q (Block.thermalCtxs b).regs := by
  unfold Block.thermalCtxs
  repeat' (first | with_reducible assumption | with_reducible refine Block.forAll_keep _ _ _ ?_ (fun _ _ _ => ?_) | with_reducible apply Block.setCtxState_st K | with_reducible apply Block.handOver_st K | with_reducible apply Block.copyWaiting_st K | with_reducible apply Block.admitDeferred_st K | with_reducible refine ite_keep ?_ ?_ | dsimp only | intro _)

theorem Block.setPos_st (K : KeptBySt Q) (b : Block) (abs1 : Bool) (p : Int) (hb : Q b.regs) : Q (Block.setPos b abs1 p).regs := by
  cases abs1 <;> exact Block.setPair_st K _ _ _ (by decide) (by decide) hb

theorem Block.flagCycles_st (K : KeptBySt Q) (b : Block) (abs1 step : Bool) (hb : Q b.regs) : Q (Block.flagCycles b abs1 step).regs := by
  unfold Block.flagCycles
  repeat' (first | with_reducible assumption | with_reducible refine Block.forAll_keep _ _ _ ?_ (fun _ _ _ => ?_) | with_reducible apply Block.modCx_st K | with_reducible refine ite_keep ?_ ?_ | dsimp only | intro _)

theorem Block.raiseHighest_st (K : KeptBySt Q) (b : Block) (hb : Q b.regs) : Q (Block.raiseHighest b).regs := keep_tm _ hb

theorem Block.absCompare_st (K : KeptBySt Q) (b : Block) (n : Nat) (hb : Q b.regs) : Q (Block.absCompare b n).regs := by
  unfold Block.absCompare
  repeat' (first | with_reducible assumption | with_reducible refine Block.fset_st K _ _ _ (by first | decide | exact vsOk_notState _ | (left; simp only [F.ABS_CMP_CTL_EN, Reg.ABS_CMP_CTL, Reg.SYS_STATE, ne_eq]; omega) | (left; split <;> (simp only [F.ABS_CMP_CTL_EN, Reg.ABS_CMP_CTL, Reg.SYS_STATE, ne_eq]; omega))) ?_ | with_reducible apply Block.raiseEvt_st K | dsimp only)

theorem Block.triggerPassed_st (K : KeptBySt Q) (b : Block) (c n : Nat) (hb : Q b.regs) : Q (Block.triggerPassed b c n).regs := by
  induction n generalizing b with
  | zero => exact hb
  | succ n ih =>
    unfold Block.triggerPassed
    exact ite_keep (ih _ (Block.trigger_st K _ _ hb)) hb

theorem Block.fireCrossed_st (K : KeptBySt Q) (b : Block) (abs1 : Bool) (hb : Q b.regs) : Q (Block.fireCrossed b abs1).regs := by
  unfold Block.fireCrossed
  repeat' (first | with_reducible assumption | with_reducible refine Block.forAll_keep _ _ _ ?_ (fun _ _ _ => ?_) | with_reducible apply Block.absCompare_st K | with_reducible refine Block.when_keep _ _ _ ?_ (fun _ => ?_) | with_reducible apply Block.triggerPassed_st K | with_reducible apply Block.solCrossed_st K | with_reducible refine ite_keep ?_ ?_ | dsimp only | intro _)

theorem Block.aheadBy_st (K : KeptBySt Q) (b : Block) (n : Nat) (hb : Q b.regs) : Q (Block.aheadBy b n).regs := by
  unfold Block.aheadBy
  repeat' (first | with_reducible assumption | dsimp only)

theorem Block.realign_st (K : KeptBySt Q) (b : Block) (abs1 : Bool) (e lim : Int) (hb : Q b.regs) : Q (Block.realign b abs1 e lim).regs := by
  unfold Block.realign
  repeat' (first | with_reducible assumption | with_reducible apply Block.aheadBy_st K | with_reducible refine Block.fset_st K _ _ _ (by first | decide | exact vsOk_notState _ | (left; simp only [F.ABS0_STAT_HOLDING, F.ABS0_STAT_RELOCK_CNT, F.ABS1_STAT_HOLDING, Reg.ABS0_FREQ, Reg.ABS0_LAST_STEP, Reg.ABS0_STAT, Reg.ABS1_POS_HI, Reg.ABS1_POS_LO, Reg.ABS1_STAT, Reg.SYS_STATE, ne_eq]; omega) | (left; split <;> (simp only [F.ABS0_STAT_HOLDING, F.ABS0_STAT_RELOCK_CNT, F.ABS1_STAT_HOLDING, Reg.ABS0_FREQ, Reg.ABS0_LAST_STEP, Reg.ABS0_STAT, Reg.ABS1_POS_HI, Reg.ABS1_POS_LO, Reg.ABS1_STAT, Reg.SYS_STATE, ne_eq]; omega))) ?_ | with_reducible apply Block.setPos_st K | with_reducible refine Block.when_keep _ _ _ ?_ (fun _ => ?_) | with_reducible apply Block.flagCycles_st K | with_reducible apply Block.raiseHighest_st K | with_reducible apply Block.fireCrossed_st K | with_reducible apply Block.recRegs_st K | with_reducible refine Block.incSat_st K _ _ (by first | decide | exact vsOk_notState _ | (left; simp only [F.ABS0_STAT_HOLDING, F.ABS0_STAT_RELOCK_CNT, F.ABS1_STAT_HOLDING, Reg.ABS0_FREQ, Reg.ABS0_LAST_STEP, Reg.ABS0_STAT, Reg.ABS1_POS_HI, Reg.ABS1_POS_LO, Reg.ABS1_STAT, Reg.SYS_STATE, ne_eq]; omega) | (left; split <;> (simp only [F.ABS0_STAT_HOLDING, F.ABS0_STAT_RELOCK_CNT, F.ABS1_STAT_HOLDING, Reg.ABS0_FREQ, Reg.ABS0_LAST_STEP, Reg.ABS0_STAT, Reg.ABS1_POS_HI, Reg.ABS1_POS_LO, Reg.ABS1_STAT, Reg.SYS_STATE, ne_eq]; omega))) ?_ | with_reducible refine Block.setRegI_st K _ _ _ (by first | decide | (simp only [F.ABS0_STAT_HOLDING, F.ABS0_STAT_RELOCK_CNT, F.ABS1_STAT_HOLDING, Reg.ABS0_FREQ, Reg.ABS0_LAST_STEP, Reg.ABS0_STAT, Reg.ABS1_POS_HI, Reg.ABS1_POS_LO, Reg.ABS1_STAT, Reg.SYS_STATE, ne_eq]; omega) | (split <;> decide)) ?_ | with_reducible apply Block.event_st K | with_reducible refine ite_keep ?_ ?_ | dsimp only | intro _)

theorem Block.absEnter_st (K : KeptBySt Q) (b : Block) (st : Nat) (hb : Q b.regs) : Q (Block.absEnter b st).regs := by
  unfold Block.absEnter
  repeat' (first | with_reducible assumption | with_reducible refine Block.fset_st K _ _ _ (by first | decide | exact vsOk_notState _ | (left; simp only [F.ABS0_STAT_STATE, Reg.ABS0_FREQ, Reg.ABS0_STAT, Reg.SYS_STATE, ne_eq]; omega) | (left; split <;> (simp only [F.ABS0_STAT_STATE, Reg.ABS0_FREQ, Reg.ABS0_STAT, Reg.SYS_STATE, ne_eq]; omega))) ?_ | with_reducible refine Block.when_keep _ _ _ ?_ (fun _ => ?_) | with_reducible apply Block.raiseEvt_st K | with_reducible apply Block.recRegs_st K | with_reducible refine ite_keep ?_ ?_ | dsimp only | intro _)

theorem Block.absSeek_st (K : KeptBySt Q) (b : Block) (hb : Q b.regs) : Q (Block.absSeek b).regs := by
  unfold Block.absSeek
  repeat' (first | with_reducible assumption | with_reducible apply Block.absEnter_st K | with_reducible refine ite_keep ?_ ?_ | split | dsimp only | with_reducible refine pair_keep (by with_reducible assumption) ?_ | with_reducible refine pair_keep' (by with_reducible assumption) ?_ | intro _)

theorem Block.absHold_st (K : KeptBySt Q) (b : Block) (vs : Nat) (hb : Q b.regs) : Q (Block.absHold b vs).regs := by
  unfold Block.absHold
  repeat' (first | with_reducible assumption | with_reducible refine Block.when_keep _ _ _ ?_ (fun _ => ?_) | with_reducible refine Block.setRegN_st K _ _ _ (by first | decide | (simp only [F.ABS0_STAT_HOLDING, F.ABS0_STAT_HO_PHASE, Reg.ABS0_FREQ, Reg.ABS0_STAT, Reg.SYS_STATE, ne_eq]; omega) | (split <;> decide)) ?_ | with_reducible refine Block.fset_st K _ _ _ (by first | decide | exact vsOk_notState _ | (left; simp only [F.ABS0_STAT_HOLDING, F.ABS0_STAT_HO_PHASE, Reg.ABS0_FREQ, Reg.ABS0_STAT, Reg.SYS_STATE, ne_eq]; omega) | (left; split <;> (simp only [F.ABS0_STAT_HOLDING, F.ABS0_STAT_HO_PHASE, Reg.ABS0_FREQ, Reg.ABS0_STAT, Reg.SYS_STATE, ne_eq]; omega))) ?_ | with_reducible apply Block.absEnter_st K | dsimp only | intro _)

theorem Block.vsCompare_st (K : KeptBySt Q) (b : Block) (vs other : Nat) (hb : Q b.regs) : Q (Block.vsCompare b vs other).regs := by
  unfold Block.vsCompare
  repeat' (first | with_reducible assumption | with_reducible refine Block.setRegI_st K _ _ _ (by first | decide | (simp only [F.ABS0_STAT_VS1_OK, F.ABS0_STAT_VS2_OK, Reg.ABS0_OFS, Reg.ABS0_STAT, Reg.ABS_VS_DFREQ, Reg.ABS_VS_DPHASE, Reg.SYS_STATE, ne_eq]; omega) | (split <;> decide)) ?_ | with_reducible refine Block.setRegN_st K _ _ _ (by first | decide | (simp only [F.ABS0_STAT_VS1_OK, F.ABS0_STAT_VS2_OK, Reg.ABS0_OFS, Reg.ABS0_STAT, Reg.ABS_VS_DFREQ, Reg.ABS_VS_DPHASE, Reg.SYS_STATE, ne_eq]; omega) | (split <;> decide)) ?_ | with_reducible refine ite_keep ?_ ?_ | dsimp only)

theorem Block.absLock_st (K : KeptBySt Q) (b : Block) (v angle : Nat) (hb : Q b.regs) : Q (Block.absLock b v angle).regs := by
  unfold Block.absLock
  repeat' (first | with_reducible assumption | with_reducible refine Block.fset_st K _ _ _ (by first | decide | exact vsOk_notState _ | (left; simp only [F.ABS0_STAT_HO_PHASE, F.ABS0_STAT_IN_USE, Reg.ABS0_FREQ, Reg.ABS0_OFS, Reg.ABS0_STAT, Reg.SYS_STATE, ne_eq]; omega) | (left; split <;> (simp only [F.ABS0_STAT_HO_PHASE, F.ABS0_STAT_IN_USE, Reg.ABS0_FREQ, Reg.ABS0_OFS, Reg.ABS0_STAT, Reg.SYS_STATE, ne_eq]; omega))) ?_ | with_reducible refine Block.setRegN_st K _ _ _ (by first | decide | (simp only [F.ABS0_STAT_HO_PHASE, F.ABS0_STAT_IN_USE, Reg.ABS0_FREQ, Reg.ABS0_OFS, Reg.ABS0_STAT, Reg.SYS_STATE, ne_eq]; omega) | (split <;> decide)) ?_ | with_reducible apply Block.realign_st K | dsimp only)

theorem Block.absCfgWritten_st (K : KeptBySt Q) (b : Block) (hb : Q b.regs) : Q (Block.absCfgWritten b).regs := by
  unfold Block.absCfgWritten
  repeat' (first | with_reducible assumption | with_reducible apply Block.aheadBy_st K | with_reducible refine Block.fset_st K _ _ _ (by first | decide | exact vsOk_notState _ | (left; simp only [F.ABS0_CFG_SRC, F.ABS0_STAT_HOLDING, F.ABS0_STAT_IN_USE, Reg.ABS0_CFG, Reg.ABS0_FREQ, Reg.ABS0_STAT, Reg.SYS_STATE, ne_eq]; omega) | (left; split <;> (simp only [F.ABS0_CFG_SRC, F.ABS0_STAT_HOLDING, F.ABS0_STAT_IN_USE, Reg.ABS0_CFG, Reg.ABS0_FREQ, Reg.ABS0_STAT, Reg.SYS_STATE, ne_eq]; omega))) ?_ | with_reducible refine Block.setRegN_st K _ _ _ (by first | decide | (simp only [F.ABS0_CFG_SRC, F.ABS0_STAT_HOLDING, F.ABS0_STAT_IN_USE, Reg.ABS0_CFG, Reg.ABS0_FREQ, Reg.ABS0_STAT, Reg.SYS_STATE, ne_eq]; omega) | (split <;> decide)) ?_ | with_reducible apply Block.absEnter_st K | with_reducible refine Block.when_keep _ _ _ ?_ (fun _ => ?_) | with_reducible apply Block.absHold_st K | with_reducible apply Block.absSeek_st K | with_reducible refine ite_keep ?_ ?_ | dsimp only | intro _)

theorem Block.shaftFollow_st (K : KeptBySt Q) (b : Block) (p : Int) (hb : Q b.regs) : Q (Block.shaftFollow b p).regs := by
  unfold Block.shaftFollow
  repeat' (first | with_reducible assumption | with_reducible apply Block.setPos_st K | with_reducible refine ite_keep ?_ ?_ | dsimp only)

theorem Block.shaftEnter_st (K : KeptBySt Q) (b : Block) (st : Nat) (hb : Q b.regs) : Q (Block.shaftEnter b st).regs := by
  unfold Block.shaftEnter
  repeat' (first | with_reducible assumption | with_reducible refine Block.fset_st K _ _ _ (by first | decide | exact vsOk_notState _ | (left; simp only [F.ABS1_STAT_STATE, Reg.ABS1_SPEED, Reg.ABS1_STAT, Reg.SYS_STATE, ne_eq]; omega) | (left; split <;> (simp only [F.ABS1_STAT_STATE, Reg.ABS1_SPEED, Reg.ABS1_STAT, Reg.SYS_STATE, ne_eq]; omega))) ?_ | with_reducible apply Block.event_st K | with_reducible refine ite_keep ?_ ?_ | dsimp only)

theorem Block.syncLost_st (K : KeptBySt Q) (b : Block) (hb : Q b.regs) : Q (Block.syncLost b).regs := by
  unfold Block.syncLost
  repeat' (first | with_reducible assumption | with_reducible apply Block.shaftEnter_st K | with_reducible refine ite_keep ?_ ?_ | dsimp only)

theorem Block.aimShaft_st (K : KeptBySt Q) (b : Block) (hb : Q b.regs) : Q (Block.aimShaft b).regs := by
  unfold Block.aimShaft
  repeat' (first | with_reducible assumption | with_reducible refine Block.forAll_keep _ _ _ ?_ (fun _ _ _ => ?_) | with_reducible apply Block.modCx_st K | dsimp only | intro _)

theorem Block.indexFirst_st (K : KeptBySt Q) (b : Block) (ofs : Nat) (hb : Q b.regs) : Q (Block.indexFirst b ofs).regs := by
  unfold Block.indexFirst
  repeat' (first | with_reducible assumption | with_reducible refine Block.fset_st K _ _ _ (by first | decide | exact vsOk_notState _ | (left; simp only [F.ABS1_STAT_HOLDING, Reg.ABS1_STAT, Reg.SYS_STATE, ne_eq]; omega) | (left; split <;> (simp only [F.ABS1_STAT_HOLDING, Reg.ABS1_STAT, Reg.SYS_STATE, ne_eq]; omega))) ?_ | with_reducible apply Block.setPos_st K | with_reducible apply Block.aimShaft_st K | dsimp only)

theorem Block.indexAlign_st (K : KeptBySt Q) (b : Block) (e : Int) (hb : Q b.regs) : Q (Block.indexAlign b e).regs := by
  unfold Block.indexAlign
  repeat' (first | with_reducible assumption | with_reducible refine Block.incSat_st K _ _ (by first | decide | exact vsOk_notState _ | (left; simp only [F.ABS1_IDX_ERR_CNT_COUNT, F.ABS1_STAT_HOLDING, Reg.ABS1_IDX_ERR_CNT, Reg.ABS1_STAT, Reg.SYS_STATE, ne_eq]; omega) | (left; split <;> (simp only [F.ABS1_IDX_ERR_CNT_COUNT, F.ABS1_STAT_HOLDING, Reg.ABS1_IDX_ERR_CNT, Reg.ABS1_STAT, Reg.SYS_STATE, ne_eq]; omega))) ?_ | with_reducible apply Block.realign_st K | with_reducible refine Block.when_keep _ _ _ ?_ (fun _ => ?_) | with_reducible refine Block.fset_st K _ _ _ (by first | decide | exact vsOk_notState _ | (left; simp only [F.ABS1_IDX_ERR_CNT_COUNT, F.ABS1_STAT_HOLDING, Reg.ABS1_IDX_ERR_CNT, Reg.ABS1_STAT, Reg.SYS_STATE, ne_eq]; omega) | (left; split <;> (simp only [F.ABS1_IDX_ERR_CNT_COUNT, F.ABS1_STAT_HOLDING, Reg.ABS1_IDX_ERR_CNT, Reg.ABS1_STAT, Reg.SYS_STATE, ne_eq]; omega))) ?_ | dsimp only | intro _)

theorem Block.goodIndices_st (K : KeptBySt Q) (b : Block) (n : Nat) (hb : Q b.regs) : Q (Block.goodIndices b n).regs := by
  unfold Block.goodIndices
  repeat' (first | with_reducible assumption | dsimp only)

theorem Block.indexJudge_st (K : KeptBySt Q) (b : Block) (counts good : Nat) (hb : Q b.regs) : Q (Block.indexJudge b counts good).regs := by
  unfold Block.indexJudge
  repeat' (first | with_reducible assumption | with_reducible apply Block.syncLost_st K | with_reducible apply Block.goodIndices_st K | with_reducible refine Block.when_keep _ _ _ ?_ (fun _ => ?_) | with_reducible apply Block.shaftEnter_st K | with_reducible refine ite_keep ?_ ?_ | dsimp only | intro _)

theorem Block.indexNext_st (K : KeptBySt Q) (b : Block) (here err : Int) (hb : Q b.regs) : Q (Block.indexNext b here err).regs := by
  unfold Block.indexNext
  repeat' (first | with_reducible assumption | with_reducible refine Block.when_keep _ _ _ ?_ (fun _ => ?_) | with_reducible apply Block.indexAlign_st K | with_reducible apply Block.indexJudge_st K | with_reducible apply Block.goodIndices_st K | dsimp only | intro _)

theorem Block.shaftCfgWritten_st (K : KeptBySt Q) (b : Block) (old : Nat) (hb : Q b.regs) : Q (Block.shaftCfgWritten b old).regs := by
  unfold Block.shaftCfgWritten
  repeat' (first | with_reducible assumption | with_reducible refine Block.setRegN_st K _ _ _ (by first | decide | (simp only [F.ABS1_STAT_STATE, Reg.ABS1_SPEED, Reg.ABS1_STAT, Reg.SYS_STATE, ne_eq]; omega) | (split <;> decide)) ?_ | with_reducible refine Block.fset_st K _ _ _ (by first | decide | exact vsOk_notState _ | (left; simp only [F.ABS1_STAT_STATE, Reg.ABS1_SPEED, Reg.ABS1_STAT, Reg.SYS_STATE, ne_eq]; omega) | (left; split <;> (simp only [F.ABS1_STAT_STATE, Reg.ABS1_SPEED, Reg.ABS1_STAT, Reg.SYS_STATE, ne_eq]; omega))) ?_ | with_reducible apply Block.recRegs_st K | with_reducible refine ite_keep ?_ ?_ | dsimp only)

theorem Block.tsuMark_st (K : KeptBySt Q) (b : Block) (cause : Nat) (hb : Q b.regs) : Q (Block.tsuMark b cause).regs := by
  unfold Block.tsuMark
  repeat' (first | with_reducible assumption | with_reducible apply Block.timeMark_st K | with_reducible refine ite_keep ?_ ?_ | dsimp only)

theorem Block.tsuStep_st (K : KeptBySt Q) (b : Block) (d : Int) (cause : Nat) (hb : Q b.regs) : Q (Block.tsuStep b d cause).regs := by
  unfold Block.tsuStep
  repeat' (first | with_reducible assumption | with_reducible apply Block.windowEnd_st K | with_reducible apply Block.setNow_st K | with_reducible refine Block.fset_st K _ _ _ (by first | decide | exact vsOk_notState _ | (left; simp only [F.TSU_CMP_CTL_EN, F.TSU_STAT_SLEWING, Reg.SYS_STATE, Reg.TSU_CMP_CTL, Reg.TSU_CMP_HI, Reg.TSU_CMP_LO, Reg.TSU_OFFSET, Reg.TSU_STAT, ne_eq]; omega) | (left; split <;> (simp only [F.TSU_CMP_CTL_EN, F.TSU_STAT_SLEWING, Reg.SYS_STATE, Reg.TSU_CMP_CTL, Reg.TSU_CMP_HI, Reg.TSU_CMP_LO, Reg.TSU_OFFSET, Reg.TSU_STAT, ne_eq]; omega))) ?_ | with_reducible refine Block.forAll_keep _ _ _ ?_ (fun _ _ _ => ?_) | with_reducible refine Block.setRegN_st K _ _ _ (by first | decide | (simp only [F.TSU_CMP_CTL_EN, F.TSU_STAT_SLEWING, Reg.SYS_STATE, Reg.TSU_CMP_CTL, Reg.TSU_CMP_HI, Reg.TSU_CMP_LO, Reg.TSU_OFFSET, Reg.TSU_STAT, ne_eq]; omega) | (split <;> decide)) ?_ | with_reducible apply Block.solStepTime_st K | with_reducible apply Block.raiseEvt_st K | with_reducible refine Block.when_keep _ _ _ ?_ (fun _ => ?_) | with_reducible apply Block.tsuEnter_st K | with_reducible apply Block.recRegs_st K | with_reducible apply Block.tsuMark_st K | with_reducible refine ite_keep ?_ ?_ | dsimp only | intro _)

theorem Block.subStep_st (K : KeptBySt Q) (b : Block) (part : Int) (hb : Q b.regs) : Q (Block.subStep b part).regs := by
  unfold Block.subStep
  repeat' (first | with_reducible assumption | dsimp only)

theorem Block.tsuCorrect_st (K : KeptBySt Q) (b : Block) (offset : Int) (cause : Nat) (hb : Q b.regs) : Q (Block.tsuCorrect b offset cause).regs := by
  unfold Block.tsuCorrect
  repeat' (first | with_reducible assumption | with_reducible apply Block.tsuStep_st K | with_reducible apply Block.subStep_st K | with_reducible refine Block.fsetB_st K _ _ _ (by first | decide | exact vsOk_notState _ | (left; simp only [F.TSU_CFG_STEP_LIM, F.TSU_CFG_STEP_RUN, F.TSU_STAT_SLEWING, Reg.SYS_STATE, Reg.TSU_CFG, Reg.TSU_STAT, ne_eq]; omega) | (left; split <;> (simp only [F.TSU_CFG_STEP_LIM, F.TSU_CFG_STEP_RUN, F.TSU_STAT_SLEWING, Reg.SYS_STATE, Reg.TSU_CFG, Reg.TSU_STAT, ne_eq]; omega))) ?_ | with_reducible refine ite_keep ?_ ?_ | dsimp only)

theorem Block.tsuUpdate_st (K : KeptBySt Q) (b : Block) (src : TimeSource) (offset rate : Int) (hb : Q b.regs) : Q (Block.tsuUpdate b src offset rate).regs := by
  unfold Block.tsuUpdate
  repeat' (first | with_reducible assumption | with_reducible apply Block.setAvailSrc_st K | with_reducible apply Block.setSrc_st K | with_reducible refine Block.when_keep _ _ _ ?_ (fun _ => ?_) | with_reducible apply Block.tsuEnter_st K | with_reducible refine Block.setRegI_st K _ _ _ (by first | decide | (simp only [Reg.SYS_STATE, Reg.TSU_OFFSET, Reg.TSU_RATE, ne_eq]; omega) | (split <;> decide)) ?_ | with_reducible apply Block.tsuCorrect_st K | with_reducible refine ite_keep ?_ ?_ | dsimp only | intro _)

theorem Block.tsuCfgWritten_st (K : KeptBySt Q) (b : Block) (hb : Q b.regs) : Q (Block.tsuCfgWritten b).regs := by
  unfold Block.tsuCfgWritten
  repeat' (first | with_reducible assumption | with_reducible refine Block.fset_st K _ _ _ (by first | decide | exact vsOk_notState _ | (left; simp only [F.TSU_CFG_SRC, F.TSU_STAT_SLEWING, F.TSU_STAT_SRC_ACT, Reg.SYS_STATE, Reg.TSU_CFG, Reg.TSU_RATE, Reg.TSU_STAT, Reg.TSU_TRIM, ne_eq]; omega) | (left; split <;> (simp only [F.TSU_CFG_SRC, F.TSU_STAT_SLEWING, F.TSU_STAT_SRC_ACT, Reg.SYS_STATE, Reg.TSU_CFG, Reg.TSU_RATE, Reg.TSU_STAT, Reg.TSU_TRIM, ne_eq]; omega))) ?_ | with_reducible refine Block.setRegN_st K _ _ _ (by first | decide | (simp only [F.TSU_CFG_SRC, F.TSU_STAT_SLEWING, F.TSU_STAT_SRC_ACT, Reg.SYS_STATE, Reg.TSU_CFG, Reg.TSU_RATE, Reg.TSU_STAT, Reg.TSU_TRIM, ne_eq]; omega) | (split <;> decide)) ?_ | with_reducible apply Block.setSrc_st K | with_reducible apply Block.tsuEnter_st K | with_reducible apply Block.tsuHold_st K | with_reducible refine ite_keep ?_ ?_ | dsimp only)

theorem Block.lockedSecond_st (K : KeptBySt Q) (b : Block) (hb : Q b.regs) : Q (Block.lockedSecond b).regs := by
  unfold Block.lockedSecond
  repeat' (first | with_reducible assumption | dsimp only)

theorem Block.fracCarry_st (K : KeptBySt Q) (b : Block) (hb : Q b.regs) : Q (Block.fracCarry b).regs := keep_tm _ hb

theorem Block.frameTick_st (K : KeptBySt Q) (b : Block) (before : Nat) (hb : Q b.regs) : Q (Block.frameTick b before).regs := by
  unfold Block.frameTick
  repeat' (first | with_reducible assumption | with_reducible refine Block.when_keep _ _ _ ?_ (fun _ => ?_) | with_reducible refine Block.incWrap_st K _ _ (by first | decide | exact vsOk_notState _ | (left; simp only [F.CHG_TP_FRAMES, F.CHG_TP_SLOT, Reg.CHG_TP, Reg.SYS_STATE, ne_eq]; omega) | (left; split <;> (simp only [F.CHG_TP_FRAMES, F.CHG_TP_SLOT, Reg.CHG_TP, Reg.SYS_STATE, ne_eq]; omega))) ?_ | with_reducible refine Block.fset_st K _ _ _ (by first | decide | exact vsOk_notState _ | (left; simp only [F.CHG_TP_FRAMES, F.CHG_TP_SLOT, Reg.CHG_TP, Reg.SYS_STATE, ne_eq]; omega) | (left; split <;> (simp only [F.CHG_TP_FRAMES, F.CHG_TP_SLOT, Reg.CHG_TP, Reg.SYS_STATE, ne_eq]; omega))) ?_ | dsimp only | intro _)

theorem Block.capture_st (K : KeptBySt Q) (b : Block) (k : Nat) (sub : Bool) (hb : Q b.regs) : Q (Block.capture b k sub).regs := by
  unfold Block.capture
  repeat' (first | with_reducible assumption | with_reducible refine Block.fsetB_st K _ _ _ (by first | decide | exact vsOk_notState _ | (left; simp only [F.TSU_CAP_CFG_NEW, F.TSU_CAP_CFG_OVR, F.TSU_CAP_FRAC_FRAC, Reg.SYS_STATE, Reg.TSU_CAP_CFG, Reg.TSU_CAP_FRAC, Reg.TSU_CAP_HI, Reg.TSU_CAP_LO, ne_eq]; omega) | (left; split <;> (simp only [F.TSU_CAP_CFG_NEW, F.TSU_CAP_CFG_OVR, F.TSU_CAP_FRAC_FRAC, Reg.SYS_STATE, Reg.TSU_CAP_CFG, Reg.TSU_CAP_FRAC, Reg.TSU_CAP_HI, Reg.TSU_CAP_LO, ne_eq]; omega))) ?_ | with_reducible refine Block.fset_st K _ _ _ (by first | decide | exact vsOk_notState _ | (left; simp only [F.TSU_CAP_CFG_NEW, F.TSU_CAP_CFG_OVR, F.TSU_CAP_FRAC_FRAC, Reg.SYS_STATE, Reg.TSU_CAP_CFG, Reg.TSU_CAP_FRAC, Reg.TSU_CAP_HI, Reg.TSU_CAP_LO, ne_eq]; omega) | (left; split <;> (simp only [F.TSU_CAP_CFG_NEW, F.TSU_CAP_CFG_OVR, F.TSU_CAP_FRAC_FRAC, Reg.SYS_STATE, Reg.TSU_CAP_CFG, Reg.TSU_CAP_FRAC, Reg.TSU_CAP_HI, Reg.TSU_CAP_LO, ne_eq]; omega))) ?_ | with_reducible refine Block.stamp_st K _ _ _ (by first | decide | (simp only [F.TSU_CAP_CFG_NEW, F.TSU_CAP_CFG_OVR, F.TSU_CAP_FRAC_FRAC, Reg.SYS_STATE, Reg.TSU_CAP_CFG, Reg.TSU_CAP_FRAC, Reg.TSU_CAP_HI, Reg.TSU_CAP_LO, ne_eq]; omega) | (split <;> decide)) (by first | decide | (simp only [F.TSU_CAP_CFG_NEW, F.TSU_CAP_CFG_OVR, F.TSU_CAP_FRAC_FRAC, Reg.SYS_STATE, Reg.TSU_CAP_CFG, Reg.TSU_CAP_FRAC, Reg.TSU_CAP_HI, Reg.TSU_CAP_LO, ne_eq]; omega) | (split <;> decide)) ?_ | with_reducible apply Block.raiseEvt_st K | with_reducible refine ite_keep ?_ ?_ | dsimp only)

theorem Block.tsuDone_st (K : KeptBySt Q) (b : Block) (code : Nat) (hb : Q b.regs) : Q (Block.tsuDone b code).regs := by
  unfold Block.tsuDone
  repeat' (first | with_reducible assumption | with_reducible refine Block.fset_st K _ _ _ (by first | decide | exact vsOk_notState _ | (left; simp only [F.TSU_STAT_CMD_BUSY, F.TSU_STAT_CMD_RES, Reg.SYS_STATE, Reg.TSU_STAT, ne_eq]; omega) | (left; split <;> (simp only [F.TSU_STAT_CMD_BUSY, F.TSU_STAT_CMD_RES, Reg.SYS_STATE, Reg.TSU_STAT, ne_eq]; omega))) ?_ | with_reducible apply Block.raiseEvt_st K | dsimp only)

theorem Block.ppsSet_st (K : KeptBySt Q) (b : Block) (hb : Q b.regs) : Q (Block.ppsSet b).regs := by
  unfold Block.ppsSet
  repeat' (first | with_reducible assumption | with_reducible apply Block.tsuMark_st K | with_reducible apply Block.tsuStep_st K | with_reducible refine Block.fset_st K _ _ _ (by first | decide | exact vsOk_notState _ | (left; simp only [F.TSU_STAT_TIME_VALID, Reg.SYS_STATE, Reg.TSU_SET_HI, Reg.TSU_STAT, ne_eq]; omega) | (left; split <;> (simp only [F.TSU_STAT_TIME_VALID, Reg.SYS_STATE, Reg.TSU_SET_HI, Reg.TSU_STAT, ne_eq]; omega))) ?_ | with_reducible apply Block.tsuDone_st K | with_reducible refine ite_keep ?_ ?_ | dsimp only)

theorem Block.tsuCommand_st (K : KeptBySt Q) (b : Block) (cmd : Nat) (hb : Q b.regs) : Q (Block.tsuCommand b cmd).regs := by
  unfold Block.tsuCommand
  repeat' (first | with_reducible assumption | with_reducible refine Block.fset_st K _ _ _ (by first | decide | exact vsOk_notState _ | (left; simp only [F.TSU_CMD_CMD, F.TSU_STAT_CMD_BUSY, F.TSU_STAT_CMD_RES, F.TSU_STAT_SLEWING, F.TSU_STAT_TIME_VALID, Reg.SYS_STATE, Reg.TSU_ADJ, Reg.TSU_CMD, Reg.TSU_EPOCH, Reg.TSU_SET_HI, Reg.TSU_SET_LO, Reg.TSU_STAT, ne_eq]; omega) | (left; split <;> (simp only [F.TSU_CMD_CMD, F.TSU_STAT_CMD_BUSY, F.TSU_STAT_CMD_RES, F.TSU_STAT_SLEWING, F.TSU_STAT_TIME_VALID, Reg.SYS_STATE, Reg.TSU_ADJ, Reg.TSU_CMD, Reg.TSU_EPOCH, Reg.TSU_SET_HI, Reg.TSU_SET_LO, Reg.TSU_STAT, ne_eq]; omega))) ?_ | with_reducible apply Block.tsuDone_st K | with_reducible apply Block.tsuStep_st K | with_reducible apply Block.tsuCorrect_st K | with_reducible refine ite_keep ?_ ?_ | dsimp only)

theorem Block.tsuCmdWrite_st (K : KeptBySt Q) (b : Block) (r : Requester) (v : Nat) (hb : Q b.regs) : Q (Block.tsuCmdWrite b r v).regs := by
  unfold Block.tsuCmdWrite
  repeat' (first | with_reducible assumption | with_reducible apply Block.cmdWrite_st K | with_reducible apply Block.tsuCommand_st K | dsimp only | intro _)

theorem Block.setRtc_st (K : KeptBySt Q) (b : Block) (sec subsec : Nat) (hb : Q b.regs) : Q (Block.setRtc b sec subsec).regs := by
  unfold Block.setRtc
  repeat' (first | with_reducible assumption | with_reducible refine Block.setRegN_st K _ _ _ (by first | decide | (simp only [Reg.RTC_EPOCH, Reg.RTC_TIME_HI, Reg.RTC_TIME_LO, Reg.SYS_STATE, ne_eq]; omega) | (split <;> decide)) ?_ | dsimp only)

theorem Block.hourLocked_st (K : KeptBySt Q) (b : Block) (hb : Q b.regs) : Q (Block.hourLocked b).regs := by
  unfold Block.hourLocked
  repeat' (first | with_reducible assumption | with_reducible refine Block.setRegI_st K _ _ _ (by first | decide | (simp only [F.RTC_STAT_VALID, Reg.RTC_DRIFT, Reg.RTC_STAT, Reg.SYS_STATE, Reg.TSU_TRIM, ne_eq]; omega) | (split <;> decide)) ?_ | with_reducible apply Block.setRtc_st K | with_reducible refine Block.fset_st K _ _ _ (by first | decide | exact vsOk_notState _ | (left; simp only [F.RTC_STAT_VALID, Reg.RTC_DRIFT, Reg.RTC_STAT, Reg.SYS_STATE, Reg.TSU_TRIM, ne_eq]; omega) | (left; split <;> (simp only [F.RTC_STAT_VALID, Reg.RTC_DRIFT, Reg.RTC_STAT, Reg.SYS_STATE, Reg.TSU_TRIM, ne_eq]; omega))) ?_ | with_reducible refine Block.when_keep _ _ _ ?_ (fun _ => ?_) | with_reducible apply Block.celRequest_st K | with_reducible apply Block.raiseEvt_st K | dsimp only | intro _)

theorem Block.hourAnew_st (K : KeptBySt Q) (b : Block) (hb : Q b.regs) : Q (Block.hourAnew b).regs := by
  unfold Block.hourAnew
  repeat' (first | with_reducible assumption | dsimp only)

theorem Block.hourMark_st (K : KeptBySt Q) (b : Block) (hb : Q b.regs) : Q (Block.hourMark b).regs := by
  unfold Block.hourMark
  repeat' (first | with_reducible assumption | with_reducible apply Block.tsuMark_st K | with_reducible refine Block.when_keep _ _ _ ?_ (fun _ => ?_) | with_reducible apply Block.hourLocked_st K | with_reducible apply Block.hourAnew_st K | dsimp only)

theorem Block.rtcCommand_st (K : KeptBySt Q) (b : Block) (v : Nat) (hb : Q b.regs) : Q (Block.rtcCommand b v).regs := by
  unfold Block.rtcCommand
  repeat' (first | with_reducible assumption | with_reducible refine Block.fset_st K _ _ _ (by first | decide | exact vsOk_notState _ | (left; simp only [F.RTC_CMD_SET, F.RTC_STAT_CMD_RES, F.RTC_STAT_VALID, Reg.RTC_CMD, Reg.RTC_EPOCH, Reg.RTC_SET_HI, Reg.RTC_SET_LO, Reg.RTC_STAT, Reg.SYS_STATE, ne_eq]; omega) | (left; split <;> (simp only [F.RTC_CMD_SET, F.RTC_STAT_CMD_RES, F.RTC_STAT_VALID, Reg.RTC_CMD, Reg.RTC_EPOCH, Reg.RTC_SET_HI, Reg.RTC_SET_LO, Reg.RTC_STAT, Reg.SYS_STATE, ne_eq]; omega))) ?_ | with_reducible apply Block.setRtc_st K | with_reducible apply Block.raiseEvt_st K | with_reducible apply Block.tsuMark_st K | with_reducible refine ite_keep ?_ ?_ | dsimp only)

theorem Block.rtcCmdWrite_st (K : KeptBySt Q) (b : Block) (r : Requester) (v : Nat) (hb : Q b.regs) : Q (Block.rtcCmdWrite b r v).regs := by
  unfold Block.rtcCmdWrite
  repeat' (first | with_reducible assumption | with_reducible apply Block.cmdWrite_st K | with_reducible apply Block.rtcCommand_st K | dsimp only | intro _)

theorem Block.tsuTick_st (K : KeptBySt Q) (b : Block) (hb : Q b.regs) : Q (Block.tsuTick b).regs := by
  unfold Block.tsuTick
  repeat' (first | with_reducible assumption | with_reducible refine Block.setRegN_st K _ _ _ (by first | decide | (simp only [Reg.SYS_STATE, Reg.TSU_RATE, Reg.TSU_TIME_LO, ne_eq]; omega) | (split <;> decide)) ?_ | with_reducible refine ite_keep ?_ ?_ | dsimp only)

theorem Block.rtcCount_st (K : KeptBySt Q) (b : Block) (sub : Nat) (hb : Q b.regs) : Q (Block.rtcCount b sub).regs := by
  unfold Block.rtcCount
  repeat' (first | with_reducible assumption | with_reducible apply Block.setRtc_st K | dsimp only)

theorem Block.rtcAdvance_st (K : KeptBySt Q) (b : Block) (f : Nat) (hb : Q b.regs) : Q (Block.rtcAdvance b f).regs := by
  unfold Block.rtcAdvance
  repeat' (first | with_reducible assumption | with_reducible apply Block.rtcCount_st K | with_reducible refine ite_keep ?_ ?_ | dsimp only)

theorem Block.rtcTick_st (K : KeptBySt Q) (b : Block) (hb : Q b.regs) : Q (Block.rtcTick b).regs := by
  unfold Block.rtcTick
  repeat' (first | with_reducible assumption | with_reducible apply Block.rtcAdvance_st K | with_reducible refine ite_keep ?_ ?_ | dsimp only)

theorem Block.absAdvance_st (K : KeptBySt Q) (b : Block) (f : Nat) (hb : Q b.regs) : Q (Block.absAdvance b f).regs := by
  unfold Block.absAdvance
  repeat' (first | with_reducible assumption | with_reducible apply Block.setPos_st K | dsimp only)

theorem Block.freqStep_st (K : KeptBySt Q) (b : Block) (f : Nat) (hb : Q b.regs) : Q (Block.freqStep b f).regs := by
  unfold Block.freqStep
  repeat' (first | with_reducible assumption | with_reducible refine Block.setRegN_st K _ _ _ (by first | decide | (simp only [Reg.ABS0_FREQ, Reg.SYS_STATE, ne_eq]; omega) | (split <;> decide)) ?_ | with_reducible refine ite_keep ?_ ?_ | dsimp only)

theorem Block.rampAdvance_st (K : KeptBySt Q) (b : Block) (r : Nat) (hb : Q b.regs) : Q (Block.rampAdvance b r).regs := by
  unfold Block.rampAdvance
  repeat' (first | with_reducible assumption | with_reducible apply Block.freqStep_st K | with_reducible refine ite_keep ?_ ?_ | dsimp only)

theorem Block.absRamp_st (K : KeptBySt Q) (b : Block) (hb : Q b.regs) : Q (Block.absRamp b).regs := by
  unfold Block.absRamp
  repeat' (first | with_reducible assumption | with_reducible apply Block.rampAdvance_st K | with_reducible refine ite_keep ?_ ?_ | dsimp only)

theorem Block.absTick_st (K : KeptBySt Q) (b : Block) (hb : Q b.regs) : Q (Block.absTick b).regs := by
  unfold Block.absTick
  repeat' (first | with_reducible assumption | with_reducible apply Block.absAdvance_st K | with_reducible apply Block.absRamp_st K | dsimp only)

theorem Block.shaftTick_st (K : KeptBySt Q) (b : Block) (hb : Q b.regs) : Q (Block.shaftTick b).regs := by
  unfold Block.shaftTick
  repeat' (first | with_reducible assumption | with_reducible apply Block.shaftFollow_st K | with_reducible refine ite_keep ?_ ?_ | dsimp only)

theorem Block.patrolTick_st (K : KeptBySt Q) (b : Block) (hb : Q b.regs) : Q (Block.patrolTick b).regs := by
  unfold Block.patrolTick
  repeat' (first | with_reducible assumption | with_reducible refine Block.incSat_st K _ _ (by first | decide | exact vsOk_notState _ | (left; simp only [F.MEM_PATROL_AGE, Reg.MEM_PATROL, Reg.SYS_STATE, ne_eq]; omega) | (left; split <;> (simp only [F.MEM_PATROL_AGE, Reg.MEM_PATROL, Reg.SYS_STATE, ne_eq]; omega))) ?_ | with_reducible refine ite_keep ?_ ?_ | dsimp only)

theorem Block.coverTick_st (K : KeptBySt Q) (b : Block) (hb : Q b.regs) : Q (Block.coverTick b).regs := by
  unfold Block.coverTick
  repeat' (first | with_reducible assumption | with_reducible apply Block.free_st K | with_reducible refine Block.setRegN_st K _ _ _ (by first | decide | (simp only [Reg.SAF_TEST_AGE, Reg.SYS_STATE, ne_eq]; omega) | (split <;> decide)) ?_ | with_reducible refine ite_keep ?_ ?_ | split | dsimp only | with_reducible refine pair_keep (by with_reducible assumption) ?_ | with_reducible refine pair_keep' (by with_reducible assumption) ?_)

theorem Block.devTick_st (K : KeptBySt Q) (b : Block) (hb : Q b.regs) : Q (Block.devTick b).regs := by
  unfold Block.devTick
  repeat' (first | with_reducible assumption | with_reducible refine Block.forAll_keep _ _ _ ?_ (fun _ _ _ => ?_) | with_reducible refine Block.fset_st K _ _ _ (by first | decide | exact vsOk_notState _ | (left; simp only [F.MEM_DEV_CNT_WINDOW, Reg.MEM_DEV_CNT, Reg.SYS_STATE, ne_eq]; omega) | (left; split <;> (simp only [F.MEM_DEV_CNT_WINDOW, Reg.MEM_DEV_CNT, Reg.SYS_STATE, ne_eq]; omega))) ?_ | with_reducible refine ite_keep ?_ ?_ | dsimp only | intro _)

theorem Block.rateTick_st (K : KeptBySt Q) (b : Block) (hb : Q b.regs) : Q (Block.rateTick b).regs := by
  unfold Block.rateTick
  repeat' (first | with_reducible assumption | with_reducible apply Block.free_st K | with_reducible refine Block.fset_st K _ _ _ (by first | decide | exact vsOk_notState _ | (left; simp only [F.PAIR_RATE_RATE, F.PAIR_STAT_LINK, Reg.PAIR_RATE, Reg.PAIR_STAT, Reg.SYS_STATE, ne_eq]; omega) | (left; split <;> (simp only [F.PAIR_RATE_RATE, F.PAIR_STAT_LINK, Reg.PAIR_RATE, Reg.PAIR_STAT, Reg.SYS_STATE, ne_eq]; omega))) ?_ | with_reducible refine ite_keep ?_ ?_ | split | dsimp only | with_reducible refine pair_keep (by with_reducible assumption) ?_ | with_reducible refine pair_keep' (by with_reducible assumption) ?_)

theorem Block.pairTimeTick_st (K : KeptBySt Q) (b : Block) (hb : Q b.regs) : Q (Block.pairTimeTick b).regs := by
  unfold Block.pairTimeTick
  repeat' (first | with_reducible assumption | with_reducible apply Block.send_st K | with_reducible refine ite_keep ?_ ?_ | dsimp only)

theorem Block.clkOn_st (K : KeptBySt Q) (b : Block) (hb : Q b.regs) : Q (Block.clkOn b).regs := keep_clk _ hb

theorem Block.milliTick_st (K : KeptBySt Q) (b : Block) (hb : Q b.regs) : Q (Block.milliTick b).regs := by
  unfold Block.milliTick
  repeat' (first | with_reducible assumption | with_reducible refine Block.setPair_st K _ _ _ (by first | decide | (simp only [Reg.EVR_OPTIME_LO, Reg.SYS_STATE, ne_eq]; omega) | (split <;> decide)) (by first | decide | (simp only [Reg.EVR_OPTIME_LO, Reg.SYS_STATE, ne_eq]; omega) | (split <;> decide)) ?_ | with_reducible refine ite_keep ?_ ?_ | dsimp only)

theorem Block.switchTick_st (K : KeptBySt Q) (b : Block) (hb : Q b.regs) : Q (Block.switchTick b).regs := by
  unfold Block.switchTick
  repeat' (first | with_reducible assumption | with_reducible apply Block.olcSwitched_st K | with_reducible refine ite_keep ?_ ?_ | dsimp only)

theorem Block.haltTick_st (K : KeptBySt Q) (b : Block) (hb : Q b.regs) : Q (Block.haltTick b).regs := by
  unfold Block.haltTick
  split
  · exact Block.chRefreshAll_st K _ (keep_pwr _ hb)
  · exact hb

theorem Block.tick_st (K : KeptBySt Q) (b : Block) (hb : Q b.regs) : Q (Block.tick b).regs := by
  unfold Block.tick
  repeat' (first | with_reducible assumption | with_reducible apply Block.clkOn_st K | with_reducible apply Block.rtcTick_st K | with_reducible apply Block.tsuTick_st K | with_reducible apply Block.frameTick_st K | with_reducible apply Block.absTick_st K | with_reducible apply Block.shaftTick_st K | with_reducible apply Block.patrolTick_st K | with_reducible apply Block.coverTick_st K | with_reducible apply Block.rateTick_st K | with_reducible apply Block.devTick_st K | with_reducible apply Block.milliTick_st K | with_reducible apply Block.switchTick_st K | with_reducible apply Block.frcDue_st K | with_reducible apply Block.olcFollow_st K | with_reducible apply Block.haltTick_st K | with_reducible apply Block.prpExpire_st K | with_reducible apply Block.pairTimeTick_st K | with_reducible refine ite_keep ?_ ?_ | dsimp only)

theorem Block.recShow_st (K : KeptBySt Q) (b : Block) (hb : Q b.regs) : Q (Block.recShow b).regs := by
  unfold Block.recShow
  repeat' (first | with_reducible assumption | with_reducible refine Block.setPair_st K _ _ _ (by first | decide | (simp only [Reg.EVR_FIRST_NEXT_LO, Reg.EVR_RING_NEXT_LO, Reg.EVR_RING_OLD_LO, Reg.SYS_STATE, ne_eq]; omega) | (split <;> decide)) (by first | decide | (simp only [Reg.EVR_FIRST_NEXT_LO, Reg.EVR_RING_NEXT_LO, Reg.EVR_RING_OLD_LO, Reg.SYS_STATE, ne_eq]; omega) | (split <;> decide)) ?_ | dsimp only)

theorem Block.recStore_st (K : KeptBySt Q) (b : Block) (r : EvRec) (hb : Q b.regs) : Q (Block.recStore b r).regs := by
  unfold Block.recStore
  repeat' (first | with_reducible assumption | with_reducible refine Block.when_keep _ _ _ ?_ (fun _ => ?_) | with_reducible refine Block.fset_st K _ _ _ (by first | decide | exact vsOk_notState _ | (left; simp only [F.EVR_STAT_FIRST_FULL, Reg.EVR_PCC, Reg.EVR_STAT, Reg.SYS_STATE, ne_eq]; omega) | (left; split <;> (simp only [F.EVR_STAT_FIRST_FULL, Reg.EVR_PCC, Reg.EVR_STAT, Reg.SYS_STATE, ne_eq]; omega))) ?_ | with_reducible apply Block.raiseEvt_st K | with_reducible apply Block.recShow_st K | with_reducible refine ite_keep ?_ ?_ | dsimp only | intro _)

theorem Block.recRefusals_st (K : KeptBySt Q) (b : Block) (hb : Q b.regs) : Q (Block.recRefusals b).regs := by
  unfold Block.recRefusals
  repeat' (first | with_reducible assumption | with_reducible apply Block.recLost_st K | with_reducible refine ite_keep ?_ ?_ | dsimp only)

theorem Block.lossDurable_st (K : KeptBySt Q) (b : Block) (r : EvRec) (hb : Q b.regs) : Q (Block.lossDurable b r).regs := by
  unfold Block.lossDurable
  repeat' (first | with_reducible assumption | with_reducible apply Block.raiseEvt_st K | dsimp only)

theorem Block.lockDurable_st (K : KeptBySt Q) (b : Block) (r : EvRec) (hb : Q b.regs) : Q (Block.lockDurable b r).regs := by
  unfold Block.lockDurable
  repeat' (first | with_reducible assumption | with_reducible refine ite_keep ?_ ?_ | dsimp only)

theorem Block.setRegion_st (K : KeptBySt Q) (b : Block) (r : Nat) (g : Region) (hb : Q b.regs) : Q (Block.setRegion b r g).regs := by
  unfold Block.setRegion
  repeat' (first | with_reducible assumption | dsimp only)

theorem Block.labelStored_st (K : KeptBySt Q) (b : Block) (r : Nat) (hb : Q b.regs) : Q (Block.labelStored b r).regs := by
  unfold Block.labelStored
  repeat' (first | with_reducible assumption | with_reducible apply Block.setRegion_st K | dsimp only)

theorem Block.shownStored_st (K : KeptBySt Q) (b : Block) (r : Nat) (hb : Q b.regs) : Q (Block.shownStored b r).regs := by
  unfold Block.shownStored
  repeat' (first | with_reducible assumption | with_reducible apply Block.setRegion_st K | dsimp only)

theorem Block.celCommit_st (K : KeptBySt Q) (b : Block) (r : CelRec) (hb : Q b.regs) : Q (Block.celCommit b r).regs := by
  unfold Block.celCommit
  repeat' (first | with_reducible assumption | with_reducible apply Block.labelStored_st K | with_reducible apply Block.shownStored_st K | with_reducible apply Block.lockout_st K | with_reducible refine ite_keep ?_ ?_ | split | dsimp only | with_reducible refine pair_keep (by with_reducible assumption) ?_ | with_reducible refine pair_keep' (by with_reducible assumption) ?_ | intro _)

theorem Block.queueLoss_st (K : KeptBySt Q) (b : Block) (first count : Nat) (hb : Q b.regs) : Q (Block.queueLoss b first count).regs := by
  unfold Block.queueLoss
  repeat' (first | with_reducible assumption | with_reducible apply Block.queueFill_st K | with_reducible refine ite_keep ?_ ?_ | dsimp only)

theorem Block.markDevice_st (K : KeptBySt Q) (b : Block) (d : Nat) (hb : Q b.regs) : Q (Block.markDevice b d).regs := by
  unfold Block.markDevice
  repeat' (first | with_reducible assumption | with_reducible refine Block.fset_st K _ _ _ (by first | decide | exact vsOk_notState _ | (left; simp only [F.MEM_STAT_DEVICE, F.MEM_STAT_MARKED, Reg.MEM_STAT, Reg.SYS_STATE, ne_eq]; omega) | (left; split <;> (simp only [F.MEM_STAT_DEVICE, F.MEM_STAT_MARKED, Reg.MEM_STAT, Reg.SYS_STATE, ne_eq]; omega))) ?_ | with_reducible apply Block.raiseEvt_st K | with_reducible refine ite_keep ?_ ?_ | dsimp only)

theorem Block.dramFixed_st (K : KeptBySt Q) (b : Block) (d n : Nat) (hb : Q b.regs) : Q (Block.dramFixed b d n).regs := by
  unfold Block.dramFixed
  repeat' (first | with_reducible assumption | with_reducible refine Block.incSat_st K _ _ (by first | decide | exact vsOk_notState _ | (left; simp only [F.MEM_CE_CNT_COUNT, F.MEM_DEV_CNT_TOTAL, F.MEM_DEV_CNT_WINDOW, Reg.MEM_CE_CNT, Reg.MEM_DEV_CNT, Reg.SYS_STATE, ne_eq]; omega) | (left; split <;> (simp only [F.MEM_CE_CNT_COUNT, F.MEM_DEV_CNT_TOTAL, F.MEM_DEV_CNT_WINDOW, Reg.MEM_CE_CNT, Reg.MEM_DEV_CNT, Reg.SYS_STATE, ne_eq]; omega))) ?_ | with_reducible refine Block.fset_st K _ _ _ (by first | decide | exact vsOk_notState _ | (left; simp only [F.MEM_CE_CNT_COUNT, F.MEM_DEV_CNT_TOTAL, F.MEM_DEV_CNT_WINDOW, Reg.MEM_CE_CNT, Reg.MEM_DEV_CNT, Reg.SYS_STATE, ne_eq]; omega) | (left; split <;> (simp only [F.MEM_CE_CNT_COUNT, F.MEM_DEV_CNT_TOTAL, F.MEM_DEV_CNT_WINDOW, Reg.MEM_CE_CNT, Reg.MEM_DEV_CNT, Reg.SYS_STATE, ne_eq]; omega))) ?_ | with_reducible apply Block.raiseEvt_st K | with_reducible refine Block.when_keep _ _ _ ?_ (fun _ => ?_) | with_reducible apply Block.markDevice_st K | dsimp only | intro _)

theorem Block.solDownCheck_st (K : KeptBySt Q) (b : Block) (hb : Q b.regs) : Q (Block.solDownCheck b).regs := by
  unfold Block.solDownCheck
  repeat' (first | with_reducible assumption | with_reducible apply Block.olcSolverDown_st K | with_reducible refine ite_keep ?_ ?_ | dsimp only)

theorem Block.patLost_st (K : KeptBySt Q) (b : Block) (k : Nat) (hb : Q b.regs) : Q (Block.patLost b k).regs := by
  unfold Block.patLost
  repeat' (first | with_reducible assumption | with_reducible apply Block.setPat_st K | with_reducible refine Block.setReg_st K _ _ _ (by first | decide | (simp only [Reg.SOL_FACT, Reg.SOL_PIV, Reg.SYS_STATE, ne_eq]; omega) | (split <;> decide)) ?_ | split | dsimp only | with_reducible refine pair_keep (by with_reducible assumption) ?_ | with_reducible refine pair_keep' (by with_reducible assumption) ?_)

theorem Block.granuleRetire_st (K : KeptBySt Q) (b : Block) (hb : Q b.regs) : Q (Block.granuleRetire b).regs := by
  unfold Block.granuleRetire
  repeat' (first | with_reducible assumption | with_reducible refine Block.incSat_st K _ _ (by first | decide | exact vsOk_notState _ | (left; simp only [F.MEM_RETIRED_GRANULES, Reg.MEM_RETIRED, Reg.SYS_STATE, ne_eq]; omega) | (left; split <;> (simp only [F.MEM_RETIRED_GRANULES, Reg.MEM_RETIRED, Reg.SYS_STATE, ne_eq]; omega))) ?_ | with_reducible apply Block.solStoreShow_st K | with_reducible apply Block.raiseEvt_st K | with_reducible refine Block.when_keep _ _ _ ?_ (fun _ => ?_) | with_reducible apply Block.olcSolverDown_st K | dsimp only)

theorem Block.granuleLost_st (K : KeptBySt Q) (b : Block) (k : Nat) (hb : Q b.regs) : Q (Block.granuleLost b k).regs := by
  unfold Block.granuleLost
  repeat' (first | with_reducible assumption | with_reducible apply Block.patLost_st K | with_reducible refine Block.when_keep _ _ _ ?_ (fun _ => ?_) | with_reducible apply Block.granuleRetire_st K | dsimp only)

theorem Block.storeLost_st (K : KeptBySt Q) (b : Block) (logical : Nat) (hb : Q b.regs) : Q (Block.storeLost b logical).regs := by
  unfold Block.storeLost
  repeat' (first | with_reducible assumption | with_reducible apply Block.solAbortRun_st K | with_reducible apply Block.solRetest_st K | with_reducible apply Block.granuleLost_st K | split | dsimp only | with_reducible refine pair_keep (by with_reducible assumption) ?_ | with_reducible refine pair_keep' (by with_reducible assumption) ?_)

theorem Block.bePrimary_st (K : KeptBySt Q) (b : Block) (epoch : Nat) (hb : Q b.regs) : Q (Block.bePrimary b epoch).regs := by
  unfold Block.bePrimary
  repeat' (first | with_reducible assumption | with_reducible refine Block.fset_st K _ _ _ (by first | decide | exact vsOk_notState _ | (left; simp only [F.RED_HEALTH_OWN, F.RED_STAT_ROLE, Reg.RED_CLAIM, Reg.RED_HEALTH, Reg.RED_STAT, Reg.SYS_STATE, ne_eq]; omega) | (left; split <;> (simp only [F.RED_HEALTH_OWN, F.RED_STAT_ROLE, Reg.RED_CLAIM, Reg.RED_HEALTH, Reg.RED_STAT, Reg.SYS_STATE, ne_eq]; omega))) ?_ | with_reducible apply Block.setClaim_st K | with_reducible refine Block.when_keep _ _ _ ?_ (fun _ => ?_) | with_reducible apply Block.recRegs_st K | with_reducible apply Block.setSync_st K | with_reducible apply Block.tsuLost_st K | with_reducible apply Block.chRefreshAll_st K | dsimp only | intro _)

theorem Block.primaryAlone_st (K : KeptBySt Q) (b : Block) (hb : Q b.regs) : Q (Block.primaryAlone b).regs := by
  unfold Block.primaryAlone
  repeat' (first | with_reducible assumption | with_reducible apply Block.bePrimary_st K | with_reducible refine Block.fset_st K _ _ _ (by first | decide | exact vsOk_notState _ | (left; simp only [F.RED_STAT_PARTNER, Reg.RED_STAT, Reg.SYS_STATE, ne_eq]; omega) | (left; split <;> (simp only [F.RED_STAT_PARTNER, Reg.RED_STAT, Reg.SYS_STATE, ne_eq]; omega))) ?_ | with_reducible apply Block.raiseEvt_st K | dsimp only)

theorem Block.primaryBeside_st (K : KeptBySt Q) (b : Block) (hb : Q b.regs) : Q (Block.primaryBeside b).regs := by
  unfold Block.primaryBeside
  repeat' (first | with_reducible assumption | with_reducible apply Block.bePrimary_st K | with_reducible apply Block.primaryAlone_st K | with_reducible refine ite_keep ?_ ?_ | dsimp only)

theorem Block.joinRefused_st (K : KeptBySt Q) (b : Block) (code : Nat) (hb : Q b.regs) : Q (Block.joinRefused b code).regs := by
  unfold Block.joinRefused
  repeat' (first | with_reducible assumption | with_reducible refine Block.fset_st K _ _ _ (by first | decide | exact vsOk_notState _ | (left; simp only [F.RED_RES_CODE, Reg.RED_RES, Reg.SYS_STATE, ne_eq]; omega) | (left; split <;> (simp only [F.RED_RES_CODE, Reg.RED_RES, Reg.SYS_STATE, ne_eq]; omega))) ?_ | with_reducible apply Block.raiseEvt_st K | with_reducible apply Block.pairOut_st K | dsimp only)

theorem Block.joinRole_st (K : KeptBySt Q) (b : Block) (hb : Q b.regs) : Q (Block.joinRole b).regs := by
  unfold Block.joinRole
  repeat' (first | with_reducible assumption | with_reducible apply Block.setWon_st K | with_reducible apply Block.setRole_st K | with_reducible apply Block.setClaim_st K | dsimp only)

theorem Block.joinAs_st (K : KeptBySt Q) (b : Block) (sync : Nat) (hb : Q b.regs) : Q (Block.joinAs b sync).regs := by
  unfold Block.joinAs
  repeat' (first | with_reducible assumption | with_reducible apply Block.joinRefused_st K | with_reducible apply Block.joinRole_st K | with_reducible apply Block.resyncFrom_st K | with_reducible refine ite_keep ?_ ?_ | dsimp only)

theorem Block.standbySilent_st (K : KeptBySt Q) (b : Block) (hb : Q b.regs) : Q (Block.standbySilent b).regs := by
  unfold Block.standbySilent
  repeat' (first | with_reducible assumption | with_reducible apply Block.joinAborted_st K | with_reducible apply Block.setSync_st K | with_reducible refine ite_keep ?_ ?_ | dsimp only)

theorem Block.frcAlone_st (K : KeptBySt Q) (b : Block) (hb : Q b.regs) : Q (Block.frcAlone b).regs := by
  unfold Block.frcAlone
  repeat' (first | with_reducible assumption | with_reducible refine Block.when_keep _ _ _ ?_ (fun _ => ?_) | with_reducible apply Block.frcAck_st K | dsimp only | intro _)

theorem Block.pairSilent_st (K : KeptBySt Q) (b : Block) (hb : Q b.regs) : Q (Block.pairSilent b).regs := by
  unfold Block.pairSilent
  repeat' (first | with_reducible assumption | with_reducible refine Block.fset_st K _ _ _ (by first | decide | exact vsOk_notState _ | (left; simp only [F.RED_STAT_PAIR_OK, Reg.RED_STAT, Reg.SYS_STATE, ne_eq]; omega) | (left; split <;> (simp only [F.RED_STAT_PAIR_OK, Reg.RED_STAT, Reg.SYS_STATE, ne_eq]; omega))) ?_ | with_reducible apply Block.olcPairLost_st K | with_reducible apply Block.frcAlone_st K | with_reducible refine Block.when_keep _ _ _ ?_ (fun _ => ?_) | with_reducible apply Block.standbySilent_st K | with_reducible apply Block.presence_st K | with_reducible apply Block.unsyncedLoss_st K | dsimp only)

theorem Block.pairLinkDown_st (K : KeptBySt Q) (b : Block) (hb : Q b.regs) : Q (Block.pairLinkDown b).regs := by
  unfold Block.pairLinkDown
  repeat' (first | with_reducible assumption | with_reducible refine Block.fset_st K _ _ _ (by first | decide | exact vsOk_notState _ | (left; simp only [F.PAIR_STAT_LINK, Reg.PAIR_STAT, Reg.SYS_STATE, ne_eq]; omega) | (left; split <;> (simp only [F.PAIR_STAT_LINK, Reg.PAIR_STAT, Reg.SYS_STATE, ne_eq]; omega))) ?_ | with_reducible apply Block.raiseEvt_st K | with_reducible apply Block.pairSilent_st K | with_reducible refine ite_keep ?_ ?_ | dsimp only)

theorem Block.departureRx_st (K : KeptBySt Q) (b : Block) (hb : Q b.regs) : Q (Block.departureRx b).regs := by
  unfold Block.departureRx
  repeat' (first | with_reducible assumption | with_reducible apply Block.raiseEvt_st K | with_reducible apply Block.unsyncedLoss_st K | with_reducible refine ite_keep ?_ ?_ | dsimp only)

theorem Block.steer0_st (K : KeptBySt Q) (b : Block) (h : PairBeat) (hb : Q b.regs) : Q (Block.steer0 b h).regs := by
  unfold Block.steer0
  repeat' (first | with_reducible assumption | with_reducible refine Block.setRegN_st K _ _ _ (by first | decide | (simp only [Reg.ABS0_FREQ, Reg.SYS_STATE, ne_eq]; omega) | (split <;> decide)) ?_ | with_reducible refine ite_keep ?_ ?_ | dsimp only)

theorem Block.steer1_st (K : KeptBySt Q) (b : Block) (h : PairBeat) (hb : Q b.regs) : Q (Block.steer1 b h).regs := by
  unfold Block.steer1
  repeat' (first | with_reducible assumption | with_reducible refine ite_keep ?_ ?_ | dsimp only)

theorem Block.partnerLeads_st (K : KeptBySt Q) (b : Block) (role : Nat) (departing : Bool) (hb : Q b.regs) : Q (Block.partnerLeads b role departing).regs := by
  unfold Block.partnerLeads
  repeat' (first | with_reducible assumption | with_reducible refine Block.when_keep _ _ _ ?_ (fun _ => ?_) | dsimp only | intro _)

theorem Block.rejoin_st (K : KeptBySt Q) (b : Block) (hb : Q b.regs) : Q (Block.rejoin b).regs := by
  unfold Block.rejoin
  repeat' (first | with_reducible assumption | with_reducible refine Block.when_keep _ _ _ ?_ (fun _ => ?_) | with_reducible apply Block.joinAs_st K | with_reducible refine ite_keep ?_ ?_ | dsimp only | intro _)

theorem Block.standbyBeat_st (K : KeptBySt Q) (b : Block) (was changed : Bool) (hb : Q b.regs) : Q (Block.standbyBeat b was changed).regs := by
  unfold Block.standbyBeat
  repeat' (first | with_reducible assumption | with_reducible refine Block.when_keep _ _ _ ?_ (fun _ => ?_) | with_reducible apply Block.joinAborted_st K | with_reducible apply Block.rejoin_st K | dsimp only)

theorem Block.epochDown_st (K : KeptBySt Q) (b : Block) (hb : Q b.regs) : Q (Block.epochDown b).regs := by
  unfold Block.epochDown
  repeat' (first | with_reducible assumption | with_reducible apply Block.setClaim_st K | dsimp only)

theorem Block.lowerEpoch_st (K : KeptBySt Q) (b : Block) (hb : Q b.regs) : Q (Block.lowerEpoch b).regs := by
  unfold Block.lowerEpoch
  repeat' (first | with_reducible assumption | with_reducible apply Block.toPartner_st K | with_reducible apply Block.epochDown_st K | with_reducible refine Block.when_keep _ _ _ ?_ (fun _ => ?_) | with_reducible refine ite_keep ?_ ?_ | dsimp only)

theorem Block.roundOpen_st (K : KeptBySt Q) (b : Block) (hb : Q b.regs) : Q (Block.roundOpen b).regs := by
  unfold Block.roundOpen
  repeat' (first | with_reducible assumption | dsimp only)

theorem Block.sendClaim_st (K : KeptBySt Q) (b : Block) (hb : Q b.regs) : Q (Block.sendClaim b).regs := by
  unfold Block.sendClaim
  repeat' (first | with_reducible assumption | with_reducible apply Block.send_st K | dsimp only)

theorem Block.roundBegin_st (K : KeptBySt Q) (b : Block) (alone : Bool) (hb : Q b.regs) : Q (Block.roundBegin b alone).regs := by
  unfold Block.roundBegin
  repeat' (first | with_reducible assumption | with_reducible apply Block.redRefresh_st K | with_reducible apply Block.lowFollow_st K | with_reducible apply Block.lowerEpoch_st K | with_reducible apply Block.roundOpen_st K | with_reducible refine Block.fsetB_st K _ _ _ (by first | decide | exact vsOk_notState _ | (left; simp only [F.RED_ROUND_INFO_ALONE, Reg.RED_ROUND_INFO, Reg.SYS_STATE, ne_eq]; omega) | (left; split <;> (simp only [F.RED_ROUND_INFO_ALONE, Reg.RED_ROUND_INFO, Reg.SYS_STATE, ne_eq]; omega))) ?_ | with_reducible apply Block.sendClaim_st K | dsimp only)

theorem Block.demote_st (K : KeptBySt Q) (b : Block) (sync : Nat) (hb : Q b.regs) : Q (Block.demote b sync).regs := by
  unfold Block.demote
  repeat' (first | with_reducible assumption | with_reducible refine Block.incSat_st K _ _ (by first | decide | exact vsOk_notState _ | (left; simp only [F.RED_DEMOTE_CNT_COUNT, Reg.RED_DEMOTE_CNT, Reg.SYS_STATE, ne_eq]; omega) | (left; split <;> (simp only [F.RED_DEMOTE_CNT_COUNT, Reg.RED_DEMOTE_CNT, Reg.SYS_STATE, ne_eq]; omega))) ?_ | with_reducible apply Block.raiseEvt_st K | with_reducible apply Block.setWon_st K | with_reducible apply Block.setRole_st K | with_reducible apply Block.resyncFrom_st K | dsimp only)

theorem Block.wireJudge_st (K : KeptBySt Q) (b : Block) (fault : Bool) (hb : Q b.regs) : Q (Block.wireJudge b fault).regs := by
  unfold Block.wireJudge
  repeat' (first | with_reducible assumption | with_reducible refine Block.fset_st K _ _ _ (by first | decide | exact vsOk_notState _ | (left; simp only [F.RED_STAT_WIRE_FAULT, F.RED_WIRE_ERR_CNT_COUNT, Reg.RED_CLAIM, Reg.RED_ROUND, Reg.RED_STAT, Reg.RED_WIRE_ERR_CNT, Reg.SYS_STATE, ne_eq]; omega) | (left; split <;> (simp only [F.RED_STAT_WIRE_FAULT, F.RED_WIRE_ERR_CNT_COUNT, Reg.RED_CLAIM, Reg.RED_ROUND, Reg.RED_STAT, Reg.RED_WIRE_ERR_CNT, Reg.SYS_STATE, ne_eq]; omega))) ?_ | with_reducible refine Block.incSat_st K _ _ (by first | decide | exact vsOk_notState _ | (left; simp only [F.RED_STAT_WIRE_FAULT, F.RED_WIRE_ERR_CNT_COUNT, Reg.RED_CLAIM, Reg.RED_ROUND, Reg.RED_STAT, Reg.RED_WIRE_ERR_CNT, Reg.SYS_STATE, ne_eq]; omega) | (left; split <;> (simp only [F.RED_STAT_WIRE_FAULT, F.RED_WIRE_ERR_CNT_COUNT, Reg.RED_CLAIM, Reg.RED_ROUND, Reg.RED_STAT, Reg.RED_WIRE_ERR_CNT, Reg.SYS_STATE, ne_eq]; omega))) ?_ | with_reducible apply Block.event_st K | with_reducible refine Block.when_keep _ _ _ ?_ (fun _ => ?_) | with_reducible refine ite_keep ?_ ?_ | dsimp only | intro _)

theorem Block.takeOver_st (K : KeptBySt Q) (b : Block) (atOnce : Bool) (hb : Q b.regs) : Q (Block.takeOver b atOnce).regs := by
  unfold Block.takeOver
  extract_lets b1 b2 b3 b4 b5 b6
  have h3 : Q b3.regs := Block.bePrimary_st K _ _ (Block.frcAlone_st K _ (Block.olcPairLost_st K _ hb))
  have h5 : Q b5.regs := Block.raiseEvt_st K _ _ _ (Block.incSat_st K _ _ (by decide) (Block.stamp_st K _ _ _ (by decide) (by decide) h3))
  exact Block.roundBegin_st K _ _ (Block.when_keep_eq rfl h5 fun h => Block.setWon_st K _ _ h)

theorem Block.redDone_st (K : KeptBySt Q) (b : Block) (code : Nat) (hb : Q b.regs) : Q (Block.redDone b code).regs := by
  unfold Block.redDone
  repeat' (first | with_reducible assumption | with_reducible refine Block.fset_st K _ _ _ (by first | decide | exact vsOk_notState _ | (left; simp only [F.RED_RES_CODE, Reg.RED_RES, Reg.SYS_STATE, ne_eq]; omega) | (left; split <;> (simp only [F.RED_RES_CODE, Reg.RED_RES, Reg.SYS_STATE, ne_eq]; omega))) ?_ | with_reducible apply Block.raiseEvt_st K | dsimp only)

theorem Block.restartAll_st (K : KeptBySt Q) (b : Block) (hb : Q b.regs) : Q (Block.restartAll b).regs := by
  unfold Block.restartAll
  repeat' (first | with_reducible assumption | with_reducible refine Block.forAll_keep _ _ _ ?_ (fun _ _ _ => ?_) | with_reducible apply Block.abandon_st K | with_reducible apply Block.atBoundary_st K | with_reducible apply Block.reloadCtx_st K | with_reducible apply Block.startTriggers_st K | dsimp only | intro _)

theorem Block.redCommand_st (K : KeptBySt Q) (b : Block) (v : Nat) (hb : Q b.regs) : Q (Block.redCommand b v).regs := by
  unfold Block.redCommand
  repeat' (first | with_reducible assumption | with_reducible refine Block.fset_st K _ _ _ (by first | decide | exact vsOk_notState _ | (left; simp only [F.RED_CMD_CMD, Reg.RED_CMD, Reg.SYS_STATE, ne_eq]; omega) | (left; split <;> (simp only [F.RED_CMD_CMD, Reg.RED_CMD, Reg.SYS_STATE, ne_eq]; omega))) ?_ | with_reducible apply Block.redDone_st K | with_reducible apply Block.depart_st K | with_reducible apply Block.restartAll_st K | with_reducible apply Block.takeOver_st K | with_reducible apply Block.resyncStart_st K | with_reducible refine ite_keep ?_ ?_ | split | dsimp only | with_reducible refine pair_keep (by with_reducible assumption) ?_ | with_reducible refine pair_keep' (by with_reducible assumption) ?_)

theorem Block.redCmdWrite_st (K : KeptBySt Q) (b : Block) (r : Requester) (v : Nat) (hb : Q b.regs) : Q (Block.redCmdWrite b r v).regs := by
  unfold Block.redCmdWrite
  repeat' (first | with_reducible assumption | with_reducible apply Block.cmdWrite_st K | with_reducible apply Block.redCommand_st K | dsimp only | intro _)

theorem Block.pairEnterRun_st (K : KeptBySt Q) (b : Block) (hb : Q b.regs) : Q (Block.pairEnterRun b).regs := by
  unfold Block.pairEnterRun
  repeat' (first | with_reducible assumption | with_reducible apply Block.joinAs_st K | with_reducible apply Block.bePrimary_st K | with_reducible refine ite_keep ?_ ?_ | dsimp only)

theorem Block.joinCopied_st (K : KeptBySt Q) (b : Block) (c : Nat) (hb : Q b.regs) : Q (Block.joinCopied b c).regs := by
  unfold Block.joinCopied
  repeat' (first | with_reducible assumption | dsimp only)

theorem Block.joinPatCopied_st (K : KeptBySt Q) (b : Block) (l : Nat) (hb : Q b.regs) : Q (Block.joinPatCopied b l).regs := by
  unfold Block.joinPatCopied
  repeat' (first | with_reducible assumption | dsimp only)

theorem Block.joinRevive_st (K : KeptBySt Q) (b : Block) (c : Nat) (hb : Q b.regs) : Q (Block.joinRevive b c).regs := by
  unfold Block.joinRevive
  repeat' (first | with_reducible assumption | with_reducible refine Block.fset_st K _ _ _ (by first | decide | exact vsOk_notState _ | (left; simp only [F.CTX_STATE_PLACED, F.CTX_STATE_STOP_WHY, Reg.CTX_STATE, Reg.SYS_STATE, ne_eq]; omega) | (left; split <;> (simp only [F.CTX_STATE_PLACED, F.CTX_STATE_STOP_WHY, Reg.CTX_STATE, Reg.SYS_STATE, ne_eq]; omega))) ?_ | with_reducible apply Block.setCtxState_st K | with_reducible apply Block.aimCtx_st K | with_reducible refine ite_keep ?_ ?_ | dsimp only)

theorem Block.joinContext_st (K : KeptBySt Q) (b : Block) (c : Nat) (slots : List Word) (flags : Nat) (own : List (Nat × Nat)) (stopped : Bool) (why : Nat) (hb : Q b.regs) : Q (Block.joinContext b c slots flags own stopped why).regs := by
  unfold Block.joinContext
  repeat' (first | with_reducible assumption | with_reducible apply Block.modCx_st K | with_reducible apply Block.stopCtx_st K | with_reducible apply Block.joinRevive_st K | with_reducible apply Block.joinCopied_st K | with_reducible refine ite_keep ?_ ?_ | dsimp only | intro _)

theorem Block.joinValues_st (K : KeptBySt Q) (b : Block) (k : Nat) (q : JoinPat) (hb : Q b.regs) : Q (Block.joinValues b k q).regs := by
  unfold Block.joinValues
  repeat' (first | with_reducible assumption | with_reducible apply Block.setPat_st K | split | dsimp only | with_reducible refine pair_keep (by with_reducible assumption) ?_ | with_reducible refine pair_keep' (by with_reducible assumption) ?_)

theorem Block.joinPattern_st (K : KeptBySt Q) (b : Block) (l : Nat) (q : JoinPat) (hb : Q b.regs) : Q (Block.joinPattern b l q).regs := by
  unfold Block.joinPattern
  repeat' (first | with_reducible assumption | with_reducible apply Block.joinValues_st K | with_reducible refine Block.setReg_st K _ _ _ (by first | decide | (simp only [Reg.SOL_FACT, Reg.SYS_STATE, ne_eq]; omega) | (split <;> decide)) ?_ | with_reducible apply Block.joinPatCopied_st K | split | dsimp only | with_reducible refine pair_keep (by with_reducible assumption) ?_ | with_reducible refine pair_keep' (by with_reducible assumption) ?_)

theorem Block.joinForces_st (K : KeptBySt Q) (b : Block) (table : List (Nat × FrcEntry)) (hb : Q b.regs) : Q (Block.joinForces b table).regs := by
  unfold Block.joinForces
  repeat' (first | with_reducible assumption | with_reducible apply Block.frcShow_st K | with_reducible apply Block.celRequest_st K | dsimp only)

theorem Block.joinTake_st (K : KeptBySt Q) (b : Block) (i : JoinItem) (hb : Q b.regs) : Q (Block.joinTake b i).regs := by
  unfold Block.joinTake
  repeat' (first | with_reducible assumption | with_reducible apply Block.joinContext_st K | with_reducible apply Block.joinPattern_st K | with_reducible apply Block.joinForces_st K | with_reducible apply Block.setHartItem_st K | split | dsimp only | with_reducible refine pair_keep (by with_reducible assumption) ?_ | with_reducible refine pair_keep' (by with_reducible assumption) ?_ | intro _)

theorem Block.pairResult_st (K : KeptBySt Q) (b : Block) (slot status iters bound : Nat) (x : List Nat) (hb : Q b.regs) : Q (Block.pairResult b slot status iters bound x).regs := by
  unfold Block.pairResult
  repeat' (first | with_reducible assumption | with_reducible apply Block.solPublish_st K | with_reducible apply Block.solLeave_st K | with_reducible apply Block.solClose_st K | with_reducible apply Block.solShow_st K | split | dsimp only | with_reducible refine pair_keep (by with_reducible assumption) ?_ | with_reducible refine pair_keep' (by with_reducible assumption) ?_ | intro _)

theorem Block.jobModeSet_st (K : KeptBySt Q) (b : Block) (c : Nat) (mode : Option Bool) (hb : Q b.regs) : Q (Block.jobModeSet b c mode).regs := by
  unfold Block.jobModeSet
  repeat' (first | with_reducible assumption | with_reducible refine ite_keep ?_ ?_ | split | dsimp only | with_reducible refine pair_keep (by with_reducible assumption) ?_ | with_reducible refine pair_keep' (by with_reducible assumption) ?_ | intro _)

theorem Block.pairForce_st (K : KeptBySt Q) (b : Block) (cmd vid tag value level time at_ : Nat) (hb : Q b.regs) : Q (Block.pairForce b cmd vid tag value level time at_).regs := by
  unfold Block.pairForce
  repeat' (first | with_reducible assumption | with_reducible apply Block.celRequest_st K | with_reducible apply Block.frcDue_st K | dsimp only)

theorem Block.pairPackage_st (K : KeptBySt Q) (b : Block) (w : List Nat) (hb : Q b.regs) : Q (Block.pairPackage b w).regs := by
  unfold Block.pairPackage
  repeat' (first | with_reducible assumption | with_reducible apply Block.dropStaged_st K | with_reducible refine Block.setRegN_st K _ _ _ (by first | decide | (simp only [F.OLC_STAT_STATE, Reg.OLC_BASE_VIN, Reg.OLC_NEW_VIN, Reg.OLC_STAT, Reg.SYS_STATE, ne_eq]; omega) | (split <;> decide)) ?_ | with_reducible refine Block.fset_st K _ _ _ (by first | decide | exact vsOk_notState _ | (left; simp only [F.OLC_STAT_STATE, Reg.OLC_BASE_VIN, Reg.OLC_NEW_VIN, Reg.OLC_STAT, Reg.SYS_STATE, ne_eq]; omega) | (left; split <;> (simp only [F.OLC_STAT_STATE, Reg.OLC_BASE_VIN, Reg.OLC_NEW_VIN, Reg.OLC_STAT, Reg.SYS_STATE, ne_eq]; omega))) ?_ | with_reducible apply Block.olcVerified_st K | dsimp only)

theorem Block.pairEnded_st (K : KeptBySt Q) (b : Block) (refused : Bool) (hb : Q b.regs) : Q (Block.pairEnded b refused).regs := by
  unfold Block.pairEnded
  repeat' (first | with_reducible assumption | with_reducible refine Block.when_keep _ _ _ ?_ (fun _ => ?_) | with_reducible apply Block.olcDrop_st K | with_reducible refine ite_keep ?_ ?_ | dsimp only | intro _)

theorem Block.markDemoted_st (K : KeptBySt Q) (b : Block) (hb : Q b.regs) : Q (Block.markDemoted b).regs := by
  unfold Block.markDemoted
  repeat' (first | with_reducible assumption | dsimp only)

theorem Block.echoDemote_st (K : KeptBySt Q) (b : Block) (hb : Q b.regs) : Q (Block.echoDemote b).regs := by
  unfold Block.echoDemote
  repeat' (first | with_reducible assumption | with_reducible apply Block.demote_st K | with_reducible apply Block.markDemoted_st K | with_reducible apply Block.recRegs_st K | dsimp only)

theorem Block.echoForeign_st (K : KeptBySt Q) (b : Block) (seg seq claim : Nat) (hb : Q b.regs) : Q (Block.echoForeign b seg seq claim).regs := by
  unfold Block.echoForeign
  repeat' (first | with_reducible assumption | with_reducible refine Block.when_keep _ _ _ ?_ (fun _ => ?_) | with_reducible apply Block.echoDemote_st K | with_reducible refine ite_keep ?_ ?_ | dsimp only)

theorem Block.pairEcho_st (K : KeptBySt Q) (b : Block) (seg seq claim : Nat) (hb : Q b.regs) : Q (Block.pairEcho b seg seq claim).regs := by
  unfold Block.pairEcho
  repeat' (first | with_reducible assumption | with_reducible refine Block.when_keep _ _ _ ?_ (fun _ => ?_) | with_reducible apply Block.echoForeign_st K | with_reducible refine ite_keep ?_ ?_ | dsimp only | intro _)

theorem Block.labelShow_st (K : KeptBySt Q) (b : Block) (hb : Q b.regs) : Q (Block.labelShow b).regs := by
  unfold Block.labelShow
  repeat' (first | with_reducible assumption | with_reducible refine Block.fset_st K _ _ _ (by first | decide | exact vsOk_notState _ | (left; simp only [F.DSB_STAT_BUSY, F.DSB_STAT_PENDING, Reg.DSB_STAT, Reg.SYS_STATE, ne_eq]; omega) | (left; split <;> (simp only [F.DSB_STAT_BUSY, F.DSB_STAT_PENDING, Reg.DSB_STAT, Reg.SYS_STATE, ne_eq]; omega))) ?_ | with_reducible refine ite_keep ?_ ?_ | dsimp only | intro _)

theorem Block.labelUpdate_st (K : KeptBySt Q) (b : Block) (r : Nat) (levels : List Nat) (hb : Q b.regs) : Q (Block.labelUpdate b r levels).regs := by
  unfold Block.labelUpdate
  repeat' (first | with_reducible assumption | with_reducible apply Block.setRegion_st K | with_reducible apply Block.celRequest_st K | with_reducible apply Block.labelShow_st K | with_reducible refine Block.when_keep _ _ _ ?_ (fun _ => ?_) | with_reducible apply Block.raiseEvt_st K | with_reducible refine ite_keep ?_ ?_ | dsimp only | intro _)

theorem Block.labelRecords_st (K : KeptBySt Q) (b : Block) (r : Nat) (hb : Q b.regs) : Q (Block.labelRecords b r).regs := by
  unfold Block.labelRecords
  repeat' (first | with_reducible assumption | with_reducible apply Block.celRequest_st K | dsimp only)

theorem Block.regionFrame_st (K : KeptBySt Q) (b : Block) (r : Nat) (hb : Q b.regs) : Q (Block.regionFrame b r).regs := by
  unfold Block.regionFrame
  repeat' (first | with_reducible assumption | with_reducible refine Block.when_keep _ _ _ ?_ (fun _ => ?_) | with_reducible apply Block.send_st K | with_reducible apply Block.setRegion_st K | with_reducible apply Block.labelRecords_st K | with_reducible refine Block.incWrap_st K _ _ (by first | decide | exact vsOk_notState _ | (left; simp only [F.DSB_STAT_BAND, F.DSB_STAT_CLEAN, F.DSB_UPD_CNT_COUNT, Reg.DSB_STAT, Reg.DSB_UPD_CNT, Reg.SYS_STATE, ne_eq]; omega) | (left; split <;> (simp only [F.DSB_STAT_BAND, F.DSB_STAT_CLEAN, F.DSB_UPD_CNT_COUNT, Reg.DSB_STAT, Reg.DSB_UPD_CNT, Reg.SYS_STATE, ne_eq]; omega))) ?_ | with_reducible apply Block.raiseEvt_st K | with_reducible refine ite_keep ?_ ?_ | dsimp only | intro _)

theorem Block.cleanBegin_st (K : KeptBySt Q) (b : Block) (hb : Q b.regs) : Q (Block.cleanBegin b).regs := by
  unfold Block.cleanBegin
  repeat' (first | with_reducible assumption | with_reducible refine Block.forAll_keep _ _ _ ?_ (fun _ _ _ => ?_) | with_reducible apply Block.setRegion_st K | with_reducible refine Block.fset_st K _ _ _ (by first | decide | exact vsOk_notState _ | (left; simp only [F.DSB_STAT_CLEAN, Reg.DSB_STAT, Reg.SYS_STATE, ne_eq]; omega) | (left; split <;> (simp only [F.DSB_STAT_CLEAN, Reg.DSB_STAT, Reg.SYS_STATE, ne_eq]; omega))) ?_ | with_reducible apply Block.send_st K | with_reducible apply Block.raiseEvt_st K | dsimp only | intro _)

theorem Block.redrawAll_st (K : KeptBySt Q) (b : Block) (hb : Q b.regs) : Q (Block.redrawAll b).regs := by
  unfold Block.redrawAll
  repeat' (first | with_reducible assumption | with_reducible refine Block.forAll_keep _ _ _ ?_ (fun _ _ _ => ?_) | with_reducible apply Block.labelUpdate_st K | dsimp only | intro _)

theorem Block.cleanEnd_st (K : KeptBySt Q) (b : Block) (hb : Q b.regs) : Q (Block.cleanEnd b).regs := by
  unfold Block.cleanEnd
  repeat' (first | with_reducible assumption | with_reducible refine Block.fset_st K _ _ _ (by first | decide | exact vsOk_notState _ | (left; simp only [F.DSB_STAT_CLEAN, Reg.DSB_STAT, Reg.SYS_STATE, ne_eq]; omega) | (left; split <;> (simp only [F.DSB_STAT_CLEAN, Reg.DSB_STAT, Reg.SYS_STATE, ne_eq]; omega))) ?_ | with_reducible refine Block.forAll_keep _ _ _ ?_ (fun _ _ _ => ?_) | with_reducible apply Block.setRegion_st K | with_reducible apply Block.celRequest_st K | with_reducible apply Block.redrawAll_st K | dsimp only | intro _)

theorem Block.labelCommand_st (K : KeptBySt Q) (b : Block) (hb : Q b.regs) : Q (Block.labelCommand b).regs := by
  unfold Block.labelCommand
  repeat' (first | with_reducible assumption | with_reducible apply Block.raiseEvt_st K | with_reducible apply Block.cleanBegin_st K | with_reducible apply Block.redrawAll_st K | with_reducible refine ite_keep ?_ ?_ | dsimp only | intro _)

theorem Block.dsbCommand_st (K : KeptBySt Q) (b : Block) (v : Nat) (hb : Q b.regs) : Q (Block.dsbCommand b v).regs := by
  unfold Block.dsbCommand
  repeat' (first | with_reducible assumption | with_reducible refine Block.fset_st K _ _ _ (by first | decide | exact vsOk_notState _ | (left; simp only [F.DSB_CMD_CMD, F.DSB_RES_CODE, F.DSB_STAT_CLEAN, F.DSB_STAT_PANEL_FAULT, Reg.DSB_CMD, Reg.DSB_RES, Reg.DSB_STAT, Reg.SYS_STATE, ne_eq]; omega) | (left; split <;> (simp only [F.DSB_CMD_CMD, F.DSB_RES_CODE, F.DSB_STAT_CLEAN, F.DSB_STAT_PANEL_FAULT, Reg.DSB_CMD, Reg.DSB_RES, Reg.DSB_STAT, Reg.SYS_STATE, ne_eq]; omega))) ?_ | with_reducible apply Block.raiseEvt_st K | with_reducible refine ite_keep ?_ ?_ | dsimp only)

theorem Block.dsbCmdWrite_st (K : KeptBySt Q) (b : Block) (r : Requester) (v : Nat) (hb : Q b.regs) : Q (Block.dsbCmdWrite b r v).regs := by
  unfold Block.dsbCmdWrite
  repeat' (first | with_reducible assumption | with_reducible apply Block.cmdWrite_st K | with_reducible apply Block.dsbCommand_st K | dsimp only | intro _)

theorem Block.recoverDrive_st (K : KeptBySt Q) (b : Block) (lost : Bool) (r : Nat) (levels : List Nat) (hb : Q b.regs) : Q (Block.recoverDrive b lost r levels).regs := by
  unfold Block.recoverDrive
  repeat' (first | with_reducible assumption | with_reducible refine Block.when_keep _ _ _ ?_ (fun _ => ?_) | with_reducible apply Block.send_st K | with_reducible refine ite_keep ?_ ?_ | dsimp only | intro _)

theorem Block.labelRecover_st (K : KeptBySt Q) (b : Block) (lost : Bool) (hb : Q b.regs) : Q (Block.labelRecover b lost).regs := by
  unfold Block.labelRecover
  repeat' (first | with_reducible assumption | with_reducible refine Block.forAll_keep _ _ _ ?_ (fun _ _ _ => ?_) | with_reducible apply Block.recoverDrive_st K | with_reducible apply Block.setRegion_st K | with_reducible refine Block.when_keep _ _ _ ?_ (fun _ => ?_) | with_reducible apply Block.labelRecords_st K | with_reducible apply Block.raiseEvt_st K | with_reducible refine ite_keep ?_ ?_ | dsimp only | intro _)

theorem Block.markerDraw_st (K : KeptBySt Q) (b : Block) (hb : Q b.regs) : Q (Block.markerDraw b).regs := by
  unfold Block.markerDraw
  repeat' (first | with_reducible assumption | with_reducible apply Block.labelUpdate_st K | with_reducible refine ite_keep ?_ ?_ | dsimp only)

theorem Block.cpShow_st (K : KeptBySt Q) (b : Block) (cp mv : Nat) (hb : Q b.regs) : Q (Block.cpShow b cp mv).regs := by
  unfold Block.cpShow
  repeat' (first | with_reducible assumption | with_reducible refine Block.fsetB_st K _ _ _ (by first | decide | exact vsOk_notState _ | (left; simp only [Reg.PWR_CP_STAT, Reg.PWR_CP_V, Reg.SYS_STATE, ne_eq]; omega) | (left; split <;> (simp only [Reg.PWR_CP_STAT, Reg.PWR_CP_V, Reg.SYS_STATE, ne_eq]; omega))) ?_ | with_reducible refine Block.fset_st K _ _ _ (by first | decide | exact vsOk_notState _ | (left; simp only [Reg.PWR_CP_STAT, Reg.PWR_CP_V, Reg.SYS_STATE, ne_eq]; omega) | (left; split <;> (simp only [Reg.PWR_CP_STAT, Reg.PWR_CP_V, Reg.SYS_STATE, ne_eq]; omega))) ?_ | dsimp only)

theorem Block.cpSet_st (K : KeptBySt Q) (b : Block) (cp mv : Nat) (ok : Bool) (hb : Q b.regs) : Q (Block.cpSet b cp mv ok).regs := by
  unfold Block.cpSet
  repeat' (first | with_reducible assumption | with_reducible apply Block.cpShow_st K | dsimp only)

theorem Block.cpReport_st (K : KeptBySt Q) (b : Block) (evt : Nat) (hb : Q b.regs) : Q (Block.cpReport b evt).regs := by
  unfold Block.cpReport
  repeat' (first | with_reducible assumption | with_reducible refine Block.when_keep _ _ _ ?_ (fun _ => ?_) | with_reducible apply Block.event_st K | dsimp only | intro _)

theorem Block.cpLost_st (K : KeptBySt Q) (b : Block) (cp mv : Nat) (hb : Q b.regs) : Q (Block.cpLost b cp mv).regs := by
  unfold Block.cpLost
  repeat' (first | with_reducible assumption | with_reducible apply Block.cpSet_st K | with_reducible refine Block.when_keep _ _ _ ?_ (fun _ => ?_) | with_reducible apply Block.cpReport_st K | dsimp only | intro _)

theorem Block.cpReturn_st (K : KeptBySt Q) (b : Block) (cp mv : Nat) (hb : Q b.regs) : Q (Block.cpReturn b cp mv).regs := by
  unfold Block.cpReturn
  repeat' (first | with_reducible assumption | with_reducible apply Block.cpSet_st K | with_reducible refine Block.when_keep _ _ _ ?_ (fun _ => ?_) | with_reducible apply Block.cpReport_st K | dsimp only | intro _)

theorem Block.qualify_st (K : KeptBySt Q) (b : Block) (hb : Q b.regs) : Q (Block.qualify b).regs := by
  unfold Block.qualify
  repeat' (first | with_reducible assumption | with_reducible refine ite_keep ?_ ?_ | dsimp only)

theorem Block.islPowerDown_st (K : KeptBySt Q) (b : Block) (hb : Q b.regs) : Q (Block.islPowerDown b).regs := by
  unfold Block.islPowerDown
  repeat' (first | with_reducible assumption | with_reducible apply Block.islShow_st K | with_reducible apply Block.islEnter_st K | with_reducible refine ite_keep ?_ ?_ | dsimp only)

theorem Block.unpower_st (K : KeptBySt Q) (b : Block) (hb : Q b.regs) : Q (Block.unpower b).regs :=
  keep_down _ _ _ _ hb

theorem Block.sfpShow_st (K : KeptBySt Q) (b : Block) (hb : Q b.regs) : Q (Block.sfpShow b).regs := by
  unfold Block.sfpShow
  repeat' (first | with_reducible assumption | with_reducible refine Block.fsetB_st K _ _ _ (by first | decide | exact vsOk_notState _ | (left; simp only [F.PAIR_STAT_ABSENT, F.PAIR_STAT_LOS, F.PAIR_STAT_TXFLT, Reg.PAIR_STAT, Reg.SYS_STATE, ne_eq]; omega) | (left; split <;> (simp only [F.PAIR_STAT_ABSENT, F.PAIR_STAT_LOS, F.PAIR_STAT_TXFLT, Reg.PAIR_STAT, Reg.SYS_STATE, ne_eq]; omega))) ?_ | dsimp only)

theorem Block.vinShow_st (K : KeptBySt Q) (b : Block) (hb : Q b.regs) : Q (Block.vinShow b).regs := by
  unfold Block.vinShow
  repeat' (first | with_reducible assumption | with_reducible refine Block.setRegN_st K _ _ _ (by first | decide | (simp only [Reg.SYS_STATE, Reg.UPD_APP_ACT, Reg.UPD_APP_FB, Reg.UPD_FW_ACT, Reg.UPD_FW_FB, ne_eq]; omega) | (split <;> decide)) ?_ | dsimp only)

theorem Block.caskShow_st (K : KeptBySt Q) (b : Block) (hb : Q b.regs) : Q (Block.caskShow b).regs := by
  unfold Block.caskShow
  repeat' (first | with_reducible assumption | with_reducible refine Block.fset_st K _ _ _ (by first | decide | exact vsOk_notState _ | (left; simp only [F.UPD_CASK_KIND, Reg.SYS_STATE, Reg.UPD_CASK, Reg.UPD_CASK_DONE, Reg.UPD_CASK_TOTAL, Reg.UPD_CASK_VIN, ne_eq]; omega) | (left; split <;> (simp only [F.UPD_CASK_KIND, Reg.SYS_STATE, Reg.UPD_CASK, Reg.UPD_CASK_DONE, Reg.UPD_CASK_TOTAL, Reg.UPD_CASK_VIN, ne_eq]; omega))) ?_ | with_reducible refine Block.setRegN_st K _ _ _ (by first | decide | (simp only [F.UPD_CASK_KIND, Reg.SYS_STATE, Reg.UPD_CASK, Reg.UPD_CASK_DONE, Reg.UPD_CASK_TOTAL, Reg.UPD_CASK_VIN, ne_eq]; omega) | (split <;> decide)) ?_ | dsimp only | intro _)

theorem Block.caskIn_st (K : KeptBySt Q) (b : Block) (st : Nat) (hb : Q b.regs) : Q (Block.caskIn b st).regs := by
  unfold Block.caskIn
  repeat' (first | with_reducible assumption | with_reducible refine Block.fset_st K _ _ _ (by first | decide | exact vsOk_notState _ | (left; simp only [F.UPD_CASK_STATE, Reg.SYS_STATE, Reg.UPD_CASK, ne_eq]; omega) | (left; split <;> (simp only [F.UPD_CASK_STATE, Reg.SYS_STATE, Reg.UPD_CASK, ne_eq]; omega))) ?_ | with_reducible apply Block.caskShow_st K | with_reducible apply Block.celRequest_st K | dsimp only)

theorem Block.caskEmpty_st (K : KeptBySt Q) (b : Block) (hb : Q b.regs) : Q (Block.caskEmpty b).regs := by
  unfold Block.caskEmpty
  repeat' (first | with_reducible assumption | with_reducible refine Block.fset_st K _ _ _ (by first | decide | exact vsOk_notState _ | (left; simp only [F.UPD_CASK_DOWNGRADE, Reg.SYS_STATE, Reg.UPD_CASK, ne_eq]; omega) | (left; split <;> (simp only [F.UPD_CASK_DOWNGRADE, Reg.SYS_STATE, Reg.UPD_CASK, ne_eq]; omega))) ?_ | with_reducible apply Block.caskIn_st K | dsimp only)

theorem Block.caskInvalid_st (K : KeptBySt Q) (b : Block) (code : Nat) (hb : Q b.regs) : Q (Block.caskInvalid b code).regs := by
  unfold Block.caskInvalid
  repeat' (first | with_reducible assumption | with_reducible apply Block.caskIn_st K | with_reducible refine Block.fset_st K _ _ _ (by first | decide | exact vsOk_notState _ | (left; simp only [F.UPD_RES_CODE, Reg.SYS_STATE, Reg.UPD_RES, ne_eq]; omega) | (left; split <;> (simp only [F.UPD_RES_CODE, Reg.SYS_STATE, Reg.UPD_RES, ne_eq]; omega))) ?_ | dsimp only)

theorem Block.updDone_st (K : KeptBySt Q) (b : Block) (code : Nat) (hb : Q b.regs) : Q (Block.updDone b code).regs := by
  unfold Block.updDone
  repeat' (first | with_reducible assumption | with_reducible refine Block.fset_st K _ _ _ (by first | decide | exact vsOk_notState _ | (left; simp only [F.UPD_RES_CODE, Reg.SYS_STATE, Reg.UPD_RES, ne_eq]; omega) | (left; split <;> (simp only [F.UPD_RES_CODE, Reg.SYS_STATE, Reg.UPD_RES, ne_eq]; omega))) ?_ | with_reducible apply Block.raiseEvt_st K | dsimp only)

theorem Block.revertTo_st (K : KeptBySt Q) (b : Block) (v : Vintage) (kind : Nat) (hb : Q b.regs) : Q (Block.revertTo b v kind).regs := by
  unfold Block.revertTo
  repeat' (first | with_reducible assumption | with_reducible refine Block.fsetB_st K _ _ _ (by first | decide | exact vsOk_notState _ | (left; simp only [F.UPD_CASK_DOWNGRADE, Reg.SYS_STATE, Reg.UPD_CASK, ne_eq]; omega) | (left; split <;> (simp only [F.UPD_CASK_DOWNGRADE, Reg.SYS_STATE, Reg.UPD_CASK, ne_eq]; omega))) ?_ | with_reducible apply Block.caskIn_st K | with_reducible apply Block.raiseEvt_st K | dsimp only)

theorem Block.updCommand_st (K : KeptBySt Q) (b : Block) (v : Nat) (hb : Q b.regs) : Q (Block.updCommand b v).regs := by
  unfold Block.updCommand
  repeat' (first | with_reducible assumption | with_reducible refine Block.fset_st K _ _ _ (by first | decide | exact vsOk_notState _ | (left; simp only [F.CEL_STAT_READONLY, F.UPD_CASK_DOWNGRADE, F.UPD_CMD_CMD, Reg.CEL_STAT, Reg.SYS_STATE, Reg.UPD_CASK, Reg.UPD_CMD, ne_eq]; omega) | (left; split <;> (simp only [F.CEL_STAT_READONLY, F.UPD_CASK_DOWNGRADE, F.UPD_CMD_CMD, Reg.CEL_STAT, Reg.SYS_STATE, Reg.UPD_CASK, Reg.UPD_CMD, ne_eq]; omega))) ?_ | with_reducible apply Block.updDone_st K | with_reducible refine Block.fsetB_st K _ _ _ (by first | decide | exact vsOk_notState _ | (left; simp only [F.CEL_STAT_READONLY, F.UPD_CASK_DOWNGRADE, F.UPD_CMD_CMD, Reg.CEL_STAT, Reg.SYS_STATE, Reg.UPD_CASK, Reg.UPD_CMD, ne_eq]; omega) | (left; split <;> (simp only [F.CEL_STAT_READONLY, F.UPD_CASK_DOWNGRADE, F.UPD_CMD_CMD, Reg.CEL_STAT, Reg.SYS_STATE, Reg.UPD_CASK, Reg.UPD_CMD, ne_eq]; omega))) ?_ | with_reducible apply Block.caskIn_st K | with_reducible apply Block.raiseEvt_st K | with_reducible apply Block.endTransfer_st K | with_reducible apply Block.caskEmpty_st K | with_reducible apply Block.revertTo_st K | with_reducible refine ite_keep ?_ ?_ | split | dsimp only | with_reducible refine pair_keep (by with_reducible assumption) ?_ | with_reducible refine pair_keep' (by with_reducible assumption) ?_)

theorem Block.updCmdWrite_st (K : KeptBySt Q) (b : Block) (r : Requester) (v : Nat) (hb : Q b.regs) : Q (Block.updCmdWrite b r v).regs := by
  unfold Block.updCmdWrite
  repeat' (first | with_reducible assumption | with_reducible apply Block.cmdWrite_st K | with_reducible apply Block.updCommand_st K | dsimp only | intro _)

theorem Block.rackAbandon_st (K : KeptBySt Q) (b : Block) (kind phase seg : Nat) (hb : Q b.regs) : Q (Block.rackAbandon b kind phase seg).regs := by
  unfold Block.rackAbandon
  repeat' (first | with_reducible assumption | with_reducible refine Block.fset_st K _ _ _ (by first | decide | exact vsOk_notState _ | (left; simp only [F.UPD_RACK_KIND, F.UPD_RACK_PHASE, F.UPD_RACK_SEGMENT, Reg.SYS_STATE, Reg.UPD_CASK_VIN, Reg.UPD_RACK, ne_eq]; omega) | (left; split <;> (simp only [F.UPD_RACK_KIND, F.UPD_RACK_PHASE, F.UPD_RACK_SEGMENT, Reg.SYS_STATE, Reg.UPD_CASK_VIN, Reg.UPD_RACK, ne_eq]; omega))) ?_ | with_reducible apply Block.caskInvalid_st K | with_reducible apply Block.celRequest_st K | with_reducible apply Block.event_st K | with_reducible refine ite_keep ?_ ?_ | dsimp only)

theorem Block.rackHalt_st (K : KeptBySt Q) (b : Block) (kind phase seg : Nat) (hb : Q b.regs) : Q (Block.rackHalt b kind phase seg).regs := by
  unfold Block.rackHalt
  repeat' (first | with_reducible assumption | with_reducible refine Block.fset_st K _ _ _ (by first | decide | exact vsOk_notState _ | (left; simp only [F.UPD_RACK_KIND, F.UPD_RACK_PHASE, F.UPD_RACK_SEGMENT, Reg.SYS_STATE, Reg.UPD_RACK, ne_eq]; omega) | (left; split <;> (simp only [F.UPD_RACK_KIND, F.UPD_RACK_PHASE, F.UPD_RACK_SEGMENT, Reg.SYS_STATE, Reg.UPD_RACK, ne_eq]; omega))) ?_ | with_reducible apply Block.celRequest_st K | with_reducible refine ite_keep ?_ ?_ | dsimp only)

theorem Block.rackFirmware_st (K : KeptBySt Q) (b : Block) (m : Manifest) (payload : List Nat) (hb : Q b.regs) : Q (Block.rackFirmware b m payload).regs := by
  unfold Block.rackFirmware
  repeat' (first | with_reducible assumption | with_reducible refine Block.setRegN_st K _ _ _ (by first | decide | (simp only [F.SYS_STATE_PROBATION, Reg.BLK_STAT, Reg.SYS_STATE, Reg.UPD_PROBE, secRevoked, ne_eq]; omega) | (split <;> decide)) ?_ | with_reducible refine Block.fset_st K _ _ _ (by first | decide | exact vsOk_notState _ | (left; simp only [F.SYS_STATE_PROBATION, Reg.BLK_STAT, Reg.SYS_STATE, Reg.UPD_PROBE, secRevoked, ne_eq]; omega) | (left; split <;> (simp only [F.SYS_STATE_PROBATION, Reg.BLK_STAT, Reg.SYS_STATE, Reg.UPD_PROBE, secRevoked, ne_eq]; omega))) ?_ | with_reducible refine Block.when_keep _ _ _ ?_ (fun _ => ?_) | with_reducible apply Block.raiseEvt_st K | with_reducible refine ite_keep ?_ ?_ | dsimp only | intro _)

theorem Block.rackApplication_st (K : KeptBySt Q) (b : Block) (m : Manifest) (payload : List Nat) (hb : Q b.regs) : Q (Block.rackApplication b m payload).regs := by
  unfold Block.rackApplication
  repeat' (first | with_reducible assumption | dsimp only)

theorem Block.rack_st (K : KeptBySt Q) (b : Block) (stop : Option (Fin 4 × Nat)) (hb : Q b.regs) : Q (Block.rack b stop).regs := by
  unfold Block.rack
  repeat' (first | with_reducible assumption | with_reducible apply Block.rackAbandon_st K | with_reducible apply Block.rackFirmware_st K | with_reducible apply Block.rackApplication_st K | with_reducible refine Block.setRegN_st K _ _ _ (by first | decide | (simp only [F.CEL_STAT_READONLY, Reg.CEL_STAT, Reg.SYS_STATE, Reg.UPD_CASK, Reg.UPD_CASK_VIN, Reg.UPD_RACK, ne_eq]; omega) | (split <;> decide)) ?_ | with_reducible apply Block.celRequest_st K | with_reducible apply Block.event_st K | with_reducible apply Block.caskEmpty_st K | with_reducible apply Block.vinShow_st K | with_reducible refine ite_keep ?_ ?_ | split | dsimp only | with_reducible refine pair_keep (by with_reducible assumption) ?_ | with_reducible refine pair_keep' (by with_reducible assumption) ?_)

theorem Block.freshen_st (K : KeptBySt Q) (b : Block) (restart : Bool) (hb : Q b.regs) : Q (Block.freshen b restart).regs := by
  unfold Block.freshen
  repeat' (first | with_reducible assumption | with_reducible refine ite_keep ?_ ?_ | dsimp only)

theorem Block.powerGood_st (K : KeptBySt Q) (b : Block) (unitSel : Nat) (hb : Q b.regs) : Q (Block.powerGood b unitSel).regs := by
  unfold Block.powerGood
  repeat' (first | with_reducible assumption | with_reducible apply Block.sfpShow_st K | with_reducible apply Block.setNow_st K | with_reducible refine Block.fset_st K _ _ _ (by first | decide | exact vsOk_notState _ | (left; simp only [F.RTC_STAT_VALID, F.TSU_STAT_TIME_VALID, Reg.EVR_OPTIME_LO, Reg.RTC_STAT, Reg.SYS_STATE, Reg.TSU_STAT, ne_eq]; omega) | (left; split <;> (simp only [F.RTC_STAT_VALID, F.TSU_STAT_TIME_VALID, Reg.EVR_OPTIME_LO, Reg.RTC_STAT, Reg.SYS_STATE, Reg.TSU_STAT, ne_eq]; omega))) ?_ | with_reducible refine Block.setPair_st K _ _ _ (by first | decide | (simp only [F.RTC_STAT_VALID, F.TSU_STAT_TIME_VALID, Reg.EVR_OPTIME_LO, Reg.RTC_STAT, Reg.SYS_STATE, Reg.TSU_STAT, ne_eq]; omega) | (split <;> decide)) (by first | decide | (simp only [F.RTC_STAT_VALID, F.TSU_STAT_TIME_VALID, Reg.EVR_OPTIME_LO, Reg.RTC_STAT, Reg.SYS_STATE, Reg.TSU_STAT, ne_eq]; omega) | (split <;> decide)) ?_ | dsimp only)

theorem Block.countStart_st (K : KeptBySt Q) (b : Block) (hb : Q b.regs) : Q (Block.countStart b).regs := by
  unfold Block.countStart
  repeat' (first | with_reducible assumption | with_reducible refine Block.incWrap_st K _ _ (by first | decide | exact vsOk_notState _ | (left; simp only [F.EVR_PCC_COUNT, F.RED_STAT_UNIT_A, F.SYS_STATE_STEP, Reg.EVR_PCC, Reg.RED_STAT, Reg.SYS_STATE, ne_eq]; omega) | (left; split <;> (simp only [F.EVR_PCC_COUNT, F.RED_STAT_UNIT_A, F.SYS_STATE_STEP, Reg.EVR_PCC, Reg.RED_STAT, Reg.SYS_STATE, ne_eq]; omega))) ?_ | with_reducible apply Block.celRequest_st K | with_reducible refine Block.fset_st K _ _ _ (by first | decide | exact vsOk_notState _ | (left; simp only [F.EVR_PCC_COUNT, F.RED_STAT_UNIT_A, F.SYS_STATE_STEP, Reg.EVR_PCC, Reg.RED_STAT, Reg.SYS_STATE, ne_eq]; omega) | (left; split <;> (simp only [F.EVR_PCC_COUNT, F.RED_STAT_UNIT_A, F.SYS_STATE_STEP, Reg.EVR_PCC, Reg.RED_STAT, Reg.SYS_STATE, ne_eq]; omega))) ?_ | with_reducible refine Block.fsetB_st K _ _ _ (by first | decide | exact vsOk_notState _ | (left; simp only [F.EVR_PCC_COUNT, F.RED_STAT_UNIT_A, F.SYS_STATE_STEP, Reg.EVR_PCC, Reg.RED_STAT, Reg.SYS_STATE, ne_eq]; omega) | (left; split <;> (simp only [F.EVR_PCC_COUNT, F.RED_STAT_UNIT_A, F.SYS_STATE_STEP, Reg.EVR_PCC, Reg.RED_STAT, Reg.SYS_STATE, ne_eq]; omega))) ?_ | dsimp only)

theorem Block.bootFallback_st (K : KeptBySt Q) (b : Block) (hb : Q b.regs) : Q (Block.bootFallback b).regs := by
  unfold Block.bootFallback
  repeat' (first | with_reducible assumption | with_reducible refine Block.fset_st K _ _ _ (by first | decide | exact vsOk_notState _ | (left; simp only [F.SYS_STATE_ON_FALLBACK, Reg.SYS_STATE, ne_eq]; omega) | (left; split <;> (simp only [F.SYS_STATE_ON_FALLBACK, Reg.SYS_STATE, ne_eq]; omega))) ?_ | with_reducible apply Block.raiseEvt_st K | dsimp only)

theorem Block.areaState_st (K : KeptBySt Q) (b : Block) (k : Nat) (bad : Bool) (hb : Q b.regs) : Q (Block.areaState b k bad).regs := by
  unfold Block.areaState
  repeat' (first | with_reducible assumption | with_reducible refine Block.fset_st K _ _ _ (by first | decide | exact vsOk_notState _ | (left; simp only [Reg.CEL_AREA, Reg.SYS_STATE, ne_eq]; omega) | (left; split <;> (simp only [Reg.CEL_AREA, Reg.SYS_STATE, ne_eq]; omega))) ?_ | with_reducible refine ite_keep ?_ ?_ | dsimp only)

theorem Block.boot_st (K : KeptBySt Q) (b : Block) (i : StartIn) (hb : Q b.regs) : Q (Block.boot b i).regs := by
  unfold Block.boot
  repeat' (first | with_reducible assumption | with_reducible refine Block.fset_st K _ _ _ (by first | decide | exact vsOk_notState _ | (left; simp only [F.SYS_STATE_PROBATION, F.SYS_STATE_STEP, F.UPD_PROBE_FAILS, Reg.SYS_STATE, Reg.UPD_FW_FB, Reg.UPD_PROBE, ne_eq]; omega) | (left; split <;> (simp only [F.SYS_STATE_PROBATION, F.SYS_STATE_STEP, F.UPD_PROBE_FAILS, Reg.SYS_STATE, Reg.UPD_FW_FB, Reg.UPD_PROBE, ne_eq]; omega))) ?_ | with_reducible apply Block.bootFallback_st K | with_reducible apply Block.event_st K | with_reducible refine Block.when_keep _ _ _ ?_ (fun _ => ?_) | with_reducible apply Block.areaState_st K | with_reducible refine ite_keep ?_ ?_ | dsimp only | intro _)

theorem Block.startRack_st (K : KeptBySt Q) (b : Block) (i : StartIn) (hb : Q b.regs) : Q (Block.startRack b i).regs := by
  unfold Block.startRack
  repeat' (first | with_reducible assumption | with_reducible refine Block.when_keep _ _ _ ?_ (fun _ => ?_) | with_reducible refine Block.fset_st K _ _ _ (by first | decide | exact vsOk_notState _ | (left; simp only [F.SYS_STATE_ON_FALLBACK, F.SYS_STATE_STEP, F.UPD_CASK_KIND, F.UPD_PROBE_FAILS, Reg.SYS_STATE, Reg.UPD_CASK, Reg.UPD_PROBE, ne_eq]; omega) | (left; split <;> (simp only [F.SYS_STATE_ON_FALLBACK, F.SYS_STATE_STEP, F.UPD_CASK_KIND, F.UPD_PROBE_FAILS, Reg.SYS_STATE, Reg.UPD_CASK, Reg.UPD_PROBE, ne_eq]; omega))) ?_ | with_reducible apply Block.rack_st K | with_reducible apply Block.vinShow_st K | with_reducible apply Block.bootFallback_st K | with_reducible refine ite_keep ?_ ?_ | dsimp only | intro _)

theorem Block.startEngine_st (K : KeptBySt Q) (b : Block) (n fail : Nat) (hb : Q b.regs) : Q (Block.startEngine b n fail).regs := by
  unfold Block.startEngine
  repeat' (first | with_reducible assumption | with_reducible refine Block.fset_st K _ _ _ (by first | decide | exact vsOk_notState _ | (left; simp only [F.BLK_STAT_FAULT, F.BLK_STAT_READY, F.ENG_STATE_STATE, F.ENG_TEST_FAIL_CODE, F.ENG_TEST_RESULT, Reg.BLK_STAT, Reg.ENG_STATE, Reg.ENG_TEST, Reg.SYS_STATE, ne_eq]; omega) | (left; split <;> (simp only [F.BLK_STAT_FAULT, F.BLK_STAT_READY, F.ENG_STATE_STATE, F.ENG_TEST_FAIL_CODE, F.ENG_TEST_RESULT, Reg.BLK_STAT, Reg.ENG_STATE, Reg.ENG_TEST, Reg.SYS_STATE, ne_eq]; omega))) ?_ | with_reducible apply Block.raiseEvt_st K | with_reducible apply Block.setAvail_st K | with_reducible apply Block.modEng_st K | with_reducible refine ite_keep ?_ ?_ | dsimp only | intro _)

theorem Block.startSolver_st (K : KeptBySt Q) (b : Block) (i : StartIn) (hb : Q b.regs) : Q (Block.startSolver b i).regs := by
  unfold Block.startSolver
  repeat' (first | with_reducible assumption | with_reducible refine Block.fset_st K _ _ _ (by first | decide | exact vsOk_notState _ | (left; simp only [F.SOL_TEST_DIV_OK, F.SOL_TEST_FAIL_CODE, F.SOL_TEST_GROUP_OK, Reg.SOL_TEST, Reg.SYS_STATE, ne_eq]; omega) | (left; split <;> (simp only [F.SOL_TEST_DIV_OK, F.SOL_TEST_FAIL_CODE, F.SOL_TEST_GROUP_OK, Reg.SOL_TEST, Reg.SYS_STATE, ne_eq]; omega))) ?_ | with_reducible refine Block.fsetB_st K _ _ _ (by first | decide | exact vsOk_notState _ | (left; simp only [F.SOL_TEST_DIV_OK, F.SOL_TEST_FAIL_CODE, F.SOL_TEST_GROUP_OK, Reg.SOL_TEST, Reg.SYS_STATE, ne_eq]; omega) | (left; split <;> (simp only [F.SOL_TEST_DIV_OK, F.SOL_TEST_FAIL_CODE, F.SOL_TEST_GROUP_OK, Reg.SOL_TEST, Reg.SYS_STATE, ne_eq]; omega))) ?_ | with_reducible apply Block.solFail_st K | with_reducible refine Block.when_keep _ _ _ ?_ (fun _ => ?_) | with_reducible apply Block.raiseEvt_st K | with_reducible apply Block.solShow_st K | with_reducible apply Block.solStoreShow_st K | with_reducible refine ite_keep ?_ ?_ | dsimp only | intro _)

theorem Block.areaUsed_st (K : KeptBySt Q) (b : Block) (k : Nat) (hb : Q b.regs) : Q (Block.areaUsed b k).regs := by
  unfold Block.areaUsed
  repeat' (first | with_reducible assumption | with_reducible apply Block.free_st K | with_reducible refine Block.fset_st K _ _ _ (by first | decide | exact vsOk_notState _ | (left; simp only [Reg.CEL_AREA, Reg.SYS_STATE, ne_eq]; omega) | (left; split <;> (simp only [Reg.CEL_AREA, Reg.SYS_STATE, ne_eq]; omega))) ?_ | split | dsimp only | with_reducible refine pair_keep (by with_reducible assumption) ?_ | with_reducible refine pair_keep' (by with_reducible assumption) ?_)

theorem Block.startCellar_st (K : KeptBySt Q) (b : Block) (i : StartIn) (hb : Q b.regs) : Q (Block.startCellar b i).regs := by
  unfold Block.startCellar
  repeat' (first | with_reducible assumption | with_reducible refine Block.fset_st K _ _ _ (by first | decide | exact vsOk_notState _ | (left; simp only [F.CEL_LIFE_SPARE, F.CEL_LIFE_USED, F.CEL_STAT_LIFE_WARN, F.CEL_STAT_READONLY, F.CEL_STAT_READY, Reg.CEL_AREA, Reg.CEL_LIFE, Reg.CEL_STAT, Reg.SYS_STATE, ne_eq]; omega) | (left; split <;> (simp only [F.CEL_LIFE_SPARE, F.CEL_LIFE_USED, F.CEL_STAT_LIFE_WARN, F.CEL_STAT_READONLY, F.CEL_STAT_READY, Reg.CEL_AREA, Reg.CEL_LIFE, Reg.CEL_STAT, Reg.SYS_STATE, ne_eq]; omega))) ?_ | with_reducible refine Block.when_keep _ _ _ ?_ (fun _ => ?_) | with_reducible apply Block.raiseEvt_st K | with_reducible refine Block.fsetB_st K _ _ _ (by first | decide | exact vsOk_notState _ | (left; simp only [F.CEL_LIFE_SPARE, F.CEL_LIFE_USED, F.CEL_STAT_LIFE_WARN, F.CEL_STAT_READONLY, F.CEL_STAT_READY, Reg.CEL_AREA, Reg.CEL_LIFE, Reg.CEL_STAT, Reg.SYS_STATE, ne_eq]; omega) | (left; split <;> (simp only [F.CEL_LIFE_SPARE, F.CEL_LIFE_USED, F.CEL_STAT_LIFE_WARN, F.CEL_STAT_READONLY, F.CEL_STAT_READY, Reg.CEL_AREA, Reg.CEL_LIFE, Reg.CEL_STAT, Reg.SYS_STATE, ne_eq]; omega))) ?_ | with_reducible refine Block.forAll_keep _ _ _ ?_ (fun _ _ _ => ?_) | with_reducible apply Block.areaUsed_st K | dsimp only | intro _)

theorem Block.startLost_st (K : KeptBySt Q) (b : Block) (i : StartIn) (hb : Q b.regs) : Q (Block.startLost b i).regs := by
  unfold Block.startLost
  repeat' (first | with_reducible assumption | with_reducible refine Block.forAll_keep _ _ _ ?_ (fun _ _ _ => ?_) | with_reducible refine Block.setRegN_st K _ _ _ (by first | decide | (simp only [F.CH_CAL_INFO_SOURCE, Reg.CEL_AREA, Reg.CH_CAL_INFO, Reg.CH_TRIM_GAIN, Reg.CH_TRIM_ZERO, Reg.SYS_STATE, Reg.TSU_TRIM, chPage, ne_eq]; omega) | (split <;> decide)) ?_ | with_reducible refine Block.fset_st K _ _ _ (by first | decide | exact vsOk_notState _ | (left; simp only [F.CH_CAL_INFO_SOURCE, Reg.CEL_AREA, Reg.CH_CAL_INFO, Reg.CH_TRIM_GAIN, Reg.CH_TRIM_ZERO, Reg.SYS_STATE, Reg.TSU_TRIM, chPage, ne_eq]; omega) | (left; split <;> (simp only [F.CH_CAL_INFO_SOURCE, Reg.CEL_AREA, Reg.CH_CAL_INFO, Reg.CH_TRIM_GAIN, Reg.CH_TRIM_ZERO, Reg.SYS_STATE, Reg.TSU_TRIM, chPage, ne_eq]; omega))) ?_ | with_reducible apply Block.recRegs_st K | with_reducible apply Block.lockout_st K | split | dsimp only | with_reducible refine pair_keep (by with_reducible assumption) ?_ | with_reducible refine pair_keep' (by with_reducible assumption) ?_ | intro _)

theorem Block.islTested_st (K : KeptBySt Q) (b : Block) (passed : Bool) (hb : Q b.regs) : Q (Block.islTested b passed).regs := by
  unfold Block.islTested
  repeat' (first | with_reducible assumption | with_reducible refine Block.fset_st K _ _ _ (by first | decide | exact vsOk_notState _ | (left; simp only [F.SAF_TEST_FAIL_CODE, F.SAF_TEST_RESULT, Reg.SAF_TEST, Reg.SYS_STATE, ne_eq]; omega) | (left; split <;> (simp only [F.SAF_TEST_FAIL_CODE, F.SAF_TEST_RESULT, Reg.SAF_TEST, Reg.SYS_STATE, ne_eq]; omega))) ?_ | with_reducible apply Block.raiseEvt_st K | with_reducible apply Block.free_st K | with_reducible refine ite_keep ?_ ?_ | split | dsimp only | with_reducible refine pair_keep (by with_reducible assumption) ?_ | with_reducible refine pair_keep' (by with_reducible assumption) ?_)

theorem Block.startIsland_st (K : KeptBySt Q) (b : Block) (cause : Nat) (hb : Q b.regs) : Q (Block.startIsland b cause).regs := by
  unfold Block.startIsland
  repeat' (first | with_reducible assumption | with_reducible refine Block.fset_st K _ _ _ (by first | decide | exact vsOk_notState _ | (left; simp only [F.SAF_CLOCK_OSC_OK, F.SAF_STATE_STATE, F.SAF_STATE_SX_OK, F.SAF_STATE_SY_OK, Reg.SAF_CLOCK, Reg.SAF_STATE, Reg.SYS_STATE, ne_eq]; omega) | (left; split <;> (simp only [F.SAF_CLOCK_OSC_OK, F.SAF_STATE_STATE, F.SAF_STATE_SX_OK, F.SAF_STATE_SY_OK, Reg.SAF_CLOCK, Reg.SAF_STATE, Reg.SYS_STATE, ne_eq]; omega))) ?_ | with_reducible refine Block.fsetB_st K _ _ _ (by first | decide | exact vsOk_notState _ | (left; simp only [F.SAF_CLOCK_OSC_OK, F.SAF_STATE_STATE, F.SAF_STATE_SX_OK, F.SAF_STATE_SY_OK, Reg.SAF_CLOCK, Reg.SAF_STATE, Reg.SYS_STATE, ne_eq]; omega) | (left; split <;> (simp only [F.SAF_CLOCK_OSC_OK, F.SAF_STATE_STATE, F.SAF_STATE_SX_OK, F.SAF_STATE_SY_OK, Reg.SAF_CLOCK, Reg.SAF_STATE, Reg.SYS_STATE, ne_eq]; omega))) ?_ | with_reducible apply Block.islTested_st K | with_reducible apply Block.lockout_st K | with_reducible refine ite_keep ?_ ?_ | dsimp only)

theorem Block.startConflicts_st (K : KeptBySt Q) (b : Block) (p : Prog) (hb : Q b.regs) : Q (Block.startConflicts b p).regs := by
  unfold Block.startConflicts
  repeat' (first | with_reducible assumption | with_reducible refine Block.when_keep _ _ _ ?_ (fun _ => ?_) | with_reducible refine Block.fset_st K _ _ _ (by first | decide | exact vsOk_notState _ | (left; simp only [F.ABS0_RELOCK_STEP_MAX, F.RED_CFG_HB_EN, Reg.ABS0_RELOCK, Reg.RED_CFG, Reg.SYS_STATE, ne_eq]; omega) | (left; split <;> (simp only [F.ABS0_RELOCK_STEP_MAX, F.RED_CFG_HB_EN, Reg.ABS0_RELOCK, Reg.RED_CFG, Reg.SYS_STATE, ne_eq]; omega))) ?_ | with_reducible apply Block.celRequest_st K | with_reducible apply Block.recRegs_st K | dsimp only | intro _)

theorem Block.startRefused_st (K : KeptBySt Q) (b : Block) (hb : Q b.regs) : Q (Block.startRefused b).regs := by
  unfold Block.startRefused
  repeat' (first | with_reducible assumption | with_reducible refine Block.forAll_keep _ _ _ ?_ (fun _ _ _ => ?_) | with_reducible apply Block.unloadCtx_st K | with_reducible apply Block.showOwners_st K | with_reducible apply Block.showDecl_st K | with_reducible apply Block.solBind_st K | with_reducible apply Block.clearOutputs_st K | with_reducible apply Block.islTakeUp_st K | with_reducible apply Block.lnkTakeUp_st K | with_reducible apply Block.canTakeUp_st K | with_reducible apply Block.credFollow_st K | with_reducible apply Block.frcIdle_st K | with_reducible apply Block.placeAll_st K | dsimp only)

theorem Block.startApp_st (K : KeptBySt Q) (b : Block) (v : Vintage) (hb : Q b.regs) : Q (Block.startApp b v).regs := by
  unfold Block.startApp
  repeat' (first | with_reducible assumption | with_reducible apply Block.startConflicts_st K | with_reducible apply Block.loadRecord_st K | with_reducible apply Block.startRefused_st K | with_reducible apply Block.installProg_st K | with_reducible apply Block.placeAll_st K | with_reducible apply Block.frcLoad_st K | with_reducible refine Block.forAll_keep _ _ _ ?_ (fun _ _ _ => ?_) | with_reducible apply Block.aimCtx_st K | with_reducible apply Block.patLoad_st K | split | dsimp only | with_reducible refine pair_keep (by with_reducible assumption) ?_ | with_reducible refine pair_keep' (by with_reducible assumption) ?_ | intro _)

theorem Block.startMarker_st (K : KeptBySt Q) (b : Block) (hb : Q b.regs) : Q (Block.startMarker b).regs := by
  unfold Block.startMarker
  repeat' (first | with_reducible assumption | with_reducible apply Block.recRegs_st K | split | dsimp only | with_reducible refine pair_keep (by with_reducible assumption) ?_ | with_reducible refine pair_keep' (by with_reducible assumption) ?_)

theorem Block.startTime_st (K : KeptBySt Q) (b : Block) (restart : Bool) (hb : Q b.regs) : Q (Block.startTime b restart).regs := by
  unfold Block.startTime
  repeat' (first | with_reducible assumption | with_reducible refine Block.setRegN_st K _ _ _ (by first | decide | (simp only [F.RTC_STAT_VALID, Reg.RTC_STAT, Reg.SYS_STATE, Reg.TSU_RATE, Reg.TSU_TRIM, ne_eq]; omega) | (split <;> decide)) ?_ | with_reducible refine Block.when_keep _ _ _ ?_ (fun _ => ?_) | with_reducible apply Block.raiseEvt_st K | with_reducible apply Block.setNow_st K | split | dsimp only | with_reducible refine pair_keep (by with_reducible assumption) ?_ | with_reducible refine pair_keep' (by with_reducible assumption) ?_ | intro _)

theorem Block.startRecords_st (K : KeptBySt Q) (b : Block) (restart : Bool) (hb : Q b.regs) : Q (Block.startRecords b restart).regs := by
  unfold Block.startRecords
  repeat' (first | with_reducible assumption | with_reducible apply Block.recAccept_st K | with_reducible refine Block.when_keep _ _ _ ?_ (fun _ => ?_) | with_reducible apply Block.timeMark_st K | dsimp only | intro _)

theorem Block.startTripped_st (K : KeptBySt Q) (b : Block) (hb : Q b.regs) : Q (Block.startTripped b).regs := by
  unfold Block.startTripped
  repeat' (first | with_reducible assumption | with_reducible refine Block.fset_st K _ _ _ (by first | decide | exact vsOk_notState _ | (left; simp only [F.PWR_THERM_TRIPPED, Reg.PWR_THERM, Reg.SYS_STATE, ne_eq]; omega) | (left; split <;> (simp only [F.PWR_THERM_TRIPPED, Reg.PWR_THERM, Reg.SYS_STATE, ne_eq]; omega))) ?_ | with_reducible apply Block.event_st K | with_reducible refine ite_keep ?_ ?_ | dsimp only)

theorem Block.startBands_st (K : KeptBySt Q) (b : Block) (hb : Q b.regs) : Q (Block.startBands b).regs := by
  unfold Block.startBands
  repeat' (first | with_reducible assumption | with_reducible refine Block.forAll_keep _ _ _ ?_ (fun _ _ _ => ?_) | with_reducible refine Block.fset_st K _ _ _ (by first | decide | exact vsOk_notState _ | (left; simp only [F.DSB_BAND_FRAMES, F.DSB_BAND_LOWER, F.DSB_BAND_VDRV, Reg.DSB_BAND, Reg.SYS_STATE, ne_eq]; omega) | (left; split <;> (simp only [F.DSB_BAND_FRAMES, F.DSB_BAND_LOWER, F.DSB_BAND_VDRV, Reg.DSB_BAND, Reg.SYS_STATE, ne_eq]; omega))) ?_ | with_reducible refine ite_keep ?_ ?_ | dsimp only | intro _)

theorem Block.startSettings_st (K : KeptBySt Q) (b : Block) (hb : Q b.regs) : Q (Block.startSettings b).regs := by
  unfold Block.startSettings
  repeat' (first | with_reducible assumption | with_reducible apply Block.ipTake_st K | with_reducible refine Block.setRegN_st K _ _ _ (by first | decide | (simp only [F.ABS1_STAT_STATE, Reg.ABS0_FREQ, Reg.ABS1_STAT, Reg.SYS_STATE, ne_eq]; omega) | (split <;> decide)) ?_ | with_reducible refine Block.fset_st K _ _ _ (by first | decide | exact vsOk_notState _ | (left; simp only [F.ABS1_STAT_STATE, Reg.ABS0_FREQ, Reg.ABS1_STAT, Reg.SYS_STATE, ne_eq]; omega) | (left; split <;> (simp only [F.ABS1_STAT_STATE, Reg.ABS0_FREQ, Reg.ABS1_STAT, Reg.SYS_STATE, ne_eq]; omega))) ?_ | with_reducible apply Block.vinShow_st K | with_reducible refine ite_keep ?_ ?_ | dsimp only)

theorem Block.startImage_st (K : KeptBySt Q) (b : Block) (hb : Q b.regs) : Q (Block.startImage b).regs := by
  unfold Block.startImage
  repeat' (first | with_reducible assumption | with_reducible apply Block.startApp_st K | with_reducible apply Block.startRefused_st K | split | dsimp only | with_reducible refine pair_keep (by with_reducible assumption) ?_ | with_reducible refine pair_keep' (by with_reducible assumption) ?_)

theorem Block.startVersions_st (K : KeptBySt Q) (b : Block) (hb : Q b.regs) : Q (Block.startVersions b).regs := by
  unfold Block.startVersions
  repeat' (first | with_reducible assumption | with_reducible refine Block.setRegN_st K _ _ _ (by first | decide | (simp only [Reg.BLK_CAP, Reg.SYS_STATE, ne_eq]; omega) | (split <;> decide)) ?_ | dsimp only)

theorem Block.startLoad_st (K : KeptBySt Q) (b : Block) (restart : Bool) (i : StartIn) (hb : Q b.regs) : Q (Block.startLoad b restart i).regs := by
  unfold Block.startLoad
  repeat' (first | with_reducible assumption | with_reducible refine Block.fset_st K _ _ _ (by first | decide | exact vsOk_notState _ | (left; simp only [F.SYS_STATE_STEP, Reg.SYS_STATE, ne_eq]; omega) | (left; split <;> (simp only [F.SYS_STATE_STEP, Reg.SYS_STATE, ne_eq]; omega))) ?_ | with_reducible apply Block.startTripped_st K | with_reducible apply Block.startBands_st K | with_reducible apply Block.startLost_st K | with_reducible apply Block.startIsland_st K | with_reducible apply Block.startMarker_st K | with_reducible apply Block.startSettings_st K | with_reducible apply Block.startImage_st K | with_reducible apply Block.hbFollow_st K | with_reducible refine Block.forAll_keep _ _ _ ?_ (fun _ _ _ => ?_) | with_reducible apply Block.canTakeMode_st K | with_reducible apply Block.startVersions_st K | with_reducible apply Block.startTime_st K | with_reducible apply Block.startRecords_st K | dsimp only)

theorem Block.startChannels_st (K : KeptBySt Q) (b : Block) (hb : Q b.regs) : Q (Block.startChannels b).regs := by
  unfold Block.startChannels
  repeat' (first | with_reducible assumption | with_reducible refine Block.fset_st K _ _ _ (by first | decide | exact vsOk_notState _ | (left; simp only [F.CH_STAT_FIELD, F.SYS_STATE_STEP, Reg.CH_STAT, Reg.SYS_STATE, ne_eq]; omega) | (left; split <;> (simp only [F.CH_STAT_FIELD, F.SYS_STATE_STEP, Reg.CH_STAT, Reg.SYS_STATE, ne_eq]; omega))) ?_ | with_reducible refine Block.forAll_keep _ _ _ ?_ (fun _ _ _ => ?_) | with_reducible refine Block.fsetB_st K _ _ _ (by first | decide | exact vsOk_notState _ | (left; simp only [F.CH_STAT_FIELD, F.SYS_STATE_STEP, Reg.CH_STAT, Reg.SYS_STATE, ne_eq]; omega) | (left; split <;> (simp only [F.CH_STAT_FIELD, F.SYS_STATE_STEP, Reg.CH_STAT, Reg.SYS_STATE, ne_eq]; omega))) ?_ | with_reducible apply Block.hartTakeUp_st K | with_reducible apply Block.hartPool_st K | with_reducible apply Block.chRefreshAll_st K | dsimp only | intro _)

theorem Block.awaitJoin_st (K : KeptBySt Q) (b : Block) (hb : Q b.regs) : Q (Block.awaitJoin b).regs := keep_red _ hb

theorem Block.baseOut_st (K : KeptBySt Q) (b : Block) (hb : Q b.regs) : Q (Block.baseOut b).regs := by
  unfold Block.baseOut
  refine Block.when_keep_eq rfl hb ?_
  intro h
  exact Block.setRole_st K b roleOut h

theorem Block.recovery_st (K : KeptBySt Q) (b : Block) (hb : Q b.regs) : Q (Block.recovery b).regs := by
  unfold Block.recovery
  repeat' (first | with_reducible assumption | with_reducible apply Block.ipTake_st K | with_reducible refine Block.fset_st K _ _ _ (by first | decide | exact vsOk_notState _ | (left; simp only [F.SYS_STATE_CAUSE, F.SYS_STATE_STEP, Reg.SYS_STATE, ne_eq]; omega) | (left; split <;> (simp only [F.SYS_STATE_CAUSE, F.SYS_STATE_STEP, Reg.SYS_STATE, ne_eq]; omega))) ?_ | with_reducible apply Block.baseOut_st K | dsimp only)

theorem Block.sysDone_st (K : KeptBySt Q) (b : Block) (code : Nat) (hb : Q b.regs) : Q (Block.sysDone b code).regs := by
  unfold Block.sysDone
  repeat' (first | with_reducible assumption | with_reducible refine Block.fset_st K _ _ _ (by first | decide | exact vsOk_notState _ | (left; simp only [F.SYS_RES_CODE, Reg.SYS_RES, Reg.SYS_STATE, ne_eq]; omega) | (left; split <;> (simp only [F.SYS_RES_CODE, Reg.SYS_RES, Reg.SYS_STATE, ne_eq]; omega))) ?_ | with_reducible apply Block.raiseEvt_st K | dsimp only)

theorem Block.prpNode_st (K : KeptBySt Q) (b : Block) (mac : Nat) (hb : Q b.regs) : Q (Block.prpNode b mac).1.regs := by
  unfold Block.prpNode
  repeat' (first | with_reducible assumption | with_reducible refine Block.fset_st K _ _ _ (by first | decide | exact vsOk_notState _ | (left; simp only [F.PRP_STAT_NODES, Reg.PRP_STAT, Reg.SYS_STATE, ne_eq]; omega) | (left; split <;> (simp only [F.PRP_STAT_NODES, Reg.PRP_STAT, Reg.SYS_STATE, ne_eq]; omega))) ?_ | with_reducible apply Block.raiseEvt_st K | with_reducible refine ite_keep ?_ ?_ | split | dsimp only | intro _)

theorem Block.passUp_st (K : KeptBySt Q) (b : Block) (f : PrpRx) (hb : Q b.regs) : Q (Block.passUp b f).regs := by
  unfold Block.passUp
  repeat' (first | with_reducible assumption | with_reducible refine Block.incSat_st K _ _ (by first | decide | exact vsOk_notState _ | (left; simp only [F.NET_FRAG_CNT_COUNT, Reg.NET_FRAG_CNT, Reg.SYS_STATE, ne_eq]; omega) | (left; split <;> (simp only [F.NET_FRAG_CNT_COUNT, Reg.NET_FRAG_CNT, Reg.SYS_STATE, ne_eq]; omega))) ?_ | with_reducible apply Block.send_st K | with_reducible refine ite_keep ?_ ?_ | dsimp only)

theorem Block.lanHeard_st (K : KeptBySt Q) (b : Block) (portB : Bool) (hb : Q b.regs) : Q (Block.lanHeard b portB).regs := by
  unfold Block.lanHeard
  repeat' (first | with_reducible assumption | with_reducible refine ite_keep ?_ ?_ | dsimp only)

theorem Block.setPtpPort_st (K : KeptBySt Q) (b : Block) (portB : Bool) (p : PtpPort) (hb : Q b.regs) : Q (Block.setPtpPort b portB p).regs := by
  unfold Block.setPtpPort
  repeat' (first | with_reducible assumption | with_reducible refine ite_keep ?_ ?_ | dsimp only)

theorem Block.ptpShow_st (K : KeptBySt Q) (b : Block) (hb : Q b.regs) : Q (Block.ptpShow b).regs := by
  unfold Block.ptpShow
  repeat' (first | with_reducible assumption | with_reducible refine Block.setPair_st K _ _ _ (by first | decide | (simp only [F.PTP_STAT_GM_CLASS, F.PTP_UTC_OFFSET, F.PTP_UTC_VALID, Reg.PTP_GM_LO, Reg.PTP_MPD, Reg.PTP_STAT, Reg.PTP_UTC, Reg.SYS_STATE, ne_eq]; omega) | (split <;> decide)) (by first | decide | (simp only [F.PTP_STAT_GM_CLASS, F.PTP_UTC_OFFSET, F.PTP_UTC_VALID, Reg.PTP_GM_LO, Reg.PTP_MPD, Reg.PTP_STAT, Reg.PTP_UTC, Reg.SYS_STATE, ne_eq]; omega) | (split <;> decide)) ?_ | with_reducible refine Block.fset_st K _ _ _ (by first | decide | exact vsOk_notState _ | (left; simp only [F.PTP_STAT_GM_CLASS, F.PTP_UTC_OFFSET, F.PTP_UTC_VALID, Reg.PTP_GM_LO, Reg.PTP_MPD, Reg.PTP_STAT, Reg.PTP_UTC, Reg.SYS_STATE, ne_eq]; omega) | (left; split <;> (simp only [F.PTP_STAT_GM_CLASS, F.PTP_UTC_OFFSET, F.PTP_UTC_VALID, Reg.PTP_GM_LO, Reg.PTP_MPD, Reg.PTP_STAT, Reg.PTP_UTC, Reg.SYS_STATE, ne_eq]; omega))) ?_ | with_reducible refine Block.setRegN_st K _ _ _ (by first | decide | (simp only [F.PTP_STAT_GM_CLASS, F.PTP_UTC_OFFSET, F.PTP_UTC_VALID, Reg.PTP_GM_LO, Reg.PTP_MPD, Reg.PTP_STAT, Reg.PTP_UTC, Reg.SYS_STATE, ne_eq]; omega) | (split <;> decide)) ?_ | with_reducible refine Block.fsetB_st K _ _ _ (by first | decide | exact vsOk_notState _ | (left; simp only [F.PTP_STAT_GM_CLASS, F.PTP_UTC_OFFSET, F.PTP_UTC_VALID, Reg.PTP_GM_LO, Reg.PTP_MPD, Reg.PTP_STAT, Reg.PTP_UTC, Reg.SYS_STATE, ne_eq]; omega) | (left; split <;> (simp only [F.PTP_STAT_GM_CLASS, F.PTP_UTC_OFFSET, F.PTP_UTC_VALID, Reg.PTP_GM_LO, Reg.PTP_MPD, Reg.PTP_STAT, Reg.PTP_UTC, Reg.SYS_STATE, ne_eq]; omega))) ?_ | with_reducible refine Block.when_keep _ _ _ ?_ (fun _ => ?_) | with_reducible apply Block.raiseEvt_st K | split | dsimp only | with_reducible refine pair_keep (by with_reducible assumption) ?_ | with_reducible refine pair_keep' (by with_reducible assumption) ?_ | intro _)

theorem Block.ptpDecide_st (K : KeptBySt Q) (b : Block) (hb : Q b.regs) : Q (Block.ptpDecide b).regs := by
  unfold Block.ptpDecide
  repeat' (first | with_reducible assumption | with_reducible apply Block.setPtpPort_st K | with_reducible refine Block.when_keep _ _ _ ?_ (fun _ => ?_) | with_reducible refine Block.fsetB_st K _ _ _ (by first | decide | exact vsOk_notState _ | (left; simp only [F.PTP_STAT_ACTIVE_B, F.PTP_STAT_SOURCE_OK, F.PTP_STAT_STATE_A, F.PTP_STAT_STATE_B, Reg.PTP_STAT, Reg.SYS_STATE, ne_eq]; omega) | (left; split <;> (simp only [F.PTP_STAT_ACTIVE_B, F.PTP_STAT_SOURCE_OK, F.PTP_STAT_STATE_A, F.PTP_STAT_STATE_B, Reg.PTP_STAT, Reg.SYS_STATE, ne_eq]; omega))) ?_ | with_reducible apply Block.raiseEvt_st K | with_reducible apply Block.tsuLost_st K | with_reducible refine Block.fset_st K _ _ _ (by first | decide | exact vsOk_notState _ | (left; simp only [F.PTP_STAT_ACTIVE_B, F.PTP_STAT_SOURCE_OK, F.PTP_STAT_STATE_A, F.PTP_STAT_STATE_B, Reg.PTP_STAT, Reg.SYS_STATE, ne_eq]; omega) | (left; split <;> (simp only [F.PTP_STAT_ACTIVE_B, F.PTP_STAT_SOURCE_OK, F.PTP_STAT_STATE_A, F.PTP_STAT_STATE_B, Reg.PTP_STAT, Reg.SYS_STATE, ne_eq]; omega))) ?_ | with_reducible apply Block.ptpShow_st K | with_reducible refine ite_keep ?_ ?_ | dsimp only | intro _)

theorem Block.ptpMaster_st (K : KeptBySt Q) (b : Block) (hb : Q b.regs) : Q (Block.ptpMaster b).regs := by
  unfold Block.ptpMaster
  repeat' (first | with_reducible assumption | dsimp only)

theorem Block.ptpOffset_st (K : KeptBySt Q) (b : Block) (portB : Bool) (offset rate : Int) (hb : Q b.regs) : Q (Block.ptpOffset b portB offset rate).regs := by
  unfold Block.ptpOffset
  repeat' (first | with_reducible assumption | with_reducible refine Block.setRegI_st K _ _ _ (by first | decide | (simp only [F.PTP_SYNC_CNT_COUNT, Reg.PTP_OFS_A, Reg.PTP_OFS_B, Reg.PTP_SYNC_CNT, Reg.SYS_STATE, ne_eq]; omega) | (split <;> decide)) ?_ | with_reducible refine Block.incSat_st K _ _ (by first | decide | exact vsOk_notState _ | (left; simp only [F.PTP_SYNC_CNT_COUNT, Reg.PTP_OFS_A, Reg.PTP_OFS_B, Reg.PTP_SYNC_CNT, Reg.SYS_STATE, ne_eq]; omega) | (left; split <;> (simp only [F.PTP_SYNC_CNT_COUNT, Reg.PTP_OFS_A, Reg.PTP_OFS_B, Reg.PTP_SYNC_CNT, Reg.SYS_STATE, ne_eq]; omega))) ?_ | with_reducible apply Block.tsuUpdate_st K | with_reducible refine ite_keep ?_ ?_ | dsimp only)

theorem Block.ptpSend_st (K : KeptBySt Q) (b : Block) (portB : Bool) (kind : String) (event peer : Bool) (ws : List Nat) (hb : Q b.regs) : Q (Block.ptpSend b portB kind event peer ws).regs := by
  unfold Block.ptpSend
  repeat' (first | with_reducible assumption | with_reducible apply Block.send_st K | dsimp only)

theorem Block.readMap_st (K : KeptBySt Q) (b : Block) (mapOk : Bool) (hb : Q b.regs) : Q (Block.readMap b mapOk).regs := by
  unfold Block.readMap
  repeat' (first | with_reducible assumption | with_reducible refine Block.fsetB_st K _ _ _ (by first | decide | exact vsOk_notState _ | (left; simp only [F.DSE_STAT_UNIF_OK, Reg.DSE_STAT, Reg.SYS_STATE, ne_eq]; omega) | (left; split <;> (simp only [F.DSE_STAT_UNIF_OK, Reg.DSE_STAT, Reg.SYS_STATE, ne_eq]; omega))) ?_ | with_reducible refine Block.when_keep _ _ _ ?_ (fun _ => ?_) | with_reducible apply Block.event_st K | with_reducible refine ite_keep ?_ ?_ | dsimp only | intro _)

theorem Block.takeSwap_st (K : KeptBySt Q) (b : Block) (hb : Q b.regs) : Q (Block.takeSwap b).regs := by
  unfold Block.takeSwap
  repeat' (first | with_reducible assumption | with_reducible refine Block.fset_st K _ _ _ (by first | decide | exact vsOk_notState _ | (left; simp only [F.DSE_PCTL_SWAP, Reg.DSE_PBLINK, Reg.DSE_PCTL, Reg.DSE_PTEXT, Reg.SYS_STATE, ne_eq]; omega) | (left; split <;> (simp only [F.DSE_PCTL_SWAP, Reg.DSE_PBLINK, Reg.DSE_PCTL, Reg.DSE_PTEXT, Reg.SYS_STATE, ne_eq]; omega))) ?_ | with_reducible apply Block.raiseEvt_st K | with_reducible refine ite_keep ?_ ?_ | dsimp only | intro _)

theorem Block.writeLines_st (K : KeptBySt Q) (b : Block) (frame : List (List Nat)) (attrs : List Nat) (hb : Q b.regs) : Q (Block.writeLines b frame attrs).regs := by
  unfold Block.writeLines
  repeat' (first | with_reducible assumption | with_reducible refine Block.forAll_keep _ _ _ ?_ (fun _ _ _ => ?_) | with_reducible apply Block.send_st K | with_reducible refine Block.addSat_st K _ _ _ (by first | decide | exact vsOk_notState _ | (left; simp only [F.DSE_LINE_CNT_COUNT, Reg.DSE_LINE_CNT, Reg.SYS_STATE, ne_eq]; omega) | (left; split <;> (simp only [F.DSE_LINE_CNT_COUNT, Reg.DSE_LINE_CNT, Reg.SYS_STATE, ne_eq]; omega))) ?_ | with_reducible refine Block.when_keep _ _ _ ?_ (fun _ => ?_) | dsimp only | intro _)

theorem Block.btnLevels_st (K : KeptBySt Q) (b : Block) (held : Nat) (hb : Q b.regs) : Q (Block.btnLevels b held).regs := by
  unfold Block.btnLevels
  repeat' (first | with_reducible assumption | with_reducible refine Block.fset_st K _ _ _ (by first | decide | exact vsOk_notState _ | (left; simp only [Reg.BTN_STAT, Reg.SYS_STATE, ne_eq]; omega) | (left; split <;> (simp only [Reg.BTN_STAT, Reg.SYS_STATE, ne_eq]; omega))) ?_ | dsimp only)

theorem Block.accept_st (K : KeptBySt Q) (b : Block) (kind button : Nat) (hb : Q b.regs) : Q (Block.accept b kind button).regs := by
  unfold Block.accept
  repeat' (first | with_reducible assumption | with_reducible refine Block.fset_st K _ _ _ (by first | decide | exact vsOk_notState _ | (left; simp only [F.BTN_LAST_BUTTON, F.BTN_LAST_KIND, F.BTN_PRESS_CNT_COUNT, F.DSE_STAT_DIMMED, Reg.BTN_LAST, Reg.BTN_PRESS_CNT, Reg.DSE_STAT, Reg.SYS_STATE, ne_eq]; omega) | (left; split <;> (simp only [F.BTN_LAST_BUTTON, F.BTN_LAST_KIND, F.BTN_PRESS_CNT_COUNT, F.DSE_STAT_DIMMED, Reg.BTN_LAST, Reg.BTN_PRESS_CNT, Reg.DSE_STAT, Reg.SYS_STATE, ne_eq]; omega))) ?_ | with_reducible refine Block.incSat_st K _ _ (by first | decide | exact vsOk_notState _ | (left; simp only [F.BTN_LAST_BUTTON, F.BTN_LAST_KIND, F.BTN_PRESS_CNT_COUNT, F.DSE_STAT_DIMMED, Reg.BTN_LAST, Reg.BTN_PRESS_CNT, Reg.DSE_STAT, Reg.SYS_STATE, ne_eq]; omega) | (left; split <;> (simp only [F.BTN_LAST_BUTTON, F.BTN_LAST_KIND, F.BTN_PRESS_CNT_COUNT, F.DSE_STAT_DIMMED, Reg.BTN_LAST, Reg.BTN_PRESS_CNT, Reg.DSE_STAT, Reg.SYS_STATE, ne_eq]; omega))) ?_ | with_reducible apply Block.raiseEvt_st K | dsimp only)

theorem Block.calStep_st (K : KeptBySt Q) (b : Block) (k : Nat) (hb : Q b.regs) : Q (Block.calStep b k).regs := by
  unfold Block.calStep
  repeat' (first | with_reducible assumption | with_reducible refine Block.fset_st K _ _ _ (by first | decide | exact vsOk_notState _ | (left; simp only [F.BTN_STAT_CAL_CH, F.BTN_STAT_CAL_STEP, Reg.BTN_STAT, Reg.SYS_STATE, ne_eq]; omega) | (left; split <;> (simp only [F.BTN_STAT_CAL_CH, F.BTN_STAT_CAL_STEP, Reg.BTN_STAT, Reg.SYS_STATE, ne_eq]; omega))) ?_ | dsimp only)

theorem Block.calMove_st (K : KeptBySt Q) (b : Block) (up : Bool) (hb : Q b.regs) : Q (Block.calMove b up).regs := by
  unfold Block.calMove
  repeat' (first | with_reducible assumption | with_reducible apply Block.calStep_st K | with_reducible refine ite_keep ?_ ?_ | split | dsimp only | with_reducible refine pair_keep (by with_reducible assumption) ?_ | with_reducible refine pair_keep' (by with_reducible assumption) ?_)

theorem Block.calTake_st (K : KeptBySt Q) (b : Block) (span : Bool) (hb : Q b.regs) : Q (Block.calTake b span).regs := by
  unfold Block.calTake
  repeat' (first | with_reducible assumption | with_reducible refine Block.setRegN_st K _ _ _ (by first | decide | (simp only [F.CH_RES_CODE, Reg.CH_CAL_REF, Reg.CH_RES, Reg.SYS_STATE, ne_eq]; omega) | (split <;> decide)) ?_ | with_reducible apply Block.calPoint_st K | with_reducible apply Block.calStep_st K | with_reducible refine ite_keep ?_ ?_ | dsimp only)

theorem Block.calConfirm_st (K : KeptBySt Q) (b : Block) (hb : Q b.regs) : Q (Block.calConfirm b).regs := by
  unfold Block.calConfirm
  repeat' (first | with_reducible assumption | with_reducible apply Block.calOpenBy_st K | with_reducible apply Block.calStep_st K | with_reducible refine Block.fset_st K _ _ _ (by first | decide | exact vsOk_notState _ | (left; simp only [F.BTN_STAT_CAL_OPEN, F.BTN_STAT_CAL_STEP, F.CH_RES_CODE, Reg.BTN_STAT, Reg.CH_RES, Reg.SYS_STATE, ne_eq]; omega) | (left; split <;> (simp only [F.BTN_STAT_CAL_OPEN, F.BTN_STAT_CAL_STEP, F.CH_RES_CODE, Reg.BTN_STAT, Reg.CH_RES, Reg.SYS_STATE, ne_eq]; omega))) ?_ | with_reducible apply Block.raiseEvt_st K | with_reducible apply Block.calTake_st K | with_reducible apply Block.calCommitBy_st K | with_reducible refine ite_keep ?_ ?_ | split | dsimp only | with_reducible refine pair_keep (by with_reducible assumption) ?_ | with_reducible refine pair_keep' (by with_reducible assumption) ?_)

theorem Block.shortPress_st (K : KeptBySt Q) (b : Block) (button : Nat) (hb : Q b.regs) : Q (Block.shortPress b button).regs := by
  unfold Block.shortPress
  repeat' (first | with_reducible assumption | with_reducible apply Block.calConfirm_st K | with_reducible apply Block.calMove_st K | with_reducible apply Block.calStep_st K | with_reducible refine ite_keep ?_ ?_ | dsimp only)

theorem Block.unlockAccepted_st (K : KeptBySt Q) (b : Block) (hb : Q b.regs) : Q (Block.unlockAccepted b).regs := by
  unfold Block.unlockAccepted
  repeat' (first | with_reducible assumption | with_reducible refine Block.forAll_keep _ _ _ ?_ (fun _ _ _ => ?_) | with_reducible apply Block.closeSession_st K | with_reducible refine Block.fset_st K _ _ _ (by first | decide | exact vsOk_notState _ | (left; simp only [Reg.BLK_STAT, Reg.SYS_STATE, secErased, secSvc, secUnlocks, ne_eq]; omega) | (left; split <;> (simp only [Reg.BLK_STAT, Reg.SYS_STATE, secErased, secSvc, secUnlocks, ne_eq]; omega))) ?_ | with_reducible refine Block.addSat_st K _ _ _ (by first | decide | exact vsOk_notState _ | (left; simp only [Reg.BLK_STAT, Reg.SYS_STATE, secErased, secSvc, secUnlocks, ne_eq]; omega) | (left; split <;> (simp only [Reg.BLK_STAT, Reg.SYS_STATE, secErased, secSvc, secUnlocks, ne_eq]; omega))) ?_ | with_reducible apply Block.event_st K | dsimp only)

theorem Block.secCommand_st (K : KeptBySt Q) (b : Block) (v : Nat) (hb : Q b.regs) : Q (Block.secCommand b v).regs := by
  unfold Block.secCommand
  repeat' (first | with_reducible assumption | with_reducible refine Block.fset_st K _ _ _ (by first | decide | exact vsOk_notState _ | (left; simp only [F.SEC_CMD_CMD, Reg.BLK_STAT, Reg.SEC_CMD, Reg.SEC_TOKEN, Reg.SYS_STATE, secResult, ne_eq]; omega) | (left; split <;> (simp only [F.SEC_CMD_CMD, Reg.BLK_STAT, Reg.SEC_CMD, Reg.SEC_TOKEN, Reg.SYS_STATE, secResult, ne_eq]; omega))) ?_ | with_reducible refine Block.forAll_keep _ _ _ ?_ (fun _ _ _ => ?_) | with_reducible refine Block.setRegN_st K _ _ _ (by first | decide | (simp only [F.SEC_CMD_CMD, Reg.BLK_STAT, Reg.SEC_CMD, Reg.SEC_TOKEN, Reg.SYS_STATE, secResult, ne_eq]; omega) | (split <;> decide)) ?_ | with_reducible apply Block.unlockAccepted_st K | with_reducible apply Block.raiseEvt_st K | with_reducible refine ite_keep ?_ ?_ | dsimp only | intro _)

theorem Block.secCmdWrite_st (K : KeptBySt Q) (b : Block) (r : Requester) (v : Nat) (hb : Q b.regs) : Q (Block.secCmdWrite b r v).regs := by
  unfold Block.secCmdWrite
  repeat' (first | with_reducible assumption | with_reducible apply Block.cmdWrite_st K | with_reducible apply Block.secCommand_st K | dsimp only | intro _)

theorem Block.supplyFault_st (K : KeptBySt Q) (b : Block) (f : Fld) (evt : Nat) (hf : f.notState) (hb : Q b.regs) : Q (Block.supplyFault b f evt).regs := by
  unfold Block.supplyFault
  repeat' (first | with_reducible assumption | with_reducible refine Block.fset_st K _ _ _ hf ?_ | with_reducible refine Block.fset_st K _ _ _ (by decide) ?_ | with_reducible apply Block.fieldFault_st K | with_reducible apply Block.hartCheckAll_st K | with_reducible apply Block.raiseEvt_st K | with_reducible refine Block.when_keep _ _ _ ?_ (fun _ => ?_) | with_reducible apply Block.lockout_st K | dsimp only | intro _)

theorem Block.supplyBack_st (K : KeptBySt Q) (b : Block) (hb : Q b.regs) : Q (Block.supplyBack b).regs := by
  unfold Block.supplyBack
  repeat' (first | with_reducible assumption | with_reducible apply Block.fieldBack_st K | with_reducible refine Block.when_keep _ _ _ ?_ (fun _ => ?_) | with_reducible refine Block.fset_st K _ _ _ (by first | decide | exact vsOk_notState _ | (left; simp only [Reg.SAF_CAUSES, Reg.SAF_CLEARED, Reg.SYS_STATE, ne_eq]; omega) | (left; split <;> (simp only [Reg.SAF_CAUSES, Reg.SAF_CLEARED, Reg.SYS_STATE, ne_eq]; omega))) ?_ | dsimp only | intro _)

theorem Block.chgRestore_st (K : KeptBySt Q) (b : Block) (v : Nat) (hb : Q b.regs) : Q (Block.chgRestore b v).regs := by
  unfold Block.chgRestore
  repeat' (first | with_reducible assumption | with_reducible refine Block.fset_st K _ _ _ (by first | decide | exact vsOk_notState _ | (left; simp only [F.CHG_CMD_RESTORE, F.CHG_FP_STAT_TRIPPED, F.CHG_FP_STAT_UNDERVOLT, Reg.CHG_CMD, Reg.CHG_FP_STAT, Reg.SYS_STATE, ne_eq]; omega) | (left; split <;> (simp only [F.CHG_CMD_RESTORE, F.CHG_FP_STAT_TRIPPED, F.CHG_FP_STAT_UNDERVOLT, Reg.CHG_CMD, Reg.CHG_FP_STAT, Reg.SYS_STATE, ne_eq]; omega))) ?_ | with_reducible apply Block.supplyBack_st K | with_reducible refine ite_keep ?_ ?_ | dsimp only)

theorem Block.nestThr_st (K : KeptBySt Q) (b : Block) (off lim : Nat) (ho : off ≠ Reg.SYS_STATE) (hb : Q b.regs) : Q (Block.nestThr b off lim).regs :=
  Block.fset_st K _ _ _ (.inl ho) (Block.fset_st K _ _ _ (.inl ho) (Block.fset_st K _ _ _ (.inl ho) hb))

theorem Block.lockWrite_st (K : KeptBySt Q) (b : Block) (r : Requester) (p v : Nat) (hb : Q b.regs) : Q (Block.lockWrite b r p v).regs := by
  unfold Block.lockWrite
  repeat' (first | with_reducible assumption | with_reducible refine Block.setRegN_st K _ _ _ (by first | decide | (simp only [Reg.BLK_LOCK, Reg.SYS_STATE, ne_eq]; omega) | (split <;> decide)) ?_ | with_reducible apply Block.timed_st K | with_reducible apply Block.lockPage_st K | with_reducible refine ite_keep ?_ ?_ | split | dsimp only | with_reducible refine pair_keep (by with_reducible assumption) ?_ | with_reducible refine pair_keep' (by with_reducible assumption) ?_)

theorem Block.headEffect_st (K : KeptBySt Q) (r : Requester) (off v : Nat) (b : Block) (hb : Q b.regs) : Q (Block.headEffect r off v b).regs := by
  unfold Block.headEffect
  repeat' (first | with_reducible assumption | with_reducible apply Block.lockWrite_st K | with_reducible refine ite_keep ?_ ?_ | dsimp only)

theorem Block.fabRefused_st (K : KeptBySt Q) (b : Block) (off code : Nat) (hb : Q b.regs) : Q (Block.fabRefused b off code).regs := by
  unfold Block.fabRefused
  repeat' (first | with_reducible assumption | with_reducible refine Block.fset_st K _ _ _ (by first | decide | exact vsOk_notState _ | (left; simp only [F.DSE_RES_CODE, Reg.DSE_CFG, Reg.DSE_RES, Reg.SYS_STATE, ne_eq]; omega) | (left; split <;> (simp only [F.DSE_RES_CODE, Reg.DSE_CFG, Reg.DSE_RES, Reg.SYS_STATE, ne_eq]; omega))) ?_ | with_reducible apply Block.raiseEvt_st K | with_reducible refine ite_keep ?_ ?_ | dsimp only)

theorem Block.chCfgWrite_st (K : KeptBySt Q) (b : Block) (r : Requester) (n off v : Nat) (hb : Q b.regs) : Q (Block.chCfgWrite b r n off v).1.regs := by
  unfold Block.chCfgWrite
  repeat' (first | with_reducible assumption | with_reducible apply Block.regWrite_st K | with_reducible apply Block.substMask_st K | with_reducible apply Block.chRefresh_st K | with_reducible refine Block.fset_st K _ _ _ (by first | decide | exact vsOk_notState _ | (left; simp only [F.CH_RES_CODE, Reg.CH_AI_CFG, Reg.CH_DI_CFG, Reg.CH_RES, Reg.SYS_STATE, ne_eq]; omega) | (left; split <;> (simp only [F.CH_RES_CODE, Reg.CH_AI_CFG, Reg.CH_DI_CFG, Reg.CH_RES, Reg.SYS_STATE, ne_eq]; omega))) ?_ | with_reducible apply Block.chRefused_st K | with_reducible refine ite_keep ?_ ?_ | split | dsimp only | with_reducible refine pair_keep (by with_reducible assumption) ?_ | with_reducible refine pair_keep' (by with_reducible assumption) ?_ | intro _)

theorem Block.chPageWrite_st (K : KeptBySt Q) (b : Block) (r : Requester) (n off v : Nat) (hb : Q b.regs) : Q (Block.chPageWrite b r n off v).1.regs := by
  unfold Block.chPageWrite
  repeat' (first | with_reducible assumption | with_reducible apply Block.chModeSet_st K | with_reducible apply Block.regWrite_st K | with_reducible apply Block.chCommand_st K | with_reducible apply Block.chCfgWrite_st K | with_reducible refine ite_keep ?_ ?_ | with_reducible apply id_keep | split | dsimp only | intro _)

theorem Block.canPageWrite_st (K : KeptBySt Q) (b : Block) (r : Requester) (k off v : Nat) (hb : Q b.regs) : Q (Block.canPageWrite b r k off v).1.regs := by
  unfold Block.canPageWrite
  repeat' (first | with_reducible assumption | with_reducible apply Block.refuse_st K | with_reducible apply Block.canRes_st K | with_reducible apply Block.regWrite_st K | with_reducible apply Block.canRecover_st K | with_reducible apply Block.canWindow_st K | with_reducible apply Block.timed_st K | with_reducible apply Block.canWarn_st K | with_reducible refine ite_keep ?_ ?_ | split | dsimp only | intro _)

theorem Block.redCfgWrite_st (K : KeptBySt Q) (b : Block) (r : Requester) (off v : Nat) (hb : Q b.regs) : Q (Block.redCfgWrite b r off v).1.regs := by
  unfold Block.redCfgWrite
  repeat' (first | with_reducible assumption | with_reducible apply Block.refuse_st K | with_reducible refine Block.fset_st K _ _ _ (by first | decide | exact vsOk_notState _ | (left; simp only [F.RED_RES_CODE, Reg.RED_CFG, Reg.RED_RES, Reg.SYS_STATE, ne_eq]; omega) | (left; split <;> (simp only [F.RED_RES_CODE, Reg.RED_CFG, Reg.RED_RES, Reg.SYS_STATE, ne_eq]; omega))) ?_ | with_reducible apply Block.regWrite_st K | with_reducible refine Block.when_keep _ _ _ ?_ (fun _ => ?_) | with_reducible apply Block.hbFollow_st K | with_reducible refine ite_keep ?_ ?_ | split | dsimp only | intro _)

theorem Block.linesFall_st (K : KeptBySt Q) (b : Block) (hb : Q b.regs) : Q (Block.linesFall b).regs := by
  unfold Block.linesFall
  repeat' (first | with_reducible assumption | with_reducible refine Block.forAll_keep _ _ _ ?_ (fun _ _ _ => ?_) | with_reducible refine Block.fset_st K _ _ _ (by first | decide | exact vsOk_notState _ | (left; simp only [Reg.SYS_EVL_STAT, Reg.SYS_STATE, lineLevel, ne_eq]; omega) | (left; split <;> (simp only [Reg.SYS_EVL_STAT, Reg.SYS_STATE, lineLevel, ne_eq]; omega))) ?_ | dsimp only | intro _)

theorem Block.loWrite_st (K : KeptBySt Q) (b : Block) (r : Requester) (off v : Nat) (hb : Q b.regs) : Q (Block.loWrite b r off v).1.regs := by
  unfold Block.loWrite
  repeat' (first | with_reducible assumption | with_reducible apply Block.setLatch_st K | with_reducible apply Block.refuse_st K | with_reducible refine ite_keep ?_ ?_ | split | dsimp only)

theorem Block.fabRead_st (K : KeptBySt Q) (b : Block) (r : Requester) (off : Nat) (hb : Q b.regs) : Q (Block.fabRead b r off).1.regs := by
  unfold Block.fabRead
  repeat' (first | with_reducible assumption | with_reducible apply Block.refuse_st K | with_reducible refine Block.when_keep _ _ _ ?_ (fun _ => ?_) | with_reducible apply Block.setLatch_st K | with_reducible apply Block.clearRc_st K | with_reducible refine ite_keep ?_ ?_ | split | dsimp only | intro _)

theorem Block.answered_st (K : KeptBySt Q) (r : Requester) (off : Nat) (q : Block × Nat) (hq : Q q.1.regs) : Q (Block.answered r off q).regs := by
  unfold Block.answered
  repeat' (first | with_reducible assumption | with_reducible apply Block.out_st K | with_reducible refine ite_keep ?_ ?_ | dsimp only)

theorem Block.readAnswered_st (K : KeptBySt Q) (b : Block) (r : Requester) (off : Nat) (hb : Q b.regs) : Q (Block.readAnswered b r off).regs := by
  unfold Block.readAnswered
  repeat' (first | with_reducible assumption | with_reducible apply Block.fabRead_st K | with_reducible apply Block.out_st K | with_reducible refine ite_keep ?_ ?_ | dsimp only)

theorem Block.sspAnswer_st (K : KeptBySt Q) (b : Block) (h : SspHdr) (sv result : Nat) (payload : List Nat) (hb : Q b.regs) : Q (Block.sspAnswer b h sv result payload).regs := by
  unfold Block.sspAnswer
  repeat' (first | with_reducible assumption | with_reducible apply Block.putSession_st K | with_reducible apply Block.sspSend_st K | split | dsimp only | with_reducible refine pair_keep (by with_reducible assumption) ?_ | with_reducible refine pair_keep' (by with_reducible assumption) ?_)

theorem Block.sspHeard_st (K : KeptBySt Q) (b : Block) (s : Session) (hb : Q b.regs) : Q (Block.sspHeard b s).regs := by
  unfold Block.sspHeard
  repeat' (first | with_reducible assumption | with_reducible apply Block.putSession_st K | dsimp only)

theorem Block.sspHold_st (K : KeptBySt Q) (b : Block) (h : SspHdr) (sv : Nat) (i : SspReq) (hb : Q b.regs) : Q (Block.sspHold b h sv i).regs := by
  unfold Block.sspHold
  repeat' (first | with_reducible assumption | with_reducible apply Block.sspAnswer_st K | with_reducible refine ite_keep ?_ ?_ | dsimp only | intro _)

theorem Block.sspRequest_st (K : KeptBySt Q) (b : Block) (h : SspHdr) (sv : Nat) (i : SspHdr → SspReq) (perform : Session → Block → Block) (hb : Q b.regs) (hperform : ∀ x b, Q b.regs → Q (perform x b).regs) : Q (Block.sspRequest b h sv i perform).regs := by
  unfold Block.sspRequest
  repeat' (first | with_reducible assumption | with_reducible apply hperform | with_reducible refine Block.incSat_st K _ _ (by first | decide | exact vsOk_notState _ | (left; simp only [F.NET_DROP_CNT_COUNT, Reg.NET_DROP_CNT, Reg.SYS_STATE, ne_eq]; omega) | (left; split <;> (simp only [F.NET_DROP_CNT_COUNT, Reg.NET_DROP_CNT, Reg.SYS_STATE, ne_eq]; omega))) ?_ | with_reducible apply Block.sspHeard_st K | with_reducible apply Block.sspSend_st K | with_reducible apply Block.sspHold_st K | with_reducible apply Block.sspAnswer_st K | with_reducible refine ite_keep ?_ ?_ | split | dsimp only | with_reducible refine pair_keep (by with_reducible assumption) ?_ | with_reducible refine pair_keep' (by with_reducible assumption) ?_ | intro _)

theorem Block.openRefused_st (K : KeptBySt Q) (b : Block) (o : SspOpen) (result : Nat) (payload : List Nat) (hb : Q b.regs) : Q (Block.openRefused b o result payload).regs := by
  unfold Block.openRefused
  repeat' (first | with_reducible assumption | with_reducible refine Block.incSat_st K _ _ (by first | decide | exact vsOk_notState _ | (left; simp only [F.NET_REFUSE_CNT_COUNT, Reg.NET_REFUSE_CNT, Reg.SYS_STATE, ne_eq]; omega) | (left; split <;> (simp only [F.NET_REFUSE_CNT_COUNT, Reg.NET_REFUSE_CNT, Reg.SYS_STATE, ne_eq]; omega))) ?_ | with_reducible apply Block.sspSend_st K | dsimp only)

theorem Block.openSession_st (K : KeptBySt Q) (b : Block) (o : SspOpen) (ver : Nat) (hb : Q b.regs) : Q (Block.openSession b o ver).regs := by
  unfold Block.openSession
  repeat' (first | with_reducible assumption | with_reducible apply Block.sessShow_st K | with_reducible apply Block.raiseEvt_st K | with_reducible apply Block.sspSend_st K | dsimp only)

theorem Block.openHold_st (K : KeptBySt Q) (b : Block) (o : SspOpen) (hb : Q b.regs) : Q (Block.openHold b o).regs := by
  unfold Block.openHold
  repeat' (first | with_reducible assumption | dsimp only)

theorem Block.bootStatus_st (K : KeptBySt Q) (b : Block) (hb : Q b.regs) : Q (Block.bootStatus b).2.regs := by
  unfold Block.bootStatus
  repeat' (first | with_reducible assumption | with_reducible apply Block.free_st K | split | dsimp only)

theorem Block.sspRead1_st (K : KeptBySt Q) (r : Requester) (q : Block × List Nat) (off : Nat) (hq : Q q.1.regs) : Q (Block.sspRead1 r q off).1.regs := by
  unfold Block.sspRead1
  repeat' (first | with_reducible assumption | with_reducible apply Block.fabRead_st K | with_reducible apply Block.bootStatus_st K | with_reducible refine ite_keep ?_ ?_ | split | dsimp only)

theorem Block.sspReads_st (K : KeptBySt Q) (b : Block) (r : Requester) (offs : List Nat) (hb : Q b.regs) : Q (Block.sspReads b r offs).1.regs :=
  foldl_keep _ (fun q x h => Block.sspRead1_st K r q x h) _ _ hb

theorem Block.pubEntry_st (K : KeptBySt Q) (b : Block) (vid : Nat) (hb : Q b.regs) : Q (Block.pubEntry b vid).1.regs := by
  unfold Block.pubEntry
  repeat' (first | with_reducible assumption | with_reducible apply Block.free_st K | split | dsimp only | with_reducible refine pair_keep (by with_reducible assumption) ?_ | with_reducible refine pair_keep' (by with_reducible assumption) ?_ | intro _)

theorem Block.publishVids_st (K : KeptBySt Q) (b : Block) (n : Nat) (vids : List Nat) (hb : Q b.regs) : Q (Block.publishVids b n vids).regs := by
  have key : ∀ (l : List Nat) (q : Block × List Nat), Q q.1.regs →
      Q (l.foldl (fun (q : Block × List Nat) v => ((q.1.pubEntry v).1, q.2 ++ (q.1.pubEntry v).2)) q).1.regs := by
    intro l
    induction l with
    | nil => intro q h; exact h
    | cons x l ih => intro q h; exact ih _ (Block.pubEntry_st K _ _ h)
  unfold Block.publishVids
  extract_lets q
  exact Block.pubSend_st K _ _ _ (key vids (b, []) hb)

theorem Block.setTransfer_st (K : KeptBySt Q) (b : Block) (t : Option Transfer) (hb : Q b.regs) : Q (Block.setTransfer b t).regs := by
  unfold Block.setTransfer
  repeat' (first | with_reducible assumption | dsimp only)

theorem Block.transferDone_st (K : KeptBySt Q) (b : Block) (hb : Q b.regs) : Q (Block.transferDone b).regs := by
  unfold Block.transferDone
  repeat' (first | with_reducible assumption | with_reducible apply Block.setTransfer_st K | with_reducible apply Block.raiseEvt_st K | dsimp only)

theorem Block.dropTransfer_st (K : KeptBySt Q) (b : Block) (t : Transfer) (hb : Q b.regs) : Q (Block.dropTransfer b t).regs := by
  unfold Block.dropTransfer
  repeat' (first | with_reducible assumption | with_reducible apply Block.olcEnd_st K | with_reducible apply Block.endTransfer_st K | with_reducible refine ite_keep ?_ ?_ | dsimp only)

theorem Block.setCask_st (K : KeptBySt Q) (b : Block) (c : Cask) (hb : Q b.regs) : Q (Block.setCask b c).regs := by
  unfold Block.setCask
  repeat' (first | with_reducible assumption | dsimp only)

theorem Block.caskWhole_st (K : KeptBySt Q) (b : Block) (c : Cask) (m : Manifest) (hb : Q b.regs) : Q (Block.caskWhole b c m).regs := by
  unfold Block.caskWhole
  repeat' (first | with_reducible assumption | with_reducible apply Block.caskIn_st K | with_reducible apply Block.raiseEvt_st K | with_reducible apply Block.transferDone_st K | with_reducible refine ite_keep ?_ ?_ | dsimp only)

theorem Block.manifestChunk_st (K : KeptBySt Q) (b : Block) (c : Cask) (i : Nat) (data : List Nat) (hb : Q b.regs) : Q (Block.manifestChunk b c i data).regs := by
  unfold Block.manifestChunk
  repeat' (first | with_reducible assumption | with_reducible apply Block.setCask_st K | with_reducible apply Block.celRequest_st K | with_reducible apply Block.caskInvalid_st K | with_reducible apply Block.endTransfer_st K | with_reducible apply Block.caskShow_st K | with_reducible apply Block.raiseEvt_st K | with_reducible apply Block.caskWhole_st K | with_reducible refine ite_keep ?_ ?_ | dsimp only | intro _)

theorem Block.payloadChunk_st (K : KeptBySt Q) (b : Block) (c : Cask) (m : Manifest) (j : Nat) (data : List Nat) (hb : Q b.regs) : Q (Block.payloadChunk b c m j data).regs := by
  unfold Block.payloadChunk
  repeat' (first | with_reducible assumption | with_reducible apply Block.setCask_st K | with_reducible apply Block.caskShow_st K | with_reducible apply Block.celRequest_st K | with_reducible apply Block.caskWhole_st K | with_reducible refine Block.incSat_st K _ _ (by first | decide | exact vsOk_notState _ | (left; simp only [F.UPD_CHUNK_ERR_CNT_COUNT, Reg.SYS_STATE, Reg.UPD_CHUNK_ERR_CNT, ne_eq]; omega) | (left; split <;> (simp only [F.UPD_CHUNK_ERR_CNT_COUNT, Reg.SYS_STATE, Reg.UPD_CHUNK_ERR_CNT, ne_eq]; omega))) ?_ | with_reducible apply Block.raiseEvt_st K | with_reducible refine ite_keep ?_ ?_ | dsimp only)

theorem Block.caskPiece_st (K : KeptBySt Q) (b : Block) (t : Transfer) (i off : Nat) (data : List Nat) (hb : Q b.regs) : Q (Block.caskPiece b t i off data).regs := by
  unfold Block.caskPiece
  repeat' (first | with_reducible assumption | with_reducible refine Block.incSat_st K _ _ (by first | decide | exact vsOk_notState _ | (left; simp only [F.UPD_CHUNK_ERR_CNT_COUNT, Reg.SYS_STATE, Reg.UPD_CHUNK_ERR_CNT, ne_eq]; omega) | (left; split <;> (simp only [F.UPD_CHUNK_ERR_CNT_COUNT, Reg.SYS_STATE, Reg.UPD_CHUNK_ERR_CNT, ne_eq]; omega))) ?_ | with_reducible apply Block.setTransfer_st K | with_reducible apply Block.payloadChunk_st K | with_reducible apply Block.manifestChunk_st K | with_reducible refine ite_keep ?_ ?_ | with_reducible apply id_keep | split | dsimp only | with_reducible refine pair_keep (by with_reducible assumption) ?_ | with_reducible refine pair_keep' (by with_reducible assumption) ?_)

theorem Block.pkgPiece_st (K : KeptBySt Q) (b : Block) (t : Transfer) (i off : Nat) (data : List Nat) (hb : Q b.regs) : Q (Block.pkgPiece b t i off data).regs := by
  unfold Block.pkgPiece
  repeat' (first | with_reducible assumption | with_reducible apply Block.setTransfer_st K | with_reducible refine Block.setRegN_st K _ _ _ (by first | decide | (simp only [Reg.OLC_RCVD, Reg.SYS_STATE, ne_eq]; omega) | (split <;> decide)) ?_ | with_reducible apply Block.transferDone_st K | with_reducible refine ite_keep ?_ ?_ | dsimp only)

theorem Block.imgPiece_st (K : KeptBySt Q) (b : Block) (t : Transfer) (i off : Nat) (data : List Nat) (hb : Q b.regs) : Q (Block.imgPiece b t i off data).1.regs := by
  unfold Block.imgPiece
  repeat' (first | with_reducible assumption | with_reducible apply Block.setTransfer_st K | with_reducible apply Block.transferDone_st K | with_reducible apply Block.loadImage_st K | with_reducible refine ite_keep ?_ ?_ | split | dsimp only)

theorem Block.caskBegin_st (K : KeptBySt Q) (b : Block) (n size ident : Nat) (hb : Q b.regs) : Q (Block.caskBegin b n size ident).1.regs := by
  unfold Block.caskBegin
  repeat' (first | with_reducible assumption | with_reducible refine Block.fset_st K _ _ _ (by first | decide | exact vsOk_notState _ | (left; simp only [F.CEL_STAT_READONLY, F.UPD_RES_CODE, Reg.CEL_STAT, Reg.SYS_STATE, Reg.UPD_RES, ne_eq]; omega) | (left; split <;> (simp only [F.CEL_STAT_READONLY, F.UPD_RES_CODE, Reg.CEL_STAT, Reg.SYS_STATE, Reg.UPD_RES, ne_eq]; omega))) ?_ | with_reducible apply Block.setCask_st K | with_reducible apply Block.caskIn_st K | with_reducible apply Block.setTransfer_st K | with_reducible refine ite_keep ?_ ?_ | split | dsimp only | with_reducible refine pair_keep (by with_reducible assumption) ?_ | with_reducible refine pair_keep' (by with_reducible assumption) ?_)

theorem Block.pkgBegin_st (K : KeptBySt Q) (b : Block) (n size ident : Nat) (hb : Q b.regs) : Q (Block.pkgBegin b n size ident).1.regs := by
  unfold Block.pkgBegin
  repeat' (first | with_reducible assumption | with_reducible apply Block.olcRefuse_st K | with_reducible refine Block.setRegN_st K _ _ _ (by first | decide | (simp only [F.CEL_STAT_READONLY, F.OLC_STAT_CODE, F.OLC_STAT_STATE, Reg.CEL_STAT, Reg.OLC_PKG_SIZE, Reg.OLC_RCVD, Reg.OLC_STAT, Reg.SYS_STATE, ne_eq]; omega) | (split <;> decide)) ?_ | with_reducible refine Block.fset_st K _ _ _ (by first | decide | exact vsOk_notState _ | (left; simp only [F.CEL_STAT_READONLY, F.OLC_STAT_CODE, F.OLC_STAT_STATE, Reg.CEL_STAT, Reg.OLC_PKG_SIZE, Reg.OLC_RCVD, Reg.OLC_STAT, Reg.SYS_STATE, ne_eq]; omega) | (left; split <;> (simp only [F.CEL_STAT_READONLY, F.OLC_STAT_CODE, F.OLC_STAT_STATE, Reg.CEL_STAT, Reg.OLC_PKG_SIZE, Reg.OLC_RCVD, Reg.OLC_STAT, Reg.SYS_STATE, ne_eq]; omega))) ?_ | with_reducible apply Block.setTransfer_st K | with_reducible refine ite_keep ?_ ?_ | split | dsimp only)

theorem Block.imgBegin_st (K : KeptBySt Q) (b : Block) (n size ident version : Nat) (hb : Q b.regs) : Q (Block.imgBegin b n size ident version).1.regs := by
  unfold Block.imgBegin
  repeat' (first | with_reducible assumption | with_reducible apply Block.setTransfer_st K | with_reducible apply Block.loadResult_st K | with_reducible refine ite_keep ?_ ?_ | split | dsimp only)

theorem Block.issued_st (K : KeptBySt Q) (b : Block) (c : Nat) (i : Insn) (clocks : Nat) (a : Answer) (hb : Q b.regs) : Q (Block.issued b c i clocks a).regs := by
  unfold Block.issued
  repeat' (first | with_reducible assumption | with_reducible apply Block.modCx_st K | with_reducible apply Block.retire_st K | with_reducible apply Block.engNext_st K | dsimp only | intro _)

theorem Block.issuedCode_st (K : KeptBySt Q) (c : Nat) (i : Insn) (clocks d : Nat) (q : Block × Nat) (hq : Q q.1.regs) : Q (Block.issuedCode c i clocks d q).regs := by
  unfold Block.issuedCode
  repeat' (first | with_reducible assumption | with_reducible apply Block.issued_st K | dsimp only)

theorem Block.issuedWord_st (K : KeptBySt Q) (c : Nat) (i : Insn) (d s1 : Nat) (q : Block × Nat × Word) (hq : Q q.1.regs) : Q (Block.issuedWord c i d s1 q).regs := by
  unfold Block.issuedWord
  repeat' (first | with_reducible assumption | with_reducible apply Block.issued_st K | dsimp only)

theorem Block.issuedPair_st (K : KeptBySt Q) (c : Nat) (i : Insn) (d s1 : Nat) (q : Block × Nat × Nat) (hq : Q q.1.regs) : Q (Block.issuedPair c i d s1 q).regs := by
  unfold Block.issuedPair
  repeat' (first | with_reducible assumption | with_reducible apply Block.issued_st K | dsimp only)

theorem Block.ctxRead_st (K : KeptBySt Q) (b : Block) (c : Nat) (i : Insn) (d s1 off : Nat) (hb : Q b.regs) : Q (Block.ctxRead b c i d s1 off).regs := by
  unfold Block.ctxRead
  repeat' (first | with_reducible assumption | with_reducible apply Block.issuedWord_st K | with_reducible apply Block.fabRead_st K | with_reducible refine ite_keep ?_ ?_ | dsimp only)

theorem Block.readPair_st (K : KeptBySt Q) (b : Block) (r : Requester) (off : Nat) (hb : Q b.regs) : Q (Block.readPair b r off).1.regs := by
  unfold Block.readPair
  repeat' (first | with_reducible assumption | with_reducible apply Block.fabRead_st K | with_reducible refine ite_keep ?_ ?_ | split | dsimp only)

theorem Block.recApply_st (K : KeptBySt Q) (b : Block) (c : Nat) (r : EvRec) (hb : Q b.regs) : Q (Block.recApply b c r).1.regs := by
  unfold Block.recApply
  repeat' (first | with_reducible assumption | with_reducible apply Block.recQueue_st K | with_reducible apply Block.recDrop_st K | with_reducible refine ite_keep ?_ ?_ | split | dsimp only)

theorem Block.stallOver_st (K : KeptBySt Q) (b : Block) (hb : Q b.regs) : Q (Block.stallOver b).regs := by
  unfold Block.stallOver
  repeat' (first | with_reducible assumption | dsimp only | intro _)

/-! ### A change of module state -/

/-- A change of module state ends in the state asked for, whatever it does to contexts, outputs and jobs. -/
theorem Block.changeState_mod (b : Block) (st cause : Nat) (h : st < 8) : (b.changeState st cause).modState = st := by
  have K := keptBySt_mod st
  have hc : ∀ c : Block, c.modState = st → (c.fset F.SYS_STATE_CAUSE cause).modState = st := fun c hs =>
    (Block.fget_fset_ne cause (by decide) (.inr (.inl (by decide)))).trans hs
  unfold Block.changeState
  split
  · exact hc b ‹_›
  · rename_i hne
    rw [modState_eq]
    refine Block.when_keep (Q := fun m => storedState m = st) _ _ _ ?_ (fun h => Block.lnkHalt_st K _ h)
    refine Block.chRefreshAll_st K _ (Block.enterHalt_st K _ _ (Block.enterRun_st K _ _ (Block.leaveRun_st K _ _ ?_)))
    unfold Block.enterState
    split
    · rw [← modState_eq]; exact hc _ ‹_›
    · dsimp only
      refine Block.recAccept_st K _ _ (Block.raiseEvt_st K _ _ _ (Block.lockAll_st K _ ?_))
      rw [← modState_eq]
      refine hc _ ?_
      refine (Block.fget_fset_same st (by decide)).trans ?_
      exact Nat.mod_eq_of_lt h

end Sys2Proof.Machine
end

