-- ==== Sys2Proof/Laws/KeepStateExec.lean ====
section
/-! SUPPORT. Which commands leave the module state as it was (R11, R135, R430). -/

set_option linter.unusedVariables false
set_option linter.unusedSimpArgs false

namespace Sys2Proof.Machine

variable {Q : List (Nat × Word) → Prop}


theorem execAiSample_st (K : KeptBySt Q) (ch : Fin 64) (i : Sample) (s : State) (hq : Q s.regs) :
    ∃ u, execAiSample ch i s = .next u ∧ Q u.regs := by
  refine ⟨_, rfl, ?_⟩
  repeat' (first | with_reducible assumption | with_reducible apply Block.sample_st K | dsimp only | intro _)

theorem execDiStateAccepted_st (K : KeptBySt Q) (ch : Fin 64) (on : Bool) (sinceNs : Nat) (s : State) (hq : Q s.regs) :
    ∃ u, execDiStateAccepted ch on sinceNs s = .next u ∧ Q u.regs := by
  refine ⟨_, rfl, ?_⟩
  repeat' (first | with_reducible assumption | with_reducible refine Block.setRegN_st K _ _ _ (by first | decide | (simp only [F.CH_DI_CFG_INVERT, F.CH_STAT_FIELD, Reg.CH_DI_CFG, Reg.CH_STAT, Reg.CH_TIME_HI, Reg.CH_TIME_LO, Reg.CH_VALUE, Reg.SYS_STATE, ne_eq]; omega) | (split <;> decide)) ?_ | with_reducible apply Block.modChan_st K | with_reducible apply Block.measured_st K | with_reducible apply Block.chRefresh_st K | with_reducible refine ite_keep ?_ ?_ | dsimp only | intro _)

theorem execNamurLineFault_st (K : KeptBySt Q) (ch : Fin 64) (short : Bool) (s : State) (hq : Q s.regs) :
    ∃ u, execNamurLineFault ch short s = .next u ∧ Q u.regs := by
  refine ⟨_, rfl, ?_⟩
  repeat' (first | with_reducible assumption | with_reducible apply Block.measured_st K | with_reducible refine ite_keep ?_ ?_ | dsimp only | intro _)

theorem execComplianceSet_st (K : KeptBySt Q) (ch : Fin 64) (loadMv : Nat) (code : Int) (s : State) (hq : Q s.regs) :
    ∃ u, execComplianceSet ch loadMv code s = .next u ∧ Q u.regs := by
  refine ⟨_, rfl, ?_⟩
  repeat' (first | with_reducible assumption | with_reducible apply Block.timed_st K | with_reducible apply Block.modChan_st K | with_reducible refine Block.fset_st K _ _ _ (by first | decide | exact vsOk_notState _ | (left; simp only [F.CH_FAULT_COMP_CNT, F.CH_STAT_COMPLIANCE, Reg.CH_FAULT, Reg.CH_STAT, Reg.SYS_STATE, chPage, ne_eq]; omega) | (left; split <;> (simp only [F.CH_FAULT_COMP_CNT, F.CH_STAT_COMPLIANCE, Reg.CH_FAULT, Reg.CH_STAT, Reg.SYS_STATE, chPage, ne_eq]; omega))) ?_ | with_reducible refine Block.incSat_st K _ _ (by first | decide | exact vsOk_notState _ | (left; simp only [F.CH_FAULT_COMP_CNT, F.CH_STAT_COMPLIANCE, Reg.CH_FAULT, Reg.CH_STAT, Reg.SYS_STATE, chPage, ne_eq]; omega) | (left; split <;> (simp only [F.CH_FAULT_COMP_CNT, F.CH_STAT_COMPLIANCE, Reg.CH_FAULT, Reg.CH_STAT, Reg.SYS_STATE, chPage, ne_eq]; omega))) ?_ | with_reducible apply Block.stageReport_st K | with_reducible apply Block.chRefresh_st K | with_reducible apply Block.raiseEvt_st K | with_reducible refine ite_keep ?_ ?_ | dsimp only | intro _)

theorem execComplianceClear_st (K : KeptBySt Q) (ch : Fin 64) (code : Int) (s : State) (hq : Q s.regs) :
    ∃ u, execComplianceClear ch code s = .next u ∧ Q u.regs := by
  refine ⟨_, rfl, ?_⟩
  repeat' (first | with_reducible assumption | with_reducible apply Block.modChan_st K | with_reducible refine Block.fset_st K _ _ _ (by first | decide | exact vsOk_notState _ | (left; simp only [F.CH_STAT_COMPLIANCE, Reg.CH_STAT, Reg.SYS_STATE, ne_eq]; omega) | (left; split <;> (simp only [F.CH_STAT_COMPLIANCE, Reg.CH_STAT, Reg.SYS_STATE, ne_eq]; omega))) ?_ | with_reducible apply Block.chRefresh_st K | with_reducible refine ite_keep ?_ ?_ | dsimp only | intro _)

theorem execChannelFaultDeclare_st (K : KeptBySt Q) (ch : Fin 64) (s : State) (hq : Q s.regs) :
    ∃ u, execChannelFaultDeclare ch s = .next u ∧ Q u.regs := by
  refine ⟨_, rfl, ?_⟩
  repeat' (first | with_reducible assumption | with_reducible refine Block.fset_st K _ _ _ (by first | decide | exact vsOk_notState _ | (left; simp only [F.CH_AO_CFG_COMP_TIME, F.CH_FAULT_CAUSE, F.CH_STAT_CHANNEL_FAULT, F.CH_STAT_COMPLIANCE, F.CH_STAT_THERMAL, Reg.CH_AO_CFG, Reg.CH_FAULT, Reg.CH_STAT, Reg.SYS_STATE, chPage, ne_eq]; omega) | (left; split <;> (simp only [F.CH_AO_CFG_COMP_TIME, F.CH_FAULT_CAUSE, F.CH_STAT_CHANNEL_FAULT, F.CH_STAT_COMPLIANCE, F.CH_STAT_THERMAL, Reg.CH_AO_CFG, Reg.CH_FAULT, Reg.CH_STAT, Reg.SYS_STATE, chPage, ne_eq]; omega))) ?_ | with_reducible apply Block.chRefresh_st K | with_reducible apply Block.raiseEvt_st K | with_reducible refine ite_keep ?_ ?_ | dsimp only | intro _)

theorem execStageThermalSet_st (K : KeptBySt Q) (ch : Fin 64) (tj code : Int) (s : State) (hq : Q s.regs) :
    ∃ u, execStageThermalSet ch tj code s = .next u ∧ Q u.regs := by
  refine ⟨_, rfl, ?_⟩
  repeat' (first | with_reducible assumption | with_reducible refine Block.fset_st K _ _ _ (by first | decide | exact vsOk_notState _ | (left; simp only [F.CH_STAT_COMPLIANCE, F.CH_STAT_THERMAL, Reg.CH_STAT, Reg.SYS_STATE, chPage, ne_eq]; omega) | (left; split <;> (simp only [F.CH_STAT_COMPLIANCE, F.CH_STAT_THERMAL, Reg.CH_STAT, Reg.SYS_STATE, chPage, ne_eq]; omega))) ?_ | with_reducible refine Block.when_keep _ _ _ ?_ (fun _ => ?_) | with_reducible apply Block.stageReport_st K | with_reducible apply Block.timed_st K | with_reducible apply Block.modChan_st K | with_reducible apply Block.showTj_st K | with_reducible apply Block.chRefresh_st K | with_reducible apply Block.raiseEvt_st K | with_reducible refine ite_keep ?_ ?_ | dsimp only | intro _)

theorem execStageThermalClear_st (K : KeptBySt Q) (ch : Fin 64) (tj : Int) (s : State) (hq : Q s.regs) :
    ∃ u, execStageThermalClear ch tj s = .next u ∧ Q u.regs := by
  refine ⟨_, rfl, ?_⟩
  repeat' (first | with_reducible assumption | with_reducible apply Block.showTj_st K | with_reducible refine Block.fset_st K _ _ _ (by first | decide | exact vsOk_notState _ | (left; simp only [F.CH_STAT_THERMAL, Reg.CH_STAT, Reg.SYS_STATE, ne_eq]; omega) | (left; split <;> (simp only [F.CH_STAT_THERMAL, Reg.CH_STAT, Reg.SYS_STATE, ne_eq]; omega))) ?_ | with_reducible apply Block.chRefresh_st K | with_reducible refine ite_keep ?_ ?_ | dsimp only | intro _)

theorem execDoOverload_st (K : KeptBySt Q) (ch : Fin 64) (s : State) (hq : Q s.regs) :
    ∃ u, execDoOverload ch s = .next u ∧ Q u.regs := by
  refine ⟨_, rfl, ?_⟩
  repeat' (first | with_reducible assumption | with_reducible refine Block.fset_st K _ _ _ (by first | decide | exact vsOk_notState _ | (left; simp only [F.CH_FAULT_OVL_CNT, F.CH_STAT_OPEN, F.CH_STAT_OVERLOAD, Reg.CH_FAULT, Reg.CH_STAT, Reg.SYS_STATE, chPage, ne_eq]; omega) | (left; split <;> (simp only [F.CH_FAULT_OVL_CNT, F.CH_STAT_OPEN, F.CH_STAT_OVERLOAD, Reg.CH_FAULT, Reg.CH_STAT, Reg.SYS_STATE, chPage, ne_eq]; omega))) ?_ | with_reducible refine Block.incSat_st K _ _ (by first | decide | exact vsOk_notState _ | (left; simp only [F.CH_FAULT_OVL_CNT, F.CH_STAT_OPEN, F.CH_STAT_OVERLOAD, Reg.CH_FAULT, Reg.CH_STAT, Reg.SYS_STATE, chPage, ne_eq]; omega) | (left; split <;> (simp only [F.CH_FAULT_OVL_CNT, F.CH_STAT_OPEN, F.CH_STAT_OVERLOAD, Reg.CH_FAULT, Reg.CH_STAT, Reg.SYS_STATE, chPage, ne_eq]; omega))) ?_ | with_reducible apply Block.timed_st K | with_reducible apply Block.modChan_st K | with_reducible apply Block.chRefresh_st K | with_reducible apply Block.raiseEvt_st K | with_reducible refine ite_keep ?_ ?_ | dsimp only | intro _)

theorem execDoRetry_st (K : KeptBySt Q) (ch : Fin 64) (s : State) (hq : Q s.regs) :
    ∃ u, execDoRetry ch s = .next u ∧ Q u.regs := by
  refine ⟨_, rfl, ?_⟩
  repeat' (first | with_reducible assumption | with_reducible refine Block.fset_st K _ _ _ (by first | decide | exact vsOk_notState _ | (left; simp only [F.CH_DO_CFG_RETRY, F.CH_STAT_OVERLOAD, Reg.CH_DO_CFG, Reg.CH_STAT, Reg.SYS_STATE, ne_eq]; omega) | (left; split <;> (simp only [F.CH_DO_CFG_RETRY, F.CH_STAT_OVERLOAD, Reg.CH_DO_CFG, Reg.CH_STAT, Reg.SYS_STATE, ne_eq]; omega))) ?_ | with_reducible apply Block.chRefresh_st K | with_reducible refine ite_keep ?_ ?_ | dsimp only | intro _)

theorem execDoOpenLoad_st (K : KeptBySt Q) (ch : Fin 64) (s : State) (hq : Q s.regs) :
    ∃ u, execDoOpenLoad ch s = .next u ∧ Q u.regs := by
  refine ⟨_, rfl, ?_⟩
  repeat' (first | with_reducible assumption | with_reducible apply Block.measured_st K | with_reducible refine ite_keep ?_ ?_ | dsimp only | intro _)

theorem execDoRateHoldEnd_st (K : KeptBySt Q) (ch : Fin 64) (s : State) (hq : Q s.regs) :
    ∃ u, execDoRateHoldEnd ch s = .next u ∧ Q u.regs := by
  refine ⟨_, rfl, ?_⟩
  repeat' (first | with_reducible assumption | with_reducible refine Block.fset_st K _ _ _ (by first | decide | exact vsOk_notState _ | (left; simp only [F.CH_STAT_RATE_HOLD, Reg.CH_STAT, Reg.SYS_STATE, ne_eq]; omega) | (left; split <;> (simp only [F.CH_STAT_RATE_HOLD, Reg.CH_STAT, Reg.SYS_STATE, ne_eq]; omega))) ?_ | with_reducible apply Block.chRefresh_st K | with_reducible refine ite_keep ?_ ?_ | dsimp only | intro _)

theorem execClrFault_st (K : KeptBySt Q) (r : Requester) (ch : Fin 64) (s : State) (hq : Q s.regs) :
    ∃ u, execClrFault r ch s = .next u ∧ Q u.regs := by
  refine ⟨_, rfl, ?_⟩
  repeat' (first | with_reducible assumption | with_reducible apply Block.chCmdWrite_st K | dsimp only | intro _)

theorem execCalOpen_st (K : KeptBySt Q) (r : Requester) (ch : Fin 64) (s : State) (hq : Q s.regs) :
    ∃ u, execCalOpen r ch s = .next u ∧ Q u.regs := by
  refine ⟨_, rfl, ?_⟩
  repeat' (first | with_reducible assumption | with_reducible apply Block.chCmdWrite_st K | dsimp only | intro _)

theorem execCalZero_st (K : KeptBySt Q) (r : Requester) (ch : Fin 64) (s : State) (hq : Q s.regs) :
    ∃ u, execCalZero r ch s = .next u ∧ Q u.regs := by
  refine ⟨_, rfl, ?_⟩
  repeat' (first | with_reducible assumption | with_reducible apply Block.chCmdWrite_st K | dsimp only | intro _)

theorem execCalSpan_st (K : KeptBySt Q) (r : Requester) (ch : Fin 64) (s : State) (hq : Q s.regs) :
    ∃ u, execCalSpan r ch s = .next u ∧ Q u.regs := by
  refine ⟨_, rfl, ?_⟩
  repeat' (first | with_reducible assumption | with_reducible apply Block.chCmdWrite_st K | dsimp only | intro _)

theorem execCalCommit_st (K : KeptBySt Q) (r : Requester) (ch : Fin 64) (s : State) (hq : Q s.regs) :
    ∃ u, execCalCommit r ch s = .next u ∧ Q u.regs := by
  refine ⟨_, rfl, ?_⟩
  repeat' (first | with_reducible assumption | with_reducible apply Block.chCmdWrite_st K | dsimp only | intro _)

theorem execCalCancel_st (K : KeptBySt Q) (r : Requester) (ch : Fin 64) (s : State) (hq : Q s.regs) :
    ∃ u, execCalCancel r ch s = .next u ∧ Q u.regs := by
  refine ⟨_, rfl, ?_⟩
  repeat' (first | with_reducible assumption | with_reducible apply Block.chCmdWrite_st K | dsimp only | intro _)

theorem execCalFactory_st (K : KeptBySt Q) (r : Requester) (ch : Fin 64) (s : State) (hq : Q s.regs) :
    ∃ u, execCalFactory r ch s = .next u ∧ Q u.regs := by
  refine ⟨_, rfl, ?_⟩
  repeat' (first | with_reducible assumption | with_reducible apply Block.chCmdWrite_st K | dsimp only | intro _)

theorem execCalPointAveraged_st (K : KeptBySt Q) (ch : Fin 64) (avg : Word) (s : State) (hq : Q s.regs) :
    ∃ u, execCalPointAveraged ch avg s = .next u ∧ Q u.regs := by
  refine ⟨_, rfl, ?_⟩
  repeat' (first | with_reducible assumption | with_reducible apply Block.calPoint_st K | with_reducible refine Block.when_keep _ _ _ ?_ (fun _ => ?_) | with_reducible refine Block.fset_st K _ _ _ (by first | decide | exact vsOk_notState _ | (left; simp only [F.BTN_STAT_CAL_STEP, Reg.BTN_STAT, Reg.SYS_STATE, ne_eq]; omega) | (left; split <;> (simp only [F.BTN_STAT_CAL_STEP, Reg.BTN_STAT, Reg.SYS_STATE, ne_eq]; omega))) ?_ | with_reducible apply Block.modChan_st K | with_reducible apply Block.chRefresh_st K | with_reducible apply Block.chDone_st K | with_reducible refine ite_keep ?_ ?_ | split | dsimp only | with_reducible refine pair_keep (by with_reducible assumption) ?_ | with_reducible refine pair_keep' (by with_reducible assumption) ?_ | intro _)

theorem execCalTrimsDurable_st (K : KeptBySt Q) (ch : Fin 64) (s : State) (hq : Q s.regs) :
    ∃ u, execCalTrimsDurable ch s = .next u ∧ Q u.regs := by
  refine ⟨_, rfl, ?_⟩
  repeat' (first | with_reducible assumption | with_reducible refine Block.setRegN_st K _ _ _ (by first | decide | (simp only [F.CH_CAL_INFO_COUNT, F.CH_CAL_INFO_HOURS, F.CH_CAL_INFO_SOURCE, Reg.CH_CAL_DATE, Reg.CH_CAL_INFO, Reg.CH_TRIM_GAIN, Reg.CH_TRIM_ZERO, Reg.SYS_STATE, chPage, ne_eq]; omega) | (split <;> decide)) ?_ | with_reducible refine Block.fset_st K _ _ _ (by first | decide | exact vsOk_notState _ | (left; simp only [F.CH_CAL_INFO_COUNT, F.CH_CAL_INFO_HOURS, F.CH_CAL_INFO_SOURCE, Reg.CH_CAL_DATE, Reg.CH_CAL_INFO, Reg.CH_TRIM_GAIN, Reg.CH_TRIM_ZERO, Reg.SYS_STATE, chPage, ne_eq]; omega) | (left; split <;> (simp only [F.CH_CAL_INFO_COUNT, F.CH_CAL_INFO_HOURS, F.CH_CAL_INFO_SOURCE, Reg.CH_CAL_DATE, Reg.CH_CAL_INFO, Reg.CH_TRIM_GAIN, Reg.CH_TRIM_ZERO, Reg.SYS_STATE, chPage, ne_eq]; omega))) ?_ | with_reducible refine Block.incSat_st K _ _ (by first | decide | exact vsOk_notState _ | (left; simp only [F.CH_CAL_INFO_COUNT, F.CH_CAL_INFO_HOURS, F.CH_CAL_INFO_SOURCE, Reg.CH_CAL_DATE, Reg.CH_CAL_INFO, Reg.CH_TRIM_GAIN, Reg.CH_TRIM_ZERO, Reg.SYS_STATE, chPage, ne_eq]; omega) | (left; split <;> (simp only [F.CH_CAL_INFO_COUNT, F.CH_CAL_INFO_HOURS, F.CH_CAL_INFO_SOURCE, Reg.CH_CAL_DATE, Reg.CH_CAL_INFO, Reg.CH_TRIM_GAIN, Reg.CH_TRIM_ZERO, Reg.SYS_STATE, chPage, ne_eq]; omega))) ?_ | with_reducible apply Block.localEnded_st K | with_reducible apply Block.modChan_st K | with_reducible apply Block.chRefresh_st K | with_reducible apply Block.event_st K | with_reducible apply Block.chDone_st K | with_reducible refine ite_keep ?_ ?_ | split | dsimp only | with_reducible refine pair_keep (by with_reducible assumption) ?_ | with_reducible refine pair_keep' (by with_reducible assumption) ?_ | intro _)

theorem execCalSessionTimeout_st (K : KeptBySt Q) (ch : Fin 64) (s : State) (hq : Q s.regs) :
    ∃ u, execCalSessionTimeout ch s = .next u ∧ Q u.regs := by
  refine ⟨_, rfl, ?_⟩
  repeat' (first | with_reducible assumption | with_reducible refine Block.when_keep _ _ _ ?_ (fun _ => ?_) | with_reducible apply Block.calEnd_st K | dsimp only | intro _)

theorem execHartBindWrite_st (K : KeptBySt Q) (r : Requester) (ch : Fin 64) (v : Word) (s : State) (hq : Q s.regs) :
    ∃ u, execHartBindWrite r ch v s = .next u ∧ Q u.regs := by
  refine ⟨_, rfl, ?_⟩
  repeat' (first | with_reducible assumption | with_reducible apply Block.hartCfgWrite_st K | with_reducible apply Block.out_st K | with_reducible refine ite_keep ?_ ?_ | split | dsimp only | with_reducible refine pair_keep (by with_reducible assumption) ?_ | with_reducible refine pair_keep' (by with_reducible assumption) ?_ | intro _)

theorem execSubmit_st (K : KeptBySt Q) (r : Requester) (t : Fin 16) (v : Word) (s : State) (hq : Q s.regs) :
    ∃ u, execSubmit r t v s = .next u ∧ Q u.regs := by
  refine ⟨_, rfl, ?_⟩
  repeat' (first | with_reducible assumption | with_reducible apply Block.hartCtlWrite_st K | dsimp only | intro _)

theorem execHartCancel_st (K : KeptBySt Q) (r : Requester) (t : Fin 16) (v : Word) (s : State) (hq : Q s.regs) :
    ∃ u, execHartCancel r t v s = .next u ∧ Q u.regs := by
  refine ⟨_, rfl, ?_⟩
  repeat' (first | with_reducible assumption | with_reducible apply Block.hartCtlWrite_st K | dsimp only | intro _)

theorem execHartTransactionStart_st (K : KeptBySt Q) (ch : Fin 64) (foreign : Bool) (s : State) (hq : Q s.regs) :
    ∃ u, execHartTransactionStart ch foreign s = .next u ∧ Q u.regs := by
  refine ⟨_, rfl, ?_⟩
  repeat' (first | with_reducible assumption | with_reducible apply Block.hartForeign_st K | with_reducible apply Block.hartStart_st K | with_reducible refine ite_keep ?_ ?_ | dsimp only | intro _)

theorem execHartResponse_st (K : KeptBySt Q) (ch : Fin 64) (rsp : HartRsp) (s : State) (hq : Q s.regs) :
    ∃ u, execHartResponse ch rsp s = .next u ∧ Q u.regs := by
  refine ⟨_, rfl, ?_⟩
  repeat' (first | with_reducible assumption | with_reducible apply Block.hartStore_st K | with_reducible refine Block.fset_st K _ _ _ (by first | decide | exact vsOk_notState _ | (left; simp only [F.HRT_CH_CFG_BIND, F.HRT_CH_CFG_IMG_ADDR, F.HRT_T_RSTAT_DEV_STATUS, F.HRT_T_RSTAT_RESP_CODE, F.HRT_T_STAT_RLEN, Reg.HRT_CH_CFG, Reg.HRT_T_RSTAT, Reg.HRT_T_STAT, Reg.SYS_STATE, ne_eq]; omega) | (left; split <;> (simp only [F.HRT_CH_CFG_BIND, F.HRT_CH_CFG_IMG_ADDR, F.HRT_T_RSTAT_DEV_STATUS, F.HRT_T_RSTAT_RESP_CODE, F.HRT_T_STAT_RLEN, Reg.HRT_CH_CFG, Reg.HRT_T_RSTAT, Reg.HRT_T_STAT, Reg.SYS_STATE, ne_eq]; omega))) ?_ | with_reducible refine Block.when_keep _ _ _ ?_ (fun _ => ?_) | with_reducible apply Block.hartUpdate_st K | with_reducible apply Block.hartEnd_st K | with_reducible refine ite_keep ?_ ?_ | split | dsimp only | with_reducible refine pair_keep (by with_reducible assumption) ?_ | with_reducible refine pair_keep' (by with_reducible assumption) ?_ | intro _)

theorem execHartResponseTimeout_st (K : KeptBySt Q) (ch : Fin 64) (foreign : Bool) (s : State) (hq : Q s.regs) :
    ∃ u, execHartResponseTimeout ch foreign s = .next u ∧ Q u.regs := by
  refine ⟨_, rfl, ?_⟩
  repeat' (first | with_reducible assumption | with_reducible apply Block.hartForeign_st K | with_reducible apply Block.hartAgain_st K | with_reducible apply Block.hartEnd_st K | with_reducible refine ite_keep ?_ ?_ | split | dsimp only | with_reducible refine pair_keep (by with_reducible assumption) ?_ | with_reducible refine pair_keep' (by with_reducible assumption) ?_ | intro _)

theorem execHartWaitExpiry_st (K : KeptBySt Q) (ch : Fin 64) (slot : Option (Fin 16)) (s : State) (hq : Q s.regs) :
    ∃ u, execHartWaitExpiry ch slot s = .next u ∧ Q u.regs := by
  refine ⟨_, rfl, ?_⟩
  repeat' (first | with_reducible assumption | with_reducible refine Block.when_keep _ _ _ ?_ (fun _ => ?_) | with_reducible apply Block.hartDrop_st K | split | dsimp only | with_reducible refine pair_keep (by with_reducible assumption) ?_ | with_reducible refine pair_keep' (by with_reducible assumption) ?_ | intro _)

theorem execHartBurstFrame_st (K : KeptBySt Q) (ch : Fin 64) (addr : Fin 16) (cmd respCode devStatus : BitVec 8) (vars : List Word) (s : State) (hq : Q s.regs) :
    ∃ u, execHartBurstFrame ch addr cmd respCode devStatus vars s = .next u ∧ Q u.regs := by
  refine ⟨_, rfl, ?_⟩
  repeat' (first | with_reducible assumption | with_reducible apply Block.hartCarrier_st K | with_reducible refine Block.incSat_st K _ _ (by first | decide | exact vsOk_notState _ | (left; simp only [F.HRT_CH_CFG_IMG_ADDR, F.HRT_CH_STAT_BURSTS, Reg.HRT_CH_CFG, Reg.HRT_CH_STAT, Reg.SYS_STATE, ne_eq]; omega) | (left; split <;> (simp only [F.HRT_CH_CFG_IMG_ADDR, F.HRT_CH_STAT_BURSTS, Reg.HRT_CH_CFG, Reg.HRT_CH_STAT, Reg.SYS_STATE, ne_eq]; omega))) ?_ | with_reducible apply Block.raiseEvt_st K | with_reducible apply Block.hartBurstEnd_st K | with_reducible refine Block.when_keep _ _ _ ?_ (fun _ => ?_) | with_reducible apply Block.hartUpdate_st K | with_reducible refine ite_keep ?_ ?_ | dsimp only | intro _)

theorem execHartCarrierSilence_st (K : KeptBySt Q) (ch : Fin 64) (s : State) (hq : Q s.regs) :
    ∃ u, execHartCarrierSilence ch s = .next u ∧ Q u.regs := by
  refine ⟨_, rfl, ?_⟩
  repeat' (first | with_reducible assumption | with_reducible refine ite_keep ?_ ?_ | dsimp only | intro _)

theorem execHartPoll_st (K : KeptBySt Q) (ch : Fin 64) (s : State) (hq : Q s.regs) :
    ∃ u, execHartPoll ch s = .next u ∧ Q u.regs := by
  refine ⟨_, rfl, ?_⟩
  repeat' (first | with_reducible assumption | with_reducible apply Block.timed_st K | with_reducible apply Block.hartQueue_st K | with_reducible refine ite_keep ?_ ?_ | dsimp only | intro _)

theorem execHartModemFault_st (K : KeptBySt Q) (m : Fin 16) (s : State) (hq : Q s.regs) :
    ∃ u, execHartModemFault m s = .next u ∧ Q u.regs := by
  refine ⟨_, rfl, ?_⟩
  repeat' (first | with_reducible assumption | with_reducible apply Block.modemFail_st K | dsimp only | intro _)

theorem execChModeWrite_st (K : KeptBySt Q) (r : Requester) (ch : Fin 64) (v : Word) (s : State) (hq : Q s.regs) :
    ∃ u, execChModeWrite r ch v s = .next u ∧ Q u.regs := by
  refine ⟨_, rfl, ?_⟩
  repeat' (first | with_reducible assumption | with_reducible apply Block.chModeSet_st K | with_reducible apply Block.out_st K | with_reducible refine ite_keep ?_ ?_ | split | dsimp only | with_reducible refine pair_keep (by with_reducible assumption) ?_ | with_reducible refine pair_keep' (by with_reducible assumption) ?_ | intro _)

theorem execLinkCycle_st (K : KeptBySt Q) (seg : Fin 2) (s : State) (hq : Q s.regs) :
    ∃ u, execLinkCycle seg s = .next u ∧ Q u.regs := by
  refine ⟨_, rfl, ?_⟩
  repeat' (first | with_reducible assumption | with_reducible refine Block.when_keep _ _ _ ?_ (fun _ => ?_) | with_reducible apply Block.lnkRing_st K | with_reducible apply Block.setLnkSeg_st K | with_reducible refine Block.forAll_keep _ _ _ ?_ (fun _ _ _ => ?_) | with_reducible apply Block.setLnkSt_st K | with_reducible refine ite_keep ?_ ?_ | dsimp only | intro _)

theorem execLinkSendDeadline_st (K : KeptBySt Q) (seg : Fin 2) (s : State) (hq : Q s.regs) :
    ∃ u, execLinkSendDeadline seg s = .next u ∧ Q u.regs := by
  refine ⟨_, rfl, ?_⟩
  repeat' (first | with_reducible assumption | with_reducible refine Block.when_keep _ _ _ ?_ (fun _ => ?_) | with_reducible apply Block.lnkSend_st K | dsimp only | intro _)

theorem execHello_st (K : KeptBySt Q) (h : LinkHello) (s : State) (hq : Q s.regs) :
    ∃ u, execHello h s = .next u ∧ Q u.regs := by
  refine ⟨_, rfl, ?_⟩
  repeat' (first | with_reducible assumption | with_reducible apply Block.lnkHello_st K | dsimp only | intro _)

theorem execReady_st (K : KeptBySt Q) (portB : Bool) (addr mac turn res arrival : Nat) (s : State) (hq : Q s.regs) :
    ∃ u, execReady portB addr mac turn res arrival s = .next u ∧ Q u.regs := by
  refine ⟨_, rfl, ?_⟩
  repeat' (first | with_reducible assumption | with_reducible apply Block.setLnkSt_st K | with_reducible apply Block.lnkDelays_st K | with_reducible apply Block.lnkSet_st K | with_reducible apply Block.lnkRefuse_st K | with_reducible refine ite_keep ?_ ?_ | split | dsimp only | with_reducible refine pair_keep (by with_reducible assumption) ?_ | with_reducible refine pair_keep' (by with_reducible assumption) ?_ | intro _)

theorem execLinkWindowEnd_st (K : KeptBySt Q) (seg : Fin 2) (s : State) (hq : Q s.regs) :
    ∃ u, execLinkWindowEnd seg s = .next u ∧ Q u.regs := by
  refine ⟨_, rfl, ?_⟩
  repeat' (first | with_reducible assumption | with_reducible apply Block.echoEnd_st K | with_reducible apply Block.lnkReceipt_st K | with_reducible refine Block.forAll_keep _ _ _ ?_ (fun _ _ _ => ?_) | with_reducible apply Block.setLnkSt_st K | with_reducible refine Block.when_keep _ _ _ ?_ (fun _ => ?_) | with_reducible apply Block.lnkReach_st K | with_reducible apply Block.lnkSet_st K | with_reducible apply Block.lnkRing_st K | with_reducible apply Block.setLnkSeg_st K | with_reducible apply Block.lnkConfigs_st K | with_reducible refine ite_keep ?_ ?_ | dsimp only | intro _)

theorem execLinkPortLost_st (K : KeptBySt Q) (portB : Bool) (s : State) (hq : Q s.regs) :
    ∃ u, execLinkPortLost portB s = .next u ∧ Q u.regs := by
  refine ⟨_, rfl, ?_⟩
  repeat' (first | with_reducible assumption | with_reducible refine Block.fset_st K _ _ _ (by first | decide | exact lnkDelayField_notState _ _ | (left; simp only [F.LNK_STAT_LINK_A, F.LNK_STAT_LINK_B, F.LNK_ST_DELAY_DELAY_A, F.LNK_ST_DELAY_DELAY_B, Reg.LNK_STAT, Reg.LNK_ST_DELAY, Reg.SYS_STATE, lnkDelayField, ne_eq]; omega) | (left; split <;> (simp only [F.LNK_STAT_LINK_A, F.LNK_STAT_LINK_B, F.LNK_ST_DELAY_DELAY_A, F.LNK_ST_DELAY_DELAY_B, Reg.LNK_STAT, Reg.LNK_ST_DELAY, Reg.SYS_STATE, lnkDelayField, ne_eq]; omega))) ?_ | with_reducible apply Block.raiseEvt_st K | with_reducible refine Block.forAll_keep _ _ _ ?_ (fun _ _ _ => ?_) | with_reducible refine ite_keep ?_ ?_ | dsimp only | intro _)

theorem execLinkPortLinkUp_st (K : KeptBySt Q) (portB : Bool) (s : State) (hq : Q s.regs) :
    ∃ u, execLinkPortLinkUp portB s = .next u ∧ Q u.regs := by
  refine ⟨_, rfl, ?_⟩
  repeat' (first | with_reducible assumption | with_reducible refine Block.fset_st K _ _ _ (by first | decide | exact vsOk_notState _ | (left; simp only [F.LNK_STAT_LINK_A, F.LNK_STAT_LINK_B, Reg.LNK_STAT, Reg.SYS_STATE, ne_eq]; omega) | (left; split <;> (simp only [F.LNK_STAT_LINK_A, F.LNK_STAT_LINK_B, Reg.LNK_STAT, Reg.SYS_STATE, ne_eq]; omega))) ?_ | with_reducible refine ite_keep ?_ ?_ | dsimp only | intro _)

theorem execLinkOutFrameReturn_st (K : KeptBySt Q) (portB : Bool) (s : State) (hq : Q s.regs) :
    ∃ u, execLinkOutFrameReturn portB s = .next u ∧ Q u.regs := by
  refine ⟨_, rfl, ?_⟩
  repeat' (first | with_reducible assumption | with_reducible apply Block.setLnkSeg_st K | with_reducible refine ite_keep ?_ ?_ | dsimp only | intro _)

theorem execLinkStrayFrame_st (K : KeptBySt Q) (portB fcsBad : Bool) (s : State) (hq : Q s.regs) :
    ∃ u, execLinkStrayFrame portB fcsBad s = .next u ∧ Q u.regs := by
  refine ⟨_, rfl, ?_⟩
  repeat' (first | with_reducible assumption | with_reducible refine Block.incSat_st K _ _ (by first | decide | exact vsOk_notState _ | (left; simp only [F.LNK_FCS_A_COUNT, F.LNK_FCS_B_COUNT, F.LNK_STRAY_CNT_COUNT, Reg.LNK_FCS_A, Reg.LNK_FCS_B, Reg.LNK_STRAY_CNT, Reg.SYS_STATE, ne_eq]; omega) | (left; split <;> (simp only [F.LNK_FCS_A_COUNT, F.LNK_FCS_B_COUNT, F.LNK_STRAY_CNT_COUNT, Reg.LNK_FCS_A, Reg.LNK_FCS_B, Reg.LNK_STRAY_CNT, Reg.SYS_STATE, ne_eq]; omega))) ?_ | with_reducible apply Block.raiseEvt_st K | with_reducible refine ite_keep ?_ ?_ | dsimp only | intro _)

theorem execLinkDrop_st (K : KeptBySt Q) (r : Requester) (addr : Nat) (s : State) (hq : Q s.regs) :
    ∃ u, execLinkDrop r addr s = .next u ∧ Q u.regs := by
  refine ⟨_, rfl, ?_⟩
  repeat' (first | with_reducible assumption | with_reducible apply Block.cmdWrite_st K | with_reducible apply Block.lnkCommand_st K | dsimp only | intro _)

theorem execLinkAdmit_st (K : KeptBySt Q) (r : Requester) (addr : Nat) (s : State) (hq : Q s.regs) :
    ∃ u, execLinkAdmit r addr s = .next u ∧ Q u.regs := by
  refine ⟨_, rfl, ?_⟩
  repeat' (first | with_reducible assumption | with_reducible apply Block.cmdWrite_st K | with_reducible apply Block.lnkCommand_st K | dsimp only | intro _)

theorem execCanTxInstant_st (K : KeptBySt Q) (p : Fin 4) (slot : Fin 32) (idle : Bool) (s : State) (hq : Q s.regs) :
    ∃ u, execCanTxInstant p slot idle s = .next u ∧ Q u.regs := by
  refine ⟨_, rfl, ?_⟩
  repeat' (first | with_reducible assumption | with_reducible apply Block.canBus_st K | with_reducible refine Block.when_keep _ _ _ ?_ (fun _ => ?_) | with_reducible apply Block.canInstant_st K | with_reducible apply Block.canAimed_st K | with_reducible apply Block.canStart_st K | dsimp only | intro _)

theorem execCanErrorFrame_st (K : KeptBySt Q) (p : Fin 4) (kind : Fin 7) (tecInc recInc : Nat) (s : State) (hq : Q s.regs) :
    ∃ u, execCanErrorFrame p kind tecInc recInc s = .next u ∧ Q u.regs := by
  refine ⟨_, rfl, ?_⟩
  repeat' (first | with_reducible assumption | with_reducible refine Block.incSat_st K _ _ (by first | decide | exact vsOk_notState _ | (left; simp only [F.CAN_MODE_FD_EN, F.CAN_MODE_PEX, F.CAN_PEX_CNT_COUNT, Reg.CAN_MODE, Reg.CAN_PEX_CNT, Reg.SYS_STATE, canPage, ne_eq]; omega) | (left; split <;> (simp only [F.CAN_MODE_FD_EN, F.CAN_MODE_PEX, F.CAN_PEX_CNT_COUNT, Reg.CAN_MODE, Reg.CAN_PEX_CNT, Reg.SYS_STATE, canPage, ne_eq]; omega))) ?_ | with_reducible apply Block.raiseEvt_st K | with_reducible apply Block.canBus_st K | with_reducible apply Block.canError_st K | with_reducible apply Block.canStart_st K | with_reducible refine ite_keep ?_ ?_ | dsimp only | intro _)

theorem execCanFrameRx_st (K : KeptBySt Q) (p : Fin 4) (f : CanFrame) (s : State) (hq : Q s.regs) :
    ∃ u, execCanFrameRx p f s = .next u ∧ Q u.regs := by
  refine ⟨_, rfl, ?_⟩
  repeat' (first | with_reducible assumption | with_reducible apply Block.canBus_st K | with_reducible apply Block.canError_st K | with_reducible apply Block.canStore_st K | with_reducible apply Block.canReceived_st K | with_reducible apply Block.canStart_st K | with_reducible refine ite_keep ?_ ?_ | dsimp only | intro _)

theorem execCanTxAttemptEnd_st (K : KeptBySt Q) (p : Fin 4) (e : CanEnd) (sofNs sofSec meas : Nat) (s : State) (hq : Q s.regs) :
    ∃ u, execCanTxAttemptEnd p e sofNs sofSec meas s = .next u ∧ Q u.regs := by
  refine ⟨_, rfl, ?_⟩
  repeat' (first | with_reducible assumption | with_reducible apply Block.canAttemptEnd_st K | dsimp only | intro _)

theorem execRecover_st (K : KeptBySt Q) (r : Requester) (p : Fin 4) (s : State) (hq : Q s.regs) :
    ∃ u, execRecover r p s = .next u ∧ Q u.regs := by
  refine ⟨_, rfl, ?_⟩
  repeat' (first | with_reducible assumption | with_reducible apply Block.cmdWrite_st K | with_reducible apply Block.canRecover_st K | dsimp only | intro _)

theorem execCanRecoveryComplete_st (K : KeptBySt Q) (p : Fin 4) (s : State) (hq : Q s.regs) :
    ∃ u, execCanRecoveryComplete p s = .next u ∧ Q u.regs := by
  refine ⟨_, rfl, ?_⟩
  repeat' (first | with_reducible assumption | with_reducible refine Block.fset_st K _ _ _ (by first | decide | exact vsOk_notState _ | (left; simp only [F.CAN_ERR_STATE, Reg.CAN_ERR, Reg.SYS_STATE, canPage, ne_eq]; omega) | (left; split <;> (simp only [F.CAN_ERR_STATE, Reg.CAN_ERR, Reg.SYS_STATE, canPage, ne_eq]; omega))) ?_ | with_reducible apply Block.canCounters_st K | with_reducible apply Block.raiseEvt_st K | with_reducible refine ite_keep ?_ ?_ | dsimp only | intro _)

theorem execCanModeChange_st (K : KeptBySt Q) (p : Fin 4) (s : State) (hq : Q s.regs) :
    ∃ u, execCanModeChange p s = .next u ∧ Q u.regs := by
  refine ⟨_, rfl, ?_⟩
  repeat' (first | with_reducible assumption | with_reducible refine Block.when_keep _ _ _ ?_ (fun _ => ?_) | with_reducible apply Block.canTakeMode_st K | dsimp only | intro _)

theorem execCancel_st (K : KeptBySt Q) (r : Requester) (job : Fin 16) (v : Word) (made : SolAt) (s : State) (hq : Q s.regs) :
    ∃ u, execCancel r job v made s = .next u ∧ Q u.regs := by
  refine ⟨_, rfl, ?_⟩
  repeat' (first | with_reducible assumption | with_reducible apply Block.cmdWrite_st K | with_reducible refine Block.fset_st K _ _ _ (by first | decide | exact vsOk_notState _ | (left; simp only [F.SOL_JOB_CTL_CANCEL, Reg.SOL_JOB_CTL, Reg.SYS_STATE, ne_eq]; omega) | (left; split <;> (simp only [F.SOL_JOB_CTL_CANCEL, Reg.SOL_JOB_CTL, Reg.SYS_STATE, ne_eq]; omega))) ?_ | with_reducible apply Block.solScan_st K | with_reducible refine ite_keep ?_ ?_ | split | dsimp only | with_reducible refine pair_keep (by with_reducible assumption) ?_ | with_reducible refine pair_keep' (by with_reducible assumption) ?_ | intro _)

theorem execSolverJobStart_st (K : KeptBySt Q) (s : State) (hq : Q s.regs) :
    ∃ u, execSolverJobStart s = .next u ∧ Q u.regs := by
  refine ⟨_, rfl, ?_⟩
  repeat' (first | with_reducible assumption | with_reducible apply Block.solStart_st K | with_reducible refine ite_keep ?_ ?_ | split | dsimp only | with_reducible refine pair_keep (by with_reducible assumption) ?_ | with_reducible refine pair_keep' (by with_reducible assumption) ?_ | intro _)

theorem execSolverJobEnd_st (K : KeptBySt Q) (s : State) (hq : Q s.regs) :
    ∃ u, execSolverJobEnd s = .next u ∧ Q u.regs := by
  refine ⟨_, rfl, ?_⟩
  repeat' (first | with_reducible assumption | with_reducible apply Block.solEnd_st K | split | dsimp only | with_reducible refine pair_keep (by with_reducible assumption) ?_ | with_reducible refine pair_keep' (by with_reducible assumption) ?_ | intro _)

theorem execSolverDeadline_st (K : KeptBySt Q) (made : SolAt) (s : State) (hq : Q s.regs) :
    ∃ u, execSolverDeadline made s = .next u ∧ Q u.regs := by
  refine ⟨_, rfl, ?_⟩
  repeat' (first | with_reducible assumption | with_reducible apply Block.solEnd_st K | with_reducible refine ite_keep ?_ ?_ | split | dsimp only | with_reducible refine pair_keep (by with_reducible assumption) ?_ | with_reducible refine pair_keep' (by with_reducible assumption) ?_ | intro _)

theorem execSet_st (K : KeptBySt Q) (r : Requester) (s : State) (hq : Q s.regs) :
    ∃ u, execSet r s = .next u ∧ Q u.regs := by
  refine ⟨_, rfl, ?_⟩
  repeat' (first | with_reducible assumption | with_reducible apply Block.frcCmdWrite_st K | dsimp only | intro _)

theorem execRelease_st (K : KeptBySt Q) (r : Requester) (s : State) (hq : Q s.regs) :
    ∃ u, execRelease r s = .next u ∧ Q u.regs := by
  refine ⟨_, rfl, ?_⟩
  repeat' (first | with_reducible assumption | with_reducible apply Block.frcCmdWrite_st K | dsimp only | intro _)

theorem execReleaseAll_st (K : KeptBySt Q) (r : Requester) (s : State) (hq : Q s.regs) :
    ∃ u, execReleaseAll r s = .next u ∧ Q u.regs := by
  refine ⟨_, rfl, ?_⟩
  repeat' (first | with_reducible assumption | with_reducible apply Block.frcCmdWrite_st K | dsimp only | intro _)

theorem execReadForce_st (K : KeptBySt Q) (r : Requester) (index : Fin 512) (s : State) (hq : Q s.regs) :
    ∃ u, execReadForce r index s = .next u ∧ Q u.regs := by
  refine ⟨_, rfl, ?_⟩
  repeat' (first | with_reducible assumption | with_reducible apply Block.frcCmdWrite_st K | dsimp only | intro _)

theorem execForceAcknowledge_st (K : KeptBySt Q) (partnerOk : Bool) (s : State) (hq : Q s.regs) :
    ∃ u, execForceAcknowledge partnerOk s = .next u ∧ Q u.regs := by
  refine ⟨_, rfl, ?_⟩
  repeat' (first | with_reducible assumption | with_reducible refine Block.when_keep _ _ _ ?_ (fun _ => ?_) | with_reducible apply Block.frcAck_st K | dsimp only | intro _)

theorem execContextTrigger_st (K : KeptBySt Q) (c : Fin 256) (s : State) (hq : Q s.regs) :
    ∃ u, execContextTrigger c s = .next u ∧ Q u.regs := by
  refine ⟨_, rfl, ?_⟩
  repeat' (first | with_reducible assumption | with_reducible apply Block.trigger_st K | dsimp only | intro _)

theorem execContextDispatch_st (K : KeptBySt Q) (c : Fin 256) (s : State) (hq : Q s.regs) :
    ∃ u, execContextDispatch c s = .next u ∧ Q u.regs := by
  refine ⟨_, rfl, ?_⟩
  repeat' (first | with_reducible assumption | with_reducible apply Block.dispatch_st K | with_reducible apply Block.defer_st K | with_reducible refine ite_keep ?_ ?_ | dsimp only | intro _)

theorem execNop_st (K : KeptBySt Q) (c : Fin 256) (s : State) (hq : Q s.regs) :
    ∃ u, execNop c s = .next u ∧ Q u.regs := by
  refine ⟨_, rfl, ?_⟩
  repeat' (first | with_reducible assumption | with_reducible apply Block.lvc_st K | dsimp only | intro _)

theorem execEndCycle_st (K : KeptBySt Q) (c : Fin 256) (s : State) (hq : Q s.regs) :
    ∃ u, execEndCycle c s = .next u ∧ Q u.regs := by
  refine ⟨_, rfl, ?_⟩
  repeat' (first | with_reducible assumption | with_reducible apply Block.lvc_st K | with_reducible apply Block.endCycle_st K | dsimp only | intro _)

theorem execTrap_st (K : KeptBySt Q) (c : Fin 256) (s1 : Fin 4096) (s : State) (hq : Q s.regs) :
    ∃ u, execTrap c s1 s = .next u ∧ Q u.regs := by
  refine ⟨_, rfl, ?_⟩
  repeat' (first | with_reducible assumption | with_reducible apply Block.lvc_st K | dsimp only | intro _)

theorem execMov_st (K : KeptBySt Q) (c : Fin 256) (d s1 : Fin 4096) (s : State) (hq : Q s.regs) :
    ∃ u, execMov c d s1 s = .next u ∧ Q u.regs := by
  refine ⟨_, rfl, ?_⟩
  repeat' (first | with_reducible assumption | with_reducible apply Block.lvc_st K | dsimp only | intro _)

theorem execMov64_st (K : KeptBySt Q) (c : Fin 256) (d s1 : Fin 4096) (s : State) (hq : Q s.regs) :
    ∃ u, execMov64 c d s1 s = .next u ∧ Q u.regs := by
  refine ⟨_, rfl, ?_⟩
  repeat' (first | with_reducible assumption | with_reducible apply Block.lvc_st K | dsimp only | intro _)

theorem execLdi_st (K : KeptBySt Q) (c : Fin 256) (d : Fin 4096) (imm : Word) (s : State) (hq : Q s.regs) :
    ∃ u, execLdi c d imm s = .next u ∧ Q u.regs := by
  refine ⟨_, rfl, ?_⟩
  repeat' (first | with_reducible assumption | with_reducible apply Block.lvc_st K | dsimp only | intro _)

theorem execLdk_st (K : KeptBySt Q) (c : Fin 256) (d : Fin 4096) (idx : Nat) (s : State) (hq : Q s.regs) :
    ∃ u, execLdk c d idx s = .next u ∧ Q u.regs := by
  refine ⟨_, rfl, ?_⟩
  repeat' (first | with_reducible assumption | with_reducible apply Block.lvc_st K | dsimp only | intro _)

theorem execLdx_st (K : KeptBySt Q) (c : Fin 256) (d s1 base n : Fin 4096) (s : State) (hq : Q s.regs) :
    ∃ u, execLdx c d s1 base n s = .next u ∧ Q u.regs := by
  refine ⟨_, rfl, ?_⟩
  repeat' (first | with_reducible assumption | with_reducible apply Block.lvc_st K | dsimp only | intro _)

theorem execStx_st (K : KeptBySt Q) (c : Fin 256) (d s1 base n : Fin 4096) (s : State) (hq : Q s.regs) :
    ∃ u, execStx c d s1 base n s = .next u ∧ Q u.regs := by
  refine ⟨_, rfl, ?_⟩
  repeat' (first | with_reducible assumption | with_reducible apply Block.lvc_st K | dsimp only | intro _)

theorem execAdd_st (K : KeptBySt Q) (c : Fin 256) (t : Fin 16) (d s1 s2 : Fin 4096) (s : State) (hq : Q s.regs) :
    ∃ u, execAdd c t d s1 s2 s = .next u ∧ Q u.regs := by
  refine ⟨_, rfl, ?_⟩
  repeat' (first | with_reducible assumption | with_reducible apply Block.lvc_st K | dsimp only | intro _)

theorem execSub_st (K : KeptBySt Q) (c : Fin 256) (t : Fin 16) (d s1 s2 : Fin 4096) (s : State) (hq : Q s.regs) :
    ∃ u, execSub c t d s1 s2 s = .next u ∧ Q u.regs := by
  refine ⟨_, rfl, ?_⟩
  repeat' (first | with_reducible assumption | with_reducible apply Block.lvc_st K | dsimp only | intro _)

theorem execMul_st (K : KeptBySt Q) (c : Fin 256) (t : Fin 16) (d s1 s2 : Fin 4096) (s : State) (hq : Q s.regs) :
    ∃ u, execMul c t d s1 s2 s = .next u ∧ Q u.regs := by
  refine ⟨_, rfl, ?_⟩
  repeat' (first | with_reducible assumption | with_reducible apply Block.lvc_st K | dsimp only | intro _)

theorem execDiv_st (K : KeptBySt Q) (c : Fin 256) (t : Fin 16) (d s1 s2 : Fin 4096) (s : State) (hq : Q s.regs) :
    ∃ u, execDiv c t d s1 s2 s = .next u ∧ Q u.regs := by
  refine ⟨_, rfl, ?_⟩
  repeat' (first | with_reducible assumption | with_reducible apply Block.lvc_st K | dsimp only | intro _)

theorem execRem_st (K : KeptBySt Q) (c : Fin 256) (t : Fin 16) (d s1 s2 : Fin 4096) (s : State) (hq : Q s.regs) :
    ∃ u, execRem c t d s1 s2 s = .next u ∧ Q u.regs := by
  refine ⟨_, rfl, ?_⟩
  repeat' (first | with_reducible assumption | with_reducible apply Block.lvc_st K | dsimp only | intro _)

theorem execMin_st (K : KeptBySt Q) (c : Fin 256) (t : Fin 16) (d s1 s2 : Fin 4096) (s : State) (hq : Q s.regs) :
    ∃ u, execMin c t d s1 s2 s = .next u ∧ Q u.regs := by
  refine ⟨_, rfl, ?_⟩
  repeat' (first | with_reducible assumption | with_reducible apply Block.lvc_st K | dsimp only | intro _)

theorem execMax_st (K : KeptBySt Q) (c : Fin 256) (t : Fin 16) (d s1 s2 : Fin 4096) (s : State) (hq : Q s.regs) :
    ∃ u, execMax c t d s1 s2 s = .next u ∧ Q u.regs := by
  refine ⟨_, rfl, ?_⟩
  repeat' (first | with_reducible assumption | with_reducible apply Block.lvc_st K | dsimp only | intro _)

theorem execFma_st (K : KeptBySt Q) (c : Fin 256) (t : Fin 16) (d s1 s2 : Fin 4096) (s : State) (hq : Q s.regs) :
    ∃ u, execFma c t d s1 s2 s = .next u ∧ Q u.regs := by
  refine ⟨_, rfl, ?_⟩
  repeat' (first | with_reducible assumption | with_reducible apply Block.lvc_st K | dsimp only | intro _)

theorem execNeg_st (K : KeptBySt Q) (c : Fin 256) (t : Fin 16) (d s1 : Fin 4096) (s : State) (hq : Q s.regs) :
    ∃ u, execNeg c t d s1 s = .next u ∧ Q u.regs := by
  refine ⟨_, rfl, ?_⟩
  repeat' (first | with_reducible assumption | with_reducible apply Block.lvc_st K | dsimp only | intro _)

theorem execAbs_st (K : KeptBySt Q) (c : Fin 256) (t : Fin 16) (d s1 : Fin 4096) (s : State) (hq : Q s.regs) :
    ∃ u, execAbs c t d s1 s = .next u ∧ Q u.regs := by
  refine ⟨_, rfl, ?_⟩
  repeat' (first | with_reducible assumption | with_reducible apply Block.lvc_st K | dsimp only | intro _)

theorem execSqrt_st (K : KeptBySt Q) (c : Fin 256) (t : Fin 16) (d s1 : Fin 4096) (s : State) (hq : Q s.regs) :
    ∃ u, execSqrt c t d s1 s = .next u ∧ Q u.regs := by
  refine ⟨_, rfl, ?_⟩
  repeat' (first | with_reducible assumption | with_reducible apply Block.lvc_st K | dsimp only | intro _)

theorem execAnd_st (K : KeptBySt Q) (c : Fin 256) (t : Fin 16) (d s1 s2 : Fin 4096) (s : State) (hq : Q s.regs) :
    ∃ u, execAnd c t d s1 s2 s = .next u ∧ Q u.regs := by
  refine ⟨_, rfl, ?_⟩
  repeat' (first | with_reducible assumption | with_reducible apply Block.lvc_st K | dsimp only | intro _)

theorem execOr_st (K : KeptBySt Q) (c : Fin 256) (t : Fin 16) (d s1 s2 : Fin 4096) (s : State) (hq : Q s.regs) :
    ∃ u, execOr c t d s1 s2 s = .next u ∧ Q u.regs := by
  refine ⟨_, rfl, ?_⟩
  repeat' (first | with_reducible assumption | with_reducible apply Block.lvc_st K | dsimp only | intro _)

theorem execXor_st (K : KeptBySt Q) (c : Fin 256) (t : Fin 16) (d s1 s2 : Fin 4096) (s : State) (hq : Q s.regs) :
    ∃ u, execXor c t d s1 s2 s = .next u ∧ Q u.regs := by
  refine ⟨_, rfl, ?_⟩
  repeat' (first | with_reducible assumption | with_reducible apply Block.lvc_st K | dsimp only | intro _)

theorem execShl_st (K : KeptBySt Q) (c : Fin 256) (t : Fin 16) (d s1 s2 : Fin 4096) (s : State) (hq : Q s.regs) :
    ∃ u, execShl c t d s1 s2 s = .next u ∧ Q u.regs := by
  refine ⟨_, rfl, ?_⟩
  repeat' (first | with_reducible assumption | with_reducible apply Block.lvc_st K | dsimp only | intro _)

theorem execShr_st (K : KeptBySt Q) (c : Fin 256) (t : Fin 16) (d s1 s2 : Fin 4096) (s : State) (hq : Q s.regs) :
    ∃ u, execShr c t d s1 s2 s = .next u ∧ Q u.regs := by
  refine ⟨_, rfl, ?_⟩
  repeat' (first | with_reducible assumption | with_reducible apply Block.lvc_st K | dsimp only | intro _)

theorem execRol_st (K : KeptBySt Q) (c : Fin 256) (t : Fin 16) (d s1 s2 : Fin 4096) (s : State) (hq : Q s.regs) :
    ∃ u, execRol c t d s1 s2 s = .next u ∧ Q u.regs := by
  refine ⟨_, rfl, ?_⟩
  repeat' (first | with_reducible assumption | with_reducible apply Block.lvc_st K | dsimp only | intro _)

theorem execRor_st (K : KeptBySt Q) (c : Fin 256) (t : Fin 16) (d s1 s2 : Fin 4096) (s : State) (hq : Q s.regs) :
    ∃ u, execRor c t d s1 s2 s = .next u ∧ Q u.regs := by
  refine ⟨_, rfl, ?_⟩
  repeat' (first | with_reducible assumption | with_reducible apply Block.lvc_st K | dsimp only | intro _)

theorem execNot_st (K : KeptBySt Q) (c : Fin 256) (t : Fin 16) (d s1 : Fin 4096) (s : State) (hq : Q s.regs) :
    ∃ u, execNot c t d s1 s = .next u ∧ Q u.regs := by
  refine ⟨_, rfl, ?_⟩
  repeat' (first | with_reducible assumption | with_reducible apply Block.lvc_st K | dsimp only | intro _)

theorem execEq_st (K : KeptBySt Q) (c : Fin 256) (t : Fin 16) (d s1 s2 : Fin 4096) (s : State) (hq : Q s.regs) :
    ∃ u, execEq c t d s1 s2 s = .next u ∧ Q u.regs := by
  refine ⟨_, rfl, ?_⟩
  repeat' (first | with_reducible assumption | with_reducible apply Block.lvc_st K | dsimp only | intro _)

theorem execNe_st (K : KeptBySt Q) (c : Fin 256) (t : Fin 16) (d s1 s2 : Fin 4096) (s : State) (hq : Q s.regs) :
    ∃ u, execNe c t d s1 s2 s = .next u ∧ Q u.regs := by
  refine ⟨_, rfl, ?_⟩
  repeat' (first | with_reducible assumption | with_reducible apply Block.lvc_st K | dsimp only | intro _)

theorem execLt_st (K : KeptBySt Q) (c : Fin 256) (t : Fin 16) (d s1 s2 : Fin 4096) (s : State) (hq : Q s.regs) :
    ∃ u, execLt c t d s1 s2 s = .next u ∧ Q u.regs := by
  refine ⟨_, rfl, ?_⟩
  repeat' (first | with_reducible assumption | with_reducible apply Block.lvc_st K | dsimp only | intro _)

theorem execLe_st (K : KeptBySt Q) (c : Fin 256) (t : Fin 16) (d s1 s2 : Fin 4096) (s : State) (hq : Q s.regs) :
    ∃ u, execLe c t d s1 s2 s = .next u ∧ Q u.regs := by
  refine ⟨_, rfl, ?_⟩
  repeat' (first | with_reducible assumption | with_reducible apply Block.lvc_st K | dsimp only | intro _)

theorem execGt_st (K : KeptBySt Q) (c : Fin 256) (t : Fin 16) (d s1 s2 : Fin 4096) (s : State) (hq : Q s.regs) :
    ∃ u, execGt c t d s1 s2 s = .next u ∧ Q u.regs := by
  refine ⟨_, rfl, ?_⟩
  repeat' (first | with_reducible assumption | with_reducible apply Block.lvc_st K | dsimp only | intro _)

theorem execGe_st (K : KeptBySt Q) (c : Fin 256) (t : Fin 16) (d s1 s2 : Fin 4096) (s : State) (hq : Q s.regs) :
    ∃ u, execGe c t d s1 s2 s = .next u ∧ Q u.regs := by
  refine ⟨_, rfl, ?_⟩
  repeat' (first | with_reducible assumption | with_reducible apply Block.lvc_st K | dsimp only | intro _)

theorem execCvt_st (K : KeptBySt Q) (c : Fin 256) (trunc : Bool) (dst src : Fin 16) (d s1 : Fin 4096) (s : State) (hq : Q s.regs) :
    ∃ u, execCvt c trunc dst src d s1 s = .next u ∧ Q u.regs := by
  refine ⟨_, rfl, ?_⟩
  repeat' (first | with_reducible assumption | with_reducible apply Block.lvc_st K | dsimp only | intro _)

theorem execCmov_st (K : KeptBySt Q) (c : Fin 256) (t : Fin 16) (d s1 s2 : Fin 4096) (s : State) (hq : Q s.regs) :
    ∃ u, execCmov c t d s1 s2 s = .next u ∧ Q u.regs := by
  refine ⟨_, rfl, ?_⟩
  repeat' (first | with_reducible assumption | with_reducible apply Block.lvc_st K | dsimp only | intro _)

theorem execBr_st (K : KeptBySt Q) (c : Fin 256) (ofs : Int) (s : State) (hq : Q s.regs) :
    ∃ u, execBr c ofs s = .next u ∧ Q u.regs := by
  refine ⟨_, rfl, ?_⟩
  repeat' (first | with_reducible assumption | with_reducible apply Block.lvc_st K | dsimp only | intro _)

theorem execBrt_st (K : KeptBySt Q) (c : Fin 256) (s1 : Fin 4096) (ofs : Int) (s : State) (hq : Q s.regs) :
    ∃ u, execBrt c s1 ofs s = .next u ∧ Q u.regs := by
  refine ⟨_, rfl, ?_⟩
  repeat' (first | with_reducible assumption | with_reducible apply Block.lvc_st K | dsimp only | intro _)

theorem execBrf_st (K : KeptBySt Q) (c : Fin 256) (s1 : Fin 4096) (ofs : Int) (s : State) (hq : Q s.regs) :
    ∃ u, execBrf c s1 ofs s = .next u ∧ Q u.regs := by
  refine ⟨_, rfl, ?_⟩
  repeat' (first | with_reducible assumption | with_reducible apply Block.lvc_st K | dsimp only | intro _)

theorem execCall_st (K : KeptBySt Q) (c : Fin 256) (ofs : Int) (s : State) (hq : Q s.regs) :
    ∃ u, execCall c ofs s = .next u ∧ Q u.regs := by
  refine ⟨_, rfl, ?_⟩
  repeat' (first | with_reducible assumption | with_reducible apply Block.lvc_st K | dsimp only | intro _)

theorem execRet_st (K : KeptBySt Q) (c : Fin 256) (s : State) (hq : Q s.regs) :
    ∃ u, execRet c s = .next u ∧ Q u.regs := by
  refine ⟨_, rfl, ?_⟩
  repeat' (first | with_reducible assumption | with_reducible apply Block.lvc_st K | dsimp only | intro _)

theorem execLoop_st (K : KeptBySt Q) (c : Fin 256) (d : Fin 4096) (ofs : Int) (s : State) (hq : Q s.regs) :
    ∃ u, execLoop c d ofs s = .next u ∧ Q u.regs := by
  refine ⟨_, rfl, ?_⟩
  repeat' (first | with_reducible assumption | with_reducible apply Block.lvc_st K | dsimp only | intro _)

theorem execGld_st (K : KeptBySt Q) (c : Fin 256) (d : Fin 4096) (idx : Nat) (s : State) (hq : Q s.regs) :
    ∃ u, execGld c d idx s = .next u ∧ Q u.regs := by
  refine ⟨_, rfl, ?_⟩
  repeat' (first | with_reducible assumption | with_reducible apply Block.lvc_st K | dsimp only | intro _)

theorem execGst_st (K : KeptBySt Q) (c : Fin 256) (s1 : Fin 4096) (idx : Nat) (s : State) (hq : Q s.regs) :
    ∃ u, execGst c s1 idx s = .next u ∧ Q u.regs := by
  refine ⟨_, rfl, ?_⟩
  repeat' (first | with_reducible assumption | with_reducible apply Block.lvc_st K | dsimp only | intro _)

theorem execIrd_st (K : KeptBySt Q) (c : Fin 256) (d : Fin 4096) (idx : Nat) (s : State) (hq : Q s.regs) :
    ∃ u, execIrd c d idx s = .next u ∧ Q u.regs := by
  refine ⟨_, rfl, ?_⟩
  repeat' (first | with_reducible assumption | with_reducible apply Block.lvc_st K | dsimp only | intro _)

theorem execIq_st (K : KeptBySt Q) (c : Fin 256) (d : Fin 4096) (idx : Nat) (s : State) (hq : Q s.regs) :
    ∃ u, execIq c d idx s = .next u ∧ Q u.regs := by
  refine ⟨_, rfl, ?_⟩
  repeat' (first | with_reducible assumption | with_reducible apply Block.lvc_st K | dsimp only | intro _)

theorem execIage_st (K : KeptBySt Q) (c : Fin 256) (d : Fin 4096) (idx : Nat) (s : State) (hq : Q s.regs) :
    ∃ u, execIage c d idx s = .next u ∧ Q u.regs := by
  refine ⟨_, rfl, ?_⟩
  repeat' (first | with_reducible assumption | with_reducible apply Block.lvc_st K | dsimp only | intro _)

theorem execOwr_st (K : KeptBySt Q) (c : Fin 256) (s1 : Fin 4096) (idx : Nat) (s : State) (hq : Q s.regs) :
    ∃ u, execOwr c s1 idx s = .next u ∧ Q u.regs := by
  refine ⟨_, rfl, ?_⟩
  repeat' (first | with_reducible assumption | with_reducible apply Block.lvc_st K | dsimp only | intro _)

theorem execTlatch_st (K : KeptBySt Q) (c : Fin 256) (d : Fin 4096) (s : State) (hq : Q s.regs) :
    ∃ u, execTlatch c d s = .next u ∧ Q u.regs := by
  refine ⟨_, rfl, ?_⟩
  repeat' (first | with_reducible assumption | with_reducible apply Block.lvc_st K | dsimp only | intro _)

theorem execTpos_st (K : KeptBySt Q) (c : Fin 256) (d : Fin 4096) (base : Fin 2) (s : State) (hq : Q s.regs) :
    ∃ u, execTpos c d base s = .next u ∧ Q u.regs := by
  refine ⟨_, rfl, ?_⟩
  repeat' (first | with_reducible assumption | with_reducible apply Block.lvc_st K | dsimp only | intro _)

theorem execCstat_st (K : KeptBySt Q) (c : Fin 256) (d : Fin 4096) (s : State) (hq : Q s.regs) :
    ∃ u, execCstat c d s = .next u ∧ Q u.regs := by
  refine ⟨_, rfl, ?_⟩
  repeat' (first | with_reducible assumption | with_reducible apply Block.lvc_st K | dsimp only | intro _)

theorem execXflags_st (K : KeptBySt Q) (c : Fin 256) (d : Fin 4096) (s : State) (hq : Q s.regs) :
    ∃ u, execXflags c d s = .next u ∧ Q u.regs := by
  refine ⟨_, rfl, ?_⟩
  repeat' (first | with_reducible assumption | with_reducible apply Block.lvc_st K | dsimp only | intro _)

theorem execLockoutCause_st (K : KeptBySt Q) (cause : Fin 15) (ch : Option (Fin 64)) (s : State) (hq : Q s.regs) :
    ∃ u, execLockoutCause cause ch s = .next u ∧ Q u.regs := by
  refine ⟨_, rfl, ?_⟩
  repeat' (first | with_reducible assumption | with_reducible apply Block.lockout_st K | with_reducible refine ite_keep ?_ ?_ | dsimp only | intro _)

theorem execIslandRecordRepeat_st (K : KeptBySt Q) (s : State) (hq : Q s.regs) :
    ∃ u, execIslandRecordRepeat s = .next u ∧ Q u.regs := by
  refine ⟨_, rfl, ?_⟩
  repeat' (first | with_reducible assumption | with_reducible apply Block.islRecord_st K | with_reducible refine ite_keep ?_ ?_ | dsimp only | intro _)

theorem execIslandHoldOff_st (K : KeptBySt Q) (ch : Fin 64) (s : State) (hq : Q s.regs) :
    ∃ u, execIslandHoldOff ch s = .next u ∧ Q u.regs := by
  refine ⟨_, rfl, ?_⟩
  repeat' (first | with_reducible assumption | with_reducible apply Block.holdBegin_st K | with_reducible refine ite_keep ?_ ?_ | dsimp only | intro _)

theorem execSafetyCycleStart_st (K : KeptBySt Q) (ins : List SafIn) (cleared c2us : Nat) (s : State) (hq : Q s.regs) :
    ∃ u, execSafetyCycleStart ins cleared c2us s = .next u ∧ Q u.regs := by
  refine ⟨_, rfl, ?_⟩
  repeat' (first | with_reducible assumption | with_reducible refine Block.when_keep _ _ _ ?_ (fun _ => ?_) | with_reducible apply Block.cycleBegun_st K | with_reducible apply Block.islStart_st K | with_reducible apply Block.islDiagnose_st K | with_reducible apply Block.islCycle_st K | dsimp only | intro _)

theorem execSafeRstPulse_st (K : KeptBySt Q) (ms : Nat) (s : State) (hq : Q s.regs) :
    ∃ u, execSafeRstPulse ms s = .next u ∧ Q u.regs := by
  refine ⟨_, rfl, ?_⟩
  repeat' (first | with_reducible assumption | with_reducible apply Block.islResult_st K | with_reducible apply Block.resetRequest_st K | with_reducible apply Block.startCommand_st K | with_reducible refine ite_keep ?_ ?_ | dsimp only | intro _)

theorem execSignedReset_st (K : KeptBySt Q) (session serial : Nat) (nonce : Word) (sig : List Word) (s : State) (hq : Q s.regs) :
    ∃ u, execSignedReset session serial nonce sig s = .next u ∧ Q u.regs := by
  refine ⟨_, rfl, ?_⟩
  repeat' (first | with_reducible assumption | with_reducible apply Block.signedCommand_st K | with_reducible refine ite_keep ?_ ?_ | dsimp only | intro _)

theorem execSignedStart_st (K : KeptBySt Q) (session serial : Nat) (nonce : Word) (sig : List Word) (s : State) (hq : Q s.regs) :
    ∃ u, execSignedStart session serial nonce sig s = .next u ∧ Q u.regs := by
  refine ⟨_, rfl, ?_⟩
  repeat' (first | with_reducible assumption | with_reducible apply Block.signedCommand_st K | with_reducible refine ite_keep ?_ ?_ | dsimp only | intro _)

theorem execResetSelftestComplete_st (K : KeptBySt Q) (fail : Nat) (s : State) (hq : Q s.regs) :
    ∃ u, execResetSelftestComplete fail s = .next u ∧ Q u.regs := by
  refine ⟨_, rfl, ?_⟩
  repeat' (first | with_reducible assumption | with_reducible refine Block.fset_st K _ _ _ (by first | decide | exact vsOk_notState _ | (left; simp only [F.SAF_TEST_FAIL_CODE, F.SAF_TEST_RESULT, Reg.SAF_CAUSES, Reg.SAF_CLEARED, Reg.SAF_TEST, Reg.SYS_STATE, ne_eq]; omega) | (left; split <;> (simp only [F.SAF_TEST_FAIL_CODE, F.SAF_TEST_RESULT, Reg.SAF_CAUSES, Reg.SAF_CLEARED, Reg.SAF_TEST, Reg.SYS_STATE, ne_eq]; omega))) ?_ | with_reducible apply Block.raiseEvt_st K | with_reducible apply Block.coresUp_st K | with_reducible refine Block.setRegN_st K _ _ _ (by first | decide | (simp only [F.SAF_TEST_FAIL_CODE, F.SAF_TEST_RESULT, Reg.SAF_CAUSES, Reg.SAF_CLEARED, Reg.SAF_TEST, Reg.SYS_STATE, ne_eq]; omega) | (split <;> decide)) ?_ | with_reducible apply Block.timed_st K | with_reducible apply Block.islRecord_st K | with_reducible apply Block.resetRefused_st K | with_reducible refine ite_keep ?_ ?_ | dsimp only | intro _)

theorem execResetRecordDurable_st (K : KeptBySt Q) (s : State) (hq : Q s.regs) :
    ∃ u, execResetRecordDurable s = .next u ∧ Q u.regs := by
  refine ⟨_, rfl, ?_⟩
  repeat' (first | with_reducible assumption | with_reducible refine Block.setRegN_st K _ _ _ (by first | decide | (simp only [F.CH_STAT_OVERLOAD, F.CH_STAT_TP_FAULT, F.SAF_STATE_CAUSE, F.SAF_STATE_CAUSE_CH, F.SAF_STATE_CH_VALID, Reg.CH_STAT, Reg.SAF_CAUSES, Reg.SAF_CLEARED, Reg.SAF_STATE, Reg.SYS_STATE, ne_eq]; omega) | (split <;> decide)) ?_ | with_reducible refine Block.fset_st K _ _ _ (by first | decide | exact vsOk_notState _ | (left; simp only [F.CH_STAT_OVERLOAD, F.CH_STAT_TP_FAULT, F.SAF_STATE_CAUSE, F.SAF_STATE_CAUSE_CH, F.SAF_STATE_CH_VALID, Reg.CH_STAT, Reg.SAF_CAUSES, Reg.SAF_CLEARED, Reg.SAF_STATE, Reg.SYS_STATE, ne_eq]; omega) | (left; split <;> (simp only [F.CH_STAT_OVERLOAD, F.CH_STAT_TP_FAULT, F.SAF_STATE_CAUSE, F.SAF_STATE_CAUSE_CH, F.SAF_STATE_CH_VALID, Reg.CH_STAT, Reg.SAF_CAUSES, Reg.SAF_CLEARED, Reg.SAF_STATE, Reg.SYS_STATE, ne_eq]; omega))) ?_ | with_reducible refine Block.forAll_keep _ _ _ ?_ (fun _ _ _ => ?_) | with_reducible refine Block.when_keep _ _ _ ?_ (fun _ => ?_) | with_reducible apply Block.islEnter_st K | with_reducible apply Block.islResult_st K | with_reducible refine ite_keep ?_ ?_ | dsimp only | intro _)

theorem execResetRecordTimeout_st (K : KeptBySt Q) (s : State) (hq : Q s.regs) :
    ∃ u, execResetRecordTimeout s = .next u ∧ Q u.regs := by
  refine ⟨_, rfl, ?_⟩
  repeat' (first | with_reducible assumption | with_reducible apply Block.resetRefused_st K | with_reducible refine ite_keep ?_ ?_ | dsimp only | intro _)

theorem execImageLoad_st (K : KeptBySt Q) (session : Nat) (image : List Word) (s : State) (hq : Q s.regs) :
    ∃ u, execImageLoad session image s = .next u ∧ Q u.regs := by
  refine ⟨_, rfl, ?_⟩
  repeat' (first | with_reducible assumption | with_reducible apply Block.loadImage_st K | with_reducible apply Block.sspSend_st K | with_reducible refine ite_keep ?_ ?_ | split | dsimp only | with_reducible refine pair_keep (by with_reducible assumption) ?_ | with_reducible refine pair_keep' (by with_reducible assumption) ?_ | intro _)

theorem execPackageReceived_st (K : KeptBySt Q) (s : State) (hq : Q s.regs) :
    ∃ u, execPackageReceived s = .next u ∧ Q u.regs := by
  refine ⟨_, rfl, ?_⟩
  repeat' (first | with_reducible assumption | with_reducible refine Block.setRegN_st K _ _ _ (by first | decide | (simp only [F.OLC_STAT_STATE, Reg.OLC_BASE_VIN, Reg.OLC_NEW_VIN, Reg.OLC_PKG_SIZE, Reg.OLC_RCVD, Reg.OLC_STAT, Reg.SYS_STATE, ne_eq]; omega) | (split <;> decide)) ?_ | with_reducible refine Block.fset_st K _ _ _ (by first | decide | exact vsOk_notState _ | (left; simp only [F.OLC_STAT_STATE, Reg.OLC_BASE_VIN, Reg.OLC_NEW_VIN, Reg.OLC_PKG_SIZE, Reg.OLC_RCVD, Reg.OLC_STAT, Reg.SYS_STATE, ne_eq]; omega) | (left; split <;> (simp only [F.OLC_STAT_STATE, Reg.OLC_BASE_VIN, Reg.OLC_NEW_VIN, Reg.OLC_PKG_SIZE, Reg.OLC_RCVD, Reg.OLC_STAT, Reg.SYS_STATE, ne_eq]; omega))) ?_ | with_reducible apply Block.raiseEvt_st K | with_reducible apply Block.olcTell_st K | with_reducible refine ite_keep ?_ ?_ | dsimp only | intro _)

theorem execPackageVerifyComplete_st (K : KeptBySt Q) (partnerOk : Bool) (s : State) (hq : Q s.regs) :
    ∃ u, execPackageVerifyComplete partnerOk s = .next u ∧ Q u.regs := by
  refine ⟨_, rfl, ?_⟩
  repeat' (first | with_reducible assumption | with_reducible apply Block.olcVerified_st K | with_reducible refine ite_keep ?_ ?_ | dsimp only | intro _)

theorem execPatternLoad_st (K : KeptBySt Q) (staged : Bool) (image : List Word) (s : State) (hq : Q s.regs) :
    ∃ u, execPatternLoad staged image s = .next u ∧ Q u.regs := by
  refine ⟨_, rfl, ?_⟩
  repeat' (first | with_reducible assumption | with_reducible refine Block.when_keep _ _ _ ?_ (fun _ => ?_) | with_reducible apply Block.patLoad_st K | with_reducible apply Block.storePattern_st K | with_reducible apply Block.olcRefuse_st K | with_reducible refine ite_keep ?_ ?_ | split | dsimp only | with_reducible refine pair_keep (by with_reducible assumption) ?_ | with_reducible refine pair_keep' (by with_reducible assumption) ?_ | intro _)

theorem execOlcArm_st (K : KeptBySt Q) (s : State) (hq : Q s.regs) :
    ∃ u, execOlcArm s = .next u ∧ Q u.regs := by
  refine ⟨_, rfl, ?_⟩
  repeat' (first | with_reducible assumption | with_reducible apply Block.olcArm_st K | with_reducible refine ite_keep ?_ ?_ | dsimp only | intro _)

theorem execVerify_st (K : KeptBySt Q) (r : Requester) (s : State) (hq : Q s.regs) :
    ∃ u, execVerify r s = .next u ∧ Q u.regs := by
  refine ⟨_, rfl, ?_⟩
  repeat' (first | with_reducible assumption | with_reducible apply Block.olcCmdWrite_st K | dsimp only | intro _)

theorem execCommit_st (K : KeptBySt Q) (r : Requester) (s : State) (hq : Q s.regs) :
    ∃ u, execCommit r s = .next u ∧ Q u.regs := by
  refine ⟨_, rfl, ?_⟩
  repeat' (first | with_reducible assumption | with_reducible apply Block.olcCmdWrite_st K | dsimp only | intro _)

theorem execAbort_st (K : KeptBySt Q) (r : Requester) (s : State) (hq : Q s.regs) :
    ∃ u, execAbort r s = .next u ∧ Q u.regs := by
  refine ⟨_, rfl, ?_⟩
  repeat' (first | with_reducible assumption | with_reducible apply Block.olcCmdWrite_st K | dsimp only | intro _)

theorem execDiscard_st (K : KeptBySt Q) (r : Requester) (s : State) (hq : Q s.regs) :
    ∃ u, execDiscard r s = .next u ∧ Q u.regs := by
  refine ⟨_, rfl, ?_⟩
  repeat' (first | with_reducible assumption | with_reducible apply Block.olcCmdWrite_st K | dsimp only | intro _)

theorem execOlcCommitInstant_st (K : KeptBySt Q) (s : State) (hq : Q s.regs) :
    ∃ u, execOlcCommitInstant s = .next u ∧ Q u.regs := by
  refine ⟨_, rfl, ?_⟩
  repeat' (first | with_reducible assumption | with_reducible apply Block.olcTell_st K | with_reducible apply Block.olcSwitch_st K | with_reducible refine ite_keep ?_ ?_ | dsimp only | intro _)

theorem execOlcNoBoundary_st (K : KeptBySt Q) (s : State) (hq : Q s.regs) :
    ∃ u, execOlcNoBoundary s = .next u ∧ Q u.regs := by
  refine ⟨_, rfl, ?_⟩
  repeat' (first | with_reducible assumption | with_reducible apply Block.olcBlocker_st K | with_reducible apply Block.olcRefuse_st K | with_reducible refine ite_keep ?_ ?_ | dsimp only | intro _)

theorem execMigrationCopyComplete_st (K : KeptBySt Q) (c : Fin 256) (s : State) (hq : Q s.regs) :
    ∃ u, execMigrationCopyComplete c s = .next u ∧ Q u.regs := by
  refine ⟨_, rfl, ?_⟩
  repeat' (first | with_reducible assumption | with_reducible apply Block.putPlace_st K | with_reducible apply Block.modCx_st K | with_reducible apply Block.revive_st K | with_reducible refine Block.incWrap_st K _ _ (by first | decide | exact vsOk_notState _ | (left; simp only [F.SCH_MIG_CNT_COUNT, Reg.SCH_MIG_CNT, Reg.SYS_STATE, ne_eq]; omega) | (left; split <;> (simp only [F.SCH_MIG_CNT_COUNT, Reg.SCH_MIG_CNT, Reg.SYS_STATE, ne_eq]; omega))) ?_ | with_reducible apply Block.raiseEvt_st K | with_reducible apply Block.copyWaiting_st K | with_reducible apply Block.engShow_st K | with_reducible apply Block.engNext_st K | with_reducible apply Block.replaceDone_st K | with_reducible refine ite_keep ?_ ?_ | split | dsimp only | with_reducible refine pair_keep (by with_reducible assumption) ?_ | with_reducible refine pair_keep' (by with_reducible assumption) ?_ | intro _)

theorem execRestart_st (K : KeptBySt Q) (r : Requester) (c : Fin 256) (s : State) (hq : Q s.regs) :
    ∃ u, execRestart r c s = .next u ∧ Q u.regs := by
  refine ⟨_, rfl, ?_⟩
  repeat' (first | with_reducible assumption | with_reducible apply Block.schCmdWrite_st K | dsimp only | intro _)

theorem execSchStop_st (K : KeptBySt Q) (r : Requester) (c : Fin 256) (s : State) (hq : Q s.regs) :
    ∃ u, execSchStop r c s = .next u ∧ Q u.regs := by
  refine ⟨_, rfl, ?_⟩
  repeat' (first | with_reducible assumption | with_reducible apply Block.schCmdWrite_st K | dsimp only | intro _)

theorem execSchStart_st (K : KeptBySt Q) (r : Requester) (c : Fin 256) (s : State) (hq : Q s.regs) :
    ∃ u, execSchStart r c s = .next u ∧ Q u.regs := by
  refine ⟨_, rfl, ?_⟩
  repeat' (first | with_reducible assumption | with_reducible apply Block.schCmdWrite_st K | dsimp only | intro _)

theorem execReplace_st (K : KeptBySt Q) (r : Requester) (s : State) (hq : Q s.regs) :
    ∃ u, execReplace r s = .next u ∧ Q u.regs := by
  refine ⟨_, rfl, ?_⟩
  repeat' (first | with_reducible assumption | with_reducible apply Block.schCmdWrite_st K | dsimp only | intro _)

theorem execEngineParked_st (K : KeptBySt Q) (n : Fin 16) (s : State) (hq : Q s.regs) :
    ∃ u, execEngineParked n s = .next u ∧ Q u.regs := by
  refine ⟨_, rfl, ?_⟩
  repeat' (first | with_reducible assumption | with_reducible apply Block.modEng_st K | with_reducible refine Block.fset_st K _ _ _ (by first | decide | exact vsOk_notState _ | (left; simp only [F.BLK_STAT_PARKED, F.ENG_STATE_STATE, Reg.BLK_STAT, Reg.ENG_STATE, Reg.SCH_ENG_AVAIL, Reg.SYS_STATE, ne_eq]; omega) | (left; split <;> (simp only [F.BLK_STAT_PARKED, F.ENG_STATE_STATE, Reg.BLK_STAT, Reg.ENG_STATE, Reg.SCH_ENG_AVAIL, Reg.SYS_STATE, ne_eq]; omega))) ?_ | with_reducible apply Block.raiseEvt_st K | with_reducible refine ite_keep ?_ ?_ | dsimp only | intro _)

theorem execEngTestStart_st (K : KeptBySt Q) (r : Requester) (n : Fin 16) (s : State) (hq : Q s.regs) :
    ∃ u, execEngTestStart r n s = .next u ∧ Q u.regs := by
  refine ⟨_, rfl, ?_⟩
  repeat' (first | with_reducible assumption | with_reducible apply Block.engTestWrite_st K | dsimp only | intro _)

theorem execFaultSelfTestDue_st (K : KeptBySt Q) (n : Fin 16) (s : State) (hq : Q s.regs) :
    ∃ u, execFaultSelfTestDue n s = .next u ∧ Q u.regs := by
  refine ⟨_, rfl, ?_⟩
  repeat' (first | with_reducible assumption | with_reducible apply Block.engTest_st K | with_reducible refine ite_keep ?_ ?_ | dsimp only | intro _)

theorem execEnergyWindowEnd_st (K : KeptBySt Q) (coreMw fieldMa fieldMw : Nat) (s : State) (hq : Q s.regs) :
    ∃ u, execEnergyWindowEnd coreMw fieldMa fieldMw s = .next u ∧ Q u.regs := by
  refine ⟨_, rfl, ?_⟩
  repeat' (first | with_reducible assumption | with_reducible apply Block.windowEnd_st K | with_reducible refine Block.fset_st K _ _ _ (by first | decide | exact vsOk_notState _ | (left; simp only [F.CHG_FP_LOAD_CURRENT, F.CHG_FP_LOAD_DISS, F.PWR_CORE_P_POWER, Reg.CHG_FP_LOAD, Reg.PWR_CORE_P, Reg.SYS_STATE, ne_eq]; omega) | (left; split <;> (simp only [F.CHG_FP_LOAD_CURRENT, F.CHG_FP_LOAD_DISS, F.PWR_CORE_P_POWER, Reg.CHG_FP_LOAD, Reg.PWR_CORE_P, Reg.SYS_STATE, ne_eq]; omega))) ?_ | with_reducible refine ite_keep ?_ ?_ | dsimp only | intro _)

theorem execThermalEvaluation_st (K : KeptBySt Q) (die rail : Int) (s : State) (hq : Q s.regs) :
    ∃ u, execThermalEvaluation die rail s = .next u ∧ Q u.regs := by
  refine ⟨_, rfl, ?_⟩
  repeat' (first | with_reducible assumption | with_reducible apply Block.timed_st K | with_reducible refine Block.fset_st K _ _ _ (by first | decide | exact vsOk_notState _ | (left; simp only [F.PWR_DIE_THR_CRITICAL, F.PWR_DIE_THR_HOT, F.PWR_DIE_THR_WARM, F.PWR_DIE_T_TEMP, F.PWR_RAIL_THR_CRITICAL, F.PWR_RAIL_THR_HOT, F.PWR_RAIL_THR_WARM, F.PWR_RAIL_T_TEMP, F.PWR_THERM_DIE_LEVEL, F.PWR_THERM_RAIL_LEVEL, F.PWR_THERM_STATE, Reg.PWR_DIE_T, Reg.PWR_DIE_THR, Reg.PWR_RAIL_T, Reg.PWR_RAIL_THR, Reg.PWR_THERM, Reg.SYS_STATE, ne_eq]; omega) | (left; split <;> (simp only [F.PWR_DIE_THR_CRITICAL, F.PWR_DIE_THR_HOT, F.PWR_DIE_THR_WARM, F.PWR_DIE_T_TEMP, F.PWR_RAIL_THR_CRITICAL, F.PWR_RAIL_THR_HOT, F.PWR_RAIL_THR_WARM, F.PWR_RAIL_T_TEMP, F.PWR_THERM_DIE_LEVEL, F.PWR_THERM_RAIL_LEVEL, F.PWR_THERM_STATE, Reg.PWR_DIE_T, Reg.PWR_DIE_THR, Reg.PWR_RAIL_T, Reg.PWR_RAIL_THR, Reg.PWR_THERM, Reg.SYS_STATE, ne_eq]; omega))) ?_ | with_reducible refine Block.when_keep _ _ _ ?_ (fun _ => ?_) | with_reducible apply Block.untimed_st K | with_reducible apply Block.event_st K | with_reducible apply Block.thermalCtxs_st K | with_reducible apply Block.solShow_st K | with_reducible refine ite_keep ?_ ?_ | dsimp only | intro _)

theorem execVsZeroCrossing_st (K : KeptBySt Q) (vs : Fin 2) (rmsMv : Nat) (periodNs : Nat) (otherAngle : Word) (s : State) (hq : Q s.regs) :
    ∃ u, execVsZeroCrossing vs rmsMv periodNs otherAngle s = .next u ∧ Q u.regs := by
  refine ⟨_, rfl, ?_⟩
  repeat' (first | with_reducible assumption | with_reducible refine Block.setRegN_st K _ _ _ (by first | decide | (simp only [F.ABS0_STAT_HOLDING, F.ABS0_STAT_IN_USE, F.ABS0_STAT_VS1_OK, F.ABS0_STAT_VS2_OK, Reg.ABS0_FREQ, Reg.ABS0_OFS, Reg.ABS0_STAT, Reg.ABS_VS_RMS, Reg.SYS_STATE, vsOk, ne_eq]; omega) | (split <;> decide)) ?_ | with_reducible refine Block.fsetB_st K _ _ _ (by first | decide | exact vsOk_notState _ | (left; simp only [F.ABS0_STAT_HOLDING, F.ABS0_STAT_IN_USE, F.ABS0_STAT_VS1_OK, F.ABS0_STAT_VS2_OK, Reg.ABS0_FREQ, Reg.ABS0_OFS, Reg.ABS0_STAT, Reg.ABS_VS_RMS, Reg.SYS_STATE, vsOk, ne_eq]; omega) | (left; split <;> (simp only [F.ABS0_STAT_HOLDING, F.ABS0_STAT_IN_USE, F.ABS0_STAT_VS1_OK, F.ABS0_STAT_VS2_OK, Reg.ABS0_FREQ, Reg.ABS0_OFS, Reg.ABS0_STAT, Reg.ABS_VS_RMS, Reg.SYS_STATE, vsOk, ne_eq]; omega))) ?_ | with_reducible apply Block.vsCompare_st K | with_reducible apply Block.absSeek_st K | with_reducible apply Block.aheadBy_st K | with_reducible apply Block.setPos_st K | with_reducible refine ite_keep ?_ ?_ | dsimp only | intro _)

theorem execVsInputLost_st (K : KeptBySt Q) (vs : Fin 2) (other : Option Word) (s : State) (hq : Q s.regs) :
    ∃ u, execVsInputLost vs other s = .next u ∧ Q u.regs := by
  refine ⟨_, rfl, ?_⟩
  repeat' (first | with_reducible assumption | with_reducible refine Block.fset_st K _ _ _ (by first | decide | exact vsOk_notState _ | (left; simp only [F.ABS0_CFG_SRC, F.ABS0_RELOCK_QUAL, F.ABS0_STAT_IN_USE, F.ABS0_STAT_VS1_OK, F.ABS0_STAT_VS2_OK, Reg.ABS0_CFG, Reg.ABS0_FREQ, Reg.ABS0_OFS, Reg.ABS0_RELOCK, Reg.ABS0_STAT, Reg.ABS_VS_DFREQ, Reg.ABS_VS_DPHASE, Reg.SYS_STATE, vsOk, ne_eq]; omega) | (left; split <;> (simp only [F.ABS0_CFG_SRC, F.ABS0_RELOCK_QUAL, F.ABS0_STAT_IN_USE, F.ABS0_STAT_VS1_OK, F.ABS0_STAT_VS2_OK, Reg.ABS0_CFG, Reg.ABS0_FREQ, Reg.ABS0_OFS, Reg.ABS0_RELOCK, Reg.ABS0_STAT, Reg.ABS_VS_DFREQ, Reg.ABS_VS_DPHASE, Reg.SYS_STATE, vsOk, ne_eq]; omega))) ?_ | with_reducible apply Block.raiseEvt_st K | with_reducible refine Block.setRegN_st K _ _ _ (by first | decide | (simp only [F.ABS0_CFG_SRC, F.ABS0_RELOCK_QUAL, F.ABS0_STAT_IN_USE, F.ABS0_STAT_VS1_OK, F.ABS0_STAT_VS2_OK, Reg.ABS0_CFG, Reg.ABS0_FREQ, Reg.ABS0_OFS, Reg.ABS0_RELOCK, Reg.ABS0_STAT, Reg.ABS_VS_DFREQ, Reg.ABS_VS_DPHASE, Reg.SYS_STATE, vsOk, ne_eq]; omega) | (split <;> decide)) ?_ | with_reducible apply Block.absEnter_st K | with_reducible apply Block.absSeek_st K | with_reducible apply Block.event_st K | with_reducible apply Block.realign_st K | with_reducible apply Block.absHold_st K | with_reducible refine ite_keep ?_ ?_ | split | dsimp only | with_reducible refine pair_keep (by with_reducible assumption) ?_ | with_reducible refine pair_keep' (by with_reducible assumption) ?_ | intro _)

theorem execAbs0QualComplete_st (K : KeptBySt Q) (angle : Word) (s : State) (hq : Q s.regs) :
    ∃ u, execAbs0QualComplete angle s = .next u ∧ Q u.regs := by
  refine ⟨_, rfl, ?_⟩
  repeat' (first | with_reducible assumption | with_reducible apply Block.absLock_st K | with_reducible apply Block.absEnter_st K | with_reducible refine ite_keep ?_ ?_ | dsimp only | intro _)

theorem execAbsHoldEnd_st (K : KeptBySt Q) (base : Fin 2) (s : State) (hq : Q s.regs) :
    ∃ u, execAbsHoldEnd base s = .next u ∧ Q u.regs := by
  refine ⟨_, rfl, ?_⟩
  repeat' (first | with_reducible assumption | with_reducible refine Block.when_keep _ _ _ ?_ (fun _ => ?_) | with_reducible refine Block.fset_st K _ _ _ (by first | decide | exact vsOk_notState _ | (left; simp only [F.ABS0_STAT_HOLDING, F.ABS1_STAT_HOLDING, Reg.ABS0_STAT, Reg.ABS1_STAT, Reg.SYS_STATE, ne_eq]; omega) | (left; split <;> (simp only [F.ABS0_STAT_HOLDING, F.ABS1_STAT_HOLDING, Reg.ABS0_STAT, Reg.ABS1_STAT, Reg.SYS_STATE, ne_eq]; omega))) ?_ | with_reducible refine ite_keep ?_ ?_ | dsimp only | intro _)

theorem execAbs0HoldoverRamp_st (K : KeptBySt Q) (s : State) (hq : Q s.regs) :
    ∃ u, execAbs0HoldoverRamp s = .next u ∧ Q u.regs := by
  refine ⟨_, rfl, ?_⟩
  repeat' (first | with_reducible assumption | with_reducible refine Block.fset_st K _ _ _ (by first | decide | exact vsOk_notState _ | (left; simp only [F.ABS0_STAT_HO_PHASE, Reg.ABS0_STAT, Reg.SYS_STATE, ne_eq]; omega) | (left; split <;> (simp only [F.ABS0_STAT_HO_PHASE, Reg.ABS0_STAT, Reg.SYS_STATE, ne_eq]; omega))) ?_ | with_reducible refine ite_keep ?_ ?_ | dsimp only | intro _)

theorem execAbs0HoldoverAtNom_st (K : KeptBySt Q) (s : State) (hq : Q s.regs) :
    ∃ u, execAbs0HoldoverAtNom s = .next u ∧ Q u.regs := by
  refine ⟨_, rfl, ?_⟩
  repeat' (first | with_reducible assumption | with_reducible refine Block.fset_st K _ _ _ (by first | decide | exact vsOk_notState _ | (left; simp only [F.ABS0_STAT_HO_PHASE, Reg.ABS0_FREQ, Reg.ABS0_STAT, Reg.SYS_STATE, ne_eq]; omega) | (left; split <;> (simp only [F.ABS0_STAT_HO_PHASE, Reg.ABS0_FREQ, Reg.ABS0_STAT, Reg.SYS_STATE, ne_eq]; omega))) ?_ | with_reducible refine ite_keep ?_ ?_ | dsimp only | intro _)

theorem execAbs1CountEdge_st (K : KeptBySt Q) (backward : Bool) (intervalNs : Nat) (s : State) (hq : Q s.regs) :
    ∃ u, execAbs1CountEdge backward intervalNs s = .next u ∧ Q u.regs := by
  refine ⟨_, rfl, ?_⟩
  repeat' (first | with_reducible assumption | with_reducible refine Block.when_keep _ _ _ ?_ (fun _ => ?_) | with_reducible apply Block.raiseEvt_st K | with_reducible refine Block.fsetB_st K _ _ _ (by first | decide | exact vsOk_notState _ | (left; simp only [F.ABS1_CFG_DIR_INV, F.ABS1_CFG_GAP_RATIO, F.ABS1_CFG_MISSING, F.ABS1_STAT_OVERSPEED, F.ABS1_STAT_REVERSE, F.ABS1_STAT_STOPPED, Reg.ABS1_CFG, Reg.ABS1_SPEED, Reg.ABS1_STAT, Reg.SYS_STATE, ne_eq]; omega) | (left; split <;> (simp only [F.ABS1_CFG_DIR_INV, F.ABS1_CFG_GAP_RATIO, F.ABS1_CFG_MISSING, F.ABS1_STAT_OVERSPEED, F.ABS1_STAT_REVERSE, F.ABS1_STAT_STOPPED, Reg.ABS1_CFG, Reg.ABS1_SPEED, Reg.ABS1_STAT, Reg.SYS_STATE, ne_eq]; omega))) ?_ | with_reducible refine Block.fset_st K _ _ _ (by first | decide | exact vsOk_notState _ | (left; simp only [F.ABS1_CFG_DIR_INV, F.ABS1_CFG_GAP_RATIO, F.ABS1_CFG_MISSING, F.ABS1_STAT_OVERSPEED, F.ABS1_STAT_REVERSE, F.ABS1_STAT_STOPPED, Reg.ABS1_CFG, Reg.ABS1_SPEED, Reg.ABS1_STAT, Reg.SYS_STATE, ne_eq]; omega) | (left; split <;> (simp only [F.ABS1_CFG_DIR_INV, F.ABS1_CFG_GAP_RATIO, F.ABS1_CFG_MISSING, F.ABS1_STAT_OVERSPEED, F.ABS1_STAT_REVERSE, F.ABS1_STAT_STOPPED, Reg.ABS1_CFG, Reg.ABS1_SPEED, Reg.ABS1_STAT, Reg.SYS_STATE, ne_eq]; omega))) ?_ | with_reducible refine Block.setRegI_st K _ _ _ (by first | decide | (simp only [F.ABS1_CFG_DIR_INV, F.ABS1_CFG_GAP_RATIO, F.ABS1_CFG_MISSING, F.ABS1_STAT_OVERSPEED, F.ABS1_STAT_REVERSE, F.ABS1_STAT_STOPPED, Reg.ABS1_CFG, Reg.ABS1_SPEED, Reg.ABS1_STAT, Reg.SYS_STATE, ne_eq]; omega) | (split <;> decide)) ?_ | with_reducible apply Block.timed_st K | with_reducible apply Block.shaftFollow_st K | with_reducible apply Block.syncLost_st K | with_reducible refine ite_keep ?_ ?_ | dsimp only | intro _)

theorem execAbs1Index_st (K : KeptBySt Q) (s : State) (hq : Q s.regs) :
    ∃ u, execAbs1Index s = .next u ∧ Q u.regs := by
  refine ⟨_, rfl, ?_⟩
  repeat' (first | with_reducible assumption | with_reducible apply Block.indexFirst_st K | with_reducible apply Block.shaftEnter_st K | with_reducible apply Block.indexNext_st K | with_reducible refine ite_keep ?_ ?_ | dsimp only | intro _)

theorem execAbs1Stopped_st (K : KeptBySt Q) (s : State) (hq : Q s.regs) :
    ∃ u, execAbs1Stopped s = .next u ∧ Q u.regs := by
  refine ⟨_, rfl, ?_⟩
  repeat' (first | with_reducible assumption | with_reducible refine Block.fset_st K _ _ _ (by first | decide | exact vsOk_notState _ | (left; simp only [F.ABS1_CFG_STOP_TIME, F.ABS1_STAT_STOPPED, Reg.ABS1_CFG, Reg.ABS1_SPEED, Reg.ABS1_STAT, Reg.SYS_STATE, ne_eq]; omega) | (left; split <;> (simp only [F.ABS1_CFG_STOP_TIME, F.ABS1_STAT_STOPPED, Reg.ABS1_CFG, Reg.ABS1_SPEED, Reg.ABS1_STAT, Reg.SYS_STATE, ne_eq]; omega))) ?_ | with_reducible refine Block.setRegN_st K _ _ _ (by first | decide | (simp only [F.ABS1_CFG_STOP_TIME, F.ABS1_STAT_STOPPED, Reg.ABS1_CFG, Reg.ABS1_SPEED, Reg.ABS1_STAT, Reg.SYS_STATE, ne_eq]; omega) | (split <;> decide)) ?_ | with_reducible apply Block.raiseEvt_st K | with_reducible refine ite_keep ?_ ?_ | dsimp only | intro _)

theorem execAbs1Overspeed_st (K : KeptBySt Q) (s : State) (hq : Q s.regs) :
    ∃ u, execAbs1Overspeed s = .next u ∧ Q u.regs := by
  refine ⟨_, rfl, ?_⟩
  repeat' (first | with_reducible assumption | with_reducible refine Block.fset_st K _ _ _ (by first | decide | exact vsOk_notState _ | (left; simp only [F.ABS1_STAT_OVERSPEED, Reg.ABS1_STAT, Reg.SYS_STATE, ne_eq]; omega) | (left; split <;> (simp only [F.ABS1_STAT_OVERSPEED, Reg.ABS1_STAT, Reg.SYS_STATE, ne_eq]; omega))) ?_ | with_reducible apply Block.raiseEvt_st K | with_reducible apply Block.syncLost_st K | with_reducible refine ite_keep ?_ ?_ | dsimp only | intro _)

theorem execTsuSecond_st (K : KeptBySt Q) (s : State) (hq : Q s.regs) : ∃ u, execTsuSecond s = .next u ∧ Q u.regs := by
  refine ⟨_, rfl, ?_⟩
  have h := Block.raiseEvt_st K _ 0x03 6 (Block.fracCarry_st K _ (Block.frameTick_st K _ s.now (Block.setNow_st K _ ((s.tsuSec + 1) * 1000000000) hq)))
  exact ite_keep hq (ite_keep (Block.lockedSecond_st K _ h) h)

theorem execTsuCapture_st (K : KeptBySt Q) (k : Fin 4) (s : State) (hq : Q s.regs) :
    ∃ u, execTsuCapture k s = .next u ∧ Q u.regs := by
  refine ⟨_, rfl, ?_⟩
  repeat' (first | with_reducible assumption | with_reducible apply Block.capture_st K | with_reducible refine ite_keep ?_ ?_ | dsimp only | intro _)

theorem execPpsEdge_st (K : KeptBySt Q) (rate : Int) (s : State) (hq : Q s.regs) :
    ∃ u, execPpsEdge rate s = .next u ∧ Q u.regs := by
  refine ⟨_, rfl, ?_⟩
  repeat' (first | with_reducible assumption | with_reducible apply Block.ppsSet_st K | with_reducible apply Block.tsuUpdate_st K | with_reducible refine Block.when_keep _ _ _ ?_ (fun _ => ?_) | with_reducible apply Block.capture_st K | dsimp only | intro _)

theorem execTsuSourceUpdate_st (K : KeptBySt Q) (src : TimeSource) (offsetNs rate : Int) (s : State) (hq : Q s.regs) :
    ∃ u, execTsuSourceUpdate src offsetNs rate s = .next u ∧ Q u.regs := by
  refine ⟨_, rfl, ?_⟩
  repeat' (first | with_reducible assumption | with_reducible apply Block.tsuUpdate_st K | dsimp only | intro _)

theorem execTsuSourceLost_st (K : KeptBySt Q) (src : TimeSource) (s : State) (hq : Q s.regs) :
    ∃ u, execTsuSourceLost src s = .next u ∧ Q u.regs := by
  refine ⟨_, rfl, ?_⟩
  repeat' (first | with_reducible assumption | with_reducible apply Block.tsuLost_st K | dsimp only | intro _)

theorem execTsuSlewComplete_st (K : KeptBySt Q) (s : State) (hq : Q s.regs) :
    ∃ u, execTsuSlewComplete s = .next u ∧ Q u.regs := by
  refine ⟨_, rfl, ?_⟩
  repeat' (first | with_reducible assumption | with_reducible refine Block.fset_st K _ _ _ (by first | decide | exact vsOk_notState _ | (left; simp only [F.TSU_STAT_SLEWING, Reg.SYS_STATE, Reg.TSU_STAT, ne_eq]; omega) | (left; split <;> (simp only [F.TSU_STAT_SLEWING, Reg.SYS_STATE, Reg.TSU_STAT, ne_eq]; omega))) ?_ | with_reducible apply Block.raiseEvt_st K | with_reducible refine ite_keep ?_ ?_ | dsimp only | intro _)

theorem execTsuSet_st (K : KeptBySt Q) (r : Requester) (s : State) (hq : Q s.regs) :
    ∃ u, execTsuSet r s = .next u ∧ Q u.regs := by
  refine ⟨_, rfl, ?_⟩
  repeat' (first | with_reducible assumption | with_reducible apply Block.tsuCmdWrite_st K | dsimp only | intro _)

theorem execTsuAdj_st (K : KeptBySt Q) (r : Requester) (s : State) (hq : Q s.regs) :
    ∃ u, execTsuAdj r s = .next u ∧ Q u.regs := by
  refine ⟨_, rfl, ?_⟩
  repeat' (first | with_reducible assumption | with_reducible apply Block.tsuCmdWrite_st K | dsimp only | intro _)

theorem execHourlyTimeMark_st (K : KeptBySt Q) (s : State) (hq : Q s.regs) :
    ∃ u, execHourlyTimeMark s = .next u ∧ Q u.regs := by
  refine ⟨_, rfl, ?_⟩
  repeat' (first | with_reducible assumption | with_reducible refine Block.when_keep _ _ _ ?_ (fun _ => ?_) | with_reducible apply Block.hourMark_st K | dsimp only | intro _)

theorem execRtcSet_st (K : KeptBySt Q) (r : Requester) (s : State) (hq : Q s.regs) :
    ∃ u, execRtcSet r s = .next u ∧ Q u.regs := by
  refine ⟨_, rfl, ?_⟩
  repeat' (first | with_reducible assumption | with_reducible apply Block.rtcCmdWrite_st K | dsimp only | intro _)

theorem execCoinCellLow_st (K : KeptBySt Q) (coinMv capMv : Nat) (s : State) (hq : Q s.regs) :
    ∃ u, execCoinCellLow coinMv capMv s = .next u ∧ Q u.regs := by
  refine ⟨_, rfl, ?_⟩
  repeat' (first | with_reducible assumption | with_reducible refine Block.fsetB_st K _ _ _ (by first | decide | exact vsOk_notState _ | (left; simp only [F.RTC_STAT_COIN_ABSENT, F.RTC_STAT_COIN_LOW, F.RTC_STAT_ON_COIN, F.RTC_STAT_SUPCAP, Reg.RTC_STAT, Reg.SYS_STATE, ne_eq]; omega) | (left; split <;> (simp only [F.RTC_STAT_COIN_ABSENT, F.RTC_STAT_COIN_LOW, F.RTC_STAT_ON_COIN, F.RTC_STAT_SUPCAP, Reg.RTC_STAT, Reg.SYS_STATE, ne_eq]; omega))) ?_ | with_reducible refine Block.fset_st K _ _ _ (by first | decide | exact vsOk_notState _ | (left; simp only [F.RTC_STAT_COIN_ABSENT, F.RTC_STAT_COIN_LOW, F.RTC_STAT_ON_COIN, F.RTC_STAT_SUPCAP, Reg.RTC_STAT, Reg.SYS_STATE, ne_eq]; omega) | (left; split <;> (simp only [F.RTC_STAT_COIN_ABSENT, F.RTC_STAT_COIN_LOW, F.RTC_STAT_ON_COIN, F.RTC_STAT_SUPCAP, Reg.RTC_STAT, Reg.SYS_STATE, ne_eq]; omega))) ?_ | with_reducible refine Block.when_keep _ _ _ ?_ (fun _ => ?_) | with_reducible apply Block.raiseEvt_st K | dsimp only | intro _)

theorem execRtcBackupExhausted_st (K : KeptBySt Q) (s : State) (hq : Q s.regs) :
    ∃ u, execRtcBackupExhausted s = .next u ∧ Q u.regs := by
  refine ⟨_, rfl, ?_⟩
  repeat' (first | with_reducible assumption | with_reducible refine Block.fset_st K _ _ _ (by first | decide | exact vsOk_notState _ | (left; simp only [F.RTC_STAT_VALID, Reg.RTC_STAT, Reg.SYS_STATE, ne_eq]; omega) | (left; split <;> (simp only [F.RTC_STAT_VALID, Reg.RTC_STAT, Reg.SYS_STATE, ne_eq]; omega))) ?_ | dsimp only | intro _)

theorem execCompareFire_st (K : KeptBySt Q) (k : Fin 6) (s : State) (hq : Q s.regs) :
    ∃ u, execCompareFire k s = .next u ∧ Q u.regs := by
  refine ⟨_, rfl, ?_⟩
  repeat' (first | with_reducible assumption | with_reducible refine Block.when_keep _ _ _ ?_ (fun _ => ?_) | with_reducible apply Block.absCompare_st K | with_reducible apply Block.raiseEvt_st K | with_reducible refine Block.fset_st K _ _ _ (by first | decide | exact vsOk_notState _ | (left; simp only [F.TSU_CMP_CTL_EN, Reg.SYS_STATE, Reg.TSU_CMP_CTL, Reg.TSU_CMP_HI, Reg.TSU_CMP_LO, Reg.TSU_CMP_PERIOD, ne_eq]; omega) | (left; split <;> (simp only [F.TSU_CMP_CTL_EN, Reg.SYS_STATE, Reg.TSU_CMP_CTL, Reg.TSU_CMP_HI, Reg.TSU_CMP_LO, Reg.TSU_CMP_PERIOD, ne_eq]; omega))) ?_ | with_reducible refine Block.setRegN_st K _ _ _ (by first | decide | (simp only [F.TSU_CMP_CTL_EN, Reg.SYS_STATE, Reg.TSU_CMP_CTL, Reg.TSU_CMP_HI, Reg.TSU_CMP_LO, Reg.TSU_CMP_PERIOD, ne_eq]; omega) | (split <;> decide)) ?_ | with_reducible refine ite_keep ?_ ?_ | dsimp only | intro _)

theorem execRecordDurable_st (K : KeptBySt Q) (us : Nat) (s : State) (hq : Q s.regs) :
    ∃ u, execRecordDurable us s = .next u ∧ Q u.regs := by
  refine ⟨_, rfl, ?_⟩
  repeat' (first | with_reducible assumption | with_reducible refine Block.setRegN_st K _ _ _ (by first | decide | (simp only [F.CEL_STAT_READONLY, Reg.CEL_STAT, Reg.EVR_COMMIT_MAX, Reg.SYS_STATE, ne_eq]; omega) | (split <;> decide)) ?_ | with_reducible apply Block.recStore_st K | with_reducible apply Block.lockDurable_st K | with_reducible apply Block.queueFill_st K | with_reducible refine Block.when_keep _ _ _ ?_ (fun _ => ?_) | with_reducible apply Block.lossDurable_st K | with_reducible apply Block.recRefusals_st K | with_reducible refine ite_keep ?_ ?_ | split | dsimp only | with_reducible refine pair_keep (by with_reducible assumption) ?_ | with_reducible refine pair_keep' (by with_reducible assumption) ?_ | intro _)

theorem execRecordAccept_st (K : KeptBySt Q) (island : Bool) (sev : Fin 8) (typ src : Nat) (words : List Word) (s : State) (hq : Q s.regs) :
    ∃ u, execRecordAccept island sev typ src words s = .next u ∧ Q u.regs := by
  refine ⟨_, rfl, ?_⟩
  repeat' (first | with_reducible assumption | with_reducible apply Block.recIsland_st K | with_reducible apply Block.recAccept_st K | with_reducible refine ite_keep ?_ ?_ | dsimp only | intro _)

theorem execOptimeStore_st (K : KeptBySt Q) (s : State) (hq : Q s.regs) :
    ∃ u, execOptimeStore s = .next u ∧ Q u.regs := by
  refine ⟨_, rfl, ?_⟩
  repeat' (first | with_reducible assumption | with_reducible apply Block.timed_st K | with_reducible apply Block.celRequest_st K | with_reducible refine ite_keep ?_ ?_ | dsimp only | intro _)

theorem execCellarRecordDurable_st (K : KeptBySt Q) (ok : Bool) (us : Nat) (s : State) (hq : Q s.regs) :
    ∃ u, execCellarRecordDurable ok us s = .next u ∧ Q u.regs := by
  refine ⟨_, rfl, ?_⟩
  repeat' (first | with_reducible assumption | with_reducible refine Block.incSat_st K _ _ (by first | decide | exact vsOk_notState _ | (left; simp only [F.CEL_ERR_CNT_VALUE, F.CEL_STAT_READONLY, Reg.CEL_ERR_CNT, Reg.CEL_STAT, Reg.CEL_WR_MAX, Reg.SYS_STATE, ne_eq]; omega) | (left; split <;> (simp only [F.CEL_ERR_CNT_VALUE, F.CEL_STAT_READONLY, Reg.CEL_ERR_CNT, Reg.CEL_STAT, Reg.CEL_WR_MAX, Reg.SYS_STATE, ne_eq]; omega))) ?_ | with_reducible apply Block.raiseEvt_st K | with_reducible refine Block.setRegN_st K _ _ _ (by first | decide | (simp only [F.CEL_ERR_CNT_VALUE, F.CEL_STAT_READONLY, Reg.CEL_ERR_CNT, Reg.CEL_STAT, Reg.CEL_WR_MAX, Reg.SYS_STATE, ne_eq]; omega) | (split <;> decide)) ?_ | with_reducible apply Block.celCommit_st K | with_reducible refine ite_keep ?_ ?_ | split | dsimp only | with_reducible refine pair_keep (by with_reducible assumption) ?_ | with_reducible refine pair_keep' (by with_reducible assumption) ?_ | intro _)

theorem execPatrolScrub_st (K : KeptBySt Q) (s : State) (hq : Q s.regs) :
    ∃ u, execPatrolScrub s = .next u ∧ Q u.regs := by
  refine ⟨_, rfl, ?_⟩
  repeat' (first | with_reducible assumption | with_reducible refine Block.setRegN_st K _ _ _ (by first | decide | (simp only [Reg.MEM_PATROL, Reg.SYS_STATE, ne_eq]; omega) | (split <;> decide)) ?_ | with_reducible apply Block.raiseEvt_st K | with_reducible refine ite_keep ?_ ?_ | dsimp only | intro _)

theorem execInnerCounterRead_st (K : KeptBySt Q) (n : Nat) (s : State) (hq : Q s.regs) :
    ∃ u, execInnerCounterRead n s = .next u ∧ Q u.regs := by
  refine ⟨_, rfl, ?_⟩
  repeat' (first | with_reducible assumption | with_reducible refine Block.when_keep _ _ _ ?_ (fun _ => ?_) | with_reducible apply Block.timed_st K | with_reducible refine Block.addSat_st K _ _ _ (by first | decide | exact vsOk_notState _ | (left; simp only [F.MEM_INNER_CNT_COUNT, Reg.MEM_INNER_CNT, Reg.SYS_STATE, ne_eq]; omega) | (left; split <;> (simp only [F.MEM_INNER_CNT_COUNT, Reg.MEM_INNER_CNT, Reg.SYS_STATE, ne_eq]; omega))) ?_ | dsimp only | intro _)

theorem execSramScrub_st (K : KeptBySt Q) (engine : Option (Fin 16)) (corrected : Nat) (s : State) (hq : Q s.regs) :
    ∃ u, execSramScrub engine corrected s = .next u ∧ Q u.regs := by
  refine ⟨_, rfl, ?_⟩
  repeat' (first | with_reducible assumption | with_reducible apply Block.timed_st K | with_reducible refine Block.addSat_st K _ _ _ (by first | decide | exact vsOk_notState _ | (left; simp only [F.ENG_MEM_CNT_COUNT, F.MEM_SRAM_CE_CNT_COUNT, Reg.ENG_MEM_CNT, Reg.MEM_SRAM_CE_CNT, Reg.SYS_STATE, ne_eq]; omega) | (left; split <;> (simp only [F.ENG_MEM_CNT_COUNT, F.MEM_SRAM_CE_CNT_COUNT, Reg.ENG_MEM_CNT, Reg.MEM_SRAM_CE_CNT, Reg.SYS_STATE, ne_eq]; omega))) ?_ | with_reducible apply Block.raiseEvt_st K | with_reducible refine ite_keep ?_ ?_ | split | dsimp only | with_reducible refine pair_keep (by with_reducible assumption) ?_ | with_reducible refine pair_keep' (by with_reducible assumption) ?_ | intro _)

theorem execFloatSelftestChunk_st (K : KeptBySt Q) (ns : Nat) (groups : Fin 16) (divOk : Bool) (fail : Nat) (s : State) (hq : Q s.regs) :
    ∃ u, execFloatSelftestChunk ns groups divOk fail s = .next u ∧ Q u.regs := by
  refine ⟨_, rfl, ?_⟩
  repeat' (first | with_reducible assumption | with_reducible apply Block.solChunk_st K | with_reducible apply Block.solDownCheck_st K | dsimp only | intro _)

theorem execLaneGroupFault_st (K : KeptBySt Q) (g : Fin 4) (s : State) (hq : Q s.regs) :
    ∃ u, execLaneGroupFault g s = .next u ∧ Q u.regs := by
  refine ⟨_, rfl, ?_⟩
  repeat' (first | with_reducible assumption | with_reducible apply Block.solAbortRun_st K | with_reducible apply Block.solRetest_st K | with_reducible apply Block.solDropGroup_st K | with_reducible apply Block.solDownCheck_st K | with_reducible refine ite_keep ?_ ?_ | dsimp only | intro _)

theorem execSolverFault_st (K : KeptBySt Q) (divide : Bool) (s : State) (hq : Q s.regs) :
    ∃ u, execSolverFault divide s = .next u ∧ Q u.regs := by
  refine ⟨_, rfl, ?_⟩
  repeat' (first | with_reducible assumption | with_reducible refine Block.when_keep _ _ _ ?_ (fun _ => ?_) | with_reducible refine Block.fset_st K _ _ _ (by first | decide | exact vsOk_notState _ | (left; simp only [F.SOL_TEST_DIV_OK, Reg.SOL_TEST, Reg.SYS_STATE, ne_eq]; omega) | (left; split <;> (simp only [F.SOL_TEST_DIV_OK, Reg.SOL_TEST, Reg.SYS_STATE, ne_eq]; omega))) ?_ | with_reducible apply Block.solFail_st K | with_reducible apply Block.solShow_st K | with_reducible apply Block.solDownCheck_st K | dsimp only | intro _)

theorem execCellarReadOnly_st (K : KeptBySt Q) (s : State) (hq : Q s.regs) :
    ∃ u, execCellarReadOnly s = .next u ∧ Q u.regs := by
  refine ⟨_, rfl, ?_⟩
  repeat' (first | with_reducible assumption | with_reducible refine Block.when_keep _ _ _ ?_ (fun _ => ?_) | with_reducible refine Block.fset_st K _ _ _ (by first | decide | exact vsOk_notState _ | (left; simp only [F.CEL_LIFE_SPARE, F.CEL_STAT_LIFE_WARN, F.CEL_STAT_READONLY, F.UPD_CASK_STATE, F.UPD_RES_CODE, Reg.CEL_LIFE, Reg.CEL_STAT, Reg.SYS_STATE, Reg.UPD_CASK, Reg.UPD_RES, ne_eq]; omega) | (left; split <;> (simp only [F.CEL_LIFE_SPARE, F.CEL_STAT_LIFE_WARN, F.CEL_STAT_READONLY, F.UPD_CASK_STATE, F.UPD_RES_CODE, Reg.CEL_LIFE, Reg.CEL_STAT, Reg.SYS_STATE, Reg.UPD_CASK, Reg.UPD_RES, ne_eq]; omega))) ?_ | with_reducible apply Block.raiseEvt_st K | with_reducible apply Block.olcEnd_st K | with_reducible apply Block.endTransfer_st K | with_reducible refine ite_keep ?_ ?_ | dsimp only | intro _)

theorem execPairLinkUp_st (K : KeptBySt Q) (verLo verHi : Nat) (s : State) (hq : Q s.regs) :
    ∃ u, execPairLinkUp verLo verHi s = .next u ∧ Q u.regs := by
  refine ⟨_, rfl, ?_⟩
  repeat' (first | with_reducible assumption | with_reducible refine Block.fset_st K _ _ _ (by first | decide | exact vsOk_notState _ | (left; simp only [F.PAIR_STAT_LINK, F.RED_RES_CODE, F.RED_STAT_PIV, Reg.PAIR_STAT, Reg.RED_RES, Reg.RED_STAT, Reg.SYS_STATE, ne_eq]; omega) | (left; split <;> (simp only [F.PAIR_STAT_LINK, F.RED_RES_CODE, F.RED_STAT_PIV, Reg.PAIR_STAT, Reg.RED_RES, Reg.RED_STAT, Reg.SYS_STATE, ne_eq]; omega))) ?_ | with_reducible apply Block.raiseEvt_st K | with_reducible apply Block.hbFollow_st K | with_reducible refine ite_keep ?_ ?_ | split | dsimp only | with_reducible refine pair_keep (by with_reducible assumption) ?_ | with_reducible refine pair_keep' (by with_reducible assumption) ?_ | intro _)

theorem execPairLinkLost_st (K : KeptBySt Q) (s : State) (hq : Q s.regs) :
    ∃ u, execPairLinkLost s = .next u ∧ Q u.regs := by
  refine ⟨_, rfl, ?_⟩
  repeat' (first | with_reducible assumption | with_reducible apply Block.pairLinkDown_st K | dsimp only | intro _)

theorem execPairTimeout_st (K : KeptBySt Q) (s : State) (hq : Q s.regs) :
    ∃ u, execPairTimeout s = .next u ∧ Q u.regs := by
  refine ⟨_, rfl, ?_⟩
  repeat' (first | with_reducible assumption | with_reducible refine Block.incSat_st K _ _ (by first | decide | exact vsOk_notState _ | (left; simp only [F.PAIR_TO_CNT_COUNT, F.RED_STAT_PAIR_OK, Reg.PAIR_TO_CNT, Reg.RED_STAT, Reg.SYS_STATE, ne_eq]; omega) | (left; split <;> (simp only [F.PAIR_TO_CNT_COUNT, F.RED_STAT_PAIR_OK, Reg.PAIR_TO_CNT, Reg.RED_STAT, Reg.SYS_STATE, ne_eq]; omega))) ?_ | with_reducible apply Block.raiseEvt_st K | with_reducible apply Block.pairSilent_st K | with_reducible refine ite_keep ?_ ?_ | dsimp only | intro _)

theorem execPairHeartbeatTx_st (K : KeptBySt Q) (s : State) (hq : Q s.regs) :
    ∃ u, execPairHeartbeatTx s = .next u ∧ Q u.regs := by
  refine ⟨_, rfl, ?_⟩
  repeat' (first | with_reducible assumption | with_reducible apply Block.redRefresh_st K | with_reducible apply Block.lowFollow_st K | with_reducible apply Block.send_st K | with_reducible refine ite_keep ?_ ?_ | dsimp only | intro _)

theorem execCan3HeartbeatTx_st (K : KeptBySt Q) (s : State) (hq : Q s.regs) :
    ∃ u, execCan3HeartbeatTx s = .next u ∧ Q u.regs := by
  refine ⟨_, rfl, ?_⟩
  repeat' (first | with_reducible assumption | with_reducible apply Block.redRefresh_st K | with_reducible apply Block.lowFollow_st K | with_reducible apply Block.hbSend_st K | with_reducible apply Block.beatArm_st K | with_reducible refine ite_keep ?_ ?_ | dsimp only | intro _)

theorem execCan3HeartbeatRx_st (K : KeptBySt Q) (h : CanBeat) (s : State) (hq : Q s.regs) :
    ∃ u, execCan3HeartbeatRx h s = .next u ∧ Q u.regs := by
  refine ⟨_, rfl, ?_⟩
  repeat' (first | with_reducible assumption | with_reducible apply Block.canStore_st K | with_reducible refine Block.fset_st K _ _ _ (by first | decide | exact vsOk_notState _ | (left; simp only [F.RED_HEALTH_PARTNER, F.RED_STAT_HB_OK, Reg.RED_HEALTH, Reg.RED_PCLAIM, Reg.RED_STAT, Reg.SYS_STATE, ne_eq]; omega) | (left; split <;> (simp only [F.RED_HEALTH_PARTNER, F.RED_STAT_HB_OK, Reg.RED_HEALTH, Reg.RED_PCLAIM, Reg.RED_STAT, Reg.SYS_STATE, ne_eq]; omega))) ?_ | with_reducible refine Block.setRegN_st K _ _ _ (by first | decide | (simp only [F.RED_HEALTH_PARTNER, F.RED_STAT_HB_OK, Reg.RED_HEALTH, Reg.RED_PCLAIM, Reg.RED_STAT, Reg.SYS_STATE, ne_eq]; omega) | (split <;> decide)) ?_ | with_reducible apply Block.presence_st K | with_reducible apply Block.lowFollow_st K | with_reducible apply Block.partnerLeads_st K | with_reducible refine Block.when_keep _ _ _ ?_ (fun _ => ?_) | with_reducible apply Block.departureRx_st K | with_reducible refine ite_keep ?_ ?_ | dsimp only | intro _)

theorem execCan3HeartbeatTimeout_st (K : KeptBySt Q) (s : State) (hq : Q s.regs) :
    ∃ u, execCan3HeartbeatTimeout s = .next u ∧ Q u.regs := by
  refine ⟨_, rfl, ?_⟩
  repeat' (first | with_reducible assumption | with_reducible refine Block.when_keep _ _ _ ?_ (fun _ => ?_) | with_reducible apply Block.hbSilent_st K | dsimp only | intro _)

theorem execCan3AutoRecover_st (K : KeptBySt Q) (s : State) (hq : Q s.regs) :
    ∃ u, execCan3AutoRecover s = .next u ∧ Q u.regs := by
  refine ⟨_, rfl, ?_⟩
  repeat' (first | with_reducible assumption | with_reducible apply Block.canRecover_st K | with_reducible refine ite_keep ?_ ?_ | dsimp only | intro _)

theorem execClaimRound_st (K : KeptBySt Q) (s : State) (hq : Q s.regs) :
    ∃ u, execClaimRound s = .next u ∧ Q u.regs := by
  refine ⟨_, rfl, ?_⟩
  repeat' (first | with_reducible assumption | with_reducible apply Block.roundBegin_st K | with_reducible refine ite_keep ?_ ?_ | dsimp only | intro _)

theorem execClaimRoundAlone_st (K : KeptBySt Q) (s : State) (hq : Q s.regs) :
    ∃ u, execClaimRoundAlone s = .next u ∧ Q u.regs := by
  refine ⟨_, rfl, ?_⟩
  repeat' (first | with_reducible assumption | with_reducible apply Block.roundBegin_st K | with_reducible refine ite_keep ?_ ?_ | dsimp only | intro _)

theorem execClaimRoundEnd_st (K : KeptBySt Q) (read : Word) (ack : Bool) (partnerWord : Option Word) (s : State) (hq : Q s.regs) :
    ∃ u, execClaimRoundEnd read ack partnerWord s = .next u ∧ Q u.regs := by
  refine ⟨_, rfl, ?_⟩
  repeat' (first | with_reducible assumption | with_reducible refine Block.setRegN_st K _ _ _ (by first | decide | (simp only [F.PAIR_STAT_LINK, F.RED_ROUND_INFO_ACK, F.RED_ROUND_INFO_WON, F.RED_STAT_PAIR_OK, Reg.PAIR_STAT, Reg.RED_CLAIM, Reg.RED_PCLAIM, Reg.RED_ROUND, Reg.RED_ROUND_INFO, Reg.RED_STAT, Reg.SYS_STATE, ne_eq]; omega) | (split <;> decide)) ?_ | with_reducible refine Block.fsetB_st K _ _ _ (by first | decide | exact vsOk_notState _ | (left; simp only [F.PAIR_STAT_LINK, F.RED_ROUND_INFO_ACK, F.RED_ROUND_INFO_WON, F.RED_STAT_PAIR_OK, Reg.PAIR_STAT, Reg.RED_CLAIM, Reg.RED_PCLAIM, Reg.RED_ROUND, Reg.RED_ROUND_INFO, Reg.RED_STAT, Reg.SYS_STATE, ne_eq]; omega) | (left; split <;> (simp only [F.PAIR_STAT_LINK, F.RED_ROUND_INFO_ACK, F.RED_ROUND_INFO_WON, F.RED_STAT_PAIR_OK, Reg.PAIR_STAT, Reg.RED_CLAIM, Reg.RED_PCLAIM, Reg.RED_ROUND, Reg.RED_ROUND_INFO, Reg.RED_STAT, Reg.SYS_STATE, ne_eq]; omega))) ?_ | with_reducible refine Block.when_keep _ _ _ ?_ (fun _ => ?_) | with_reducible apply Block.send_st K | with_reducible apply Block.wireJudge_st K | with_reducible apply Block.presence_st K | with_reducible apply Block.pairOut_st K | with_reducible apply Block.setWon_st K | with_reducible apply Block.demote_st K | with_reducible apply Block.unsyncedLoss_st K | with_reducible refine ite_keep ?_ ?_ | split | dsimp only | with_reducible refine pair_keep (by with_reducible assumption) ?_ | with_reducible refine pair_keep' (by with_reducible assumption) ?_ | intro _)

theorem execHealthHandover_st (K : KeptBySt Q) (s : State) (hq : Q s.regs) :
    ∃ u, execHealthHandover s = .next u ∧ Q u.regs := by
  refine ⟨_, rfl, ?_⟩
  repeat' (first | with_reducible assumption | with_reducible refine Block.when_keep _ _ _ ?_ (fun _ => ?_) | with_reducible apply Block.depart_st K | dsimp only | intro _)

theorem execTakeover_st (K : KeptBySt Q) (s : State) (hq : Q s.regs) :
    ∃ u, execTakeover s = .next u ∧ Q u.regs := by
  refine ⟨_, rfl, ?_⟩
  repeat' (first | with_reducible assumption | with_reducible apply Block.takeOver_st K | with_reducible refine ite_keep ?_ ?_ | dsimp only | intro _)

theorem execSwitch_st (K : KeptBySt Q) (r : Requester) (s : State) (hq : Q s.regs) :
    ∃ u, execSwitch r s = .next u ∧ Q u.regs := by
  refine ⟨_, rfl, ?_⟩
  repeat' (first | with_reducible assumption | with_reducible apply Block.redCmdWrite_st K | dsimp only | intro _)

theorem execTakeoverCold_st (K : KeptBySt Q) (r : Requester) (s : State) (hq : Q s.regs) :
    ∃ u, execTakeoverCold r s = .next u ∧ Q u.regs := by
  refine ⟨_, rfl, ?_⟩
  repeat' (first | with_reducible assumption | with_reducible apply Block.redCmdWrite_st K | dsimp only | intro _)

theorem execResync_st (K : KeptBySt Q) (r : Requester) (s : State) (hq : Q s.regs) :
    ∃ u, execResync r s = .next u ∧ Q u.regs := by
  refine ⟨_, rfl, ?_⟩
  repeat' (first | with_reducible assumption | with_reducible apply Block.redCmdWrite_st K | dsimp only | intro _)

theorem execJoinContextCopy_st (K : KeptBySt Q) (item : JoinItem) (s : State) (hq : Q s.regs) :
    ∃ u, execJoinContextCopy item s = .next u ∧ Q u.regs := by
  refine ⟨_, rfl, ?_⟩
  repeat' (first | with_reducible assumption | with_reducible apply Block.send_st K | with_reducible apply Block.pairHeard_st K | with_reducible apply Block.joinTake_st K | with_reducible refine Block.fset_st K _ _ _ (by first | decide | exact vsOk_notState _ | (left; simp only [F.CTX_STATE_STOP_WHY, F.RED_STAT_PAIR_OK, F.RED_SYNC_PROG_CONTEXTS, F.RED_SYNC_PROG_PATTERNS, Reg.CTX_STATE, Reg.RED_STAT, Reg.RED_SYNC_PROG, Reg.SYS_STATE, ne_eq]; omega) | (left; split <;> (simp only [F.CTX_STATE_STOP_WHY, F.RED_STAT_PAIR_OK, F.RED_SYNC_PROG_CONTEXTS, F.RED_SYNC_PROG_PATTERNS, Reg.CTX_STATE, Reg.RED_STAT, Reg.RED_SYNC_PROG, Reg.SYS_STATE, ne_eq]; omega))) ?_ | with_reducible refine Block.when_keep _ _ _ ?_ (fun _ => ?_) | with_reducible apply Block.setSync_st K | with_reducible refine ite_keep ?_ ?_ | split | dsimp only | with_reducible refine pair_keep (by with_reducible assumption) ?_ | with_reducible refine pair_keep' (by with_reducible assumption) ?_ | intro _)

theorem execMirrorDataRx_st (K : KeptBySt Q) (c : Fin 256) (slots own : List (Nat × Nat)) (s : State) (hq : Q s.regs) :
    ∃ u, execMirrorDataRx c slots own s = .next u ∧ Q u.regs := by
  refine ⟨_, rfl, ?_⟩
  repeat' (first | with_reducible assumption | with_reducible apply Block.pairHeard_st K | with_reducible apply Block.modCx_st K | with_reducible apply Block.applyMirror_st K | with_reducible refine ite_keep ?_ ?_ | dsimp only | intro _)

theorem execPairLatchSetRx_st (K : KeptBySt Q) (p : PairSet) (s : State) (hq : Q s.regs) :
    ∃ u, execPairLatchSetRx p s = .next u ∧ Q u.regs := by
  refine ⟨_, rfl, ?_⟩
  repeat' (first | with_reducible assumption | with_reducible refine Block.when_keep _ _ _ ?_ (fun _ => ?_) | with_reducible refine Block.setRegN_st K _ _ _ (by first | decide | (simp only [F.RED_STAT_PAIR_OK, Reg.PAIR_LAG_MAX, Reg.RED_STAT, Reg.SYS_STATE, ne_eq]; omega) | (split <;> decide)) ?_ | with_reducible apply Block.pairHeard_st K | with_reducible apply Block.modCx_st K | with_reducible apply Block.jobModeSet_st K | with_reducible apply Block.pairResult_st K | with_reducible refine ite_keep ?_ ?_ | split | dsimp only | with_reducible refine pair_keep (by with_reducible assumption) ?_ | with_reducible refine pair_keep' (by with_reducible assumption) ?_ | intro _)

theorem execPairCommandRx_st (K : KeptBySt Q) (c : PairCmd) (s : State) (hq : Q s.regs) :
    ∃ u, execPairCommandRx c s = .next u ∧ Q u.regs := by
  refine ⟨_, rfl, ?_⟩
  repeat' (first | with_reducible assumption | with_reducible refine Block.when_keep _ _ _ ?_ (fun _ => ?_) | with_reducible apply Block.pairHeard_st K | with_reducible apply Block.pairEnded_st K | with_reducible apply Block.pairForce_st K | with_reducible apply Block.pairPackage_st K | with_reducible apply Block.olcArm_st K | with_reducible apply Block.olcEnd_st K | with_reducible apply Block.olcFollow_st K | with_reducible apply Block.epochDown_st K | with_reducible refine ite_keep ?_ ?_ | split | dsimp only | with_reducible refine pair_keep (by with_reducible assumption) ?_ | with_reducible refine pair_keep' (by with_reducible assumption) ?_ | intro _)

theorem execPairTimeMessage_st (K : KeptBySt Q) (offset rate : Int) (delayNs : Nat) (s : State) (hq : Q s.regs) :
    ∃ u, execPairTimeMessage offset rate delayNs s = .next u ∧ Q u.regs := by
  refine ⟨_, rfl, ?_⟩
  repeat' (first | with_reducible assumption | with_reducible apply Block.pairHeard_st K | with_reducible apply Block.send_st K | with_reducible refine Block.setRegN_st K _ _ _ (by first | decide | (simp only [F.PAIR_STAT_LINK, Reg.PAIR_DELAY, Reg.PAIR_STAT, Reg.PAIR_TIME_OFS, Reg.SYS_STATE, ne_eq]; omega) | (split <;> decide)) ?_ | with_reducible refine Block.setRegI_st K _ _ _ (by first | decide | (simp only [F.PAIR_STAT_LINK, Reg.PAIR_DELAY, Reg.PAIR_STAT, Reg.PAIR_TIME_OFS, Reg.SYS_STATE, ne_eq]; omega) | (split <;> decide)) ?_ | with_reducible apply Block.raiseEvt_st K | with_reducible apply Block.tsuUpdate_st K | with_reducible refine ite_keep ?_ ?_ | dsimp only | intro _)

theorem execLinkInFrame_st (K : KeptBySt Q) (f : LinkIn) (s : State) (hq : Q s.regs) :
    ∃ u, execLinkInFrame f s = .next u ∧ Q u.regs := by
  refine ⟨_, rfl, ?_⟩
  repeat' (first | with_reducible assumption | with_reducible apply Block.lnkIn_st K | with_reducible apply Block.pairEcho_st K | with_reducible refine ite_keep ?_ ?_ | split | dsimp only | with_reducible refine pair_keep (by with_reducible assumption) ?_ | with_reducible refine pair_keep' (by with_reducible assumption) ?_ | intro _)

theorem execLabelUpdateRequest_st (K : KeptBySt Q) (region : Fin 6) (levels : List (Fin 4)) (s : State) (hq : Q s.regs) :
    ∃ u, execLabelUpdateRequest region levels s = .next u ∧ Q u.regs := by
  refine ⟨_, rfl, ?_⟩
  repeat' (first | with_reducible assumption | with_reducible apply Block.setRegion_st K | with_reducible apply Block.labelUpdate_st K | with_reducible refine ite_keep ?_ ?_ | dsimp only | intro _)

theorem execLabelIntervalExpiry_st (K : KeptBySt Q) (region : Fin 6) (s : State) (hq : Q s.regs) :
    ∃ u, execLabelIntervalExpiry region s = .next u ∧ Q u.regs := by
  refine ⟨_, rfl, ?_⟩
  repeat' (first | with_reducible assumption | with_reducible apply Block.labelUpdate_st K | with_reducible refine ite_keep ?_ ?_ | split | dsimp only | with_reducible refine pair_keep (by with_reducible assumption) ?_ | with_reducible refine pair_keep' (by with_reducible assumption) ?_ | intro _)

theorem execLabelFrame_st (K : KeptBySt Q) (temp : Int) (tableBad : Bool) (s : State) (hq : Q s.regs) :
    ∃ u, execLabelFrame temp tableBad s = .next u ∧ Q u.regs := by
  refine ⟨_, rfl, ?_⟩
  repeat' (first | with_reducible assumption | with_reducible apply Block.timed_st K | with_reducible refine Block.fset_st K _ _ _ (by first | decide | exact vsOk_notState _ | (left; simp only [F.DSB_STAT_BAND, F.DSB_STAT_CLEAN, F.DSB_STAT_PANEL_FAULT, Reg.DSB_STAT, Reg.DSB_TEMP, Reg.DSB_VDRV, Reg.SYS_STATE, ne_eq]; omega) | (left; split <;> (simp only [F.DSB_STAT_BAND, F.DSB_STAT_CLEAN, F.DSB_STAT_PANEL_FAULT, Reg.DSB_STAT, Reg.DSB_TEMP, Reg.DSB_VDRV, Reg.SYS_STATE, ne_eq]; omega))) ?_ | with_reducible apply Block.raiseEvt_st K | with_reducible refine Block.setRegN_st K _ _ _ (by first | decide | (simp only [F.DSB_STAT_BAND, F.DSB_STAT_CLEAN, F.DSB_STAT_PANEL_FAULT, Reg.DSB_STAT, Reg.DSB_TEMP, Reg.DSB_VDRV, Reg.SYS_STATE, ne_eq]; omega) | (split <;> decide)) ?_ | with_reducible refine Block.when_keep _ _ _ ?_ (fun _ => ?_) | with_reducible refine Block.forAll_keep _ _ _ ?_ (fun _ _ _ => ?_) | with_reducible apply Block.regionFrame_st K | with_reducible apply Block.cleanEnd_st K | with_reducible apply Block.labelCommand_st K | with_reducible apply Block.labelShow_st K | with_reducible refine ite_keep ?_ ?_ | dsimp only | intro _)

theorem execRefresh_st (K : KeptBySt Q) (r : Requester) (s : State) (hq : Q s.regs) :
    ∃ u, execRefresh r s = .next u ∧ Q u.regs := by
  refine ⟨_, rfl, ?_⟩
  repeat' (first | with_reducible assumption | with_reducible apply Block.dsbCmdWrite_st K | dsimp only | intro _)

theorem execClean_st (K : KeptBySt Q) (r : Requester) (s : State) (hq : Q s.regs) :
    ∃ u, execClean r s = .next u ∧ Q u.regs := by
  refine ⟨_, rfl, ?_⟩
  repeat' (first | with_reducible assumption | with_reducible apply Block.dsbCmdWrite_st K | dsimp only | intro _)

theorem execCoreInputRise_st (K : KeptBySt Q) (cp : Fin 2) (mv : Nat) (s : State) (hq : Q s.regs) :
    ∃ u, execCoreInputRise cp mv s = .next u ∧ Q u.regs := by
  refine ⟨_, rfl, ?_⟩
  repeat' (first | with_reducible assumption | with_reducible apply Block.cpReturn_st K | with_reducible apply Block.qualify_st K | with_reducible refine ite_keep ?_ ?_ | dsimp only | intro _)

theorem execInputQualificationEnd_st (K : KeptBySt Q) (s : State) (hq : Q s.regs) :
    ∃ u, execInputQualificationEnd s = .next u ∧ Q u.regs := by
  refine ⟨_, rfl, ?_⟩
  repeat' (first | with_reducible assumption | with_reducible apply Block.qualify_st K | with_reducible refine ite_keep ?_ ?_ | dsimp only | intro _)

theorem execCoreInputLost_st (K : KeptBySt Q) (cp : Fin 2) (mv : Nat) (s : State) (hq : Q s.regs) :
    ∃ u, execCoreInputLost cp mv s = .next u ∧ Q u.regs := by
  refine ⟨_, rfl, ?_⟩
  repeat' (first | with_reducible assumption | with_reducible apply Block.cpLost_st K | dsimp only | intro _)

theorem execCoreInputReturn_st (K : KeptBySt Q) (cp : Fin 2) (mv : Nat) (s : State) (hq : Q s.regs) :
    ∃ u, execCoreInputReturn cp mv s = .next u ∧ Q u.regs := by
  refine ⟨_, rfl, ?_⟩
  repeat' (first | with_reducible assumption | with_reducible apply Block.cpReturn_st K | with_reducible refine Block.when_keep _ _ _ ?_ (fun _ => ?_) | with_reducible apply Block.qualify_st K | with_reducible refine ite_keep ?_ ?_ | dsimp only | intro _)

theorem execCoreOvervoltageDisconnect_st (K : KeptBySt Q) (cp : Fin 2) (mv : Nat) (s : State) (hq : Q s.regs) :
    ∃ u, execCoreOvervoltageDisconnect cp mv s = .next u ∧ Q u.regs := by
  refine ⟨_, rfl, ?_⟩
  repeat' (first | with_reducible assumption | with_reducible apply Block.cpLost_st K | dsimp only | intro _)

theorem execCoreOvervoltageReconnect_st (K : KeptBySt Q) (cp : Fin 2) (mv : Nat) (s : State) (hq : Q s.regs) :
    ∃ u, execCoreOvervoltageReconnect cp mv s = .next u ∧ Q u.regs := by
  refine ⟨_, rfl, ?_⟩
  repeat' (first | with_reducible assumption | with_reducible apply Block.cpShow_st K | with_reducible apply Block.cpReturn_st K | with_reducible apply Block.qualify_st K | with_reducible refine ite_keep ?_ ?_ | dsimp only | intro _)

theorem execCoreBusUndervoltage_st (K : KeptBySt Q) (s : State) (hq : Q s.regs) :
    ∃ u, execCoreBusUndervoltage s = .next u ∧ Q u.regs := by
  refine ⟨_, rfl, ?_⟩
  repeat' (first | with_reducible assumption | with_reducible apply Block.qualify_st K | split | dsimp only | with_reducible refine pair_keep (by with_reducible assumption) ?_ | with_reducible refine pair_keep' (by with_reducible assumption) ?_ | intro _)

theorem execCoreInterruptionEnd_st (K : KeptBySt Q) (s : State) (hq : Q s.regs) :
    ∃ u, execCoreInterruptionEnd s = .next u ∧ Q u.regs := by
  refine ⟨_, rfl, ?_⟩
  repeat' (first | with_reducible assumption | with_reducible apply Block.recRegs_st K | with_reducible refine ite_keep ?_ ?_ | dsimp only | intro _)

theorem execPowerFailCommit_st (K : KeptBySt Q) (s : State) (hq : Q s.regs) :
    ∃ u, execPowerFailCommit s = .next u ∧ Q u.regs := by
  refine ⟨_, rfl, ?_⟩
  repeat' (first | with_reducible assumption | with_reducible apply Block.depart_st K | with_reducible apply Block.recQueue_st K | with_reducible refine ite_keep ?_ ?_ | dsimp only | intro _)

theorem execHoldUpStoreCharged_st (K : KeptBySt Q) (s : State) (hq : Q s.regs) :
    ∃ u, execHoldUpStoreCharged s = .next u ∧ Q u.regs := by
  refine ⟨_, rfl, ?_⟩
  repeat' (first | with_reducible assumption | with_reducible refine Block.fset_st K _ _ _ (by first | decide | exact vsOk_notState _ | (left; simp only [F.PWR_CP_STAT_HOLDUP, Reg.PWR_CP_STAT, Reg.SYS_STATE, ne_eq]; omega) | (left; split <;> (simp only [F.PWR_CP_STAT_HOLDUP, Reg.PWR_CP_STAT, Reg.SYS_STATE, ne_eq]; omega))) ?_ | with_reducible refine ite_keep ?_ ?_ | dsimp only | intro _)

theorem execSfpStatusChange_st (K : KeptBySt Q) (abs los txFlt : Bool) (s : State) (hq : Q s.regs) :
    ∃ u, execSfpStatusChange abs los txFlt s = .next u ∧ Q u.regs := by
  refine ⟨_, rfl, ?_⟩
  repeat' (first | with_reducible assumption | with_reducible apply Block.sfpShow_st K | with_reducible refine Block.when_keep _ _ _ ?_ (fun _ => ?_) | with_reducible apply Block.raiseEvt_st K | with_reducible apply Block.pairLinkDown_st K | with_reducible refine ite_keep ?_ ?_ | dsimp only | intro _)

theorem execMark_st (K : KeptBySt Q) (r : Requester) (downgrade : Bool) (s : State) (hq : Q s.regs) :
    ∃ u, execMark r downgrade s = .next u ∧ Q u.regs := by
  refine ⟨_, rfl, ?_⟩
  repeat' (first | with_reducible assumption | with_reducible apply Block.updCmdWrite_st K | with_reducible refine ite_keep ?_ ?_ | dsimp only | intro _)

theorem execUnmark_st (K : KeptBySt Q) (r : Requester) (s : State) (hq : Q s.regs) :
    ∃ u, execUnmark r s = .next u ∧ Q u.regs := by
  refine ⟨_, rfl, ?_⟩
  repeat' (first | with_reducible assumption | with_reducible apply Block.updCmdWrite_st K | dsimp only | intro _)

theorem execUpdDiscard_st (K : KeptBySt Q) (r : Requester) (s : State) (hq : Q s.regs) :
    ∃ u, execUpdDiscard r s = .next u ∧ Q u.regs := by
  refine ⟨_, rfl, ?_⟩
  repeat' (first | with_reducible assumption | with_reducible apply Block.updCmdWrite_st K | dsimp only | intro _)

theorem execRevert_st (K : KeptBySt Q) (r : Requester) (app : Bool) (s : State) (hq : Q s.regs) :
    ∃ u, execRevert r app s = .next u ∧ Q u.regs := by
  refine ⟨_, rfl, ?_⟩
  repeat' (first | with_reducible assumption | with_reducible apply Block.updCmdWrite_st K | with_reducible refine ite_keep ?_ ?_ | dsimp only | intro _)

theorem execOlcMarkerDurable_st (K : KeptBySt Q) (s : State) (hq : Q s.regs) :
    ∃ u, execOlcMarkerDurable s = .next u ∧ Q u.regs := by
  refine ⟨_, rfl, ?_⟩
  repeat' (first | with_reducible assumption | with_reducible refine ite_keep ?_ ?_ | split | dsimp only | with_reducible refine pair_keep (by with_reducible assumption) ?_ | with_reducible refine pair_keep' (by with_reducible assumption) ?_ | intro _)

theorem execPrpFrameRx_st (K : KeptBySt Q) (f : PrpRx) (s : State) (hq : Q s.regs) :
    ∃ u, execPrpFrameRx f s = .next u ∧ Q u.regs := by
  refine ⟨_, rfl, ?_⟩
  repeat' (first | with_reducible assumption | with_reducible refine Block.incSat_st K _ _ (by first | decide | exact vsOk_notState _ | (left; simp only [F.PRP_DUP_CNT_COUNT, F.PRP_RX_A_COUNT, F.PRP_RX_B_COUNT, F.PRP_WRONG_A_COUNT, F.PRP_WRONG_B_COUNT, Reg.PRP_DUP_CNT, Reg.PRP_RX_A, Reg.PRP_RX_B, Reg.PRP_WRONG_A, Reg.PRP_WRONG_B, Reg.SYS_STATE, ne_eq]; omega) | (left; split <;> (simp only [F.PRP_DUP_CNT_COUNT, F.PRP_RX_A_COUNT, F.PRP_RX_B_COUNT, F.PRP_WRONG_A_COUNT, F.PRP_WRONG_B_COUNT, Reg.PRP_DUP_CNT, Reg.PRP_RX_A, Reg.PRP_RX_B, Reg.PRP_WRONG_A, Reg.PRP_WRONG_B, Reg.SYS_STATE, ne_eq]; omega))) ?_ | with_reducible apply Block.lanHeard_st K | with_reducible apply Block.prpNode_st K | with_reducible refine Block.when_keep _ _ _ ?_ (fun _ => ?_) | with_reducible apply Block.raiseEvt_st K | with_reducible apply Block.passUp_st K | with_reducible refine ite_keep ?_ ?_ | split | dsimp only | with_reducible refine pair_keep (by with_reducible assumption) ?_ | with_reducible refine pair_keep' (by with_reducible assumption) ?_ | intro _)

theorem execPrpSupervisionTx_st (K : KeptBySt Q) (s : State) (hq : Q s.regs) :
    ∃ u, execPrpSupervisionTx s = .next u ∧ Q u.regs := by
  refine ⟨_, rfl, ?_⟩
  repeat' (first | with_reducible assumption | with_reducible apply Block.timed_st K | with_reducible apply Block.prpSend_st K | with_reducible refine ite_keep ?_ ?_ | dsimp only | intro _)

theorem execPrpNodeForget_st (K : KeptBySt Q) (mac : Nat) (s : State) (hq : Q s.regs) :
    ∃ u, execPrpNodeForget mac s = .next u ∧ Q u.regs := by
  refine ⟨_, rfl, ?_⟩
  repeat' (first | with_reducible assumption | with_reducible refine Block.fset_st K _ _ _ (by first | decide | exact vsOk_notState _ | (left; simp only [F.PRP_STAT_NODES, Reg.PRP_STAT, Reg.SYS_STATE, ne_eq]; omega) | (left; split <;> (simp only [F.PRP_STAT_NODES, Reg.PRP_STAT, Reg.SYS_STATE, ne_eq]; omega))) ?_ | with_reducible refine ite_keep ?_ ?_ | dsimp only | intro _)

theorem execIcmpEcho_st (K : KeptBySt Q) (dst src data : Nat) (s : State) (hq : Q s.regs) :
    ∃ u, execIcmpEcho dst src data s = .next u ∧ Q u.regs := by
  refine ⟨_, rfl, ?_⟩
  repeat' (first | with_reducible assumption | with_reducible apply Block.ipSend_st K | with_reducible refine ite_keep ?_ ?_ | dsimp only | intro _)

theorem execArpRequest_st (K : KeptBySt Q) (target sender : Nat) (s : State) (hq : Q s.regs) :
    ∃ u, execArpRequest target sender s = .next u ∧ Q u.regs := by
  refine ⟨_, rfl, ?_⟩
  repeat' (first | with_reducible assumption | with_reducible apply Block.prpSend_st K | with_reducible refine ite_keep ?_ ?_ | dsimp only | intro _)

theorem execIpSettingsTakeEffect_st (K : KeptBySt Q) (s : State) (hq : Q s.regs) :
    ∃ u, execIpSettingsTakeEffect s = .next u ∧ Q u.regs := by
  refine ⟨_, rfl, ?_⟩
  repeat' (first | with_reducible assumption | with_reducible apply Block.ipTake_st K | with_reducible refine ite_keep ?_ ?_ | dsimp only | intro _)

theorem execNetPortLink_st (K : KeptBySt Q) (portB up : Bool) (s : State) (hq : Q s.regs) :
    ∃ u, execNetPortLink portB up s = .next u ∧ Q u.regs := by
  refine ⟨_, rfl, ?_⟩
  repeat' (first | with_reducible assumption | with_reducible refine Block.fsetB_st K _ _ _ (by first | decide | exact vsOk_notState _ | (left; simp only [F.PRP_STAT_LINK_A, F.PRP_STAT_LINK_B, Reg.PRP_STAT, Reg.SYS_STATE, ne_eq]; omega) | (left; split <;> (simp only [F.PRP_STAT_LINK_A, F.PRP_STAT_LINK_B, Reg.PRP_STAT, Reg.SYS_STATE, ne_eq]; omega))) ?_ | with_reducible apply Block.event_st K | with_reducible apply Block.ptpDecide_st K | with_reducible refine ite_keep ?_ ?_ | dsimp only | intro _)

theorem execPtpAnnounceRx_st (K : KeptBySt Q) (portB : Bool) (domain : Nat) (set : PtpSet) (utc : Nat) (utcValid : Bool) (s : State) (hq : Q s.regs) :
    ∃ u, execPtpAnnounceRx portB domain set utc utcValid s = .next u ∧ Q u.regs := by
  refine ⟨_, rfl, ?_⟩
  repeat' (first | with_reducible assumption | with_reducible refine Block.when_keep _ _ _ ?_ (fun _ => ?_) | with_reducible apply Block.timed_st K | with_reducible apply Block.setPtpPort_st K | with_reducible apply Block.ptpDecide_st K | with_reducible refine ite_keep ?_ ?_ | split | dsimp only | with_reducible refine pair_keep (by with_reducible assumption) ?_ | with_reducible refine pair_keep' (by with_reducible assumption) ?_ | intro _)

theorem execPtpAnnounceTimeout_st (K : KeptBySt Q) (portB : Bool) (s : State) (hq : Q s.regs) :
    ∃ u, execPtpAnnounceTimeout portB s = .next u ∧ Q u.regs := by
  refine ⟨_, rfl, ?_⟩
  repeat' (first | with_reducible assumption | with_reducible apply Block.timed_st K | with_reducible refine Block.incSat_st K _ _ (by first | decide | exact vsOk_notState _ | (left; simp only [F.PTP_ANN_TO_CNT_COUNT, F.PTP_CFG_ANN_TO, F.PTP_INTV_LOG_ANN, Reg.PTP_ANN_TO_CNT, Reg.PTP_CFG, Reg.PTP_INTV, Reg.SYS_STATE, ne_eq]; omega) | (left; split <;> (simp only [F.PTP_ANN_TO_CNT_COUNT, F.PTP_CFG_ANN_TO, F.PTP_INTV_LOG_ANN, Reg.PTP_ANN_TO_CNT, Reg.PTP_CFG, Reg.PTP_INTV, Reg.SYS_STATE, ne_eq]; omega))) ?_ | with_reducible apply Block.raiseEvt_st K | with_reducible apply Block.setPtpPort_st K | with_reducible apply Block.ptpMaster_st K | with_reducible apply Block.ptpDecide_st K | with_reducible refine ite_keep ?_ ?_ | dsimp only | intro _)

theorem execPtpSyncRx_st (K : KeptBySt Q) (m : PtpSync) (t1 : Int) (s : State) (hq : Q s.regs) :
    ∃ u, execPtpSyncRx m t1 s = .next u ∧ Q u.regs := by
  refine ⟨_, rfl, ?_⟩
  repeat' (first | with_reducible assumption | with_reducible apply Block.setPtpPort_st K | with_reducible apply Block.ptpOffset_st K | with_reducible refine ite_keep ?_ ?_ | dsimp only | intro _)

theorem execPtpFollowUpRx_st (K : KeptBySt Q) (m : PtpSync) (s : State) (hq : Q s.regs) :
    ∃ u, execPtpFollowUpRx m s = .next u ∧ Q u.regs := by
  refine ⟨_, rfl, ?_⟩
  repeat' (first | with_reducible assumption | with_reducible apply Block.setPtpPort_st K | with_reducible apply Block.ptpOffset_st K | with_reducible refine ite_keep ?_ ?_ | split | dsimp only | with_reducible refine pair_keep (by with_reducible assumption) ?_ | with_reducible refine pair_keep' (by with_reducible assumption) ?_ | intro _)

theorem execPtpDelayReqTx_st (K : KeptBySt Q) (portB : Bool) (s : State) (hq : Q s.regs) :
    ∃ u, execPtpDelayReqTx portB s = .next u ∧ Q u.regs := by
  refine ⟨_, rfl, ?_⟩
  repeat' (first | with_reducible assumption | with_reducible apply Block.setPtpPort_st K | with_reducible apply Block.timed_st K | with_reducible apply Block.ptpSend_st K | with_reducible refine ite_keep ?_ ?_ | dsimp only | intro _)

theorem execPtpDelayRespRx_st (K : KeptBySt Q) (portB : Bool) (domain : Nat) (t1 t2 t3 t4 correction : Int) (s : State) (hq : Q s.regs) :
    ∃ u, execPtpDelayRespRx portB domain t1 t2 t3 t4 correction s = .next u ∧ Q u.regs := by
  refine ⟨_, rfl, ?_⟩
  repeat' (first | with_reducible assumption | with_reducible apply Block.setPtpPort_st K | with_reducible apply Block.ptpShow_st K | with_reducible refine ite_keep ?_ ?_ | dsimp only | intro _)

theorem execPtpPdelayReqRx_st (K : KeptBySt Q) (portB : Bool) (domain seq : Nat) (correction : Int) (residence : Nat) (s : State) (hq : Q s.regs) :
    ∃ u, execPtpPdelayReqRx portB domain seq correction residence s = .next u ∧ Q u.regs := by
  refine ⟨_, rfl, ?_⟩
  repeat' (first | with_reducible assumption | with_reducible apply Block.ptpSend_st K | with_reducible refine ite_keep ?_ ?_ | dsimp only | intro _)

theorem execPtpMasterTx_st (K : KeptBySt Q) (portB announce : Bool) (s : State) (hq : Q s.regs) :
    ∃ u, execPtpMasterTx portB announce s = .next u ∧ Q u.regs := by
  refine ⟨_, rfl, ?_⟩
  repeat' (first | with_reducible assumption | with_reducible apply Block.timed_st K | with_reducible apply Block.ptpSend_st K | with_reducible refine ite_keep ?_ ?_ | dsimp only | intro _)

theorem execPtpDelayReqRx_st (K : KeptBySt Q) (portB : Bool) (domain seq sender receipt : Nat) (s : State) (hq : Q s.regs) :
    ∃ u, execPtpDelayReqRx portB domain seq sender receipt s = .next u ∧ Q u.regs := by
  refine ⟨_, rfl, ?_⟩
  repeat' (first | with_reducible assumption | with_reducible apply Block.ptpSend_st K | with_reducible refine ite_keep ?_ ?_ | dsimp only | intro _)

theorem execPanelRender_st (K : KeptBySt Q) (body : List (List Nat)) (attrs : List Nat) (ok mapOk : Bool) (s : State) (hq : Q s.regs) :
    ∃ u, execPanelRender body attrs ok mapOk s = .next u ∧ Q u.regs := by
  refine ⟨_, rfl, ?_⟩
  repeat' (first | with_reducible assumption | with_reducible apply Block.timed_st K | with_reducible apply Block.readMap_st K | with_reducible refine Block.when_keep _ _ _ ?_ (fun _ => ?_) | with_reducible apply Block.raiseEvt_st K | with_reducible refine Block.fsetB_st K _ _ _ (by first | decide | exact vsOk_notState _ | (left; simp only [F.DSE_STAT_DIMMED, F.DSE_STAT_LAMP_TEST, F.DSE_STAT_PAGE, F.DSE_STAT_PANEL_OK, Reg.DSE_STAT, Reg.SYS_STATE, ne_eq]; omega) | (left; split <;> (simp only [F.DSE_STAT_DIMMED, F.DSE_STAT_LAMP_TEST, F.DSE_STAT_PAGE, F.DSE_STAT_PANEL_OK, Reg.DSE_STAT, Reg.SYS_STATE, ne_eq]; omega))) ?_ | with_reducible apply Block.takeSwap_st K | with_reducible refine Block.fset_st K _ _ _ (by first | decide | exact vsOk_notState _ | (left; simp only [F.DSE_STAT_DIMMED, F.DSE_STAT_LAMP_TEST, F.DSE_STAT_PAGE, F.DSE_STAT_PANEL_OK, Reg.DSE_STAT, Reg.SYS_STATE, ne_eq]; omega) | (left; split <;> (simp only [F.DSE_STAT_DIMMED, F.DSE_STAT_LAMP_TEST, F.DSE_STAT_PAGE, F.DSE_STAT_PANEL_OK, Reg.DSE_STAT, Reg.SYS_STATE, ne_eq]; omega))) ?_ | with_reducible apply Block.writeLines_st K | with_reducible refine ite_keep ?_ ?_ | dsimp only | intro _)

theorem execSwap_st (K : KeptBySt Q) (r : Requester) (s : State) (hq : Q s.regs) :
    ∃ u, execSwap r s = .next u ∧ Q u.regs := by
  refine ⟨_, rfl, ?_⟩
  repeat' (first | with_reducible assumption | with_reducible apply Block.cmdWrite_st K | with_reducible apply id_keep | dsimp only | intro _)

theorem execPanelDim_st (K : KeptBySt Q) (s : State) (hq : Q s.regs) :
    ∃ u, execPanelDim s = .next u ∧ Q u.regs := by
  refine ⟨_, rfl, ?_⟩
  repeat' (first | with_reducible assumption | with_reducible refine Block.fset_st K _ _ _ (by first | decide | exact vsOk_notState _ | (left; simp only [F.DSE_STAT_DIMMED, Reg.DSE_STAT, Reg.SYS_STATE, ne_eq]; omega) | (left; split <;> (simp only [F.DSE_STAT_DIMMED, Reg.DSE_STAT, Reg.SYS_STATE, ne_eq]; omega))) ?_ | with_reducible refine ite_keep ?_ ?_ | dsimp only | intro _)

theorem execButtonPress_st (K : KeptBySt Q) (button : Fin 3) (held : Fin 8) (s : State) (hq : Q s.regs) :
    ∃ u, execButtonPress button held s = .next u ∧ Q u.regs := by
  refine ⟨_, rfl, ?_⟩
  repeat' (first | with_reducible assumption | with_reducible apply Block.btnLevels_st K | with_reducible apply Block.accept_st K | with_reducible apply Block.shortPress_st K | with_reducible refine ite_keep ?_ ?_ | dsimp only | intro _)

theorem execButtonLongPress_st (K : KeptBySt Q) (held : Fin 8) (s : State) (hq : Q s.regs) :
    ∃ u, execButtonLongPress held s = .next u ∧ Q u.regs := by
  refine ⟨_, rfl, ?_⟩
  repeat' (first | with_reducible assumption | with_reducible apply Block.btnLevels_st K | with_reducible apply Block.accept_st K | with_reducible refine Block.fset_st K _ _ _ (by first | decide | exact vsOk_notState _ | (left; simp only [F.BTN_STAT_CAL_STEP, F.DSE_CFG_HOLD_PROG, Reg.BTN_STAT, Reg.DSE_CFG, Reg.SYS_STATE, ne_eq]; omega) | (left; split <;> (simp only [F.BTN_STAT_CAL_STEP, F.DSE_CFG_HOLD_PROG, Reg.BTN_STAT, Reg.DSE_CFG, Reg.SYS_STATE, ne_eq]; omega))) ?_ | with_reducible apply Block.calCancelBy_st K | with_reducible refine ite_keep ?_ ?_ | split | dsimp only | with_reducible refine pair_keep (by with_reducible assumption) ?_ | with_reducible refine pair_keep' (by with_reducible assumption) ?_ | intro _)

theorem execButtonRepeat_st (K : KeptBySt Q) (down : Bool) (held : Fin 8) (s : State) (hq : Q s.regs) :
    ∃ u, execButtonRepeat down held s = .next u ∧ Q u.regs := by
  refine ⟨_, rfl, ?_⟩
  repeat' (first | with_reducible assumption | with_reducible apply Block.btnLevels_st K | with_reducible apply Block.accept_st K | with_reducible apply Block.calMove_st K | with_reducible refine ite_keep ?_ ?_ | dsimp only | intro _)

theorem execLampTest_st (K : KeptBySt Q) (held : Fin 8) (s : State) (hq : Q s.regs) :
    ∃ u, execLampTest held s = .next u ∧ Q u.regs := by
  refine ⟨_, rfl, ?_⟩
  repeat' (first | with_reducible assumption | with_reducible apply Block.btnLevels_st K | with_reducible apply Block.accept_st K | with_reducible refine Block.fset_st K _ _ _ (by first | decide | exact vsOk_notState _ | (left; simp only [F.BTN_STAT_CAL_OPEN, F.DSE_STAT_LAMP_TEST, Reg.BTN_STAT, Reg.DSE_STAT, Reg.SYS_STATE, ne_eq]; omega) | (left; split <;> (simp only [F.BTN_STAT_CAL_OPEN, F.DSE_STAT_LAMP_TEST, Reg.BTN_STAT, Reg.DSE_STAT, Reg.SYS_STATE, ne_eq]; omega))) ?_ | with_reducible refine ite_keep ?_ ?_ | dsimp only | intro _)

theorem execLocalCalChange_st (K : KeptBySt Q) (closed : Bool) (s : State) (hq : Q s.regs) :
    ∃ u, execLocalCalChange closed s = .next u ∧ Q u.regs := by
  refine ⟨_, rfl, ?_⟩
  repeat' (first | with_reducible assumption | with_reducible refine Block.fsetB_st K _ _ _ (by first | decide | exact vsOk_notState _ | (left; simp only [F.BTN_STAT_LOCAL_CAL, Reg.BTN_STAT, Reg.SYS_STATE, ne_eq]; omega) | (left; split <;> (simp only [F.BTN_STAT_LOCAL_CAL, Reg.BTN_STAT, Reg.SYS_STATE, ne_eq]; omega))) ?_ | with_reducible apply Block.raiseEvt_st K | with_reducible refine Block.forAll_keep _ _ _ ?_ (fun _ _ _ => ?_) | with_reducible apply Block.calEnd_st K | with_reducible refine ite_keep ?_ ?_ | split | dsimp only | with_reducible refine pair_keep (by with_reducible assumption) ?_ | with_reducible refine pair_keep' (by with_reducible assumption) ?_ | intro _)

theorem execUnlock_st (K : KeptBySt Q) (r : Requester) (s : State) (hq : Q s.regs) :
    ∃ u, execUnlock r s = .next u ∧ Q u.regs := by
  refine ⟨_, rfl, ?_⟩
  repeat' (first | with_reducible assumption | with_reducible apply Block.secCmdWrite_st K | dsimp only | intro _)

theorem execFieldBusUndervoltage_st (K : KeptBySt Q) (s : State) (hq : Q s.regs) :
    ∃ u, execFieldBusUndervoltage s = .next u ∧ Q u.regs := by
  refine ⟨_, rfl, ?_⟩
  repeat' (first | with_reducible assumption | with_reducible refine Block.supplyFault_st K _ _ _ (by decide) ?_ | with_reducible refine ite_keep ?_ ?_ | dsimp only | intro _)

theorem execFieldLimitTrip_st (K : KeptBySt Q) (s : State) (hq : Q s.regs) :
    ∃ u, execFieldLimitTrip s = .next u ∧ Q u.regs := by
  refine ⟨_, rfl, ?_⟩
  repeat' (first | with_reducible assumption | with_reducible refine Block.supplyFault_st K _ _ _ (by decide) ?_ | with_reducible refine ite_keep ?_ ?_ | dsimp only | intro _)

theorem execFieldBusReturn_st (K : KeptBySt Q) (s : State) (hq : Q s.regs) :
    ∃ u, execFieldBusReturn s = .next u ∧ Q u.regs := by
  refine ⟨_, rfl, ?_⟩
  repeat' (first | with_reducible assumption | with_reducible refine Block.fset_st K _ _ _ (by first | decide | exact vsOk_notState _ | (left; simp only [F.CHG_FP_STAT_TRIPPED, F.CHG_FP_STAT_UNDERVOLT, Reg.CHG_FP_STAT, Reg.SYS_STATE, ne_eq]; omega) | (left; split <;> (simp only [F.CHG_FP_STAT_TRIPPED, F.CHG_FP_STAT_UNDERVOLT, Reg.CHG_FP_STAT, Reg.SYS_STATE, ne_eq]; omega))) ?_ | with_reducible apply Block.supplyBack_st K | with_reducible refine ite_keep ?_ ?_ | dsimp only | intro _)

theorem execFieldInputChange_st (K : KeptBySt Q) (fp : Fin 2) (ok : Bool) (mv : Nat) (s : State) (hq : Q s.regs) :
    ∃ u, execFieldInputChange fp ok mv s = .next u ∧ Q u.regs := by
  refine ⟨_, rfl, ?_⟩
  repeat' (first | with_reducible assumption | with_reducible refine Block.fset_st K _ _ _ (by first | decide | exact vsOk_notState _ | (left; simp only [F.CHG_FP_STAT_FP1_OK, F.CHG_FP_STAT_FP2_OK, F.CHG_FP_V_FP1, F.CHG_FP_V_FP2, Reg.CHG_FP_STAT, Reg.CHG_FP_V, Reg.SYS_STATE, ne_eq]; omega) | (left; split <;> (simp only [F.CHG_FP_STAT_FP1_OK, F.CHG_FP_STAT_FP2_OK, F.CHG_FP_V_FP1, F.CHG_FP_V_FP2, Reg.CHG_FP_STAT, Reg.CHG_FP_V, Reg.SYS_STATE, ne_eq]; omega))) ?_ | with_reducible apply Block.chRefreshAll_st K | with_reducible refine Block.fsetB_st K _ _ _ (by first | decide | exact vsOk_notState _ | (left; simp only [F.CHG_FP_STAT_FP1_OK, F.CHG_FP_STAT_FP2_OK, F.CHG_FP_V_FP1, F.CHG_FP_V_FP2, Reg.CHG_FP_STAT, Reg.CHG_FP_V, Reg.SYS_STATE, ne_eq]; omega) | (left; split <;> (simp only [F.CHG_FP_STAT_FP1_OK, F.CHG_FP_STAT_FP2_OK, F.CHG_FP_V_FP1, F.CHG_FP_V_FP2, Reg.CHG_FP_STAT, Reg.CHG_FP_V, Reg.SYS_STATE, ne_eq]; omega))) ?_ | with_reducible apply Block.raiseEvt_st K | with_reducible refine ite_keep ?_ ?_ | dsimp only | intro _)

theorem execRestore_st (K : KeptBySt Q) (r : Requester) (s : State) (hq : Q s.regs) :
    ∃ u, execRestore r s = .next u ∧ Q u.regs := by
  refine ⟨_, rfl, ?_⟩
  repeat' (first | with_reducible assumption | with_reducible apply Block.cmdWrite_st K | with_reducible apply Block.chgRestore_st K | dsimp only | intro _)

theorem execTpChipEval_st (K : KeptBySt Q) (ch : Fin 64) (chip : Fin 8) (on : Bool) (found : Option (Fin 64)) (s : State) (hq : Q s.regs) :
    ∃ u, execTpChipEval ch chip on found s = .next u ∧ Q u.regs := by
  refine ⟨_, rfl, ?_⟩
  repeat' (first | with_reducible assumption | with_reducible apply Block.tpChip_st K | with_reducible refine Block.when_keep _ _ _ ?_ (fun _ => ?_) | with_reducible apply Block.lockout_st K | dsimp only | intro _)

theorem execRcRead_st (K : KeptBySt Q) (r : Requester) (off : Nat) (size : AccSize) (s : State) (hq : Q s.regs) :
    ∃ u, execRcRead r off size s = .next u ∧ Q u.regs := by
  refine ⟨_, rfl, ?_⟩
  repeat' (first | with_reducible assumption | with_reducible apply Block.readAnswered_st K | with_reducible apply Block.refuse_st K | with_reducible refine ite_keep ?_ ?_ | dsimp only | intro _)

theorem execReg64LoRead_st (K : KeptBySt Q) (r : Requester) (off : Nat) (s : State) (hq : Q s.regs) :
    ∃ u, execReg64LoRead r off s = .next u ∧ Q u.regs := by
  refine ⟨_, rfl, ?_⟩
  repeat' (first | with_reducible assumption | with_reducible apply Block.readAnswered_st K | dsimp only | intro _)

theorem execPageLockTimeout_st (K : KeptBySt Q) (page : Nat) (s : State) (hq : Q s.regs) :
    ∃ u, execPageLockTimeout page s = .next u ∧ Q u.regs := by
  refine ⟨_, rfl, ?_⟩
  repeat' (first | with_reducible assumption | with_reducible apply Block.lockPage_st K | with_reducible refine ite_keep ?_ ?_ | dsimp only | intro _)

theorem execEventLineEdge_st (K : KeptBySt Q) (line : Fin 256) (s : State) (hq : Q s.regs) :
    ∃ u, execEventLineEdge line s = .next u ∧ Q u.regs := by
  refine ⟨_, rfl, ?_⟩
  repeat' (first | with_reducible assumption | with_reducible refine Block.fset_st K _ _ _ (by first | decide | exact vsOk_notState _ | (left; simp only [F.CTX_CFG_LINE, Reg.CTX_CFG, Reg.SYS_EVL_EDGE, Reg.SYS_EVL_STAT, Reg.SYS_STATE, lineLevel, ne_eq]; omega) | (left; split <;> (simp only [F.CTX_CFG_LINE, Reg.CTX_CFG, Reg.SYS_EVL_EDGE, Reg.SYS_EVL_STAT, Reg.SYS_STATE, lineLevel, ne_eq]; omega))) ?_ | with_reducible refine Block.forAll_keep _ _ _ ?_ (fun _ _ _ => ?_) | with_reducible apply Block.trigger_st K | with_reducible refine ite_keep ?_ ?_ | dsimp only | intro _)

theorem execAccRefusedRecord_st (K : KeptBySt Q) (r : Requester) (s : State) (hq : Q s.regs) :
    ∃ u, execAccRefusedRecord r s = .next u ∧ Q u.regs := by
  refine ⟨_, rfl, ?_⟩
  repeat' (first | with_reducible assumption | with_reducible apply Block.recAccept_st K | with_reducible refine ite_keep ?_ ?_ | split | dsimp only | with_reducible refine pair_keep (by with_reducible assumption) ?_ | with_reducible refine pair_keep' (by with_reducible assumption) ?_ | intro _)

theorem execSspBadDatagram_st (K : KeptBySt Q) (d : List (BitVec 8)) (s : State) (hq : Q s.regs) :
    ∃ u, execSspBadDatagram d s = .next u ∧ Q u.regs := by
  refine ⟨_, rfl, ?_⟩
  repeat' (first | with_reducible assumption | with_reducible refine Block.incSat_st K _ _ (by first | decide | exact vsOk_notState _ | (left; simp only [F.NET_DROP_CNT_COUNT, Reg.NET_DROP_CNT, Reg.SYS_STATE, ne_eq]; omega) | (left; split <;> (simp only [F.NET_DROP_CNT_COUNT, Reg.NET_DROP_CNT, Reg.SYS_STATE, ne_eq]; omega))) ?_ | with_reducible apply Block.closeSession_st K | with_reducible refine Block.when_keep _ _ _ ?_ (fun _ => ?_) | with_reducible refine ite_keep ?_ ?_ | split | dsimp only | with_reducible refine pair_keep (by with_reducible assumption) ?_ | with_reducible refine pair_keep' (by with_reducible assumption) ?_ | intro _)

theorem execSspOpen_st (K : KeptBySt Q) (o : SspOpen) (s : State) (hq : Q s.regs) :
    ∃ u, execSspOpen o s = .next u ∧ Q u.regs := by
  refine ⟨_, rfl, ?_⟩
  repeat' (first | with_reducible assumption | with_reducible apply Block.openHold_st K | with_reducible apply Block.openRefused_st K | with_reducible apply Block.raiseEvt_st K | with_reducible apply Block.event_st K | with_reducible apply Block.openSession_st K | with_reducible refine ite_keep ?_ ?_ | dsimp only | intro _)

theorem execSspClose_st (K : KeptBySt Q) (h : SspHdr) (s : State) (hq : Q s.regs) :
    ∃ u, execSspClose h s = .next u ∧ Q u.regs := by
  refine ⟨_, rfl, ?_⟩
  repeat' (first | with_reducible assumption | with_reducible apply Block.sspRequest_st K | with_reducible apply Block.sspAnswer_st K | with_reducible apply Block.closeSession_st K | dsimp only | intro _)

theorem execSspKeepalive_st (K : KeptBySt Q) (h : SspHdr) (s : State) (hq : Q s.regs) :
    ∃ u, execSspKeepalive h s = .next u ∧ Q u.regs := by
  refine ⟨_, rfl, ?_⟩
  repeat' (first | with_reducible assumption | with_reducible apply Block.sspRequest_st K | with_reducible apply Block.sspAnswer_st K | dsimp only | intro _)

theorem execSspSessionTimeout_st (K : KeptBySt Q) (session : Nat) (s : State) (hq : Q s.regs) :
    ∃ u, execSspSessionTimeout session s = .next u ∧ Q u.regs := by
  refine ⟨_, rfl, ?_⟩
  repeat' (first | with_reducible assumption | with_reducible apply Block.closeSession_st K | with_reducible refine ite_keep ?_ ?_ | dsimp only | intro _)

theorem execSspUnknownService_st (K : KeptBySt Q) (h : SspHdr) (service : Nat) (s : State) (hq : Q s.regs) :
    ∃ u, execSspUnknownService h service s = .next u ∧ Q u.regs := by
  refine ⟨_, rfl, ?_⟩
  repeat' (first | with_reducible assumption | with_reducible apply Block.sspRequest_st K | with_reducible apply Block.sspAnswer_st K | with_reducible refine ite_keep ?_ ?_ | dsimp only | intro _)

theorem execSspRegRead_st (K : KeptBySt Q) (h : SspHdr) (offs : List Nat) (s : State) (hq : Q s.regs) :
    ∃ u, execSspRegRead h offs s = .next u ∧ Q u.regs := by
  refine ⟨_, rfl, ?_⟩
  repeat' (first | with_reducible assumption | with_reducible apply Block.sspRequest_st K | with_reducible apply Block.sspAnswer_st K | with_reducible apply Block.sspReads_st K | with_reducible refine ite_keep ?_ ?_ | dsimp only | intro _)

theorem execSspSubscribe_st (K : KeptBySt Q) (h : SspHdr) (vids : List Nat) (period : Nat) (s : State) (hq : Q s.regs) :
    ∃ u, execSspSubscribe h vids period s = .next u ∧ Q u.regs := by
  refine ⟨_, rfl, ?_⟩
  repeat' (first | with_reducible assumption | with_reducible apply Block.sspRequest_st K | with_reducible apply Block.sspAnswer_st K | with_reducible apply Block.putSession_st K | with_reducible refine ite_keep ?_ ?_ | dsimp only | intro _)

theorem execSspUnsubscribe_st (K : KeptBySt Q) (h : SspHdr) (vids : List Nat) (s : State) (hq : Q s.regs) :
    ∃ u, execSspUnsubscribe h vids s = .next u ∧ Q u.regs := by
  refine ⟨_, rfl, ?_⟩
  repeat' (first | with_reducible assumption | with_reducible apply Block.sspRequest_st K | with_reducible apply Block.putSession_st K | with_reducible apply Block.sspAnswer_st K | dsimp only | intro _)

theorem execSspPublish_st (K : KeptBySt Q) (session period : Nat) (s : State) (hq : Q s.regs) :
    ∃ u, execSspPublish session period s = .next u ∧ Q u.regs := by
  refine ⟨_, rfl, ?_⟩
  repeat' (first | with_reducible assumption | with_reducible apply Block.putSession_st K | with_reducible refine Block.forAll_keep _ _ _ ?_ (fun _ _ _ => ?_) | with_reducible apply Block.publishVids_st K | with_reducible refine ite_keep ?_ ?_ | split | dsimp only | with_reducible refine pair_keep (by with_reducible assumption) ?_ | with_reducible refine pair_keep' (by with_reducible assumption) ?_ | intro _)

theorem execSignedCmd_st (K : KeptBySt Q) (h : SspHdr) (action serial : Nat) (nonce : Word) (sig : List Word) (s : State) (hq : Q s.regs) :
    ∃ u, execSignedCmd h action serial nonce sig s = .next u ∧ Q u.regs := by
  refine ⟨_, rfl, ?_⟩
  repeat' (first | with_reducible assumption | with_reducible apply Block.sspRequest_st K | with_reducible apply Block.signedCommand_st K | with_reducible apply Block.sspAnswer_st K | with_reducible refine ite_keep ?_ ?_ | dsimp only | intro _)

theorem execRecRead_st (K : KeptBySt Q) (h : SspHdr) (area pos count : Nat) (s : State) (hq : Q s.regs) :
    ∃ u, execRecRead h area pos count s = .next u ∧ Q u.regs := by
  refine ⟨_, rfl, ?_⟩
  repeat' (first | with_reducible assumption | with_reducible apply Block.sspRequest_st K | with_reducible apply Block.sspAnswer_st K | with_reducible refine ite_keep ?_ ?_ | dsimp only | intro _)

theorem execFileBegin_st (K : KeptBySt Q) (h : SspHdr) (target size ident version : Nat) (s : State) (hq : Q s.regs) :
    ∃ u, execFileBegin h target size ident version s = .next u ∧ Q u.regs := by
  refine ⟨_, rfl, ?_⟩
  repeat' (first | with_reducible assumption | with_reducible apply Block.sspRequest_st K | with_reducible apply Block.sspAnswer_st K | with_reducible apply Block.setTransfer_st K | with_reducible apply Block.caskBegin_st K | with_reducible apply Block.pkgBegin_st K | with_reducible apply Block.imgBegin_st K | with_reducible refine ite_keep ?_ ?_ | split | dsimp only | with_reducible refine pair_keep (by with_reducible assumption) ?_ | with_reducible refine pair_keep' (by with_reducible assumption) ?_ | intro _)

theorem execFilePiece_st (K : KeptBySt Q) (h : SspHdr) (chunk off : Nat) (data : List (BitVec 8)) (s : State) (hq : Q s.regs) :
    ∃ u, execFilePiece h chunk off data s = .next u ∧ Q u.regs := by
  refine ⟨_, rfl, ?_⟩
  repeat' (first | with_reducible assumption | with_reducible apply Block.sspRequest_st K | with_reducible apply Block.sspAnswer_st K | with_reducible apply Block.caskPiece_st K | with_reducible apply Block.pkgPiece_st K | with_reducible apply Block.imgPiece_st K | with_reducible refine ite_keep ?_ ?_ | split | dsimp only | with_reducible refine pair_keep (by with_reducible assumption) ?_ | with_reducible refine pair_keep' (by with_reducible assumption) ?_ | intro _)

theorem execFileStatus_st (K : KeptBySt Q) (h : SspHdr) (s : State) (hq : Q s.regs) :
    ∃ u, execFileStatus h s = .next u ∧ Q u.regs := by
  refine ⟨_, rfl, ?_⟩
  repeat' (first | with_reducible assumption | with_reducible apply Block.sspRequest_st K | with_reducible apply Block.sspAnswer_st K | with_reducible refine Block.when_keep _ _ _ ?_ (fun _ => ?_) | with_reducible apply Block.setTransfer_st K | split | dsimp only | with_reducible refine pair_keep (by with_reducible assumption) ?_ | with_reducible refine pair_keep' (by with_reducible assumption) ?_ | intro _)

theorem execFileAbort_st (K : KeptBySt Q) (h : SspHdr) (s : State) (hq : Q s.regs) :
    ∃ u, execFileAbort h s = .next u ∧ Q u.regs := by
  refine ⟨_, rfl, ?_⟩
  repeat' (first | with_reducible assumption | with_reducible apply Block.sspRequest_st K | with_reducible apply Block.sspAnswer_st K | with_reducible apply Block.dropTransfer_st K | split | dsimp only | with_reducible refine pair_keep (by with_reducible assumption) ?_ | with_reducible refine pair_keep' (by with_reducible assumption) ?_ | intro _)

theorem execFileTransferOrphanTimeout_st (K : KeptBySt Q) (s : State) (hq : Q s.regs) :
    ∃ u, execFileTransferOrphanTimeout s = .next u ∧ Q u.regs := by
  refine ⟨_, rfl, ?_⟩
  repeat' (first | with_reducible assumption | with_reducible apply Block.dropTransfer_st K | with_reducible refine ite_keep ?_ ?_ | split | dsimp only | with_reducible refine pair_keep (by with_reducible assumption) ?_ | with_reducible refine pair_keep' (by with_reducible assumption) ?_ | intro _)

theorem execWaitAnswer_st (K : KeptBySt Q) (c : Fin 256) (s : State) (hq : Q s.regs) :
    ∃ u, execWaitAnswer c s = .next u ∧ Q u.regs := by
  refine ⟨_, rfl, ?_⟩
  repeat' (first | with_reducible assumption | with_reducible refine Block.setRegN_st K _ _ _ (by first | decide | (simp only [Reg.ENG_WAIT_MAX, Reg.SYS_STATE, ne_eq]; omega) | (split <;> decide)) ?_ | with_reducible apply Block.setCx_st K | with_reducible apply Block.answered_st K | with_reducible apply Block.toPartner_st K | with_reducible refine Block.when_keep _ _ _ ?_ (fun _ => ?_) | with_reducible apply Block.preempt_st K | with_reducible apply Block.engNext_st K | split | dsimp only | with_reducible refine pair_keep (by with_reducible assumption) ?_ | with_reducible refine pair_keep' (by with_reducible assumption) ?_ | intro _)

theorem execRrd_st (K : KeptBySt Q) (c : Fin 256) (d s1 : Fin 4096) (off : Nat) (s : State) (hq : Q s.regs) :
    ∃ u, execRrd c d s1 off s = .next u ∧ Q u.regs := by
  refine ⟨_, rfl, ?_⟩
  repeat' (first | with_reducible assumption | with_reducible apply Block.ctxRead_st K | dsimp only | intro _)

theorem execRrd64_st (K : KeptBySt Q) (c : Fin 256) (d s1 : Fin 4096) (off : Nat) (s : State) (hq : Q s.regs) :
    ∃ u, execRrd64 c d s1 off s = .next u ∧ Q u.regs := by
  refine ⟨_, rfl, ?_⟩
  repeat' (first | with_reducible assumption | with_reducible apply Block.issuedPair_st K | with_reducible apply Block.readPair_st K | with_reducible refine ite_keep ?_ ?_ | dsimp only | intro _)

theorem execRrdx_st (K : KeptBySt Q) (c : Fin 256) (d s1 addr : Fin 4096) (s : State) (hq : Q s.regs) :
    ∃ u, execRrdx c d s1 addr s = .next u ∧ Q u.regs := by
  refine ⟨_, rfl, ?_⟩
  repeat' (first | with_reducible assumption | with_reducible apply Block.ctxRead_st K | dsimp only | intro _)

theorem execSsub_st (K : KeptBySt Q) (c : Fin 256) (d base : Fin 4096) (job : Fin 16) (s : State) (hq : Q s.regs) :
    ∃ u, execSsub c d base job s = .next u ∧ Q u.regs := by
  refine ⟨_, rfl, ?_⟩
  repeat' (first | with_reducible assumption | with_reducible apply Block.ssub_st K | with_reducible apply Block.issuedCode_st K | with_reducible refine ite_keep ?_ ?_ | dsimp only | intro _)

theorem execScan_st (K : KeptBySt Q) (c : Fin 256) (d base : Fin 4096) (job : Fin 16) (made : SolAt) (s : State) (hq : Q s.regs) :
    ∃ u, execScan c d base job made s = .next u ∧ Q u.regs := by
  refine ⟨_, rfl, ?_⟩
  repeat' (first | with_reducible assumption | with_reducible apply Block.issuedCode_st K | with_reducible apply Block.solScan_st K | with_reducible refine ite_keep ?_ ?_ | dsimp only | intro _)

theorem execRecApp_st (K : KeptBySt Q) (c : Fin 256) (d s1 : Fin 4096) (sev typ len : Nat) (s : State) (hq : Q s.regs) :
    ∃ u, execRecApp c d s1 sev typ len s = .next u ∧ Q u.regs := by
  refine ⟨_, rfl, ?_⟩
  repeat' (first | with_reducible assumption | with_reducible apply Block.issuedCode_st K | with_reducible apply Block.recApply_st K | with_reducible refine ite_keep ?_ ?_ | dsimp only | intro _)

/-- While no request waits for the supervisor an idle clock keeps what every register write keeps. -/
theorem idle_st (K : KeptBySt Q) (s : State) (hs : s.toBlock.tick.ssp.stall = false) (hq : Q s.regs) : Q (idle s).regs := by
  have h : Q ({ s with toBlock := s.toBlock.tick } : State).regs := Block.tick_st K s.toBlock hq
  have hs' : ({ s with toBlock := s.toBlock.tick } : State).ssp.stall = false := hs
  unfold idle stallTick
  rw [hs']
  exact h

end Sys2Proof.Machine
end

