-- ==== Sys2Proof/Tests/Slice0.lean ====
section
/-! SUPPORT. Tests of the model: witnesses of the statements, ill-formed terms, instruction words, a few results. -/

namespace Sys2Proof.Tests

set_option Elab.async false

open Machine

/-! ### Witnesses: states and operands that meet the hypotheses of the statements -/

/-- A state from reset by an edit. -/
def mk (f : Block → Block) : State := { toBlock := f {} }
/-- A page with its write lock open. -/
def unl (p : Nat) (b : Block) : Block := b.fset (F.BLK_LOCK_LOCKED p) 0
/-- A module state. -/
def stt (n : Nat) (b : Block) : Block := b.fset F.SYS_STATE_STATE n
/-- A place in the power sequence. -/
def ph (p : CorePhase) (b : Block) : Block := { b with pwr := { b.pwr with phase := p } }
/-- A start that finds everything in order. -/
def startIn : StartIn := ⟨true, true, none, [], 0, 0, true, [], [], none, 0, [], 0, 0, none⟩
/-- A write that finds nothing running. -/
def accIn : AccIn := ⟨.startPass, startIn⟩
/-- The row of a register. -/
def rowAt (off : Nat) : RegRow := (regRow off).getD ⟨0, 0, 0, []⟩
/-- A file with its CRC in place. -/
def crcIn (w : List Nat) : List Nat := w.set 15 (fileCrc w)
/-- An image of one background context that ends at once. -/
def bareImage : List Nat :=
  crcIn ([0x3043564C, 0x00400004, 216, 1, 0x00040001, 0, 0, 0, 0, 0, 0, 0, 0, 0, 0, 0] ++
    [0xFFFF0001, 128, 64, 1, 2, 192, 4, 1, 3, 196, 4, 4, 4, 200, 16, 4] ++
    [0x80000116, 0, 0, 0xFFFF, 0, 0, 0, 0, 0, 0, 0, 0, 0, 0, 0, 0] ++ [0x01000000, 0x02020202, 0, 0, 0, 0])
/-- Context `c` runs, and its next instruction is `i`. -/
def runAt (c : Nat) (i : Insn) (b : Block) : Block :=
  { b with
    prog := some { version := 4, vintage := 1, buildId := 0, vids := [⟨7, 2, 0, c, 0⟩]
                   ctxs := [(c, { code := [0, (encodeInsn i).1, (encodeInsn i).2, 0], consts := [5, 6], imports := [7],
                                  iomap := [⟨7, 3, 0x200⟩] })] }
    ctxs := [(c, { pc := 1, act := .running, slots := (List.range 40).map (BitVec.ofNat 32), stack := [3, 2],
                   inputs := [⟨5, 1, 9⟩], latched := [8], own := [(7, 4)] })] }.fset (F.CTX_STATE_STATE c) csActive
/-- A change package without any action, from vintage 1 to vintage 2. -/
def barePackage : List Nat :=
  crcIn [0x30434C4F, 0x00400004, 80, 1, 2, 1, 0, 0, 0, 0, 0, 0, 0, 0, 0, 0, 0xFFFF0006, 80, 0, 0]
/-- A pattern of one row. -/
def onePattern : List Nat :=
  [0x30544150, 0x00400001, 324, 1, 1, 1, 0, 65536, 0x0101, 0x00080003, 1, 0, 0, 0, 0, 2806485004,
    0xFFFF0001, 192, 8, 1, 0xFFFF0002, 200, 4, 1, 0xFFFF0003, 204, 4, 1, 0xFFFF0004, 208, 8, 1, 0xFFFF0005, 216, 8, 1,
    0xFFFF0009, 224, 64, 1, 0xFFFF000A, 288, 4, 1, 0xFFFF000B, 292, 32, 1] ++
    [0, 1, 0, 0x3F800000, 0, 0x3FF00000, 0, 1] ++ (List.range 15).map (fun k => 0x03020100 + 0x04040404 * k) ++ [0x3D3C] ++
    [0, 1, 1, 1, 0, 0, 0, 0, 0]
/-- A timer begun `ns` ago. -/
def after (t : Timer) (ns : Nat) (b : Block) : Block := { b with clk := b.clk + ns, since := (t, b.clk) :: b.since }
/-- The supervisor stalls. -/
def supStalls (b : Block) : Block := { b with ssp := { b.ssp with stall := true } }

def w_RegisterAccess_0 : State := mk fun b => ph .good b
def w_RegisterAccess_1 : State := mk fun b => ph .good (unl 0x20 b)
/-- States and operands that meet the hypotheses of RegisterAccess. -/
theorem wit_RegisterAccess :
    regRow Reg.SYS_STATE = some (rowAt Reg.SYS_STATE) ∧ w_RegisterAccess_0.judgeRead Requester.sup Reg.SYS_STATE = 0 ∧
    (Reg.BLK_EVT_EN 32 = Reg.BLK_EVT_EN 32 ∨ Reg.BLK_EVT_EN 32 = Reg.BLK_EVT_ROUTE 32) ∧
    regRow (Reg.BLK_EVT_EN 32) = some (rowAt (Reg.BLK_EVT_EN 32)) ∧
    (w_RegisterAccess_1.judgeWrite Requester.sup (Reg.BLK_EVT_EN 32) (BitVec.toNat (5 : Word)) = 0 ∧
    blockArea (Reg.BLK_EVT_EN 32) = false) := by
  (repeat' apply And.intro) <;> first | with_reducible rfl | decide +kernel

def w_PageHeader_0 : State := mk fun b => ph .good (unl 0x20 b)
def w_PageHeader_1 : State := mk fun b => ph .good ((unl 0x20 b).setRegN (Reg.BLK_EVT_PEND 0x20) 7)
def w_PageHeader_2 : State := mk fun b => ph .good b
def w_PageHeader_4 : State := mk fun b => ph .good (unl 0x20 b)
def w_PageHeader_5 : State := mk fun b => after (.pageLock 0x20) 100000000 <| unl 0x20 b
def w_PageHeader_3 : State := mk fun b => ph .good (unl 3 b)
def w_PageHeader_6 : State := mk fun b => after (.pageLock 0x20) 99999999 (unl 0x20 b)
/-- States and operands that meet the hypotheses of PageHeader. -/
theorem wit_PageHeader :
    (w_PageHeader_0.judgeWrite Requester.sup (Reg.BLK_CTL 32) (2 + if true = true then 1 else 0) = 0 ∧
    blockArea (Reg.BLK_CTL 32) = false) ∧
    (w_PageHeader_1.judgeWrite Requester.sup (Reg.BLK_EVT_PEND 32) (BitVec.toNat (5 : Word)) = 0 ∧
    blockArea (Reg.BLK_EVT_PEND 32) = false) ∧
    (w_PageHeader_2.judgeWrite Requester.sup (Reg.BLK_LOCK 32) (2781020160 + 32) = 0 ∧
    blockArea (Reg.BLK_LOCK 32) = false) ∧
    (w_PageHeader_4.judgeWrite Requester.sup (Reg.BLK_LOCK 32) (BitVec.toNat (0 : Word)) = 0 ∧
    blockArea (Reg.BLK_LOCK 32) = false) ∧ (BitVec.toNat (0 : Word) ≠ 2781020160 + 32) ∧
    w_PageHeader_5.pageLocked 32 = false ∧ (pageType 32).isSome = true ∧
    w_PageHeader_5.passed (Timer.pageLock 32) 100000000 = true ∧
    regRow Reg.TSU_SET_LO = some (rowAt Reg.TSU_SET_LO) ∧
    (((rowAt Reg.TSU_SET_LO).carried.any fun g ↦ g.acc == AccType.rwl) = true) ∧
    w_PageHeader_3.judgeWrite Requester.sup Reg.TSU_SET_LO 5 = 0 ∧
    (w_PageHeader_6.pageLocked 32 = true ∨ w_PageHeader_6.passed (Timer.pageLock 32) 100000000 = false) := by
  (repeat' apply And.intro) <;> first | with_reducible rfl | decide +kernel

def w_Pair64_0 : State := mk fun b => ph .good (unl 3 b)
def w_Pair64_1 : State := mk fun b => { unl 3 b with fab := { b.fab with latches := [(.sup, { writeLo := some (Reg.TSU_SET_LO, 7) })] } }
def w_Pair64_2 : State := mk fun b => b.setRegN Reg.TSU_TIME_HI 9
def w_Pair64_3 : State := mk fun b => { b with fab := { b.fab with latches := [(.sup, { readLo := some (Reg.TSU_TIME_LO, 3, 4) })] } }
/-- States and operands that meet the hypotheses of Pair64. -/
theorem wit_Pair64 :
    writableLo Reg.TSU_SET_LO = true ∧
    w_Pair64_0.judgeWrite Requester.sup Reg.TSU_SET_LO (BitVec.toNat (5 : Word)) = 0 ∧
    writableLo Reg.TSU_SET_LO = true ∧ (w_Pair64_1.latch Requester.sup).writeLo = some (Reg.TSU_SET_LO, 7) ∧
    w_Pair64_1.judgeWrite Requester.sup (Reg.TSU_SET_LO + 4) (BitVec.toNat (5 : Word)) = 0 ∧
    regRow Reg.TSU_SET_LO = some (rowAt Reg.TSU_SET_LO) ∧
    isLo Reg.TSU_TIME_LO = true ∧ w_Pair64_2.judgeRead Requester.sup Reg.TSU_TIME_LO = 0 ∧
    (w_Pair64_3.latch Requester.sup).readLo = some (Reg.TSU_TIME_LO, 3, 4) ∧
    w_Pair64_3.judgeRead Requester.sup (Reg.TSU_TIME_LO + 4) = 0 := by
  (repeat' apply And.intro) <;> first | with_reducible rfl | decide +kernel

def w_Refusals_0 : State := mk fun b => b
def w_Refusals_1 : State := mk fun b => ph .good b
def w_Refusals_1a : State := mk fun b => ph .good b
def w_Refusals_2 : State := mk fun b => ph .good { b with clk := 2000000000, fab := { b.fab with refusals := [(.sup, ⟨3, some 1000000000⟩)] } }
def w_Refusals_3 : State := mk fun b => ph .good b
def w_Refusals_3a : State := mk fun b => ph .good { b with clk := 1500000000, fab := { b.fab with refusals := [(.sup, ⟨3, some 1000000000⟩)] } }
/-- States and operands that meet the hypotheses of Refusals. -/
theorem wit_Refusals :
    (w_Refusals_0.judgeRead (Requester.prg 3) Reg.SYS_CMD ≠ 0) ∧
    (AccSize.byte ≠ AccSize.word) ∧
    (AccSize.half ≠ AccSize.word) := by
  (repeat' apply And.intro) <;> first | with_reducible rfl | decide +kernel

def w_ReservedAccesses_1 : State := mk fun b => ph .good b
def w_ReservedAccesses_1a : State := mk fun b => ph .good b
def w_ReservedAccesses_2 : State := mk fun b => ph .good (unl 0 b)
def w_ReservedAccesses_2a : State := mk fun b => ph .good ((b.fset (lineLevel 255) 1).fset (lineLevel 7) 1)
def w_ReservedAccesses_2b : State := mk fun b => ph .good b
def w_ReservedAccesses_2c : State := mk fun b => ph .good b
def w_ReservedAccesses_3 : State := mk fun b => ph .good b
/-- States and operands that meet the hypotheses of ReservedAccesses. -/
theorem wit_ReservedAccesses :
    (5 < 256) ∧ (0 < 4096) ∧ (pageType 5 = none ∧ owningPage 5 = 5 ∨ pageType 5 ≠ none ∧ 40 ≤ 0 ∧ 0 < 64) ∧
    (255 < 256) ∧ (4092 < 4096) ∧ (pageType 255 = none ∧ owningPage 255 = 255 ∨ pageType 255 ≠ none ∧ 40 ≤ 4092 ∧
    4092 < 64) ∧
    (248 < 256) ∧ (40 < 4096) ∧ (pageType 248 = none ∧ owningPage 248 = 248 ∨ pageType 248 ≠ none ∧ 40 ≤ 40 ∧ 40 < 64) ∧
    (0 < 256) ∧ (63 < 4096) ∧ (pageType 0 = none ∧ owningPage 0 = 0 ∨ pageType 0 ≠ none ∧ 40 ≤ 63 ∧ 63 < 64) ∧
    40 % 4 = 0 ∧ regRow 40 = none ∧
    1048572 % 4 = 0 ∧ regRow 1048572 = none ∧
    40 % 4 = 0 ∧ regRow 40 = none ∧
    265984 % 4 = 0 ∧ regRow 265984 = none ∧
    606204 % 4 = 0 ∧ regRow 606204 = none ∧
    671740 % 4 = 0 ∧ regRow 671740 = none ∧
    regRow (Reg.BLK_EVT_ROUTE 32) = some (rowAt (Reg.BLK_EVT_ROUTE 32)) ∧
    (∀ (f : FldRow), f ∈ (rowAt (Reg.BLK_EVT_ROUTE 32)).fields → bits 2147483653 f.lo f.w = bits 4294967045 f.lo f.w) := by
  (repeat' apply And.intro) <;> first | with_reducible rfl | decide +kernel

def w_SupplyInputs_0 : State := mk fun b => b
def w_SupplyInputs_1 : State := mk fun b => { b with pwr := { b.pwr with cpDisconnected := [true, false] } }
def w_SupplyInputs_2 : State := mk fun b => { ph .qualify b with clk := 100000000 }
def w_SupplyInputs_4 : State := mk fun b => ph .good { b with pwr := { b.pwr with cpIn := [true, true] } }
def w_SupplyInputs_5 : State := mk fun b => ph .ride { b with pwr := { b.pwr with cpIn := [true, false] } }
def w_SupplyInputs_6 : State := mk fun b => b
def w_SupplyInputs_7 : State := mk fun b => ph .good { b with pwr := { b.pwr with cpDisconnected := [false, true] } }
def w_SupplyInputs_8 : State := mk fun b => ph .good b
def w_SupplyInputs_9 : State := mk fun b => ph .ride b
def w_SupplyInputs_10 : State := mk fun b => { ph .ride (stt 4 b) with clk := 10000000 }
def w_SupplyInputs_13 : State := mk fun b => { ph .failing (stt 4 b) with clk := 15000000 }
def w_SupplyInputs_3 : State := mk fun b => { ph .qualify b with clk := 99999999 }
def w_SupplyInputs_11 : State := mk fun b => { ph .ride (stt 4 b) with clk := 9999999 }
def w_SupplyInputs_12 : State := mk fun b => { ph .failing (stt 4 b) with clk := 14999999 }
/-- States and operands that meet the hypotheses of SupplyInputs. -/
theorem wit_SupplyInputs :
    w_SupplyInputs_0.pwr.phase = CorePhase.off ∧ (1 < w_SupplyInputs_0.pwr.cpIn.length) ∧
    nth false w_SupplyInputs_0.pwr.cpDisconnected 1 = false ∧
    nth false w_SupplyInputs_1.pwr.cpDisconnected 0 = true ∧
    w_SupplyInputs_2.pwr.phase = CorePhase.qualify ∧ (w_SupplyInputs_2.pwr.t0 + 100000000 ≤ w_SupplyInputs_2.clk) ∧
    w_SupplyInputs_4.powered = true ∧ nth false w_SupplyInputs_4.pwr.cpIn 0 = true ∧
    w_SupplyInputs_5.powered = true ∧ (1 < w_SupplyInputs_5.pwr.cpIn.length) ∧
    nth false w_SupplyInputs_5.pwr.cpDisconnected 1 = false ∧ nth false w_SupplyInputs_5.pwr.cpIn 1 = false ∧
    (1 < w_SupplyInputs_6.pwr.cpDisconnected.length) ∧
    w_SupplyInputs_7.powered = true ∧ (1 < w_SupplyInputs_7.pwr.cpIn.length) ∧
    nth false w_SupplyInputs_7.pwr.cpDisconnected 1 = true ∧ (18000 ≤ 18000) ∧
    w_SupplyInputs_8.pwr.phase = CorePhase.good ∧
    w_SupplyInputs_9.pwr.phase = CorePhase.ride ∧
    w_SupplyInputs_10.pwr.phase = CorePhase.ride ∧ (w_SupplyInputs_10.pwr.t0 + 10000000 ≤ w_SupplyInputs_10.clk) ∧
    w_SupplyInputs_13.pwr.phase = CorePhase.failing ∧ (w_SupplyInputs_13.pwr.t0 + 15000000 ≤ w_SupplyInputs_13.clk) ∧
    (w_SupplyInputs_3.clk < w_SupplyInputs_3.pwr.t0 + 100000000) ∧
    (w_SupplyInputs_11.clk < w_SupplyInputs_11.pwr.t0 + 10000000) ∧
    (w_SupplyInputs_12.clk < w_SupplyInputs_12.pwr.t0 + 15000000) := by
  (repeat' apply And.intro) <;> first | with_reducible rfl | decide +kernel

def w_FaultsThatHalt_0 : State := mk fun b => ph .good (stt 4 b)
def w_FaultsThatHalt_1 : State := mk fun b => ph .good (stt 4 b)
def w_FaultsThatHalt_2 : State := mk fun b => ph .good b
def w_FaultsThatHalt_3 : State := mk fun b => ph .good b
/-- States and operands that meet the hypotheses of FaultsThatHalt. -/
theorem wit_FaultsThatHalt :
    w_FaultsThatHalt_0.powered = true ∧
    w_FaultsThatHalt_1.powered = true ∧
    w_FaultsThatHalt_2.powered = true ∧
    (¬(w_FaultsThatHalt_3.pwr.sfpAbs = false ∧ w_FaultsThatHalt_3.pwr.sfpLos = true ∧
    w_FaultsThatHalt_3.pwr.sfpTxFlt = true)) := by
  (repeat' apply And.intro) <;> first | with_reducible rfl | decide +kernel

def w_ModuleCommandsAndStart_0 : State := mk fun b => ph .good (stt 4 (unl 0 b))
def w_ModuleCommandsAndStart_1 : State := mk fun b => ph .good (stt 3 (unl 0 b))
def w_ModuleCommandsAndStart_2 : State := mk fun b => ph .good (stt 3 (unl 0 b))
def w_ModuleCommandsAndStart_3 : State := mk fun b => ph .rails b
def w_ModuleCommandsAndStart_4 : State := mk fun b => ph .good (stt 4 (unl 0 b))
def w_ModuleCommandsAndStart_5 : State := mk fun b => ph .good (stt 1 (unl 0 b))
/-- States and operands that meet the hypotheses of ModuleCommandsAndStart. -/
theorem wit_ModuleCommandsAndStart :
    w_ModuleCommandsAndStart_0.judgeWrite Requester.sup Reg.SYS_CMD (1 + sysForce true) = 0 ∧
    w_ModuleCommandsAndStart_1.judgeWrite Requester.sup Reg.SYS_CMD 2 = 0 ∧
    w_ModuleCommandsAndStart_2.judgeWrite Requester.sup Reg.SYS_CMD 3 = 0 ∧
    w_ModuleCommandsAndStart_3.pwr.phase = CorePhase.rails ∧
    w_ModuleCommandsAndStart_4.judgeWrite Requester.sup Reg.SYS_CMD (4 + sysForce true) = 0 ∧
    w_ModuleCommandsAndStart_4.sysJudge 4 true = 0 ∧
    w_ModuleCommandsAndStart_5.judgeWrite Requester.sup Reg.SYS_CMD (4 + sysForce false) = 0 ∧
    (w_ModuleCommandsAndStart_5.sysJudge 4 false ≠ 0) := by
  (repeat' apply And.intro) <;> first | with_reducible rfl | decide +kernel

def w_CaskAndMarker_0 : State := mk fun b => { ph .good (unl 0xD8 (b.fset F.UPD_CASK_STATE ckComplete)) with upd := { b.upd with cask := some { size := 0, ident := 0, man := some ⟨1, 0, 0, 9, 4, 0, 0, 0, 0, []⟩ } } }
def w_CaskAndMarker_1 : State := mk fun b => ph .good (unl 0xD8 (b.fset F.UPD_CASK_STATE ckMarked))
def w_CaskAndMarker_2 : State := mk fun b => { ph .good (unl 0xD8 (b.fset F.UPD_CASK_STATE ckMarked)) with upd := { b.upd with cask := some { size := 0, ident := 0 } } }
def w_CaskAndMarker_3 : State := mk fun b => { ph .good (unl 0xD8 b) with upd := { b.upd with appFb := some ⟨3, [1, 2], none⟩ } }
def w_CaskAndMarker_4 : State := mk fun b => ph .good (unl 0xD8 b)
def w_CaskAndMarker_5 : State := mk fun b => { ph .good b with olc := { b.olc with marker := some [1, 2] } }
def w_CaskAndMarker_6 : State := mk fun b => supStalls { ph .good b with olc := { b.olc with marker := some [1, 2] } }
/-- States and operands that meet the hypotheses of CaskAndMarker. -/
theorem wit_CaskAndMarker :
    (w_CaskAndMarker_0.judgeWrite Requester.sup Reg.UPD_CMD (1 + if true = true then 256 else 0) = 0) ∧
    ((w_CaskAndMarker_0.upd.cask.bind fun x ↦ x.man) = some (Manifest.mk 1 0 0 9 4 0 0 0 0 [])) ∧
    w_CaskAndMarker_0.cask = ckComplete ∧
    w_CaskAndMarker_1.judgeWrite Requester.sup Reg.UPD_CMD 2 = 0 ∧ w_CaskAndMarker_1.cask = ckMarked ∧
    w_CaskAndMarker_2.judgeWrite Requester.sup Reg.UPD_CMD 3 = 0 ∧ (w_CaskAndMarker_2.cask ≠ ckEmpty) ∧
    (w_CaskAndMarker_3.judgeWrite Requester.sup Reg.UPD_CMD (4 + if true = true then 512 else 0) = 0) ∧
    (if true = true then w_CaskAndMarker_3.upd.appFb else w_CaskAndMarker_3.upd.fwFb) = some (Vintage.mk 3 [1, 2] none) ∧
    w_CaskAndMarker_3.fgetB F.CEL_STAT_READONLY = false ∧
    (w_CaskAndMarker_4.judgeWrite Requester.sup Reg.UPD_CMD (4 + if false = true then 512 else 0) = 0) ∧
    (if false = true then w_CaskAndMarker_4.upd.appFb else w_CaskAndMarker_4.upd.fwFb) = none ∧
    w_CaskAndMarker_5.olc.marker = some [1, 2] ∧ w_CaskAndMarker_5.powerFailing = false ∧
    w_CaskAndMarker_5.ssp.stall = false ∧
    w_CaskAndMarker_6.ssp.stall = true := by
  (repeat' apply And.intro) <;> first | with_reducible rfl | decide +kernel

def w_WholeImageLoad_0 : State := mk fun b => { ph .good (stt 2 b) with ssp := { b.ssp with sessions := [⟨3, .engineer, 0, 2, 0, [], [], [], [], 0, [], 0⟩] } }
def w_WholeImageLoad_1 : State := mk fun b => { ph .good (stt 2 b) with ssp := { b.ssp with sessions := [⟨3, .engineer, 0, 2, 0, [], [], [], [], 0, [], 0⟩] } }
def w_WholeImageLoad_2 : State := mk fun b => stt 3 b
/-- States and operands that meet the hypotheses of WholeImageLoad. -/
theorem wit_WholeImageLoad :
    w_WholeImageLoad_0.modState = stCommission ∧
    w_WholeImageLoad_0.session 3 = some (Session.mk 3 Role.engineer 0 2 0 [] [] [] [] 0 [] 0) ∧
    (Session.mk 3 Role.engineer 0 2 0 [] [] [] [] 0 [] 0).role = Role.engineer ∧
    w_WholeImageLoad_0.verifyImage (List.map (BitVec.toNat (w := 32)) [1, 2]) = some (Verdict.mk 2 none none) ∧
    w_WholeImageLoad_1.modState = stCommission ∧
    w_WholeImageLoad_1.session 3 = some (Session.mk 3 Role.engineer 0 2 0 [] [] [] [] 0 [] 0) ∧
    (Session.mk 3 Role.engineer 0 2 0 [] [] [] [] 0 [] 0).role = Role.engineer ∧
    w_WholeImageLoad_1.verifyImage (List.map (BitVec.toNat (w := 32)) (List.map (BitVec.ofNat 32) bareImage)) = none ∧
    (w_WholeImageLoad_2.modState ≠ stCommission ∨ w_WholeImageLoad_2.roleOf 3 ≠ some Role.engineer) := by
  (repeat' apply And.intro) <;> first | with_reducible rfl | decide +kernel

def w_AngleBase0States_1 : State := mk fun b => { ph .good ((b.fset F.ABS0_STAT_STATE absAcquire).fset (vsOk 0) 1) with clk := 1000000 * b.fget F.ABS0_RELOCK_QUAL, tm := { b.tm with acqInput := 0, validSince := [some 0, none] } }
def w_AngleBase0States_2 : State := mk fun b => (((b.fset F.ABS0_STAT_STATE absLocked).fset F.ABS0_STAT_IN_USE 1).fset F.ABS0_CFG_SRC 1)
def w_AngleBase0States_3 : State := mk fun b => { ((b.fset F.ABS0_STAT_STATE absLocked).fset F.ABS0_CFG_SRC 2).fset (vsOk 1) 1 with clk := 1000000 * b.fget F.ABS0_RELOCK_QUAL, tm := { b.tm with validSince := [none, some 0] } }
def w_AngleBase0States_4 : State := mk fun b => { b.fset F.ABS0_STAT_STATE absHoldover with clk := 2000000000 }
def w_AngleBase0States_5 : State := mk fun b => b
def w_AngleBase0States_6 : State := mk fun b => ((b.fset F.ABS0_STAT_STATE absHoldover).fset F.ABS0_STAT_HO_PHASE 1).setRegN Reg.ABS0_FREQ b.absNom
def w_AngleBase0States_7 : State := mk fun b => b.setRegN Reg.ABS0_FREQ 5
/-- States and operands that meet the hypotheses of AngleBase0States. -/
theorem wit_AngleBase0States :
    w_AngleBase0States_1.absState = absAcquire ∧ w_AngleBase0States_1.qualified = true ∧
    w_AngleBase0States_2.absState = absLocked ∧ w_AngleBase0States_2.fget F.ABS0_STAT_IN_USE = 1 ∧
    w_AngleBase0States_2.fget F.ABS0_CFG_SRC = 1 ∧
    w_AngleBase0States_3.absState = absLocked ∧ w_AngleBase0States_3.fget F.ABS0_STAT_IN_USE = 0 ∧
    w_AngleBase0States_3.fget F.ABS0_CFG_SRC = 2 ∧ w_AngleBase0States_3.fgetB (vsOk (1 - 0)) = true ∧
    nth none w_AngleBase0States_3.tm.validSince (1 - 0) = some 0 ∧
    (0 + 1000000 * w_AngleBase0States_3.fget F.ABS0_RELOCK_QUAL ≤ w_AngleBase0States_3.clk) ∧
    w_AngleBase0States_4.absDrifts = true ∧ w_AngleBase0States_4.fget F.ABS0_STAT_HO_PHASE = 0 ∧
    (w_AngleBase0States_4.tm.hoSince + 2000000000 ≤ w_AngleBase0States_4.clk) ∧
    (w_AngleBase0States_5.clk < w_AngleBase0States_5.tm.hoSince + 2000000000) ∧
    w_AngleBase0States_6.absDrifts = true ∧ w_AngleBase0States_6.fget F.ABS0_STAT_HO_PHASE = 1 ∧
    w_AngleBase0States_6.regN Reg.ABS0_FREQ = w_AngleBase0States_6.absNom ∧
    (w_AngleBase0States_7.regN Reg.ABS0_FREQ ≠ w_AngleBase0States_7.absNom) := by
  (repeat' apply And.intro) <;> first | with_reducible rfl | decide +kernel

def w_ShaftCounts_0 : State := mk fun b => (b.fset F.ABS1_CFG_MODE 1).fset F.ABS1_STAT_STATE 1
def w_ShaftCounts_0a : State := mk fun b => (b.fset F.ABS1_CFG_MODE 1).fset F.ABS1_STAT_STATE 2
def w_ShaftCounts_1 : State := mk fun b => { (b.fset F.ABS1_CFG_MODE 2).fset F.ABS1_STAT_STATE 1 with tm := { b.tm with gapSeen := true } }
def w_ShaftCounts_1a : State := mk fun b => (b.fset F.ABS1_CFG_MODE 1).fset F.ABS1_STAT_STATE 1
def w_ShaftCounts_2 : State := mk fun b => (b.fset F.ABS1_CFG_MODE 3).fset F.ABS1_STAT_STATE 2
def w_ShaftCounts_4 : State := mk fun b => (b.fset F.ABS1_CFG_MODE 1).fset F.ABS1_STAT_STATE 2
def w_ShaftCounts_5 : State := mk fun b => b.fset F.ABS1_STAT_HOLDING 1
def w_ShaftCounts_5a : State := mk fun b => b.fset F.ABS0_STAT_HOLDING 1
def w_ShaftCounts_6 : State := mk fun b => { b with tm := { b.tm with abs0Ahead := 7 } }
def w_ShaftCounts_3 : State := mk fun b => b.timed .edge
/-- States and operands that meet the hypotheses of ShaftCounts. -/
theorem wit_ShaftCounts :
    w_ShaftCounts_0.shaftMode = 1 ∧ (w_ShaftCounts_0.shaftState ≠ shaftOff) ∧
    w_ShaftCounts_0a.shaftMode = 1 ∧ (w_ShaftCounts_0a.shaftState ≠ shaftOff) ∧
    (w_ShaftCounts_1.shaftMode ≠ 0) ∧ w_ShaftCounts_1.shaftState = shaftSearch ∧
    (w_ShaftCounts_1.shaftMode = 2 → w_ShaftCounts_1.tm.gapSeen = true) ∧
    (w_ShaftCounts_1a.shaftMode ≠ 0) ∧ w_ShaftCounts_1a.shaftState = shaftSearch ∧
    (w_ShaftCounts_1a.shaftMode = 2 → w_ShaftCounts_1a.tm.gapSeen = true) ∧
    (w_ShaftCounts_2.shaftMode ≠ 0) ∧ w_ShaftCounts_2.fgetB F.ABS1_STAT_STOPPED = false ∧
    w_ShaftCounts_2.periodic Timer.edge (1000000 * w_ShaftCounts_2.fget F.ABS1_CFG_STOP_TIME) = true ∧
    (w_ShaftCounts_4.shaftMode ≠ 0) ∧ w_ShaftCounts_4.fgetB F.ABS1_STAT_OVERSPEED = false ∧
    w_ShaftCounts_4.shaftState = shaftSynced ∧
    (if 1 = 0 then w_ShaftCounts_5.tm.abs0Ahead = 0 else toSigned 64 (w_ShaftCounts_5.absPos true) ≤ w_ShaftCounts_5.counted) ∧
    (if 0 = 0 then w_ShaftCounts_5a.tm.abs0Ahead = 0 else toSigned 64 (w_ShaftCounts_5a.absPos true) ≤ w_ShaftCounts_5a.counted) ∧
    (if 0 = 0 then w_ShaftCounts_6.tm.abs0Ahead ≠ 0 else w_ShaftCounts_6.counted < toSigned 64 (w_ShaftCounts_6.absPos true)) ∧
    w_ShaftCounts_3.periodic Timer.edge (1000000 * w_ShaftCounts_3.fget F.ABS1_CFG_STOP_TIME) = false := by
  (repeat' apply And.intro) <;> first | with_reducible rfl | decide +kernel

def w_TsuSecondCarries_0 : State := mk fun b => (b.setRegN Reg.TSU_TIME_LO 999999999).setRegN Reg.TSU_TIME_HI 0xFFFFFFFF
/-- States and operands that meet the hypotheses of TsuSecondCarries. -/
theorem wit_TsuSecondCarries :
    w_TsuSecondCarries_0.tsuNs = 999999999 := by
  (repeat' apply And.intro) <;> first | with_reducible rfl | decide +kernel

def w_TsuFollowsItsSource_0 : State := mk fun b => (b.fset F.TSU_CFG_STEP_LIM 1).fset F.TSU_CFG_SRC 2
def w_TsuFollowsItsSource_1 : State := mk fun b => b
def w_TsuFollowsItsSource_2 : State := mk fun b => { b with tm := { b.tm with setPending := true, ppsAvail := true } }
def w_TsuFollowsItsSource_3 : State := mk fun b => (b.fset F.TSU_STAT_SRC_ACT 1).fset F.TSU_STAT_STATE tsuLocked
def w_TsuFollowsItsSource_4 : State := mk fun b => b.fset F.TSU_STAT_SLEWING 1
def w_TsuFollowsItsSource_5 : State := mk fun b => { b.fset F.TSU_STAT_SLEWING 1 with tm := { b.tm with slewLeft := 5000 } }
/-- States and operands that meet the hypotheses of TsuFollowsItsSource. -/
theorem wit_TsuFollowsItsSource :
    (w_TsuFollowsItsSource_0.setAvailSrc TimeSource.pps true).srcChosen = some TimeSource.pps ∧
    (w_TsuFollowsItsSource_0.tm.setPending = true → w_TsuFollowsItsSource_0.tm.ppsAvail = true → TimeSource.pps = TimeSource.pps) ∧
    ((-1000).natAbs ≤ 1000 * w_TsuFollowsItsSource_0.fget F.TSU_CFG_STEP_LIM) ∧
    ((w_TsuFollowsItsSource_1.setAvailSrc TimeSource.pair true).srcChosen ≠ some TimeSource.pair) ∧
    w_TsuFollowsItsSource_2.tm.setPending = true ∧ w_TsuFollowsItsSource_2.tm.ppsAvail = true ∧
    (TimeSource.ptp ≠ TimeSource.pps) ∧
    (w_TsuFollowsItsSource_3.setAvailSrc TimeSource.ptp false).srcChosen = none ∧
    (w_TsuFollowsItsSource_3.tsuState = tsuLocking ∨ w_TsuFollowsItsSource_3.tsuState = tsuLocked) ∧
    w_TsuFollowsItsSource_4.fgetB F.TSU_STAT_SLEWING = true ∧ w_TsuFollowsItsSource_4.tm.slewLeft = 0 ∧
    (w_TsuFollowsItsSource_5.tm.slewLeft ≠ 0) := by
  (repeat' apply And.intro) <;> first | with_reducible rfl | decide +kernel

def w_ClockCommands_0 : State := mk fun b => (b.fset (F.TSU_CAP_CFG_SRC 3) 6).setRegN Reg.TSU_TIME_LO 77
def w_ClockCommands_1 : State := mk fun b => (b.fset (F.TSU_CAP_CFG_SRC 0) 1).fset F.TSU_CFG_SRC 0
def w_ClockCommands_2 : State := mk fun b => b
def w_ClockCommands_3 : State := mk fun b => b.fset (F.ABS_CMP_CTL_EN 1) 1
def w_ClockCommands_4 : State := mk fun b => b
def w_ClockCommands_5 : State := mk fun b => b
def w_ClockCommands_6 : State := mk fun b => b.fset (F.TSU_CMP_CTL_EN 3) 1
def w_ClockCommands_7 : State := mk fun b => ph .good (unl 3 b)
def w_ClockCommands_8 : State := mk fun b => ((ph .good (unl 3 b)).setRegN Reg.TSU_ADJ 0xFFFFFFFE).fset F.TSU_CFG_STEP_LIM 1
def w_ClockCommands_9 : State := mk fun b => (b.setRegN Reg.TSU_TIME_HI 7200).fset F.TSU_STAT_STATE tsuLocked
def w_ClockCommands_10 : State := mk fun b => (b.setRegN Reg.TSU_TIME_HI 3599).fset F.TSU_STAT_STATE tsuLocked
def w_ClockCommands_11 : State := mk fun b => (ph .good (unl 4 b)).setRegN Reg.RTC_SET_LO 32767
/-- States and operands that meet the hypotheses of ClockCommands. -/
theorem wit_ClockCommands :
    (3 ≤ w_ClockCommands_0.fget (F.TSU_CAP_CFG_SRC 3)) ∧ (w_ClockCommands_0.fget (F.TSU_CAP_CFG_SRC 3) ≤ 6) ∧
    w_ClockCommands_1.fget (F.TSU_CAP_CFG_SRC 0) = 1 ∧
    w_ClockCommands_2.tm.setPending = false ∧ (w_ClockCommands_2.fget F.TSU_STAT_SRC_ACT ≠ 2) ∧
    (w_ClockCommands_2.fget (F.TSU_CAP_CFG_SRC 0) ≠ 1) ∧
    ((w_ClockCommands_2.setAvailSrc TimeSource.pps true).srcChosen ≠ some TimeSource.pps) ∧
    w_ClockCommands_3.absCmpDue 1 = true ∧
    w_ClockCommands_4.absCmpDue 1 = false ∧
    w_ClockCommands_5.tsuCmpDue 3 = false ∧
    w_ClockCommands_6.tsuCmpDue 3 = true ∧
    w_ClockCommands_7.judgeWrite Requester.sup Reg.TSU_CMD 1 = 0 ∧
    w_ClockCommands_8.judgeWrite Requester.sup Reg.TSU_CMD 2 = 0 ∧
    ((w_ClockCommands_8.regI Reg.TSU_ADJ).natAbs ≤ 1000 * w_ClockCommands_8.fget F.TSU_CFG_STEP_LIM) ∧
    w_ClockCommands_9.tsuSec % 3600 = 0 ∧ w_ClockCommands_9.tsuState = tsuLocked ∧
    (w_ClockCommands_10.tsuSec % 3600 ≠ 0) ∧
    w_ClockCommands_11.judgeWrite Requester.sup Reg.RTC_CMD 1 = 0 := by
  (repeat' apply And.intro) <;> first | with_reducible rfl | decide +kernel

def w_MovesRun_0 : State := mk fun b => runAt 3 (.nop) b
def w_MovesRun_1 : State := mk fun b => runAt 3 (.mov 4 5) b
def w_MovesRun_2 : State := mk fun b => runAt 3 (.mov64 4 6) b
def w_MovesRun_3 : State := mk fun b => runAt 255 (.ldi 4 9) b
def w_MovesRun_4 : State := mk fun b => runAt 3 (.ldk 4 1) b
def w_MovesRun_5 : State := mk fun b => runAt 3 (.cmov 2 4 5 6) b
/-- States and operands that meet the hypotheses of MovesRun. -/
theorem wit_MovesRun :
    w_MovesRun_0.runs 3 Insn.nop = true ∧
    w_MovesRun_1.runs 3 (Insn.mov 4 5) = true ∧
    w_MovesRun_2.runs 3 (Insn.mov64 4 6) = true ∧
    w_MovesRun_3.runs 255 (Insn.ldi 4 (BitVec.toNat (9 : Word))) = true ∧
    w_MovesRun_4.runs 3 (Insn.ldk 4 1) = true ∧
    w_MovesRun_5.runs 3 (Insn.cmov 2 4 5 6) = true := by
  (repeat' apply And.intro) <;> first | with_reducible rfl | decide +kernel

def w_ArrayAccess_0 : State := mk fun b => runAt 3 (.ldx 4 1 8 3) b
def w_ArrayAccess_1 : State := mk fun b => runAt 3 (.stx 4 2 8 3) b
def w_ArrayAccess_2 : State := mk fun b => runAt 3 (.ldx 4 3 8 3) b
def w_ArrayAccess_3 : State := mk fun b => runAt 3 (.stx 4 5 8 3) b
/-- States and operands that meet the hypotheses of ArrayAccess. -/
theorem wit_ArrayAccess :
    w_ArrayAccess_0.runs 3 (Insn.ldx 4 1 8 3) = true ∧ (w_ArrayAccess_0.cx 3).slot 1 = 1 ∧ (1 < 3) ∧
    w_ArrayAccess_1.runs 3 (Insn.stx 4 2 8 3) = true ∧ (w_ArrayAccess_1.cx 3).slot 2 = 2 ∧ (2 < 3) ∧
    w_ArrayAccess_2.runs 3 (Insn.ldx 4 3 8 3) = true ∧ (3 ≤ (w_ArrayAccess_2.cx 3).slot 3) ∧
    w_ArrayAccess_3.runs 3 (Insn.stx 4 5 8 3) = true ∧ (3 ≤ (w_ArrayAccess_3.cx 3).slot 5) := by
  (repeat' apply And.intro) <;> first | with_reducible rfl | decide +kernel

def w_LvcInstructionsRun_0 : State := mk fun b => runAt 3 (.arith .add 2 4 5 6) b
def w_LvcInstructionsRun_1 : State := mk fun b => runAt 3 (.arith .sub 3 4 5 6) b
def w_LvcInstructionsRun_2 : State := mk fun b => runAt 3 (.arith .mul 2 4 5 6) b
def w_LvcInstructionsRun_3 : State := mk fun b => runAt 3 (.arith .div 3 4 5 6) b
def w_LvcInstructionsRun_4 : State := mk fun b => runAt 3 (.arith .rem 2 4 5 6) b
def w_LvcInstructionsRun_5 : State := mk fun b => runAt 3 (.arith .min 3 4 5 6) b
def w_LvcInstructionsRun_6 : State := mk fun b => runAt 3 (.arith .max 2 4 5 6) b
def w_LvcInstructionsRun_7 : State := mk fun b => runAt 3 (.arith .fma 4 4 5 6) b
def w_LvcInstructionsRun_8 : State := mk fun b => runAt 3 (.arith .neg 2 4 5 0) b
def w_LvcInstructionsRun_9 : State := mk fun b => runAt 3 (.arith .abs 3 4 5 0) b
def w_LvcInstructionsRun_10 : State := mk fun b => runAt 3 (.arith .sqrt 4 4 5 0) b
def w_LvcInstructionsRun_11 : State := mk fun b => runAt 3 (.logic .and 3 4 5 6) b
def w_LvcInstructionsRun_12 : State := mk fun b => runAt 3 (.logic .or 3 4 5 6) b
def w_LvcInstructionsRun_13 : State := mk fun b => runAt 3 (.logic .xor 3 4 5 6) b
def w_LvcInstructionsRun_14 : State := mk fun b => runAt 3 (.logic .not 3 4 5 0) b
def w_LvcInstructionsRun_15 : State := mk fun b => runAt 3 (.logic .shl 3 4 5 6) b
def w_LvcInstructionsRun_16 : State := mk fun b => runAt 3 (.logic .shr 3 4 5 6) b
def w_LvcInstructionsRun_17 : State := mk fun b => runAt 3 (.logic .rol 3 4 5 6) b
def w_LvcInstructionsRun_18 : State := mk fun b => runAt 3 (.logic .ror 3 4 5 6) b
def w_LvcInstructionsRun_19 : State := mk fun b => runAt 3 (.cmp .eq 2 4 5 6) b
def w_LvcInstructionsRun_20 : State := mk fun b => runAt 3 (.cmp .ne 2 4 5 6) b
def w_LvcInstructionsRun_21 : State := mk fun b => runAt 3 (.cmp .lt 2 4 5 6) b
def w_LvcInstructionsRun_22 : State := mk fun b => runAt 3 (.cmp .le 2 4 5 6) b
def w_LvcInstructionsRun_23 : State := mk fun b => runAt 3 (.cmp .gt 2 4 5 6) b
def w_LvcInstructionsRun_24 : State := mk fun b => runAt 3 (.cmp .ge 2 4 5 6) b
def w_LvcInstructionsRun_25 : State := mk fun b => runAt 3 (.cvt true 2 4 4 5) b
/-- States and operands that meet the hypotheses of LvcInstructionsRun. -/
theorem wit_LvcInstructionsRun :
    w_LvcInstructionsRun_0.runs 3 (Insn.arith Arith.add 2 4 5 6) = true ∧
    w_LvcInstructionsRun_1.runs 3 (Insn.arith Arith.sub 3 4 5 6) = true ∧
    w_LvcInstructionsRun_2.runs 3 (Insn.arith Arith.mul 2 4 5 6) = true ∧
    w_LvcInstructionsRun_3.runs 3 (Insn.arith Arith.div 3 4 5 6) = true ∧
    w_LvcInstructionsRun_4.runs 3 (Insn.arith Arith.rem 2 4 5 6) = true ∧
    w_LvcInstructionsRun_5.runs 3 (Insn.arith Arith.min 3 4 5 6) = true ∧
    w_LvcInstructionsRun_6.runs 3 (Insn.arith Arith.max 2 4 5 6) = true ∧
    w_LvcInstructionsRun_7.runs 3 (Insn.arith Arith.fma 4 4 5 6) = true ∧
    w_LvcInstructionsRun_8.runs 3 (Insn.arith Arith.neg 2 4 5 0) = true ∧
    w_LvcInstructionsRun_9.runs 3 (Insn.arith Arith.abs 3 4 5 0) = true ∧
    w_LvcInstructionsRun_10.runs 3 (Insn.arith Arith.sqrt 4 4 5 0) = true ∧
    w_LvcInstructionsRun_11.runs 3 (Insn.logic Logic.and 3 4 5 6) = true ∧
    w_LvcInstructionsRun_12.runs 3 (Insn.logic Logic.or 3 4 5 6) = true ∧
    w_LvcInstructionsRun_13.runs 3 (Insn.logic Logic.xor 3 4 5 6) = true ∧
    w_LvcInstructionsRun_14.runs 3 (Insn.logic Logic.not 3 4 5 0) = true ∧
    w_LvcInstructionsRun_15.runs 3 (Insn.logic Logic.shl 3 4 5 6) = true ∧
    w_LvcInstructionsRun_16.runs 3 (Insn.logic Logic.shr 3 4 5 6) = true ∧
    w_LvcInstructionsRun_17.runs 3 (Insn.logic Logic.rol 3 4 5 6) = true ∧
    w_LvcInstructionsRun_18.runs 3 (Insn.logic Logic.ror 3 4 5 6) = true ∧
    w_LvcInstructionsRun_19.runs 3 (Insn.cmp Cmp.eq 2 4 5 6) = true ∧
    w_LvcInstructionsRun_20.runs 3 (Insn.cmp Cmp.ne 2 4 5 6) = true ∧
    w_LvcInstructionsRun_21.runs 3 (Insn.cmp Cmp.lt 2 4 5 6) = true ∧
    w_LvcInstructionsRun_22.runs 3 (Insn.cmp Cmp.le 2 4 5 6) = true ∧
    w_LvcInstructionsRun_23.runs 3 (Insn.cmp Cmp.gt 2 4 5 6) = true ∧
    w_LvcInstructionsRun_24.runs 3 (Insn.cmp Cmp.ge 2 4 5 6) = true ∧
    w_LvcInstructionsRun_25.runs 3 (Insn.cvt true 2 4 4 5) = true := by
  (repeat' apply And.intro) <;> first | with_reducible rfl | decide +kernel

/-- States and operands that meet the hypotheses of LvcResults. -/
theorem wit_LvcResults :
    isFloat tF32 = true ∧ (floatFmt tF32).order 2143289344 0 = none ∧
    isFloat tF64 = true ∧ (floatFmt tF64).order 9221120237041090560 0 = none ∧
    isFloat tF64 = true ∧ (floatFmt tF64).order 9219994337134247936 0 = none := by
  (repeat' apply And.intro) <;> first | with_reducible rfl | decide +kernel

def w_IntegerOperations_5 : State := mk fun b => runAt 3 (.arith .div 2 4 5 0) b
def w_IntegerOperations_5a : State := mk fun b => runAt 3 (.arith .div 3 4 5 0) b
def w_IntegerOperations_6 : State := mk fun b => runAt 3 (.arith .rem 2 4 5 0) b
/-- States and operands that meet the hypotheses of IntegerOperations. -/
theorem wit_IntegerOperations :
    ((tI32 = tI32 ∨ tI32 = tU32) ∧ 32 = 32 ∨ (tI32 = tI64 ∨ tI32 = tU64) ∧ 32 = 64) ∧
    ((tU32 = tI32 ∨ tU32 = tU32) ∧ 32 = 32 ∨ (tU32 = tI64 ∨ tU32 = tU64) ∧ 32 = 64) ∧
    ((tI64 = tI32 ∨ tI64 = tU32) ∧ 64 = 32 ∨ (tI64 = tI64 ∨ tI64 = tU64) ∧ 64 = 64) ∧
    ((tU64 = tI32 ∨ tU64 = tU32) ∧ 64 = 32 ∨ (tU64 = tI64 ∨ tU64 = tU64) ∧ 64 = 64) ∧
    ((tI32 = tI32 ∨ tI32 = tU32) ∧ 32 = 32 ∨ (tI32 = tI64 ∨ tI32 = tU64) ∧ 32 = 64) ∧ (4294967295 ≠ 0) ∧
    ((tU32 = tI32 ∨ tU32 = tU32) ∧ 32 = 32 ∨ (tU32 = tI64 ∨ tU32 = tU64) ∧ 32 = 64) ∧ (4294967295 ≠ 0) ∧
    ((tI64 = tI32 ∨ tI64 = tU32) ∧ 64 = 32 ∨ (tI64 = tI64 ∨ tI64 = tU64) ∧ 64 = 64) ∧ (2 ≠ 0) ∧
    ((tU64 = tI32 ∨ tU64 = tU32) ∧ 64 = 32 ∨ (tU64 = tI64 ∨ tU64 = tU64) ∧ 64 = 64) ∧ (2 ≠ 0) ∧
    ((tI32 = tI32 ∨ tI32 = tU32) ∧ 32 = 32 ∨ (tI32 = tI64 ∨ tI32 = tU64) ∧ 32 = 64) ∧ signedTag tI32 = true ∧ (2 ≠ 0) ∧
    ((tI64 = tI32 ∨ tI64 = tU32) ∧ 64 = 32 ∨ (tI64 = tI64 ∨ tI64 = tU64) ∧ 64 = 64) ∧ signedTag tI64 = true ∧ (2 ≠ 0) ∧
    ((tI32 = tI32 ∨ tI32 = tU32) ∧ 32 = 32 ∨ (tI32 = tI64 ∨ tI32 = tU64) ∧ 32 = 64) ∧
    ((tU64 = tI32 ∨ tU64 = tU32) ∧ 64 = 32 ∨ (tU64 = tI64 ∨ tU64 = tU64) ∧ 64 = 64) ∧
    w_IntegerOperations_5.runs 3 (Insn.arith Arith.div 2 4 5 0) = true ∧ isFloat 2 = false ∧
    (w_IntegerOperations_5.cx 3).val 2 0 = 0 ∧
    w_IntegerOperations_5a.runs 3 (Insn.arith Arith.div 3 4 5 0) = true ∧ isFloat 3 = false ∧
    (w_IntegerOperations_5a.cx 3).val 3 0 = 0 ∧
    w_IntegerOperations_6.runs 3 (Insn.arith Arith.rem 2 4 5 0) = true ∧ isFloat 2 = false ∧
    (w_IntegerOperations_6.cx 3).val 2 0 = 0 := by
  (repeat' apply And.intro) <;> first | with_reducible rfl | decide +kernel

def w_ControlFlow_0 : State := mk fun b => runAt 3 (.br (-1)) b
def w_ControlFlow_1 : State := mk fun b => runAt 3 (.brt 1 1) b
def w_ControlFlow_2 : State := mk fun b => runAt 3 (.brf 0 1) b
def w_ControlFlow_3 : State := mk fun b => runAt 3 (.call 2) b
def w_ControlFlow_4 : State := mk fun b => runAt 3 (.ret) b
def w_ControlFlow_5 : State := mk fun b => runAt 3 (.loop 4 (-1)) b
/-- States and operands that meet the hypotheses of ControlFlow. -/
theorem wit_ControlFlow :
    w_ControlFlow_0.runs 3 (Insn.br (-1)) = true ∧
    w_ControlFlow_1.runs 3 (Insn.brt 1 1) = true ∧
    w_ControlFlow_2.runs 3 (Insn.brf 0 1) = true ∧
    w_ControlFlow_3.runs 3 (Insn.call 2) = true ∧
    w_ControlFlow_4.runs 3 Insn.ret = true ∧ (w_ControlFlow_4.cx 3).stack = [3, 2] ∧
    w_ControlFlow_5.runs 3 (Insn.loop 4 (-1)) = true := by
  (repeat' apply And.intro) <;> first | with_reducible rfl | decide +kernel

def w_GlobalsInTheCycle_0 : State := mk fun b => runAt 3 (.gld 4 0) b
def w_GlobalsInTheCycle_1 : State := mk fun b => runAt 3 (.gst 4 0) b
/-- States and operands that meet the hypotheses of GlobalsInTheCycle. -/
theorem wit_GlobalsInTheCycle :
    w_GlobalsInTheCycle_0.runs 3 (Insn.gld 4 0) = true ∧
    w_GlobalsInTheCycle_1.runs 3 (Insn.gst 4 0) = true := by
  (repeat' apply And.intro) <;> first | with_reducible rfl | decide +kernel

def w_ImageAndCycle_0 : State := mk fun b => runAt 3 (.ird 4 0) b
def w_ImageAndCycle_1 : State := mk fun b => runAt 3 (.iq 4 0) b
def w_ImageAndCycle_2 : State := mk fun b => runAt 3 (.iage 4 0) b
def w_ImageAndCycle_3 : State := mk fun b => runAt 3 (.owr 4 0) b
def w_ImageAndCycle_4 : State := mk fun b => runAt 3 (.tlatch 4) b
def w_ImageAndCycle_5 : State := mk fun b => runAt 3 (.tpos 4 1) b
def w_ImageAndCycle_6 : State := mk fun b => runAt 3 (.cstat 4) b
def w_ImageAndCycle_7 : State := mk fun b => runAt 3 (.xflags 4) b
/-- States and operands that meet the hypotheses of ImageAndCycle. -/
theorem wit_ImageAndCycle :
    w_ImageAndCycle_0.runs 3 (Insn.ird 4 0) = true ∧
    w_ImageAndCycle_1.runs 3 (Insn.iq 4 0) = true ∧
    w_ImageAndCycle_2.runs 3 (Insn.iage 4 0) = true ∧
    w_ImageAndCycle_3.runs 3 (Insn.owr 4 0) = true ∧
    w_ImageAndCycle_4.runs 3 (Insn.tlatch 4) = true ∧
    w_ImageAndCycle_5.runs 3 (Insn.tpos 4 1) = true ∧
    w_ImageAndCycle_6.runs 3 (Insn.cstat 4) = true ∧
    w_ImageAndCycle_7.runs 3 (Insn.xflags 4) = true := by
  (repeat' apply And.intro) <;> first | with_reducible rfl | decide +kernel

def w_PeriodTargets_1 : State := mk fun b => b.fset (F.CTX_CFG_TRIG 3) 1
def w_PeriodTargets_2 : State := mk fun b => (((stt 4 b).fset (F.CTX_STATE_STATE 3) csIdle).fset (F.CTX_CFG_TRIG 3) 1).fset (F.CTX_PERIOD_PERIOD 3) 5
def w_PeriodTargets_3 : State := mk fun b => b.fset (F.CTX_CFG_TRIG 3) 1
def w_PeriodTargets_4 : State := mk fun b => { b.fset (F.CTX_CFG_TRIG 3) 1 with ctxs := [(3, { target := 900 })] }
/-- States and operands that meet the hypotheses of PeriodTargets. -/
theorem wit_PeriodTargets :
    (0 < 5) ∧
    (0 < 5) ∧
    (0 < 5) ∧
    (0 < 1) ∧
    (0 < 5) ∧
    w_PeriodTargets_1.trigOf 3 = 1 ∧
    w_PeriodTargets_2.running = true ∧ w_PeriodTargets_2.ctxState 3 = csIdle ∧ (w_PeriodTargets_2.cx 3).trig = false ∧
    (w_PeriodTargets_2.ctxClass 3 ≠ 1) ∧ w_PeriodTargets_2.trigOf 3 = 1 ∧
    w_PeriodTargets_2.dueAt 3 (w_PeriodTargets_2.cx 3).target = true ∧
    w_PeriodTargets_1.trigOf 3 = 1 ∧ w_PeriodTargets_3.trigOf 3 = 1 ∧
    w_PeriodTargets_3.fget (F.CTX_PERIOD_PERIOD 3) = w_PeriodTargets_1.fget (F.CTX_PERIOD_PERIOD 3) ∧
    w_PeriodTargets_3.fget (F.CTX_PHASE_PHASE 3) = w_PeriodTargets_1.fget (F.CTX_PHASE_PHASE 3) ∧
    w_PeriodTargets_4.trigOf 3 = 1 ∧ (3 ∈ List.map (fun x ↦ x.fst) w_PeriodTargets_4.ctxs) := by
  (repeat' apply And.intro) <;> first | with_reducible rfl | decide +kernel

def w_CyclesRun_0 : State := mk fun b => ((stt 4 b).fset (F.CTX_STATE_STATE 3) csIdle).fset (F.CTX_CFG_TRIG 3) 1
def w_CyclesRun_0a : State := mk fun b => ((stt 5 b).fset (F.CTX_STATE_STATE 255) csIdle).fset (F.CTX_CFG_TRIG 255) 4
def w_CyclesRun_1 : State := mk fun b => { (((((stt 4 b).fset (F.CTX_STATE_STATE 3) csIdle).fset (F.CTX_CFG_TRIG 3) 1).fset (F.CTX_CFG_CLASS 3) 1).fset (F.CTX_CFG_STRETCH 3) 1).fset F.PWR_THERM_STATE 2 with ctxs := [(3, { prevDispatched := true })] }
def w_CyclesRun_2 : State := mk fun b => (((stt 4 b).fset (F.CTX_STATE_STATE 3) csActive).fset (F.CTX_CFG_TRIG 3) 4).fset (F.CTX_CFG_SKIP_LIMIT 3) 2
def w_CyclesRun_3 : State := mk fun b => (((b.fset (F.BLK_EVT_ROUTE_ROUTE_EN 0x20) 1).fset (F.BLK_EVT_ROUTE_LINE 0x20) 33).fset (F.BLK_CTL_EVT_GATE 0x20) 1).setRegN (Reg.BLK_EVT_RAW 0x20) 1 |>.setRegN (Reg.BLK_EVT_EN 0x20) 1
def w_CyclesRun_4 : State := mk fun b => ((((((stt 4 b).fset (F.CTX_STATE_STATE 3) csIdle).fset (F.CTX_CFG_TRIG 3) 4).fset (F.CTX_CFG_LINE 3) 33).fset (F.BLK_EVT_ROUTE_ROUTE_EN 0x20) 1).fset (F.BLK_EVT_ROUTE_LINE 0x20) 33).fset (F.BLK_CTL_EVT_GATE 0x20) 1 |>.setRegN (Reg.BLK_EVT_RAW 0x20) 1 |>.setRegN (Reg.BLK_EVT_EN 0x20) 1
def w_CyclesRun_5 : State := mk fun b => b
def w_CyclesRun_6 : State := mk fun b => { (((stt 4 b).fset (F.CTX_STATE_STATE 3) csIdle).fset (F.CTX_STATE_PLACED 3) 1).fset (F.CTX_CFG_VALID 3) 1 with ctxs := [(3, { trig := true })] }
def w_CyclesRun_7 : State := mk fun b => { ((((stt 4 b).fset (F.CTX_STATE_STATE 3) csIdle).fset (F.CTX_STATE_PLACED 3) 1).fset (F.CTX_CFG_CLASS 3) 2).fset F.PWR_THERM_STATE 2 with ctxs := [(3, { trig := true })] }
def w_CyclesRun_8 : State := mk fun b => runAt 3 .endCycle b
def w_CyclesRun_9 : State := mk fun b => runAt 3 (.trap 5) b
/-- States and operands that meet the hypotheses of CyclesRun. -/
theorem wit_CyclesRun :
    (w_CyclesRun_0.running = true ∧ 1 ≤ w_CyclesRun_0.trigOf 3 ∧ w_CyclesRun_0.trigOf 3 ≤ 4 ∧
    w_CyclesRun_0.dueAt 3 (w_CyclesRun_0.cx 3).target = true) ∧ w_CyclesRun_0.ctxState 3 = csIdle ∧
    (w_CyclesRun_0.cx 3).trig = false ∧ (¬stretched w_CyclesRun_0 3) ∧
    (w_CyclesRun_0a.running = true ∧ 1 ≤ w_CyclesRun_0a.trigOf 255 ∧ w_CyclesRun_0a.trigOf 255 ≤ 4 ∧
    w_CyclesRun_0a.dueAt 255 (w_CyclesRun_0a.cx 255).target = true) ∧ w_CyclesRun_0a.ctxState 255 = csIdle ∧
    (w_CyclesRun_0a.cx 255).trig = false ∧ (¬stretched w_CyclesRun_0a 255) ∧
    (w_CyclesRun_1.running = true ∧ 1 ≤ w_CyclesRun_1.trigOf 3 ∧ w_CyclesRun_1.trigOf 3 ≤ 4 ∧
    w_CyclesRun_1.dueAt 3 (w_CyclesRun_1.cx 3).target = true) ∧ w_CyclesRun_1.ctxState 3 = csIdle ∧
    (w_CyclesRun_1.cx 3).trig = false ∧ (w_CyclesRun_1.ctxClass 3 = 1 ∧
    w_CyclesRun_1.fgetB (F.CTX_CFG_STRETCH 3) = true ∧ 2 ≤ w_CyclesRun_1.thermal ∧
    (w_CyclesRun_1.cx 3).prevDispatched = true) ∧
    (w_CyclesRun_2.running = true ∧ 1 ≤ w_CyclesRun_2.trigOf 3 ∧ w_CyclesRun_2.trigOf 3 ≤ 4 ∧
    w_CyclesRun_2.dueAt 3 (w_CyclesRun_2.cx 3).target = true) ∧ w_CyclesRun_2.ctxState 3 = csActive ∧
    (w_CyclesRun_2.fget (F.CTX_STATE_CONSEC 3) + 1 < w_CyclesRun_2.fget (F.CTX_CFG_SKIP_LIMIT 3)) ∧
    w_CyclesRun_3.lineAsserted 33 = true ∧ w_CyclesRun_3.fgetB (lineLevel 33) = false ∧
    (∀ (c : Nat), c < 256 → ¬(w_CyclesRun_3.trigOf c = 4 ∧ w_CyclesRun_3.fget (F.CTX_CFG_LINE c) = 33)) ∧
    w_CyclesRun_4.lineAsserted 33 = true ∧ w_CyclesRun_4.fgetB (lineLevel 33) = false ∧ w_CyclesRun_4.running = true ∧
    w_CyclesRun_4.trigOf 3 = 4 ∧ w_CyclesRun_4.fget (F.CTX_CFG_LINE 3) = 33 ∧
    (∀ (d : Nat), d < 256 → d ≠ 3 → ¬(w_CyclesRun_4.trigOf d = 4 ∧ w_CyclesRun_4.fget (F.CTX_CFG_LINE d) = 33)) ∧
    w_CyclesRun_4.ctxState 3 = csIdle ∧ (w_CyclesRun_4.cx 3).trig = false ∧ (¬stretched w_CyclesRun_4 3) ∧
    (w_CyclesRun_5.lineAsserted 33 = false ∨ w_CyclesRun_5.fgetB (lineLevel 33) = true) ∧
    w_CyclesRun_6.dispatchable 3 = true ∧ w_CyclesRun_6.admitted 3 = true ∧
    w_CyclesRun_7.dispatchable 3 = true ∧ w_CyclesRun_7.admitted 3 = false ∧
    w_CyclesRun_8.runs 3 Insn.endCycle = true ∧
    w_CyclesRun_9.runs 3 (Insn.trap 5) = true := by
  (repeat' apply And.intro) <;> first | with_reducible rfl | decide +kernel | (unfold stretched; decide +kernel)

def w_WaitingInstructions_0 : State := mk fun b => runAt 3 (.rrd 4 5 16) b
def w_WaitingInstructions_1 : State := mk fun b => runAt 3 (.rwr 4 5 16) b
def w_WaitingInstructions_2 : State := mk fun b => runAt 3 (.rrd64 4 6 16) b
def w_WaitingInstructions_3 : State := mk fun b => runAt 3 (.rwr64 4 6 16) b
def w_WaitingInstructions_4 : State := mk fun b => runAt 3 (.rrdx 4 6 16) b
def w_WaitingInstructions_5 : State := mk fun b => runAt 3 (.rwrx 4 6 16) b
def w_WaitingInstructions_6 : State := mk fun b => runAt 3 (.ssub 4 8 2) b
def w_WaitingInstructions_7 : State := mk fun b => runAt 3 (.scan 4 8 2) b
def w_WaitingInstructions_8 : State := mk fun b => runAt 3 (.recApp 4 5 2 7 3) b
def w_WaitingInstructions_9 : State := mk fun b => { b with ctxs := [(3, { act := .waiting, wait := some ⟨4, 0, some (6, true, 9)⟩, slots := (List.range 8).map (BitVec.ofNat 32) })] }
def w_WaitingInstructions_10 : State := mk fun b => b
/-- States and operands that meet the hypotheses of WaitingInstructions. -/
theorem wit_WaitingInstructions :
    w_WaitingInstructions_0.runs 3 (Insn.rrd 4 5 16) = true ∧
    w_WaitingInstructions_1.runs 3 (Insn.rwr 4 5 16) = true ∧
    w_WaitingInstructions_2.runs 3 (Insn.rrd64 4 6 16) = true ∧
    w_WaitingInstructions_3.runs 3 (Insn.rwr64 4 6 16) = true ∧
    w_WaitingInstructions_4.runs 3 (Insn.rrdx 4 6 16) = true ∧
    w_WaitingInstructions_5.runs 3 (Insn.rwrx 4 6 16) = true ∧
    w_WaitingInstructions_6.runs 3 (Insn.ssub 4 8 2) = true ∧
    w_WaitingInstructions_7.runs 3 (Insn.scan 4 8 2) = true ∧
    w_WaitingInstructions_8.runs 3 (Insn.recApp 4 5 2 7 3) = true ∧
    (w_WaitingInstructions_9.cx 3).act = Act.waiting ∧
    (w_WaitingInstructions_9.cx 3).wait = some (Answer.mk 4 0 (some (6, true, 9))) ∧
    ((w_WaitingInstructions_10.cx 3).wait = none ∨ (w_WaitingInstructions_10.cx 3).act ≠ Act.waiting) := by
  (repeat' apply And.intro) <;> first | with_reducible rfl | decide +kernel

def stopped (c : Nat) (b : Block) : Block := ((ph .good (stt 4 (unl 0x20 b))).fset (F.CTX_CFG_VALID c) 1 |>.fset (F.CTX_STATE_STATE c) csStopped |>.fset (F.CTX_STATE_PLACED c) 1)
def w_SchedulerCommands_0 : State := mk fun b => stopped 3 b
def w_SchedulerCommands_1 : State := mk fun b => (stopped 3 b).fset (F.CTX_STATE_STOP_WHY 3) 4
def w_SchedulerCommands_2 : State := mk fun b => (stopped 3 b).fset (F.CTX_STATE_STATE 3) csDeferred
def w_SchedulerCommands_2a : State := mk fun b => (stopped 3 b).fset (F.CTX_STATE_STATE 3) csActive
def w_SchedulerCommands_3 : State := mk fun b => (runAt 3 .endCycle b).modCx 3 fun x => { x with stopAtEnd := true }
def w_SchedulerCommands_4 : State := mk fun b => { stopped 3 b with sched := { b.sched with replacing := true } }
def w_SchedulerCommands_5 : State := mk fun b => stopped 3 b
def w_SchedulerCommands_6 : State := mk fun b => { stopped 3 b with ctxs := [(3, { moveTo := some 15, copying := true })] }
/-- States and operands that meet the hypotheses of SchedulerCommands. -/
theorem wit_SchedulerCommands :
    w_SchedulerCommands_0.judgeWrite Requester.sup Reg.SCH_CMD (256 + 3) = 0 ∧ w_SchedulerCommands_0.schBusy = false ∧
    w_SchedulerCommands_0.fgetB (F.CTX_CFG_VALID 3) = true ∧ w_SchedulerCommands_0.ctxState 3 = csStopped ∧
    w_SchedulerCommands_0.fgetB (F.CTX_STATE_PLACED 3) = true ∧
    w_SchedulerCommands_1.judgeWrite Requester.sup Reg.SCH_CMD (768 + 3) = 0 ∧ w_SchedulerCommands_1.schBusy = false ∧
    w_SchedulerCommands_1.fgetB (F.CTX_CFG_VALID 3) = true ∧ w_SchedulerCommands_1.ctxState 3 = csStopped ∧
    w_SchedulerCommands_1.fgetB (F.CTX_STATE_PLACED 3) = true ∧
    (w_SchedulerCommands_1.fget (F.CTX_STATE_STOP_WHY 3) = 1 ∨ w_SchedulerCommands_1.fget (F.CTX_STATE_STOP_WHY 3) = 3 ∨ w_SchedulerCommands_1.fget (F.CTX_STATE_STOP_WHY 3) = 4) ∧
    w_SchedulerCommands_2.judgeWrite Requester.sup Reg.SCH_CMD (512 + 3) = 0 ∧ w_SchedulerCommands_2.schBusy = false ∧
    w_SchedulerCommands_2.fgetB (F.CTX_CFG_VALID 3) = true ∧
    (w_SchedulerCommands_2.ctxState 3 = csIdle ∨ w_SchedulerCommands_2.ctxState 3 = csDeferred ∨ w_SchedulerCommands_2.ctxState 3 = csActive) ∧
    w_SchedulerCommands_2a.judgeWrite Requester.sup Reg.SCH_CMD (512 + 3) = 0 ∧ w_SchedulerCommands_2a.schBusy = false ∧
    w_SchedulerCommands_2a.fgetB (F.CTX_CFG_VALID 3) = true ∧
    (w_SchedulerCommands_2a.ctxState 3 = csIdle ∨ w_SchedulerCommands_2a.ctxState 3 = csDeferred ∨ w_SchedulerCommands_2a.ctxState 3 = csActive) ∧
    w_SchedulerCommands_3.runs 3 Insn.endCycle = true ∧ (w_SchedulerCommands_3.cx 3).stopAtEnd = true ∧
    (w_SchedulerCommands_3.cx 3).dropAtEnd = false ∧
    w_SchedulerCommands_4.judgeWrite Requester.sup Reg.SCH_CMD (256 + 3) = 0 ∧ w_SchedulerCommands_4.schBusy = true ∧
    w_SchedulerCommands_5.judgeWrite Requester.sup Reg.SCH_CMD 1024 = 0 ∧ w_SchedulerCommands_5.schBusy = false ∧
    (15 < 16) ∧ (w_SchedulerCommands_6.cx 3).moveTo = some 15 ∧ (w_SchedulerCommands_6.cx 3).copying = true := by
  (repeat' apply And.intro) <;> first | with_reducible rfl | decide +kernel

def w_EnginesEnergyAndHeat_0 : State := mk fun b => (b.fset F.PWR_THERM_STATE 3).fset F.SCH_ENG_AVAIL_AVAIL 0xFFFF
def w_EnginesEnergyAndHeat_1 : State := mk fun b => { b with sched := { b.sched with engines := [(15, { parking := true })] } }
def w_EnginesEnergyAndHeat_3 : State := mk fun b => { b.fset (F.ENG_STATE_STATE 9) esParked with sched := { b.sched with engines := [(9, { thermal := true })] } }
def w_EnginesEnergyAndHeat_5 : State := mk fun b => b
def w_EnginesEnergyAndHeat_5a : State := mk fun b => ph .good (stt 4 b)
def w_EnginesEnergyAndHeat_6 : State := mk fun b => ph .good ((unl 0x1F b).fset (F.ENG_STATE_STATE 15) esParked)
def w_EnginesEnergyAndHeat_7 : State := mk fun b => b.fset (F.ENG_STATE_STATE 15) esFault
def w_EnginesEnergyAndHeat_9 : State := mk fun b => b.fset (F.ENG_STATE_STATE 15) esTest
def w_EnginesEnergyAndHeat_10 : State := mk fun b => { b.fset (F.ENG_STATE_STATE 15) esTest with sched := { b.sched with engines := [(15, { testFault := true, failed := true })] } }
def w_EnginesEnergyAndHeat_11 : State := mk fun b => b.fset (F.ENG_STATE_STATE 15) esTest
def w_EnginesEnergyAndHeat_13 : State := mk fun b => b.setNow 100000000
def w_EnginesEnergyAndHeat_15 : State := mk fun b => b
def w_EnginesEnergyAndHeat_15a : State := mk fun b => b
def w_EnginesEnergyAndHeat_15b : State := mk fun b => b.fset F.PWR_THERM_STATE 2
def w_EnginesEnergyAndHeat_2 : State := mk fun b => after .park 99999999 b
def w_EnginesEnergyAndHeat_4 : State := mk fun b => after .engReturn 99999999 b
def w_EnginesEnergyAndHeat_8 : State := mk fun b => after (.engEmpty 15) 999999999 b
def w_EnginesEnergyAndHeat_8a : State := mk fun b => supStalls b
def w_EnginesEnergyAndHeat_12 : State := mk fun b => b.setNow 99999999
def w_EnginesEnergyAndHeat_14 : State := mk fun b => after .thermal 9999999 b
/-- States and operands that meet the hypotheses of EnginesEnergyAndHeat. -/
theorem wit_EnginesEnergyAndHeat :
    w_EnginesEnergyAndHeat_0.thermal = 3 ∧ (8 < (List.filter w_EnginesEnergyAndHeat_0.engAvail (upto 16)).length) ∧
    (List.filter w_EnginesEnergyAndHeat_0.engAvail (upto 16)).getLast? = some 15 ∧
    w_EnginesEnergyAndHeat_0.periodic Timer.park 100000000 = true ∧
    (w_EnginesEnergyAndHeat_1.eng 15).parking = true ∧ w_EnginesEnergyAndHeat_1.residents 15 = [] ∧
    (w_EnginesEnergyAndHeat_1.engState 15 ≠ esFault) ∧
    w_EnginesEnergyAndHeat_3.returning = some 9 ∧ (w_EnginesEnergyAndHeat_3.thermal ≤ 1) ∧
    w_EnginesEnergyAndHeat_3.periodic Timer.engReturn 100000000 = true ∧
    (w_EnginesEnergyAndHeat_5.engState 15 ≠ esFault) ∧
    (w_EnginesEnergyAndHeat_5a.engState 0 ≠ esFault) ∧
    w_EnginesEnergyAndHeat_6.judgeWrite Requester.sup (Reg.ENG_TEST 15) 1 (w_EnginesEnergyAndHeat_6.engTestExtra Requester.sup 15 1) = 0 ∧
    w_EnginesEnergyAndHeat_7.engState 15 = esFault ∧ (w_EnginesEnergyAndHeat_7.eng 15).failed = false ∧
    w_EnginesEnergyAndHeat_7.residents 15 = [] ∧ w_EnginesEnergyAndHeat_7.ssp.stall = false ∧
    w_EnginesEnergyAndHeat_7.periodic (Timer.engEmpty 15) 1000000000 = true ∧
    w_EnginesEnergyAndHeat_9.engState 15 = esTest ∧ (¬((w_EnginesEnergyAndHeat_9.eng 15).testFault = true ∧
    (w_EnginesEnergyAndHeat_9.eng 15).failed = true)) ∧
    w_EnginesEnergyAndHeat_10.engState 15 = esTest ∧ (w_EnginesEnergyAndHeat_10.eng 15).testFault = true ∧
    (w_EnginesEnergyAndHeat_10.eng 15).failed = true ∧
    w_EnginesEnergyAndHeat_11.engState 15 = esTest ∧ (5 % 65536 ≠ 0) ∧
    (w_EnginesEnergyAndHeat_13.sched.windowStart + 100000000 ≤ w_EnginesEnergyAndHeat_13.now) ∧
    w_EnginesEnergyAndHeat_15.periodic Timer.thermal 10000000 = true ∧
    w_EnginesEnergyAndHeat_15a.periodic Timer.thermal 10000000 = true ∧
    w_EnginesEnergyAndHeat_15b.periodic Timer.thermal 10000000 = true ∧
    w_EnginesEnergyAndHeat_2.periodic Timer.park 100000000 = false ∧
    w_EnginesEnergyAndHeat_4.periodic Timer.engReturn 100000000 = false ∧
    (w_EnginesEnergyAndHeat_8.ssp.stall = true ∨ w_EnginesEnergyAndHeat_8.periodic (Timer.engEmpty 15) 1000000000 = false) ∧
    (w_EnginesEnergyAndHeat_8a.ssp.stall = true ∨ w_EnginesEnergyAndHeat_8a.periodic (Timer.engEmpty 15) 1000000000 = false) ∧
    (w_EnginesEnergyAndHeat_12.now < w_EnginesEnergyAndHeat_12.sched.windowStart + 100000000) ∧
    w_EnginesEnergyAndHeat_14.periodic Timer.thermal 10000000 = false := by
  (repeat' apply And.intro) <;> first | with_reducible rfl | decide +kernel

def frcAt (b : Block) : Block := ph .good (stt 4 (unl 0x28 b))
def w_ForceCommands_0 : State := mk fun b => frcAt b
def w_ForceCommands_1 : State := mk fun b => frcAt b
def w_ForceCommands_2 : State := mk fun b => frcAt b
def w_ForceCommands_3 : State := mk fun b => frcAt b
def w_ForceCommands_4 : State := mk fun b => { frcAt b with frc := { pending := some ⟨1, ⟨7, 2, 5, 0, 0, false, none⟩, .sup⟩ } }
def w_ForceCommands_4a : State := mk fun b => { frcAt b with frc := { table := [(4, ⟨7, 2, 5, 0, 0, false, none⟩)], pending := some ⟨3, ⟨7, 2, 5, 0, 0, false, none⟩, .sup⟩ } }
def w_ForceCommands_4b : State := mk fun b => { frcAt b with frc := { table := [(4, ⟨7, 2, 5, 0, 0, false, none⟩)], pending := some ⟨2, ⟨7, 2, 5, 0, 0, false, none⟩, .sup⟩ } }
def w_ForceCommands_5 : State := mk fun b => { (frcAt b).fset F.RED_STAT_PAIR_OK 1 with frc := { pending := some ⟨1, ⟨7, 2, 5, 0, 0, false, none⟩, .sup⟩ }, pwr := { b.pwr with base := .unitA } }
def w_ForceCommands_7 : State := mk fun b => { frcAt b with frc := { pending := some ⟨1, ⟨7, 2, 5, 0, 0, false, none⟩, .sup⟩ }, pwr := { b.pwr with base := .unitA } }
def w_ForceCommands_6 : State := mk fun b => supStalls (frcAt b)
/-- States and operands that meet the hypotheses of ForceCommands. -/
theorem wit_ForceCommands :
    w_ForceCommands_0.judgeWrite Requester.sup Reg.FRC_CMD 1 = 0 ∧
    w_ForceCommands_1.judgeWrite Requester.sup Reg.FRC_CMD 2 = 0 ∧
    w_ForceCommands_2.judgeWrite Requester.sup Reg.FRC_CMD 3 = 0 ∧
    w_ForceCommands_3.judgeWrite Requester.sup Reg.FRC_CMD (511 * 65536 + 4) = 0 ∧
    w_ForceCommands_3.frc.pending = none ∧
    w_ForceCommands_4.frc.pending = some (FrcCmd.mk 1 (FrcEntry.mk 7 2 5 0 0 false none) Requester.sup) ∧
    w_ForceCommands_4.frc.agreed = none ∧ w_ForceCommands_4.frc.idle = false ∧
    (w_ForceCommands_4.onPair = false ∨ true = true ∧ w_ForceCommands_4.fgetB F.RED_STAT_PAIR_OK = false) ∧
    w_ForceCommands_4.ssp.stall = false ∧
    w_ForceCommands_4a.frc.pending = some (FrcCmd.mk 3 (FrcEntry.mk 7 2 5 0 0 false none) Requester.sup) ∧
    w_ForceCommands_4a.frc.agreed = none ∧ w_ForceCommands_4a.frc.idle = false ∧
    (w_ForceCommands_4a.onPair = false ∨ true = true ∧ w_ForceCommands_4a.fgetB F.RED_STAT_PAIR_OK = false) ∧
    w_ForceCommands_4a.ssp.stall = false ∧
    w_ForceCommands_4b.frc.pending = some (FrcCmd.mk 2 (FrcEntry.mk 7 2 5 0 0 false none) Requester.sup) ∧
    w_ForceCommands_4b.frc.agreed = none ∧ w_ForceCommands_4b.frc.idle = false ∧
    (w_ForceCommands_4b.onPair = false ∨ false = true ∧ w_ForceCommands_4b.fgetB F.RED_STAT_PAIR_OK = false) ∧
    w_ForceCommands_4b.ssp.stall = false ∧
    w_ForceCommands_5.frc.pending = some (FrcCmd.mk 1 (FrcEntry.mk 7 2 5 0 0 false none) Requester.sup) ∧
    w_ForceCommands_5.frc.agreed = none ∧ w_ForceCommands_5.onPair = true ∧
    w_ForceCommands_5.fgetB F.RED_STAT_PAIR_OK = true ∧ w_ForceCommands_5.ssp.stall = false ∧
    w_ForceCommands_7.frc.pending = some (FrcCmd.mk 1 (FrcEntry.mk 7 2 5 0 0 false none) Requester.sup) ∧
    w_ForceCommands_7.frc.agreed = none ∧ w_ForceCommands_7.onPair = true ∧ w_ForceCommands_7.ssp.stall = false ∧
    w_ForceCommands_6.ssp.stall = true := by
  (repeat' apply And.intro) <;> first | with_reducible rfl | decide +kernel

def prog0 : Prog := { version := 4, vintage := 1, buildId := 0, ctxs := [], vids := [] }
def olcWith (n : Nat) (b : Block) : Block := { ph .good (stt 4 ((unl 0x29 b).fset F.OLC_STAT_STATE n)) with prog := some prog0, olc := { b.olc with pkg := barePackage, staged := some prog0 } }
def patProg : Prog := { prog0 with ctxs := [(3, {})] }
def w_ChangePackages_0 : State := mk fun b => ((olcWith olcReceiving b).setRegN Reg.OLC_RCVD 8).setRegN Reg.OLC_PKG_SIZE 8
def w_ChangePackages_1 : State := mk fun b => olcWith olcVerifying b
def w_ChangePackages_2 : State := mk fun b => { olcWith olcVerifying b with olc := { b.olc with pkg := [1] } }
def w_ChangePackages_3 : State := mk fun b => (stt 2 b).fset (F.CTX_CFG_VALID 3) 1
def w_ChangePackages_4 : State := mk fun b => stt 2 b
def w_ChangePackages_5 : State := mk fun b => stt 3 b
def w_ChangePackages_6 : State := mk fun b => { olcWith olcStaged b with olc := { b.olc with staged := some patProg, pats := [(onePattern.map (BitVec.ofNat 32)).map (BitVec.toNat (w := 32))] } }
def w_ChangePackages_7 : State := mk fun b => olcWith olcReceiving b
def w_ChangePackages_7a : State := mk fun b => olcWith olcStaged b
def w_ChangePackages_8 : State := mk fun b => olcWith olcStaged b
def w_ChangePackages_9 : State := mk fun b => { olcWith olcStaged b with olc := { b.olc with staged := some prog0, commitWait := true } }
def w_ChangePackages_10 : State := mk fun b => olcWith olcArmed b
def w_ChangePackages_11 : State := mk fun b => olcWith olcStaged b
def w_ChangePackages_12 : State := mk fun b => olcWith olcArmed b
def w_ChangePackages_13 : State := mk fun b => { ((olcWith olcArmed b).fset F.RED_STAT_ROLE rolePrimary).fset F.RED_STAT_PAIR_OK 1 with pwr := { (olcWith olcArmed b).pwr with base := .unitA } }
def w_ChangePackages_14 : State := mk fun b => { olcWith olcArmed b with olc := { (olcWith olcArmed b).olc with switchAt := some 5 } }
def w_ChangePackages_17 : State := mk fun b => after (.armed) 2000000000 <| olcWith olcArmed b
def w_ChangePackages_16 : State := mk fun b => after .armed 1999999999 (olcWith olcArmed b)
/-- States and operands that meet the hypotheses of ChangePackages. -/
theorem wit_ChangePackages :
    w_ChangePackages_0.olcAt = olcReceiving ∧
    w_ChangePackages_0.regN Reg.OLC_RCVD = w_ChangePackages_0.regN Reg.OLC_PKG_SIZE ∧
    (w_ChangePackages_0.regN Reg.OLC_PKG_SIZE ≠ 0) ∧
    w_ChangePackages_1.olcAt = olcVerifying ∧ w_ChangePackages_1.verifyPackage w_ChangePackages_1.olc.pkg = none ∧
    w_ChangePackages_1.prog = some prog0 ∧ (w_ChangePackages_1.onPair = false ∨ false = true) ∧
    w_ChangePackages_2.olcAt = olcVerifying ∧
    w_ChangePackages_2.verifyPackage w_ChangePackages_2.olc.pkg = some (Verdict.mk 2 none none) ∧
    w_ChangePackages_4.modState = stCommission ∧
    ((w_ChangePackages_4.patLoad w_ChangePackages_4.ctxAbc false (List.map (BitVec.toNat (w := 32)) [1])).snd ≠ 0) ∧
    (w_ChangePackages_5.modState ≠ stCommission) ∧
    w_ChangePackages_7.judgeWrite Requester.sup Reg.OLC_CMD 1 = 0 ∧
    w_ChangePackages_7a.judgeWrite Requester.sup Reg.OLC_CMD 1 = 0 ∧
    w_ChangePackages_8.judgeWrite Requester.sup Reg.OLC_CMD 2 = 0 ∧ w_ChangePackages_8.olcAt = olcStaged ∧
    w_ChangePackages_8.olc.staged = some prog0 ∧
    w_ChangePackages_8.frcConflicts prog0 w_ChangePackages_8.olc.released = [] ∧
    w_ChangePackages_9.olcAt = olcStaged ∧ w_ChangePackages_9.olc.commitWait = true ∧
    w_ChangePackages_9.armReady = true ∧ w_ChangePackages_9.olc.staged = some prog0 ∧
    w_ChangePackages_9.frcConflicts prog0 w_ChangePackages_9.olc.released = [] ∧
    w_ChangePackages_10.judgeWrite Requester.sup Reg.OLC_CMD 3 = 0 ∧ w_ChangePackages_10.olcAt = olcArmed ∧
    w_ChangePackages_11.judgeWrite Requester.sup Reg.OLC_CMD 4 = 0 ∧
    (w_ChangePackages_11.olcAt = olcReceiving ∨ w_ChangePackages_11.olcAt = olcStaged) ∧
    w_ChangePackages_12.olcAt = olcArmed ∧ w_ChangePackages_12.olcBoundary = true ∧
    w_ChangePackages_12.powerFailing = false ∧ w_ChangePackages_12.onPair = false ∧
    w_ChangePackages_12.olc.switchAt = none ∧ w_ChangePackages_12.olc.staged = some prog0 ∧
    w_ChangePackages_12.prog = some prog0 ∧
    w_ChangePackages_13.olcAt = olcArmed ∧ w_ChangePackages_13.olcBoundary = true ∧
    w_ChangePackages_13.powerFailing = false ∧ w_ChangePackages_13.olc.switchAt = none ∧
    w_ChangePackages_13.onPair = true ∧ w_ChangePackages_13.role = rolePrimary ∧
    w_ChangePackages_13.fgetB F.RED_STAT_PAIR_OK = true ∧
    w_ChangePackages_14.olcAt = olcArmed ∧ w_ChangePackages_14.olc.switchAt = some 5 ∧
    w_ChangePackages_14.olc.staged = some prog0 ∧ w_ChangePackages_14.prog = some prog0 ∧
    w_ChangePackages_14.olcBoundary = true ∧
    w_ChangePackages_17.olcAt = olcArmed ∧ w_ChangePackages_17.olc.switchAt = none ∧
    w_ChangePackages_17.passed Timer.armed 2000000000 = true ∧
    w_ChangePackages_16.passed Timer.armed 2000000000 = false := by
  (repeat' apply And.intro) <;> first | with_reducible rfl | decide +kernel

def job0 : SolJob := { slot := 2, ctx := 3, cls := 1, budget := 0, kind := 1, cert := false, refactor := false, warm := false, logical := 0, id := 1, dl := .tsu 5, tol := 0, maxIt := 10, mat := [], rhs := [], seq := 1, ta := 0, pairFloat := true }
def pat0 : Pat := { img := parsePattern onePattern, vals := [0x3F800000], rhs := [0x3FF0000000000000], sol := [0x3FF0000000000000] }
def run0 (k : Nat) : SolRun := { job := { job0 with kind := k }, phys := 0, ts := 0, lanes := 0, certified := false, kres := 1, tau := 20, start := [0x3FF0000000000000], factor := false, resume := 0 }
def solB (b : Block) : Block := { ph .good (stt 4 (unl 0x30 b)) |>.fset (F.SOL_PS_STATE_STATE 0) psActive with sol := { b.sol with pats := [(0, pat0)] } }
def w_SolverJobs_0 : State := mk fun b => { solB b with sol := { b.sol with pats := [(0, pat0)], waiting := some { job0 with kind := 0 } } }
def w_SolverJobs_1 : State := mk fun b => { solB b with sol := { b.sol with pats := [(0, pat0)], waiting := some { job0 with logical := 5 } } }
def w_SolverJobs_2 : State := mk fun b => { solB b with sol := { b.sol with pats := [(0, pat0)], running := some (run0 1) } }
def w_SolverJobs_3 : State := mk fun b => { solB b with sol := { b.sol with pats := [(0, pat0)], running := some (run0 0) } }
def w_SolverJobs_4 : State := mk fun b => { (solB b).fset F.RED_STAT_ROLE roleStandby |>.fset F.RED_STAT_PAIR_OK 1 with pwr := { (solB b).pwr with base := .unitA }, sol := { b.sol with waiting := some job0 } }
def w_SolverJobs_5 : State := mk fun b => { solB b with sol := { b.sol with pats := [(0, pat0)], running := some (run0 1) } }
def w_SolverJobs_6 : State := mk fun b => { (solB b).setRegN Reg.TSU_TIME_LO 5 with sol := { b.sol with pats := [(0, pat0)], running := some (run0 1) } }
def w_SolverJobs_7 : State := mk fun b => { solB b with sol := { b.sol with pats := [(0, pat0)], waiting := some job0 } }
/-- States and operands that meet the hypotheses of SolverJobs. -/
theorem wit_SolverJobs :
    w_SolverJobs_0.sol.waiting =   some     (let __src := job0;     SolJob.mk __src.slot __src.ctx __src.cls __src.budget 0 __src.cert __src.refactor __src.warm __src.logical __src.id __src.dl __src.tol __src.maxIt __src.mat __src.rhs __src.seq __src.ta __src.pairFloat) ∧
    ((let __src := job0;     SolJob.mk __src.slot __src.ctx __src.cls __src.budget 0 __src.cert __src.refactor __src.warm __src.logical __src.id __src.dl __src.tol __src.maxIt __src.mat __src.rhs __src.seq __src.ta __src.pairFloat).slot <   16) ∧
    w_SolverJobs_0.sol.running = none ∧ w_SolverJobs_0.sol.down = false ∧ (w_SolverJobs_0.modState ≠ stHalt) ∧
    w_SolverJobs_0.solForeign     (let __src := job0;     SolJob.mk __src.slot __src.ctx __src.cls __src.budget 0 __src.cert __src.refactor __src.warm __src.logical __src.id __src.dl __src.tol __src.maxIt __src.mat __src.rhs __src.seq __src.ta __src.pairFloat) =   false ∧
    w_SolverJobs_0.psOf     (let __src := job0;       SolJob.mk __src.slot __src.ctx __src.cls __src.budget 0 __src.cert __src.refactor __src.warm __src.logical __src.id __src.dl __src.tol __src.maxIt __src.mat __src.rhs __src.seq __src.ta __src.pairFloat).logical =   some 0 ∧
    w_SolverJobs_0.pat 0 = some pat0 ∧
    pat0.img.id =   (let __src := job0;     SolJob.mk __src.slot __src.ctx __src.cls __src.budget 0 __src.cert __src.refactor __src.warm __src.logical __src.id __src.dl __src.tol __src.maxIt __src.mat __src.rhs __src.seq __src.ta __src.pairFloat).id ∧
    ((let __src := job0;       SolJob.mk __src.slot __src.ctx __src.cls __src.budget 0 __src.cert __src.refactor __src.warm __src.logical __src.id __src.dl __src.tol __src.maxIt __src.mat __src.rhs __src.seq __src.ta __src.pairFloat).kind ≠     1 ∨   w_SolverJobs_0.dlPassed         (let __src := job0;           SolJob.mk __src.slot __src.ctx __src.cls __src.budget 0 __src.cert __src.refactor __src.warm __src.logical __src.id __src.dl __src.tol __src.maxIt __src.mat __src.rhs __src.seq __src.ta __src.pairFloat).dl =       false ∧
        ((let __src := job0;           SolJob.mk __src.slot __src.ctx __src.cls __src.budget 0 __src.cert __src.refactor __src.warm __src.logical __src.id __src.dl __src.tol __src.maxIt __src.mat __src.rhs __src.seq __src.ta __src.pairFloat).cert =         true ∨       (applyDeltas pat0.vals                 (let __src := job0;                   SolJob.mk __src.slot __src.ctx __src.cls __src.budget 0 __src.cert __src.refactor __src.warm __src.logical __src.id __src.dl __src.tol __src.maxIt __src.mat __src.rhs __src.seq __src.ta __src.pairFloat).mat).all             finite32 =           true ∧
            (applyDeltas pat0.rhs                 (let __src := job0;                   SolJob.mk __src.slot __src.ctx __src.cls __src.budget 0 __src.cert __src.refactor __src.warm __src.logical __src.id __src.dl __src.tol __src.maxIt __src.mat __src.rhs __src.seq __src.ta __src.pairFloat).rhs).all             finite64 =           true)) ∧
    w_SolverJobs_1.sol.waiting =   some     (let __src := job0;     SolJob.mk __src.slot __src.ctx __src.cls __src.budget __src.kind __src.cert __src.refactor __src.warm 5 __src.id __src.dl __src.tol __src.maxIt __src.mat __src.rhs __src.seq __src.ta __src.pairFloat) ∧
    w_SolverJobs_1.sol.running = none ∧ w_SolverJobs_1.sol.down = false ∧ (w_SolverJobs_1.modState ≠ stHalt) ∧
    w_SolverJobs_1.solForeign     (let __src := job0;     SolJob.mk __src.slot __src.ctx __src.cls __src.budget __src.kind __src.cert __src.refactor __src.warm 5 __src.id __src.dl __src.tol __src.maxIt __src.mat __src.rhs __src.seq __src.ta __src.pairFloat) =   false ∧
    w_SolverJobs_1.psOf     (let __src := job0;       SolJob.mk __src.slot __src.ctx __src.cls __src.budget __src.kind __src.cert __src.refactor __src.warm 5 __src.id __src.dl __src.tol __src.maxIt __src.mat __src.rhs __src.seq __src.ta __src.pairFloat).logical =   none ∧
    w_SolverJobs_2.sol.running = some (run0 1) ∧ (run0 1).job.kind = 1 ∧ w_SolverJobs_2.pat (run0 1).phys = some pat0 ∧
    w_SolverJobs_3.sol.running = some (run0 0) ∧ ((run0 0).job.kind ≠ 1) ∧
    w_SolverJobs_4.sol.waiting = some job0 ∧ w_SolverJobs_4.sol.running = none ∧ w_SolverJobs_4.solForeign job0 = true ∧
    w_SolverJobs_5.sol.running = some (run0 1) ∧ w_SolverJobs_5.dlFires (run0 1).job.dl = false ∧
    w_SolverJobs_6.sol.running = some (run0 1) ∧ (run0 1).job.kind = 1 ∧ w_SolverJobs_6.pat (run0 1).phys = some pat0 ∧
    w_SolverJobs_6.dlFires (run0 1).job.dl = true ∧
    w_SolverJobs_7.judgeWrite Requester.sup (Reg.SOL_JOB_CTL 2) (BitVec.toNat (2147483648 : Word)) = 0 ∧
    bit (BitVec.toNat (2147483648 : Word)) 31 = true ∧ w_SolverJobs_7.sol.waiting = some job0 ∧ job0.slot = 2 := by
  (repeat' apply And.intro) <;> first | with_reducible rfl | decide +kernel

def chB (n m : Nat) (b : Block) : Block := { (ph .good (stt 4 (unl (0x40 + n) b))).fset (F.CH_MODE_MODE n) m with pwr := { b.pwr with phase := .good, frontEnds := true, released := true } }
def w_ChannelInputs_0 : State := mk fun b => chB 63 1 b
def w_ChannelInputs_0a : State := mk fun b => chB 0 3 b
def w_ChannelInputs_0b : State := mk fun b => chB 0 2 b
def w_ChannelInputs_1 : State := mk fun b => chB 63 4 b
def w_ChannelInputs_2 : State := mk fun b => chB 63 4 b
def w_ChannelInputs_2a : State := mk fun b => chB 0 6 b
def w_ChannelInputs_3 : State := mk fun b => chB 63 8 b
def w_ChannelInputs_3a : State := mk fun b => chB 63 5 b
def w_ChannelInputs_4 : State := mk fun b => chB 63 7 b
def w_ChannelInputs_4a : State := mk fun b => chB 63 4 b
def w_ChannelInputs_5 : State := mk fun b => { chB 63 7 b with chans := [(63, { island := true, anom := 1 })] }
/-- States and operands that meet the hypotheses of ChannelInputs. -/
theorem wit_ChannelInputs :
    hasTrims (w_ChannelInputs_0.chMode 63) = true ∧ w_ChannelInputs_0.pwr.frontEnds = true ∧
    w_ChannelInputs_0.fgetB (F.CH_STAT_FIELD 63) = false ∧
    hasTrims (w_ChannelInputs_0a.chMode 0) = true ∧ w_ChannelInputs_0a.pwr.frontEnds = true ∧
    w_ChannelInputs_0a.fgetB (F.CH_STAT_FIELD 0) = false ∧
    hasTrims (w_ChannelInputs_0b.chMode 0) = true ∧ w_ChannelInputs_0b.pwr.frontEnds = true ∧
    w_ChannelInputs_0b.fgetB (F.CH_STAT_FIELD 0) = false ∧
    isDiMode (w_ChannelInputs_1.chMode 63) = true ∧ w_ChannelInputs_1.pwr.frontEnds = true ∧
    w_ChannelInputs_1.fgetB (F.CH_STAT_FIELD 63) = false ∧
    (isDiMode (w_ChannelInputs_2.chMode 63) = true ∨ isDoMode (w_ChannelInputs_2.chMode 63) = true) ∧
    w_ChannelInputs_2.pwr.frontEnds = true ∧ w_ChannelInputs_2.fgetB (F.CH_STAT_FIELD 63) = false ∧
    (isDiMode (w_ChannelInputs_2a.chMode 0) = true ∨ isDoMode (w_ChannelInputs_2a.chMode 0) = true) ∧
    w_ChannelInputs_2a.pwr.frontEnds = true ∧ w_ChannelInputs_2a.fgetB (F.CH_STAT_FIELD 0) = false ∧
    (w_ChannelInputs_3.chMode 63 = 5 ∨ w_ChannelInputs_3.chMode 63 = 8) ∧ w_ChannelInputs_3.pwr.frontEnds = true ∧
    w_ChannelInputs_3.fgetB (F.CH_STAT_FIELD 63) = false ∧
    (w_ChannelInputs_3a.chMode 63 = 5 ∨ w_ChannelInputs_3a.chMode 63 = 8) ∧ w_ChannelInputs_3a.pwr.frontEnds = true ∧
    w_ChannelInputs_3a.fgetB (F.CH_STAT_FIELD 63) = false ∧
    isDiMode (w_ChannelInputs_4.chMode 63) = true ∧ w_ChannelInputs_4.pwr.frontEnds = true ∧
    w_ChannelInputs_4.fgetB (F.CH_STAT_FIELD 63) = false ∧
    isDiMode (w_ChannelInputs_4a.chMode 63) = true ∧ w_ChannelInputs_4a.pwr.frontEnds = true ∧
    w_ChannelInputs_4a.fgetB (F.CH_STAT_FIELD 63) = false ∧
    isDiMode (w_ChannelInputs_5.chMode 63) = true ∧ w_ChannelInputs_5.pwr.frontEnds = true ∧
    w_ChannelInputs_5.fgetB (F.CH_STAT_FIELD 63) = false ∧ w_ChannelInputs_5.fgetB (F.CH_STAT_TP_FAULT 63) = false ∧
    bit (chipCode (w_ChannelInputs_5.fget (F.CH_DI_CFG_TP_SLOT 63))) 0 = true ∧
    bit (w_ChannelInputs_5.chan 63).anom 0 = true ∧ (w_ChannelInputs_5.chan 63).island = true ∧
    w_ChannelInputs_5.powerFailing = false := by
  (repeat' apply And.intro) <;> first | with_reducible rfl | decide +kernel

def outB (n m v : Nat) (b : Block) : Block := { chB n m b with chans := [(n, { last := some v, active := true })] }
def w_ChannelStages_0 : State := mk fun b => outB 63 3 0x41000000 b
def w_ChannelStages_0a : State := mk fun b => outB 63 10 0x41000000 b
def w_ChannelStages_1 : State := mk fun b => (outB 63 3 0 b).fset (F.CH_STAT_COMPLIANCE 63) 1
def w_ChannelStages_2 : State := mk fun b => after (.comp 63) 36000000000000 <| (chB 63 3 b).fset (F.CH_STAT_COMPLIANCE 63) 1
def w_ChannelStages_4 : State := mk fun b => chB 63 3 b
def w_ChannelStages_4a : State := mk fun b => chB 63 6 b
def w_ChannelStages_5 : State := mk fun b => (chB 63 3 b).fset (F.CH_STAT_THERMAL 63) 1
def w_ChannelStages_6 : State := mk fun b => chB 63 6 b
def w_ChannelStages_6a : State := mk fun b => chB 63 9 b
def w_ChannelStages_7 : State := mk fun b => after (.overload 63) 1000000000 <| ((outB 63 6 1 b).fset (F.CH_DO_CFG_RETRY 63) 1).fset (F.CH_STAT_OVERLOAD 63) 1
def w_ChannelStages_9 : State := mk fun b => { (chB 63 6 b).fset (F.CH_DO_CFG_OPEN_DET 63) 1 with chans := [(63, { last := some 1, active := true, onNow := true })] }
def w_ChannelStages_10 : State := mk fun b => (outB 63 6 1 b).fset (F.CH_STAT_RATE_HOLD 63) 1
def w_ChannelStages_11 : State := mk fun b => { chB 63 6 b with chans := [(63, { clamps := [(0, 30000)] })] }
def w_ChannelStages_3 : State := mk fun b => b.timed (.comp 63)
def w_ChannelStages_3a : State := mk fun b => b
def w_ChannelStages_8 : State := mk fun b => after (.overload 63) 999999999 b
/-- States and operands that meet the hypotheses of ChannelStages. -/
theorem wit_ChannelStages :
    w_ChannelStages_0.energised 63 = true ∧ w_ChannelStages_0.fgetB (F.CH_STAT_COMPLIANCE 63) = false ∧
    w_ChannelStages_0.stageShort 63 0 = true ∧ (supplyLimit w_ChannelStages_0.busMv ≤ 23000 + 2000) ∧
    w_ChannelStages_0a.energised 63 = true ∧ w_ChannelStages_0a.fgetB (F.CH_STAT_COMPLIANCE 63) = false ∧
    w_ChannelStages_0a.stageShort 63 0 = true ∧ (supplyLimit w_ChannelStages_0a.busMv ≤ 23000 + 2000) ∧
    (w_ChannelStages_1.drive 63).target = some 1081291571 ∧
    nearTo 1081291571 (w_ChannelStages_1.trimmed 63 (codeCurrent 1328196)) = true ∧
    w_ChannelStages_2.chMode 63 = 3 ∧ w_ChannelStages_2.energised 63 = true ∧ w_ChannelStages_2.holdsLocal = true ∧
    w_ChannelStages_2.fgetB (F.CH_STAT_CHANNEL_FAULT 63) = false ∧
    (w_ChannelStages_2.fgetB (F.CH_STAT_COMPLIANCE 63) = true ∨ w_ChannelStages_2.fgetB (F.CH_STAT_THERMAL 63) = true ∧
    (w_ChannelStages_2.chan 63).short = true) ∧
    w_ChannelStages_2.passed (Timer.comp 63) (1000000 * w_ChannelStages_2.fget (F.CH_AO_CFG_COMP_TIME 63)) = true ∧
    (2000 ≤ 2000) ∧ (isAoMode (w_ChannelStages_4.chMode 63) = true ∨ isDoMode (w_ChannelStages_4.chMode 63) = true) ∧
    (2000 ≤ 2500) ∧ (isAoMode (w_ChannelStages_4a.chMode 63) = true ∨ isDoMode (w_ChannelStages_4a.chMode 63) = true) ∧
    (1839 < 1840) ∧
    isDoMode (w_ChannelStages_6.chMode 63) = true ∧ w_ChannelStages_6.fgetB (F.CH_STAT_OVERLOAD 63) = false ∧
    isDoMode (w_ChannelStages_6a.chMode 63) = true ∧ w_ChannelStages_6a.fgetB (F.CH_STAT_OVERLOAD 63) = false ∧
    w_ChannelStages_7.chMode 63 = 6 ∧ w_ChannelStages_7.fget (F.CH_DO_CFG_RETRY 63) = 1 ∧
    w_ChannelStages_7.fgetB (F.CH_STAT_OVERLOAD 63) = true ∧ (w_ChannelStages_7.wanted 63).target = some 1 ∧
    w_ChannelStages_7.passed (Timer.overload 63) 1000000000 = true ∧
    isDoMode (w_ChannelStages_9.chMode 63) = true ∧ w_ChannelStages_9.fgetB (F.CH_DO_CFG_OPEN_DET 63) = true ∧
    (w_ChannelStages_9.chan 63).onNow = true ∧ (w_ChannelStages_9.stage 63).target = some 1 ∧
    w_ChannelStages_9.holdsLocal = true ∧
    w_ChannelStages_10.fgetB (F.CH_STAT_RATE_HOLD 63) = true ∧
    (clampSum w_ChannelStages_10.clk (w_ChannelStages_10.chan 63).clamps ≤ 20000) ∧
    (20000 < clampSum w_ChannelStages_11.clk (w_ChannelStages_11.chan 63).clamps) ∧
    w_ChannelStages_3.passed (Timer.comp 63) (1000000 * w_ChannelStages_3.fget (F.CH_AO_CFG_COMP_TIME 63)) = false ∧
    w_ChannelStages_3a.passed (Timer.comp 63) (1000000 * w_ChannelStages_3a.fget (F.CH_AO_CFG_COMP_TIME 63)) = false ∧
    w_ChannelStages_8.passed (Timer.overload 63) 1000000000 = false := by
  (repeat' apply And.intro) <;> first | with_reducible rfl | decide +kernel

def calB (n m : Nat) (cs : CalSession) (b : Block) : Block := { chB n m b with chans := [(n, { cal := some cs })] }
def w_ChannelSettings_0 : State := mk fun b => stt 2 (chB 63 0 b)
def w_ChannelSettings_1 : State := mk fun b => { chB 63 3 b with chans := [(63, { island := true })] }
def w_ChannelSettings_2 : State := mk fun b => chB 63 3 b
def w_ChannelSettings_3 : State := mk fun b => stt 3 (chB 63 1 b)
def w_ChannelSettings_3a : State := mk fun b => chB 63 6 b
def w_ChannelSettings_4 : State := mk fun b => calB 63 1 {} b
def w_ChannelSettings_5 : State := mk fun b => calB 63 2 {} b
def w_ChannelSettings_6 : State := mk fun b => calB 63 1 { zero := some ⟨0x40800000, 0x40800000⟩ } b
def w_ChannelSettings_7 : State := mk fun b => calB 63 1 {} b
def w_ChannelSettings_8 : State := mk fun b => calB 63 1 {} b
def w_ChannelSettings_9 : State := mk fun b => after (.calPoint 63) 1000000000 <| calB 63 1 { zero := some ⟨0x40800000, 0⟩, wait := .average false } b
def w_ChannelSettings_13 : State := mk fun b => calB 63 1 { wait := .durable 0 0x3F800000 1 } b
def w_ChannelSettings_14 : State := mk fun b => after (.calCommand 63) 600000000000 <| calB 63 1 {} b
def w_ChannelSettings_10 : State := mk fun b => after (.calPoint 63) 999999999 b
def w_ChannelSettings_11 : State := mk fun b => supStalls b
def w_ChannelSettings_12 : State := mk fun b => after (.calCommand 63) 599999999999 b
/-- States and operands that meet the hypotheses of ChannelSettings. -/
theorem wit_ChannelSettings :
    w_ChannelSettings_0.judgeWrite Requester.sup (Reg.CH_MODE 63) (BitVec.toNat (6 : Word)) (codeIf (w_ChannelSettings_0.chModeConflict 63 (BitVec.toNat (6 : Word)) && w_ChannelSettings_0.chModeJudge 63 (BitVec.toNat (6 : Word)) == 0) cfgConflict ++ codeIf (bit (BitVec.toNat (6 : Word)) 8 && !hasTrims (bits (BitVec.toNat (6 : Word)) 0 4)) accValue) = 0 ∧
    w_ChannelSettings_1.judgeWrite Requester.sup (Reg.CH_CMD 63) 1 (chCmdExtra Requester.sup 1) = 0 ∧
    w_ChannelSettings_1.chPending 63 = false ∧ (w_ChannelSettings_1.chan 63).island = true ∧
    w_ChannelSettings_2.judgeWrite Requester.sup (Reg.CH_CMD 63) 1 (chCmdExtra Requester.sup 1) = 0 ∧
    w_ChannelSettings_2.chPending 63 = false ∧ (w_ChannelSettings_2.chan 63).island = false ∧
    w_ChannelSettings_3.judgeWrite Requester.sup (Reg.CH_CMD 63) 2 = 0 ∧ w_ChannelSettings_3.chPending 63 = false ∧
    w_ChannelSettings_3a.judgeWrite Requester.sup (Reg.CH_CMD 63) 2 = 0 ∧ w_ChannelSettings_3a.chPending 63 = false ∧
    w_ChannelSettings_4.judgeWrite Requester.sup (Reg.CH_CMD 63) 3 = 0 ∧
    (w_ChannelSettings_4.chan 63).cal = some (CalSession.mk false 0 none none false CalWait.none) ∧
    (CalSession.mk false 0 none none false CalWait.none).wait = CalWait.none ∧
    isAiMode (w_ChannelSettings_4.chMode 63) = true ∧
    w_ChannelSettings_5.judgeWrite Requester.sup (Reg.CH_CMD 63) 4 = 0 ∧
    (w_ChannelSettings_5.chan 63).cal = some (CalSession.mk false 0 none none false CalWait.none) ∧
    (CalSession.mk false 0 none none false CalWait.none).wait = CalWait.none ∧
    isAiMode (w_ChannelSettings_5.chMode 63) = true ∧
    w_ChannelSettings_6.judgeWrite Requester.sup (Reg.CH_CMD 63) 5 = 0 ∧
    (w_ChannelSettings_6.chan 63).cal = some (CalSession.mk false 0 (some (CalPoint.mk 1082130432 1082130432)) none false CalWait.none) ∧
    (CalSession.mk false 0 (some (CalPoint.mk 1082130432 1082130432)) none false CalWait.none).wait = CalWait.none ∧
    w_ChannelSettings_6.calTrims 63 (CalSession.mk false 0 (some (CalPoint.mk 1082130432 1082130432)) none false CalWait.none) = some (0, 1065353216) ∧
    w_ChannelSettings_7.judgeWrite Requester.sup (Reg.CH_CMD 63) 6 = 0 ∧
    (w_ChannelSettings_7.chan 63).cal = some (CalSession.mk false 0 none none false CalWait.none) ∧
    (CalSession.mk false 0 none none false CalWait.none).wait = CalWait.none ∧
    w_ChannelSettings_8.judgeWrite Requester.sup (Reg.CH_CMD 63) 7 = 0 ∧
    (w_ChannelSettings_8.chan 63).cal = some (CalSession.mk false 0 none none false CalWait.none) ∧
    (CalSession.mk false 0 none none false CalWait.none).wait = CalWait.none ∧
    (w_ChannelSettings_9.chan 63).cal = some (CalSession.mk false 0 (some (CalPoint.mk 1082130432 0)) none false (CalWait.average false)) ∧
    (CalSession.mk false 0 (some (CalPoint.mk 1082130432 0)) none false (CalWait.average false)).wait = CalWait.average false ∧
    (CalSession.mk false 0 (some (CalPoint.mk 1082130432 0)) none false (CalWait.average false)).zero = some (CalPoint.mk 1082130432 0) ∧
    w_ChannelSettings_9.passed (Timer.calPoint 63) 1000000000 = true ∧
    (w_ChannelSettings_13.chan 63).cal = some (CalSession.mk false 0 none none false (CalWait.durable 0 1065353216 1)) ∧
    (CalSession.mk false 0 none none false (CalWait.durable 0 1065353216 1)).wait = CalWait.durable 0 1065353216 1 ∧
    w_ChannelSettings_13.ssp.stall = false ∧
    (w_ChannelSettings_14.chan 63).cal = some (CalSession.mk false 0 none none false CalWait.none) ∧
    w_ChannelSettings_14.passed (Timer.calCommand 63) 600000000000 = true ∧
    w_ChannelSettings_10.passed (Timer.calPoint 63) 1000000000 = false ∧
    w_ChannelSettings_11.ssp.stall = true ∧
    w_ChannelSettings_12.passed (Timer.calCommand 63) 600000000000 = false := by
  (repeat' apply And.intro) <;> first | with_reducible rfl | decide +kernel

def w_FieldSupply_0 : State := mk fun b => { chB 5 1 b with chans := [(5, { valued := true })] }
def w_FieldSupply_0a : State := mk fun b => b
def w_FieldSupply_1 : State := mk fun b => chB 5 6 b
def w_FieldSupply_2 : State := mk fun b => (chB 5 6 b).fset F.CHG_FP_STAT_TRIPPED 1
def w_FieldSupply_3 : State := mk fun b => { (chB 5 6 b).fset F.CHG_FP_STAT_UNDERVOLT 1 with pwr := { b.pwr with fieldOn := false, frontEnds := true } }
def w_FieldSupply_4 : State := mk fun b => { chB 5 6 b with pwr := { b.pwr with fieldOn := true, frontEnds := true } }
def w_FieldSupply_6 : State := mk fun b => { (chB 5 6 (unl 0x80 b)).fset F.CHG_FP_STAT_TRIPPED 1 with pwr := { b.pwr with phase := .good, fieldOn := false, frontEnds := true } }
/-- States and operands that meet the hypotheses of FieldSupply. -/
theorem wit_FieldSupply :
    w_FieldSupply_0.fgetB F.CHG_FP_STAT_UNDERVOLT = false ∧
    w_FieldSupply_0a.fgetB F.CHG_FP_STAT_UNDERVOLT = false ∧
    w_FieldSupply_1.fgetB F.CHG_FP_STAT_TRIPPED = false ∧
    w_FieldSupply_2.fgetB F.CHG_FP_STAT_TRIPPED = true ∧
    w_FieldSupply_3.fgetB F.CHG_FP_STAT_TRIPPED = false ∧ w_FieldSupply_3.pwr.fieldOn = false ∧
    w_FieldSupply_4.fgetB F.CHG_FP_STAT_TRIPPED = false ∧ w_FieldSupply_4.pwr.fieldOn = true ∧
    w_FieldSupply_6.judgeWrite Requester.sup Reg.CHG_CMD 1 = 0 ∧
    w_FieldSupply_6.fgetB F.CHG_FP_STAT_TRIPPED = true := by
  (repeat' apply And.intro) <;> first | with_reducible rfl | decide +kernel

def hq (slot : Option Nat) : HartReq := { slot := slot, ch := 63, addr := 0, cmd := 3, long := false, devId := 0, devType := 0, data := [] }
def hartB (b : Block) : Block := { (chB 63 1 (unl 0x81 b)).fset (F.CH_MODE_HART 63) 1 with hart := { b.hart with ready := true } }
def rsp0 (cmd : Nat) : HartRsp := ⟨true, false, 0, 0, 0, cmd, 0, 0, [5], [0, 1, 2, 3]⟩
def w_HartTransactions_0 : State := mk fun b => hartB b
def w_HartTransactions_0a : State := mk fun b => hartB b
def w_HartTransactions_1 : State := mk fun b => { hartB b with hart := { b.hart with ready := false } }
def w_HartTransactions_2 : State := mk fun b => hartB b
def w_HartTransactions_3 : State := mk fun b => (hartB b).fset (F.CH_STAT_FIELD 63) 1
def w_HartTransactions_4 : State := mk fun b => (hartB b).fset (F.HRT_T_STAT_STATE 15) 1
def w_HartTransactions_5 : State := mk fun b => { (hartB b).fset (F.HRT_T_STAT_STATE 15) 1 with hart := { b.hart with ready := true, queue := [hq none, hq (some 15)] } }
def w_HartTransactions_6 : State := mk fun b => { (hartB b).fset (F.HRT_T_STAT_STATE 15) 2 with hart := { b.hart with ready := true, runs := [⟨hq (some 15), 3, 1, true, false⟩] } }
def w_HartTransactions_7 : State := mk fun b => (hartB b).fset (F.HRT_T_STAT_STATE 15) 1
def w_HartTransactions_8 : State := mk fun b => { hartB b with hart := { b.hart with ready := true, queue := [hq (some 2)] } }
def w_HartTransactions_9 : State := mk fun b => (hartB b).fset (F.HRT_CH_STAT_HELD 63) 1
def w_HartTransactions_10 : State := mk fun b => { hartB b with hart := { b.hart with ready := true, runs := [⟨hq (some 2), 3, 1, true, false⟩] } }
def w_HartTransactions_11 : State := mk fun b => { hartB b with hart := { b.hart with ready := true, runs := [⟨hq (some 2), 3, 1, true, false⟩] } }
def w_HartTransactions_14 : State := mk fun b => after (.hartSent 63) 36000000000000 <| { hartB b with hart := { b.hart with ready := true, runs := [⟨hq (some 2), 3, 1, true, false⟩] } }
def w_HartTransactions_14a : State := mk fun b => after (.hartSent 63) 36000000000000 <| { hartB b with hart := { b.hart with ready := true, runs := [⟨hq (some 2), 3, 4, true, false⟩] } }
def w_HartTransactions_15 : State := mk fun b => after (.hartQueued 63 (some 15)) 36000000000000 <| { hartB b with hart := { b.hart with ready := true, queue := [hq none, hq (some 15)] } }
def w_HartTransactions_16 : State := mk fun b => after (.hartQueued 63 none) 36000000000000 <| { hartB b with hart := { b.hart with ready := true, queue := [hq none, hq (some 15)] } }
def w_HartTransactions_17 : State := mk fun b => hartB b
def w_HartTransactions_18 : State := mk fun b => ((((hartB b).fset (F.HRT_CH_STAT_HELD 63) 1).fset (F.HRT_CH_STAT_BOUND 63) 1).fset (F.HRT_CH_CFG_IMG_ADDR 63) 5).fset F.HRT_MODEM_MAP_HELD 1
def w_HartTransactions_19 : State := mk fun b => (hartB b).fset (F.HRT_CH_STAT_HELD 63) 1
def w_HartTransactions_20 : State := mk fun b => (hartB b).fset (F.HRT_CH_CFG_POLL 63) 1
def w_HartTransactions_22 : State := mk fun b => hartB b
def w_HartTransactions_12 : State := mk fun b => (hartB b).timed (.hartSent 63)
def w_HartTransactions_13 : State := mk fun b => b.timed (.hartQueued 63 (some 15))
def w_HartTransactions_21 : State := mk fun b => after (.hartFrame 63) 499999999 b
def w_HartTransactions_22a : State := mk fun b => ((hartB b).fset (F.HRT_CH_CFG_POLL 63) 1).timed (.hartPoll 63)
/-- States and operands that meet the hypotheses of HartTransactions. -/
theorem wit_HartTransactions :
    regRow (Reg.HRT_CH_CFG 63) = some (rowAt (Reg.HRT_CH_CFG 63)) ∧
    w_HartTransactions_0.judgeWrite Requester.sup (Reg.HRT_CH_CFG 63) (BitVec.toNat (262144001 : Word)) (codeIf (imgAddrBad (BitVec.toNat (262144001 : Word))) accValue ++ codeIf (w_HartTransactions_0.bindConflict 63 (BitVec.toNat (262144001 : Word))) cfgConflict) = 0 ∧
    regRow (Reg.HRT_CH_CFG 63) = some (rowAt (Reg.HRT_CH_CFG 63)) ∧
    w_HartTransactions_0a.judgeWrite Requester.sup (Reg.HRT_CH_CFG 63) (BitVec.toNat (262144034 : Word)) (codeIf (imgAddrBad (BitVec.toNat (262144034 : Word))) accValue ++ codeIf (w_HartTransactions_0a.bindConflict 63 (BitVec.toNat (262144034 : Word))) cfgConflict) = 0 ∧
    w_HartTransactions_1.judgeWrite Requester.sup (Reg.HRT_CH_CFG 63) (BitVec.toNat (262144001 : Word)) (codeIf (imgAddrBad (BitVec.toNat (262144001 : Word))) accValue ++ codeIf (w_HartTransactions_1.bindConflict 63 (BitVec.toNat (262144001 : Word))) cfgConflict) = cfgConflict ∧
    w_HartTransactions_2.judgeWrite Requester.sup (Reg.HRT_T_CTL 15) (BitVec.toNat (w := 32) (50347776 ||| 1)) = 0 ∧
    bit (BitVec.toNat (w := 32) (50347776 ||| 1)) 1 = false ∧ w_HartTransactions_2.hartBusy 15 = false ∧
    (w_HartTransactions_2.storeWrite (Reg.HRT_T_CTL 15) 50347777).hartReq 15 = (w_HartTransactions_2.storeWrite (Reg.HRT_T_CTL 15) (BitVec.toNat (w := 32) (50347776 ||| 1))).hartReq 15 ∧
    w_HartTransactions_2.hartRefused ((w_HartTransactions_2.storeWrite (Reg.HRT_T_CTL 15) 50347777).hartReq 15) = none ∧
    w_HartTransactions_3.judgeWrite Requester.sup (Reg.HRT_T_CTL 15) (BitVec.toNat (w := 32) (50347776 ||| 1)) = 0 ∧
    bit (BitVec.toNat (w := 32) (50347776 ||| 1)) 1 = false ∧ w_HartTransactions_3.hartBusy 15 = false ∧
    (w_HartTransactions_3.storeWrite (Reg.HRT_T_CTL 15) 50347777).hartReq 15 = (w_HartTransactions_3.storeWrite (Reg.HRT_T_CTL 15) (BitVec.toNat (w := 32) (50347776 ||| 1))).hartReq 15 ∧
    w_HartTransactions_3.hartRefused ((w_HartTransactions_3.storeWrite (Reg.HRT_T_CTL 15) 50347777).hartReq 15) = some 3 ∧
    w_HartTransactions_4.judgeWrite Requester.sup (Reg.HRT_T_CTL 15) (BitVec.toNat (w := 32) (50347776 ||| 1)) = 0 ∧
    bit (BitVec.toNat (w := 32) (50347776 ||| 1)) 1 = false ∧ w_HartTransactions_4.hartBusy 15 = true ∧
    w_HartTransactions_5.judgeWrite Requester.sup (Reg.HRT_T_CTL 15) (BitVec.toNat (w := 32) (0 ||| 2)) = 0 ∧
    bit (BitVec.toNat (w := 32) (0 ||| 2)) 0 = false ∧
    (List.filter (fun q ↦ q.slot == some 15) w_HartTransactions_5.hart.queue = [hq (some 15)]) ∧
    (∀ (x : HartRun), x ∈ w_HartTransactions_5.hart.runs → x.req.slot ≠ some 15) ∧
    w_HartTransactions_6.judgeWrite Requester.sup (Reg.HRT_T_CTL 15) (BitVec.toNat (w := 32) (0 ||| 2)) = 0 ∧
    bit (BitVec.toNat (w := 32) (0 ||| 2)) 0 = false ∧
    (∀ (q : HartReq), q ∈ w_HartTransactions_6.hart.queue → q.slot ≠ some 15) ∧
    (List.filter (fun x ↦ x.req.slot == some 15) w_HartTransactions_6.hart.runs = [HartRun.mk (hq (some 15)) 3 1 true false]) ∧
    w_HartTransactions_7.judgeWrite Requester.sup (Reg.HRT_T_CTL 15) (BitVec.toNat (w := 32) (0 ||| 2)) = 0 ∧
    bit (BitVec.toNat (w := 32) (0 ||| 2)) 0 = false ∧
    w_HartTransactions_8.acts = true ∧ (∀ (x : HartRun), x ∈ w_HartTransactions_8.hart.runs → x.req.ch ≠ 63) ∧
    w_HartTransactions_8.hartMayTalk 63 false = true ∧ w_HartTransactions_8.hartTurn 63 = true ∧ (0 < 16) ∧
    (List.find? (fun q ↦ q.ch == 63) w_HartTransactions_8.hart.queue = some (hq (some 2))) ∧
    w_HartTransactions_8.hartModem 63 = some 0 ∧
    (w_HartTransactions_9.hartMayTalk 63 true = false ∨ w_HartTransactions_9.acts = false) ∧
    w_HartTransactions_10.hartRunOn 63 = some (HartRun.mk (hq (some 2)) 3 1 true false) ∧
    (HartRun.mk (hq (some 2)) 3 1 true false).retry = false ∧
    (HartRun.mk (hq (some 2)) 3 1 true false).req.answeredBy (rsp0 3) = true ∧
    (∀ (k : Nat), (HartRun.mk (hq (some 2)) 3 1 true false).req.slot = some k → k < 16) ∧
    w_HartTransactions_11.hartRunOn 63 = some (HartRun.mk (hq (some 2)) 3 1 true false) ∧
    (HartRun.mk (hq (some 2)) 3 1 true false).req.answeredBy (rsp0 1) = false ∧
    w_HartTransactions_14.hartRunOn 63 = some (HartRun.mk (hq (some 2)) 3 1 true false) ∧
    (HartRun.mk (hq (some 2)) 3 1 true false).retry = false ∧
    w_HartTransactions_14.passed (Timer.hartSent 63) (1000000 * w_HartTransactions_14.fget F.HRT_CFG_TIMEOUT) = true ∧
    w_HartTransactions_14a.hartRunOn 63 = some (HartRun.mk (hq (some 2)) 3 4 true false) ∧
    (HartRun.mk (hq (some 2)) 3 4 true false).retry = false ∧
    w_HartTransactions_14a.passed (Timer.hartSent 63) (1000000 * w_HartTransactions_14a.fget F.HRT_CFG_TIMEOUT) = true ∧
    (List.find? (fun q ↦ q.ch == 63 && q.slot == some 15) w_HartTransactions_15.hart.queue = some (hq (some 15))) ∧
    w_HartTransactions_15.passed (Timer.hartQueued 63 (some 15)) (1000000 * w_HartTransactions_15.fget F.HRT_WAIT_WAIT) = true ∧
    (List.find? (fun q ↦ q.ch == 63 && q.slot == none) w_HartTransactions_16.hart.queue = some (hq none)) ∧
    w_HartTransactions_16.passed (Timer.hartQueued 63 none) (1000000 * w_HartTransactions_16.fget F.HRT_WAIT_WAIT) = true ∧
    w_HartTransactions_17.modemFault 15 = false ∧
    w_HartTransactions_18.heldBound 63 = true ∧
    w_HartTransactions_19.fgetB (F.HRT_CH_STAT_HELD 63) = true ∧ w_HartTransactions_19.hart.silent.contains 63 = false ∧
    w_HartTransactions_19.periodic (Timer.hartFrame 63) 500000000 = true ∧
    (w_HartTransactions_20.fget (F.HRT_CH_CFG_POLL 63) ≠ 0) ∧ w_HartTransactions_20.acts = true ∧
    w_HartTransactions_20.periodic (Timer.hartPoll 63) (1000000000 * w_HartTransactions_20.fget (F.HRT_CH_CFG_POLL 63)) = true ∧
    HartReq.mk none 63 0 3 false 0 0 [] = HartReq.mk none 63 (w_HartTransactions_20.fget (F.HRT_CH_CFG_IMG_ADDR 63)) 3 false 0 0 [] ∧
    w_HartTransactions_20.hartRefused (HartReq.mk none 63 0 3 false 0 0 []) = none ∧
    (w_HartTransactions_22.fget (F.HRT_CH_CFG_POLL 15) = 0 ∨ w_HartTransactions_22.acts = false ∨ w_HartTransactions_22.periodic (Timer.hartPoll 15) (1000000000 * w_HartTransactions_22.fget (F.HRT_CH_CFG_POLL 15)) = false) ∧
    w_HartTransactions_12.passed (Timer.hartSent 63) (1000000 * w_HartTransactions_12.fget F.HRT_CFG_TIMEOUT) = false ∧
    (w_HartTransactions_13.passed (Timer.hartQueued 63 (Option.map (fun x ↦ ↑x) (some 15))) (1000000 * w_HartTransactions_13.fget F.HRT_WAIT_WAIT) = false) ∧
    w_HartTransactions_21.periodic (Timer.hartFrame 63) 500000000 = false ∧
    (w_HartTransactions_22a.fget (F.HRT_CH_CFG_POLL 63) = 0 ∨ w_HartTransactions_22a.acts = false ∨ w_HartTransactions_22a.periodic (Timer.hartPoll 63) (1000000000 * w_HartTransactions_22a.fget (F.HRT_CH_CFG_POLL 63)) = false) := by
  (repeat' apply And.intro) <;> first | with_reducible rfl | decide +kernel

def safB (st : Nat) (b : Block) : Block := ph .good (stt 4 (b.fset F.SAF_STATE_STATE st))
def w_SafetyIsland_0 : State := mk fun b => safB isRun b
def w_SafetyIsland_0a : State := mk fun b => safB isSafeOff b
def w_SafetyIsland_1 : State := mk fun b => safB isLockout b
def w_SafetyIsland_2 : State := mk fun b => after (.islRecord) 100000000 <| { safB isLockout b with isl := { b.isl with unconfirmed := true } }
def w_SafetyIsland_4 : State := mk fun b => { (safB isRun b).fset (F.CH_MODE_MODE 63) 9 with chans := [(63, { island := true })] }
def w_SafetyIsland_5 : State := mk fun b => { ((safB isRun b).fset (F.CH_MODE_MODE 63) 10).fset (F.CH_STAT_COMPLIANCE 63) 1 with chans := [(63, { island := true })] }
def w_SafetyIsland_6 : State := mk fun b => { safB isRun b with prog := some { version := 4, vintage := 1, buildId := 0, vids := [], ctxs := [], saf := some ⟨1000, 0, [], [], [], 0⟩ }, isl := { b.isl with lastStart := some (0, 0) } }
def w_SafetyIsland_7 : State := mk fun b => { safB isRun b with prog := some { version := 4, vintage := 1, buildId := 0, vids := [], ctxs := [], saf := some ⟨1000, 0, [], [], [], 0⟩ } }
def w_SafetyIsland_8 : State := mk fun b => { safB isRun b with prog := some { version := 4, vintage := 1, buildId := 0, vids := [], ctxs := [], saf := some ⟨1000, 0, [], [], [], 0⟩ } }
def w_SafetyIsland_9 : State := mk fun b => safB isLockout b
def w_SafetyIsland_9a : State := mk fun b => safB isLockout b
def w_SafetyIsland_10 : State := mk fun b => safB isRun b
def w_SafetyIsland_11 : State := mk fun b => { safB isSafeOff b with pwr := { (safB isSafeOff b).pwr with completed := true }, prog := some { version := 4, vintage := 1, buildId := 0, vids := [], ctxs := [], saf := some ⟨1000, 1, [], [], [], 0⟩ } }
def w_SafetyIsland_12 : State := mk fun b => (safB isLockout b).setRegN Reg.SAF_CAUSES 2
def w_SafetyIsland_13 : State := mk fun b => { safB isRun b with ssp := { sessions := [⟨3, .operator, 0, 2, 0, [], [], [], [], 0, [], 0⟩] } }
def w_SafetyIsland_16 : State := mk fun b => { safB isRun b with ssp := { sessions := [⟨3, .operator, 0, 2, 0, [], [], [], [], 0, [], 0⟩] } }
def w_SafetyIsland_17 : State := mk fun b => { safB isLockout b with isl := { b.isl with phase := .selfTest } }
def w_SafetyIsland_18 : State := mk fun b => { safB isLockout b with isl := { b.isl with phase := .selfTest } }
def w_SafetyIsland_21 : State := mk fun b => { safB isLockout b with isl := { b.isl with phase := .recording, latchSX := true, latchSY := true, cellarLocked := true } }
def w_SafetyIsland_22 : State := mk fun b => after (.resetRecord) 1000000000 <| { safB isLockout b with isl := { b.isl with phase := .recording } }
def w_SafetyIsland_3 : State := mk fun b => after .islRecord 99999999 b
def w_SafetyIsland_19 : State := mk fun b => supStalls b
def w_SafetyIsland_20 : State := mk fun b => after .resetRecord 999999999 b
/-- States and operands that meet the hypotheses of SafetyIsland. -/
theorem wit_SafetyIsland :
    (14 ≠ 0) ∧ (14 = 12 → w_SafetyIsland_0.owned ≠ [] ∧ w_SafetyIsland_0.pwr.fieldOn = false) ∧
    w_SafetyIsland_0.powerFailing = false ∧ (w_SafetyIsland_0.islState ≠ isLockout) ∧
    (1 ≠ 0) ∧ (1 = 12 → w_SafetyIsland_0a.owned ≠ [] ∧ w_SafetyIsland_0a.pwr.fieldOn = false) ∧
    w_SafetyIsland_0a.powerFailing = false ∧ (w_SafetyIsland_0a.islState ≠ isLockout) ∧
    (14 ≠ 0) ∧ (14 = 12 → w_SafetyIsland_1.owned ≠ [] ∧ w_SafetyIsland_1.pwr.fieldOn = false) ∧
    w_SafetyIsland_1.powerFailing = false ∧ w_SafetyIsland_1.islState = isLockout ∧
    w_SafetyIsland_2.isl.unconfirmed = true ∧ w_SafetyIsland_2.islState = isLockout ∧
    w_SafetyIsland_2.powerFailing = false ∧ (recBytes w_SafetyIsland_2.evr.island + 52 ≤ islandBytes) ∧
    w_SafetyIsland_2.passed Timer.islRecord 100000000 = true ∧
    (w_SafetyIsland_4.chan 63).island = true ∧ w_SafetyIsland_4.islState = isRun ∧
    (∀ (e : Nat × Bool × Bool), e ∈ w_SafetyIsland_4.isl.holds → e.fst ≠ 63) ∧ w_SafetyIsland_4.chMode 63 = 9 ∧
    (w_SafetyIsland_5.chan 63).island = true ∧ w_SafetyIsland_5.islState = isRun ∧
    (∀ (e : Nat × Bool × Bool), e ∈ w_SafetyIsland_5.isl.holds → e.fst ≠ 63) ∧ w_SafetyIsland_5.chMode 63 = 10 ∧
    w_SafetyIsland_5.fgetB (F.CH_STAT_COMPLIANCE 63) = true ∧
    w_SafetyIsland_6.cycleDue = false ∧
    w_SafetyIsland_7.cycleDue = true ∧ w_SafetyIsland_7.islState = isRun ∧
    w_SafetyIsland_7.safCompare [] 850 = w_SafetyIsland_7.safCompare [] 850 ∧
    (w_SafetyIsland_7.safCompare [] 850).late = false ∧ (w_SafetyIsland_7.safCompare [] 850).trap = false ∧
    (w_SafetyIsland_7.safCompare [] 850).differ = false ∧
    w_SafetyIsland_8.cycleDue = true ∧ w_SafetyIsland_8.islState = isRun ∧ w_SafetyIsland_8.powerFailing = false ∧
    w_SafetyIsland_8.safCompare [] 851 = w_SafetyIsland_8.safCompare [] 851 ∧
    ((w_SafetyIsland_8.safCompare [] 851).late = true ∨ (w_SafetyIsland_8.safCompare [] 851).trap = true ∨ (w_SafetyIsland_8.safCompare [] 851).differ = true) ∧
    (499 < 500 ∨ 5000 < 499) ∧
    (5001 < 500 ∨ 5000 < 5001) ∧
    (500 ≤ 500) ∧ (500 ≤ 5000) ∧ w_SafetyIsland_10.islState = isRun ∧
    (500 ≤ 5000) ∧ (5000 ≤ 5000) ∧ w_SafetyIsland_11.islState = isSafeOff ∧
    w_SafetyIsland_11.safCfg = some (SafCfg.mk 1000 1 [] [] [] 0) ∧ (SafCfg.mk 1000 1 [] [] [] 0).startMode = 1 ∧
    w_SafetyIsland_11.pwr.completed = true ∧
    (500 ≤ 5000) ∧ (5000 ≤ 5000) ∧ w_SafetyIsland_12.islState = isLockout ∧
    w_SafetyIsland_12.isl.phase = ResetPhase.none ∧
    (∀ (c : Nat), c < 15 → bit (w_SafetyIsland_12.regN Reg.SAF_CAUSES) c = true → c ∈ testCauses ∨ bit (w_SafetyIsland_12.regN Reg.SAF_CLEARED) c = true) ∧
    w_SafetyIsland_13.signedFrom 3 = true ∧ w_SafetyIsland_13.signedOk 1 7 (BitVec.toNat (0 : Word)) [] = false ∧
    w_SafetyIsland_16.signedFrom 3 = true ∧ w_SafetyIsland_16.safCfg = none ∧
    w_SafetyIsland_17.isl.phase = ResetPhase.selfTest ∧
    w_SafetyIsland_18.isl.phase = ResetPhase.selfTest ∧ (65535 % 65536 ≠ 0) ∧
    w_SafetyIsland_21.isl.phase = ResetPhase.recording ∧ w_SafetyIsland_21.ssp.stall = false ∧
    w_SafetyIsland_22.isl.phase = ResetPhase.recording ∧ w_SafetyIsland_22.passed Timer.resetRecord 1000000000 = true ∧
    w_SafetyIsland_3.passed Timer.islRecord 100000000 = false ∧
    w_SafetyIsland_19.ssp.stall = true ∧
    w_SafetyIsland_20.passed Timer.resetRecord 1000000000 = false := by
  (repeat' apply And.intro) <;> first | with_reducible rfl | decide +kernel

def cfg0 (x : Nat) : LnkCfg := ⟨x, 0, [(2,3),(4,5)], [⟨1,0,2,0,7,4,4,0,3,0⟩, ⟨128,1,3,1,7,4,4,0,3,0⟩]⟩
def lnkB (x : Nat) (b : Block) : Block := { stt 4 ((b.fset (F.LNK_SEG_CFG_VALID 0) 1).fset (F.LNK_SEG_CFG_VALID 1) 1) |>.fset (F.LNK_ST_STATE_VER 1) 2 with pwr := { b.pwr with phase := .good }, lnk := { b.lnk with cfg := some (cfg0 x), stations := [(1, { src := some 77, sending := true, cfgSent := 5 })], segs := [(0, { isOpen := true, t0 := 7, seq := 9, due := 9, ended := false })] } }
def w_LinkCyclesAndFrames_0 : State := mk fun b => lnkB 0 b
def w_LinkCyclesAndFrames_0a : State := mk fun b => lnkB 1 b
def w_LinkCyclesAndFrames_1 : State := mk fun b => { lnkB 0 b with lnk := { b.lnk with cfg := some (cfg0 0), segs := [(0, { t0 := 5 })] } }
def w_LinkCyclesAndFrames_2 : State := mk fun b => (lnkB 0 b).setNow 1000000000000
def w_LinkCyclesAndFrames_3 : State := mk fun b => lnkB 0 b
def w_LinkCyclesAndFrames_3a : State := mk fun b => { stt 6 (lnkB 0 b) with pwr := { b.pwr with phase := .good, released := true } }
def w_LinkCyclesAndFrames_4 : State := mk fun b => lnkB 0 b
def w_LinkCyclesAndFrames_4a : State := mk fun b => lnkB 0 b
def lin (src : Nat) (c : Nat) : LinkIn := ⟨false, 2, src, 77, 16, 9, c, 0, 0, 0, 1, 9, 5, 100⟩
def w_LinkCyclesAndFrames_6 : State := mk fun b => lnkB 2 b
def w_LinkCyclesAndFrames_7 : State := mk fun b => lnkB 0 b
def w_LinkCyclesAndFrames_7a : State := mk fun b => lnkB 0 b
def w_LinkCyclesAndFrames_8 : State := mk fun b => lnkB 0 b
def w_LinkCyclesAndFrames_9 : State := mk fun b => lnkB 0 b
def w_LinkCyclesAndFrames_10 : State := mk fun b => { lnkB 0 b with lnk := { b.lnk with cfg := some (cfg0 0), stations := [(1, { src := some 77, sending := true, got := true })], segs := [(0, { isOpen := true, t0 := 7, seq := 9, due := 9, ended := false })] } }
def w_LinkCyclesAndFrames_13 : State := mk fun b => (lnkB 1 b).fset F.LNK_STAT_LINK_B 1
def w_LinkCyclesAndFrames_14 : State := mk fun b => lnkB 1 b
def w_LinkCyclesAndFrames_3b : State := mk fun b => { lnkB 0 b with lnk := { b.lnk with cfg := some (cfg0 0), segs := [(0, { isOpen := true, t0 := 1000000000000000000 })] } }
def w_LinkCyclesAndFrames_5 : State := mk fun b => { lnkB 0 b with lnk := { b.lnk with segs := [(0, { endT := 1000000000000000000 })] } }
/-- States and operands that meet the hypotheses of LinkCyclesAndFrames. -/
theorem wit_LinkCyclesAndFrames :
    w_LinkCyclesAndFrames_0.fgetB (F.LNK_SEG_CFG_VALID 1) = true ∧ w_LinkCyclesAndFrames_0.lnkOff = false ∧
    w_LinkCyclesAndFrames_0.lnkDue 1 = true ∧
    w_LinkCyclesAndFrames_0a.fgetB (F.LNK_SEG_CFG_VALID 0) = true ∧ w_LinkCyclesAndFrames_0a.lnkOff = false ∧
    w_LinkCyclesAndFrames_0a.lnkDue 0 = true ∧
    (w_LinkCyclesAndFrames_1.fgetB (F.LNK_SEG_CFG_VALID 0) = false ∨ w_LinkCyclesAndFrames_1.lnkOff = true ∨ w_LinkCyclesAndFrames_1.lnkDue 0 = false) ∧
    (w_LinkCyclesAndFrames_2.lnkSeg 0).isOpen = true ∧ w_LinkCyclesAndFrames_2.lnkOff = false ∧
    (w_LinkCyclesAndFrames_2.lnkMute = false ∨ w_LinkCyclesAndFrames_2.lnkSyncOnly = true) ∧
    ((w_LinkCyclesAndFrames_2.lnkSeg 0).t0 + w_LinkCyclesAndFrames_2.lnkCfg.applyOfs 0 ≤ w_LinkCyclesAndFrames_2.now + w_LinkCyclesAndFrames_2.lnkCfg.tOut 0 + w_LinkCyclesAndFrames_2.regN (Reg.LNK_SEG_D 0) + 2000) ∧
    ((w_LinkCyclesAndFrames_3.lnkSeg 1).isOpen = false ∨ w_LinkCyclesAndFrames_3.lnkOff = true ∨ w_LinkCyclesAndFrames_3.now + w_LinkCyclesAndFrames_3.lnkCfg.tOut 1 + w_LinkCyclesAndFrames_3.regN (Reg.LNK_SEG_D 1) + 2000 < (w_LinkCyclesAndFrames_3.lnkSeg 1).t0 + w_LinkCyclesAndFrames_3.lnkCfg.applyOfs 1) ∧
    ((w_LinkCyclesAndFrames_3a.lnkSeg 0).isOpen = false ∨ w_LinkCyclesAndFrames_3a.lnkOff = true ∨ w_LinkCyclesAndFrames_3a.now + w_LinkCyclesAndFrames_3a.lnkCfg.tOut 0 + w_LinkCyclesAndFrames_3a.regN (Reg.LNK_SEG_D 0) + 2000 < (w_LinkCyclesAndFrames_3a.lnkSeg 0).t0 + w_LinkCyclesAndFrames_3a.lnkCfg.applyOfs 0) ∧
    w_LinkCyclesAndFrames_4.fgetB (F.LNK_SEG_CFG_VALID 0) = true ∧
    (∀ (e : LnkEntry), e ∈ w_LinkCyclesAndFrames_4.lnkCfg.stations → 1 ≤ e.addr ∧ e.addr ≤ 128) ∧
    ((w_LinkCyclesAndFrames_4.lnkSeg 0).endT ≤ w_LinkCyclesAndFrames_4.now) ∧
    w_LinkCyclesAndFrames_4a.fgetB (F.LNK_SEG_CFG_VALID 1) = true ∧
    (∀ (e : LnkEntry), e ∈ w_LinkCyclesAndFrames_4a.lnkCfg.stations → 1 ≤ e.addr ∧ e.addr ≤ 128) ∧
    ((w_LinkCyclesAndFrames_4a.lnkSeg 1).endT ≤ w_LinkCyclesAndFrames_4a.now) ∧
    w_LinkCyclesAndFrames_6.lnkCfg.unused     (let __src := lin 1 0;       LinkIn.mk true __src.version __src.src __src.mac __src.len __src.seq __src.claim __src.res __src.sample __src.turn __src.status __src.appliedSeq __src.data __src.arrival).portB =   true ∧
    w_LinkCyclesAndFrames_7.lnkCfg.unused (lin 2 0).portB = false ∧
    w_LinkCyclesAndFrames_7.lnkCfg.entry (lin 2 0).src = none ∧
    w_LinkCyclesAndFrames_7a.lnkCfg.unused (lin 129 0).portB = false ∧
    w_LinkCyclesAndFrames_7a.lnkCfg.entry (lin 129 0).src = none ∧
    w_LinkCyclesAndFrames_8.lnkCfg.unused (lin 128 0).portB = false ∧ (1 ≤ (lin 128 0).src) ∧ ((lin 128 0).src ≤ 128) ∧
    w_LinkCyclesAndFrames_8.lnkCfg.entry (lin 128 0).src = some (LnkEntry.mk 128 1 3 1 7 4 4 0 3 0) ∧
    w_LinkCyclesAndFrames_8.lnkInOk (lin 128 0) (LnkEntry.mk 128 1 3 1 7 4 4 0 3 0) = false ∧
    (1 ≤ (lin 1 0).src) ∧ ((lin 1 0).src ≤ 128) ∧
    w_LinkCyclesAndFrames_9.lnkCfg.entry (lin 1 0).src = some (LnkEntry.mk 1 0 2 0 7 4 4 0 3 0) ∧
    w_LinkCyclesAndFrames_9.lnkInOk (lin 1 0) (LnkEntry.mk 1 0 2 0 7 4 4 0 3 0) = true ∧
    (w_LinkCyclesAndFrames_9.lnkSt (lin 1 0).src).got = false ∧
    (1 ≤ (lin 1 0).src) ∧ ((lin 1 0).src ≤ 128) ∧
    w_LinkCyclesAndFrames_10.lnkCfg.entry (lin 1 0).src = some (LnkEntry.mk 1 0 2 0 7 4 4 0 3 0) ∧
    w_LinkCyclesAndFrames_10.lnkInOk (lin 1 0) (LnkEntry.mk 1 0 2 0 7 4 4 0 3 0) = true ∧
    (w_LinkCyclesAndFrames_10.lnkSt (lin 1 0).src).got = true ∧
    w_LinkCyclesAndFrames_13.fgetB (if true = true then F.LNK_STAT_LINK_B else F.LNK_STAT_LINK_A) = true ∧
    (∀ (e : LnkEntry), e ∈ w_LinkCyclesAndFrames_13.lnkCfg.stations → 1 ≤ e.addr ∧ e.addr ≤ 128) ∧
    w_LinkCyclesAndFrames_14.fgetB (if true = true then F.LNK_STAT_LINK_B else F.LNK_STAT_LINK_A) = false ∧
    ((w_LinkCyclesAndFrames_3b.lnkSeg 0).isOpen = false ∨ w_LinkCyclesAndFrames_3b.lnkOff = true ∨ w_LinkCyclesAndFrames_3b.now + w_LinkCyclesAndFrames_3b.lnkCfg.tOut 0 + w_LinkCyclesAndFrames_3b.regN (Reg.LNK_SEG_D 0) + 2000 < (w_LinkCyclesAndFrames_3b.lnkSeg 0).t0 + w_LinkCyclesAndFrames_3b.lnkCfg.applyOfs 0) ∧
    (w_LinkCyclesAndFrames_5.now < (w_LinkCyclesAndFrames_5.lnkSeg 0).endT) := by
  (repeat' apply And.intro) <;> first | with_reducible rfl | decide +kernel

def w_LinkJoins_0 : State := mk fun b => lnkB 2 b
def w_LinkJoins_1 : State := mk fun b => lnkB 0 b
def w_LinkJoins_2 : State := mk fun b => lnkB 0 b
def w_LinkJoins_2a : State := mk fun b => lnkB 0 b
def w_LinkJoins_3 : State := mk fun b => lnkB 0 b
def w_LinkJoins_4 : State := mk fun b => { lnkB 0 b with lnk := { b.lnk with cfg := some (cfg0 0), stations := [(1, { src := some 77, cfgSent := 5 })] } }
def w_LinkJoins_5 : State := mk fun b => lnkB 0 b
def w_LinkJoins_5a : State := mk fun b => (lnkB 0 b).fset (F.LNK_ST_STATE_STATE 1) lsDropped
def w_LinkJoins_6 : State := mk fun b => lnkB 0 (unl 0xA8 b)
def w_LinkJoins_6a : State := mk fun b => (lnkB 0 (unl 0xA8 b)).fset (F.LNK_ST_STATE_STATE 1) 3
def w_LinkJoins_7 : State := mk fun b => (lnkB 0 (unl 0xA8 b)).fset (F.LNK_ST_STATE_STATE 1) 4
def w_LinkJoins_7a : State := mk fun b => lnkB 0 (unl 0xA8 b)
/-- States and operands that meet the hypotheses of LinkJoins. -/
theorem wit_LinkJoins :
    w_LinkJoins_0.lnkCfg.unused (LinkHello.mk true 1 77 3 false 7 4 4 100).portB = true ∧
    w_LinkJoins_1.lnkCfg.unused (LinkHello.mk false 2 77 3 false 7 4 4 100).portB = false ∧
    w_LinkJoins_1.lnkCfg.entry (LinkHello.mk false 2 77 3 false 7 4 4 100).addr = none ∧
    w_LinkJoins_2.lnkCfg.unused (LinkHello.mk false 1 77 3 false 8 4 4 100).portB = false ∧
    (1 ≤ (LinkHello.mk false 1 77 3 false 8 4 4 100).addr) ∧ ((LinkHello.mk false 1 77 3 false 8 4 4 100).addr ≤ 128) ∧
    w_LinkJoins_2.lnkCfg.entry (LinkHello.mk false 1 77 3 false 8 4 4 100).addr = some (LnkEntry.mk 1 0 2 0 7 4 4 0 3 0) ∧
    (2 = if (LnkEntry.mk 1 0 2 0 7 4 4 0 3 0).seg = w_LinkJoins_2.lnkCfg.segOf (LinkHello.mk false 1 77 3 false 8 4 4 100).portB then w_LinkJoins_2.helloCode (LinkHello.mk false 1 77 3 false 8 4 4 100) (LnkEntry.mk 1 0 2 0 7 4 4 0 3 0) else 1) ∧
    (2 ≠ 0) ∧
    w_LinkJoins_2a.lnkCfg.unused (LinkHello.mk true 1 77 3 false 7 4 4 100).portB = false ∧
    (1 ≤ (LinkHello.mk true 1 77 3 false 7 4 4 100).addr) ∧ ((LinkHello.mk true 1 77 3 false 7 4 4 100).addr ≤ 128) ∧
    w_LinkJoins_2a.lnkCfg.entry (LinkHello.mk true 1 77 3 false 7 4 4 100).addr = some (LnkEntry.mk 1 0 2 0 7 4 4 0 3 0) ∧
    (1 = if (LnkEntry.mk 1 0 2 0 7 4 4 0 3 0).seg = w_LinkJoins_2a.lnkCfg.segOf (LinkHello.mk true 1 77 3 false 7 4 4 100).portB then w_LinkJoins_2a.helloCode (LinkHello.mk true 1 77 3 false 7 4 4 100) (LnkEntry.mk 1 0 2 0 7 4 4 0 3 0) else 1) ∧
    (1 ≠ 0) ∧
    w_LinkJoins_3.lnkCfg.unused (LinkHello.mk true 128 99 3 false 7 4 4 100).portB = false ∧
    (1 ≤ (LinkHello.mk true 128 99 3 false 7 4 4 100).addr) ∧
    ((LinkHello.mk true 128 99 3 false 7 4 4 100).addr ≤ 128) ∧
    w_LinkJoins_3.lnkCfg.entry (LinkHello.mk true 128 99 3 false 7 4 4 100).addr = some (LnkEntry.mk 128 1 3 1 7 4 4 0 3 0) ∧
    (LnkEntry.mk 128 1 3 1 7 4 4 0 3 0).seg = w_LinkJoins_3.lnkCfg.segOf (LinkHello.mk true 128 99 3 false 7 4 4 100).portB ∧
    w_LinkJoins_3.helloCode (LinkHello.mk true 128 99 3 false 7 4 4 100) (LnkEntry.mk 128 1 3 1 7 4 4 0 3 0) = 0 ∧
    w_LinkJoins_4.lnkCfg.unused false = false ∧ (1 ≤ 1) ∧ (1 ≤ 128) ∧
    w_LinkJoins_4.lnkCfg.entry 1 = some (LnkEntry.mk 1 0 2 0 7 4 4 0 3 0) ∧
    ((LnkEntry.mk 1 0 2 0 7 4 4 0 3 0).seg ≤ 1) ∧ (w_LinkJoins_4.lnkSt 1).src = some 77 ∧
    ((w_LinkJoins_4.lnkSt 1).cfgSent ≠ 0) ∧ (w_LinkJoins_4.lnkSt 1).joined = false ∧
    (w_LinkJoins_4.lsState 1 ≠ lsDropped) ∧ 114525 = ((↑900 - ↑(w_LinkJoins_4.lnkSt 1).cfgSent) * 256 - ↑50 - ↑20) / 2 ∧
    (w_LinkJoins_5.lnkCfg.unused false = true ∨ w_LinkJoins_5.lnkCfg.entry 2 = none ∨ (w_LinkJoins_5.lnkSt 2).src ≠ some 77 ∨ (w_LinkJoins_5.lnkSt 2).cfgSent = 0 ∨ (w_LinkJoins_5.lnkSt 2).joined = true ∨ w_LinkJoins_5.lsState 2 = lsDropped) ∧
    (w_LinkJoins_5a.lnkCfg.unused false = true ∨ w_LinkJoins_5a.lnkCfg.entry 1 = none ∨ (w_LinkJoins_5a.lnkSt 1).src ≠ some 77 ∨ (w_LinkJoins_5a.lnkSt 1).cfgSent = 0 ∨ (w_LinkJoins_5a.lnkSt 1).joined = true ∨ w_LinkJoins_5a.lsState 1 = lsDropped) ∧
    (1 ≤ 128) ∧ (128 ≤ 128) ∧ w_LinkJoins_6.judgeWrite Requester.sup Reg.LNK_CMD (128 * 256 + 1) = 0 ∧
    (1 ≤ 1) ∧ (1 ≤ 128) ∧ w_LinkJoins_6a.judgeWrite Requester.sup Reg.LNK_CMD (1 * 256 + 1) = 0 ∧
    (1 ≤ 1) ∧ (1 ≤ 128) ∧ w_LinkJoins_7.judgeWrite Requester.sup Reg.LNK_CMD (1 * 256 + 2) = 0 ∧
    (1 ≤ 128) ∧ (128 ≤ 128) ∧ w_LinkJoins_7a.judgeWrite Requester.sup Reg.LNK_CMD (128 * 256 + 2) = 0 := by
  (repeat' apply And.intro) <;> first | with_reducible rfl | decide +kernel

def netB (b : Block) : Block := { ((stt 4 b).fset F.PRP_STAT_LINK_A 1).fset F.PTP_CFG_EN 1 with pwr := { b.pwr with phase := .good } }
def w_PlantFrames_0 : State := mk fun b => netB b
def w_PlantFrames_1 : State := mk fun b => netB b
def w_PlantFrames_1a : State := mk fun b => { netB b with net := { nodes := [(5, 0)], seen := [⟨5, 3, true, 0, false⟩] } }
def w_PlantFrames_2 : State := mk fun b => { netB b with net := { nodes := (List.range 512).map fun k => (1000 + k, 0) } }
def w_PlantFrames_4 : State := mk fun b => netB b
def w_PlantFrames_5 : State := mk fun b => { netB b with net := { nodes := [(5, 0), (6, 1)] } }
def w_PlantFrames_6 : State := mk fun b => { netB b with net := { nodes := [(5, 0), (6, 1)] }, clk := 4000000000000 }
def w_PlantFrames_7 : State := mk fun b => { (netB b).fset F.NET_CFG_PING_EN 1 with net := { ip := [0x0A000001, 0, 0], arp := [9] } }
def w_PlantFrames_7a : State := mk fun b => { (netB b).fset F.NET_CFG_PING_EN 1 with net := { ip := [0x0A000001, 0xFFFFFF00, 4], arp := [4] } }
def w_PlantFrames_8 : State := mk fun b => { (netB b).fset F.NET_CFG_PING_EN 1 with net := { ip := [0x0A000001, 0, 0] } }
def w_PlantFrames_9 : State := mk fun b => { (netB b).fset F.NET_CFG_PING_EN 1 with net := { ip := [0x0A000001, 0, 0] } }
def w_PlantFrames_10 : State := mk fun b => { netB b with net := { ip := [0x0A000001, 0, 0] } }
def w_PlantFrames_12 : State := mk fun b => after (.netLocked) 1000000000 <| { netB b with net := { ipWritten := true } }
def w_PlantFrames_13 : State := mk fun b => netB b
def w_PlantFrames_13a : State := mk fun b => netB b
def w_PlantFrames_3 : State := mk fun b => b.timed .supervision
def w_PlantFrames_11 : State := mk fun b => after .netLocked 999999999 b
/-- States and operands that meet the hypotheses of PlantFrames. -/
theorem wit_PlantFrames :
    w_PlantFrames_0.powered = true ∧
    w_PlantFrames_0.netLink (PrpRx.mk false 5 (some (3, true)) (some 9) false).portB = true ∧
    ((PrpRx.mk false 5 (some (3, true)) (some 9) false).vlan.getD 0 ≠ 0) ∧
    w_PlantFrames_1.powered = true ∧
    w_PlantFrames_1.netLink (PrpRx.mk false 5 (some (3, true)) (some 0) true).portB = true ∧
    (PrpRx.mk false 5 (some (3, true)) (some 0) true).vlan.getD 0 = 0 ∧
    (PrpRx.mk false 5 (some (3, true)) (some 0) true).rct = some (3, true) ∧
    ((w_PlantFrames_1.net.nodes.any fun e ↦ e.fst == (PrpRx.mk false 5 (some (3, true)) (some 0) true).src) = true ∨ w_PlantFrames_1.net.nodes.length < 512) ∧
    w_PlantFrames_1a.powered = true ∧
    w_PlantFrames_1a.netLink (PrpRx.mk false 5 (some (3, false)) none false).portB = true ∧
    (PrpRx.mk false 5 (some (3, false)) none false).vlan.getD 0 = 0 ∧
    (PrpRx.mk false 5 (some (3, false)) none false).rct = some (3, false) ∧
    ((w_PlantFrames_1a.net.nodes.any fun e ↦ e.fst == (PrpRx.mk false 5 (some (3, false)) none false).src) = true ∨ w_PlantFrames_1a.net.nodes.length < 512) ∧
    w_PlantFrames_2.powered = true ∧
    w_PlantFrames_2.netLink (PrpRx.mk false 5 (some (3, true)) none false).portB = true ∧
    (PrpRx.mk false 5 (some (3, true)) none false).vlan.getD 0 = 0 ∧
    (PrpRx.mk false 5 (some (3, true)) none false).frag = false ∧
    ((w_PlantFrames_2.net.nodes.any fun e ↦ e.fst == (PrpRx.mk false 5 (some (3, true)) none false).src) = false) ∧
    (512 ≤ w_PlantFrames_2.net.nodes.length) ∧
    w_PlantFrames_4.powered = true ∧
    w_PlantFrames_4.periodic Timer.supervision (1000000 * w_PlantFrames_4.fget F.PRP_CFG_SUP_INTV) = true ∧
    w_PlantFrames_5.prpForgotten 5 = false ∧
    w_PlantFrames_6.prpForgotten 5 = true ∧
    w_PlantFrames_7.powered = true ∧ w_PlantFrames_7.fgetB F.NET_CFG_PING_EN = true ∧
    167772161 = nth 0 w_PlantFrames_7.net.ip 0 ∧ w_PlantFrames_7.net.arp.contains (echoHop w_PlantFrames_7 9) = true ∧
    w_PlantFrames_7a.powered = true ∧ w_PlantFrames_7a.fgetB F.NET_CFG_PING_EN = true ∧
    167772161 = nth 0 w_PlantFrames_7a.net.ip 0 ∧
    w_PlantFrames_7a.net.arp.contains (echoHop w_PlantFrames_7a 9) = true ∧
    w_PlantFrames_8.powered = true ∧ w_PlantFrames_8.fgetB F.NET_CFG_PING_EN = true ∧
    167772161 = nth 0 w_PlantFrames_8.net.ip 0 ∧ w_PlantFrames_8.net.arp.contains (echoHop w_PlantFrames_8 9) = false ∧
    (w_PlantFrames_9.fgetB F.NET_CFG_PING_EN = false ∨ 167772162 ≠ nth 0 w_PlantFrames_9.net.ip 0) ∧
    w_PlantFrames_10.powered = true ∧ 167772161 = nth 0 w_PlantFrames_10.net.ip 0 ∧
    w_PlantFrames_12.net.ipWritten = true ∧ w_PlantFrames_12.pageLocked 160 = true ∧
    w_PlantFrames_12.passed Timer.netLocked 1000000000 = true ∧
    w_PlantFrames_13.powered = true ∧ (w_PlantFrames_13.netLink true ≠ true) ∧
    w_PlantFrames_13a.powered = true ∧ (w_PlantFrames_13a.netLink false ≠ false) ∧
    w_PlantFrames_3.periodic Timer.supervision (1000000 * w_PlantFrames_3.fget F.PRP_CFG_SUP_INTV) = false ∧
    w_PlantFrames_11.passed Timer.netLocked 1000000000 = false := by
  (repeat' apply And.intro) <;> first | with_reducible rfl | decide +kernel

def master (s : Nat) : PtpSet := ⟨128, 6, 0x21, 0x4E5D, 128, 5, 0, s⟩
def ptpB (b : Block) : Block := { netB b with net := { portA := { master := some (master 5) } } }
def w_PtpMessages_0 : State := mk fun b => netB b
def w_PtpMessages_1 : State := mk fun b => netB b
def w_PtpMessages_3 : State := mk fun b => ptpB b
def w_PtpMessages_4 : State := mk fun b => ptpB b
def w_PtpMessages_5 : State := mk fun b => ptpB b
def w_PtpMessages_6 : State := mk fun b => { ptpB b with net := { portA := { master := some (master 5), waiting := some (9, 40) } } }
def w_PtpMessages_7 : State := mk fun b => (ptpB b).fset F.PTP_CFG_DELAY 1
def w_PtpMessages_7a : State := mk fun b => ptpB b
def w_PtpMessages_10 : State := mk fun b => { ptpB b with net := { portA := { master := some (master 5), asked := some (b.fgetB F.PTP_CFG_DELAY) } } }
def w_PtpMessages_10a : State := mk fun b => ptpB b
def w_PtpMessages_11 : State := mk fun b => (ptpB b).fset F.PTP_CFG_DELAY 1
def w_PtpMessages_12 : State := mk fun b => { (netB b).fset F.PTP_CFG_SLAVE_ONLY 0 with net := { master := true } }
def w_PtpMessages_12a : State := mk fun b => { (netB b).fset F.PTP_CFG_SLAVE_ONLY 0 with net := { master := true } }
def w_PtpMessages_13 : State := mk fun b => { (netB b).fset F.PTP_CFG_SLAVE_ONLY 0 with net := { master := true } }
def w_PtpMessages_2 : State := mk fun b => b.timed (.announceRx false)
def w_PtpMessages_8 : State := mk fun b => b.timed (.delayReq true)
def w_PtpMessages_9 : State := mk fun b => b.timed (.announceTx true)
def w_PtpMessages_9a : State := mk fun b => b.timed (.syncTx true)
/-- States and operands that meet the hypotheses of PtpMessages. -/
theorem wit_PtpMessages :
    (w_PtpMessages_1.ptpHears false 1 = false ∨ (master 5).sender = Config.clockIdentity w_PtpMessages_1.mac) ∧
    w_PtpMessages_3.ptpOn false = true ∧
    w_PtpMessages_3.periodic (Timer.announceRx false) (w_PtpMessages_3.fget F.PTP_CFG_ANN_TO * logInterval (w_PtpMessages_3.fget F.PTP_INTV_LOG_ANN)) = true ∧
    w_PtpMessages_4.ptpFrom (PtpSync.mk false 0 5 9 true 100 3 4) = true ∧
    (PtpSync.mk false 0 5 9 true 100 3 4).twoStep = true ∧
    w_PtpMessages_5.ptpFrom (PtpSync.mk false 0 5 9 false 100 3 4) = true ∧
    (PtpSync.mk false 0 5 9 false 100 3 4).twoStep = false ∧
    w_PtpMessages_6.ptpFrom (PtpSync.mk false 0 5 9 true 100 3 4) = true ∧
    (w_PtpMessages_6.ptpPort (PtpSync.mk false 0 5 9 true 100 3 4).portB).waiting = some ((PtpSync.mk false 0 5 9 true 100 3 4).seq, 40) ∧
    w_PtpMessages_7.ptpOn false = true ∧
    (w_PtpMessages_7.fgetB F.PTP_CFG_DELAY = true ∨ (w_PtpMessages_7.ptpPort false).master.isSome = true ∧
    w_PtpMessages_7.ptpLeads = false) ∧
    w_PtpMessages_7.periodic (Timer.delayReq false) (delayEvery w_PtpMessages_7) = true ∧
    w_PtpMessages_7a.ptpOn false = true ∧
    (w_PtpMessages_7a.fgetB F.PTP_CFG_DELAY = true ∨ (w_PtpMessages_7a.ptpPort false).master.isSome = true ∧
    w_PtpMessages_7a.ptpLeads = false) ∧
    w_PtpMessages_7a.periodic (Timer.delayReq false) (delayEvery w_PtpMessages_7a) = true ∧
    w_PtpMessages_10.ptpHears false 0 = true ∧
    w_PtpMessages_10a.ptpHears false 0 = true ∧
    w_PtpMessages_11.ptpHears false 0 = true ∧ w_PtpMessages_11.fgetB F.PTP_CFG_DELAY = true ∧
    w_PtpMessages_12.ptpOn false = true ∧ w_PtpMessages_12.ptpLeads = true ∧
    w_PtpMessages_12.periodic (masterTimer false true) (masterEvery w_PtpMessages_12 true) = true ∧
    w_PtpMessages_12a.ptpOn false = true ∧ w_PtpMessages_12a.ptpLeads = true ∧
    w_PtpMessages_12a.periodic (masterTimer false false) (masterEvery w_PtpMessages_12a false) = true ∧
    w_PtpMessages_13.ptpHears false 0 = true ∧ w_PtpMessages_13.ptpLeads = true ∧
    w_PtpMessages_13.fgetB F.PTP_CFG_DELAY = false ∧
    w_PtpMessages_2.periodic (Timer.announceRx false) (w_PtpMessages_2.fget F.PTP_CFG_ANN_TO * logInterval (w_PtpMessages_2.fget F.PTP_INTV_LOG_ANN)) = false ∧
    w_PtpMessages_8.periodic (Timer.delayReq true) (delayEvery w_PtpMessages_8) = false ∧
    w_PtpMessages_9.periodic (masterTimer true true) (masterEvery w_PtpMessages_9 true) = false ∧
    w_PtpMessages_9a.periodic (masterTimer true false) (masterEvery w_PtpMessages_9a false) = false := by
  (repeat' apply And.intro) <;> first | with_reducible rfl | decide +kernel

def ses0 (r : Role) : Session := ⟨3, r, 0, 2, 9, [], [(4, [1])], [(7, 100), (8, 200)], [(100, 100000000), (200, 200000000)], 6, [], 0⟩
def sspB (r : Role) (b : Block) : Block := { (ph .good (stt 4 b)) with ssp := { sessions := [ses0 r, ⟨8, .viewer, 0, 1, 9, [], [], [], [], 0, [], 0⟩], lastNum := 8 } }
def hdr : SspHdr := ⟨3, 5, false, false⟩
def dgram (n sv : Nat) : List (BitVec 8) := ([0x53, 0x53, 0x50, 0x30, 2, 1, sv, 0, n, 0, 0, 0, 1, 0, 0, 0, 0, 0, 0, 0] ++ List.replicate 16 0).map (BitVec.ofNat 8)
def stalled (r : Role) (l : List (Nat × Nat × SspReq)) (b : Block) : Block := { sspB r b with ssp := { sessions := [ses0 r], stall := true, waiting := l } }
def w_SspSessions_0 : State := mk fun b => stalled .engineer [] b
def w_SspSessions_1 : State := mk fun b => sspB .engineer b
def w_SspSessions_2 : State := mk fun b => sspB .engineer b
def w_SspSessions_3 : State := mk fun b => sspB .engineer b
def w_SspSessions_4 : State := mk fun b => sspB .viewer b
def w_SspSessions_5 : State := mk fun b => { sspB .engineer b with clk := 30000000000, ssp := { sessions := [ses0 .engineer], transfer := some ⟨2, 9, 1, some 3, [], 0⟩ } }
def w_SspSessions_6 : State := mk fun b => sspB .engineer b
def w_SspSessions_6a : State := mk fun b => { stalled .engineer [] b with clk := 30000000000 }
def w_SspSessions_7 : State := mk fun b => sspB .engineer b
def w_SspSessions_8 : State := mk fun b => sspB .engineer b
def w_SspSessions_8a : State := mk fun b => sspB .engineer b
def w_SspSessions_9 : State := mk fun b => sspB .viewer b
def w_SspSessions_10 : State := mk fun b => sspB .viewer b
def w_SspSessions_10a : State := mk fun b => sspB .viewer b
/-- States and operands that meet the hypotheses of SspSessions. -/
theorem wit_SspSessions :
    w_SspSessions_0.sspServes = true ∧ w_SspSessions_0.ssp.stall = true ∧
    w_SspSessions_1.sspServes = true ∧ w_SspSessions_1.ssp.stall = false ∧
    ((SspOpen.mk 9 1 [] 1 2 4 0 [] [] [] []).reserved ≠ 0 ∨ (SspOpen.mk 9 1 [] 1 2 4 0 [] [] [] []).role = 0 ∨ 3 < (SspOpen.mk 9 1 [] 1 2 4 0 [] [] [] []).role) ∧
    w_SspSessions_2.sspServes = true ∧ w_SspSessions_2.ssp.stall = false ∧
    (SspOpen.mk 9 1 [] 3 4 3 0 [] [] [] []).reserved = 0 ∧ (1 ≤ (SspOpen.mk 9 1 [] 3 4 3 0 [] [] [] []).role) ∧
    ((SspOpen.mk 9 1 [] 3 4 3 0 [] [] [] []).role ≤ 3) ∧
    ((SspOpen.mk 9 1 [] 3 4 3 0 [] [] [] []).verMax.min 2 < (SspOpen.mk 9 1 [] 3 4 3 0 [] [] [] []).verMin.max 1) ∧
    w_SspSessions_3.sspServes = true ∧ w_SspSessions_3.ssp.stall = false ∧
    (SspOpen.mk 9 1 [] 0 4 3 0 [] [] [] []).reserved = 0 ∧ (1 ≤ (SspOpen.mk 9 1 [] 0 4 3 0 [] [] [] []).role) ∧
    ((SspOpen.mk 9 1 [] 0 4 3 0 [] [] [] []).role ≤ 3) ∧
    ((SspOpen.mk 9 1 [] 0 4 3 0 [] [] [] []).verMin.max 1 ≤ (SspOpen.mk 9 1 [] 0 4 3 0 [] [] [] []).verMax.min 2) ∧
    (w_SspSessions_4.sspServes = true ∧ w_SspSessions_4.ssp.stall = false ∧
    w_SspSessions_4.session hdr.session = some (ses0 Role.viewer) ∧
    List.find? (fun a ↦ a.fst == hdr.seq) (ses0 Role.viewer).answers = none ∧ hdr.busy = false ∧
    offered (ses0 Role.viewer).ver svClose = true ∧ (w_SspSessions_4.inRecovery && !recoveryOffers svClose) = false ∧
    neededRole svClose ≤ roleCode (ses0 Role.viewer).role ∧ hdr.malformed = false) ∧
    w_SspSessions_5.ssp.stall = false ∧ w_SspSessions_5.session 3 = some (ses0 Role.engineer) ∧
    ((ses0 Role.engineer).heard + 30000000000 ≤ w_SspSessions_5.clk) ∧
    w_SspSessions_6.session 3 = some (ses0 Role.engineer) ∧
    (w_SspSessions_6.ssp.stall = true ∨ w_SspSessions_6.clk < (ses0 Role.engineer).heard + 30000000000) ∧
    w_SspSessions_6a.session 3 = some (ses0 Role.engineer) ∧
    (w_SspSessions_6a.ssp.stall = true ∨ w_SspSessions_6a.clk < (ses0 Role.engineer).heard + 30000000000) ∧
    w_SspSessions_7.session 4 = none ∧
    w_SspSessions_8.sspServes = true ∧ [] = List.map (BitVec.toNat (w := 32)) [] ∧
    (leAt [] 0 4 ≠ 810570579 ∨ ([] : List Nat).length ≠ 36 + leAt [] 16 4 ∨ 1400 < leAt [] 16 4) ∧
    w_SspSessions_8a.sspServes = true ∧
    List.map (BitVec.toNat (w := 8)) (dgram 3 2 ++ [0]) = List.map (BitVec.toNat (w := 8)) (dgram 3 2 ++ [0]) ∧
    (leAt (List.map (BitVec.toNat (w := 8)) (dgram 3 2 ++ [0])) 0 4 ≠ 810570579 ∨ (List.map (BitVec.toNat (w := 8)) (dgram 3 2 ++ [0])).length ≠ 36 + leAt (List.map (BitVec.toNat (w := 8)) (dgram 3 2 ++ [0])) 16 4 ∨ 1400 < leAt (List.map (BitVec.toNat (w := 8)) (dgram 3 2 ++ [0])) 16 4) ∧
    w_SspSessions_9.sspServes = true ∧
    List.map (BitVec.toNat (w := 8)) (dgram 3 2) = List.map (BitVec.toNat (w := 8)) (dgram 3 2) ∧
    leAt (List.map (BitVec.toNat (w := 8)) (dgram 3 2)) 0 4 = 810570579 ∧
    (List.map (BitVec.toNat (w := 8)) (dgram 3 2)).length = 36 + leAt (List.map (BitVec.toNat (w := 8)) (dgram 3 2)) 16 4 ∧
    (leAt (List.map (BitVec.toNat (w := 8)) (dgram 3 2)) 16 4 ≤ 1400) ∧
    w_SspSessions_9.session (leAt (List.map (BitVec.toNat (w := 8)) (dgram 3 2)) 8 2) = some (ses0 Role.viewer) ∧
    w_SspSessions_10.sspServes = true ∧
    List.map (BitVec.toNat (w := 8)) (dgram 9 1) = List.map (BitVec.toNat (w := 8)) (dgram 9 1) ∧
    leAt (List.map (BitVec.toNat (w := 8)) (dgram 9 1)) 0 4 = 810570579 ∧
    (List.map (BitVec.toNat (w := 8)) (dgram 9 1)).length = 36 + leAt (List.map (BitVec.toNat (w := 8)) (dgram 9 1)) 16 4 ∧
    (leAt (List.map (BitVec.toNat (w := 8)) (dgram 9 1)) 16 4 ≤ 1400) ∧
    w_SspSessions_10.session (leAt (List.map (BitVec.toNat (w := 8)) (dgram 9 1)) 8 2) = none ∧
    w_SspSessions_10a.sspServes = true ∧
    List.map (BitVec.toNat (w := 8)) (dgram 9 2) = List.map (BitVec.toNat (w := 8)) (dgram 9 2) ∧
    leAt (List.map (BitVec.toNat (w := 8)) (dgram 9 2)) 0 4 = 810570579 ∧
    (List.map (BitVec.toNat (w := 8)) (dgram 9 2)).length = 36 + leAt (List.map (BitVec.toNat (w := 8)) (dgram 9 2)) 16 4 ∧
    (leAt (List.map (BitVec.toNat (w := 8)) (dgram 9 2)) 16 4 ≤ 1400) ∧
    w_SspSessions_10a.session (leAt (List.map (BitVec.toNat (w := 8)) (dgram 9 2)) 8 2) = none := by
  (repeat' apply And.intro) <;> first | with_reducible rfl | decide +kernel

def w_SspRequestsAndServices_0 : State := mk fun b => sspB .viewer b
def w_SspRequestsAndServices_1 : State := mk fun b => stalled .viewer [] b
def w_SspRequestsAndServices_1a : State := mk fun b => sspB .viewer b
def w_SspRequestsAndServices_1b : State := mk fun b => stalled .viewer [(3, 6, .keepalive hdr), (3, 7, .keepalive hdr), (3, 8, .keepalive hdr), (3, 9, .keepalive hdr)] b
def w_SspRequestsAndServices_2 : State := mk fun b => sspB .operator b
def w_SspRequestsAndServices_3 : State := mk fun b => sspB .operator b
def w_SspRequestsAndServices_4 : State := mk fun b => sspB .operator b
def w_SspRequestsAndServices_4a : State := mk fun b => sspB .viewer b
def w_SspRequestsAndServices_5 : State := mk fun b => sspB .operator b
def w_SspRequestsAndServices_6 : State := mk fun b => sspB .viewer b
def w_SspRequestsAndServices_7 : State := mk fun b => sspB .viewer b
def w_SspRequestsAndServices_7a : State := mk fun b => sspB .engineer b
def w_SspRequestsAndServices_8 : State := mk fun b => sspB .viewer b
def w_SspRequestsAndServices_9 : State := mk fun b => sspB .viewer b
def w_SspRequestsAndServices_10 : State := mk fun b => (sspB .viewer b).setRegN Reg.TSU_TIME_LO 200000000
def w_SspRequestsAndServices_11 : State := mk fun b => sspB .viewer b
def w_SspRequestsAndServices_12 : State := mk fun b => sspB .operator b
def w_SspRequestsAndServices_13 : State := mk fun b => { sspB .viewer b with evr := { first := [⟨1, 0, true, []⟩] } }
def w_SspRequestsAndServices_13a : State := mk fun b => sspB .viewer b
/-- States and operands that meet the hypotheses of SspRequestsAndServices. -/
theorem wit_SspRequestsAndServices :
    (w_SspRequestsAndServices_0.sspServes = true ∧ w_SspRequestsAndServices_0.ssp.stall = false ∧
    w_SspRequestsAndServices_0.session hdr.session = some (ses0 Role.viewer) ∧
    List.find? (fun a ↦ a.fst == hdr.seq) (ses0 Role.viewer).answers = none ∧ hdr.busy = false ∧
    offered (ses0 Role.viewer).ver svKeepalive = true ∧
    (w_SspRequestsAndServices_0.inRecovery && !recoveryOffers svKeepalive) = false ∧
    neededRole svKeepalive ≤ roleCode (ses0 Role.viewer).role ∧ hdr.malformed = false) ∧
    w_SspRequestsAndServices_1.sspServes = true ∧
    w_SspRequestsAndServices_1.session hdr.session = some (ses0 Role.viewer) ∧
    (List.find? (fun a ↦ a.fst == hdr.seq) (ses0 Role.viewer).answers = none) ∧
    (w_SspRequestsAndServices_1.ssp.stall = true ∨ hdr.busy = true) ∧
    (((w_SspRequestsAndServices_1.outstanding hdr.session).any fun w ↦ w.snd.fst == hdr.seq) = false) ∧
    w_SspRequestsAndServices_1a.sspServes = true ∧
    w_SspRequestsAndServices_1a.session (SspHdr.mk 3 5 true false).session = some (ses0 Role.viewer) ∧
    (List.find? (fun a ↦ a.fst == (SspHdr.mk 3 5 true false).seq) (ses0 Role.viewer).answers = none) ∧
    (w_SspRequestsAndServices_1a.ssp.stall = true ∨ (SspHdr.mk 3 5 true false).busy = true) ∧
    (((w_SspRequestsAndServices_1a.outstanding (SspHdr.mk 3 5 true false).session).any fun w ↦ w.snd.fst == (SspHdr.mk 3 5 true false).seq) = false) ∧
    w_SspRequestsAndServices_1b.sspServes = true ∧
    w_SspRequestsAndServices_1b.session hdr.session = some (ses0 Role.viewer) ∧
    (List.find? (fun a ↦ a.fst == hdr.seq) (ses0 Role.viewer).answers = none) ∧
    (w_SspRequestsAndServices_1b.ssp.stall = true ∨ hdr.busy = true) ∧
    (((w_SspRequestsAndServices_1b.outstanding hdr.session).any fun w ↦ w.snd.fst == hdr.seq) = false) ∧
    w_SspRequestsAndServices_2.sspServes = true ∧
    w_SspRequestsAndServices_2.session (SspHdr.mk 3 4 false false).session = some (ses0 Role.operator) ∧
    (List.find? (fun a ↦ a.fst == (SspHdr.mk 3 4 false false).seq) (ses0 Role.operator).answers = some (4, [1])) ∧
    w_SspRequestsAndServices_3.sspServes = true ∧
    w_SspRequestsAndServices_3.session (SspHdr.mk 9 4 false false).session = none ∧
    w_SspRequestsAndServices_4.sspServes = true ∧ w_SspRequestsAndServices_4.ssp.stall = false ∧
    w_SspRequestsAndServices_4.session (SspHdr.mk 8 5 false false).session = some (Session.mk 8 Role.viewer 0 1 9 [] [] [] [] 0 [] 0) ∧
    (List.find? (fun a ↦ a.fst == (SspHdr.mk 8 5 false false).seq) (Session.mk 8 Role.viewer 0 1 9 [] [] [] [] 0 [] 0).answers = none) ∧
    (SspHdr.mk 8 5 false false).busy = false ∧
    offered (Session.mk 8 Role.viewer 0 1 9 [] [] [] [] 0 [] 0).ver 32 = false ∧
    w_SspRequestsAndServices_4a.sspServes = true ∧ w_SspRequestsAndServices_4a.ssp.stall = false ∧
    w_SspRequestsAndServices_4a.session hdr.session = some (ses0 Role.viewer) ∧
    (List.find? (fun a ↦ a.fst == hdr.seq) (ses0 Role.viewer).answers = none) ∧ hdr.busy = false ∧
    offered (ses0 Role.viewer).ver 127 = false ∧
    w_SspRequestsAndServices_5.sspServes = true ∧ w_SspRequestsAndServices_5.ssp.stall = false ∧
    w_SspRequestsAndServices_5.session hdr.session = some (ses0 Role.operator) ∧
    (List.find? (fun a ↦ a.fst == hdr.seq) (ses0 Role.operator).answers = none) ∧ hdr.busy = false ∧
    ((ses0 Role.operator).role ≠ Role.engineer) ∧
    (w_SspRequestsAndServices_6.sspServes = true ∧ w_SspRequestsAndServices_6.ssp.stall = false ∧
    w_SspRequestsAndServices_6.session hdr.session = some (ses0 Role.viewer) ∧
    List.find? (fun a ↦ a.fst == hdr.seq) (ses0 Role.viewer).answers = none ∧ hdr.busy = false ∧
    offered (ses0 Role.viewer).ver svRegRead = true ∧
    (w_SspRequestsAndServices_6.inRecovery && !recoveryOffers svRegRead) = false ∧
    neededRole svRegRead ≤ roleCode (ses0 Role.viewer).role ∧ hdr.malformed = false) ∧
    (w_SspRequestsAndServices_6.sspHeard (ses0 Role.viewer)).sspReads (Requester.net 3) [64, 68] = (w_SspRequestsAndServices_6.sspHeard (ses0 Role.viewer)).sspReads (Requester.net hdr.session) [64, 68] ∧
    (w_SspRequestsAndServices_7.sspServes = true ∧ w_SspRequestsAndServices_7.ssp.stall = false ∧
    w_SspRequestsAndServices_7.session hdr.session = some (ses0 Role.viewer) ∧
    List.find? (fun a ↦ a.fst == hdr.seq) (ses0 Role.viewer).answers = none ∧ hdr.busy = false ∧
    offered (ses0 Role.viewer).ver svRegWrite = true ∧
    (w_SspRequestsAndServices_7.inRecovery && !recoveryOffers svRegWrite) = false ∧
    neededRole svRegWrite ≤ roleCode (ses0 Role.viewer).role ∧ hdr.malformed = false) ∧
    (w_SspRequestsAndServices_7.sspHeard (ses0 Role.viewer)).sspWrites 3 [(64, 1), (72, 2)] accIn = (w_SspRequestsAndServices_7.sspHeard (ses0 Role.viewer)).sspWrites hdr.session [(64, 1), (72, 2)] accIn ∧
    (w_SspRequestsAndServices_7a.sspServes = true ∧ w_SspRequestsAndServices_7a.ssp.stall = false ∧
    w_SspRequestsAndServices_7a.session hdr.session = some (ses0 Role.engineer) ∧
    List.find? (fun a ↦ a.fst == hdr.seq) (ses0 Role.engineer).answers = none ∧ hdr.busy = false ∧
    offered (ses0 Role.engineer).ver svRegWrite = true ∧
    (w_SspRequestsAndServices_7a.inRecovery && !recoveryOffers svRegWrite) = false ∧
    neededRole svRegWrite ≤ roleCode (ses0 Role.engineer).role ∧ hdr.malformed = false) ∧
    (w_SspRequestsAndServices_7a.sspHeard (ses0 Role.engineer)).sspWrites 3 [(Reg.BLK_EVT_EN 32, 1)] accIn = (w_SspRequestsAndServices_7a.sspHeard (ses0 Role.engineer)).sspWrites hdr.session [(Reg.BLK_EVT_EN 32, 1)] accIn ∧
    (w_SspRequestsAndServices_8.sspServes = true ∧ w_SspRequestsAndServices_8.ssp.stall = false ∧
    w_SspRequestsAndServices_8.session hdr.session = some (ses0 Role.viewer) ∧
    List.find? (fun a ↦ a.fst == hdr.seq) (ses0 Role.viewer).answers = none ∧ hdr.busy = false ∧
    offered (ses0 Role.viewer).ver svSubscribe = true ∧
    (w_SspRequestsAndServices_8.inRecovery && !recoveryOffers svSubscribe) = false ∧
    neededRole svSubscribe ≤ roleCode (ses0 Role.viewer).role ∧ hdr.malformed = false) ∧
    (w_SspRequestsAndServices_9.sspServes = true ∧ w_SspRequestsAndServices_9.ssp.stall = false ∧
    w_SspRequestsAndServices_9.session hdr.session = some (ses0 Role.viewer) ∧
    List.find? (fun a ↦ a.fst == hdr.seq) (ses0 Role.viewer).answers = none ∧ hdr.busy = false ∧
    offered (ses0 Role.viewer).ver svUnsubscribe = true ∧
    (w_SspRequestsAndServices_9.inRecovery && !recoveryOffers svUnsubscribe) = false ∧
    neededRole svUnsubscribe ≤ roleCode (ses0 Role.viewer).role ∧ hdr.malformed = false) ∧
    w_SspRequestsAndServices_10.sspServes = true ∧ w_SspRequestsAndServices_10.ssp.stall = false ∧
    w_SspRequestsAndServices_10.session 3 = some (ses0 Role.viewer) ∧ (ses0 Role.viewer).pubAt 100 = some 100000000 ∧
    (100000000 ≤ w_SspRequestsAndServices_10.now) ∧
    (1 = (List.filter (fun e ↦ e.snd == 100) (ses0 Role.viewer).subs).length) ∧ (1 ≤ 1) ∧
    w_SspRequestsAndServices_11.session 3 = some (ses0 Role.viewer) ∧ (ses0 Role.viewer).pubAt 100 = some 100000000 ∧
    (w_SspRequestsAndServices_11.ssp.stall = true ∨ w_SspRequestsAndServices_11.now < 100000000) ∧
    (w_SspRequestsAndServices_12.sspServes = true ∧ w_SspRequestsAndServices_12.ssp.stall = false ∧
    w_SspRequestsAndServices_12.session hdr.session = some (ses0 Role.operator) ∧
    List.find? (fun a ↦ a.fst == hdr.seq) (ses0 Role.operator).answers = none ∧ hdr.busy = false ∧
    offered (ses0 Role.operator).ver svSignedCmd = true ∧
    (w_SspRequestsAndServices_12.inRecovery && !recoveryOffers svSignedCmd) = false ∧
    neededRole svSignedCmd ≤ roleCode (ses0 Role.operator).role ∧ hdr.malformed = false) ∧
    (w_SspRequestsAndServices_13.sspServes = true ∧ w_SspRequestsAndServices_13.ssp.stall = false ∧
    w_SspRequestsAndServices_13.session hdr.session = some (ses0 Role.viewer) ∧
    List.find? (fun a ↦ a.fst == hdr.seq) (ses0 Role.viewer).answers = none ∧ hdr.busy = false ∧
    offered (ses0 Role.viewer).ver svRecRead = true ∧
    (w_SspRequestsAndServices_13.inRecovery && !recoveryOffers svRecRead) = false ∧
    neededRole svRecRead ≤ roleCode (ses0 Role.viewer).role ∧ hdr.malformed = false) ∧
    ([RecBlk.mk 1 0 true []] = if 0 = 0 then w_SspRequestsAndServices_13.evr.first else w_SspRequestsAndServices_13.evr.ring) ∧
    (w_SspRequestsAndServices_13a.sspServes = true ∧ w_SspRequestsAndServices_13a.ssp.stall = false ∧
    w_SspRequestsAndServices_13a.session hdr.session = some (ses0 Role.viewer) ∧
    List.find? (fun a ↦ a.fst == hdr.seq) (ses0 Role.viewer).answers = none ∧ hdr.busy = false ∧
    offered (ses0 Role.viewer).ver svRecRead = true ∧
    (w_SspRequestsAndServices_13a.inRecovery && !recoveryOffers svRecRead) = false ∧
    neededRole svRecRead ≤ roleCode (ses0 Role.viewer).role ∧ hdr.malformed = false) ∧
    ([] = if 1 = 0 then w_SspRequestsAndServices_13a.evr.first else w_SspRequestsAndServices_13a.evr.ring) := by
  (repeat' apply And.intro) <;> first | with_reducible rfl | decide +kernel

def trB (t : Option Transfer) (b : Block) : Block := { sspB .engineer b with ssp := { sessions := [ses0 .engineer], transfer := t } }
def w_FileTransfers_0 : State := mk fun b => sspB .engineer b
def w_FileTransfers_0a : State := mk fun b => sspB .engineer b
def w_FileTransfers_0b : State := mk fun b => sspB .engineer b
def w_FileTransfers_1 : State := mk fun b => trB (some ⟨2, 10, 1, some 3, [], 0⟩) b
def w_FileTransfers_1a : State := mk fun b => trB (some ⟨3, 10, 1, none, [], 0⟩) b
def w_FileTransfers_2 : State := mk fun b => sspB .engineer b
def w_FileTransfers_3 : State := mk fun b => sspB .engineer b
def w_FileTransfers_4 : State := mk fun b => sspB .engineer b
def w_FileTransfers_4a : State := mk fun b => sspB .engineer b
def w_FileTransfers_5 : State := mk fun b => sspB .engineer b
def w_FileTransfers_5a : State := mk fun b => trB (some ⟨2, 10, 1, some 3, [], 0⟩) b
def w_FileTransfers_6 : State := mk fun b => trB (some ⟨2, 10, 1, some 3, [], 0⟩) b
def w_FileTransfers_6a : State := mk fun b => trB (some ⟨2, 2, 1, some 3, [], 0⟩) b
def w_FileTransfers_7 : State := mk fun b => trB (some ⟨3, 10, 1, some 3, [], 0⟩) b
def w_FileTransfers_8 : State := mk fun b => trB (some ⟨2, 10, 1, some 3, [], 0⟩) b
def w_FileTransfers_9 : State := mk fun b => trB (some ⟨2, 10, 1, none, [], 0⟩) b
def w_FileTransfers_9a : State := mk fun b => { ((trB (some ⟨2, 10, 1, some 3, [], 0⟩) b).fset F.OLC_STAT_STATE olcReceiving).fset F.RED_STAT_PAIR_OK 1 with pwr := { b.pwr with phase := .good, base := .unitA } }
def w_FileTransfers_10 : State := mk fun b => { trB (some ⟨2, 10, 1, none, [], 0⟩) b with clk := 60000000000 }
def w_FileTransfers_11 : State := mk fun b => trB (some ⟨2, 10, 1, none, [], 0⟩) b
def w_FileTransfers_11a : State := mk fun b => trB (some ⟨2, 10, 1, some 3, [], 0⟩) b
/-- States and operands that meet the hypotheses of FileTransfers. -/
theorem wit_FileTransfers :
    (w_FileTransfers_0.sspServes = true ∧ w_FileTransfers_0.ssp.stall = false ∧
    w_FileTransfers_0.session hdr.session = some (ses0 Role.engineer) ∧
    List.find? (fun a ↦ a.fst == hdr.seq) (ses0 Role.engineer).answers = none ∧ hdr.busy = false ∧
    offered (ses0 Role.engineer).ver svFileBegin = true ∧
    (w_FileTransfers_0.inRecovery && !recoveryOffers svFileBegin) = false ∧
    neededRole svFileBegin ≤ roleCode (ses0 Role.engineer).role ∧ hdr.malformed = false) ∧
    (10 = 0 ∨ 2 ^ 32 ≤ 10 ∨ 0 = 0 ∨ 3 < 0) ∧
    (w_FileTransfers_0a.sspServes = true ∧ w_FileTransfers_0a.ssp.stall = false ∧
    w_FileTransfers_0a.session hdr.session = some (ses0 Role.engineer) ∧
    List.find? (fun a ↦ a.fst == hdr.seq) (ses0 Role.engineer).answers = none ∧ hdr.busy = false ∧
    offered (ses0 Role.engineer).ver svFileBegin = true ∧
    (w_FileTransfers_0a.inRecovery && !recoveryOffers svFileBegin) = false ∧
    neededRole svFileBegin ≤ roleCode (ses0 Role.engineer).role ∧ hdr.malformed = false) ∧
    (10 = 0 ∨ 2 ^ 32 ≤ 10 ∨ 4 = 0 ∨ 3 < 4) ∧
    (w_FileTransfers_0b.sspServes = true ∧ w_FileTransfers_0b.ssp.stall = false ∧
    w_FileTransfers_0b.session hdr.session = some (ses0 Role.engineer) ∧
    List.find? (fun a ↦ a.fst == hdr.seq) (ses0 Role.engineer).answers = none ∧ hdr.busy = false ∧
    offered (ses0 Role.engineer).ver svFileBegin = true ∧
    (w_FileTransfers_0b.inRecovery && !recoveryOffers svFileBegin) = false ∧
    neededRole svFileBegin ≤ roleCode (ses0 Role.engineer).role ∧ hdr.malformed = false) ∧
    (4294967296 = 0 ∨ 2 ^ 32 ≤ 4294967296 ∨ 1 = 0 ∨ 3 < 1) ∧
    (w_FileTransfers_1.sspServes = true ∧ w_FileTransfers_1.ssp.stall = false ∧
    w_FileTransfers_1.session hdr.session = some (ses0 Role.engineer) ∧
    List.find? (fun a ↦ a.fst == hdr.seq) (ses0 Role.engineer).answers = none ∧ hdr.busy = false ∧
    offered (ses0 Role.engineer).ver svFileBegin = true ∧
    (w_FileTransfers_1.inRecovery && !recoveryOffers svFileBegin) = false ∧
    neededRole svFileBegin ≤ roleCode (ses0 Role.engineer).role ∧ hdr.malformed = false) ∧ (1 ≤ 10) ∧ (10 < 2 ^ 32) ∧
    (1 ≤ 2) ∧ (2 ≤ 3) ∧ w_FileTransfers_1.inRecovery = false ∧
    w_FileTransfers_1.ssp.transfer = some (Transfer.mk 2 10 1 (some 3) [] 0) ∧ (2 ≠ 1) ∧
    (w_FileTransfers_1a.sspServes = true ∧ w_FileTransfers_1a.ssp.stall = false ∧
    w_FileTransfers_1a.session hdr.session = some (ses0 Role.engineer) ∧
    List.find? (fun a ↦ a.fst == hdr.seq) (ses0 Role.engineer).answers = none ∧ hdr.busy = false ∧
    offered (ses0 Role.engineer).ver svFileBegin = true ∧
    (w_FileTransfers_1a.inRecovery && !recoveryOffers svFileBegin) = false ∧
    neededRole svFileBegin ≤ roleCode (ses0 Role.engineer).role ∧ hdr.malformed = false) ∧ (1 ≤ 10) ∧ (10 < 2 ^ 32) ∧
    (1 ≤ 3) ∧ (3 ≤ 3) ∧ w_FileTransfers_1a.inRecovery = false ∧
    w_FileTransfers_1a.ssp.transfer = some (Transfer.mk 3 10 1 none [] 0) ∧ (3 ≠ 1) ∧
    (w_FileTransfers_2.sspServes = true ∧ w_FileTransfers_2.ssp.stall = false ∧
    w_FileTransfers_2.session hdr.session = some (ses0 Role.engineer) ∧
    List.find? (fun a ↦ a.fst == hdr.seq) (ses0 Role.engineer).answers = none ∧ hdr.busy = false ∧
    offered (ses0 Role.engineer).ver svFileBegin = true ∧
    (w_FileTransfers_2.inRecovery && !recoveryOffers svFileBegin) = false ∧
    neededRole svFileBegin ≤ roleCode (ses0 Role.engineer).role ∧ hdr.malformed = false) ∧ (1 ≤ 4294967295) ∧
    (4294967295 < 2 ^ 32) ∧ w_FileTransfers_2.ssp.transfer = none ∧ w_FileTransfers_2.upd.cask = none ∧
    w_FileTransfers_2.fgetB F.CEL_STAT_READONLY = false ∧
    (w_FileTransfers_3.sspServes = true ∧ w_FileTransfers_3.ssp.stall = false ∧
    w_FileTransfers_3.session hdr.session = some (ses0 Role.engineer) ∧
    List.find? (fun a ↦ a.fst == hdr.seq) (ses0 Role.engineer).answers = none ∧ hdr.busy = false ∧
    offered (ses0 Role.engineer).ver svFileBegin = true ∧
    (w_FileTransfers_3.inRecovery && !recoveryOffers svFileBegin) = false ∧
    neededRole svFileBegin ≤ roleCode (ses0 Role.engineer).role ∧ hdr.malformed = false) ∧ (1 ≤ 10) ∧ (10 < 2 ^ 32) ∧
    w_FileTransfers_3.inRecovery = false ∧ w_FileTransfers_3.ssp.transfer = none ∧ w_FileTransfers_3.olcAt = olcIdle ∧
    (w_FileTransfers_3.running = true ∨ w_FileTransfers_3.modState = stStop) ∧
    w_FileTransfers_3.fgetB F.CEL_STAT_READONLY = false ∧
    (w_FileTransfers_4.sspServes = true ∧ w_FileTransfers_4.ssp.stall = false ∧
    w_FileTransfers_4.session hdr.session = some (ses0 Role.engineer) ∧
    List.find? (fun a ↦ a.fst == hdr.seq) (ses0 Role.engineer).answers = none ∧ hdr.busy = false ∧
    offered (ses0 Role.engineer).ver svFileBegin = true ∧
    (w_FileTransfers_4.inRecovery && !recoveryOffers svFileBegin) = false ∧
    neededRole svFileBegin ≤ roleCode (ses0 Role.engineer).role ∧ hdr.malformed = false) ∧ (1 ≤ 10) ∧ (10 < 2 ^ 32) ∧
    w_FileTransfers_4.inRecovery = false ∧ w_FileTransfers_4.ssp.transfer = none ∧
    (w_FileTransfers_4a.sspServes = true ∧ w_FileTransfers_4a.ssp.stall = false ∧
    w_FileTransfers_4a.session hdr.session = some (ses0 Role.engineer) ∧
    List.find? (fun a ↦ a.fst == hdr.seq) (ses0 Role.engineer).answers = none ∧ hdr.busy = false ∧
    offered (ses0 Role.engineer).ver svFileBegin = true ∧
    (w_FileTransfers_4a.inRecovery && !recoveryOffers svFileBegin) = false ∧
    neededRole svFileBegin ≤ roleCode (ses0 Role.engineer).role ∧ hdr.malformed = false) ∧ (1 ≤ 10) ∧ (10 < 2 ^ 32) ∧
    w_FileTransfers_4a.inRecovery = false ∧ w_FileTransfers_4a.ssp.transfer = none ∧
    (w_FileTransfers_6.sspServes = true ∧ w_FileTransfers_6.ssp.stall = false ∧
    w_FileTransfers_6.session hdr.session = some (ses0 Role.engineer) ∧
    List.find? (fun a ↦ a.fst == hdr.seq) (ses0 Role.engineer).answers = none ∧ hdr.busy = false ∧
    offered (ses0 Role.engineer).ver svFilePiece = true ∧
    (w_FileTransfers_6.inRecovery && !recoveryOffers svFilePiece) = false ∧
    neededRole svFilePiece ≤ roleCode (ses0 Role.engineer).role ∧ hdr.malformed = false) ∧ ([1, 2].length ≤ 1024) ∧
    w_FileTransfers_6.ssp.transfer = some (Transfer.mk 2 10 1 (some 3) [] 0) ∧
    (Transfer.mk 2 10 1 (some 3) [] 0).session = some hdr.session ∧
    (Transfer.mk 2 10 1 (some 3) [] 0).fits 0 0 [1, 2].length = true ∧ (Transfer.mk 2 10 1 (some 3) [] 0).target = 2 ∧
    (Transfer.mk 2 10 1 (some 3) [] 0).put 0 0 [1, 2] = (Transfer.mk 2 10 1 (some 3) [] 0).put 0 0 (List.map (BitVec.toNat (w := 32)) [1, 2]) ∧
    (w_FileTransfers_6a.sspServes = true ∧ w_FileTransfers_6a.ssp.stall = false ∧
    w_FileTransfers_6a.session hdr.session = some (ses0 Role.engineer) ∧
    List.find? (fun a ↦ a.fst == hdr.seq) (ses0 Role.engineer).answers = none ∧ hdr.busy = false ∧
    offered (ses0 Role.engineer).ver svFilePiece = true ∧
    (w_FileTransfers_6a.inRecovery && !recoveryOffers svFilePiece) = false ∧
    neededRole svFilePiece ≤ roleCode (ses0 Role.engineer).role ∧ hdr.malformed = false) ∧ ([1, 2].length ≤ 1024) ∧
    w_FileTransfers_6a.ssp.transfer = some (Transfer.mk 2 2 1 (some 3) [] 0) ∧
    (Transfer.mk 2 2 1 (some 3) [] 0).session = some hdr.session ∧
    (Transfer.mk 2 2 1 (some 3) [] 0).fits 0 0 [1, 2].length = true ∧ (Transfer.mk 2 2 1 (some 3) [] 0).target = 2 ∧
    (Transfer.mk 2 2 1 (some 3) [] 0).put 0 0 [1, 2] = (Transfer.mk 2 2 1 (some 3) [] 0).put 0 0 (List.map (BitVec.toNat (w := 32)) [1, 2]) ∧
    (w_FileTransfers_7.sspServes = true ∧ w_FileTransfers_7.ssp.stall = false ∧
    w_FileTransfers_7.session hdr.session = some (ses0 Role.engineer) ∧
    List.find? (fun a ↦ a.fst == hdr.seq) (ses0 Role.engineer).answers = none ∧ hdr.busy = false ∧
    offered (ses0 Role.engineer).ver svFilePiece = true ∧
    (w_FileTransfers_7.inRecovery && !recoveryOffers svFilePiece) = false ∧
    neededRole svFilePiece ≤ roleCode (ses0 Role.engineer).role ∧ hdr.malformed = false) ∧ ([1, 2].length ≤ 1024) ∧
    w_FileTransfers_7.ssp.transfer = some (Transfer.mk 3 10 1 (some 3) [] 0) ∧
    (Transfer.mk 3 10 1 (some 3) [] 0).session = some hdr.session ∧
    (Transfer.mk 3 10 1 (some 3) [] 0).fits 0 0 [1, 2].length = true ∧ (Transfer.mk 3 10 1 (some 3) [] 0).target = 3 ∧
    (Transfer.mk 3 10 1 (some 3) [] 0).put 0 0 [1, 2] = (Transfer.mk 3 10 1 (some 3) [] 0).put 0 0 (List.map (BitVec.toNat (w := 32)) [1, 2]) ∧
    (((Transfer.mk 3 10 1 (some 3) [] 0).put 0 0 [1, 2]).got < ((Transfer.mk 3 10 1 (some 3) [] 0).put 0 0 [1, 2]).size) ∧
    (w_FileTransfers_8.sspServes = true ∧ w_FileTransfers_8.ssp.stall = false ∧
    w_FileTransfers_8.session hdr.session = some (ses0 Role.engineer) ∧
    List.find? (fun a ↦ a.fst == hdr.seq) (ses0 Role.engineer).answers = none ∧ hdr.busy = false ∧
    offered (ses0 Role.engineer).ver svFileStatus = true ∧
    (w_FileTransfers_8.inRecovery && !recoveryOffers svFileStatus) = false ∧
    neededRole svFileStatus ≤ roleCode (ses0 Role.engineer).role ∧ hdr.malformed = false) ∧
    w_FileTransfers_8.ssp.transfer = some (Transfer.mk 2 10 1 (some 3) [] 0) ∧
    (w_FileTransfers_9.sspServes = true ∧ w_FileTransfers_9.ssp.stall = false ∧
    w_FileTransfers_9.session hdr.session = some (ses0 Role.engineer) ∧
    List.find? (fun a ↦ a.fst == hdr.seq) (ses0 Role.engineer).answers = none ∧ hdr.busy = false ∧
    offered (ses0 Role.engineer).ver svFileAbort = true ∧
    (w_FileTransfers_9.inRecovery && !recoveryOffers svFileAbort) = false ∧
    neededRole svFileAbort ≤ roleCode (ses0 Role.engineer).role ∧ hdr.malformed = false) ∧
    w_FileTransfers_9.ssp.transfer = some (Transfer.mk 2 10 1 none [] 0) ∧
    (w_FileTransfers_9a.sspServes = true ∧ w_FileTransfers_9a.ssp.stall = false ∧
    w_FileTransfers_9a.session hdr.session = some (ses0 Role.engineer) ∧
    List.find? (fun a ↦ a.fst == hdr.seq) (ses0 Role.engineer).answers = none ∧ hdr.busy = false ∧
    offered (ses0 Role.engineer).ver svFileAbort = true ∧
    (w_FileTransfers_9a.inRecovery && !recoveryOffers svFileAbort) = false ∧
    neededRole svFileAbort ≤ roleCode (ses0 Role.engineer).role ∧ hdr.malformed = false) ∧
    w_FileTransfers_9a.ssp.transfer = some (Transfer.mk 2 10 1 (some 3) [] 0) ∧
    w_FileTransfers_10.ssp.transfer = some (Transfer.mk 2 10 1 none [] 0) ∧
    (Transfer.mk 2 10 1 none [] 0).session = none ∧
    ((Transfer.mk 2 10 1 none [] 0).since + 60000000000 ≤ w_FileTransfers_10.clk) ∧
    w_FileTransfers_11.ssp.transfer = some (Transfer.mk 2 10 1 none [] 0) ∧
    ((Transfer.mk 2 10 1 none [] 0).session ≠ none ∨ w_FileTransfers_11.clk < (Transfer.mk 2 10 1 none [] 0).since + 60000000000) ∧
    w_FileTransfers_11a.ssp.transfer = some (Transfer.mk 2 10 1 (some 3) [] 0) ∧
    ((Transfer.mk 2 10 1 (some 3) [] 0).session ≠ none ∨ w_FileTransfers_11a.clk < (Transfer.mk 2 10 1 (some 3) [] 0).since + 60000000000) := by
  (repeat' apply And.intro) <;> first | with_reducible rfl | decide +kernel

def w_UnlockToken_0 : State := mk fun b => ph .good (stt 4 (unl 0xF8 b))
/-- States and operands that meet the hypotheses of UnlockToken. -/
theorem wit_UnlockToken :
    w_UnlockToken_0.judgeWrite Requester.sup Reg.SEC_CMD 1 = 0 := by
  (repeat' apply And.intro) <;> first | with_reducible rfl | decide +kernel

def slot0 (p : Nat) : CanSlotCfg := ⟨p, 31, 1, 0, 0x123, 8, 0, 3, 100, 0⟩
def canB (p : Nat) (x : CanPort) (st : Nat) (b : Block) : Block := { (ph .good (stt 4 (unl (0x90 + p) b))).fset (F.CAN_ERR_STATE p) st |>.fset (F.CAN_MODE_MODE p) 1 |>.fset (F.CTX_STATE_STATE 3) 1 with canCfg := [slot0 p], can := [(p, x)], pwr := { b.pwr with phase := .good, released := true, frontEnds := true } }
def w_CanPorts_0 : State := mk fun b => canB 3 { mode := 1, aims := [(31, 0)] } ceActive b
def w_CanPorts_0a : State := mk fun b => canB 3 { mode := 1, aims := [(31, 0)], attempt := some 2, pending := [(2, 0)] } cePassive b
def w_CanPorts_1 : State := mk fun b => canB 3 { mode := 1, aims := [(31, 0)], attempt := some 31, pending := [(31, 9)] } ceActive b
def w_CanPorts_2 : State := mk fun b => canB 3 { mode := 1, aims := [(31, 1000)] } ceActive b
def w_CanPorts_3 : State := mk fun b => stt 1 (canB 3 { mode := 1, aims := [(31, 0)] } ceActive b)
def w_CanPorts_0b : State := mk fun b => { canB 3 { mode := 1, aims := [(31, 0)] } ceActive b with canCfg := [⟨3, 31, 2, 0, 0x123, 8, 0, 3, 100, 0⟩] }
def w_CanPorts_4 : State := mk fun b => canB 0 { mode := 1, aims := [(31, 0)] } ceActive b
def w_CanPorts_5 : State := mk fun b => canB 3 { mode := 1, aims := [(31, 0)] } ceBusOff b
def w_CanPorts_5a : State := mk fun b => canB 3 { mode := 1, aims := [(31, 0)] } ceRecovering b
def w_CanPorts_6 : State := mk fun b => canB 3 { mode := 1, tec := 95 } ceActive b
def w_CanPorts_6a : State := mk fun b => canB 3 { mode := 1, tec := 248, attempt := some 31, pending := [(31, 9)] } cePassive b
def w_CanPorts_6b : State := mk fun b => (canB 3 { mode := 1, tec := 3 } ceActive b).fset (F.CAN_ERR_REC 3) 127
def w_CanPorts_6c : State := mk fun b => canB 3 { mode := 1, tec := 3 } ceActive b
def w_CanPorts_6d : State := mk fun b => canB 3 { mode := 1, tec := 95, attempt := some 31, pending := [(31, 9)] } ceActive b
def w_CanPorts_7 : State := mk fun b => ((canB 3 { mode := 1, tec := 95 } ceActive b).fset (F.CAN_MODE_PEX 3) 1).fset (F.CAN_MODE_FD_EN 3) 1
def frame0 (fd : Bool) : CanFrame := ⟨0x123, false, false, 2, fd, false, false, 2, 77, 5, 6⟩
def w_CanPorts_8 : State := mk fun b => canB 3 { mode := 2 } ceActive b
def w_CanPorts_8a : State := mk fun b => (canB 3 { mode := 1 } ceActive b).fset (F.CAN_MODE_FD_EN 3) 1
def w_CanPorts_9 : State := mk fun b => canB 3 { mode := 2 } ceActive b
def w_CanPorts_10 : State := mk fun b => canB 3 { mode := 1, tec := 3, attempt := some 31, pending := [(31, 9)] } ceActive b
def w_CanPorts_11 : State := mk fun b => canB 3 { mode := 1, tec := 3, attempt := some 31, pending := [(31, 9)] } ceActive b
def w_CanPorts_11a : State := mk fun b => canB 3 { mode := 1, tec := 256, attempt := some 31, pending := [(31, 9)] } ceBusOff b
def w_CanPorts_12 : State := mk fun b => canB 3 { mode := 1, tec := 3, attempt := some 31, pending := [(31, 9)], noRetry := true } ceActive b
def w_CanPorts_13 : State := mk fun b => canB 3 { mode := 1, tec := 256 } ceBusOff b
def w_CanPorts_13a : State := mk fun b => canB 3 { mode := 1 } ceActive b
def w_CanPorts_14 : State := mk fun b => canB 3 { mode := 1, tec := 256 } ceRecovering b
def w_CanPorts_16 : State := mk fun b => canB 3 { mode := 0 } ceOff b
def w_CanPorts_16a : State := mk fun b => canB 3 { mode := 2, tec := 9 } ceActive b
def w_CanPorts_15 : State := mk fun b => (canB 3 { mode := 1, busy := true } ceActive b).timed (.canMode 3)
def w_CanPorts_16b : State := mk fun b => (canB 3 { mode := 1, busy := true } ceActive b).fset (F.CAN_MODE_MODE 3) 2
/-- States and operands that meet the hypotheses of CanPorts. -/
theorem wit_CanPorts :
    w_CanPorts_0.canSlot 3 31 = some (slot0 3) ∧ w_CanPorts_0.canDue 3 31 = true ∧
    slotData (slot0 3) w_CanPorts_0 = some 0 ∧ (w_CanPorts_0.canPort 3).mode = 1 ∧
    w_CanPorts_0.fgetB (F.CAN_MODE_AUX 3) = false ∧ (w_CanPorts_0.canState 3 ≠ ceBusOff) ∧
    (w_CanPorts_0.canState 3 ≠ ceRecovering) ∧ ((w_CanPorts_0.canPort 3).attempt ≠ some 31) ∧
    w_CanPorts_0a.canSlot 3 31 = some (slot0 3) ∧ w_CanPorts_0a.canDue 3 31 = true ∧
    slotData (slot0 3) w_CanPorts_0a = some 0 ∧ (w_CanPorts_0a.canPort 3).mode = 1 ∧
    w_CanPorts_0a.fgetB (F.CAN_MODE_AUX 3) = false ∧ (w_CanPorts_0a.canState 3 ≠ ceBusOff) ∧
    (w_CanPorts_0a.canState 3 ≠ ceRecovering) ∧ ((w_CanPorts_0a.canPort 3).attempt ≠ some 31) ∧
    w_CanPorts_1.canSlot 3 31 = some (slot0 3) ∧ w_CanPorts_1.canDue 3 31 = true ∧
    slotData (slot0 3) w_CanPorts_1 = some 0 ∧ (w_CanPorts_1.canPort 3).mode = 1 ∧
    w_CanPorts_1.fgetB (F.CAN_MODE_AUX 3) = false ∧ (w_CanPorts_1.canState 3 ≠ ceBusOff) ∧
    (w_CanPorts_1.canState 3 ≠ ceRecovering) ∧ (w_CanPorts_1.canPort 3).attempt = some 31 ∧
    w_CanPorts_2.canDue 3 31 = false ∧
    w_CanPorts_3.canSlot 3 31 = some (slot0 3) ∧ slotData (slot0 3) w_CanPorts_3 = none ∧
    w_CanPorts_0b.canSlot 3 31 = some (CanSlotCfg.mk 3 31 2 0 291 8 0 3 100 0) ∧ w_CanPorts_0b.canDue 3 31 = true ∧
    slotData (CanSlotCfg.mk 3 31 2 0 291 8 0 3 100 0) w_CanPorts_0b = some 0 ∧ (w_CanPorts_0b.canPort 3).mode = 1 ∧
    w_CanPorts_0b.fgetB (F.CAN_MODE_AUX 3) = false ∧ (w_CanPorts_0b.canState 3 ≠ ceBusOff) ∧
    (w_CanPorts_0b.canState 3 ≠ ceRecovering) ∧ ((w_CanPorts_0b.canPort 3).attempt ≠ some 31) ∧
    w_CanPorts_4.canSlot 0 31 = some (slot0 0) ∧ w_CanPorts_4.canDue 0 31 = true ∧
    slotData (slot0 0) w_CanPorts_4 = some 0 ∧ (w_CanPorts_4.canPort 0).mode = 1 ∧
    w_CanPorts_4.fgetB (F.CAN_MODE_AUX 0) = false ∧
    (w_CanPorts_4.canState 0 = ceActive ∨ w_CanPorts_4.canState 0 = cePassive) ∧
    (w_CanPorts_4.canPort 0).attempt = none ∧
    w_CanPorts_5.canSlot 3 31 = some (slot0 3) ∧ w_CanPorts_5.canDue 3 31 = true ∧
    slotData (slot0 3) w_CanPorts_5 = some 0 ∧ (w_CanPorts_5.canPort 3).mode = 1 ∧
    w_CanPorts_5.fgetB (F.CAN_MODE_AUX 3) = false ∧
    (w_CanPorts_5.canState 3 = ceBusOff ∨ w_CanPorts_5.canState 3 = ceRecovering) ∧
    w_CanPorts_5a.canSlot 3 31 = some (slot0 3) ∧ w_CanPorts_5a.canDue 3 31 = true ∧
    slotData (slot0 3) w_CanPorts_5a = some 0 ∧ (w_CanPorts_5a.canPort 3).mode = 1 ∧
    w_CanPorts_5a.fgetB (F.CAN_MODE_AUX 3) = false ∧
    (w_CanPorts_5a.canState 3 = ceBusOff ∨ w_CanPorts_5a.canState 3 = ceRecovering) ∧
    (w_CanPorts_6.canPort 3).mode = 1 ∧
    (2 ≠ 6 ∨ w_CanPorts_6.fgetB (F.CAN_MODE_PEX 3) = false ∨ w_CanPorts_6.fgetB (F.CAN_MODE_FD_EN 3) = false) ∧
    (w_CanPorts_6.canState 3 = ceActive ∨ w_CanPorts_6.canState 3 = cePassive) ∧ (2 = if 2 = 6 then 3 else 2) ∧
    (95 = (w_CanPorts_6.canPort 3).tec + if (w_CanPorts_6.canPort 3).attempt = none then 0 else 8 * if 2 = 2 ∨ 2 = 4 ∧
    w_CanPorts_6.canState 3 = cePassive then 8 else Nat.max 1 8) ∧
    (1 = w_CanPorts_6.fget (F.CAN_ERR_REC 3) + if (w_CanPorts_6.canPort 3).attempt = none then 1 + 8 * 0 else 0) ∧
    (w_CanPorts_6a.canPort 3).mode = 1 ∧
    (3 ≠ 6 ∨ w_CanPorts_6a.fgetB (F.CAN_MODE_PEX 3) = false ∨ w_CanPorts_6a.fgetB (F.CAN_MODE_FD_EN 3) = false) ∧
    (w_CanPorts_6a.canState 3 = ceActive ∨ w_CanPorts_6a.canState 3 = cePassive) ∧ (3 = if 3 = 6 then 3 else 3) ∧
    (256 = (w_CanPorts_6a.canPort 3).tec + if (w_CanPorts_6a.canPort 3).attempt = none then 0 else 8 * if 3 = 2 ∨ 3 = 4 ∧
    w_CanPorts_6a.canState 3 = cePassive then 0 else Nat.max 1 0) ∧
    (0 = w_CanPorts_6a.fget (F.CAN_ERR_REC 3) + if (w_CanPorts_6a.canPort 3).attempt = none then 1 + 8 * 5 else 0) ∧
    (w_CanPorts_6b.canPort 3).mode = 1 ∧
    (0 ≠ 6 ∨ w_CanPorts_6b.fgetB (F.CAN_MODE_PEX 3) = false ∨ w_CanPorts_6b.fgetB (F.CAN_MODE_FD_EN 3) = false) ∧
    (w_CanPorts_6b.canState 3 = ceActive ∨ w_CanPorts_6b.canState 3 = cePassive) ∧ (0 = if 0 = 6 then 3 else 0) ∧
    (3 = (w_CanPorts_6b.canPort 3).tec + if (w_CanPorts_6b.canPort 3).attempt = none then 0 else 8 * if 0 = 2 ∨ 0 = 4 ∧
    w_CanPorts_6b.canState 3 = cePassive then 0 else Nat.max 1 0) ∧
    (128 = w_CanPorts_6b.fget (F.CAN_ERR_REC 3) + if (w_CanPorts_6b.canPort 3).attempt = none then 1 + 8 * 0 else 0) ∧
    (w_CanPorts_6c.canPort 3).mode = 1 ∧
    (6 ≠ 6 ∨ w_CanPorts_6c.fgetB (F.CAN_MODE_PEX 3) = false ∨ w_CanPorts_6c.fgetB (F.CAN_MODE_FD_EN 3) = false) ∧
    (w_CanPorts_6c.canState 3 = ceActive ∨ w_CanPorts_6c.canState 3 = cePassive) ∧ (3 = if 6 = 6 then 3 else 6) ∧
    (3 = (w_CanPorts_6c.canPort 3).tec + if (w_CanPorts_6c.canPort 3).attempt = none then 0 else 8 * if 3 = 2 ∨ 3 = 4 ∧
    w_CanPorts_6c.canState 3 = cePassive then 0 else Nat.max 1 0) ∧
    (1 = w_CanPorts_6c.fget (F.CAN_ERR_REC 3) + if (w_CanPorts_6c.canPort 3).attempt = none then 1 + 8 * 0 else 0) ∧
    (w_CanPorts_6d.canPort 3).mode = 1 ∧
    (2 ≠ 6 ∨ w_CanPorts_6d.fgetB (F.CAN_MODE_PEX 3) = false ∨ w_CanPorts_6d.fgetB (F.CAN_MODE_FD_EN 3) = false) ∧
    (w_CanPorts_6d.canState 3 = ceActive ∨ w_CanPorts_6d.canState 3 = cePassive) ∧ (2 = if 2 = 6 then 3 else 2) ∧
    (95 = (w_CanPorts_6d.canPort 3).tec + if (w_CanPorts_6d.canPort 3).attempt = none then 0 else 8 * if 2 = 2 ∨ 2 = 4 ∧
    w_CanPorts_6d.canState 3 = cePassive then 0 else Nat.max 1 0) ∧
    (0 = w_CanPorts_6d.fget (F.CAN_ERR_REC 3) + if (w_CanPorts_6d.canPort 3).attempt = none then 1 + 8 * 0 else 0) ∧
    ((w_CanPorts_7.canPort 3).mode ≠ 0) ∧ w_CanPorts_7.fgetB (F.CAN_MODE_PEX 3) = true ∧
    w_CanPorts_7.fgetB (F.CAN_MODE_FD_EN 3) = true ∧
    ((w_CanPorts_8.canPort 3).mode ≠ 0) ∧
    ((frame0 false).fdf = false ∨ w_CanPorts_8.fgetB (F.CAN_MODE_FD_EN 3) = true) ∧
    ((w_CanPorts_8a.canPort 3).mode ≠ 0) ∧
    ((frame0 true).fdf = false ∨ w_CanPorts_8a.fgetB (F.CAN_MODE_FD_EN 3) = true) ∧
    ((w_CanPorts_9.canPort 3).mode ≠ 0) ∧ (frame0 true).fdf = true ∧ w_CanPorts_9.fgetB (F.CAN_MODE_FD_EN 3) = false ∧
    (w_CanPorts_10.canPort 3).attempt = some 31 ∧ w_CanPorts_10.canSlot 3 31 = some (slot0 3) ∧
    ((w_CanPorts_10.canPort 3).tec ≤ 256) ∧ (((w_CanPorts_10.canPort 3).replacing.any fun e ↦ e.fst == 31) = false) ∧
    (CanEnd.lost ≠ CanEnd.sent) ∧ (w_CanPorts_11.canPort 3).attempt = some 31 ∧
    w_CanPorts_11.canSlot 3 31 = some (slot0 3) ∧
    (((w_CanPorts_11.canPort 3).replacing.any fun e ↦ e.fst == 31) = false) ∧
    (w_CanPorts_11.canPort 3).noRetry = false ∧
    (CanEnd.error ≠ CanEnd.sent) ∧ (w_CanPorts_11a.canPort 3).attempt = some 31 ∧
    w_CanPorts_11a.canSlot 3 31 = some (slot0 3) ∧
    (((w_CanPorts_11a.canPort 3).replacing.any fun e ↦ e.fst == 31) = false) ∧
    (w_CanPorts_11a.canPort 3).noRetry = false ∧
    (CanEnd.error ≠ CanEnd.sent) ∧ (w_CanPorts_12.canPort 3).attempt = some 31 ∧
    w_CanPorts_12.canSlot 3 31 = some (slot0 3) ∧
    (((w_CanPorts_12.canPort 3).replacing.any fun e ↦ e.fst == 31) = false) ∧ (w_CanPorts_12.canPort 3).noRetry = true ∧
    w_CanPorts_13.judgeWrite Requester.sup (Reg.CAN_CMD 3) 1 = 0 ∧
    w_CanPorts_13a.judgeWrite Requester.sup (Reg.CAN_CMD 3) 1 = 0 ∧
    w_CanPorts_14.canState 3 = ceRecovering ∧
    (w_CanPorts_16.fget (F.CAN_MODE_MODE 3) ≠ (w_CanPorts_16.canPort 3).mode) ∧
    ((w_CanPorts_16.canPort 3).busy = false ∧
    (w_CanPorts_16.canPort 3).attempt = none ∨ w_CanPorts_16.periodic (Timer.canMode 3) 1000000 = true) ∧
    (w_CanPorts_16a.fget (F.CAN_MODE_MODE 3) ≠ (w_CanPorts_16a.canPort 3).mode) ∧
    ((w_CanPorts_16a.canPort 3).busy = false ∧
    (w_CanPorts_16a.canPort 3).attempt = none ∨ w_CanPorts_16a.periodic (Timer.canMode 3) 1000000 = true) ∧
    ((w_CanPorts_15.canPort 3).busy = true ∨ (w_CanPorts_15.canPort 3).attempt ≠ none) ∧
    w_CanPorts_15.periodic (Timer.canMode 3) 1000000 = false ∧
    (w_CanPorts_16b.fget (F.CAN_MODE_MODE 3) ≠ (w_CanPorts_16b.canPort 3).mode) ∧
    ((w_CanPorts_16b.canPort 3).busy = false ∧
    (w_CanPorts_16b.canPort 3).attempt = none ∨ w_CanPorts_16b.periodic (Timer.canMode 3) 1000000 = true) := by
  (repeat' apply And.intro) <;> first | with_reducible rfl | decide +kernel

def pairB (role sync : Nat) (b : Block) : Block := { ((((ph .good (stt 4 (unl 0xB0 b))).fset F.RED_STAT_ROLE role).fset F.RED_STAT_SYNC sync).fset F.PAIR_STAT_LINK 1).fset F.RED_STAT_PAIR_OK 1 |>.fset F.RED_STAT_PIV 3 with pwr := { b.pwr with phase := .good, base := .unitA, sfpAbs := false, released := true, frontEnds := true } }
def beat : PairBeat := ⟨0x00050001, 60000, 4, 2, 2, false, true, true, 1, 3, false, 9, 8, 7, 6, 5, 0, 1, 2, true, 3, 4, true⟩
def w_PairPaths_0 : State := mk fun b => (pairB 1 0 b).fset F.PAIR_STAT_LINK 0
def w_PairPaths_1 : State := mk fun b => pairB 2 2 b
def w_PairPaths_7 : State := mk fun b => { pairB 2 4 b with clk := 36000000000000 }
def w_PairPaths_7a : State := mk fun b => { pairB 1 0 b with clk := 36000000000000 }
def w_PairPaths_8 : State := mk fun b => pairB 1 0 b
def w_PairPaths_9 : State := mk fun b => pairB 1 0 b
def w_PairPaths_10 : State := mk fun b => pairB 1 0 b
def w_PairPaths_10a : State := mk fun b => pairB 2 2 b
def w_PairPaths_11 : State := mk fun b => canB 3 { mode := 1 } ceActive ((pairB 1 0 b).fset F.RED_CFG_HB_EN 1) |> fun x => { x with pwr := { x.pwr with base := .unitA } }
def w_PairPaths_12 : State := mk fun b => (pairB 1 0 b).fset F.RED_CFG_HB_EN 1 |>.fset (F.CAN_MODE_AUX 3) 1
def w_PairPaths_13 : State := mk fun b => { (pairB 2 2 b).fset F.RED_STAT_HB_OK 1 with clk := 5000000 }
def w_PairPaths_14 : State := mk fun b => canB 3 { mode := 1 } ceBusOff ((pairB 1 0 b).fset F.RED_CFG_HB_EN 1) |> fun x => { x with clk := 100000000, pwr := { x.pwr with base := .unitA } }
def w_PairPaths_15 : State := mk fun b => (pairB 2 2 b).fset F.TSU_CFG_SRC 3
def w_PairPaths_2 : State := mk fun b => { pairB 1 0 b with red := { b.red with pairAt := b.clk } }
def w_PairPaths_3 : State := mk fun b => { b with red := { b.red with beatAt := b.clk + 1 } }
def w_PairPaths_4 : State := mk fun b => { b with clk := 4999999 }
def w_PairPaths_5 : State := mk fun b => { b with clk := 99999999 }
def w_PairPaths_6 : State := mk fun b => { b with red := { b.red with canBeatAt := b.now + 1000000 } }
/-- States and operands that meet the hypotheses of PairPaths. -/
theorem wit_PairPaths :
    w_PairPaths_0.pwr.sfpAbs = false ∧ w_PairPaths_0.fgetB F.PAIR_STAT_LINK = false ∧
    w_PairPaths_1.fgetB F.PAIR_STAT_LINK = true ∧
    w_PairPaths_7.fgetB F.RED_STAT_PAIR_OK = true ∧
    (w_PairPaths_7.red.pairAt + 10000 * w_PairPaths_7.fget F.RED_TIMING_PAIR_TO ≤ w_PairPaths_7.clk) ∧
    w_PairPaths_7a.fgetB F.RED_STAT_PAIR_OK = true ∧
    (w_PairPaths_7a.red.pairAt + 10000 * w_PairPaths_7a.fget F.RED_TIMING_PAIR_TO ≤ w_PairPaths_7a.clk) ∧
    w_PairPaths_8.powered = true ∧ w_PairPaths_8.onPair = true ∧ w_PairPaths_8.fgetB F.PAIR_STAT_LINK = true ∧
    (w_PairPaths_8.red.beatAt ≤ w_PairPaths_8.clk) ∧
    w_PairPaths_9.powered = true ∧ w_PairPaths_9.onPair = true ∧ w_PairPaths_9.fgetB F.PAIR_STAT_LINK = true ∧
    (let __src := beat;     PairBeat.mk __src.claim __src.health __src.state __src.role __src.sync __src.departing __src.cycled __src.floatReady __src.verLo __src.verHi __src.unitA __src.vintage __src.imageCrc __src.safCrc __src.cfg __src.timing __src.marked __src.pos0 __src.freq0 __src.locked0 __src.pos1 __src.speed1 false).sound =   false ∧
    w_PairPaths_10.powered = true ∧ w_PairPaths_10.onPair = true ∧ w_PairPaths_10.fgetB F.PAIR_STAT_LINK = true ∧
    beat.sound = true ∧ w_PairPaths_10.red.joining = false ∧
    w_PairPaths_10a.powered = true ∧ w_PairPaths_10a.onPair = true ∧ w_PairPaths_10a.fgetB F.PAIR_STAT_LINK = true ∧
    (let __src := beat;     PairBeat.mk __src.claim __src.health __src.state 1 __src.sync true __src.cycled __src.floatReady __src.verLo __src.verHi __src.unitA __src.vintage __src.imageCrc __src.safCrc __src.cfg __src.timing __src.marked __src.pos0 __src.freq0 __src.locked0 __src.pos1 __src.speed1 __src.sound).sound =   true ∧
    w_PairPaths_10a.red.joining = false ∧
    w_PairPaths_11.powered = true ∧ (w_PairPaths_11.pwr.phase ≠ CorePhase.down) ∧ w_PairPaths_11.hbOn = true ∧
    (w_PairPaths_11.canState 3 ≠ ceBusOff) ∧ (w_PairPaths_11.canState 3 ≠ ceRecovering) ∧
    (w_PairPaths_11.red.canBeatAt ≤ w_PairPaths_11.now) ∧
    w_PairPaths_12.powered = true ∧ w_PairPaths_12.hbOn = true ∧
    w_PairPaths_13.fgetB F.RED_STAT_HB_OK = true ∧ (w_PairPaths_13.red.hbAt + 5000000 ≤ w_PairPaths_13.clk) ∧
    w_PairPaths_14.hbOn = true ∧ w_PairPaths_14.canState 3 = ceBusOff ∧
    (w_PairPaths_14.red.offAt + 100000000 ≤ w_PairPaths_14.clk) ∧
    w_PairPaths_15.powered = true ∧ w_PairPaths_15.fgetB F.PAIR_STAT_LINK = true ∧
    (w_PairPaths_2.fgetB F.RED_STAT_PAIR_OK = false ∨ w_PairPaths_2.clk < w_PairPaths_2.red.pairAt + 10000 * w_PairPaths_2.fget F.RED_TIMING_PAIR_TO) ∧
    (w_PairPaths_3.clk < w_PairPaths_3.red.beatAt) ∧
    (w_PairPaths_4.clk < w_PairPaths_4.red.hbAt + 5000000) ∧
    (w_PairPaths_5.clk < w_PairPaths_5.red.offAt + 100000000) ∧
    (w_PairPaths_6.now < w_PairPaths_6.red.canBeatAt) ∧
    (w_PairPaths_6.red.canBeatAt ≤ w_PairPaths_6.now + 1000000) := by
  (repeat' apply And.intro) <;> first | with_reducible rfl | decide +kernel

def w_PairRounds_0 : State := mk fun b => { pairB 1 0 b with red := { b.red with roundAt := some 5 } }
def w_PairRounds_0a : State := mk fun b => { pairB 2 2 b with red := { b.red with roundAt := some 5 } }
def w_PairRounds_1 : State := mk fun b => { (pairB 1 0 b).setRegN Reg.RED_CLAIM 0xF0008001 with red := { b.red with roundAt := some 5, partner := { b.red.partner with role := 2 } } }
def w_PairRounds_2 : State := mk fun b => pairB 1 0 b
def w_PairRounds_3 : State := mk fun b => { pairB 2 2 b with red := { b.red with roundAt := some 5 }, clk := 100005 }
def w_PairRounds_4 : State := mk fun b => pairB 2 2 b
def w_PairRounds_5 : State := mk fun b => { pairB 2 2 b with red := { b.red with roundAt := some 5 } }
def w_PairRounds_7 : State := mk fun b => { stt 3 (pairB 1 0 b) with red := { b.red with round := true } }
def w_PairRounds_8 : State := mk fun b => b
def w_PairRounds_6 : State := mk fun b => { pairB 1 0 b with red := { b.red with round := true } }
def w_PairRounds_6a : State := mk fun b => { pairB 2 2 b with red := { b.red with round := true } }
def w_PairRounds_9 : State := mk fun b => { ((pairB 1 0 b).fset F.RED_CFG_HDIFF 10).fset F.RED_HEALTH_PARTNER 60 with clk := 1000000000, red := { b.red with lowAt := some 0, partner := { sync := sySynced } } }
def w_PairRounds_10 : State := mk fun b => b
def w_PairRounds_12 : State := mk fun b => { pairB 2 2 b with red := { b.red with received := true, roundAt := some 0 } }
def w_PairRounds_12a : State := mk fun b => { pairB 2 3 b with red := { b.red with received := true, roundAt := some 0 } }
def w_PairRounds_13 : State := mk fun b => pairB 1 0 b
def w_PairRounds_14 : State := mk fun b => pairB 2 2 b
def w_PairRounds_14a : State := mk fun b => { pairB 1 0 b with red := { b.red with partner := { sync := sySynced, role := 2 } } }
def w_PairRounds_15 : State := mk fun b => pairB 2 3 b
def w_PairRounds_15a : State := mk fun b => pairB 1 0 b
def w_PairRounds_16 : State := mk fun b => pairB 2 3 b
def w_PairRounds_16a : State := mk fun b => pairB 1 0 b
def w_PairRounds_11 : State := mk fun b => { b with clk := 999999999, red := { b.red with lowAt := some 0 } }
/-- States and operands that meet the hypotheses of PairRounds. -/
theorem wit_PairRounds :
    w_PairRounds_0.inRounds = true ∧
    (w_PairRounds_0.role = roleStandby ∨ w_PairRounds_0.red.departed = true ∨ w_PairRounds_0.red.roundAt.isSome = true) ∧
    (epochOf (w_PairRounds_0.regN Reg.RED_CLAIM) < 61440) ∧
    w_PairRounds_0a.inRounds = true ∧
    (w_PairRounds_0a.role = roleStandby ∨ w_PairRounds_0a.red.departed = true ∨ w_PairRounds_0a.red.roundAt.isSome = true) ∧
    (epochOf (w_PairRounds_0a.regN Reg.RED_CLAIM) < 61440) ∧
    w_PairRounds_1.inRounds = true ∧ (w_PairRounds_1.red.departed = true ∨ w_PairRounds_1.red.roundAt.isSome = true) ∧
    w_PairRounds_1.role = rolePrimary ∧ (61440 ≤ epochOf (w_PairRounds_1.regN Reg.RED_CLAIM)) ∧
    w_PairRounds_1.fgetB F.RED_STAT_PAIR_OK = true ∧ w_PairRounds_1.red.partner.role = roleStandby ∧
    w_PairRounds_1.fgetB F.PAIR_STAT_LINK = true ∧
    (w_PairRounds_2.inRounds = false ∨ w_PairRounds_2.role = rolePrimary ∧ w_PairRounds_2.red.departed = false ∧
    w_PairRounds_2.red.roundAt = none) ∧
    w_PairRounds_3.inRounds = true ∧ w_PairRounds_3.role = roleStandby ∧ w_PairRounds_3.red.round = false ∧
    w_PairRounds_3.red.roundAt = some 5 ∧ (5 + 100000 ≤ w_PairRounds_3.clk) ∧
    (w_PairRounds_4.inRounds = false ∨ w_PairRounds_4.role ≠ roleStandby ∨ w_PairRounds_4.red.round = true ∨ w_PairRounds_4.red.roundAt = none) ∧
    w_PairRounds_5.red.roundAt = some 5 ∧ (w_PairRounds_5.clk < 5 + 100000) ∧
    w_PairRounds_7.red.round = true ∧ w_PairRounds_7.inRounds = true ∧ w_PairRounds_7.running = false ∧
    (w_PairRounds_8.red.round = false ∨ w_PairRounds_8.inRounds = false) ∧
    w_PairRounds_6.red.round = true ∧ w_PairRounds_6.inRounds = true ∧ w_PairRounds_6.running = true ∧
    w_PairRounds_6a.red.round = true ∧ w_PairRounds_6a.inRounds = true ∧ w_PairRounds_6a.running = true ∧
    (w_PairRounds_9.fget F.RED_CFG_HDIFF ≠ 0) ∧ (3 ≤ w_PairRounds_9.fget F.RED_STAT_PIV) ∧
    w_PairRounds_9.onPair = true ∧ w_PairRounds_9.role = rolePrimary ∧ w_PairRounds_9.red.partner.sync = sySynced ∧
    (w_PairRounds_9.fget F.RED_HEALTH_OWN + w_PairRounds_9.fget F.RED_CFG_HDIFF ≤ w_PairRounds_9.fget F.RED_HEALTH_PARTNER) ∧
    w_PairRounds_9.red.lowAt = some 0 ∧ (0 + 1000000000 ≤ w_PairRounds_9.clk) ∧
    (w_PairRounds_10.fget F.RED_CFG_HDIFF = 0 ∨ w_PairRounds_10.fget F.RED_STAT_PIV < 3 ∨ w_PairRounds_10.role ≠ rolePrimary ∨ w_PairRounds_10.red.partner.sync ≠ sySynced ∨ w_PairRounds_10.fget F.RED_HEALTH_PARTNER < w_PairRounds_10.fget F.RED_HEALTH_OWN + w_PairRounds_10.fget F.RED_CFG_HDIFF ∨ w_PairRounds_10.red.lowAt = none) ∧
    w_PairRounds_12.inRounds = true ∧ w_PairRounds_12.role = roleStandby ∧
    (w_PairRounds_12.sync = sySynced ∨ w_PairRounds_12.sync = syUnmirrored ∨ w_PairRounds_12.sync = syResyncing) ∧
    w_PairRounds_12.takeoverBarred = false ∧ (w_PairRounds_12.red.received = true ∧
    w_PairRounds_12.red.roundAt.isSome = true ∨ w_PairRounds_12.partnerSilent = true) ∧
    (epochOf (w_PairRounds_12.regN Reg.RED_PCLAIM) + 1 < 61440) ∧
    w_PairRounds_12a.inRounds = true ∧ w_PairRounds_12a.role = roleStandby ∧
    (w_PairRounds_12a.sync = sySynced ∨ w_PairRounds_12a.sync = syUnmirrored ∨ w_PairRounds_12a.sync = syResyncing) ∧
    w_PairRounds_12a.takeoverBarred = false ∧ (w_PairRounds_12a.red.received = true ∧
    w_PairRounds_12a.red.roundAt.isSome = true ∨ w_PairRounds_12a.partnerSilent = true) ∧
    (epochOf (w_PairRounds_12a.regN Reg.RED_PCLAIM) + 1 < 61440) ∧
    (w_PairRounds_13.inRounds = false ∨ w_PairRounds_13.role ≠ roleStandby ∨ w_PairRounds_13.sync = sySyncing ∨ w_PairRounds_13.takeoverBarred = true ∨ w_PairRounds_13.partnerSilent = false ∧
    (w_PairRounds_13.red.received = false ∨ w_PairRounds_13.red.roundAt = none)) ∧
    w_PairRounds_14.judgeWrite Requester.sup Reg.RED_CMD 1 = 0 ∧
    w_PairRounds_14a.judgeWrite Requester.sup Reg.RED_CMD 1 = 0 ∧
    w_PairRounds_15.judgeWrite Requester.sup Reg.RED_CMD 2 = 0 ∧
    w_PairRounds_15a.judgeWrite Requester.sup Reg.RED_CMD 2 = 0 ∧
    w_PairRounds_16.judgeWrite Requester.sup Reg.RED_CMD 3 = 0 ∧
    w_PairRounds_16a.judgeWrite Requester.sup Reg.RED_CMD 3 = 0 ∧
    w_PairRounds_11.red.lowAt = some 0 ∧ (w_PairRounds_11.clk < 0 + 1000000000) := by
  (repeat' apply And.intro) <;> first | with_reducible rfl | decide +kernel

def w_PairJoins_1 : State := mk fun b => { stt 1 (pairB 0 0 b) with clk := 36000000000000, red := { b.red with joining := true } }
def w_PairJoins_1a : State := mk fun b => { stt 1 (pairB 0 0 b) with clk := 36000000000000, red := { b.red with joining := true, partner := { state := stRun, role := 2 } }, pwr := { b.pwr with phase := .good, base := .unitB } }
def w_PairJoins_2 : State := mk fun b => { stt 1 (pairB 0 0 b) with red := { b.red with joining := true, partner := { state := stStart } }, pwr := { b.pwr with phase := .good, base := .unitB } }
def w_PairJoins_3 : State := mk fun b => pairB 1 0 b
def w_PairJoins_5 : State := mk fun b => pairB 1 0 b
def w_PairJoins_6 : State := mk fun b => pairB 2 1 b
def w_PairJoins_7 : State := mk fun b => pairB 2 1 b
def w_PairJoins_7a : State := mk fun b => ((pairB 2 4 b).fset (F.CTX_CFG_VALID 3) 1).fset (F.CTX_STATE_STATE 3) csStopped
def w_PairJoins_8 : State := mk fun b => { pairB 2 2 b with ctxs := [(3, { act := .running })] }
def w_PairJoins_9 : State := mk fun b => pairB 1 0 b
def w_PairJoins_10 : State := mk fun b => { pairB 2 2 b with ctxs := [(3, {})] }
def w_PairJoins_11 : State := mk fun b => { pairB 2 2 b with sol := { b.sol with waiting := some job0 } }
def w_PairJoins_12 : State := mk fun b => pairB 2 2 b
def w_PairJoins_13 : State := mk fun b => { pairB 2 2 b with sol := { b.sol with waiting := some job0 } }
def w_PairJoins_21 : State := mk fun b => pairB 2 2 b
def w_PairJoins_15 : State := mk fun b => pairB 2 2 b
def w_PairJoins_15a : State := mk fun b => { pairB 2 2 b with frc := { table := [(0, ⟨7, 2, 5, 0, 0, false, none⟩)] } }
def pairPkg (n : Nat) (b : Block) : Block := { (pairB 2 2 b).fset F.OLC_STAT_STATE n with prog := some prog0, olc := { b.olc with pkg := barePackage, staged := some prog0 } }
def w_PairJoins_16 : State := mk fun b => pairPkg 0 b
def w_PairJoins_16a : State := mk fun b => pairPkg olcStaged b
def w_PairJoins_17 : State := mk fun b => { pairPkg olcStaged b with olc := { b.olc with staged := some prog0, pats := [[1]] } }
def w_PairJoins_18 : State := mk fun b => pairPkg olcStaged b
def w_PairJoins_19 : State := mk fun b => pairPkg olcArmed b
def w_PairJoins_20 : State := mk fun b => pairPkg olcArmed b
def w_PairJoins_20a : State := mk fun b => (pairPkg olcStaged b).fset F.RED_STAT_ROLE 1
def w_PairJoins_22 : State := mk fun b => pairB 1 0 b
def w_PairJoins_0 : State := mk fun b => { b with red := { b.red with joinAt := b.clk } }
def w_PairJoins_4 : State := mk fun b => supStalls b
/-- States and operands that meet the hypotheses of PairJoins. -/
theorem wit_PairJoins :
    w_PairJoins_1.red.joining = true ∧
    (w_PairJoins_1.red.joinAt + 1000000 * w_PairJoins_1.fget F.RED_TIMING_JOIN_WAIT ≤ w_PairJoins_1.clk) ∧
    (w_PairJoins_1.pwr.base ≠ BaseKind.unitB ∨ w_PairJoins_1.fgetB F.RED_STAT_PAIR_OK = false ∨ w_PairJoins_1.red.partner.state ≠ stStart ∧
    w_PairJoins_1.red.partner.role ≠ rolePrimary) ∧
    w_PairJoins_1a.red.joining = true ∧
    (w_PairJoins_1a.red.joinAt + 1000000 * w_PairJoins_1a.fget F.RED_TIMING_JOIN_WAIT ≤ w_PairJoins_1a.clk) ∧
    (w_PairJoins_1a.pwr.base ≠ BaseKind.unitB ∨ w_PairJoins_1a.fgetB F.RED_STAT_PAIR_OK = false ∨ w_PairJoins_1a.red.partner.state ≠ stStart ∧
    w_PairJoins_1a.red.partner.role ≠ rolePrimary) ∧
    w_PairJoins_2.red.joining = true ∧ w_PairJoins_2.fgetB F.RED_STAT_PAIR_OK = true ∧
    (w_PairJoins_2.red.partner.state = stStart ∨ w_PairJoins_2.red.partner.role = rolePrimary) ∧
    w_PairJoins_2.pwr.base = BaseKind.unitB ∧
    w_PairJoins_3.red.joining = false ∧
    w_PairJoins_5.onPair = true ∧ w_PairJoins_5.fgetB F.RED_STAT_PAIR_OK = true ∧ w_PairJoins_5.role = rolePrimary ∧
    w_PairJoins_5.ssp.stall = false ∧
    w_PairJoins_6.onPair = true ∧ w_PairJoins_6.fgetB F.RED_STAT_PAIR_OK = true ∧ w_PairJoins_6.role = roleStandby ∧
    (w_PairJoins_6.sync = sySyncing ∨ w_PairJoins_6.sync = syResyncing) ∧ w_PairJoins_6.ssp.stall = false ∧
    w_PairJoins_7.onPair = true ∧ w_PairJoins_7.fgetB F.RED_STAT_PAIR_OK = true ∧ w_PairJoins_7.role = roleStandby ∧
    (w_PairJoins_7.sync = sySyncing ∨ w_PairJoins_7.sync = syResyncing) ∧ (w_PairJoins_7.ctxState 3 ≠ csActive) ∧
    w_PairJoins_7.ssp.stall = false ∧
    w_PairJoins_7a.onPair = true ∧ w_PairJoins_7a.fgetB F.RED_STAT_PAIR_OK = true ∧ w_PairJoins_7a.role = roleStandby ∧
    (w_PairJoins_7a.sync = sySyncing ∨ w_PairJoins_7a.sync = syResyncing) ∧ (w_PairJoins_7a.ctxState 3 ≠ csActive) ∧
    w_PairJoins_7a.ssp.stall = false ∧
    w_PairJoins_8.takesMirror = true ∧ ((w_PairJoins_8.cx 3).act ≠ Act.idle) ∧
    w_PairJoins_9.takesMirror = false ∧
    w_PairJoins_10.takesMirror = true ∧
    w_PairJoins_11.takesMirror = true ∧
    w_PairJoins_12.takesMirror = true ∧ (Option.all (fun r ↦ r.job.slot != 5) w_PairJoins_12.sol.running = true) ∧
    (Option.all (fun j ↦ j.slot != 5) w_PairJoins_12.sol.waiting = true) ∧
    w_PairJoins_13.takesMirror = true ∧ (Option.all (fun r ↦ r.job.slot != 2) w_PairJoins_13.sol.running = true) ∧
    w_PairJoins_13.sol.waiting = some job0 ∧ job0.slot = 2 ∧
    w_PairJoins_21.takesMirror = true ∧
    w_PairJoins_15.takesMirror = true ∧ w_PairJoins_15.frc.idle = false ∧
    (FrcCmd.mk 1 (FrcEntry.mk 7 2 9 1 5 false none) Requester.sup = FrcCmd.mk (0 + 1) (FrcEntry.mk 7 2 9 1 5 (!(w_PairJoins_15.outsOf 7).isEmpty) ((w_PairJoins_15.forceFor 7).bind fun x ↦ x.orphan)) Requester.sup) ∧
    w_PairJoins_15a.takesMirror = true ∧ w_PairJoins_15a.frc.idle = false ∧
    (FrcCmd.mk 3 (FrcEntry.mk 7 2 9 1 5 false none) Requester.sup = FrcCmd.mk (2 + 1) (FrcEntry.mk 7 2 9 1 5 (!(w_PairJoins_15a.outsOf 7).isEmpty) ((w_PairJoins_15a.forceFor 7).bind fun x ↦ x.orphan)) Requester.sup) ∧
    w_PairJoins_16.takesMirror = true ∧ (w_PairJoins_16.olcAt ≠ olcArmed) ∧ (w_PairJoins_16.olcAt ≠ olcSwitching) ∧
    w_PairJoins_16a.takesMirror = true ∧ (w_PairJoins_16a.olcAt ≠ olcArmed) ∧ (w_PairJoins_16a.olcAt ≠ olcSwitching) ∧
    w_PairJoins_17.takesMirror = true ∧ w_PairJoins_17.olcAt = olcStaged ∧ w_PairJoins_17.armReady = false ∧
    w_PairJoins_18.takesMirror = true ∧ w_PairJoins_18.olcAt = olcStaged ∧ w_PairJoins_18.armReady = true ∧
    w_PairJoins_18.olc.staged = some prog0 ∧ w_PairJoins_18.frcConflicts prog0 w_PairJoins_18.olc.released = [] ∧
    w_PairJoins_19.takesMirror = true ∧ w_PairJoins_19.olcAt = olcArmed ∧ (w_PairJoins_19.now < 100) ∧
    w_PairJoins_20.onPair = true ∧ (w_PairJoins_20.role = roleStandby ∨ w_PairJoins_20.role = rolePrimary) ∧
    w_PairJoins_20.fgetB F.RED_STAT_PAIR_OK = true ∧ (1 ≤ w_PairJoins_20.olcAt) ∧ (w_PairJoins_20.olcAt ≤ olcArmed) ∧
    w_PairJoins_20a.onPair = true ∧ (w_PairJoins_20a.role = roleStandby ∨ w_PairJoins_20a.role = rolePrimary) ∧
    w_PairJoins_20a.fgetB F.RED_STAT_PAIR_OK = true ∧ (1 ≤ w_PairJoins_20a.olcAt) ∧ (w_PairJoins_20a.olcAt ≤ olcArmed) ∧
    w_PairJoins_22.takesMirror = false ∧ (PairCmd.commit 5 ≠ PairCmd.ended true) ∧
    (PairCmd.commit 5 ≠ PairCmd.ended false) ∧
    (w_PairJoins_0.clk < w_PairJoins_0.red.joinAt + 1000000 * w_PairJoins_0.fget F.RED_TIMING_JOIN_WAIT) ∧
    w_PairJoins_4.ssp.stall = true := by
  (repeat' apply And.intro) <;> first | with_reducible rfl | decide +kernel

def w_MemoryErrors_7 : State := mk fun b => b
def w_MemoryErrors_9 : State := mk fun b => b
def w_MemoryErrors_9a : State := mk fun b => b
def w_MemoryErrors_12 : State := mk fun b => pairB 2 2 b
def w_MemoryErrors_13 : State := mk fun b => olcWith olcArmed b
def w_MemoryErrors_14 : State := mk fun b => { solB b with sol := { b.sol with waiting := some job0 } }
def w_MemoryErrors_15 : State := mk fun b => ph .good (stt 4 b)
def w_MemoryErrors_16 : State := mk fun b => { ((ph .good (stt 4 b)).fset (F.ENG_STATE_STATE 15) esFault).fset (F.CTX_STATE_PLACED 3) 1 |>.fset (F.CTX_STATE_ENGINE 3) 15 with ctxs := [(3, { place := 1 })] }
def w_MemoryErrors_18 : State := mk fun b => b.fset F.SOL_TEST_GROUP_OK 15
def w_MemoryErrors_19 : State := mk fun b => { b.fset F.SOL_TEST_GROUP_OK 15 with sol := { b.sol with waiting := some job0 } }
def w_MemoryErrors_20 : State := mk fun b => { b.fset F.SOL_TEST_GROUP_OK 15 with sol := { b.sol with running := some (run0 1) } }
def w_MemoryErrors_21 : State := mk fun b => (b.fset F.SOL_TEST_GROUP_OK 15).fset F.SOL_STAT_FLOAT_READY 1
def w_MemoryErrors_22 : State := mk fun b => b.fset F.SOL_TEST_GROUP_OK 15
def w_MemoryErrors_23 : State := mk fun b => b.fset F.SOL_TEST_GROUP_OK 15
def w_MemoryErrors_24 : State := mk fun b => b.fset F.SOL_TEST_GROUP_OK 7
def w_MemoryErrors_0 : State := mk fun b => b
def w_MemoryErrors_0a : State := mk fun b => b.fset F.MEM_CFG_THR 3
def w_MemoryErrors_0b : State := mk fun b => (b.fset F.MEM_STAT_MARKED 1).fset F.MEM_STAT_DEVICE 4
def w_MemoryErrors_1 : State := mk fun b => b
def w_MemoryErrors_2 : State := mk fun b => (b.fset F.MEM_STAT_MARKED 1).fset F.MEM_STAT_DEVICE 4
def w_MemoryErrors_3 : State := mk fun b => b
def w_MemoryErrors_3a : State := mk fun b => ph .good (stt 4 b)
def w_MemoryErrors_4 : State := mk fun b => (b.fset F.MEM_STAT_MARKED 1).fset F.MEM_STAT_DEVICE 4
def w_MemoryErrors_6 : State := mk fun b => after .inner 3599999999999 b
def w_MemoryErrors_8 : State := mk fun b => after (.scrub (some 15)) 999999999 b
def w_MemoryErrors_8a : State := mk fun b => after (.scrub none) 9999999999 b
/-- States and operands that meet the hypotheses of MemoryErrors. -/
theorem wit_MemoryErrors :
    w_MemoryErrors_7.periodic Timer.inner 3600000000000 = true ∧
    (w_MemoryErrors_9.periodic (Timer.scrub (Option.map (fun x ↦ ↑x) (some 15))) (if (some 15).isSome = true then 1000000000 else 10000000000) = true) ∧
    (w_MemoryErrors_9a.periodic (Timer.scrub (Option.map Fin.val (none : Option (Fin 16)))) (if (none : Option (Fin 16)).isSome = true then 1000000000 else 10000000000) = true) ∧
    w_MemoryErrors_12.role = roleStandby ∧ (w_MemoryErrors_12.sync = sySynced ∨ w_MemoryErrors_12.sync = syUnmirrored) ∧
    (w_MemoryErrors_13.olcAt = olcArmed ∨ w_MemoryErrors_13.olcAt = olcSwitching) ∧
    w_MemoryErrors_14.sol.waiting = some job0 ∧ job0.slot = 2 ∧
    (w_MemoryErrors_15.engState 15 ≠ esFault) ∧
    w_MemoryErrors_16.engState 15 = esFault ∧
    w_MemoryErrors_18.sol.running = none ∧ w_MemoryErrors_18.sol.waiting = none ∧
    w_MemoryErrors_18.fgetB F.SOL_STAT_FLOAT_READY = false ∧ (w_MemoryErrors_18.solGroups ≠ 0) ∧
    w_MemoryErrors_19.sol.running = none ∧ w_MemoryErrors_19.sol.waiting = some job0 ∧
    w_MemoryErrors_19.fgetB F.SOL_STAT_FLOAT_READY = false ∧ (w_MemoryErrors_19.solGroups ≠ 0) ∧
    w_MemoryErrors_20.sol.running = some (run0 1) ∧
    w_MemoryErrors_21.sol.running = none ∧ w_MemoryErrors_21.fgetB F.SOL_STAT_FLOAT_READY = true ∧ 8 = 2 ^ 3 ∧
    bit (w_MemoryErrors_21.fget F.SOL_TEST_GROUP_OK) 3 = true ∧
    w_MemoryErrors_22.sol.running = none ∧
    bit (w_MemoryErrors_23.fget F.SOL_TEST_GROUP_OK) 3 = true ∧
    bit (w_MemoryErrors_24.fget F.SOL_TEST_GROUP_OK) 3 = false ∧
    2 = beatsInError [0, 1, 0, 255] ∧ (2 ≠ 0) ∧
    (w_MemoryErrors_0.markedDevice = none ∨ w_MemoryErrors_0.markedDevice = some 9) ∧
    (true = (decide (2 ≤ 2) || decide (w_MemoryErrors_0.fget F.MEM_CFG_THR ≤ (w_MemoryErrors_0.devWindow 9).length + 1))) ∧
    1 = beatsInError [0, 0, 7] ∧ (1 ≠ 0) ∧
    (w_MemoryErrors_0a.markedDevice = none ∨ w_MemoryErrors_0a.markedDevice = some 9) ∧
    (false = (decide (2 ≤ 1) || decide (w_MemoryErrors_0a.fget F.MEM_CFG_THR ≤ (w_MemoryErrors_0a.devWindow 9).length + 1))) ∧
    8 = beatsInError [1, 2, 3, 4, 5, 6, 7, 8] ∧ (8 ≠ 0) ∧
    (w_MemoryErrors_0b.markedDevice = none ∨ w_MemoryErrors_0b.markedDevice = some 4) ∧
    (true = (decide (2 ≤ 8) || decide (w_MemoryErrors_0b.fget F.MEM_CFG_THR ≤ (w_MemoryErrors_0b.devWindow 4).length + 1))) ∧
    beatsInError [0, 0, 0, 0, 0, 0, 0, 0, 7] = 0 ∧
    (beatsInError [0, 0, 0, 0, 0, 0, 0, 7] ≠ 0) ∧ w_MemoryErrors_2.markedDevice = some 4 ∧ (4 ≠ 9) ∧ (4 < 10) ∧
    rindAccepts (rindBurst w_MemoryErrors_3.markedDevice [[1, 2], [0, 5]]) = false ∧
    rindAccepts (rindBurst w_MemoryErrors_3a.markedDevice [[1], [2], [0, 1]]) = false ∧
    w_MemoryErrors_4.markedDevice = some 4 ∧ (4 < 10) ∧ (9 < 10) ∧ (4 ≠ 9) ∧ ((5 : BitVec 8) ≠ 0) ∧ (7 < 8) ∧
    (nth ([] : List (BitVec 8)) [[], [], [], [], [], [], [], [0, 0, 0, 0, 3, 0, 0, 0, 0, 5]] 7 = List.map (fun k ↦ if k = 4 then 3 else if k = 9 then 5 else 0) (upto 10)) ∧
    w_MemoryErrors_6.periodic Timer.inner 3600000000000 = false ∧
    (w_MemoryErrors_8.periodic (Timer.scrub (Option.map (fun x ↦ ↑x) (some 15))) (if (some 15).isSome = true then 1000000000 else 10000000000) = false) ∧
    (w_MemoryErrors_8a.periodic (Timer.scrub (Option.map Fin.val (none : Option (Fin 16)))) (if (none : Option (Fin 16)).isSome = true then 1000000000 else 10000000000) = false) := by
  (repeat' apply And.intro) <;> first | with_reducible rfl | decide +kernel

def w_RecorderAndCellar_0 : State := mk fun b => ph .good b
def w_RecorderAndCellar_1 : State := mk fun b => ph .good b
def w_RecorderAndCellar_2 : State := mk fun b => { ph .good b with evr := { queue := [⟨7, 0, 5, 6, 0, 0, [7]⟩] } }
def w_RecorderAndCellar_3 : State := mk fun b => { ph .good b with evr := { island := [⟨7, 3, 5, 6, 0, 0, [7]⟩] } }
def w_RecorderAndCellar_6 : State := mk fun b => { ph .good b with clk := 600000000000 }
def w_RecorderAndCellar_7 : State := mk fun b => { ph .good b with cel := { requests := [.config 0x20] } }
def w_RecorderAndCellar_7a : State := mk fun b => { ph .good b with cel := { requests := [.forceTable, .pcc] } }
def w_RecorderAndCellar_8 : State := mk fun b => ph .good b
def w_RecorderAndCellar_9 : State := mk fun b => (ph .good b).fset F.CEL_STAT_READONLY 1
def w_RecorderAndCellar_10 : State := mk fun b => ph .good b
def w_RecorderAndCellar_4 : State := mk fun b => supStalls b
def w_RecorderAndCellar_5 : State := mk fun b => after .optime 59999999999 b
def w_RecorderAndCellar_5a : State := mk fun b => supStalls b
def w_RecorderAndCellar_7b : State := mk fun b => { ph .good b with cel := { requests := [.shown 3, .pcc] } }
def w_RecorderAndCellar_7c : State := mk fun b => { ph .good b with cel := { requests := [.label 3] } }
/-- States and operands that meet the hypotheses of RecorderAndCellar. -/
theorem wit_RecorderAndCellar :
    w_RecorderAndCellar_0.powerFailing = false ∧ w_RecorderAndCellar_0.fgetB F.CEL_STAT_READONLY = false ∧
    EvRec.mk 7 0 5 6 0 0 [7, 8] = w_RecorderAndCellar_0.mkRec 7 0 (low 16 5) (low 12 6) (List.map (BitVec.toNat (w := 32)) (List.take 252 [7, 8])) ∧
    w_RecorderAndCellar_1.powerFailing = false ∧
    EvRec.mk 7 3 5 6 0 0 [7, 8] = w_RecorderAndCellar_1.mkRec 7 3 (low 16 5) (low 12 6) (List.map (BitVec.toNat (w := 32)) (List.take 252 [7, 8])) ∧
    w_RecorderAndCellar_2.evr.island = [] ∧ w_RecorderAndCellar_2.evr.queue = [EvRec.mk 7 0 5 6 0 0 [7]] ∧
    w_RecorderAndCellar_2.fgetB F.CEL_STAT_READONLY = false ∧ w_RecorderAndCellar_2.evr.refusedFill = 0 ∧
    w_RecorderAndCellar_2.ssp.stall = false ∧
    w_RecorderAndCellar_3.evr.island = [EvRec.mk 7 3 5 6 0 0 [7]] ∧
    w_RecorderAndCellar_6.powerFailing = false ∧ w_RecorderAndCellar_6.ssp.stall = false ∧
    w_RecorderAndCellar_6.periodic Timer.optime 60000000000 = true ∧
    w_RecorderAndCellar_7.cel.requests = [CelRec.config 32] ∧ w_RecorderAndCellar_7.powered = true ∧
    w_RecorderAndCellar_7.fgetB F.CEL_STAT_READONLY = false ∧ w_RecorderAndCellar_7.ssp.stall = false ∧
    w_RecorderAndCellar_7a.cel.requests = [CelRec.forceTable, CelRec.pcc] ∧ w_RecorderAndCellar_7a.powered = true ∧
    w_RecorderAndCellar_7a.fgetB F.CEL_STAT_READONLY = false ∧ w_RecorderAndCellar_7a.ssp.stall = false ∧
    (w_RecorderAndCellar_8.cel.requests = [] ∨ w_RecorderAndCellar_8.powered = false ∨ w_RecorderAndCellar_8.fgetB F.CEL_STAT_READONLY = true ∨ w_RecorderAndCellar_8.ssp.stall = true) ∧
    w_RecorderAndCellar_9.fgetB F.CEL_STAT_READONLY = true ∧
    w_RecorderAndCellar_10.fgetB F.CEL_STAT_READONLY = false ∧
    w_RecorderAndCellar_4.ssp.stall = true ∧
    (w_RecorderAndCellar_5.ssp.stall = true ∨ w_RecorderAndCellar_5.periodic Timer.optime 60000000000 = false) ∧
    (w_RecorderAndCellar_5a.ssp.stall = true ∨ w_RecorderAndCellar_5a.periodic Timer.optime 60000000000 = false) ∧
    w_RecorderAndCellar_7b.cel.requests = [CelRec.shown 3, CelRec.pcc] ∧ w_RecorderAndCellar_7b.powered = true ∧
    w_RecorderAndCellar_7b.fgetB F.CEL_STAT_READONLY = false ∧ w_RecorderAndCellar_7b.ssp.stall = false ∧
    w_RecorderAndCellar_7c.cel.requests = [CelRec.label 3] ∧ w_RecorderAndCellar_7c.powered = true ∧
    w_RecorderAndCellar_7c.fgetB F.CEL_STAT_READONLY = false ∧ w_RecorderAndCellar_7c.ssp.stall = false := by
  (repeat' apply And.intro) <;> first | with_reducible rfl | decide +kernel

def w_LabelCommands_0 : State := mk fun b => ph .good b
def w_LabelCommands_0a : State := mk fun b => (ph .good b).fset F.FRC_STAT_COUNT 2
def w_LabelCommands_1 : State := mk fun b => ph .good b
def w_LabelCommands_2 : State := mk fun b => { ph .good b with dsb := { regions := [(5, { held := some [1] })] } }
def w_LabelCommands_4 : State := mk fun b => ph .good b
def w_LabelCommands_5 : State := mk fun b => ph .good b
def w_LabelCommands_6 : State := mk fun b => ph .good (unl 0xE0 b)
def w_LabelCommands_6a : State := mk fun b => ph .good (unl 0xE0 b)
def w_LabelCommands_3 : State := mk fun b => after .labelFrame 19999999 b
/-- States and operands that meet the hypotheses of LabelCommands. -/
theorem wit_LabelCommands :
    ((w_LabelCommands_1.region 5).held = none ∨ w_LabelCommands_1.labelHeld 5 = true) ∧
    w_LabelCommands_2.powered = true ∧ w_LabelCommands_2.fgetB F.DSB_STAT_PANEL_FAULT = false ∧
    (w_LabelCommands_2.region 5).held = some [1] ∧ w_LabelCommands_2.labelHeld 5 = false ∧
    w_LabelCommands_4.powered = true ∧ w_LabelCommands_4.fgetB F.DSB_STAT_PANEL_FAULT = false ∧
    w_LabelCommands_4.periodic Timer.labelFrame 20000000 = true ∧
    w_LabelCommands_5.powered = true ∧ w_LabelCommands_5.fgetB F.DSB_STAT_PANEL_FAULT = false ∧
    w_LabelCommands_5.periodic Timer.labelFrame 20000000 = true ∧
    w_LabelCommands_3.periodic Timer.labelFrame 20000000 = false := by
  (repeat' apply And.intro) <;> first | with_reducible rfl | decide +kernel

def w_PanelAndButtons_1 : State := mk fun b => ph .good b
def w_PanelAndButtons_1a : State := mk fun b => ph .good b
def w_PanelAndButtons_2 : State := mk fun b => ph .good (unl 0xE1 b)
def w_PanelAndButtons_4 : State := mk fun b => ph .good (stt 4 b)
def w_PanelAndButtons_4a : State := mk fun b => (ph .good (stt 4 b)).fset F.BTN_STAT_CAL_OPEN 1
def w_PanelAndButtons_5 : State := mk fun b => (ph .good (stt 4 b)).fset F.BTN_STAT_CAL_STEP 1
def w_PanelAndButtons_6 : State := mk fun b => (ph .good (stt 4 b)).fset F.BTN_STAT_CAL_STEP 1
def w_PanelAndButtons_7 : State := mk fun b => { (ph .good (stt 4 b)).fset F.BTN_STAT_CAL_STEP 2 with chans := [(0, { cal := some { isLocal := true } })] }
def w_PanelAndButtons_8 : State := mk fun b => b
def w_PanelAndButtons_9 : State := mk fun b => ph .good (stt 4 b)
def w_PanelAndButtons_10 : State := mk fun b => (ph .good (stt 4 b)).fset F.BTN_STAT_CAL_STEP 3
def w_PanelAndButtons_10a : State := mk fun b => (ph .good (stt 4 b)).fset F.BTN_STAT_CAL_STEP 2
def w_PanelAndButtons_11 : State := mk fun b => ph .good (stt 4 b)
def w_PanelAndButtons_12 : State := mk fun b => b
def w_PanelAndButtons_13 : State := mk fun b => ph .good (stt 4 b)
def w_PanelAndButtons_0 : State := mk fun b => after .panel 99999999 b
/-- States and operands that meet the hypotheses of PanelAndButtons. -/
theorem wit_PanelAndButtons :
    w_PanelAndButtons_1.powered = true ∧ w_PanelAndButtons_1.periodic Timer.panel 100000000 = true ∧
    w_PanelAndButtons_1a.powered = true ∧ w_PanelAndButtons_1a.periodic Timer.panel 100000000 = true ∧
    w_PanelAndButtons_2.judgeWrite Requester.sup Reg.DSE_PCTL 1 = 0 ∧
    w_PanelAndButtons_4.pressIgnored = false ∧
    w_PanelAndButtons_4a.pressIgnored = false ∧
    w_PanelAndButtons_5.pressIgnored = false ∧ w_PanelAndButtons_5.fgetB F.DSE_CFG_HOLD_PROG = false ∧
    w_PanelAndButtons_5.fget F.BTN_STAT_CAL_STEP = 1 ∧ (0 ≠ btnSet) ∧
    w_PanelAndButtons_6.pressIgnored = false ∧ w_PanelAndButtons_6.fgetB F.DSE_CFG_HOLD_PROG = false ∧
    w_PanelAndButtons_6.fget F.BTN_STAT_CAL_STEP = 1 ∧ 2 = btnSet ∧
    w_PanelAndButtons_7.pressIgnored = false ∧ w_PanelAndButtons_7.fgetB F.DSE_CFG_HOLD_PROG = false ∧
    (2 ≤ w_PanelAndButtons_7.fget F.BTN_STAT_CAL_STEP) ∧
    (w_PanelAndButtons_7.chan w_PanelAndButtons_7.calSel).cal = some (CalSession.mk true 0 none none false CalWait.none) ∧
    (CalSession.mk true 0 none none false CalWait.none).isLocal = true ∧
    w_PanelAndButtons_8.pressIgnored = true ∧
    w_PanelAndButtons_9.pressIgnored = false ∧
    w_PanelAndButtons_10.pressIgnored = false ∧ (w_PanelAndButtons_10.fget F.BTN_STAT_CAL_STEP = 2 ∧ 19000 = 3000 ∧
    21000 = 5000 ∨ w_PanelAndButtons_10.fget F.BTN_STAT_CAL_STEP = 3 ∧ 19000 = 19000 ∧ 21000 = 21000) ∧
    w_PanelAndButtons_10a.pressIgnored = false ∧ (w_PanelAndButtons_10a.fget F.BTN_STAT_CAL_STEP = 2 ∧ 3000 = 3000 ∧
    5000 = 5000 ∨ w_PanelAndButtons_10a.fget F.BTN_STAT_CAL_STEP = 3 ∧ 3000 = 19000 ∧ 5000 = 21000) ∧
    w_PanelAndButtons_11.pressIgnored = false ∧ w_PanelAndButtons_11.fgetB F.BTN_STAT_CAL_OPEN = false ∧
    w_PanelAndButtons_12.powered = false ∧
    w_PanelAndButtons_13.powered = true ∧
    w_PanelAndButtons_0.periodic Timer.panel 100000000 = false := by
  (repeat' apply And.intro) <;> first | with_reducible rfl | decide +kernel

def w_EveryStepKeepsTheStoreCanonical_0 : State := mk fun b => { ph .good b with regs := [] }
/-- States and operands that meet the hypotheses of ResetState. -/
theorem wit_ResetState :
    32 ∈ headedPages ∧
    (255 < 256) := by
  (repeat' apply And.intro) <;> first | with_reducible rfl | decide +kernel

def w_ModuleStateChangesOnlyOnItsCauses_0 : State := mk fun b => ph .good b
/-- States and operands that meet the hypotheses of ModuleStateChangesOnlyOnItsCauses. -/
theorem wit_ModuleStateChangesOnlyOnItsCauses :
    mayChangeState Instr.tsuSecond = false := by
  (repeat' apply And.intro) <;> first | with_reducible rfl | decide +kernel

/-- States and operands that meet the hypotheses of InstructionWordsRoundTrip. -/
theorem wit_InstructionWordsRoundTrip :
    (Insn.cvt true 12 7 4095 4095).wellFormed = true ∧
    (956301311 < 2 ^ 32) ∧ (455 < 2 ^ 32) ∧ decodeInsn 956301311 455 = some (Insn.cvt true 12 7 4095 4095) ∧
    (Instr.cvt 3 true 12 7 4094 4095).insn = some (3, Insn.cvt true 12 7 4094 4095) ∧
    (Instr.cvt 3 true 12 7 4094 4095).wellFormed = true := by
  (repeat' apply And.intro) <;> first | with_reducible rfl | decide +kernel


/-! ### Witnesses that rest on a free value or a quantified hypothesis -/

theorem wit_StepRunsFrontCommand :
    ({ State.reset with pending := [.tsuSecond, .abs1Index] } : State).pending = .tsuSecond :: [.abs1Index] ∧
    State.reset.pending = [] ∧ State.reset.tick.ssp.stall = false := ⟨rfl, rfl, by decide +kernel⟩

theorem wit_Refusals_recorded :
    (mapGet {} w_Refusals_2.fab.refusals .sup).since ≠ 0 ∧
    (∀ t, (mapGet {} w_Refusals_2.fab.refusals .sup).lastRecord = some t → t + 1000000000 ≤ w_Refusals_2.clk) ∧
    w_Refusals_2.powerFailing = false ∧ w_Refusals_2.fgetB F.CEL_STAT_READONLY = false ∧
    w_Refusals_2.queueTakes (refusalRec w_Refusals_2 .sup) = true := by
  refine ⟨by decide +kernel, fun t h => ?_, by decide +kernel, by decide +kernel, by decide +kernel⟩
  have e : some 1000000000 = some t := h
  cases e
  decide +kernel

theorem wit_Refusals_not_recorded :
    ((mapGet {} w_Refusals_3.fab.refusals .sup).since = 0 ∨
      ∃ t, (mapGet {} w_Refusals_3.fab.refusals .sup).lastRecord = some t ∧ w_Refusals_3.clk < t + 1000000000) ∧
    ((mapGet {} w_Refusals_3a.fab.refusals .sup).since = 0 ∨
      ∃ t, (mapGet {} w_Refusals_3a.fab.refusals .sup).lastRecord = some t ∧ w_Refusals_3a.clk < t + 1000000000) :=
  ⟨.inl rfl, .inr ⟨1000000000, by decide +kernel, by decide +kernel⟩⟩

theorem wit_FileTransfers_5 :
    sspReady hdr svFilePiece (ses0 .engineer) w_FileTransfers_5 ∧ [(1 : BitVec 8)].length ≤ 1024 ∧
    (∀ x, w_FileTransfers_5.ssp.transfer = some x → x.session ≠ some hdr.session ∨ x.fits 0 0 1 = false) ∧
    sspReady hdr svFilePiece (ses0 .engineer) w_FileTransfers_5a ∧
    ∀ x, w_FileTransfers_5a.ssp.transfer = some x → x.session ≠ some hdr.session ∨ x.fits 7 0 1 = false := by
  refine ⟨by unfold sspReady; decide +kernel, by decide, fun x h => ?_, by unfold sspReady; decide +kernel, fun x h => ?_⟩
  · have e : none = some x := h
    cases e
  · have e : some (⟨2, 10, 1, some 3, [], 0⟩ : Transfer) = some x := h
    cases e
    exact .inr (by decide +kernel)

theorem wit_PtpMessages_0 :
    w_PtpMessages_0.ptpHears false 0 = true ∧
    (⟨128, 6, 33, 20061, 128, 5, 0, Config.clockIdentity w_PtpMessages_0.mac + 1⟩ : PtpSet).sender ≠
      Config.clockIdentity w_PtpMessages_0.mac :=
  ⟨by decide +kernel, Nat.succ_ne_self _⟩

theorem wit_LabelCommands_pieces :
    w_LabelCommands_0.powered = true ∧ w_LabelCommands_0.fgetB F.DSB_STAT_PANEL_FAULT = false ∧
    fillTo 0 (regionSize 2) (([1, 2, 3] : List (Fin 4)).map Fin.val) =
      (if 2 = 5 then w_LabelCommands_0.forceMarker else fillTo 0 (regionSize 2) (([1, 2, 3] : List (Fin 4)).map Fin.val)) ∧
    w_LabelCommands_0a.powered = true ∧ w_LabelCommands_0a.fgetB F.DSB_STAT_PANEL_FAULT = false ∧
    w_LabelCommands_0a.forceMarker =
      (if 5 = 5 then w_LabelCommands_0a.forceMarker else fillTo 0 (regionSize 5) (([1] : List (Fin 4)).map Fin.val)) :=
  ⟨by decide +kernel, by decide +kernel, (if_neg (by decide)).symm, by decide +kernel, by decide +kernel,
    (if_pos rfl).symm⟩

theorem wit_LabelCommands_commands :
    ((1 = 1 ∧ Instr.refresh = .refresh) ∨ (1 = 2 ∧ Instr.refresh = .clean)) ∧
    w_LabelCommands_6.judgeWrite .sup Reg.DSB_CMD 1 = 0 ∧
    ((2 = 1 ∧ Instr.clean = .refresh) ∨ (2 = 2 ∧ Instr.clean = .clean)) ∧
    w_LabelCommands_6a.judgeWrite .sup Reg.DSB_CMD 2 = 0 :=
  ⟨.inl ⟨rfl, rfl⟩, by decide +kernel, .inr ⟨rfl, rfl⟩, by decide +kernel⟩

theorem wit_EveryStepKeepsTheStoreCanonical :
    State.reset.canonical = true ∧ step State.reset = .next { State.reset with toBlock := State.reset.toBlock.tick } :=
  ⟨by decide +kernel, (step_nil rfl).trans (congrArg Host.Outcome.next (idle_tick (by decide +kernel)))⟩

/-- The pattern as the command carries it. -/
def patWords : List Nat := (onePattern.map (BitVec.ofNat 32)).map (BitVec.toNat (w := 32))

/-- Its bytes with the CRC taken as 0. -/
def patBytes : List Nat := fBytes (setNth patWords 15 0)

theorem patCrc_a : (patBytes.take 110).foldl crcByte 0xFFFFFFFF = 2299409361 := by decide +kernel
theorem patCrc_b : ((patBytes.drop 110).take 110).foldl crcByte 2299409361 = 1714370482 := by decide +kernel
theorem patCrc_c : ((patBytes.drop 110).drop 110).foldl crcByte 1714370482 = 1488482291 := by decide +kernel

/-- A file's CRC in three pieces: the kernel does not evaluate so long a sum at once. -/
theorem crc_pieces (w : List Nat) (n x y z : Nat)
    (ha : ((fBytes (setNth w 15 0)).take n).foldl crcByte 0xFFFFFFFF = x)
    (hb : (((fBytes (setNth w 15 0)).drop n).take n).foldl crcByte x = y)
    (hc : (((fBytes (setNth w 15 0)).drop n).drop n).foldl crcByte y = z) : fileCrc w = z ^^^ 0xFFFFFFFF := by
  unfold fileCrc crc32
  rw [← List.take_append_drop n (fBytes (setNth w 15 0)), List.foldl_append, ha,
    ← List.take_append_drop n ((fBytes (setNth w 15 0)).drop n), List.foldl_append, hb, hc]

theorem patCrc : fileCrc patWords = 1488482291 ^^^ 0xFFFFFFFF :=
  crc_pieces patWords 110 _ _ _ patCrc_a patCrc_b patCrc_c

theorem pat_form : patFormOk patWords = true := by
  unfold patFormOk headerOk
  rw [patCrc]
  decide +kernel

theorem pat_reason (wr : Nat → Bool) (h : wr 3 = true) : patReason wr patWords = 0 := by
  have w : (parsePattern patWords).writer = 3 := by decide +kernel
  have e : patCertOk patWords (parsePattern patWords) = true := by decide +kernel
  unfold patReason
  simp only [pat_form, w, h, e]
  decide +kernel

theorem patLoad_ok (b : Block) (wr : Nat → Bool) (w : List Nat) (hr : patReason wr w = 0)
    (hn : (parsePattern w).n ≠ 0) (hs : b.psState (parsePattern w).target = psEmpty)
    (hg : ¬ 512 < b.solUsed + b.sol.retired + patGranules (parsePattern w)) : (b.patLoad wr false w).2 = 0 := by
  simp [Block.patLoad, hr, hn, hs, hg]

theorem patLoad_staged (b : Block) (wr : Nat → Bool) (w : List Nat) (k : Nat) (hr : patReason wr w = 0)
    (hn : (parsePattern w).n ≠ 0) (hs : (upto 8).find? (fun k => b.psState k == psEmpty) = some k)
    (hg : ¬ 512 < b.solUsed + b.sol.retired + patGranules (parsePattern w)) : (b.patLoad wr true w).2 = 0 := by
  simp [Block.patLoad, hr, hn, hs, hg]

theorem pat_n : (parsePattern patWords).n ≠ 0 := by decide +kernel

theorem wit_ChangePackages_pattern :
    w_ChangePackages_3.modState = stCommission ∧ (w_ChangePackages_3.patLoad w_ChangePackages_3.ctxAbc false patWords).2 = 0 ∧
    (parsePattern patWords).n ≠ 0 :=
  ⟨by decide +kernel, patLoad_ok _ _ _ (pat_reason _ (by decide +kernel)) pat_n
    (by decide +kernel) (by decide +kernel), pat_n⟩

theorem wit_ChangePackages_stagedPattern :
    w_ChangePackages_6.olcAt = olcStaged ∧ patWords ∈ w_ChangePackages_6.olc.pats ∧
    (w_ChangePackages_6.patLoad (fun c => ((w_ChangePackages_6.olc.staged.map (·.ctxs)).getD []).any
      fun e => e.1 == c && e.2.cls != 3) true patWords).2 = 0 :=
  ⟨by decide +kernel, List.mem_cons_self, patLoad_staged _ _ _ 0 (pat_reason _ (by decide +kernel))
    pat_n (by decide +kernel) (by decide +kernel)⟩

/-- A safety configuration with one key, whose start mode waits for a command. -/
def safSigned (st : Nat) : State :=
  mk fun b => { safB st b with
    pwr := { (safB st b).pwr with completed := true }
    prog := some ⟨4, 1, 0, [], [], some ⟨1000, 1, [[1]], [], [], 0⟩, none, [], none, 0⟩
    ssp := { sessions := [⟨3, .operator, 0, 2, 0, [], [], [], [], 0, [], 0⟩] } }

theorem wit_SafetyIsland_signedReset
    (h : Config.ed25519 [1] (fBytes [0, 0, 0, 1]) [] = true) :
    (safSigned isLockout).signedFrom 3 = true ∧ (safSigned isLockout).signedOk 1 0 (0 : Word).toNat [] = true ∧
    (0 : Word).toNat = (safSigned isLockout).fget F.SAF_NONCE_NONCE ∧ (safSigned isLockout).islState = isLockout ∧
    (safSigned isLockout).isl.phase = .none ∧
    ∀ c, c < 15 → bit ((safSigned isLockout).regN Reg.SAF_CAUSES) c = true →
      c ∈ testCauses ∨ bit ((safSigned isLockout).regN Reg.SAF_CLEARED) c = true := by
  refine ⟨by decide +kernel, ?_, by decide +kernel, by decide +kernel, by decide +kernel, by decide +kernel⟩
  have k : (safSigned isLockout).pair Reg.SYS_SERIAL_LO = 0 := by decide +kernel
  have c : ((safSigned isLockout).safCfg.map (·.keys)).getD [] = [[1]] := rfl
  simp only [Block.signedOk, k, c, List.any_cons, List.any_nil, Bool.or_false]
  exact h

theorem wit_SafetyIsland_signedStart
    (h : Config.ed25519 [1] (fBytes [0, 0, 0, 2]) [] = true) :
    (safSigned isSafeOff).signedFrom 3 = true ∧
    (safSigned isSafeOff).safCfg = some ⟨1000, 1, [[1]], [], [], 0⟩ ∧ (1 : Nat) ≠ 0 ∧
    (safSigned isSafeOff).islState = isSafeOff ∧ (safSigned isSafeOff).pwr.completed = true ∧
    (safSigned isSafeOff).signedOk 2 0 (0 : Word).toNat [] = true ∧
    (0 : Word).toNat = (safSigned isSafeOff).fget F.SAF_NONCE_NONCE := by
  refine ⟨by decide +kernel, by decide +kernel, by decide, by decide +kernel, by decide +kernel, ?_, by decide +kernel⟩
  have k : (safSigned isSafeOff).pair Reg.SYS_SERIAL_LO = 0 := by decide +kernel
  have c : ((safSigned isSafeOff).safCfg.map (·.keys)).getD [] = [[1]] := rfl
  simp only [Block.signedOk, k, c, List.any_cons, List.any_nil, Bool.or_false]
  exact h

/-! ### Instruction words written out from R100 and R101 -/

theorem test_words_decode :
    decodeInsn 0x08004005 0 = some (.mov 4 5) ∧ decodeInsn 0x10FFF005 0x00002006 = some (.arith .add tI32 0xFFF 5 6) ∧
    decodeInsn 0x23004005 0x00003000 = some (.logic .not tU32 4 5 0) ∧
    decodeInsn 0x35004005 0x00004006 = some (.cmp .ge tF32 4 5 6) ∧
    decodeInsn 0x38004005 0x00000124 = some (.cvt true 2 4 4 5) ∧ decodeInsn 0x40FFFFFF 0 = some (.br (-1)) ∧
    decodeInsn 0x45004000 0xFFFFFFFE = some (.loop 4 (-2)) ∧ decodeInsn 0x50004000 9 = some (.gld 4 9) ∧
    decodeInsn 0x61004000 1 = some (.tpos 4 1) ∧ decodeInsn 0x68004005 0x00020040 = some (.rrd 4 5 0x20040) ∧
    decodeInsn 0x0C004005 0x00080003 = some (.ldx 4 5 8 3) ∧ decodeInsn 0x70004000 0x0008000F = some (.ssub 4 8 15) ∧
    decodeInsn 0x78004005 0x03070010 = some (.recApp 4 5 3 7 16) ∧ decodeInsn 0x0A004000 0xFFFFFFFF = some (.ldi 4 0xFFFFFFFF) := by
  decide +kernel

theorem test_reserved_words_do_not_decode :
    decodeInsn 0x03000000 0 = none ∧ decodeInsn 0x1B004005 0x00002006 = none ∧ decodeInsn 0x10004005 0x00012006 = none ∧
    decodeInsn 0x02001005 0 = none ∧ decodeInsn 0x68004005 0x00000002 = none ∧ decodeInsn 0x17004005 0x00002006 = none := by
  decide +kernel

/-! ### Ill-formed terms -/

theorem test_ill_formed_instructions :
    [Insn.trap 4096, .mov 0 4096, .mov64 4096 0, .ldi 0 (2 ^ 32), .ldk 0 (2 ^ 32), .ldx 0 0 4096 1, .stx 0 0 0 4096,
      .arith .add 16 0 0 0, .arith .neg 2 0 0 1, .logic .not 3 0 0 1, .cmp .eq 0 0 0 4096, .cmov 16 0 0 0,
      .cvt false 16 0 0 0, .br (2 ^ 23), .call (-(2 ^ 23) - 1), .brt 0 (2 ^ 31), .brf 4096 0, .loop 0 (2 ^ 31),
      .gld 0 (2 ^ 16), .gst 0 (2 ^ 16), .tlatch 4096, .tpos 0 2, .rrd 0 0 (2 ^ 20), .rwr 0 0 2, .rrdx 0 0 4096, .ssub 0 0 16,
      .scan 0 4096 0, .recApp 0 0 256 0 1, .recApp 0 0 0 256 1, .recApp 0 0 0 0 4096].all (fun i => !i.wellFormed) = true := by
  decide +kernel

theorem test_ill_formed_commands :
    [Instr.registerWrite .sup 2 .half 0 accIn, .rcRead .sup (2 ^ 20) .word, .reg64LoRead .sup 1, .reg64LoWrite .sup 1 0,
      .reg64HiWrite .sup 1 0, .evtTest .sup 256 false, .evtPendClear .sup 256 0, .pageUnlock .sup 256, .pageLock .sup 256 0,
      .pageLockTimeout 256, .imageLoad 0 [], .engineFault 0 false [16], .patternLoad false [], .signedReset 0 0 0 [],
      .signedStart 0 (2 ^ 64) 0 [], .prpNodeForget (2 ^ 48), .sspOpen ⟨0, 0, [], 1, 2, 1, 0, [], [], [], []⟩,
      .sspRegRead hdr (List.replicate 351 0), .sspRegWrite hdr (List.replicate 176 (0, 0)) accIn,
      .fileBegin hdr 1 (2 ^ 32) 0 2, .filePiece hdr (2 ^ 32) 0 [], .recRead hdr 256 0 0, .signedCmd hdr 1 0 0 [],
      .recordAccept false 0 (2 ^ 16) 0 []].all (fun i => !i.wellFormed) = true := by
  decide +kernel

theorem test_well_formed :
    (Instr.add 255 2 4095 0 1).wellFormed = true ∧ (Instr.rcRead .sup Reg.SYS_STATE .word).wellFormed = true ∧
    (Instr.br 0 (-(2 ^ 23))).wellFormed = true ∧ (Instr.br 0 (2 ^ 23)).wellFormed = false := by decide +kernel

/-! ### Small checks of results -/

/-- R103: wrapping, division by zero, and the quotient and remainder of the most negative value. -/
theorem test_integer_results :
    (arith .add tI32 0 0x7FFFFFFF 1).bits = 0x80000000 ∧ (arith .div tI32 0 7 0).bits = 0 ∧
    (arith .div tI32 0 0xFFFFFFF9 2).bits = 0xFFFFFFFD ∧ (arith .rem tI32 0 0xFFFFFFF9 2).bits = 0xFFFFFFFF := by
  decide +kernel

/-- R104: 1.0 + 1.0 and 1.0 / 3.0 in binary32, rounded to nearest, ties to even. -/
theorem test_float_results :
    (arith .add tF32 0 0x3F800000 0x3F800000).bits = 0x40000000 ∧ (arith .div tF32 0 0x3F800000 0x40400000).bits = 0x3EAAAAAB := by
  decide +kernel

/-- R55, R60: a write of a locked register is refused; unlocked, SUP may write it. -/
theorem test_lock_is_checked :
    (mk (ph .good)).judgeWrite .sup (Reg.BLK_EVT_EN 0x20) 1 ≠ 0 ∧
    (mk fun b => ph .good (unl 0x20 b)).judgeWrite .sup (Reg.BLK_EVT_EN 0x20) 1 = 0 := by decide +kernel

theorem test_reset_queue_empty : State.reset.pending = [] := by decide

theorem test_front_command_runs :
    ∃ t, step { State.reset with pending := [.coreInputRise 0 24000] } = .next t ∧ t.pwr.phase = .qualify ∧ t.pending = [] :=
  ⟨_, rfl, by decide +kernel, rfl⟩

end Sys2Proof.Tests
end

section
/-! Accesses to reserved pages, reserved parts of headers and undefined offsets (R54): the map defines no register there, so that
every path of the fabric comes to the same refusal, and a refusal leaves only its report. -/

namespace Sys2Proof.Machine

/-! ### Offsets that no chapter defines (R52 to R54) -/

/-- A page that is neither headed nor a table page lists no register. -/
theorem pageRows_reserved : ∀ p < 256, pageType p = none → owningPage p = p → pageRows p = [] := by decide +kernel

theorem headerRow_reserved {p o : Nat} (hlo : 0x28 ≤ o) (hhi : o < 0x40) : headerRow p o = none := by
  unfold headerRow
  dsimp only
  split
  case h_11 => rfl
  all_goals omega

/-- R54: a reserved page defines no register. -/
theorem regRow_reservedPage {off : Nat} (h : off / 0x1000 < 256) (ht : pageType (off / 0x1000) = none)
    (ho : owningPage (off / 0x1000) = off / 0x1000) : regRow off = none := by
  simp only [regRow, ht, pageRows_reserved _ h ht ho, List.find?_nil]

/-- R54: the header of a page defines no register from 0x028 on. -/
theorem regRow_reservedHeader {off : Nat} (ht : pageType (off / 0x1000) ≠ none) (hlo : 0x28 ≤ off % 0x1000)
    (hhi : off % 0x1000 < 0x40) : regRow off = none := by
  obtain ⟨t, ht⟩ := Option.ne_none_iff_exists'.1 ht
  simp only [regRow, ht, hhi, if_true, headerRow_reserved hlo hhi]

/-! The registers that the fabric handles by rules of their own are defined, so that a write of an undefined offset meets
none of those rules. -/

/-- Both words of a writable 64-bit pair are registers (R61). -/
theorem regRow_writablePair {lo : Nat} (h : writableLo lo = true) : regRow lo ≠ none ∧ regRow (lo + 4) ≠ none := by
  simp only [writableLo, Bool.or_eq_true, List.contains_iff_mem, List.any_eq_true, upto, List.mem_range, beq_iff_eq] at h
  rcases h with h | ⟨k, hk, rfl⟩
  · exact (by decide +kernel : ∀ lo ∈ [Reg.ABS_CMP_LO 0, Reg.ABS_CMP_LO 1, Reg.TSU_SET_LO, Reg.RTC_SET_LO, Reg.FRC_VAL_LO],
      regRow lo ≠ none ∧ regRow (lo + 4) ≠ none) lo h
  · exact (by decide +kernel : ∀ k < 4, regRow (Reg.TSU_CMP_LO k) ≠ none ∧ regRow (Reg.TSU_CMP_LO k + 4) ≠ none) k hk

theorem regRow_CH_MODE : ∀ n < 64, regRow (Reg.CH_MODE n) ≠ none := by decide +kernel

theorem regRow_HRT_CH_CFG : ∀ n < 64, regRow (Reg.HRT_CH_CFG n) ≠ none := by decide +kernel

theorem regRow_HRT_T_CTL : ∀ t < 16, regRow (Reg.HRT_T_CTL t) ≠ none := by decide +kernel

theorem regRow_RED_CFG : regRow Reg.RED_CFG ≠ none := by decide +kernel

theorem regRow_RED_TIMING : regRow Reg.RED_TIMING ≠ none := by decide +kernel

/-! ### Their accesses are refused (R54, R65) -/

theorem Block.judgeRead_undefined (b : Block) (r : Requester) {off : Nat} (ha : off % 4 = 0) (h : regRow off = none) :
    b.judgeRead r off = accReserved := by
  unfold Block.judgeRead
  rw [h, ha]; rfl

theorem Block.judgeWrite_undefined (b : Block) (r : Requester) {off : Nat} (v : Nat) (extra : List Nat) (ha : off % 4 = 0)
    (h : regRow off = none) : b.judgeWrite r off v extra = accReserved := by
  unfold Block.judgeWrite
  rw [h, ha]; rfl

/-- The code of a reserved place is neither acceptance nor one of those that a block reports in a result register. -/
theorem accReserved_ne : accReserved ≠ 0 ∧ accReserved ≠ accValue ∧ accReserved ≠ cfgConflict := by decide

theorem Block.readAnswered_undefined (b : Block) (r : Requester) {off : Nat} (ha : off % 4 = 0) (h : regRow off = none) :
    b.readAnswered r off = b.refuse r off accReserved false := by
  simp [Block.readAnswered, Block.fabRead, b.judgeRead_undefined r ha h, accReserved_ne]

theorem Block.regWrite_undefined (b : Block) (r : Requester) {off : Nat} (v : Nat) (extra : List Nat) (eff : Block → Block)
    (ha : off % 4 = 0) (h : regRow off = none) :
    b.regWrite r off v extra eff = (b.refuse r off accReserved true, accReserved) := by
  simp [Block.regWrite, b.judgeWrite_undefined r v extra ha h, accReserved_ne]

theorem Block.chPageWrite_undefined (b : Block) (r : Requester) {n off : Nat} (v : Nat) (hn : n < 64) (ha : off % 4 = 0)
    (h : regRow off = none) : b.chPageWrite r n off v = (b.refuse r off accReserved true, accReserved) := by
  have hmode : off ≠ Reg.CH_MODE n := fun e => regRow_CH_MODE n hn (e ▸ h)
  have hcfg : b.chCfgWrite r n off v = (b.refuse r off accReserved true, accReserved) := by
    simp [Block.chCfgWrite, Block.regWrite_undefined, ha, h, chCode, accReserved_ne]
  simp [Block.chPageWrite, hmode, hcfg, Block.regWrite_undefined, ha, h]

theorem Block.canPageWrite_undefined (b : Block) (r : Requester) (k : Nat) {off : Nat} (v : Nat) (ha : off % 4 = 0)
    (h : regRow off = none) : b.canPageWrite r k off v = (b.refuse r off accReserved true, accReserved) := by
  simp [Block.canPageWrite, Block.judgeWrite_undefined, Block.regWrite_undefined, ha, h, accReserved_ne]

/-- Whichever block's page a reserved offset lies in, its write is refused, and the lines that fell are shown low. -/
theorem Block.oneWrite_undefined (b : Block) (r : Requester) {off : Nat} (v : Nat) (found : Option AccIn) (ha : off % 4 = 0)
    (h : regRow off = none) :
    b.oneWrite r off v found = ((b.refuse r off accReserved true).linesFall, accReserved) := by
  have hred : ¬(off = Reg.RED_CFG ∨ off = Reg.RED_TIMING) := by
    rintro (rfl | rfl)
    · exact regRow_RED_CFG h
    · exact regRow_RED_TIMING h
  have hcfg : ((upto 64).any fun n => off == Reg.HRT_CH_CFG n) = false := by
    simp only [List.any_eq_false, upto, List.mem_range, beq_iff_eq]
    rintro n hn rfl
    exact regRow_HRT_CH_CFG n hn h
  have hctl : ((upto 16).any fun t => off == Reg.HRT_T_CTL t) = false := by
    simp only [List.any_eq_false, upto, List.mem_range, beq_iff_eq]
    rintro t ht rfl
    exact regRow_HRT_T_CTL t ht h
  have hch : (if 0x40 ≤ off / 0x1000 ∧ off / 0x1000 ≤ 0x7F then b.chPageWrite r (off / 0x1000 - 0x40) off v
      else (b.refuse r off accReserved true, accReserved)) = (b.refuse r off accReserved true, accReserved) := by
    split
    · exact b.chPageWrite_undefined r v (by omega) ha h
    · rfl
  simp only [Block.oneWrite, hred, hcfg, hctl, hch, if_false, Bool.false_eq_true, b.regWrite_undefined r _ _ _ ha h,
    b.canPageWrite_undefined r _ _ ha h, ite_self, Block.fabRefused, accReserved_ne, and_false]

theorem Block.fabWrite_undefined (b : Block) (r : Requester) {off : Nat} (v : Nat) (found : Option AccIn) (ha : off % 4 = 0)
    (h : regRow off = none) :
    b.fabWrite r off v found = ((b.refuse r off accReserved true).linesFall, accReserved) := by
  have hlo : writableLo off ≠ true := fun hw => (regRow_writablePair hw).1 h
  have hhi : ¬(4 ≤ off && writableLo (off - 4)) = true := by
    rw [Bool.and_eq_true, decide_eq_true_eq]
    rintro ⟨h4, hw⟩
    exact (regRow_writablePair hw).2 (by rwa [Nat.sub_add_cancel h4])
  rw [Block.fabWrite, if_neg hlo, if_neg hhi, b.oneWrite_undefined r v found ha h]

/-! ### What a refusal leaves -/

/-- `c` is `b` but for its registers. -/
def Block.sameButRegs (b c : Block) : Prop := ∃ regs, c = { b with regs := regs }

theorem Block.sameButRegs_refl (b : Block) : b.sameButRegs b := ⟨b.regs, rfl⟩

theorem Block.sameButRegs.setRegN {b c : Block} (h : b.sameButRegs c) (off v : Nat) : b.sameButRegs (c.setRegN off v) := by
  obtain ⟨regs, rfl⟩ := h
  exact ⟨_, rfl⟩

theorem Block.sameButRegs.fset {b c : Block} (h : b.sameButRegs c) (f : Fld) (v : Nat) : b.sameButRegs (c.fset f v) :=
  h.setRegN f.off _

/-- The report of a refusal changes registers alone. -/
theorem Block.refuseRegs_sameButRegs (b : Block) (r : Requester) (off code : Nat) (write : Bool) :
    b.sameButRegs (b.refuseRegs r off code write) := by
  have herr := b.sameButRegs_refl.fset (F.BLK_STAT_ACC_ERR (errPage off)) 1
  unfold Block.refuseRegs Block.when
  dsimp only
  split
  · exact (((((herr.setRegN _ _).fset _ _).fset _ _).fset _ _).fset _ _).fset _ _
  · exact herr.fset _ _

/-- A refusal changes registers, the requester's count of refusals and the answers. -/
theorem Block.refuse_shape (b : Block) (r : Requester) (off code : Nat) (write : Bool) :
    ∃ regs, b.refuse r off code write =
      { b with
        regs := regs, fab := { b.fab with refusals := b.refusalsPlus r }, outs := b.outs ++ [.access r off code 0] } := by
  obtain ⟨regs, h⟩ := b.refuseRegs_sameButRegs r off code write
  exact ⟨regs, by simp only [Block.refuse, h, Block.out]⟩

/-- Whether a page drives a line depends on its control and event registers alone (R66). -/
theorem Block.drivesLine_of_reg {b c : Block} {n p : Nat} (hctl : c.reg (Reg.BLK_CTL p) = b.reg (Reg.BLK_CTL p))
    (hraw : c.reg (Reg.BLK_EVT_RAW p) = b.reg (Reg.BLK_EVT_RAW p)) (hen : c.reg (Reg.BLK_EVT_EN p) = b.reg (Reg.BLK_EVT_EN p))
    (hroute : c.reg (Reg.BLK_EVT_ROUTE p) = b.reg (Reg.BLK_EVT_ROUTE p)) : c.drivesLine n p = b.drivesLine n p := by
  simp only [Block.drivesLine, Block.evtPend, hraw, hen, Block.fgetB_of_reg (f := F.BLK_EVT_ROUTE_ROUTE_EN p) hroute,
    Block.fget_of_reg (f := F.BLK_EVT_ROUTE_LINE p) hroute, Block.fgetB_of_reg (f := F.BLK_CTL_EVT_GATE p) hctl]

/-- A register of a page's header other than BLK_STAT is not one that a refusal reports in. -/
theorem Block.refuse_regHead (b : Block) (r : Requester) (off code : Nat) (write : Bool) (p : Nat) {k : Nat} (hk : k < 0x40)
    (hs : k ≠ 0xC) : (b.refuse r off code write).reg (p * 0x1000 + k) = b.reg (p * 0x1000 + k) := by
  apply Block.refuse_reg <;> simp only [ne_eq, Reg.BLK_STAT, Reg.SYS_ACC_ERR_ADDR, Reg.SYS_ACC_ERR_INFO, Reg.SYS_ACC_ERR_CNT] <;>
    omega

/-- A refusal neither asserts an event line nor lets one fall. -/
theorem Block.refuse_lineAsserted (b : Block) (r : Requester) (off code : Nat) (write : Bool) (n : Nat) :
    (b.refuse r off code write).lineAsserted n = b.lineAsserted n := by
  have hk := @Block.refuse_regHead b r off code write
  have hd : (b.refuse r off code write).drivesLine n = b.drivesLine n := funext fun p =>
    Block.drivesLine_of_reg (hk p (by decide) (by decide)) (hk p (by decide) (by decide)) (hk p (by decide) (by decide))
      (hk p (by decide) (by decide))
  rw [Block.lineAsserted, hd, Block.lineAsserted]

theorem Block.forAll_fset_reg {α : Type} (f : α → Fld) (v : Nat) {o : Nat} (l : List α) (b : Block)
    (h : ∀ x ∈ l, o ≠ (f x).off) : (b.forAll l fun b x => b.fset (f x) v).reg o = b.reg o := by
  induction l generalizing b with
  | nil => rfl
  | cons x l ih =>
    rw [Block.forAll_cons, ih _ fun y hy => h y (.tail _ hy), Block.reg_fset_ne _ (h x (.head _))]

/-- The fall of event lines changes the stored levels of lines that no page asserts. -/
theorem Block.linesFall_reg_asserted (b : Block) {o : Nat}
    (h : ∀ n, n < 256 → b.lineAsserted n = false → o ≠ (lineLevel n).off) : b.linesFall.reg o = b.reg o := by
  refine Block.forAll_fset_reg lineLevel 0 _ b fun n hn => ?_
  simp only [List.mem_filter, upto, List.mem_range, Bool.and_eq_true, Bool.not_eq_true'] at hn
  exact h n hn.1 hn.2.2

/-- A refusal of a reserved place leaves nothing but its report. -/
theorem onlyReported_refuse (s : State) (r : Requester) (off : Nat) (write : Bool) :
    onlyReported s { s with toBlock := s.refuse r off accReserved write } r off := by
  refine ⟨?_, ?_, fun o h1 h2 h3 h4 _ => s.refuse_reg r off accReserved write h1 h2 h3 h4⟩ <;>
    obtain ⟨regs, h⟩ := s.refuse_shape r off accReserved write <;> simp only [h]

/-- The fall of the lines afterwards shows low none that was asserted before. -/
theorem onlyReported_refuse_linesFall (s : State) (r : Requester) (off : Nat) (write : Bool) :
    onlyReported s { s with toBlock := (s.refuse r off accReserved write).linesFall } r off := by
  obtain ⟨-, hfab, hreg⟩ := onlyReported_refuse s r off write
  obtain ⟨regs, hfall⟩ := (s.refuse r off accReserved write).linesFall_shape
  refine ⟨?_, ?_, fun o h1 h2 h3 h4 hl => ?_⟩
  · obtain ⟨_, h⟩ := s.refuse_shape r off accReserved write
    rw [hfall]
    simp only [h]
  · rw [hfall]; exact hfab
  · refine Eq.trans (Block.linesFall_reg_asserted _ fun n hn ha => hl n hn ?_) (hreg o h1 h2 h3 h4 hl)
    rwa [Block.refuse_lineAsserted] at ha

/-! ### Reserved fields of a register that is there (R6, R54) -/

/-- Two values agree on every field of a register: they differ in reserved bits alone. -/
def RegRow.sameFields (row : RegRow) (v v' : Nat) : Prop := ∀ f ∈ row.fields, bits v f.lo f.w = bits v' f.lo f.w

theorem valueBad_sameFields {row : RegRow} {v v' : Nat} (h : row.sameFields v v') : valueBad row v = valueBad row v' := by
  have hc : ∀ f ∈ row.carried, bits v f.lo f.w = bits v' f.lo f.w := fun f hf => h f (List.mem_filter.1 hf).1
  rw [Bool.eq_iff_iff]
  simp only [valueBad, List.any_eq_true]
  exact exists_congr fun f => and_congr_right fun hf => by rw [hc f hf]

theorem foldl_writeFld_congr {v v' : Nat} (l : List FldRow) (w : Nat) (h : ∀ f ∈ l, bits v f.lo f.w = bits v' f.lo f.w) :
    l.foldl (fun w f => writeFld w v f) w = l.foldl (fun w f => writeFld w v' f) w := by
  induction l generalizing w with
  | nil => rfl
  | cons f l ih =>
    have hf : writeFld w v f = writeFld w v' f := by simp only [writeFld, h f (.head _)]
    rw [List.foldl_cons, List.foldl_cons, hf, ih _ fun g hg => h g (.tail _ hg)]

theorem RegRow.written_sameFields {row : RegRow} {v v' : Nat} (h : row.sameFields v v') (old : Nat) :
    row.written old v = row.written old v' :=
  foldl_writeFld_congr row.fields old h

theorem Block.judgeWrite_sameFields (b : Block) (r : Requester) {off v v' : Nat} {row : RegRow} (extra : List Nat)
    (hrow : regRow off = some row) (h : row.sameFields v v') : b.judgeWrite r off v extra = b.judgeWrite r off v' extra := by
  unfold Block.judgeWrite
  simp only [hrow, valueBad_sameFields h]

/-- Settles O8: an offset with no register is refused before any block's rule, and a refusal leaves only its report. -/
theorem reservedAccesses : Obligations.ReservedAccesses := by
  refine ⟨fun p o hp ho hres => ?_, fun r off s ha h => ?_, fun r off v found s ha h => ?_,
    fun r off old v v' extra row s hrow hf =>
      ⟨s.judgeWrite_sameFields r extra hrow hf, RegRow.written_sameFields hf old⟩⟩
  · have hdiv : (0x1000 * p + o) / 0x1000 = p := by omega
    have hmod : (0x1000 * p + o) % 0x1000 = o := by omega
    rcases hres with ⟨ht, hown⟩ | ⟨ht, hlo, hhi⟩
    · exact regRow_reservedPage (by rwa [hdiv]) (by rwa [hdiv]) (by rwa [hdiv])
    · exact regRow_reservedHeader (by rwa [hdiv]) (by rwa [hmod]) (by rwa [hmod])
  · refine completes_of_lift (f := fun b => b.readAnswered r off) rfl ?_
    rw [s.readAnswered_undefined r ha h]
    exact onlyReported_refuse s r off false
  · refine completes_of_lift (f := fun b => Block.answered r off (b.fabWrite r off v.toNat (some found))) rfl ?_
    rw [s.fabWrite_undefined r v.toNat (some found) ha h]
    exact onlyReported_refuse_linesFall s r off true

end Sys2Proof.Machine
end

section
/-! Integer arithmetic and right shifts as operations of bit vectors (R103), and what an arithmetic instruction of a running
cycle leaves (R101, R110, R116). -/

namespace Sys2Proof.Machine

/-! ### Patterns and the integers they stand for (R94) -/

theorem ofInt_eq_toNat (w : Nat) (v : Int) : ofInt w v = (BitVec.ofInt w v).toNat := by
  simp [ofInt, BitVec.toNat_ofInt]

theorem toSigned_toNat {w : Nat} (hw : 0 < w) (a : BitVec w) : toSigned w a.toNat = a.toInt := by
  obtain ⟨n, rfl⟩ : ∃ n, w = n + 1 := ⟨w - 1, by omega⟩
  have hlt : a.toNat < 2 ^ (n + 1 - 1) ↔ 2 * a.toNat < 2 ^ (n + 1) := by
    rw [Nat.add_sub_cancel, Nat.pow_succ]
    omega
  simp only [toSigned, BitVec.toInt_eq_toNat_cond, hlt, Int.natCast_pow, Int.cast_ofNat_Int]

/-- The pattern of the number that a bit vector shows unsigned is the bit vector. -/
theorem ofInt_cast_toNat {w : Nat} (a : BitVec w) : BitVec.ofInt w (a.toNat : Int) = a := by
  rw [BitVec.ofInt_natCast, BitVec.ofNat_toNat, BitVec.setWidth_eq]

@[simp] theorem intOf_zero (t : Nat) : intOf t 0 = 0 := by
  simp [intOf, toSigned]

theorem intOf_unsigned {t : Nat} (hs : signedTag t = false) (a : Nat) : intOf t a = (a : Int) := by
  simp [intOf, hs]

end Sys2Proof.Machine

namespace intType

open Sys2Proof Sys2Proof.Machine

variable {w t : Nat} (h : intType t w)
include h

theorem pos : 0 < w := by
  rcases h with ⟨-, rfl⟩ | ⟨-, rfl⟩ <;> decide

theorem isFloat_eq : isFloat t = false := by
  rcases h with ⟨rfl | rfl, -⟩ | ⟨rfl | rfl, -⟩ <;> rfl

theorem tagWidth_eq : tagWidth t = w := by
  rcases h with ⟨rfl | rfl, rfl⟩ | ⟨rfl | rfl, rfl⟩ <;> rfl

theorem intOf_signed (hs : signedTag t = true) (a : BitVec w) : intOf t a.toNat = a.toInt := by
  rw [intOf, if_pos hs, h.tagWidth_eq, toSigned_toNat h.pos]

/-- A pattern stands for the same residue whether its type is signed or not. -/
theorem ofInt_intOf (a : BitVec w) : BitVec.ofInt w (intOf t a.toNat) = a := by
  cases hs : signedTag t with
  | true => rw [h.intOf_signed hs, BitVec.ofInt_toInt]
  | false => rw [intOf_unsigned hs, ofInt_cast_toNat]

theorem intOf_eq_zero (a : BitVec w) : intOf t a.toNat = 0 ↔ a = 0 := by
  refine ⟨fun h0 => ?_, fun h0 => ?_⟩
  · rw [← h.ofInt_intOf a, h0]
    exact BitVec.ofInt_natCast w 0
  · rw [h0]
    exact (congrArg (intOf t) (BitVec.toNat_zero)).trans (intOf_zero t)

/-! ### Arithmetic by operation (R103) -/

theorem arith_eq (op : Arith) (d a b : Nat) : arith op t d a b = intArith op t d a b := by
  simp [arith, h.isFloat_eq]

theorem arith_add (d : Nat) (a b : BitVec w) : arith .add t d a.toNat b.toNat = ⟨(a + b).toNat, 0⟩ := by
  simp only [h.arith_eq, intArith, h.tagWidth_eq, ofInt_eq_toNat, BitVec.ofInt_add, h.ofInt_intOf]

theorem arith_sub (d : Nat) (a b : BitVec w) : arith .sub t d a.toNat b.toNat = ⟨(a - b).toNat, 0⟩ := by
  simp only [h.arith_eq, intArith, h.tagWidth_eq, ofInt_eq_toNat, Int.sub_eq_add_neg, BitVec.ofInt_add, BitVec.ofInt_neg,
    h.ofInt_intOf, BitVec.sub_eq_add_neg]

theorem arith_mul (d : Nat) (a b : BitVec w) : arith .mul t d a.toNat b.toNat = ⟨(a * b).toNat, 0⟩ := by
  simp only [h.arith_eq, intArith, h.tagWidth_eq, ofInt_eq_toNat, BitVec.ofInt_mul, h.ofInt_intOf]

theorem arith_neg (d : Nat) (a : BitVec w) (b : Nat) : arith .neg t d a.toNat b = ⟨(-a).toNat, 0⟩ := by
  simp only [h.arith_eq, intArith, h.tagWidth_eq, ofInt_eq_toNat, BitVec.ofInt_neg, h.ofInt_intOf]

/-- A signed value is negated where it is negative, the most negative one to itself; an unsigned value never is negative. -/
theorem arith_abs (d : Nat) (a : BitVec w) (b : Nat) :
    arith .abs t d a.toNat b = ⟨(if signedTag t then a.abs else a).toNat, 0⟩ := by
  simp only [h.arith_eq, intArith, h.tagWidth_eq, ofInt_eq_toNat]
  cases hs : signedTag t with
  | true =>
    simp only [h.intOf_signed hs, if_true, BitVec.abs_eq, BitVec.msb_eq_toInt, decide_eq_true_eq]
    split
    · rw [BitVec.ofInt_neg, BitVec.ofInt_toInt]
    · rw [BitVec.ofInt_toInt]
  | false =>
    have hpos : ¬intOf t a.toNat < 0 := by rw [intOf_unsigned hs]; omega
    rw [if_neg hpos, h.ofInt_intOf, if_neg (by decide)]

theorem arith_div (d : Nat) (a : BitVec w) {b : BitVec w} (hb : b ≠ 0) :
    arith .div t d a.toNat b.toNat = ⟨(if signedTag t then a.sdiv b else a / b).toNat, 0⟩ := by
  simp only [h.arith_eq, intArith, h.tagWidth_eq, ofInt_eq_toNat, h.intOf_eq_zero, hb, if_false]
  congr 2
  cases hs : signedTag t with
  | true =>
    rw [h.intOf_signed hs, h.intOf_signed hs, if_pos rfl]
    exact BitVec.eq_of_toInt_eq (by rw [BitVec.toInt_ofInt, BitVec.toInt_sdiv])
  | false =>
    rw [intOf_unsigned hs, intOf_unsigned hs, ← Int.ofNat_tdiv, ← BitVec.toNat_udiv, ofInt_cast_toNat, if_neg (by decide)]

theorem arith_rem (d : Nat) (a : BitVec w) {b : BitVec w} (hb : b ≠ 0) :
    arith .rem t d a.toNat b.toNat = ⟨(if signedTag t then a.srem b else a % b).toNat, 0⟩ := by
  simp only [h.arith_eq, intArith, h.tagWidth_eq, ofInt_eq_toNat, h.intOf_eq_zero, hb, if_false]
  congr 2
  cases hs : signedTag t with
  | true => rw [h.intOf_signed hs, h.intOf_signed hs, if_pos rfl, ← BitVec.toInt_srem, BitVec.ofInt_toInt]
  | false =>
    rw [intOf_unsigned hs, intOf_unsigned hs, ← Int.ofNat_tmod, ← BitVec.toNat_umod, ofInt_cast_toNat, if_neg (by decide)]

/-- The one quotient that lies outside its type wraps to the dividend. -/
theorem arith_div_intMin_neg_one (d : Nat) (hs : signedTag t = true) :
    arith .div t d (BitVec.intMin w).toNat (-1 : BitVec w).toNat = ⟨(BitVec.intMin w).toNat, 0⟩ := by
  have hne : (-1 : BitVec w) ≠ 0 := by
    rcases h with ⟨-, rfl⟩ | ⟨-, rfl⟩ <;> decide
  rw [h.arith_div d _ hne, if_pos hs]
  exact congrArg (fun q : BitVec w => (⟨q.toNat, 0⟩ : FRes)) BitVec.intMin_sdiv_neg_one

theorem logicOp_shr (a b : BitVec w) :
    logicOp .shr t a.toNat b.toNat =
      (if signedTag t then a.sshiftRight (b.toNat % w) else a >>> (b.toNat % w)).toNat := by
  simp only [logicOp, shiftRight, h.tagWidth_eq]
  cases signedTag t with
  | true =>
    have hq : (a.sshiftRight (b.toNat % w)).toInt = a.toInt / (2 : Int) ^ (b.toNat % w) := by
      rw [BitVec.toInt_sshiftRight, Int.shiftRight_eq_div_pow, Int.natCast_pow, Int.cast_ofNat_Int]
    rw [if_pos rfl, if_pos rfl, toSigned_toNat h.pos, ← hq, ofInt_eq_toNat, BitVec.ofInt_toInt]
  | false => rw [if_neg (by decide), if_neg (by decide), BitVec.toNat_ushiftRight, Nat.shiftRight_eq_div_pow]

end intType

namespace Sys2Proof.Machine

/-- R103: of every type that is not a floating one, a zero divisor gives 0 and DIV_ZERO. -/
theorem arith_zeroDivisor {op : Arith} (hop : op = .div ∨ op = .rem) {t : Nat} (hf : isFloat t = false) (d a : Nat) :
    arith op t d a 0 = ⟨0, sfDivZero⟩ := by
  rcases hop with rfl | rfl <;> simp [arith, hf, intArith]

/-! ### An instruction that does not wait and goes on (R101, R110, R116) -/

theorem Block.setPair_sameButRegs (b : Block) (lo v : Nat) : b.sameButRegs (b.setPair lo v) :=
  (b.sameButRegs_refl.setRegN _ _).setRegN _ _

/-- Clocks spent go to the cycle's count; outside the context's frame only the engine's counters change. -/
theorem Block.spend_shape (b : Block) (c k : Nat) :
    ∃ regs sched, b.spend c k =
      { b with regs := regs, sched := sched, ctxs := mapSet b.ctxs c { b.cx c with clocks := (b.cx c).clocks + k } } := by
  obtain ⟨regs, h⟩ := b.setPair_sameButRegs (Reg.ENG_BUSY_LO (b.homeOf c)) ((b.pair (Reg.ENG_BUSY_LO (b.homeOf c)) + k) % 2 ^ 64)
  unfold Block.spend
  dsimp only
  rw [h]
  unfold Block.when
  split <;> exact ⟨_, _, rfl⟩

/-- An instruction that retires spends its clocks. -/
theorem Block.retire_shape (b : Block) (c k : Nat) :
    ∃ regs sched, b.retire c k =
      { b with regs := regs, sched := sched, ctxs := mapSet b.ctxs c { b.cx c with clocks := (b.cx c).clocks + k } } := by
  obtain ⟨_, h⟩ := b.setPair_sameButRegs (Reg.ENG_INSN_LO (b.homeOf c)) ((b.pair (Reg.ENG_INSN_LO (b.homeOf c)) + 1) % 2 ^ 64)
  unfold Block.retire
  dsimp only
  rw [h]
  exact Block.spend_shape _ c k

/-- A soft exception is counted and raises an event, both in registers. -/
theorem Block.softException_sameButRegs (b : Block) (c : Nat) : b.sameButRegs (b.softException c) := by
  unfold Block.softException Block.when
  dsimp only
  split
  · exact (b.sameButRegs_refl.fset _ 1).fset _ _
  · exact b.sameButRegs_refl.fset _ _

/-- An instruction retires alike with and without a soft exception. -/
theorem Block.retire_when_softException_shape (b : Block) (p : Bool) (c k : Nat) :
    ∃ regs sched, (b.when p fun b => b.softException c).retire c k =
      { b with regs := regs, sched := sched, ctxs := mapSet b.ctxs c { b.cx c with clocks := (b.cx c).clocks + k } } := by
  cases p with
  | true =>
    obtain ⟨_, h⟩ := b.softException_sameButRegs c
    rw [Block.when_true, h]
    exact Block.retire_shape _ c k
  | false => exact b.retire_shape c k

/-- An instruction other than XFLAGS runs with no flag set, and its flags are added to those that stood (R116). -/
theorem Block.lvc_goOn {b : Block} {c : Nat} {i : Insn} {y : Cx} {taken : Bool} (hruns : b.runs c i = true)
    (hi : ∀ d, i ≠ .xflags d)
    (hy : runInsn (b.ctxProg c) b.progVids c i { b.cx c with flags := 0 } = ⟨y, .goOn, taken⟩) :
    b.lvc c i =
      ((b.setCx c { y with flags := (b.cx c).flags ||| y.flags }).when (y.flags != 0) fun b => b.softException c).retire c
        (i.clocks taken) := by
  unfold Block.lvc
  rw [hruns, if_neg (by decide)]
  split
  · exact absurd rfl (hi _)
  · simp only [Bool.false_eq_true, if_false, hy, Bool.not_false, Bool.true_and]

/-- What an instruction that goes on leaves is the frame it ran to, with its flags and its clocks added. -/
theorem ranTo_lvc {s : State} {c : Nat} {i : Insn} {y : Cx} {taken : Bool} (hruns : s.runs c i = true)
    (hi : ∀ d, i ≠ .xflags d)
    (hy : runInsn (s.ctxProg c) s.progVids c i { s.cx c with flags := 0 } = ⟨y, .goOn, taken⟩)
    (hclk : y.clocks = (s.cx c).clocks) :
    ranTo s { s with toBlock := s.lvc c i } c (i.clocks taken) { y with flags := (s.cx c).flags ||| y.flags } := by
  have hmod : (s.lvc c i).modState = s.modState := Block.lvc_st (keptBySt_mod s.modState) s.toBlock c i rfl
  obtain ⟨_, _, h⟩ := (s.setCx c { y with flags := (s.cx c).flags ||| y.flags }).retire_when_softException_shape
    (y.flags != 0) c (i.clocks taken)
  rw [← s.lvc_goOn hruns hi hy] at h
  refine ⟨?_, fun d hd => ?_, ?_, ?_, ?_, ?_, hmod⟩
  · rw [h]
    simp only [Block.cx, Block.setCx, mapGet_mapSet_same, hclk]
  · rw [h]
    simp only [Block.cx, Block.setCx, mapGet_mapSet_ne _ _ _ hd]
  all_goals rw [h]; rfl

/-! ### Arithmetic instructions (R101, R103, R116) -/

@[simp] theorem Cx.setVal_flags (x : Cx) (t i v : Nat) : (x.setVal t i v).flags = x.flags := by
  unfold Cx.setVal
  split <;> rfl

@[simp] theorem Cx.setVal_pc (x : Cx) (t i v : Nat) : (x.setVal t i v).pc = x.pc := by
  unfold Cx.setVal
  split <;> rfl

@[simp] theorem Cx.setVal_clocks (x : Cx) (t i v : Nat) : (x.setVal t i v).clocks = x.clocks := by
  unfold Cx.setVal
  split <;> rfl

/-- Flags play no part in a write of a value. -/
theorem Cx.setVal_withFlags (x : Cx) (f t i v : Nat) :
    Cx.setVal { x with flags := f } t i v = { x.setVal t i v with flags := f } := by
  unfold Cx.setVal
  split <;> rfl

/-- An arithmetic instruction of a running cycle writes its result to D and adds the result's flags. -/
theorem completes_arith {i : Instr} {op : Arith} {c t d s1 s2 : Nat} {s : State}
    (hexec : exec i s = lift (fun b => b.lvc c (.arith op t d s1 s2)) s) (hruns : s.runs c (.arith op t d s1 s2) = true) {r : FRes}
    (hr : arith op t ((s.cx c).val t d) ((s.cx c).val t s1) ((s.cx c).val t s2) = r) :
    Completes i s fun u => ranTo s u c (clkArith op t)
      { (s.cx c).setVal t d r.bits with flags := (s.cx c).flags ||| r.flags, pc := (s.cx c).pc + 2 } := by
  refine completes_of_lift hexec ?_
  have hy : runInsn (s.ctxProg c) s.progVids c (.arith op t d s1 s2) { s.cx c with flags := 0 } =
      ⟨{ (s.cx c).setVal t d r.bits with flags := r.flags, pc := (s.cx c).pc + 2 }, .goOn, false⟩ := by
    subst hr
    simp only [runInsn, Cx.result, Cx.setVal_withFlags, Cx.flag, Cx.next, Insn.words, Nat.zero_or, Cx.setVal_pc]
    rfl
  exact ranTo_lvc hruns (fun _ h => nomatch h) hy ((s.cx c).setVal_clocks t d r.bits)

/-- R103, R116: an integer DIV or REM by zero writes 0, sets DIV_ZERO, and the cycle goes on. -/
theorem zeroDivisor_of_exec {i : Fin 256 → Fin 16 → Fin 4096 → Fin 4096 → Fin 4096 → Instr} {op : Arith}
    (hop : op = .div ∨ op = .rem)
    (hexec : ∀ c t d s1 s2 s, exec (i c t d s1 s2) s = lift (fun b => b.lvc c.val (.arith op t.val d.val s1.val s2.val)) s) :
    zeroDivisor i op := by
  intro c t d s1 s2 s hruns hf hz
  have hr : arith op t.val ((s.cx c.val).val t.val d.val) ((s.cx c.val).val t.val s1.val) ((s.cx c.val).val t.val s2.val) =
      ⟨0, sfDivZero⟩ := by
    rw [hz, arith_zeroDivisor hop hf]
  exact completes_arith (hexec c t d s1 s2 s) hruns hr

/-- Settles O23: wrapping arithmetic and shifts are those of bit vectors, by type, and DIV and REM by zero run as any
arithmetic instruction with the result 0 and DIV_ZERO. -/
theorem integerOperations : Obligations.IntegerOperations := by
  refine ⟨fun w t d a b h => ?_, fun w t d a b h hb => ?_, fun w t d a b h hs _ => ?_, fun w t d a h => ?_, fun a b => ?_, ?_, ?_⟩
  · exact ⟨h.arith_add d a b, h.arith_sub d a b, h.arith_mul d a b, h.arith_neg d a _, h.arith_abs d a _, h.logicOp_shr a b⟩
  · exact ⟨h.arith_div d a hb, h.arith_rem d a hb⟩
  · exact ⟨BitVec.toInt_srem a b, h.arith_div_intMin_neg_one d hs⟩
  · exact ⟨arith_zeroDivisor (.inl rfl) h.isFloat_eq d a, arith_zeroDivisor (.inr rfl) h.isFloat_eq d a⟩
  · simp only [logicOp, if_true]
  · exact zeroDivisor_of_exec (.inl rfl) fun _ _ _ _ _ _ => rfl
  · exact zeroDivisor_of_exec (.inr rfl) fun _ _ _ _ _ _ => rfl

end Sys2Proof.Machine
end

section
/-! PERIOD contexts (R123, R82): the grid of their target instants, and what a trigger and a TSU step leave of a pending target. -/

namespace Sys2Proof.Machine

/-! ### The grid of target instants (R123) -/

/-- The target after `t` lies after it, by no more than a period. -/
theorem nextPeriod_bounds {period : Nat} (hp : 0 < period) (phase t : Nat) :
    t < nextPeriod period phase t ∧ nextPeriod period phase t ≤ t + 10000 * period := by
  have hpos : 10000 * period ≠ 0 := by omega
  simp only [nextPeriod, if_neg hpos]
  split
  · have hmod := Nat.mod_lt (10000 * phase - t - 1) (Nat.pos_of_ne_zero hpos)
    omega
  · have hdiv := Nat.div_add_mod (t - 10000 * phase) (10000 * period)
    have hmod := Nat.mod_lt (t - 10000 * phase) (Nat.pos_of_ne_zero hpos)
    rw [Nat.mul_comm _ (10000 * period), Nat.mul_add_one]
    omega

/-- It lies on the grid of PERIOD and PHASE, whether the first instant of the grid has passed or not. -/
theorem nextPeriod_onGrid {period : Nat} (hp : 0 < period) (phase t : Nat) :
    (10000 * period : Int) ∣ (nextPeriod period phase t : Int) - 10000 * phase := by
  have hpos : 10000 * period ≠ 0 := by omega
  have hcast : (10000 * period : Int) = (10000 * period : Nat) := (Int.natCast_mul 10000 period).symm
  rw [hcast]
  simp only [nextPeriod, if_neg hpos]
  split
  · have hdiv := Nat.div_add_mod (10000 * phase - t - 1) (10000 * period)
    refine ⟨-((10000 * phase - t - 1) / (10000 * period) : Nat), ?_⟩
    rw [Int.mul_neg, ← Int.natCast_mul]
    omega
  · refine ⟨((t - 10000 * phase) / (10000 * period) + 1 : Nat), ?_⟩
    rw [← Int.natCast_mul, Nat.mul_comm _ (10000 * period)]
    omega

/-- No instant of the grid lies between `t` and it: two instants of the grid are no less than a period apart. -/
theorem nextPeriod_le {period phase t u : Nat} (hp : 0 < period) (htu : t < u)
    (hu : (10000 * period : Int) ∣ (u : Int) - 10000 * phase) : nextPeriod period phase t ≤ u := by
  obtain ⟨-, hle⟩ := nextPeriod_bounds hp phase t
  refine Nat.le_of_not_lt fun hlt => ?_
  have hdvd := Int.dvd_sub (nextPeriod_onGrid hp phase t) hu
  have hgap := Int.le_of_dvd (by omega) hdvd
  omega

/-- The target of a PERIOD context is set by its PERIOD and PHASE alone. -/
theorem Block.targetAfter_period {b : Block} {c : Nat} (h : b.trigOf c = 1) (t : Nat) :
    b.targetAfter c t = nextPeriod (b.fget (F.CTX_PERIOD_PERIOD c)) (b.fget (F.CTX_PHASE_PHASE c)) t := by
  simp only [Block.targetAfter, if_pos h]

/-! ### Contexts after an update -/

/-- Execution states depend on the list of contexts alone. -/
theorem Block.cx_congr {b d : Block} (h : d.ctxs = b.ctxs) (c : Nat) : d.cx c = b.cx c := by
  simp only [Block.cx, h]

@[simp] theorem Block.cx_modCx_same (b : Block) (c : Nat) (f : Cx → Cx) : (b.modCx c f).cx c = f (b.cx c) :=
  mapGet_mapSet_same _ _ _ _

theorem Block.cx_modCx_ne (b : Block) {c e : Nat} (f : Cx → Cx) (h : c ≠ e) : (b.modCx e f).cx c = b.cx c :=
  mapGet_mapSet_ne _ _ _ h

@[simp] theorem Block.when_ctxs {b : Block} {p : Bool} {f : Block → Block} (h : ∀ d, (f d).ctxs = d.ctxs) :
    (b.when p f).ctxs = b.ctxs := by
  cases p
  · rfl
  · exact h b

/-! ### A trigger (R20, R123) -/

/-- The latch leaves the targets of its context. -/
theorem Block.latchCx_targets (b : Block) (c : Nat) :
    ((b.latchCx c).cx c).target = (b.cx c).target ∧ ((b.latchCx c).cx c).trigTarget = (b.cx c).trigTarget := by
  have hlate : ∀ d : Block, (d.lateLatch c).ctxs = d.ctxs := fun d => Block.when_ctxs fun _ => rfl
  have hsend : ∀ d : Block, (d.sendLatch c).ctxs = d.ctxs := fun d => Block.when_ctxs fun _ => rfl
  unfold Block.latchCx
  dsimp only
  rw [Block.cx_congr ((hsend _).trans (hlate _)), Block.cx_modCx_same]
  exact ⟨rfl, rfl⟩

theorem Block.takeTrigger_targets (b : Block) (c : Nat) :
    ((b.takeTrigger c).cx c).target = (b.cx c).target ∧ ((b.takeTrigger c).cx c).trigTarget = (b.cx c).trigTarget := by
  unfold Block.takeTrigger
  dsimp only
  rw [(Block.latchCx_targets _ _).1, (Block.latchCx_targets _ _).2, Block.cx_modCx_same]
  exact ⟨rfl, rfl⟩

/-- The successor of the context's trigger is placed, and a trigger of the round context noted (R367); the trigger is yet to
be taken. -/
def Block.placed (b : Block) (c : Nat) : Block :=
  (b.nextTarget c).when (c == (b.nextTarget c).fget F.RED_CFG_CTX) Block.roundDue

theorem Block.placed_cx (b : Block) (c : Nat) :
    (b.placed c).cx c = { b.cx c with trigTarget := (b.cx c).target, target := b.targetAfter c (b.cx c).target } :=
  (Block.cx_congr (Block.when_ctxs (f := Block.roundDue) fun _ => rfl) c).trans (Block.cx_modCx_same _ _ _)

section
variable {b : Block} {c : Nat} (hrun : b.running = true) (hidle : b.ctxState c = csIdle) (htrig : (b.cx c).trig = false)
  (hcls : b.ctxClass c ≠ 1) (hper : b.trigOf c = 1) (hdue : b.dueAt c (b.cx c).target = true)
include hrun hidle htrig hcls hper hdue

/-- A due trigger of an idle context outside class B is taken once its successor is placed. -/
theorem Block.trigger_idle :
    b.trigger c = ((b.placed c).takeTrigger c).modCx c fun x => { x with tbShort := false, tbStretch := false } := by
  have hfires : ¬(b.ctxState c = csUndefined ∨ b.ctxState c = csIsland ∨ b.trigOf c = 0 ∨ b.trigOf c = 5 ∨
      !b.running ∨ !b.dueAt c (b.cx c).target) := by
    rw [hidle, hper, hrun, hdue]; decide
  have hline : b.trigOf c ≠ 4 := by rw [hper]; decide
  have hgoes : b.ctxState c ≠ csStopped := by rw [hidle]; decide
  have hfree : ¬(b.ctxState c = csActive ∨ ((b.placed c).cx c).trig ∧ b.ctxState c = csIdle) := by
    rw [hidle, Block.placed_cx, htrig]; decide
  unfold Block.placed at hfree ⊢
  unfold Block.trigger
  dsimp only
  rw [if_neg hfires, if_neg hline, if_neg hgoes, if_neg hfree, if_neg fun h => hcls h.1]

/-- It fires at its target and sets the next one from it. -/
theorem Block.trigger_targets :
    ((b.trigger c).cx c).trigTarget = (b.cx c).target ∧ ((b.trigger c).cx c).target = b.targetAfter c (b.cx c).target := by
  obtain ⟨htarget, htrigTarget⟩ := (b.placed c).takeTrigger_targets c
  rw [Block.trigger_idle hrun hidle htrig hcls hper hdue, Block.cx_modCx_same]
  exact ⟨by rw [htrigTarget, Block.placed_cx], by rw [htarget, Block.placed_cx]⟩

end

/-! ### The end of an energy window and a TSU step (R82, R146) -/

/-- Updates of one element after another keep what each of them keeps. -/
theorem Block.forAll_keeps_mem {α : Type} {P : Block → Prop} {f : Block → α → Block} (l : List α)
    (hf : ∀ x ∈ l, ∀ d, P d → P (f d x)) {b : Block} (h : P b) : P (b.forAll l f) := by
  induction l generalizing b with
  | nil => exact h
  | cons x l ih => exact ih (fun y hy => hf y (.tail _ hy)) (hf x (.head _) b h)

theorem mem_keys_mapSet {α : Type} {m : List (Nat × α)} (k : Nat) (v : α) {j : Nat} (h : j ∈ m.map (·.1)) :
    j ∈ (mapSet m k v).map (·.1) := by
  induction m with
  | nil => cases h
  | cons e m ih =>
    obtain ⟨i, w⟩ := e
    simp only [List.map_cons, List.mem_cons] at h
    simp only [mapSet]
    split
    · next hik => simpa only [List.map_cons, List.mem_cons, hik] using h
    · simpa only [List.map_cons, List.mem_cons] using h.imp_right ih

/-- An update that uses the key of each entry is read entry by entry. -/
theorem mapGet_map {α : Type} (d : α) (g : Nat → α → α) {m : List (Nat × α)} {k : Nat} (h : k ∈ m.map (·.1)) :
    mapGet d (m.map fun e => (e.1, g e.1 e.2)) k = g k (mapGet d m k) := by
  induction m with
  | nil => cases h
  | cons e m ih =>
    obtain ⟨i, w⟩ := e
    simp only [List.map_cons, List.mem_cons] at h
    simp only [List.map_cons, mapGet]
    split
    · next hik => rw [hik]
    · next hik => exact ih (h.resolve_left (Ne.symm hik))

/-- What a TSU step asks of context `c` is in `d` as it was in `b`: its configuration, that it is listed, its target. -/
structure Block.AimKept (b : Block) (c : Nat) (d : Block) : Prop where
  cfg : d.reg (Reg.CTX_CFG c) = b.reg (Reg.CTX_CFG c)
  listed : c ∈ b.ctxs.map (·.1) → c ∈ d.ctxs.map (·.1)
  target : (d.cx c).target = (b.cx c).target

/-- No CTX_CFG lies at this offset, whatever number its context has: they stand from the first on, 64 bytes apart. -/
abbrev notCfg (off : Nat) : Prop := off < Reg.CTX_CFG 0 ∨ off % 0x40 ≠ 0

namespace Block.AimKept

variable {b d : Block} {c : Nat}

theorem refl (b : Block) (c : Nat) : b.AimKept c b := ⟨rfl, id, rfl⟩

theorem congr (h : b.AimKept c d) {e : Block} (hregs : e.regs = d.regs) (hctxs : e.ctxs = d.ctxs) : b.AimKept c e where
  cfg := (Block.reg_congr hregs _).trans h.cfg
  listed hc := by rw [hctxs]; exact h.listed hc
  target := by rw [Block.cx_congr hctxs]; exact h.target

theorem withSched (h : b.AimKept c d) (x : Sched) : b.AimKept c { d with sched := x } := h.congr rfl rfl

theorem setRegN (h : b.AimKept c d) {off : Nat} (v : Nat) (ho : notCfg off) : b.AimKept c (d.setRegN off v) where
  cfg := by
    have hne : Reg.CTX_CFG c ≠ off := by
      simp only [notCfg, Reg.CTX_CFG] at ho ⊢
      omega
    rw [Block.reg_setRegN_ne v hne, h.cfg]
  listed := h.listed
  target := h.target

theorem fset (h : b.AimKept c d) {f : Fld} (v : Nat) (ho : notCfg f.off) : b.AimKept c (d.fset f v) := h.setRegN _ ho

theorem incWrap (h : b.AimKept c d) {f : Fld} (ho : notCfg f.off) : b.AimKept c (d.incWrap f) := h.fset _ ho

theorem setNow (h : b.AimKept c d) (t : Nat) : b.AimKept c (d.setNow t) :=
  ((h.setRegN _ (.inl (by decide))).setRegN _ (.inl (by decide))).setRegN _ (.inl (by decide))

theorem modCx (h : b.AimKept c d) (e : Nat) {f : Cx → Cx} (hf : ∀ x, (f x).target = x.target) :
    b.AimKept c (d.modCx e f) where
  cfg := h.cfg
  listed hc := mem_keys_mapSet _ _ (h.listed hc)
  target := by
    by_cases hce : c = e
    · subst hce
      rw [Block.cx_modCx_same, hf, h.target]
    · rw [Block.cx_modCx_ne _ _ hce, h.target]

theorem recAccept (h : b.AimKept c d) (r : EvRec) : b.AimKept c (d.recAccept r) where
  cfg := by
    rw [Block.recAccept_reg, h.cfg] <;>
      simp only [ne_eq, Reg.CTX_CFG, Reg.EVR_REC_CNT, Reg.EVR_STAT, Reg.EVR_DROP_CNT, Reg.BLK_EVT_RAW] <;> omega
  listed hc := by rw [Block.recAccept_ctxs]; exact h.listed hc
  target := by rw [Block.cx_congr (d.recAccept_ctxs r), h.target]

theorem forAll {α : Type} (h : b.AimKept c d) (l : List α) {f : Block → α → Block}
    (hf : ∀ x ∈ l, ∀ e, b.AimKept c e → b.AimKept c (f e x)) : b.AimKept c (d.forAll l f) :=
  Block.forAll_keeps_mem l hf h

theorem setCtxState (h : b.AimKept c d) {e : Nat} (he : e < 256) (st : Nat) : b.AimKept c (d.setCtxState e st) := by
  have hstate : notCfg (F.CTX_STATE_STATE e).off := by
    simp only [notCfg, F.CTX_STATE_STATE, Reg.CTX_STATE]
    omega
  have hstopped : notCfg (Reg.SCH_STOPPED (e / 32)) := by
    simp only [notCfg, Reg.SCH_STOPPED, Reg.CTX_CFG]
    omega
  unfold Block.setCtxState
  dsimp only
  refine AimKept.fset (AimKept.fset ?_ _ hstate) _ hstopped
  split
  · exact h.modCx e fun _ => rfl
  · split
    · exact h.modCx e fun _ => rfl
    · exact h

theorem recWindow (h : b.AimKept c d) : b.AimKept c d.recWindow := by
  unfold Block.recWindow
  extract_lets _ _ cleared
  have hcleared : b.AimKept c cleared := h.congr rfl rfl
  exact hcleared.forAll _ fun _ _ _ he => he.recAccept _

theorem redRefresh (h : b.AimKept c d) : b.AimKept c d.redRefresh :=
  (h.fset _ (.inr (by decide))).setRegN _ (.inr (by decide))

end Block.AimKept

theorem Block.mem_ctxsIn {b : Block} {st c : Nat} (h : c ∈ b.ctxsIn st) : c < 256 :=
  List.mem_range.1 (List.mem_filter.1 h).1

/-- The end of a window moves no target and configures no context. -/
theorem Block.windowEnd_aimKept (b : Block) (c : Nat) : b.AimKept c b.windowEnd := by
  have hledger : ∀ k ∈ upto 16, notCfg (Reg.PWR_LEDGER k) := by decide
  have heng : ∀ n ∈ upto 16, notCfg (Reg.PWR_ENG_E n) := by decide
  unfold Block.windowEnd
  extract_lets ledger engs counted
  split
  extract_lets occ shown sched restarted reported
  have hledgers : b.AimKept c ledger := (AimKept.refl b c).forAll _ fun k hk _ he => he.setRegN _ (hledger k hk)
  have hengs : b.AimKept c engs := hledgers.forAll _ fun n hn _ he => he.setRegN _ (heng n hn)
  have hcounted : b.AimKept c counted := (hengs.setRegN _ (.inl (by decide))).incWrap (.inl (by decide))
  have hshown : b.AimKept c shown := (hcounted.fset _ (.inl (by decide))).setRegN _ (.inl (by decide))
  have hrestarted : b.AimKept c restarted := hshown.withSched _
  have hreported : b.AimKept c reported := hrestarted.recWindow.redRefresh
  split
  · exact hreported.forAll _ fun e he _ hd => (hd.setCtxState (Block.mem_ctxsIn he) csIdle).modCx e fun _ => rfl
  · exact hreported.forAll _ fun e _ _ hd => hd.modCx e fun _ => rfl

/-- The TSU's own registers as a step of `d` ns leaves them, before anything moves with it. -/
def Block.tsuStepped (b : Block) (d : Int) : Block :=
  (b.windowEnd.setNow (moved b.windowEnd.now d)).fset F.TSU_STAT_SLEWING 0

/-- What a step of `d` ns moves of a context; its targets with a PERIOD trigger alone. -/
def Cx.stepped (period : Bool) (d : Int) (x : Cx) : Cx :=
  { x with
    target := if period then moved x.target d else x.target
    trigTarget := if period then moved x.trigTarget d else x.trigTarget
    heldUntil := if x.heldUntil = 0 then 0 else moved x.heldUntil d
    activeFrom := moved x.activeFrom d }

theorem Block.tsuEnter_ctxs (b : Block) (st : Nat) : (b.tsuEnter st).ctxs = b.ctxs := by
  unfold Block.tsuEnter
  split
  · rfl
  · simp only [Block.recRegs_ctxs, Block.when_ctxs, Block.raiseEvt_ctxs, Block.fset_ctxs, implies_true]

theorem Block.tsuMark_ctxs (b : Block) (cause : Nat) : (b.tsuMark cause).ctxs = b.ctxs := by
  unfold Block.tsuMark
  split
  · rfl
  · exact b.timeMark_ctxs cause

/-- Of the contexts a TSU step changes what it moves, once the window has ended. -/
theorem Block.tsuStep_ctxs (b : Block) (d : Int) (cause : Nat) :
    (b.tsuStep d cause).ctxs =
      (b.tsuStepped d).ctxs.map fun e => (e.1, e.2.stepped ((b.tsuStepped d).trigOf e.1 = 1) d) := by
  unfold Block.tsuStep
  extract_lets ended stepped tm sched frc lnk ssp olc parts ctxs cmps can sol evt entered
  have hcmps : cmps.ctxs = ctxs.ctxs := by
    refine Block.forAll_keeps_mem (P := fun e => e.ctxs = ctxs.ctxs) _ (fun _ _ _ he => ?_) rfl
    exact he
  have hentered : entered.ctxs = cmps.ctxs := Block.when_ctxs fun e => e.tsuEnter_ctxs tsuLocking
  rw [Block.tsuMark_ctxs, Block.recRegs_ctxs, hentered, hcmps]
  refine List.map_congr_left fun e _ => ?_
  simp only [Cx.stepped, decide_eq_true_eq]
  rfl

/-- A pending target of a PERIOD context moves with the TSU. -/
theorem Block.tsuStep_target (b : Block) {c : Nat} (d : Int) (cause : Nat) (hper : b.trigOf c = 1)
    (hc : c ∈ b.ctxs.map (·.1)) : ((b.tsuStep d cause).cx c).target = moved (b.cx c).target d := by
  have hkept : b.AimKept c (b.tsuStepped d) :=
    ((b.windowEnd_aimKept c).setNow _).fset _ (.inl (by decide))
  have htrig : (b.tsuStepped d).trigOf c = 1 := (Block.fget_of_reg (f := F.CTX_CFG_TRIG c) hkept.cfg).trans hper
  rw [Block.cx, Block.tsuStep_ctxs, mapGet_map {} (fun k x => x.stepped ((b.tsuStepped d).trigOf k = 1) d) (hkept.listed hc)]
  simp only [Cx.stepped, htrig, decide_true, if_true]
  exact congrArg (moved · d) hkept.target

/-- Settles O27: the instants of a PERIOD context are a grid, of which a trigger takes the next after the target that fired;
a step of the TSU moves a pending target, since it asks of the context nothing that the window's end changes. -/
theorem periodTargets : Obligations.PeriodTargets := by
  refine ⟨fun period phase t u hp => ⟨(nextPeriod_bounds hp phase t).1, ?_, fun htu hu => ?_⟩, fun c t s hper => ?_,
    fun c s hrun hidle htrig hcls hper hdue => ?_, fun c t s s' hper hper' hperiod hphase => ?_,
    fun c cause d s hper hc => ?_⟩
  · exact Int.emod_eq_zero_of_dvd (nextPeriod_onGrid hp phase t)
  · exact nextPeriod_le hp htu (Int.dvd_of_emod_eq_zero hu)
  · exact Block.targetAfter_period hper t
  · exact completes_of_lift (f := fun b => b.trigger c.val) rfl (Block.trigger_targets hrun hidle htrig hcls hper hdue)
  · rw [Block.targetAfter_period hper, Block.targetAfter_period hper', hperiod, hphase]
  · exact s.tsuStep_target d cause hper hc

end Sys2Proof.Machine
end
